-- ==== Sys2Proof/Word.lean ====
section
/-!
DEFINITION. The word types of the SN2640: bytes, 32-bit words, 64-bit doublewords (00_scope.md, Numbers, units and order).
-/

namespace Sys2Proof

/-- One byte of a memory, a frame or a record. -/
abbrev Byte := BitVec 8

/-- A halfword. -/
abbrev Half := BitVec 16

/-- A word: 32 bits (00_scope.md). -/
abbrev Word := BitVec 32

/-- A doubleword: the two words of a granule (R46). -/
abbrev DWord := BitVec 64

/-- The number of a general register g0 to g31 (R94). -/
abbrev RegNo := BitVec 5

end Sys2Proof
end

