-- ==== Sys2Proof/Machine/Bits.lean ====
section
/-!
DEFINITION. Bit fields, two's complement, saturation and byte orders: the arithmetic that the registers, frames and records
of every chapter share (R5 to R10, R20, R684).
-/

namespace Sys2Proof.Machine

/-- Bits `[lo + w − 1 : lo]` of a number (R8). -/
def bits (v lo w : Nat) : Nat := v / 2 ^ lo % 2 ^ w

/-- The bit `i` of a number (R8). -/
def bit (v i : Nat) : Bool := bits v i 1 == 1

/-- `v` with bits `[lo + w − 1 : lo]` replaced by the low `w` bits of `x`. -/
def setBits (v lo w x : Nat) : Nat :=
  v % 2 ^ lo + (x % 2 ^ w) * 2 ^ lo + v / 2 ^ (lo + w) * 2 ^ (lo + w)

/-- One bit of a condition. -/
def b2n (b : Bool) : Nat := if b then 1 else 0

/-- The signed value of an `n`-bit two's complement field. -/
def sx (v n : Nat) : Int := if v % 2 ^ n < 2 ^ (n - 1) then (v % 2 ^ n : Nat) else (v % 2 ^ n : Nat) - (2 ^ n : Nat)

/-- The low `n` bits of an integer, the cut `bits[n]` of the pseudocode (R20). -/
def cut (n : Nat) (x : Int) : Nat := (x % (2 ^ n : Nat)).toNat

/-- An unsigned counter of `w` bits that saturates. -/
def satAdd (w v x : Nat) : Nat := min (v + x) (2 ^ w - 1)

/-- A signed value held to the range of `n` bits. -/
def clampS (n : Nat) (x : Int) : Int := min (max x (-(2 ^ (n - 1) : Nat))) ((2 ^ (n - 1) : Nat) - 1)

/-- The magnitude rounded to the nearest multiple, halves away from zero, of a quotient. -/
def divRound (n d : Int) : Int :=
  if d = 0 then 0 else
  let q := (2 * n.natAbs + d.natAbs) / (2 * d.natAbs)
  if (0 ≤ n) = (0 ≤ d) then q else -q

/-- The `n` little-endian bytes of a number (R9). -/
def leBytes : Nat → Nat → List Byte
  | 0, _ => []
  | n + 1, v => BitVec.ofNat 8 v :: leBytes n (v / 256)

/-- The number that little-endian bytes spell (R9). -/
def leNat : List Byte → Nat
  | [] => 0
  | b :: bs => b.toNat + 256 * leNat bs

/-- The `n` bytes of a number, most significant first (R10). -/
def beBytes (n v : Nat) : List Byte := (leBytes n v).reverse

/-- The number that bytes spell, most significant first (R10). -/
def beNat (bs : List Byte) : Nat := leNat bs.reverse

/-- `n` bytes of a list from offset `o`, zero beyond its end. -/
def sub (bs : List Byte) (o n : Nat) : List Byte :=
  let t := (bs.drop o).take n
  t ++ List.replicate (n - t.length) 0

/-- A big-endian field of a frame (R10). -/
def be (bs : List Byte) (o n : Nat) : Nat := beNat (sub bs o n)

/-- A little-endian field of a record (R9). -/
def le (bs : List Byte) (o n : Nat) : Nat := leNat (sub bs o n)

/-- Bytes overwritten at an offset. -/
def splice (bs : List Byte) (o : Nat) (new : List Byte) : List Byte :=
  sub bs 0 o ++ new ++ bs.drop (o + new.length)

/-- Bytes filled with zeros to a length. -/
def padTo (n : Nat) (bs : List Byte) : List Byte := bs ++ List.replicate (n - bs.length) 0

/-- A number rounded up to a multiple. -/
def roundUp (m v : Nat) : Nat := (v + m - 1) / m * m

/-- The integer square root by bitwise descent, `n` result bits. -/
def isqrtAux : Nat → Nat → Nat → Nat
  | 0, _, r => r
  | n + 1, v, r => if (r + 2 ^ n) * (r + 2 ^ n) ≤ v then isqrtAux n v (r + 2 ^ n) else isqrtAux n v r

/-- The largest `r` below `2^128` with `r × r ≤ v`. -/
def isqrt (v : Nat) : Nat := isqrtAux 128 v 0

end Sys2Proof.Machine
end

