-- ==== Sys2Proof/Syntax.lean ====
section
/-!
DEFINITION. The commands of the SN2640 block: one constructor for each row of the table of operations and events.
-/

namespace Sys2Proof

/-- Who makes a CSR access: control core CCk, or the test port. -/
inductive Agent where
  | cc (k : Fin 4)
  | port
  deriving DecidableEq, Repr

/-- A Cervik core: control core CC0 to CC3 or ledger core LC0 to LC63 (R93). -/
inductive CoreId where
  | cc (k : Fin 4)
  | lc (n : Fin 64)
  deriving DecidableEq, Repr

/-- How a frame reached the chip or leaves it: the fields of R403's record, and the sender of the envelope or the chip that
forwarded it. -/
structure RxPath where
  srckind : Nat := 0
  port : Nat := 0
  ts : Nat := 0
  snr : Nat := 0
  fold : Nat := 0
  rssi : Nat := 0
  group : Nat := 0
  link : Nat := 0
  /-- RELPEER index of the envelope's sender. -/
  peer : Option Nat := none
  /-- Chip that forwarded the frame (R464). -/
  chip : Option Nat := none
  deriving DecidableEq, Repr

/-- One captured value as the housekeeping firmware decodes it from a DLMS APDU: the register code and power-of-ten scale that the map at
DLMCFG2.MAPBASE gives its object, none where no entry names it; the value; the 12-byte date-time of the capture (R398). -/
structure DlmsCapture where
  named : Option (Nat × Int)
  value : Int
  stamp : List Byte
  deriving DecidableEq, Repr

/-- An engine with a software job in progress when a tamper alarm reaches it (R412, R558): AE0 to AE3, then the SHA3, ML-DSA-87 and
ML-KEM-1024 engines; and the bytes of DST it had written. -/
structure EngBusy where
  unit : Fin 7
  wrote : Nat
  deriving DecidableEq, Repr

/-- What a tamper alarm meets beside engine jobs: nothing, in Sleep a backup too low for an erasure (R655), a KEYCMD by its OP, or a
takeover before its TKO (R565). -/
inductive AlarmCut where
  | none
  | noBackup
  | keycmd (op : BitVec 4)
  | takeover
  deriving DecidableEq, Repr

/-- A tamper alarm: the sources whose alarm condition now holds (R561), the engines with a job in progress, and what else it meets. -/
structure Alarm where
  now : BitVec 10
  busy : List EngBusy
  cut : AlarmCut
  deriving DecidableEq, Repr

/-- What MOVE_ABORT is on this chip: a write of SEMMOVE with ABORT, the old home's question reaching the new home, or the new home's
answer reaching the old (R468). -/
inductive AbortStep where
  | write (v : DWord)
  | ask
  | aborted
  | committed
  deriving DecidableEq, Repr

/-- An event, as a unit posts it (R634). -/
structure Event where
  code : Nat
  sev : Nat
  src : Nat
  inst : Nat := 0
  arg0 : Nat := 0
  arg1 : Nat := 0
  value : Nat := 0
  deriving DecidableEq, Repr

/-- What the ROM finds on one DDR channel (R664): capacity in GiB, ranks, whether training passed, and the byte lanes that failed. -/
structure DdrFound where
  gib : Byte
  ranks : BitVec 2
  trained : Bool
  laneFail : BitVec 9
  deriving DecidableEq, Repr

/-- What the ROM finds at a boot: PFAIL_N asserted, the PLLs that lock (as CLKSTAT.LOCK), the frequency of TIMECLK (R657: 0 for 10 MHz,
1 for 25 MHz, none for neither), the DDR channels, and a DB fence recorded in the settings (R67 step 4). -/
structure RomFacts where
  pfail : Bool
  plls : BitVec 7
  timeclk : Option Bool
  da : DdrFound
  db : DdrFound
  dbFence : Bool
  torn : List Nat
  deriving DecidableEq, Repr

/-- What the settings block holds for boot step 7: set size less one and number, seam map epoch, roles, twin and its side, stored fences as
FENCE_STAT (R29, R67, R459). -/
structure Settings where
  nchips : Fin 8
  self : Fin 8
  epoch : Word
  roleF : Bool
  roleH : Bool
  twin : Bool
  side : Bool
  fences : BitVec 96
  deriving DecidableEq, Repr

/-- A part of the boot sequence: the hardware's and the ROM's steps 1 to 6, or the firmware's step 7. -/
inductive BootOp where
  | rom (f : RomFacts)
  | settings (f : Settings)
  deriving DecidableEq, Repr

/-- What wakes the chip from Sleep: the timer, or PFAIL_N deasserted after so many ticks (R82, R487); and whether PFAIL_N asserts before
the wake path ends (R75). -/
inductive Wake where
  | timer (cut : Bool)
  | pfail (ticks : Nat) (cut : Bool)
  deriving DecidableEq, Repr

/-- A part of an update command that runs: an agent's write of UPDCTL, or its next step (R580, R590). -/
inductive UpdAct where
  | write (a : Agent)
  | step
  deriving DecidableEq, Repr

/-- One path of a reception: its preamble correlation peak; the values of the eight P symbols on tones 19 to 250, each turned back by
e^(−jφ) of its tone, as real and imaginary parts in one unit; the energies of the ten preamble symbols; the energy and the clipped
samples of each payload symbol; and the values of each payload symbol on those tones, turned back in the same way (R297 to R300). -/
structure PlPathRx where
  peak : Nat
  pre : List (List (Int × Int))
  preE : List Nat
  syms : List (Nat × Nat)
  pay : List (List (Int × Int))
  deriving DecidableEq, Repr

/-- The parts of G.9903 that R329 names. -/
inductive G3Part where
  | cenelecA
  | fcc
  | cenelecB
  | arib
  | fccSub
  | differential
  | coherent
  | robust
  | toneMap
  | toneMask
  | priority
  | normal
  | secured
  | adaptation
  deriving DecidableEq, Repr

/-- What a G.9903 MAC frame is: data, one segment of it (the last one marked), an acknowledgement, a negative acknowledgement, a
command. -/
inductive G3Kind where
  | data
  | segment (last : Bool)
  | ack
  | nack
  | command
  deriving DecidableEq, Repr

/-- What a triple hears. An SPL frame: its three paths, its FCH, the PSDU its sender coded, whether the symbols not erased reach the SNR
the tone map was built for, and the raw count at which received energy falls below the detection level. A G.9903 frame: its paths, the
parts it uses, what it is, whether its FCS passes, its octets, and the raw count of its end. Energy without a frame, and its end. -/
inductive PlHeard where
  | spl (paths : List PlPathRx) (fch psdu : List Byte) (snrOk : Bool) (energyTo : Nat)
  | g3 (paths : List PlPathRx) (parts : List G3Part) (kind : G3Kind) (fcs : Bool) (octets : List Byte) (stop : Nat)
  | energy (energyTo : Nat)
  deriving DecidableEq, Repr

/-- Where a frame to be queued comes from: the frames that the message layer has handed to the ports, or a transmit request; a G.9903
frame asks for an acknowledgement or not. -/
inductive PlSource where
  | out (n : Nat)
  | spl (p : Fin 12) (dst : DWord) (pri : Fin 5) (mtype : Fin 16) (body : List Byte) (fid : Option Half)
  | g3 (p : Fin 12) (dst : DWord) (pri : Fin 5) (octets : List Byte) (ack : Bool) (fid : Option Half)
  deriving DecidableEq, Repr

/-- A detection: its group and signal kind (R335, R336). -/
structure RfDet where
  group : Fin 128
  kind : Fin 6
  deriving DecidableEq, Repr

/-- How a reception ends: whether its PHR is valid, its variant supported and its FCS right, and whether that FCS is the 2-byte one; its
MCS, RSSI and SNR; and its PSDU without the FCS. -/
structure RfHeard where
  phr : Bool
  supported : Bool
  fcs : Bool
  fcs2 : Bool
  mcs : Fin 8
  rssi : Byte
  snr : Byte
  psdu : List Byte
  deriving DecidableEq, Repr

/-- The commands: one constructor for each row of the table of operations and events, in its order. -/
inductive Instr where
  /-- CSR_WRITE (R12). -/
  | csrWrite (a : Agent) (csr : Word) (v : Word)
  /-- CSR_SNAPSHOT_READ (R13). -/
  | csrSnapshotRead (a : Agent) (csr : Word)
  /-- RC_READ (R14). -/
  | rcRead (a : Agent) (csr : Word)
  /-- FENCE_REQUEST (R52). -/
  | fenceRequest (a : Agent) (v : BitVec 96)
  /-- FENCE_TAKE_EFFECT (R53). -/
  | fenceTakeEffect (n : Fin 96)
  /-- REPORT_MERGE_TURN (R27). -/
  | reportMergeTurn
  /-- POR (R56). -/
  | por
  /-- BOR (R56). -/
  | bor
  /-- EXT_RESET (R56). -/
  | extReset
  /-- SWRESET_NORMAL (R56). -/
  | swresetNormal (a : Agent)
  /-- SWRESET_RECOVERY (R66). -/
  | swresetRecovery (a : Agent)
  /-- SWRESET_STANDBY (R66). -/
  | swresetStandby (a : Agent)
  /-- BOOT_START (R67). -/
  | bootStart (op : BootOp)
  /-- ROLE_DECISION (R510). -/
  | roleDecision (clash : Bool)
  /-- MODE_REQUEST (R66). -/
  | modeRequest (a : Agent) (v : Word)
  /-- PFAIL_SEQUENCE (R71). -/
  | pfailSequence
  /-- PFAIL_RECOVERY_BOR (R74). -/
  | pfailRecoveryBor
  /-- LPCTL_QUIET (R77). -/
  | lpctlQuiet (a : Agent)
  /-- LPCTL_RUN (R78). -/
  | lpctlRun (a : Agent)
  /-- LPCTL_SLEEP (R81). -/
  | lpctlSleep (a : Agent)
  /-- SLEEP_WAKE (R83). -/
  | sleepWake (w : Wake)
  /-- CORE_WDG_FIRST_EXPIRY (R86). -/
  | coreWdgFirstExpiry
  /-- CORE_WDG_SECOND_EXPIRY (R86). -/
  | coreWdgSecondExpiry
  /-- WDT_KICK (R87). -/
  | wdtKick (a : Agent) (v : Word)
  /-- AON_WDG_EXPIRY (R88). -/
  | aonWdgExpiry
  /-- DISPATCH_STALL (R90). -/
  | dispatchStall
  /-- ILLEGAL_OPCODE (R147). -/
  | illegalOpcode (c : CoreId) (w : Word)
  /-- ADD (R151). -/
  | add (c : CoreId) (rd rs1 rs2 : RegNo)
  /-- SUB (R151). -/
  | sub (c : CoreId) (rd rs1 rs2 : RegNo)
  /-- AND (R151). -/
  | andR (c : CoreId) (rd rs1 rs2 : RegNo)
  /-- OR (R151). -/
  | orR (c : CoreId) (rd rs1 rs2 : RegNo)
  /-- XOR (R151). -/
  | xorR (c : CoreId) (rd rs1 rs2 : RegNo)
  /-- SLL (R151). -/
  | sll (c : CoreId) (rd rs1 rs2 : RegNo)
  /-- SRL (R151). -/
  | srl (c : CoreId) (rd rs1 rs2 : RegNo)
  /-- SRA (R151). -/
  | sra (c : CoreId) (rd rs1 rs2 : RegNo)
  /-- SLT (R151). -/
  | slt (c : CoreId) (rd rs1 rs2 : RegNo)
  /-- SLTU (R151). -/
  | sltu (c : CoreId) (rd rs1 rs2 : RegNo)
  /-- MUL (R151). -/
  | mul (c : CoreId) (rd rs1 rs2 : RegNo)
  /-- MULHU (R151). -/
  | mulhu (c : CoreId) (rd rs1 rs2 : RegNo)
  /-- MULHS (R151). -/
  | mulhs (c : CoreId) (rd rs1 rs2 : RegNo)
  /-- DIVU (R157). -/
  | divu (c : CoreId) (rd rs1 rs2 : RegNo)
  /-- DIVS (R157). -/
  | divs (c : CoreId) (rd rs1 rs2 : RegNo)
  /-- REMU (R157). -/
  | remu (c : CoreId) (rd rs1 rs2 : RegNo)
  /-- REMS (R157). -/
  | rems (c : CoreId) (rd rs1 rs2 : RegNo)
  /-- MIN (R151). -/
  | min (c : CoreId) (rd rs1 rs2 : RegNo)
  /-- MAX (R151). -/
  | max (c : CoreId) (rd rs1 rs2 : RegNo)
  /-- MINU (R151). -/
  | minu (c : CoreId) (rd rs1 rs2 : RegNo)
  /-- MAXU (R151). -/
  | maxu (c : CoreId) (rd rs1 rs2 : RegNo)
  /-- GETFL (R151). -/
  | getfl (c : CoreId) (rd : RegNo)
  /-- SETFL (R158). -/
  | setfl (c : CoreId) (rs1 : RegNo)
  /-- ADDS (R159). -/
  | adds (c : CoreId) (rd rs1 rs2 : RegNo)
  /-- ADC (R159). -/
  | adc (c : CoreId) (rd rs1 rs2 : RegNo)
  /-- SUBS (R159). -/
  | subs (c : CoreId) (rd rs1 rs2 : RegNo)
  /-- SBC (R159). -/
  | sbc (c : CoreId) (rd rs1 rs2 : RegNo)
  /-- CMP (R159). -/
  | cmp (c : CoreId) (rs1 rs2 : RegNo)
  /-- ADDI (R151). -/
  | addi (c : CoreId) (rd rs1 : RegNo) (imm : BitVec 12)
  /-- ANDI (R151). -/
  | andi (c : CoreId) (rd rs1 : RegNo) (imm : BitVec 12)
  /-- ORI (R151). -/
  | ori (c : CoreId) (rd rs1 : RegNo) (imm : BitVec 12)
  /-- XORI (R151). -/
  | xori (c : CoreId) (rd rs1 : RegNo) (imm : BitVec 12)
  /-- SLTI (R151). -/
  | slti (c : CoreId) (rd rs1 : RegNo) (imm : BitVec 12)
  /-- SLTIU (R151). -/
  | sltiu (c : CoreId) (rd rs1 : RegNo) (imm : BitVec 12)
  /-- SLLI (R151). -/
  | slli (c : CoreId) (rd rs1 : RegNo) (amount : BitVec 5)
  /-- SRLI (R151). -/
  | srli (c : CoreId) (rd rs1 : RegNo) (amount : BitVec 5)
  /-- SRAI (R151). -/
  | srai (c : CoreId) (rd rs1 : RegNo) (amount : BitVec 5)
  /-- CMPI (R151). -/
  | cmpi (c : CoreId) (rs1 : RegNo) (imm : BitVec 12)
  /-- MOVH (R151). -/
  | movh (c : CoreId) (rd : RegNo) (imm : BitVec 20)
  /-- PCADR (R151). -/
  | pcadr (c : CoreId) (rd : RegNo) (imm : BitVec 20)
  /-- BEQ (R151). -/
  | beq (c : CoreId) (rs1 rs2 : RegNo) (off : BitVec 12)
  /-- BNE (R151). -/
  | bne (c : CoreId) (rs1 rs2 : RegNo) (off : BitVec 12)
  /-- BLT (R151). -/
  | blt (c : CoreId) (rs1 rs2 : RegNo) (off : BitVec 12)
  /-- BGE (R151). -/
  | bge (c : CoreId) (rs1 rs2 : RegNo) (off : BitVec 12)
  /-- BLTU (R151). -/
  | bltu (c : CoreId) (rs1 rs2 : RegNo) (off : BitVec 12)
  /-- BGEU (R151). -/
  | bgeu (c : CoreId) (rs1 rs2 : RegNo) (off : BitVec 12)
  /-- BFS (R151). -/
  | bfs (c : CoreId) (off : BitVec 12)
  /-- BFC (R151). -/
  | bfc (c : CoreId) (off : BitVec 12)
  /-- BWS (R151). -/
  | bws (c : CoreId) (off : BitVec 12)
  /-- BCS (R151). -/
  | bcs (c : CoreId) (off : BitVec 12)
  /-- BCC (R151). -/
  | bcc (c : CoreId) (off : BitVec 12)
  /-- BZS (R151). -/
  | bzs (c : CoreId) (off : BitVec 12)
  /-- BVS (R151). -/
  | bvs (c : CoreId) (off : BitVec 12)
  /-- BPS (R151). -/
  | bps (c : CoreId) (off : BitVec 12)
  /-- JMP (R151). -/
  | jmp (c : CoreId) (imm : BitVec 20)
  /-- CALL (R151). -/
  | call (c : CoreId) (imm : BitVec 20)
  /-- JR (R160). -/
  | jr (c : CoreId) (rs1 : RegNo)
  /-- CALLR (R160). -/
  | callr (c : CoreId) (rs1 : RegNo)
  /-- LDB (R161). -/
  | ldb (k : Fin 4) (rd rs1 : RegNo) (imm : BitVec 12)
  /-- LDBU (R161). -/
  | ldbu (k : Fin 4) (rd rs1 : RegNo) (imm : BitVec 12)
  /-- LDH (R161). -/
  | ldh (k : Fin 4) (rd rs1 : RegNo) (imm : BitVec 12)
  /-- LDHU (R161). -/
  | ldhu (k : Fin 4) (rd rs1 : RegNo) (imm : BitVec 12)
  /-- LDW (R161). -/
  | ldw (k : Fin 4) (rd rs1 : RegNo) (imm : BitVec 12)
  /-- LDD (R161). -/
  | ldd (k : Fin 4) (rd rs1 : RegNo) (imm : BitVec 12)
  /-- STB (R161). -/
  | stb (k : Fin 4) (rd rs1 : RegNo) (imm : BitVec 12)
  /-- STH (R161). -/
  | sth (k : Fin 4) (rd rs1 : RegNo) (imm : BitVec 12)
  /-- STW (R161). -/
  | stw (k : Fin 4) (rd rs1 : RegNo) (imm : BitVec 12)
  /-- STD (R161). -/
  | std (k : Fin 4) (rd rs1 : RegNo) (imm : BitVec 12)
  /-- LXB (R162). -/
  | lxb (n : Fin 64) (win : BitVec 3) (rd rs1 : RegNo) (imm : BitVec 12)
  /-- LXBU (R162). -/
  | lxbu (n : Fin 64) (win : BitVec 3) (rd rs1 : RegNo) (imm : BitVec 12)
  /-- LXH (R162). -/
  | lxh (n : Fin 64) (win : BitVec 3) (rd rs1 : RegNo) (imm : BitVec 12)
  /-- LXHU (R162). -/
  | lxhu (n : Fin 64) (win : BitVec 3) (rd rs1 : RegNo) (imm : BitVec 12)
  /-- LXW (R162). -/
  | lxw (n : Fin 64) (win : BitVec 3) (rd rs1 : RegNo) (imm : BitVec 12)
  /-- LXD (R162). -/
  | lxd (n : Fin 64) (win : BitVec 3) (rd rs1 : RegNo) (imm : BitVec 12)
  /-- SXB (R162). -/
  | sxb (n : Fin 64) (win : BitVec 3) (rd rs1 : RegNo) (imm : BitVec 12)
  /-- SXH (R162). -/
  | sxh (n : Fin 64) (win : BitVec 3) (rd rs1 : RegNo) (imm : BitVec 12)
  /-- SXW (R162). -/
  | sxw (n : Fin 64) (win : BitVec 3) (rd rs1 : RegNo) (imm : BitVec 12)
  /-- SXD (R162). -/
  | sxd (n : Fin 64) (win : BitVec 3) (rd rs1 : RegNo) (imm : BitVec 12)
  /-- CSRR (R164). -/
  | csrr (k : Fin 4) (rd rs1 : RegNo)
  /-- CSRW (R164). -/
  | csrw (k : Fin 4) (rs1 rs2 : RegNo)
  /-- FENCE (R108). -/
  | fence (k : Fin 4)
  /-- CINV (R165). -/
  | cinv (k : Fin 4) (rs1 : RegNo)
  /-- CCLEAN (R165). -/
  | cclean (k : Fin 4) (rs1 : RegNo)
  /-- CFLUSH (R165). -/
  | cflush (k : Fin 4) (rs1 : RegNo)
  /-- IINV (R165). -/
  | iinv (k : Fin 4) (rs1 : RegNo)
  /-- CFLUSHA (R165). -/
  | cflusha (k : Fin 4)
  /-- IINVA (R165). -/
  | iinva (k : Fin 4)
  /-- WFI (R166). -/
  | wfi (k : Fin 4)
  /-- WFI_WAKE (R166). -/
  | wfiWake (k : Fin 4)
  /-- ERET (R170). -/
  | eret (k : Fin 4)
  /-- MFSR (R167). -/
  | mfsr (k : Fin 4) (rd : RegNo) (n : BitVec 5)
  /-- MTSR (R167). -/
  | mtsr (k : Fin 4) (rs1 : RegNo) (n : BitVec 5)
  /-- INTERRUPT_TAKE (R172). -/
  | interruptTake (k : Fin 4)
  /-- ENQ (R175). -/
  | enq (k : Fin 4) (ra : RegNo) (q : BitVec 8)
  /-- DEQ (R175). -/
  | deq (k : Fin 4) (ra : RegNo) (q : BitVec 8)
  /-- DEQ_STALL_RESUME (R130). -/
  | deqStallResume (q : Fin 128)
  /-- DEQT (R175). -/
  | deqt (k : Fin 4) (ra : RegNo) (q : BitVec 8)
  /-- LOCK (R137). -/
  | lock (k : Fin 4) (ra : RegNo) (n : BitVec 8)
  /-- LOCK_GRANT (R140). -/
  | lockGrant (n : BitVec 8)
  /-- LOCKT (R137). -/
  | lockt (k : Fin 4) (ra : RegNo) (n : BitVec 8)
  /-- UNLOCK (R137). -/
  | unlock (k : Fin 4) (n : BitVec 8)
  /-- TACK (R178). -/
  | tack (n : Fin 64) (ra : RegNo)
  /-- PRESS (R181). -/
  | press (n : Fin 64) (ra rb : RegNo) (dst : BitVec 8)
  /-- MAXD (R182). -/
  | maxd (n : Fin 64) (ra rb : RegNo)
  /-- SATADD (R182). -/
  | satadd (n : Fin 64) (ra rb : RegNo)
  /-- EMIT (R183). -/
  | emit (n : Fin 64) (ra rb : RegNo) (typ : BitVec 8)
  /-- WAITW (R185). -/
  | waitw (n : Fin 64)
  /-- DONE (R186). -/
  | done (n : Fin 64)
  /-- DISPATCH_GRANT (R121). -/
  | dispatchGrant
  /-- DISPATCHER_Q0_TAKE (R116). -/
  | dispatcherQ0Take
  /-- HW_ENQUEUE (R129). -/
  | hwEnqueue (q : Fin 128) (d : BitVec 256)
  /-- QCFG_WRITE (R127). -/
  | qcfgWrite (a : Agent) (q : Fin 128) (v : Word)
  /-- QUEUE_FLUSH (R136). -/
  | queueFlush (a : Agent) (q : Fin 128)
  /-- PRESS_TICK (R201). -/
  | pressTick
  /-- MARKER_JOURNALED (R203). -/
  | markerJournaled
  /-- PROGRAM_RETIRE (R235). -/
  | programRetire (n : Fin 16)
  /-- PROGRAM_LOAD (R232). -/
  | programLoad (a : Agent)
  /-- REBUILD_GO (R242). -/
  | rebuildGo (a : Agent) (epi : BitVec 18)
  /-- REBUILD_RELEASE (R242). -/
  | rebuildRelease (a : Agent)
  /-- LDGREPLAY_WRITE (R245). -/
  | ldgreplayWrite (a : Agent) (k : Word)
  /-- REPLAY_ENTRY_APPLY (R246). -/
  | replayEntryApply (a : Agent) (addr : DWord)
  /-- DETBRK_DAILY (R243). -/
  | detbrkDaily
  /-- DETBRK_CLEAR (R243). -/
  | detbrkClear (a : Agent)
  /-- INGEST_COMMAND (R219). -/
  | ingestCommand
  /-- SAMPLE_LATCH (R253). -/
  | sampleLatch (codes : BitVec 384)
  /-- METROLOGY_INTERVAL_CLOSE (R255). -/
  | metrologyIntervalClose
  /-- REFERENCE_CHECK (R262). -/
  | referenceCheck (ppm : BitVec 24)
  /-- TOPO_SELECT (R266). -/
  | topoSelect (a : Agent) (sel : Bool)
  /-- PL_FRAME_RECEIVE (R297). -/
  | plFrameReceive (t : Fin 4) (h : PlHeard)
  /-- PL_TX_QUEUE (R293). -/
  | plTxQueue (src : PlSource)
  /-- DRIVER_REQUEST (R321). -/
  | driverRequest (p : Fin 12)
  /-- DRIVER_GRANT (R322). -/
  | driverGrant
  /-- DRIVER_RELEASE (R323). -/
  | driverRelease (p : Fin 12)
  /-- DRIVER_MAXDEFER_EXPIRY (R323). -/
  | driverMaxdeferExpiry (p : Fin 12)
  /-- PL_ACCESS_SLOT (R306). -/
  | plAccessSlot (p : Fin 12)
  /-- PL_ACK_SEND (R308). -/
  | plAckSend (t : Fin 4)
  /-- PL_ACK_RECEIVE (R309). -/
  | plAckReceive (p : Fin 12) (fch : List Byte)
  /-- PL_ACK_TIMEOUT (R309). -/
  | plAckTimeout (p : Fin 12)
  /-- TONE_MAP_EXPIRY (R314). -/
  | toneMapExpiry (i : Half)
  /-- RF_DETECTION (R336). -/
  | rfDetection (n : Fin 6) (d : RfDet) (ds : List RfDet)
  /-- RF_FRAME_DELIVER (R338). -/
  | rfFrameDeliver (n : Fin 6) (idx : Fin 64) (h : RfHeard)
  /-- RF_ACK_SEND (R344). -/
  | rfAckSend (n : Fin 6)
  /-- SUPERFRAME_START (R348). -/
  | superframeStart
  /-- RF_RUN_TRANSMIT (R352). -/
  | rfRunTransmit (n : Fin 6)
  /-- RF_TX_TIMEOUT (R352). -/
  | rfTxTimeout (n : Fin 6)
  /-- SLOT_SWAP_REQUEST (R355). -/
  | slotSwapRequest (a : Agent) (n : Fin 6)
  /-- BEACON_RECEIVE (R360). -/
  | beaconReceive (psdu : List Byte) (ago : Nat)
  /-- BEACON_WINDOW_CLOSE (R361). -/
  | beaconWindowClose
  /-- FLOOD_RELAY_ELIGIBLE (R369). -/
  | floodRelayEligible (n : Fin 6) (k : Nat)
  /-- FLOOD_ORIGINATE (R370). -/
  | floodOriginate (dst : DWord) (payload : List Byte)
  /-- LINT_TRAP_SWEEP (R647). -/
  | lintTrapSweep
  /-- SLEEPY_SEND (R375). -/
  | sleepySend (n : Fin 6)
  /-- RF_REALIGN (R666). -/
  | rfRealign (n : Fin 6)
  /-- KEP_UPLINK_FRAME (R389). -/
  | kepUplinkFrame (p : RxPath) (frame : List Byte)
  /-- KEP_ACK_SEND (R386). -/
  | kepAckSend (n : Nat)
  /-- KEP_ACK_DROP (R386). -/
  | kepAckDrop (n : Nat)
  /-- DOWNLINK_FRAME_SEND (R394). -/
  | downlinkFrameSend (slot : Bool) (key mt id : Nat) (body : List Byte) (p : RxPath)
  /-- KEY_UPDATE_SEND (R395). -/
  | keyUpdateSend (epi : Nat) (p : RxPath)
  /-- CEILING_RAISE (R416). -/
  | ceilingRaise (slot : Bool) (key : Nat)
  /-- DLMS_APDU (R397). -/
  | dlmsApdu (epi : Nat) (apdu : List Byte) (caps : List DlmsCapture) (p : RxPath)
  /-- RELAY_ENVELOPE_RECEIVE (R404). -/
  | relayEnvelopeReceive (b : List Byte)
  /-- RELAY_DOWNLINK_TRANSMIT (R406). -/
  | relayDownlinkTransmit (n : Nat)
  /-- AES_GCM_ENCRYPT (R408). -/
  | aesGcmEncrypt (e : Fin 4) (waits : Bool)
  /-- AES_GCM_DECRYPT (R410). -/
  | aesGcmDecrypt (e : Fin 4) (waits : Bool)
  /-- AES_CCM_ENCRYPT (R408). -/
  | aesCcmEncrypt (e : Fin 4) (waits : Bool)
  /-- AES_CCM_DECRYPT (R410). -/
  | aesCcmDecrypt (e : Fin 4) (waits : Bool)
  /-- AES_CTR (R408). -/
  | aesCtr (e : Fin 4) (waits : Bool)
  /-- AES_CMAC_GENERATE (R408). -/
  | aesCmacGenerate (e : Fin 4) (waits : Bool)
  /-- AES_CMAC_VERIFY (R410). -/
  | aesCmacVerify (e : Fin 4) (waits : Bool)
  /-- FW_CAMPAIGN_OPEN (R422). -/
  | fwCampaignOpen (a : Agent) (n : Fin 4) (v : BitVec 256)
  /-- SETPOINT_ARM (R426). -/
  | setpointArm (a : Agent) (k : Fin 4) (v : Word) (slot : Fin 4096) (group : DWord)
  /-- SETPOINT_CANCEL (R426). -/
  | setpointCancel (a : Agent) (k : Fin 4) (v : Word)
  /-- SETPOINT_FIRE (R427). -/
  | setpointFire (k : Fin 4)
  /-- ETH_FRAME_RECEIVE (R431). -/
  | ethFrameReceive (k : Fin 2) (f : List Byte) (joined : Bool)
  /-- PFX_INSERT (R436). -/
  | pfxInsert (a : Agent)
  /-- PFX_DELETE (R436). -/
  | pfxDelete (a : Agent)
  /-- EPT_WRITE (R442). -/
  | eptWrite (a : Agent)
  /-- EPT_DELETE (R442). -/
  | eptDelete (a : Agent)
  /-- EPT_READ (R442). -/
  | eptRead (a : Agent)
  /-- NEIGHBOUR_AGE_SWEEP (R446). -/
  | neighbourAgeSweep
  /-- NBT_PIN (R446). -/
  | nbtPin (a : Agent) (idx : Half)
  /-- NBT_UNPIN (R446). -/
  | nbtUnpin (a : Agent) (idx : Half)
  /-- NBT_DELETE (R446). -/
  | nbtDelete (a : Agent) (idx : Half)
  /-- DUNEB_CELL_RECEIVE (R454). -/
  | dunebCellReceive (k : Fin 4) (b : List Byte) (bad : List (Fin 8))
  /-- DUNEB_RETRY_TIMEOUT (R454). -/
  | dunebRetryTimeout (k : Fin 4)
  /-- DUNEB_LINK_DOWN (R456). -/
  | dunebLinkDown (k : Fin 4)
  /-- HELLO (R459). -/
  | hello (k : Fin 4) (b : List Byte)
  /-- SEAM_MAP_ADOPT (R463). -/
  | seamMapAdopt (epoch : Word) (m : List Byte)
  /-- SEAM_WRITE (R462). -/
  | seamWrite (a : Agent) (b : BitVec 12) (h : BitVec 3)
  /-- MOVE_ARM (R465). -/
  | moveArm (a : Agent) (v : DWord) (otherK : Int) (noProg : Bool)
  /-- MOVE_RECEIVE (R466). -/
  | moveReceive (b : List Byte) (poison : List Nat) (last : Bool)
  /-- MOVED (R466). -/
  | moved (b : BitVec 12) (home : BitVec 3)
  /-- MOVE_TIMEOUT (R468). -/
  | moveTimeout
  /-- MOVE_ABORT (R468). -/
  | moveAbort (a : Agent) (st : AbortStep)
  /-- INIT (R471). -/
  | init
  /-- ACCEPT (R472). -/
  | accept (d : List Byte)
  /-- INIT_TIMEOUT (R472). -/
  | initTimeout
  /-- BATCH_CLOSE (R473). -/
  | batchClose
  /-- BACK (R474). -/
  | back (d : List Byte)
  /-- BATCH_RESEND (R475). -/
  | batchResend
  /-- SESSION_REKEY (R477). -/
  | sessionRekey
  /-- CLOSE (R477). -/
  | close (d : List Byte)
  /-- TIMINCR_WRITE (R485). -/
  | timincrWrite (a : Agent) (v : DWord)
  /-- TIMSET_WRITE (R488). -/
  | timsetWrite (a : Agent) (v : DWord)
  /-- TIMSTEP_WRITE (R490). -/
  | timstepWrite (a : Agent) (v : DWord)
  /-- SIGNED_STEP (R492). -/
  | signedStep (a : Agent) (slot : BitVec 12)
  /-- TIME_INVALIDATE (R493). -/
  | timeInvalidate (a : Agent)
  /-- TXTS_POP (R499). -/
  | txtsPop (a : Agent) (q : Fin 20)
  /-- TRIGGER_FIRE (R501). -/
  | triggerFire (n : Fin 8)
  /-- PPS_OUT_PULSE (R504). -/
  | ppsOutPulse
  /-- PPS_IN_CAPTURE (R505). -/
  | ppsInCapture (ns : Nat)
  /-- ACT_IN_CHANGE (R507). -/
  | actInChange (b : Bool)
  /-- SHADOW_MESSAGE_APPLY (R513). -/
  | shadowMessageApply (typ : BitVec 4) (payload : List Byte) (poison : List Nat)
  /-- CONFIRM (R514). -/
  | confirm (cseq isn : DWord)
  /-- BEAT (R512). -/
  | beat
  /-- PEER_SILENT (R519). -/
  | peerSilent
  /-- STANDBY_GRACE_EXPIRY (R518). -/
  | standbyGraceExpiry
  /-- ACTIVE_GRACE_EXPIRY (R520). -/
  | activeGraceExpiry
  /-- DETACH (R521). -/
  | detach (a : Agent) (key : Half)
  /-- DETACHED (R520). -/
  | detached
  /-- DRAIN (R514). -/
  | drain (a : Agent) (key : Half)
  /-- RESYNC (R529). -/
  | resync (a : Agent) (key : Half)
  /-- FORCE (R523). -/
  | force (a : Agent) (key : Half) (clash : Bool)
  /-- TAKEOVER (R524). -/
  | takeover (clash : Bool)
  /-- CATCHUP (R529). -/
  | catchup (isn : DWord)
  /-- RESCUE (R531). -/
  | rescue (e : List Byte)
  /-- GEN (R543). -/
  | gen (a : Agent)
  /-- INVALIDATE (R543). -/
  | invalidate (a : Agent)
  /-- SETPUB (R543). -/
  | setpub (a : Agent)
  /-- PUBOUT (R543). -/
  | pubout (a : Agent)
  /-- IMPORT (R546). -/
  | keyImport (a : Agent)
  /-- EXPORT (R543). -/
  | keyExport (a : Agent)
  /-- GENPKT (R686). -/
  | genpkt (a : Agent)
  /-- IMPORTPKT (R686). -/
  | importpkt (a : Agent)
  /-- REWRAP (R549). -/
  | rewrap (a : Agent)
  /-- ATTEST (R559). -/
  | attest (a : Agent)
  /-- AUTH (R545). -/
  | auth (a : Agent)
  /-- SHA3_256 (R554). -/
  | sha3x256
  /-- SHA3_512 (R554). -/
  | sha3x512
  /-- SHAKE128 (R554). -/
  | shake128
  /-- SHAKE256 (R554). -/
  | shake256
  /-- SIGN (R556). -/
  | sign
  /-- VERIFY (R554). -/
  | verify
  /-- ENCAPS (R557). -/
  | encaps
  /-- DECAPS (R557). -/
  | decaps
  /-- TAMPER_ALARM (R563). -/
  | tamperAlarm (x : Alarm)
  /-- PEND_CLEAR (R567). -/
  | pendClear (a : Agent)
  /-- PROVISION (R569). -/
  | provision (a : Agent)
  /-- FIELD (R569). -/
  | field (a : Agent)
  /-- DEBUG_OPEN (R571). -/
  | debugOpen (a : Agent)
  /-- SCRAP (R573). -/
  | scrap (a : Agent)
  /-- CHECK (R579). -/
  | check (a : Agent)
  /-- INSTALL (R580). -/
  | install (u : UpdAct)
  /-- CLEAN (R586). -/
  | clean (a : Agent)
  /-- SELFTEST_PASS (R589). -/
  | selftestPass (a : Agent)
  /-- COMMIT (R590). -/
  | commit (u : UpdAct)
  /-- ABANDON (R588). -/
  | abandon (a : Agent)
  /-- DRAIN_BATCH (R607). -/
  | drainBatch
  /-- DRAIN_BATCH_COMPLETE (R608). -/
  | drainBatchComplete (fails : Nat)
  /-- CHECKPOINT_DUE (R610). -/
  | checkpointDue
  /-- CHECKPOINT_GO (R610). -/
  | checkpointGo (a : Agent) (int : Half)
  /-- CHECKPOINT_COMPLETE (R611). -/
  | checkpointComplete (fails : Nat)
  /-- NAND_READ (R617). -/
  | nandRead (corr : Nat) (uncor : List Nat)
  /-- NAND_WRITE (R618). -/
  | nandWrite (fails : Nat)
  /-- NAND_TRIM (R626). -/
  | nandTrim
  /-- NAND_MIGRATE (R617). -/
  | nandMigrate (fails : Nat)
  /-- NAND_SYNC (R618). -/
  | nandSync
  /-- WEAR_LEVEL_MOVE (R619). -/
  | wearLevelMove (fails : Nat) (eraseFails : Bool)
  /-- IDLE_GC (R620). -/
  | idleGc (ch : Fin 2) (fails : Nat) (eraseFails : Bool)
  /-- FOREGROUND_GC (R621). -/
  | foregroundGc (ch : Fin 2) (fails : Nat) (eraseFails : Bool)
  /-- RINSE_PASS (R627). -/
  | rinsePass (m : Fin 4)
  /-- EVENT_POST (R635). -/
  | eventPost (es : List Event)
  /-- EVRPOST_WRITE (R634). -/
  | evrpostWrite (a : Agent) (v : BitVec 128)
  /-- FOLD_FLUSH (R636). -/
  | foldFlush
  /-- EVENT_CLEAR (R640). -/
  | eventClear (a : Agent) (sev : Fin 4)
  /-- TELEMETRY_PASS (R643). -/
  | telemetryPass
  /-- OPERATING_TIME_SAVE (R632). -/
  | operatingTimeSave
  /-- REFCLK_LOSS (R658). -/
  | refclkLoss
  /-- TIMECLK_LOSS (R658). -/
  | timeclkLoss
  /-- SREFCLK_LOSS (R658). -/
  | srefclkLoss
  /-- XTAL_LOSS (R658). -/
  | xtalLoss
  /-- TRETURN (R658). -/
  | treturn (a : Agent) (fit : Bool)
  /-- TEMP_HOT (R680). -/
  | tempHot (temp : BitVec 12)
  /-- TAP_RESET (R676). -/
  | tapReset
  /-- EXTEST (R676). -/
  | extest (scan : Option (BitVec 601))
  /-- IDCODE (R675). -/
  | idcode
  /-- SAMPLE_PRELOAD (R675). -/
  | samplePreload (cells : BitVec 601)
  /-- CLAMP (R676). -/
  | clamp
  /-- HIGHZ (R676). -/
  | highz
  /-- MBOX (R677). -/
  | mbox (data : Word) (addr : BitVec 24) (mailbox write : Bool)
  /-- DEBUG (R675). -/
  | debug
  /-- BYPASS (R675). -/
  | bypass (code : Byte)
  /-- ETHERNET_LINK_CHANGE (R433). -/
  | ethernetLinkChange (k : Fin 2) (up : Bool) (speed : Fin 4)
  /-- OLD_SESSION_EXPIRY (R477). -/
  | oldSessionExpiry
  /-- BLOCK_REWRITE (R623). -/
  | blockRewrite (fails : Nat) (eraseFails : Bool)
  /-- RECORD_KEEP_EXPIRY (R527). -/
  | recordKeepExpiry
  deriving DecidableEq, Repr

end Sys2Proof
end

