-- ==== Sys2Proof/Decode.lean ====
section
/-!
DEFINITION. The commands that words spell. No row of the table of operations and events has an encoding in bits, so no word spells one by
that table; the instruction words of the Cervik cores have the encodings of chapter 04 (R147 to R151), and a word read from memory
picks its instruction by them.
-/

namespace Sys2Proof

open Sys2Proof.Machine (bits)

/-- The command that a word of the table's bits spells: none, since the table gives no row any bits. -/
def decodeTableWord (_nbits _w : Nat) : Option Instr := none

/-! ## The formats (R148) -/

/-- Bits [24:20], [19:15] and [14:10] of a word, as register numbers. -/
def fieldRd (w : Nat) : RegNo := BitVec.ofNat 5 (bits w 20 5)
def fieldRs1 (w : Nat) : RegNo := BitVec.ofNat 5 (bits w 15 5)
def fieldRs2 (w : Nat) : RegNo := BitVec.ofNat 5 (bits w 10 5)
/-- imm12 and off12 of formats B and C, imm20 of format D, n8 of format E. -/
def fieldImm12 (w : Nat) : BitVec 12 := BitVec.ofNat 12 w
def fieldImm20 (w : Nat) : BitVec 20 := BitVec.ofNat 20 w
def fieldN8 (w : Nat) : BitVec 8 := BitVec.ofNat 8 (bits w 7 8)

/-- An instruction whose fields that must be zero are zero (R149). -/
def whenZero (fields : List Nat) (i : Instr) : Option Instr := if fields.all (· = 0) then some i else none

/-! ## The opcodes of both profiles (R151) -/

/-- OP, by func10. -/
def opInstr (c : CoreId) (w : Nat) : Option Instr :=
  let rd := fieldRd w
  let a := fieldRs1 w
  let b := fieldRs2 w
  match bits w 0 10 with
  | 0x000 => some (.add c rd a b)
  | 0x001 => some (.sub c rd a b)
  | 0x002 => some (.andR c rd a b)
  | 0x003 => some (.orR c rd a b)
  | 0x004 => some (.xorR c rd a b)
  | 0x005 => some (.sll c rd a b)
  | 0x006 => some (.srl c rd a b)
  | 0x007 => some (.sra c rd a b)
  | 0x008 => some (.slt c rd a b)
  | 0x009 => some (.sltu c rd a b)
  | 0x00A => some (.mul c rd a b)
  | 0x00B => some (.mulhu c rd a b)
  | 0x00C => some (.mulhs c rd a b)
  | 0x00D => some (.divu c rd a b)
  | 0x00E => some (.divs c rd a b)
  | 0x00F => some (.remu c rd a b)
  | 0x010 => some (.rems c rd a b)
  | 0x011 => some (.min c rd a b)
  | 0x012 => some (.max c rd a b)
  | 0x013 => some (.minu c rd a b)
  | 0x014 => some (.maxu c rd a b)
  | 0x020 => whenZero [bits w 15 5, bits w 10 5] (.getfl c rd)
  | 0x021 => whenZero [bits w 20 5, bits w 10 5] (.setfl c a)
  | _ => none

/-- OPC, by func10. -/
def opcInstr (c : CoreId) (w : Nat) : Option Instr :=
  match bits w 0 10 with
  | 0 => some (.adds c (fieldRd w) (fieldRs1 w) (fieldRs2 w))
  | 1 => some (.adc c (fieldRd w) (fieldRs1 w) (fieldRs2 w))
  | 2 => some (.subs c (fieldRd w) (fieldRs1 w) (fieldRs2 w))
  | 3 => some (.sbc c (fieldRd w) (fieldRs1 w) (fieldRs2 w))
  | 4 => whenZero [bits w 20 5] (.cmp c (fieldRs1 w) (fieldRs2 w))
  | _ => none

/-- OPI, by f3; a shift's kind is i[11:10]. -/
def opiInstr (c : CoreId) (w : Nat) : Option Instr :=
  let rd := fieldRd w
  let a := fieldRs1 w
  let i := fieldImm12 w
  let n : BitVec 5 := BitVec.ofNat 5 w
  match bits w 12 3 with
  | 0 => some (.addi c rd a i)
  | 1 => some (.andi c rd a i)
  | 2 => some (.ori c rd a i)
  | 3 => some (.xori c rd a i)
  | 4 => some (.slti c rd a i)
  | 5 => some (.sltiu c rd a i)
  | 6 =>
    match bits w 10 2 with
    | 0 => whenZero [bits w 5 5] (.slli c rd a n)
    | 1 => whenZero [bits w 5 5] (.srli c rd a n)
    | 2 => whenZero [bits w 5 5] (.srai c rd a n)
    | _ => none
  | _ => whenZero [bits w 20 5] (.cmpi c a i)

/-- BR, by cond: rs1 is [24:20] and rs2 is [19:15]. -/
def brInstr (c : CoreId) (w : Nat) : Option Instr :=
  let a := fieldRd w
  let b := fieldRs1 w
  let off := fieldImm12 w
  match bits w 12 3 with
  | 0 => some (.beq c a b off)
  | 1 => some (.bne c a b off)
  | 2 => some (.blt c a b off)
  | 3 => some (.bge c a b off)
  | 4 => some (.bltu c a b off)
  | 5 => some (.bgeu c a b off)
  | _ => none

/-- BRF, by cond. -/
def brfInstr (c : CoreId) (w : Nat) : Option Instr :=
  let off := fieldImm12 w
  whenZero [bits w 20 5, bits w 15 5] (match bits w 12 3 with
    | 0 => .bfs c off
    | 1 => .bfc c off
    | 2 => .bws c off
    | 3 => .bcs c off
    | 4 => .bcc c off
    | 5 => .bzs c off
    | 6 => .bvs c off
    | _ => .bps c off)

/-- JR and CALLR, by func10. -/
def jrInstr (c : CoreId) (w : Nat) : Option Instr :=
  match bits w 0 10 with
  | 0 => whenZero [bits w 20 5, bits w 10 5] (.jr c (fieldRs1 w))
  | 1 => whenZero [bits w 20 5, bits w 10 5] (.callr c (fieldRs1 w))
  | _ => none

/-- An opcode that both profiles have. -/
def commonInstr (c : CoreId) (w : Nat) : Option Instr :=
  match bits w 25 7 with
  | 0x01 => opInstr c w
  | 0x02 => opcInstr c w
  | 0x03 => opiInstr c w
  | 0x04 => some (.movh c (fieldRd w) (fieldImm20 w))
  | 0x05 => some (.pcadr c (fieldRd w) (fieldImm20 w))
  | 0x08 => brInstr c w
  | 0x09 => brfInstr c w
  | 0x0A => whenZero [bits w 20 5] (.jmp c (fieldImm20 w))
  | 0x0B => whenZero [bits w 20 5] (.call c (fieldImm20 w))
  | 0x0C => jrInstr c w
  | _ => none

/-! ## The opcodes of one profile (R93, R151) -/

/-- SYS, by func10. -/
def sysInstr (k : Fin 4) (w : Nat) : Option Instr :=
  let none3 := whenZero [bits w 20 5, bits w 15 5, bits w 10 5]
  let one := whenZero [bits w 20 5, bits w 10 5]
  match bits w 0 10 with
  | 0x0 => none3 (.fence k)
  | 0x1 => one (.cinv k (fieldRs1 w))
  | 0x2 => one (.cclean k (fieldRs1 w))
  | 0x3 => one (.cflush k (fieldRs1 w))
  | 0x4 => one (.iinv k (fieldRs1 w))
  | 0x5 => none3 (.cflusha k)
  | 0x6 => none3 (.iinva k)
  | 0x7 => none3 (.wfi k)
  | 0x8 => none3 (.eret k)
  | 0x9 => whenZero [bits w 15 5] (.mfsr k (fieldRd w) (fieldRs2 w))
  | 0xA => whenZero [bits w 20 5] (.mtsr k (fieldRs1 w) (fieldRs2 w))
  | _ => none

/-- QOP and LKOP, by sub7. -/
def queueInstr (k : Fin 4) (w : Nat) : Option Instr :=
  match bits w 25 7, bits w 0 7 with
  | 0x38, 0 => whenZero [bits w 15 5] (.enq k (fieldRd w) (fieldN8 w))
  | 0x38, 1 => whenZero [bits w 15 5] (.deq k (fieldRd w) (fieldN8 w))
  | 0x38, 2 => whenZero [bits w 15 5] (.deqt k (fieldRd w) (fieldN8 w))
  | 0x39, 0 => whenZero [bits w 15 5] (.lock k (fieldRd w) (fieldN8 w))
  | 0x39, 1 => whenZero [bits w 15 5] (.lockt k (fieldRd w) (fieldN8 w))
  | 0x39, 2 => whenZero [bits w 20 5, bits w 15 5] (.unlock k (fieldN8 w))
  | _, _ => none

/-- An opcode of the C-profile. -/
def cInstr (k : Fin 4) (w : Nat) : Option Instr :=
  let rd := fieldRd w
  let a := fieldRs1 w
  let i := fieldImm12 w
  let f3 := whenZero [bits w 12 3]
  match bits w 25 7 with
  | 0x10 => f3 (.ldb k rd a i)
  | 0x11 => f3 (.ldbu k rd a i)
  | 0x12 => f3 (.ldh k rd a i)
  | 0x13 => f3 (.ldhu k rd a i)
  | 0x14 => f3 (.ldw k rd a i)
  | 0x15 => f3 (.ldd k rd a i)
  | 0x18 => f3 (.stb k rd a i)
  | 0x19 => f3 (.sth k rd a i)
  | 0x1A => f3 (.stw k rd a i)
  | 0x1B => f3 (.std k rd a i)
  | 0x30 =>
    match bits w 0 10 with
    | 0 => whenZero [bits w 10 5] (.csrr k rd a)
    | 1 => whenZero [bits w 20 5] (.csrw k a (fieldRs2 w))
    | _ => none
  | 0x31 => sysInstr k w
  | _ => queueInstr k w

/-- LDG, by sub7. -/
def ldgInstr (n : Fin 64) (w : Nat) : Option Instr :=
  let ra := fieldRd w
  let rb := fieldRs1 w
  match bits w 0 7 with
  | 0 => whenZero [bits w 15 5, bits w 7 8] (.tack n ra)
  | 1 => some (.press n ra rb (fieldN8 w))
  | 2 => whenZero [bits w 7 8] (.maxd n ra rb)
  | 3 => whenZero [bits w 7 8] (.satadd n ra rb)
  | 4 => some (.emit n ra rb (fieldN8 w))
  | 5 => whenZero [bits w 20 5, bits w 15 5, bits w 7 8] (.waitw n)
  | 6 => whenZero [bits w 20 5, bits w 15 5, bits w 7 8] (.done n)
  | _ => none

/-- An opcode of the L-profile; f3 of a load or store names the window, 1 to 6 (R162). -/
def lInstr (n : Fin 64) (w : Nat) : Option Instr :=
  let rd := fieldRd w
  let a := fieldRs1 w
  let i := fieldImm12 w
  let win : BitVec 3 := BitVec.ofNat 3 (bits w 12 3)
  let f3 := fun (x : Instr) => if win = 0 ∨ win = 7 then none else some x
  match bits w 25 7 with
  | 0x20 => f3 (.lxb n win rd a i)
  | 0x21 => f3 (.lxbu n win rd a i)
  | 0x22 => f3 (.lxh n win rd a i)
  | 0x23 => f3 (.lxhu n win rd a i)
  | 0x24 => f3 (.lxw n win rd a i)
  | 0x25 => f3 (.lxd n win rd a i)
  | 0x28 => f3 (.sxb n win rd a i)
  | 0x29 => f3 (.sxh n win rd a i)
  | 0x2A => f3 (.sxw n win rd a i)
  | 0x2B => f3 (.sxd n win rd a i)
  | 0x40 => ldgInstr n w
  | _ => none

/-- The instruction that a word is on a core: none where the opcode map and the encoding tables do not name it, or its profile does not
have it (R93, R147, R149, R151). -/
def cervikInstr (c : CoreId) (w : Nat) : Option Instr :=
  match commonInstr c w with
  | some i => some i
  | none =>
    match c with
    | .cc k => cInstr k w
    | .lc n => lInstr n w

end Sys2Proof
end

