-- ==== Sys2Proof/Machine/Aes.lean ====
section
/-!
DEFINITION. AES-128 and AES-256 (FIPS 197) and the modes the chip's engines run: counter mode, GCM, CCM, CMAC and key wrap.
The spec names these standards and does not restate them (PRESUMED, notes/assumptions/7.md). A block is one number, its first byte the
most significant; `strict` makes Lean's kernel compute a number before it goes on with it.
-/

namespace Sys2Proof.Machine

/-- `f n`, with `n` computed first. -/
def strict {α : Type} (n : Nat) (f : Nat → α) : α :=
  match n with
  | 0 => f 0
  | k + 1 => f (k + 1)

/-- SubBytes and its inverse by rows of 16 bytes. -/
def sboxRows : List Nat :=
  [0x637C777BF26B6FC53001672BFED7AB76, 0xCA82C97DFA5947F0ADD4A2AF9CA472C0,
   0xB7FD9326363FF7CC34A5E5F171D83115, 0x04C723C31896059A071280E2EB27B275,
   0x09832C1A1B6E5AA0523BD6B329E32F84, 0x53D100ED20FCB15B6ACBBE394A4C58CF,
   0xD0EFAAFB434D338545F9027F503C9FA8, 0x51A3408F929D38F5BCB6DA2110FFF3D2,
   0xCD0C13EC5F974417C4A77E3D645D1973, 0x60814FDC222A908846EEB814DE5E0BDB,
   0xE0323A0A4906245CC2D3AC629195E479, 0xE7C8376D8DD54EA96C56F4EA657AAE08,
   0xBA78252E1CA6B4C6E8DD741F4BBD8B8A, 0x703EB5664803F60E613557B986C11D9E,
   0xE1F8981169D98E949B1E87E9CE5528DF, 0x8CA1890DBFE6426841992D0FB054BB16]
def invSboxRows : List Nat :=
  [0x52096AD53036A538BF40A39E81F3D7FB, 0x7CE339829B2FFF87348E4344C4DEE9CB,
   0x547B9432A6C2233DEE4C950B42FAC34E, 0x082EA16628D924B2765BA2496D8BD125,
   0x72F8F66486689816D4A45CCC5D65B692, 0x6C704850FDEDB9DA5E154657A78D9D84,
   0x90D8AB008CBCD30AF7E45805B8B34506, 0xD02C1E8FCA3F0F02C1AFBD0301138A6B,
   0x3A9111414F67DCEA97F2CFCEF0B4E673, 0x96AC7422E7AD3585E2F937E81C75DF6E,
   0x47F11A711D29C5896FB7620EAA18BE1B, 0xFC563E4BC6D279209ADBC0FE78CD5AF4,
   0x1FDDA8338807C731B11210592780EC5F, 0x60517FA919B54A0D2DE57A9F93C99CEF,
   0xA0E03B4DAE2AF5B0C8EBBB3C83539961, 0x172B047EBA77D626E169146355210C7D]

/-- A byte through a table. -/
def subByte (rows : List Nat) (b : Nat) : Nat := rows.getD (b / 16) 0 >>> (8 * (15 - b % 16)) % 256

/-- The bytes of `v` at the given places, each through a table, after the bytes of `acc`. -/
def subBytes (rows : List Nat) (v : Nat) : List Nat → Nat → Nat
  | [], acc => acc
  | sh :: l, acc => strict (256 * acc + subByte rows (v >>> sh % 256)) fun a => subBytes rows v l a

/-- Where ShiftRows and its inverse take each byte from. -/
def encPlaces : List Nat := [120, 80, 40, 0, 88, 48, 8, 96, 56, 16, 104, 64, 24, 112, 72, 32]
def decPlaces : List Nat := [120, 16, 40, 64, 88, 112, 8, 32, 56, 80, 104, 0, 24, 48, 72, 96]

/-- Every byte of a block multiplied by x in GF(2^8). -/
def xtimes (v : Nat) : Nat :=
  2 * (v &&& 0x7F7F7F7F7F7F7F7F7F7F7F7F7F7F7F7F) ^^^ 0x1B * (v >>> 7 &&& 0x01010101010101010101010101010101)

/-- Every byte of a block replaced by the next of its column. -/
def nextRow (v : Nat) : Nat :=
  256 * (v &&& 0x00FFFFFF00FFFFFF00FFFFFF00FFFFFF) ||| (v >>> 24 &&& 0x000000FF000000FF000000FF000000FF)

/-- MixColumns. -/
def mix (v : Nat) : Nat :=
  strict (nextRow v) fun a => strict (nextRow a) fun b => xtimes (v ^^^ a) ^^^ a ^^^ b ^^^ nextRow b

/-- The inverse of MixColumns. -/
def unmix (v : Nat) : Nat :=
  strict (xtimes v) fun v2 => strict (xtimes v2) fun v4 => strict (xtimes v4) fun v8 =>
    (v8 ^^^ v4 ^^^ v2) ^^^ nextRow (v8 ^^^ v2 ^^^ v) ^^^ nextRow (nextRow (v8 ^^^ v4 ^^^ v)) ^^^ nextRow (nextRow (nextRow (v8 ^^^ v)))

/-- SubWord of the key schedule. -/
def subWord (w : Nat) : Nat := subBytes sboxRows w [24, 16, 8, 0] 0

/-- The words of the key schedule so far, newest first, extended `n` times. -/
def expandAux (nk : Nat) : Nat → Nat → Nat → List Nat → List Nat
  | 0, _, _, ws => ws
  | n + 1, i, rc, ws =>
    let prev := ws.headD 0
    let old := ws.getD (nk - 1) 0
    if i % nk = 0 then
      strict (old ^^^ subWord (prev % 2 ^ 24 * 256 + prev >>> 24) ^^^ rc * 2 ^ 24) fun w => expandAux nk n (i + 1) (xtimes rc) (w :: ws)
    else if nk = 8 ∧ i % nk = 4 then strict (old ^^^ subWord prev) fun w => expandAux nk n (i + 1) rc (w :: ws)
    else strict (old ^^^ prev) fun w => expandAux nk n (i + 1) rc (w :: ws)

/-- A list of bytes as a number, most significant byte first; a block as bytes. -/
def blkNatAux : List Nat → Nat → Nat
  | [], r => r
  | x :: l, r => strict (256 * r + x) fun a => blkNatAux l a
def blkNat (b : List Nat) : Nat := blkNatAux b 0
def natBlkAux : Nat → Nat → List Nat → List Nat
  | 0, _, acc => acc
  | n + 1, v, acc => strict (v / 256) fun w => strict (v % 256) fun b => natBlkAux n w (b :: acc)
def natBlk (v : Nat) : List Nat := strict v fun w => natBlkAux 16 w []

/-- Words of four bytes. -/
def keyWords : Nat → List Nat → List Nat
  | 0, _ => []
  | n + 1, l => strict (blkNat (l.take 4)) fun w => w :: keyWords n (l.drop 4)

/-- Four words a round key. -/
def roundKeys : Nat → List Nat → List Nat
  | 0, _ => []
  | n + 1, l => strict (((l.getD 0 0 * 2 ^ 32 + l.getD 1 0) * 2 ^ 32 + l.getD 2 0) * 2 ^ 32 + l.getD 3 0) fun k => k :: roundKeys n (l.drop 4)

/-- Round keys, from a key of 16 or 32 bytes. -/
def expandKey (key : List Nat) : List Nat :=
  let nk := if key.length = 32 then 8 else 4
  roundKeys (nk + 7) (expandAux nk (3 * nk + 28) nk 1 (keyWords nk key).reverse).reverse

def encRounds : List Nat → Nat → Nat
  | [], v => v
  | [k], v => subBytes sboxRows v encPlaces 0 ^^^ k
  | k :: ks, v => strict (subBytes sboxRows v encPlaces 0) fun a => strict (mix a ^^^ k) fun w => encRounds ks w

def decRounds : List Nat → Nat → Nat
  | [], v => v
  | [k], v => subBytes invSboxRows v decPlaces 0 ^^^ k
  | k :: ks, v => strict (subBytes invSboxRows v decPlaces 0 ^^^ k) fun a => strict (unmix a) fun w => decRounds ks w

/-- AES encryption of a block under a key. -/
def aesN (key : List Nat) (v : Nat) : Nat :=
  match expandKey key with
  | [] => v
  | k :: ks => strict (v ^^^ k) fun w => encRounds ks w

/-- AES decryption of a block under a key. -/
def aesDecN (key : List Nat) (v : Nat) : Nat :=
  match (expandKey key).reverse with
  | [] => v
  | k :: ks => strict (v ^^^ k) fun w => decRounds ks w

/-- XOR of two lists of bytes. -/
def xorL (a b : List Nat) : List Nat := List.zipWith (· ^^^ ·) a b

/-- Blocks of 16 bytes, the last one short. -/
def blocks16 : Nat → List Nat → List (List Nat)
  | 0, _ => []
  | n + 1, l => if l.isEmpty then [] else l.take 16 :: blocks16 n (l.drop 16)

def toBlocks (l : List Nat) : List (List Nat) := blocks16 (l.length / 16 + 1) l

/-- A block filled with zero bytes. -/
def pad16 (b : List Nat) : List Nat := b ++ List.replicate (16 - b.length) 0

/-- Counter mode from a first counter block, the low `w` bits counting. -/
def ctrAux (key : List Nat) (w : Nat) : List (List Nat) → Nat → List Nat
  | [], _ => []
  | b :: bs, c => strict (aesN key c) fun k => strict (c / 2 ^ w * 2 ^ w + (c + 1) % 2 ^ w) fun d =>
      xorL b (natBlk k) ++ ctrAux key w bs d

def aesCtr (key : List Nat) (w c0 : Nat) (data : List Nat) : List Nat := ctrAux key w (toBlocks data) c0

/-- Multiplication in GCM's field: bit 127 is the coefficient of x^0. -/
def ghashMulAux : Nat → Nat → Nat → Nat → Nat
  | 0, _, _, z => z
  | n + 1, x, v, z =>
    strict (z ^^^ x >>> n % 2 * v) fun z' => strict (v / 2 ^^^ v % 2 * (0xE1 <<< 120)) fun v' => ghashMulAux n x v' z'

/-- GHASH of blocks, from a value so far. -/
def ghashFrom (h : Nat) : List (List Nat) → Nat → Nat
  | [], y => y
  | b :: bs, y => strict (y ^^^ blkNat (pad16 b)) fun x => strict (ghashMulAux 128 x h 0) fun y' => ghashFrom h bs y'

def ghash (h : Nat) (bs : List (List Nat)) : Nat := ghashFrom h bs 0

/-- GCM with a 12-byte nonce: ciphertext or plaintext, and the 16-byte tag of the ciphertext. -/
def gcmTag (key nonce aad ct : List Nat) : List Nat :=
  let lens := natBlk (aad.length * 8 * 2 ^ 64 + ct.length * 8)
  strict (aesN key 0) fun h =>
    natBlk (ghash h (toBlocks aad ++ toBlocks ct ++ [lens]) ^^^ aesN key (blkNat nonce * 2 ^ 32 + 1))

def gcmCrypt (key nonce data : List Nat) : List Nat := aesCtr key 32 (blkNat nonce * 2 ^ 32 + 2) data

/-- CBC-MAC over blocks. -/
def cbcMacFrom (key : List Nat) : List (List Nat) → Nat → Nat
  | [], y => y
  | b :: bs, y => strict (aesN key (y ^^^ blkNat (pad16 b))) fun y' => cbcMacFrom key bs y'
def cbcMac (key : List Nat) (bs : List (List Nat)) : Nat := cbcMacFrom key bs 0

/-- The CCM tag before masking: nonce of 13 bytes (length field of 2 bytes) or in general 15 − L, tag length `t`. -/
def ccmMac (key nonce aad pt : List Nat) (t : Nat) : Nat :=
  let l := 15 - nonce.length
  let flags := (if aad.isEmpty then 0 else 64) + 8 * ((t - 2) / 2) + (l - 1)
  let b0 := flags :: nonce ++ (natBlk pt.length).drop (16 - l)
  let n := aad.length
  let a := if n = 0 then [] else if n < 65280 then toBlocks ((natBlk n).drop 14 ++ aad)
    else toBlocks (0xFF :: 0xFE :: (natBlk n).drop 12 ++ aad)
  cbcMac key ([b0] ++ a ++ toBlocks pt)

/-- The first counter block of CCM. -/
def ccmA0 (nonce : List Nat) : Nat := blkNat (pad16 ((14 - nonce.length) :: nonce))

def ccmTag (key nonce aad pt : List Nat) (t : Nat) : List Nat :=
  (natBlk (ccmMac key nonce aad pt t ^^^ aesN key (ccmA0 nonce))).take t

def ccmCrypt (key nonce data : List Nat) : List Nat := aesCtr key (8 * (15 - nonce.length)) (ccmA0 nonce + 1) data

/-- CMAC subkey doubling. -/
def cmacDbl (v : Nat) : Nat := if v.testBit 127 then ((2 * v) % 2 ^ 128) ^^^ 0x87 else 2 * v

/-- AES-CMAC (SP 800-38B). -/
def aesCmac (key msg : List Nat) : List Nat :=
  let k1 := cmacDbl (aesN key 0)
  let bs := toBlocks msg
  let last := bs.getLastD []
  let lastN := if last.length = 16 then blkNat last ^^^ k1 else blkNat (pad16 (last ++ [0x80])) ^^^ cmacDbl k1
  natBlk (cbcMac key (bs.dropLast ++ [natBlk lastN]))

/-- One pass of key wrap (RFC 3394) over the 64-bit registers: A, and the registers, newest first. -/
def kwPass (kek : List Nat) : List Nat → Nat → Nat → List Nat → Nat × List Nat
  | [], _, a, acc => (a, acc)
  | r :: rs, t, a, acc => strict (aesN kek (a * 2 ^ 64 + r)) fun b => strict (b / 2 ^ 64 ^^^ t) fun a' => strict (b % 2 ^ 64) fun r' =>
      kwPass kek rs (t + 1) a' (r' :: acc)

def kwPasses (kek : List Nat) (n : Nat) : Nat → Nat → Nat → List Nat → Nat × List Nat
  | 0, _, a, rs => (a, rs)
  | p + 1, t, a, rs => match kwPass kek rs t a [] with
    | (a1, rs1) => kwPasses kek n p (t + n) a1 rs1.reverse

/-- 64-bit pieces of a list of bytes. -/
def piecesAux : Nat → List Nat → List Nat
  | 0, _ => []
  | n + 1, l => strict (blkNat (l.take 8)) fun v => v :: piecesAux n (l.drop 8)
def pieces8 (l : List Nat) : List Nat := piecesAux (l.length / 8) l
def unpieces8 (l : List Nat) : List Nat := l.flatMap fun v => (natBlk v).drop 8

/-- AES key wrap of key material with an initial value. -/
def kwWrap (kek : List Nat) (iv : Nat) (pt : List Nat) : List Nat :=
  let rs := pieces8 pt
  let (a, cs) := kwPasses kek rs.length 6 1 iv rs
  unpieces8 (a :: cs)

/-- One pass of unwrapping, the pieces last first; they come back first first. -/
def kuPass (kek : List Nat) : List Nat → Nat → Nat → List Nat → Nat × List Nat
  | [], _, a, acc => (a, acc)
  | r :: rs, t, a, acc => strict (aesDecN kek ((a ^^^ t) * 2 ^ 64 + r)) fun b => strict (b / 2 ^ 64) fun a' => strict (b % 2 ^ 64) fun r' =>
      kuPass kek rs (t - 1) a' (r' :: acc)

def kuPasses (kek : List Nat) (n : Nat) : Nat → Nat → Nat → List Nat → Nat × List Nat
  | 0, _, a, rs => (a, rs)
  | p + 1, t, a, rs => match kuPass kek rs t a [] with
    | (a1, rs1) => kuPasses kek n p (t - n) a1 rs1.reverse

/-- AES key unwrap: the material, or nothing when the integrity check fails. -/
def kwUnwrap (kek : List Nat) (iv : Nat) (ct : List Nat) : Option (List Nat) :=
  match pieces8 ct with
  | [] => none
  | a :: rs =>
    let n := rs.length
    let (a1, ps) := kuPasses kek n 6 (6 * n) a rs.reverse
    if a1 = iv then some (unpieces8 ps.reverse) else none

/-- Bytes as numbers and back. -/
def nats (bs : List Byte) : List Nat := bs.map (·.toNat)
def ofNats (l : List Nat) : List Byte := l.map (BitVec.ofNat 8 ·)

end Sys2Proof.Machine
end

