-- ==== Sys2Proof/Config.lean ====
section
/-!
DEFINITION. What the spec leaves open: values with no body, so that no proof can see what they are (notes/assumptions/2.md).
-/

namespace Sys2Proof.Config

/-- The value of the n-th random draw of the chip's entropy source (KEYRNG, GEN, GENPKT, SIGN, INIT, R305, R306, R369). -/
opaque freeDraw : Nat → Nat

/-- The n-th unstated signed value: a result or a sample whose value no rule gives (notes/assumptions/2.md). -/
opaque freeInt : Nat → Int

/-- Whether the blocks of an interrupt line whose conditions R173 does not give assert it, by the count of draws and the line. -/
opaque lineUp : Nat → Nat → Bool

/-- A sample after the fractional delay of R256: the n-th such value, for a PHASE and the sample it is made from. -/
opaque fracDelay : Nat → Nat → Int → Int

/-- Whether the decay of R274 rounds a sum up to the next integer. -/
opaque decayUp : Int → Bool

/-- A correlation coefficient in percent before it is held to −100 to 100, from the sums of its pairs: their number, both sums, both
sums of squares and the sum of products (R275, R277). -/
opaque corrPct : Nat → Int → Int → Int → Int → Int → Int

/-- Z × I of R277: the drop that the regression over the sums of its pairs gives for a current. -/
opaque dropFit : Nat → Int → Int → Int → Int → Int → Int → Int

/-- The samples of the transform of R287, by sample number, from the points of a symbol: for each tone its number, its real and imaginary
parts, the square of the factor they are divided by, and the phase it is turned by in units of π/232. -/
opaque plTransform : List (Nat × Int × Int × Nat × Nat) → Nat → Int

/-- What 1/N of R298 is where the estimate N is zero, by |8H|². -/
opaque plNoNoise : Int → Nat

/-- The PSDU that the decoder delivers where R296 promises none: RATE, and for each symbol its folded values with their weights. -/
opaque plDecode : Nat → List (List (Rat × Rat × Rat)) → List Byte

/-- Traffic class with flow label, and hop limit, of the packets the chip originates: no rule gives them. -/
opaque ipFlow : Nat
opaque ipHops : Nat

/-- A captured value divided by a power of ten that does not divide it (R398). -/
opaque scaleDown : Int → Nat → Int

/-- The IPv6 address of a relay peer, by its EUI-64: no rule says where the chip has it from (R403). -/
opaque peerAddr : Nat → Nat

/-- The check byte of a granule under the code of R46, whose code words no rule gives. -/
opaque checkByte : List Byte → Byte

/-- An ML-DSA-87 public key, as the 2,592 bytes R554 names the scheme for, from the 32-byte seed. -/
opaque dsaPublic : List Byte → List Byte

/-- An ML-DSA-87 signature of a message with a context under a seed and per-signature randomness (R554 to R556). -/
opaque dsaSign : List Byte → List Byte → List Byte → Nat → List Byte

/-- Whether the signer's rejection loop stays without a valid signature for 1,000 iterations on a draw (R556). -/
opaque dsaStuck : Nat → Bool

/-- Whether an ML-DSA-87 signature verifies: public key, message, context, signature (R554). -/
opaque dsaVerify : List Byte → List Byte → List Byte → List Byte → Bool

/-- An ML-KEM-1024 encapsulation key from the 64-byte seed d ‖ z (R537). -/
opaque kemPublic : List Byte → List Byte

/-- An ML-KEM-1024 encapsulation under a public key with a random draw: ciphertext and shared secret (R557). -/
opaque kemEncaps : List Byte → Nat → List Byte × List Byte

/-- An ML-KEM-1024 decapsulation of a ciphertext under a seed: the shared secret (R557). -/
opaque kemDecaps : List Byte → List Byte → List Byte

/-- The Avnaska factory key held in the ROM (R576). -/
opaque factoryKey : List Byte

end Sys2Proof.Config
end

