-- ==== Sys2Proof/Machine/Store.lean ====
section
/-!
DEFINITION. The one sparse table of the model: a list of key and value pairs, keys strictly rising, no entry equal to what an
unlisted key reads as. Memory bytes, CSR values, cores, queues, lock cells and lookup tables are all held in it.
-/

namespace Sys2Proof.Machine

/-- A sparse table: what it lists, in rising key order. -/
abbrev Store (α : Type) := List (Nat × α)

/-- The value at a key; an unlisted key reads as `d` says. -/
def Store.get {α : Type} (d : Nat → α) : Store α → Nat → α
  | [], k => d k
  | (j, v) :: l, k => if j = k then v else if k < j then d k else Store.get d l k

/-- The table without its leading entries up to a key. -/
def Store.skipTo {α : Type} (k : Nat) : Store α → Store α
  | [] => []
  | (j, v) :: l => if j ≤ k then Store.skipTo k l else (j, v) :: l

/-- The table with a value at a key, in canonical form: writing what an unlisted key reads as removes the entry. -/
def Store.put {α : Type} [DecidableEq α] (d : Nat → α) : Store α → Nat → α → Store α
  | [], k, x => if x = d k then [] else [(k, x)]
  | (j, v) :: l, k, x =>
    if j = k then (if x = d k then Store.skipTo k l else (k, x) :: l)
    else if k < j then (if x = d k then (j, v) :: l else (k, x) :: (j, v) :: l)
    else (j, v) :: Store.put d l k x

/-- The canonical form: keys strictly rising from `lo`, and no entry that an unlisted key would read as. -/
def Store.wfFrom {α : Type} [DecidableEq α] (d : Nat → α) : Nat → Store α → Bool
  | _, [] => true
  | lo, (j, v) :: l => decide (lo ≤ j) && decide (v ≠ d j) && Store.wfFrom d (j + 1) l

/-- The canonical form of a table. -/
def Store.wf {α : Type} [DecidableEq α] (d : Nat → α) (l : Store α) : Bool := Store.wfFrom d 0 l

/-- The table without its entries from `lo` up to, not including, `hi`. -/
def Store.clear {α : Type} (lo hi : Nat) (l : Store α) : Store α := l.filter fun e => e.1 < lo || hi ≤ e.1

/-- The entries from `lo` up to, not including, `hi`, their keys counted from `lo`. -/
def Store.slice {α : Type} (lo hi : Nat) (l : Store α) : Store α :=
  (l.filter fun e => lo ≤ e.1 && e.1 < hi).map fun e => (e.1 - lo, e.2)

/-- The range from `lo` of length `n` replaced by a slice. -/
def Store.paste {α : Type} (lo n : Nat) (new : Store α) (l : Store α) : Store α :=
  (l.filter fun e => e.1 < lo) ++ ((new.filter fun e => e.1 < n).map fun e => (e.1 + lo, e.2))
    ++ (l.filter fun e => lo + n ≤ e.1)

/-- A key put into a set of numbers held in rising order. -/
def setIns (k : Nat) : List Nat → List Nat
  | [] => [k]
  | j :: l => if k < j then k :: j :: l else if k = j then j :: l else j :: setIns k l

/-- A key taken out of a set of numbers. -/
def setDel (k : Nat) (l : List Nat) : List Nat := l.filter (· ≠ k)

/-- The entry of an association list, newest first. -/
def lookupD {α : Type} (d : α) (k : Nat) : List (Nat × α) → α
  | [] => d
  | (j, v) :: l => if j = k then v else lookupD d k l

/-- An association list with one key set. -/
def assocSet {α : Type} (k : Nat) (v : α) (l : List (Nat × α)) : List (Nat × α) := (k, v) :: l.filter fun e => e.1 ≠ k

end Sys2Proof.Machine
end

