-- ==== Sys2Proof/Machine/Regs.lean ====
section
/-!
DEFINITION. The register table: every CSR of every chapter's register section, with its CSR number (block number × 0x10000 +
offset, R11), width, elements, reset value, field types (R14) and the reset kinds that clear it (R16, R17), and the name of
every field.
-/

namespace Sys2Proof.Machine

/-- One register, or one bank of like registers, of a chapter's register section. `clr` holds the reset kinds that clear it:
bit 0 POR, 1 BOR, 2 EXT, 3 WDG, 4 SWR, 5 TKO. -/
structure RegRow where
  /-- CSR number of the lowest word of the first element. -/
  base : Nat
  /-- Width in bits. -/
  width : Nat
  /-- Elements of the outer bank and their distance. -/
  n1 : Nat
  s1 : Nat
  /-- Elements of the inner bank and their distance. -/
  n2 : Nat
  s2 : Nat
  /-- Reset kinds that clear it. -/
  clr : Nat
  /-- Value after such a reset. -/
  reset : Nat
  /-- Bits of type RW, WO, W1C and RC; the other named bits are RO. -/
  rw : Nat
  wo : Nat
  w1c : Nat
  rc : Nat
  deriving DecidableEq, Repr

/-- A field: the CSR number of its register's lowest word, its lowest bit and its width. -/
structure Fld where
  reg : Nat
  lo : Nat
  w : Nat
  deriving DecidableEq, Repr

/-- The registers of block 0x00. -/
def regsSys : List RegRow := [
  -- CHIPID
  ⟨0, 32, 1, 0, 1, 0, 0, 0x26405d10, 0, 0, 0, 0⟩,
  -- SYSSTAT
  ⟨4, 32, 1, 0, 1, 0, 31, 0, 0, 0, 0x700, 0⟩,
  -- FENCE_SET
  ⟨0x100, 96, 1, 0, 1, 0, 0, 0, 0, 0xffffffffffffffffffffffff, 0, 0⟩,
  -- FENCE_STAT
  ⟨0x110, 96, 1, 0, 1, 0, 31, 0, 0, 0, 0, 0⟩]

/-- The registers of block 0x01. -/
def regsClk : List RegRow := [
  -- CLKSTAT
  ⟨0x10000, 32, 1, 0, 1, 0, 1, 0, 0, 0, 0x7000, 0⟩,
  -- CLKCTL
  ⟨0x10004, 32, 1, 0, 1, 0, 0, 0, 0, 1, 0, 0⟩,
  -- CLKTEMP
  ⟨0x10010, 32, 1, 0, 1, 0, 31, 0, 0, 0, 0x10000, 0⟩]

/-- The registers of block 0x02. -/
def regsPwr : List RegRow := [
  -- MODESTAT
  ⟨0x20000, 32, 1, 0, 1, 0, 31, 0, 0, 0, 0, 0⟩,
  -- MODECTL
  ⟨0x20004, 32, 1, 0, 1, 0, 31, 0, 0, 7, 0, 0⟩,
  -- RSTCAUSE
  ⟨0x20008, 32, 1, 0, 1, 0, 1, 1, 0, 0, 0x73f, 0⟩,
  -- SWRESET
  ⟨0x2000c, 32, 1, 0, 1, 0, 0, 0, 0, 0xffff0003, 0, 0⟩,
  -- LPCTL
  ⟨0x20010, 32, 1, 0, 1, 0, 31, 0x300, 0x300, 3, 0, 0⟩,
  -- WAKETMR
  ⟨0x20014, 32, 1, 0, 1, 0, 1, 0, 0xffffffff, 0, 0, 0⟩,
  -- SLPSAVE
  ⟨0x20018, 32, 1, 0, 1, 0, 1, 0, 0x1ff, 0, 0, 0⟩,
  -- PFSTAT
  ⟨0x20020, 32, 1, 0, 1, 0, 1, 0, 0, 0, 0, 0⟩,
  -- SUPSTAT
  ⟨0x20024, 32, 1, 0, 1, 0, 0, 0, 0, 0, 0, 0⟩]

/-- The registers of block 0x03. -/
def regsWdt : List RegRow := [
  -- WDTCTL
  ⟨0x30000, 32, 1, 0, 1, 0, 31, 0x400007d0, 0xc0ffffff, 0, 0, 0⟩,
  -- WDTKICK
  ⟨0x30004, 32, 1, 0, 1, 0, 0, 0, 0, 0xffff, 0, 0⟩,
  -- WDTSTAT
  ⟨0x30008, 32, 1, 0, 1, 0, 31, 0x7d0, 0, 0, 0xf0000, 0⟩,
  -- AONWDT
  ⟨0x30010, 32, 1, 0, 1, 0, 1, 0x1f, 0xc00000ff, 0, 0, 0⟩,
  -- DSTALL
  ⟨0x30014, 32, 1, 0, 1, 0, 31, 0x1f4, 0xffff, 0, 0, 0⟩]

/-- The registers of block 0x04. -/
def regsCcx : List RegRow := [
  -- WIN
  ⟨0x40000, 64, 4, 0x4000, 64, 0x10, 63, 0, 0xffffffffff3f, 0, 0, 0⟩,
  -- MPU
  ⟨0x40400, 64, 4, 0x4000, 16, 8, 63, 0, 0xffffffefffffffe0, 0, 0, 0⟩,
  -- CCXSELF
  ⟨0x4f000, 32, 1, 0, 1, 0, 0, 0, 0, 0, 0, 0⟩]

/-- The registers of block 0x05. -/
def regsDis : List RegRow := [
  -- DISCTL
  ⟨0x50000, 32, 1, 0, 1, 0, 31, 0, 1, 0, 0, 0⟩,
  -- DISSTAT
  ⟨0x50004, 32, 1, 0, 1, 0, 31, 0, 0, 0, 0, 0⟩,
  -- DISOCC
  ⟨0x50008, 32, 1, 0, 1, 0, 31, 0, 0, 0, 0, 0⟩,
  -- DISCNT
  ⟨0x50010, 32, 8, 4, 1, 0, 31, 0, 0, 0, 0, 0⟩,
  -- DISGRANTS
  ⟨0x50040, 48, 1, 0, 1, 0, 31, 0, 0, 0, 0, 0⟩,
  -- DISFAIL
  ⟨0x50048, 32, 1, 0, 1, 0, 31, 0, 0, 0, 0, 0xffffffff⟩,
  -- DISREJ
  ⟨0x5004c, 32, 1, 0, 1, 0, 31, 0, 0, 0, 0, 0xffffffff⟩,
  -- DISLAST
  ⟨0x50050, 32, 1, 0, 1, 0, 31, 0, 0, 0, 0, 0⟩,
  -- DISLASTST
  ⟨0x50054, 32, 1, 0, 1, 0, 31, 0, 0, 0, 0, 0⟩]

/-- The registers of block 0x06. -/
def regsQue : List RegRow := [
  -- QCFG
  ⟨0x60000, 32, 128, 0x20, 1, 0, 31, 0x4000000, 0x8f01ffff, 0, 0, 0⟩,
  -- QSTAT
  ⟨0x60004, 32, 128, 0x20, 1, 0, 31, 0x20000, 0, 0, 0, 0⟩,
  -- QCTL
  ⟨0x60008, 32, 128, 0x20, 1, 0, 31, 0, 0, 1, 0, 0⟩,
  -- QPAR
  ⟨0x6000c, 32, 128, 0x20, 1, 0, 31, 0, 0, 0, 0, 0xffffffff⟩,
  -- QDISC
  ⟨0x60010, 32, 128, 0x20, 1, 0, 31, 0, 0, 0, 0, 0xffffffff⟩,
  -- QREF
  ⟨0x60014, 32, 128, 0x20, 1, 0, 31, 0, 0, 0, 0, 0xffffffff⟩]

/-- The registers of block 0x07. -/
def regsLck : List RegRow := [
  -- LCKST
  ⟨0x70000, 32, 256, 8, 1, 0, 31, 0, 0, 0, 0, 0⟩,
  -- LCKSEQ
  ⟨0x70004, 32, 256, 8, 1, 0, 31, 0, 0, 0, 0, 0⟩,
  -- LCKBRK
  ⟨0x70800, 32, 1, 0, 1, 0, 31, 0, 0, 0, 0, 0xffffffff⟩]

/-- The registers of block 0x08. -/
def regsLdg : List RegRow := [
  -- LDGCFG
  ⟨0x80000, 32, 1, 0, 1, 0, 31, 0x54212c2, 0x8777fff7, 0, 0, 0⟩,
  -- LDGLIMIT
  ⟨0x80004, 32, 1, 0, 1, 0, 31, 0x118, 0x33f, 0, 0, 0⟩,
  -- LDGORIGIN
  ⟨0x80008, 64, 1, 0, 1, 0, 31, 0, 0xffffffffffffffff, 0, 0, 0⟩,
  -- LDGSTAT
  ⟨0x80010, 32, 1, 0, 1, 0, 31, 1, 0, 0, 8, 0⟩,
  -- LDGLASTK
  ⟨0x80014, 32, 1, 0, 1, 0, 31, 0xffffffff, 0, 0, 0, 0⟩,
  -- LDGROUND
  ⟨0x80018, 32, 1, 0, 1, 0, 31, 0, 0, 0, 0, 0⟩,
  -- LDGMARK
  ⟨0x80020, 64, 1, 0, 1, 0, 31, 0, 0, 0, 0, 0⟩,
  -- LDGNEXTH
  ⟨0x80028, 64, 1, 0, 1, 0, 31, 0, 0, 0, 0, 0⟩,
  -- LDGDIGEST
  ⟨0x80040, 256, 1, 0, 1, 0, 31, 0, 0, 0, 0, 0⟩,
  -- LDGREPLAY
  ⟨0x80060, 32, 1, 0, 1, 0, 31, 0, 0, 0xffffffff, 0, 0⟩,
  -- LDGREBUILD
  ⟨0x80064, 32, 1, 0, 1, 0, 31, 0, 0x3ffff, 0xa0000000, 0, 0⟩,
  -- LDGFIRSTK
  ⟨0x80068, 32, 1, 0, 1, 0, 31, 0xffffffff, 0xffffffff, 0, 0, 0⟩,
  -- LDGREPLAYE
  ⟨0x80070, 64, 1, 0, 1, 0, 31, 0, 0, 0xffffffffffff, 0, 0⟩,
  -- LDGLATE
  ⟨0x80080, 48, 1, 0, 1, 0, 31, 0, 0, 0, 0, 0⟩,
  -- LDGSTALE
  ⟨0x80088, 32, 1, 0, 1, 0, 31, 0, 0, 0, 0, 0xffffffff⟩,
  -- LDGEARLY
  ⟨0x8008c, 32, 1, 0, 1, 0, 31, 0, 0, 0, 0, 0xffffffff⟩,
  -- LDGTACKREF
  ⟨0x80090, 32, 1, 0, 1, 0, 31, 0, 0, 0, 0, 0xffffffff⟩,
  -- LDGNOPROG
  ⟨0x80094, 32, 1, 0, 1, 0, 31, 0, 0, 0, 0, 0xffffffff⟩,
  -- LDGADJ
  ⟨0x80098, 48, 1, 0, 1, 0, 31, 0, 0, 0, 0, 0⟩,
  -- LDGPRG
  ⟨0x80100, 128, 16, 0x10, 1, 0, 31, 0xffffffff000000000000000000000000, 0, 0, 0, 0⟩,
  -- LDGLDADDR
  ⟨0x80200, 64, 1, 0, 1, 0, 31, 0, 0xffffffffffff, 0, 0, 0⟩,
  -- LDGLDCTL
  ⟨0x80208, 32, 1, 0, 1, 0, 31, 0, 0, 1, 0, 0⟩,
  -- LDGLDSTAT
  ⟨0x8020c, 32, 1, 0, 1, 0, 31, 0, 0, 0, 0, 0⟩]

/-- The registers of block 0x09. -/
def regsCmt : List RegRow := [
  -- CMTCFG
  ⟨0x90000, 32, 1, 0, 1, 0, 31, 0xffff5102, 0xfffff777, 0, 0, 0⟩,
  -- CMTSTAT
  ⟨0x90004, 32, 1, 0, 1, 0, 31, 0, 0, 0, 0xffff0000, 0⟩,
  -- CMTROLE
  ⟨0x90008, 64, 1, 0, 1, 0, 31, 0xfedcba9876543210, 0xffffffffffffffff, 0, 0, 0⟩,
  -- CMTLASTK
  ⟨0x90010, 32, 1, 0, 1, 0, 31, 0xffffffff, 0, 0, 0, 0⟩,
  -- CMTCAL
  ⟨0x90100, 96, 16, 0x10, 1, 0, 31, 0x1000000, 0x7ff00ffffffffffffff, 0, 0, 0⟩,
  -- CMTDRIFT
  ⟨0x90200, 32, 16, 4, 1, 0, 31, 0, 0, 0, 0, 0⟩]

/-- The registers of block 0x0A. -/
def regsLos : List RegRow := [
  -- LOSCFG
  ⟨0xa0000, 32, 1, 0, 1, 0, 31, 0x50400, 0xff0f01, 0, 0, 0⟩,
  -- LOSTHR
  ⟨0xa0004, 32, 1, 0, 1, 0, 31, 0xc800c8, 0xffffffff, 0, 0, 0⟩,
  -- LOSCOR
  ⟨0xa0008, 64, 1, 0, 1, 0, 31, 0x600301e0a320f50, 0xffffffffffffffff, 0, 0, 0⟩,
  -- LOSNV
  ⟨0xa000c, 32, 1, 0, 1, 0, 31, 0xf0064, 0xffffff, 0, 0, 0⟩,
  -- LOSSTAT
  ⟨0xa0010, 32, 1, 0, 1, 0, 31, 0, 0, 0, 0xfff, 0⟩,
  -- LOSTOPO
  ⟨0xa0020, 64, 1, 0, 1, 0, 31, 0, 0xffffffffffff, 0, 0, 0⟩,
  -- LOSTOPOSEL
  ⟨0xa0028, 32, 1, 0, 1, 0, 31, 0, 0, 1, 0, 0⟩,
  -- LOSCORBASE
  ⟨0xa0030, 64, 1, 0, 1, 0, 31, 0, 0xffffffffffff, 0, 0, 0⟩,
  -- LOSMODEL
  ⟨0xa0100, 96, 12, 0x10, 1, 0, 31, 0, 0xffffffffffffffffffffffff, 0, 0, 0⟩]

/-- The registers of block 0x10 and the blocks like it. -/
def regsPl : List RegRow := [
  -- PLCFG
  ⟨0x100000, 32, 12, 0x10000, 1, 0, 63, 0x10000, 0x13f01, 0, 0, 0⟩,
  -- PLACC
  ⟨0x100004, 32, 12, 0x10000, 1, 0, 63, 0x320783, 0xff0fff, 0, 0, 0⟩,
  -- PLTXLIM
  ⟨0x100008, 32, 12, 0x10000, 1, 0, 63, 0x100, 0x3ff, 0, 0, 0⟩,
  -- PLSTAT
  ⟨0x10000c, 32, 12, 0x10000, 1, 0, 63, 0, 0, 0, 0, 0⟩,
  -- PLRXOK
  ⟨0x100010, 48, 12, 0x10000, 1, 0, 63, 0, 0, 0, 0, 0⟩,
  -- PLTXOK
  ⟨0x100018, 48, 12, 0x10000, 1, 0, 63, 0, 0, 0, 0, 0⟩,
  -- PLRXERR
  ⟨0x100020, 32, 12, 0x10000, 1, 0, 63, 0, 0, 0, 0, 0xffffffff⟩,
  -- PLTXFAIL
  ⟨0x100024, 32, 12, 0x10000, 1, 0, 63, 0, 0, 0, 0, 0xffffffff⟩,
  -- PLACKLOST
  ⟨0x100028, 32, 12, 0x10000, 1, 0, 63, 0, 0, 0, 0, 0xffffffff⟩,
  -- PLNODRV
  ⟨0x10002c, 32, 12, 0x10000, 1, 0, 63, 0, 0, 0, 0, 0xffffffff⟩,
  -- PLIMP
  ⟨0x100030, 32, 12, 0x10000, 1, 0, 63, 0, 0, 0, 0, 0xffffffff⟩,
  -- PLWAITMAX
  ⟨0x100034, 32, 12, 0x10000, 1, 0, 63, 0, 0, 0, 0, 0xffffffff⟩]

/-- The registers of block 0x1C. -/
def regsPls : List RegRow := [
  -- PLSMODE
  ⟨0x1c0000, 32, 1, 0, 1, 0, 63, 0xf00, 0xfff, 0, 0, 0⟩,
  -- PLSTMASK
  ⟨0x1c0008, 64, 1, 0, 1, 0, 63, 0x3ffffffffffffff, 0x3ffffffffffffff, 0, 0, 0⟩,
  -- PLSFOLD
  ⟨0x1c0010, 32, 1, 0, 1, 0, 63, 0x40, 0xff, 0, 0, 0⟩,
  -- PLSIMP
  ⟨0x1c0014, 32, 1, 0, 1, 0, 63, 0x20c, 0xfff, 0, 0, 0⟩,
  -- PLSTM
  ⟨0x1c0018, 32, 1, 0, 1, 0, 63, 0xc08003c, 0xffffffff, 0, 0, 0⟩,
  -- PLSCELL
  ⟨0x1c001c, 32, 1, 0, 1, 0, 63, 0, 0xffff, 0, 0, 0⟩,
  -- PLSMESH
  ⟨0x1c0020, 32, 1, 0, 1, 0, 63, 0x10004, 0xffff07, 0, 0, 0⟩,
  -- PLSLDMAP
  ⟨0x1c0040, 32, 1, 0, 1, 0, 63, 7, 0x80000fff, 0, 0, 0⟩,
  -- PLSLDMAP
  ⟨0x1c0044, 32, 1, 0, 1, 0, 63, 0x38, 0x80000fff, 0, 0, 0⟩,
  -- PLSLDMAP
  ⟨0x1c0048, 32, 1, 0, 1, 0, 63, 0x1c0, 0x80000fff, 0, 0, 0⟩,
  -- PLSLDMAP
  ⟨0x1c004c, 32, 1, 0, 1, 0, 63, 0xe00, 0x80000fff, 0, 0, 0⟩,
  -- PLSLDSET
  ⟨0x1c0050, 32, 1, 0, 1, 0, 63, 0x14, 0xff, 0, 0, 0⟩,
  -- PLSLDSTAT
  ⟨0x1c0060, 32, 4, 4, 1, 0, 63, 0, 0, 0, 0, 0⟩]

/-- The registers of block 0x20 and the blocks like it. -/
def regsRf : List RegRow := [
  -- RFCFG
  ⟨0x200000, 32, 6, 0x10000, 1, 0, 63, 0x3f00, 0x3f07, 0, 0, 0⟩,
  -- RFCHMASK
  ⟨0x200010, 128, 6, 0x10000, 1, 0, 63, 0xffffffffffffffffffffffffffffffff, 0xffffffffffffffffffffffffffffffff, 0, 0, 0⟩,
  -- RFPROF
  ⟨0x200040, 32, 6, 0x10000, 8, 4, 63, 0x8a00, 0xf3fff77, 0, 0, 0⟩,
  -- RFSLOTCTL
  ⟨0x200080, 32, 6, 0x10000, 1, 0, 63, 0, 0, 1, 0, 0⟩,
  -- RFSLOTA
  ⟨0x201000, 32, 6, 0x10000, 256, 4, 63, 0, 0xffffffff, 0, 0, 0⟩,
  -- RFSLOTB
  ⟨0x201400, 32, 6, 0x10000, 256, 4, 63, 0, 0xffffffff, 0, 0, 0⟩,
  -- RFSTAT
  ⟨0x200084, 32, 6, 0x10000, 1, 0, 63, 0, 0, 0, 0, 0⟩,
  -- RFRXOK
  ⟨0x200100, 48, 6, 0x10000, 1, 0, 63, 0, 0, 0, 0, 0⟩,
  -- RFTXOK
  ⟨0x200108, 48, 6, 0x10000, 1, 0, 63, 0, 0, 0, 0, 0⟩,
  -- RFRXERR
  ⟨0x200110, 32, 6, 0x10000, 1, 0, 63, 0, 0, 0, 0, 0xffffffff⟩,
  -- RFNODEM
  ⟨0x200114, 32, 6, 0x10000, 1, 0, 63, 0, 0, 0, 0, 0xffffffff⟩,
  -- RFRXABORT
  ⟨0x200118, 32, 6, 0x10000, 1, 0, 63, 0, 0, 0, 0, 0xffffffff⟩,
  -- RFACKSKIP
  ⟨0x20011c, 32, 6, 0x10000, 1, 0, 63, 0, 0, 0, 0, 0xffffffff⟩,
  -- RFTXDROP
  ⟨0x200120, 32, 6, 0x10000, 1, 0, 63, 0, 0, 0, 0, 0xffffffff⟩,
  -- RFSF
  ⟨0x200800, 32, 1, 0, 1, 0, 63, 0x140010, 0xff7ff1, 0, 0, 0⟩,
  -- RFSFOFF
  ⟨0x200808, 64, 1, 0, 1, 0, 63, 0, 0xffffffffffffffff, 0, 0, 0⟩,
  -- RFSFSTAT
  ⟨0x200810, 32, 1, 0, 1, 0, 63, 0, 0, 0, 0x1000, 0⟩,
  -- RFSFN
  ⟨0x200814, 32, 1, 0, 1, 0, 63, 0, 0, 0, 0, 0⟩,
  -- RFCELL
  ⟨0x200818, 32, 1, 0, 1, 0, 63, 0, 0xffff, 0, 0, 0⟩,
  -- RFFOLLOW
  ⟨0x200820, 64, 1, 0, 1, 0, 63, 0, 0xffffffffffffffff, 0, 0, 0⟩,
  -- RFPARENT
  ⟨0x200828, 64, 1, 0, 1, 0, 63, 0, 0, 0, 0, 0⟩,
  -- RFFLOOD
  ⟨0x200830, 32, 1, 0, 1, 0, 63, 0x14781414, 0xffffff1f, 0, 0, 0⟩,
  -- RFLPL
  ⟨0x200834, 32, 1, 0, 1, 0, 63, 0x10280, 0xffffff, 0, 0, 0⟩,
  -- RFLPT
  ⟨0x200838, 32, 1, 0, 1, 0, 63, 0x7d000fa, 0xffffffff, 0, 0, 0⟩,
  -- RFLINTDUP
  ⟨0x200840, 32, 1, 0, 1, 0, 63, 0, 0, 0, 0, 0xffffffff⟩,
  -- RFLINTEVICT
  ⟨0x200844, 32, 1, 0, 1, 0, 63, 0, 0, 0, 0, 0xffffffff⟩,
  -- RFBMISS
  ⟨0x200848, 32, 1, 0, 1, 0, 63, 0, 0, 0, 0, 0xffffffff⟩,
  -- RFFSEQ
  ⟨0x20084c, 32, 1, 0, 1, 0, 63, 0, 0, 0, 0, 0⟩]

/-- The registers of block 0x28. -/
def regsAes : List RegRow := [
  -- AESCFG
  ⟨0x280000, 32, 1, 0, 1, 0, 31, 0x40302, 0x800f7f7f, 0, 0, 0⟩,
  -- AESSTAT
  ⟨0x280004, 32, 1, 0, 1, 0, 31, 0, 0, 0, 0, 0⟩,
  -- AESJOBS
  ⟨0x280010, 48, 4, 8, 1, 0, 31, 0, 0, 0, 0, 0⟩,
  -- AESTAGF
  ⟨0x280040, 32, 1, 0, 1, 0, 31, 0, 0, 0, 0, 0xffffffff⟩,
  -- AESALARM
  ⟨0x280044, 32, 1, 0, 1, 0, 31, 0, 0, 0, 0, 0xffffffff⟩]

/-- The registers of block 0x29. -/
def regsSha : List RegRow := [
  -- SHACFG
  ⟨0x290000, 32, 1, 0, 1, 0, 31, 0x504, 0x80007f7f, 0, 0, 0⟩]

/-- The registers of block 0x2A. -/
def regsDsa : List RegRow := [
  -- DSACFG
  ⟨0x2a0000, 32, 1, 0, 1, 0, 31, 0x706, 0x80007f7f, 0, 0, 0⟩,
  -- DSAVFAIL
  ⟨0x2a0010, 32, 1, 0, 1, 0, 31, 0, 0, 0, 0, 0xffffffff⟩]

/-- The registers of block 0x2B. -/
def regsKem : List RegRow := [
  -- KEMCFG
  ⟨0x2b0000, 32, 1, 0, 1, 0, 31, 0x908, 0x80007f7f, 0, 0, 0⟩]

/-- The registers of block 0x2C. -/
def regsKey : List RegRow := [
  -- KEYCMD
  ⟨0x2c0000, 32, 1, 0, 1, 0, 0, 0, 0, 0xff, 0, 0⟩,
  -- KEYARG
  ⟨0x2c0008, 128, 1, 0, 1, 0, 31, 0, 0xffffffffffff0003ffffff0f0fff0fff, 0, 0, 0⟩,
  -- KEYSTAT
  ⟨0x2c0018, 32, 1, 0, 1, 0, 31, 0, 0, 0, 0, 0⟩,
  -- KEYATTR
  ⟨0x2c0020, 64, 1, 0, 1, 0, 31, 0, 0xfff, 0, 0, 0⟩,
  -- KEYPKTBASE
  ⟨0x2c0028, 64, 1, 0, 1, 0, 31, 0, 0xffffffffffff, 0, 0, 0⟩,
  -- KEYNONCE
  ⟨0x2c0040, 256, 1, 0, 1, 0, 31, 0, 0xffffffffffffffffffffffffffffffffffffffffffffffffffffffffffffffff, 0, 0, 0⟩,
  -- KEYRNG
  ⟨0x2c0060, 32, 1, 0, 1, 0, 0, 0, 0, 0, 0, 0⟩,
  -- KEYID
  ⟨0x2c0068, 64, 1, 0, 1, 0, 0, 0, 0, 0, 0, 0⟩,
  -- KEYAUTHSEQ
  ⟨0x2c0070, 64, 1, 0, 1, 0, 0, 0, 0, 0, 0, 0⟩,
  -- KEYUSED
  ⟨0x2c0080, 32, 1, 0, 1, 0, 31, 0, 0, 0, 0, 0⟩,
  -- KEYUNWRAPF
  ⟨0x2c0084, 32, 1, 0, 1, 0, 31, 0, 0, 0, 0, 0xffffffff⟩]

/-- The registers of block 0x2D. -/
def regsTmp : List RegRow := [
  -- TMPCFG
  ⟨0x2d0000, 32, 1, 0, 1, 0, 1, 0x30f00, 0x80030fff, 0, 0, 0⟩,
  -- TMPSTAT
  ⟨0x2d0004, 32, 1, 0, 1, 0, 1, 0, 0, 0, 0x503ff, 0⟩,
  -- TMPSENSE
  ⟨0x2d0008, 32, 1, 0, 1, 0, 0, 0, 0, 0, 0, 0⟩]

/-- The registers of block 0x2E. -/
def regsLcs : List RegRow := [
  -- LCSSTAT
  ⟨0x2e0000, 32, 1, 0, 1, 0, 0, 0, 0, 0, 0, 0⟩,
  -- LCSCTL
  ⟨0x2e0004, 32, 1, 0, 1, 0, 0, 0, 0, 0xffff0007, 0, 0⟩,
  -- LCSRES
  ⟨0x2e0008, 32, 1, 0, 1, 0, 31, 0, 0, 0, 0, 0⟩]

/-- The registers of block 0x30 and the blocks like it. -/
def regsEn : List RegRow := [
  -- ENCFG
  ⟨0x300000, 32, 2, 0x10000, 1, 0, 63, 0x5dc0000, 0x3fffffff, 0, 0, 0⟩,
  -- ENSTAT
  ⟨0x300004, 32, 2, 0x10000, 1, 0, 63, 0, 0, 0, 0, 0⟩,
  -- ENMAC
  ⟨0x300008, 64, 2, 0x10000, 1, 0, 63, 0, 0xffffffffffff, 0, 0, 0⟩,
  -- ENADDR
  ⟨0x300040, 128, 2, 0x10000, 4, 0x10, 63, 0, 0xffffffffffffffffffffffffffffffff, 0, 0, 0⟩,
  -- ENRXOK
  ⟨0x300080, 48, 2, 0x10000, 1, 0, 63, 0, 0, 0, 0, 0⟩,
  -- ENTXOK
  ⟨0x300088, 48, 2, 0x10000, 1, 0, 63, 0, 0, 0, 0, 0⟩,
  -- ENDROP
  ⟨0x300090, 32, 2, 0x10000, 1, 0, 63, 0, 0, 0, 0, 0xffffffff⟩,
  -- ENCSUM
  ⟨0x300094, 32, 2, 0x10000, 1, 0, 63, 0, 0, 0, 0, 0xffffffff⟩,
  -- ENFWDDROP
  ⟨0x300098, 32, 2, 0x10000, 1, 0, 63, 0, 0, 0, 0, 0xffffffff⟩]

/-- The registers of block 0x32 and the blocks like it. -/
def regsDl : List RegRow := [
  -- DLCFG
  ⟨0x320000, 32, 4, 0x10000, 1, 0, 63, 0x271080, 0xfffff1, 0, 0, 0⟩,
  -- DLSTAT
  ⟨0x320004, 32, 4, 0x10000, 1, 0, 63, 0, 0, 0, 0x100, 0⟩,
  -- DLCELLT
  ⟨0x320010, 48, 4, 0x10000, 1, 0, 63, 0, 0, 0, 0, 0⟩,
  -- DLCELLR
  ⟨0x320018, 48, 4, 0x10000, 1, 0, 63, 0, 0, 0, 0, 0⟩,
  -- DLCRCERR
  ⟨0x320020, 32, 4, 0x10000, 1, 0, 63, 0, 0, 0, 0, 0xffffffff⟩,
  -- DLREPLAY
  ⟨0x320024, 32, 4, 0x10000, 1, 0, 63, 0, 0, 0, 0, 0xffffffff⟩,
  -- DLBADCELL
  ⟨0x320028, 32, 4, 0x10000, 1, 0, 63, 0, 0, 0, 0, 0xffffffff⟩,
  -- DLDOWN
  ⟨0x32002c, 32, 4, 0x10000, 1, 0, 63, 0, 0, 0, 0, 0xffffffff⟩]

/-- The registers of block 0x36. -/
def regsEpt : List RegRow := [
  -- EPTDATA
  ⟨0x360000, 256, 1, 0, 1, 0, 31, 0, 0xffffffffffffffffffffffffffffffffffffffffffffffffffffffffffffffff, 0, 0, 0⟩,
  -- EPTCMD
  ⟨0x360020, 32, 1, 0, 1, 0, 31, 0, 0, 3, 0, 0⟩,
  -- EPTSTAT
  ⟨0x360024, 32, 1, 0, 1, 0, 31, 0, 0, 0, 0, 0⟩,
  -- EPTUSED
  ⟨0x360028, 64, 1, 0, 1, 0, 31, 0, 0, 0, 0, 0⟩,
  -- EPTLOCAL
  ⟨0x360030, 32, 1, 0, 1, 0, 31, 0, 0, 0, 0, 0⟩,
  -- EPTMISS
  ⟨0x360034, 32, 1, 0, 1, 0, 31, 0, 0, 0, 0, 0xffffffff⟩]

/-- The registers of block 0x37. -/
def regsNbt : List RegRow := [
  -- NBTCFG
  ⟨0x370000, 32, 1, 0, 1, 0, 31, 0x12c1c20, 0xffffffff, 0, 0, 0⟩,
  -- NBTCMD
  ⟨0x370004, 32, 1, 0, 1, 0, 31, 0, 0xffff, 0x30000, 0, 0⟩,
  -- NBTSTAT
  ⟨0x370008, 32, 1, 0, 1, 0, 31, 0, 0, 0, 0, 0⟩,
  -- NBTLAST
  ⟨0x37000c, 32, 1, 0, 1, 0, 31, 0, 0, 0, 0, 0⟩,
  -- NBTFULL
  ⟨0x370010, 32, 1, 0, 1, 0, 31, 0, 0, 0, 0, 0xffffffff⟩,
  -- NBTAGED
  ⟨0x370014, 32, 1, 0, 1, 0, 31, 0, 0, 0, 0, 0xffffffff⟩]

/-- The registers of block 0x38. -/
def regsPfx : List RegRow := [
  -- PFXKEY
  ⟨0x380000, 128, 1, 0, 1, 0, 31, 0, 0xffffffffffffffffffffffffffffffff, 0, 0, 0⟩,
  -- PFXDATA
  ⟨0x380014, 32, 1, 0, 1, 0, 31, 0, 0xff1fff, 0, 0, 0⟩,
  -- PFXCMD
  ⟨0x380018, 32, 1, 0, 1, 0, 31, 0, 0, 3, 0, 0⟩,
  -- PFXSTAT
  ⟨0x38001c, 32, 1, 0, 1, 0, 31, 0, 0, 0, 0, 0⟩,
  -- PFXCOUNT
  ⟨0x380020, 32, 1, 0, 1, 0, 31, 0, 0, 0, 0, 0⟩,
  -- PFXMISS
  ⟨0x380024, 32, 1, 0, 1, 0, 31, 0, 0, 0, 0, 0xffffffff⟩,
  -- PFXNH
  ⟨0x380100, 64, 256, 8, 1, 0, 31, 0, 0x8001ffffffffffff, 0, 0, 0⟩]

/-- The registers of block 0x39. -/
def regsSem : List RegRow := [
  -- SEMCFG
  ⟨0x390000, 32, 1, 0, 1, 0, 31, 0x3c001e01, 0xffffff7f, 0, 0, 0⟩,
  -- SEMEPOCH
  ⟨0x390004, 32, 1, 0, 1, 0, 31, 0, 0, 0, 0, 0⟩,
  -- SEMWRITE
  ⟨0x390008, 32, 1, 0, 1, 0, 31, 0, 0x7fff, 0x80000000, 0, 0⟩,
  -- SEMMOVE
  ⟨0x390010, 64, 1, 0, 1, 0, 31, 0, 0xffffffff00007fff, 0x18000, 0, 0⟩,
  -- SEMSTAT
  ⟨0x390018, 32, 1, 0, 1, 0, 31, 0, 0, 0, 0, 0⟩,
  -- SEMFWD
  ⟨0x390020, 48, 1, 0, 1, 0, 31, 0, 0, 0, 0, 0⟩]

/-- The registers of block 0x3A. -/
def regsRep : List RegRow := [
  -- KEPCFG
  ⟨0x3a8000, 32, 1, 0, 1, 0, 31, 0x1003c7d0, 0xffffffff, 0, 0, 0⟩,
  -- KEPSECBASE
  ⟨0x3a8008, 64, 1, 0, 1, 0, 31, 0, 0xffffffffffff, 0, 0, 0⟩,
  -- KEPRXOK
  ⟨0x3a8010, 48, 1, 0, 1, 0, 31, 0, 0, 0, 0, 0⟩,
  -- KEPBADF
  ⟨0x3a8020, 32, 1, 0, 1, 0, 31, 0, 0, 0, 0, 0xffffffff⟩,
  -- KEPUNK
  ⟨0x3a8024, 32, 1, 0, 1, 0, 31, 0, 0, 0, 0, 0xffffffff⟩,
  -- KEPKEY
  ⟨0x3a8028, 32, 1, 0, 1, 0, 31, 0, 0, 0, 0, 0xffffffff⟩,
  -- KEPREPLAY
  ⟨0x3a802c, 32, 1, 0, 1, 0, 31, 0, 0, 0, 0, 0xffffffff⟩,
  -- KEPTAGF
  ⟨0x3a8030, 32, 1, 0, 1, 0, 31, 0, 0, 0, 0, 0xffffffff⟩,
  -- KEPEXH
  ⟨0x3a8034, 32, 1, 0, 1, 0, 31, 0, 0, 0, 0, 0xffffffff⟩,
  -- KEPDUP
  ⟨0x3a8038, 32, 1, 0, 1, 0, 31, 0, 0, 0, 0, 0xffffffff⟩,
  -- KEPACKDROP
  ⟨0x3a803c, 32, 1, 0, 1, 0, 31, 0, 0, 0, 0, 0xffffffff⟩,
  -- KEPCTRWAIT
  ⟨0x3a8040, 32, 1, 0, 1, 0, 31, 0, 0, 0, 0, 0xffffffff⟩,
  -- DLMBADTIME
  ⟨0x3a8044, 32, 1, 0, 1, 0, 31, 0, 0, 0, 0, 0xffffffff⟩,
  -- RELTXDROP
  ⟨0x3a8048, 32, 1, 0, 1, 0, 31, 0, 0, 0, 0, 0xffffffff⟩,
  -- DLMCFG
  ⟨0x3a8100, 32, 1, 0, 1, 0, 31, 0xfdb, 0x8fffffff, 0, 0, 0⟩,
  -- DLMCFG2
  ⟨0x3a8108, 64, 1, 0, 1, 0, 31, 0, 0xffffffffffff, 0, 0, 0⟩,
  -- RELCFG
  ⟨0x3a8200, 32, 1, 0, 1, 0, 31, 0x5acbde2, 0xc7ffffff, 0, 0, 0⟩,
  -- RELPEER
  ⟨0x3a8300, 192, 16, 0x20, 1, 0, 31, 0, 0x80000fffffffffffffffffff, 0, 0, 0⟩,
  -- FWCAMP
  ⟨0x3a8500, 256, 4, 0x40, 1, 0, 31, 0x258000000000000000000000000000000000000000000000008000000000000, 0xffffffffffffffff0000ffffffffffffffffffffffffffff80ff1fffffffffff, 0, 0, 0⟩,
  -- SPARM
  ⟨0x3a8600, 32, 4, 0x80, 1, 0, 31, 0x1c00020, 0xff000f7, 0x300, 0, 0⟩,
  -- SPBUF
  ⟨0x3a8640, 512, 4, 0x80, 1, 0, 31, 0, 0xffffffffffffffffffffffffffffffffffffffffffffffffffffffffffffffffffffffffffffffffffffffffffffffffffffffffffffffffffffffff, 0, 0, 0⟩,
  -- REPCFG
  ⟨0x3a0000, 64, 1, 0, 1, 0, 31, 0x5dc0a40bde3, 0x80003fffffffffff, 0, 0, 0⟩,
  -- REPDEST
  ⟨0x3a0010, 128, 1, 0, 1, 0, 31, 0, 0xffffffffffffffffffffffffffffffff, 0, 0, 0⟩,
  -- REPDPORT
  ⟨0x3a0020, 32, 1, 0, 1, 0, 31, 0x10bde3, 0x17ffff, 0, 0, 0⟩,
  -- REPKEYS
  ⟨0x3a0024, 32, 1, 0, 1, 0, 31, 0, 0xfff, 0, 0, 0⟩,
  -- REPTMR
  ⟨0x3a0028, 32, 1, 0, 1, 0, 31, 0x1801f4, 0xffffff, 0, 0, 0⟩,
  -- REPSTAT
  ⟨0x3a0030, 32, 1, 0, 1, 0, 31, 0, 0, 0, 0, 0⟩,
  -- REPSID
  ⟨0x3a0038, 64, 1, 0, 1, 0, 31, 0, 0, 0, 0, 0⟩,
  -- REPBSEQ
  ⟨0x3a0040, 64, 1, 0, 1, 0, 31, 0, 0, 0, 0, 0⟩,
  -- REPBUF
  ⟨0x3a0050, 64, 1, 0, 1, 0, 31, 0x100000000000000, 0xffffffffffffffff, 0, 0, 0⟩,
  -- REPHOLD
  ⟨0x3a0060, 32, 1, 0, 1, 0, 31, 0x40, 0xffff, 0, 0, 0⟩,
  -- REPHOLDUSE
  ⟨0x3a0068, 48, 1, 0, 1, 0, 31, 0, 0, 0, 0, 0⟩,
  -- REPRESEND
  ⟨0x3a0080, 32, 1, 0, 1, 0, 31, 0, 0, 0, 0, 0xffffffff⟩,
  -- REPHOLDDROP
  ⟨0x3a0084, 32, 1, 0, 1, 0, 31, 0, 0, 0, 0, 0xffffffff⟩,
  -- REPBADDG
  ⟨0x3a0088, 32, 1, 0, 1, 0, 31, 0, 0, 0, 0, 0xffffffff⟩]

/-- The registers of block 0x3C. -/
def regsTim : List RegRow := [
  -- TIMCFG
  ⟨0x3c0000, 32, 1, 0, 1, 0, 31, 2, 7, 0x100, 0, 0⟩,
  -- TIMSTAT
  ⟨0x3c0004, 32, 1, 0, 1, 0, 1, 0, 0, 0, 0, 0⟩,
  -- TIMSNAP
  ⟨0x3c0010, 128, 1, 0, 1, 0, 1, 0, 0, 0, 0, 0⟩,
  -- TIMSET
  ⟨0x3c0020, 64, 1, 0, 1, 0, 0, 0, 0, 0xffffffffffffffff, 0, 0⟩,
  -- TIMSTEP
  ⟨0x3c0028, 64, 1, 0, 1, 0, 0, 0, 0, 0xffffffffffffffff, 0, 0⟩,
  -- TIMINCR
  ⟨0x3c0030, 64, 1, 0, 1, 0, 1, 0x10000000000, 0xffffffffffffffff, 0, 0, 0⟩,
  -- TIMPTP
  ⟨0x3c0038, 32, 1, 0, 1, 0, 31, 0x25, 0xffff, 0, 0, 0⟩,
  -- TIMSTEPREC
  ⟨0x3c0040, 64, 1, 0, 1, 0, 31, 0, 0xfff00000000, 0x8000000000000000, 0, 0⟩,
  -- TIMSTEPADDR
  ⟨0x3c0048, 64, 1, 0, 1, 0, 31, 0, 0xffffffffffff, 0, 0, 0⟩,
  -- TIMSTEPSEQ
  ⟨0x3c0050, 64, 1, 0, 1, 0, 0, 0, 0, 0, 0, 0⟩,
  -- TIMBUDGET
  ⟨0x3c0058, 32, 1, 0, 1, 0, 1, 0x77359400, 0, 0, 0, 0⟩,
  -- TIMTRIGCTL
  ⟨0x3c0100, 32, 8, 0x20, 1, 0, 31, 0, 3, 0, 0, 0xffff0000⟩,
  -- TIMTRIGSTART
  ⟨0x3c0108, 64, 8, 0x20, 1, 0, 31, 0, 0xffffffffffffffff, 0, 0, 0⟩,
  -- TIMTRIGPER
  ⟨0x3c0110, 64, 8, 0x20, 1, 0, 31, 0, 0xffffffffffffffff, 0, 0, 0⟩,
  -- TIMPPSO
  ⟨0x3c0200, 32, 1, 0, 1, 0, 31, 0x6400, 0xff01, 0, 0, 0⟩,
  -- TIMPPSIN
  ⟨0x3c0210, 128, 1, 0, 1, 0, 31, 0, 0, 0, 0, 0⟩,
  -- TIMTXTS
  ⟨0x3c0400, 96, 20, 0x10, 1, 0, 63, 0, 0, 0, 0, 0x3ffff⟩,
  -- TIMTXLOST
  ⟨0x3c0600, 32, 20, 4, 1, 0, 63, 0, 0, 0, 0, 0xffffffff⟩,
  -- TIMCORR
  ⟨0x3c0700, 64, 20, 8, 1, 0, 31, 0, 0xffffffffffffffff, 0, 0, 0⟩]

/-- The registers of block 0x3D. -/
def regsTwn : List RegRow := [
  -- TWNCFG
  ⟨0x3d0000, 32, 1, 0, 1, 0, 31, 0x4140a1c, 0xfffff1f, 0, 0, 0⟩,
  -- TWNTMR
  ⟨0x3d0004, 32, 1, 0, 1, 0, 31, 0x3c01f40a, 0xffffffff, 0, 0, 0⟩,
  -- TWNWIN
  ⟨0x3d0008, 32, 1, 0, 1, 0, 31, 0x4000, 0x1ffff, 0, 0, 0⟩,
  -- TWNSTAT
  ⟨0x3d0010, 32, 1, 0, 1, 0, 31, 0, 0, 0, 0xc00, 0⟩,
  -- TWNCTL
  ⟨0x3d0014, 32, 1, 0, 1, 0, 0, 0, 0, 0xffff000f, 0, 0⟩,
  -- TWNSSEQ
  ⟨0x3d0020, 64, 1, 0, 1, 0, 31, 0, 0, 0, 0, 0⟩,
  -- TWNCONF
  ⟨0x3d0028, 64, 1, 0, 1, 0, 31, 0, 0, 0, 0, 0⟩,
  -- TWNTKOISN
  ⟨0x3d0030, 64, 1, 0, 1, 0, 31, 0, 0, 0, 0, 0⟩,
  -- TWNDIGK
  ⟨0x3d0038, 32, 1, 0, 1, 0, 31, 0xffffffff, 0, 0, 0, 0⟩,
  -- TWNDIGMIS
  ⟨0x3d0040, 32, 1, 0, 1, 0, 1, 0, 0, 0, 0, 0xffffffff⟩,
  -- TWNGAP
  ⟨0x3d0044, 32, 1, 0, 1, 0, 1, 0, 0, 0, 0, 0xffffffff⟩,
  -- TWNTKO
  ⟨0x3d0048, 32, 1, 0, 1, 0, 1, 0, 0, 0, 0, 0xffffffff⟩,
  -- TWNRESCUE
  ⟨0x3d004c, 32, 1, 0, 1, 0, 1, 0, 0, 0, 0, 0xffffffff⟩]

/-- The registers of block 0x3E. -/
def regsUpd : List RegRow := [
  -- UPDCTL
  ⟨0x3e0000, 32, 1, 0, 1, 0, 0, 0, 0, 0xffff000f, 0, 0⟩,
  -- UPDRES
  ⟨0x3e0004, 32, 1, 0, 1, 0, 31, 0, 0, 0, 0, 0⟩,
  -- UPDADDR
  ⟨0x3e0008, 64, 1, 0, 1, 0, 31, 0, 0xffffffffffff, 0, 0, 0⟩,
  -- UPDSTAT
  ⟨0x3e0010, 32, 1, 0, 1, 0, 31, 0, 0, 0, 0, 0⟩,
  -- UPDSLOT
  ⟨0x3e0020, 128, 2, 0x10, 1, 0, 0, 0, 0, 0, 0, 0⟩,
  -- UPDFUSE
  ⟨0x3e0040, 32, 1, 0, 1, 0, 0, 0, 0, 0, 0, 0⟩,
  -- UPDCVER
  ⟨0x3e0044, 32, 1, 0, 1, 0, 0, 0, 0, 0, 0, 0⟩]

/-- The registers of block 0x40. -/
def regsMrm : List RegRow := [
  -- MRMSTAT
  ⟨0x400000, 32, 1, 0, 1, 0, 0, 0, 0, 0, 0, 0⟩,
  -- MRMHEAD
  ⟨0x400008, 64, 1, 0, 1, 0, 0, 0, 0, 0, 0, 0⟩,
  -- MRMTAIL
  ⟨0x400010, 64, 1, 0, 1, 0, 0, 0, 0, 0, 0, 0⟩,
  -- MRMLASTISN
  ⟨0x400018, 64, 1, 0, 1, 0, 0, 0, 0, 0, 0, 0⟩,
  -- MRMDRAIN
  ⟨0x400020, 32, 1, 0, 1, 0, 31, 0x3e80100, 0xfff0fff, 0, 0, 0⟩,
  -- MRMCKPT
  ⟨0x400028, 32, 1, 0, 1, 0, 31, 0x3c, 0xffff, 0x80000000, 0, 0⟩,
  -- MRMCORR
  ⟨0x400030, 32, 1, 0, 1, 0, 31, 0, 0, 0, 0, 0xffffffff⟩,
  -- MRMJPOISON
  ⟨0x400034, 32, 1, 0, 1, 0, 31, 0, 0, 0, 0, 0xffffffff⟩,
  -- MRMRSV
  ⟨0x400038, 32, 1, 0, 1, 0, 31, 0x40, 0xfff, 0, 0, 0⟩]

/-- The registers of block 0x41 and the blocks like it. -/
def regsDdr : List RegRow := [
  -- DDRCFG
  ⟨0x410000, 32, 2, 0x10000, 1, 0, 31, 1, 1, 0, 0, 0⟩,
  -- DDRSTAT
  ⟨0x410004, 32, 2, 0x10000, 1, 0, 31, 0, 0, 0, 0, 0⟩,
  -- DDRCORR
  ⟨0x410010, 32, 2, 0x10000, 1, 0, 31, 0, 0, 0, 0, 0xffffffff⟩,
  -- DDRPOIS
  ⟨0x410014, 32, 2, 0x10000, 1, 0, 31, 0, 0, 0, 0, 0xffffffff⟩]

/-- The registers of block 0x43. -/
def regsNfc : List RegRow := [
  -- NFCCFG
  ⟨0x430000, 32, 1, 0, 1, 0, 31, 0x10b0a, 0x80017f7f, 0, 0, 0⟩,
  -- NFCPART
  ⟨0x430008, 32, 1, 0, 1, 0, 31, 0x70040, 0xffffff, 0, 0, 0⟩,
  -- NFCGC
  ⟨0x430010, 32, 1, 0, 1, 0, 31, 0x19040308, 0xffffffff, 0, 0, 0⟩,
  -- NFCWL
  ⟨0x430014, 32, 1, 0, 1, 0, 31, 0x3c0200, 0xffffff, 0, 0, 0⟩,
  -- NFCRSV
  ⟨0x430018, 32, 1, 0, 1, 0, 31, 0x40, 0xfff, 0, 0, 0⟩,
  -- NFCSTAT
  ⟨0x430020, 32, 1, 0, 1, 0, 31, 0, 0, 0, 0, 0⟩,
  -- NFCFREE
  ⟨0x430028, 64, 1, 0, 1, 0, 31, 0, 0, 0, 0, 0⟩,
  -- NFCERASE
  ⟨0x430030, 64, 1, 0, 1, 0, 31, 0, 0, 0, 0, 0⟩,
  -- NFCMAPBASE
  ⟨0x430038, 64, 1, 0, 1, 0, 31, 0, 0xffffffffffff, 0, 0, 0⟩,
  -- NFCRETIRED
  ⟨0x430040, 32, 1, 0, 1, 0, 31, 0, 0, 0, 0, 0xffffffff⟩,
  -- NFCPFAIL
  ⟨0x430044, 32, 1, 0, 1, 0, 31, 0, 0, 0, 0, 0xffffffff⟩,
  -- NFCEFAIL
  ⟨0x430048, 32, 1, 0, 1, 0, 31, 0, 0, 0, 0, 0xffffffff⟩,
  -- NFCREFRESH
  ⟨0x43004c, 32, 1, 0, 1, 0, 31, 0, 0, 0, 0, 0xffffffff⟩,
  -- NFCUNCOR
  ⟨0x430050, 32, 1, 0, 1, 0, 31, 0, 0, 0, 0, 0xffffffff⟩,
  -- NFCSPARE
  ⟨0x430054, 32, 1, 0, 1, 0, 31, 0, 0, 0, 0, 0xffffffff⟩]

/-- The registers of block 0x44. -/
def regsRin : List RegRow := [
  -- RINCFG
  ⟨0x440000, 32, 1, 0, 1, 0, 31, 0x1801, 0xff01, 0, 0, 0⟩,
  -- RINCFG
  ⟨0x440010, 32, 1, 0, 1, 0, 31, 0x1801, 0xff01, 0, 0, 0⟩,
  -- RINCFG
  ⟨0x440020, 32, 1, 0, 1, 0, 31, 0x101, 0xff01, 0, 0, 0⟩,
  -- RINCFG
  ⟨0x440030, 32, 1, 0, 1, 0, 31, 0xa801, 0xff01, 0, 0, 0⟩,
  -- RINSTAT
  ⟨0x440004, 32, 4, 0x10, 1, 0, 31, 0, 0, 0, 0x100, 0⟩,
  -- RINCORR
  ⟨0x440008, 32, 4, 0x10, 1, 0, 31, 0, 0, 0, 0, 0xffffffff⟩,
  -- RINPOIS
  ⟨0x44000c, 32, 4, 0x10, 1, 0, 31, 0, 0, 0, 0, 0xffffffff⟩]

/-- The registers of block 0x45. -/
def regsEvr : List RegRow := [
  -- EVRCFG
  ⟨0x450000, 32, 1, 0, 1, 0, 31, 0xa003c, 0xffffff, 0, 0, 0⟩,
  -- EVRSTAT
  ⟨0x450004, 32, 1, 0, 1, 0, 1, 0, 0, 0, 0, 0⟩,
  -- EVRRSEQ
  ⟨0x450008, 64, 1, 0, 1, 0, 0, 0, 0, 0, 0, 0⟩,
  -- EVRCTL
  ⟨0x450010, 32, 1, 0, 1, 0, 0, 0, 0, 0x80000003, 0, 0⟩,
  -- EVRPOST
  ⟨0x450020, 128, 1, 0, 1, 0, 0, 0, 0, 0x3fffffffffffffffffff, 0, 0⟩,
  -- EVROPT
  ⟨0x450030, 32, 1, 0, 1, 0, 0, 0, 0, 0, 0, 0⟩,
  -- EVRPCC
  ⟨0x450034, 32, 1, 0, 1, 0, 0, 0, 0, 0, 0, 0⟩,
  -- EVRLOST
  ⟨0x450040, 32, 1, 0, 1, 0, 1, 0, 0, 0, 0, 0xffffffff⟩,
  -- EVRDROP
  ⟨0x450044, 32, 4, 4, 1, 0, 1, 0, 0, 0, 0, 0xffffffff⟩]

/-- The registers of block 0x46. -/
def regsTel : List RegRow := [
  -- TELCFG
  ⟨0x460000, 32, 1, 0, 1, 0, 31, 0x3c, 0x8000ffff, 0, 0, 0⟩,
  -- TELSEL
  ⟨0x460008, 64, 1, 0, 1, 0, 31, 0, 0xfffffffffffffff, 0, 0, 0⟩,
  -- TELSTAT
  ⟨0x460010, 32, 1, 0, 1, 0, 31, 0, 0, 0, 2, 0⟩]

/-- The registers of block 0x47. -/
def regsTap : List RegRow := [
  -- TAPSTAT
  ⟨0x470000, 32, 1, 0, 1, 0, 1, 1, 0, 0, 0, 0⟩]

/-- The registers that can lie in block `b` (R45). -/
def regGroup (b : Nat) : List RegRow :=
  if b < 0x2d then
    if b < 9 then
      if b < 4 then
        if b < 2 then
          if b < 1 then
            regsSys
          else
            regsClk
        else
          if b < 3 then
            regsPwr
          else
            regsWdt
      else
        if b < 6 then
          if b < 5 then
            regsCcx
          else
            regsDis
        else
          if b < 7 then
            regsQue
          else
            if b < 8 then
              regsLck
            else
              regsLdg
    else
      if b < 0x28 then
        if b < 0x10 then
          if b < 0xa then
            regsCmt
          else
            regsLos
        else
          if b < 0x1c then
            regsPl
          else
            if b < 0x20 then
              regsPls
            else
              regsRf
      else
        if b < 0x2a then
          if b < 0x29 then
            regsAes
          else
            regsSha
        else
          if b < 0x2b then
            regsDsa
          else
            if b < 0x2c then
              regsKem
            else
              regsKey
  else
    if b < 0x3c then
      if b < 0x36 then
        if b < 0x30 then
          if b < 0x2e then
            regsTmp
          else
            regsLcs
        else
          if b < 0x32 then
            regsEn
          else
            regsDl
      else
        if b < 0x38 then
          if b < 0x37 then
            regsEpt
          else
            regsNbt
        else
          if b < 0x39 then
            regsPfx
          else
            if b < 0x3a then
              regsSem
            else
              regsRep
    else
      if b < 0x43 then
        if b < 0x3e then
          if b < 0x3d then
            regsTim
          else
            regsTwn
        else
          if b < 0x40 then
            regsUpd
          else
            if b < 0x41 then
              regsMrm
            else
              regsDdr
      else
        if b < 0x45 then
          if b < 0x44 then
            regsNfc
          else
            regsRin
        else
          if b < 0x46 then
            regsEvr
          else
            if b < 0x47 then
              regsTel
            else
              regsTap

/-- CHIPID (01_architecture.md). -/
def rCHIPID : Nat := 0
/-- CHIPID.PART, RO. -/
def fCHIPID_PART : Fld := ⟨rCHIPID, 16, 16⟩
/-- CHIPID.FAMILY, RO. -/
def fCHIPID_FAMILY : Fld := ⟨rCHIPID, 8, 8⟩
/-- CHIPID.STEPL, RO. -/
def fCHIPID_STEPL : Fld := ⟨rCHIPID, 4, 4⟩
/-- CHIPID.STEPN, RO. -/
def fCHIPID_STEPN : Fld := ⟨rCHIPID, 0, 4⟩
/-- SYSSTAT (01_architecture.md). -/
def rSYSSTAT : Nat := 4
/-- SYSSTAT.SEAM, RO. -/
def fSYSSTAT_SEAM : Fld := ⟨rSYSSTAT, 0, 1⟩
/-- SYSSTAT.ROLE_F, RO. -/
def fSYSSTAT_ROLE_F : Fld := ⟨rSYSSTAT, 1, 1⟩
/-- SYSSTAT.ROLE_H, RO. -/
def fSYSSTAT_ROLE_H : Fld := ⟨rSYSSTAT, 2, 1⟩
/-- SYSSTAT.PLANE_VIOL, W1C. -/
def fSYSSTAT_PLANE_VIOL : Fld := ⟨rSYSSTAT, 8, 1⟩
/-- SYSSTAT.FENCE_REFUSED, W1C. -/
def fSYSSTAT_FENCE_REFUSED : Fld := ⟨rSYSSTAT, 9, 1⟩
/-- SYSSTAT.FENCE_LATE, W1C. -/
def fSYSSTAT_FENCE_LATE : Fld := ⟨rSYSSTAT, 10, 1⟩
/-- FENCE_SET (01_architecture.md). -/
def rFENCE_SET : Nat := 0x100
/-- FENCE_SET.SET, WO. -/
def fFENCE_SET_SET : Fld := ⟨rFENCE_SET, 0, 96⟩
/-- FENCE_STAT (01_architecture.md). -/
def rFENCE_STAT : Nat := 0x110
/-- FENCE_STAT.CC, RO. -/
def fFENCE_STAT_CC : Fld := ⟨rFENCE_STAT, 0, 4⟩
/-- FENCE_STAT.AE, RO. -/
def fFENCE_STAT_AE : Fld := ⟨rFENCE_STAT, 4, 4⟩
/-- FENCE_STAT.SHA, RO. -/
def fFENCE_STAT_SHA : Fld := ⟨rFENCE_STAT, 8, 1⟩
/-- FENCE_STAT.DSA, RO. -/
def fFENCE_STAT_DSA : Fld := ⟨rFENCE_STAT, 9, 1⟩
/-- FENCE_STAT.KEM, RO. -/
def fFENCE_STAT_KEM : Fld := ⟨rFENCE_STAT, 10, 1⟩
/-- FENCE_STAT.DB, RO. -/
def fFENCE_STAT_DB : Fld := ⟨rFENCE_STAT, 11, 1⟩
/-- FENCE_STAT.NF, RO. -/
def fFENCE_STAT_NF : Fld := ⟨rFENCE_STAT, 12, 2⟩
/-- FENCE_STAT.EN, RO. -/
def fFENCE_STAT_EN : Fld := ⟨rFENCE_STAT, 14, 2⟩
/-- FENCE_STAT.DL, RO. -/
def fFENCE_STAT_DL : Fld := ⟨rFENCE_STAT, 16, 4⟩
/-- FENCE_STAT.PT, RO. -/
def fFENCE_STAT_PT : Fld := ⟨rFENCE_STAT, 20, 4⟩
/-- FENCE_STAT.RF, RO. -/
def fFENCE_STAT_RF : Fld := ⟨rFENCE_STAT, 24, 6⟩
/-- FENCE_STAT.CMT, RO. -/
def fFENCE_STAT_CMT : Fld := ⟨rFENCE_STAT, 30, 1⟩
/-- FENCE_STAT.LOS, RO. -/
def fFENCE_STAT_LOS : Fld := ⟨rFENCE_STAT, 31, 1⟩
/-- FENCE_STAT.LC, RO. -/
def fFENCE_STAT_LC : Fld := ⟨rFENCE_STAT, 32, 64⟩
/-- MODESTAT (02_modes_and_resets.md). -/
def rMODESTAT : Nat := 0x20000
/-- MODESTAT.MODE, RO. -/
def fMODESTAT_MODE : Fld := ⟨rMODESTAT, 0, 3⟩
/-- MODESTAT.LPS, RO. -/
def fMODESTAT_LPS : Fld := ⟨rMODESTAT, 4, 2⟩
/-- MODESTAT.BOOTSTOP, RO. -/
def fMODESTAT_BOOTSTOP : Fld := ⟨rMODESTAT, 8, 8⟩
/-- MODECTL (02_modes_and_resets.md). -/
def rMODECTL : Nat := 0x20004
/-- MODECTL.REQ, WO. -/
def fMODECTL_REQ : Fld := ⟨rMODECTL, 0, 3⟩
/-- RSTCAUSE (02_modes_and_resets.md). -/
def rRSTCAUSE : Nat := 0x20008
/-- RSTCAUSE.POR, W1C. -/
def fRSTCAUSE_POR : Fld := ⟨rRSTCAUSE, 0, 1⟩
/-- RSTCAUSE.BOR, W1C. -/
def fRSTCAUSE_BOR : Fld := ⟨rRSTCAUSE, 1, 1⟩
/-- RSTCAUSE.EXT, W1C. -/
def fRSTCAUSE_EXT : Fld := ⟨rRSTCAUSE, 2, 1⟩
/-- RSTCAUSE.WDG, W1C. -/
def fRSTCAUSE_WDG : Fld := ⟨rRSTCAUSE, 3, 1⟩
/-- RSTCAUSE.SWR, W1C. -/
def fRSTCAUSE_SWR : Fld := ⟨rRSTCAUSE, 4, 1⟩
/-- RSTCAUSE.TKO, W1C. -/
def fRSTCAUSE_TKO : Fld := ⟨rRSTCAUSE, 5, 1⟩
/-- RSTCAUSE.PFAIL, W1C. -/
def fRSTCAUSE_PFAIL : Fld := ⟨rRSTCAUSE, 8, 1⟩
/-- RSTCAUSE.AONWD, W1C. -/
def fRSTCAUSE_AONWD : Fld := ⟨rRSTCAUSE, 9, 1⟩
/-- RSTCAUSE.TAMPER_ERASE, W1C. -/
def fRSTCAUSE_TAMPER_ERASE : Fld := ⟨rRSTCAUSE, 10, 1⟩
/-- RSTCAUSE.SWREQ, RO. -/
def fRSTCAUSE_SWREQ : Fld := ⟨rRSTCAUSE, 12, 2⟩
/-- SWRESET (02_modes_and_resets.md). -/
def rSWRESET : Nat := 0x2000c
/-- SWRESET.REQ, WO. -/
def fSWRESET_REQ : Fld := ⟨rSWRESET, 0, 2⟩
/-- SWRESET.KEY, WO. -/
def fSWRESET_KEY : Fld := ⟨rSWRESET, 16, 16⟩
/-- LPCTL (02_modes_and_resets.md). -/
def rLPCTL : Nat := 0x20010
/-- LPCTL.ENTER, WO. -/
def fLPCTL_ENTER : Fld := ⟨rLPCTL, 0, 2⟩
/-- LPCTL.WAKE_PF, RW. -/
def fLPCTL_WAKE_PF : Fld := ⟨rLPCTL, 8, 1⟩
/-- LPCTL.WAKE_TMR, RW. -/
def fLPCTL_WAKE_TMR : Fld := ⟨rLPCTL, 9, 1⟩
/-- WAKETMR (02_modes_and_resets.md). -/
def rWAKETMR : Nat := 0x20014
/-- WAKETMR.TICKS, RW. -/
def fWAKETMR_TICKS : Fld := ⟨rWAKETMR, 0, 32⟩
/-- SLPSAVE (02_modes_and_resets.md). -/
def rSLPSAVE : Nat := 0x20018
/-- SLPSAVE.BASE, RW. -/
def fSLPSAVE_BASE : Fld := ⟨rSLPSAVE, 0, 9⟩
/-- SLPSAVE.SAVED, RO. -/
def fSLPSAVE_SAVED : Fld := ⟨rSLPSAVE, 31, 1⟩
/-- PFSTAT (02_modes_and_resets.md). -/
def rPFSTAT : Nat := 0x20020
/-- PFSTAT.PFAIL, RO. -/
def fPFSTAT_PFAIL : Fld := ⟨rPFSTAT, 0, 1⟩
/-- PFSTAT.LASTUS, RO. -/
def fPFSTAT_LASTUS : Fld := ⟨rPFSTAT, 8, 8⟩
/-- SUPSTAT (02_modes_and_resets.md). -/
def rSUPSTAT : Nat := 0x20024
/-- SUPSTAT.VCORE_OK, RO. -/
def fSUPSTAT_VCORE_OK : Fld := ⟨rSUPSTAT, 0, 1⟩
/-- SUPSTAT.VDDR_OK, RO. -/
def fSUPSTAT_VDDR_OK : Fld := ⟨rSUPSTAT, 1, 1⟩
/-- SUPSTAT.VIO_OK, RO. -/
def fSUPSTAT_VIO_OK : Fld := ⟨rSUPSTAT, 2, 1⟩
/-- SUPSTAT.VAON_OK, RO. -/
def fSUPSTAT_VAON_OK : Fld := ⟨rSUPSTAT, 3, 1⟩
/-- SUPSTAT.BACKUP_OK, RO. -/
def fSUPSTAT_BACKUP_OK : Fld := ⟨rSUPSTAT, 4, 1⟩
/-- WDTCTL (02_modes_and_resets.md). -/
def rWDTCTL : Nat := 0x30000
/-- WDTCTL.TIMEOUT, RW. -/
def fWDTCTL_TIMEOUT : Fld := ⟨rWDTCTL, 0, 16⟩
/-- WDTCTL.WINDOW, RW. -/
def fWDTCTL_WINDOW : Fld := ⟨rWDTCTL, 16, 8⟩
/-- WDTCTL.EN, RW. -/
def fWDTCTL_EN : Fld := ⟨rWDTCTL, 30, 1⟩
/-- WDTCTL.LOCK, RW. -/
def fWDTCTL_LOCK : Fld := ⟨rWDTCTL, 31, 1⟩
/-- WDTKICK (02_modes_and_resets.md). -/
def rWDTKICK : Nat := 0x30004
/-- WDTKICK.VALUE, WO. -/
def fWDTKICK_VALUE : Fld := ⟨rWDTKICK, 0, 16⟩
/-- WDTSTAT (02_modes_and_resets.md). -/
def rWDTSTAT : Nat := 0x30008
/-- WDTSTAT.LEFT, RO. -/
def fWDTSTAT_LEFT : Fld := ⟨rWDTSTAT, 0, 16⟩
/-- WDTSTAT.WARN, W1C. -/
def fWDTSTAT_WARN : Fld := ⟨rWDTSTAT, 16, 1⟩
/-- WDTSTAT.EARLY, W1C. -/
def fWDTSTAT_EARLY : Fld := ⟨rWDTSTAT, 17, 1⟩
/-- WDTSTAT.BADKICK, W1C. -/
def fWDTSTAT_BADKICK : Fld := ⟨rWDTSTAT, 18, 1⟩
/-- WDTSTAT.DSTALL, W1C. -/
def fWDTSTAT_DSTALL : Fld := ⟨rWDTSTAT, 19, 1⟩
/-- AONWDT (02_modes_and_resets.md). -/
def rAONWDT : Nat := 0x30010
/-- AONWDT.PERIOD, RW. -/
def fAONWDT_PERIOD : Fld := ⟨rAONWDT, 0, 8⟩
/-- AONWDT.EN, RW. -/
def fAONWDT_EN : Fld := ⟨rAONWDT, 30, 1⟩
/-- AONWDT.LOCK, RW. -/
def fAONWDT_LOCK : Fld := ⟨rAONWDT, 31, 1⟩
/-- DSTALL (02_modes_and_resets.md). -/
def rDSTALL : Nat := 0x30014
/-- DSTALL.LIMIT, RW. -/
def fDSTALL_LIMIT : Fld := ⟨rDSTALL, 0, 16⟩
/-- DISCTL (03_cervik_programming_model.md). -/
def rDISCTL : Nat := 0x50000
/-- DISCTL.EN, RW. -/
def fDISCTL_EN : Fld := ⟨rDISCTL, 0, 1⟩
/-- DISSTAT (03_cervik_programming_model.md). -/
def rDISSTAT : Nat := 0x50004
/-- DISSTAT.NONEMPTY, RO. -/
def fDISSTAT_NONEMPTY : Fld := ⟨rDISSTAT, 0, 8⟩
/-- DISSTAT.WAITING, RO. -/
def fDISSTAT_WAITING : Fld := ⟨rDISSTAT, 8, 7⟩
/-- DISSTAT.STORE_FULL, RO. -/
def fDISSTAT_STORE_FULL : Fld := ⟨rDISSTAT, 16, 1⟩
/-- DISOCC (03_cervik_programming_model.md). -/
def rDISOCC : Nat := 0x50008
/-- DISOCC.OCC, RO. -/
def fDISOCC_OCC : Fld := ⟨rDISOCC, 0, 17⟩
/-- DISCNT0–DISCNT7 (03_cervik_programming_model.md). -/
def rDISCNT (i : Nat) : Nat := 0x50010 + 4 * i
/-- DISCNT0–DISCNT7.CNT, RO. -/
def fDISCNT_CNT (i : Nat) : Fld := ⟨rDISCNT i, 0, 17⟩
/-- DISGRANTS (03_cervik_programming_model.md). -/
def rDISGRANTS : Nat := 0x50040
/-- DISGRANTS.GRANTS, RO. -/
def fDISGRANTS_GRANTS : Fld := ⟨rDISGRANTS, 0, 48⟩
/-- DISFAIL (03_cervik_programming_model.md). -/
def rDISFAIL : Nat := 0x50048
/-- DISFAIL.FAILS, RC. -/
def fDISFAIL_FAILS : Fld := ⟨rDISFAIL, 0, 32⟩
/-- DISREJ (03_cervik_programming_model.md). -/
def rDISREJ : Nat := 0x5004c
/-- DISREJ.REJ, RC. -/
def fDISREJ_REJ : Fld := ⟨rDISREJ, 0, 32⟩
/-- DISLAST (03_cervik_programming_model.md). -/
def rDISLAST : Nat := 0x50050
/-- DISLAST.EPI, RO. -/
def fDISLAST_EPI : Fld := ⟨rDISLAST, 0, 18⟩
/-- DISLAST.ENTRY, RO. -/
def fDISLAST_ENTRY : Fld := ⟨rDISLAST, 20, 2⟩
/-- DISLASTST (03_cervik_programming_model.md). -/
def rDISLASTST : Nat := 0x50054
/-- DISLASTST.STATUS, RO. -/
def fDISLASTST_STATUS : Fld := ⟨rDISLASTST, 0, 16⟩
/-- DISLASTST.PROG, RO. -/
def fDISLASTST_PROG : Fld := ⟨rDISLASTST, 16, 16⟩
/-- QCFGn (03_cervik_programming_model.md). -/
def rQCFG (i : Nat) : Nat := 0x60000 + 0x20 * i
/-- QCFGn.BASE, RW. -/
def fQCFG_BASE (i : Nat) : Fld := ⟨rQCFG i, 0, 17⟩
/-- QCFGn.SIZE, RW. -/
def fQCFG_SIZE (i : Nat) : Fld := ⟨rQCFG i, 24, 4⟩
/-- QCFGn.EN, RW. -/
def fQCFG_EN (i : Nat) : Fld := ⟨rQCFG i, 31, 1⟩
/-- QSTATn (03_cervik_programming_model.md). -/
def rQSTAT (i : Nat) : Nat := 0x60004 + 0x20 * i
/-- QSTATn.COUNT, RO. -/
def fQSTAT_COUNT (i : Nat) : Fld := ⟨rQSTAT i, 0, 13⟩
/-- QSTATn.FULL, RO. -/
def fQSTAT_FULL (i : Nat) : Fld := ⟨rQSTAT i, 16, 1⟩
/-- QSTATn.EMPTY, RO. -/
def fQSTAT_EMPTY (i : Nat) : Fld := ⟨rQSTAT i, 17, 1⟩
/-- QSTATn.MIDPKT_IN, RO. -/
def fQSTAT_MIDPKT_IN (i : Nat) : Fld := ⟨rQSTAT i, 18, 1⟩
/-- QSTATn.MIDPKT_OUT, RO. -/
def fQSTAT_MIDPKT_OUT (i : Nat) : Fld := ⟨rQSTAT i, 19, 1⟩
/-- QSTATn.FLUSHING, RO. -/
def fQSTAT_FLUSHING (i : Nat) : Fld := ⟨rQSTAT i, 20, 1⟩
/-- QSTATn.STALLED, RO. -/
def fQSTAT_STALLED (i : Nat) : Fld := ⟨rQSTAT i, 24, 4⟩
/-- QCTLn (03_cervik_programming_model.md). -/
def rQCTL (i : Nat) : Nat := 0x60008 + 0x20 * i
/-- QCTLn.FLUSH, WO. -/
def fQCTL_FLUSH (i : Nat) : Fld := ⟨rQCTL i, 0, 1⟩
/-- QPARn (03_cervik_programming_model.md). -/
def rQPAR (i : Nat) : Nat := 0x6000c + 0x20 * i
/-- QPARn.PAR, RC. -/
def fQPAR_PAR (i : Nat) : Fld := ⟨rQPAR i, 0, 32⟩
/-- QDISCn (03_cervik_programming_model.md). -/
def rQDISC (i : Nat) : Nat := 0x60010 + 0x20 * i
/-- QDISCn.DISC, RC. -/
def fQDISC_DISC (i : Nat) : Fld := ⟨rQDISC i, 0, 32⟩
/-- QREFn (03_cervik_programming_model.md). -/
def rQREF (i : Nat) : Nat := 0x60014 + 0x20 * i
/-- QREFn.REF, RC. -/
def fQREF_REF (i : Nat) : Fld := ⟨rQREF i, 0, 32⟩
/-- LCKSTn (03_cervik_programming_model.md). -/
def rLCKST (i : Nat) : Nat := 0x70000 + 8 * i
/-- LCKSTn.STATE, RO. -/
def fLCKST_STATE (i : Nat) : Fld := ⟨rLCKST i, 0, 2⟩
/-- LCKSTn.OWNER, RO. -/
def fLCKST_OWNER (i : Nat) : Fld := ⟨rLCKST i, 4, 2⟩
/-- LCKSTn.WAITERS, RO. -/
def fLCKST_WAITERS (i : Nat) : Fld := ⟨rLCKST i, 8, 3⟩
/-- LCKSEQn (03_cervik_programming_model.md). -/
def rLCKSEQ (i : Nat) : Nat := 0x70004 + 8 * i
/-- LCKSEQn.SEQ, RO. -/
def fLCKSEQ_SEQ (i : Nat) : Fld := ⟨rLCKSEQ i, 0, 32⟩
/-- LCKBRK (03_cervik_programming_model.md). -/
def rLCKBRK : Nat := 0x70800
/-- LCKBRK.BRK, RC. -/
def fLCKBRK_BRK : Fld := ⟨rLCKBRK, 0, 32⟩
/-- WINk_j (03_cervik_programming_model.md). -/
def rWIN (i j : Nat) : Nat := 0x40000 + 0x4000 * i + 0x10 * j
/-- WINk_j.V, RW. -/
def fWIN_V (i j : Nat) : Fld := ⟨rWIN i j, 0, 1⟩
/-- WINk_j.RD, RW. -/
def fWIN_RD (i j : Nat) : Fld := ⟨rWIN i j, 1, 1⟩
/-- WINk_j.WR, RW. -/
def fWIN_WR (i j : Nat) : Fld := ⟨rWIN i j, 2, 1⟩
/-- WINk_j.EX, RW. -/
def fWIN_EX (i j : Nat) : Fld := ⟨rWIN i j, 3, 1⟩
/-- WINk_j.CACHE, RW. -/
def fWIN_CACHE (i j : Nat) : Fld := ⟨rWIN i j, 4, 2⟩
/-- WINk_j.SIZE, RW. -/
def fWIN_SIZE (i j : Nat) : Fld := ⟨rWIN i j, 8, 4⟩
/-- WINk_j.BASE_LO, RW. -/
def fWIN_BASE_LO (i j : Nat) : Fld := ⟨rWIN i j, 12, 20⟩
/-- WINk_j.BASE_HI, RW. -/
def fWIN_BASE_HI (i j : Nat) : Fld := ⟨rWIN i j, 32, 16⟩
/-- MPUk_r (03_cervik_programming_model.md). -/
def rMPU (i j : Nat) : Nat := 0x40400 + 0x4000 * i + 8 * j
/-- MPUk_r.START, RW. -/
def fMPU_START (i j : Nat) : Fld := ⟨rMPU i j, 5, 27⟩
/-- MPUk_r.V, RW. -/
def fMPU_V (i j : Nat) : Fld := ⟨rMPU i j, 32, 1⟩
/-- MPUk_r.RD, RW. -/
def fMPU_RD (i j : Nat) : Fld := ⟨rMPU i j, 33, 1⟩
/-- MPUk_r.WR, RW. -/
def fMPU_WR (i j : Nat) : Fld := ⟨rMPU i j, 34, 1⟩
/-- MPUk_r.EX, RW. -/
def fMPU_EX (i j : Nat) : Fld := ⟨rMPU i j, 35, 1⟩
/-- MPUk_r.LIMIT, RW. -/
def fMPU_LIMIT (i j : Nat) : Fld := ⟨rMPU i j, 37, 27⟩
/-- CCXSELF (03_cervik_programming_model.md). -/
def rCCXSELF : Nat := 0x4f000
/-- CCXSELF.CORE, RO. -/
def fCCXSELF_CORE : Fld := ⟨rCCXSELF, 0, 2⟩
/-- LDGCFG (05_ledger.md). -/
def rLDGCFG : Nat := 0x80000
/-- LDGCFG.INTLEN, RW. -/
def fLDGCFG_INTLEN : Fld := ⟨rLDGCFG, 0, 3⟩
/-- LDGCFG.HEM, RW. -/
def fLDGCFG_HEM : Fld := ⟨rLDGCFG, 4, 12⟩
/-- LDGCFG.PRESS_PRI, RW. -/
def fLDGCFG_PRESS_PRI : Fld := ⟨rLDGCFG, 16, 3⟩
/-- LDGCFG.READ_PRI, RW. -/
def fLDGCFG_READ_PRI : Fld := ⟨rLDGCFG, 20, 3⟩
/-- LDGCFG.ADJ_PRI, RW. -/
def fLDGCFG_ADJ_PRI : Fld := ⟨rLDGCFG, 24, 3⟩
/-- LDGCFG.SCHED_EN, RW. -/
def fLDGCFG_SCHED_EN : Fld := ⟨rLDGCFG, 31, 1⟩
/-- LDGLIMIT (05_ledger.md). -/
def rLDGLIMIT : Nat := 0x80004
/-- LDGLIMIT.LATE_MAX, RW. -/
def fLDGLIMIT_LATE_MAX : Fld := ⟨rLDGLIMIT, 0, 6⟩
/-- LDGLIMIT.FUTURE, RW. -/
def fLDGLIMIT_FUTURE : Fld := ⟨rLDGLIMIT, 8, 2⟩
/-- LDGORIGIN (05_ledger.md). -/
def rLDGORIGIN : Nat := 0x80008
/-- LDGORIGIN.ORIGIN, RW. -/
def fLDGORIGIN_ORIGIN : Fld := ⟨rLDGORIGIN, 0, 64⟩
/-- LDGSTAT (05_ledger.md). -/
def rLDGSTAT : Nat := 0x80010
/-- LDGSTAT.TIMEWAIT, RO. -/
def fLDGSTAT_TIMEWAIT : Fld := ⟨rLDGSTAT, 0, 1⟩
/-- LDGSTAT.ROUND, RO. -/
def fLDGSTAT_ROUND : Fld := ⟨rLDGSTAT, 1, 1⟩
/-- LDGSTAT.HOLDBACK, RO. -/
def fLDGSTAT_HOLDBACK : Fld := ⟨rLDGSTAT, 2, 1⟩
/-- LDGSTAT.DETBRK, W1C. -/
def fLDGSTAT_DETBRK : Fld := ⟨rLDGSTAT, 3, 1⟩
/-- LDGSTAT.REPLAY, RO. -/
def fLDGSTAT_REPLAY : Fld := ⟨rLDGSTAT, 4, 1⟩
/-- LDGSTAT.LOADING, RO. -/
def fLDGSTAT_LOADING : Fld := ⟨rLDGSTAT, 5, 1⟩
/-- LDGLASTK (05_ledger.md). -/
def rLDGLASTK : Nat := 0x80014
/-- LDGLASTK.K_LAST, RO. -/
def fLDGLASTK_K_LAST : Fld := ⟨rLDGLASTK, 0, 32⟩
/-- LDGROUND (05_ledger.md). -/
def rLDGROUND : Nat := 0x80018
/-- LDGROUND.LEFT, RO. -/
def fLDGROUND_LEFT : Fld := ⟨rLDGROUND, 0, 19⟩
/-- LDGMARK (05_ledger.md). -/
def rLDGMARK : Nat := 0x80020
/-- LDGMARK.ISN, RO. -/
def fLDGMARK_ISN : Fld := ⟨rLDGMARK, 0, 48⟩
/-- LDGNEXTH (05_ledger.md). -/
def rLDGNEXTH : Nat := 0x80028
/-- LDGNEXTH.H, RO. -/
def fLDGNEXTH_H : Fld := ⟨rLDGNEXTH, 0, 64⟩
/-- LDGDIGEST (05_ledger.md). -/
def rLDGDIGEST : Nat := 0x80040
/-- LDGDIGEST.DIGEST, RO. -/
def fLDGDIGEST_DIGEST : Fld := ⟨rLDGDIGEST, 0, 256⟩
/-- LDGREPLAY (05_ledger.md). -/
def rLDGREPLAY : Nat := 0x80060
/-- LDGREPLAY.K, WO. -/
def fLDGREPLAY_K : Fld := ⟨rLDGREPLAY, 0, 32⟩
/-- LDGREBUILD (05_ledger.md). -/
def rLDGREBUILD : Nat := 0x80064
/-- LDGREBUILD.EPI, RW. -/
def fLDGREBUILD_EPI : Fld := ⟨rLDGREBUILD, 0, 18⟩
/-- LDGREBUILD.RELEASE, WO. -/
def fLDGREBUILD_RELEASE : Fld := ⟨rLDGREBUILD, 29, 1⟩
/-- LDGREBUILD.HOLD, RO. -/
def fLDGREBUILD_HOLD : Fld := ⟨rLDGREBUILD, 30, 1⟩
/-- LDGREBUILD.GO, WO. -/
def fLDGREBUILD_GO : Fld := ⟨rLDGREBUILD, 31, 1⟩
/-- LDGFIRSTK (05_ledger.md). -/
def rLDGFIRSTK : Nat := 0x80068
/-- LDGFIRSTK.K, RW. -/
def fLDGFIRSTK_K : Fld := ⟨rLDGFIRSTK, 0, 32⟩
/-- LDGREPLAYE (05_ledger.md). -/
def rLDGREPLAYE : Nat := 0x80070
/-- LDGREPLAYE.ADDR, WO. -/
def fLDGREPLAYE_ADDR : Fld := ⟨rLDGREPLAYE, 0, 48⟩
/-- LDGREPLAYE.BUSY, RO. -/
def fLDGREPLAYE_BUSY : Fld := ⟨rLDGREPLAYE, 63, 1⟩
/-- LDGLATE (05_ledger.md). -/
def rLDGLATE : Nat := 0x80080
/-- LDGLATE.LATE, RO. -/
def fLDGLATE_LATE : Fld := ⟨rLDGLATE, 0, 48⟩
/-- LDGSTALE (05_ledger.md). -/
def rLDGSTALE : Nat := 0x80088
/-- LDGSTALE.COUNT, RC. -/
def fLDGSTALE_COUNT : Fld := ⟨rLDGSTALE, 0, 32⟩
/-- LDGEARLY (05_ledger.md). -/
def rLDGEARLY : Nat := 0x8008c
/-- LDGEARLY.COUNT, RC. -/
def fLDGEARLY_COUNT : Fld := ⟨rLDGEARLY, 0, 32⟩
/-- LDGTACKREF (05_ledger.md). -/
def rLDGTACKREF : Nat := 0x80090
/-- LDGTACKREF.COUNT, RC. -/
def fLDGTACKREF_COUNT : Fld := ⟨rLDGTACKREF, 0, 32⟩
/-- LDGNOPROG (05_ledger.md). -/
def rLDGNOPROG : Nat := 0x80094
/-- LDGNOPROG.COUNT, RC. -/
def fLDGNOPROG_COUNT : Fld := ⟨rLDGNOPROG, 0, 32⟩
/-- LDGADJ (05_ledger.md). -/
def rLDGADJ : Nat := 0x80098
/-- LDGADJ.ADJ, RO. -/
def fLDGADJ_ADJ : Fld := ⟨rLDGADJ, 0, 48⟩
/-- LDGPRGn (05_ledger.md). -/
def rLDGPRG (i : Nat) : Nat := 0x80100 + 0x10 * i
/-- LDGPRGn.HANDLE, RO. -/
def fLDGPRG_HANDLE (i : Nat) : Fld := ⟨rLDGPRG i, 0, 16⟩
/-- LDGPRGn.CLASS, RO. -/
def fLDGPRG_CLASS (i : Nat) : Fld := ⟨rLDGPRG i, 16, 8⟩
/-- LDGPRGn.STATE, RO. -/
def fLDGPRG_STATE (i : Nat) : Fld := ⟨rLDGPRG i, 24, 2⟩
/-- LDGPRGn.AK, RO. -/
def fLDGPRG_AK (i : Nat) : Fld := ⟨rLDGPRG i, 32, 32⟩
/-- LDGPRGn.VERSION, RO. -/
def fLDGPRG_VERSION (i : Nat) : Fld := ⟨rLDGPRG i, 64, 32⟩
/-- LDGPRGn.LASTK, RO. -/
def fLDGPRG_LASTK (i : Nat) : Fld := ⟨rLDGPRG i, 96, 32⟩
/-- LDGLDADDR (05_ledger.md). -/
def rLDGLDADDR : Nat := 0x80200
/-- LDGLDADDR.ADDR, RW. -/
def fLDGLDADDR_ADDR : Fld := ⟨rLDGLDADDR, 0, 48⟩
/-- LDGLDCTL (05_ledger.md). -/
def rLDGLDCTL : Nat := 0x80208
/-- LDGLDCTL.GO, WO. -/
def fLDGLDCTL_GO : Fld := ⟨rLDGLDCTL, 0, 1⟩
/-- LDGLDSTAT (05_ledger.md). -/
def rLDGLDSTAT : Nat := 0x8020c
/-- LDGLDSTAT.BUSY, RO. -/
def fLDGLDSTAT_BUSY : Fld := ⟨rLDGLDSTAT, 0, 1⟩
/-- LDGLDSTAT.STATUS, RO. -/
def fLDGLDSTAT_STATUS : Fld := ⟨rLDGLDSTAT, 16, 16⟩
/-- CMTCFG (06_loss_and_theft.md). -/
def rCMTCFG : Nat := 0x90000
/-- CMTCFG.EN, RW. -/
def fCMTCFG_EN : Fld := ⟨rCMTCFG, 0, 1⟩
/-- CMTCFG.HPF, RW. -/
def fCMTCFG_HPF : Fld := ⟨rCMTCFG, 1, 1⟩
/-- CMTCFG.AUTOCAL, RW. -/
def fCMTCFG_AUTOCAL : Fld := ⟨rCMTCFG, 2, 1⟩
/-- CMTCFG.SAMP_TRIG, RW. -/
def fCMTCFG_SAMP_TRIG : Fld := ⟨rCMTCFG, 4, 3⟩
/-- CMTCFG.INT_TRIG, RW. -/
def fCMTCFG_INT_TRIG : Fld := ⟨rCMTCFG, 8, 3⟩
/-- CMTCFG.DRIFT_LIM, RW. -/
def fCMTCFG_DRIFT_LIM : Fld := ⟨rCMTCFG, 12, 4⟩
/-- CMTCFG.CH_EN, RW. -/
def fCMTCFG_CH_EN : Fld := ⟨rCMTCFG, 16, 16⟩
/-- CMTSTAT (06_loss_and_theft.md). -/
def rCMTSTAT : Nat := 0x90004
/-- CMTSTAT.RUN, RO. -/
def fCMTSTAT_RUN : Fld := ⟨rCMTSTAT, 0, 1⟩
/-- CMTSTAT.NOTRIG, RO. -/
def fCMTSTAT_NOTRIG : Fld := ⟨rCMTSTAT, 1, 1⟩
/-- CMTSTAT.SHADOW, RO. -/
def fCMTSTAT_SHADOW : Fld := ⟨rCMTSTAT, 2, 1⟩
/-- CMTSTAT.SAT, W1C. -/
def fCMTSTAT_SAT : Fld := ⟨rCMTSTAT, 16, 16⟩
/-- CMTROLE (06_loss_and_theft.md). -/
def rCMTROLE : Nat := 0x90008
/-- CMTROLE.ROLE, RW. -/
def fCMTROLE_ROLE : Fld := ⟨rCMTROLE, 0, 64⟩
/-- CMTLASTK (06_loss_and_theft.md). -/
def rCMTLASTK : Nat := 0x90010
/-- CMTLASTK.K, RO. -/
def fCMTLASTK_K : Fld := ⟨rCMTLASTK, 0, 32⟩
/-- CMTCALn (06_loss_and_theft.md). -/
def rCMTCAL (i : Nat) : Nat := 0x90100 + 0x10 * i
/-- CMTCALn.GAIN, RW. -/
def fCMTCAL_GAIN (i : Nat) : Fld := ⟨rCMTCAL i, 0, 32⟩
/-- CMTCALn.OFFSET, RW. -/
def fCMTCAL_OFFSET (i : Nat) : Fld := ⟨rCMTCAL i, 32, 24⟩
/-- CMTCALn.PHASE, RW. -/
def fCMTCAL_PHASE (i : Nat) : Fld := ⟨rCMTCAL i, 64, 11⟩
/-- CMTDRIFTn (06_loss_and_theft.md). -/
def rCMTDRIFT (i : Nat) : Nat := 0x90200 + 4 * i
/-- CMTDRIFTn.PPM, RO. -/
def fCMTDRIFT_PPM (i : Nat) : Fld := ⟨rCMTDRIFT i, 0, 24⟩
/-- CMTDRIFTn.VALID, RO. -/
def fCMTDRIFT_VALID (i : Nat) : Fld := ⟨rCMTDRIFT i, 31, 1⟩
/-- LOSCFG (06_loss_and_theft.md). -/
def rLOSCFG : Nat := 0xa0000
/-- LOSCFG.EN, RW. -/
def fLOSCFG_EN : Fld := ⟨rLOSCFG, 0, 1⟩
/-- LOSCFG.RUN, RW. -/
def fLOSCFG_RUN : Fld := ⟨rLOSCFG, 8, 4⟩
/-- LOSCFG.DARN_MAX, RW. -/
def fLOSCFG_DARN_MAX : Fld := ⟨rLOSCFG, 16, 8⟩
/-- LOSTHR (06_loss_and_theft.md). -/
def rLOSTHR : Nat := 0xa0004
/-- LOSTHR.THR_REL, RW. -/
def fLOSTHR_THR_REL : Fld := ⟨rLOSTHR, 0, 16⟩
/-- LOSTHR.THR_ABS, RW. -/
def fLOSTHR_THR_ABS : Fld := ⟨rLOSTHR, 16, 16⟩
/-- LOSCOR (06_loss_and_theft.md). -/
def rLOSCOR : Nat := 0xa0008
/-- LOSCOR.PH_THR, RW. -/
def fLOSCOR_PH_THR : Fld := ⟨rLOSCOR, 0, 8⟩
/-- LOSCOR.PH_MARGIN, RW. -/
def fLOSCOR_PH_MARGIN : Fld := ⟨rLOSCOR, 8, 8⟩
/-- LOSCOR.FD_THR, RW. -/
def fLOSCOR_FD_THR : Fld := ⟨rLOSCOR, 16, 8⟩
/-- LOSCOR.FD_MARGIN, RW. -/
def fLOSCOR_FD_MARGIN : Fld := ⟨rLOSCOR, 24, 8⟩
/-- LOSCOR.SUS_THR, RW. -/
def fLOSCOR_SUS_THR : Fld := ⟨rLOSCOR, 32, 8⟩
/-- LOSCOR.PH_N, RW. -/
def fLOSCOR_PH_N : Fld := ⟨rLOSCOR, 40, 12⟩
/-- LOSCOR.FD_N, RW. -/
def fLOSCOR_FD_N : Fld := ⟨rLOSCOR, 52, 12⟩
/-- LOSNV (06_loss_and_theft.md). -/
def rLOSNV : Nat := 0xa000c
/-- LOSNV.NV_LIM, RW. -/
def fLOSNV_NV_LIM : Fld := ⟨rLOSNV, 0, 16⟩
/-- LOSNV.VDEV, RW. -/
def fLOSNV_VDEV : Fld := ⟨rLOSNV, 16, 8⟩
/-- LOSSTAT (06_loss_and_theft.md). -/
def rLOSSTAT : Nat := 0xa0010
/-- LOSSTAT.ALARM, W1C. -/
def fLOSSTAT_ALARM : Fld := ⟨rLOSSTAT, 0, 12⟩
/-- LOSSTAT.TOPO_PEND, RO. -/
def fLOSSTAT_TOPO_PEND : Fld := ⟨rLOSSTAT, 16, 1⟩
/-- LOSTOPO (06_loss_and_theft.md). -/
def rLOSTOPO : Nat := 0xa0020
/-- LOSTOPO.BASE, RW. -/
def fLOSTOPO_BASE : Fld := ⟨rLOSTOPO, 0, 48⟩
/-- LOSTOPOSEL (06_loss_and_theft.md). -/
def rLOSTOPOSEL : Nat := 0xa0028
/-- LOSTOPOSEL.SEL, WO. -/
def fLOSTOPOSEL_SEL : Fld := ⟨rLOSTOPOSEL, 0, 1⟩
/-- LOSTOPOSEL.ACT, RO. -/
def fLOSTOPOSEL_ACT : Fld := ⟨rLOSTOPOSEL, 8, 1⟩
/-- LOSCORBASE (06_loss_and_theft.md). -/
def rLOSCORBASE : Nat := 0xa0030
/-- LOSCORBASE.BASE, RW. -/
def fLOSCORBASE_BASE : Fld := ⟨rLOSCORBASE, 0, 48⟩
/-- LOSMODELn (06_loss_and_theft.md). -/
def rLOSMODEL (i : Nat) : Nat := 0xa0100 + 0x10 * i
/-- LOSMODELn.R, RW. -/
def fLOSMODEL_R (i : Nat) : Fld := ⟨rLOSMODEL i, 0, 32⟩
/-- LOSMODELn.C, RW. -/
def fLOSMODEL_C (i : Nat) : Fld := ⟨rLOSMODEL i, 32, 32⟩
/-- LOSMODELn.A, RW. -/
def fLOSMODEL_A (i : Nat) : Fld := ⟨rLOSMODEL i, 64, 32⟩
/-- PLCFG (07_powerline.md). -/
def rPLCFG (i : Nat) : Nat := 0x100000 + 0x10000 * i
/-- PLCFG.EN, RW. -/
def fPLCFG_EN (i : Nat) : Fld := ⟨rPLCFG i, 0, 1⟩
/-- PLCFG.TXGAIN, RW. -/
def fPLCFG_TXGAIN (i : Nat) : Fld := ⟨rPLCFG i, 8, 6⟩
/-- PLCFG.FOLD_IN, RW. -/
def fPLCFG_FOLD_IN (i : Nat) : Fld := ⟨rPLCFG i, 16, 1⟩
/-- PLACC (07_powerline.md). -/
def rPLACC (i : Nat) : Nat := 0x100004 + 0x10000 * i
/-- PLACC.CWMIN, RW. -/
def fPLACC_CWMIN (i : Nat) : Fld := ⟨rPLACC i, 0, 4⟩
/-- PLACC.CWMAX, RW. -/
def fPLACC_CWMAX (i : Nat) : Fld := ⟨rPLACC i, 4, 4⟩
/-- PLACC.MAXRETRY, RW. -/
def fPLACC_MAXRETRY (i : Nat) : Fld := ⟨rPLACC i, 8, 4⟩
/-- PLACC.MAXDEFER, RW. -/
def fPLACC_MAXDEFER (i : Nat) : Fld := ⟨rPLACC i, 16, 8⟩
/-- PLTXLIM (07_powerline.md). -/
def rPLTXLIM (i : Nat) : Nat := 0x100008 + 0x10000 * i
/-- PLTXLIM.MAXSYM, RW. -/
def fPLTXLIM_MAXSYM (i : Nat) : Fld := ⟨rPLTXLIM i, 0, 10⟩
/-- PLSTAT (07_powerline.md). -/
def rPLSTAT (i : Nat) : Nat := 0x10000c + 0x10000 * i
/-- PLSTAT.TXBUSY, RO. -/
def fPLSTAT_TXBUSY (i : Nat) : Fld := ⟨rPLSTAT i, 0, 1⟩
/-- PLSTAT.REQ, RO. -/
def fPLSTAT_REQ (i : Nat) : Fld := ⟨rPLSTAT i, 1, 1⟩
/-- PLSTAT.GNT, RO. -/
def fPLSTAT_GNT (i : Nat) : Fld := ⟨rPLSTAT i, 2, 1⟩
/-- PLSTAT.DRV, RO. -/
def fPLSTAT_DRV (i : Nat) : Fld := ⟨rPLSTAT i, 4, 2⟩
/-- PLSTAT.YIELD, RO. -/
def fPLSTAT_YIELD (i : Nat) : Fld := ⟨rPLSTAT i, 6, 1⟩
/-- PLRXOK (07_powerline.md). -/
def rPLRXOK (i : Nat) : Nat := 0x100010 + 0x10000 * i
/-- PLRXOK.COUNT, RO. -/
def fPLRXOK_COUNT (i : Nat) : Fld := ⟨rPLRXOK i, 0, 48⟩
/-- PLTXOK (07_powerline.md). -/
def rPLTXOK (i : Nat) : Nat := 0x100018 + 0x10000 * i
/-- PLTXOK.COUNT, RO. -/
def fPLTXOK_COUNT (i : Nat) : Fld := ⟨rPLTXOK i, 0, 48⟩
/-- PLRXERR (07_powerline.md). -/
def rPLRXERR (i : Nat) : Nat := 0x100020 + 0x10000 * i
/-- PLRXERR.COUNT, RC. -/
def fPLRXERR_COUNT (i : Nat) : Fld := ⟨rPLRXERR i, 0, 32⟩
/-- PLTXFAIL (07_powerline.md). -/
def rPLTXFAIL (i : Nat) : Nat := 0x100024 + 0x10000 * i
/-- PLTXFAIL.COUNT, RC. -/
def fPLTXFAIL_COUNT (i : Nat) : Fld := ⟨rPLTXFAIL i, 0, 32⟩
/-- PLACKLOST (07_powerline.md). -/
def rPLACKLOST (i : Nat) : Nat := 0x100028 + 0x10000 * i
/-- PLACKLOST.COUNT, RC. -/
def fPLACKLOST_COUNT (i : Nat) : Fld := ⟨rPLACKLOST i, 0, 32⟩
/-- PLNODRV (07_powerline.md). -/
def rPLNODRV (i : Nat) : Nat := 0x10002c + 0x10000 * i
/-- PLNODRV.COUNT, RC. -/
def fPLNODRV_COUNT (i : Nat) : Fld := ⟨rPLNODRV i, 0, 32⟩
/-- PLIMP (07_powerline.md). -/
def rPLIMP (i : Nat) : Nat := 0x100030 + 0x10000 * i
/-- PLIMP.COUNT, RC. -/
def fPLIMP_COUNT (i : Nat) : Fld := ⟨rPLIMP i, 0, 32⟩
/-- PLWAITMAX (07_powerline.md). -/
def rPLWAITMAX (i : Nat) : Nat := 0x100034 + 0x10000 * i
/-- PLWAITMAX.US, RC. -/
def fPLWAITMAX_US (i : Nat) : Fld := ⟨rPLWAITMAX i, 0, 32⟩
/-- PLSMODE (07_powerline.md). -/
def rPLSMODE : Nat := 0x1c0000
/-- PLSMODE.MODE, RW. -/
def fPLSMODE_MODE : Fld := ⟨rPLSMODE, 0, 8⟩
/-- PLSMODE.FOLD_EN, RW. -/
def fPLSMODE_FOLD_EN : Fld := ⟨rPLSMODE, 8, 4⟩
/-- PLSTMASK (07_powerline.md). -/
def rPLSTMASK : Nat := 0x1c0008
/-- PLSTMASK.GROUPS, RW. -/
def fPLSTMASK_GROUPS : Fld := ⟨rPLSTMASK, 0, 58⟩
/-- PLSFOLD (07_powerline.md). -/
def rPLSFOLD : Nat := 0x1c0010
/-- PLSFOLD.MINCORR, RW. -/
def fPLSFOLD_MINCORR : Fld := ⟨rPLSFOLD, 0, 8⟩
/-- PLSIMP (07_powerline.md). -/
def rPLSIMP : Nat := 0x1c0014
/-- PLSIMP.IMPTHR, RW. -/
def fPLSIMP_IMPTHR : Fld := ⟨rPLSIMP, 0, 8⟩
/-- PLSIMP.CLIPN, RW. -/
def fPLSIMP_CLIPN : Fld := ⟨rPLSIMP, 8, 4⟩
/-- PLSTM (07_powerline.md). -/
def rPLSTM : Nat := 0x1c0018
/-- PLSTM.PERIOD, RW. -/
def fPLSTM_PERIOD : Fld := ⟨rPLSTM, 0, 16⟩
/-- PLSTM.MARGIN_LO, RW. -/
def fPLSTM_MARGIN_LO : Fld := ⟨rPLSTM, 16, 8⟩
/-- PLSTM.MARGIN_TGT, RW. -/
def fPLSTM_MARGIN_TGT : Fld := ⟨rPLSTM, 24, 8⟩
/-- PLSCELL (07_powerline.md). -/
def rPLSCELL : Nat := 0x1c001c
/-- PLSCELL.CELL, RW. -/
def fPLSCELL_CELL : Fld := ⟨rPLSCELL, 0, 16⟩
/-- PLSMESH (07_powerline.md). -/
def rPLSMESH : Nat := 0x1c0020
/-- PLSMESH.MAXHOPS, RW. -/
def fPLSMESH_MAXHOPS : Fld := ⟨rPLSMESH, 0, 3⟩
/-- PLSMESH.HOPCOST, RW. -/
def fPLSMESH_HOPCOST : Fld := ⟨rPLSMESH, 8, 16⟩
/-- PLSLDMAPk (07_powerline.md). -/
def rPLSLDMAP (i : Nat) : Nat := 0x1c0040 + 4 * i
/-- PLSLDMAPk.PORTS, RW. -/
def fPLSLDMAP_PORTS (i : Nat) : Fld := ⟨rPLSLDMAP i, 0, 12⟩
/-- PLSLDMAPk.LOCK, RW. -/
def fPLSLDMAP_LOCK (i : Nat) : Fld := ⟨rPLSLDMAP i, 31, 1⟩
/-- PLSLDSET (07_powerline.md). -/
def rPLSLDSET : Nat := 0x1c0050
/-- PLSLDSET.SETTLE, RW. -/
def fPLSLDSET_SETTLE : Fld := ⟨rPLSLDSET, 0, 8⟩
/-- PLSLDSTATk (07_powerline.md). -/
def rPLSLDSTAT (i : Nat) : Nat := 0x1c0060 + 4 * i
/-- PLSLDSTATk.BUSY, RO. -/
def fPLSLDSTAT_BUSY (i : Nat) : Fld := ⟨rPLSLDSTAT i, 0, 1⟩
/-- PLSLDSTATk.PORT, RO. -/
def fPLSLDSTAT_PORT (i : Nat) : Fld := ⟨rPLSLDSTAT i, 4, 4⟩
/-- PLSLDSTATk.HELD, RO. -/
def fPLSLDSTAT_HELD (i : Nat) : Fld := ⟨rPLSLDSTAT i, 8, 24⟩
/-- RFCFG (08_radio.md). -/
def rRFCFG (i : Nat) : Nat := 0x200000 + 0x10000 * i
/-- RFCFG.EN, RW. -/
def fRFCFG_EN (i : Nat) : Fld := ⟨rRFCFG i, 0, 1⟩
/-- RFCFG.RATE, RW. -/
def fRFCFG_RATE (i : Nat) : Fld := ⟨rRFCFG i, 1, 2⟩
/-- RFCFG.RXKINDS, RW. -/
def fRFCFG_RXKINDS (i : Nat) : Fld := ⟨rRFCFG i, 8, 6⟩
/-- RFCHMASK (08_radio.md). -/
def rRFCHMASK (i : Nat) : Nat := 0x200010 + 0x10000 * i
/-- RFCHMASK.CH, RW. -/
def fRFCHMASK_CH (i : Nat) : Fld := ⟨rRFCHMASK i, 0, 128⟩
/-- RFPROFk (08_radio.md). -/
def rRFPROF (i j : Nat) : Nat := 0x200040 + 0x10000 * i + 4 * j
/-- RFPROFk.KIND, RW. -/
def fRFPROF_KIND (i j : Nat) : Fld := ⟨rRFPROF i j, 0, 3⟩
/-- RFPROFk.MCS, RW. -/
def fRFPROF_MCS (i j : Nat) : Fld := ⟨rRFPROF i j, 4, 3⟩
/-- RFPROFk.FEC, RW. -/
def fRFPROF_FEC (i j : Nat) : Fld := ⟨rRFPROF i j, 8, 1⟩
/-- RFPROFk.DW, RW. -/
def fRFPROF_DW (i j : Nat) : Fld := ⟨rRFPROF i j, 9, 1⟩
/-- RFPROFk.FCS2, RW. -/
def fRFPROF_FCS2 (i j : Nat) : Fld := ⟨rRFPROF i j, 10, 1⟩
/-- RFPROFk.MODIDX, RW. -/
def fRFPROF_MODIDX (i j : Nat) : Fld := ⟨rRFPROF i j, 11, 1⟩
/-- RFPROFk.PRE, RW. -/
def fRFPROF_PRE (i j : Nat) : Fld := ⟨rRFPROF i j, 12, 10⟩
/-- RFPROFk.TXATT, RW. -/
def fRFPROF_TXATT (i j : Nat) : Fld := ⟨rRFPROF i j, 24, 4⟩
/-- RFSLOTCTL (08_radio.md). -/
def rRFSLOTCTL (i : Nat) : Nat := 0x200080 + 0x10000 * i
/-- RFSLOTCTL.SWAP, WO. -/
def fRFSLOTCTL_SWAP (i : Nat) : Fld := ⟨rRFSLOTCTL i, 0, 1⟩
/-- RFSLOTCTL.ACT, RO. -/
def fRFSLOTCTL_ACT (i : Nat) : Fld := ⟨rRFSLOTCTL i, 8, 1⟩
/-- RFSLOTCTL.PEND, RO. -/
def fRFSLOTCTL_PEND (i : Nat) : Fld := ⟨rRFSLOTCTL i, 9, 1⟩
/-- RFSLOTA_s (08_radio.md). -/
def rRFSLOTA (i j : Nat) : Nat := 0x201000 + 0x10000 * i + 4 * j
/-- RFSLOTA_s.ENTRY, RW. -/
def fRFSLOTA_ENTRY (i j : Nat) : Fld := ⟨rRFSLOTA i j, 0, 32⟩
/-- RFSLOTB_s (08_radio.md). -/
def rRFSLOTB (i j : Nat) : Nat := 0x201400 + 0x10000 * i + 4 * j
/-- RFSLOTB_s.ENTRY, RW. -/
def fRFSLOTB_ENTRY (i j : Nat) : Fld := ⟨rRFSLOTB i j, 0, 32⟩
/-- RFSTAT (08_radio.md). -/
def rRFSTAT (i : Nat) : Nat := 0x200084 + 0x10000 * i
/-- RFSTAT.TXBUSY, RO. -/
def fRFSTAT_TXBUSY (i : Nat) : Fld := ⟨rRFSTAT i, 0, 1⟩
/-- RFSTAT.DEMBUSY, RO. -/
def fRFSTAT_DEMBUSY (i : Nat) : Fld := ⟨rRFSTAT i, 16, 7⟩
/-- RFRXOK (08_radio.md). -/
def rRFRXOK (i : Nat) : Nat := 0x200100 + 0x10000 * i
/-- RFRXOK.COUNT, RO. -/
def fRFRXOK_COUNT (i : Nat) : Fld := ⟨rRFRXOK i, 0, 48⟩
/-- RFTXOK (08_radio.md). -/
def rRFTXOK (i : Nat) : Nat := 0x200108 + 0x10000 * i
/-- RFTXOK.COUNT, RO. -/
def fRFTXOK_COUNT (i : Nat) : Fld := ⟨rRFTXOK i, 0, 48⟩
/-- RFRXERR (08_radio.md). -/
def rRFRXERR (i : Nat) : Nat := 0x200110 + 0x10000 * i
/-- RFRXERR.COUNT, RC. -/
def fRFRXERR_COUNT (i : Nat) : Fld := ⟨rRFRXERR i, 0, 32⟩
/-- RFNODEM (08_radio.md). -/
def rRFNODEM (i : Nat) : Nat := 0x200114 + 0x10000 * i
/-- RFNODEM.COUNT, RC. -/
def fRFNODEM_COUNT (i : Nat) : Fld := ⟨rRFNODEM i, 0, 32⟩
/-- RFRXABORT (08_radio.md). -/
def rRFRXABORT (i : Nat) : Nat := 0x200118 + 0x10000 * i
/-- RFRXABORT.COUNT, RC. -/
def fRFRXABORT_COUNT (i : Nat) : Fld := ⟨rRFRXABORT i, 0, 32⟩
/-- RFACKSKIP (08_radio.md). -/
def rRFACKSKIP (i : Nat) : Nat := 0x20011c + 0x10000 * i
/-- RFACKSKIP.COUNT, RC. -/
def fRFACKSKIP_COUNT (i : Nat) : Fld := ⟨rRFACKSKIP i, 0, 32⟩
/-- RFTXDROP (08_radio.md). -/
def rRFTXDROP (i : Nat) : Nat := 0x200120 + 0x10000 * i
/-- RFTXDROP.COUNT, RC. -/
def fRFTXDROP_COUNT (i : Nat) : Fld := ⟨rRFTXDROP i, 0, 32⟩
/-- RFSF (08_radio.md). -/
def rRFSF : Nat := 0x200800
/-- RFSF.MODE, RW. -/
def fRFSF_MODE : Fld := ⟨rRFSF, 0, 1⟩
/-- RFSF.SHIFT, RW. -/
def fRFSF_SHIFT : Fld := ⟨rRFSF, 4, 4⟩
/-- RFSF.FBCH, RW. -/
def fRFSF_FBCH : Fld := ⟨rRFSF, 8, 7⟩
/-- RFSF.BWIN, RW. -/
def fRFSF_BWIN : Fld := ⟨rRFSF, 16, 8⟩
/-- RFSFOFF (08_radio.md). -/
def rRFSFOFF : Nat := 0x200808
/-- RFSFOFF.OFFSET, RW. -/
def fRFSFOFF_OFFSET : Fld := ⟨rRFSFOFF, 0, 64⟩
/-- RFSFSTAT (08_radio.md). -/
def rRFSFSTAT : Nat := 0x200810
/-- RFSFSTAT.STATE, RO. -/
def fRFSFSTAT_STATE : Fld := ⟨rRFSFSTAT, 0, 3⟩
/-- RFSFSTAT.MISSED, RO. -/
def fRFSFSTAT_MISSED : Fld := ⟨rRFSFSTAT, 4, 2⟩
/-- RFSFSTAT.HOP, RO. -/
def fRFSFSTAT_HOP : Fld := ⟨rRFSFSTAT, 8, 4⟩
/-- RFSFSTAT.SEEN, W1C. -/
def fRFSFSTAT_SEEN : Fld := ⟨rRFSFSTAT, 12, 1⟩
/-- RFSFN (08_radio.md). -/
def rRFSFN : Nat := 0x200814
/-- RFSFN.SFN, RO. -/
def fRFSFN_SFN : Fld := ⟨rRFSFN, 0, 32⟩
/-- RFCELL (08_radio.md). -/
def rRFCELL : Nat := 0x200818
/-- RFCELL.CELL, RW. -/
def fRFCELL_CELL : Fld := ⟨rRFCELL, 0, 16⟩
/-- RFFOLLOW (08_radio.md). -/
def rRFFOLLOW : Nat := 0x200820
/-- RFFOLLOW.EUI, RW. -/
def fRFFOLLOW_EUI : Fld := ⟨rRFFOLLOW, 0, 64⟩
/-- RFPARENT (08_radio.md). -/
def rRFPARENT : Nat := 0x200828
/-- RFPARENT.EUI, RO. -/
def fRFPARENT_EUI : Fld := ⟨rRFPARENT, 0, 64⟩
/-- RFFLOOD (08_radio.md). -/
def rRFFLOOD : Nat := 0x200830
/-- RFFLOOD.TTL, RW. -/
def fRFFLOOD_TTL : Fld := ⟨rRFFLOOD, 0, 4⟩
/-- RFFLOOD.RELAY, RW. -/
def fRFFLOOD_RELAY : Fld := ⟨rRFFLOOD, 4, 1⟩
/-- RFFLOOD.RLYJIT, RW. -/
def fRFFLOOD_RLYJIT : Fld := ⟨rRFFLOOD, 8, 8⟩
/-- RFFLOOD.RES, RW. -/
def fRFFLOOD_RES : Fld := ⟨rRFFLOOD, 16, 8⟩
/-- RFFLOOD.ACKHOLD, RW. -/
def fRFFLOOD_ACKHOLD : Fld := ⟨rRFFLOOD, 24, 8⟩
/-- RFLPL (08_radio.md). -/
def rRFLPL : Nat := 0x200834
/-- RFLPL.DMAX, RW. -/
def fRFLPL_DMAX : Fld := ⟨rRFLPL, 0, 12⟩
/-- RFLPL.RESID, RW. -/
def fRFLPL_RESID : Fld := ⟨rRFLPL, 12, 12⟩
/-- RFLPT (08_radio.md). -/
def rRFLPT : Nat := 0x200838
/-- RFLPT.JIT, RW. -/
def fRFLPT_JIT : Fld := ⟨rRFLPT, 0, 16⟩
/-- RFLPT.MARGIN, RW. -/
def fRFLPT_MARGIN : Fld := ⟨rRFLPT, 16, 16⟩
/-- RFLINTDUP (08_radio.md). -/
def rRFLINTDUP : Nat := 0x200840
/-- RFLINTDUP.COUNT, RC. -/
def fRFLINTDUP_COUNT : Fld := ⟨rRFLINTDUP, 0, 32⟩
/-- RFLINTEVICT (08_radio.md). -/
def rRFLINTEVICT : Nat := 0x200844
/-- RFLINTEVICT.COUNT, RC. -/
def fRFLINTEVICT_COUNT : Fld := ⟨rRFLINTEVICT, 0, 32⟩
/-- RFBMISS (08_radio.md). -/
def rRFBMISS : Nat := 0x200848
/-- RFBMISS.COUNT, RC. -/
def fRFBMISS_COUNT : Fld := ⟨rRFBMISS, 0, 32⟩
/-- RFFSEQ (08_radio.md). -/
def rRFFSEQ : Nat := 0x20084c
/-- RFFSEQ.FSEQ, RO. -/
def fRFFSEQ_FSEQ : Fld := ⟨rRFFSEQ, 0, 16⟩
/-- AESCFG (09_endpoint_messages.md). -/
def rAESCFG : Nat := 0x280000
/-- AESCFG.JOBQ, RW. -/
def fAESCFG_JOBQ : Fld := ⟨rAESCFG, 0, 7⟩
/-- AESCFG.DONEQ, RW. -/
def fAESCFG_DONEQ : Fld := ⟨rAESCFG, 8, 7⟩
/-- AESCFG.SWMIN, RW. -/
def fAESCFG_SWMIN : Fld := ⟨rAESCFG, 16, 4⟩
/-- AESCFG.EN, RW. -/
def fAESCFG_EN : Fld := ⟨rAESCFG, 31, 1⟩
/-- AESSTAT (09_endpoint_messages.md). -/
def rAESSTAT : Nat := 0x280004
/-- AESSTAT.BUSY, RO. -/
def fAESSTAT_BUSY : Fld := ⟨rAESSTAT, 0, 4⟩
/-- AESSTAT.HOLD, RO. -/
def fAESSTAT_HOLD : Fld := ⟨rAESSTAT, 4, 4⟩
/-- AESJOBSk (09_endpoint_messages.md). -/
def rAESJOBS (i : Nat) : Nat := 0x280010 + 8 * i
/-- AESJOBSk.COUNT, RO. -/
def fAESJOBS_COUNT (i : Nat) : Fld := ⟨rAESJOBS i, 0, 48⟩
/-- AESTAGF (09_endpoint_messages.md). -/
def rAESTAGF : Nat := 0x280040
/-- AESTAGF.COUNT, RC. -/
def fAESTAGF_COUNT : Fld := ⟨rAESTAGF, 0, 32⟩
/-- AESALARM (09_endpoint_messages.md). -/
def rAESALARM : Nat := 0x280044
/-- AESALARM.COUNT, RC. -/
def fAESALARM_COUNT : Fld := ⟨rAESALARM, 0, 32⟩
/-- KEPCFG (09_endpoint_messages.md). -/
def rKEPCFG : Nat := 0x3a8000
/-- KEPCFG.ACKWIN, RW. -/
def fKEPCFG_ACKWIN : Fld := ⟨rKEPCFG, 0, 12⟩
/-- KEPCFG.BUSYRETRY, RW. -/
def fKEPCFG_BUSYRETRY : Fld := ⟨rKEPCFG, 12, 12⟩
/-- KEPCFG.REKEYWARN, RW. -/
def fKEPCFG_REKEYWARN : Fld := ⟨rKEPCFG, 24, 8⟩
/-- KEPSECBASE (09_endpoint_messages.md). -/
def rKEPSECBASE : Nat := 0x3a8008
/-- KEPSECBASE.BASE, RW. -/
def fKEPSECBASE_BASE : Fld := ⟨rKEPSECBASE, 0, 48⟩
/-- KEPRXOK (09_endpoint_messages.md). -/
def rKEPRXOK : Nat := 0x3a8010
/-- KEPRXOK.COUNT, RO. -/
def fKEPRXOK_COUNT : Fld := ⟨rKEPRXOK, 0, 48⟩
/-- KEPBADF (09_endpoint_messages.md). -/
def rKEPBADF : Nat := 0x3a8020
/-- KEPBADF.COUNT, RC. -/
def fKEPBADF_COUNT : Fld := ⟨rKEPBADF, 0, 32⟩
/-- KEPUNK (09_endpoint_messages.md). -/
def rKEPUNK : Nat := 0x3a8024
/-- KEPUNK.COUNT, RC. -/
def fKEPUNK_COUNT : Fld := ⟨rKEPUNK, 0, 32⟩
/-- KEPKEY (09_endpoint_messages.md). -/
def rKEPKEY : Nat := 0x3a8028
/-- KEPKEY.COUNT, RC. -/
def fKEPKEY_COUNT : Fld := ⟨rKEPKEY, 0, 32⟩
/-- KEPREPLAY (09_endpoint_messages.md). -/
def rKEPREPLAY : Nat := 0x3a802c
/-- KEPREPLAY.COUNT, RC. -/
def fKEPREPLAY_COUNT : Fld := ⟨rKEPREPLAY, 0, 32⟩
/-- KEPTAGF (09_endpoint_messages.md). -/
def rKEPTAGF : Nat := 0x3a8030
/-- KEPTAGF.COUNT, RC. -/
def fKEPTAGF_COUNT : Fld := ⟨rKEPTAGF, 0, 32⟩
/-- KEPEXH (09_endpoint_messages.md). -/
def rKEPEXH : Nat := 0x3a8034
/-- KEPEXH.COUNT, RC. -/
def fKEPEXH_COUNT : Fld := ⟨rKEPEXH, 0, 32⟩
/-- KEPDUP (09_endpoint_messages.md). -/
def rKEPDUP : Nat := 0x3a8038
/-- KEPDUP.COUNT, RC. -/
def fKEPDUP_COUNT : Fld := ⟨rKEPDUP, 0, 32⟩
/-- KEPACKDROP (09_endpoint_messages.md). -/
def rKEPACKDROP : Nat := 0x3a803c
/-- KEPACKDROP.COUNT, RC. -/
def fKEPACKDROP_COUNT : Fld := ⟨rKEPACKDROP, 0, 32⟩
/-- KEPCTRWAIT (09_endpoint_messages.md). -/
def rKEPCTRWAIT : Nat := 0x3a8040
/-- KEPCTRWAIT.COUNT, RC. -/
def fKEPCTRWAIT_COUNT : Fld := ⟨rKEPCTRWAIT, 0, 32⟩
/-- DLMBADTIME (09_endpoint_messages.md). -/
def rDLMBADTIME : Nat := 0x3a8044
/-- DLMBADTIME.COUNT, RC. -/
def fDLMBADTIME_COUNT : Fld := ⟨rDLMBADTIME, 0, 32⟩
/-- RELTXDROP (09_endpoint_messages.md). -/
def rRELTXDROP : Nat := 0x3a8048
/-- RELTXDROP.COUNT, RC. -/
def fRELTXDROP_COUNT : Fld := ⟨rRELTXDROP, 0, 32⟩
/-- DLMCFG (09_endpoint_messages.md). -/
def rDLMCFG : Nat := 0x3a8100
/-- DLMCFG.PORT, RW. -/
def fDLMCFG_PORT : Fld := ⟨rDLMCFG, 0, 16⟩
/-- DLMCFG.DEVSIGN, RW. -/
def fDLMCFG_DEVSIGN : Fld := ⟨rDLMCFG, 16, 1⟩
/-- DLMCFG.DEVDEF, RW. -/
def fDLMCFG_DEVDEF : Fld := ⟨rDLMCFG, 17, 11⟩
/-- DLMCFG.EN, RW. -/
def fDLMCFG_EN : Fld := ⟨rDLMCFG, 31, 1⟩
/-- DLMCFG2 (09_endpoint_messages.md). -/
def rDLMCFG2 : Nat := 0x3a8108
/-- DLMCFG2.MAPBASE, RW. -/
def fDLMCFG2_MAPBASE : Fld := ⟨rDLMCFG2, 0, 48⟩
/-- RELCFG (09_endpoint_messages.md). -/
def rRELCFG : Nat := 0x3a8200
/-- RELCFG.PORT, RW. -/
def fRELCFG_PORT : Fld := ⟨rRELCFG, 0, 16⟩
/-- RELCFG.MAXLEN, RW. -/
def fRELCFG_MAXLEN : Fld := ⟨rRELCFG, 16, 11⟩
/-- RELCFG.FWD_UNKNOWN, RW. -/
def fRELCFG_FWD_UNKNOWN : Fld := ⟨rRELCFG, 30, 1⟩
/-- RELCFG.EN, RW. -/
def fRELCFG_EN : Fld := ⟨rRELCFG, 31, 1⟩
/-- RELPEERn (09_endpoint_messages.md). -/
def rRELPEER (i : Nat) : Nat := 0x3a8300 + 0x20 * i
/-- RELPEERn.EUI, RW. -/
def fRELPEER_EUI (i : Nat) : Fld := ⟨rRELPEER i, 0, 64⟩
/-- RELPEERn.SLOT, RW. -/
def fRELPEER_SLOT (i : Nat) : Fld := ⟨rRELPEER i, 64, 12⟩
/-- RELPEERn.V, RW. -/
def fRELPEER_V (i : Nat) : Fld := ⟨rRELPEER i, 95, 1⟩
/-- RELPEERn.LASTEIC, RO. -/
def fRELPEER_LASTEIC (i : Nat) : Fld := ⟨rRELPEER i, 128, 64⟩
/-- FWCAMPn (09_endpoint_messages.md). -/
def rFWCAMP (i : Nat) : Nat := 0x3a8500 + 0x40 * i
/-- FWCAMPn.CAMPAIGN, RW. -/
def fFWCAMP_CAMPAIGN (i : Nat) : Fld := ⟨rFWCAMP i, 0, 32⟩
/-- FWCAMPn.NBLK, RW. -/
def fFWCAMP_NBLK (i : Nat) : Fld := ⟨rFWCAMP i, 32, 13⟩
/-- FWCAMPn.MENDMAX, RW. -/
def fFWCAMP_MENDMAX (i : Nat) : Fld := ⟨rFWCAMP i, 48, 8⟩
/-- FWCAMPn.OPEN, RW. -/
def fFWCAMP_OPEN (i : Nat) : Fld := ⟨rFWCAMP i, 63, 1⟩
/-- FWCAMPn.GROUP_ID, RW. -/
def fFWCAMP_GROUP_ID (i : Nat) : Fld := ⟨rFWCAMP i, 64, 64⟩
/-- FWCAMPn.IMAGE, RW. -/
def fFWCAMP_IMAGE (i : Nat) : Fld := ⟨rFWCAMP i, 128, 48⟩
/-- FWCAMPn.BITMAP, RW. -/
def fFWCAMP_BITMAP (i : Nat) : Fld := ⟨rFWCAMP i, 192, 48⟩
/-- FWCAMPn.QWAIT, RW. -/
def fFWCAMP_QWAIT (i : Nat) : Fld := ⟨rFWCAMP i, 240, 16⟩
/-- SPARMk (09_endpoint_messages.md). -/
def rSPARM (i : Nat) : Nat := 0x3a8600 + 0x80 * i
/-- SPARMk.TRIG, RW. -/
def fSPARM_TRIG (i : Nat) : Fld := ⟨rSPARM i, 0, 3⟩
/-- SPARMk.REPEAT, RW. -/
def fSPARM_REPEAT (i : Nat) : Fld := ⟨rSPARM i, 4, 4⟩
/-- SPARMk.ARM, WO. -/
def fSPARM_ARM (i : Nat) : Fld := ⟨rSPARM i, 8, 1⟩
/-- SPARMk.CANCEL, WO. -/
def fSPARM_CANCEL (i : Nat) : Fld := ⟨rSPARM i, 9, 1⟩
/-- SPARMk.ARMED, RO. -/
def fSPARM_ARMED (i : Nat) : Fld := ⟨rSPARM i, 16, 1⟩
/-- SPARMk.LEN, RW. -/
def fSPARM_LEN (i : Nat) : Fld := ⟨rSPARM i, 20, 8⟩
/-- SPBUFk (09_endpoint_messages.md). -/
def rSPBUF (i : Nat) : Nat := 0x3a8640 + 0x80 * i
/-- SPBUFk.BODY, RW. -/
def fSPBUF_BODY (i : Nat) : Fld := ⟨rSPBUF i, 0, 480⟩
/-- ENCFG (10_northbound_and_seams.md). -/
def rENCFG (i : Nat) : Nat := 0x300000 + 0x10000 * i
/-- ENCFG.EN, RW. -/
def fENCFG_EN (i : Nat) : Fld := ⟨rENCFG i, 0, 1⟩
/-- ENCFG.MODE, RW. -/
def fENCFG_MODE (i : Nat) : Fld := ⟨rENCFG i, 1, 2⟩
/-- ENCFG.FWD, RW. -/
def fENCFG_FWD (i : Nat) : Fld := ⟨rENCFG i, 3, 1⟩
/-- ENCFG.VID, RW. -/
def fENCFG_VID (i : Nat) : Fld := ⟨rENCFG i, 4, 12⟩
/-- ENCFG.MTU, RW. -/
def fENCFG_MTU (i : Nat) : Fld := ⟨rENCFG i, 16, 14⟩
/-- ENSTAT (10_northbound_and_seams.md). -/
def rENSTAT (i : Nat) : Nat := 0x300004 + 0x10000 * i
/-- ENSTAT.LINK, RO. -/
def fENSTAT_LINK (i : Nat) : Fld := ⟨rENSTAT i, 0, 1⟩
/-- ENSTAT.SPEED, RO. -/
def fENSTAT_SPEED (i : Nat) : Fld := ⟨rENSTAT i, 1, 2⟩
/-- ENMAC (10_northbound_and_seams.md). -/
def rENMAC (i : Nat) : Nat := 0x300008 + 0x10000 * i
/-- ENMAC.MAC, RW. -/
def fENMAC_MAC (i : Nat) : Fld := ⟨rENMAC i, 0, 48⟩
/-- ENADDRj (10_northbound_and_seams.md). -/
def rENADDR (i j : Nat) : Nat := 0x300040 + 0x10000 * i + 0x10 * j
/-- ENADDRj.ADDR, RW. -/
def fENADDR_ADDR (i j : Nat) : Fld := ⟨rENADDR i j, 0, 128⟩
/-- ENRXOK (10_northbound_and_seams.md). -/
def rENRXOK (i : Nat) : Nat := 0x300080 + 0x10000 * i
/-- ENRXOK.COUNT, RO. -/
def fENRXOK_COUNT (i : Nat) : Fld := ⟨rENRXOK i, 0, 48⟩
/-- ENTXOK (10_northbound_and_seams.md). -/
def rENTXOK (i : Nat) : Nat := 0x300088 + 0x10000 * i
/-- ENTXOK.COUNT, RO. -/
def fENTXOK_COUNT (i : Nat) : Fld := ⟨rENTXOK i, 0, 48⟩
/-- ENDROP (10_northbound_and_seams.md). -/
def rENDROP (i : Nat) : Nat := 0x300090 + 0x10000 * i
/-- ENDROP.COUNT, RC. -/
def fENDROP_COUNT (i : Nat) : Fld := ⟨rENDROP i, 0, 32⟩
/-- ENCSUM (10_northbound_and_seams.md). -/
def rENCSUM (i : Nat) : Nat := 0x300094 + 0x10000 * i
/-- ENCSUM.COUNT, RC. -/
def fENCSUM_COUNT (i : Nat) : Fld := ⟨rENCSUM i, 0, 32⟩
/-- ENFWDDROP (10_northbound_and_seams.md). -/
def rENFWDDROP (i : Nat) : Nat := 0x300098 + 0x10000 * i
/-- ENFWDDROP.COUNT, RC. -/
def fENFWDDROP_COUNT (i : Nat) : Fld := ⟨rENFWDDROP i, 0, 32⟩
/-- PFXKEY (10_northbound_and_seams.md). -/
def rPFXKEY : Nat := 0x380000
/-- PFXKEY.KEY, RW. -/
def fPFXKEY_KEY : Fld := ⟨rPFXKEY, 0, 128⟩
/-- PFXDATA (10_northbound_and_seams.md). -/
def rPFXDATA : Nat := 0x380014
/-- PFXDATA.LEN, RW. -/
def fPFXDATA_LEN : Fld := ⟨rPFXDATA, 0, 8⟩
/-- PFXDATA.DEST, RW. -/
def fPFXDATA_DEST : Fld := ⟨rPFXDATA, 8, 2⟩
/-- PFXDATA.TARGET, RW. -/
def fPFXDATA_TARGET : Fld := ⟨rPFXDATA, 10, 3⟩
/-- PFXDATA.NH, RW. -/
def fPFXDATA_NH : Fld := ⟨rPFXDATA, 16, 8⟩
/-- PFXCMD (10_northbound_and_seams.md). -/
def rPFXCMD : Nat := 0x380018
/-- PFXCMD.OP, WO. -/
def fPFXCMD_OP : Fld := ⟨rPFXCMD, 0, 2⟩
/-- PFXSTAT (10_northbound_and_seams.md). -/
def rPFXSTAT : Nat := 0x38001c
/-- PFXSTAT.BUSY, RO. -/
def fPFXSTAT_BUSY : Fld := ⟨rPFXSTAT, 0, 1⟩
/-- PFXSTAT.STATUS, RO. -/
def fPFXSTAT_STATUS : Fld := ⟨rPFXSTAT, 16, 16⟩
/-- PFXCOUNT (10_northbound_and_seams.md). -/
def rPFXCOUNT : Nat := 0x380020
/-- PFXCOUNT.COUNT, RO. -/
def fPFXCOUNT_COUNT : Fld := ⟨rPFXCOUNT, 0, 32⟩
/-- PFXMISS (10_northbound_and_seams.md). -/
def rPFXMISS : Nat := 0x380024
/-- PFXMISS.COUNT, RC. -/
def fPFXMISS_COUNT : Fld := ⟨rPFXMISS, 0, 32⟩
/-- PFXNHn (10_northbound_and_seams.md). -/
def rPFXNH (i : Nat) : Nat := 0x380100 + 8 * i
/-- PFXNHn.MAC, RW. -/
def fPFXNH_MAC (i : Nat) : Fld := ⟨rPFXNH i, 0, 48⟩
/-- PFXNHn.PORT, RW. -/
def fPFXNH_PORT (i : Nat) : Fld := ⟨rPFXNH i, 48, 1⟩
/-- PFXNHn.V, RW. -/
def fPFXNH_V (i : Nat) : Fld := ⟨rPFXNH i, 63, 1⟩
/-- EPTDATA (10_northbound_and_seams.md). -/
def rEPTDATA : Nat := 0x360000
/-- EPTDATA.ENTRY, RW. -/
def fEPTDATA_ENTRY : Fld := ⟨rEPTDATA, 0, 256⟩
/-- EPTCMD (10_northbound_and_seams.md). -/
def rEPTCMD : Nat := 0x360020
/-- EPTCMD.OP, WO. -/
def fEPTCMD_OP : Fld := ⟨rEPTCMD, 0, 2⟩
/-- EPTSTAT (10_northbound_and_seams.md). -/
def rEPTSTAT : Nat := 0x360024
/-- EPTSTAT.BUSY, RO. -/
def fEPTSTAT_BUSY : Fld := ⟨rEPTSTAT, 0, 1⟩
/-- EPTSTAT.STATUS, RO. -/
def fEPTSTAT_STATUS : Fld := ⟨rEPTSTAT, 16, 16⟩
/-- EPTUSED (10_northbound_and_seams.md). -/
def rEPTUSED : Nat := 0x360028
/-- EPTUSED.BUCKET, RO. -/
def fEPTUSED_BUCKET : Fld := ⟨rEPTUSED, 0, 20⟩
/-- EPTUSED.OVF, RO. -/
def fEPTUSED_OVF : Fld := ⟨rEPTUSED, 32, 14⟩
/-- EPTLOCAL (10_northbound_and_seams.md). -/
def rEPTLOCAL : Nat := 0x360030
/-- EPTLOCAL.COUNT, RO. -/
def fEPTLOCAL_COUNT : Fld := ⟨rEPTLOCAL, 0, 32⟩
/-- EPTMISS (10_northbound_and_seams.md). -/
def rEPTMISS : Nat := 0x360034
/-- EPTMISS.COUNT, RC. -/
def fEPTMISS_COUNT : Fld := ⟨rEPTMISS, 0, 32⟩
/-- NBTCFG (10_northbound_and_seams.md). -/
def rNBTCFG : Nat := 0x370000
/-- NBTCFG.AGE, RW. -/
def fNBTCFG_AGE : Fld := ⟨rNBTCFG, 0, 16⟩
/-- NBTCFG.MINAGE, RW. -/
def fNBTCFG_MINAGE : Fld := ⟨rNBTCFG, 16, 16⟩
/-- NBTCMD (10_northbound_and_seams.md). -/
def rNBTCMD : Nat := 0x370004
/-- NBTCMD.IDX, RW. -/
def fNBTCMD_IDX : Fld := ⟨rNBTCMD, 0, 16⟩
/-- NBTCMD.OP, WO. -/
def fNBTCMD_OP : Fld := ⟨rNBTCMD, 16, 2⟩
/-- NBTSTAT (10_northbound_and_seams.md). -/
def rNBTSTAT : Nat := 0x370008
/-- NBTSTAT.USED, RO. -/
def fNBTSTAT_USED : Fld := ⟨rNBTSTAT, 0, 17⟩
/-- NBTLAST (10_northbound_and_seams.md). -/
def rNBTLAST : Nat := 0x37000c
/-- NBTLAST.STATUS, RO. -/
def fNBTLAST_STATUS : Fld := ⟨rNBTLAST, 0, 16⟩
/-- NBTFULL (10_northbound_and_seams.md). -/
def rNBTFULL : Nat := 0x370010
/-- NBTFULL.COUNT, RC. -/
def fNBTFULL_COUNT : Fld := ⟨rNBTFULL, 0, 32⟩
/-- NBTAGED (10_northbound_and_seams.md). -/
def rNBTAGED : Nat := 0x370014
/-- NBTAGED.COUNT, RC. -/
def fNBTAGED_COUNT : Fld := ⟨rNBTAGED, 0, 32⟩
/-- DLCFG (10_northbound_and_seams.md). -/
def rDLCFG (i : Nat) : Nat := 0x320000 + 0x10000 * i
/-- DLCFG.EN, RW. -/
def fDLCFG_EN (i : Nat) : Fld := ⟨rDLCFG i, 0, 1⟩
/-- DLCFG.RETRYMAX, RW. -/
def fDLCFG_RETRYMAX (i : Nat) : Fld := ⟨rDLCFG i, 4, 4⟩
/-- DLCFG.RTO, RW. -/
def fDLCFG_RTO (i : Nat) : Fld := ⟨rDLCFG i, 8, 16⟩
/-- DLSTAT (10_northbound_and_seams.md). -/
def rDLSTAT (i : Nat) : Nat := 0x320004 + 0x10000 * i
/-- DLSTAT.LOCK, RO. -/
def fDLSTAT_LOCK (i : Nat) : Fld := ⟨rDLSTAT i, 0, 1⟩
/-- DLSTAT.UP, RO. -/
def fDLSTAT_UP (i : Nat) : Fld := ⟨rDLSTAT i, 1, 1⟩
/-- DLSTAT.MISWIRE, RO. -/
def fDLSTAT_MISWIRE (i : Nat) : Fld := ⟨rDLSTAT i, 2, 1⟩
/-- DLSTAT.FAR, RO. -/
def fDLSTAT_FAR (i : Nat) : Fld := ⟨rDLSTAT i, 4, 3⟩
/-- DLSTAT.FARSTBY, RO. -/
def fDLSTAT_FARSTBY (i : Nat) : Fld := ⟨rDLSTAT i, 7, 1⟩
/-- DLSTAT.EPOCHDIFF, W1C. -/
def fDLSTAT_EPOCHDIFF (i : Nat) : Fld := ⟨rDLSTAT i, 8, 1⟩
/-- DLCELLT (10_northbound_and_seams.md). -/
def rDLCELLT (i : Nat) : Nat := 0x320010 + 0x10000 * i
/-- DLCELLT.COUNT, RO. -/
def fDLCELLT_COUNT (i : Nat) : Fld := ⟨rDLCELLT i, 0, 48⟩
/-- DLCELLR (10_northbound_and_seams.md). -/
def rDLCELLR (i : Nat) : Nat := 0x320018 + 0x10000 * i
/-- DLCELLR.COUNT, RO. -/
def fDLCELLR_COUNT (i : Nat) : Fld := ⟨rDLCELLR i, 0, 48⟩
/-- DLCRCERR (10_northbound_and_seams.md). -/
def rDLCRCERR (i : Nat) : Nat := 0x320020 + 0x10000 * i
/-- DLCRCERR.COUNT, RC. -/
def fDLCRCERR_COUNT (i : Nat) : Fld := ⟨rDLCRCERR i, 0, 32⟩
/-- DLREPLAY (10_northbound_and_seams.md). -/
def rDLREPLAY (i : Nat) : Nat := 0x320024 + 0x10000 * i
/-- DLREPLAY.COUNT, RC. -/
def fDLREPLAY_COUNT (i : Nat) : Fld := ⟨rDLREPLAY i, 0, 32⟩
/-- DLBADCELL (10_northbound_and_seams.md). -/
def rDLBADCELL (i : Nat) : Nat := 0x320028 + 0x10000 * i
/-- DLBADCELL.COUNT, RC. -/
def fDLBADCELL_COUNT (i : Nat) : Fld := ⟨rDLBADCELL i, 0, 32⟩
/-- DLDOWN (10_northbound_and_seams.md). -/
def rDLDOWN (i : Nat) : Nat := 0x32002c + 0x10000 * i
/-- DLDOWN.COUNT, RC. -/
def fDLDOWN_COUNT (i : Nat) : Fld := ⟨rDLDOWN i, 0, 32⟩
/-- SEMCFG (10_northbound_and_seams.md). -/
def rSEMCFG : Nat := 0x390000
/-- SEMCFG.NCHIPS, RW. -/
def fSEMCFG_NCHIPS : Fld := ⟨rSEMCFG, 0, 4⟩
/-- SEMCFG.SELF, RW. -/
def fSEMCFG_SELF : Fld := ⟨rSEMCFG, 4, 3⟩
/-- SEMCFG.MOVERETRY, RW. -/
def fSEMCFG_MOVERETRY : Fld := ⟨rSEMCFG, 8, 16⟩
/-- SEMCFG.MOVETMO, RW. -/
def fSEMCFG_MOVETMO : Fld := ⟨rSEMCFG, 24, 8⟩
/-- SEMEPOCH (10_northbound_and_seams.md). -/
def rSEMEPOCH : Nat := 0x390004
/-- SEMEPOCH.EPOCH, RO. -/
def fSEMEPOCH_EPOCH : Fld := ⟨rSEMEPOCH, 0, 32⟩
/-- SEMWRITE (10_northbound_and_seams.md). -/
def rSEMWRITE : Nat := 0x390008
/-- SEMWRITE.BUCKET, RW. -/
def fSEMWRITE_BUCKET : Fld := ⟨rSEMWRITE, 0, 12⟩
/-- SEMWRITE.HOME, RW. -/
def fSEMWRITE_HOME : Fld := ⟨rSEMWRITE, 12, 3⟩
/-- SEMWRITE.GO, WO. -/
def fSEMWRITE_GO : Fld := ⟨rSEMWRITE, 31, 1⟩
/-- SEMMOVE (10_northbound_and_seams.md). -/
def rSEMMOVE : Nat := 0x390010
/-- SEMMOVE.BUCKET, RW. -/
def fSEMMOVE_BUCKET : Fld := ⟨rSEMMOVE, 0, 12⟩
/-- SEMMOVE.NEW, RW. -/
def fSEMMOVE_NEW : Fld := ⟨rSEMMOVE, 12, 3⟩
/-- SEMMOVE.ARM, WO. -/
def fSEMMOVE_ARM : Fld := ⟨rSEMMOVE, 15, 1⟩
/-- SEMMOVE.ABORT, WO. -/
def fSEMMOVE_ABORT : Fld := ⟨rSEMMOVE, 16, 1⟩
/-- SEMMOVE.M, RW. -/
def fSEMMOVE_M : Fld := ⟨rSEMMOVE, 32, 32⟩
/-- SEMSTAT (10_northbound_and_seams.md). -/
def rSEMSTAT : Nat := 0x390018
/-- SEMSTAT.MOVE, RO. -/
def fSEMSTAT_MOVE : Fld := ⟨rSEMSTAT, 0, 2⟩
/-- SEMSTAT.SIDE, RO. -/
def fSEMSTAT_SIDE : Fld := ⟨rSEMSTAT, 2, 1⟩
/-- SEMSTAT.STATUS, RO. -/
def fSEMSTAT_STATUS : Fld := ⟨rSEMSTAT, 16, 16⟩
/-- SEMFWD (10_northbound_and_seams.md). -/
def rSEMFWD : Nat := 0x390020
/-- SEMFWD.COUNT, RO. -/
def fSEMFWD_COUNT : Fld := ⟨rSEMFWD, 0, 48⟩
/-- REPCFG (10_northbound_and_seams.md). -/
def rREPCFG : Nat := 0x3a0000
/-- REPCFG.PORT, RW. -/
def fREPCFG_PORT : Fld := ⟨rREPCFG, 0, 16⟩
/-- REPCFG.WIN, RW. -/
def fREPCFG_WIN : Fld := ⟨rREPCFG, 16, 8⟩
/-- REPCFG.FLUSHMS, RW. -/
def fREPCFG_FLUSHMS : Fld := ⟨rREPCFG, 24, 7⟩
/-- REPCFG.SIGN, RW. -/
def fREPCFG_SIGN : Fld := ⟨rREPCFG, 31, 1⟩
/-- REPCFG.MTU, RW. -/
def fREPCFG_MTU : Fld := ⟨rREPCFG, 32, 14⟩
/-- REPCFG.EN, RW. -/
def fREPCFG_EN : Fld := ⟨rREPCFG, 63, 1⟩
/-- REPDEST (10_northbound_and_seams.md). -/
def rREPDEST : Nat := 0x3a0010
/-- REPDEST.ADDR, RW. -/
def fREPDEST_ADDR : Fld := ⟨rREPDEST, 0, 128⟩
/-- REPDPORT (10_northbound_and_seams.md). -/
def rREPDPORT : Nat := 0x3a0020
/-- REPDPORT.DPORT, RW. -/
def fREPDPORT_DPORT : Fld := ⟨rREPDPORT, 0, 16⟩
/-- REPDPORT.UPLINK, RW. -/
def fREPDPORT_UPLINK : Fld := ⟨rREPDPORT, 16, 3⟩
/-- REPDPORT.ALTPORT, RW. -/
def fREPDPORT_ALTPORT : Fld := ⟨rREPDPORT, 20, 1⟩
/-- REPKEYS (10_northbound_and_seams.md). -/
def rREPKEYS : Nat := 0x3a0024
/-- REPKEYS.CKEY, RW. -/
def fREPKEYS_CKEY : Fld := ⟨rREPKEYS, 0, 12⟩
/-- REPTMR (10_northbound_and_seams.md). -/
def rREPTMR : Nat := 0x3a0028
/-- REPTMR.RTO, RW. -/
def fREPTMR_RTO : Fld := ⟨rREPTMR, 0, 16⟩
/-- REPTMR.REKEYH, RW. -/
def fREPTMR_REKEYH : Fld := ⟨rREPTMR, 16, 8⟩
/-- REPSTAT (10_northbound_and_seams.md). -/
def rREPSTAT : Nat := 0x3a0030
/-- REPSTAT.SESS, RO. -/
def fREPSTAT_SESS : Fld := ⟨rREPSTAT, 0, 2⟩
/-- REPSTAT.HOLDFULL, RO. -/
def fREPSTAT_HOLDFULL : Fld := ⟨rREPSTAT, 2, 1⟩
/-- REPSTAT.SPILL, RO. -/
def fREPSTAT_SPILL : Fld := ⟨rREPSTAT, 3, 1⟩
/-- REPSTAT.INFLIGHT, RO. -/
def fREPSTAT_INFLIGHT : Fld := ⟨rREPSTAT, 8, 8⟩
/-- REPSID (10_northbound_and_seams.md). -/
def rREPSID : Nat := 0x3a0038
/-- REPSID.VALUE, RO. -/
def fREPSID_VALUE : Fld := ⟨rREPSID, 0, 64⟩
/-- REPBSEQ (10_northbound_and_seams.md). -/
def rREPBSEQ : Nat := 0x3a0040
/-- REPBSEQ.VALUE, RO. -/
def fREPBSEQ_VALUE : Fld := ⟨rREPBSEQ, 0, 64⟩
/-- REPBUF (10_northbound_and_seams.md). -/
def rREPBUF : Nat := 0x3a0050
/-- REPBUF.BASE, RW. -/
def fREPBUF_BASE : Fld := ⟨rREPBUF, 0, 48⟩
/-- REPBUF.SIZE, RW. -/
def fREPBUF_SIZE : Fld := ⟨rREPBUF, 48, 16⟩
/-- REPHOLD (10_northbound_and_seams.md). -/
def rREPHOLD : Nat := 0x3a0060
/-- REPHOLD.BUDGET, RW. -/
def fREPHOLD_BUDGET : Fld := ⟨rREPHOLD, 0, 16⟩
/-- REPHOLDUSE (10_northbound_and_seams.md). -/
def rREPHOLDUSE : Nat := 0x3a0068
/-- REPHOLDUSE.BYTES, RO. -/
def fREPHOLDUSE_BYTES : Fld := ⟨rREPHOLDUSE, 0, 48⟩
/-- REPRESEND (10_northbound_and_seams.md). -/
def rREPRESEND : Nat := 0x3a0080
/-- REPRESEND.COUNT, RC. -/
def fREPRESEND_COUNT : Fld := ⟨rREPRESEND, 0, 32⟩
/-- REPHOLDDROP (10_northbound_and_seams.md). -/
def rREPHOLDDROP : Nat := 0x3a0084
/-- REPHOLDDROP.COUNT, RC. -/
def fREPHOLDDROP_COUNT : Fld := ⟨rREPHOLDDROP, 0, 32⟩
/-- REPBADDG (10_northbound_and_seams.md). -/
def rREPBADDG : Nat := 0x3a0088
/-- REPBADDG.COUNT, RC. -/
def fREPBADDG_COUNT : Fld := ⟨rREPBADDG, 0, 32⟩
/-- TIMCFG (11_time_base.md). -/
def rTIMCFG : Nat := 0x3c0000
/-- TIMCFG.PRESS_TRIG, RW. -/
def fTIMCFG_PRESS_TRIG : Fld := ⟨rTIMCFG, 0, 3⟩
/-- TIMCFG.INVAL, WO. -/
def fTIMCFG_INVAL : Fld := ⟨rTIMCFG, 8, 1⟩
/-- TIMSTAT (11_time_base.md). -/
def rTIMSTAT : Nat := 0x3c0004
/-- TIMSTAT.VALID, RO. -/
def fTIMSTAT_VALID : Fld := ⟨rTIMSTAT, 0, 1⟩
/-- TIMSTAT.EVER, RO. -/
def fTIMSTAT_EVER : Fld := ⟨rTIMSTAT, 1, 1⟩
/-- TIMSTAT.COARSE, RO. -/
def fTIMSTAT_COARSE : Fld := ⟨rTIMSTAT, 2, 1⟩
/-- TIMSNAP (11_time_base.md). -/
def rTIMSNAP : Nat := 0x3c0010
/-- TIMSNAP.CHIP, RO. -/
def fTIMSNAP_CHIP : Fld := ⟨rTIMSNAP, 0, 64⟩
/-- TIMSNAP.RAW, RO. -/
def fTIMSNAP_RAW : Fld := ⟨rTIMSNAP, 64, 64⟩
/-- TIMSET (11_time_base.md). -/
def rTIMSET : Nat := 0x3c0020
/-- TIMSET.VALUE, WO. -/
def fTIMSET_VALUE : Fld := ⟨rTIMSET, 0, 64⟩
/-- TIMSTEP (11_time_base.md). -/
def rTIMSTEP : Nat := 0x3c0028
/-- TIMSTEP.VALUE, WO. -/
def fTIMSTEP_VALUE : Fld := ⟨rTIMSTEP, 0, 64⟩
/-- TIMINCR (11_time_base.md). -/
def rTIMINCR : Nat := 0x3c0030
/-- TIMINCR.INCR, RW. -/
def fTIMINCR_INCR : Fld := ⟨rTIMINCR, 0, 64⟩
/-- TIMPTP (11_time_base.md). -/
def rTIMPTP : Nat := 0x3c0038
/-- TIMPTP.UTCOFF, RW. -/
def fTIMPTP_UTCOFF : Fld := ⟨rTIMPTP, 0, 16⟩
/-- TIMSTEPREC (11_time_base.md). -/
def rTIMSTEPREC : Nat := 0x3c0040
/-- TIMSTEPREC.STATUS, RO. -/
def fTIMSTEPREC_STATUS : Fld := ⟨rTIMSTEPREC, 0, 32⟩
/-- TIMSTEPREC.SLOT, RW. -/
def fTIMSTEPREC_SLOT : Fld := ⟨rTIMSTEPREC, 32, 12⟩
/-- TIMSTEPREC.BUSY, RO. -/
def fTIMSTEPREC_BUSY : Fld := ⟨rTIMSTEPREC, 62, 1⟩
/-- TIMSTEPREC.GO, WO. -/
def fTIMSTEPREC_GO : Fld := ⟨rTIMSTEPREC, 63, 1⟩
/-- TIMSTEPADDR (11_time_base.md). -/
def rTIMSTEPADDR : Nat := 0x3c0048
/-- TIMSTEPADDR.ADDR, RW. -/
def fTIMSTEPADDR_ADDR : Fld := ⟨rTIMSTEPADDR, 0, 48⟩
/-- TIMSTEPSEQ (11_time_base.md). -/
def rTIMSTEPSEQ : Nat := 0x3c0050
/-- TIMSTEPSEQ.SEQ, RO. -/
def fTIMSTEPSEQ_SEQ : Fld := ⟨rTIMSTEPSEQ, 0, 64⟩
/-- TIMBUDGET (11_time_base.md). -/
def rTIMBUDGET : Nat := 0x3c0058
/-- TIMBUDGET.NS, RO. -/
def fTIMBUDGET_NS : Fld := ⟨rTIMBUDGET, 0, 31⟩
/-- TIMTRIGCTLn (11_time_base.md). -/
def rTIMTRIGCTL (i : Nat) : Nat := 0x3c0100 + 0x20 * i
/-- TIMTRIGCTLn.EN, RW. -/
def fTIMTRIGCTL_EN (i : Nat) : Fld := ⟨rTIMTRIGCTL i, 0, 1⟩
/-- TIMTRIGCTLn.MODE, RW. -/
def fTIMTRIGCTL_MODE (i : Nat) : Fld := ⟨rTIMTRIGCTL i, 1, 1⟩
/-- TIMTRIGCTLn.SKIP, RC. -/
def fTIMTRIGCTL_SKIP (i : Nat) : Fld := ⟨rTIMTRIGCTL i, 16, 16⟩
/-- TIMTRIGSTARTn (11_time_base.md). -/
def rTIMTRIGSTART (i : Nat) : Nat := 0x3c0108 + 0x20 * i
/-- TIMTRIGSTARTn.VALUE, RW. -/
def fTIMTRIGSTART_VALUE (i : Nat) : Fld := ⟨rTIMTRIGSTART i, 0, 64⟩
/-- TIMTRIGPERn (11_time_base.md). -/
def rTIMTRIGPER (i : Nat) : Nat := 0x3c0110 + 0x20 * i
/-- TIMTRIGPERn.VALUE, RW. -/
def fTIMTRIGPER_VALUE (i : Nat) : Fld := ⟨rTIMTRIGPER i, 0, 64⟩
/-- TIMPPSO (11_time_base.md). -/
def rTIMPPSO : Nat := 0x3c0200
/-- TIMPPSO.EN, RW. -/
def fTIMPPSO_EN : Fld := ⟨rTIMPPSO, 0, 1⟩
/-- TIMPPSO.WIDTH, RW. -/
def fTIMPPSO_WIDTH : Fld := ⟨rTIMPPSO, 8, 8⟩
/-- TIMPPSIN (11_time_base.md). -/
def rTIMPPSIN : Nat := 0x3c0210
/-- TIMPPSIN.CHIP, RO. -/
def fTIMPPSIN_CHIP : Fld := ⟨rTIMPPSIN, 0, 64⟩
/-- TIMPPSIN.RAW, RO. -/
def fTIMPPSIN_RAW : Fld := ⟨rTIMPPSIN, 64, 63⟩
/-- TIMPPSIN.OVR, RO. -/
def fTIMPPSIN_OVR : Fld := ⟨rTIMPPSIN, 127, 1⟩
/-- TIMTXTSq (11_time_base.md). -/
def rTIMTXTS (i : Nat) : Nat := 0x3c0400 + 0x10 * i
/-- TIMTXTSq.FID, RC. -/
def fTIMTXTS_FID (i : Nat) : Fld := ⟨rTIMTXTS i, 0, 16⟩
/-- TIMTXTSq.VALID, RC. -/
def fTIMTXTS_VALID (i : Nat) : Fld := ⟨rTIMTXTS i, 16, 1⟩
/-- TIMTXTSq.GAP, RC. -/
def fTIMTXTS_GAP (i : Nat) : Fld := ⟨rTIMTXTS i, 17, 1⟩
/-- TIMTXTSq.CHIP, RO. -/
def fTIMTXTS_CHIP (i : Nat) : Fld := ⟨rTIMTXTS i, 32, 64⟩
/-- TIMTXLOSTq (11_time_base.md). -/
def rTIMTXLOST (i : Nat) : Nat := 0x3c0600 + 4 * i
/-- TIMTXLOSTq.COUNT, RC. -/
def fTIMTXLOST_COUNT (i : Nat) : Fld := ⟨rTIMTXLOST i, 0, 32⟩
/-- TIMCORRq (11_time_base.md). -/
def rTIMCORR (i : Nat) : Nat := 0x3c0700 + 8 * i
/-- TIMCORRq.TX, RW. -/
def fTIMCORR_TX (i : Nat) : Fld := ⟨rTIMCORR i, 0, 32⟩
/-- TIMCORRq.RX, RW. -/
def fTIMCORR_RX (i : Nat) : Fld := ⟨rTIMCORR i, 32, 32⟩
/-- TWNCFG (12_twin_operation.md). -/
def rTWNCFG : Nat := 0x3d0000
/-- TWNCFG.EN, RW. -/
def fTWNCFG_EN : Fld := ⟨rTWNCFG, 0, 1⟩
/-- TWNCFG.SIDE, RW. -/
def fTWNCFG_SIDE : Fld := ⟨rTWNCFG, 1, 1⟩
/-- TWNCFG.AUTOTKO, RW. -/
def fTWNCFG_AUTOTKO : Fld := ⟨rTWNCFG, 2, 1⟩
/-- TWNCFG.TKOSUSP, RW. -/
def fTWNCFG_TKOSUSP : Fld := ⟨rTWNCFG, 3, 1⟩
/-- TWNCFG.ACKHOLD, RW. -/
def fTWNCFG_ACKHOLD : Fld := ⟨rTWNCFG, 4, 1⟩
/-- TWNCFG.HOLDOFF, RW. -/
def fTWNCFG_HOLDOFF : Fld := ⟨rTWNCFG, 8, 8⟩
/-- TWNCFG.GRACE, RW. -/
def fTWNCFG_GRACE : Fld := ⟨rTWNCFG, 16, 8⟩
/-- TWNCFG.CATCH, RW. -/
def fTWNCFG_CATCH : Fld := ⟨rTWNCFG, 24, 4⟩
/-- TWNTMR (12_twin_operation.md). -/
def rTWNTMR : Nat := 0x3d0004
/-- TWNTMR.BEAT, RW. -/
def fTWNTMR_BEAT : Fld := ⟨rTWNTMR, 0, 8⟩
/-- TWNTMR.SILENT, RW. -/
def fTWNTMR_SILENT : Fld := ⟨rTWNTMR, 8, 16⟩
/-- TWNTMR.KEEP, RW. -/
def fTWNTMR_KEEP : Fld := ⟨rTWNTMR, 24, 8⟩
/-- TWNWIN (12_twin_operation.md). -/
def rTWNWIN : Nat := 0x3d0008
/-- TWNWIN.WIN, RW. -/
def fTWNWIN_WIN : Fld := ⟨rTWNWIN, 0, 17⟩
/-- TWNSTAT (12_twin_operation.md). -/
def rTWNSTAT : Nat := 0x3d0010
/-- TWNSTAT.ROLE, RO. -/
def fTWNSTAT_ROLE : Fld := ⟨rTWNSTAT, 0, 2⟩
/-- TWNSTAT.SYNC, RO. -/
def fTWNSTAT_SYNC : Fld := ⟨rTWNSTAT, 4, 2⟩
/-- TWNSTAT.ALONE, RO. -/
def fTWNSTAT_ALONE : Fld := ⟨rTWNSTAT, 8, 1⟩
/-- TWNSTAT.PEERSILENT, RO. -/
def fTWNSTAT_PEERSILENT : Fld := ⟨rTWNSTAT, 9, 1⟩
/-- TWNSTAT.TKOBLOCKED, W1C. -/
def fTWNSTAT_TKOBLOCKED : Fld := ⟨rTWNSTAT, 10, 1⟩
/-- TWNSTAT.DIGMIS, W1C. -/
def fTWNSTAT_DIGMIS : Fld := ⟨rTWNSTAT, 11, 1⟩
/-- TWNSTAT.SIDECLASH, RO. -/
def fTWNSTAT_SIDECLASH : Fld := ⟨rTWNSTAT, 12, 1⟩
/-- TWNSTAT.ACTIN, RO. -/
def fTWNSTAT_ACTIN : Fld := ⟨rTWNSTAT, 16, 1⟩
/-- TWNSTAT.ACTOUT, RO. -/
def fTWNSTAT_ACTOUT : Fld := ⟨rTWNSTAT, 17, 1⟩
/-- TWNSTAT.GATE, RO. -/
def fTWNSTAT_GATE : Fld := ⟨rTWNSTAT, 18, 1⟩
/-- TWNCTL (12_twin_operation.md). -/
def rTWNCTL : Nat := 0x3d0014
/-- TWNCTL.FORCE, WO. -/
def fTWNCTL_FORCE : Fld := ⟨rTWNCTL, 0, 1⟩
/-- TWNCTL.DRAIN, WO. -/
def fTWNCTL_DRAIN : Fld := ⟨rTWNCTL, 1, 1⟩
/-- TWNCTL.DETACH, WO. -/
def fTWNCTL_DETACH : Fld := ⟨rTWNCTL, 2, 1⟩
/-- TWNCTL.RESYNC, WO. -/
def fTWNCTL_RESYNC : Fld := ⟨rTWNCTL, 3, 1⟩
/-- TWNCTL.KEY, WO. -/
def fTWNCTL_KEY : Fld := ⟨rTWNCTL, 16, 16⟩
/-- TWNSSEQ (12_twin_operation.md). -/
def rTWNSSEQ : Nat := 0x3d0020
/-- TWNSSEQ.SSEQ, RO. -/
def fTWNSSEQ_SSEQ : Fld := ⟨rTWNSSEQ, 0, 48⟩
/-- TWNCONF (12_twin_operation.md). -/
def rTWNCONF : Nat := 0x3d0028
/-- TWNCONF.SSEQ, RO. -/
def fTWNCONF_SSEQ : Fld := ⟨rTWNCONF, 0, 48⟩
/-- TWNTKOISN (12_twin_operation.md). -/
def rTWNTKOISN : Nat := 0x3d0030
/-- TWNTKOISN.ISN, RO. -/
def fTWNTKOISN_ISN : Fld := ⟨rTWNTKOISN, 0, 48⟩
/-- TWNDIGK (12_twin_operation.md). -/
def rTWNDIGK : Nat := 0x3d0038
/-- TWNDIGK.K, RO. -/
def fTWNDIGK_K : Fld := ⟨rTWNDIGK, 0, 32⟩
/-- TWNDIGMIS (12_twin_operation.md). -/
def rTWNDIGMIS : Nat := 0x3d0040
/-- TWNDIGMIS.COUNT, RC. -/
def fTWNDIGMIS_COUNT : Fld := ⟨rTWNDIGMIS, 0, 32⟩
/-- TWNGAP (12_twin_operation.md). -/
def rTWNGAP : Nat := 0x3d0044
/-- TWNGAP.COUNT, RC. -/
def fTWNGAP_COUNT : Fld := ⟨rTWNGAP, 0, 32⟩
/-- TWNTKO (12_twin_operation.md). -/
def rTWNTKO : Nat := 0x3d0048
/-- TWNTKO.COUNT, RC. -/
def fTWNTKO_COUNT : Fld := ⟨rTWNTKO, 0, 32⟩
/-- TWNRESCUE (12_twin_operation.md). -/
def rTWNRESCUE : Nat := 0x3d004c
/-- TWNRESCUE.COUNT, RC. -/
def fTWNRESCUE_COUNT : Fld := ⟨rTWNRESCUE, 0, 32⟩
/-- KEYCMD (13_keys_and_lifecycle.md). -/
def rKEYCMD : Nat := 0x2c0000
/-- KEYCMD.OP, WO. -/
def fKEYCMD_OP : Fld := ⟨rKEYCMD, 0, 8⟩
/-- KEYARG (13_keys_and_lifecycle.md). -/
def rKEYARG : Nat := 0x2c0008
/-- KEYARG.SLOT, RW. -/
def fKEYARG_SLOT : Fld := ⟨rKEYARG, 0, 12⟩
/-- KEYARG.PSLOT, RW. -/
def fKEYARG_PSLOT : Fld := ⟨rKEYARG, 16, 12⟩
/-- KEYARG.TYPE, RW. -/
def fKEYARG_TYPE : Fld := ⟨rKEYARG, 32, 4⟩
/-- KEYARG.MASK, RW. -/
def fKEYARG_MASK : Fld := ⟨rKEYARG, 40, 8⟩
/-- KEYARG.EPI, RW. -/
def fKEYARG_EPI : Fld := ⟨rKEYARG, 48, 18⟩
/-- KEYARG.ADDR, RW. -/
def fKEYARG_ADDR : Fld := ⟨rKEYARG, 80, 48⟩
/-- KEYSTAT (13_keys_and_lifecycle.md). -/
def rKEYSTAT : Nat := 0x2c0018
/-- KEYSTAT.BUSY, RO. -/
def fKEYSTAT_BUSY : Fld := ⟨rKEYSTAT, 0, 1⟩
/-- KEYSTAT.ARMED, RO. -/
def fKEYSTAT_ARMED : Fld := ⟨rKEYSTAT, 1, 1⟩
/-- KEYSTAT.STATUS, RO. -/
def fKEYSTAT_STATUS : Fld := ⟨rKEYSTAT, 16, 16⟩
/-- KEYATTR (13_keys_and_lifecycle.md). -/
def rKEYATTR : Nat := 0x2c0020
/-- KEYATTR.SEL, RW. -/
def fKEYATTR_SEL : Fld := ⟨rKEYATTR, 0, 12⟩
/-- KEYATTR.V, RO. -/
def fKEYATTR_V : Fld := ⟨rKEYATTR, 16, 1⟩
/-- KEYATTR.TYPE, RO. -/
def fKEYATTR_TYPE : Fld := ⟨rKEYATTR, 20, 4⟩
/-- KEYATTR.MASK, RO. -/
def fKEYATTR_MASK : Fld := ⟨rKEYATTR, 24, 8⟩
/-- KEYATTR.KID, RO. -/
def fKEYATTR_KID : Fld := ⟨rKEYATTR, 32, 32⟩
/-- KEYPKTBASE (13_keys_and_lifecycle.md). -/
def rKEYPKTBASE : Nat := 0x2c0028
/-- KEYPKTBASE.BASE, RW. -/
def fKEYPKTBASE_BASE : Fld := ⟨rKEYPKTBASE, 0, 48⟩
/-- KEYNONCE (13_keys_and_lifecycle.md). -/
def rKEYNONCE : Nat := 0x2c0040
/-- KEYNONCE.NONCE, RW. -/
def fKEYNONCE_NONCE : Fld := ⟨rKEYNONCE, 0, 256⟩
/-- KEYRNG (13_keys_and_lifecycle.md). -/
def rKEYRNG : Nat := 0x2c0060
/-- KEYRNG.VALUE, RO. -/
def fKEYRNG_VALUE : Fld := ⟨rKEYRNG, 0, 32⟩
/-- KEYID (13_keys_and_lifecycle.md). -/
def rKEYID : Nat := 0x2c0068
/-- KEYID.EUI, RO. -/
def fKEYID_EUI : Fld := ⟨rKEYID, 0, 64⟩
/-- KEYAUTHSEQ (13_keys_and_lifecycle.md). -/
def rKEYAUTHSEQ : Nat := 0x2c0070
/-- KEYAUTHSEQ.SEQ, RO. -/
def fKEYAUTHSEQ_SEQ : Fld := ⟨rKEYAUTHSEQ, 0, 64⟩
/-- KEYUSED (13_keys_and_lifecycle.md). -/
def rKEYUSED : Nat := 0x2c0080
/-- KEYUSED.SLOTS, RO. -/
def fKEYUSED_SLOTS : Fld := ⟨rKEYUSED, 0, 13⟩
/-- KEYUSED.CELLS, RO. -/
def fKEYUSED_CELLS : Fld := ⟨rKEYUSED, 16, 7⟩
/-- KEYUNWRAPF (13_keys_and_lifecycle.md). -/
def rKEYUNWRAPF : Nat := 0x2c0084
/-- KEYUNWRAPF.COUNT, RC. -/
def fKEYUNWRAPF_COUNT : Fld := ⟨rKEYUNWRAPF, 0, 32⟩
/-- SHACFG (13_keys_and_lifecycle.md). -/
def rSHACFG : Nat := 0x290000
/-- SHACFG.JOBQ, RW. -/
def fSHACFG_JOBQ : Fld := ⟨rSHACFG, 0, 7⟩
/-- SHACFG.DONEQ, RW. -/
def fSHACFG_DONEQ : Fld := ⟨rSHACFG, 8, 7⟩
/-- SHACFG.EN, RW. -/
def fSHACFG_EN : Fld := ⟨rSHACFG, 31, 1⟩
/-- DSACFG (13_keys_and_lifecycle.md). -/
def rDSACFG : Nat := 0x2a0000
/-- DSACFG.JOBQ, RW. -/
def fDSACFG_JOBQ : Fld := ⟨rDSACFG, 0, 7⟩
/-- DSACFG.DONEQ, RW. -/
def fDSACFG_DONEQ : Fld := ⟨rDSACFG, 8, 7⟩
/-- DSACFG.EN, RW. -/
def fDSACFG_EN : Fld := ⟨rDSACFG, 31, 1⟩
/-- KEMCFG (13_keys_and_lifecycle.md). -/
def rKEMCFG : Nat := 0x2b0000
/-- KEMCFG.JOBQ, RW. -/
def fKEMCFG_JOBQ : Fld := ⟨rKEMCFG, 0, 7⟩
/-- KEMCFG.DONEQ, RW. -/
def fKEMCFG_DONEQ : Fld := ⟨rKEMCFG, 8, 7⟩
/-- KEMCFG.EN, RW. -/
def fKEMCFG_EN : Fld := ⟨rKEMCFG, 31, 1⟩
/-- DSAVFAIL (13_keys_and_lifecycle.md). -/
def rDSAVFAIL : Nat := 0x2a0010
/-- DSAVFAIL.COUNT, RC. -/
def fDSAVFAIL_COUNT : Fld := ⟨rDSAVFAIL, 0, 32⟩
/-- TMPCFG (13_keys_and_lifecycle.md). -/
def rTMPCFG : Nat := 0x2d0000
/-- TMPCFG.TEN, RW. -/
def fTMPCFG_TEN : Fld := ⟨rTMPCFG, 0, 4⟩
/-- TMPCFG.TLVL, RW. -/
def fTMPCFG_TLVL : Fld := ⟨rTMPCFG, 4, 4⟩
/-- TMPCFG.TACT, RW. -/
def fTMPCFG_TACT : Fld := ⟨rTMPCFG, 8, 4⟩
/-- TMPCFG.SENS, RW. -/
def fTMPCFG_SENS : Fld := ⟨rTMPCFG, 16, 1⟩
/-- TMPCFG.RELEASE, RW. -/
def fTMPCFG_RELEASE : Fld := ⟨rTMPCFG, 17, 1⟩
/-- TMPCFG.LOCK, RW. -/
def fTMPCFG_LOCK : Fld := ⟨rTMPCFG, 31, 1⟩
/-- TMPSTAT (13_keys_and_lifecycle.md). -/
def rTMPSTAT : Nat := 0x2d0004
/-- TMPSTAT.SRC, W1C. -/
def fTMPSTAT_SRC : Fld := ⟨rTMPSTAT, 0, 10⟩
/-- TMPSTAT.PEND, W1C. -/
def fTMPSTAT_PEND : Fld := ⟨rTMPSTAT, 16, 1⟩
/-- TMPSTAT.ERASED, RO. -/
def fTMPSTAT_ERASED : Fld := ⟨rTMPSTAT, 17, 1⟩
/-- TMPSTAT.SLEEPERASE, W1C. -/
def fTMPSTAT_SLEEPERASE : Fld := ⟨rTMPSTAT, 18, 1⟩
/-- TMPSENSE (13_keys_and_lifecycle.md). -/
def rTMPSENSE : Nat := 0x2d0008
/-- TMPSENSE.NOW, RO. -/
def fTMPSENSE_NOW : Fld := ⟨rTMPSENSE, 0, 10⟩
/-- LCSSTAT (13_keys_and_lifecycle.md). -/
def rLCSSTAT : Nat := 0x2e0000
/-- LCSSTAT.STATE, RO. -/
def fLCSSTAT_STATE : Fld := ⟨rLCSSTAT, 0, 3⟩
/-- LCSSTAT.STEPS, RO. -/
def fLCSSTAT_STEPS : Fld := ⟨rLCSSTAT, 8, 7⟩
/-- LCSSTAT.DEBUG, RO. -/
def fLCSSTAT_DEBUG : Fld := ⟨rLCSSTAT, 16, 1⟩
/-- LCSSTAT.ERASED, RO. -/
def fLCSSTAT_ERASED : Fld := ⟨rLCSSTAT, 17, 1⟩
/-- LCSCTL (13_keys_and_lifecycle.md). -/
def rLCSCTL : Nat := 0x2e0004
/-- LCSCTL.REQ, WO. -/
def fLCSCTL_REQ : Fld := ⟨rLCSCTL, 0, 3⟩
/-- LCSCTL.KEY, WO. -/
def fLCSCTL_KEY : Fld := ⟨rLCSCTL, 16, 16⟩
/-- LCSRES (13_keys_and_lifecycle.md). -/
def rLCSRES : Nat := 0x2e0008
/-- LCSRES.BUSY, RO. -/
def fLCSRES_BUSY : Fld := ⟨rLCSRES, 0, 1⟩
/-- LCSRES.STATUS, RO. -/
def fLCSRES_STATUS : Fld := ⟨rLCSRES, 16, 16⟩
/-- UPDCTL (14_firmware_update.md). -/
def rUPDCTL : Nat := 0x3e0000
/-- UPDCTL.OP, WO. -/
def fUPDCTL_OP : Fld := ⟨rUPDCTL, 0, 4⟩
/-- UPDCTL.KEY, WO. -/
def fUPDCTL_KEY : Fld := ⟨rUPDCTL, 16, 16⟩
/-- UPDRES (14_firmware_update.md). -/
def rUPDRES : Nat := 0x3e0004
/-- UPDRES.BUSY, RO. -/
def fUPDRES_BUSY : Fld := ⟨rUPDRES, 0, 1⟩
/-- UPDRES.CHECKED, RO. -/
def fUPDRES_CHECKED : Fld := ⟨rUPDRES, 1, 1⟩
/-- UPDRES.STATUS, RO. -/
def fUPDRES_STATUS : Fld := ⟨rUPDRES, 16, 16⟩
/-- UPDADDR (14_firmware_update.md). -/
def rUPDADDR : Nat := 0x3e0008
/-- UPDADDR.ADDR, RW. -/
def fUPDADDR_ADDR : Fld := ⟨rUPDADDR, 0, 48⟩
/-- UPDSTAT (14_firmware_update.md). -/
def rUPDSTAT : Nat := 0x3e0010
/-- UPDSTAT.RUN, RO. -/
def fUPDSTAT_RUN : Fld := ⟨rUPDSTAT, 0, 1⟩
/-- UPDSTAT.TRIAL, RO. -/
def fUPDSTAT_TRIAL : Fld := ⟨rUPDSTAT, 1, 1⟩
/-- UPDSTAT.STPASS, RO. -/
def fUPDSTAT_STPASS : Fld := ⟨rUPDSTAT, 2, 1⟩
/-- UPDSTAT.LASTFB, RO. -/
def fUPDSTAT_LASTFB : Fld := ⟨rUPDSTAT, 8, 4⟩
/-- UPDSLOTn (14_firmware_update.md). -/
def rUPDSLOT (i : Nat) : Nat := 0x3e0020 + 0x10 * i
/-- UPDSLOTn.STATE, RO. -/
def fUPDSLOT_STATE (i : Nat) : Fld := ⟨rUPDSLOT i, 0, 3⟩
/-- UPDSLOTn.DIRTY, RO. -/
def fUPDSLOT_DIRTY (i : Nat) : Fld := ⟨rUPDSLOT i, 3, 1⟩
/-- UPDSLOTn.CLEANCNT, RO. -/
def fUPDSLOT_CLEANCNT (i : Nat) : Fld := ⟨rUPDSLOT i, 8, 8⟩
/-- UPDSLOTn.EPOCH, RO. -/
def fUPDSLOT_EPOCH (i : Nat) : Fld := ⟨rUPDSLOT i, 16, 16⟩
/-- UPDSLOTn.VERSION, RO. -/
def fUPDSLOT_VERSION (i : Nat) : Fld := ⟨rUPDSLOT i, 32, 32⟩
/-- UPDSLOTn.SETFMT, RO. -/
def fUPDSLOT_SETFMT (i : Nat) : Fld := ⟨rUPDSLOT i, 64, 16⟩
/-- UPDSLOTn.SIZE, RO. -/
def fUPDSLOT_SIZE (i : Nat) : Fld := ⟨rUPDSLOT i, 96, 32⟩
/-- UPDFUSE (14_firmware_update.md). -/
def rUPDFUSE : Nat := 0x3e0040
/-- UPDFUSE.EPOCH, RO. -/
def fUPDFUSE_EPOCH : Fld := ⟨rUPDFUSE, 0, 9⟩
/-- UPDFUSE.INTENT, RO. -/
def fUPDFUSE_INTENT : Fld := ⟨rUPDFUSE, 16, 1⟩
/-- UPDCVER (14_firmware_update.md). -/
def rUPDCVER : Nat := 0x3e0044
/-- UPDCVER.VERSION, RO. -/
def fUPDCVER_VERSION : Fld := ⟨rUPDCVER, 0, 32⟩
/-- MRMSTAT (15_storage.md). -/
def rMRMSTAT : Nat := 0x400000
/-- MRMSTAT.FULL, RO. -/
def fMRMSTAT_FULL : Fld := ⟨rMRMSTAT, 0, 1⟩
/-- MRMSTAT.DRAINING, RO. -/
def fMRMSTAT_DRAINING : Fld := ⟨rMRMSTAT, 1, 1⟩
/-- MRMSTAT.SEALED, RO. -/
def fMRMSTAT_SEALED : Fld := ⟨rMRMSTAT, 2, 1⟩
/-- MRMSTAT.CKPT, RO. -/
def fMRMSTAT_CKPT : Fld := ⟨rMRMSTAT, 3, 1⟩
/-- MRMHEAD (15_storage.md). -/
def rMRMHEAD : Nat := 0x400008
/-- MRMHEAD.OFFSET, RO. -/
def fMRMHEAD_OFFSET : Fld := ⟨rMRMHEAD, 0, 22⟩
/-- MRMHEAD.LAPS, RO. -/
def fMRMHEAD_LAPS : Fld := ⟨rMRMHEAD, 32, 32⟩
/-- MRMTAIL (15_storage.md). -/
def rMRMTAIL : Nat := 0x400010
/-- MRMTAIL.OFFSET, RO. -/
def fMRMTAIL_OFFSET : Fld := ⟨rMRMTAIL, 0, 22⟩
/-- MRMTAIL.LAPS, RO. -/
def fMRMTAIL_LAPS : Fld := ⟨rMRMTAIL, 32, 32⟩
/-- MRMLASTISN (15_storage.md). -/
def rMRMLASTISN : Nat := 0x400018
/-- MRMLASTISN.ISN, RO. -/
def fMRMLASTISN_ISN : Fld := ⟨rMRMLASTISN, 0, 48⟩
/-- MRMDRAIN (15_storage.md). -/
def rMRMDRAIN : Nat := 0x400020
/-- MRMDRAIN.THR, RW. -/
def fMRMDRAIN_THR : Fld := ⟨rMRMDRAIN, 0, 12⟩
/-- MRMDRAIN.MS, RW. -/
def fMRMDRAIN_MS : Fld := ⟨rMRMDRAIN, 16, 12⟩
/-- MRMCKPT (15_storage.md). -/
def rMRMCKPT : Nat := 0x400028
/-- MRMCKPT.INT, RW. -/
def fMRMCKPT_INT : Fld := ⟨rMRMCKPT, 0, 16⟩
/-- MRMCKPT.BUSY, RO. -/
def fMRMCKPT_BUSY : Fld := ⟨rMRMCKPT, 30, 1⟩
/-- MRMCKPT.GO, WO. -/
def fMRMCKPT_GO : Fld := ⟨rMRMCKPT, 31, 1⟩
/-- MRMCORR (15_storage.md). -/
def rMRMCORR : Nat := 0x400030
/-- MRMCORR.COUNT, RC. -/
def fMRMCORR_COUNT : Fld := ⟨rMRMCORR, 0, 32⟩
/-- MRMJPOISON (15_storage.md). -/
def rMRMJPOISON : Nat := 0x400034
/-- MRMJPOISON.COUNT, RC. -/
def fMRMJPOISON_COUNT : Fld := ⟨rMRMJPOISON, 0, 32⟩
/-- MRMRSV (15_storage.md). -/
def rMRMRSV : Nat := 0x400038
/-- MRMRSV.KIB, RW. -/
def fMRMRSV_KIB : Fld := ⟨rMRMRSV, 0, 12⟩
/-- NFCCFG (15_storage.md). -/
def rNFCCFG : Nat := 0x430000
/-- NFCCFG.JOBQ, RW. -/
def fNFCCFG_JOBQ : Fld := ⟨rNFCCFG, 0, 7⟩
/-- NFCCFG.DONEQ, RW. -/
def fNFCCFG_DONEQ : Fld := ⟨rNFCCFG, 8, 7⟩
/-- NFCCFG.PSLC, RW. -/
def fNFCCFG_PSLC : Fld := ⟨rNFCCFG, 16, 1⟩
/-- NFCCFG.EN, RW. -/
def fNFCCFG_EN : Fld := ⟨rNFCCFG, 31, 1⟩
/-- NFCPART (15_storage.md). -/
def rNFCPART : Nat := 0x430008
/-- NFCPART.HSIZE, RW. -/
def fNFCPART_HSIZE : Fld := ⟨rNFCPART, 0, 16⟩
/-- NFCPART.OP, RW. -/
def fNFCPART_OP : Fld := ⟨rNFCPART, 16, 8⟩
/-- NFCGC (15_storage.md). -/
def rNFCGC : Nat := 0x430010
/-- NFCGC.IDLE_LO, RW. -/
def fNFCGC_IDLE_LO : Fld := ⟨rNFCGC, 0, 8⟩
/-- NFCGC.FG_LO, RW. -/
def fNFCGC_FG_LO : Fld := ⟨rNFCGC, 8, 8⟩
/-- NFCGC.FG_HI, RW. -/
def fNFCGC_FG_HI : Fld := ⟨rNFCGC, 16, 8⟩
/-- NFCGC.THROTTLE, RW. -/
def fNFCGC_THROTTLE : Fld := ⟨rNFCGC, 24, 8⟩
/-- NFCWL (15_storage.md). -/
def rNFCWL : Nat := 0x430014
/-- NFCWL.SPREAD, RW. -/
def fNFCWL_SPREAD : Fld := ⟨rNFCWL, 0, 16⟩
/-- NFCWL.RDTHR, RW. -/
def fNFCWL_RDTHR : Fld := ⟨rNFCWL, 16, 8⟩
/-- NFCRSV (15_storage.md). -/
def rNFCRSV : Nat := 0x430018
/-- NFCRSV.RSV, RW. -/
def fNFCRSV_RSV : Fld := ⟨rNFCRSV, 0, 12⟩
/-- NFCSTAT (15_storage.md). -/
def rNFCSTAT : Nat := 0x430020
/-- NFCSTAT.MOUNTED, RO. -/
def fNFCSTAT_MOUNTED : Fld := ⟨rNFCSTAT, 0, 1⟩
/-- NFCSTAT.RO, RO. -/
def fNFCSTAT_RO : Fld := ⟨rNFCSTAT, 1, 1⟩
/-- NFCSTAT.FGGC, RO. -/
def fNFCSTAT_FGGC : Fld := ⟨rNFCSTAT, 2, 2⟩
/-- NFCFREE (15_storage.md). -/
def rNFCFREE : Nat := 0x430028
/-- NFCFREE.NF0, RO. -/
def fNFCFREE_NF0 : Fld := ⟨rNFCFREE, 0, 24⟩
/-- NFCFREE.NF1, RO. -/
def fNFCFREE_NF1 : Fld := ⟨rNFCFREE, 32, 24⟩
/-- NFCERASE (15_storage.md). -/
def rNFCERASE : Nat := 0x430030
/-- NFCERASE.MIN, RO. -/
def fNFCERASE_MIN : Fld := ⟨rNFCERASE, 0, 32⟩
/-- NFCERASE.MAX, RO. -/
def fNFCERASE_MAX : Fld := ⟨rNFCERASE, 32, 32⟩
/-- NFCMAPBASE (15_storage.md). -/
def rNFCMAPBASE : Nat := 0x430038
/-- NFCMAPBASE.BASE, RW. -/
def fNFCMAPBASE_BASE : Fld := ⟨rNFCMAPBASE, 0, 48⟩
/-- NFCRETIRED (15_storage.md). -/
def rNFCRETIRED : Nat := 0x430040
/-- NFCRETIRED.COUNT, RC. -/
def fNFCRETIRED_COUNT : Fld := ⟨rNFCRETIRED, 0, 32⟩
/-- NFCPFAIL (15_storage.md). -/
def rNFCPFAIL : Nat := 0x430044
/-- NFCPFAIL.COUNT, RC. -/
def fNFCPFAIL_COUNT : Fld := ⟨rNFCPFAIL, 0, 32⟩
/-- NFCEFAIL (15_storage.md). -/
def rNFCEFAIL : Nat := 0x430048
/-- NFCEFAIL.COUNT, RC. -/
def fNFCEFAIL_COUNT : Fld := ⟨rNFCEFAIL, 0, 32⟩
/-- NFCREFRESH (15_storage.md). -/
def rNFCREFRESH : Nat := 0x43004c
/-- NFCREFRESH.COUNT, RC. -/
def fNFCREFRESH_COUNT : Fld := ⟨rNFCREFRESH, 0, 32⟩
/-- NFCUNCOR (15_storage.md). -/
def rNFCUNCOR : Nat := 0x430050
/-- NFCUNCOR.COUNT, RC. -/
def fNFCUNCOR_COUNT : Fld := ⟨rNFCUNCOR, 0, 32⟩
/-- NFCSPARE (15_storage.md). -/
def rNFCSPARE : Nat := 0x430054
/-- NFCSPARE.COUNT, RC. -/
def fNFCSPARE_COUNT : Fld := ⟨rNFCSPARE, 0, 32⟩
/-- RINCFGm (15_storage.md). -/
def rRINCFG (i : Nat) : Nat := 0x440000 + 0x10 * i
/-- RINCFGm.EN, RW. -/
def fRINCFG_EN (i : Nat) : Fld := ⟨rRINCFG i, 0, 1⟩
/-- RINCFGm.PERIOD, RW. -/
def fRINCFG_PERIOD (i : Nat) : Fld := ⟨rRINCFG i, 8, 8⟩
/-- RINSTATm (15_storage.md). -/
def rRINSTAT (i : Nat) : Nat := 0x440004 + 0x10 * i
/-- RINSTATm.PROGRESS, RO. -/
def fRINSTAT_PROGRESS (i : Nat) : Fld := ⟨rRINSTAT i, 0, 7⟩
/-- RINSTATm.LATE, W1C. -/
def fRINSTAT_LATE (i : Nat) : Fld := ⟨rRINSTAT i, 8, 1⟩
/-- RINSTATm.PASSES, RO. -/
def fRINSTAT_PASSES (i : Nat) : Fld := ⟨rRINSTAT i, 16, 16⟩
/-- RINCORRm (15_storage.md). -/
def rRINCORR (i : Nat) : Nat := 0x440008 + 0x10 * i
/-- RINCORRm.COUNT, RC. -/
def fRINCORR_COUNT (i : Nat) : Fld := ⟨rRINCORR i, 0, 32⟩
/-- RINPOISm (15_storage.md). -/
def rRINPOIS (i : Nat) : Nat := 0x44000c + 0x10 * i
/-- RINPOISm.COUNT, RC. -/
def fRINPOIS_COUNT (i : Nat) : Fld := ⟨rRINPOIS i, 0, 32⟩
/-- EVRCFG (16_event_recorder.md). -/
def rEVRCFG : Nat := 0x450000
/-- EVRCFG.MERGEWIN, RW. -/
def fEVRCFG_MERGEWIN : Fld := ⟨rEVRCFG, 0, 16⟩
/-- EVRCFG.FLUSHMS, RW. -/
def fEVRCFG_FLUSHMS : Fld := ⟨rEVRCFG, 16, 8⟩
/-- EVRSTAT (16_event_recorder.md). -/
def rEVRSTAT : Nat := 0x450004
/-- EVRSTAT.NEWEST, RO. -/
def fEVRSTAT_NEWEST : Fld := ⟨rEVRSTAT, 0, 13⟩
/-- EVRSTAT.FULL, RO. -/
def fEVRSTAT_FULL : Fld := ⟨rEVRSTAT, 13, 1⟩
/-- EVRSTAT.OPEN, RO. -/
def fEVRSTAT_OPEN : Fld := ⟨rEVRSTAT, 16, 4⟩
/-- EVRRSEQ (16_event_recorder.md). -/
def rEVRRSEQ : Nat := 0x450008
/-- EVRRSEQ.RSEQ, RO. -/
def fEVRRSEQ_RSEQ : Fld := ⟨rEVRRSEQ, 0, 48⟩
/-- EVRCTL (16_event_recorder.md). -/
def rEVRCTL : Nat := 0x450010
/-- EVRCTL.CLEARSEV, WO. -/
def fEVRCTL_CLEARSEV : Fld := ⟨rEVRCTL, 0, 2⟩
/-- EVRCTL.CLEAR, WO. -/
def fEVRCTL_CLEAR : Fld := ⟨rEVRCTL, 31, 1⟩
/-- EVRPOST (16_event_recorder.md). -/
def rEVRPOST : Nat := 0x450020
/-- EVRPOST.VALUE, WO. -/
def fEVRPOST_VALUE : Fld := ⟨rEVRPOST, 0, 32⟩
/-- EVRPOST.ARG0, WO. -/
def fEVRPOST_ARG0 : Fld := ⟨rEVRPOST, 32, 32⟩
/-- EVRPOST.CODE, WO. -/
def fEVRPOST_CODE : Fld := ⟨rEVRPOST, 64, 12⟩
/-- EVRPOST.SEV, WO. -/
def fEVRPOST_SEV : Fld := ⟨rEVRPOST, 76, 2⟩
/-- EVROPT (16_event_recorder.md). -/
def rEVROPT : Nat := 0x450030
/-- EVROPT.COUNT, RO. -/
def fEVROPT_COUNT : Fld := ⟨rEVROPT, 0, 32⟩
/-- EVRPCC (16_event_recorder.md). -/
def rEVRPCC : Nat := 0x450034
/-- EVRPCC.COUNT, RO. -/
def fEVRPCC_COUNT : Fld := ⟨rEVRPCC, 0, 32⟩
/-- EVRLOST (16_event_recorder.md). -/
def rEVRLOST : Nat := 0x450040
/-- EVRLOST.COUNT, RC. -/
def fEVRLOST_COUNT : Fld := ⟨rEVRLOST, 0, 32⟩
/-- EVRDROP0 (16_event_recorder.md). -/
def rEVRDROP (i : Nat) : Nat := 0x450044 + 4 * i
/-- EVRDROP0.COUNT, RC. -/
def fEVRDROP_COUNT (i : Nat) : Fld := ⟨rEVRDROP i, 0, 32⟩
/-- TELCFG (16_event_recorder.md). -/
def rTELCFG : Nat := 0x460000
/-- TELCFG.PERIOD, RW. -/
def fTELCFG_PERIOD : Fld := ⟨rTELCFG, 0, 16⟩
/-- TELCFG.EN, RW. -/
def fTELCFG_EN : Fld := ⟨rTELCFG, 31, 1⟩
/-- TELSEL (16_event_recorder.md). -/
def rTELSEL : Nat := 0x460008
/-- TELSEL.BASE, RW. -/
def fTELSEL_BASE : Fld := ⟨rTELSEL, 0, 48⟩
/-- TELSEL.COUNT, RW. -/
def fTELSEL_COUNT : Fld := ⟨rTELSEL, 48, 12⟩
/-- TELSTAT (16_event_recorder.md). -/
def rTELSTAT : Nat := 0x460010
/-- TELSTAT.BUSY, RO. -/
def fTELSTAT_BUSY : Fld := ⟨rTELSTAT, 0, 1⟩
/-- TELSTAT.LATE, W1C. -/
def fTELSTAT_LATE : Fld := ⟨rTELSTAT, 1, 1⟩
/-- TELSTAT.PASSES, RO. -/
def fTELSTAT_PASSES : Fld := ⟨rTELSTAT, 16, 16⟩
/-- CLKSTAT (17_pins_and_electrical.md). -/
def rCLKSTAT : Nat := 0x10000
/-- CLKSTAT.LOCK, RO. -/
def fCLKSTAT_LOCK : Fld := ⟨rCLKSTAT, 0, 7⟩
/-- CLKSTAT.TSRC, RO. -/
def fCLKSTAT_TSRC : Fld := ⟨rCLKSTAT, 8, 1⟩
/-- CLKSTAT.TFREQ, RO. -/
def fCLKSTAT_TFREQ : Fld := ⟨rCLKSTAT, 9, 1⟩
/-- CLKSTAT.TLOSS, W1C. -/
def fCLKSTAT_TLOSS : Fld := ⟨rCLKSTAT, 12, 1⟩
/-- CLKSTAT.SLOSS, W1C. -/
def fCLKSTAT_SLOSS : Fld := ⟨rCLKSTAT, 13, 1⟩
/-- CLKSTAT.XLOSS, W1C. -/
def fCLKSTAT_XLOSS : Fld := ⟨rCLKSTAT, 14, 1⟩
/-- CLKCTL (17_pins_and_electrical.md). -/
def rCLKCTL : Nat := 0x10004
/-- CLKCTL.TRETURN, WO. -/
def fCLKCTL_TRETURN : Fld := ⟨rCLKCTL, 0, 1⟩
/-- CLKTEMP (17_pins_and_electrical.md). -/
def rCLKTEMP : Nat := 0x10010
/-- CLKTEMP.TEMP, RO. -/
def fCLKTEMP_TEMP : Fld := ⟨rCLKTEMP, 0, 12⟩
/-- CLKTEMP.HOT, W1C. -/
def fCLKTEMP_HOT : Fld := ⟨rCLKTEMP, 16, 1⟩
/-- DDRCFG (17_pins_and_electrical.md). -/
def rDDRCFG (i : Nat) : Nat := 0x410000 + 0x10000 * i
/-- DDRCFG.REF2X, RW. -/
def fDDRCFG_REF2X (i : Nat) : Fld := ⟨rDDRCFG i, 0, 1⟩
/-- DDRSTAT (17_pins_and_electrical.md). -/
def rDDRSTAT (i : Nat) : Nat := 0x410004 + 0x10000 * i
/-- DDRSTAT.TRAINED, RO. -/
def fDDRSTAT_TRAINED (i : Nat) : Fld := ⟨rDDRSTAT i, 0, 1⟩
/-- DDRSTAT.RANKS, RO. -/
def fDDRSTAT_RANKS (i : Nat) : Fld := ⟨rDDRSTAT i, 1, 2⟩
/-- DDRSTAT.SIZE, RO. -/
def fDDRSTAT_SIZE (i : Nat) : Fld := ⟨rDDRSTAT i, 8, 8⟩
/-- DDRSTAT.LANEFAIL, RO. -/
def fDDRSTAT_LANEFAIL (i : Nat) : Fld := ⟨rDDRSTAT i, 16, 9⟩
/-- DDRCORR (17_pins_and_electrical.md). -/
def rDDRCORR (i : Nat) : Nat := 0x410010 + 0x10000 * i
/-- DDRCORR.COUNT, RC. -/
def fDDRCORR_COUNT (i : Nat) : Fld := ⟨rDDRCORR i, 0, 32⟩
/-- DDRPOIS (17_pins_and_electrical.md). -/
def rDDRPOIS (i : Nat) : Nat := 0x410014 + 0x10000 * i
/-- DDRPOIS.COUNT, RC. -/
def fDDRPOIS_COUNT (i : Nat) : Fld := ⟨rDDRPOIS i, 0, 32⟩
/-- TAPSTAT (17_pins_and_electrical.md). -/
def rTAPSTAT : Nat := 0x470000
/-- TAPSTAT.IR, RO. -/
def fTAPSTAT_IR : Fld := ⟨rTAPSTAT, 0, 8⟩
/-- TAPSTAT.HOLD, RO. -/
def fTAPSTAT_HOLD : Fld := ⟨rTAPSTAT, 8, 1⟩
/-- TAPSTAT.MBOXST, RO. -/
def fTAPSTAT_MBOXST : Fld := ⟨rTAPSTAT, 16, 16⟩

end Sys2Proof.Machine
end

