-- ==== Sys2Proof/Machine/Status.lean ====
section
/-!
DEFINITION. The status codes (R145): the one list of the chip's answers to refusable actions.
-/

namespace Sys2Proof.Machine

/-- The status codes of R145. -/
inductive Status where
  /-- DONE: Completed. -/
  | done
  /-- BAD_ARGUMENT: Operand or field value out of range. -/
  | badArgument
  /-- BAD_ADDRESS: No mapping, outside the map, or beyond fitted memory. -/
  | badAddress
  /-- BAD_ALIGN: Misaligned access. -/
  | badAlign
  /-- WINDOW_DENIED: Access not permitted by the window. -/
  | windowDenied
  /-- MPU_DENIED: No MPU region grants the access. -/
  | mpuDenied
  /-- PLANE_DENIED: Plane does not own the target. -/
  | planeDenied
  /-- CSR_LOCKED: Register locked. -/
  | csrLocked
  /-- BAD_KEY: Wrong unlock value. -/
  | badKey
  /-- BAD_QUEUE: Queue not enabled. -/
  | badQueue
  /-- BAD_REGISTER: Register group not permitted. -/
  | badRegister
  /-- NOT_OWNER: Lock not held by the caller. -/
  | notOwner
  /-- LOCK_RECURSIVE: Lock already held by the caller. -/
  | lockRecursive
  /-- ILLEGAL_INSTRUCTION: Opcode unknown or outside the profile. -/
  | illegalInstruction
  /-- BAD_FORMAT: Image, record or descriptor malformed. -/
  | badFormat
  /-- QFULL: Queue full. -/
  | qfull
  /-- QEMPTY: Queue empty. -/
  | qempty
  /-- QPOOL_FULL: Descriptor pool exhausted or ring overlap. -/
  | qpoolFull
  /-- LOCK_HELD: Lock held by another core. -/
  | lockHeld
  /-- MODE_DENIED: Not permitted in the current mode. -/
  | modeDenied
  /-- LP_BUSY: Low-power entry blocked by activity. -/
  | lpBusy
  /-- EMIT_FULL: Emit buffer full. -/
  | emitFull
  /-- TACK_FULL: Tack list full. -/
  | tackFull
  /-- TABLE_FULL: Lookup table full. -/
  | tableFull
  /-- ENGINE_BUSY: Engine occupied. -/
  | engineBusy
  /-- CORE_BUSY: Ledger core running an item. -/
  | coreBusy
  /-- BUDGET_EXHAUSTED: Instruction budget exceeded. -/
  | budgetExhausted
  /-- KEY_DENIED: Engine mask or key attribute denies the use. -/
  | keyDenied
  /-- NONCE_EXHAUSTED: Counter or nonce would repeat. -/
  | nonceExhausted
  /-- TAG_FAIL: Authentication tag mismatch. -/
  | tagFail
  /-- ALARM: Tamper alarm during the operation. -/
  | alarm
  /-- SIG_FAIL: Signature invalid. -/
  | sigFail
  /-- ROLLBACK: Version or epoch lower than installed. -/
  | rollback
  /-- KEY_EMPTY: Slot empty. -/
  | keyEmpty
  /-- KEY_ORPHANED: Parent invalidated. -/
  | keyOrphaned
  /-- REPLAY: Invocation counter not fresh. -/
  | replay
  /-- STEP_DENIED: Clock step needs a signed command. -/
  | stepDenied
  /-- MEDIA_FULL: Archive full and spares worn. -/
  | mediaFull
  /-- POISONED: Data carries a poison mark. -/
  | poisoned
  /-- MEDIA_ERROR: Uncorrectable NAND read. -/
  | mediaError
  /-- PROGRAM_FAIL: NAND program or erase failed. -/
  | programFail
  /-- BAD_FRAME: Malformed endpoint frame. -/
  | badFrame
  /-- BAD_ENVELOPE: Malformed relay envelope. -/
  | badEnvelope
  /-- BAD_CELL: Duneb cell violates the link protocol. -/
  | badCell
  /-- UNKNOWN_ENDPOINT: Sender not in any table or seam bucket. -/
  | unknownEndpoint
  /-- SEQ_GAP: Shadow stream sequence gap. -/
  | seqGap
  /-- SESSION_VIOLATION: Northbound session protocol broken. -/
  | sessionViolation
  /-- ENGINE_FAULT: Engine self-check failed. -/
  | engineFault
  /-- LINK_DOWN: Port or link not up. -/
  | linkDown
  /-- FENCED: Unit fenced. -/
  | fenced
  /-- HW_TIMEOUT: Hardware operation did not finish. -/
  | hwTimeout
  /-- BROKEN: Lock owner lost while holding (warning). -/
  | broken
  /-- LC_DENIED: Not permitted in this life-cycle state. -/
  | lcDenied
  /-- FUSE_EXHAUSTED: No fuse steps left. -/
  | fuseExhausted
  /-- DEBUG_LOCKED: Debug access locked. -/
  | debugLocked
  deriving DecidableEq, Repr, Inhabited

/-- The 16-bit code of a status (R145). -/
def Status.code : Status → Nat
  | .done => 0x0000
  | .badArgument => 0x1001
  | .badAddress => 0x1002
  | .badAlign => 0x1003
  | .windowDenied => 0x1004
  | .mpuDenied => 0x1005
  | .planeDenied => 0x1006
  | .csrLocked => 0x1007
  | .badKey => 0x1008
  | .badQueue => 0x1009
  | .badRegister => 0x100A
  | .notOwner => 0x100B
  | .lockRecursive => 0x100C
  | .illegalInstruction => 0x100D
  | .badFormat => 0x100E
  | .qfull => 0x2001
  | .qempty => 0x2002
  | .qpoolFull => 0x2003
  | .lockHeld => 0x2004
  | .modeDenied => 0x2005
  | .lpBusy => 0x2006
  | .emitFull => 0x2007
  | .tackFull => 0x2008
  | .tableFull => 0x2009
  | .engineBusy => 0x200A
  | .coreBusy => 0x200B
  | .budgetExhausted => 0x200C
  | .keyDenied => 0x3001
  | .nonceExhausted => 0x3002
  | .tagFail => 0x3003
  | .alarm => 0x3004
  | .sigFail => 0x3005
  | .rollback => 0x3006
  | .keyEmpty => 0x3007
  | .keyOrphaned => 0x3008
  | .replay => 0x3009
  | .stepDenied => 0x300A
  | .mediaFull => 0x4001
  | .poisoned => 0x4002
  | .mediaError => 0x4003
  | .programFail => 0x4004
  | .badFrame => 0x5001
  | .badEnvelope => 0x5002
  | .badCell => 0x5003
  | .unknownEndpoint => 0x5004
  | .seqGap => 0x5005
  | .sessionViolation => 0x5006
  | .engineFault => 0x6001
  | .linkDown => 0x6002
  | .fenced => 0x6003
  | .hwTimeout => 0x6004
  | .broken => 0x6005
  | .lcDenied => 0x7001
  | .fuseExhausted => 0x7002
  | .debugLocked => 0x7003

end Sys2Proof.Machine
end

