-- ==== Sys2Proof/Machine/StateA.lean ====
section
/-!
DEFINITION. The parts of the state of chapters 01 to 05: answers, power and resets, control cores, ledger cores, work items,
queues, lock cells and the ledger. Every default below is the value after reset.
-/

namespace Sys2Proof.Machine

/-- The answer of the last refusable command: its status and, for a read, the value returned (the model's own field,
notes/assumptions/3.md). -/
structure Answer where
  status : Status := .done
  value : Nat := 0
  deriving DecidableEq, Repr

/-- Where a PFAIL sequence stands (R70 to R75). -/
inductive PfState where
  | idle
  /-- Ingest is closed and the transmitters are stopped since a raw count; the core clocks stop at most 60 µs after it (R71). -/
  | closing (since : Nat)
  | halted
  deriving DecidableEq, Repr

/-- Power, resets, Sleep and watchdogs (02_modes_and_resets.md). -/
structure PwrSt where
  /-- The PFAIL sequence (R71). -/
  pf : PfState := .idle
  /-- Boot step reached, 1 to 12; 13 once boot has ended (R67). -/
  bootStep : Nat := 1
  /-- The kind of reset that the boot in progress, or the last boot, performed (R57, R587), as RSTCAUSE numbers them. -/
  kind : Nat := 0
  /-- The chip is in Sleep (R81). -/
  asleep : Bool := false
  /-- SHA3-256 digest of the save area kept by the always-on domain (R81). -/
  saveDigest : List Byte := []
  /-- FENCE_STAT kept by the always-on domain (R81). -/
  saveFence : Nat := 0
  /-- Fences requested and not yet in effect, bit n as FENCE_STAT (R52, R53). -/
  fenceReq : Nat := 0
  /-- Raw count at which the core watchdog reaches zero (R86). -/
  wdtDue : Nat := 2000000000
  /-- Raw count of the last valid kick (R87). -/
  lastKick : Nat := 0
  /-- A first expiry has happened since the last valid kick (R86). -/
  wdtOnce : Bool := false
  /-- Raw count at which the always-on watchdog expires (R88). -/
  aonDue : Nat := 1000000000
  /-- The image base the always-on domain records (R195). -/
  imageBase : Nat := 0x020000000000
  /-- Raw count of the last grant (R90). -/
  lastGrant : Nat := 0
  /-- Tamper sources that have alarmed and whose condition still holds, as TMPSTAT.SRC (R561). -/
  tmpSeen : Nat := 0
  deriving DecidableEq, Repr

/-- A general register: value and poison bit (R94). Also one word of a descriptor with its mark (R134). -/
structure GReg where
  val : Word := 0
  poison : Bool := false
  deriving DecidableEq, Repr

/-- What both profiles share: PC, g0 to g31 and FL (R94, R95). -/
structure Cpu where
  pc : Word := 0
  gpr : Store GReg := []
  fl : Word := 0
  deriving DecidableEq, Repr

/-- What a control core is doing (R130, R137, R166, R171, R67 step 6). -/
inductive CcRun where
  | held
  | run
  | wfi
  /-- Stalled in DEQ of queue `q` into the group at `ra`. -/
  | deq (q ra : Nat)
  /-- Stalled in LOCK of cell `n`, SEQ going to `ra`. -/
  | lock (n ra : Nat)
  | fatal
  deriving DecidableEq, Repr

/-- One 64-byte line of the data caches, with its poisoned granules and the cores whose cache holds it; a dirty line has one holder
(R109, R165). -/
structure CLine where
  data : List Byte
  poison : List Nat := []
  dirty : Bool := false
  holders : List Nat := []
  deriving DecidableEq, Repr

/-- An uncorrectable error in a control core: in its register file, or in a line of its caches (R168). -/
inductive CoreErr where
  | regFile
  | line (l : Nat)
  deriving DecidableEq, Repr

/-- A control core (R93 to R104, R166 to R174). -/
structure CCore where
  cpu : Cpu := {}
  run : CcRun := .held
  evec : Word := 0
  epc : Word := 0
  ecause : Word := 0
  eaddr : Word := 0
  /-- ESTATE: bit 0 IE, bit 1 PIE, bit 2 INH. -/
  estate : Word := 0
  imask : Word := 0
  /-- Doorbell lines 24 to 27 pending, bit k from CCk (R174). -/
  bell : Nat := 0
  scratch : Word := 0
  /-- Lines of the instruction cache, by line number (R165). -/
  icache : List Nat := []
  /-- An uncorrectable error that the core meets at its next instruction (R168). -/
  err : Option CoreErr := none
  deriving DecidableEq, Repr

/-- A work item: the eight words of its descriptor (R115). -/
structure Item where
  w0 : Word := 0
  w1 : Word := 0
  w2 : Word := 0
  w3 : Word := 0
  w4 : Word := 0
  w5 : Word := 0
  w6 : Word := 0
  w7 : Word := 0
  deriving DecidableEq, Repr

/-- What a ledger core is doing: executing the idle block, waiting in WAITW, or running its item (R120, R185, R191). -/
inductive LcRun where
  | idle
  | waiting
  | running
  deriving DecidableEq, Repr

/-- One record of the emit buffer: where its body lies in W3, its length, its type and the state of PS (R183). -/
structure EmitRec where
  off : Nat
  len : Nat
  typ : Nat
  ps : Bool
  deriving DecidableEq, Repr

/-- A ledger core (R105, R106, R120 to R126). -/
structure LCore where
  cpu : Cpu := {}
  run : LcRun := .waiting
  item : Option Item := none
  used : Nat := 0
  budget : Nat := 0
  emits : List EmitRec := []
  /-- Rank of the item held, as `RItem.rank`. -/
  rank : Nat := 2
  deriving DecidableEq, Repr

/-- A queue ring: the descriptors themselves lie in the descriptor pool (R127 to R136). -/
structure Queue where
  /-- Ring slot of the oldest descriptor. -/
  head : Nat := 0
  count : Nat := 0
  /-- Words enqueued from a poisoned register, as 8 × slot + word (R134). -/
  marks : List Nat := []
  /-- Words whose parity bit was 1 at enqueue, as 8 × slot + word (R134). -/
  odd : List Nat := []
  midIn : Bool := false
  midOut : Bool := false
  /-- A flush pending on the consumer side and on the producer side (R136). -/
  flushOut : Bool := false
  flushIn : Bool := false
  /-- A flush that met both ends in one packet (R136). -/
  flushJoint : Bool := false
  /-- Descriptors of the ring that a flush pending on the consumer side found, and that are still there (R136). -/
  flushN : Nat := 0
  /-- Consumers stalled in DEQ, in the order in which they stalled (R130). -/
  stalled : List Nat := []
  /-- Items hardware producers keep while the queue is full, oldest first (R129). -/
  held : List (List GReg) := []
  deriving DecidableEq, Repr

/-- A lock cell's state (R137). -/
inductive LockState where
  | free
  | held
  | broken
  deriving DecidableEq, Repr

/-- A lock cell (R137 to R140). -/
structure LockCell where
  st : LockState := .free
  owner : Nat := 0
  seq : Word := 0
  waiters : List Nat := []
  deriving DecidableEq, Repr

/-- A report record: the fields of its header and its body (R247). -/
structure Rec where
  typ : Nat := 0
  rflags : Nat := 0
  epi : Nat := 0
  chip : Nat := 0
  eui : Nat := 0
  isn : Nat := 0
  body : List Byte := []
  deriving DecidableEq, Repr

/-- A ready work item: its descriptor, the order in which it became ready, its rank among its endpoint's items (0 a switch
item, 1 an item enqueued for a rebuild, 2 any other), and whether it takes a slot of the ready store (R118, R203, R234,
R242). -/
structure RItem where
  item : Item
  ord : Nat
  rank : Nat := 2
  slot : Bool := true
  deriving DecidableEq, Repr

/-- A ledger program in the program table, beside its LDGPRGn register (R188, R233). -/
structure Prog where
  codeBase : Nat := 0
  codeSize : Nat := 0
  constBase : Nat := 0
  constSize : Nat := 0
  entries : List Nat := []
  budgets : List Nat := []
  /-- DIGEST of the activation record (R232). -/
  digest : List Byte := []
  deriving DecidableEq, Repr

/-- The ledger (05_ledger.md). -/
structure LedgerSt where
  /-- Order counter of ready items. -/
  ord : Nat := 0
  /-- Ready items (R114, R203), and the raw count since which there are any (R90). -/
  ready : List RItem := []
  readyAt : Nat := 0
  /-- Program entries 0 to 15. -/
  progs : Store Prog := []
  /-- Highest VERSION entered for a CLASS and its DIGEST (R232). -/
  maxVer : Store (Nat × List Byte) := []
  /-- Journaled inputs of the shadow stream, oldest first, that wait for the round in progress (R204, R205, R513). -/
  inq : List (List Byte) := []
  /-- Highest ISN that replay has taken (R245, R246). -/
  replIsn : Nat := 0
  /-- The interval whose marker waits for its journal write (R203). -/
  markerPend : Option Nat := none
  /-- XOR of the digests of the round in progress (R241). -/
  digestAcc : Nat := 0
  /-- Interval of the round in progress (R204). -/
  roundK : Nat := 0
  /-- Endpoint whose rebuild is not yet over (R242). -/
  rebuild : Option Nat := none
  /-- LDGREPLAY has had its first write; lowest LAST_ISN of the checkpoint (R245). -/
  replayed : Bool := false
  ckptLow : Nat := 0
  /-- A full checkpoint has completed and the archive is writable since DETBRK was set (R243). -/
  detClean : Bool := false
  /-- Raw count of the last DETBRK record (R243). -/
  detLast : Nat := 0
  /-- Bases of the endpoint pages and of the tack lists in DA (notes/assumptions/6.md). -/
  pageBase : Nat := 0x010000000000
  tackBase : Nat := 0x010040000000
  deriving DecidableEq, Repr

end Sys2Proof.Machine
end

