-- ==== Sys2Proof/Machine/StateB.lean ====
section
/-!
DEFINITION. The parts of the state of chapters 11 and 16: the time base and its triggers, transmit-timestamp queues, and the
event recorder. Every default below is the value after reset.
-/

namespace Sys2Proof.Machine

/-- An entry of a transmit-timestamp queue (R497, R498). -/
structure TxStamp where
  fid : Nat
  gap : Bool
  chip : Nat
  deriving DecidableEq, Repr

/-- A transmit-timestamp queue: its entries, oldest first, and whether the next entry stored carries GAP (R498). -/
structure TxQueue where
  entries : List TxStamp := []
  gap : Bool := false
  deriving DecidableEq, Repr

/-- The time base (11_time_base.md). -/
structure TimeSt where
  /-- The raw counter, in ns from power-on (R483). -/
  raw : Nat := 0
  /-- OFFSET and ANCHOR (R484). -/
  offset : Nat := 0
  anchor : Nat := 0
  /-- Raw count to which the step budget has been refilled (R490). -/
  budgetAt : Nat := 0
  /-- Firings a consumer has not yet taken: bit 0 metrology sample, 1 metrology interval, 2 press tick, 4 + k setpoint slot k
  (R503). -/
  fired : Nat := 0
  /-- Raw count and chip time of the last firing of each trigger. -/
  fireRaw : Store Nat := []
  fireChip : Store Nat := []
  txq : Store TxQueue := []
  /-- PPS_OUT is high until this raw count (R504). -/
  ppsUntil : Nat := 0
  /-- The last capture has not been read (R505). -/
  ppsUnread : Bool := false
  /-- Raw count at Sleep entry (R487). -/
  sleepRaw : Nat := 0
  deriving DecidableEq, Repr

/-- A record of the open set: its slot, its content as the front end holds it, whether MRAM lags behind, and when it was last
written (R635, R636). -/
structure OpenRec where
  slot : Nat
  data : List Byte
  dirty : Bool := false
  written : Nat := 0
  deriving DecidableEq, Repr

/-- The event recorder's front end and long-run counters (16_event_recorder.md). -/
structure EvrSt where
  /-- The open set, most recently used first (R635). -/
  openSet : List OpenRec := []
  /-- An event has been dropped since the last record was written (R631). -/
  lost : Bool := false
  /-- Records in use (CODE not 0x000). -/
  used : Nat := 0
  /-- Operating time in ns at raw count 0 (R632). -/
  optBase : Int := 0
  /-- The operating time copied to MRAM, in seconds, and the raw count of that copy. -/
  optCopy : Nat := 0
  optCopyAt : Nat := 0
  /-- Slots exported, with the RSEQ and REPEAT last exported (R644). -/
  exported : Store (Nat × Nat) := []
  /-- Raw count of the last telemetry pass (R643). -/
  telLast : Nat := 0
  deriving DecidableEq, Repr

end Sys2Proof.Machine
end

