-- ==== Sys2Proof/Machine/StateC.lean ====
section
/-!
DEFINITION. The parts of the state of chapters 12 and 15: the twin and its shadow stream, the journal, checkpoints, NAND and
the rinse. Every default below is the value after reset.
-/

namespace Sys2Proof.Machine

/-- What left the chip: the CSR block number of the port and the bytes, or the TYPE and payload of a Duneb message (the
model's own record, notes/assumptions/3.md). -/
structure Sent where
  port : Nat
  bytes : List Byte
  deriving DecidableEq, Repr

/-- The event a shadow message holds back until a CONFIRM covers it (R514). -/
inductive Held where
  | free
  /-- The acknowledgement of the input that begins at an ISN. -/
  | ack (isn : Nat)
  /-- The first downlink frame of an endpoint under its new generation. -/
  | newGen (epi : Nat)
  /-- Step 4 of R416: the ceiling of an endpoint (`slot` false) or a key-store slot comes into force. -/
  | ceil (slot : Bool) (key : Nat) (value : Nat)
  /-- Sending a KEY_UPDATE. -/
  | keyUpdate (epi : Nat)
  /-- B's MOVE_IN journal write. -/
  | moveIn (bucket : Nat)
  deriving DecidableEq, Repr

/-- The twin (12_twin_operation.md). -/
structure TwnSt where
  /-- SSEQ of the next message sent (R512). -/
  nextSeq : Nat := 0
  /-- Unconfirmed messages, oldest first (R514, R515). -/
  unconf : List (Nat × Held) := []
  /-- SSEQ of the next message the standby expects (R513). -/
  expect : Nat := 0
  /-- Raw count of the last BEAT received and sent (R519, R512). -/
  beatIn : Nat := 0
  beatOut : Nat := 0
  /-- Highest ISN seen in any INPUT or BEAT (R524). -/
  isnSeen : Nat := 0
  /-- The active reports HOLDOVER in its BEAT (R527). -/
  peerHold : Bool := false
  /-- TWNTKOISN as the active's BEAT last gave it (R530). -/
  peerTko : Nat := 0
  /-- Since when DL3 has been down (R518, R520). -/
  downAt : Option Nat := none
  /-- Since when ACT_IN_N has been deasserted (R523). -/
  inactSince : Option Nat := none
  /-- DIGESTs received and not yet compared (R522). -/
  digests : List (Nat × Nat) := []
  /-- The always-on domain holds ACT_OUT_N deasserted (R509). -/
  aonHold : Bool := true
  /-- Ingest closed by TWNCTL.DRAIN; DRAINED has been sent (R535 step 2). -/
  drain : Bool := false
  drained : Bool := false
  /-- Records of suppressed presses kept on the standby, with the raw count of each (R527). -/
  kept : List (Nat × Rec) := []
  /-- The standby takes the SSEQ of the next message it receives as it comes: a stream that it joins (R513, R529). -/
  adopt : Bool := true
  deriving DecidableEq, Repr

/-- An undrained entry of the staging ring: its offset, its length in bytes, and the raw count of its write (R600, R607). -/
structure RingEnt where
  off : Nat
  len : Nat
  at_ : Nat
  deriving DecidableEq, Repr

/-- The copy of one endpoint in a checkpoint (R610). -/
structure CkptRec where
  epi : Nat
  data : List Byte
  poison : List Nat := []
  deriving DecidableEq, Repr

/-- A generation of a checkpoint (R611); `units` of class H hold it. -/
structure Ckpt where
  gen : Nat
  kLast : Nat
  lowIsn : Nat
  recs : List CkptRec
  progs : Store Prog := []
  units : List Nat := []
  deriving DecidableEq, Repr

/-- A batch of drained entries in class H, with the units that hold it (R607, R608). -/
structure HotBatch where
  entries : List (List Byte)
  units : List Nat := []
  deriving DecidableEq, Repr

/-- The seal record (R606). -/
structure Seal where
  isn : Nat
  head : Nat
  tail : Nat
  deriving DecidableEq, Repr

/-- The journal and the checkpoint engine (R595 to R611). -/
structure MrmSt where
  /-- Undrained entries of the ring, oldest first. -/
  ring : List RingEnt := []
  /-- Entries of the drain batch in flight, counted from the oldest (R607). -/
  batch : Nat := 0
  /-- Batches in class H, oldest first (R608). -/
  hot : List HotBatch := []
  sealRec : Option Seal := none
  /-- The last halt wrote the seal record (R606). -/
  sealed : Bool := false
  /-- Raw count of the completion of the previous checkpoint (R610), and of the start of the one that runs. -/
  ckptAt : Nat := 0
  ckptFrom : Option Nat := none
  /-- Generations kept, newest first (R611). -/
  ckpts : List Ckpt := []
  deriving DecidableEq, Repr

/-- What a NAND block is (R619 to R623). -/
inductive BlkState where
  | free
  | opened
  | closed
  | retired
  deriving DecidableEq, Repr

/-- A NAND block: erase count, state, units programmed since its erasure, and the logical units whose valid data it holds. -/
structure NBlk where
  erase : Nat := 0
  st : BlkState := .free
  fill : Nat := 0
  units : List Nat := []
  deriving DecidableEq, Repr

/-- The flash translation (R612 to R626). Units are named class × 2^40 + LBA, those of the chip's own class H data 2 × 2^40 + a
count; blocks channel × 2^24 + number. -/
structure NfcSt where
  /-- Content of each written unit of the two logical spaces. -/
  units : Store (List Byte) := []
  /-- Units handed out for the chip's own data. -/
  own : Nat := 0
  blocks : Store NBlk := []
  /-- Blocks of each channel, units of a block and spare blocks, as fitted (notes/assumptions/24.md); blocks that spares have added to
  each channel. -/
  nblk : Nat := 4096
  perBlk : Nat := 4096
  spares : Nat := 128
  added : Store Nat := []
  /-- The block being filled for each channel and class, channel + 2 × class, plus one. -/
  filling : Store Nat := []
  /-- Units written in each class C bolt since its TRIM (R618). -/
  bolt : Store Nat := []
  /-- HSIZE and OP as the last mount took them (the note on NFCPART). -/
  hsize : Nat := 64
  op : Nat := 7
  /-- Blocks queued for rewrite (R623). -/
  rewrite : List Nat := []
  /-- The map's entries, by their place in it; the bytes of the flash translation log in use, and of one of its records as fitted
  (notes/assumptions/24.md); the units of the last snapshot (R615). -/
  map : Store Nat := []
  logAt : Nat := 0
  logRec : Nat := 16
  snap : List Nat := []
  deriving DecidableEq, Repr

/-- The rinse engine: raw count at which each memory's pass began (R627). -/
structure RinSt where
  since : Store Nat := []
  deriving DecidableEq, Repr

/-- The clock inputs (R656 to R658). -/
structure ClkSt where
  /-- REFCLK is lost, since a raw count. -/
  refLost : Option Nat := none
  /-- TIMECLK meets R656. -/
  timeFit : Bool := true
  /-- The always-on domain runs on its internal oscillator. -/
  slow : Bool := false
  deriving DecidableEq, Repr

/-- The test port beside TAPSTAT (R675 to R677): the boundary cells loaded, and what the selected register captures. -/
structure TapSt where
  cells : Nat := 0
  capture : Nat := 0
  deriving DecidableEq, Repr

end Sys2Proof.Machine
end

