-- ==== Sys2Proof/Machine/StateD.lean ====
section
/-!
DEFINITION. The parts of the state of chapter 06: the metrology sequencer, the balance engine and the correlator. Every default
below is the value after reset.
-/

namespace Sys2Proof.Machine

/-- The metrology sequencer (R251 to R262). Sums are exact, in units of 1/(8,000 × 2^24) of the calibrated unit. -/
structure MetSt where
  /-- Number of the open interval (R255). -/
  k : Int := 0
  /-- Samples taken in it and in the open one-second block (R257, R258). -/
  nsamp : Nat := 0
  blkN : Nat := 0
  /-- By feeder and phase, 3f + p: product sum of the open block, import and export accumulators, sum of squared currents. -/
  blk : Store Int := []
  imp : Store Int := []
  exp : Store Int := []
  isq : Store Int := []
  /-- Sum of squared voltages, by role 0 to 3. -/
  vsq : Store Int := []
  /-- By channel: offset-corrected sum of the open one-second block of the offset tracking, the samples in it, and the sum of the last
  whole one (R256). -/
  cur : Store Int := []
  curN : Nat := 0
  prev : Store Int := []
  /-- Channels that saturated in the interval, and whether the sample trigger stopped in it (R256, R259). -/
  sat : Nat := 0
  noTrig : Bool := false
  /-- Coefficients and roles in force (R251, R261). -/
  cal : Store Nat := []
  role : Nat := 0xFEDCBA9876543210
  /-- Coefficients and roles as the last INT_TRIG firing found them, for the interval it opens (R261). -/
  calFire : Store Nat := []
  roleFire : Nat := 0xFEDCBA9876543210
  /-- Raw count of the last CMTCALn write, and the registers as they stood before the writes of that cycle (R261). -/
  calWrAt : Option Nat := none
  calPrev : Store Nat := []
  /-- Raw count of the last sample, and of the last reference check; the channel checked last (R262). -/
  latch : Nat := 0
  refAt : Nat := 0
  refCh : Nat := 15
  deriving DecidableEq, Repr

/-- The sums of one feeder and phase in one round (R268). -/
structure FpSum where
  ep : Int := 0
  darn : Int := 0
  nEp : Nat := 0
  nDarn : Nat := 0
  nMiss : Nat := 0
  deriving DecidableEq, Repr

/-- The running sums of one set of pairs (x, y), with their number (R274). -/
structure CorSum where
  n : Nat := 0
  sx : Int := 0
  sy : Int := 0
  sxx : Int := 0
  syy : Int := 0
  sxy : Int := 0
  deriving DecidableEq, Repr

/-- What localisation keeps of one endpoint on one phase: the pairs of current and drop, the unexplained drop of the last provisional
read and of the one before it, and the pairs of its change with the change of the residual (R277). -/
structure CorPh where
  reg : CorSum := {}
  d : Option Int := none
  dOld : Option Int := none
  sc : CorSum := {}
  deriving DecidableEq, Repr

/-- The correlator's sums and decisions about one endpoint (R274 to R277). -/
structure Cor where
  /-- Interval, V_L1 to V_L3 and IMP − EXP of the last provisional read. -/
  k : Nat := 0
  seen : Bool := false
  v : List (Option Int) := []
  e : Option Int := none
  /-- The sums of the phases and of the feeders. -/
  ph : List CorSum := []
  fd : List CorSum := []
  /-- Localisation, by phase. -/
  loc : List CorPh := []
  phase : Option Nat := none
  feeder : Option Nat := none
  revcor : Bool := false
  /-- It reports V and I (R277). -/
  scored : Bool := false
  deriving DecidableEq, Repr

/-- The balance engine (R265 to R273). -/
structure BalSt where
  /-- METRO inputs applied, by interval. -/
  metro : Store (List Byte) := []
  /-- Sums of the round in progress: provisional, and final for its interval minus 95. -/
  prov : Store FpSum := []
  fin : Store FpSum := []
  /-- Endpoints whose press item of the round in progress has been read (R267). -/
  readSet : List Nat := []
  /-- By cell: interval plus one and residual of the last provisional balance (R277). -/
  lastU : Store (Nat × Int) := []
  /-- A provisional balance that waits for its METRO input. -/
  waiting : Option (Nat × Store FpSum) := none
  /-- Highest interval with a final balance, plus one. -/
  finals : Nat := 0
  /-- Run counts by 3f + p (R272). -/
  runs : Store Nat := []
  /-- Endpoints in the last SUSPECT record of each 3f + p (R279). -/
  suspects : Store (List Nat) := []
  /-- I_L1 to I_L3 of polyphase endpoints in an interval, by interval × 2^18 + EPI (R268). -/
  iMeans : Store (List Int) := []
  /-- Loss model and thresholds in force (R266, the note on LOSMODELn). -/
  model : Store Nat := []
  thr : Nat := 0x00C800C8
  /-- The table a pending TOPO input names (R266). -/
  topo : Option Nat := none
  cor : Store Cor := []
  /-- METRO bodies that wait for room in the ring (R605). -/
  metroHeld : List (List Byte) := []
  /-- A TOPO input that waits for room in the ring (R605). -/
  topoHeld : Option Nat := none
  deriving DecidableEq, Repr

end Sys2Proof.Machine
end

