-- ==== Sys2Proof/Machine/StateE.lean ====
section
/-!
DEFINITION. The parts of the state of chapter 10: Duneb links, bucket moves, the prefix table and report sessions. Every default
below is the value after reset.
-/

namespace Sys2Proof.Machine

/-- A Duneb cell: the header of R451, its payload and the granules of the payload that carry poison (R457). -/
structure DlCell where
  cls : Nat
  det : Bool
  sop : Bool
  eop : Bool
  dst : Nat
  src : Nat
  typ : Nat
  msgid : Nat
  payload : List Byte
  poison : List Nat := []
  deriving DecidableEq, Repr

/-- A message being received on a link: its cells so far, of one CLASS, DETOUR, TYPE and MSGID (R452). -/
structure DlMsg where
  parts : List DlCell
  deriving DecidableEq, Repr

/-- A Duneb link (R453 to R456). -/
structure DlSt where
  /-- TSEQ of the next cell sent; last TSEQ accepted; last ASEQ received. -/
  tseq : Nat := 0
  rxSeq : Nat := 4095
  aseq : Nat := 4095
  /-- Cells kept until an ASEQ covers them, oldest first, and cells that wait for credits or room. -/
  retry : List (Nat × DlCell) := []
  backlog : List DlCell := []
  /-- Credits used of each pool (R453). -/
  usedCr : Store Nat := []
  /-- Credits to return, by pool. -/
  owed : Store Nat := []
  nak : Bool := false
  /-- Bad cells in a row (R455). -/
  badRun : Nat := 0
  /-- Resends without progress, and the raw count of the last progress or resend (R454). -/
  resends : Nat := 0
  progAt : Nat := 0
  rx : List DlMsg := []
  /-- The far end's SEMEPOCH and MAPDIG (R463). -/
  farEpoch : Nat := 0
  farDig : Nat := 0
  /-- TWNCFG.SIDE of the far end as its HELLO gave it (R459, R511). -/
  farSide : Nat := 0
  deriving DecidableEq, Repr

/-- The links and the message counter. -/
structure DunSt where
  links : Store DlSt := []
  msgid : Nat := 0
  /-- Messages reported undelivered with LINK_DOWN: their TYPE, newest first (R456). -/
  undelivered : List Nat := []
  /-- A seam map offered by a neighbour, with its epoch, waiting until no move is pending (R463). -/
  offered : Option (Nat × List Byte) := none
  deriving DecidableEq, Repr

/-- A bucket move as this chip takes part in it (R465 to R469). -/
structure MoveSt where
  pending : Bool := false
  bucket : Nat := 0
  newHome : Nat := 0
  oldHome : Nat := 0
  m : Nat := 0
  /-- Raw count of the CUT (old home). -/
  cutAt : Option Nat := none
  sent : Bool := false
  /-- Endpoints received (new home), and those the old home announced. -/
  received : List Nat := []
  expected : Option Nat := none
  /-- Raw count at which the last of them was received. -/
  recvAt : Nat := 0
  /-- The new home has written every endpoint and waits for the checkpoint, then for MOVE_IN. -/
  ckptWait : Bool := false
  committed : Bool := false
  asked : Bool := false
  /-- What the other side of the move is known to hold when a move is armed: its K_LAST, and whether the new home lacks a program
  for a class of the bucket (R465). -/
  otherK : Int := -1
  noProg : Bool := false
  deriving DecidableEq, Repr

/-- An entry of the prefix table (R434). -/
structure PfxEntry where
  key : Nat
  len : Nat
  dest : Nat
  target : Nat
  nh : Nat
  deriving DecidableEq, Repr

/-- To whom hardware hands a packet, frame or message (R431, R452, R496). -/
inductive Dest where
  | controlFw
  | mgmtFw
  | dataFw
  | relay
  | dlms
  | session
  | rom
  | hw
  deriving DecidableEq, Repr

/-- Metadata of a received radio frame (R338): port and group, kind and rate, start and end timestamps, RSSI and SNR. -/
structure RfMeta where
  port : Nat
  group : Nat
  kind : Nat
  mcs : Nat
  start : Nat
  end_ : Nat
  rssi : Nat
  snr : Nat
  deriving DecidableEq, Repr

/-- A packet, frame or message handed on: its receiver, its source (CSR block number of the port or link), its timestamp in chip
time, its TYPE for a Duneb message, and its bytes. -/
structure Deliv where
  dest : Dest
  src : Nat
  stamp : Nat := 0
  typ : Nat := 0
  radio : Option RfMeta := none
  bytes : List Byte
  deriving DecidableEq, Repr

/-- A batch (R473, R475). -/
structure Batch where
  bseq : Nat
  recs : List Rec
  dgrams : List (List Byte)
  sentAt : Nat
  sent : Bool
  stored : Bool
  deriving DecidableEq, Repr

/-- A report session (R471 to R477). -/
structure Sess where
  sid : Nat
  nonceD : List Byte
  secret : List Byte
  kUp : List Byte := []
  kDown : List Byte := []
  ack : Bool := false
  initAt : Nat
  openAt : Nat := 0
  ackSeq : Nat := 0
  bseq : Nat := 0
  sign : Bool := false
  closed : Bool := false
  /-- Unacknowledged batches, oldest first. -/
  flight : List Batch := []
  deriving DecidableEq, Repr

/-- The session engine, the open batch and the hold store (R473 to R482). -/
structure SesSt where
  /-- EN port that carries the sessions of a chip that is its own uplink (R433). -/
  port : Nat := 0
  cur : Option Sess := none
  old : Option (Sess × Nat) := none
  /-- Batches formed and not yet numbered: they wait for a session or for room in the window. -/
  ready : List (List Rec) := []
  /-- Batches of the hold store, oldest first. -/
  hold : List (List Rec) := []
  /-- Records dropped since HOLDFULL set, with K_LAST at the first and at the last (R481). -/
  drops : Nat := 0
  dropFirst : Nat := 0
  dropLast : Nat := 0
  deriving DecidableEq, Repr

end Sys2Proof.Machine
end

