-- ==== Sys2Proof/Machine/StateF.lean ====
section
/-!
DEFINITION. The parts of the state of chapters 09 and 13: the key store, endpoint messages on their way out, relay envelopes and
setpoint broadcasts. Every default below is the value after reset.
-/

namespace Sys2Proof.Machine

/-- A key-store slot; TYPE 0 is an invalid slot (R537). Secret material is held here as it is delivered to engines; its
encryption under the store key is seen by no core (R540). -/
structure KeySlot where
  typ : Nat := 0
  mask : Nat := 0
  kid : Nat := 0
  mat : List Byte := []
  /-- Public types: the cell and its digest. -/
  cell : Nat := 0
  dig : List Byte := []
  deriving DecidableEq, Repr

/-- The key store (R536 to R545). -/
structure KeySt where
  slots : Store KeySlot := []
  cells : Store (List Byte) := []
  /-- OP, SLOT and ARGDIGEST of the armed AUTH (R544). -/
  armed : Option (Nat × Nat × List Byte) := none
  /-- The store key in the erase cells; none while they are zero (R540). -/
  storeKey : Option Nat := none
  /-- The entropy health tests fail (KEYRNG). -/
  entropyBad : Bool := false
  deriving DecidableEq, Repr

/-- An ACK that waits to be sent (R385, R386). -/
structure AckJob where
  epi : Nat
  aic : Nat
  result : Nat
  aflags : Nat
  retry : Nat
  nacc : Nat
  path : RxPath
  /-- Raw count of the frame's acceptance, and the first ISN of the input it acknowledges. -/
  since : Nat
  isn : Option Nat
  /-- It has waited for its counter (R417). -/
  waited : Bool := false
  deriving DecidableEq, Repr

/-- A downlink frame that waits for its counter (R417). -/
structure DownJob where
  /-- Under an endpoint's key, or under the group key of a slot. -/
  slot : Bool
  key : Nat
  mt : Nat
  id : Nat
  body : List Byte
  path : RxPath
  waited : Bool := false
  deriving DecidableEq, Repr

/-- A frame handed to a port: powerline ports 0 to 11, radio ports 16 to 21; its link-layer destination (all ones for a
broadcast), radio group, and whether it is an ACK, a broadcast or any other frame. -/
structure PortFrame where
  port : Nat
  link : Nat
  group : Nat
  kind : Nat
  frame : List Byte
  notBefore : Nat := 0
  since : Nat := 0
  /-- FID of the transmit timestamp asked for (R497). -/
  fid : Option Nat := none
  /-- A KEP ACK: the raw count after which it may no longer start (R386). -/
  ackBy : Option Nat := none
  deriving DecidableEq, Repr

/-- An envelope that waits for the ceiling of its relay key (R404, R417). -/
structure EnvJob where
  peer : Nat
  dir : Nat
  path : RxPath
  frame : List Byte
  deriving DecidableEq, Repr

/-- A DIR 1 record that waits to be transmitted (R406). -/
structure RelJob where
  path : RxPath
  frame : List Byte
  since : Nat
  deriving DecidableEq, Repr

/-- An armed setpoint slot: the frame encrypted once (R426); a write of ARM that waits for the ceiling of its key, with the key-store
slot and the GROUP_ID (R417). -/
structure SpSlot where
  armed : Bool := false
  frame : List Byte := []
  wait : Option (Nat × Nat) := none
  deriving DecidableEq, Repr

/-- Endpoint messages (09_endpoint_messages.md). -/
structure KepSt where
  acks : List AckJob := []
  down : List DownJob := []
  envs : List EnvJob := []
  /-- RELPEER entries that have accepted an envelope, with the sender's EUI-64 (R404). -/
  eicSeen : List (Nat × Nat) := []
  rel : List RelJob := []
  /-- Frames for the powerline and radio ports. -/
  out : List PortFrame := []
  sp : Store SpSlot := []
  /-- Key-store slot and GROUP_ID of setpoint broadcasts (notes/assumptions/9.md). -/
  spSlot : Nat := 0
  spGroup : Nat := 0
  /-- TX_IC and TX_CEIL of key-store slots, plus one; unlisted slots stand at the MRAM ceiling (R415, R418). -/
  slotIc : Store Nat := []
  slotCeil : Store Nat := []
  /-- Raises under way: a key and its new ceiling (R416). -/
  raises : List (Bool × Nat × Nat) := []
  /-- Software jobs among the last 16 of each AE engine, newest first (R414). -/
  aeJobs : Store (List Bool) := []
  /-- Re-key events raised (R401). -/
  rekeys : List Nat := []
  /-- Metadata of received frames for the control plane, newest first (R405). -/
  reports : List RxPath := []
  /-- Messages delivered to the control firmware: EPI and body, newest first. -/
  apdus : List (Nat × List Byte) := []
  deriving DecidableEq, Repr

/-- The firmware update (14_firmware_update.md). -/
structure UpdSt where
  /-- The chip's own copy of a checked header (R579). -/
  kept : List Byte := []
  /-- Header and payload of the image slots (R574, R580). -/
  hdrs : Store (List Byte) := []
  pays : Store (List Byte) := []
  /-- D_C (R577). -/
  digC : List Byte := []
  /-- The commit intent record: slot, VERSION, EPOCH, DIGEST (R590). -/
  intent : Option (Nat × Nat × Nat × List Byte) := none
  /-- The command that UPDRES.BUSY reports, as UPDCTL.OP, and UPDADDR as an INSTALL took it (R580, R590). -/
  op : Nat := 0
  src : Nat := 0
  /-- CLEAN has been accepted in this boot (R586). -/
  cleaned : Bool := false
  /-- The committed settings block (R593). -/
  block : Nat := 0
  deriving DecidableEq, Repr

end Sys2Proof.Machine
end

