-- ==== Sys2Proof/Machine/StateG.lean ====
section
/-!
DEFINITION. The parts of the state of chapters 07 and 08: the powerline ports, triples and line drivers, and the radio ports,
superframe and lint trap. Every default below is the value after reset.
-/

namespace Sys2Proof.Machine

/-- A frame queued on a powerline port, and where its attempts stand (R293, R305, R306, R309). -/
structure PlFrame where
  /-- A G.9903 frame: its octets as they are. -/
  g3 : Bool := false
  /-- Final link-layer destination; all ones for a broadcast. -/
  dst : Nat
  /-- 0 to 3 for PW0 to PW3; 4 for normal. -/
  pri : Nat
  mtype : Nat
  body : List Byte
  seq : Nat
  ackReq : Bool
  /-- EUI-64 of the repeater chosen; none for direct (R319). -/
  via : Option Nat := none
  /-- FID of the transmit timestamp asked for (R497). -/
  fid : Option Nat := none
  /-- Number of the broadcast this copy belongs to (R311). -/
  bid : Option Nat := none
  /-- Earliest transmit time, chip time in ns (R403). -/
  notBefore : Nat := 0
  /-- A KEP ACK, and the raw count after which an ACK or a relayed record may no longer start (R386, R406). -/
  ack : Bool := false
  ackBy : Option Nat := none
  /-- Slot drawn or backoff left, retries made, and whether the next attempt asks for a tone map under TMID 0. -/
  left : Option Nat := none
  tries : Nat := 0
  robust : Bool := false
  deriving DecidableEq, Repr

/-- An attempt on the air or waiting for its ACK (R309). -/
structure PlTx where
  txEnd : Nat
  /-- End of the ACK wait; the end of the frame when none is due. -/
  waitEnd : Nat
  /-- Low 16 bits of the frame's FCS. -/
  fcs : Nat
  ackReq : Bool
  /-- An owed ACK or NACK rather than a frame of the queue. -/
  isAck : Bool := false
  /-- The attempt has ended. -/
  ended : Bool := false
  deriving DecidableEq, Repr

/-- A powerline port (R302 to R325). -/
structure PlPort where
  queue : List PlFrame := []
  /-- Stamp of the driver request, in PLC cycles (R321). -/
  req : Option Nat := none
  /-- Driver granted, and the raw count of the grant (R322). -/
  gnt : Option (Nat × Nat) := none
  yielded : Bool := false
  tx : Option PlTx := none
  /-- How far the window exponent has risen above CWMIN (R306). -/
  e : Nat := 0
  /-- Raw count up to which the contention window has been counted (R306), or one more than the start of the sequence for which a
  slot was drawn (R305). -/
  counted : Nat := 0
  deriving DecidableEq, Repr

/-- An ACK or NACK that a triple owes (R308): the header that answers, when it is due, and the port of the best path. -/
structure PlOwe where
  fch : List Byte
  due : Nat
  port : Nat
  deriving DecidableEq, Repr

/-- A triple (R282, R283, R303). -/
structure PlTriple where
  /-- The medium is busy until this raw count. -/
  busyTo : Nat := 0
  /-- A frame is being received until this raw count. -/
  rxTo : Nat := 0
  /-- The G.9903 band is busy until this raw count (R331). -/
  g3To : Nat := 0
  /-- Octets of the segments of a G.9903 frame received so far (R329). -/
  g3Part : List Byte := []
  owed : Option PlOwe := none
  /-- The mode that a frame in progress keeps, and until when (R282). -/
  kept : Option (Nat × Nat) := none
  deriving DecidableEq, Repr

/-- The powerline ports. -/
structure PlSt where
  ports : Store PlPort := []
  triples : Store PlTriple := []
  /-- SEQ of the next frame, and number of the next broadcast. -/
  seq : Nat := 0
  bid : Nat := 0
  /-- PLSLDMAP of a granted driver as it stood at the grant (R325). -/
  map : Store Nat := []
  /-- By neighbour entry: raw count of the last tone map's arrival plus one, and consecutive ACKs of low margin (R314, R315). -/
  mapAt : Store Nat := []
  ackLow : Store Nat := []
  deriving DecidableEq, Repr

/-- A demodulator in use (R336). -/
structure RfDemod where
  idx : Nat
  group : Nat
  kind : Nat
  start : Nat
  deriving DecidableEq, Repr

/-- What a queued radio frame needs (R351). -/
inductive RfUse where
  | unicast
  | broadcast
  | setpoint
  deriving DecidableEq, Repr

/-- A frame queued on a radio port. -/
structure RfFrame where
  use : RfUse
  dst : Nat
  /-- PSDU without SEQ set and without its FCS; SEQ is the port's at transmission. -/
  psdu : List Byte
  since : Nat
  /-- Earliest raw count, and whether a relay copy has become eligible (R369). -/
  notBefore : Nat := 0
  eligible : Bool := true
  /-- Group it must leave on (R372, R386). -/
  group : Option Nat := none
  fid : Option Nat := none
  /-- A flood this chip originated (R370). -/
  own : Bool := false
  /-- A KEP ACK, and the raw count after which it may no longer start (R386). -/
  ack : Bool := false
  ackBy : Option Nat := none
  deriving DecidableEq, Repr

/-- A transmission of a radio port, raw counts of its first and its last sample, and whether it is a beacon. -/
structure RfTx where
  from_ : Nat
  to_ : Nat
  beacon : Bool := false
  deriving DecidableEq, Repr

/-- A transmission laid out ahead: its interval, group, kind and MCS, PSDU without SEQ and FCS, and for a frame that must lie in one
TXU run the queued frame it carries, which goes back to the queue when the transmission cannot begin. -/
structure RfSend where
  air : RfTx
  group : Nat
  kind : Nat
  mcs : Nat
  psdu : List Byte
  entry : Option Nat := none
  frame : Option RfFrame := none
  deriving DecidableEq, Repr

/-- An owed radio ACK (R344): the raw count at which it must start, its frame's group, kind and MCS, SEQ and sender, and the margin it
reports. -/
structure RfAck where
  due : Nat
  group : Nat
  kind : Nat
  mcs : Nat
  seq : Nat
  dst : Nat
  margin : Nat
  deriving DecidableEq, Repr

/-- A radio port. -/
structure RfPort where
  dems : List RfDemod := []
  queue : List RfFrame := []
  owed : List RfAck := []
  seq : Nat := 0
  /-- Transmissions on air or just ended, newest first (R337). -/
  tx : List RfTx := []
  /-- Transmissions laid out ahead, earliest first within each sequence: beacons and sleepy sequences. -/
  ahead : List RfSend := []
  /-- RFSF.FBCH met R355 for the port when FALLBACK was entered. -/
  fbOk : Bool := false
  /-- Raw count of the accepted SWAP (R356). -/
  swapAt : Nat := 0
  /-- Slot in which the port last started a flood of its own, counted from the superframe's number, plus one (R370). -/
  floodSlot : Nat := 0
  deriving DecidableEq, Repr

/-- The superframe, what it has learned of its parent, and the lint trap's sweep (R347 to R365, R647). -/
structure RfSt where
  ports : Store RfPort := []
  /-- The superframe in progress: chip time of its start, moved along with every step of chip time so that the superframe runs by its
  own count (R349), and its length in ns; none before the first. -/
  start : Option Nat := none
  len : Nat := 4096000000
  /-- Chip time of the next superframe start, in FOLLOW, moved along likewise. -/
  follow : Option Nat := none
  /-- SFN of the superframe that begins there. -/
  nextSfn : Nat := 0
  /-- Chip time at which the parent's beacon of the window ahead or open is expected to start, and that superframe's SFN (R361). -/
  win : Nat := 0
  winSfn : Nat := 0
  /-- SFN of the superframe whose window closed empty as the third (R360). -/
  holdSfn : Nat := 0
  /-- Reference, drift and count against the parent (R364). -/
  tref : Option Nat := none
  d : Int := 0
  n : Nat := 0
  sweptAt : Nat := 0
  deriving DecidableEq, Repr

end Sys2Proof.Machine
end

