-- ==== Sys2Proof/Machine/State.lean ====
section
/-!
DEFINITION. The state of the block as plain data, the reasons a step can stop, and the state after reset.
-/

namespace Sys2Proof.Machine

/-- The state of the SN2640. -/
structure State where
  /-- Commands waiting, first in, first out. -/
  pending : List Instr := []
  /-- The answer of the last refusable command. -/
  answer : Answer := {}
  /-- Random draws taken so far (notes/assumptions/2.md). -/
  freeCtr : Nat := 0
  /-- CSR values, by CSR number of a register's lowest word. -/
  csr : Store Nat := []
  /-- Staging copies of wider RW and WO registers (R12). -/
  csrStage : List (Nat × Nat) := []
  /-- Snapshots of wider RO and RC registers (R13). -/
  csrSnap : List (Nat × Nat) := []
  /-- Bytes of the physical map (R40 to R44). -/
  mem : Store Byte := []
  /-- Poisoned granules, by address / 8 (R48). -/
  poison : List Nat := []
  /-- Granules holding a single-bit error not yet corrected (R47). -/
  soft : List Nat := []
  pwr : PwrSt := {}
  ccs : Store CCore := []
  lcs : Store LCore := []
  /-- The coherent data cache of CC0 to CC3, by line number (R109). -/
  dcache : Store CLine := []
  queues : Store Queue := []
  locks : Store LockCell := []
  ldg : LedgerSt := {}
  time : TimeSt := {}
  evr : EvrSt := {}
  /-- Report records of each plane waiting for the report merge, oldest first (R27). -/
  dataQ : List Rec := []
  ctlQ : List Rec := []
  mgmtQ : List Rec := []
  /-- The merge's turn in its round, 0 to 6 (R27). -/
  turn : Nat := 0
  /-- The open batch: records taken by the merge and not yet batched, with the raw count at which each was taken (R473). -/
  merged : List (Nat × Rec) := []
  /-- Entry of the endpoint table that holds each local endpoint, plus one: the map of EPIs in use (R442). -/
  epiMap : Store Nat := []
  /-- What left the chip, newest first. -/
  wire : List Sent := []
  twn : TwnSt := {}
  mrm : MrmSt := {}
  nfc : NfcSt := {}
  rin : RinSt := {}
  clk : ClkSt := {}
  tap : TapSt := {}
  met : MetSt := {}
  bal : BalSt := {}
  dun : DunSt := {}
  mov : MoveSt := {}
  pfx : List PfxEntry := []
  ses : SesSt := {}
  key : KeySt := {}
  kep : KepSt := {}
  upd : UpdSt := {}
  pl : PlSt := {}
  rf : RfSt := {}
  /-- What hardware has handed to firmware and to its own message paths, newest first. -/
  delivered : List Deliv := []
  deriving DecidableEq, Repr

/-- The block right after power-on reset: every CSR at its reset value (an unlisted CSR reads it), memory with nothing listed, the
control cores held, the ledger cores in the idle block, boot at step 1, no command waiting. -/
def State.reset : State := {}

/-- The machine stops with a fault: none of the block's commands does (notes/assumptions/4.md). -/
inductive Fault where
  /-- Raised by no meaning of this model; safe. -/
  | none
  deriving DecidableEq, Repr

/-- A command has no meaning. -/
inductive Refusal where
  /-- A row this model gives no meaning: raised by a refused arm of exec; safe. -/
  | notModelled (mnemonic : String)
  deriving DecidableEq, Repr

end Sys2Proof.Machine
end

