-- ==== Sys2Proof/Machine/Ops.lean ====
section
/-!
DEFINITION. The named operations over registers, memory, cores, queues and lock cells that every meaning shares.
-/

namespace Sys2Proof.Machine

/-- The outcome type of this model. -/
abbrev Out := Host.Outcome State Fault Refusal

/-! ## Registers -/

/-- The element of a bank that covers a CSR number, as the CSR number of its lowest word. -/
def RegRow.elem (r : RegRow) (n : Nat) : Option Nat :=
  if n < r.base then none else
  let i := if r.n1 ≤ 1 then 0 else (n - r.base) / r.s1
  let o := n - r.base - i * r.s1
  let j := if r.n2 ≤ 1 then 0 else o / r.s2
  if i < r.n1 ∧ j < r.n2 ∧ o - j * r.s2 < (r.width + 31) / 32 * 4 then some (r.base + i * r.s1 + j * r.s2) else none

/-- The register a CSR number lies in: its row and the CSR number of its lowest word (R12). -/
def regFind : List RegRow → Nat → Option (RegRow × Nat)
  | [], _ => none
  | r :: rs, n => match r.elem n with
    | some b => some (r, b)
    | none => regFind rs n

/-- The register a CSR number lies in. -/
def regAt (n : Nat) : Option (RegRow × Nat) := regFind (regGroup (n / 0x10000)) n

/-- The row of a register named by its lowest word. -/
def regRow : List RegRow → Nat → Option RegRow
  | [], _ => none
  | r :: rs, b => if r.elem b = some b then some r else regRow rs b

/-- The value of a register after a reset that clears it (R16); 0 at a number no register starts at. -/
def regReset (b : Nat) : Nat :=
  match regRow (regGroup (b / 0x10000)) b with
  | some r => r.reset
  | none => 0

/-- The stored value of a register. -/
def State.reg (s : State) (b : Nat) : Nat := s.csr.get regReset b

/-- A register's stored value set. -/
def State.setReg (s : State) (b v : Nat) : State := { s with csr := s.csr.put regReset b v }

/-- The value of a field. -/
def State.fget (s : State) (f : Fld) : Nat := bits (s.reg f.reg) f.lo f.w

/-- A field set. -/
def State.fset (s : State) (f : Fld) (v : Nat) : State := s.setReg f.reg (setBits (s.reg f.reg) f.lo f.w v)

/-- A one-bit field. -/
def State.flag (s : State) (f : Fld) : Bool := s.fget f == 1

/-- A one-bit field set or cleared. -/
def State.setFlag (s : State) (f : Fld) (b : Bool) : State := s.fset f (b2n b)

/-- A saturating counter field raised by `n` (R14, the RC counters). -/
def State.bump (s : State) (f : Fld) (n : Nat) : State := s.fset f (satAdd f.w (s.fget f) n)

/-- A wrapping counter field raised by `n` (the 48-bit RO counters). -/
def State.count (s : State) (f : Fld) (n : Nat) : State := s.fset f (s.fget f + n)

/-- A field of a value given whole. -/
def Fld.of (f : Fld) (v : Nat) : Nat := bits v f.lo f.w

/-- The answer of the command. -/
def State.say (s : State) (st : Status) : State := { s with answer := ⟨st, 0⟩ }

/-- The answer of a read. -/
def State.sayVal (s : State) (v : Nat) : State := { s with answer := ⟨.done, v⟩ }

/-- The bits of a value outside a mask. -/
def maskOff (v m : Nat) : Nat := v ^^^ (v &&& m)

/-- A write of a whole register value to its plain fields: RW fields take it, W1C fields clear where it holds 1 (R14). -/
def RegRow.written (r : RegRow) (old v : Nat) : Nat :=
  let a := maskOff old r.rw ||| (v &&& r.rw)
  maskOff a (v &&& r.w1c)

/-- The registers that a reset of a kind (bit of `RegRow.clr`) clears return to their reset values; a staging copy of one of
them takes the value in force (R12); every snapshot is dropped (R13). -/
def clearedBy (kind : Nat) (b : Nat) : Bool :=
  match regRow (regGroup (b / 0x10000)) b with
  | some r => bit r.clr kind
  | none => true

/-! ## Planes (R28 to R33) -/

/-- The planes that own CSR blocks (R29). -/
inductive Plane where
  | control
  | data
  | mgmt
  deriving DecidableEq, Repr

/-- The seam-mode writer of a CSR block (R45); `none` for CCX, whose cores write their own part only, and for reserved
numbers. -/
def blockPlane (b : Nat) : Option Plane :=
  if b = 0x05 ∨ b = 0x06 ∨ b = 0x07 ∨ b = 0x09 ∨ b = 0x0A ∨ b = 0x40 ∨ b = 0x41 ∨ b = 0x43 ∨ b = 0x44 then some .data
  else if b = 0x08 ∨ (0x10 ≤ b ∧ b ≤ 0x1C) ∨ (0x20 ≤ b ∧ b ≤ 0x25) ∨ b = 0x30 ∨ (0x32 ≤ b ∧ b ≤ 0x3A) ∨ b = 0x3C then some .control
  else if b ≤ 0x03 ∨ (0x28 ≤ b ∧ b ≤ 0x2E) ∨ b = 0x31 ∨ b = 0x3D ∨ b = 0x3E ∨ b = 0x42 ∨ (0x45 ≤ b ∧ b ≤ 0x47) then some .mgmt
  else none

/-- An implemented CSR block (R45). -/
def blockImplemented (b : Nat) : Bool := b = 0x04 || (blockPlane b).isSome

/-- A unit of FENCE_STAT is fenced. -/
def State.fenced (s : State) (n : Nat) : Bool := bit (s.reg rFENCE_STAT) n

/-- The lowest-numbered control core that is not fenced. -/
def State.lowestCc (s : State) : Nat := if !s.fenced 0 then 0 else if !s.fenced 1 then 1 else if !s.fenced 2 then 2 else 3

/-- Core CCk acts for a plane in seam mode; a fenced CC2 or CC3 moves its plane to the lowest-numbered remaining core, with
the same rights (R29, R53). -/
def State.owns (s : State) (k : Nat) : Plane → Bool
  | .control => k = 0 || k = 1
  | .data => if s.fenced 2 then k = s.lowestCc else k = 2
  | .mgmt => if s.fenced 3 then k = s.lowestCc else k = 3

/-- R31 and R146: core CCk may not write this CSR. -/
def State.planeDenied (s : State) (k csr : Nat) : Bool :=
  let b := csr / 0x10000
  if b = 0x04 then csr % 0x10000 / 0x4000 ≠ k && csr % 0x10000 < 0xF000 && (csr % 0x4000 < 0x480 || s.flag fSYSSTAT_SEAM)
  else s.flag fSYSSTAT_SEAM && match blockPlane b with
    | some p => !s.owns k p
    | none => false

/-- A write refused with PLANE_DENIED sets SYSSTAT.PLANE_VIOL (R31). -/
def State.planeRefuse (s : State) : State := (s.setFlag fSYSSTAT_PLANE_VIOL true).say .planeDenied

/-! ## Modes -/

/-- MODESTAT.MODE (R63). -/
def modeBoot : Nat := 0
def modeCommission : Nat := 1
def modeService : Nat := 2
def modeHoldover : Nat := 3
def modeStandby : Nat := 4
def modeRecovery : Nat := 5

/-- The mode. -/
def State.mode (s : State) : Nat := s.fget fMODESTAT_MODE

/-- SERVICE or HOLDOVER. -/
def State.serving (s : State) : Bool := s.mode = modeService || s.mode = modeHoldover

/-- LCSSTAT.STATE: BLANK, PROVISIONED, FIELD, DEPOT, SCRAP. -/
def State.life (s : State) : Nat := s.fget fLCSSTAT_STATE
def lifeBlank : Nat := 0
def lifeProvisioned : Nat := 1
def lifeField : Nat := 2
def lifeDepot : Nat := 3
def lifeScrap : Nat := 4

/-- Debug access through the test port is open in BLANK and DEPOT (R570). -/
def State.debugOpen (s : State) : Bool := s.life = lifeBlank || s.life = lifeDepot

/-- What the test port reaches while debug access is locked: LCSCTL, LCSSTAT, LCSRES, KEYARG, KEYCMD and KEYSTAT (R570, R677); nothing in
SCRAP. -/
def State.portMay (s : State) (csr : Nat) : Bool :=
  s.debugOpen || (s.life ≠ lifeScrap && ((0x2E0000 ≤ csr && csr < 0x2E000C) || csr = 0x2C0000 || (0x2C0008 ≤ csr && csr < 0x2C001C)))

/-- An agent's write of a register: refused where its plane does not own the block (R31), or where debug access is locked
(R570), else as `f` says. -/
def State.asAgent (s : State) (a : Agent) (csr : Nat) (f : State → State) : State :=
  match a with
  | .cc k => if s.planeDenied k.val csr then s.planeRefuse else f s
  | .port => if s.portMay csr then f s else s.say .debugLocked

/-- A word-by-word write of a register in progress is forgotten: its staging copy follows the value in force (R12). -/
def State.dropStage (s : State) (b : Nat) : State := { s with csrStage := s.csrStage.filter fun e => e.1 ≠ b }

/-- An agent's write of all the words of a register at once: the staging copy then holds the value in force (R12). -/
def State.asWhole (s : State) (a : Agent) (b : Nat) (f : State → State) : State := s.asAgent a b fun t => f (t.dropStage b)

/-- The core clocks are stopped by a PFAIL sequence: at its halt, and at the latest 60 µs after its start (R71). -/
def State.pfStopped (s : State) : Bool :=
  match s.pwr.pf with
  | .idle => false
  | .closing t => decide (t + 60000 ≤ s.time.raw)
  | .halted => true

/-- Core clocks run: the chip is neither halted after a PFAIL sequence (R71) nor asleep (R81), REFCLK is there (R658), and no boundary
scan holds the chip (R676). -/
def State.clocked (s : State) : Bool :=
  !s.pfStopped && !s.pwr.asleep && s.clk.refLost.isNone && !s.flag fTAPSTAT_HOLD

/-- A command of the core domain, which does nothing while its clocks are stopped (R71, R81). -/
def State.live (s : State) (o : Out) : Out := if s.clocked then o else .next s

/-! ## Memory (R40 to R49) -/

/-- The regions of the physical map. -/
inductive Region where
  | lcMem
  | sram
  | mram
  | csr
  | da
  | db
  deriving DecidableEq, Repr

def lcBase : Nat := 0
def sramBase : Nat := 0x000100000000
def mramBase : Nat := 0x000200000000
def csrBase : Nat := 0x000300000000
def daBase : Nat := 0x010000000000
def dbBase : Nat := 0x020000000000

/-- Fitted bytes of DA and DB. -/
def State.daSize (s : State) : Nat := s.fget (fDDRSTAT_SIZE 0) * 2 ^ 30
def State.dbSize (s : State) : Nat := s.fget (fDDRSTAT_SIZE 1) * 2 ^ 30

/-- The region that holds all of an access, when one does (R43). -/
def State.region (s : State) (a n : Nat) : Option Region :=
  if a + n ≤ 0x800000 then some .lcMem
  else if sramBase ≤ a ∧ a + n ≤ sramBase + 0x2000000 then some .sram
  else if mramBase ≤ a ∧ a + n ≤ mramBase + 0x1000000 then some .mram
  else if csrBase ≤ a ∧ a + n ≤ csrBase + 0x1000000 then some .csr
  else if daBase ≤ a ∧ a + n ≤ daBase + s.daSize then some .da
  else if dbBase ≤ a ∧ a + n ≤ dbBase + s.dbSize then some .db
  else none

/-- An access that lies in the fitted DA. -/
def State.inDa (s : State) (a n : Nat) : Bool := daBase ≤ a && a + n ≤ daBase + s.daSize
def State.inDb (s : State) (a n : Nat) : Bool := dbBase ≤ a && a + n ≤ dbBase + s.dbSize

/-- The management part of the DA control partition: its top 128 MiB in seam mode; in a set of one, whose firmware shares the partition,
all of its 512 MiB (R30, R33, R51). -/
def State.inMgmtPart (s : State) (a n : Nat) : Bool :=
  decide (daBase + s.daSize - (if s.flag fSYSSTAT_SEAM then 0x8000000 else 0x20000000) ≤ a) && decide (a + n ≤ daBase + s.daSize)

/-- The memory of the management plane: DB, or what takes its place while DB is fenced (R33, R51). -/
def State.inMgmtMem (s : State) (a n : Nat) : Bool := if s.fenced 11 then s.inMgmtPart a n else s.inDb a n

/-- What a byte that nothing has written reads as (notes/assumptions/5.md). -/
def memDefault : Nat → Byte := fun _ => 0

/-- The canonical form of memory. -/
def Memory.wf (m : Store Byte) : Bool := Store.wf memDefault m

/-- One byte of memory. -/
def State.byte (s : State) (a : Nat) : Byte := s.mem.get memDefault a

/-- Bytes put into a memory from an address. -/
def putBytes : Store Byte → Nat → List Byte → Store Byte
  | m, _, [] => m
  | m, a, b :: bs => putBytes (m.put memDefault a b) (a + 1) bs

/-- `n` bytes of memory from an address. -/
def getBytes (m : Store Byte) (a : Nat) : Nat → List Byte
  | 0 => []
  | n + 1 => m.get memDefault a :: getBytes m (a + 1) n

/-- `n` bytes of memory from an address. -/
def State.bytes (s : State) (a n : Nat) : List Byte := getBytes s.mem a n

/-- A little-endian number in memory (R9). -/
def State.peek (s : State) (a n : Nat) : Nat := leNat (s.bytes a n)

/-- A granule lies whole in an access. -/
def covers (a n g : Nat) : Bool := a ≤ 8 * g && 8 * g + 8 ≤ a + n

/-- A granule is touched by an access. -/
def touches (a n g : Nat) : Bool := a < 8 * g + 8 && 8 * g < a + n

/-- The granules an access touches. -/
def granules (a n : Nat) : List Nat := (List.range ((a + n + 7) / 8 - a / 8)).map (· + a / 8)

/-- Some granule of a range is poisoned. -/
def State.poisonedIn (s : State) (a n : Nat) : Bool := s.poison.any (touches a n)

/-- The poison marks after a write: a whole-granule write replaces the mark, a smaller one keeps it (R48, R49); a poisoned
source poisons every granule it touches (R112). -/
def poisonAfter (p : List Nat) (a n : Nat) (bad : Bool) : List Nat :=
  let kept := p.filter fun g => !covers a n g
  if bad then (granules a n).foldl (fun l g => setIns g l) kept else kept

/-- Bytes written to memory, whole granules clean (R49). -/
def State.write (s : State) (a : Nat) (bs : List Byte) : State :=
  { s with mem := putBytes s.mem a bs, poison := poisonAfter s.poison a bs.length false,
           soft := s.soft.filter fun g => !covers a bs.length g }

/-- Bytes written from a source that may be poisoned (R112). -/
def State.writeP (s : State) (a : Nat) (bs : List Byte) (bad : Bool) : State :=
  { s with mem := putBytes s.mem a bs, poison := poisonAfter s.poison a bs.length bad,
           soft := s.soft.filter fun g => !covers a bs.length g }

/-- A little-endian number written to memory. -/
def State.poke (s : State) (a n v : Nat) : State := s.write a (leBytes n v)

/-- A range copied with its poison marks; both addresses are multiples of 8 (R181). The granules written hold no error any more. -/
def State.copyMem (s : State) (src dst n : Nat) : State :=
  { s with
    mem := Store.paste dst n (s.mem.slice src (src + n)) s.mem,
    poison := (s.poison.filter fun g => 8 * g < dst) ++
      ((s.poison.filter fun g => src ≤ 8 * g && 8 * g < src + n).map fun g => g - src / 8 + dst / 8) ++
      (s.poison.filter fun g => dst + n ≤ 8 * g),
    soft := s.soft.filter fun g => 8 * g + 8 ≤ dst || dst + n ≤ 8 * g }

/-- A range returned to what unwritten memory reads as, its marks cleared. -/
def State.clearMem (s : State) (a n : Nat) : State :=
  { s with mem := s.mem.clear a (a + n), poison := s.poison.filter fun g => 8 * g + 8 ≤ a || a + n ≤ 8 * g,
           soft := s.soft.filter fun g => 8 * g + 8 ≤ a || a + n ≤ 8 * g }

/-- Single-bit errors of a range corrected, counted and written back (R47). -/
def State.correct (s : State) (a n : Nat) : State :=
  let hit := s.soft.filter (touches a n)
  let da := hit.filter fun g => daBase ≤ 8 * g && 8 * g < dbBase
  let db := hit.filter fun g => dbBase ≤ 8 * g
  let mr := hit.filter fun g => mramBase ≤ 8 * g && 8 * g < csrBase
  if hit.isEmpty then s else
  (((({ s with soft := s.soft.filter fun g => !touches a n g }).bump (fDDRCORR_COUNT 0) da.length).bump
    (fDDRCORR_COUNT 1) db.length).bump fMRMCORR_COUNT mr.length)

/-- A read delivered poisoned is counted on its DDR channel (R48). -/
def State.countPoison (s : State) (a n : Nat) : State :=
  if s.poisonedIn a n then
    if daBase ≤ a ∧ a < dbBase then s.bump (fDDRPOIS_COUNT 0) 1
    else if dbBase ≤ a then s.bump (fDDRPOIS_COUNT 1) 1 else s
  else s

/-- What a read leaves behind: corrections and counts (R47, R48). -/
def State.touch (s : State) (a n : Nat) : State := (s.correct a n).countPoison a n

/-! ## Cores -/

/-- A control core after a reset that resets control cores. -/
def ccReset : Nat → CCore := fun _ => {}

/-- A ledger core after reset: released into the idle block (R191). -/
def lcReset : Nat → LCore := fun _ => { run := .idle }

def State.cc (s : State) (k : Nat) : CCore := s.ccs.get ccReset k
def State.setCc (s : State) (k : Nat) (c : CCore) : State := { s with ccs := s.ccs.put ccReset k c }
def State.lc (s : State) (n : Nat) : LCore := s.lcs.get lcReset n
def State.setLc (s : State) (n : Nat) (c : LCore) : State := { s with lcs := s.lcs.put lcReset n c }

/-- What both profiles share of a core. -/
def State.cpu (s : State) : CoreId → Cpu
  | .cc k => (s.cc k.val).cpu
  | .lc n => (s.lc n.val).cpu

def State.setCpu (s : State) (c : CoreId) (u : Cpu) : State :=
  match c with
  | .cc k => s.setCc k.val { s.cc k.val with cpu := u }
  | .lc n => s.setLc n.val { s.lc n.val with cpu := u }

def gprReset : Nat → GReg := fun _ => {}

/-- A general register: g0 reads as zero (R94). -/
def Cpu.g (u : Cpu) (r : Nat) : GReg := if r = 0 then {} else u.gpr.get gprReset r

/-- A general register written; a write of g0 is ignored (R94). -/
def Cpu.setG (u : Cpu) (r : Nat) (v : GReg) : Cpu := if r = 0 then u else { u with gpr := u.gpr.put gprReset r v }

/-- Consecutive registers written from a base. -/
def Cpu.setGs (u : Cpu) (r : Nat) : List GReg → Cpu
  | [] => u
  | v :: vs => Cpu.setGs (u.setG r v) (r + 1) vs

/-- Consecutive registers read from a base. -/
def Cpu.gs (u : Cpu) (r n : Nat) : List GReg := (List.range n).map fun i => u.g (r + i)

/-- The 64-bit value of the pair at a base (R150). -/
def Cpu.pair (u : Cpu) (r : Nat) : Nat := (u.g r).val.toNat + 2 ^ 32 * (u.g (r + 1)).val.toNat

/-- A pair's poison: either register's. -/
def Cpu.pairBad (u : Cpu) (r : Nat) : Bool := (u.g r).poison || (u.g (r + 1)).poison

/-! ## Queues and lock cells -/

def queueReset : Nat → Queue := fun _ => {}
def lockReset : Nat → LockCell := fun _ => {}

def State.queue (s : State) (q : Nat) : Queue := s.queues.get queueReset q
def State.setQueue (s : State) (q : Nat) (v : Queue) : State := { s with queues := s.queues.put queueReset q v }
def State.lock (s : State) (n : Nat) : LockCell := s.locks.get lockReset n
def State.setLock (s : State) (n : Nat) (v : LockCell) : State := { s with locks := s.locks.put lockReset n v }

/-- The n-th random draw of the chip, taken (notes/assumptions/2.md). -/
def State.draw (s : State) : Nat := Config.freeDraw s.freeCtr
def State.drawn (s : State) (n : Nat) : State := { s with freeCtr := s.freeCtr + n }

end Sys2Proof.Machine
end

