-- ==== Sys2Proof/Machine/Flags.lean ====
section
/-!
DEFINITION. The flags register FL and the rules by which instructions write it (R95 to R98, R110, R158, R159).
-/

namespace Sys2Proof.Machine

/-- The bits of FL (R95). -/
def flZ : Nat := 0
def flN : Nat := 1
def flC : Nat := 2
def flV : Nat := 3
def flF : Nat := 4
def flW : Nat := 5
def flPS : Nat := 6

/-- A flag of FL. -/
def Cpu.flag (u : Cpu) (i : Nat) : Bool := u.fl.toNat.testBit i

/-- FL with a flag written. -/
def Cpu.setFlag (u : Cpu) (i : Nat) (b : Bool) : Cpu :=
  { u with fl := BitVec.ofNat 32 (setBits u.fl.toNat i 1 (b2n b)) }

/-- FL.ST, the status of the last refusable instruction (R95). -/
def Cpu.st (u : Cpu) : Nat := bits u.fl.toNat 16 16

/-- Z, N, C and V written together (R159). -/
def Cpu.setZncv (u : Cpu) (z n c v : Bool) : Cpu :=
  { u with fl := BitVec.ofNat 32 (setBits u.fl.toNat 0 4 (b2n z + 2 * b2n n + 4 * b2n c + 8 * b2n v)) }

/-- PS set when poison has been consumed, and kept otherwise (R110). -/
def Cpu.ps (u : Cpu) (bad : Bool) : Cpu := if bad then u.setFlag flPS true else u

/-- How a refusable instruction ends (R96, R97). -/
inductive Ended where
  | done
  | warn (st : Status)
  | refuse (st : Status)
  deriving DecidableEq, Repr

/-- ST, F and W written at the end of a refusable instruction (R96, R97). -/
def Cpu.ended (u : Cpu) (e : Ended) : Cpu :=
  let (st, f, w) := match e with
    | .done => (Status.done.code, false, false)
    | .warn st => (st.code, false, true)
    | .refuse st => (st.code, true, false)
  { u with fl := BitVec.ofNat 32 (setBits (setBits u.fl.toNat 16 16 st) 4 2 (b2n f + 2 * b2n w)) }

/-- FL as SETFL writes it: reserved bits stay zero, PS keeps its value in the L-profile, and a poisoned operand sets PS
(R158). -/
def setflValue (lprof : Bool) (old : Word) (a : GReg) : Word :=
  let v := setBits a.val.toNat 7 9 0
  let v := if lprof then setBits v 6 1 (bits old.toNat 6 1) else v
  BitVec.ofNat 32 (if a.poison then setBits v 6 1 1 else v)

/-- A sum or difference of the carry chain: its 32-bit value, N, C and V (R159). -/
structure Chain where
  val : Word
  c : Bool
  v : Bool

/-- `a + b + cin` of the carry chain (R159). -/
def chainAdd (a b : Word) (cin : Nat) : Chain :=
  let t := a.toNat + b.toNat + cin
  let ts := a.toInt + b.toInt + cin
  ⟨BitVec.ofNat 32 t, 2 ^ 32 ≤ t, ts < -2 ^ 31 || 2 ^ 31 ≤ ts⟩

/-- `a − b − bin` of the carry chain; C set when no borrow leaves it (R159). -/
def chainSub (a b : Word) (bin : Nat) : Chain :=
  let ts := a.toInt - b.toInt - bin
  ⟨BitVec.ofInt 32 ((a.toNat : Int) - b.toNat - bin), b.toNat + bin ≤ a.toNat, ts < -2 ^ 31 || 2 ^ 31 ≤ ts⟩

end Sys2Proof.Machine
end

