-- ==== Sys2Proof/Machine/Queues.lean ====
section
/-!
DEFINITION. Queues and sequence locks: enqueueing, dequeueing, stalled consumers, flushes, disabling, and the lock cells
(R127 to R140).
-/

namespace Sys2Proof.Machine

/-- Queue n is enabled, its ring size and its first descriptor (R127). -/
def State.qEn (s : State) (q : Nat) : Bool := q < 128 && s.flag (fQCFG_EN q)
def State.qSize (s : State) (q : Nat) : Nat := 2 ^ s.fget (fQCFG_SIZE q)
def State.qBase (s : State) (q : Nat) : Nat := s.fget (fQCFG_BASE q)

/-- Address of a ring slot in the descriptor pool (R41). -/
def State.slotAddr (s : State) (q i : Nat) : Nat := sramBase + 32 * (s.qBase q + i % s.qSize q)

/-- The ring is full. -/
def State.qFull (s : State) (q : Nat) : Bool := s.qSize q ≤ (s.queue q).count

/-- END of a descriptor: word 0 bit 31 (R135). -/
def descEnd (d : List GReg) : Bool := (d.headD {}).val.getLsbD 31

/-- The bytes of a descriptor in the pool. -/
def descBytes (d : List GReg) : List Byte := d.flatMap fun w => leBytes 4 w.val.toNat

/-- A descriptor's marks, as 8 × slot + word. -/
def descMarks (slot : Nat) (d : List GReg) : List Nat :=
  ((List.range 8).filter fun i => (d.getD i {}).poison).map fun i => 8 * slot + i

/-- The parity bit of a word: whether it holds an odd number of ones (R134). -/
def oddParity (w : Word) : Bool := (List.range 32).foldl (fun a i => a ^^ w.getLsbD i) false

/-- The parity bits of a descriptor, as 8 × slot + word. -/
def descOdd (slot : Nat) (d : List GReg) : List Nat :=
  ((List.range 8).filter fun i => oddParity (d.getD i {}).val).map fun i => 8 * slot + i

/-- A descriptor put at the tail of a ring that has room; a pending producer-side flush discards it instead, up to and
including the next END (R136). -/
def State.enqueue (s : State) (q : Nat) (d : List GReg) : State :=
  let Q := s.queue q
  let e := descEnd d
  if Q.flushIn && !Q.flushJoint then
    (s.setQueue q { Q with flushIn := !e, midIn := !e }).bump (fQDISC_DISC q) 1
  else
    let slot := (Q.head + Q.count) % s.qSize q
    let s1 := s.write (s.slotAddr q slot) (descBytes d)
    s1.setQueue q { Q with
      count := Q.count + 1, midIn := !e, flushIn := Q.flushIn && !e,
      marks := (Q.marks.filter fun m => m / 8 ≠ slot) ++ descMarks slot d
      odd := (Q.odd.filter fun m => m / 8 ≠ slot) ++ descOdd slot d }

/-- The oldest descriptor as a DEQ delivers it: a word is poisoned when it failed parity, lies in a poisoned granule or was
enqueued from a poisoned register (R134). -/
def State.front (s : State) (q : Nat) : List GReg :=
  let Q := s.queue q
  let slot := Q.head % s.qSize q
  let a := s.slotAddr q slot
  (List.range 8).map fun i =>
    let v : Word := BitVec.ofNat 32 (s.peek (a + 4 * i) 4)
    { val := v,
      poison := Q.marks.contains (8 * slot + i) || s.poisonedIn (a + 4 * i) 4 || oddParity v != Q.odd.contains (8 * slot + i) }

/-- Items that hardware producers keep enter while the ring has room (R129): one attempt for each of them. -/
def State.refill (s : State) (q : Nat) : State :=
  (s.queue q).held.foldl (fun (t : State) _ =>
    match (t.queue q).held with
    | [] => t
    | h :: hs => if t.qFull q then t else (t.setQueue q { t.queue q with held := hs }).enqueue q h) s

/-- The oldest descriptor removed; a pending consumer-side flush discards after its END what it had found in the ring (R136); items
that hardware producers keep then enter (R129). -/
def State.dequeued (s : State) (q : Nat) : State :=
  let Q := s.queue q
  let d := s.front q
  let e := descEnd d
  let s1 := (s.touch (s.slotAddr q (Q.head % s.qSize q)) 32).bump (fQPAR_PAR q) (d.filter (·.poison)).length
  let Q1 := { Q with head := (Q.head + 1) % s.qSize q, count := Q.count - 1, midOut := !e, flushN := Q.flushN - 1 }
  let s2 :=
    if Q.flushOut && e then
      if Q.flushJoint then s1.setQueue q { Q1 with flushOut := false, flushJoint := false }
      else
        let n := min Q1.flushN Q1.count
        (s1.setQueue q { Q1 with flushOut := false, flushN := 0, head := (Q1.head + n) % s.qSize q, count := Q1.count - n }).bump
          (fQDISC_DISC q) n
    else s1.setQueue q Q1
  s2.refill q

/-- A core's DEQ completes with a descriptor: the group written, DONE or the warning POISONED, and the PC moved on (R134,
R175). -/
def Cpu.deqDone (u : Cpu) (ra : Nat) (d : List GReg) : Cpu :=
  let bad := d.any (·.poison)
  let u1 := (((u.setGs ra d).ps bad).ended (if bad then .warn .poisoned else .done))
  { u1 with pc := u.pc + 4 }

/-- The first stalled consumer of a queue served when a descriptor is there (R130). -/
def State.serveOne (s : State) (q : Nat) : State :=
  let Q := s.queue q
  match Q.stalled with
  | [] => s
  | k :: ks =>
    if Q.count = 0 then s else
    match (s.cc k).run with
    | .deq _ ra =>
      let d := s.front q
      let s1 := (s.setQueue q { Q with stalled := ks }).dequeued q
      s1.setCc k { s1.cc k with cpu := (s1.cc k).cpu.deqDone ra d, run := .run }
    | _ => s.setQueue q { Q with stalled := ks }

/-- Stalled consumers served in the order in which they stalled, while descriptors last (R130). -/
def State.serve (s : State) (q : Nat) : State :=
  (s.queue q).stalled.foldl (fun t _ => t.serveOne q) s

/-- An item of a hardware producer: it enters, or is kept and counted once when the ring is full (R129). A disabled queue
keeps it too. -/
def State.hwEnqueue (s : State) (q : Nat) (d : List GReg) : State :=
  let Q := s.queue q
  if !s.qEn q then s.setQueue q { Q with held := Q.held ++ [d] }
  else if s.qFull q || !Q.held.isEmpty then (s.setQueue q { Q with held := Q.held ++ [d] }).bump (fQREF_REF q) 1
  else (s.enqueue q d).serve q

/-- A descriptor of plain words. -/
def plainDesc (ws : List Nat) : List GReg :=
  (List.range 8).map fun i => { val := BitVec.ofNat 32 (ws.getD i 0) }

/-- Some descriptor of the ring is an END (R136). -/
def State.ringHasEnd (s : State) (q : Nat) : Bool :=
  (List.range (s.queue q).count).any fun i =>
    (s.byte (s.slotAddr q ((s.queue q).head + i) + 3)).getLsbD 7

/-- A write of QCTLn.FLUSH (R136). -/
def State.flush (s : State) (q : Nat) : State :=
  let Q := s.queue q
  if Q.midOut && Q.midIn && !s.ringHasEnd q then
    s.setQueue q { Q with flushOut := true, flushIn := true, flushJoint := true }
  else if Q.midOut then s.setQueue q { Q with flushOut := true, flushIn := Q.midIn, flushJoint := false, flushN := Q.count }
  else ((s.setQueue q { Q with
    count := 0, marks := [], odd := [], flushOut := false, flushIn := Q.midIn, flushJoint := false, flushN := 0 }).bump
    (fQDISC_DISC q) Q.count).refill q

/-- A stalled core's instruction refused: ST and F written, the PC moved on (R132). -/
def State.refuseStalled (s : State) (k : Nat) (st : Status) : State :=
  let c := s.cc k
  s.setCc k { c with cpu := { (c.cpu.ended (.refuse st)) with pc := c.cpu.pc + 4 }, run := .run }

/-- A queue disabled: its contents are discarded and every stalled DEQ is refused with BAD_QUEUE (R132). -/
def State.qDisable (s : State) (q : Nat) : State :=
  let Q := s.queue q
  Q.stalled.foldl (fun t k => t.refuseStalled k .badQueue) (s.setQueue q { held := Q.held })

/-- Rings of two enabled queues overlap. -/
def ringsOverlap (b1 n1 b2 n2 : Nat) : Bool := b1 < b2 + n2 && b2 < b1 + n1

/-- A write of QCFGn (R42, R127, R132). -/
def State.qcfgWrite (s : State) (q : Nat) (v : Nat) : State :=
  let base := (fQCFG_BASE q).of v
  let size := (fQCFG_SIZE q).of v
  let en := (fQCFG_EN q).of v = 1
  let was := s.qEn q
  let put := fun (t : State) => t.setReg (rQCFG q) (setBits (setBits base 24 4 size) 31 1 (b2n en))
  if size < 4 ∨ 12 < size then s.say .badArgument
  else if base % 2 ^ size ≠ 0 then s.say .badArgument
  else if was then
    if base ≠ s.qBase q ∨ 2 ^ size ≠ s.qSize q then s.say .badArgument
    else if en then s.say .done
    else ((put s).qDisable q).say .done
  else if en then
    let others := (List.range 128).filter fun p => p ≠ q && s.qEn p
    if others.any fun p => ringsOverlap base (2 ^ size) (s.qBase p) (s.qSize p) then s.say .qpoolFull
    else if 131072 < (others.map fun p => s.qSize p).sum + 2 ^ size then s.say .qpoolFull
    else
      let s1 := put s
      let Q := s1.queue q
      -- items that hardware producers kept enter the enabled ring
      let s2 := s1.setQueue q { held := [] }
      ((Q.held.foldl (fun t d => t.hwEnqueue q d) s2)).say .done
  else (put s).say .done

/-! ## Lock cells -/

/-- A core's LOCK completes: SEQ goes to its register (R137, R176). -/
def Cpu.lockDone (u : Cpu) (ra : Nat) (seq : Word) (brk : Bool) : Cpu :=
  { ((u.setG ra { val := seq }).ended (if brk then .warn .broken else .done)) with pc := u.pc + 4 }

/-- The first waiter of a cell that is FREE or BROKEN is granted (R137, R138, R140). -/
def State.lockGrant (s : State) (n : Nat) : State :=
  let L := s.lock n
  match L.st, L.waiters with
  | .held, _ => s
  | _, [] => s
  | st, k :: ks =>
    match (s.cc k).run with
    | .lock _ ra =>
      let brk := st = .broken
      let seq := if brk then L.seq else L.seq + 1
      let s1 := s.setLock n { st := .held, owner := k, seq := seq, waiters := ks }
      s1.setCc k { s1.cc k with cpu := (s1.cc k).cpu.lockDone ra seq brk, run := .run }
    | _ => s.setLock n { L with waiters := ks }

/-- One cell whose owner is lost becomes BROKEN; its first waiter is granted at once (R138). -/
def State.breakCell (s : State) (k n : Nat) : State :=
  let L := s.lock n
  if L.st = .held ∧ L.owner = k then
    ((s.setLock n { L with st := .broken }).bump fLCKBRK_BRK 1).lockGrant n
  else s

/-- Every cell that core CCk holds becomes BROKEN (R138). -/
def State.breakLocks (s : State) (k : Nat) : State :=
  (List.range 256).foldl (fun t n => t.breakCell k n) s

/-- A core's place in every line of waiters given up (R131). -/
def State.leaveLines (s : State) (k : Nat) : State :=
  match (s.cc k).run with
  | .deq q _ => s.setQueue q { s.queue q with stalled := (s.queue q).stalled.filter (· ≠ k) }
  | .lock n _ => s.setLock n { s.lock n with waiters := (s.lock n).waiters.filter (· ≠ k) }
  | _ => s

end Sys2Proof.Machine
end

