-- ==== Sys2Proof/Machine/Crc.lean ====
section
/-!
DEFINITION. The cyclic redundancy checks the chapters name: CRC-32C (R439, R598), the IEEE CRC-32 of Ethernet and of the
radio's 4-byte FCS, and the 16-bit and 8-bit CRCs of the port chapters, as bitwise divisions.
-/

namespace Sys2Proof.Machine

/-- One bit of a reflected CRC. -/
def crcStepR (poly r : Nat) : Nat := if r % 2 = 1 then (r / 2) ^^^ poly else r / 2

/-- `n` bits of a reflected CRC. -/
def crcBitsR (poly : Nat) : Nat → Nat → Nat
  | 0, r => r
  | n + 1, r => crcBitsR poly n (crcStepR poly r)

/-- A reflected CRC over bytes, bit 0 of each byte first. -/
def crcR (poly init xorOut : Nat) (bs : List Byte) : Nat :=
  (bs.foldl (fun r b => crcBitsR poly 8 (r ^^^ b.toNat)) init) ^^^ xorOut

/-- CRC-32C: initial value and final XOR 0xFFFF_FFFF (R439). -/
def crc32c (bs : List Byte) : Nat := crcR 0x82F63B78 0xFFFFFFFF 0xFFFFFFFF bs

/-- The IEEE 802.3 CRC-32. -/
def crc32 (bs : List Byte) : Nat := crcR 0xEDB88320 0xFFFFFFFF 0xFFFFFFFF bs

/-- One bit of an unreflected CRC of width `w`. -/
def crcStepF (w poly r : Nat) : Nat :=
  if bit r (w - 1) then ((r * 2) ^^^ poly) % 2 ^ w else (r * 2) % 2 ^ w

def crcBitsF (w poly : Nat) : Nat → Nat → Nat
  | 0, r => r
  | n + 1, r => crcBitsF w poly n (crcStepF w poly r)

/-- An unreflected CRC of width `w` (at least 8) over bytes, most significant bit first. -/
def crcF (w poly init xorOut : Nat) (bs : List Byte) : Nat :=
  (bs.foldl (fun r b => crcBitsF w poly 8 (r ^^^ (b.toNat * 2 ^ (w - 8)))) init) ^^^ xorOut

end Sys2Proof.Machine
end

