-- ==== Sys2Proof/Machine/TimeBase.lean ====
section
/-!
DEFINITION. Chip time and the services that other chapters call: conversions, capture, the step budget and transmit-timestamp
queues (R483 to R499).
-/

namespace Sys2Proof.Machine

/-- Chip time at a raw count, with the OFFSET, ANCHOR and INCR in force (R484, R486). -/
def State.chipAt (s : State) (raw : Nat) : Nat :=
  (s.time.offset + (raw - s.time.anchor) * s.reg rTIMINCR / 2 ^ 40) % 2 ^ 64

/-- Chip time now. -/
def State.chip (s : State) : Nat := s.chipAt s.time.raw

/-- Chip time on the meter-time scale, in ms (R484). -/
def State.meterNow (s : State) : Nat := s.chip / 1000000

/-- The first raw count at which chip time has reached `t` (R484). -/
def State.rawOf (s : State) (t : Nat) : Nat :=
  s.time.anchor + ((t - s.time.offset) * 2 ^ 40 + s.reg rTIMINCR - 1) / s.reg rTIMINCR

def State.timeValid (s : State) : Bool := s.flag fTIMSTAT_VALID

/-- The step budget at this raw count: 1 ns for every 1,800 raw counts, up to 2 s (R490). -/
def State.budget (s : State) : Nat :=
  min (s.fget fTIMBUDGET_NS + (s.time.raw - s.time.budgetAt) / 1800) 2000000000

/-- The correction in ns of a port's transmit or receive timestamp: the fixed one of R495 plus the board's in TIMCORRq. -/
def State.stampCorr (s : State) (q : Nat) (fixed : Int) (tx : Bool) : Int :=
  fixed + sx (s.fget (if tx then fTIMCORR_TX q else fTIMCORR_RX q)) 32

/-- A captured raw count converted and corrected (R486, R495). -/
def State.stamp (s : State) (q : Nat) (raw : Nat) (fixed : Int) (tx : Bool) : Nat :=
  cut 64 ((s.chipAt raw : Int) + s.stampCorr q fixed tx)

def txqReset : Nat → TxQueue := fun _ => {}

def State.setTime (s : State) (t : TimeSt) : State := { s with time := t }

/-- A transmit-timestamp queue set. -/
def State.setTxq (s : State) (q : Nat) (Q : TxQueue) : State :=
  s.setTime { s.time with txq := s.time.txq.put txqReset q Q }

/-- A transmit timestamp put into queue q, or dropped and counted when 16 entries wait (R497, R498). -/
def State.putTx (s : State) (q fid chip : Nat) : State :=
  let Q := s.time.txq.get txqReset q
  if 16 ≤ Q.entries.length then (s.setTxq q { Q with gap := true }).bump (fTIMTXLOST_COUNT q) 1
  else s.setTxq q { entries := Q.entries ++ [⟨fid, Q.gap, chip⟩], gap := false }

/-- Milliseconds and seconds in raw counts. -/
def msRaw (n : Nat) : Nat := n * 1000000
def secRaw (n : Nat) : Nat := n * 1000000000

end Sys2Proof.Machine
end

