-- ==== Sys2Proof/Machine/Evr.lean ====
section
/-!
DEFINITION. The event recorder: posting, folding, slots, flushing and clearing (R629 to R642).
-/

namespace Sys2Proof.Machine

/-- Address of recorder record `k` in MRAM (R595, R629). -/
def evrAddr (k : Nat) : Nat := mramBase + 0x7B0000 + 128 * k

/-- Operating time in seconds (R632). -/
def State.opt (s : State) : Nat := ((s.evr.optBase + s.time.raw) / 1000000000).toNat % 2 ^ 32

/-- Power-cycle count (R633). -/
def State.pcc (s : State) : Nat := s.fget fEVRPCC_COUNT

/-- Bin of HIST that takes a value: its bit length capped at 15 (R630). -/
def histBin (v : Nat) : Nat := if v = 0 then 0 else min (Nat.log2 v + 1) 15

/-- CODE, SEV, LOSS, EXPORTED, RSEQ and REPEAT of a record. -/
def recCode (d : List Byte) : Nat := le d 4 2 % 4096
def recSev (d : List Byte) : Nat := le d 4 2 / 4096 % 4
def recExported (d : List Byte) : Bool := bit (le d 4 2) 15
def recRepeat (d : List Byte) : Nat := le d 6 2
def recRseq (d : List Byte) : Nat := le d 8 8 % 2 ^ 48

/-- A field of a record replaced. -/
def recPut (d : List Byte) (o n v : Nat) : List Byte := splice d o (leBytes n v)

/-- The key of a record equals an event's (R635). -/
def recKey (d : List Byte) (e : Event) : Bool := recCode d = e.code && le d 40 1 = e.src && le d 41 1 = e.inst

/-- An occurrence added to a record's MIN, MAX, HIST, SUM and LASTVAL (R629, R630). -/
def recStats (d : List Byte) (v : Nat) : List Byte :=
  let b := 64 + 2 * histBin v
  let d := recPut d b 2 (satAdd 16 (le d b 2) 1)
  let d := recPut d 56 4 (min (le d 56 4) v)
  let d := recPut d 60 4 (max (le d 60 4) v)
  let d := recPut d 96 8 (satAdd 64 (le d 96 8) v)
  recPut d 104 4 v

/-- A record opened by an event (R629). -/
def State.newRec (s : State) (e : Event) (rseq : Nat) : List Byte :=
  let d := List.replicate 128 (0 : Byte)
  let d := recPut d 4 2 (e.code % 4096 + 4096 * (e.sev % 4) + 16384 * b2n s.evr.lost)
  let d := recPut d 8 8 rseq
  let d := recPut d 16 4 s.opt
  let d := recPut d 20 4 s.pcc
  let d := recPut d 24 4 s.opt
  let d := recPut d 28 4 s.pcc
  let d := recPut d 32 8 (s.chip % 2 ^ 63 + 2 ^ 63 * b2n (!s.timeValid))
  let d := recPut d 40 1 e.src
  let d := recPut d 41 1 e.inst
  let d := recPut d 44 4 e.arg0
  let d := recPut d 48 8 e.arg1
  let d := recPut d 56 4 (2 ^ 32 - 1)
  recStats d e.value

/-- A folded occurrence (R635); EXPORTED clears (R644). -/
def State.foldRec (s : State) (d : List Byte) (v : Nat) : List Byte :=
  let d := recPut d 4 2 (le d 4 2 % 2 ^ 15)
  let d := recPut d 6 2 (satAdd 16 (le d 6 2) 1)
  let d := recPut d 24 4 s.opt
  let d := recPut d 28 4 s.pcc
  recStats d v

/-- A record written to its slot, a 13-bit number: its 128 bytes, and GEN raised to the next even value (R629, R638). -/
def State.putRec (s : State) (slot : Nat) (d : List Byte) : State :=
  let a := evrAddr (slot % 8192)
  let gen := (s.peek a 4 / 2 * 2 + 2) % 2 ^ 32
  s.write a ((recPut d 0 4 gen).take 128)

/-- A pending fold written (R636). -/
def State.flushOpen (s : State) (o : OpenRec) : State := if o.dirty then s.putRec o.slot o.data else s

/-- The first slot from `k` whose record a test holds of. -/
def State.findRec (s : State) (p : Nat → List Byte → Bool) : Nat → Nat → Option Nat
  | 0, _ => none
  | n + 1, k => if p k (s.bytes (evrAddr k) 128) then some k else State.findRec s p n (k + 1)

/-- The slot of lowest RSEQ among those a test holds of. -/
def State.lowestRec (s : State) (p : Nat → List Byte → Bool) : Nat → Nat → Option (Nat × Nat) → Option (Nat × Nat)
  | 0, _, best => best
  | n + 1, k, best =>
    let d := s.bytes (evrAddr k) 128
    let best := if p k d then
        match best with
        | some (_, r) => if recRseq d < r then some (k, recRseq d) else best
        | none => some (k, recRseq d)
      else best
    State.lowestRec s p n (k + 1) best

/-- The slot a new record of a severity takes (R639). -/
def State.takeSlot (s : State) (sev : Nat) : Option Nat :=
  let inOpen := fun k => s.evr.openSet.any fun o => o.slot = k
  let usable := fun k d => recCode d ≠ 0 && !inOpen k
  if s.evr.used < 8192 then s.findRec (fun _ d => recCode d = 0) 8192 0 else
  match s.lowestRec (fun k d => usable k d && recExported d) 8192 0 none with
  | some (k, _) => some k
  | none =>
    let at_ := fun v => (s.lowestRec (fun k d => usable k d && recSev d = v) 8192 0 none).map Prod.fst
    match at_ 0, at_ 1, at_ 2, at_ 3 with
    | some k, _, _, _ => some k
    | none, some k, _, _ => if 1 ≤ sev then some k else none
    | none, none, some k, _ => if 2 ≤ sev then some k else none
    | none, none, none, some k => if 3 ≤ sev then some k else none
    | none, none, none, none => none

def State.setEvr (s : State) (e : EvrSt) : State := { s with evr := e }

/-- EVRSTAT and the open set after a change of the open set (R635). -/
def State.setOpen (s : State) (os : List OpenRec) : State :=
  (s.setEvr { s.evr with openSet := os }).fset fEVRSTAT_OPEN os.length

/-- The record an event folds into, when it folds (R635). -/
def State.foldsInto (s : State) (e : Event) : Option OpenRec :=
  s.evr.openSet.find? fun o =>
    recKey o.data e && decide (le o.data 28 4 = s.pcc) && decide (s.opt - le o.data 24 4 ≤ s.fget fEVRCFG_MERGEWIN)

/-- An event that the front end takes (R634 to R639). -/
def State.event (s : State) (e : Event) : State :=
  match s.foldsInto e with
  | some o =>
    let o' := { o with data := s.foldRec o.data e.value, dirty := true }
    s.setOpen (o' :: s.evr.openSet.filter fun x => x.slot ≠ o.slot)
  | none =>
    -- the key's own open record, and the least recently used one when the set is full, leave the set written
    let stale := s.evr.openSet.filter fun o => recKey o.data e
    let rest := s.evr.openSet.filter fun o => !recKey o.data e
    let out := stale ++ rest.drop 7
    let s1 := (out.foldl State.flushOpen s).setOpen (rest.take 7)
    match s1.takeSlot e.sev with
    | none => s1.bump (fEVRDROP_COUNT (min e.sev 3)) 1
    | some k =>
      let rseq := s1.fget fEVRRSEQ_RSEQ
      let wasFree := recCode (s1.bytes (evrAddr k) 128) = 0
      let d := s1.newRec e rseq
      let s2 := (s1.putRec k d).fset fEVRRSEQ_RSEQ (rseq + 1)
      let used := s2.evr.used + b2n wasFree
      let s3 := (s2.setEvr { s2.evr with lost := false, used := used }).setOpen
        ({ slot := k, data := d, written := s2.time.raw } :: s2.evr.openSet)
      (s3.fset fEVRSTAT_NEWEST k).setFlag fEVRSTAT_FULL (8192 ≤ used)

/-- A refusal of family 0x5 recorded (R642): VALUE the frame's length, ARG0 the port, ARG1 the sender's EUI-64 or 0. -/
def State.refused5 (s : State) (st : Status) (src inst len port eui : Nat) : State :=
  s.event { code := 0x500 + st.code % 256, sev := 0, src := src, inst := inst, arg0 := port, arg1 := eui, value := len }

/-- Poison consumed or found (R642, code 0x040). -/
def State.poisonEvent (s : State) (src inst granules : Nat) (st : Status) (addr : Nat) : State :=
  s.event { code := 0x040, sev := 2, src := src, inst := inst, arg0 := st.code, arg1 := addr, value := granules }

end Sys2Proof.Machine
end

