-- ==== Sys2Proof/Machine/DunebTx.lean ====
section
/-!
DEFINITION. What leaves the chip, and the sending side of the Duneb links: cells, credits, the retry buffer and routing
(R451 to R454, R460, R461).
-/

namespace Sys2Proof.Machine

def State.setTwn (s : State) (t : TwnSt) : State := { s with twn := t }
def State.setMrm (s : State) (m : MrmSt) : State := { s with mrm := m }
def State.setNfc (s : State) (n : NfcSt) : State := { s with nfc := n }
def State.setLdg (s : State) (l : LedgerSt) : State := { s with ldg := l }
def State.setPwr (s : State) (p : PwrSt) : State := { s with pwr := p }
def State.setDun (s : State) (d : DunSt) : State := { s with dun := d }
def State.setMov (s : State) (m : MoveSt) : State := { s with mov := m }
def State.setSes (s : State) (m : SesSt) : State := { s with ses := m }

/-- Bytes that leave the chip through a port, named by its CSR block number (notes/assumptions/3.md). -/
def State.send (s : State) (port : Nat) (bs : List Byte) : State := { s with wire := ⟨port, bs⟩ :: s.wire }

/-- Radio, Ethernet and Duneb transmitters run: no PFAIL sequence has begun (R71). -/
def State.mayEmit (s : State) : Bool := s.pwr.pf = .idle

/-- SEMCFG.SELF. -/
def State.self (s : State) : Nat := s.fget fSEMCFG_SELF

/-- Link DLk is up and not fenced. -/
def State.dlUp (s : State) (k : Nat) : Bool := s.flag (fDLSTAT_UP k)

def dlReset : Nat → DlSt := fun _ => {}
def State.dl (s : State) (k : Nat) : DlSt := s.dun.links.get dlReset k
def State.setDl (s : State) (k : Nat) (d : DlSt) : State := s.setDun { s.dun with links := s.dun.links.put dlReset k d }

def crZero : Nat → Nat := fun _ => 0

/-- CPOOL of a cell (R453). -/
def DlCell.pool (c : DlCell) : Nat := c.cls + 4 * b2n c.det

/-- Header of a cell (R451). -/
def DlCell.header (c : DlCell) : List Byte :=
  beBytes 1 (c.cls * 64 + b2n c.det * 32 + b2n c.sop * 16 + b2n c.eop * 8) ++ beBytes 1 (c.dst * 32 + c.src * 4) ++
  beBytes 1 c.typ ++ beBytes 1 c.payload.length ++ beBytes 4 c.msgid

/-- The pool whose credits go back in the next cell, with their number (R453). -/
def DlSt.creditWord (d : DlSt) : Nat × Nat :=
  match d.owed with
  | [] => (0, 0)
  | (p, n) :: _ => (p, min n 15)

/-- The link word of a cell sent now (R451). -/
def DlSt.linkWord (d : DlSt) (tseq : Nat) : Nat :=
  let (p, n) := d.creditWord
  tseq * 2 ^ 20 + d.rxSeq * 2 ^ 8 + b2n d.nak * 2 ^ 7 + p * 16 + n

/-- The check bytes of a cell (R451, R457): of a poisoned granule, a free byte that shows an uncorrectable error
(notes/assumptions/8.md). -/
def DlCell.check (c : DlCell) (free : Nat) : List Byte :=
  (List.range 8).map fun g =>
    if c.poison.contains g then BitVec.ofNat 8 (free / 256 ^ g) else Config.checkByte (sub (padTo 64 c.payload) (8 * g) 8)

/-- The 88 bytes of a cell (R451). -/
def DlCell.wire (c : DlCell) (word free : Nat) : List Byte :=
  let b := c.header ++ padTo 64 c.payload ++ c.check free ++ beBytes 4 word
  b ++ beBytes 4 (crc32 b)

/-- One cell put on the link: header, payload, check bytes, link word and CRC. -/
def State.dlCell (s : State) (k tseq : Nat) (c : DlCell) : State :=
  if !s.mayEmit then s else
  let d := s.dl k
  let (p, n) := d.creditWord
  let s1 := s.setDl k { d with nak := false, owed := d.owed.put crZero p (d.owed.get crZero p - n) }
  (s1.send (0x32 + k) (c.wire (d.linkWord tseq) s.draw)).drawn 1

/-- The next waiting cell of a link: the oldest of its class whose pool has a credit, so that two messages of a class never mix
(R452, R453). -/
def DlSt.nextCell (d : DlSt) : Option DlCell :=
  d.backlog.find? fun c => decide (d.usedCr.get crZero c.pool < 16) && d.backlog.find? (fun x => x.cls = c.cls) = some c

/-- That cell sent when the retry buffer has room (R454). -/
def State.dlPump1 (s : State) (k : Nat) : State :=
  let d := s.dl k
  match d.nextCell with
  | none => s
  | some c =>
    if !s.mayEmit ∨ 128 ≤ d.retry.length then s else
    let s1 := s.setDl k { d with
      backlog := d.backlog.erase c, retry := d.retry ++ [(d.tseq, c)], tseq := (d.tseq + 1) % 4096,
      usedCr := d.usedCr.put crZero c.pool (d.usedCr.get crZero c.pool + 1),
      progAt := if d.retry.isEmpty then s.time.raw else d.progAt }
    (s1.dlCell k d.tseq c).count (fDLCELLT_COUNT k) 1

/-- Every waiting cell that can go, sent in order. -/
def State.dlPump (s : State) (k : Nat) : State := (s.dl k).backlog.foldl (fun t _ => t.dlPump1 k) s

/-- An IDLE cell, which takes no TSEQ and no credit (R452); the TSEQ it shows is free (notes/assumptions/8.md). -/
def State.dlIdle (s : State) (k : Nat) : State :=
  (s.drawn 1).dlCell k (s.draw % 4096)
    { cls := 0, det := false, sop := false, eop := false, dst := 0, src := s.self, typ := 0, msgid := 0, payload := [] }

/-- What a received cell is answered with: the cells that can go, and an IDLE cell for each pool whose credits they do not return,
with ASEQ and any NAK (R453, R454). -/
def State.dlAnswer (s : State) (k : Nat) : State :=
  let s1 := s.dlPump k
  if !s1.dlUp k then s1 else
  let s2 := (s1.dl k).owed.foldl (fun t _ => t.dlIdle k) s1
  if (s2.dl k).nak then s2.dlIdle k else s2

/-- The 64-byte pieces of a message. -/
def pieces64 : Nat → List Byte → List (List Byte)
  | 0, _ => []
  | n + 1, bs => if bs.length ≤ 64 then [bs] else bs.take 64 :: pieces64 n (bs.drop 64)

/-- The cells of a message (R452). -/
def dlCells (cls : Nat) (det : Bool) (dst src typ msgid : Nat) (payload : List Byte) (poison : List Nat) : List DlCell :=
  let ps := pieces64 256 payload
  (List.range ps.length).map fun i => {
    cls := cls, det := det, sop := decide (i = 0), eop := decide (i + 1 = ps.length), dst := dst, src := src, typ := typ,
    msgid := msgid, payload := ps.getD i [], poison := (poison.filter fun g => g / 8 = i).map fun g => g % 8 }

/-- A message sent on one link, or reported undelivered while the link is down (R456). -/
def State.dlMsg (s : State) (k cls : Nat) (det : Bool) (dst typ : Nat) (payload : List Byte) (poison : List Nat) : State :=
  if !s.dlUp k then s.setDun { s.dun with undelivered := typ :: s.dun.undelivered } else
  let m := s.dun.msgid
  let s1 := s.setDun { s.dun with msgid := (m + 1) % 2 ^ 32 }
  let d := s1.dl k
  (s1.setDl k { d with backlog := d.backlog ++ dlCells cls det dst s.self typ m payload poison }).dlPump k

/-- The dimensions in which a cell from chip `c` for chip `d` can go, in the order of R460. -/
def dlDims (c d : Nat) : List Nat :=
  ([0, 1, 2].filter fun i => bit c i && !bit d i) ++ ([0, 1, 2].filter fun i => !bit c i && bit d i)

/-- This chip is the active of a twin whose standby answers on DL3 (R534). -/
def State.twinHelps (s : State) : Bool :=
  s.flag fTWNCFG_EN && s.fget fTWNSTAT_ROLE = 1 && s.dlUp 3 && s.flag (fDLSTAT_FARSTBY 3)

/-- The link a cell for chip `d` leaves over, and its DETOUR bit (R460, R461, R534). -/
def State.dlRoute (s : State) (d : Nat) (det : Bool) : Option (Nat × Bool) :=
  match dlDims s.self d with
  | [] => none
  | k :: ks =>
    if s.dlUp k then some (k, det)
    else if det then none
    else if s.twinHelps then some (3, true)
    else match ks.find? s.dlUp with
      | some j => some (j, true)
      | none => ([0, 1, 2].find? fun j => s.dlUp j && decide (s.self ^^^ 2 ^ j < s.fget fSEMCFG_NCHIPS)).map (·, true)

/-- A message sent to another chip of the set (R460, R461). -/
def State.chipSend (s : State) (dst cls typ : Nat) (payload : List Byte) (poison : List Nat) : State :=
  match s.dlRoute dst false with
  | some (k, det) => s.dlMsg k cls det dst typ payload poison
  | none => s.setDun { s.dun with undelivered := typ :: s.dun.undelivered }

end Sys2Proof.Machine
end

