-- ==== Sys2Proof/Machine/EnOps.lean ====
section
/-!
DEFINITION. What an Ethernet port sends: packets by the prefix table, and the UDP datagrams the chip itself originates (R430 to R435,
R403, R471 to R479).
-/

namespace Sys2Proof.Machine

/-- Something handed on (R431). -/
def State.deliverTo (s : State) (d : Deliv) : State := { s with delivered := d :: s.delivered }

/-- The leading `n` bits of a 128-bit key. -/
def lead (n key : Nat) : Nat := key / 2 ^ (128 - n)

/-- The first entry that matches a destination (R435). -/
def State.pfxFind (s : State) (dst : Nat) : Option PfxEntry := s.pfx.find? fun e => lead e.len e.key = lead e.len dst

/-- A port is enabled, up and not fenced. -/
def State.enUp (s : State) (k : Nat) : Bool := s.flag (fENCFG_EN k) && s.flag (fENSTAT_LINK k) && !s.fenced (14 + k)

/-- Sum of 16-bit words, most significant byte first, an odd last byte padded. -/
def sum16 : List Byte → Nat
  | [] => 0
  | [a] => a.toNat * 256
  | a :: b :: l => a.toNat * 256 + b.toNat + sum16 l

/-- The end-around fold of a one's complement sum. -/
def fold16 (n : Nat) : Nat :=
  let a := n % 65536 + n / 65536
  a % 65536 + a / 65536

/-- The UDP checksum of a packet with its checksum field as it stands folds to 0xFFFF exactly when it is right. -/
def udpSumOk (p : List Byte) : Bool :=
  let n := be p 4 2
  let u := (p.drop 40).take n
  be p 46 2 ≠ 0 && fold16 (fold16 (sum16 ((p.drop 8).take 32) + n + 17 + sum16 u)) = 0xFFFF

/-- The firmware that a port's packets go to (R431). -/
def State.enFw (s : State) (k : Nat) : Dest := if k = 1 && s.flag fSYSSTAT_SEAM then .mgmtFw else .controlFw

/-- An Ethernet frame with a packet sent from a port (R432, R433). -/
def State.enSend (s : State) (k mac : Nat) (pkt : List Byte) : State :=
  let vid := s.fget (fENCFG_VID k)
  let tag := if vid = 0 then [] else beBytes 2 0x8100 ++ beBytes 2 vid
  if s.enUp k ∧ s.mayEmit then
    (s.send (0x30 + k) (beBytes 6 mac ++ beBytes 6 (s.fget (fENMAC_MAC k)) ++ tag ++ beBytes 2 0x86DD ++ pkt)).count (fENTXOK_COUNT k) 1
  else s

/-- A packet sent on as the prefix table directs (R433, R434, R435); `k` is the port that counts its drop, and `via` the port that a
session is tied to. -/
def State.pfxForward (s : State) (k : Nat) (via : Option Nat) (pkt : List Byte) : State :=
  match s.pfxFind (be pkt 24 16) with
  | none => s.bump fPFXMISS_COUNT 1
  | some e =>
    if e.dest = 0 then
      if !s.flag (fPFXNH_V e.nh) then s.bump (fENFWDDROP_COUNT k) 1
      else s.enSend (via.getD (e.target % 2)) (s.fget (fPFXNH_MAC e.nh)) pkt
    else if e.dest = 1 then s.chipSend e.target 2 0x06 pkt []
    else if e.dest = 2 then s.deliverTo { dest := s.enFw k, src := 0x30 + k, bytes := pkt }
    else s

/-! ## Datagrams of the chip itself -/

/-- The port's own address: its first ENADDR in use (notes/assumptions/60.md). -/
def State.enAddr (s : State) (k : Nat) : Nat :=
  (((List.range 4).map fun j => s.fget (fENADDR_ADDR k j)).find? (· ≠ 0)).getD 0

/-- The port by which a datagram to an address leaves: the one a session is tied to, else the one the prefix table names, else EN0. -/
def State.enOut (s : State) (via : Option Nat) (dst : Nat) : Nat :=
  via.getD (match s.pfxFind dst with
    | some e => if e.dest = 0 then e.target % 2 else 0
    | none => 0)

/-- A UDP datagram with its checksum, between two addresses (R432). -/
def udpDgram (src dst sport dport : Nat) (d : List Byte) : List Byte :=
  let n := 8 + d.length
  let h := beBytes 2 sport ++ beBytes 2 dport ++ beBytes 2 n
  let sum := fold16 (fold16 (sum16 (beBytes 16 src ++ beBytes 16 dst) + n + 17 + sum16 (h ++ [0, 0] ++ d)))
  h ++ beBytes 2 (if sum = 0xFFFF then 0xFFFF else 0xFFFF - sum) ++ d

/-- An IPv6 packet that holds it; traffic class, flow label and hop limit are free (notes/assumptions/60.md). -/
def udpPacket (src dst sport dport : Nat) (d : List Byte) : List Byte :=
  beBytes 4 (6 * 2 ^ 28 + Config.ipFlow % 2 ^ 28) ++ beBytes 2 (8 + d.length) ++ [17, BitVec.ofNat 8 Config.ipHops] ++
  beBytes 16 src ++ beBytes 16 dst ++ udpDgram src dst sport dport d

/-- A datagram of the chip sent to an address (R403, R435, R479). -/
def State.udpOut (s : State) (via : Option Nat) (dst sport dport : Nat) (d : List Byte) : State :=
  let k := s.enOut via dst
  s.pfxForward k via (udpPacket (s.enAddr k) dst sport dport d)

end Sys2Proof.Machine
end

