-- ==== Sys2Proof/Machine/Journal.lean ====
section
/-!
DEFINITION. The shadow stream as a sender uses it (R512 to R515), report records on their way to the merge (R27, R247), and the
journal in the MRAM staging ring (R55, R64, R72, R600 to R606, R648).
-/

namespace Sys2Proof.Machine

/-! ## Shadow stream -/

/-- TWNSTAT.ROLE: none, active, standby. -/
def roleActive : Nat := 1
def roleStandby : Nat := 2
def State.isActive (s : State) : Bool := s.flag fTWNCFG_EN && s.fget fTWNSTAT_ROLE = roleActive
def State.isStandby (s : State) : Bool := s.mode = modeStandby
def State.alone (s : State) : Bool := s.flag fTWNSTAT_ALONE

/-- A message of the shadow stream: numbered, sent on DL3 while that link is up, and kept with its held event until a CONFIRM
covers it; an active that is alone holds nothing (R512, R514, R520). A chip that is not the active of a twin sends none. `poison`
names the poisoned granules of the body. The fields of a message are sent most significant byte first (R10); an entry or a state that
it carries is sent as memory holds it. -/
def State.shadowP (s : State) (typ : Nat) (body : List Byte) (poison : List Nat) (h : Held) : State :=
  if !s.isActive then s else
  let n := s.twn.nextSeq
  let s1 := (s.setTwn { s.twn with
      nextSeq := n + 1,
      unconf := if s.alone then s.twn.unconf else s.twn.unconf ++ [(n, h)] }).fset fTWNSSEQ_SSEQ n
  s1.dlMsg 3 (if typ < 0x0D then 1 else 2) false s.self typ (beBytes 8 n ++ body) (poison.map (· + 1))
def State.shadow (s : State) (typ : Nat) (body : List Byte) (h : Held) : State := s.shadowP typ body [] h

/-- An event is held by an unconfirmed message (R514). -/
def State.held (s : State) (h : Held) : Bool := !s.alone && s.twn.unconf.any fun e => e.2 = h

/-- The window of unconfirmed messages is full (R515). -/
def State.shadowFull (s : State) : Bool :=
  s.isActive && !s.alone && s.fget fTWNWIN_WIN ≤ s.twn.unconf.length

/-! ## K_LAST (R202) -/

def noK : Nat := 0xFFFFFFFF

/-- K_LAST, or LDGFIRSTK.K − 1 while no interval has been pressed (R202). -/
def State.kLast (s : State) : Int :=
  if s.reg rLDGLASTK = noK then (s.reg rLDGFIRSTK : Int) - 1 else s.reg rLDGLASTK

/-- The calendar has no first interval (R202). -/
def State.noCalendar (s : State) : Bool := s.reg rLDGLASTK = noK && s.reg rLDGFIRSTK = noK

/-- K_LAST as a record or a message carries it. -/
def State.kLastBytes (s : State) : List Byte := leBytes 4 (cut 32 s.kLast)

/-! ## Report records -/

/-- A granule of an endpoint's page is poisoned: every record of the endpoint carries POISON (R242). -/
def State.epiPoison (s : State) (epi : Nat) : Bool := s.poisonedIn (s.ldg.pageBase + 4096 * epi) 4096

/-- RFLAGS of R247. -/
def State.rflags (s : State) (poison hw : Bool) : Nat :=
  b2n poison + 2 * b2n hw + 4 * b2n (s.flag fLDGSTAT_DETBRK) + 8 * b2n (s.flag fLDGSTAT_REPLAY)

/-- A record that hardware builds (R242, R247); an EUI-64 of all ones names no endpoint. -/
def State.hwRec (s : State) (typ epi eui isn : Nat) (body : List Byte) : Rec :=
  { typ := typ, rflags := s.rflags (decide (eui ≠ 2 ^ 64 - 1) && s.epiPoison epi) true, epi := epi, chip := s.self, eui := eui, isn := isn, body := body }

/-- A data-plane record: in STANDBY it is kept with the suppressed ones (R63, R527), else passed to the report merge (R27). -/
def State.pushData (s : State) (r : Rec) : State :=
  if s.isStandby then s.setTwn { s.twn with kept := s.twn.kept ++ [(s.time.raw, r)] } else { s with dataQ := s.dataQ ++ [r] }

/-- A record passed to the report merge on the control or management plane (R27). -/
def State.pushCtl (s : State) (r : Rec) : State := { s with ctlQ := s.ctlQ ++ [r] }
def State.pushMgmt (s : State) (r : Rec) : State := { s with mgmtQ := s.mgmtQ ++ [r] }

/-! ## The journal -/

def ringBase : Nat := mramBase + 0x3B0000
def ringSize : Nat := 0x400000

/-- Kinds of journal entries (R602). -/
def jkPad : Nat := 0
def jkReadings : Nat := 1
def jkCommand : Nat := 2
def jkMarker : Nat := 3
def jkMetro : Nat := 4
def jkTopo : Nat := 5
def jkKeygen : Nat := 6
def jkCut : Nat := 7
def jkMoveIn : Nat := 8
def jkMoveOut : Nat := 9

/-- One entry: kind, number of inputs, EPI and body. -/
structure JEnt where
  kind : Nat
  n : Nat
  epi : Nat
  body : List Byte
  deriving DecidableEq, Repr

/-- Bytes an entry takes (R600). -/
def JEnt.size (e : JEnt) : Nat := roundUp 16 (16 + e.body.length)

/-- The bytes of an entry from its first ISN (R601). -/
def JEnt.bytes (e : JEnt) (isn : Nat) : List Byte :=
  let h := leBytes 8 (isn % 2 ^ 48 + 2 ^ 48 * e.kind + 2 ^ 56 * e.n) ++ leBytes 4 (e.epi % 2 ^ 18 + 2 ^ 18 * (e.size / 16))
  let b := padTo (e.size - 16) e.body
  h ++ leBytes 4 (crc32c (h ++ b)) ++ b

/-- The fields of an entry's header (R601). -/
def entIsn (e : List Byte) : Nat := bits (le e 0 8) 0 48
def entKind (e : List Byte) : Nat := bits (le e 0 8) 48 8
def entN (e : List Byte) : Nat := bits (le e 0 8) 56 8
def entEpi (e : List Byte) : Nat := bits (le e 8 4) 0 18
def entSize (e : List Byte) : Nat := 16 * bits (le e 8 4) 18 12

/-- The journal's entries in ISN order: class H, then the ring (R608). -/
def State.journalEntries (s : State) : List (List Byte) :=
  s.mrm.hot.flatMap (·.entries) ++ s.mrm.ring.map fun e => s.bytes (ringBase + e.off) e.len

/-- Last accepted ISN and the next one. -/
def State.lastIsn (s : State) : Nat := s.fget fMRMLASTISN_ISN
def State.nextIsn (s : State) : Nat := s.lastIsn + 1

/-- Bytes of the ring in use (R604). -/
def State.ringUsed (s : State) : Nat := (s.mrm.ring.map (·.len)).sum

/-- Bytes an entry needs at the head, a PAD before it included (R600). -/
def padBefore (head size : Nat) : Nat := if ringSize < head + size then ringSize - head else 0

/-- R605: while the archive is read-only, only MARKER, METRO and TOPO entries may use the reserve. -/
def State.reserveBars (s : State) (kind need : Nat) : Bool :=
  s.flag fNFCSTAT_RO && kind ≠ jkMarker && kind ≠ jkMetro && kind ≠ jkTopo
    && ringSize - 1024 * s.fget fMRMRSV_KIB < s.ringUsed + need

/-- How a journal write ends: written, refused, or waiting for a drain or a CONFIRM (R64, R604, R515). -/
inductive JRes where
  | ok (s : State)
  | refused (st : Status)
  | wait
  deriving DecidableEq, Repr

/-- One entry put at the head of the ring, the head pointer in the same commit group (R600). -/
def State.ringPut (s : State) (e : JEnt) (isn : Nat) : State :=
  let head := s.fget fMRMHEAD_OFFSET
  let pad := padBefore head e.size
  let s0 := if pad = 0 then s else
    ((s.write (ringBase + head) ({ kind := jkPad, n := 0, epi := 0, body := List.replicate (pad - 16) 0 : JEnt }.bytes 0)).setMrm
      { s.mrm with ring := s.mrm.ring ++ [⟨head, pad, s.time.raw⟩] }).count fMRMHEAD_LAPS 1
  let at_ := if pad = 0 then head else 0
  let s1 := s0.write (ringBase + at_) (e.bytes isn)
  let s2 := s1.setMrm { s1.mrm with ring := s1.mrm.ring ++ [⟨at_, e.size, s.time.raw⟩] }
  let nh := at_ + e.size
  if nh = ringSize then (s2.fset fMRMHEAD_OFFSET 0).count fMRMHEAD_LAPS 1 else s2.fset fMRMHEAD_OFFSET nh

/-- Entries of one commit group written in order; their inputs take the next ISNs (R601, R603). -/
def State.ringPuts (s : State) : List JEnt → State
  | [] => s
  | e :: es => State.ringPuts ((s.ringPut e (if e.n = 0 then 0 else s.nextIsn)).fset fMRMLASTISN_ISN (s.lastIsn + e.n)) es

/-- The space a list of entries needs, at most: one PAD can stand before one of them. -/
def needAll (head : Nat) : List JEnt → Nat
  | [] => 0
  | e :: es =>
    let p := padBefore head e.size
    let at_ := if p = 0 then head else 0
    p + e.size + needAll ((at_ + e.size) % ringSize) es

/-- Ingest is open: the mode permits it and neither a PFAIL sequence, nor TWNCTL.DRAIN, nor a debug opening has closed it
(R63, R64, R72, R535, R571). -/
def State.ingestOpen (s : State) : Bool :=
  s.serving && s.pwr.pf = .idle && !s.twn.drain

/-- The ledger's first refusal with MEDIA_FULL sets DETBRK and emits the first daily DETBRK record (R243). -/
def State.detBreak (s : State) : State :=
  if s.flag fLDGSTAT_DETBRK then s else
  let s1 := (s.setFlag fLDGSTAT_DETBRK true).setLdg { s.ldg with detClean := false, detLast := s.time.raw }
  s1.pushData (s1.hwRec 0xF3 0 (2 ^ 64 - 1) 0 (s1.kLastBytes ++ leBytes 4 0))

/-- A journal write of the chip's own inputs, the mode apart (R600 to R605, R515, R648). -/
def State.journalRaw (s : State) (es : List JEnt) (hold : Nat → Held) : JRes :=
  let n := (es.map (·.n)).sum
  let need := needAll (s.fget fMRMHEAD_OFFSET) es
  if 2 ^ 48 - 2 ^ 25 < s.lastIsn + n then .refused .modeDenied
  else if es.any fun e => s.reserveBars e.kind need then .refused .mediaFull
  else if ringSize < s.ringUsed + need then .wait
  else if s.shadowFull then .wait
  else
    let isn := s.nextIsn
    let s1 := s.ringPuts es
    .ok (es.foldl (fun (p : State × Nat) e =>
      (p.1.shadow 0x08 (e.bytes p.2) (hold p.2), p.2 + e.n)) (s1, isn)).1

/-- What a refused journal write leaves behind: the event of R648, the determinism break of R243. -/
def State.journalRefused (s : State) (st : Status) : State :=
  if 2 ^ 48 - 2 ^ 25 < s.lastIsn + 32 then
    s.event { code := 0x050, sev := 3, src := 0x40, arg1 := s.nextIsn }
  else if st = .mediaFull then s.detBreak else s

/-- A journal write requested by ingest, refused in a mode that does not permit ingest (R64); it waits while inputs of the shadow stream
that this chip took as a standby are still to be posted (R206). -/
def State.journal (s : State) (es : List JEnt) (hold : Nat → Held) : JRes :=
  if !s.ingestOpen then .refused .modeDenied else if s.ldg.inq.isEmpty then s.journalRaw es hold else .wait

end Sys2Proof.Machine
end

