-- ==== Sys2Proof/Machine/Sha3.lean ====
section
/-!
DEFINITION. SHA3-256, SHA3-512, SHAKE128 and SHAKE256 (R554), by the Keccak permutation of FIPS 202, which the spec names and
does not restate (PRESUMED, notes/assumptions/7.md).
-/

namespace Sys2Proof.Machine

/-- A 64-bit lane turned left by `n` places: what it becomes when its top `n` bits move to the bottom. -/
def turnLeft (v n : Nat) : Nat := v % 2 ^ (64 - n) * 2 ^ n + v / 2 ^ (64 - n)

/-- Lane `i` of a state of 25 lanes; lane x + 5y stands at (x, y). -/
def lane (a : List Nat) (i : Nat) : Nat := a.getD i 0

/-- The parity of a column. -/
def parity (a : List Nat) (x : Nat) : Nat := [0, 5, 10, 15, 20].foldl (fun v y => v ^^^ lane a (x + y)) 0

/-- Theta: each lane takes in the parities of the two columns beside its own. -/
def thetaStep (a : List Nat) : List Nat :=
  let side := (List.range 5).map fun x => parity a ((x + 4) % 5) ^^^ turnLeft (parity a ((x + 1) % 5)) 1
  a.zipIdx.map fun e => e.1 ^^^ lane side (e.2 % 5)

/-- Rho and pi in one walk over the lanes from (1, 0): each goes to (y, 2x + 3y), the next lane of the walk, turned by the next
triangular number. -/
def walkLanes (a : List Nat) : Nat → Nat → Nat → Nat → List Nat → List Nat
  | 0, _, _, _, b => b
  | n + 1, x, y, turn, b =>
    let z := (2 * x + 3 * y) % 5
    walkLanes a n y z (turn + (25 - n)) (b.set (y + 5 * z) (turnLeft (lane a (x + 5 * y)) (turn % 64)))

/-- Chi on a row of five lanes. -/
def chiRow (r : List Nat) : List Nat :=
  (List.range 5).map fun x => lane r x ^^^ (lane r ((x + 2) % 5) - (lane r ((x + 1) % 5) &&& lane r ((x + 2) % 5)))

/-- The shift register that iota takes its bits from: x^8 + x^6 + x^5 + x^4 + 1. -/
def iotaNext (r : Nat) : Nat := if r < 128 then 2 * r else (2 * r) ^^^ 0x171

/-- The next seven bits of the register as the constant of a round, at places 2^j - 1, and the register after them. -/
def iotaWord : Nat → Nat → Nat → Nat × Nat
  | 0, _, r => (0, r)
  | n + 1, place, r =>
    let (w, q) := iotaWord n (2 * place + 1) (iotaNext r)
    (w + r % 2 * 2 ^ place, q)

/-- Iota: the round's constant goes into the first lane. -/
def iotaStep (c : Nat) : List Nat → List Nat
  | [] => []
  | v :: l => (v ^^^ c) :: l

/-- Rounds of Keccak-f[1600], with the shift register as it goes. -/
def keccakRounds : Nat → Nat → List Nat → List Nat
  | 0, _, a => a
  | n + 1, r, a =>
    let t := thetaStep a
    let b := walkLanes t 24 1 0 1 t
    let (c, q) := iotaWord 7 0 r
    keccakRounds n q (iotaStep c ((List.range 5).flatMap fun y => chiRow ((b.drop (5 * y)).take 5)))

/-- Keccak-f[1600]. -/
def keccakF (a : List Nat) : List Nat := keccakRounds 24 1 a

/-- The 25 lanes of a block of bytes. -/
def lanesOf (bs : List Byte) : List Nat := (List.range 25).map fun i => le bs (8 * i) 8

/-- Lanes XORed into a state. -/
def xorLanes (a b : List Nat) : List Nat := (List.range 25).map fun i => lane a i ^^^ lane b i

/-- The sponge absorbs whole blocks of `rate` bytes. -/
def absorb (rate : Nat) : Nat → List Nat → List Byte → List Nat
  | 0, a, _ => a
  | n + 1, a, bs => absorb rate n (keccakF (xorLanes a (lanesOf (bs.take rate)))) (bs.drop rate)

/-- The sponge squeezes blocks of `rate` bytes. -/
def squeeze (rate : Nat) : Nat → List Nat → List Byte
  | 0, _ => []
  | n + 1, a => ((a.flatMap (leBytes 8)).take rate) ++ squeeze rate n (keccakF a)

/-- A Keccak sponge with a domain byte. -/
def keccak (rate dom out : Nat) (msg : List Byte) : List Byte :=
  let m := msg.length
  let padLen := rate - m % rate
  let pad : List Byte := (List.range padLen).map fun i =>
    BitVec.ofNat 8 ((if i = 0 then dom else 0) ||| (if i + 1 = padLen then 0x80 else 0))
  (squeeze rate (out / rate + 1) (absorb rate ((m + padLen) / rate) (List.replicate 25 0) (msg ++ pad))).take out

def sha3_256 (msg : List Byte) : List Byte := keccak 136 0x06 32 msg
def sha3_512 (msg : List Byte) : List Byte := keccak 72 0x06 64 msg
def shake128 (msg : List Byte) (n : Nat) : List Byte := keccak 168 0x1F n msg
def shake256 (msg : List Byte) (n : Nat) : List Byte := keccak 136 0x1F n msg

end Sys2Proof.Machine
end

