-- ==== Sys2Proof/Machine/Ept.lean ====
section
/-!
DEFINITION. The endpoint table in SRAM and the map of EPIs in use (R438 to R442).
-/

namespace Sys2Proof.Machine

/-- Address of entry `i`: 524,288 bucket ways, then 8,192 overflow slots (R41). -/
def eptAddr (i : Nat) : Nat :=
  if i < 524288 then sramBase + 0x400000 + 32 * i else sramBase + 0x1400000 + 32 * (i - 524288)

/-- The fields of an endpoint entry (R438). -/
structure EptEntry where
  eui : Nat
  epi : Nat
  seamb : Nat
  typ : Nat
  kind : Nat
  cls : Nat
  proto : Nat
  rpeer : Nat
  systitle : List Byte
  deriving DecidableEq, Repr

def eptLocal : Nat := 1
def eptRemote : Nat := 2
def eptRelay : Nat := 3

/-- An entry read from its 32 bytes. -/
def EptEntry.parse (b : List Byte) : EptEntry :=
  let w := le b 8 4
  { eui := le b 0 8, epi := bits w 0 18, seamb := bits w 18 12, typ := bits w 30 2, kind := le b 12 1, cls := le b 13 1,
    proto := le b 14 1, rpeer := bits (le b 15 1) 0 4, systitle := sub b 16 8 }

/-- The entry in a slot of the table. -/
def State.eptEntry (s : State) (i : Nat) : EptEntry := EptEntry.parse (s.bytes (eptAddr i) 32)

/-- The bucket of an EUI-64 (R439). -/
def eptBucket (eui : Nat) : Nat := crc32c (beBytes 8 eui) % 2 ^ 17

/-- The first slot of a run of `n` from `i` that holds a valid entry with an EUI. -/
def State.eptScan (s : State) (eui : Nat) : Nat → Nat → Option Nat
  | 0, _ => none
  | n + 1, i =>
    let e := s.eptEntry i
    if e.typ ≠ 0 ∧ e.eui = eui then some i else State.eptScan s eui n (i + 1)

/-- The slot of an EUI: the four ways of its bucket and the overflow store (R439). -/
def State.eptFind (s : State) (eui : Nat) : Option Nat :=
  match s.eptScan eui 4 (4 * eptBucket eui) with
  | some i => some i
  | none => if s.fget fEPTUSED_OVF = 0 then none else s.eptScan eui 8192 524288

/-- The first free slot of a run. -/
def State.eptFree (s : State) : Nat → Nat → Option Nat
  | 0, _ => none
  | n + 1, i => if (s.eptEntry i).typ = 0 then some i else State.eptFree s n (i + 1)

def epiUnused : Nat → Nat := fun _ => 0

/-- The entry of a local endpoint, by EPI. -/
def State.epiSlot (s : State) (epi : Nat) : Option Nat :=
  match s.epiMap.get epiUnused epi with
  | 0 => none
  | i + 1 => some i

def State.epiEntry (s : State) (epi : Nat) : Option EptEntry := (s.epiSlot epi).map s.eptEntry

/-- EUI-64, class and KIND of a local endpoint. -/
def State.epiEui (s : State) (epi : Nat) : Nat := ((s.epiEntry epi).map (·.eui)).getD 0
def State.epiClass (s : State) (epi : Nat) : Nat := ((s.epiEntry epi).map (·.cls)).getD 0

/-- Every local endpoint, in ascending order. -/
def State.epis (s : State) : List Nat := s.epiMap.map (·.1)

/-- How a lookup ends (R440, R441). -/
inductive Lookup where
  | localTo (e : EptEntry)
  | remote (chip : Nat) (e : Option EptEntry)
  | relay (e : EptEntry)
  | unknown
  deriving DecidableEq, Repr

/-- HOME of a seam map entry: 4 bytes in SRAM (R41). -/
def seamAddr (b : Nat) : Nat := sramBase + 0x1D40000 + 4 * b
def State.seamHome (s : State) (b : Nat) : Nat := bits (s.peek (seamAddr b) 4) 0 3
def State.seamNew (s : State) (b : Nat) : Nat := bits (s.peek (seamAddr b) 4) 4 3
def State.seamMoving (s : State) (b : Nat) : Bool := bit (s.peek (seamAddr b) 4) 7

/-- The seam bucket of an EUI-64: the first 12 bits of its SHA3-256 (R441). -/
def seamBucket (eui : Nat) : Nat := be (sha3_256 (beBytes 8 eui)) 0 2 / 16

/-- The lookup of a sender (R439 to R441); `fwd` marks a frame that arrived as a FRAME message. -/
def State.lookup (s : State) (eui : Nat) (fwd : Bool) : Lookup :=
  match s.eptFind eui with
  | some i =>
    let e := s.eptEntry i
    if e.typ = eptLocal then .localTo e
    else if e.typ = eptRemote then
      if fwd then .unknown else .remote (s.seamHome e.seamb) (some e)
    else .relay e
  | none =>
    if !s.flag fSYSSTAT_SEAM || fwd || s.fenced 8 then .unknown
    else
      let h := s.seamHome (seamBucket eui)
      if h = s.self then .unknown else .remote h none

end Sys2Proof.Machine
end

