-- ==== Sys2Proof/Machine/Calendar.lean ====
section
/-!
DEFINITION. The interval calendar, program eligibility, pages and tack lists (R197 to R202, R208, R214, R218, R233).
-/

namespace Sys2Proof.Machine

/-- Interval length in ms (R198). -/
def State.lms (s : State) : Nat :=
  match s.fget fLDGCFG_INTLEN with
  | 0 => 300000
  | 1 => 600000
  | 2 => 900000
  | 3 => 1800000
  | _ => 3600000

def State.origin (s : State) : Nat := s.reg rLDGORIGIN

/-- S_k (R198). -/
def State.sK (s : State) (k : Nat) : Nat := s.origin + k * s.lms

/-- H_k (R200). -/
def State.hK (s : State) (k : Nat) : Nat := s.sK (k + 1) + s.fget fLDGCFG_HEM * 1000

/-- The interval of a meter time; none below ORIGIN (R198). -/
def State.intervalOf (s : State) (t : Nat) : Option Nat := if t < s.origin then none else some ((t - s.origin) / s.lms)

/-- K_c, the interval that contains chip time. -/
def State.kNow (s : State) : Int := ((s.meterNow : Int) - s.origin) / s.lms

/-- Classes of a reading at acceptance (R208), as the journal codes them (R602). -/
inductive RdClass where
  | inTime
  | late
  | stale
  | early
  deriving DecidableEq, Repr

def RdClass.code : RdClass → Nat
  | .inTime => 0
  | .late => 1
  | .stale => 2
  | .early => 3

/-- The class of a reading by its meter time: the rows of R208 in the order Stale, Late, In time, Early. -/
def State.classify (s : State) (t : Nat) : RdClass :=
  match s.intervalOf t with
  | none => .stale
  | some j =>
    if (j : Int) < s.kLast - 95 then .stale
    else if (j : Int) ≤ s.kLast then .late
    else if (j : Int) ≤ s.kNow + s.fget fLDGLIMIT_FUTURE then .inTime
    else .early

/-! ## Programs -/

def progReset : Nat → Prog := fun _ => {}
def State.prog (s : State) (i : Nat) : Prog := s.ldg.progs.get progReset i
def State.setProg (s : State) (i : Nat) (p : Prog) : State :=
  s.setLdg { s.ldg with progs := s.ldg.progs.put progReset i p }

/-- LDGPRGn.STATE. -/
def psEmpty : Nat := 0
def psLoaded : Nat := 1
def psCurrent : Nat := 2
def psPrevious : Nat := 3
def State.progState (s : State) (i : Nat) : Nat := s.fget (fLDGPRG_STATE i)

/-- The program eligible for interval `j` of a class (R233): of those with AK at most `j`, the one with the highest AK. -/
def State.eligible (s : State) (cls : Nat) (j : Int) : Option Nat :=
  (List.range 16).foldl (fun best i =>
    if s.progState i ≠ psEmpty ∧ s.fget (fLDGPRG_CLASS i) = cls ∧ (s.fget (fLDGPRG_AK i) : Int) ≤ j then
      match best with
      | some b => if s.fget (fLDGPRG_AK b) < s.fget (fLDGPRG_AK i) then some i else best
      | none => some i
    else best) none

/-- The last interval for which program `i` is eligible. -/
def State.lastEligible (s : State) (i : Nat) : Nat :=
  (List.range 16).foldl (fun m j =>
    if s.progState j ≠ psEmpty ∧ s.fget (fLDGPRG_CLASS j) = s.fget (fLDGPRG_CLASS i)
        ∧ s.fget (fLDGPRG_AK i) < s.fget (fLDGPRG_AK j) then min m (s.fget (fLDGPRG_AK j) - 1) else m) noK

/-- The program a handle names, LOADED, CURRENT or PREVIOUS (R116). -/
def State.progOf (s : State) (h : Nat) : Option Nat :=
  (List.range 16).find? fun i => s.progState i ≠ psEmpty && s.fget (fLDGPRG_HANDLE i) = h

/-! ## Work items (R115, R217) -/

def Item.epi (i : Item) : Nat := bits i.w0.toNat 0 18
def Item.entry (i : Item) : Nat := bits i.w0.toNat 20 2
def Item.pri (i : Item) : Nat := bits i.w0.toNat 24 3
def Item.prog (i : Item) : Nat := bits i.w1.toNat 0 16
def Item.isn (i : Item) : Nat := i.w2.toNat + 2 ^ 32 * bits i.w3.toNat 0 16
/-- KIND of an ON_PRESS item: 0 PRESS, 1 ADJUST. -/
def Item.kind (i : Item) : Nat := bits i.w1.toNat 16 16
def Item.isPress (i : Item) : Bool := i.entry = 1 && i.kind = 0
def Item.isAdjust (i : Item) : Bool := i.entry = 1 && i.kind = 1
def Item.isReading (i : Item) : Bool := i.entry = 0
def Item.words (i : Item) : List Word := [i.w0, i.w1, i.w2, i.w3, i.w4, i.w5, i.w6, i.w7]

def w32 (n : Nat) : Word := BitVec.ofNat 32 n

/-- Word 0 of an item. -/
def itemW0 (epi entry pri : Nat) : Word := w32 (epi % 2 ^ 18 + 2 ^ 20 * entry + 2 ^ 24 * (pri % 8) + 2 ^ 31)

/-- An item whose arguments are an interval, L in seconds and a 64-bit meter time: PRESS, ADJUST and switch items. -/
def State.timedItem (s : State) (epi entry pri prog kind isn a0 b : Nat) : Item :=
  { w0 := itemW0 epi entry pri, w1 := w32 (prog % 2 ^ 16 + 2 ^ 16 * kind), w2 := w32 isn, w3 := w32 (isn / 2 ^ 32 % 2 ^ 16),
    w4 := w32 a0, w5 := w32 (s.lms / 1000), w6 := w32 b, w7 := w32 (b / 2 ^ 32) }

/-- One reading as the ledger takes it. -/
structure Reading where
  time : Nat
  code : Nat
  flags : Nat
  value : Int
  mseq : Nat
  deriving DecidableEq, Repr

/-- An ON_READING item (R217). -/
def State.readingItem (s : State) (epi prog isn : Nat) (r : Reading) : Item :=
  let v := cut 48 r.value
  { w0 := itemW0 epi 0 (s.fget fLDGCFG_READ_PRI), w1 := w32 (prog % 2 ^ 16 + 2 ^ 16 * r.flags), w2 := w32 isn,
    w3 := w32 (isn / 2 ^ 32 % 2 ^ 16 + 2 ^ 16 * (v / 2 ^ 32)), w4 := w32 r.time,
    w5 := w32 (r.time / 2 ^ 32 % 2 ^ 16 + 2 ^ 16 * r.code), w6 := w32 v, w7 := w32 r.mseq }

/-- A reading that fits the ON_READING descriptor (R217). -/
def Reading.fits (r : Reading) : Bool :=
  decide (r.time < 2 ^ 48) && decide (-(2 ^ 47 : Int) ≤ r.value) && decide (r.value < 2 ^ 47) && decide (r.code < 2 ^ 16)
    && decide (r.mseq < 2 ^ 32)

/-- The 24 bytes of a tack entry (R177). -/
def Reading.entry (r : Reading) : List Byte :=
  leBytes 8 r.time ++ leBytes 8 (cut 64 r.value) ++ leBytes 2 r.code ++ leBytes 2 r.flags ++ leBytes 4 r.mseq

/-! ## Pages and tack lists -/

def State.pageAddr (s : State) (epi : Nat) : Nat := s.ldg.pageBase + 4096 * epi
def State.tackAddr (s : State) (epi : Nat) : Nat := s.ldg.tackBase + 1024 * epi
def State.pageLastIsn (s : State) (epi : Nat) : Nat := s.peek (s.pageAddr epi + 8) 8 % 2 ^ 48
def State.pageLastK (s : State) (epi : Nat) : Nat := s.peek (s.pageAddr epi + 16) 4

/-- COUNT of a tack list and TIME of its entry `i`. -/
def tackCount (s : State) (a : Nat) : Nat := min (s.peek a 2) 42
def tackTime (s : State) (a i : Nat) : Nat := s.peek (a + 16 + 24 * i) 8

/-- Entries of a tack list, and the late ones among them: those of an interval at or below K_LAST (R220). -/
def State.tackSummary (s : State) (epi : Nat) : Nat × Nat :=
  let a := s.tackAddr epi
  let n := tackCount s a
  (n, ((List.range n).filter fun i =>
    match s.intervalOf (tackTime s a i) with
    | some j => decide ((j : Int) ≤ s.kLast)
    | none => true).length)

end Sys2Proof.Machine
end

