-- ==== Sys2Proof/Machine/Balance.lean ====
section
/-!
DEFINITION. The balance engine and the correlator (R250, R265 to R280). Values that no rule states (a correlation coefficient, a
score, the bytes that hold the running sums in DA, a residual without its FEEDER record) are free values (notes/assumptions/2.md).
-/

namespace Sys2Proof.Machine

def State.setMet (s : State) (m : MetSt) : State := { s with met := m }
def State.setBal (s : State) (b : BalSt) : State := { s with bal := b }

def zeroI : Nat → Int := fun _ => 0
def fpZero : Nat → FpSum := fun _ => {}
def natZero : Nat → Nat := fun _ => 0
def corZero : Nat → Cor := fun _ => {}
def noBytes : Nat → List Byte := fun _ => []
def noNats : Nat → List Nat := fun _ => []
def noInts : Nat → List Int := fun _ => []

/-- The engine runs: enabled, not fenced, in a set of one chip (R53, R250). -/
def State.losOn (s : State) : Bool := s.flag fLOSCFG_EN && !s.fenced 31 && !s.flag fSYSSTAT_SEAM

/-- A signed free value, and one in a range (notes/assumptions/2.md). -/
def State.freeI (s : State) (i : Nat) : Int := Config.freeInt (s.freeCtr + i)
def State.freeIn (s : State) (i : Nat) (lo n : Nat) : Nat := lo + Config.freeDraw (s.freeCtr + i) % n
/-- A coefficient in percent, −100 to 100. -/
def State.freeCoef (s : State) (i : Nat) : Int := (s.freeIn i 0 201 : Int) - 100

/-! ## METRO bodies (R280, R602) -/

/-- FEEDER body of feeder `f` in a METRO body, when its mask holds it. -/
def metroFeeder (b : List Byte) (f : Nat) : Option (List Byte) :=
  let m := le b 4 1
  if bit m f then some (sub b (16 + 112 * ((List.range f).filter fun i => bit m i).length) 112) else none

/-- METRO input of an interval, when one has been applied. -/
def State.metroOf (s : State) (k : Nat) : Option (List Byte) :=
  match s.bal.metro.get noBytes k with
  | [] => none
  | b => some b

def State.feederOf (s : State) (k f : Nat) : Option (List Byte) := (s.metroOf k).bind fun b => metroFeeder b f

/-- VRMS of a phase (or 3, the neutral) in an interval, in mV: from the first FEEDER body. -/
def State.vrmsOf (s : State) (k p : Nat) : Option Int :=
  (s.metroOf k).bind fun b =>
    ((List.range 4).findSome? fun f => metroFeeder b f).map fun fb => (le fb (24 + 4 * p) 4 : Int)

/-- IMP and EXP of one phase of a FEEDER body, and IRMS. -/
def fbImp (b : List Byte) (p : Nat) : Int := (le b (40 + 24 * p) 8 : Nat)
def fbExp (b : List Byte) (p : Nat) : Int := (le b (48 + 24 * p) 8 : Nat)
def fbIrms (b : List Byte) (p : Nat) : Nat := le b (56 + 24 * p) 4

/-- IMP − EXP of a feeder on a phase in an interval. -/
def State.feederNet (s : State) (k f p : Nat) : Option Int := (s.feederOf k f).map fun b => fbImp b p - fbExp b p

/-! ## Topology (R265) -/

def State.topoEntry (s : State) (epi : Nat) : Nat :=
  s.peek (s.fget fLOSTOPO_BASE + 2 ^ 20 * s.fget fLOSTOPOSEL_ACT + 4 * epi) 4
/-- FEEDER of an entry; 4 to 7 are unknown. -/
def topoFeeder (t : Nat) : Option Nat := if bits t 0 3 < 4 then some (bits t 0 3) else none
def topoPhase (t : Nat) : Nat := bits t 4 2

/-- The (f, p) cells an endpoint is assigned to. -/
def topoCells (t : Nat) : List Nat :=
  match topoFeeder t with
  | none => []
  | some f => if topoPhase t = 3 then [3 * f, 3 * f + 1, 3 * f + 2] else [3 * f + topoPhase t]

/-! ## Reads of an endpoint (R267, R268) -/

/-- A ring slot of a page: K, IMP, EXP, SFLAGS (R216). -/
structure RingSlot where
  k : Nat
  imp : Int
  exp : Int
  flags : Nat

def State.ringSlot (s : State) (epi k : Nat) : RingSlot :=
  let a := s.pageAddr epi + 0x100 + 32 * (k % 96)
  ⟨s.peek a 4, (s.peek (a + 4) 4 : Nat), (s.peek (a + 16) 4 : Nat), s.peek (a + 29) 1⟩

/-- The actual and darned parts of IMP − EXP, in Wh. -/
def RingSlot.actual (r : RingSlot) : Int := (if bit r.flags 0 then r.imp else 0) - (if bit r.flags 1 then r.exp else 0)
def RingSlot.darned (r : RingSlot) : Int := (if bit r.flags 2 then r.imp else 0) - (if bit r.flags 3 then r.exp else 0)
/-- At least one value was actual. -/
def RingSlot.isActual (r : RingSlot) : Bool := bit r.flags 0 || bit r.flags 1

/-- A quotient whose rounding no rule states: exact when it divides, else the floor or the next integer, free. -/
def State.freeQuot (s : State) (i : Nat) (n d : Int) : Int := if n % d = 0 then n / d else n / d + s.freeIn i 0 2

/-- One endpoint's slot added to a cell of sums: `num` over `den` of its values. -/
def addCell (s : State) (l : Store FpSum) (c : Nat) (r : Option RingSlot) (num den : Int) : Store FpSum :=
  let x := l.get fpZero c
  l.put fpZero c (match r with
    | none => { x with nMiss := x.nMiss + 1 }
    | some r => { x with
        ep := x.ep + s.freeQuot c (1000 * r.actual * num) den
        darn := x.darn + s.freeQuot (12 + c) (1000 * r.darned * num) den
        nEp := x.nEp + b2n r.isActual, nDarn := x.nDarn + b2n (!r.isActual) })

/-- I_L1 to I_L3 of an endpoint in an interval, zeros when absent. -/
def State.iMeansOf (s : State) (epi k : Nat) : List Int := s.bal.iMeans.get noInts (k * 2 ^ 18 + epi)

/-- An endpoint's slot added to every cell it is assigned to (R268). -/
def State.addCells (s : State) (l : Store FpSum) (epi k : Nat) (r : Option RingSlot) : Store FpSum :=
  let t := s.topoEntry epi
  if topoPhase t = 3 then
    let is := s.iMeansOf epi k
    let tot := is.foldl (· + ·) 0
    (topoCells t).foldl (fun l c =>
      if tot = 0 then addCell s l c r 1 3 else addCell s l c r (is.getD (c % 3) 0) tot) l
  else (topoCells t).foldl (fun l c => addCell s l c r 1 1) l

/-- The slot counted in a read of interval `k`: only when it holds `k`. -/
def State.slotOf (s : State) (epi k : Nat) : Option RingSlot :=
  let r := s.ringSlot epi k
  if r.k = k then some r else none

/-- READINGS entries of a PRESS item's records: CODE and VALUE of each (R248). -/
def readingsOf (recs : List Rec) : List (Nat × Int) :=
  (recs.filter fun r => r.typ = 0x02).flatMap fun r =>
    (List.range (le r.body 4 2)).map fun i => (le r.body (8 + 24 * i + 16) 2, sx (le r.body (8 + 24 * i + 8) 8) 64)

def codeVal (l : List (Nat × Int)) (c : Nat) : Option Int := (l.find? fun e => e.1 = c).map (·.2)

/-- The flags of every entry of a code together. -/
def codeFlags (l : List (Nat × Int)) (c : Nat) : Nat := (l.filter fun e => e.1 = c).foldl (fun a e => a ||| cut 16 e.2) 0

/-! ## The correlator (R274 to R276) -/

/-- The largest of a list with its index, and the second largest value. -/
def bestTwo (l : List Int) : Nat × Int × Int :=
  let b := (List.range l.length).foldl (fun m i => if l.getD m 0 < l.getD i 0 then i else m) 0
  let rest := (List.range l.length).filter (· ≠ b)
  (b, l.getD b 0, rest.foldl (fun m i => max m (l.getD i 0)) (-100))

/-- A sum decayed by 63/64; where that is no integer the rounding is a free value (R274). -/
def decayed (v : Int) : Int := if 63 * v % 64 = 0 then 63 * v / 64 else 63 * v / 64 + (b2n (Config.decayUp v) : Nat)

/-- The sums of an interval later. -/
def CorSum.decay (c : CorSum) : CorSum :=
  { c with sx := decayed c.sx, sy := decayed c.sy, sxx := decayed c.sxx, syy := decayed c.syy, sxy := decayed c.sxy }

/-- A pair entered. -/
def CorSum.add (c : CorSum) (x y : Int) : CorSum :=
  { n := c.n + 1, sx := c.sx + x, sy := c.sy + y, sxx := c.sxx + x * x, syy := c.syy + y * y, sxy := c.sxy + x * y }

/-- A pair entered when both of its changes are there. -/
def CorSum.pair (c : CorSum) (x y : Option Int) : CorSum :=
  match x, y with
  | some x, some y => c.add x y
  | _, _ => c

/-- The coefficient in percent. -/
def CorSum.coef (c : CorSum) : Int := min (max (Config.corrPct c.n c.sx c.sy c.sxx c.syy c.sxy) (-100)) 100

/-- The change of a value from one interval to the next. -/
def change (old new : Option Int) : Option Int :=
  match old, new with
  | some a, some b => some (b - a)
  | _, _ => none

/-- The sums at an index. -/
def sumAt (l : List CorSum) (i : Nat) : CorSum := l.getD i {}

/-- Localisation on one phase after a provisional read: Z is learned from the pairs of current and drop, and the drop it leaves
unexplained is kept (R277). -/
def CorPh.learn (c : CorPh) (old : Bool) (i drop : Option Int) : CorPh :=
  let reg := c.reg.decay.pair i drop
  let d := match i, drop with
    | some i, some x => some (x - Config.dropFit reg.n reg.sx reg.sy reg.sxx reg.syy reg.sxy i)
    | _, _ => none
  { reg := reg, d := d, dOld := if old then c.d else none, sc := c.sc }

/-- The test of R275 on a list of sums: the best index, the best and the second coefficient, and whether it decides. -/
def corTest (l : List CorSum) (n thr margin : Nat) : Nat × Int × Int × Bool :=
  let (b, b1, b2) := bestTwo (l.map CorSum.coef)
  (b, b1, b2, decide (n ≤ (sumAt l b).n) && decide ((thr : Int) ≤ b1) && decide (b2 + margin ≤ b1))

/-- The sums of an endpoint after the provisional read of interval `k` (R274): a single-phase endpoint pairs its V_L1 with each phase, a
polyphase endpoint its V_L1 to V_L3 with L1 to L3 in turn. -/
def State.corPhases (s : State) (c : Cor) (poly old : Bool) (k : Nat) (v : List (Option Int)) : List CorSum :=
  (List.range 3).map fun p =>
    let q := if poly then p else 0
    let x := if old then change (c.v.getD q none) (v.getD q none) else none
    (sumAt c.ph p).decay.pair x (change (s.vrmsOf (k - 1) p) (s.vrmsOf k p))

/-- The sums with the feeders on the inferred phase (R274). -/
def State.corFeeders (s : State) (c : Cor) (old : Bool) (k : Nat) (e : Option Int) (phase : Option Nat) : List CorSum :=
  (List.range 4).map fun f =>
    let x := if old then change c.e e else none
    let y := phase.bind fun p => change (s.feederNet (k - 1) f p) (s.feederNet k f p)
    (sumAt c.fd f).decay.pair x y

/-- The correlator's update at a provisional read, its TOPOLOGY record included (R274 to R277). A decision stands until another is
reached (notes/assumptions/58.md). -/
def State.correlate (s : State) (epi k : Nat) (rd : List (Nat × Int)) (r : Option RingSlot) : State :=
  let c := s.bal.cor.get corZero epi
  let t := s.topoEntry epi
  let poly := decide (topoPhase t = 3)
  let old := c.seen && decide (c.k + 1 = k)
  let v := (List.range 3).map fun p => codeVal rd (0x20 + p)
  let e := r.bind fun r => if r.isActual then some r.actual else none
  let ph := s.corPhases c poly old k v
  let (bp, b1, b2, okP) := corTest ph (s.fget fLOSCOR_PH_N) (s.fget fLOSCOR_PH_THR) (s.fget fLOSCOR_PH_MARGIN)
  let phase := if okP then some bp else c.phase
  let fd := s.corFeeders c old k e phase
  let (bf, f1, f2, okF) := corTest fd (s.fget fLOSCOR_FD_N) (s.fget fLOSCOR_FD_THR) (s.fget fLOSCOR_FD_MARGIN)
  let feeder := if okF then some bf else c.feeder
  let revcor := match feeder with
    | some f => decide ((sumAt fd f).coef ≤ -(s.fget fLOSCOR_PH_THR : Int))
    | none => false
  let differs := (match phase with
      | some p => decide (topoPhase t ≠ p)
      | none => false) || (match feeder with
      | some f => decide (topoFeeder t ≠ some f)
      | none => false)
  let emit := decide (phase ≠ c.phase) || decide (feeder ≠ c.feeder) || differs || decide (revcor ≠ c.revcor)
  let loc := (List.range 3).map fun p =>
    let q := if poly then p else 0
    (c.loc.getD p {}).learn old (codeVal rd (0x28 + q)) ((s.vrmsOf k p).bind fun w => (v.getD q none).map fun x => w - x)
  let c' : Cor := {
    k := k, seen := true, v := v, e := e, ph := ph, fd := fd, loc := loc, phase := phase, feeder := feeder,
    revcor := revcor, scored := (v.getD 0 none).isSome && (codeVal rd 0x28).isSome }
  let bytes := leBytes 64 (Config.freeDraw s.freeCtr)
  let s1 := ((s.setBal { s.bal with cor := s.bal.cor.put corZero epi c' }).write
    (s.fget fLOSCORBASE_BASE + 64 * epi) bytes).drawn 1
  let flags := b2n phase.isSome + 2 * b2n feeder.isSome + 4 * b2n differs + 8 * b2n (bit t 8) + 16 * b2n revcor
  let body := leBytes 4 k ++ leBytes 4 t ++ leBytes 1 bp ++ leBytes 1 (feeder.getD 7) ++ leBytes 2 flags ++
    leBytes 1 (cut 8 b1) ++ leBytes 1 (cut 8 b2) ++ leBytes 1 (cut 8 f1) ++ leBytes 1 (cut 8 f2) ++
    leBytes 2 (min (sumAt ph bp).n 65535) ++ leBytes 6 0
  if emit then s1.pushData (s1.hwRec 0xE2 epi (s1.epiEui epi) 0 body) else s1

/-- Tamper evidence at a provisional read (R278, R279). -/
def State.tamperEvidence (s : State) (epi k : Nat) (rd : List (Nat × Int)) (r : Option RingSlot) : State :=
  let t := s.topoEntry epi
  let c := s.bal.cor.get corZero epi
  let meter := codeFlags rd 0x40
  let rev := (match r with
    | some r => (bit r.flags 1 || bit r.flags 3) && decide (0 < r.exp) && !bit t 9
    | none => false) || c.revcor
  let byp := (topoCells t).any fun i => bit (s.fget fLOSSTAT_ALARM) i && (s.bal.suspects.get noNats i).contains epi
  let nv := match s.vrmsOf k 3 with
    | some v => decide ((s.fget fLOSNV_NV_LIM : Int) * 100 < v)
    | none => false
  let dev := (List.range 3).any fun p =>
    (decide (topoPhase t = p) || decide (topoPhase t = 3)) &&
    match codeVal rd (if topoPhase t = 3 then 0x20 + p else 0x20), s.vrmsOf k p with
    | some v, some w => decide ((s.fget fLOSNV_VDEV : Int) * w < 100 * (v - w).natAbs)
    | _, _ => false
  let chip := b2n rev + 2 * b2n byp + 4 * b2n (nv || dev)
  if meter = 0 ∧ chip = 0 then s else
  s.pushData (s.hwRec 0xE4 epi (s.epiEui epi) 0
    (leBytes 4 k ++ leBytes 2 meter ++ leBytes 2 chip ++ leBytes 2 (meter &&& chip) ++ leBytes 6 0))

/-- The end of an endpoint's PRESS item of interval `k` as the balance engine sees it: the provisional read of `k` and the final
read of `k − 95` at its write-back, or a missing endpoint when it failed (R267). Each endpoint is read once in a round; the items that a
rebuild runs again for intervals already balanced are none of it (R242). -/
def State.balanceRead (s : State) (epi k : Nat) (recs : List Rec) (ok : Bool) : State :=
  if !s.losOn ∨ k ≠ s.ldg.roundK ∨ s.bal.readSet.contains epi then s else
  let rd := readingsOf recs
  let is := (List.range 3).map fun p => (codeVal rd (0x28 + p)).getD 0
  let s0 := s.setBal { s.bal with readSet := epi :: s.bal.readSet, iMeans := s.bal.iMeans.put noInts (k * 2 ^ 18 + epi) (if is.all (· = 0) then [] else is) }
  let r := if ok then s0.slotOf epi k else none
  let b := s0.bal
  let s1 := s0.setBal { b with prov := s0.addCells b.prov epi k r }
  let s2 := if k < 95 then s1 else
    let j := k - 95
    let rj := if ok then s1.slotOf epi j else none
    s1.setBal { s1.bal with fin := s1.addCells s1.bal.fin epi j rj, iMeans := s1.bal.iMeans.put noInts (j * 2 ^ 18 + epi) [] }
  let s3 := s2.drawn 24
  if ok then (s3.correlate epi k rd r).tamperEvidence epi k rd r else s3

/-! ## The balance (R269 to R273) -/

/-- LOSMODEL in force of a cell: R, C and A. -/
def State.lossModel (s : State) (c : Nat) : Nat × Nat × Nat :=
  let v := s.bal.model.get natZero c
  (bits v 0 32, bits v 32 32, bits v 64 32)

/-- Endpoints of a cell. -/
def State.cellEpis (s : State) (c : Nat) : List Nat := s.epis.filter fun e => (topoCells (s.topoEntry e)).contains c

/-- Insert by score, highest first, the lower index first on a tie. -/
def insScore (x : Nat × Int) : List (Nat × Int) → List (Nat × Int)
  | [] => [x]
  | y :: l => if y.2 < x.2 ∨ (y.2 = x.2 ∧ x.1 < y.1) then x :: y :: l else y :: insScore x l

/-- The pairs behind an endpoint's score on a phase. -/
def State.score (s : State) (e p : Nat) : CorSum := ((s.bal.cor.get corZero e).loc.getD p {}).sc

def uZero : Nat → Nat × Int := fun _ => (0, 0)

/-- The residual of a provisional balance of a cell entered into the scores of its endpoints: the change of the unexplained drop with
the change of the residual, where both are known (R277). -/
def State.scoreCell (s : State) (k c : Nat) (u : Int) : State :=
  let last := s.bal.lastU.get uZero c
  let du := if last.1 = k ∧ 0 < k then some (u - last.2) else none
  let p := c % 3
  let cor := (s.cellEpis c).foldl (fun (l : Store Cor) e =>
    let x := l.get corZero e
    let y := x.loc.getD p {}
    if x.k ≠ k then l else
    l.put corZero e { x with loc := x.loc.set p { y with sc := y.sc.decay.pair (change y.dOld y.d) du } }) s.bal.cor
  s.setBal { s.bal with cor := cor, lastU := s.bal.lastU.put uZero c (k + 1, u) }

/-- The SUSPECT record of a cell (R277). -/
def State.suspect (s : State) (k c : Nat) (fin : Bool) (u : Int) : State :=
  let es := s.cellEpis c
  let scored := es.filter fun e => (s.bal.cor.get corZero e).scored
  let list := (scored.map fun e => (e, (s.score e (c % 3)).coef)).filter fun x => decide ((s.fget fLOSCOR_SUS_THR : Int) ≤ x.2)
  let top := (list.foldl (fun l x => insScore x l) []).take 8
  let body := leBytes 4 k ++ leBytes 1 (c / 3) ++ leBytes 1 (c % 3) ++ leBytes 1 top.length ++ leBytes 1 (b2n fin) ++
    leBytes 8 (cut 64 u) ++ leBytes 4 (es.length - scored.length) ++ leBytes 4 0 ++
    padTo 64 (top.flatMap fun x => leBytes 4 x.1 ++ leBytes 1 (cut 8 x.2) ++ leBytes 3 0)
  let s1 := s.setBal { s.bal with suspects := s.bal.suspects.put noNats c (top.map (·.1)) }
  s1.pushData (s1.hwRec 0xE3 0 (2 ^ 64 - 1) 0 body)

/-- One BALANCE record, and the SUSPECT record that follows it under alarm (R269 to R273). -/
def State.balanceCell (s : State) (k c : Nat) (x : FpSum) (fin : Bool) : State :=
  let f := c / 3
  let p := c % 3
  let fb := s.feederOf k f
  let L : Nat := s.lms / 1000
  let (R, C, A) := s.lossModel c
  let net := match fb with
    | some b => fbImp b p - fbExp b p
    | none => s.freeI 0
  let tl : Int := match fb with
    | some b => ((R * fbIrms b p ^ 2 * L / 3600000000000 : Nat) : Int) + (C * L * 10 / 36 : Nat)
        + ((A : Int) * (x.ep + x.darn)) / 1000000
    | none => s.freeI 1
  let u := net - x.ep - x.darn - tl
  let t := max (((bits s.bal.thr 16 16) * 1000 : Nat) : Int) (((bits s.bal.thr 0 16) * net.natAbs / 10000 : Nat) : Int)
  let exceeds := decide (t < u)
  let ff := match fb with
    | some b => le b 4 2
    | none => 0
  let cause := bits ff 0 3 ≠ 0 || bits ff 4 2 ≠ 0
  let assigned := x.nEp + x.nDarn + x.nMiss
  let incomplete := decide (s.fget fLOSCFG_DARN_MAX * assigned < 100 * (x.nDarn + x.nMiss))
  let judged := fb.isSome && !cause && !incomplete && (fin || decide (s.bal.finals ≤ k))
  let run0 := s.bal.runs.get natZero c
  let run := if fin || !judged then run0 else if exceeds then min (run0 + 1) 65535 else 0
  let alarm := if fin then judged && exceeds else judged && exceeds && decide (s.fget fLOSCFG_RUN ≤ run)
  let s1 := (s.setBal { s.bal with runs := s.bal.runs.put natZero c run }).drawn 2
  let s2 := if alarm && !fin then s1.fset fLOSSTAT_ALARM (s1.fget fLOSSTAT_ALARM ||| 2 ^ c) else s1
  let flags := b2n fin + 2 * b2n fb.isNone + 4 * b2n cause + 8 * b2n incomplete + 16 * b2n alarm + 32 * b2n (bit ff 3)
  let body := leBytes 4 k ++ leBytes 2 flags ++ leBytes 1 f ++ leBytes 1 p ++ leBytes 8 (cut 64 net) ++
    leBytes 8 (cut 64 x.ep) ++ leBytes 8 (cut 64 x.darn) ++ leBytes 8 (cut 64 tl) ++ leBytes 8 (cut 64 u) ++
    leBytes 4 x.nEp ++ leBytes 4 x.nDarn ++ leBytes 4 x.nMiss ++ leBytes 2 run ++ leBytes 2 0
  let s2 := if fin || fb.isNone then s2 else s2.scoreCell k c u
  let s3 := s2.pushData (s2.hwRec 0xE1 0 (2 ^ 64 - 1) 0 body)
  if bit (s3.fget fLOSSTAT_ALARM) c then s3.suspect k c fin u else s3

/-- The twelve balances of an interval. -/
def State.balanceAll (s : State) (k : Nat) (l : Store FpSum) (fin : Bool) : State :=
  (List.range 12).foldl (fun t c => t.balanceCell k c (l.get fpZero c) fin) s

/-- A provisional balance that waited for its METRO input, emitted. -/
def State.balanceWaiting (s : State) : State :=
  match s.bal.waiting with
  | none => s
  | some (k, l) => (s.setBal { s.bal with waiting := none }).balanceAll k l false

/-- Press round `k` is complete: its provisional balance, at once or once the METRO input of `k` is there; the one of `k − 1`
that still waits goes out with NOFEED; the final balance of `k − 95` (R273). -/
def State.balanceRound (s : State) (k : Nat) : State :=
  if !s.losOn then s else
  let s1 := s.balanceWaiting
  let prov := s1.bal.prov
  let fin := s1.bal.fin
  let s2 := s1.setBal { s1.bal with prov := [], fin := [], readSet := [], waiting := some (k, prov) }
  let s3 := if (s2.metroOf k).isSome then s2.balanceWaiting else s2
  if k < 95 then s3 else
  let s4 := s3.balanceAll (k - 95) fin true
  s4.setBal { s4.bal with finals := max s4.bal.finals (k - 95 + 1), metro := s4.bal.metro.put noBytes (k - 96) [] }

/-- A METRO input applied: its FEEDER records, and the balance that waited for it (R263, R264, R273, R280). -/
def State.metroApply (s : State) (body : List Byte) (isn : Nat) : State :=
  let k := le body 0 4
  let s1 := (List.range 4).foldl (fun t f => match metroFeeder body f with
    | some b => t.pushData (t.hwRec 0xE0 0 (2 ^ 64 - 1) isn b)
    | none => t) s
  if !s1.losOn then s1 else
  let s2 := s1.setBal { s1.bal with metro := s1.bal.metro.put noBytes k (sub body 0 464) }
  match s2.bal.waiting with
  | some (j, _) => if j = k then s2.balanceWaiting else s2
  | none => s2

/-- What takes effect at a marker: a pending topology table, the loss model and the thresholds (R266). -/
def State.lossAtMarker (s : State) : State :=
  let m := (List.range 12).foldl (fun (l : Store Nat) c => Store.put natZero l c (s.reg (rLOSMODEL c))) []
  let s1 := s.setBal { s.bal with model := m, thr := s.reg rLOSTHR, topo := none }
  match s.bal.topo with
  | some t => (s1.fset fLOSTOPOSEL_ACT t).setFlag fLOSSTAT_TOPO_PEND false
  | none => s1

/-- A TOPO input named: it waits for the next marker (R266). -/
def State.topoPend (s : State) (sel : Nat) : State :=
  (s.setBal { s.bal with topo := some (sel % 2) }).setFlag fLOSSTAT_TOPO_PEND true

end Sys2Proof.Machine
end

