-- ==== Sys2Proof/Machine/Seam.lean ====
section
/-!
DEFINITION. The seam map, endpoint-table writes and bucket moves (R442, R459, R462 to R469).
-/

namespace Sys2Proof.Machine

/-! ## Endpoint-table entries (R439, R442) -/

/-- Byte image of an entry with its TYPE replaced. -/
def entryWithType (b : List Byte) (t : Nat) : List Byte := splice (sub b 0 32) 8 (leBytes 4 (setBits (le b 8 4) 30 2 t))

/-- A LOCAL entry other than the one of `eui` holds this EPI. -/
def State.epiTaken (s : State) (epi eui : Nat) : Bool :=
  match s.epiEntry epi with
  | some e => decide (e.eui ≠ eui)
  | none => false

/-- The slot a new entry takes: the lowest free way of its bucket, then a free overflow slot (R442). -/
def State.eptSlotFor (s : State) (eui : Nat) : Option Nat :=
  match s.eptFind eui with
  | some i => some i
  | none => match s.eptFree 4 (4 * eptBucket eui) with
    | some i => some i
    | none => if s.fget fEPTUSED_OVF < 8192 then s.eptFree 8192 524288 else none

/-- EPTUSED moved by one for a slot. -/
def State.eptCount (s : State) (i : Nat) (up : Bool) : State :=
  let f := if i < 524288 then fEPTUSED_BUCKET else fEPTUSED_OVF
  s.fset f (if up then s.fget f + 1 else s.fget f - 1)

/-- The map of EPIs in use, and EPTLOCAL, after a LOCAL entry leaves or enters a slot (R442). -/
def State.epiSet (s : State) (epi : Nat) (slot : Option Nat) : State :=
  let was := (s.epiSlot epi).isSome
  let s1 := { s with epiMap := s.epiMap.put epiUnused epi (match slot with
    | some i => i + 1
    | none => 0) }
  let n := s1.fget fEPTLOCAL_COUNT
  s1.fset fEPTLOCAL_COUNT (n + b2n slot.isSome - b2n was)

/-- Endpoint-table WRITE of a 32-byte entry: its status, and the table after it (R442). -/
def State.eptWrite (s : State) (b : List Byte) : Status × State :=
  let e := EptEntry.parse b
  if e.typ = 0 then (.badArgument, s)
  else if e.typ = eptLocal ∧ s.epiTaken e.epi e.eui then (.badArgument, s)
  else match s.eptSlotFor e.eui with
    | none => (.tableFull, s)
    | some i =>
      let old := s.eptEntry i
      let s1 := if old.typ = 0 then s.eptCount i true else s
      let s2 := if old.typ = eptLocal then s1.epiSet old.epi none else s1
      let s3 := s2.write (eptAddr i) (sub b 0 32)
      (.done, if e.typ = eptLocal then s3.epiSet e.epi (some i) else s3)

/-- An entry made invalid. -/
def State.eptClear (s : State) (i : Nat) : State :=
  let old := s.eptEntry i
  let s1 := (s.write (eptAddr i) (entryWithType (s.bytes (eptAddr i) 32) 0)).eptCount i false
  if old.typ = eptLocal then s1.epiSet old.epi none else s1

/-! ## The seam map (R462) -/

/-- MAPDIG: the first 8 bytes of SHA3-256 over the 16 KiB map (R459). -/
def State.mapDig (s : State) : Nat := be (sha3_256 (s.bytes (seamAddr 0) 16384)) 0 8

/-- A HELLO (R459): SELF, NCHIPS, ROLE, zero, SEMEPOCH, EUI-64, MAPDIG. -/
def State.helloBody (s : State) : List Byte :=
  beBytes 1 s.self ++ beBytes 1 (s.fget fSEMCFG_NCHIPS) ++
  beBytes 1 (b2n s.isStandby + 2 * s.fget fTWNCFG_SIDE) ++ [0] ++ beBytes 4 (s.fget fSEMEPOCH_EPOCH) ++
  beBytes 8 (s.fget fKEYID_EUI) ++ beBytes 8 s.mapDig

/-- A HELLO sent on every up link (R459). -/
def State.helloAll (s : State) : State :=
  (List.range 4).foldl (fun t k => if t.dlUp k then t.dlMsg k 2 false t.self 0x7F t.helloBody [] else t) s

/-- A seam map entry written (R462). -/
def State.seamPut (s : State) (b home new : Nat) (moving : Bool) : State :=
  s.poke (seamAddr b) 4 (home % 8 + 16 * (new % 8) + 128 * b2n moving)

/-- A change of the map: the entry, SEMEPOCH raised, and a HELLO on each up link (R459, R462). -/
def State.seamChange (s : State) (b home : Nat) : State :=
  ((s.seamPut b home 0 false).fset fSEMEPOCH_EPOCH (s.fget fSEMEPOCH_EPOCH + 1)).helloAll

/-! ## Moves (R465 to R469) -/

/-- Reservation entry of an endpoint and of a key-store slot in MRAM (R415, R595). -/
def resvAddr (epi : Nat) : Nat := mramBase + 0x1A0000 + 8 * epi
def slotResvAddr (slot : Nat) : Nat := mramBase + 0x3A0000 + 8 * slot
def State.secAddr (s : State) (epi : Nat) : Nat := s.fget fKEPSECBASE_BASE + 128 * epi
def State.pktAddr (s : State) (epi : Nat) : Nat := s.fget fKEYPKTBASE_BASE + 64 * epi

/-- Local endpoints of a bucket. -/
def State.bucketEpis (s : State) (b : Nat) : List Nat :=
  s.epis.filter fun e => decide (((s.epiEntry e).map (·.seamb)) = some b)

/-- The state of one endpoint as a MOVE or STATE message carries it: page, tack list, security record, reservation entry, pocket
and endpoint entry (R466 step 2). -/
def State.endpointState (s : State) (epi : Nat) : List Byte :=
  s.bytes (s.pageAddr epi) 4096 ++ s.bytes (s.tackAddr epi) 1024 ++ s.bytes (s.secAddr epi) 128 ++
  s.bytes (resvAddr epi) 8 ++ s.bytes (s.pktAddr epi) 64 ++
  (match s.epiSlot epi with
   | some i => s.bytes (eptAddr i) 32
   | none => List.replicate 32 0)

/-- Granules of an endpoint's page and tack list that carry poison, counted over the message. -/
def State.endpointPoison (s : State) (epi : Nat) : List Nat :=
  ((List.range 512).filter fun g => s.poisonedIn (s.pageAddr epi + 8 * g) 8) ++
  (((List.range 128).filter fun g => s.poisonedIn (s.tackAddr epi + 8 * g) 8).map (· + 512))

def semNone : Nat := 0
def semArmed : Nat := 1
def semCut : Nat := 2
def semCommitted : Nat := 3

/-- This chip is the old home of the pending move. -/
def State.moveIsA (s : State) : Bool := s.mov.pending && s.seamHome s.mov.bucket = s.self && s.mov.newHome ≠ s.self

/-- This chip is its new home. -/
def State.moveIsB (s : State) : Bool := s.mov.pending && s.mov.newHome = s.self

/-- A CUT is due at the marker of interval `k` (R466 step 1). -/
def State.cutDue (s : State) (k : Nat) : Bool := s.moveIsA && s.mov.cutAt.isNone && s.mov.m = k + 1

/-- Body of CUT, MOVE_IN and MOVE_OUT (R602). -/
def moveBody (b m : Nat) : List Byte := leBytes 2 b ++ leBytes 2 0 ++ leBytes 4 m
def cutEntry (b m : Nat) : JEnt := { kind := jkCut, n := 1, epi := 0, body := moveBody b m }

/-- The CUT takes effect: MOVING set, and the bucket no longer served (R466 step 1). -/
def State.cutApply (s : State) (b m : Nat) : State :=
  let home := s.seamHome b
  (((s.seamPut b home (s.mov.newHome) true).setMov { s.mov with
    pending := true, bucket := b, m := m, cutAt := some s.time.raw }).fset fSEMSTAT_MOVE semCut)

/-- Bucket `b` is cut: its old home answers BUSY, posts no item and sends no downlink frame (R466 step 1). -/
def State.bucketCut (s : State) (b : Nat) : Bool := s.moveIsA && s.mov.cutAt.isSome && s.mov.bucket = b

/-- An endpoint lies in a bucket that is cut. -/
def State.epiCut (s : State) (epi : Nat) : Bool :=
  match s.epiEntry epi with
  | some e => s.bucketCut e.seamb
  | none => false

/-- The MOVE messages after press round M − 1 (R466 step 2). -/
def State.moveAfterRound (s : State) (k : Nat) : State :=
  if s.moveIsA && s.mov.cutAt.isSome && !s.mov.sent && decide (k + 1 = s.mov.m) then
    let s1 := (s.bucketEpis s.mov.bucket).foldl (fun t e =>
      t.chipSend s.mov.newHome 1 0x05 (s.endpointState e) (s.endpointPoison e)) s
    s1.setMov { s1.mov with sent := true }
  else s

end Sys2Proof.Machine
end

