-- ==== Sys2Proof/Machine/Dispatcher.lean ====
section
/-!
DEFINITION. The dispatcher: ready items, grants, drops, the end of an item, press rounds and markers (R114 to R123, R203 to R206,
R222, R223, R234, R241, R242, R245).
-/

namespace Sys2Proof.Machine

/-! ## Addresses of a ledger core's windows (R40, R105) -/

def lcImem (n : Nat) : Nat := n * 0x20000
def lcData (n : Nat) : Nat := n * 0x20000 + 0x8000
def lcW3 (n : Nat) : Nat := lcData n + 0x1400
def lcW4 (n : Nat) : Nat := lcData n + 0x1C00
def lcW6 (n : Nat) : Nat := lcData n + 0x8000

/-! ## Ready items -/

/-- An item made ready, last of its endpoint's items of its rank (R118, R234, R242). -/
def State.postItem (s : State) (i : Item) (rank : Nat) (slot : Bool) : State :=
  s.setLdg { s.ldg with
    ord := s.ldg.ord + 1, ready := s.ldg.ready ++ [⟨i, s.ldg.ord, rank, slot⟩],
    readyAt := if s.ldg.ready.isEmpty then s.time.raw else s.ldg.readyAt }

def readySlots (l : List RItem) : Nat := (l.filter (·.slot)).length

/-- Items in the ready store, at most 65,536; items beyond are those their producers keep (R114, R117). -/
def inStoreAux : Nat → List RItem → List RItem
  | _, [] => []
  | n, r :: l => if r.slot then (if n = 0 then inStoreAux 0 l else r :: inStoreAux (n - 1) l) else r :: inStoreAux n l

def State.inStore (s : State) : List RItem :=
  if s.ldg.ready.length ≤ 65536 then s.ldg.ready else inStoreAux 65536 s.ldg.ready

/-- The ready store is full (R117). -/
def State.storeFull (s : State) : Bool := 65536 ≤ readySlots s.ldg.ready

/-- An item stands before another in its endpoint's order. -/
def RItem.before (a b : RItem) : Bool := a.rank < b.rank || (a.rank = b.rank && a.ord < b.ord)

/-- Some ledger core holds an item of this endpoint. -/
def State.epiBusy (s : State) (epi : Nat) : Bool :=
  s.lcs.any fun e => match e.2.item with
    | some i => i.epi = epi
    | none => false

/-- Grants of an endpoint are held for a rebuild (R242). -/
def State.epiHeld (s : State) (epi : Nat) : Bool := s.flag fLDGREBUILD_HOLD && s.fget fLDGREBUILD_EPI = epi

/-- The eligible items: the oldest ready item of each free endpoint (R118); an item that its producer still keeps is older too (R206). -/
def State.eligibleItems (s : State) : List RItem :=
  s.inStore.filter fun r => !(s.ldg.ready.any fun q => q.item.epi = r.item.epi && q.before r) && !s.epiBusy r.item.epi && !s.epiHeld r.item.epi

/-- The priority at which an endpoint's eligible item competes (R119). -/
def State.compete (s : State) (r : RItem) : Nat :=
  s.inStore.foldl (fun m q => if q.item.epi = r.item.epi then min m q.item.pri else m) 8

/-- The item granted next: best competing priority, then the one that became ready first (R119). -/
def State.pickItem (s : State) : Option RItem :=
  s.eligibleItems.foldl (fun best r => match best with
    | none => some r
    | some b =>
      let x := s.compete r
      let y := s.compete b
      if x < y ∨ (x = y ∧ r.ord < b.ord) then some r else best) none

/-- The lowest-numbered waiting core that is not fenced (R120). -/
def State.waitingCore (s : State) : Option Nat :=
  (List.range 64).find? fun n => decide ((s.lc n).run = .waiting) && !s.fenced (32 + n)

/-- An item taken out of the ready lists. -/
def State.unready (s : State) (r : RItem) : State :=
  s.setLdg { s.ldg with ready := s.ldg.ready.filter fun q => q.ord ≠ r.ord }

/-! ## ADJUST items (R222, R223) -/

/-- The interval of the head entry of an endpoint's tack list. -/
def State.headInterval (s : State) (epi : Nat) : Option Nat :=
  let a := s.tackAddr epi
  if tackCount s a = 0 then none else s.intervalOf (tackTime s a 0)

/-- The ADJUST item of an endpoint, when the conditions of R222 other than the write-back hold. -/
def State.adjustItem (s : State) (epi : Nat) : Option Item :=
  let lk := s.pageLastK epi
  if lk = noK ∨ s.ldg.ready.any (fun r => r.item.epi = epi && r.item.isAdjust) then none else
  match s.headInterval epi with
  | none => none
  | some j0 =>
    if lk < j0 then none else
    match s.eligible (s.epiClass epi) j0 with
    | none => none
    | some p =>
      let k := min lk (s.lastEligible p)
      if k < j0 then none else
      some (s.timedItem epi 1 (s.fget fLDGCFG_ADJ_PRI) (s.fget (fLDGPRG_HANDLE p)) 1 0 k (s.sK (k + 1)))

/-- After a write-back the dispatcher posts the endpoint's ADJUST item (R222). -/
def State.postAdjust (s : State) (epi : Nat) : State :=
  match s.adjustItem epi with
  | some i => (s.postItem i 2 false).count fLDGADJ_ADJ 1
  | none => s

/-! ## Press rounds (R203, R204, R234, R241) -/

/-- The switch item of an endpoint at the end of its press of interval `k`, where a program takes force at `k + 1` (R234); a rebuild
runs the press again once that program is CURRENT. -/
def State.postSwitch (s : State) (epi k : Nat) : State :=
  match (List.range 16).find? fun i => s.progState i ≠ psEmpty && s.fget (fLDGPRG_CLASS i) = s.epiClass epi
      && s.fget (fLDGPRG_AK i) = k + 1 with
  | some i =>
    s.postItem (s.timedItem epi 3 (s.fget fLDGCFG_PRESS_PRI) (s.fget (fLDGPRG_HANDLE i)) 0 0 (k + 1) (s.sK (k + 1))) 0 false
  | none => s

/-- At the completion of round `k` a LOADED program whose AK is `k + 1` becomes CURRENT, the one it displaces PREVIOUS (R234). -/
def State.switchProgs (s : State) (k : Nat) : State :=
  (List.range 16).foldl (fun t i =>
    if t.progState i = psLoaded ∧ t.fget (fLDGPRG_AK i) = k + 1 then
      let t1 := (List.range 16).foldl (fun u j =>
        if u.progState j = psCurrent ∧ u.fget (fLDGPRG_CLASS j) = u.fget (fLDGPRG_CLASS i) then
          (u.fset (fLDGPRG_STATE j) psPrevious).fset (fLDGPRG_LASTK j) k else u) t
      t1.fset (fLDGPRG_STATE i) psCurrent
    else t) s

/-- A round digest compared on the standby (R522). -/
def State.digestMismatch (s : State) (k : Nat) : State :=
  let s1 := (((s.setFlag fTWNSTAT_DIGMIS true).bump fTWNDIGMIS_COUNT 1).fset fTWNDIGK_K k).event
    { code := 0x032, sev := 2, src := 0x3D, arg0 := k }
  if s1.fget fTWNSTAT_SYNC = 2 then s1.fset fTWNSTAT_SYNC 3 else s1

/-- The standby's comparison of its round `k` with a DIGEST it holds (R522). -/
def State.digestCompare (s : State) (k : Nat) : State :=
  match s.twn.digests.find? fun e => e.1 = k with
  | none => s
  | some (_, d) =>
    let s1 := s.setTwn { s.twn with digests := s.twn.digests.filter fun e => e.1 ≠ k }
    if d = s1.reg rLDGDIGEST then s1 else s1.digestMismatch k

/-- Press round `k` is complete (R204, R234, R241, R273, R466, R522). -/
def State.roundDone (s : State) (k : Nat) : State :=
  let s1 := ((s.setFlag fLDGSTAT_ROUND false).fset fLDGROUND_LEFT 0).setReg rLDGDIGEST s.ldg.digestAcc
  let s2 := (((s1.switchProgs k).balanceRound k).moveAfterRound k).shadow 0x0B
    (beBytes 4 k ++ beBytes 4 0 ++ leBytes 32 s.ldg.digestAcc) .free
  if s2.isStandby then s2.digestCompare k else s2

/-- A PRESS item of the round has ended, by DONE, failure or drop (R204). -/
def State.pressEnded (s : State) (it : Item) (rank : Nat) : State :=
  if rank ≠ 2 ∨ !s.flag fLDGSTAT_ROUND ∨ it.w4.toNat ≠ s.ldg.roundK then s else
  let left := s.fget fLDGROUND_LEFT - 1
  let s1 := s.fset fLDGROUND_LEFT left
  if left = 0 then s1.roundDone s1.ldg.roundK else s1

/-- A PRESS item ends by DONE or failure: the endpoint's switch item, and the round (R204, R234). -/
def State.pressRun (s : State) (it : Item) (rank : Nat) : State := (s.postSwitch it.epi it.w4.toNat).pressEnded it rank

/-- Press items of a marker: one for every endpoint whose class has an eligible program, on replay only for those whose LAST_K is
below `k`, and none for a bucket that is cut (R203, R245, R466). -/
def State.pressItems (s : State) (k isn : Nat) : List Item :=
  s.epis.filterMap fun epi =>
    if s.epiCut epi then none
    else if s.flag fLDGSTAT_REPLAY ∧ s.pageLastK epi ≠ noK ∧ k ≤ s.pageLastK epi then none
    else (s.eligible (s.epiClass epi) k).map fun p =>
      s.timedItem epi 1 (s.fget fLDGCFG_PRESS_PRI) (s.fget (fLDGPRG_HANDLE p)) 0 isn k (s.sK (k + 1))

/-- The marker of interval `k` takes effect: K_LAST, which never decreases, the press items, and what else waits for a marker (R203,
R205, R209, R266). -/
def State.markerApply (s : State) (k isn : Nat) : State :=
  let items := s.pressItems k isn
  let s1 := (((s.lossAtMarker.setReg rLDGLASTK (if s.reg rLDGLASTK = noK then k else max k (s.reg rLDGLASTK))).fset fLDGMARK_ISN isn).setReg rLDGNEXTH (s.hK (k + 1))).fset
    fLDGROUND_LEFT items.length
  let s2 := s1.setLdg { s1.ldg with roundK := k, digestAcc := 0 }
  let s3 := items.foldl (fun t i => t.postItem i 2 false) (s2.setFlag fLDGSTAT_ROUND true)
  if items.isEmpty then s3.roundDone k else s3

/-! ## The end of an item -/

/-- The records of a core's emit buffer (R122, R183, R242, R247). -/
def State.emitRecs (s : State) (n : Nat) (it : Item) : List Rec :=
  (s.lc n).emits.map fun e => {
    typ := e.typ, rflags := s.rflags (e.ps || s.epiPoison it.epi) false, epi := it.epi, chip := s.self, eui := s.epiEui it.epi, isn := it.isn,
    body := s.bytes (lcW3 n + e.off) e.len }

/-- A core that has ended its item waits again. -/
def State.lcFree (s : State) (n : Nat) : State := s.setLc n { s.lc n with run := .waiting, item := none, emits := [], used := 0 }

/-- An item of an endpoint with its ISN lies in the ring of Q0. -/
def State.q0Holds (s : State) (epi : Nat) : Bool :=
  (List.range (s.queue 0).count).any fun i =>
    let a := s.slotAddr 0 ((s.queue 0).head + i)
    bits (s.peek a 4) 0 18 = epi && (s.peek (a + 8) 4 ≠ 0 || s.peek (a + 12) 2 ≠ 0)

/-- The rebuild of an endpoint is over once it is released and no item enqueued for it is left (R242). -/
def State.rebuildEnd (s : State) (epi : Nat) : State :=
  if s.ldg.rebuild = some epi ∧ !s.flag fLDGREBUILD_HOLD ∧ !s.q0Holds epi
      ∧ !(s.ldg.ready.any fun r => r.rank = 1 && r.item.epi = epi)
      ∧ !(s.lcs.any fun e => e.2.rank = 1 && e.2.item.isSome) then s.setLdg { s.ldg with rebuild := none } else s

/-- SHA3-256 over an EPI and the bodies of its PRESS item's records (R241). -/
def pressDigest (epi : Nat) (recs : List Rec) : Nat := leNat (sha3_256 (leBytes 4 epi ++ recs.flatMap (·.body)))

/-- The write-back of a core's item: the page and the tack list, but for the page's LAST_ISN and LAST_K, which the dispatcher writes
itself (R122, R215). -/
def State.writeBack (s : State) (n : Nat) (it : Item) : State :=
  let pa := s.pageAddr it.epi
  let lk := s.peek (pa + 16) 4
  let s0 := (s.touch (lcData n) 4096).touch (lcData n + 0x1000) 1024
  let s1 := ((s0.copyMem (lcData n) pa 8).copyMem (lcData n + 16) (pa + 16) 4080).copyMem (lcData n + 0x1000) (s.tackAddr it.epi) 1024
  (if it.isn ≠ 0 then s1.poke (pa + 8) 8 it.isn else s1).poke (pa + 16) 4 (if it.isPress then it.w4.toNat else lk)

/-- DONE: write-back, the records passed on, the endpoint freed (R122, R215, R222, R241). -/
def State.itemDone (s : State) (n : Nat) (it : Item) : State :=
  let rank := (s.lc n).rank
  let epi := it.epi
  let recs := s.emitRecs n it
  let s4 := (recs.foldl State.pushData (s.writeBack n it)).lcFree n
  let s5 := if it.isPress then
      let a := if rank = 2 ∧ it.w4.toNat = s4.ldg.roundK then
          s4.setLdg { s4.ldg with digestAcc := s4.ldg.digestAcc ^^^ pressDigest epi recs } else s4
      (a.balanceRead epi it.w4.toNat recs true).pressRun it rank
    else s4
  (s5.postAdjust epi).rebuildEnd epi

/-- ITEM_FAILED body (R248). -/
def failBody (it : Item) (st count : Nat) : List Byte :=
  leBytes 1 it.entry ++ leBytes 1 0 ++ leBytes 2 it.prog ++ leBytes 2 st ++ leBytes 2 it.kind ++ leBytes 4 count ++
  leBytes 2 (bits it.w3.toNat 16 16) ++ leBytes 2 0 ++
  leBytes 4 it.w4.toNat ++ leBytes 4 it.w5.toNat ++ leBytes 4 it.w6.toNat ++ leBytes 4 it.w7.toNat

/-- An item fails: its windows are discarded, its endpoint freed, the failure recorded (R123, R249). -/
def State.itemFail (s : State) (n : Nat) (it : Item) (st : Status) (count : Nat) : State :=
  let rank := (s.lc n).rank
  let s1 := s.lcFree n
  let r : Rec := { s1.hwRec 0xF0 it.epi (s1.epiEui it.epi) it.isn (failBody it st.code count) with
    rflags := s1.rflags ((s.lc n).cpu.fl.toNat.testBit 6 || s1.epiPoison it.epi) true }
  let s2 := (((s1.pushData r).setReg rDISLAST (it.epi + 2 ^ 20 * it.entry)).setReg rDISLASTST (st.code + 2 ^ 16 * it.prog)).bump
    fDISFAIL_FAILS 1
  let s3 := s2.event { code := 0x011, sev := 2, src := 0x05, arg0 := st.code, arg1 := it.epi, value := count }
  let s4 := if it.isPress then (s3.balanceRead it.epi it.w4.toNat [] false).pressRun it rank else s3
  s4.rebuildEnd it.epi

/-! ## Grants -/

/-- An item dropped at grant: it is gone, and a press item counts as ended; an endpoint already pressed (`seen`) is not a missing one
(R116, R242, R245, R267). -/
def State.dropItem (s : State) (r : RItem) (seen : Bool) : State :=
  let s1 := s.unready r
  let s2 := if r.item.isPress then (s1.balanceRead r.item.epi r.item.w4.toNat [] seen).pressEnded r.item r.rank else s1
  s2.rebuildEnd r.item.epi

/-- Replay and rebuild drop what the page already holds (R242, R245). -/
def State.dropsSeen (s : State) (r : RItem) : Bool :=
  let i := r.item
  let seen := i.isn ≠ 0 && i.isn ≤ s.pageLastIsn i.epi
  let pressed := i.isPress && s.pageLastK i.epi ≠ noK && i.w4.toNat ≤ s.pageLastK i.epi
  (s.flag fLDGSTAT_REPLAY && seen) || (s.ldg.rebuild = some i.epi && (seen || pressed))

/-- The grant itself: windows, registers, budget and entry address (R106, R121, R191). -/
def State.grantTo (s : State) (n : Nat) (r : RItem) (p : Nat) : State :=
  let i := r.item
  let epi := i.epi
  let s0 := (s.touch (s.pageAddr epi) 4096).touch (s.tackAddr epi) 1024
  let s1 := (s0.copyMem (s.pageAddr epi) (lcData n) 4096).copyMem (s.tackAddr epi) (lcData n + 0x1000) 1024
  let s2 := ((s1.clearMem (lcW3 n) 2048).write (lcW4 n) (i.words.flatMap fun w => leBytes 4 w.toNat)).clearMem (lcW6 n) 65536
  let g := s2.prog p
  let s3 := s2.setLc n {
    cpu := { pc := w32 (g.entries.getD i.entry 0) }, run := .running, item := some i, used := 0,
    budget := g.budgets.getD i.entry 0, emits := [], rank := r.rank }
  (s3.count fDISGRANTS_GRANTS 1).setPwr { s3.pwr with lastGrant := s3.time.raw }

/-- The ADJUST item that R223 puts before a PRESS or ON_TARIFF_SWITCH item of program `p`. -/
def State.adjustFirst (s : State) (r : RItem) (p : Nat) : Option Item :=
  let i := r.item
  if !(i.isPress || i.entry = 3) then none else
  match s.headInterval i.epi with
  | some j0 => if j0 < s.fget (fLDGPRG_AK p) then s.adjustItem i.epi else none
  | none => none

/-- One grant, or one drop, of the item picked, to a core (R116, R121, R223, R242, R245). -/
def State.grantItem (s : State) (n : Nat) (r : RItem) : State :=
  if s.dropsSeen r then s.dropItem r true else
  match s.progOf r.item.prog with
  | none => (s.bump fDISREJ_REJ 1).dropItem r false
  | some p =>
    match s.adjustFirst r p with
    | some a =>
      match s.progOf a.prog with
      | some q => (s.count fLDGADJ_ADJ 1).grantTo n ⟨a, s.ldg.ord, 2, false⟩ q
      | none => s
    | none => (s.unready r).grantTo n r p

/-- DISPATCH_GRANT (R118 to R121): with grants enabled and the ledger cores not gated (R77, R78), the picked item goes to the
lowest waiting core. -/
def State.dispatchGrant (s : State) : State :=
  if !s.flag fDISCTL_EN ∨ s.fget fMODESTAT_LPS ≠ 0 then s else
  match s.waitingCore, s.pickItem with
  | some n, some r => s.grantItem n r
  | _, _ => s

/-! ## Ingest's postings (R206, R217, R218, R220) -/

/-- The endpoint has an item ready or granted (R442). -/
def State.epiActive (s : State) (epi : Nat) : Bool := s.epiBusy epi || s.ldg.ready.any fun r => r.item.epi = epi

/-- TIME of an ON_READING item. -/
def Item.readTime (i : Item) : Nat := i.w4.toNat + 2 ^ 32 * bits i.w5.toNat 0 16

/-- The meter time lies in a pressed interval. -/
def State.timeLate (s : State) (t : Nat) : Bool :=
  match s.intervalOf t with
  | some j => decide ((j : Int) ≤ s.kLast)
  | none => true

/-- The ON_READING items of an endpoint that have not yet ended. -/
def State.openReadings (s : State) (epi : Nat) : List Item :=
  ((s.ldg.ready.map (·.item)) ++ (s.lcs.filterMap fun e => e.2.item)).filter fun i => i.epi = epi && i.isReading

/-- Reserve and late reserve of an endpoint (R220). -/
def State.reserve (s : State) (epi : Nat) : Nat × Nat :=
  let (n, l) := s.tackSummary epi
  let o := s.openReadings epi
  (n + o.length, l + (o.filter fun i => s.timeLate i.readTime).length)

/-- The tack reserve admits a frame (R220). -/
def State.reserveAdmits (s : State) (epi inTime late : Nat) : Bool :=
  let (n, l) := s.reserve epi
  n + inTime + late ≤ 42 && l + late ≤ s.fget fLDGLIMIT_LATE_MAX

/-- The readings of one accepted frame posted as their classes say: items, counters and hardware records (R208, R217). -/
def State.postReading (s : State) (epi isn : Nat) (r : Reading) (c : RdClass) : State :=
  let body := r.entry ++ s.kLastBytes ++ leBytes 4 (cut 32 s.kNow)
  let prog := match s.intervalOf r.time with
    | some j => ((s.eligible (s.epiClass epi) j).map fun p => s.fget (fLDGPRG_HANDLE p)).getD 0
    | none => 0
  match c with
  | .inTime => s.postItem (s.readingItem epi prog isn r) 2 true
  | .late => (s.postItem (s.readingItem epi prog isn r) 2 true).count fLDGLATE_LATE 1
  | .stale => (s.pushData (s.hwRec 0xF1 epi (s.epiEui epi) isn body)).bump fLDGSTALE_COUNT 1
  | .early => (s.pushData (s.hwRec 0xF2 epi (s.epiEui epi) isn body)).bump fLDGEARLY_COUNT 1

/-- An ON_COMMAND item with its ISN (R217, R218). -/
def State.commandItem (s : State) (epi prog code isn e p0 p1 : Nat) : Item :=
  { w0 := itemW0 epi 2 (s.fget fLDGCFG_READ_PRI), w1 := w32 (prog % 2 ^ 16 + 2 ^ 16 * code), w2 := w32 isn,
    w3 := w32 (isn / 2 ^ 32 % 2 ^ 16), w4 := w32 e, w5 := w32 (e / 2 ^ 32), w6 := w32 p0, w7 := w32 p1 }

end Sys2Proof.Machine
end

