-- ==== Sys2Proof/Machine/Keys.lean ====
section
/-!
DEFINITION. The key store: slots, masks, delivery, pockets and signatures as every path uses them (R536 to R548, R555).
-/

namespace Sys2Proof.Machine

def State.setKey (s : State) (k : KeySt) : State := { s with key := k }
def State.setKep (s : State) (k : KepSt) : State := { s with kep := k }

def keyReset : Nat → KeySlot := fun _ => {}
def State.slot (s : State) (n : Nat) : KeySlot := s.key.slots.get keyReset n
def State.setSlot (s : State) (n : Nat) (k : KeySlot) : State := s.setKey { s.key with slots := s.key.slots.put keyReset n k }
def State.slotValid (s : State) (n : Nat) : Bool := (s.slot n).typ ≠ 0

def cellReset : Nat → List Byte := fun _ => []
def State.cellOf (s : State) (n : Nat) : List Byte := s.key.cells.get cellReset n
def State.setCell (s : State) (n : Nat) (b : List Byte) : State := s.setKey { s.key with cells := s.key.cells.put cellReset n b }

/-- Mask bits: 4 ML-DSA-87, 5 ML-KEM-1024, 6 WRAP, 7 EXPORT (R538). -/
def mDsa : Nat := 4
def mKem : Nat := 5
def mWrap : Nat := 6
def mExport : Nat := 7

def ktAes128 : Nat := 1
def ktAes256 : Nat := 2
def ktDsaPriv : Nat := 4
def ktDsaPub : Nat := 5
def ktKemPriv : Nat := 6
def ktKemPub : Nat := 7

/-- Secret types, and the bytes of their material; bytes of a public key (R537). -/
def secretType (t : Nat) : Bool := t = 1 || t = 2 || t = 4 || t = 6
def publicType (t : Nat) : Bool := t = 5 || t = 7
def matBytes (t : Nat) : Nat :=
  if t = 1 then 16 else if t = 2 then 32 else if t = 4 then 32 else if t = 5 then 2592 else if t = 6 then 64
  else if t = 7 then 1568 else 0

/-- The mask bits a type allows (R538). -/
def maskAllowed (t : Nat) : Nat :=
  if t = 1 then 0x8F else if t = 2 then 0xCF else if t = 4 then 0x90 else if t = 5 then 0x10 else if t = 6 then 0xA0
  else if t = 7 then 0x20 else 0
def maskOk (t m : Nat) : Bool := maskOff m (maskAllowed t) = 0

/-- A key delivered to a receiver (R539 to R541): its slot, or why not. A public key's cell must match its digest. -/
def State.deliver (s : State) (n mbit : Nat) : Status × KeySlot :=
  let k := s.slot n
  if k.typ = 0 then (.keyEmpty, k)
  else if !bit k.mask mbit then (.keyDenied, k)
  else if publicType k.typ ∧ sha3_256 (s.cellOf k.cell) ≠ k.dig then (.keyDenied, k)
  else (.done, k)

/-- The public key of a slot of an ML-DSA or ML-KEM type. -/
def State.publicOf (s : State) (k : KeySlot) : List Byte :=
  if k.typ = ktDsaPriv then Config.dsaPublic k.mat
  else if k.typ = ktKemPriv then Config.kemPublic k.mat
  else s.cellOf k.cell

/-- The lowest unfenced AE engine that a mask names (R539). -/
def State.aePick (s : State) (mask : Nat) : Option Nat := (List.range 4).find? fun i => bit mask i && !s.fenced (4 + i)

/-- All four AE engines are fenced: no frame is accepted and no session runs (R53). -/
def State.aesGone (s : State) : Bool := (List.range 4).all fun i => s.fenced (4 + i)

/-! ## Pockets (R547, R548) -/

/-- A pocket's fields. -/
structure Pocket where
  parent : Nat
  ptype : Nat
  mask : Nat
  pkid : Nat
  owner : Nat
  v : Nat
  wrap : List Byte

def Pocket.parse (b : List Byte) : Pocket :=
  { parent := bits (le b 0 2) 0 12, ptype := le b 2 1, mask := le b 3 1, pkid := le b 4 4, owner := le b 8 4, v := le b 12 1,
    wrap := sub b 24 40 }

def Pocket.bytes (p : Pocket) : List Byte :=
  leBytes 2 p.parent ++ leBytes 1 p.ptype ++ leBytes 1 p.mask ++ leBytes 4 p.pkid ++ leBytes 4 p.owner ++ leBytes 1 p.v ++
  leBytes 11 0 ++ padTo 40 p.wrap

/-- Initial value of a pocket's wrap, and of a blob's (R546, R547). -/
def pocketIv (ptype mask owner : Nat) : Nat := beNat ([0x59, 0x4B] ++ beBytes 1 ptype ++ beBytes 1 mask ++ beBytes 4 owner)
def blobIv (typ mask kid : Nat) : Nat := beNat ([0x59, 0x49] ++ beBytes 1 typ ++ beBytes 1 mask ++ beBytes 4 kid)

def State.pocket (s : State) (epi : Nat) : Pocket := Pocket.parse (s.bytes (s.pktAddr epi) 64)

/-- A wrap taken as the child of a pocket: the material, or why not; the second flag counts KEYUNWRAPF (R548). -/
def State.unwrapAs (s : State) (p : Pocket) (wrap : List Byte) : Status × List Byte × Bool :=
  let k := s.slot p.parent
  if p.v ≠ 1 then (.keyEmpty, [], false)
  else if k.typ = 0 ∨ !bit k.mask mWrap ∨ k.kid ≠ p.pkid then (.keyOrphaned, [], false)
  else match kwUnwrap (nats k.mat) (pocketIv p.ptype p.mask p.owner) (nats wrap) with
    | none => (.keyOrphaned, [], true)
    | some m => (.done, ofNats m, false)

/-- A pocket's key on an AE engine (R539, R548): status, material, engine and the integrity failure. -/
def State.pocketKey (s : State) (epi : Nat) (wrap : List Byte) : Status × List Byte × Nat × Bool :=
  let p := s.pocket epi
  match s.unwrapAs p wrap with
  | (.done, m, f) => match s.aePick p.mask with
    | none => (.keyDenied, [], 0, f)
    | some e => (.done, m, e, f)
  | (st, _, f) => (st, [], 0, f)

/-- The key of an uplink frame at step 4 of R389: an erased chip refuses every frame there (R566, notes/assumptions/62.md). -/
def State.uplinkKey (s : State) (epi : Nat) (wrap : List Byte) : Status × List Byte × Nat × Bool :=
  if s.flag fTMPSTAT_ERASED then (.keyEmpty, [], 0, false) else s.pocketKey epi wrap

/-- An integrity failure counted. -/
def State.unwrapFail (s : State) (f : Bool) : State := if f then s.bump fKEYUNWRAPF_COUNT 1 else s

/-! ## Signatures (R554, R555) -/

/-- Context strings of R555. -/
def ctxNone : List Byte := []
def ctxAtt : List Byte := [0x41, 0x54, 0x54, 0x31]
def ctxSes : List Byte := [0x53, 0x45, 0x53, 0x31]
def ctxBat : List Byte := [0x42, 0x41, 0x54, 0x31]

def sigBytes : Nat := 4627

/-- A signature verified with a slot's key (R539, R555). -/
def State.verifyWith (s : State) (n : Nat) (msg ctx sig : List Byte) : Status :=
  match s.deliver n mDsa with
  | (.done, k) =>
    if k.typ ≠ ktDsaPriv ∧ k.typ ≠ ktDsaPub then .badArgument
    else if Config.dsaVerify (s.publicOf k) (sha3_512 msg) ctx sig then .done else .sigFail
  | (st, _) => st

/-- A verification counted in DSAVFAIL when the signature fails. -/
def State.countVerify (s : State) (st : Status) : State := if st = .sigFail then s.bump fDSAVFAIL_COUNT 1 else s

/-- A signature by a slot's private key: KEY_EMPTY, KEY_DENIED, BAD_ARGUMENT, ENGINE_FAULT (R556), or the bytes. -/
def State.signWith (s : State) (n : Nat) (msg ctx : List Byte) : Status × List Byte :=
  match s.deliver n mDsa with
  | (.done, k) =>
    if k.typ ≠ ktDsaPriv then (.badArgument, [])
    else if s.key.entropyBad ∨ Config.dsaStuck s.draw then (.engineFault, [])
    else (.done, sub (Config.dsaSign k.mat (sha3_512 msg) ctx s.draw) 0 sigBytes)
  | (st, _) => (st, [])

/-- ACT_OUT_N of the chip is asserted. -/
def State.actOut (s : State) : Bool := s.flag fTWNSTAT_ACTOUT

end Sys2Proof.Machine
end

