-- ==== Sys2Proof/Machine/Kep.lean ====
section
/-!
DEFINITION. KEP frames, security records, invocation counters, downlink sends, relay envelopes and ACKs as shared operations
(R378 to R395, R402 to R406, R415 to R420).
-/

namespace Sys2Proof.Machine

/-- All ones: the broadcast address. -/
def euiAll : Nat := 0xFFFFFFFFFFFFFFFF

/-! ## Security records (R388) -/

def State.secGet (s : State) (epi o n : Nat) : Nat := s.peek (s.secAddr epi + o) n
def State.secPut (s : State) (epi o n v : Nat) : State := s.poke (s.secAddr epi + o) n v
def State.lastIc (s : State) (epi : Nat) : Nat := s.secGet epi 0 8
def State.volIc (s : State) (epi : Nat) : Nat := s.secGet epi 8 8
def State.txIc (s : State) (epi : Nat) : Nat := s.secGet epi 16 8
def State.txCeil (s : State) (epi : Nat) : Nat := s.secGet epi 24 8
def State.kg (s : State) (epi : Nat) : Nat := s.secGet epi 32 1
def State.pkg (s : State) (epi : Nat) : Nat := s.secGet epi 33 1
def State.sflags (s : State) (epi : Nat) : Nat := s.secGet epi 34 1
def State.setSflag (s : State) (epi i : Nat) (b : Bool) : State := s.secPut epi 34 1 (setBits (s.sflags epi) i 1 (b2n b))
def sfRekey : Nat := 0
def sfExhausted : Nat := 1
def sfDlms : Nat := 2
def sfPending : Nat := 3
def sfOrphaned : Nat := 4

/-- The endpoint is a DLMS meter. -/
def State.isDlms (s : State) (epi : Nat) : Bool := bit (s.sflags epi) sfDlms

/-! ## Reservation entries (R415, R418) -/

def resvEntry (ceil gen : Nat) : Nat := ceil % 2 ^ 52 + 2 ^ 52 * (gen % 256)
def resvCeil (e : Nat) : Nat := bits e 0 52 * 4096
def resvGen (e : Nat) : Nat := bits e 52 8

/-- Next counter and ceiling in force of a key-store slot; a slot not used since the reset stands at its MRAM ceiling. -/
def State.slotTx (s : State) (n : Nat) : Nat :=
  match s.kep.slotIc.get natZero n with
  | 0 => resvCeil (s.peek (slotResvAddr n) 8)
  | v + 1 => v
def State.slotCeil (s : State) (n : Nat) : Nat :=
  match s.kep.slotCeil.get natZero n with
  | 0 => resvCeil (s.peek (slotResvAddr n) 8)
  | v + 1 => v
def State.setSlotTx (s : State) (n v : Nat) : State := s.setKep { s.kep with slotIc := s.kep.slotIc.put natZero n (v + 1) }
def State.setSlotCeil (s : State) (n v : Nat) : State := s.setKep { s.kep with slotCeil := s.kep.slotCeil.put natZero n (v + 1) }

/-- TX_IC and TX_CEIL of a key: an endpoint's, or a slot's. -/
def State.keyTx (s : State) (slot : Bool) (n : Nat) : Nat := if slot then s.slotTx n else s.txIc n
def State.keyCeil (s : State) (slot : Bool) (n : Nat) : Nat := if slot then s.slotCeil n else s.txCeil n
def State.setKeyTx (s : State) (slot : Bool) (n v : Nat) : State := if slot then s.setSlotTx n v else s.secPut n 16 8 v
def State.setKeyCeil (s : State) (slot : Bool) (n v : Nat) : State := if slot then s.setSlotCeil n v else s.secPut n 24 8 v

/-- After any reset other than TKO every TX_IC stands at the MRAM ceiling, and VOL_IC at LAST_IC (R392, R418). -/
def State.txFollow (s : State) (epi : Nat) : State :=
  let c := resvCeil (s.peek (resvAddr epi) 8)
  ((s.secPut epi 16 8 c).secPut epi 24 8 c).secPut epi 8 8 (s.lastIc epi)

/-- The limit of a key's ceiling (R419). -/
def State.ceilLimit (s : State) (slot : Bool) (n : Nat) : Nat :=
  if !slot && s.isDlms n then 2 ^ 32 - 4096 else 2 ^ 64 - 4096

/-- Step 4 of R416: the raised ceiling comes into force. -/
def State.raiseDone (s : State) (slot : Bool) (n ceil : Nat) : State :=
  let s1 := (s.setKeyCeil slot n ceil).setKep { s.kep with raises := s.kep.raises.filter fun r => !(r.1 = slot && r.2.1 = n) }
  let s1 := if slot then (s1.setSlotCeil n ceil) else s1
  if !slot ∧ s.ceilLimit slot n ≤ ceil + s.fget fKEPCFG_REKEYWARN * 4096 then s1.setSflag n sfRekey true else s1

/-- A raise is needed, and none is under way (R416). -/
def State.raiseDue (s : State) (slot : Bool) (n : Nat) : Bool :=
  s.keyCeil slot n ≤ s.keyTx slot n + 1024 && !(s.kep.raises.any fun r => r.1 = slot && r.2.1 = n)

/-- A raise of a key's ceiling, steps 1 to 3, and step 4 when nothing holds it (R416, R419, R514). -/
def State.raise (s : State) (slot : Bool) (n : Nat) : State :=
  let new := s.keyCeil slot n + 4096
  if s.ceilLimit slot n < new then s else
  let a := if slot then slotResvAddr n else resvAddr n
  let entry := resvEntry (new / 4096) (resvGen (s.peek a 8))
  let s1 := (s.poke a 8 entry).setKep { s.kep with raises := s.kep.raises ++ [(slot, n, new)] }
  let s2 := s1.shadow 0x09 (beBytes 4 (b2n slot) ++ beBytes 4 n ++ leBytes 8 entry) (.ceil slot n new)
  if s2.held (.ceil slot n new) then s2 else s2.raiseDone slot n new

/-! ## Frames (R378 to R380) -/

/-- The header of a KEP frame. -/
def kepHeader (kt mt clen id ic kg dir : Nat) : List Byte :=
  beBytes 1 (0x10 + 4 * kt) ++ beBytes 1 mt ++ beBytes 2 clen ++ beBytes 8 id ++ beBytes 8 ic ++ beBytes 1 kg ++
  beBytes 1 (128 * dir) ++ [0, 0]

def kepIv (dir kg ic : Nat) : List Byte := [0x4B] ++ beBytes 1 dir ++ beBytes 1 kg ++ [0] ++ beBytes 8 ic

/-- A whole downlink frame. -/
def kepSeal (key : List Byte) (kt mt id ic kg : Nat) (body : List Byte) : List Byte :=
  let h := kepHeader kt mt body.length id ic kg 1
  let iv := nats (kepIv 1 kg ic)
  let ct := gcmCrypt (nats key) iv (nats body)
  h ++ ofNats ct ++ ofNats (gcmTag (nats key) iv (nats h) ct)

/-! ## Paths out (R386, R403, R464) -/

/-- The 24-byte record header of R403. -/
def pathRecord (p : RxPath) (len : Nat) : List Byte :=
  beBytes 2 len ++ beBytes 1 p.srckind ++ beBytes 1 p.port ++ beBytes 8 p.ts ++ beBytes 1 p.snr ++ beBytes 1 p.fold ++
  beBytes 1 p.rssi ++ beBytes 1 p.group ++ beBytes 8 p.link

def pathParse (b : List Byte) : RxPath :=
  { srckind := be b 2 1, port := be b 3 1, ts := be b 4 8, snr := be b 12 1, fold := be b 13 1, rssi := be b 14 1,
    group := be b 15 1, link := be b 16 8 }

/-- Transmitters are enabled: SERVICE or HOLDOVER with the output gate open and no PFAIL sequence begun (R65, R71, R507). -/
def State.txEnabled (s : State) : Bool := s.serving && s.flag fTWNSTAT_GATE && s.mayEmit

/-- An envelope with one record, sent to a peer as a UDP datagram under the relay key of its slot (R403, R404). -/
def State.envelopeOut (s : State) (peer dir : Nat) (p : RxPath) (frame : List Byte) : State :=
  let slot := s.fget (fRELPEER_SLOT peer)
  let eic := s.slotTx slot
  let body := beBytes 2 0x4B52 ++ [0x01] ++ beBytes 1 (128 * dir + 1) ++ beBytes 8 (s.fget fKEYID_EUI) ++ beBytes 8 eic ++
    [0, 0, 0, 0] ++ pathRecord p frame.length ++ frame
  let iv := nats ([0x52] ++ beBytes 1 dir ++ [0, 0] ++ beBytes 8 eic)
  let tag := gcmTag (nats (s.slot slot).mat) iv (nats body) []
  (s.setSlotTx slot (eic + 1)).udpOut none (Config.peerAddr (s.fget (fRELPEER_EUI peer))) (s.fget fRELCFG_PORT) (s.fget fRELCFG_PORT)
    (body ++ ofNats tag)

/-- Envelopes to a peer are sent: its relay key is there, on an unfenced engine. -/
def State.peerOpen (s : State) (peer : Nat) : Bool :=
  let k := s.slot (s.fget (fRELPEER_SLOT peer))
  s.flag fRELCFG_EN && s.flag (fRELPEER_V peer) && k.typ = ktAes256 && (s.aePick k.mask).isSome

/-- An envelope to a peer can be sent now: its counter is below the ceiling as well (R417). -/
def State.envelopeReady (s : State) (peer : Nat) : Bool :=
  let slot := s.fget (fRELPEER_SLOT peer)
  s.peerOpen peer && s.slotTx slot < s.slotCeil slot

/-- The next envelope of a peer's relay key sent, or kept until the ceiling is raised (R404, R417). -/
def State.envelopePut (s : State) (peer dir : Nat) (p : RxPath) (frame : List Byte) : State :=
  if !s.peerOpen peer then s
  else if s.envelopeReady peer then s.envelopeOut peer dir p frame
  else (s.setKep { s.kep with envs := s.kep.envs ++ [⟨peer, dir, p, frame⟩] }).bump fKEPCTRWAIT_COUNT 1

/-- The envelopes that waited for the ceiling of a slot's key (R417). -/
def State.envPump (s : State) (slot : Nat) : State :=
  let mine := fun (e : EnvJob) => s.fget (fRELPEER_SLOT e.peer) = slot && s.envelopeReady e.peer
  (s.kep.envs.filter mine).foldl (fun t e => if t.envelopeReady e.peer then t.envelopeOut e.peer e.dir e.path e.frame
    else t.setKep { t.kep with envs := t.kep.envs ++ [e] }) (s.setKep { s.kep with envs := s.kep.envs.filter fun e => !mine e })

/-- A frame can leave on a path now. -/
def State.pathReady (s : State) (p : RxPath) : Bool :=
  match p.peer, p.chip with
  | some e, _ => s.envelopeReady e
  | none, some _ => true
  | none, none => s.txEnabled

/-- A frame handed to the path: an envelope to its sender, an EGRESS message to the receiving chip, or the port (R386, R405,
R464). Kind 0 is an ACK, 1 any other unicast, 2 a broadcast; `ackBy` is the raw count after which an ACK may no longer start. -/
def State.egress (s : State) (p : RxPath) (frame : List Byte) (kind : Nat) (ackBy : Option Nat) : State :=
  match p.peer, p.chip with
  | some e, _ => s.envelopeOut e 1 p frame
  | none, some c => s.chipSend c 0 0x02 (pathRecord p frame.length ++ frame) []
  | none, none => s.setKep { s.kep with out := s.kep.out ++ [{
      port := p.port, link := p.link, group := p.group, kind := kind, frame := frame, notBefore := p.ts, since := s.time.raw,
      ackBy := ackBy }] }

/-! ## Downlink sends (R394, R395, R417, R419, R514, R550) -/

/-- How a downlink send ends. -/
inductive Sent1 where
  | sent (s : State)
  | wait
  | refused (st : Status)

def noBools : Nat → List Bool := fun _ => []

/-- An engine's count of one more job or frame, and its last 16 jobs, newest first (R414). -/
def State.aeCount (s : State) (e : Nat) (soft : Bool) : State :=
  let s1 := s.count (fAESJOBS_COUNT e) 1
  s1.setKep { s1.kep with aeJobs := s1.kep.aeJobs.put noBools e ((soft :: s1.kep.aeJobs.get noBools e).take 16) }

/-- One frame under a key, sent when its counter is below the ceiling (R394, R417, R419). -/
def State.downSend (s : State) (slot : Bool) (n mt id : Nat) (body : List Byte) (p : RxPath) (kind : Nat)
    (ackBy : Option Nat) : Sent1 :=
  let ic := s.keyTx slot n
  if s.keyCeil slot n ≤ ic then
    if s.ceilLimit slot n < s.keyCeil slot n + 4096 then .refused .nonceExhausted else .wait
  else if !s.pathReady p then .wait
  else if slot then
    match s.slot n with
    | k =>
      if k.typ = 0 then .refused .keyEmpty else
      match s.aePick k.mask with
      | none => .refused .keyDenied
      | some e =>
        let f := kepSeal k.mat 1 mt id ic (resvGen (s.peek (slotResvAddr n) 8)) body
        .sent (((s.setKeyTx slot n (ic + 1)).aeCount e false).egress p f kind ackBy)
  else if s.held (.newGen n) ∨ s.epiCut n then .wait
  else match s.pocketKey n (s.pocket n).wrap with
    | (.done, key, e, _) =>
      let f := kepSeal key 0 mt (s.epiEui n) ic (s.kg n) body
      .sent (((s.setKeyTx slot n (ic + 1)).aeCount e false).egress p f kind ackBy)
    | (st, _, _, _) => .refused st

/-- A send refused: the exhausted key is marked (R419). -/
def State.downRefused (s : State) (slot : Bool) (n : Nat) (st : Status) : State :=
  let s1 := if st = .nonceExhausted ∧ !slot then s.setSflag n sfExhausted true else s
  if st = .nonceExhausted then s1.bump fKEPEXH_COUNT 1 else s1

/-! ## Answers (R385, R386) -/

def ackAccepted : Nat := 0
def ackBusy : Nat := 1
def ackNoprog : Nat := 2
def ackFormat : Nat := 3
def ackMode : Nat := 4
def ackRekey : Nat := 5

/-- An ACK queued for a frame, to go at once on its path (R385, R403). -/
def State.answerAck (s : State) (epi aic result retry nacc : Nat) (dup : Bool) (p : RxPath) (isn : Option Nat) : State :=
  let s1 := if result = ackAccepted then s.count fKEPRXOK_COUNT 1 else s
  s1.setKep { s1.kep with acks := s1.kep.acks ++ [{
    epi := epi, aic := aic, result := result, aflags := b2n dup, retry := retry, nacc := nacc, path := { p with ts := 0 }, since := s.time.raw,
    isn := isn }] }

/-- The body of an ACK as it is sent (R382). -/
def State.ackBody (s : State) (j : AckJob) : List Byte :=
  let held := s.kep.down.any fun d => !d.slot && d.key = j.epi && d.mt = 0x03
  let camp := (List.range 4).any fun n => s.flag (fFWCAMP_OPEN n)
  beBytes 8 j.aic ++ beBytes 1 j.result ++
  beBytes 1 (j.aflags + 2 * b2n (bit (s.sflags j.epi) sfRekey) + 4 * b2n held + 8 * b2n camp) ++ beBytes 2 j.retry ++
  beBytes 8 s.meterNow ++ beBytes 1 j.nacc ++ [0, 0, 0]

/-! ## Journal entries of readings and commands (R602, R603) -/

/-- A READINGS entry of one frame. -/
def readingsEntry (epi ic mseq prog : Nat) (rs : List (Reading × RdClass)) : JEnt :=
  let tb := (rs.map fun r => r.1.time).foldl min ((rs.headD (⟨0, 0, 0, 0, 0⟩, .inTime)).1.time)
  let cls := (List.range rs.length).foldl (fun m i =>
    m + 4 ^ i * ((rs.map fun r => r.2.code).getD i 0)) 0
  { kind := jkReadings, n := rs.length, epi := epi,
    body := leBytes 8 tb ++ leBytes 4 mseq ++ leBytes 2 prog ++ leBytes 2 0 ++ leBytes 8 ic ++ leBytes 8 cls ++
      rs.flatMap fun r => leBytes 2 r.1.code ++ leBytes 2 r.1.flags ++ leBytes 4 (r.1.time - tb) ++ leBytes 8 (cut 64 r.1.value) }

/-- The entries of one frame: one, or one per reading when they span more than 2^32 − 1 ms (R603). -/
def readingsEntries (epi ic mseq prog : Nat) (rs : List (Reading × RdClass)) : List JEnt :=
  let ts := rs.map fun r => r.1.time
  let lo := ts.foldl min (ts.headD 0)
  let hi := ts.foldl max 0
  if hi - lo < 2 ^ 32 then [readingsEntry epi ic mseq prog rs] else rs.map fun r => readingsEntry epi ic mseq prog [r]

/-- The readings of a READINGS entry, with the classes it carries. -/
def entryReadings (n : Nat) (b : List Byte) : List (Reading × RdClass) :=
  let tb := le b 0 8
  let cls := le b 24 8
  (List.range n).map fun i =>
    let o := 32 + 16 * i
    ({ time := tb + le b (o + 4) 4, code := le b o 2, flags := le b (o + 2) 2, value := sx (le b (o + 8) 8) 64, mseq := le b 8 4 },
      match bits cls (2 * i) 2 with
      | 0 => RdClass.inTime
      | 1 => .late
      | 2 => .stale
      | _ => .early)

/-- The readings of an accepted entry posted, in ISN order (R206, R208). -/
def State.postReadings (s : State) (epi isn : Nat) (rs : List (Reading × RdClass)) : State :=
  (rs.foldl (fun (p : State × Nat) r => (p.1.postReading epi p.2 r.1 r.2, p.2 + 1)) (s, isn)).1

/-- LAST_IC after a journaled input of an endpoint (R391). -/
def State.icAdvance (s : State) (epi ic : Nat) : State := s.secPut epi 0 8 ic

/-! ## Key generations (R395, R420) -/

/-- A KEYGEN entry's body. -/
def keygenBody (nkg ic entry : Nat) (wrap : List Byte) : List Byte :=
  leBytes 1 nkg ++ leBytes 7 0 ++ leBytes 8 ic ++ leBytes 8 entry ++ padTo 40 wrap

/-- The change of generation takes effect; the reservation entry is written as given (R395, R420). -/
def State.keygenApply (s : State) (epi : Nat) (body : List Byte) (writeResv : Bool) : State :=
  let nkg := le body 0 1
  let s1 := ((s.secPut epi 0 8 (le body 8 8)).secPut epi 8 8 0).secPut epi 32 1 nkg
  let s2 := ((s1.setSflag epi sfPending false).setSflag epi sfRekey false).setSflag epi sfExhausted false
  let s3 := s2.write (s2.pktAddr epi + 24) (sub body 24 40)
  let s4 := if writeResv then s3.write (resvAddr epi) (sub body 16 8) else s3
  (s4.secPut epi 16 8 0).secPut epi 24 8 (resvCeil (le body 16 8))

end Sys2Proof.Machine
end

