-- ==== Sys2Proof/Machine/Ingest.lean ====
section
/-!
DEFINITION. Endpoint messages: uplink frames, ACKs, downlink frames, key updates, ceilings, DLMS APDUs and relay envelopes (R378 to
R406, R415 to R424).
-/

namespace Sys2Proof.Machine

/-! ## Outcomes -/

/-- The KEP counter of a status (R389). -/
def State.kepCount (s : State) (st : Status) : State :=
  match st with
  | .badFrame => s.bump fKEPBADF_COUNT 1
  | .unknownEndpoint => s.bump fKEPUNK_COUNT 1
  | .keyEmpty => s.bump fKEPKEY_COUNT 1
  | .keyOrphaned => s.bump fKEPKEY_COUNT 1
  | .keyDenied => s.bump fKEPKEY_COUNT 1
  | .replay => s.bump fKEPREPLAY_COUNT 1
  | .tagFail => s.bump fKEPTAGF_COUNT 1
  | .nonceExhausted => s.bump fKEPEXH_COUNT 1
  | _ => s

/-- SRC and INST of an event about a frame (R629, R642): the powerline block and the triple, or the radio port's block, for a frame
received on a port; the message block otherwise. -/
def pathSrc (p : RxPath) : Nat × Nat :=
  if p.peer.isSome || p.chip.isSome then (0x3A, 0)
  else if p.port < 12 then (0x1C, p.port / 3)
  else if 16 ≤ p.port ∧ p.port < 22 then (0x20 + (p.port - 16), p.port - 16)
  else (0x3A, 0)

/-- A frame that fails a check (R389): counted, and recorded when its status is of family 0x5 (R145). -/
def State.kepFail (s : State) (st : Status) (len : Nat) (p : RxPath) (eui : Nat) : State :=
  let s1 := s.kepCount st
  if st = .badFrame ∨ st = .unknownEndpoint then s1.refused5 st (pathSrc p).1 (pathSrc p).2 len p.port eui else s1

/-! ## Ingest of readings (R384, R389 steps 10 and 11) -/

/-- How ingest answers a frame's readings. -/
inductive Ing where
  | ok (s : State) (isn : Nat)
  | mode (s : State)
  | noprog (s : State)
  | busy (s : State) (retry : Nat)
  | wait

/-- The program chosen for a reading (R218). -/
def State.readProg (s : State) (epi : Nat) (r : Reading) : Option Nat :=
  (s.intervalOf r.time).bind fun j => s.eligible (s.epiClass epi) j

/-- A reading whose class makes an item. -/
def RdClass.posts : RdClass → Bool
  | .inTime => true
  | .late => true
  | .stale => false
  | .early => false

/-- The readings of one frame or APDU accepted together or not at all (R202, R64, R466, R242, R218, R220, R384). -/
def State.ingest (s : State) (epi ic mseq : Nat) (rs : List Reading) : Ing :=
  if s.noCalendar || !s.ingestOpen then .mode s
  else if s.epiCut epi then .busy s (s.fget fSEMCFG_MOVERETRY)
  else if s.epiHeld epi then .busy s (s.fget fKEPCFG_BUSYRETRY)
  else
    let rc := rs.map fun r => (r, s.classify r.time)
    let items := rc.filter fun r => r.2.posts
    let late := (rc.filter fun r => r.2 = .late).length
    let lost := (items.filter fun r => (s.readProg epi r.1).isNone).length
    if lost ≠ 0 then .noprog (s.bump fLDGNOPROG_COUNT lost)
    else if !s.reserveAdmits epi (items.length - late) late then
      .busy (s.bump fLDGTACKREF_COUNT 1) (s.fget fKEPCFG_BUSYRETRY)
    else
      let prog := match items with
        | [] => 0
        | r :: _ => ((s.readProg epi r.1).map fun p => s.fget (fLDGPRG_HANDLE p)).getD 0
      let isn := s.nextIsn
      match s.journal (readingsEntries epi ic mseq prog rc) (fun n => if s.flag fTWNCFG_ACKHOLD then .ack n else .free) with
      | .ok s1 => .ok ((s1.icAdvance epi ic).postReadings epi isn rc) isn
      | .refused st => .mode (s.journalRefused st)
      | .wait => .wait

/-! ## KEP frames -/

/-- The fields of a KEP frame's header (R378). -/
structure KepFrame where
  ver : Nat
  kt : Nat
  mt : Nat
  clen : Nat
  id : Nat
  ic : Nat
  kg : Nat
  dir : Nat
  zero : Nat
  raw : List Byte

def KepFrame.parse (f : List Byte) : KepFrame :=
  { ver := bits (be f 0 1) 4 4, kt := bits (be f 0 1) 2 2, mt := be f 1 1, clen := be f 2 2, id := be f 4 8, ic := be f 12 8,
    kg := be f 20 1, dir := bits (be f 21 1) 7 1,
    zero := bits (be f 0 1) 0 2 + bits (be f 21 1) 0 7 + be f 22 2, raw := f }

/-- Step 1 of R389. -/
def KepFrame.shaped (h : KepFrame) : Bool :=
  h.ver = 1 && h.kt < 2 && h.zero = 0 && h.clen ≤ 1160 && h.raw.length = 40 + h.clen

def mtReadings : Nat := 0x01
def mtAck : Nat := 0x02
def mtCommand : Nat := 0x03
def mtCmdResp : Nat := 0x04
def mtKeyUpdate : Nat := 0x05
def mtGroupKey : Nat := 0x10
def mtFwBlock : Nat := 0x11
def mtFwStatus : Nat := 0x12
def mtFwQuery : Nat := 0x13
def mtFwActivate : Nat := 0x14
def mtSetpoint : Nat := 0x20

/-- The readings of a READINGS body and its MSEQ; none when it is malformed (R382, R383). -/
def parseReadings (b : List Byte) : Option (Nat × List Reading) :=
  let n := be b 12 1
  if n = 0 ∨ 32 < n ∨ be b 13 3 ≠ 0 ∨ b.length ≠ 16 + 16 * n then none else
  let rs := (List.range n).map fun i =>
    let o := 16 + 16 * i
    ({ time := be b 0 8 + be b (o + 4) 4, code := be b o 2, flags := be b (o + 2) 2, value := sx (be b (o + 8) 8) 64,
       mseq := be b 8 4 } : Reading)
  if rs.all fun r => r.fits && r.flags < 16 then some (be b 8 4, rs) else none

/-- A CMD_RESP or FW_STATUS body (R382). -/
def otherBodyOk (mt : Nat) (b : List Byte) : Bool :=
  if mt = mtCmdResp then b.length = 16 && be b 8 8 = 0
  else
    let nblk := be b 4 2
    8 ≤ b.length && 1 ≤ nblk && nblk ≤ 4096 && be b 6 1 ≤ 2 && be b 7 1 = 0 && b.length = 8 + (nblk + 7) / 8

/-- FW_STATUS applied to the sender's bitmap of an open campaign (R423). -/
def State.fwStatus (s : State) (epi : Nat) (b : List Byte) : State :=
  match (List.range 4).find? fun n => s.flag (fFWCAMP_OPEN n) && s.fget (fFWCAMP_CAMPAIGN n) = be b 0 4
      && s.fget (fFWCAMP_NBLK n) = be b 4 2 with
  | none => s
  | some n =>
    let w := (be b 4 2 + 7) / 8
    let a := s.fget (fFWCAMP_BITMAP n) + w * epi
    let old := s.bytes a w
    if be b 6 1 = 2 then s.write a (List.replicate w 0)
    else s.write a (List.zipWith (fun x y => x ||| y) old (sub b 8 w))

/-- Steps 7 to 11 of R389. -/
def State.kepFrom7 (s : State) (epi : Nat) (h : KepFrame) (body : List Byte) (p : RxPath) : State :=
  let len := h.raw.length
  let ack := fun (t : State) (res retry n : Nat) (dup : Bool) (isn : Option Nat) => t.answerAck epi h.ic res retry n dup p isn
  if 0xFFFFFFFFFFFFFFFF ≤ h.ic then ack (s.kepFail .nonceExhausted len p h.id) ackRekey 0 0 false none
  else
    let rd := if h.mt = mtReadings then parseReadings body else none
    let ok := h.dir = 0 && h.kt = 0 && (rd.isSome || ((h.mt = mtCmdResp || h.mt = mtFwStatus) && otherBodyOk h.mt body))
    if !ok then
      let s1 := s.kepFail .badFrame len p h.id
      if h.mt = mtReadings then ack s1 ackFormat 0 0 false none else s1
    else match rd with
      | none =>
        let s1 := (s.secPut epi 8 8 h.ic).setKep { s.kep with apdus := (epi, body) :: s.kep.apdus }
        if h.mt = mtFwStatus then s1.fwStatus epi body else s1
      | some (mseq, rs) =>
        if h.ic ≤ s.lastIc epi then
          ack (s.bump fKEPDUP_COUNT 1) ackAccepted 0 rs.length true none
        else match s.ingest epi h.ic mseq rs with
          | .ok s1 isn => ack s1 ackAccepted 0 rs.length false (some isn)
          | .mode s1 => ack s1 ackMode (s.fget fKEPCFG_BUSYRETRY) 0 false none
          | .noprog s1 => ack s1 ackNoprog 0 0 false none
          | .busy s1 retry => ack s1 ackBusy retry 0 false none
          | .wait => s

/-- The change of generation at the first frame that passes step 6 under PKG (R395, R420). -/
def State.keygenCommit (s : State) (epi : Nat) (h : KepFrame) : JRes :=
  let body := keygenBody (s.pkg epi) h.ic (resvEntry 1 (s.pkg epi)) (s.bytes (s.secAddr epi + 40) 40)
  match s.journal [{ kind := jkKeygen, n := 1, epi := epi, body := body }] (fun _ => .newGen epi) with
  | .ok s1 => .ok (s1.keygenApply epi body true)
  | r => r

/-- Steps 3 to 11 of R389 for a local endpoint. -/
def State.kepLocal (s : State) (epi : Nat) (h : KepFrame) (p : RxPath) : State :=
  let fail := fun (t : State) (st : Status) => t.kepFail st h.raw.length p h.id
  let under := bit (s.sflags epi) sfPending && h.kg = s.pkg epi && h.kg ≠ s.kg epi
  if h.kg ≠ s.kg epi ∧ !under then fail s .replay
  else
    let wrap := if under then s.bytes (s.secAddr epi + 40) 40 else (s.pocket epi).wrap
    match s.uplinkKey epi wrap with
    | (.done, key, e, _) =>
      if (if h.mt = mtReadings then h.ic < s.lastIc epi else h.ic ≤ max (s.lastIc epi) (s.volIc epi)) then fail s .replay
      else
        let ct := (h.raw.drop 24).take h.clen
        let aad := h.raw.take 24
        let iv := nats (kepIv h.dir h.kg h.ic)
        let s1 := s.aeCount e false
        if ofNats (gcmTag (nats key) iv (nats aad) (nats ct)) ≠ h.raw.drop (24 + h.clen) then fail s1 .tagFail
        else
          let body := ofNats (gcmCrypt (nats key) iv (nats ct))
          if !under then s1.kepFrom7 epi h body p
          else match s1.keygenCommit epi h with
            | .ok s2 => s2.kepFrom7 epi h body p
            | .refused st =>
              let s2 := s1.journalRefused st
              if h.mt = mtReadings then s2.answerAck epi h.ic ackMode (s.fget fKEPCFG_BUSYRETRY) 0 false p none else s2
            | .wait => s
    | (st, _, _, f) =>
      let s1 := s.unwrapFail f
      fail (if st = .keyDenied then s1 else s1.setSflag epi sfOrphaned true) st

/-- A frame handed to a relay target, or to none (R402). -/
def State.kepRelay (s : State) (peer : Nat) (frame : List Byte) (p : RxPath) : State := s.envelopePut peer 0 p frame

/-- The relay peer that takes frames of unknown endpoints on a field-role chip: the lowest valid one (R402). -/
def State.unknownPeer (s : State) : Option Nat :=
  if s.flag fSYSSTAT_ROLE_F && s.flag fRELCFG_FWD_UNKNOWN && s.flag fRELCFG_EN then (List.range 16).find? fun n => s.flag (fRELPEER_V n) else none

/-- A frame's steps from 2 on: its metadata goes to the control plane, and its ID decides who handles it (R389, R402, R405, R440,
R441). -/
def State.kepFrom2 (s : State) (h : KepFrame) (p : RxPath) : State :=
  let s := s.setKep { s.kep with reports := p :: s.kep.reports }
  match s.lookup h.id p.chip.isSome with
  | .localTo e => s.kepLocal e.epi h p
  | .remote c _ => (s.chipSend c 0 0x01 (pathRecord p h.raw.length ++ h.raw) []).count fSEMFWD_COUNT 1
  | .relay e =>
    if s.flag fSYSSTAT_ROLE_F then s.kepRelay e.rpeer h.raw p else s.kepFail .unknownEndpoint h.raw.length p h.id
  | .unknown =>
    match s.unknownPeer with
    | some n => s.kepRelay n h.raw p
    | none => (s.bump fEPTMISS_COUNT 1).kepFail .unknownEndpoint h.raw.length p h.id

/-- KEP_UPLINK_FRAME (R389). -/
def execKepUplinkFrame (p : RxPath) (frame : List Byte) (s : State) : Out := s.live <|
  let h := KepFrame.parse frame
  .next (if h.shaped then s.kepFrom2 h p else s.kepFail .badFrame frame.length p (if 12 ≤ frame.length then h.id else 0))

/-! ## ACKs (R386) -/

def dropAt {α : Type} (n : Nat) (l : List α) : List α := l.take n ++ l.drop (n + 1)

/-- Milliseconds ACKWIN passed since a raw count. -/
def State.pastAckWin (s : State) (since : Nat) : Bool := since + msRaw (s.fget fKEPCFG_ACKWIN) < s.time.raw

def State.setAcks (s : State) (l : List AckJob) : State := s.setKep { s.kep with acks := l }

/-- A wait for a ceiling counted once for a frame (R417). -/
def State.ctrWaits (s : State) (slot : Bool) (n : Nat) (waited : Bool) : Bool := s.keyCeil slot n ≤ s.keyTx slot n && !waited

/-- KEP_ACK_SEND (R386): ACK number `n` of those waiting goes out on its frame's path. -/
def execKepAckSend (n : Nat) (s : State) : Out := s.live <|
  match s.kep.acks[n]? with
  | none => .next s
  | some j =>
    if s.pastAckWin j.since then .next s
    else if (match j.isn with
      | some i => s.held (.ack i)
      | none => false) then .next s
    else match s.downSend false j.epi mtAck 0 (s.ackBody j) j.path 0 (some (j.since + msRaw (s.fget fKEPCFG_ACKWIN))) with
      | .sent s1 => .next (s1.setAcks (dropAt n s.kep.acks))
      | .wait =>
        .next (if s.ctrWaits false j.epi j.waited then
          (s.setAcks (s.kep.acks.set n { j with waited := true })).bump fKEPCTRWAIT_COUNT 1 else s)
      | .refused st => .next ((s.downRefused false j.epi st).setAcks (dropAt n s.kep.acks))

/-! ## Downlink frames (R394, R417, R550) -/

/-- The body of a queued frame: the KEY field of a KEY_UPDATE comes from the pending key, that of a GROUP_KEY from the group's slot,
both inside the AE engine and only with EXPORT in the mask (R550). -/
def State.downBody (s : State) (j : DownJob) : Status × List Byte :=
  if j.slot then (.done, j.body)
  else if j.mt = mtKeyUpdate then
    match s.pocketKey j.key (s.bytes (s.secAddr j.key + 40) 40) with
    | (.done, k, _, _) =>
      if bit (s.pocket j.key).mask mExport then (.done, beBytes 1 (s.pkg j.key) ++ List.replicate 7 0 ++ padTo 32 k) else (.keyDenied, [])
    | (st, _, _, _) => (st, [])
  else if j.mt = mtGroupKey then
    let k := s.slot j.id
    if k.typ = 0 then (.keyEmpty, [])
    else if !bit k.mask mExport ∨ k.typ ≠ ktAes256 then (.keyDenied, [])
    else (.done, sub j.body 0 16 ++ k.mat)
  else (.done, j.body)

/-- A queued frame waits for a CONFIRM of its PENDKEY (R514). -/
def State.downHeld (s : State) (j : DownJob) : Bool := !j.slot && j.mt = mtKeyUpdate && s.held (.keyUpdate j.key)

/-- Kind of a frame on its way out: a frame under a group key is a broadcast. -/
def DownJob.kind (j : DownJob) : Nat := if j.slot then 2 else 1

/-- One queued frame sent, refused, or left waiting with what the wait counts. -/
def State.downTry (s : State) (j : DownJob) : State × Bool :=
  if s.downHeld j then (s, false) else
  match s.downBody j with
  | (.done, b) =>
    match s.downSend j.slot j.key j.mt j.id b j.path j.kind none with
    | .sent s1 => (s1, true)
    | .refused st => (s.downRefused j.slot j.key st, true)
    | .wait => (if s.ctrWaits j.slot j.key j.waited then s.bump fKEPCTRWAIT_COUNT 1 else s, false)
  | (st, _) => (s.downRefused j.slot j.key st, true)

/-- The queue of downlink frames of one key, in order: the first that must wait holds those behind it. -/
def State.downRun (slot : Bool) (key : Nat) : List DownJob → State → Bool → List DownJob → State × List DownJob
  | [], s, _, kept => (s, kept.reverse)
  | j :: js, s, stuck, kept =>
    if stuck ∨ j.slot ≠ slot ∨ j.key ≠ key then State.downRun slot key js s stuck (j :: kept)
    else match s.downTry j with
      | (s1, true) => State.downRun slot key js s1 false kept
      | (s1, false) => State.downRun slot key js s1 true ({ j with waited := j.waited || s.ctrWaits slot key j.waited } :: kept)

/-- Every frame of a key that can go is sent (R417). -/
def State.downPump (s : State) (slot : Bool) (key : Nat) : State :=
  let r := State.downRun slot key s.kep.down s false []
  r.1.setKep { r.1.kep with down := r.2 }

/-- A frame of this type may go down under this kind of key (R381), its own row apart. -/
def downType (slot : Bool) (mt : Nat) : Bool :=
  if slot then mt = mtFwBlock || mt = mtFwActivate
  else mt = mtCommand || mt = mtGroupKey || mt = mtFwBlock || mt = mtFwQuery || mt = mtFwActivate

/-- The body of a frame of the control plane is laid out as its type asks (R382); a GROUP_KEY comes without its KEY, which the engine
adds. -/
def downBodyOk (mt : Nat) (b : List Byte) : Bool :=
  if mt = mtCommand then decide (be b 6 2 ≤ 64) && b.length = 8 + be b 6 2
  else if mt = mtGroupKey then b.length = 16 && decide (be b 9 1 ≤ 1) && be b 10 6 = 0
  else if mt = mtFwBlock then decide (1 ≤ be b 6 2) && decide (be b 6 2 ≤ 1024) && b.length = 8 + be b 6 2
  else if mt = mtFwQuery then b.length = 8 && be b 6 2 = 0
  else b.length = 16 && be b 4 4 = 0

/-- DOWNLINK_FRAME_SEND (R394): a frame of the control plane under an endpoint's key or a slot's group key; `id` is the GROUP_ID of a
group frame, and the group's slot of a GROUP_KEY. -/
def execDownlinkFrameSend (slot : Bool) (key mt id : Nat) (body : List Byte) (p : RxPath) (s : State) : Out := s.live <|
  if !downType slot mt ∨ !downBodyOk mt body then .next (s.say .badArgument) else
  let j : DownJob := { slot := slot, key := key, mt := mt, id := id, body := body, path := p }
  .next (((s.setKep { s.kep with down := s.kep.down ++ [j] }).downPump slot key).say .done)

/-- A new endpoint key, drawn at random and wrapped as the endpoint's pocket is (R388, R395, R547). -/
def State.newWrap (s : State) (epi : Nat) : Option (List Byte) :=
  let q := s.pocket epi
  let k := s.slot q.parent
  if q.v ≠ 1 ∨ k.typ = 0 ∨ !bit k.mask mWrap ∨ k.kid ≠ q.pkid then none else
  some (ofNats (kwWrap (nats k.mat) (pocketIv q.ptype q.mask q.owner) (nats (leBytes 32 s.draw))))

/-- PENDKEY of the shadow stream (R512). -/
def State.pendKey (s : State) (epi : Nat) : State :=
  s.shadow 0x0A (beBytes 4 epi ++ beBytes 4 0 ++ s.bytes (s.secAddr epi + 32) 48) (.keyUpdate epi)

/-- KEY_UPDATE_SEND (R395, R514): while PENDING the same pending key is sent again. -/
def execKeyUpdateSend (epi : Nat) (p : RxPath) (s : State) : Out := s.live <|
  let go := fun (t : State) =>
    let j : DownJob := { slot := false, key := epi, mt := mtKeyUpdate, id := 0, body := [], path := p }
    Host.Outcome.next (((t.setKep { t.kep with down := t.kep.down ++ [j] }).downPump false epi).say .done)
  if bit (s.sflags epi) sfPending then go s
  else if !bit (s.pocket epi).mask mExport then .next (s.say .keyDenied)
  else match s.newWrap epi with
    | none => .next (s.say .keyOrphaned)
    | some w =>
      let s1 := (((s.drawn 1).secPut epi 33 1 ((s.kg epi + 1) % 256)).write (s.secAddr epi + 40) w).setSflag epi sfPending true
      go (s1.pendKey epi)

/-! ## DLMS (R396 to R401) -/

/-- Days from 1970-01-01 of a civil date. -/
def civilDays (y m d : Nat) : Int :=
  let y' : Int := if m ≤ 2 then (y : Int) - 1 else y
  let era := y' / 400
  let yoe := y' - era * 400
  let mp : Int := ((m : Int) + 9) % 12
  let doy := (153 * mp + 2) / 5 + d - 1
  let doe := yoe * 365 + yoe / 4 - yoe / 100 + doy
  era * 146097 + doe - 719468

def leapYear (y : Nat) : Bool := (y % 4 = 0 && y % 100 ≠ 0) || y % 400 = 0
def monthDays (y m : Nat) : Nat :=
  if m = 2 then (if leapYear y then 29 else 28) else if m = 4 ∨ m = 6 ∨ m = 9 ∨ m = 11 then 30 else 31

/-- Meter time and FLAGS[2] of a COSEM date-time; none when it is not acceptable (R398, R399). -/
def State.cosemTime (s : State) (b : List Byte) : Option (Nat × Bool) :=
  let y := be b 0 2
  let m := be b 2 1
  let d := be b 3 1
  let hh := be b 5 1
  let mm := be b 6 1
  let ss := be b 7 1
  let hu := be b 8 1
  let dev := be b 9 2
  let st := be b 11 1
  let shaped : Bool := b.length = 12 && y ≠ 0xFFFF && decide (1 ≤ m) && decide (m ≤ 12) && decide (1 ≤ d)
    && decide (d ≤ monthDays y m) && (be b 4 1 = 0xFF || (decide (1 ≤ be b 4 1) && decide (be b 4 1 ≤ 7))) && decide (st ≠ 0xFF)
    && decide (hh ≤ 23) && decide (mm ≤ 59) && decide (ss ≤ 59) && decide (hu ≤ 99)
  let devOk : Bool := dev = 0x8000 || (decide (-720 ≤ sx dev 16) && decide (sx dev 16 ≤ 720))
  if !shaped || !devOk then none else
  let mins := if dev = 0x8000 ∨ be b 4 1 = 0xFF then sx (s.fget fDLMCFG_DEVDEF) 11 else sx dev 16
  let loc := ((civilDays y m d * 24 + hh) * 60 + mm) * 60000 + ss * 1000 + hu * 10
  let t := if s.flag fDLMCFG_DEVSIGN then loc - mins * 60000 else loc + mins * 60000
  if t < 0 then none else some (t.toNat, bit st 0 || bit st 1)

/-- A captured value at the scale of its map entry; a quotient that is no whole number is free (notes/assumptions/44.md). -/
def scaled (v scale : Int) : Int :=
  if 0 ≤ scale then v * 10 ^ scale.toNat
  else if v % 10 ^ scale.natAbs = 0 then v / 10 ^ scale.natAbs else Config.scaleDown v scale.natAbs

/-- The readings of an APDU's named captures, and how many had no usable time (R398, R399). -/
def State.dlmsReadings (s : State) (ic : Nat) : List DlmsCapture → List Reading × Nat
  | [] => ([], 0)
  | c :: cs =>
    let (rs, n) := s.dlmsReadings ic cs
    match c.named, s.cosemTime c.stamp with
    | none, _ => (rs, n)
    | some _, none => (rs, n + 1)
    | some (code, scale), some (t, doubt) => (⟨t, code, 4 * b2n doubt, scaled c.value scale, ic⟩ :: rs, n)

/-- What the wrapper of version 0x0001 holds (R396): version, ports, length. -/
def dlmsWrapped (d : List Byte) : Option (List Byte) :=
  if be d 0 2 = 1 ∧ d.length = 8 + be d 6 2 then some (d.drop 8) else none

/-- A general-glo-ciphering APDU's parts: title, SC, IC, ciphertext, tag (R397); the A-XDR length in one, two or three bytes. -/
def dlmsParts (b : List Byte) : Option (List Byte × Nat × Nat × List Byte × List Byte) :=
  let l0 := be b 10 1
  let (n, o) := if l0 < 128 then (l0, 11) else if l0 = 0x81 then (be b 11 1, 12) else (be b 11 2, 13)
  if be b 0 1 ≠ 0xDB ∨ be b 1 1 ≠ 8 ∨ (128 ≤ l0 ∧ l0 ≠ 0x81 ∧ l0 ≠ 0x82) ∨ n < 17 ∨ b.length ≠ o + n then none else
  some (sub b 2 8, be b o 1, be b (o + 1) 4, sub b (o + 5) (n - 17), b.drop (o + n - 12))

/-- The service inside is one the chip supports (R396): a GET response, normal or of a block; a normal SET or ACTION response; a
DATA-NOTIFICATION. -/
def dlmsService (b : List Byte) : Bool :=
  let t := be b 0 1
  let k := be b 1 1
  t = 0x0F || (t = 0xC4 && (k = 1 || k = 2)) || (t = 0xC5 && k = 1) || (t = 0xC7 && k = 1)

/-- Steps 7 to 11 of R389 for an authenticated APDU with plaintext `b`: a DLMS meter gets no answer (R400); an APDU with captured values
stands for READINGS, any other advances VOL_IC (R392, R397, R401). -/
def State.dlmsFrom7 (s : State) (epi ic len : Nat) (b : List Byte) (caps : List DlmsCapture) (p : RxPath) : Option State :=
  let fail := fun (t : State) (st : Status) => some (t.kepFail st len p (s.epiEui epi))
  if ic = 0xFFFFFFFF then
    let s1 := s.setSflag epi sfExhausted true
    fail (s1.setKep { s1.kep with rekeys := epi :: s1.kep.rekeys }) .nonceExhausted
  else if !dlmsService b then fail s .badFrame
  else
    let s1 := s.setKep { s.kep with apdus := (epi, b) :: s.kep.apdus }
    if !caps.any (·.named.isSome) then some (s1.secPut epi 8 8 ic)
    else if ic ≤ s.lastIc epi % 2 ^ 32 then some (s.bump fKEPDUP_COUNT 1)
    else
      let (rs, bad) := s1.dlmsReadings ic caps
      let s2 := s1.bump fDLMBADTIME_COUNT bad
      let ok := rs.filter (·.fits)
      if ok = [] then some s2
      else match s2.ingest epi ic ic ok with
        | .ok s3 _ => some s3
        | .mode s3 => some s3
        | .noprog s3 => some s3
        | .busy s3 _ => some s3
        | .wait => none

/-- DLMS_APDU (R396 to R401): the datagram of local meter `epi`, with the captures the housekeeping firmware decodes from its
plaintext. -/
def execDlmsApdu (epi : Nat) (apdu : List Byte) (caps : List DlmsCapture) (p : RxPath) (s : State) : Out := s.live <|
  if !s.flag fDLMCFG_EN then .next s else
  let fail := fun (t : State) (st : Status) => Host.Outcome.next (t.kepFail st apdu.length p (s.epiEui epi))
  match (dlmsWrapped apdu).bind dlmsParts with
  | none => fail s .badFrame
  | some (title, sc, ic, ct, tag) =>
    if sc ≠ 0x30 ∧ sc ≠ 0x10 then fail s .badFrame
    else match s.epiEntry epi with
      | none => fail (s.bump fEPTMISS_COUNT 1) .unknownEndpoint
      | some e =>
        if e.systitle ≠ title ∨ e.proto ≠ 1 then fail s .badFrame
        else match s.uplinkKey epi (s.pocket epi).wrap with
          | (.done, key, eng, _) =>
            let ek := nats (key.take 16)
            let ak := (key.drop 16).take 16
            let iv := nats (title ++ beBytes 4 ic)
            let aad := [BitVec.ofNat 8 sc] ++ ak ++ (if sc = 0x10 then ct else [])
            let body := if sc = 0x30 then ct else []
            let last := s.lastIc epi % 2 ^ 32
            if (if caps.any (·.named.isSome) then ic < last else ic ≤ max last (s.volIc epi % 2 ^ 32)) then fail s .replay
            else
              let s1 := s.aeCount eng false
              if (ofNats (gcmTag ek iv (nats aad) (nats body))).take 12 ≠ tag then fail s1 .tagFail
              else .next ((s1.dlmsFrom7 epi ic apdu.length (if sc = 0x30 then ofNats (gcmCrypt ek iv (nats ct)) else ct) caps p).getD s)
          | (st, _, _, f) =>
            fail (let s1 := s.unwrapFail f
                  if st = .keyDenied then s1 else s1.setSflag epi sfOrphaned true) st

/-! ## Relay envelopes (R402 to R406) -/

/-- The records of an envelope: path and frame; none when the layout breaks R403. -/
def relayRecords (peer : Nat) : Nat → List Byte → Option (List (RxPath × List Byte))
  | 0, b => if b.isEmpty then some [] else none
  | n + 1, b =>
    let len := be b 0 2
    let p := pathParse b
    if len < 40 ∨ 1200 < len ∨ b.length < 24 + len ∨ (p.srckind ≠ 0 ∧ p.srckind ≠ 2)
        ∨ !(p.port < 12 || (decide (16 ≤ p.port) && decide (p.port < 22)) || p.port = 0xFF) then none
    else (relayRecords peer n (b.drop (24 + len))).map fun l => ({ p with peer := some peer }, (b.drop 24).take len) :: l

/-- The valid peer entry of a sender (R404). -/
def State.peerOf (s : State) (eui : Nat) : Option Nat :=
  (List.range 16).find? fun n => s.flag (fRELPEER_V n) && s.fget (fRELPEER_EUI n) = eui

/-- RELAY_ENVELOPE_RECEIVE (R404, R405, R406). -/
def execRelayEnvelopeReceive (b : List Byte) (s : State) : Out := s.live <|
  if !s.flag fRELCFG_EN then .next s else
  let eui := be b 4 8
  let bad := fun (st : Status) => Host.Outcome.next (if st = .badEnvelope then s.refused5 st 0x3A 0 b.length 0 eui else s)
  let n := bits (be b 3 1) 0 5
  let dir := bits (be b 3 1) 7 1
  match s.peerOf eui with
  | none => bad .badEnvelope
  | some peer =>
    if b.length < 40 ∨ s.fget fRELCFG_MAXLEN < b.length ∨ be b 0 2 ≠ 0x4B52 ∨ be b 2 1 ≠ 1 ∨ bits (be b 3 1) 5 2 ≠ 0 ∨ n = 0
        ∨ 16 < n ∨ be b 20 4 ≠ 0 then bad .badEnvelope
    else match relayRecords peer n ((b.take (b.length - 16)).drop 24) with
      | none => bad .badEnvelope
      | some rs =>
        let k := s.slot (s.fget (fRELPEER_SLOT peer))
        let eic := be b 12 8
        match s.aePick k.mask with
        | none => bad .tagFail
        | some e =>
          let iv := nats ([0x52] ++ beBytes 1 dir ++ [0, 0] ++ beBytes 8 eic)
          let tag := ofNats (gcmTag (nats k.mat) iv (nats (b.take (b.length - 16))) [])
          if k.typ ≠ ktAes256 ∨ tag ≠ b.drop (b.length - 16) then bad .tagFail
          else if s.kep.eicSeen.contains (peer, eui) && decide (eic ≤ s.fget (fRELPEER_LASTEIC peer)) then bad .replay
          else
            let s1 := (s.aeCount e false).fset (fRELPEER_LASTEIC peer) eic
            let s1 := s1.setKep { s1.kep with eicSeen := (peer, eui) :: s1.kep.eicSeen.filter (·.1 ≠ peer) }
            if dir = 0 then .next (rs.foldl (fun t r => t.kepFrom2 (KepFrame.parse r.2) r.1) s1)
            else .next (s1.setKep { s1.kep with rel := s1.kep.rel ++ rs.map fun r => {
              path := { r.1 with peer := none }, frame := r.2, since := s.time.raw } })

end Sys2Proof.Machine
end

