-- ==== Sys2Proof/Machine/AesJobs.lean ====
section
/-!
DEFINITION. The AES engines' software jobs, firmware campaigns and setpoint broadcasts (R407 to R414, R421, R422, R425 to R427,
R685).
-/

namespace Sys2Proof.Machine

/-! ## Engine jobs (R407, R413, R553, R685) -/

/-- Software jobs of the AE, SHA3, ML-DSA-87 and ML-KEM-1024 engines run in this mode (R685). -/
def State.engineMode (s : State) : Bool := s.mode ≠ modeBoot

/-- A range that an engine's master port reaches: SRAM, MRAM or fitted DDR (R43). -/
def State.engineRange (s : State) (a n : Nat) : Bool :=
  match s.region a n with
  | some .sram => true
  | some .mram => true
  | some .da => true
  | some .db => true
  | _ => false

/-- A completion descriptor: STATUS, engine and END, JOBID, bytes written (R413). -/
def doneDesc (st : Status) (engine job n : Nat) : List GReg := plainDesc [st.code + 2 ^ 16 * engine + 2 ^ 31, job, n]

/-- An engine keeps a completion that its full DONEQ could not take (R413). -/
def State.holdsDone (s : State) (q engine : Nat) : Bool :=
  (s.queue q).held.any fun d => bits ((d.headD {}).val.toNat) 16 4 = engine

/-- The front descriptor of a job queue, when there is one. -/
def State.frontJob (s : State) (q : Nat) : Option (List GReg) :=
  if s.qEn q && decide (0 < (s.queue q).count) then some (s.front q) else none

/-- Word `i` of a descriptor. -/
def descW (d : List GReg) (i : Nat) : Nat := (d.getD i {}).val.toNat

/-! ## AES jobs -/

/-- The fields of an AES job (R407). -/
structure AesJob where
  mode : Nat
  ksrc : Nat
  taglen : Nat
  ivlen : Nat
  endBit : Nat
  key : Nat
  aadlen : Nat
  msglen : Nat
  src : Nat
  job : Nat
  dst : Nat
  deriving DecidableEq, Repr

/-- The fields of a descriptor (R407). -/
def AesJob.parse (d : List GReg) : AesJob :=
  { mode := bits (descW d 0) 0 4, ksrc := bits (descW d 0) 4 1, taglen := bits (descW d 0) 8 8, ivlen := bits (descW d 0) 16 8,
    endBit := bits (descW d 0) 31 1, key := bits (descW d 1) 0 18, aadlen := bits (descW d 2) 0 16, msglen := bits (descW d 3) 0 24,
    src := descW d 4 + 2 ^ 32 * bits (descW d 5) 0 16, job := bits (descW d 5) 16 16,
    dst := descW d 6 + 2 ^ 32 * bits (descW d 7) 0 16 }

/-- The limits of R408. -/
def AesJob.ok (j : AesJob) : Bool :=
  j.endBit = 1 && (
    if j.mode < 2 then j.ivlen = 12 && decide (12 ≤ j.taglen) && decide (j.taglen ≤ 16)
    else if j.mode < 4 then decide (7 ≤ j.ivlen) && decide (j.ivlen ≤ 13) && decide (4 ≤ j.taglen) && decide (j.taglen ≤ 16)
      && j.taglen % 2 = 0 && decide (j.msglen < 2 ^ (8 * (15 - j.ivlen)))
    else if j.mode = 4 then j.ivlen = 16 && j.taglen = 0 && j.aadlen = 0
    else if j.mode < 7 then j.ivlen = 0 && decide (1 ≤ j.taglen) && decide (j.taglen ≤ 16) && j.aadlen = 0
    else false)

/-- A decrypting or verifying job. -/
def AesJob.checks (j : AesJob) : Bool := j.mode = 1 || j.mode = 3 || j.mode = 6

/-- Bytes of the source: IV, additional data, message and, for a checking mode, the tag. -/
def AesJob.srcLen (j : AesJob) : Nat := j.ivlen + j.aadlen + j.msglen + (if j.checks then j.taglen else 0)

/-- The key of a job on engine `e` (R411): its status and material. -/
def State.aesKey (s : State) (j : AesJob) (e : Nat) : Status × List Byte × Bool :=
  if j.ksrc = 0 then
    match s.deliver (j.key % 4096) e with
    | (.done, k) => if secretType k.typ && decide (k.typ < 3) then (.done, k.mat, false) else (.keyDenied, [], false)
    | (st, _) => (st, [], false)
  else
    let p := s.pocket j.key
    match s.unwrapAs p p.wrap with
    | (.done, m, f) => if bit p.mask e then (.done, if p.ptype = 1 then m.take 16 else m, f) else (.keyDenied, [], f)
    | (st, _, f) => (st, [], f)

/-- What a job puts at its destination, or TAG_FAIL (R407, R409, R410). -/
def aesRun (j : AesJob) (key src : List Byte) : Status × List Byte :=
  let k := nats key
  let iv := nats (src.take j.ivlen)
  let aad := nats ((src.drop j.ivlen).take j.aadlen)
  let msg := nats ((src.drop (j.ivlen + j.aadlen)).take j.msglen)
  let tag := nats (src.drop (j.ivlen + j.aadlen + j.msglen))
  if j.mode = 0 then
    let ct := gcmCrypt k iv msg
    (.done, ofNats (ct ++ (gcmTag k iv aad ct).take j.taglen))
  else if j.mode = 1 then
    if (gcmTag k iv aad msg).take j.taglen = tag then (.done, ofNats (gcmCrypt k iv msg)) else (.tagFail, [])
  else if j.mode = 2 then (.done, ofNats (ccmCrypt k iv msg ++ ccmTag k iv aad msg j.taglen))
  else if j.mode = 3 then
    let pt := ccmCrypt k iv msg
    if ccmTag k iv aad pt j.taglen = tag then (.done, ofNats pt) else (.tagFail, [])
  else if j.mode = 4 then (.done, ofNats (aesCtr k 128 (blkNat iv) msg))
  else if j.mode = 5 then (.done, ofNats ((aesCmac k msg).take j.taglen))
  else if (aesCmac k msg).take j.taglen = tag then (.done, []) else (.tagFail, [])

/-- Bytes of output of a job: the message, and the tag of a mode that makes one (R407). -/
def AesJob.outLen (j : AesJob) : Nat :=
  (if j.mode < 5 then j.msglen else 0) + (if j.mode = 0 ∨ j.mode = 2 ∨ j.mode = 5 then j.taglen else 0)

/-- A job carried out on engine `e`: its status, and the state with its output written. -/
def State.aesJob (s : State) (j : AesJob) (e : Nat) : Status × State × Nat :=
  if !s.engineMode then (.modeDenied, s, 0)
  else if !j.ok then (.badArgument, s, 0)
  else
    if !s.engineRange j.src j.srcLen ∨ !s.engineRange j.dst j.outLen then (.badAddress, s, 0)
    else match s.aesKey j e with
      | (.done, key, _) =>
        let t := s.touch j.src j.srcLen
        if t.poisonedIn j.src j.srcLen then (.poisoned, t, 0)
        else match aesRun j key (t.bytes j.src j.srcLen) with
          | (.done, out) => (.done, t.write j.dst out, out.length)
          | (st, _) => (st, t.bump fAESTAGF_COUNT 1, 0)
      | (st, _, f) => (st, s.unwrapFail f, 0)

/-- Among an engine's last 16 jobs fewer than SWMIN were software jobs (R414). -/
def State.swShare (s : State) (e : Nat) : Bool :=
  ((s.kep.aeJobs.get noBools e).filter id).length < s.fget fAESCFG_SWMIN

/-- A row of the AES engines: engine `e` takes the oldest job of AESCFG.JOBQ when its MODE is one of the row's, and completes it
(R407 to R414); `waits` says that an ingest frame waits for the engine. -/
def State.aesRow (s : State) (rowMode : Nat → Bool) (e : Nat) (waits : Bool) : State :=
  let dq := s.fget fAESCFG_DONEQ
  if !s.flag fAESCFG_EN ∨ s.fenced (4 + e) ∨ s.holdsDone dq e ∨ (waits ∧ !s.swShare e) then s else
  match s.frontJob (s.fget fAESCFG_JOBQ) with
  | none => s
  | some d =>
    let j := AesJob.parse d
    if !rowMode j.mode then s else
    let (st, t, n) := (s.dequeued (s.fget fAESCFG_JOBQ)).aesJob j e
    (t.aeCount e true).hwEnqueue dq (doneDesc st e j.job n)

/-- AES_GCM_ENCRYPT: MODE 0, and a MODE outside R408's table, which completes with BAD_ARGUMENT. -/
def execAesGcmEncrypt (e : Fin 4) (waits : Bool) (s : State) : Out := s.live <| .next (s.aesRow (fun m => m = 0 || decide (6 < m)) e.val waits)
/-- AES_GCM_DECRYPT: MODE 1. -/
def execAesGcmDecrypt (e : Fin 4) (waits : Bool) (s : State) : Out := s.live <| .next (s.aesRow (· = 1) e.val waits)
/-- AES_CCM_ENCRYPT: MODE 2. -/
def execAesCcmEncrypt (e : Fin 4) (waits : Bool) (s : State) : Out := s.live <| .next (s.aesRow (· = 2) e.val waits)
/-- AES_CCM_DECRYPT: MODE 3. -/
def execAesCcmDecrypt (e : Fin 4) (waits : Bool) (s : State) : Out := s.live <| .next (s.aesRow (· = 3) e.val waits)
/-- AES_CTR: MODE 4. -/
def execAesCtr (e : Fin 4) (waits : Bool) (s : State) : Out := s.live <| .next (s.aesRow (· = 4) e.val waits)
/-- AES_CMAC_GENERATE: MODE 5. -/
def execAesCmacGenerate (e : Fin 4) (waits : Bool) (s : State) : Out := s.live <| .next (s.aesRow (· = 5) e.val waits)
/-- AES_CMAC_VERIFY: MODE 6. -/
def execAesCmacVerify (e : Fin 4) (waits : Bool) (s : State) : Out := s.live <| .next (s.aesRow (· = 6) e.val waits)

/-! ## Firmware campaigns (R421, R422) -/

/-- A write of FWCAMPn, whole: refused while OPEN is 1 but for OPEN itself; opening zeroes every target's bitmap (R422). -/
def State.fwcampWrite (s : State) (n v : Nat) : State :=
  let r := rFWCAMP n
  let old := s.reg r
  let nblk := (fFWCAMP_NBLK n).of v
  let image := (fFWCAMP_IMAGE n).of v
  let bitmap := (fFWCAMP_BITMAP n).of v
  let keep := fun x => setBits (setBits (setBits (setBits x 45 3 0) 56 7 0) 176 16 0) 63 1 0
  if s.flag (fFWCAMP_OPEN n) then
    if keep v ≠ keep old then s.say .engineBusy
    else (s.setFlag (fFWCAMP_OPEN n) ((fFWCAMP_OPEN n).of v = 1)).say .done
  else if nblk = 0 ∨ 4096 < nblk then s.say .badArgument
  else if image % 1024 ≠ 0 ∨ bitmap % 64 ≠ 0 then s.say .badAlign
  else
    let s1 := s.setReg r (setBits (keep v) 63 1 ((fFWCAMP_OPEN n).of v))
    if (fFWCAMP_OPEN n).of v = 1 then (s1.clearMem bitmap (262144 * ((nblk + 7) / 8))).say .done else s1.say .done

/-- FW_CAMPAIGN_OPEN (R422): a write of FWCAMPn that sets OPEN. -/
def execFwCampaignOpen (a : Agent) (n : Fin 4) (v : BitVec 256) (s : State) : Out := s.live <|
  .next (s.asWhole a (rFWCAMP n.val) fun t => t.fwcampWrite n.val (setBits v.toNat 63 1 1))

/-! ## Setpoint broadcasts (R425 to R427) -/

def spReset : Nat → SpSlot := fun _ => {}
def State.sp (s : State) (k : Nat) : SpSlot := s.kep.sp.get spReset k
def State.setSp (s : State) (k : Nat) (x : SpSlot) : State := s.setKep { s.kep with sp := s.kep.sp.put spReset k x }

/-- Body bytes 0 to LEN − 1 of SPBUFk. -/
def State.spBody (s : State) (k : Nat) : List Byte := (leBytes 60 (s.fget (fSPBUF_BODY k))).take (s.fget (fSPARM_LEN k))

/-- Arming with the key of slot `n` (R426): the frame is encrypted once and takes its IC; with no IC below the ceiling the write waits
(R417). -/
def State.spArm (s : State) (k n group : Nat) : State :=
  let ic := s.slotTx n
  if s.flag (fSPARM_ARMED k) then s.say .engineBusy
  else if s.slotCeil n ≤ ic then
    if s.ceilLimit true n < s.slotCeil n + 4096 then (s.downRefused true n .nonceExhausted).say .nonceExhausted
    else (s.setSp k { wait := some (n, group) }).bump fKEPCTRWAIT_COUNT 1
  else
    let key := s.slot n
    if key.typ = 0 then s.say .keyEmpty else
    match s.aePick key.mask with
    | none => s.say .keyDenied
    | some e =>
      let f := kepSeal key.mat 1 mtSetpoint group ic (resvGen (s.peek (slotResvAddr n) 8)) (s.spBody k)
      ((((s.setSlotTx n (ic + 1)).aeCount e false).setSp k { armed := true, frame := f }).setFlag (fSPARM_ARMED k) true).say .done

/-- CANCEL (R426). -/
def State.spCancel (s : State) (k : Nat) : State := ((s.setSp k {}).setFlag (fSPARM_ARMED k) false).say .done

/-- A write of SPARMk: its RW fields, then CANCEL, then ARM. -/
def State.sparmWrite (s : State) (k v : Nat) : State :=
  if s.flag (fSPARM_ARMED k) ∧ (fSPARM_ARM k).of v = 1 ∧ (fSPARM_CANCEL k).of v = 0 then s.say .engineBusy else
  let s1 := (((s.fset (fSPARM_TRIG k) ((fSPARM_TRIG k).of v)).fset (fSPARM_REPEAT k) ((fSPARM_REPEAT k).of v)).fset
    (fSPARM_LEN k) ((fSPARM_LEN k).of v)).say .done
  let s2 := if (fSPARM_CANCEL k).of v = 1 then s1.spCancel k else s1
  if (fSPARM_ARM k).of v = 1 then s2.spArm k s.kep.spSlot s.kep.spGroup else s2

/-- SETPOINT_ARM (R426): a write of SPARMk with ARM set; `slot` and `group` name the setpoint group's key and GROUP_ID. -/
def execSetpointArm (a : Agent) (k : Fin 4) (v : Word) (slot : Fin 4096) (group : DWord) (s : State) : Out := s.live <|
  .next (s.asAgent a (rSPARM k.val) fun t =>
    if t.flag (fSPARM_ARMED k.val) then t.say .engineBusy else
    (t.setKep { t.kep with spSlot := slot.val, spGroup := group.toNat }).sparmWrite k.val (setBits (setBits v.toNat 8 1 1) 9 1 0))

/-- SETPOINT_CANCEL (R426): a write of SPARMk with CANCEL set. -/
def execSetpointCancel (a : Agent) (k : Fin 4) (v : Word) (s : State) : Out := s.live <|
  .next (s.asAgent a (rSPARM k.val) fun t => t.sparmWrite k.val (setBits (setBits v.toNat 8 1 0) 9 1 1))

/-- The enabled powerline triples, each by its lowest enabled port, and the enabled radio ports, numbered from 16. -/
def State.spPorts (s : State) : List Nat :=
  ((List.range 4).filterMap fun t => [3 * t, 3 * t + 1, 3 * t + 2].find? fun i => s.flag (fPLCFG_EN i) && !s.fenced (20 + t)) ++
  (((List.range 6).filter fun r => s.flag (fRFCFG_EN r) && !s.fenced (24 + r)).map (16 + ·))

/-- SETPOINT_FIRE (R427): REPEAT + 1 copies of slot `k`'s frame behind those already queued on every port. -/
def execSetpointFire (k : Fin 4) (s : State) : Out := s.live <|
  if !bit s.time.fired (4 + k.val) then .next s else
  let s1 := s.setTime { s.time with fired := setBits s.time.fired (4 + k.val) 1 0 }
  if !(s1.sp k.val).armed then .next s1 else
  let copies := (List.range (s1.fget (fSPARM_REPEAT k.val) + 1)).flatMap fun c => s1.spPorts.map fun i =>
    ({
      port := i, link := 0xFFFFFFFFFFFFFFFF, group := 0, kind := 3, frame := (s1.sp k.val).frame, since := s1.time.raw,
      fid := some (0xF000 + 16 * k.val + c) } : PortFrame)
  .next ((s1.setKep { s1.kep with out := s1.kep.out ++ copies }).setFlag (fSPARM_ARMED k.val) false)

/-! ## Ceilings (R416, R417) -/

/-- A write of ARM that waited for the ceiling of a slot's key is carried out once a counter lies below it (R417, R426). -/
def State.spResume (s : State) (key k : Nat) : State :=
  match (s.sp k).wait with
  | none => s
  | some (n, group) =>
    if n = key ∧ s.slotTx n < s.slotCeil n then { (s.setSp k {}).spArm k n group with answer := s.answer } else s

/-- Everything that waited for the ceiling of a key goes on: frames, envelopes, writes of ARM (R417). -/
def State.keyPump (s : State) (slot : Bool) (key : Nat) : State :=
  let t := s.downPump slot key
  if slot then (List.range 4).foldl (fun u k => u.spResume key k) (t.envPump key) else t

/-- CEILING_RAISE (R416): a raise that is due, one at a time for each key; what waited for step 4 then goes on. -/
def execCeilingRaise (slot : Bool) (key : Nat) (s : State) : Out := s.live <|
  .next (if s.raiseDue slot key then (s.raise slot key).keyPump slot key else s)

end Sys2Proof.Machine
end

