-- ==== Sys2Proof/Machine/Eth.lean ====
section
/-!
DEFINITION. Ethernet ports, the prefix table and the endpoint-table commands (R429 to R442, R495, R496).
-/

namespace Sys2Proof.Machine

/-! ## The prefix table (R434 to R437) -/

/-- An entry inserted behind every entry whose LEN is at least its own. -/
def pfxInsert (e : PfxEntry) : List PfxEntry → List PfxEntry
  | [] => [e]
  | x :: l => if e.len ≤ x.len then x :: pfxInsert e l else e :: x :: l

def State.setPfx (s : State) (l : List PfxEntry) : State := { s with pfx := l }

/-- PFXSTAT.STATUS and PFXCOUNT at the end of a command. -/
def State.pfxEnd (s : State) (st : Status) : State :=
  ((s.fset fPFXSTAT_STATUS st.code).fset fPFXCOUNT_COUNT s.pfx.length).say .done

/-- A write of PFXCMD (R436). -/
def State.pfxCmd (s : State) (op : Nat) : State :=
  let e : PfxEntry := {
    key := s.fget fPFXKEY_KEY, len := s.fget fPFXDATA_LEN, dest := s.fget fPFXDATA_DEST,
    target := s.fget fPFXDATA_TARGET, nh := s.fget fPFXDATA_NH }
  let same := fun (x : PfxEntry) => x.key = e.key && x.len = e.len
  if op = 1 then
    if s.pfx.any same then (s.setPfx (s.pfx.map fun x => if same x then e else x)).pfxEnd .done
    else if 4096 ≤ s.pfx.length then s.pfxEnd .tableFull
    else (s.setPfx (pfxInsert e s.pfx)).pfxEnd .done
  else if op = 2 then
    if s.pfx.any same then (s.setPfx (s.pfx.filter fun x => !same x)).pfxEnd .done else s.pfxEnd .badArgument
  else s.say .badArgument

/-- PFX_INSERT (R436). -/
def execPfxInsert (a : Agent) (s : State) : Out := s.live <| .next (s.asAgent a rPFXCMD fun t => t.pfxCmd 1)
/-- PFX_DELETE (R436). -/
def execPfxDelete (a : Agent) (s : State) : Out := s.live <| .next (s.asAgent a rPFXCMD fun t => t.pfxCmd 2)

/-! ## Endpoint-table commands (R442) -/

def State.eptEnd (s : State) (st : Status) : State := (s.fset fEPTSTAT_STATUS st.code).say .done

/-- A write of EPTCMD (R442). -/
def State.eptCmd (s : State) (op : Nat) : State :=
  let b := leBytes 32 (s.fget fEPTDATA_ENTRY)
  let eui := (EptEntry.parse b).eui
  if op = 1 then
    let (st, s1) := s.eptWrite b
    s1.eptEnd st
  else if op = 2 then
    match s.eptFind eui with
    | none => s.eptEnd .badArgument
    | some i =>
      let e := s.eptEntry i
      if e.typ = eptLocal && s.epiActive e.epi then s.eptEnd .engineBusy else (s.eptClear i).eptEnd .done
  else if op = 3 then
    match s.eptFind eui with
    | none => s.eptEnd .badArgument
    | some i => (s.fset fEPTDATA_ENTRY (leNat (s.bytes (eptAddr i) 32))).eptEnd .done
  else s.say .badArgument

/-- EPT_WRITE (R442). -/
def execEptWrite (a : Agent) (s : State) : Out := s.live <| .next (s.asAgent a rEPTCMD fun t => t.eptCmd 1)
/-- EPT_DELETE (R442). -/
def execEptDelete (a : Agent) (s : State) : Out := s.live <| .next (s.asAgent a rEPTCMD fun t => t.eptCmd 2)
/-- EPT_READ (R442). -/
def execEptRead (a : Agent) (s : State) : Out := s.live <| .next (s.asAgent a rEPTCMD fun t => t.eptCmd 3)

/-! ## Ethernet (R430 to R433) -/

/-- Receive correction of a port in ns by its mode and speed (R495). -/
def State.enRxCorr (s : State) (k : Nat) : Int :=
  if s.fget (fENCFG_MODE k) = 0 then -58
  else match s.fget (fENSTAT_SPEED k) with
    | 2 => -872
    | 3 => -8072
    | _ => -152

/-- The receive timestamp of a frame that arrives now. -/
def State.enStamp (s : State) (k : Nat) : Nat := s.stamp k s.time.raw (s.enRxCorr k) false

/-- The Ethertype and payload of a frame the port's VLAN rule accepts (R430). -/
def State.enPayload (s : State) (k : Nat) (f : List Byte) : Option (Nat × List Byte) :=
  let vid := s.fget (fENCFG_VID k)
  if f.length < 14 then none
  else if vid = 0 then some (be f 12 2, f.drop 14)
  else if be f 12 2 = 0x8100 ∧ be f 14 2 % 4096 = vid ∧ 18 ≤ f.length then some (be f 16 2, f.drop 18)
  else none

/-- A next-header number that names an extension header. -/
def isExtHeader (n : Nat) : Bool := n = 0 || n = 43 || n = 44 || n = 50 || n = 51 || n = 60 || n = 135 || n = 139 || n = 140

/-- The forwarding path (R433). -/
def State.enForward (s : State) (k : Nat) (pkt : List Byte) : State :=
  let hop := be pkt 7 1
  if !s.flag (fENCFG_FWD k) then s.bump (fENFWDDROP_COUNT k) 1
  else if hop ≤ 1 then s.deliverTo { dest := s.enFw k, src := 0x30 + k, stamp := s.enStamp k, bytes := pkt }
  else s.pfxForward k none (splice pkt 7 (beBytes 1 (hop - 1)))

/-- The destination is an ENADDR of the port, or a multicast group that the firmware has joined. -/
def State.enMine (s : State) (k dst : Nat) (joined : Bool) : Bool :=
  (dst ≠ 0 && (List.range 4).any fun j => s.fget (fENADDR_ADDR k j) = dst) || (bits dst 120 8 = 0xFF && joined)

/-- The chip of the set whose sessions a UDP port carries (R431, R479). -/
def State.batchChip (s : State) (port : Nat) : Option Nat :=
  (List.range 8).find? fun c => s.flag fSYSSTAT_SEAM && c ≠ s.self && decide (c < s.fget fSEMCFG_NCHIPS)
    && (s.fget fREPCFG_PORT + 1 + c) % 65536 = port

/-- An accepted packet in SERVICE, HOLDOVER, STANDBY or COMMISSION handed to its path: the first row of R431 that matches. -/
def State.enHand (s : State) (k : Nat) (pkt : List Byte) (joined : Bool) : State :=
  let nh := be pkt 6 1
  let dport := be pkt 42 2
  let give := fun (d : Dest) (b : List Byte) => s.deliverTo { dest := d, src := 0x30 + k, stamp := s.enStamp k, bytes := b }
  let load := (pkt.drop 48).take (be pkt 4 2 - 8)
  if !s.enMine k (be pkt 24 16) joined then s.enForward k pkt
  else if isExtHeader nh then give (s.enFw k) pkt
  else if nh = 17 then
    if dport = s.fget fRELCFG_PORT then give .relay load
    else if dport = s.fget fDLMCFG_PORT && s.flag fDLMCFG_EN then give .dlms load
    else if dport = s.fget fREPCFG_PORT then give .session load
    else match s.batchChip dport with
      | some c => s.chipSend c 1 0x03 load []
      | none => give (s.enFw k) pkt
  else give (s.enFw k) pkt

/-- The port on which the ROM's recovery service reaches the network (R66). -/
def State.romPort (s : State) : Nat := if s.fenced 15 then 0 else 1

/-- An accepted packet as the mode permits (R63, R66): none in BOOT, in RECOVERY those for the ROM's recovery service on its port. -/
def State.enDeliver (s : State) (k : Nat) (pkt : List Byte) (joined : Bool) : State :=
  if s.mode = modeBoot then s
  else if s.mode = modeRecovery then
    if k = s.romPort ∧ s.enMine k (be pkt 24 16) joined then
      s.deliverTo { dest := .rom, src := 0x30 + k, stamp := s.enStamp k, bytes := pkt }
    else s
  else s.enHand k pkt joined

/-- ETH_FRAME_RECEIVE (R430 to R433, R496): port `k` receives a frame, without its FCS; `joined` says that the firmware has joined
the multicast group it is sent to. -/
def execEthFrameReceive (k : Fin 2) (f : List Byte) (joined : Bool) (s : State) : Out := s.live <|
  if !s.enUp k.val then .next s else
  let drop := Host.Outcome.next (s.bump (fENDROP_COUNT k.val) 1)
  match s.enPayload k.val f with
  | none => drop
  | some (et, p) =>
    if et = 0x88F7 then
      .next ((s.count (fENRXOK_COUNT k.val) 1).deliverTo {
        dest := s.enFw k.val, src := 0x30 + k.val, stamp := s.enStamp k.val, bytes := f })
    else
      let n := 40 + be p 4 2
      if et ≠ 0x86DD ∨ p.length < n ∨ s.fget (fENCFG_MTU k.val) < n then drop
      else
        let pkt := p.take n
        if be pkt 6 1 = 17 ∧ (be pkt 4 2 < 8 ∨ !udpSumOk pkt) then .next (s.bump (fENCSUM_COUNT k.val) 1)
        else .next ((s.count (fENRXOK_COUNT k.val) 1).enDeliver k.val pkt joined)

/-- The sessions move off a port that is down or fenced, when ALTPORT is 1 (R433). -/
def State.sesMove (s : State) : State :=
  let p := s.ses.port
  if s.flag fREPDPORT_ALTPORT ∧ !s.enUp p ∧ s.enUp (1 - p) then s.setSes { s.ses with port := 1 - p } else s

/-- ETHERNET_LINK_CHANGE (R433). -/
def execEthernetLinkChange (k : Fin 2) (up : Bool) (speed : Fin 4) (s : State) : Out := s.live <|
  if !s.flag (fENCFG_EN k.val) ∨ s.fenced (14 + k.val) then .next s else
  .next (((s.setFlag (fENSTAT_LINK k.val) up).fset (fENSTAT_SPEED k.val) (if up then speed.val else 0)).sesMove)

end Sys2Proof.Machine
end

