-- ==== Sys2Proof/Machine/Nbt.lean ====
section
/-!
DEFINITION. The neighbour tables in SRAM (R443 to R447).
-/

namespace Sys2Proof.Machine

/-- Address of neighbour entry `i` (R41). -/
def nbtAddr (i : Nat) : Nat := sramBase + 0x1440000 + 128 * i

/-- A field of a neighbour entry. -/
def State.nb (s : State) (i o n : Nat) : Nat := s.peek (nbtAddr i + o) n
def State.nbPut (s : State) (i o n v : Nat) : State := s.poke (nbtAddr i + o) n v

def State.nbEui (s : State) (i : Nat) : Nat := s.nb i 0 8
def State.nbMedium (s : State) (i : Nat) : Nat := s.nb i 8 1
def State.nbFlag (s : State) (i b : Nat) : Bool := bit (s.nb i 9 1) b
def State.nbValid (s : State) (i : Nat) : Bool := s.nbFlag i 0
def State.nbPinned (s : State) (i : Nat) : Bool := s.nbFlag i 1
def State.nbGen (s : State) (i : Nat) : Nat := s.nb i 10 1

/-- Seconds of the raw count (R443). -/
def State.rawSec (s : State) : Nat := s.time.raw / 1000000000 % 2 ^ 32

/-- Seconds since an entry was last seen. -/
def State.nbAge (s : State) (i : Nat) : Nat := (s.rawSec + 2 ^ 32 - s.nb i 12 4) % 2 ^ 32

/-- The set of a key (R444). -/
def nbtSet (eui medium : Nat) : Nat :=
  (bits eui 0 16 ^^^ bits eui 16 16 ^^^ bits eui 32 16 ^^^ bits eui 48 16 ^^^ medium) % 2 ^ 14

/-- The four entries of a set. -/
def nbtWays (eui medium : Nat) : List Nat := (List.range 4).map fun w => 4 * nbtSet eui medium + w

/-- The entry of a key. -/
def State.nbFind (s : State) (eui medium : Nat) : Option Nat :=
  (nbtWays eui medium).find? fun i => s.nbValid i && s.nbEui i = eui && s.nbMedium i = medium

/-- An entry freed: every byte zero but GEN, which counts on (R446), and what the powerline ports count beside it (R315, R316). -/
def State.nbFree (s : State) (i : Nat) : State :=
  let g := (s.nbGen i + 1) % 256
  let s0 := { s with pl := { s.pl with mapAt := s.pl.mapAt.put (fun _ => 0) i 0, ackLow := s.pl.ackLow.put (fun _ => 0) i 0 } }
  let s1 := s0.write (nbtAddr i) (splice (List.replicate 128 0) 10 (leBytes 1 g))
  s1.fset fNBTSTAT_USED (s1.fget fNBTSTAT_USED - 1)

/-- The way a new key takes: a free one, else the oldest that may be evicted (R445). -/
def State.nbWay (s : State) (eui medium : Nat) : Option Nat :=
  match (nbtWays eui medium).find? fun i => !s.nbValid i with
  | some i => some i
  | none => (nbtWays eui medium).foldl (fun best i =>
      if s.nbPinned i ∨ s.nbAge i < s.fget fNBTCFG_MINAGE then best else
      match best with
      | none => some i
      | some b => if s.nbAge b < s.nbAge i then some i else best) none

/-- A frame of a key with a passing FCS: its entry refreshed or inserted, or NBTFULL counted (R444, R445). A new powerline entry
starts with no path, NEXTID 1 and 16 successes (R314, R317, R318). -/
def State.nbSeen (s : State) (eui medium : Nat) (indirect : Bool) : State :=
  match s.nbFind eui medium with
  | some i => if indirect then s else (s.nbPut i 12 4 s.rawSec).nbPut i 9 1 (setBits (s.nb i 9 1) 2 1 0)
  | none => match s.nbWay eui medium with
    | none => s.bump fNBTFULL_COUNT 1
    | some i =>
      let s1 := if s.nbValid i then s.nbFree i else s
      let b := leBytes 8 eui ++ leBytes 1 medium ++ leBytes 1 (1 + 4 * b2n indirect) ++ leBytes 1 (s1.nbGen i) ++ [0] ++
        leBytes 4 s1.rawSec ++ List.replicate 112 0
      let b := if medium < 4 then splice (splice (splice b 20 [0xFF, 0xFF]) 49 [1]) 120 [0xFF, 0xFF] else b
      (s1.write (nbtAddr i) b).fset fNBTSTAT_USED (s1.fget fNBTSTAT_USED + 1)

/-- NBTLAST.STATUS written. -/
def State.nbtEnd (s : State) (st : Status) : State := (s.setReg rNBTLAST st.code).say .done

/-- A write of NBTCMD (R446). -/
def State.nbtCmd (s : State) (v : Nat) : State :=
  let i := fNBTCMD_IDX.of v
  let op := fNBTCMD_OP.of v
  let s := s.fset fNBTCMD_IDX i
  if op = 0 then s.say .done
  else if !s.nbValid i then s.nbtEnd .badArgument
  else if op = 1 then (s.nbPut i 9 1 (setBits (s.nb i 9 1) 1 1 1)).nbtEnd .done
  else if op = 2 then (s.nbPut i 9 1 (setBits (s.nb i 9 1) 1 1 0)).nbtEnd .done
  else (s.nbFree i).nbtEnd .done

/-- NBT_PIN. -/
def execNbtPin (a : Agent) (idx : Half) (s : State) : Out := s.live <|
  .next (s.asAgent a rNBTCMD fun t => t.nbtCmd (idx.toNat + 2 ^ 16))
/-- NBT_UNPIN. -/
def execNbtUnpin (a : Agent) (idx : Half) (s : State) : Out := s.live <|
  .next (s.asAgent a rNBTCMD fun t => t.nbtCmd (idx.toNat + 2 * 2 ^ 16))
/-- NBT_DELETE. -/
def execNbtDelete (a : Agent) (idx : Half) (s : State) : Out := s.live <|
  .next (s.asAgent a rNBTCMD fun t => t.nbtCmd (idx.toNat + 3 * 2 ^ 16))

/-- NEIGHBOUR_AGE_SWEEP (R446). -/
def execNeighbourAgeSweep (s : State) : Out := s.live <|
  .next ((List.range 65536).foldl (fun t i =>
    if t.nbValid i && !t.nbPinned i && decide (t.fget fNBTCFG_AGE ≤ t.nbAge i) then (t.nbFree i).bump fNBTAGED_COUNT 1 else t) s)

end Sys2Proof.Machine
end

