-- ==== Sys2Proof/Machine/PlCode.lean ====
section
/-!
DEFINITION. The SPL coding chain: scrambling, Reed–Solomon, convolutional code, puncturing, repetition, padding and the mangle
(R291, R294, R295).
-/

namespace Sys2Proof.Machine

/-- The bits of bytes, each byte most significant bit first. -/
def bitsMsb (bs : List Byte) : List Bool := bs.flatMap fun b => (List.range 8).map fun i => b.getLsbD (7 - i)

/-- Bytes of a list of bits, most significant bit first; a last byte is filled with zeros. -/
def packMsb : Nat → List Bool → List Byte
  | 0, _ => []
  | n + 1, l =>
    if l.isEmpty then [] else
    BitVec.ofNat 8 ((List.range 8).foldl (fun v i => 2 * v + b2n (l.getD i false)) 0) :: packMsb n (l.drop 8)

/-- The scrambling sequence of x^7 + x^4 + 1 from a register (R294 step 1). -/
def scramble : Nat → List Bool → List Bool
  | _, [] => []
  | r, b :: bs =>
    let o := (bit r 6) != (bit r 3)
    ((b != o)) :: scramble ((2 * r + b2n o) % 128) bs

/-- Multiplication in GF(256) modulo x^8 + x^4 + x^3 + x^2 + 1. -/
def gfMulAux : Nat → Nat → Nat → Nat → Nat
  | 0, _, _, acc => acc
  | n + 1, a, b, acc =>
    let acc := if b % 2 = 1 then acc ^^^ a else acc
    let a := if 128 ≤ a then (2 * a) ^^^ 0x11D else 2 * a
    gfMulAux n a (b / 2) acc
def gfMul (a b : Nat) : Nat := gfMulAux 8 a b 0

/-- α^i, α the root 2. -/
def gfPow : Nat → Nat
  | 0 => 1
  | n + 1 => gfMul 2 (gfPow n)

/-- The generator's coefficients, highest first, without the leading 1 when `n` is 16 (R294 step 2). -/
def rsGen : Nat → List Nat
  | 0 => [1]
  | n + 1 =>
    let g := rsGen n
    List.zipWith (fun a b => a ^^^ b) (g ++ [0]) (0 :: g.map (gfMul (gfPow (n + 1))))

/-- The 16 parity bytes of a piece. -/
def rsParity (d : List Byte) : List Byte :=
  let g := (rsGen 16).tail
  (d.foldl (fun r b =>
    let f := b.toNat ^^^ r.headD 0
    List.zipWith (fun a c => a ^^^ gfMul f c) (r.tail ++ [0]) g) (List.replicate 16 0)).map (BitVec.ofNat 8 ·)

/-- The pieces of 239 bytes, each followed by its parity (R294 step 2). -/
def rsPieces : Nat → List Byte → List Byte
  | 0, _ => []
  | n + 1, bs => if bs.isEmpty then [] else
    let p := bs.take 239
    p ++ rsParity p ++ rsPieces n (bs.drop 239)

/-- The parity of a number's bits. -/
def parity7 (v : Nat) : Bool := ((List.range 7).filter fun i => bit v i).length % 2 = 1

/-- The convolutional encoder of generators 133 and 171 octal: the two outputs of each input bit (R294 step 3). -/
def convolve : Nat → List Bool → List (Bool × Bool)
  | _, [] => []
  | st, b :: bs =>
    let r := 64 * b2n b + st
    (parity7 (r &&& 0o133), parity7 (r &&& 0o171)) :: convolve (r / 2) bs

/-- Puncturing at RATE 0, 1 or 2 (R294 step 4). -/
def puncture (rate : Nat) : List (Bool × Bool) → List Bool
  | [] => []
  | [x] => [x.1, x.2]
  | [x, y] => if rate = 0 then [x.1, x.2, y.1, y.2] else [x.1, x.2, y.1]
  | x :: y :: z :: l =>
    if rate = 0 then x.1 :: x.2 :: puncture rate (y :: z :: l)
    else if rate = 1 then x.1 :: x.2 :: y.1 :: puncture rate (z :: l)
    else x.1 :: x.2 :: y.1 :: z.2 :: puncture rate l

/-- The coded bits of a PSDU before padding (R294 steps 1 to 5); `robust` is TMID 0. -/
def plCoded (psdu : List Byte) (rate : Nat) (robust : Bool) : List Bool :=
  let scr := packMsb psdu.length (scramble 127 (bitsMsb psdu))
  let rs := rsPieces (psdu.length + 1) scr
  let c := puncture rate (convolve 0 (bitsMsb rs ++ List.replicate 6 false))
  if robust then c.flatMap (List.replicate 4) else c

/-- The number of coded bits of a PSDU of `n` bytes (R294). -/
def plCodedLen (n rate : Nat) (robust : Bool) : Nat :=
  let i := 8 * (n + 16 * ((n + 238) / 239)) + 6
  let c := if rate = 0 then 2 * i
    else if rate = 1 then i / 2 * 3 + i % 2 * 2
    else i / 3 * 4 + (if i % 3 = 0 then 0 else if i % 3 = 1 then 2 else 3)
  if robust then 4 * c else c

/-- NSYM for a PSDU of `n` bytes (R294 step 6). -/
def plNsym (n rate : Nat) (robust : Bool) (bps : Nat) : Nat :=
  if bps = 0 then 1024 else (plCodedLen n rate robust + bps - 1) / bps

/-- The smallest number from `k` on that is coprime with `d`. -/
def coprimeFrom (d : Nat) : Nat → Nat → Nat
  | 0, k => k
  | n + 1, k => if Nat.gcd k d = 1 then k else coprimeFrom d n (k + 1)

/-- P_D of the mangle (R295). -/
def manglerP (d : Nat) : Nat := if d ≤ 1 then 1 else coprimeFrom d d (d * 1000 / 1618)

/-- The stream bit that symbol σ of a block of `d` symbols carries in slot `s` (the inverse of R295). -/
def mangleBit (d bps sigma s : Nat) : Nat :=
  let r := ((List.range d).find? fun r => r * manglerP d % d = sigma).getD 0
  let q := (s + bps - 17 * sigma % bps) % bps
  q * d + r

/-- The symbols of one block: the bits of each symbol's slots. -/
def mangleBlock (d bps : Nat) (stream : Array Bool) : List (List Bool) :=
  (List.range d).map fun g => (List.range bps).map fun s => stream.getD (mangleBit d bps g s) false

/-- The blocks of 256 symbols (R295). -/
def mangle (bps : Nat) : Nat → Nat → List Bool → List (List Bool)
  | 0, _, _ => []
  | fuel + 1, nsym, st =>
    if nsym = 0 then [] else
    let d := min nsym 256
    mangleBlock d bps (st.take (d * bps)).toArray ++ mangle bps fuel (nsym - d) (st.drop (d * bps))

/-- The payload symbols of a PSDU (R294). -/
def plSymbols (psdu : List Byte) (rate : Nat) (robust : Bool) (bps : Nat) : List (List Bool) :=
  let c := plCoded psdu rate robust
  let n := plNsym psdu.length rate robust bps
  mangle bps 8 n (c ++ List.replicate (n * bps - c.length) false)

/-- The FCH's symbols over `ta` active tones: 204 coded bits, repeated (R291). -/
def fchSymbols (fch : List Byte) (ta : Nat) : List (List Bool) :=
  let c := ((convolve 0 (bitsMsb fch ++ List.replicate 6 false)).flatMap fun p => [p.1, p.2]).toArray
  (List.range ((816 + ta - 1) / ta)).map fun i => (List.range ta).map fun j => c.getD ((i * ta + j) % 204) false

/-- HCS of the first ten bytes of an FCH (R290). -/
def fchHcs (b : List Byte) : Nat := crcF 16 0x1021 0xFFFF 0 (sub b 0 10)

/-- FCS of a PSDU (the table after R292). -/
def plFcs (b : List Byte) : Nat := crc32 b

end Sys2Proof.Machine
end

