-- ==== Sys2Proof/Machine/PlWave.lean ====
section
/-!
DEFINITION. SPL symbols on the line: constellation points, the preamble, the samples of a frame, and the receiver's estimates of channel
and noise (R285, R287 to R289, R298, R300).
-/

namespace Sys2Proof.Machine

/-! ## Points and samples (R285, R287 to R289) -/

/-- The point (i + jq) / √norm · e^(jπ·rot/232) on a tone. -/
structure PlPoint where
  tone : Nat
  i : Int
  q : Int
  norm : Nat
  rot : Nat
  deriving DecidableEq, Repr

/-- φ of a tone, in units of π/232 (R288). -/
def plPhi (n : Nat) : Nat := (n - 19) ^ 2 % 464

/-- The tones of a group (R285). -/
def plTones (g : Nat) : List Nat := (List.range 4).map (19 + 4 * g + ·)

/-- A tone of the preamble: P has unit amplitude and phase φ; M is −P (R288). -/
def plPilot (m : Bool) (n : Nat) : PlPoint := ⟨n, 1, 0, 1, (plPhi n + (if m then 232 else 0)) % 464⟩

def plSign (b : Bool) : Int := if b then -1 else 1

/-- k of 8-PSK for its three bits (R289). -/
def plPsk8 (b : List Bool) : Nat :=
  ([0b000, 0b001, 0b011, 0b010, 0b110, 0b111, 0b101, 0b100].findIdx? (· = 4 * b2n (b.getD 0 false) + 2 * b2n (b.getD 1 false)
    + b2n (b.getD 2 false))).getD 0

/-- A level of 16-QAM for its two bits (R289). -/
def plQam (a b : Bool) : Int := if a then (if b then 1 else 3) else (if b then -1 else -3)

/-- The point of a tone that takes the bits `b` (R289), before it is turned by φ. -/
def plMapTone (n : Nat) (b : List Bool) : PlPoint :=
  let x := fun i => b.getD i false
  match b.length with
  | 1 => ⟨n, plSign (x 0), 0, 1, 0⟩
  | 2 => ⟨n, plSign (x 0), plSign (x 1), 2, 0⟩
  | 3 => ⟨n, 1, 0, 1, 58 * plPsk8 b⟩
  | _ => ⟨n, plQam (x 0) (x 1), plQam (x 2) (x 3), 10, 0⟩

/-- A point turned by φ of its tone (R289). -/
def PlPoint.turned (p : PlPoint) : PlPoint := { p with rot := (p.rot + plPhi p.tone) % 464 }

/-- The points of a symbol: tones in ascending order, a tone of m bits taking m consecutive slots (R294 step 8). -/
def plPoints : List (Nat × Nat) → List Bool → List PlPoint
  | [], _ => []
  | (n, m) :: l, bs => if m = 0 then plPoints l bs else (plMapTone n (bs.take m)).turned :: plPoints l (bs.drop m)

/-- The 1,024 samples of the transform output. -/
def plOutput (pts : List PlPoint) : List Int :=
  (List.range 1024).map (Config.plTransform (pts.map fun p => (p.tone, p.i, p.q, p.norm, p.rot)))

/-- A data symbol: the last 32 samples of the transform output, then its 1,024 samples (R287). -/
def plDataSymbol (pts : List PlPoint) : List Int := (plOutput pts).drop 992 ++ plOutput pts

/-- The preamble on the tones given: eight P symbols, then two M symbols, without prefix (R287, R288). -/
def plPreamble (tones : List Nat) : List Int :=
  (List.replicate 8 (plOutput (tones.map (plPilot false))) ++ List.replicate 2 (plOutput (tones.map (plPilot true)))).flatten

/-! ## Channel and noise (R298) -/

/-- The value of a tone in a list of symbol values that starts at tone 19. -/
def plVal (l : List (Int × Int)) (n : Nat) : Int × Int := l.getD (n - 19) (0, 0)

/-- Eight times H of a tone: the sum over the P symbols (R298). -/
def plSum8 (p : PlPathRx) (n : Nat) : Int × Int :=
  (List.range 8).foldl (fun a k => (a.1 + (plVal (p.pre.getD k []) n).1, a.2 + (plVal (p.pre.getD k []) n).2)) (0, 0)

def sq2 (z : Int × Int) : Int := z.1 * z.1 + z.2 * z.2

/-- 56 N of a tone: eight times the sum of |Y|² less |8H|² (R298). -/
def plNoise56 (p : PlPathRx) (n : Nat) : Int :=
  8 * ((List.range 8).map fun k => sq2 (plVal (p.pre.getD k []) n)).sum - sq2 (plSum8 p n)

/-- 1/N of a tone. -/
def plInvN (p : PlPathRx) (n : Nat) : Rat :=
  if plNoise56 p n = 0 then (Config.plNoNoise (sq2 (plSum8 p n)) : Rat) else 56 / (plNoise56 p n : Rat)

/-- |H|²/N of a tone. -/
def plSnr (p : PlPathRx) (n : Nat) : Rat := (sq2 (plSum8 p n) : Rat) / 64 * plInvN p n

/-- SNRc of a tone over a set of paths (R298). -/
def plSnrc (q : List PlPathRx) (n : Nat) : Rat := (q.map fun p => plSnr p n).sum

/-- The folded value of a tone in payload symbol `j` over the paths not erased there, with its weight SNRc; all zero when there is none
(R298). -/
def plFolded (q : List PlPathRx) (j n : Nat) : Rat × Rat × Rat :=
  let w := plSnrc q n
  let add := fun (a : Rat × Rat) (p : PlPathRx) =>
    let h := plSum8 p n
    let y := plVal (p.pay.getD j []) n
    (a.1 + ((h.1 * y.1 + h.2 * y.2 : Int) : Rat) / 8 * plInvN p n, a.2 + ((h.1 * y.2 - h.2 * y.1 : Int) : Rat) / 8 * plInvN p n)
  let z := q.foldl add (0, 0)
  if w = 0 then (0, 0, 0) else (z.1 / w, z.2 / w, w)

/-! ## Erasures (R300) -/

/-- A list put in ascending order. -/
def sortNat : List Nat → List Nat
  | [] => []
  | x :: l => let s := sortNat l; s.filter (· < x) ++ x :: s.filter (x ≤ ·)

/-- Twice the median of the energies of ten preamble symbols. -/
def plMedian2 (p : PlPathRx) : Nat := (sortNat p.preE).getD 4 0 + (sortNat p.preE).getD 5 0

/-- A payload symbol is erased on a path: its energy exceeds F × 10^(thr/10), F the median scaled from 1,024 to 1,056 samples, or it
holds enough clipped samples (R300). -/
def plErasedOn (p : PlPathRx) (thr clipn j : Nat) : Bool :=
  let (e, clip) := p.syms.getD j (0, 0)
  decide ((plMedian2 p * 1056) ^ 10 * 10 ^ thr < (2 * 1024 * e) ^ 10) || decide (clipn ≤ clip)

end Sys2Proof.Machine
end

