-- ==== Sys2Proof/Machine/PlOps.lean ====
section
/-!
DEFINITION. The powerline ports as shared operations: tone maps and link metrics, paths, frames, attempts and driver requests
(R281 to R326).
-/

namespace Sys2Proof.Machine

def plPortReset : Nat → PlPort := fun _ => {}
def plTriReset : Nat → PlTriple := fun _ => {}
def State.setPl (s : State) (p : PlSt) : State := { s with pl := p }
def State.plPort (s : State) (p : Nat) : PlPort := s.pl.ports.get plPortReset p
def State.setPlPort (s : State) (p : Nat) (v : PlPort) : State := s.setPl { s.pl with ports := s.pl.ports.put plPortReset p v }
def State.plTri (s : State) (t : Nat) : PlTriple := s.pl.triples.get plTriReset t
def State.setPlTri (s : State) (t : Nat) (v : PlTriple) : State := s.setPl { s.pl with triples := s.pl.triples.put plTriReset t v }

/-- A number of µs in raw counts. -/
def usRaw (n : Nat) : Nat := 1000 * n

/-- The chip is in Quiet. -/
def State.quiet (s : State) : Bool := s.fget fMODESTAT_LPS = 1

/-- The port is enabled, its triple is not fenced and the chip is not in Quiet. -/
def State.plOn (s : State) (p : Nat) : Bool := s.flag (fPLCFG_EN p) && !s.fenced (20 + p / 3) && !s.quiet

/-- The count of PLC cycles (R321). -/
def State.plCycles (s : State) : Nat := s.time.raw * 32 / 1000

/-- The port transmits now. -/
def State.plTxBusy (s : State) (p : Nat) : Bool :=
  match (s.plPort p).tx with
  | some x => s.time.raw < x.txEnd
  | none => false

/-- Modes of a triple (R282). -/
def plSpl : Nat := 0
def plDual : Nat := 3
def State.plMode (s : State) (t : Nat) : Nat :=
  match (s.plTri t).kept with
  | some (m, until_) => if s.time.raw < until_ then m else bits (s.fget fPLSMODE_MODE) (2 * t) 2
  | none => bits (s.fget fPLSMODE_MODE) (2 * t) 2

/-- When the frame a triple is receiving or sending ends. -/
def State.plBusyEnd (s : State) (t : Nat) : Nat :=
  [3 * t, 3 * t + 1, 3 * t + 2].foldl (fun m p => match (s.plPort p).tx with
    | some x => max m x.txEnd
    | none => m) (s.plTri t).rxTo

/-- A write of PLSMODE: a triple in the middle of a frame keeps its mode until the frame's end (R282). -/
def State.plModeWritten (s : State) (old : Nat → Nat) : State :=
  (List.range 4).foldl (fun u t =>
    if u.time.raw < u.plBusyEnd t then u.setPlTri t { u.plTri t with kept := some (old t, u.plBusyEnd t) }
    else u.setPlTri t { u.plTri t with kept := none }) s

/-! ## Tone groups and tone maps (R286, R312 to R317, R443) -/

/-- The tone groups a triple uses (R286). -/
def State.plGroups (s : State) (t : Nat) : List Nat :=
  (List.range 58).filter fun g => bit (s.fget fPLSTMASK_GROUPS) g && !(s.plMode t = plDual && g < 8)

/-- Active tones, and symbols of the FCH (R286, R291). -/
def State.plTa (s : State) (t : Nat) : Nat := 4 * (s.plGroups t).length
def State.plNf (s : State) (t : Nat) : Nat := if s.plTa t = 0 then 0 else (816 + s.plTa t - 1) / s.plTa t

/-- A tone map. -/
structure ToneMap where
  tmid : Nat
  rate : Nat
  groups : List Nat
  deriving DecidableEq, Repr

/-- The robust map (R294). -/
def robustMap : ToneMap := ⟨0, 0, List.replicate 58 1⟩

/-- A tone map in its 24 bytes: TMID, RATE, then 58 groups of 3 bits, group 0 in the top bits (R443). -/
def ToneMap.bytes (m : ToneMap) : List Byte :=
  BitVec.ofNat 8 m.tmid :: BitVec.ofNat 8 m.rate ::
    beBytes 22 ((m.groups.take 58).foldl (fun v g => 8 * v + g % 8) 0 * 4)
def ToneMap.parse (b : List Byte) : ToneMap :=
  let v := be b 2 22
  ⟨be b 0 1, be b 1 1, (List.range 58).map fun g => bits v (173 - 3 * g) 3⟩

/-- A map read from a neighbour entry. -/
def State.nbMap (s : State) (i o : Nat) : ToneMap := ToneMap.parse (s.bytes (nbtAddr i + o) 24)

/-- Bps of a map (R294 step 6). -/
def State.plBps (s : State) (t : Nat) (m : ToneMap) : Nat := 4 * ((s.plGroups t).map fun g => m.groups.getD g 0).sum

/-- RATE as a fraction. -/
def rateNum (r : Nat) : Nat := if r = 0 then 1 else if r = 1 then 2 else 3
def rateDen (r : Nat) : Nat := if r = 0 then 2 else if r = 1 then 3 else 4

/-- The map the chip sends with to a neighbour: the latest valid one, else the robust map (R314). -/
def State.txMap (s : State) (i : Option Nat) : ToneMap :=
  match i with
  | none => robustMap
  | some i =>
    let m := s.nbMap i 24
    let life := secRaw (4 * s.nb i 48 1)
    if m.tmid = 0 ∨ s.pl.mapAt.get (fun _ => 0) i + life ≤ s.time.raw + 1 then robustMap else m

/-- LM for a map and a number of successes (R317). -/
def State.linkMetric (s : State) (t : Nat) (m : ToneMap) (succ : Nat) : Nat :=
  let beff := s.plBps t m * rateNum m.rate * succ / (16 * rateDen m.rate)
  min 65535 ((59392 + max 1 beff - 1) / max 1 beff)

/-- Successes among the last 16 attempts of a link. -/
def State.nbSucc (s : State) (i : Nat) : Nat := ((List.range 16).filter fun b => bit (s.nb i 20 2) b).length

/-- LM_TX and LM_RX of a neighbour brought up to date (R317). -/
def State.lmUpdate (s : State) (i : Nat) : State :=
  let t := s.nbMedium i
  let rx := s.nbMap i 52
  let s1 := s.nbPut i 16 2 (s.linkMetric t (s.txMap (some i)) (s.nbSucc i))
  s1.nbPut i 18 2 (s1.linkMetric t (if rx.tmid = 0 then robustMap else rx) 16)

/-- An attempt to a neighbour noted: bit 0 of SUCC is the latest (R317, R443). -/
def State.nbAttempt (s : State) (i : Option Nat) (ok : Bool) : State :=
  match i with
  | some i => (s.nbPut i 20 2 ((s.nb i 20 2 * 2 + b2n ok) % 2 ^ 16)).lmUpdate i
  | none => s

/-- A map dropped: the link returns to TMID 0. -/
def State.dropTxMap (s : State) (i : Nat) : State := ((s.write (nbtAddr i + 24) (List.replicate 25 0))).lmUpdate i

/-! ## Paths (R318, R319, R447) -/

/-- A repeater candidate in use: entry, its EUI and the cost of the path through it. -/
structure PlCand where
  idx : Nat
  gen : Nat
  eui : Nat
  cost : Nat
  deriving DecidableEq, Repr

/-- The candidates of a destination that are valid (R318, R447). -/
def State.plCands (s : State) (i : Nat) : List PlCand :=
  if s.fget fPLSMESH_MAXHOPS ≤ 1 then [] else
  (List.range 4).filterMap fun c =>
    let idx := s.nb i (100 + 5 * c) 2
    let gen := s.nb i (102 + 5 * c) 1
    let cost := s.nb i (103 + 5 * c) 2
    if cost = 0 ∨ !s.nbValid idx ∨ s.nbGen idx ≠ gen then none
    else some ⟨idx, gen, s.nbEui idx, cost + s.fget fPLSMESH_HOPCOST⟩

/-- The better of two candidates: lower cost, then lower EUI-64. -/
def PlCand.better (a b : PlCand) : Bool := a.cost < b.cost || (a.cost = b.cost && a.eui < b.eui)

/-- The path to a destination, and the state with PATH as it now stands (R319). -/
def State.plPath (s : State) (i : Nat) : State × Option PlCand :=
  let cands := s.plCands i
  let direct := s.nb i 16 2
  let cur := if s.nb i 120 2 = 0xFFFF then none
    else cands.find? fun c => c.idx = s.nb i 120 2 && c.gen = s.nb i 122 1
  let best := cands.foldl (fun b c => match b with
    | none => if c.cost < direct then some c else none
    | some x => if c.better x then some c else b) none
  let costOf : Option PlCand → Nat := fun p => match p with
    | none => direct
    | some c => c.cost
  let pick := if best = cur then cur else if 8 * costOf best < 7 * costOf cur then best else cur
  let s1 := match pick with
    | none => (s.nbPut i 120 2 0xFFFF).nbPut i 122 1 0
    | some c => (s.nbPut i 120 2 c.idx).nbPut i 122 1 c.gen
  (s1, pick)

/-- A candidate learned from a MESH frame: a repeater heard again takes its place anew; else a free place, else the place of the
costliest one when the new cost is lower (R318). -/
def State.plLearn (s : State) (i rep pcost : Nat) : State :=
  let cost := min 65535 (pcost + s.nb rep 18 2)
  let place := fun c => nbtAddr i + 100 + 5 * c
  let write := fun c => ((s.poke (place c) 2 rep).poke (place c + 2) 1 (s.nbGen rep)).poke (place c + 3) 2 cost
  let used := fun c => s.peek (place c + 3) 2 ≠ 0 && s.nbValid (s.peek (place c) 2) && s.nbGen (s.peek (place c) 2) = s.peek (place c + 2) 1
  match (List.range 4).find? fun c => used c && s.peek (place c) 2 = rep with
  | some c => write c
  | none => match (List.range 4).find? fun c => !used c with
    | some c => write c
    | none =>
      let worst := (List.range 4).foldl (fun w c => if s.peek (place w + 3) 2 < s.peek (place c + 3) 2 then c else w) 0
      if cost < s.peek (place worst + 3) 2 then write worst else s

/-! ## Frames -/

/-- The neighbour entry of a link-layer address on a triple. -/
def State.plNb (s : State) (t eui : Nat) : Option Nat := if eui = euiAll then none else s.nbFind eui t

/-- The next hop of a frame. -/
def PlFrame.hop (f : PlFrame) : Nat := f.via.getD f.dst

/-- The map a frame is sent with: TMID 0 for broadcasts and after a NACK for an unknown TMID (R294, R309). -/
def State.plMapFor (s : State) (t : Nat) (f : PlFrame) : ToneMap := if f.robust then robustMap else s.txMap (s.plNb t f.hop)

/-- Bytes of the PSDU (the table after R292). -/
def PlFrame.len (f : PlFrame) : Nat := (if f.via.isSome then 38 else 20) + f.body.length + 4

/-- The PSDU, with a MESH header on a path through a repeater (R320). -/
def State.plPsdu (s : State) (f : PlFrame) : List Byte :=
  let self := s.fget fKEYID_EUI
  let mesh := f.via.isSome
  let h := [BitVec.ofNat 8 (16 * f.mtype + 8 * b2n mesh),
      BitVec.ofNat 8 (if mesh then 16 * (s.fget fPLSMESH_MAXHOPS - 1) else 0)] ++ beBytes 2 f.seq ++ beBytes 8 f.hop ++ beBytes 8 self ++
    (if mesh then beBytes 8 self ++ beBytes 8 f.dst ++ beBytes 2 0 else [])
  let b := h ++ f.body
  b ++ beBytes 4 (plFcs b)

/-- An FCH from its fields (R290). -/
def mkFch (typ pri ackReq tmReq tmid nsym rate dur cell b8 b9 : Nat) : List Byte :=
  let b := [BitVec.ofNat 8 (32 * typ + 4 * pri + 2 * ackReq + tmReq), BitVec.ofNat 8 tmid] ++ beBytes 2 (nsym + 1024 * rate) ++
    beBytes 2 dur ++ beBytes 2 cell ++ [BitVec.ofNat 8 b8, BitVec.ofNat 8 b9]
  b ++ beBytes 2 (fchHcs b)

/-- Preamble and FCH, and the ACK wait, in µs (R302). -/
def State.plAckUs (s : State) (t : Nat) : Nat := 5120 + 528 * s.plNf t
def State.plWaitUs (s : State) (t : Nat) : Nat := 1056 + s.plAckUs t + 1056

/-- Driver `k` as its port holds it. -/
def State.plDriver (s : State) (k : Nat) : Option (Nat × Nat) :=
  (List.range 12).findSome? fun p => match (s.plPort p).gnt with
    | some (j, at_) => if j = k then some (p, at_) else none
    | none => none

/-- The ports wired to driver `k`: a write of PLSLDMAPk while it is granted waits for the grant's end (R325). -/
def State.plWires (s : State) (k : Nat) : Nat :=
  match s.plDriver k with
  | some _ => s.pl.map.get (fun _ => 0) k
  | none => s.fget (fPLSLDMAP_PORTS k)

/-- A driver is wired to the port (R325). -/
def State.plWired (s : State) (p : Nat) : Bool := (List.range 4).any fun k => bit (s.plWires k) p

/-- Ports that no driver is wired to drop their frames (R325). -/
def State.plDropUnwired (s : State) : State :=
  (List.range 12).foldl (fun u p =>
    let P := u.plPort p
    if u.plWired p || P.queue.isEmpty then u
    else (u.setPlPort p { P with queue := [] }).bump (fPLNODRV_COUNT p) P.queue.length) s

/-- A frame is refused by a port's queue: its PSDU or its symbols are too many (R293, PLTXLIM). -/
def State.plRefuses (s : State) (p : Nat) (f : PlFrame) : Bool :=
  let t := p / 3
  let m := s.plMapFor t f
  decide (1280 < (if f.g3 then f.body.length else f.len)) ||
    (!f.g3 && decide (s.fget (fPLTXLIM_MAXSYM p) < plNsym f.len m.rate (m.tmid = 0) (s.plBps t m)))

/-- A frame that is not refused, put at the end of a port's queue, or dropped and counted when no driver is wired (R325). -/
def State.plPut (s : State) (p : Nat) (f : PlFrame) : State :=
  if !s.plWired p then s.bump (fPLNODRV_COUNT p) 1
  else s.setPlPort p { s.plPort p with queue := (s.plPort p).queue ++ [f] }

/-- A frame queued on a port. -/
def State.plEnqueue (s : State) (p : Nat) (f : PlFrame) : State :=
  if s.plRefuses p f then s.say .badArgument else (s.plPut p f).say .done

/-- A frame for a link-layer destination queued on a port; a broadcast goes to every enabled port of the triple, in ascending order
(R311, R319). A refused frame takes no SEQ and moves no path (R145). -/
def State.plSend (s : State) (p dst pri mtype : Nat) (body : List Byte) (notBefore : Nat) (fid : Option Nat)
    (ack : Bool) (ackBy : Option Nat) : State :=
  let t := p / 3
  let seq := s.pl.seq
  let s1 := s.setPl { s.pl with seq := (seq + 1) % 2 ^ 16 }
  let f : PlFrame := {
    dst := dst, pri := pri, mtype := mtype, body := body, seq := seq, ackReq := dst ≠ euiAll,
    notBefore := notBefore, fid := fid, ack := ack, ackBy := ackBy }
  if dst = euiAll then
    let on := [3 * t, 3 * t + 1, 3 * t + 2].filter fun q => s.flag (fPLCFG_EN q)
    let g := { f with bid := some s1.pl.bid }
    if on.any fun q => s.plRefuses q g then s.say .badArgument
    else (on.foldl (fun u q => u.plPut q g) (s1.setPl { s1.pl with bid := s1.pl.bid + 1 })).say .done
  else match s1.plNb t dst with
    | none => if s.plRefuses p f then s.say .badArgument else (s1.plPut p f).say .done
    | some i => match s1.plPath i with
      | (s2, c) =>
        let g := { f with via := c.map (·.eui) }
        if s2.plRefuses p g then s.say .badArgument else (s2.plPut p g).say .done

/-! ## Attempts (R309, R323) -/

/-- The port's request dropped and its driver freed. -/
def State.plRelease (s : State) (p : Nat) : State :=
  let P := s.plPort p
  s.setPlPort p { P with req := none, gnt := none, yielded := false, tx := none }

/-- The window exponent of a port (R306). -/
def State.plExp (s : State) (p : Nat) : Nat := min (s.fget (fPLACC_CWMIN p) + (s.plPort p).e) (s.fget (fPLACC_CWMAX p))

/-- The head of a port's queue replaced. -/
def State.plSetHead (s : State) (p : Nat) (f : PlFrame) : State :=
  let P := s.plPort p
  s.setPlPort p { P with queue := f :: P.queue.tail }

/-- The head of a port's queue removed. -/
def State.plPop (s : State) (p : Nat) : State :=
  let P := s.plPort p
  s.setPlPort p { P with queue := P.queue.tail }

/-- The rise of the window exponent set (R306). -/
def State.plSetE (s : State) (p e : Nat) : State := s.setPlPort p { s.plPort p with e := e }

/-- A failed attempt of the head: counted for the link, retried or dropped (R306, R309, R317). -/
def State.plFail (s : State) (p : Nat) : State :=
  match (s.plPort p).queue with
  | [] => s
  | f :: _ =>
    let s0 := s.plSetE p (min ((s.plPort p).e + 1) 8)
    let s1 := if f.ackReq then s0.nbAttempt (s.plNb (p / 3) f.hop) false else s0
    if !f.ackReq || decide (s.fget (fPLACC_MAXRETRY p) ≤ f.tries) then (s1.plPop p).bump (fPLTXFAIL_COUNT p) 1
    else s1.plSetHead p { f with left := none, tries := f.tries + 1 }

/-- A successful attempt of the head (R306, R309). -/
def State.plSucceed (s : State) (p : Nat) : State :=
  match (s.plPort p).queue with
  | [] => s
  | f :: _ => (((s.nbAttempt (s.plNb (p / 3) f.hop) true).plPop p).plSetE p 0).count (fPLTXOK_COUNT p) 1

/-- A grant ends: the request is dropped, and a PLSLDMAP write that waited for it takes effect (R323, R325). -/
def State.plGrantEnd (s : State) (p : Nat) : State := (s.plRelease p).plDropUnwired

/-- A transmission cut short: the driver's enable falls and the attempt counts as failed (R284). -/
def State.plCut (s : State) (p : Nat) : State :=
  match (s.plPort p).tx with
  | some x => if s.plTxBusy p then (if x.isAck then s else s.plFail p).plGrantEnd p else s
  | none => s

/-- Every powerline transmission cut short. -/
def State.plCutAll (s : State) : State := (List.range 12).foldl (fun u p => u.plCut p) s

/-- The ports of a triple (R281). -/
def plTriPorts (t : Nat) : List Nat := [3 * t, 3 * t + 1, 3 * t + 2]

/-- A triple still owes an ACK, or is sending it (R324). -/
def State.plOwes (s : State) (t : Nat) : Bool :=
  (s.plTri t).owed.isSome || (plTriPorts t).any fun p => match (s.plPort p).tx with
    | some x => x.isAck && decide (s.time.raw < x.txEnd)
    | none => false

/-- Ports of a triple that hold a grant and have not started yield their drivers (R324, R325); an earlier yield that is over is
forgotten. -/
def State.plYield (s : State) (t : Nat) : State :=
  ((plTriPorts t).foldl (fun u p =>
    let P := u.plPort p
    let now := P.gnt.isSome && P.tx.isNone
    u.setPlPort p { P with gnt := if now then none else P.gnt, yielded := now || (P.yielded && s.plOwes t) }) s).plDropUnwired

/-- The triple owes no ACK any more: ports that yielded are eligible again (R324). -/
def State.plOweEnd (s : State) (t : Nat) : State :=
  (plTriPorts t).foldl (fun u p => u.setPlPort p { u.plPort p with yielded := false }) (s.setPlTri t { s.plTri t with owed := none })

/-- An owed ACK could not start at RIFS: it is lost and counted, and the ports that did not yield drop their requests (R323, R328). -/
def State.plAckLost (s : State) (t : Nat) (o : PlOwe) : State :=
  (((plTriPorts t).foldl (fun u p =>
    let P := u.plPort p
    if P.req.isSome && P.tx.isNone && !P.yielded then u.plRelease p else u) s).plOweEnd t).plDropUnwired.bump (fPLACKLOST_COUNT o.port) 1

/-- PLSTAT and PLSLDSTAT as they read. -/
def State.plStat (s : State) (p : Nat) : Nat :=
  let P := s.plPort p
  b2n (s.plTxBusy p) + 2 * b2n P.req.isSome + 4 * b2n P.gnt.isSome + 16 * ((P.gnt.map Prod.fst).getD 0) +
    64 * b2n (P.yielded && s.plOwes (p / 3))
def State.plLdStat (s : State) (k : Nat) : Nat :=
  match s.plDriver k with
  | some (p, at_) => 1 + 16 * p + 256 * min ((s.time.raw - at_) / 1000) (2 ^ 24 - 1)
  | none => 0

end Sys2Proof.Machine
end

