-- ==== Sys2Proof/Machine/Powerline.lean ====
section
/-!
DEFINITION. The powerline commands: reception with its fold, erasures and tone maps, the transmit queues, the line drivers, medium
access, acknowledgement and retry (R281 to R331).
-/

namespace Sys2Proof.Machine

/-! ## Decibels -/

/-- `10^(k/40) ≤ a / b`. -/
def dbGe (a b : Nat) (k : Int) : Bool :=
  if 0 ≤ k then decide (10 ^ k.toNat * b ^ 40 ≤ a ^ 40) else decide (b ^ 40 ≤ a ^ 40 * 10 ^ (-k).toNat)

def dbDescent (a b : Nat) : Nat → Int → Int
  | 0, k => k
  | n + 1, k => dbDescent a b n (if dbGe a b (k + (2 ^ n : Nat)) then k + (2 ^ n : Nat) else k)

/-- A ratio in 0.25 dB, rounded down, from −128 dB up (notes/assumptions/22.md). -/
def dbQ (a b : Nat) : Int := dbDescent a b 10 (-512)
def dbRat (x : Rat) : Int := dbQ x.num.toNat x.den

/-! ## Building a tone map (R313) -/

/-- Threshold of a modulation at a RATE, in 0.25 dB (R313). -/
def plThr (m rate : Nat) : Int :=
  match m with
  | 1 => if rate = 0 then 12 else if rate = 1 then 18 else 22
  | 2 => if rate = 0 then 24 else if rate = 1 then 30 else 34
  | 3 => if rate = 0 then 44 else if rate = 1 then 50 else 54
  | _ => if rate = 0 then 56 else if rate = 1 then 62 else 66

/-- The densest modulation for a group's SNR less the target margin; 0 is off. -/
def plDensest (rate : Nat) (snr : Int) : Nat :=
  ((List.range 4).map (4 - ·)).find? (fun m => plThr m rate ≤ snr) |>.getD 0

/-- The map for SNRs by group, under a TMID (R313). -/
def State.plBuild (s : State) (t tmid : Nat) (snr : Nat → Int) : ToneMap :=
  let tgt : Int := s.fget fPLSTM_MARGIN_TGT
  let at_ := fun rate => ToneMap.mk tmid rate
    ((List.range 58).map fun g => if (s.plGroups t).contains g then plDensest rate (snr g - tgt) else 0)
  let score := fun (m : ToneMap) => s.plBps t m * rateNum m.rate * (12 / rateDen m.rate)
  let best := if score (at_ 0) < score (at_ 1) then at_ 1 else at_ 0
  if score best < score (at_ 2) then at_ 2 else best

/-- The margin of a map: the smallest SNR above its threshold over the groups in use (R313). -/
def State.plMargin (s : State) (t : Nat) (m : ToneMap) (snr : Nat → Int) : Option Int :=
  (s.plGroups t).foldl (fun b g =>
    let c := m.groups.getD g 0
    if c = 0 then b else
    let x := snr g - plThr c m.rate
    match b with
    | none => some x
    | some y => some (min x y)) none

/-- A margin as its signed byte; where no group is in use the spec gives none (notes/assumptions/2.md). -/
def State.marginByte (s : State) (m : Option Int) : State × Nat :=
  match m with
  | some x => (s, cut 8 (clampS 8 x))
  | none => (s.drawn 1, cut 8 (Config.freeInt s.freeCtr))

/-- A TMRESP for a neighbour (R312 to R315): the map built and kept as the latest one issued, and queued at PW2. -/
def State.plTmresp (s : State) (t i src : Nat) (snr : Nat → Int) : State :=
  let id := s.nb i 49 1
  let m := s.plBuild t id snr
  let (s1, mb) := s.marginByte (s.plMargin t m snr)
  let (s2, gain) := (s1.drawn 1, cut 8 (Config.freeInt s1.freeCtr))
  let s3 := s2.write (nbtAddr i + 76) (s2.bytes (nbtAddr i + 52) 24)
  let s4 := ((s3.write (nbtAddr i + 52) m.bytes).nbPut i 49 1 (if 255 ≤ id then 1 else id + 1)).lmUpdate i
  let groups := (List.range 29).map fun k => BitVec.ofNat 8 (16 * m.groups.getD (2 * k) 0 + m.groups.getD (2 * k + 1) 0)
  let valid := (2 * s.fget fPLSTM_PERIOD + 3) / 4
  let body := [BitVec.ofNat 8 id, BitVec.ofNat 8 m.rate, BitVec.ofNat 8 gain, BitVec.ofNat 8 mb] ++ groups ++
    [BitVec.ofNat 8 valid, 0, 0]
  s4.plSend (3 * t + s4.nb i 22 1) src 2 2 body 0 none false none

/-- A TMRESP received from a neighbour: the map the chip sends with from now on (R312, R314). -/
def State.plTakeMap (s : State) (i : Nat) (b : List Byte) : State :=
  let gs := (List.range 58).map fun g => let v := be b (4 + g / 2) 1; if g % 2 = 0 then v / 16 else v % 16
  if b.length ≠ 36 ∨ be b 0 1 = 0 ∨ 2 < be b 1 1 ∨ gs.any (fun c => decide (4 < c)) ∨ be b 34 2 ≠ 0 then s else
  let m : ToneMap := ⟨be b 0 1, be b 1 1, gs⟩
  let s1 := (s.write (nbtAddr i + 24) m.bytes).nbPut i 48 1 (be b 33 1)
  (s1.setPl { s1.pl with mapAt := s1.pl.mapAt.put (fun _ => 0) i (s.time.raw + 1), ackLow := s1.pl.ackLow.put (fun _ => 0) i 0 }).lmUpdate i

/-! ## Reception (R283, R290, R292, R296 to R303, R308, R318, R324) -/

/-- The ports of a triple that can receive. -/
def State.plListening (s : State) (t : Nat) : List Nat := [0, 1, 2].filter fun i => s.plOn (3 * t + i)

/-- The path with the highest peak. -/
def plBest (on : List Nat) (peak : Nat → Nat) : Option Nat :=
  on.foldl (fun b i => match b with
    | none => some i
    | some j => if peak j < peak i then some i else b) none

/-- The paths of the fold (R297). -/
def State.plIncluded (s : State) (t best : Nat) (peak : Nat → Nat) : List Nat :=
  (s.plListening t).filter fun i =>
    decide (s.fget fPLSFOLD_MINCORR * peak best ≤ 256 * peak i) && s.flag (fPLCFG_FOLD_IN (3 * t + i)) &&
    (bit (s.fget fPLSMODE_FOLD_EN) t || i = best)

/-- A symbol is erased on a path (R300). -/
def State.plErased (s : State) (p : PlPathRx) (j : Nat) : Bool := plErasedOn p (s.fget fPLSIMP_IMPTHR) (s.fget fPLSIMP_CLIPN) j

/-- The paths of a triple's reception. -/
def plPathOf (paths : List PlPathRx) (i : Nat) : PlPathRx := paths.getD i ⟨0, [], [], [], []⟩

/-- The active tones of a triple (R285, R286). -/
def State.plActive (s : State) (t : Nat) : List Nat := (s.plGroups t).flatMap plTones

/-- What the fold of a reception shows: its paths, the path with the largest single-path sum, the fold gain and the mean SNRc in
0.25 dB (R297 to R299). Where every sum is zero the spec states no ratio: a free value. -/
structure PlFold where
  inc : List Nat
  phase : Nat
  gain : Nat
  mean : Nat
  deriving DecidableEq, Repr

def State.plFold (s : State) (t best : Nat) (paths : List PlPathRx) : PlFold :=
  let inc := s.plIncluded t best fun i => (plPathOf paths i).peak
  let tones := s.plActive t
  let single := fun i => (tones.map fun n => plSnr (plPathOf paths i) n).sum
  let total := (tones.map fun n => plSnrc (inc.map (plPathOf paths)) n).sum
  let phase := inc.foldl (fun b i => if single b < single i then i else b) (inc.headD best)
  { inc := inc, phase := phase
    gain := if !bit (s.fget fPLSMODE_FOLD_EN) t then 0
      else if single phase = 0 then s.draw % 256
      else (min (dbRat (total / single phase)) 255).toNat
    mean := (min (dbRat (total / tones.length)) 255).toNat }

/-- The included paths that are not erased in payload symbol `j` (R298). -/
def State.plLeft (s : State) (f : PlFold) (paths : List PlPathRx) (j : Nat) : List PlPathRx :=
  (f.inc.map (plPathOf paths)).filter fun p => !s.plErased p j

/-- SNR of each group over the payload symbols not erased, the mean SNRc of its tones (R313). -/
def State.plGroupSnr (s : State) (f : PlFold) (paths : List PlPathRx) (nsym g : Nat) : Rat :=
  let kept := ((List.range nsym).map fun j => s.plLeft f paths j).filter fun q => !q.isEmpty
  let sum := (kept.map fun q => ((plTones g).map fun n => plSnrc q n).sum).sum
  if kept.isEmpty then (s.draw : Rat) else sum / (4 * kept.length : Nat)

/-- The soft values of a frame's payload: the folded values with their weights (R298). -/
def State.plSoft (s : State) (t : Nat) (f : PlFold) (paths : List PlPathRx) (nsym : Nat) : List (List (Rat × Rat × Rat)) :=
  (List.range nsym).map fun j => (s.plActive t).map fun n => plFolded (s.plLeft f paths j) j n

/-- An FCH that a receiver keeps: its HCS, reserved fields and CELL are right (R290, R292). -/
def State.fchOk (s : State) (b : List Byte) : Bool :=
  let typ := be b 0 1 / 32
  let pri := be b 0 1 / 4 % 8
  let w := be b 2 2
  decide (be b 10 2 = fchHcs b) && decide (typ ≤ 2) && decide (pri ≤ 4) && decide (w / 1024 % 4 ≠ 3) && decide (w / 4096 = 0) &&
    (typ ≠ 0 || be b 6 2 = s.fget fPLSCELL_CELL)

/-- The blocks of the mangle have few enough erased symbols (R296). -/
def plBlocksOk (rate : Nat) : Nat → List Bool → Bool
  | 0, _ => true
  | n + 1, es =>
    if es.isEmpty then true else
    let b := es.take 256
    decide ((b.filter id).length ≤ b.length / (if rate = 2 then 20 else 10)) && plBlocksOk rate n (es.drop 256)

/-- A frame whose FCS passes: its sender noted, its candidate learned, its map request served and its payload handed on (R298, R299,
R313 to R318, R444). -/
def State.plAccept (s : State) (t best : Nat) (d : List Byte) (tmReq : Bool) (m : ToneMap) (snr : Nat → Int) (phase fold mean : Nat) :
    State :=
  let self := s.fget fKEYID_EUI
  let mesh := bit (be d 0 1) 3
  let mtype := be d 0 1 / 16
  let dst := be d 4 8
  let src := be d 12 8
  let orig := be d 20 8
  let forUs := (dst = self || dst = euiAll) && (!mesh || be d 28 8 = self || be d 28 8 = euiAll)
  let body := sub d (if mesh then 38 else 20) (d.length - (if mesh then 42 else 24))
  let s1 := (s.count (fPLRXOK_COUNT (3 * t + best)) 1).nbSeen src t false
  let s2 := if mesh && orig ≠ src then s1.nbSeen orig t true else s1
  let s3 := match s2.nbFind src t with
    | none => s2
    | some i =>
      let u := (s2.nbPut i 22 1 phase).lmUpdate i
      let u := if mesh ∧ orig ≠ src then
          match u.nbFind orig t with
          | some o => (u.lmUpdate o).plLearn o i (be d 36 2)
          | none => u
        else u
      let low := match u.plMargin t m snr with
        | some x => decide (x < (u.fget fPLSTM_MARGIN_LO : Int))
        | none => false
      let n := if dst ≠ self ∧ dst ≠ euiAll then u.nb i 23 1 else if low then u.nb i 23 1 + 1 else 0
      let asked := (tmReq && dst = self) || mtype = 1 && forUs
      let u := u.nbPut i 23 1 (if 3 ≤ n then 0 else n)
      let u := if asked || decide (3 ≤ n) then u.plTmresp t i src snr else u
      if mtype = 2 && forUs && !mesh then u.plTakeMap i body else u
  if !forUs ∨ mtype ≠ 0 then s3 else
  let path : RxPath := {
    srckind := 0, port := 3 * t + best, ts := s3.stamp (2 + 3 * t + best) s.time.raw (-3250) false, snr := mean,
    fold := fold, link := if mesh then orig else src }
  s3.deliverTo { dest := .hw, src := 0x10 + 3 * t + best, stamp := path.ts, bytes := pathRecord path body.length ++ body }

/-- An ACK or NACK owed for a DATA frame that ends at `stop`; one still owed is lost and counted (R308, R328). -/
def State.plOwe (s : State) (t : Nat) (o : PlOwe) : State :=
  let s1 := match (s.plTri t).owed with
    | some old => s.bump (fPLACKLOST_COUNT old.port) 1
    | none => s
  s1.setPlTri t { s1.plTri t with owed := some o }

/-- The tone map a frame of the payload was sent with: the robust map, or one of the two issued to its sender (R308, R314). -/
def State.plRxMap (s : State) (t tmid src : Nat) : Option ToneMap :=
  if tmid = 0 then some robustMap else
  match s.nbFind src t with
  | none => none
  | some i => [s.nbMap i 52, s.nbMap i 76].find? fun m => m.tmid = tmid

/-- The FCS of a decoded PSDU passes. -/
def plFcsOk (d : List Byte) : Bool :=
  decide (24 ≤ d.length) && decide (d.length ≤ 1280) && plFcs (d.take (d.length - 4)) = be d (d.length - 4) 4

/-- The payload of a DATA frame whose FCH is right: erasures counted, the PSDU decoded, the frame accepted, the answer owed (R296, R298 to
R300, R308). -/
def State.plPayload (s : State) (t best : Nat) (paths : List PlPathRx) (fch psdu : List Byte) (snrOk : Bool) (stop : Nat) : State :=
  let nsym := be fch 2 2 % 1024
  let rate := be fch 2 2 / 1024 % 4
  let owes := bit (be fch 0 1) 1 && be fch 8 2 = s.fget fKEYID_EUI % 2 ^ 16
  let f := s.plFold t best paths
  let s2 := (f.inc.foldl (fun u i =>
    u.bump (fPLIMP_COUNT (3 * t + i)) ((List.range nsym).filter fun j => s.plErased (plPathOf paths i) j).length) s).drawn 1
  let owe := fun (u : State) typ fcs mb reason =>
    if owes then u.plOwe t ⟨mkFch typ 0 0 0 0 0 0 0 fcs mb reason, stop + usRaw 1056, 3 * t + best⟩ else u
  match s.plRxMap t (be fch 1 1) (be psdu 12 8) with
  | none => let (u, mb) := s2.marginByte none; owe u 2 0 mb 2
  | some m =>
    let snr := fun g => dbRat (s.plGroupSnr f paths nsym g)
    let erased := (List.range nsym).map fun j => (s.plLeft f paths j).isEmpty
    let d := if snrOk && plBlocksOk rate 4 erased then psdu else Config.plDecode rate (s.plSoft t f paths nsym)
    if !plFcsOk d then
      let (u, mb) := s2.marginByte none
      owe (u.bump (fPLRXERR_COUNT (3 * t + best)) 1) 2 0 mb 1
    else
      let s3 := s2.plAccept t best d (bit (be fch 0 1) 0) m snr f.phase f.gain f.mean
      if be d 4 8 ≠ s.fget fKEYID_EUI then s3 else
      let (u, mb) := s3.marginByte (s.plMargin t m snr)
      owe u 1 (be d (d.length - 4) 4 % 2 ^ 16) mb 0

/-- The medium of a triple's SPL band busy, and a frame being received, until the raw counts given (R283, R303). -/
def State.plHeld (s : State) (t busy rx : Nat) : State :=
  let T := s.plTri t
  s.setPlTri t { T with busyTo := max T.busyTo busy, rxTo := max T.rxTo rx }

/-- An SPL frame (R292, R296 to R303, R308). -/
def State.plHearSpl (s : State) (t : Nat) (paths : List PlPathRx) (fch psdu : List Byte) (snrOk : Bool) (energyTo : Nat) : State :=
  match plBest (s.plListening t) fun i => (plPathOf paths i).peak with
  | none => s
  | some best =>
    let fchEnd := s.time.raw + usRaw (s.plAckUs t)
    let busy := max energyTo fchEnd
    if !s.fchOk fch then s.plHeld t busy fchEnd else
    let busy := max busy (fchEnd + usRaw (16 * be fch 4 2))
    if be fch 0 1 / 32 ≠ 0 then s.plHeld t busy fchEnd else
    let stop := fchEnd + usRaw (528 * (be fch 2 2 % 1024))
    let s1 := s.plHeld t (max busy stop) stop
    let s2 := if bit (be fch 0 1) 1 && be fch 8 2 = s.fget fKEYID_EUI % 2 ^ 16 then s1.plYield t else s1
    s2.plPayload t best paths fch psdu snrOk stop

/-! ## G.9903 (R329 to R331) -/

/-- The supported parts (R329); the adaptation layer is carried out by the control firmware. -/
def G3Part.supported : G3Part → Bool
  | .cenelecA => true
  | .fcc => true
  | .cenelecB => false
  | .arib => false
  | .fccSub => false
  | .differential => true
  | .coherent => false
  | .robust => true
  | .toneMap => true
  | .toneMask => true
  | .priority => true
  | .normal => true
  | .secured => true
  | .adaptation => true

/-- A triple in this mode receives the frame's band plan (R282). -/
def g3Plan (mode : Nat) (parts : List G3Part) : Bool :=
  if mode = 2 then !parts.contains .cenelecA else !parts.contains .fcc

/-- The port of a triple whose G.9903 frame waits for its acknowledgement. -/
def State.plG3Waits (s : State) (t : Nat) : Option Nat :=
  (plTriPorts t).find? fun p => match (s.plPort p).tx, (s.plPort p).queue with
    | some x, f :: _ => x.ackReq && !x.ended && f.g3
    | _, _ => false

/-- A G.9903 acknowledgement, or a negative one, ends the attempt that waits for it (R329). -/
def State.plG3Ack (s : State) (t : Nat) (ok : Bool) : State :=
  match s.plG3Waits t with
  | none => s
  | some p =>
    let s1 := if ok then s.plSucceed p else s.plFail p
    s1.setPlPort p { s1.plPort p with tx := (s1.plPort p).tx.map fun x => { x with ended := true } }

/-- A G.9903 frame handed to the control firmware with its receive report. -/
def State.plG3Give (s : State) (t best : Nat) (f : PlFold) (octets : List Byte) : State :=
  let p := 3 * t + best
  let path : RxPath := {
    srckind := 1, port := p, ts := s.stamp (2 + p) s.time.raw (-3250) false, snr := f.mean, fold := f.gain }
  s.deliverTo { dest := .controlFw, src := 0x10 + p, stamp := path.ts, typ := f.gain, bytes := octets }

/-- A segment of a G.9903 frame: the last one completes a frame of at most 1,280 bytes (R329). -/
def State.plG3Segment (s : State) (t best : Nat) (f : PlFold) (last : Bool) (octets : List Byte) : State :=
  let all := (s.plTri t).g3Part ++ octets
  let s1 := s.setPlTri t { s.plTri t with g3Part := if last || decide (1280 < all.length) then [] else all }
  if 1280 < all.length then s1.bump (fPLRXERR_COUNT (3 * t + best)) 1
  else if last then s1.plG3Give t best f all else s1

/-- A G.9903 frame (R283, R329 to R331): one that fails its FCS or uses an unsupported part is discarded and counted; a secured one needs an
AES engine. -/
def State.plHearG3 (s : State) (t : Nat) (paths : List PlPathRx) (parts : List G3Part) (kind : G3Kind) (fcs : Bool) (octets : List Byte)
    (stop : Nat) : State :=
  match plBest (s.plListening t) fun i => (plPathOf paths i).peak with
  | none => s
  | some best =>
    let p := 3 * t + best
    let T := s.plTri t
    let s1 := s.setPlTri t { T with rxTo := max T.rxTo stop, g3To := max T.g3To stop }
    let f := s.plFold t best paths
    if !fcs || !parts.all G3Part.supported || decide (1280 < octets.length) || (parts.contains .secured && s.aesGone) then
      s1.bump (fPLRXERR_COUNT p) 1
    else
      let s2 := (s1.count (fPLRXOK_COUNT p) 1).drawn 1
      match kind with
      | .ack => s2.plG3Ack t true
      | .nack => s2.plG3Ack t false
      | .segment last => s2.plG3Segment t best f last octets
      | .data => s2.plG3Give t best f octets
      | .command => s2.plG3Give t best f octets

/-- Energy without a frame of a triple's mode: the medium is busy until it ends (R303, R331). -/
def State.plEnergy (s : State) (t energyTo : Nat) : State :=
  let T := s.plTri t
  let mode := s.plMode t
  s.setPlTri t { T with
    busyTo := if mode = plSpl ∨ mode = plDual then max T.busyTo energyTo else T.busyTo
    g3To := if mode = plSpl then T.g3To else max T.g3To energyTo }

/-- PL_FRAME_RECEIVE (R282, R283, R297): the first preamble symbol of a frame starts at this raw count. A frame that the triple's mode does
not receive is energy to it. -/
def execPlFrameReceive (t : Fin 4) (h : PlHeard) (s : State) : Out := s.live <| .next <|
  if s.time.raw < s.plBusyEnd t.val then s else
  let mode := s.plMode t.val
  match h with
  | .spl paths fch psdu snrOk energyTo =>
    if mode = plSpl ∨ mode = plDual then s.plHearSpl t.val paths fch psdu snrOk energyTo else s.plEnergy t.val energyTo
  | .g3 paths parts kind fcs octets stop =>
    if mode = plSpl ∨ !g3Plan mode parts then s.plEnergy t.val stop else s.plHearG3 t.val paths parts kind fcs octets stop
  | .energy energyTo => s.plEnergy t.val energyTo

/-! ## Queueing (R293, R307, R311, R319, R325) -/

/-- Priority of a KEP frame (R307): by its kind and its message type. -/
def plPriOf (kind : Nat) (frame : List Byte) : Nat :=
  if kind = 3 then 0 else if be frame 1 1 = 0x03 then 1 else if be frame 1 1 = 0x11 then 3 else 4

/-- The powerline port for a link-layer destination: the best phase of its neighbour entry on the triple of the path, or, when the
chip chooses, on the triple of lowest metric (R299, R386, R403). -/
def State.plPortFor (s : State) (f : PortFrame) : Option Nat :=
  let on := fun t => match s.plNb t f.link with
    | some i => let p := 3 * t + s.nb i 22 1; if s.plOn p then some p else none
    | none => none
  if f.port < 12 then some ((on (f.port / 3)).getD f.port)
  else if f.port ≠ 0xFF then none
  else (List.range 4).foldl (fun b t => match s.plNb t f.link, on t with
    | some i, some p => (match b with
      | some q => if s.nb i 16 2 < s.nb ((s.plNb (q / 3) f.link).getD 0) 16 2 then some p else b
      | none => some p)
    | _, _ => b) none

/-- PL_TX_QUEUE. -/
def execPlTxQueue (src : PlSource) (s : State) : Out := s.live <| .next <|
  match src with
  | .out n =>
    match s.kep.out[n]? with
    | none => s
    | some f => match s.plPortFor f with
      | none => s
      | some p =>
        let s1 := s.setKep { s.kep with out := s.kep.out.eraseIdx n }
        s1.plSend p (if 2 ≤ f.kind then euiAll else f.link) (plPriOf f.kind f.frame) 0 f.frame f.notBefore f.fid (f.kind = 0) f.ackBy
  | .spl p dst pri mtype body fid => s.plSend p.val dst.toNat pri.val mtype.val body 0 (fid.map BitVec.toNat) false none
  | .g3 p dst pri octets ack fid =>
    s.plEnqueue p.val {
      g3 := true, dst := dst.toNat, pri := pri.val, mtype := 0, body := octets, seq := 0, ackReq := ack,
      fid := fid.map BitVec.toNat }

/-! ## Line drivers (R321 to R325) -/

/-- A copy of a broadcast waits until the lower ports of its triple have sent theirs (R311). -/
def State.plInOrder (s : State) (p : Nat) (f : PlFrame) : Bool :=
  match f.bid with
  | none => true
  | some b => !([0, 1, 2].any fun i => decide (3 * (p / 3) + i < p) && (s.plPort (3 * (p / 3) + i)).queue.any fun g => g.bid = some b)

/-- DRIVER_REQUEST (R321). -/
def execDriverRequest (p : Fin 12) (s : State) : Out := s.live <| .next <|
  let P := s.plPort p.val
  let wants := (match P.queue with
    | f :: _ => s.plInOrder p.val f
    | [] => false) || (s.plTri (p.val / 3)).owed.isSome
  if P.req.isSome || !wants || !s.plOn p.val then s
  else s.setPlPort p.val { P with req := some s.plCycles }

/-- A port that yielded may take this driver for the owed ACK: no other port of its triple that is wired to it can (R324, R328). -/
def State.plYieldedTakes (s : State) (k p : Nat) : Bool :=
  (s.plTri (p / 3)).owed.isSome && !((plTriPorts (p / 3)).any fun q =>
    q ≠ p && bit (s.fget (fPLSLDMAP_PORTS k)) q && s.plOn q && !(s.plPort q).yielded)

/-- The oldest request among the ports wired to a driver; the lower port on a tie (R321, R322, R324). -/
def State.plOldest (s : State) (k : Nat) : Option Nat :=
  let age := fun p => min (s.plCycles - ((s.plPort p).req.getD 0)) (2 ^ 31 - 1)
  (List.range 12).foldl (fun b p =>
    let P := s.plPort p
    if bit (s.fget (fPLSLDMAP_PORTS k)) p && P.req.isSome && P.gnt.isNone
        && (!(P.yielded && s.plOwes (p / 3)) || s.plYieldedTakes k p) then
      match b with
      | none => some p
      | some q => if age q < age p then some p else b
    else b) none

/-- The lowest free driver with a request it can serve, granted (R322). -/
def State.plGrant (s : State) : Nat → Nat → State
  | 0, _ => s
  | n + 1, k =>
    match s.plDriver k, s.plOldest k with
    | none, some p =>
      let P := s.plPort p
      let us := (s.plCycles - P.req.getD 0) / 32
      let s1 := s.setPlPort p { P with gnt := some (k, s.time.raw), yielded := P.yielded && s.plOwes (p / 3) }
      let s2 := s1.setPl { s1.pl with map := s1.pl.map.put (fun _ => 0) k (s.fget (fPLSLDMAP_PORTS k)) }
      s2.fset (fPLWAITMAX_US p) (min (max (s2.fget (fPLWAITMAX_US p)) us) (2 ^ 32 - 1))
    | _, _ => State.plGrant s n (k + 1)

/-- DRIVER_GRANT (R322). -/
def execDriverGrant (s : State) : Out := s.live <| .next <| s.plGrant 4 0

/-- DRIVER_RELEASE (R323, R325, R328): the attempt of a port has ended, or an ACK it owes could not start at RIFS. -/
def execDriverRelease (p : Fin 12) (s : State) : Out := s.live <| .next <|
  let P := s.plPort p.val
  let t := p.val / 3
  match P.tx with
  | some x =>
    if x.isAck then
      if x.txEnd ≤ s.time.raw then (s.plOweEnd t).plGrantEnd p.val else s
    else if !x.ackReq then
      if x.txEnd ≤ s.time.raw then (s.plPop p.val).plGrantEnd p.val else s
    else if x.ended ∧ x.waitEnd ≤ s.time.raw then s.plGrantEnd p.val else s
  | none =>
    match (s.plTri t).owed with
    | some o => if o.due < s.time.raw then s.plAckLost t o else s
    | none => if P.req.isSome ∧ P.queue.isEmpty then s.plGrantEnd p.val else s

/-- DRIVER_MAXDEFER_EXPIRY (R323). -/
def execDriverMaxdeferExpiry (p : Fin 12) (s : State) : Out := s.live <| .next <|
  let P := s.plPort p.val
  let ms := s.fget (fPLACC_MAXDEFER p.val)
  match P.gnt, P.tx with
  | some (_, at_), none => if ms ≠ 0 ∧ at_ + msRaw ms ≤ s.time.raw then s.plGrantEnd p.val else s
  | _, _ => s

/-! ## Medium access (R302 to R307) -/

/-- Samples as they leave: two bytes each (notes/assumptions/22.md). -/
def sampleBytes (l : List Int) : List Byte := l.flatMap fun x => leBytes 2 (cut 16 x)

/-- The samples of a preamble and an FCH, BPSK on every active tone (R287, R288, R291). -/
def State.plHead (s : State) (t : Nat) (fch : List Byte) : List Int :=
  plPreamble (s.plActive t) ++
    (fchSymbols fch (s.plTa t)).flatMap fun b => plDataSymbol (plPoints ((s.plActive t).map fun n => (n, 1)) b)

/-- A frame of the queue starts (R290, R294, R303, R315, R320, R495, R497). -/
def State.plStart (s : State) (p : Nat) (f : PlFrame) : State :=
  let t := p / 3
  let i := s.plNb t f.hop
  let m := s.plMapFor t f
  let psdu := if f.g3 then f.body else s.plPsdu f
  let nsym := plNsym psdu.length m.rate (m.tmid = 0) (s.plBps t m)
  let raw := s.time.raw
  let fchEnd := raw + usRaw (s.plAckUs t)
  -- no rule gives the airtime of a G.9903 frame, nor its wait for an acknowledgement
  let txEnd := if f.g3 then raw + Config.freeDraw s.freeCtr else fchEnd + usRaw (528 * nsym)
  let durUs := 528 * nsym + (if f.ackReq then 1056 + s.plAckUs t else 0)
  let due := match i with
    | none => false
    | some i => f.robust || decide (s.pl.mapAt.get (fun _ => 0) i + secRaw (s.fget fPLSTM_PERIOD) ≤ raw + 1) ||
        decide (3 ≤ s.pl.ackLow.get (fun _ => 0) i)
  let fcs := be psdu (psdu.length - 4) 4 % 2 ^ 16
  let fch := mkFch 0 f.pri (b2n f.ackReq) (b2n due) m.tmid nsym m.rate (durUs / 16) (s.fget fPLSCELL_CELL)
    (f.hop / 256 % 256) (f.hop % 256)
  let P := s.plPort p
  let s1 := (s.drawn (2 * b2n f.g3)).setPlPort p { P with
    tx := some {
      txEnd := txEnd, fcs := fcs, ackReq := f.ackReq
      waitEnd := if !f.ackReq then txEnd else if f.g3 then txEnd + Config.freeDraw (s.freeCtr + 1) else txEnd + usRaw (s.plWaitUs t) } }
  let T := s1.plTri t
  let s2 := s1.setPlTri t (if f.g3 then { T with g3To := max T.g3To txEnd }
    else { T with busyTo := max T.busyTo (max txEnd (fchEnd + usRaw durUs)) })
  let s3 := match i with
    | some i => if due then s2.setPl { s2.pl with ackLow := s2.pl.ackLow.put (fun _ => 0) i 0 } else s2
    | none => s2
  let s4 := match f.fid with
    | some fid => s3.putTx (2 + p) fid (s3.stamp (2 + p) raw 1750 true)
    | none => s3
  if f.g3 then s4.send (0x10 + p) psdu else
  let body := plSymbols psdu m.rate (m.tmid = 0) (s.plBps t m)
  let tones := (s.plGroups t).flatMap fun g => (plTones g).map fun n => (n, m.groups.getD g 0)
  ((s4.send (0x10 + p) (fch ++ psdu)).send (0x110 + p) ((fchSymbols fch (s.plTa t) ++ body).flatMap fun b => packMsb b.length b)).send
    (0x210 + p) (sampleBytes (s.plHead t fch ++ body.flatMap fun b => plDataSymbol (plPoints tones b)))

/-- When the access sequence of a port began: when the medium became idle; or when the driver was granted, if the sequence had
already run out with the medium still idle (notes/assumptions/23.md). -/
def State.plSeqStart (s : State) (p granted : Nat) : Nat :=
  let t0 := (s.plTri (p / 3)).busyTo
  if t0 + usRaw (2112 + 1056 * (8 + 2 ^ s.plExp p)) < granted then granted else t0

/-- The triple's mode sends this frame (R282). -/
def State.plModeSends (s : State) (t : Nat) (f : PlFrame) : Bool :=
  if f.g3 then s.plMode t ≠ plSpl else s.plMode t = plSpl || s.plMode t = plDual

/-- A frame of priority 0 to 3 at the beginning of slot `j` of the sequence that began at `t0`: one draw for each sequence, and the start
in the slot drawn (R305). -/
def State.plPriSlot (s : State) (p : Nat) (f : PlFrame) (t0 j : Nat) : State :=
  let fresh := f.left.isNone || (s.plPort p).counted ≠ t0 + 1
  let r := if fresh then s.draw % 2 else f.left.getD 0
  let s1 := (s.drawn (b2n fresh)).plSetHead p { f with left := some r }
  let s2 := s1.setPlPort p { s1.plPort p with counted := t0 + 1 }
  if j = 2 * f.pri + r then s2.plStart p f else s2

/-- A frame of normal priority at the beginning of a slot of the contention window that opened at `cw`: the backoff drawn, or counted down
for each slot that has ended idle under the grant; the start in the slot in which it is 0 (R306). -/
def State.plBackSlot (s : State) (p : Nat) (f : PlFrame) (cw granted : Nat) : State :=
  let raw := s.time.raw
  let n := (raw - max (max cw (s.plPort p).counted) granted) / usRaw 1056
  let b := match f.left with
    | some b => b - n
    | none => s.draw % 2 ^ s.plExp p
  let s1 := (s.drawn (b2n f.left.isNone)).plSetHead p { f with left := some b }
  let s2 := s1.setPlPort p { s1.plPort p with counted := raw }
  if b = 0 then s2.plStart p f else s2

/-- PL_ACCESS_SLOT (R304 to R307, R311, R331): the beginning of a slot of a port's access sequence. A G.9903 frame follows the access rules
of its own band, which the spec does not give: it starts while that band is idle. -/
def execPlAccessSlot (p : Fin 12) (s : State) : Out := s.live <| .next <|
  let P := s.plPort p.val
  let t := p.val / 3
  match P.queue, P.gnt, P.tx with
  | f :: _, some (_, granted), none =>
    let t0 := s.plSeqStart p.val granted
    let open_ := t0 + usRaw 2112
    let raw := s.time.raw
    if !s.txEnabled || !s.plOn p.val || s.plOwes t || decide (raw < s.plBusyEnd t) || decide (s.chip < f.notBefore)
        || (f.tries = 0 && decide (f.ackBy.getD raw < raw))
        || !s.plModeSends t f || !s.plInOrder p.val f then s
    else if f.g3 then (if raw < (s.plTri t).g3To then s else s.plStart p.val f)
    else if raw < open_ ∨ raw < (s.plTri t).busyTo ∨ (raw - open_) % usRaw 1056 ≠ 0 then s
    else
      let j := (raw - open_) / usRaw 1056
      if f.pri < 4 then s.plPriSlot p.val f t0 j
      else if j < 8 then s else s.plBackSlot p.val f (open_ + usRaw (8 * 1056)) granted
  | _, _, _ => s

/-! ## Acknowledgement and retry (R308 to R310, R314, R315, R328) -/

/-- Ports of a triple that owes an ACK raise their requests, and free drivers are granted (R321, R322). -/
def State.plAckGrant (s : State) (t : Nat) : State :=
  ((plTriPorts t).foldl (fun u p =>
    let P := u.plPort p
    if P.req.isNone && u.plOn p then u.setPlPort p { P with req := some u.plCycles } else u) s).plGrant 4 0

/-- The port of a triple that holds a driver and has not started. -/
def State.plReady (s : State) (t : Nat) : Option Nat := (plTriPorts t).find? fun p => (s.plPort p).gnt.isSome && (s.plPort p).tx.isNone

/-- An owed ACK or NACK leaves a port (R290, R308). -/
def State.plAckStart (s : State) (t p : Nat) (o : PlOwe) : State :=
  let txEnd := s.time.raw + usRaw (s.plAckUs t)
  let s1 := s.setPlPort p { s.plPort p with tx := some { txEnd := txEnd, waitEnd := txEnd, fcs := 0, ackReq := false, isAck := true } }
  let s2 := s1.setPlTri t { s1.plTri t with busyTo := max (s1.plTri t).busyTo txEnd, owed := none }
  ((s2.send (0x10 + p) o.fch).send (0x110 + p) ((fchSymbols o.fch (s.plTa t)).flatMap fun b => packMsb b.length b)).send (0x210 + p)
    (sampleBytes (s.plHead t o.fch))

/-- PL_ACK_SEND (R308, R328): at RIFS a granted port of the triple sends the ACK or NACK that is owed; with none, or later, it is lost. -/
def execPlAckSend (t : Fin 4) (s : State) : Out := s.live <| .next <|
  match (s.plTri t.val).owed with
  | none => s
  | some o =>
    if s.time.raw < o.due then s else
    let s1 := if (s.plReady t.val).isSome then s else s.plAckGrant t.val
    match s1.plReady t.val with
    | some p => if s.txEnabled ∧ s.time.raw = o.due then s1.plAckStart t.val p o else s1.plAckLost t.val o
    | none => s1.plAckLost t.val o

/-- PL_ACK_RECEIVE (R309, R315): an FCH of TYPE ACK or NACK begins within the ACK wait of a port. -/
def execPlAckReceive (p : Fin 12) (fch : List Byte) (s : State) : Out := s.live <| .next <|
  let P := s.plPort p.val
  let t := p.val / 3
  match P.tx, P.queue with
  | some x, f :: _ =>
    let typ := be fch 0 1 / 32
    if !x.ackReq || f.g3 || x.ended || decide (s.time.raw < x.txEnd) || decide (x.waitEnd ≤ s.time.raw) || !s.fchOk fch || typ = 0 then s else
    let i := s.plNb t f.hop
    let finish := fun (u : State) => u.setPlPort p.val { u.plPort p.val with tx := some { x with ended := true } }
    if typ = 1 then
      if be fch 6 2 ≠ x.fcs then s else
      let s1 := match i with
        | some i =>
          let low := sx (be fch 8 1) 8 < (s.fget fPLSTM_MARGIN_LO : Int)
          s.setPl { s.pl with ackLow := s.pl.ackLow.put (fun _ => 0) i (if low then s.pl.ackLow.get (fun _ => 0) i + 1 else 0) }
        | none => s
      finish (s1.plSucceed p.val)
    else
      let unknown := be fch 9 1 = 2
      let s1 := if unknown then
          let u := s.plSetHead p.val { f with robust := true }
          match i with
          | some i => u.dropTxMap i
          | none => u
        else s
      finish (s1.plFail p.val)
  | _, _ => s

/-- PL_ACK_TIMEOUT (R309). -/
def execPlAckTimeout (p : Fin 12) (s : State) : Out := s.live <| .next <|
  match (s.plPort p.val).tx with
  | some x =>
    if x.ackReq && !x.ended && decide (x.waitEnd ≤ s.time.raw) then (s.plFail p.val).plGrantEnd p.val else s
  | none => s

/-- TONE_MAP_EXPIRY (R314): the map of a neighbour entry. -/
def execToneMapExpiry (i : Half) (s : State) : Out := s.live <| .next <|
  let i := i.toNat
  if s.nbValid i && decide (s.nbMedium i < 4) && decide ((s.nbMap i 24).tmid ≠ 0) &&
      decide (s.pl.mapAt.get (fun _ => 0) i + secRaw (4 * s.nb i 48 1) ≤ s.time.raw + 1) then s.dropTxMap i
  else s

/-! ## Register writes of the triples -/

/-- A write of PLSMODE (R282). -/
def State.plsmodeWrite (s : State) (v : Nat) : State :=
  let s1 := (s.fset fPLSMODE_MODE (fPLSMODE_MODE.of v)).fset fPLSMODE_FOLD_EN (fPLSMODE_FOLD_EN.of v)
  (s1.plModeWritten s.plMode).say .done

/-- A write of PLSTMASK (R286). -/
def State.plstmaskWrite (s : State) (v : Nat) : State :=
  if ((List.range 58).filter fun g => bit v g).length < 25 then s.say .badArgument
  else (s.fset fPLSTMASK_GROUPS (fPLSTMASK_GROUPS.of v)).say .done

/-- A write of PLSLDMAPk (R325). -/
def State.plsldmapWrite (s : State) (k v : Nat) : State :=
  if s.flag (fPLSLDMAP_LOCK k) then s.say .csrLocked else
  (((s.fset (fPLSLDMAP_PORTS k) ((fPLSLDMAP_PORTS k).of v)).fset (fPLSLDMAP_LOCK k) ((fPLSLDMAP_LOCK k).of v)).plDropUnwired).say .done

end Sys2Proof.Machine
end

