-- ==== Sys2Proof/Machine/RfOps.lean ====
section
/-!
DEFINITION. The radio ports as shared operations: channels, groups and airtimes, slot tables and runs, transmission, the lint trap and
the drift rule (R332 to R374).
-/

namespace Sys2Proof.Machine

def rfPortReset : Nat → RfPort := fun _ => {}
def State.setRf (s : State) (r : RfSt) : State := { s with rf := r }
def State.rfPort (s : State) (n : Nat) : RfPort := s.rf.ports.get rfPortReset n
def State.setRfPort (s : State) (n : Nat) (v : RfPort) : State := s.setRf { s.rf with ports := s.rf.ports.put rfPortReset n v }

/-- The radio port takes part: enabled, not fenced, SERVICE or HOLDOVER, not in Quiet (R53, R377). -/
def State.rfOn (s : State) (n : Nat) : Bool := s.flag (fRFCFG_EN n) && !s.fenced (24 + n) && s.serving && !s.quiet

/-! ## Channels, groups and airtimes (R333, R334, R339) -/

/-- A channel exists at the port's rate and is enabled (R333). -/
def State.rfChan (s : State) (n c : Nat) : Bool :=
  let rate := s.fget (fRFCFG_RATE n)
  let (lo, hi) := if rate = 0 then (0, 127) else if rate = 1 then (32, 95) else (48, 79)
  decide (lo ≤ c) && decide (c ≤ hi) && bit (s.fget (fRFCHMASK_CH n)) c

/-- Channels of a group of a kind (R334). -/
def rfWidth (kind : Nat) : Nat := if kind ≤ 1 then 1 else if kind ≤ 3 then 2 else if kind = 4 then 6 else 4

/-- A group is aligned for a kind and enabled (R334). -/
def State.rfGroupOk (s : State) (n kind c : Nat) : Bool :=
  decide (c % rfWidth kind = 0) && (kind ≠ 4 || c ≤ 120) && (List.range (rfWidth kind)).all fun i => s.rfChan n (c + i)

/-- Two groups share a channel. -/
def rfOverlap (k1 c1 k2 c2 : Nat) : Bool := decide (c1 < c2 + rfWidth k2) && decide (c2 < c1 + rfWidth k1)

/-- kb/s of a FSK kind; the time of one octet in ns. -/
def fskKb (kind : Nat) : Nat := if kind = 0 then 50 else if kind = 1 then 100 else if kind = 2 then 150 else 200
def octetNs (kind n : Nat) : Nat := (n * 8000000 + fskKb kind - 1) / fskKb kind

/-- Bits of an OFDM symbol of 120 µs, from the rates of R339. -/
def ofdmBits (kind mcs : Nat) : Nat :=
  if kind = 4 then [12, 24, 48, 96].getD mcs 96 else [6, 12, 24, 36, 48, 72].getD mcs 72

/-- What a transmit profile says (RFPROFk). -/
structure RfProf where
  kind : Nat
  mcs : Nat
  fec : Bool
  fcs : Nat
  pre : Nat
  deriving DecidableEq, Repr

def rfProfOf (w : Nat) : RfProf :=
  ⟨bits w 0 3, bits w 4 3, bit w 8, if bit w 10 then 2 else 4, bits w 12 10⟩
def State.rfProf (s : State) (n k : Nat) : RfProf := rfProfOf (s.reg (rRFPROF n k))

/-- Airtime in ns of a PSDU of `len` bytes, its FCS included. FSK: preamble, 2 SFD octets, 2 PHR octets and the PSDU, the last two
doubled by FEC (R359). OFDM: training fields and PHR of the named standard (notes/assumptions/21.md). -/
def rfAir (p : RfProf) (len : Nat) : Nat :=
  if p.kind ≤ 3 then
    let coded := 2 + len
    octetNs p.kind (p.pre + 2 + (if p.fec then 2 * (coded + 1 + coded % 2) else coded))
  else
    let hdr := 6 + (if p.kind = 4 then 3 else 6)
    120000 * (hdr + (8 * len + 6 + ofdmBits p.kind p.mcs - 1) / ofdmBits p.kind p.mcs)

/-! ## Drift (R364, R373) -/

/-- What is known of a clock: reference, drift in 1/16 ppm and count. -/
structure Drift where
  tref : Option Nat
  d : Int
  n : Nat
  deriving DecidableEq, Repr

/-- The period as the drift stretches it, over `m` periods. -/
def stretched (len m : Nat) (d : Int) : Int := (m * len : Nat) * (16000000 + d) / 16000000

/-- A measurement at an announced sample (R373). -/
def Drift.measure (x : Drift) (len ta dmax : Nat) : Drift :=
  match x.tref with
  | none => { x with tref := some ta }
  | some tr =>
    let gap : Int := (ta : Int) - tr
    if gap.natAbs < 60000000000 then x else
    let m := divRound (gap * 16000000) ((len : Int) * (16000000 + x.d))
    let meas := divRound (16000000 * (gap - m * len)) (m * len)
    if (dmax : Int) < meas.natAbs then ⟨some ta, 0, 0⟩
    else if x.n = 0 then ⟨some ta, meas, 1⟩
    else ⟨some ta, x.d + (meas - x.d) / 8, min (x.n + 1) 255⟩

/-! ## Slot tables and runs (R347 to R358) -/

def slotNs : Nat := 16000000
def sfNs : Nat := 4096000000
def guardNs : Nat := 500000

/-- USE, CH and PROF of a slot entry (R353). -/
def slotUse (w : Nat) : Nat := bits w 0 3
def slotCh (w : Nat) : Nat := bits w 4 7
def slotProf (w : Nat) : Nat := bits w 12 3
def useTxu : Nat := 1
def useTxb : Nat := 2
def useTxs : Nat := 3
def useBeacon : Nat := 4

/-- An entry of bank A or B. -/
def State.rfSlot (s : State) (n : Nat) (b : Bool) (i : Nat) : Nat := s.reg (if b then rRFSLOTB n i else rRFSLOTA n i)
def State.rfAct (s : State) (n : Nat) : Bool := s.flag (fRFSLOTCTL_ACT n)

/-- STATE of RFSFSTAT. -/
def sfUnsync : Nat := 0
def sfRoot : Nat := 1
def sfAcquire : Nat := 2
def sfTrack : Nat := 3
def sfHold : Nat := 4
def sfFallback : Nat := 5
def State.sfState (s : State) : Nat := s.fget fRFSFSTAT_STATE

/-- The rules of R355 for entry `i` with value `w`. -/
def State.rfEntryOk (s : State) (n : Nat) (prof : Nat → RfProf) (i w : Nat) : Bool :=
  let use := slotUse w
  let p := prof (slotProf w)
  (if i = 0 then use = 0 || use = useBeacon else use ≠ useBeacon) &&
  (use = 0 || s.rfGroupOk n p.kind (slotCh w)) &&
  (use ≠ useBeacon || rfAir p (76 + p.fcs) ≤ 15000000)

/-- Every entry of a bank meets R355. -/
def State.rfBankOk (s : State) (n : Nat) (b : Bool) (prof : Nat → RfProf) : Bool :=
  (List.range 256).all fun i => s.rfEntryOk n prof i (s.rfSlot n b i)

/-! ### The superframes in progress and ahead (R347 to R350, R356, R360, R364)

Their times are chip times; those of the superframe in progress and of the next in FOLLOW move along with every step of chip time. -/

/-- The first aligned instant at or after a chip time (R348). -/
def State.sfAlign (s : State) (t : Nat) : Nat :=
  t + (((s.fget fRFSFOFF_OFFSET : Int) - t) % (sfNs : Int)).toNat

/-- The chip follows another cell, or goes on from HOLD as a fallback root (R360). -/
def State.sfFollows (s : State) : Bool := s.flag fRFSF_MODE || s.sfState = sfFallback

/-- Length of the superframes to come: as learned in HOLD and FALLBACK (R364). -/
def State.sfLen (s : State) : Nat :=
  if s.sfState = sfHold ∨ s.sfState = sfFallback then (stretched sfNs 1 s.rf.d).toNat else sfNs

/-- Start of the next superframe: the parent's, or the first aligned instant after the end of the one in progress (R348, R349). -/
def State.sfNext (s : State) : Option Nat :=
  if s.sfFollows then s.rf.follow else s.rf.start.map fun st => s.sfAlign (st + s.rf.len)

/-- Superframe starts in HOLD since the window that closed empty as the third, when `n` is the superframe's number (R360). -/
def State.sfHeld (s : State) (n : Nat) : Nat := (n + 2 ^ 32 - s.rf.holdSfn) % 2 ^ 32

/-- A superframe of a port: its start and end, its bank, and how many of its last slots are RX (R362). -/
structure RfCycle where
  start : Nat
  end_ : Nat
  bank : Bool
  tail : Nat
  deriving DecidableEq, Repr

/-- The superframe in progress, which ends where the next one begins. -/
def State.rfNow (s : State) (n : Nat) : Option RfCycle := s.rf.start.map fun st =>
  let e := st + s.rf.len
  ⟨st, if s.sfFollows then min e (s.rf.follow.getD e) else e, s.rfAct n,
    if s.sfState = sfTrack ∨ s.sfState = sfHold then s.fget fRFSF_SHIFT else 0⟩

/-- Superframe `k` after the one in progress, as it will run: a pending swap done, HOLD become FALLBACK in its time. -/
def State.rfLater (s : State) (n k : Nat) : Option RfCycle := s.sfNext.map fun x =>
  let st := x + k * s.sfLen
  let swapped := s.flag (fRFSLOTCTL_PEND n) && decide ((s.rfPort n).swapAt + 2000 ≤ s.rawOf st)
  ⟨st, st + s.sfLen, if swapped then !s.rfAct n else s.rfAct n,
    if s.sfState = sfTrack ∨ (s.sfState = sfHold ∧ s.sfHeld (s.rf.nextSfn + k) < 9) then s.fget fRFSF_SHIFT else 0⟩

/-- The superframe in progress and the next `k`. -/
def State.rfCycles (s : State) (n k : Nat) : List RfCycle :=
  (s.rfNow n).toList ++ (List.range k).filterMap fun i => s.rfLater n i

/-- The entry of a slot as it applies: RX beyond the superframe's slots, and in the last SHIFT slots of TRACK and HOLD (R349, R362). -/
def State.rfApplied (s : State) (n : Nat) (c : RfCycle) (i : Nat) : Nat :=
  if 256 ≤ i + c.tail then 0 else s.rfSlot n c.bank i

/-- First slot of the run that holds slot `i`, and the slot after its last (R350). -/
def State.runFrom (s : State) (n : Nat) (c : RfCycle) (w : Nat) : Nat → Nat
  | 0 => 0
  | i + 1 => if s.rfApplied n c i = w then State.runFrom s n c w i else i + 1
def State.runTo (s : State) (n : Nat) (c : RfCycle) (w : Nat) : Nat → Nat → Nat
  | 0, i => i
  | k + 1, i => if i < 256 ∧ s.rfApplied n c i = w then State.runTo s n c w k (i + 1) else i

/-- A run: its entry, and raw counts of its start and end. -/
structure RfRun where
  entry : Nat
  from_ : Nat
  to_ : Nat
  deriving DecidableEq, Repr

/-- The run of a superframe that holds slot `i`; it ends with the superframe at the latest (R350). -/
def State.rfRunOf (s : State) (n : Nat) (c : RfCycle) (i : Nat) : RfRun :=
  let w := s.rfApplied n c i
  ⟨w, s.rawOf (c.start + s.runFrom n c w i * slotNs), s.rawOf (min (c.start + s.runTo n c w 256 i * slotNs) c.end_)⟩

/-- The run that holds a chip time, in the superframe in progress or one of the next three. -/
def State.rfRunAtChip (s : State) (n t : Nat) : Option RfRun :=
  ((s.rfCycles n 3).find? fun c => decide (c.start ≤ t) && decide (t < c.end_)).map fun c => s.rfRunOf n c ((t - c.start) / slotNs)

/-- The run that holds a raw count. -/
def State.rfRunAt (s : State) (n raw : Nat) : Option RfRun := s.rfRunAtChip n (s.chipAt raw)

/-- The interval lies in a run, between its guards (R350). -/
def RfRun.holds (r : RfRun) (from_ to_ : Nat) : Bool := decide (r.from_ + guardNs ≤ from_) && decide (to_ + guardNs ≤ r.to_)

/-- The active table as a superframe of full length, for what fits it at all (R352). -/
def State.rfTable (s : State) (n : Nat) : RfCycle :=
  ⟨0, sfNs, s.rfAct n, if s.sfState = sfTrack ∨ s.sfState = sfHold then s.fget fRFSF_SHIFT else 0⟩

/-- The active table holds a run with an entry for which `need` names a time, and which holds that time between its guards (R350,
R352). -/
def State.rfRunFits (s : State) (n : Nat) (need : Nat → Option Nat) : Bool :=
  let c := s.rfTable n
  (List.range 256).any fun i =>
    let w := s.rfApplied n c i
    match need w with
    | some air => decide (air + 2 * guardNs ≤ (s.runTo n c w 256 i - s.runFrom n c w i) * slotNs)
    | none => false

/-- The port's transmitter is enabled, and the time base valid (R65, R348, R377, R493). -/
def State.rfTxOk (s : State) (n : Nat) : Bool := s.rfOn n && s.txEnabled && s.timeValid

/-- The port may transmit by its slot table (R348, R360). -/
def State.rfMayTx (s : State) (n : Nat) : Bool :=
  s.rfTxOk n && (s.sfState = sfRoot || s.sfState = sfTrack || s.sfState = sfHold || s.sfState = sfFallback)

/-! ## Transmission (R337) -/

/-- The port transmits, or its receiver is still blind (R337). -/
def State.rfTxBusy (s : State) (n : Nat) : Bool :=
  (s.rfPort n).tx.any fun t => decide (t.from_ ≤ s.time.raw) && decide (s.time.raw < t.to_)
def State.rfBlind (s : State) (n : Nat) : Bool :=
  (s.rfPort n).tx.any fun t => decide (t.from_ ≤ s.time.raw) && decide (s.time.raw < t.to_ + 100000)

/-- Two raw intervals overlap. -/
def RfTx.meets (t : RfTx) (from_ to_ : Nat) : Bool := decide (t.from_ < to_) && decide (from_ < t.to_)

/-- Every transmission of the port, on air and ahead. -/
def State.rfTxs (s : State) (n : Nat) : List RfTx := (s.rfPort n).tx ++ (s.rfPort n).ahead.map (·.air)

/-- Nothing of the port is on air in an interval. -/
def State.rfFree (s : State) (n from_ to_ : Nat) : Bool := !(s.rfTxs n).any fun t => t.meets from_ to_

/-- Every reception in progress on a port abandoned and counted (R337, R666). -/
def State.rfAbort (s : State) (n : Nat) : State :=
  let P := s.rfPort n
  (s.setRfPort n { P with dems := [] }).bump (fRFRXABORT_COUNT n) P.dems.length

/-- The port's SEQ put into a PSDU. -/
def State.rfSeqd (s : State) (n : Nat) (psdu : List Byte) : List Byte := splice psdu 2 (beBytes 2 (s.rfPort n).seq)

/-- A PSDU from its fields, SEQ zero (R342). -/
def State.rfPsdu (s : State) (ftype : Nat) (flood ackReq : Bool) (dst : Nat) (rest : List Byte) : List Byte :=
  [BitVec.ofNat 8 (16 * ftype + 8 * b2n flood + 4 * b2n ackReq), 0, 0, 0] ++ beBytes 8 dst ++ beBytes 8 (s.fget fKEYID_EUI) ++ rest

/-- A PSDU without its FCS begins on air: receptions in progress are abandoned; group, kind and MCS, then its bytes, on the wire;
counted. -/
def State.rfEmit (s : State) (n : Nat) (air : RfTx) (group kind mcs : Nat) (psdu : List Byte) (fid : Option Nat) : State :=
  let P := s.rfPort n
  let s1 := (s.setRfPort n { P with tx := air :: P.tx.filter fun t => decide (s.time.raw < t.to_ + 100000) }).rfAbort n
  let s2 := (s1.count (fRFTXOK_COUNT n) 1).send (0x20 + n) (BitVec.ofNat 8 group :: BitVec.ofNat 8 (kind + 16 * mcs) :: psdu)
  match fid with
  | some f => s2.putTx (14 + n) f (s2.stamp (14 + n) air.from_ 125 true)
  | none => s2

/-- The port's SEQ moved on. -/
def State.rfSeqNext (s : State) (n : Nat) : State := s.setRfPort n { s.rfPort n with seq := ((s.rfPort n).seq + 1) % 2 ^ 16 }

/-- A frame that cannot go back to the head of the queue it came from. -/
def State.rfGiveBack (s : State) (n : Nat) (x : RfSend) : State :=
  match x.frame with
  | some f => s.setRfPort n { s.rfPort n with queue := f :: (s.rfPort n).queue }
  | none => s

/-- A transmission laid out ahead may begin: the port may transmit, on an enabled group, and a frame that needs it lies in its run. -/
def State.rfMayBegin (s : State) (n : Nat) (x : RfSend) : Bool :=
  s.rfMayTx n && s.rfGroupOk n x.kind x.group &&
    (match x.entry with
      | none => true
      | some w => (match s.rfRunAt n x.air.from_ with
        | some r => r.entry = w && r.holds x.air.from_ x.air.to_
        | none => false))

/-- One transmission laid out ahead, at its time. -/
def State.rfBegins (s : State) (n : Nat) (x : RfSend) : State :=
  if s.rfMayBegin n x then
    (s.rfEmit n x.air x.group x.kind x.mcs (s.rfSeqd n x.psdu) (match x.frame with | some f => f.fid | none => none)).rfSeqNext n
  else s.rfGiveBack n x

/-- The transmissions laid out ahead that have begun since. -/
def State.rfSettle (s : State) (n : Nat) : State :=
  let P := s.rfPort n
  let due := fun (x : RfSend) => decide (x.air.from_ ≤ s.time.raw)
  (P.ahead.filter due).foldl (fun u x => u.rfBegins n x) (s.setRfPort n { P with ahead := P.ahead.filter fun x => !due x })

/-- What lies ahead of a port given up: its frames wait again. -/
def State.rfRecall (s : State) (n : Nat) : State :=
  let u := s.rfSettle n
  let P := u.rfPort n
  P.ahead.foldl (fun v x => v.rfGiveBack n x) (u.setRfPort n { P with ahead := [] })

/-- Every radio transmission stopped (R65, R71, R493). -/
def State.rfCutAll (s : State) : State :=
  (List.range 6).foldl (fun u n =>
    let v := u.rfRecall n
    v.setRfPort n { v.rfPort n with tx := (v.rfPort n).tx.map fun t => { t with to_ := min t.to_ v.time.raw } }) s

/-! ## The lint trap (R366, R367) -/

def lintAddr (i : Nat) : Nat := sramBase + 0x1C40000 + 16 * i
def lintSet (orig fseq : Nat) : Nat :=
  (bits orig 0 16 ^^^ bits orig 16 16 ^^^ bits orig 32 16 ^^^ bits orig 48 16 ^^^ fseq) % 2 ^ 14

/-- Now in ms, and the age of an entry. -/
def State.rawMs (s : State) : Nat := s.time.raw / 1000000 % 2 ^ 32
def State.lintAge (s : State) (i : Nat) : Nat := (s.rawMs + 2 ^ 32 - s.peek (lintAddr i + 12) 4) % 2 ^ 32
def State.lintLive (s : State) (i : Nat) : Bool :=
  decide (s.peek (lintAddr i + 10) 1 ≠ 0) && decide (s.lintAge i < s.fget fRFFLOOD_RES * 1000)

/-- The hit of a key. -/
def State.lintHit (s : State) (orig fseq : Nat) : Option Nat :=
  ((List.range 4).map (4 * lintSet orig fseq + ·)).find? fun i =>
    s.lintLive i && s.peek (lintAddr i) 8 = orig && s.peek (lintAddr i + 8) 2 = fseq

/-- A new key entered (R367). -/
def State.lintPut (s : State) (orig fseq : Nat) : State :=
  let ways := (List.range 4).map (4 * lintSet orig fseq + ·)
  let (s1, i) := match ways.find? fun i => !s.lintLive i with
    | some i => (s, i)
    | none => (s.bump fRFLINTEVICT_COUNT 1,
        ways.foldl (fun b i => if s.lintAge b < s.lintAge i then i else b) (4 * lintSet orig fseq))
  s1.write (lintAddr i) (leBytes 8 orig ++ leBytes 2 fseq ++ [1, 0] ++ leBytes 4 s.rawMs)

/-! ## Register writes of the radio ports (R354 to R357, R360) -/

/-- A write of a slot entry (R354, R356). -/
def State.rfslotWrite (s : State) (n : Nat) (b : Bool) (i v : Nat) : State :=
  if s.rfAct n = b then s.say .csrLocked
  else if s.flag (fRFSLOTCTL_PEND n) then s.say .engineBusy
  else (s.setReg (if b then rRFSLOTB n i else rRFSLOTA n i) v).say .done

/-- A write of RFSLOTCTL (R355, R356). -/
def State.rfslotctlWrite (s : State) (n v : Nat) : State :=
  if (fRFSLOTCTL_SWAP n).of v = 0 then s.say .done
  else if s.flag (fRFSLOTCTL_PEND n) then s.say .engineBusy
  else if !s.rfBankOk n (!s.rfAct n) (s.rfProf n) then s.say .badArgument
  else ((s.setRfPort n { s.rfPort n with swapAt := s.time.raw }).setFlag (fRFSLOTCTL_PEND n) true).say .done

/-- A write of RFPROFk (R357). -/
def State.rfprofWrite (s : State) (n k v : Nat) : State :=
  let p := rfProfOf v
  if 6 ≤ p.kind ∨ (p.kind = 4 ∧ 3 < p.mcs) ∨ (p.kind = 5 ∧ 5 < p.mcs) ∨ p.pre < 4 ∨ 1000 < p.pre then s.say .badArgument
  else if !s.rfBankOk n (s.rfAct n) fun j => if j = k then p else s.rfProf n j then s.say .badArgument
  else match regRow (regGroup (rRFPROF n k / 0x10000)) (rRFPROF n k) with
    | some r => (s.setReg (rRFPROF n k) (r.written (s.reg (rRFPROF n k)) v)).say .done
    | none => s

/-- A write of RFCHMASK (R357). -/
def State.rfchmaskWrite (s : State) (n v : Nat) : State :=
  let s1 := s.fset (fRFCHMASK_CH n) v
  if s1.rfBankOk n (s.rfAct n) (s.rfProf n) then s1.say .done else s.say .badArgument

/-- Chip time steps by `S`: the superframe in progress, the next in FOLLOW and the window move along (R349). -/
def State.rfShift (s : State) (S : Int) : State :=
  let mv := fun (t : Nat) => ((t : Int) + S).toNat
  s.setRf { s.rf with start := s.rf.start.map mv, follow := s.rf.follow.map mv, win := mv s.rf.win }

/-- ACQUIRE, with nothing learned (R360). -/
def State.rfAcquire (s : State) : State :=
  ((s.setRf { s.rf with start := none, follow := none, tref := none, d := 0, n := 0 }).fset
    fRFSFSTAT_STATE sfAcquire).fset fRFSFSTAT_MISSED 0

/-- ROOT, unsynchronised until a superframe starts (R348). -/
def State.rfRealign (s : State) : State :=
  (((s.setRf { s.rf with start := none, follow := none }).fset fRFSFSTAT_STATE sfUnsync).fset
    fRFSFSTAT_MISSED 0).fset fRFSFSTAT_HOP 0

/-- The superframe begins afresh: after leaving Quiet, or by a write of MODE (R360, R377). -/
def State.rfRestart (s : State) : State := if s.flag fRFSF_MODE then s.rfAcquire else s.rfRealign

/-- Quiet: what lies ahead of the ports is given up, and the superframe and the lint trap keep no state (R77, R377). -/
def State.rfQuiet (s : State) : State :=
  let s1 := ((List.range 6).foldl (fun u n => u.rfRecall n) s).rfRealign
  (s1.setRf { s1.rf with tref := none, d := 0, n := 0 }).clearMem (sramBase + 0x1C40000) 0x100000

/-- A write of RFSF (R360, R365). -/
def State.rfsfWrite (s : State) (v : Nat) : State :=
  if fRFSF_SHIFT.of v = 0 then s.say .badArgument else
  let s1 := (((s.fset fRFSF_MODE (fRFSF_MODE.of v)).fset fRFSF_SHIFT (fRFSF_SHIFT.of v)).fset fRFSF_FBCH (fRFSF_FBCH.of v)).fset
    fRFSF_BWIN (fRFSF_BWIN.of v)
  if s1.flag fRFSF_MODE then s1.rfAcquire.say .done
  else if s.sfState = sfRoot then s1.say .done else s1.rfRealign.say .done

/-- RFSTAT as it reads. -/
def State.rfStat (s : State) (n : Nat) : Nat := b2n (s.rfTxBusy n) + 2 ^ 16 * (s.rfPort n).dems.length

end Sys2Proof.Machine
end

