-- ==== Sys2Proof/Machine/Radio.lean ====
section
/-!
DEFINITION. The radio commands: detection and delivery, acknowledgement, superframes and beacons, slot-table transmission, floods and
the lint trap, and sleepy endpoints (R332 to R377, R647, R666).
-/

namespace Sys2Proof.Machine

/-! ## Detection and delivery (R335 to R346) -/

/-- The lowest demodulator not in use. -/
def freeDemod (ds : List RfDemod) : Option Nat := (List.range 64).find? fun i => !ds.any fun d => d.idx = i

/-- One detection (R335 to R337). -/
def State.rfDetect (s : State) (n : Nat) (d : RfDet) : State :=
  let P := s.rfPort n
  if !s.rfOn n || !bit (s.fget (fRFCFG_RXKINDS n)) d.kind.val || !s.rfGroupOk n d.kind.val d.group.val || s.rfBlind n
      || P.dems.any (fun e => rfOverlap e.kind e.group d.kind.val d.group.val) then s
  else match freeDemod P.dems with
    | none => s.bump (fRFNODEM_COUNT n) 1
    | some i => s.setRfPort n { P with dems := P.dems ++ [⟨i, d.group.val, d.kind.val, s.time.raw⟩] }

/-- A detection put in its place: ascending group name, FSK before OFDM on the same name. -/
def detInsert (d : RfDet) : List RfDet → List RfDet
  | [] => [d]
  | e :: es => if 8 * d.group.val + d.kind.val ≤ 8 * e.group.val + e.kind.val then d :: e :: es else e :: detInsert d es

/-- RF_DETECTION (R336): the detections of one RFnC cycle, served in order. -/
def execRfDetection (n : Fin 6) (d : RfDet) (ds : List RfDet) (s : State) : Out := s.live <|
  .next (((d :: ds).foldr detInsert []).foldl (fun u d => u.rfDetect n.val d) (s.rfSettle n.val))

/-- The parts of a MAC frame (R342). -/
def macType (b : List Byte) : Nat := be b 0 1 / 16
def macFlood (b : List Byte) : Bool := bit (be b 0 1) 3
def macAckReq (b : List Byte) : Bool := bit (be b 0 1) 2
def macLp (b : List Byte) : Bool := bit (be b 0 1) 1
def macLpi (b : List Byte) : Nat := be b 1 1 / 32
def macSeq (b : List Byte) : Nat := be b 2 2
def macDst (b : List Byte) : Nat := be b 4 8
def macSrc (b : List Byte) : Nat := be b 12 8
def macFloodAt (b : List Byte) : Nat := if macLp b then 22 else 20
def macBodyAt (b : List Byte) : Nat := macFloodAt b + (if macFlood b then 12 else 0)
def macBody (b : List Byte) : List Byte := b.drop (macBodyAt b)

/-- The checks of R343. -/
def macOk (b : List Byte) : Bool :=
  let at_ := macFloodAt b
  let body := macBody b
  decide (20 ≤ b.length) && decide (macBodyAt b ≤ b.length) && decide (macType b ≤ 3) && !bit (be b 0 1) 0 &&
  decide (macLpi b ≠ 7) && decide (be b 1 1 % 32 = 0) && (!macFlood b || be b (at_ + 11) 1 = 0) &&
  (match macType b with
    | 1 => body.length = 56 && be body 11 1 / 8 = 0
    | 2 => body.length = 4 && be body 3 1 = 0
    | 3 => body.length = 2
    | _ => true)

/-- The receive timestamp of a raw count on a port, for a kind (R495). -/
def State.rfRxStamp (s : State) (n kind raw : Nat) : Nat :=
  s.stamp (14 + n) raw (if kind ≤ 3 then -(16000 + 2000000 / fskKb kind : Nat) else -24000) false

/-- A listen interval in ns (R342). -/
def lpiNs (lpi : Nat) : Nat := if lpi = 0 then 0 else 128000000 * 2 ^ (lpi - 1)

/-- The metadata a received frame is delivered with (R338). -/
def State.rfMeta (s : State) (n : Nat) (D : RfDemod) (h : RfHeard) : RfMeta :=
  ⟨n, D.group, D.kind, h.mcs.val, s.rfRxStamp n D.kind D.start, s.rfRxStamp n D.kind s.time.raw, h.rssi.toNat, h.snr.toNat⟩

/-- Metadata of a good frame written to its sender's neighbour entry, and its announced sample (R372, R373, R443). -/
def State.rfNoted (s : State) (n : Nat) (D : RfDemod) (h : RfHeard) : State :=
  let b := h.psdu
  let s1 := s.nbSeen (macSrc b) (4 + n) false
  match s1.nbFind (macSrc b) (4 + n) with
  | none => s1
  | some i =>
    let s2 := (((s1.nbPut i 16 1 D.group).nbPut i 17 1 (D.kind + 16 * h.mcs.val)).nbPut i 40 1 h.rssi.toNat).nbPut i 41 1 h.snr.toNat
    let lpi := macLpi b
    if !macLp b then s2 else
    let ta := s2.rfRxStamp n D.kind s2.time.raw + be b 20 2 * 62500
    let known := bit (s2.nb i 18 1) 3
    let old : Drift := ⟨if known ∧ s2.nb i 32 8 ≠ 0 then some (s2.nb i 32 8) else none, sx (s2.nb i 20 4) 32, s2.nb i 19 1⟩
    let x := if lpi = 0 then old else old.measure (lpiNs lpi) ta (s2.fget fRFLPL_DMAX)
    ((((s2.nbPut i 18 1 (lpi + 8)).nbPut i 19 1 x.n).nbPut i 20 4 (cut 32 x.d)).nbPut i 24 8 ta).nbPut i 32 8 (x.tref.getD 0)

/-- A port's active table holds a TXB run. -/
def State.rfHasTxb (s : State) (n : Nat) : Bool := (List.range 256).any fun i => slotUse (s.rfSlot n (s.rfAct n) i) = useTxb

/-- Copies of a broadcast PSDU queued on every port whose active table holds a TXB run, each made by `f` from its port and draw. -/
def State.rfSpread (s : State) (f : State → Nat → RfFrame) (draws : Nat) : State :=
  (List.range 6).foldl (fun u n =>
    if u.rfOn n && u.rfHasTxb n then
      (u.setRfPort n { u.rfPort n with queue := (u.rfPort n).queue ++ [f u n] }).drawn draws
    else u) s

/-- The relay copies of a flood (R369). -/
def State.rfRelay (s : State) (b : List Byte) : State :=
  let at_ := macFloodAt b
  let ttl := be b (at_ + 10) 1 / 16
  let hops := be b (at_ + 10) 1 % 16
  if !s.flag fRFFLOOD_RELAY ∨ ttl = 0 ∨ macDst b = s.fget fKEYID_EUI then s else
  let copy := splice (splice b 12 (beBytes 8 (s.fget fKEYID_EUI))) (at_ + 10) [BitVec.ofNat 8 (16 * (ttl - 1) + min (hops + 1) 15)]
  s.rfSpread (fun u _ => {
    use := .broadcast, dst := macDst b, psdu := copy, since := u.time.raw,
    notBefore := u.time.raw + msRaw (u.draw % (u.fget fRFFLOOD_RLYJIT + 1)), eligible := false }) 1

/-- A DATA frame's content handed on; `seen` marks a repeat (R338, R368). -/
def State.rfHand (s : State) (n : Nat) (D : RfDemod) (h : RfHeard) (seen : Bool) : State :=
  let start := s.rfRxStamp n D.kind D.start
  let body := macBody h.psdu
  let path : RxPath := {
    srckind := 2, port := 16 + n, ts := start, snr := h.snr.toNat, fold := 0, rssi := h.rssi.toNat, group := D.group,
    link := macSrc h.psdu }
  s.deliverTo {
    dest := .hw, src := 0x20 + n, stamp := start, typ := b2n seen, radio := some (s.rfMeta n D h),
    bytes := pathRecord path body.length ++ body }

/-- A DATA frame (R343, R344, R368). -/
def State.rfData (s : State) (n : Nat) (D : RfDemod) (h : RfHeard) : State :=
  let b := h.psdu
  let self := s.fget fKEYID_EUI
  let forUs := macDst b = self || macDst b = euiAll
  if !macFlood b && !forUs then s else
  let P := s.rfPort n
  let (margin, s1) := if macAckReq b ∧ macDst b = self then (cut 8 (Config.freeInt s.freeCtr), s.drawn 1) else (0, s)
  let s2 := if macAckReq b ∧ macDst b = self then s1.setRfPort n { P with owed := P.owed ++ [{
      due := s.rawOf (s.rfRxStamp n D.kind s.time.raw + 1000000), group := D.group, kind := D.kind, mcs := h.mcs.val, seq := macSeq b, dst := macSrc b, margin := margin }] }
    else s1
  if !macFlood b then s2.rfHand n D h false else
  let orig := be b (macFloodAt b) 8
  let fseq := be b (macFloodAt b + 8) 2
  match s2.lintHit orig fseq with
  | none =>
    let s3 := s2.lintPut orig fseq
    (if forUs then s3.rfHand n D h false else s3).rfRelay b
  | some i =>
    if s2.lintAge i < s2.fget fRFFLOOD_ACKHOLD * 100 then s2.bump fRFLINTDUP_COUNT 1
    else if macDst b = self then s2.rfHand n D h true else s2

/-- The MCS is one the chip supports for the kind (R339). -/
def rfMcsOk (kind mcs : Nat) : Bool := decide (kind ≤ 3) || (kind = 4 && decide (mcs ≤ 3)) || (kind = 5 && decide (mcs ≤ 5))

/-- A reception in progress may end: a frame in progress at Quiet is completed (R77). -/
def State.rfHears (s : State) (n : Nat) : Bool := s.flag (fRFCFG_EN n) && !s.fenced (24 + n) && s.serving

/-- RF_FRAME_DELIVER (R336 to R346): the reception in a demodulator ends. -/
def execRfFrameDeliver (n : Fin 6) (idx : Fin 64) (h : RfHeard) (s : State) : Out := s.live <| .next <|
  let s := s.rfSettle n.val
  let P := s.rfPort n.val
  match P.dems.find? fun d => d.idx = idx.val with
  | none => s
  | some D =>
    let s1 := s.setRfPort n.val { P with dems := P.dems.filter fun d => d.idx ≠ idx.val }
    if !h.phr then s1
    else if !h.supported || !rfMcsOk D.kind h.mcs.val then s1.bump (fRFRXERR_COUNT n.val) 1
    else if !h.fcs ∨ 1280 < h.psdu.length + (if h.fcs2 then 2 else 4) ∨ !s1.rfHears n.val then s1
    else
      let s2 := s1.count (fRFRXOK_COUNT n.val) 1
      if !macOk h.psdu then
        (s2.bump (fRFRXERR_COUNT n.val) 1).refused5 .badFrame (0x20 + n.val) n.val h.psdu.length n.val
          (if 20 ≤ h.psdu.length then macSrc h.psdu else 0)
      else
        let s3 := s2.rfNoted n.val D h
        if macType h.psdu = 0 then s3.rfData n.val D h
        else
          let m := s3.rfMeta n.val D h
          s3.deliverTo { dest := .hw, src := 0x20 + n.val, stamp := m.start, typ := 16 * macType h.psdu, radio := some m, bytes := h.psdu }

/-! ## Acknowledgement (R344, R345) -/

/-- Where an owed ACK that takes `air` ns starts: 1,000 µs after its frame's end, or where the port's own transmission in the way ends; a
beacon is no reason to wait (R345). -/
def State.rfAckAt (s : State) (n : Nat) (a : RfAck) (air : Nat) : Option Nat :=
  let txs := (s.rfTxs n).filter fun t => !t.beacon
  ((a.due :: (txs.map (·.to_)).filter (a.due ≤ ·)).filter fun x =>
    decide (x ≤ a.due + 2000000) && !txs.any fun t => t.meets x (x + air)).min?

/-- The beacon that the port's active table sends in a superframe that starts at chip time `st` (R359). -/
def State.rfBeaconAir (s : State) (n st : Nat) : RfTx :=
  let p := s.rfProf n (slotProf (s.rfSlot n (s.rfAct n) 0))
  let x := s.rawOf (st + guardNs)
  ⟨x, x + rfAir p (76 + p.fcs), true⟩

/-- A raw interval overlaps a beacon transmission of the port, or a beacon window (R345, R361). -/
def State.rfBeaconClash (s : State) (n from_ to_ : Nat) : Bool :=
  let beacons := slotUse (s.rfSlot n (s.rfAct n) 0) = useBeacon && s.rfMayTx n &&
    (s.rf.start.toList ++ s.sfNext.toList).any fun st => (s.rfBeaconAir n st).meets from_ to_
  let half := s.fget fRFSF_BWIN * 100000
  let win := s.sfState = sfTrack && RfTx.meets ⟨s.rawOf (s.rf.win - half), s.rawOf (s.rf.win + half), true⟩ from_ to_
  beacons || win

/-- A frame for a device waits somewhere in the chip: on a port, or in the message layer (R342). -/
def State.rfHolds (s : State) (dst : Nat) : Bool :=
  let mine := fun (p : RxPath) => p.peer.isNone && p.chip.isNone && p.link = dst
  ((List.range 6).any fun n => (s.rfPort n).queue.any (fun f => f.dst = dst) ||
    (s.rfPort n).ahead.any fun x => match x.frame with | some f => f.dst = dst | none => false) ||
  s.kep.out.any (fun f => f.link = dst) ||
  s.kep.down.any (fun d => mine d.path || (!d.slot && s.epiEui d.key = dst)) ||
  s.kep.acks.any fun j => mine j.path || s.epiEui j.epi = dst

/-- RF_ACK_SEND (R344, R345): the first ACK owed, at the moment it must start. -/
def execRfAckSend (n : Fin 6) (s : State) : Out := s.live <| .next <|
  let s := s.rfSettle n.val
  let P := s.rfPort n.val
  match P.owed with
  | [] => s
  | a :: rest =>
    let air := rfAir ⟨a.kind, a.mcs, false, 4, 8⟩ 28
    let skip := (s.setRfPort n.val { P with owed := rest }).bump (fRFACKSKIP_COUNT n.val) 1
    match s.rfAckAt n.val a air with
    | none => skip
    | some x =>
      if a.due + 2000000 < s.time.raw ∨ s.rfBeaconClash n.val x (x + air) then skip
      else if s.time.raw ≠ x ∨ !s.rfTxOk n.val ∨ !s.rfGroupOk n.val a.kind a.group then s
      else
        let psdu := splice (s.rfPsdu 2 false false a.dst
          [BitVec.ofNat 8 a.margin, BitVec.ofNat 8 (b2n (s.rfHolds a.dst)), BitVec.ofNat 8 a.group, 0]) 2 (beBytes 2 a.seq)
        (s.setRfPort n.val { P with owed := rest }).rfEmit n.val ⟨x, x + air, false⟩ a.group a.kind a.mcs psdu none

/-! ## Superframes and beacons (R348, R349, R356, R359 to R365) -/

/-- The beacon a port sends (R359). -/
def State.rfBeaconBody (s : State) (n start : Nat) : List Byte :=
  let st := s.sfState
  let following := st = sfTrack || st = sfHold
  let map := (List.range 32).map fun k => BitVec.ofNat 8 ((List.range 8).foldl (fun v i =>
    2 * v + b2n (slotUse (s.rfSlot n (s.rfAct n) (8 * k + i)) ≠ 0)) 0)
  beBytes 2 (s.fget fRFCELL_CELL) ++ beBytes 8 (if following then s.fget fRFFOLLOW_EUI else s.fget fKEYID_EUI) ++
  [BitVec.ofNat 8 (s.fget fRFSFSTAT_HOP), BitVec.ofNat 8 (b2n s.timeValid + 2 * b2n (st = sfHold) + 4 * b2n (st = sfFallback))] ++
  beBytes 4 (s.fget fRFSFN_SFN) ++ beBytes 8 start ++ map

/-- BEACON_SEND on one port, laid out for 500 µs into the superframe (R359). -/
def State.rfBeacon (s : State) (n start : Nat) : State :=
  let w := s.rfSlot n (s.rfAct n) 0
  let p := s.rfProf n (slotProf w)
  let P := s.rfPort n
  if slotUse w ≠ useBeacon ∨ !s.rfMayTx n then s else
  s.setRfPort n { P with ahead := P.ahead ++ [{
    air := s.rfBeaconAir n start, group := if s.sfState = sfFallback && P.fbOk then s.fget fRFSF_FBCH else slotCh w,
    kind := p.kind, mcs := p.mcs, psdu := s.rfPsdu 1 false false euiAll (s.rfBeaconBody n start) }] }

/-- A superframe starts: pending swaps take effect, SFN is set, beacons are due (R348, R356, R359). -/
def State.rfBegin (s : State) (start len sfn : Nat) : State :=
  let s1 := (s.setRf { s.rf with start := some start, len := len }).fset fRFSFN_SFN sfn
  (List.range 6).foldl (fun u n =>
    let v := if u.flag (fRFSLOTCTL_PEND n) ∧ (u.rfPort n).swapAt + 2000 ≤ u.rawOf start then
        (u.setFlag (fRFSLOTCTL_ACT n) (!u.rfAct n)).setFlag (fRFSLOTCTL_PEND n) false
      else u
    (v.rfBeacon n start).rfSettle n) s1

/-- The chip becomes a fallback root (R360); RFSF.FBCH is checked under R355 for each port. -/
def State.rfFallback (s : State) : State :=
  let s1 := (s.fset fRFSFSTAT_STATE sfFallback).fset fRFSFSTAT_HOP 0
  (List.range 6).foldl (fun u n =>
    let w := setBits (u.rfSlot n (u.rfAct n) 0) 4 7 (u.fget fRFSF_FBCH)
    u.setRfPort n { u.rfPort n with fbOk := u.rfEntryOk n (u.rfProf n) 0 w }) s1

/-- SUPERFRAME_START in ROOT: the last aligned instant, when no superframe runs or the next one is due (R348, R349). -/
def State.rfRootStart (s : State) : State :=
  let off := (s.fget fRFSFOFF_OFFSET : Int)
  if !s.timeValid || decide (s.chip < s.sfNext.getD 0) then s else
  let start := s.chip - (((s.chip : Int) - off) % (sfNs : Int)).toNat
  ((s.fset fRFSFSTAT_STATE sfRoot).fset fRFSFSTAT_HOP 0).rfBegin start sfNs (cut 32 (((start : Int) - off) / (sfNs : Int)))

/-- SUPERFRAME_START in FOLLOW; after 8 superframes in HOLD the chip goes on as a fallback root (R360, R364). -/
def State.rfFollowStart (s : State) (start : Nat) : State :=
  if s.chip < start then s else
  let sfn := s.rf.nextSfn
  let s1 := if s.sfState = sfHold ∧ 9 ≤ s.sfHeld sfn then s.rfFallback else s
  (s1.setRf { s1.rf with follow := some (start + s1.sfLen), nextSfn := (sfn + 1) % 2 ^ 32 }).rfBegin start s1.sfLen sfn

/-- SUPERFRAME_START (R348, R349, R356, R360, R364). -/
def execSuperframeStart (s : State) : Out := s.live <| .next <|
  if !s.serving || s.quiet then s else
  let u := (List.range 6).foldl (fun u n => u.rfSettle n) s
  if !u.sfFollows then u.rfRootStart
  else match u.rf.follow with
    | none => u
    | some start => u.rfFollowStart start

/-- A beacon's start lies in the window of TRACK (R361). -/
def State.rfInWindow (s : State) (t : Nat) : Bool :=
  let half := s.fget fRFSF_BWIN * 100000
  decide (s.rf.win ≤ t + half) && decide (t ≤ s.rf.win + half)

/-- BEACON_RECEIVE (R360, R361, R363 to R365): a beacon whose FCS passed, which began `ago` ns before now. -/
def execBeaconReceive (psdu : List Byte) (ago : Nat) (s : State) : Out := s.live <| .next <|
  let b := macBody psdu
  let st := s.sfState
  if !s.serving || s.quiet || !macOk psdu || decide (macType psdu ≠ 1) || decide (be b 2 8 ≠ s.fget fRFFOLLOW_EUI) then s
  else if st = sfFallback then s.setFlag fRFSFSTAT_SEEN true
  else if decide (be b 0 2 ≠ s.fget fRFCELL_CELL) || decide (14 < be b 10 1) then s
  else
    let ta := s.chipAt (s.time.raw - ago)
    if st = sfAcquire ∨ st = sfHold ∨ (st = sfTrack ∧ macSrc psdu = s.fget fRFPARENT_EUI ∧ s.rfInWindow ta) then
      let old : Drift := if st = sfAcquire ∨ macSrc psdu ≠ s.fget fRFPARENT_EUI then ⟨none, 0, 0⟩ else ⟨s.rf.tref, s.rf.d, s.rf.n⟩
      let x := old.measure sfNs ta (s.fget fRFLPL_DMAX)
      let sfn := be b 12 4
      let s1 := s.setRf { s.rf with
        follow := some (ta - guardNs + s.fget fRFSF_SHIFT * slotNs), nextSfn := sfn, win := ta + sfNs, winSfn := (sfn + 1) % 2 ^ 32,
        tref := x.tref, d := x.d, n := x.n }
      (((s1.fset fRFSFSTAT_STATE sfTrack).fset fRFSFSTAT_MISSED 0).fset fRFSFSTAT_HOP (be b 10 1 + 1)).fset fRFPARENT_EUI (macSrc psdu)
    else s

/-- BEACON_WINDOW_CLOSE (R360, R361): in TRACK, the window closes without the parent's beacon; the third in a row begins HOLD. -/
def execBeaconWindowClose (s : State) : Out := s.live <| .next <|
  if !s.serving || s.quiet || decide (s.sfState ≠ sfTrack) || decide (s.chip < s.rf.win + s.fget fRFSF_BWIN * 100000) then s else
  let missed := s.fget fRFSFSTAT_MISSED + 1
  let s1 := ((s.setRf { s.rf with win := s.rf.win + sfNs, winSfn := (s.rf.winSfn + 1) % 2 ^ 32 }).fset fRFSFSTAT_MISSED missed).bump
    fRFBMISS_COUNT 1
  if 3 ≤ missed then (s1.setRf { s1.rf with holdSfn := s.rf.winSfn }).fset fRFSFSTAT_STATE sfHold else s1

/-! ## Transmission by the slot table (R350 to R352, R369 to R371, R427) -/

/-- A flood this chip originates: the next FSEQ is used up and its key entered in the lint trap (R370). -/
def State.rfFlood (s : State) (dst : Nat) (payload : List Byte) : State × List Byte :=
  let self := s.fget fKEYID_EUI
  let fseq := s.fget fRFFSEQ_FSEQ
  ((s.fset fRFFSEQ_FSEQ (fseq + 1)).lintPut self fseq,
    s.rfPsdu 0 true false dst (beBytes 8 self ++ beBytes 2 fseq ++ [BitVec.ofNat 8 (16 * s.fget fRFFLOOD_TTL), 0] ++ payload))

/-- A frame the message layer has handed on, queued on a port: a unicast leaves on the group of its destination's last frame, or, an ACK,
of the frame it answers (R372, R386); a broadcast under a group key is a flood (R422); a setpoint broadcast is none (R427). -/
def State.rfTake (s : State) (n : Nat) (f : PortFrame) : State :=
  let dst := if 2 ≤ f.kind then euiAll else f.link
  let (u, psdu) := if f.kind = 2 then s.rfFlood dst f.frame else (s, s.rfPsdu 0 false false dst f.frame)
  let group := if f.kind = 0 then f.group else match s.nbFind f.link (4 + n) with
    | some i => s.nb i 16 1
    | none => f.group
  let P := u.rfPort n
  u.setRfPort n { P with queue := P.queue ++ [{
    use := if f.kind = 3 then .setpoint else if f.kind = 2 then .broadcast else .unicast, dst := dst, psdu := psdu, since := f.since,
    group := if 2 ≤ f.kind then none else some group, fid := f.fid, own := decide (f.kind = 2),
    notBefore := if f.notBefore ≤ s.chip then s.time.raw else s.rawOf f.notBefore, ack := decide (f.kind = 0), ackBy := f.ackBy }] }

/-- A frame handed on is for this port: named, or left to the chip, which finds the destination only on it. -/
def State.rfMine (s : State) (n : Nat) (f : PortFrame) : Bool :=
  f.port = 16 + n || (f.port = 0xFF && (s.plPortFor f).isNone && (s.nbFind f.link (4 + n)).isSome)

/-- The frames the message layer has handed to a port, taken into its queue. -/
def State.rfPull (s : State) (n : Nat) : State :=
  (s.kep.out.filter (s.rfMine n)).foldl (fun u f => u.rfTake n f)
    (s.setKep { s.kep with out := s.kep.out.filter fun f => !s.rfMine n f })

/-- USE a frame needs. -/
def RfFrame.useOf (f : RfFrame) : Nat := match f.use with
  | .unicast => useTxu
  | .broadcast => useTxb
  | .setpoint => useTxs

/-- A unicast to a device that sleeps (R372). An ACK goes in the first TXU run in which it fits (R386). -/
def State.rfSleepy (s : State) (n : Nat) (f : RfFrame) : Bool :=
  match f.use, f.ack with
  | .unicast, false => (match s.nbFind f.dst (4 + n) with
    | some i => decide (s.nb i 18 1 % 8 ≠ 0)
    | none => false)
  | _, _ => false

/-- The slot in progress, counted so that no two slots of one run of the chip share a number. -/
def State.rfSlotNo (s : State) : Nat := match s.rf.start with
  | some st => 256 * s.fget fRFSFN_SFN + (s.chip - st) / slotNs
  | none => 0

/-- A queued frame's airtime under a profile. -/
def rfFrameAir (p : RfProf) (f : RfFrame) : Nat := rfAir p (f.psdu.length + p.fcs)

/-- A queued frame can start now in a run (R333, R350, R352, R370, R386). -/
def State.rfCanSend (s : State) (n : Nat) (r : RfRun) (f : RfFrame) : Bool :=
  let prof := s.rfProf n (slotProf r.entry)
  let raw := s.time.raw
  let to_ := raw + rfFrameAir prof f
  f.useOf = slotUse r.entry && f.eligible && decide (f.notBefore ≤ raw) && !s.rfSleepy n f &&
  (f.group.isNone || f.group = some (slotCh r.entry)) && s.rfGroupOk n prof.kind (slotCh r.entry) &&
  r.holds raw to_ && s.rfFree n raw to_ && (f.use ≠ .setpoint || decide (f.since ≤ r.from_)) &&
  (!f.own || (s.rfPort n).floodSlot ≠ s.rfSlotNo + 1) && decide (raw ≤ f.ackBy.getD raw)

/-- Scheduled start of a queued frame: the moment from which it may go. -/
def RfFrame.sched (f : RfFrame) : Nat := max f.since f.notBefore

/-- The frame that starts first: in a TXU run by scheduled start, else by queue order (R352). -/
def rfFirst (txu : Bool) : List RfFrame → Option RfFrame
  | [] => none
  | f :: fs => match rfFirst txu fs with
    | some g => if txu && decide (g.sched < f.sched) then some g else some f
    | none => some f

/-- RF_RUN_TRANSMIT (R352). -/
def execRfRunTransmit (n : Fin 6) (s : State) : Out := s.live <| .next <|
  let s := (s.rfSettle n.val).rfPull n.val
  let P := s.rfPort n.val
  match s.rfRunAt n.val s.time.raw with
  | none => s
  | some r =>
    match rfFirst (slotUse r.entry = useTxu) (P.queue.filter (s.rfCanSend n.val r)) with
    | some f =>
      let prof := s.rfProf n.val (slotProf r.entry)
      if !s.rfMayTx n.val then s else
      let s1 := s.setRfPort n.val { P with
        queue := P.queue.erase f, floodSlot := if f.own then s.rfSlotNo + 1 else P.floodSlot }
      (s1.rfEmit n.val ⟨s.time.raw, s.time.raw + rfFrameAir prof f, false⟩ (slotCh r.entry) prof.kind prof.mcs
        (s1.rfSeqd n.val f.psdu) f.fid).rfSeqNext n.val
    | none => s

/-! ## Sleepy endpoints (R374 to R376) -/

/-- A sleepy transmission: start and end in raw counts, FSK preamble octets or the number of WAKE frames, and the run's entry. -/
structure SleepyPlan where
  from_ : Nat
  to_ : Nat
  pre : Nat
  wakes : Nat
  entry : Nat
  deriving DecidableEq, Repr

/-- The slot entry is a TXU one on the group, kind and rate that the endpoint of neighbour entry `i` listens on (R372, R376). -/
def State.rfListens (s : State) (n i w : Nat) : Bool :=
  let p := s.rfProf n (slotProf w)
  slotUse w = useTxu && slotCh w = s.nb i 16 1 && p.kind = s.nb i 17 1 % 8 && (decide (p.kind ≤ 3) || p.mcs = s.nb i 17 1 / 16) &&
    s.rfGroupOk n p.kind (slotCh w)

/-- How a window of `win` ns is covered under a profile: preamble octets, WAKE frames, and the ns of the whole sequence with a data
frame of `len` bytes (R375). -/
def sleepyCover (p : RfProf) (len win : Nat) : Nat × Nat × Nat :=
  let kb := fskKb p.kind
  let wake := rfAir p (22 + p.fcs)
  if p.kind ≤ 3 ∧ win * kb ≤ 1000 * 8000000 then
    let pre := max 4 ((win * kb + 7999999) / 8000000)
    (pre, 0, rfAir { p with pre := pre } (len + p.fcs))
  else
    let wakes := (win + wake + wake - 1) / wake
    (p.pre, wakes, wakes * wake + 1000000 + rfAir p (len + p.fcs))

/-- The sequence that covers a window of `win` ns from a raw count, when a TXU run of the endpoint's group, kind and rate holds all
of it and nothing else of the port is on air in it (R375, R376). -/
def State.sleepyAt (s : State) (n i len raw win : Nat) : Option SleepyPlan :=
  match s.rfRunAt n raw with
  | none => none
  | some r =>
    let (pre, wakes, ns) := sleepyCover (s.rfProf n (slotProf r.entry)) len win
    if s.rfListens n i r.entry && r.holds raw (raw + ns) && s.rfFree n raw (raw + ns) then some ⟨raw, raw + ns, pre, wakes, r.entry⟩
    else none

/-- Listen interval of a neighbour entry, and the bound of its drift (R374). -/
def State.nbLpi (s : State) (i : Nat) : Nat := lpiNs (s.nb i 18 1 % 8)
def State.nbBound (s : State) (i : Nat) : Nat := if s.nb i 19 1 < 4 then s.fget fRFLPL_DMAX else s.fget fRFLPL_RESID

/-- t_s and window of the endpoint's sample `m` after its last announced one (R374). -/
def State.sleepyWindow (s : State) (i m : Nat) : Int × Nat :=
  let gap := (stretched (s.nbLpi i) m (sx (s.nb i 20 4) 32)).toNat
  let u := gap * s.nbBound i / 16000000 + s.fget fRFLPT_JIT * 1000
  let margin := s.fget fRFLPT_MARGIN * 1000
  ((s.nb i 24 8 : Int) + gap - u - margin / 2, 2 * u + margin)

/-- A sample before which none meets t_s ≥ now + 1 ms: u is at least bound / 16,000,000 of the time since t_a. -/
def State.sleepyFrom (s : State) (i : Nat) : Nat :=
  let d := sx (s.nb i 20 4) 32
  let ahead : Int := (s.chip : Int) + 1000000 + s.fget fRFLPT_JIT * 1000 + s.fget fRFLPT_MARGIN * 1000 / 2 - s.nb i 24 8
  max 1 ((ahead - 2) * 16000000 * 16000000 / ((16000000 - (s.nbBound i : Int)) * (16000000 + d) * s.nbLpi i)).toNat

/-- The first of the endpoint's samples, from sample `m` on, that a run can cover (R374, R376). -/
def State.sleepyKnown (s : State) (n i len : Nat) : Nat → Nat → Option SleepyPlan
  | 0, _ => none
  | fuel + 1, m =>
    let (ts, win) := s.sleepyWindow i m
    match if ts < s.chip + 1000000 then none else s.sleepyAt n i len (s.rawOf ts.toNat) win with
    | some p => some p
    | none => State.sleepyKnown s n i len fuel (m + 1)

/-- Moments at which a sequence could begin: 500 µs into each run of the coming superframes, now, and where a transmission of the port
ends. -/
def State.sleepyStarts (s : State) (n : Nat) : List Nat :=
  let runs := (s.rfCycles n 2).flatMap fun c => (List.range 256).filterMap fun k =>
    if k = 0 ∨ s.rfApplied n c k ≠ s.rfApplied n c (k - 1) then some (s.rawOf (c.start + k * slotNs) + guardNs) else none
  (s.time.raw :: runs ++ (s.rfTxs n).map (·.to_)).filter (s.time.raw ≤ ·)

/-- The earlier of two plans. -/
def SleepyPlan.first (a b : Option SleepyPlan) : Option SleepyPlan :=
  match a, b with
  | some p, some q => if q.from_ < p.from_ then some q else some p
  | some p, none => some p
  | none, b => b

/-- The plan for a unicast to a sleepy endpoint: its samples where its phase is known, else the earliest instant at which a fitting run
allows a whole listen interval (R374, R376). -/
def State.sleepyPlan (s : State) (n i len : Nat) : Option SleepyPlan :=
  if bit (s.nb i 18 1) 3 then s.sleepyKnown n i len 400 (s.sleepyFrom i)
  else ((s.sleepyStarts n).map fun x => s.sleepyAt n i len x (s.nbLpi i + s.fget fRFLPT_MARGIN * 1000)).foldl SleepyPlan.first none

/-- The transmissions of a plan: its WAKE frames, each with the time from its end to the data frame, then the data frame (R342,
R375). -/
def State.sleepySends (s : State) (n : Nat) (f : RfFrame) (p : SleepyPlan) : List RfSend :=
  let prof := s.rfProf n (slotProf p.entry)
  let wake := rfAir prof (22 + prof.fcs)
  let data := if p.wakes = 0 then p.from_ else p.from_ + p.wakes * wake + 1000000
  let mk := fun (a b : Nat) (psdu : List Byte) (fr : Option RfFrame) =>
    ({ air := ⟨a, b, false⟩, group := slotCh p.entry, kind := prof.kind, mcs := prof.mcs, psdu := psdu, entry := some p.entry,
       frame := fr } : RfSend)
  ((List.range p.wakes).map fun k =>
    let at_ := p.from_ + k * wake
    mk at_ (at_ + wake) (s.rfPsdu 3 false false f.dst (beBytes 2 ((data - (at_ + wake)) / 62500))) none) ++
  [mk data p.to_ f.psdu (some f)]

/-- The plan of a queued frame, when its destination sleeps. -/
def State.rfSleepPlan (s : State) (n : Nat) (f : RfFrame) : Option SleepyPlan :=
  if !s.rfSleepy n f then none else
  match s.nbFind f.dst (4 + n) with
  | some i => s.sleepyPlan n i f.psdu.length
  | none => none

/-- Of the sleepy frames of a queue, the one whose sequence begins first (R352). -/
def State.sleepyPick (s : State) (n : Nat) : List RfFrame → Option (RfFrame × SleepyPlan)
  | [] => none
  | f :: fs => match s.rfSleepPlan n f, State.sleepyPick s n fs with
    | some p, some (g, q) => if q.from_ < p.from_ then some (g, q) else some (f, p)
    | some p, none => some (f, p)
    | none, r => r

/-- SLEEPY_SEND (R374 to R376): the next sequence to a sleepy endpoint is laid out; its frames go on air at their times. -/
def execSleepySend (n : Fin 6) (s : State) : Out := s.live <| .next <|
  let s := (s.rfSettle n.val).rfPull n.val
  let P := s.rfPort n.val
  if !s.rfMayTx n.val then s else
  match s.sleepyPick n.val P.queue with
  | some (f, p) =>
    (s.setRfPort n.val { P with queue := P.queue.erase f, ahead := P.ahead ++ s.sleepySends n.val f p }).rfSettle n.val
  | none => s

/-! ## Queues, floods, sweeps -/

/-- A frame fits no run of its USE in the active table (R352). -/
def State.rfHopeless (s : State) (n : Nat) (f : RfFrame) : Bool :=
  let plain := fun (w : Nat) =>
    if slotUse w = f.useOf ∧ (f.group.isNone ∨ f.group = some (slotCh w)) then some (rfFrameAir (s.rfProf n (slotProf w)) f) else none
  let sleepy := fun (i w : Nat) =>
    let win := if bit (s.nb i 18 1) 3 then (s.sleepyWindow i (s.sleepyFrom i)).2 else s.nbLpi i + s.fget fRFLPT_MARGIN * 1000
    if s.rfListens n i w then some (sleepyCover (s.rfProf n (slotProf w)) f.psdu.length win).2.2 else none
  !s.rfRunFits n (match s.rfSleepy n f, s.nbFind f.dst (4 + n) with
    | true, some i => sleepy i
    | _, _ => plain)

/-- RF_TX_TIMEOUT (R352). -/
def execRfTxTimeout (n : Fin 6) (s : State) : Out := s.live <| .next <|
  let s := (s.rfSettle n.val).rfPull n.val
  let P := s.rfPort n.val
  let late := fun (f : RfFrame) => decide (f.since + secRaw (s.fget fRFFLOOD_RES) ≤ s.time.raw) || s.rfHopeless n.val f
  (s.setRfPort n.val { P with queue := P.queue.filter fun f => !late f }).bump (fRFTXDROP_COUNT n.val) (P.queue.filter late).length

/-- SLOT_SWAP_REQUEST (R355, R356). -/
def execSlotSwapRequest (a : Agent) (n : Fin 6) (s : State) : Out := s.live <|
  .next (s.asAgent a (rRFSLOTCTL n.val) fun t => t.rfslotctlWrite n.val 1)

/-- FLOOD_RELAY_ELIGIBLE (R369): the relay copy at a place of a port's queue. -/
def execFloodRelayEligible (n : Fin 6) (k : Nat) (s : State) : Out := s.live <| .next <|
  let P := s.rfPort n.val
  match P.queue[k]? with
  | some f => if f.notBefore ≤ s.time.raw then s.setRfPort n.val { P with queue := P.queue.set k { f with eligible := true } } else s
  | none => s

/-- FLOOD_ORIGINATE (R370): a DATA flood of this chip. -/
def execFloodOriginate (dst : DWord) (payload : List Byte) (s : State) : Out := s.live <| .next <|
  if !s.serving || s.quiet then s else
  let (s1, psdu) := s.rfFlood dst.toNat payload
  s1.rfSpread (fun u _ => { use := .broadcast, dst := dst.toNat, psdu := psdu, since := u.time.raw, own := true }) 0

/-- LINT_TRAP_SWEEP (R647). -/
def execLintTrapSweep (s : State) : Out := s.live <| .next <|
  if s.time.raw < s.rf.sweptAt + secRaw 60 then s else
  let s1 := s.setRf { s.rf with sweptAt := s.time.raw }
  (List.range 65536).foldl (fun u i =>
    if u.peek (lintAddr i + 10) 1 ≠ 0 ∧ u.fget fRFFLOOD_RES * 1000 < u.lintAge i then u.poke (lintAddr i + 10) 1 0 else u) s1

/-- RF_REALIGN (R666). -/
def execRfRealign (n : Fin 6) (s : State) : Out := s.live <| .next ((s.rfSettle n.val).rfAbort n.val)

end Sys2Proof.Machine
end

