-- ==== Sys2Proof/Machine/Handed.lean ====
section
/-!
DEFINITION. ACKs and relayed records that did not start in time: dropped where they wait, in the message layer or in the queue of a
powerline or radio port (R386, R406).
-/

namespace Sys2Proof.Machine

/-- A deadline has passed. -/
def late (by_ : Option Nat) (raw : Nat) : Bool := match by_ with
  | some d => decide (d < raw)
  | none => false

/-- The frames of a radio port's queue that did not start in time dropped; `ack` selects ACKs, else relayed records. -/
def State.rfLate (ack : Bool) (s : State) (n : Nat) : State × Nat :=
  let P := s.rfPort n
  let out := fun (f : RfFrame) => f.ack = ack && late f.ackBy s.time.raw
  (s.setRfPort n { P with queue := P.queue.filter fun f => !out f }, (P.queue.filter out).length)

/-- Likewise of a powerline port; a frame that has been on air once has started. -/
def State.plLate (ack : Bool) (s : State) (p : Nat) : State × Nat :=
  let P := s.plPort p
  let busy := if P.tx.isSome then 1 else 0
  let out := fun (f : PlFrame) => f.tries = 0 && f.ack = ack && late f.ackBy s.time.raw
  let rest := P.queue.drop busy
  (s.setPlPort p { P with queue := P.queue.take busy ++ rest.filter fun f => !out f }, (rest.filter out).length)

/-- Likewise of the frames handed on that no port has taken yet. -/
def State.outLate (ack : Bool) (s : State) : State × Nat :=
  let out := fun (f : PortFrame) => decide (f.kind = 0) = ack && late f.ackBy s.time.raw
  (s.setKep { s.kep with out := s.kep.out.filter fun f => !out f }, (s.kep.out.filter out).length)

/-- Every frame handed on that did not start in time dropped, and their number. -/
def State.handedLate (s : State) (ack : Bool) : State × Nat :=
  let r0 := s.outLate ack
  let r1 := (List.range 6).foldl (fun r n => let q := r.1.rfLate ack n; (q.1, r.2 + q.2)) r0
  (List.range 12).foldl (fun r p => let q := r.1.plLate ack p; (q.1, r.2 + q.2)) r1

/-- KEP_ACK_DROP (R386): ACK number `n` of those waiting; a number beyond them stands for the ACKs handed on to a port. -/
def execKepAckDrop (n : Nat) (s : State) : Out := s.live <|
  match s.kep.acks[n]? with
  | none => .next ((s.handedLate true).1.bump fKEPACKDROP_COUNT (s.handedLate true).2)
  | some j => .next (if s.pastAckWin j.since then (s.setAcks (dropAt n s.kep.acks)).bump fKEPACKDROP_COUNT 1 else s)

/-- RELAY_DOWNLINK_TRANSMIT (R406): DIR 1 record number `n` of those waiting; a number beyond them stands for the records handed on to a
port. -/
def execRelayDownlinkTransmit (n : Nat) (s : State) : Out := s.live <|
  match s.kep.rel[n]? with
  | none => .next ((s.handedLate false).1.bump fRELTXDROP_COUNT (s.handedLate false).2)
  | some j =>
    let s1 := s.setKep { s.kep with rel := dropAt n s.kep.rel }
    if s.pastAckWin j.since then .next (s1.bump fRELTXDROP_COUNT 1)
    else if s.chip < j.path.ts ∨ !s.txEnabled then .next s
    else .next (s1.egress j.path j.frame 1 (some (j.since + msRaw (s.fget fKEPCFG_ACKWIN))))

end Sys2Proof.Machine
end

