-- ==== Sys2Proof/Machine/KeyCmd.lean ====
section
/-!
DEFINITION. The key commands: KEYCMD and its operations, authorisation records and attestation (R543 to R549, R559, R685, R686).
-/

namespace Sys2Proof.Machine

def opGen : Nat := 1
def opInvalidate : Nat := 2
def opSetpub : Nat := 3
def opPubout : Nat := 4
def opImport : Nat := 5
def opExport : Nat := 6
def opGenpkt : Nat := 7
def opImportpkt : Nat := 8
def opRewrap : Nat := 9
def opAttest : Nat := 10
def opAuth : Nat := 11

/-- KEYCMD permitted in the mode (R685). -/
def State.keyMode (s : State) (op : Nat) : Bool :=
  if s.mode = modeBoot then false
  else if s.mode = modeCommission then op ≠ opGenpkt && op ≠ opImportpkt && op ≠ opRewrap
  else true

/-- The identity EUI-64. -/
def State.eui (s : State) : Nat := s.fget fKEYID_EUI

/-! ## Slots written -/

/-- The store key, drawn anew when the store holds no secret key (R540). -/
def State.needStoreKey (s : State) : State :=
  if s.key.storeKey.isSome && s.key.slots.any fun e => secretType e.2.typ then s
  else (s.setKey { s.key with storeKey := some s.draw }).drawn 1

/-- A slot made valid; ERASED clears when it is slot 0 (R566). -/
def State.fillSlot (s : State) (n : Nat) (k : KeySlot) : State :=
  let s1 := if secretType k.typ then s.needStoreKey else s
  let s2 := s1.setSlot n k
  if n = 0 then s2.setFlag fTMPSTAT_ERASED false else s2

/-- The reservation entry of a slot that GEN or IMPORT writes (R686). -/
def State.slotResvClear (s : State) (n : Nat) : State := (((s.poke (slotResvAddr n) 8 0).setSlotTx n 0).setSlotCeil n 0)

/-- A non-zero 32-bit KID from a draw (R542). -/
def kidOf (d : Nat) : Nat := 1 + d % (2 ^ 32 - 1)

/-- The lowest free public-key cell. -/
def State.freeCell (s : State) : Option Nat :=
  (List.range 64).find? fun c => !(s.key.slots.any fun e => publicType e.2.typ && e.2.cell = c)

/-- A slot invalidated; a public key frees its cell (R543). -/
def State.dropSlot (s : State) (n : Nat) : State :=
  let k := s.slot n
  let s1 := if publicType k.typ then s.setCell k.cell [] else s
  s1.setSlot n {}

/-- Slots 1 and 6 to 15 are reserved (R541). -/
def reservedSlot (n : Nat) : Bool := n = 1 || (6 ≤ n && n ≤ 15)

/-! ## Blobs and pockets -/

/-- A key blob's TYPE, MASK, KID and wrap (R546). -/
def State.blobAt (s : State) (a : Nat) : Nat × Nat × Nat × Nat :=
  (s.peek a 1, s.peek (a + 1) 1, be (s.bytes a 8) 4 4, matBytes (s.peek a 1) + 8)

/-- A wrapping key's material (R543): KEY_EMPTY, KEY_DENIED. -/
def State.wrapKey (s : State) (n : Nat) : Status × List Byte := ((s.deliver n mWrap).1, (s.deliver n mWrap).2.mat)

/-- A blob at `a` unwrapped with a wrapping key (R546). -/
def State.blobOpen (s : State) (a : Nat) (kek : List Byte) : Option (List Byte) :=
  let (t, m, kid, n) := s.blobAt a
  (kwUnwrap (nats kek) (blobIv t m kid) (nats (s.bytes (a + 8) n))).map ofNats

/-- A pocket written whole for an endpoint, with its reservation entry (R547, R549, R686). -/
def State.pocketPut (s : State) (epi : Nat) (parent : Nat) (ptype mask : Nat) (mat : List Byte) : State :=
  let k := s.slot parent
  let p : Pocket := {
    parent := parent, ptype := ptype, mask := mask, pkid := k.kid, owner := epi, v := 1,
    wrap := ofNats (kwWrap (nats k.mat) (pocketIv ptype mask epi) (nats mat)) }
  s.write (s.pktAddr epi) p.bytes

/-- The masks a pocket's child may carry (R547). -/
def childMaskOk (m : Nat) : Bool := maskOff m 0x8F = 0

/-! ## Commands -/

/-- The operands of a key command. -/
structure KeyArg where
  slot : Nat
  pslot : Nat
  typ : Nat
  mask : Nat
  epi : Nat
  addr : Nat

def State.keyArg (s : State) : KeyArg :=
  { slot := s.fget fKEYARG_SLOT, pslot := s.fget fKEYARG_PSLOT, typ := s.fget fKEYARG_TYPE, mask := s.fget fKEYARG_MASK,
    epi := s.fget fKEYARG_EPI, addr := s.fget fKEYARG_ADDR }

/-- The result of a key command or of one of its checks. -/
abbrev KRes := Status × State

/-- A source range is mapped and clean. -/
def State.srcOk (s : State) (a n : Nat) : Option Status :=
  if !s.engineRange a n then some .badAddress else if s.poisonedIn a n then some .poisoned else none

/-- ARGDIGEST of an armed command equals the digest of what it takes (R545). -/
def State.argOk (s : State) (op slot : Nat) (b : List Byte) : Bool :=
  match s.key.armed with
  | some (o, n, d) => !(o = op && n = slot) || d = sha3_256 b
  | none => true

/-- GEN (R543, R686). -/
def State.keyGen (s : State) (g : KeyArg) : KRes :=
  if s.slotValid g.slot ∨ !secretType g.typ ∨ !maskOk g.typ g.mask then (.badArgument, s)
  else if s.key.entropyBad then (.engineFault, s)
  else
    let mat := leBytes (matBytes g.typ) s.draw
    let kid := kidOf (Config.freeDraw (s.freeCtr + 1))
    (.done, (((s.drawn 2).fillSlot g.slot { typ := g.typ, mask := g.mask, kid := kid, mat := mat }).slotResvClear g.slot))

/-- INVALIDATE (R543). -/
def State.keyInvalidate (s : State) (g : KeyArg) : KRes :=
  if !s.slotValid g.slot then (.keyEmpty, s) else (.done, s.dropSlot g.slot)

/-- SETPUB (R543). -/
def State.keySetpub (s : State) (g : KeyArg) : KRes :=
  let n := matBytes g.typ
  if s.slotValid g.slot ∨ !publicType g.typ ∨ !maskOk g.typ g.mask then (.badArgument, s) else
  match s.srcOk g.addr n with
  | some st => (st, s)
  | none =>
    let b := s.bytes g.addr n
    if !s.argOk opSetpub g.slot b then (.badArgument, s) else
    match s.freeCell with
    | none => (.tableFull, s)
    | some c => (.done, ((s.drawn 1).setCell c b).fillSlot g.slot
        { typ := g.typ, mask := g.mask, kid := kidOf s.draw, cell := c, dig := sha3_256 b })

/-- PUBOUT (R543). -/
def State.keyPubout (s : State) (g : KeyArg) : KRes :=
  let k := s.slot g.slot
  let n := if k.typ = ktDsaPriv then matBytes ktDsaPub else if k.typ = ktKemPriv then matBytes ktKemPub else matBytes k.typ
  if k.typ = 0 then (.keyEmpty, s)
  else if k.typ < 4 then (.badArgument, s)
  else if !s.engineRange g.addr n then (.badAddress, s)
  else if publicType k.typ ∧ sha3_256 (s.cellOf k.cell) ≠ k.dig then (.keyDenied, s)
  else (.done, s.write g.addr (sub (s.publicOf k) 0 n))

/-- IMPORT (R543, R546, R686). -/
def State.keyImport (s : State) (g : KeyArg) : KRes :=
  if s.slotValid g.slot then (.badArgument, s) else
  match s.srcOk g.addr 8 with
  | some st => (st, s)
  | none =>
    let (t, m, kid, n) := s.blobAt g.addr
    if !secretType t ∨ !maskOk t m then (.badArgument, s) else
    match s.srcOk g.addr (8 + n) with
    | some st => (st, s)
    | none =>
      if !s.argOk opImport g.slot (s.bytes g.addr (8 + n)) then (.badArgument, s) else
      match s.wrapKey g.pslot with
      | (.done, kek) =>
        match s.blobOpen g.addr kek with
        | none => (.tagFail, s)
        | some mat => (.done, (s.fillSlot g.slot { typ := t, mask := m, kid := kid, mat := mat }).slotResvClear g.slot)
      | (st, _) => (st, s)

/-- EXPORT (R543, R546). -/
def State.keyExport (s : State) (g : KeyArg) : KRes :=
  match s.deliver g.slot mExport with
  | (.done, k) =>
    match s.wrapKey g.pslot with
    | (.done, kek) =>
      let blob := leBytes 1 k.typ ++ leBytes 1 k.mask ++ leBytes 2 0 ++ beBytes 4 k.kid ++
        ofNats (kwWrap (nats kek) (blobIv k.typ k.mask k.kid) (nats k.mat))
      if !s.engineRange g.addr blob.length then (.badAddress, s) else (.done, s.write g.addr blob)
    | (st, _) => (st, s)
  | (st, _) => (st, s)

/-- GENPKT (R543, R547, R686). -/
def State.keyGenpkt (s : State) (g : KeyArg) : KRes :=
  if (g.typ ≠ 1 ∧ g.typ ≠ 2) ∨ !childMaskOk g.mask then (.badArgument, s) else
  match s.wrapKey g.pslot with
  | (.done, _) =>
    if s.key.entropyBad then (.engineFault, s)
    else if !s.inDa (s.pktAddr g.epi) 64 then (.badAddress, s)
    else (.done, ((s.drawn 1).pocketPut g.epi g.pslot g.typ g.mask (leBytes 32 s.draw)).poke (resvAddr g.epi) 8 0)
  | (st, _) => (st, s)

/-- IMPORTPKT (R543, R547, R686). -/
def State.keyImportpkt (s : State) (g : KeyArg) : KRes :=
  match s.srcOk g.addr 48 with
  | some st => (st, s)
  | none =>
    let t := s.peek g.addr 1
    let m := s.peek (g.addr + 1) 1
    if (t ≠ 1 ∧ t ≠ 2) ∨ !childMaskOk m then (.badArgument, s) else
    match s.wrapKey g.slot, s.wrapKey g.pslot with
    | (.done, kek), (.done, _) =>
      if !s.inDa (s.pktAddr g.epi) 64 then (.badAddress, s) else
      match kwUnwrap (nats kek) (blobIv t m (be (s.bytes g.addr 8) 4 4)) (nats (s.bytes (g.addr + 8) 40)) with
      | none => (.tagFail, s)
      | some mat => (.done, (s.pocketPut g.epi g.pslot t m (ofNats mat)).poke (resvAddr g.epi) 8 0)
    | (.done, _), (st, _) => (st, s)
    | (st, _), _ => (st, s)

/-- REWRAP (R543, R549): the pocket, and the pending key when SFLAGS bit 3 is set. -/
def State.keyRewrap (s : State) (g : KeyArg) : KRes :=
  if !s.inDa (s.pktAddr g.epi) 64 then (.badAddress, s) else
  let p := s.pocket g.epi
  let pend := bit (s.sflags g.epi) sfPending
  match s.unwrapAs p p.wrap with
  | (.done, m, _) =>
    match s.wrapKey g.pslot with
    | (.done, kek) =>
      if pend then
        match s.unwrapAs p (s.bytes (s.secAddr g.epi + 40) 40) with
        | (.done, pm, _) => (.done, (s.pocketPut g.epi g.pslot p.ptype p.mask m).write (s.secAddr g.epi + 40)
            (ofNats (kwWrap (nats kek) (pocketIv p.ptype p.mask g.epi) (nats pm))))
        | (st, _, f) => (st, s.unwrapFail f)
      else (.done, s.pocketPut g.epi g.pslot p.ptype p.mask m)
    | (st, _) => (st, s)
  | (st, _, f) => (st, s.unwrapFail f)

/-! ## Attestation (R559) -/

/-- The slot of the running image, and its header. -/
def State.runSlot (s : State) : Nat := s.fget fUPDSTAT_RUN
def State.slotHdr (s : State) (n : Nat) : List Byte := s.upd.hdrs.get noBytes n

/-- SHA3-512 over each LDGPRGn followed by its activation record's DIGEST. -/
def State.progsDigest (s : State) : List Byte :=
  sha3_512 ((List.range 16).flatMap fun i =>
    leBytes 16 (s.reg (rLDGPRG i)) ++ (if s.progState i = psEmpty then List.replicate 64 0 else sub (s.prog i).digest 0 64))

/-- SHA3-256 over the valid slots in ascending order. -/
def State.slotsDigest (s : State) : List Byte :=
  sha3_256 (s.key.slots.flatMap fun e =>
    leBytes 2 e.1 ++ leBytes 1 e.2.typ ++ leBytes 1 e.2.mask ++ leBytes 4 e.2.kid ++
      (if publicType e.2.typ then sub e.2.dig 0 32 else List.replicate 32 0))

/-- Bytes 0 to 255 of an attestation statement. -/
def State.attestBody (s : State) : List Byte :=
  let r := s.runSlot
  leBytes 4 0x41545354 ++ leBytes 1 1 ++ leBytes 1 s.life ++
  leBytes 2 (b2n (s.flag fSYSSTAT_SEAM) + 2 * b2n (s.flag fTWNSTAT_ACTOUT) + 4 * b2n (s.flag fTMPSTAT_ERASED)
    + 8 * b2n (s.fget (fUPDSLOT_STATE r) = 4)) ++
  leBytes 8 s.eui ++ leBytes 4 (s.reg rCHIPID) ++ leBytes 2 (s.fget fUPDFUSE_EPOCH) ++ leBytes 2 (s.fget (fUPDSLOT_SETFMT r)) ++
  leBytes 4 (s.fget (fUPDSLOT_VERSION r)) ++ leBytes 4 s.pcc ++ leBytes 4 s.opt ++ leBytes 4 (s.reg rTMPSTAT) ++
  leBytes 8 (s.chip % 2 ^ 63 + 2 ^ 63 * b2n (!s.timeValid)) ++ leBytes 32 (s.reg rKEYNONCE) ++
  sub (s.slotHdr r) 160 64 ++ s.progsDigest ++ s.slotsDigest ++ List.replicate 16 0

/-- ATTEST (R559). -/
def State.keyAttest (s : State) (g : KeyArg) : KRes :=
  if !s.engineRange g.addr 4883 then (.badAddress, s)
  else if s.fenced 8 ∨ s.fenced 9 then (.fenced, s)
  else
    match s.signWith 0 s.attestBody ctxAtt with
    | (.done, sig) => (.done, (s.drawn 1).write g.addr (s.attestBody ++ sig))
    | (st, _) => (st, s.drawn 1)

/-! ## Authorisation (R544, R545) -/

/-- MAGIC, FORMAT and the zero fields of an authorisation record. -/
def authShape (b : List Byte) : Bool :=
  let op := le b 5 1
  le b 0 4 = 0x4B415554 && le b 4 1 = 1 && ((1 ≤ op && op ≤ 11) || op = 0x80 || op = 0x81)
    && (!(op = 0x80 || op = 0x81) || le b 6 2 = 0)
    && (!(op = 1 || op = 2 || op = 0x80 || op = 0x81) || le b 24 32 = 0)
    && le b 56 8 = 0

/-- AUTH (R545). -/
def State.keyAuth (s : State) (g : KeyArg) : KRes :=
  match s.srcOk g.addr 4691 with
  | some st => (st, s)
  | none =>
    let b := s.bytes g.addr 4691
    if !authShape b then (.badFormat, s)
    else if !s.slotValid 4 then (.keyEmpty, s)
    else if s.fenced 9 ∨ s.fenced 8 then (.fenced, s)
    else
      let st := s.verifyWith 4 (b.take 64) ctxNone (b.drop 64)
      let s1 := s.countVerify st
      if st ≠ .done then (st, s1)
      else if le b 8 8 ≠ s.eui then (.badArgument, s1)
      else if le b 16 8 ≤ s.fget fKEYAUTHSEQ_SEQ then (.replay, s1)
      else (.done, ((s1.fset fKEYAUTHSEQ_SEQ (le b 16 8)).setKey
          { s1.key with armed := some (le b 5 1, le b 6 2, sub b 24 32) }).setFlag fKEYSTAT_ARMED true)

/-! ## KEYCMD -/

/-- The arming ended (R544). -/
def State.disarm (s : State) : State := (s.setKey { s.key with armed := none }).setFlag fKEYSTAT_ARMED false

/-- The arming covers an OP and slot. -/
def State.armedFor (s : State) (op slot : Nat) : Bool :=
  match s.key.armed with
  | some (o, n, _) => o = op && n = slot
  | none => false

/-- Commands whose ADDR must be aligned. -/
def opHasAddr (op : Nat) : Bool :=
  op = opSetpub || op = opPubout || op = opImport || op = opExport || op = opImportpkt || op = opAttest || op = opAuth

/-- Commands that target a slot named by SLOT (R541). -/
def opHasSlot (op : Nat) : Bool := 1 ≤ op && op ≤ 6

/-- GEN, INVALIDATE, SETPUB and IMPORT (R544). -/
def opGuarded (op : Nat) : Bool := op = opGen || op = opInvalidate || op = opSetpub || op = opImport

/-- A key command's work, its preliminary checks passed. -/
def State.keyRun (s : State) (op : Nat) (g : KeyArg) : KRes :=
  if op = opGen then s.keyGen g
  else if op = opInvalidate then s.keyInvalidate g
  else if op = opSetpub then s.keySetpub g
  else if op = opPubout then s.keyPubout g
  else if op = opImport then s.keyImport g
  else if op = opExport then s.keyExport g
  else if op = opGenpkt then s.keyGenpkt g
  else if op = opImportpkt then s.keyImportpkt g
  else if op = opRewrap then s.keyRewrap g
  else if op = opAttest then s.keyAttest g
  else s.keyAuth g

/-- Bytes that a key command reads at ADDR. -/
def State.keySrcLen (s : State) (op : Nat) (g : KeyArg) : Nat :=
  if op = opSetpub then matBytes g.typ
  else if op = opImport then 8 + (s.blobAt g.addr).2.2.2
  else if op = opImportpkt then 48
  else if op = opAuth then 4691
  else 0

/-- A status of a key command that has read its source. -/
def keyHasRead (st : Status) : Bool :=
  st = .done || st = .poisoned || st = .tagFail || st = .badFormat || st = .sigFail || st = .replay

/-- A key command's work, with what the read of its source leaves behind (R47, R48). -/
def State.keyWork (s : State) (op : Nat) (g : KeyArg) : KRes :=
  let r := s.keyRun op g
  (r.1, if keyHasRead r.1 then r.2.touch g.addr (s.keySrcLen op g) else r.2)

/-- The checks of a KEYCMD write, then its work (R541, R543, R544, R685). -/
def State.keyCheck (s : State) (op : Nat) : KRes :=
  let g := s.keyArg
  if op = 0 ∨ 11 < op then (.badArgument, s)
  else if !s.keyMode op then (.modeDenied, s)
  else if s.key.armed.isSome ∧ !s.armedFor op g.slot then (.lcDenied, s)
  else if opHasSlot op ∧ reservedSlot g.slot then (.badArgument, s)
  else if opGuarded op ∧ g.slot < 16 ∧ (s.life = lifeProvisioned ∨ s.life = lifeField) ∧ !s.armedFor op g.slot then (.lcDenied, s)
  else if opHasAddr op ∧ g.addr % 64 ≠ 0 then (.badAlign, s)
  else s.keyWork op g

/-- A write of KEYCMD: the command runs to its end, its status goes to KEYSTAT.STATUS, and an arming that stood before it is used
up; an AUTH that succeeds arms anew (R543 to R545). -/
def State.keyCmd (s : State) (op : Nat) : State :=
  let was := s.key.armed.isSome
  let (st, t) := s.keyCheck op
  let t1 := if was ∧ !(op = opAuth ∧ st = .done) then t.disarm else t
  (t1.fset fKEYSTAT_STATUS st.code).say st

/-- GEN (R543). -/
def execGen (a : Agent) (s : State) : Out := s.live <| .next (s.asAgent a rKEYCMD fun t => t.keyCmd opGen)
/-- INVALIDATE (R543). -/
def execInvalidate (a : Agent) (s : State) : Out := s.live <| .next (s.asAgent a rKEYCMD fun t => t.keyCmd opInvalidate)
/-- SETPUB (R543). -/
def execSetpub (a : Agent) (s : State) : Out := s.live <| .next (s.asAgent a rKEYCMD fun t => t.keyCmd opSetpub)
/-- PUBOUT (R543). -/
def execPubout (a : Agent) (s : State) : Out := s.live <| .next (s.asAgent a rKEYCMD fun t => t.keyCmd opPubout)
/-- IMPORT (R546). -/
def execImport (a : Agent) (s : State) : Out := s.live <| .next (s.asAgent a rKEYCMD fun t => t.keyCmd opImport)
/-- EXPORT (R543). -/
def execExport (a : Agent) (s : State) : Out := s.live <| .next (s.asAgent a rKEYCMD fun t => t.keyCmd opExport)
/-- GENPKT (R686). -/
def execGenpkt (a : Agent) (s : State) : Out := s.live <| .next (s.asAgent a rKEYCMD fun t => t.keyCmd opGenpkt)
/-- IMPORTPKT (R686). -/
def execImportpkt (a : Agent) (s : State) : Out := s.live <| .next (s.asAgent a rKEYCMD fun t => t.keyCmd opImportpkt)
/-- REWRAP (R549). -/
def execRewrap (a : Agent) (s : State) : Out := s.live <| .next (s.asAgent a rKEYCMD fun t => t.keyCmd opRewrap)
/-- ATTEST (R559). -/
def execAttest (a : Agent) (s : State) : Out := s.live <| .next (s.asAgent a rKEYCMD fun t => t.keyCmd opAttest)
/-- AUTH (R545). -/
def execAuth (a : Agent) (s : State) : Out := s.live <| .next (s.asAgent a rKEYCMD fun t => t.keyCmd opAuth)

end Sys2Proof.Machine
end

