-- ==== Sys2Proof/Machine/Engines.lean ====
section
/-!
DEFINITION. Software jobs of the SHA3, ML-DSA-87 and ML-KEM-1024 engines (R553 to R558, R685).
-/

namespace Sys2Proof.Machine

/-- The fields of a job (R553). -/
structure EngJob where
  op : Nat
  endBit : Nat
  slot : Nat
  dslot : Nat
  outlen : Nat
  dmask : Nat
  len : Nat
  src : Nat
  job : Nat
  dst : Nat

def EngJob.parse (d : List GReg) : EngJob :=
  { op := bits (descW d 0) 0 4, endBit := bits (descW d 0) 31 1, slot := bits (descW d 1) 0 12, dslot := bits (descW d 1) 16 12,
    outlen := bits (descW d 2) 0 16, dmask := bits (descW d 2) 16 8, len := bits (descW d 3) 0 24,
    src := descW d 4 + 2 ^ 32 * bits (descW d 5) 0 16, job := bits (descW d 5) 16 16,
    dst := descW d 6 + 2 ^ 32 * bits (descW d 7) 0 16 }

/-- A job's end: its status, the state and the bytes it wrote. -/
abbrev JobEnd := Status × State × Nat

/-- The source read whole, or why not (R411, R558). -/
def State.jobSrc (s : State) (a n : Nat) : Status × State × List Byte :=
  if !s.engineRange a n then (.badAddress, s, []) else
  let t := s.touch a n
  if t.poisonedIn a n then (.poisoned, t, []) else (.done, t, t.bytes a n)

/-- A result put at its destination. -/
def State.jobOut (s : State) (a : Nat) (out : List Byte) : JobEnd :=
  if !s.engineRange a out.length then (.badAddress, s, 0) else (.done, s.write a out, out.length)

/-- A SHA3 job (R554). -/
def State.shaJob (s : State) (j : EngJob) : JobEnd :=
  if 3 < j.op ∨ (2 ≤ j.op ∧ j.outlen = 0) then (.badArgument, s, 0) else
  match s.jobSrc j.src j.len with
  | (.done, t, m) => t.jobOut j.dst
      (if j.op = 0 then sha3_256 m else if j.op = 1 then sha3_512 m else if j.op = 2 then shake128 m j.outlen else shake256 m j.outlen)
  | (st, t, _) => (st, t, 0)

/-- An ML-DSA-87 job (R554 to R556). -/
def State.dsaJob (s : State) (j : EngJob) : JobEnd :=
  if j.op = 0 then
    match s.jobSrc j.src j.len with
    | (.done, t, m) =>
      if !t.engineRange j.dst sigBytes then (.badAddress, t, 0) else
      match t.signWith j.slot m ctxNone with
      | (.done, sig) => (t.drawn 1).jobOut j.dst sig
      | (st, _) => (st, t.drawn 1, 0)
    | (st, t, _) => (st, t, 0)
  else if j.op = 1 then
    match s.jobSrc j.src (j.len + sigBytes) with
    | (.done, t, m) =>
      let st := t.verifyWith j.slot (m.take j.len) ctxNone (m.drop j.len)
      (st, t.countVerify st, 0)
    | (st, t, _) => (st, t, 0)
  else (.badArgument, s, 0)

/-- DSLOT may not take a secret (R557, R544, R541). -/
def State.dslotBad (s : State) (j : EngJob) : Bool :=
  s.slotValid j.dslot || reservedSlot j.dslot || !maskOk ktAes256 j.dmask
    || (j.dslot < 16 && (s.life = lifeProvisioned || s.life = lifeField))

/-- A KEM secret put into DSLOT as an AES-256 key with a KID drawn for it (R542, R554). -/
def State.kemSecret (s : State) (j : EngJob) (secret : List Byte) : State :=
  (s.drawn 1).fillSlot j.dslot { typ := ktAes256, mask := j.dmask, kid := kidOf s.draw, mat := sub secret 0 32 }

/-- An ML-KEM-1024 job (R554, R557). -/
def State.kemJob (s : State) (j : EngJob) : JobEnd :=
  if 1 < j.op ∨ s.dslotBad j then (.badArgument, s, 0)
  else match s.deliver j.slot mKem with
    | (.done, k) =>
      if j.op = 0 then
        if k.typ ≠ ktKemPub then (.badArgument, s, 0)
        else if !s.engineRange j.dst 1568 then (.badAddress, s, 0)
        else
          let (ct, secret) := Config.kemEncaps (s.publicOf k) s.draw
          let t := (s.drawn 1).kemSecret j secret
          t.jobOut j.dst (sub ct 0 1568)
      else if k.typ ≠ ktKemPriv then (.badArgument, s, 0)
      else match s.jobSrc j.src 1568 with
        | (.done, t, ct) => (.done, t.kemSecret j (Config.kemDecaps k.mat ct), 0)
        | (st, t, _) => (st, t, 0)
    | (st, _) => (st, s, 0)

/-- An engine takes the oldest job of its JOBQ when its OP is one of the row's, and completes it on its DONEQ (R413, R553, R685);
`unit` is its bit of FENCE_STAT. -/
def State.engRow (s : State) (rowOp : Nat → Bool) (unit jq dq : Nat) (en : Bool) (run : State → EngJob → JobEnd) : State :=
  if !en ∨ s.fenced unit ∨ s.holdsDone dq 0 then s else
  match s.frontJob jq with
  | none => s
  | some d =>
    let j := EngJob.parse d
    if !rowOp j.op then s else
    let s1 := s.dequeued jq
    let (st, t, n) := if !s.engineMode then (Status.modeDenied, s1, 0)
      else if j.endBit ≠ 1 then (.badArgument, s1, 0) else run s1 j
    t.hwEnqueue dq (doneDesc st 0 j.job n)

def State.shaRow (s : State) (rowOp : Nat → Bool) : State :=
  s.engRow rowOp 8 (s.fget fSHACFG_JOBQ) (s.fget fSHACFG_DONEQ) (s.flag fSHACFG_EN) State.shaJob
def State.dsaRow (s : State) (rowOp : Nat → Bool) : State :=
  s.engRow rowOp 9 (s.fget fDSACFG_JOBQ) (s.fget fDSACFG_DONEQ) (s.flag fDSACFG_EN) State.dsaJob
def State.kemRow (s : State) (rowOp : Nat → Bool) : State :=
  s.engRow rowOp 10 (s.fget fKEMCFG_JOBQ) (s.fget fKEMCFG_DONEQ) (s.flag fKEMCFG_EN) State.kemJob

/-! ## Jobs cut short by a tamper alarm (R412, R558, R563) -/

/-- A job queue, its completion queue, whether jobs are taken, the engine's bit of FENCE_STAT and its number among those that share the
queue. -/
structure EngSeat where
  jq : Nat
  dq : Nat
  en : Bool
  fence : Nat
  num : Nat

/-- The seat of an engine: AE0 to AE3, then the SHA3, ML-DSA-87 and ML-KEM-1024 engines. -/
def State.engSeat (s : State) (unit : Nat) : EngSeat :=
  if unit < 4 then ⟨s.fget fAESCFG_JOBQ, s.fget fAESCFG_DONEQ, s.flag fAESCFG_EN, 4 + unit, unit⟩
  else if unit = 4 then ⟨s.fget fSHACFG_JOBQ, s.fget fSHACFG_DONEQ, s.flag fSHACFG_EN, 8, 0⟩
  else if unit = 5 then ⟨s.fget fDSACFG_JOBQ, s.fget fDSACFG_DONEQ, s.flag fDSACFG_EN, 9, 0⟩
  else ⟨s.fget fKEMCFG_JOBQ, s.fget fKEMCFG_DONEQ, s.flag fKEMCFG_EN, 10, 0⟩

/-- Most bytes a job of an engine writes. -/
def engOutLen (unit : Nat) (d : List GReg) : Nat :=
  let j := EngJob.parse d
  if unit < 4 then (AesJob.parse d).outLen
  else if unit = 4 then (if j.op = 0 then 32 else if j.op = 1 then 64 else j.outlen)
  else if j.op ≠ 0 then 0
  else if unit = 5 then sigBytes else 1568

/-- An engine drops the job it had taken: the bytes it had written are zeroed, and it completes with ALARM (R412). -/
def State.engAbort (s : State) (x : EngBusy) : State :=
  let e := s.engSeat x.unit.val
  if !e.en ∨ s.fenced e.fence ∨ s.holdsDone e.dq e.num then s else
  match s.frontJob e.jq with
  | none => s
  | some d =>
    let j := EngJob.parse d
    let n := min x.wrote (engOutLen x.unit.val d)
    let s1 := s.dequeued e.jq
    let s2 := if s1.engineRange j.dst n then s1.write j.dst (List.replicate n 0) else s1
    let s3 := if x.unit.val < 4 then (s2.bump fAESALARM_COUNT 1).aeCount e.num true else s2
    s3.hwEnqueue e.dq (doneDesc .alarm e.num j.job 0)

/-- Every engine that was at a job aborts it, one job each. -/
def State.engAborts (s : State) (busy : List EngBusy) : State :=
  (List.range 7).foldl (fun t u => match busy.find? (·.unit.val = u) with
    | some x => t.engAbort x
    | none => t) s

/-- SHA3_256: OP 0, and an OP outside R554's table, which completes with BAD_ARGUMENT. -/
def execSha3x256 (s : State) : Out := s.live <| .next (s.shaRow fun o => o = 0 || decide (3 < o))
/-- SHA3_512: OP 1. -/
def execSha3x512 (s : State) : Out := s.live <| .next (s.shaRow (· = 1))
/-- SHAKE128: OP 2. -/
def execShake128 (s : State) : Out := s.live <| .next (s.shaRow (· = 2))
/-- SHAKE256: OP 3. -/
def execShake256 (s : State) : Out := s.live <| .next (s.shaRow (· = 3))
/-- SIGN: OP 0 of the ML-DSA-87 engine, and an OP outside R554's table. -/
def execSign (s : State) : Out := s.live <| .next (s.dsaRow fun o => o = 0 || decide (1 < o))
/-- VERIFY: OP 1. -/
def execVerify (s : State) : Out := s.live <| .next (s.dsaRow (· = 1))
/-- ENCAPS: OP 0 of the ML-KEM-1024 engine, and an OP outside R554's table. -/
def execEncaps (s : State) : Out := s.live <| .next (s.kemRow fun o => o = 0 || decide (1 < o))
/-- DECAPS: OP 1. -/
def execDecaps (s : State) : Out := s.live <| .next (s.kemRow (· = 1))

end Sys2Proof.Machine
end

