-- ==== Sys2Proof/Machine/Duneb.lean ====
section
/-!
DEFINITION. The receiving side of the Duneb links, link bring-up, the seam map and bucket moves (R451 to R469, R533, R534).
-/

namespace Sys2Proof.Machine

/-- A session datagram of a chip of the set sent to the collector from the port that carries the sessions: from REPCFG.PORT for the
chip's own, from REPCFG.PORT + 1 + CHIP for another chip's (R479). -/
def State.sesDgram (s : State) (chip : Option Nat) (d : List Byte) : State :=
  let sport := match chip with
    | none => s.fget fREPCFG_PORT
    | some c => (s.fget fREPCFG_PORT + 1 + c) % 65536
  s.udpOut (some s.ses.port) (s.fget fREPDEST_ADDR) sport (s.fget fREPDPORT_DPORT) d

/-! ## Links going down, and resends (R454, R456) -/

/-- The TYPEs of the messages whose cells are listed, once each. -/
def cellTypes (l : List DlCell) : List Nat := (l.foldl (fun (acc : List (Nat × Nat)) c =>
  if acc.contains (c.msgid, c.typ) then acc else (c.msgid, c.typ) :: acc) []).map (·.2)

/-- A link goes down: its buffers are discarded, its undelivered messages reported, UP falls (R456); DL3 of a twin counts its grace
from here (R518, R520). -/
def State.dlDown (s : State) (k : Nat) : State :=
  if !s.dlUp k then s else
  let d := s.dl k
  let lost := cellTypes (d.retry.map (·.2) ++ d.backlog)
  let s1 := ((s.setDl k {}).setDun { (s.setDl k {}).dun with undelivered := lost ++ s.dun.undelivered }).setFlag (fDLSTAT_UP k) false
  let s2 := (s1.setFlag (fDLSTAT_LOCK k) false).bump (fDLDOWN_COUNT k) 1
  if k = 3 then s2.setTwn { s2.twn with downAt := some s2.time.raw } else s2

/-- Every cell after ASEQ sent again, in order; after RETRYMAX resends in a row without progress the link goes down (R454). -/
def State.dlResend (s : State) (k : Nat) : State :=
  let d := s.dl k
  if d.retry.isEmpty then s
  else if s.fget (fDLCFG_RETRYMAX k) ≤ d.resends then s.dlDown k
  else
    let s1 := (s.setDl k { d with resends := d.resends + 1, progAt := s.time.raw }).bump (fDLREPLAY_COUNT k) 1
    d.retry.foldl (fun t c => t.dlCell k c.1 c.2) s1

/-- DUNEB_RETRY_TIMEOUT (R454): RTO nanoseconds without progress of ASEQ. -/
def execDunebRetryTimeout (k : Fin 4) (s : State) : Out := s.live <|
  .next (if s.dlUp k.val && decide ((s.dl k.val).progAt + s.fget (fDLCFG_RTO k.val) ≤ s.time.raw) then s.dlResend k.val else s)

/-- DUNEB_LINK_DOWN (R456). -/
def execDunebLinkDown (k : Fin 4) (s : State) : Out := s.live <| .next (s.dlDown k.val)

/-! ## HELLO (R459, R463) -/

/-- A HELLO of `k` applied: the link comes up when NCHIPS and SELF match, or MISWIRE sets. -/
def State.helloApply (s : State) (k : Nat) (b : List Byte) : State :=
  let far := be b 0 1
  let n := s.fget fSEMCFG_NCHIPS
  let ok := be b 1 1 = n && (if k = 3 then far = s.self else far = s.self ^^^ 2 ^ k && decide (far < n))
  if !ok then (s.dlDown k).setFlag (fDLSTAT_MISWIRE k) true else
  let epoch := be b 4 4
  let dig := be b 16 8
  let was := s.dlUp k
  let d := if was then s.dl k else {}
  let s1 := s.setDl k { d with farEpoch := epoch, farDig := dig, farSide := bits (be b 2 1) 1 1 }
  let s2 := ((((s1.setFlag (fDLSTAT_UP k) true).setFlag (fDLSTAT_LOCK k) true).setFlag (fDLSTAT_MISWIRE k) false).fset
    (fDLSTAT_FAR k) far).setFlag (fDLSTAT_FARSTBY k) (bit (be b 2 1) 0)
  let s3 := if k = 3 then s2.setTwn { s2.twn with downAt := none } else s2
  let s4 := if was then s3 else s3.dlMsg k 2 false s3.self 0x7F s3.helloBody []
  let own := s4.fget fSEMEPOCH_EPOCH
  if own < epoch ∨ (own = epoch ∧ s4.mapDig < dig) then
    (s4.setFlag (fDLSTAT_EPOCHDIFF k) true).dlMsg k 2 false far 0x04 [0x01] []
  else s4

/-- HELLO (R459): a HELLO received on an enabled link during bring-up or after a change of the far end's map. -/
def execHello (k : Fin 4) (b : List Byte) (s : State) : Out := s.live <|
  if !s.flag (fDLCFG_EN k.val) ∨ s.fenced (16 + k.val) ∨ b.length ≠ 24 then .next s else .next (s.helloApply k.val b)

/-- DLCFG.EN written: a link newly enabled sends its HELLO, outside the numbering of cells, which begins when the link is up
(notes/assumptions/8.md); a link no longer enabled goes down. -/
def State.dlTrain (s : State) (k : Nat) (was : Bool) : State :=
  if was && !s.flag (fDLCFG_EN k) then s.dlDown k
  else if !was && s.flag (fDLCFG_EN k) && !s.fenced (16 + k) then
    (s.setDun { s.dun with msgid := (s.dun.msgid + 1) % 2 ^ 32 }).dlCell k (s.draw % 4096)
      { cls := 2, det := false, sop := true, eop := true, dst := s.self, src := s.self, typ := 0x7F, msgid := s.dun.msgid, payload := s.helloBody }
  else s

/-! ## Messages received (R452, R464, R479) -/

/-- A whole message for this chip. FRAME, SEAM, MOVE and shadow messages are taken up by steps of their own; an EGRESS frame goes to
its port; a BATCH datagram goes northbound or to this chip's session engine; a neighbour that asks for the seam map gets it in a
SEAM message (R463); a CTRL message that is an IPv6 packet is looked up again. -/
def State.dlDeliver (s : State) (k : Nat) (m : List DlCell) : State :=
  match m with
  | [] => s
  | c :: _ =>
    let b := m.flatMap (·.payload)
    let give := fun (d : Dest) => s.deliverTo { dest := d, src := 0x32 + k, typ := c.typ, bytes := b }
    if c.typ = 0x02 then
      s.egress (pathParse b) (b.drop 24) (if be b 25 1 = mtAck then 0 else if (pathParse b).link = euiAll then 2 else 1) none
    else if c.typ = 0x03 then
      if s.fget fREPDPORT_UPLINK ≠ s.self && s.fget fREPDPORT_UPLINK = c.src then give .session else s.sesDgram (some c.src) b
    else if c.typ = 0x04 ∧ b = [0x01] then
      s.chipSend c.src 2 0x04 (s.bytes (seamAddr 0) 16384) []
    else if c.typ = 0x06 then
      if bits (be b 0 1) 4 4 = 6 && decide (40 ≤ b.length) then s.pfxForward 0 none b else give .controlFw
    else if c.typ = 0x07 then give .mgmtFw
    else if c.typ = 0x7F then s.helloApply k b
    else give .hw

/-- A whole message for another chip goes on (R460, R461, R533); with no link for it, it is reported undelivered. -/
def State.dlForward (s : State) (k : Nat) (m : List DlCell) : State :=
  match m with
  | [] => s
  | c :: _ =>
    let route := if c.dst = s.self then some (3, true) else s.dlRoute c.dst (c.det || k = 3)
    match route with
    | none => s.setDun { s.dun with undelivered := c.typ :: s.dun.undelivered }
    | some (j, det) =>
      if !s.dlUp j then s.setDun { s.dun with undelivered := c.typ :: s.dun.undelivered } else
      (s.setDl j { s.dl j with backlog := (s.dl j).backlog ++ m.map fun x => { x with det := det } }).dlPump j

/-- A standby hands on what arrives for SELF on DL0 to DL2; any other cell for SELF is this chip's (R533). -/
def State.dlMine (s : State) (k dst : Nat) : Bool := dst = s.self && !(s.isStandby && decide (k < 3))

/-! ## Cells received (R450 to R455, R457) -/

/-- A cell read from its 88 bytes; `bad` names the granules whose check byte shows an uncorrectable error (R457). -/
def parseCell (b : List Byte) (bad : List (Fin 8)) : DlCell :=
  let n := be b 3 1
  { cls := bits (be b 0 1) 6 2, det := bit (be b 0 1) 5, sop := bit (be b 0 1) 4, eop := bit (be b 0 1) 3,
    dst := bits (be b 1 1) 5 3, src := bits (be b 1 1) 2 3, typ := be b 2 1, msgid := be b 4 4, payload := sub b 8 n,
    poison := (bad.filter fun g => decide (8 * g.val < n)).map (·.val) }

/-- The class a TYPE belongs to; none for a reserved TYPE (R452, R512). -/
def typeClass (t : Nat) : Option Nat :=
  if t = 0x01 ∨ t = 0x02 then some 0
  else if t = 0x03 ∨ t = 0x05 ∨ (0x08 ≤ t ∧ t ≤ 0x0C) then some 1
  else if t = 0x04 ∨ t = 0x06 ∨ (0x0D ≤ t ∧ t ≤ 0x0F) ∨ t = 0x7F then some 2
  else if t = 0x07 then some 3
  else none

/-- Header bits and TYPE of a cell as R451, R452 and R512 allow them on link `k`. -/
def cellOk (k : Nat) (b : List Byte) (c : DlCell) : Bool :=
  bits (be b 0 1) 0 3 = 0 && bits (be b 1 1) 0 2 = 0 && be b 3 1 ≤ 64 &&
  (if c.typ = 0 then be b 3 1 = 0
   else be b 3 1 ≠ 0 && typeClass c.typ = some c.cls && !(decide (8 ≤ c.typ) && decide (c.typ < 16) && (c.det || k ≠ 3)))

/-- The message of a class and DETOUR in progress on a link. -/
def rxFind (l : List DlMsg) (c : DlCell) : Option DlMsg :=
  l.find? fun m => match m.parts with
    | [] => false
    | x :: _ => x.cls = c.cls && x.det = c.det

def rxDrop (l : List DlMsg) (c : DlCell) : List DlMsg :=
  l.filter fun m => match m.parts with
    | [] => false
    | x :: _ => !(x.cls = c.cls && x.det = c.det)

/-- A cell stands where its message's run allows it (R452). -/
def cellFits (l : List DlMsg) (c : DlCell) : Bool :=
  match rxFind l c with
  | none => c.sop
  | some m => match m.parts with
    | [] => c.sop
    | x :: _ => !c.sop && x.typ = c.typ && x.msgid = c.msgid && decide (m.parts.length < 256)

/-- The link word of a cell acted on: ASEQ, credits, NAK (R453, R454). -/
def State.dlWord (s : State) (k w : Nat) : State :=
  let d := s.dl k
  let aseq := bits w 8 12
  let left := d.retry.filter fun e => decide (2048 ≤ (aseq + 4096 - e.1) % 4096)
  let moved := left.length < d.retry.length
  let p := bits w 4 3
  let s1 := s.setDl k { d with
    aseq := aseq, retry := left, resends := if moved then 0 else d.resends,
    progAt := if moved then s.time.raw else d.progAt,
    usedCr := d.usedCr.put crZero p (d.usedCr.get crZero p - bits w 0 4) }
  if bit w 7 then s1.dlResend k else s1

/-- A cell discarded: NAK goes in the next link word (R454). -/
def State.dlNak (s : State) (k : Nat) : State := s.setDl k { s.dl k with nak := true }

/-- A bad cell: counted, recorded, answered with NAK; the third in a row takes the link down (R455). -/
def State.dlBad (s : State) (k : Nat) (eui : Nat) : State :=
  let d := s.dl k
  let s1 := ((s.setDl k { d with nak := true, badRun := d.badRun + 1 }).bump (fDLBADCELL_COUNT k) 1).refused5 .badCell (0x32 + k) k 88 k eui
  if 3 ≤ d.badRun + 1 then s1.dlDown k else s1

/-- A cell accepted: its credit goes back, and the last cell of a message hands the message on. -/
def State.dlAccept (s : State) (k tseq : Nat) (c : DlCell) : State :=
  let d := s.dl k
  let parts := (match rxFind d.rx c with
    | some m => m.parts
    | none => []) ++ [c]
  let rx := rxDrop d.rx c ++ (if c.eop then [] else [⟨parts⟩])
  let s1 := (s.setDl k { d with
    rxSeq := tseq, badRun := 0, rx := rx, owed := d.owed.put crZero c.pool (d.owed.get crZero c.pool + 1) }).count (fDLCELLR_COUNT k) 1
  if !c.eop then s1
  else if s1.dlMine k c.dst ∨ (decide (8 ≤ c.typ) && decide (c.typ < 16)) ∨ c.typ = 0x7F then s1.dlDeliver k parts
  else s1.dlForward k parts

/-- DUNEB_CELL_RECEIVE (R450 to R457): the data blocks of a cell on link `k`. -/
def execDunebCellReceive (k : Fin 4) (b : List Byte) (bad : List (Fin 8)) (s : State) : Out := s.live <|
  if !s.dlUp k.val then .next s
  else if b.length ≠ 88 ∨ crc32 (b.take 84) ≠ be b 84 4 then .next (((s.bump (fDLCRCERR_COUNT k.val) 1).dlNak k.val).dlAnswer k.val)
  else
    let c := parseCell b bad
    let w := be b 80 4
    let s1 := s.dlWord k.val w
    if !s1.dlUp k.val then .next s1
    else if !cellOk k.val b c then .next ((s1.dlBad k.val 0).dlAnswer k.val)
    else if c.typ = 0 then .next (s1.dlPump k.val)
    else if bits w 20 12 ≠ ((s1.dl k.val).rxSeq + 1) % 4096 then .next ((s1.dlNak k.val).dlAnswer k.val)
    else if !cellFits (s1.dl k.val).rx c then .next ((s1.dlBad k.val 0).dlAnswer k.val)
    else .next ((s1.dlAccept k.val (bits w 20 12) c).dlAnswer k.val)

/-! ## The seam map (R462, R463) -/

/-- A seam map taken over with its epoch, when it wins over the chip's own. -/
def State.mapAdopt (s : State) (epoch : Nat) (m : List Byte) : State :=
  let own := s.fget fSEMEPOCH_EPOCH
  if own < epoch ∨ (own = epoch ∧ s.mapDig < be (sha3_256 m) 0 8) then
    ((s.write (seamAddr 0) m).fset fSEMEPOCH_EPOCH epoch).helloAll
  else s

/-- A move has ended: a map that waited is adopted (R463). -/
def State.moveEnd (s : State) (st : Nat) : State :=
  let s1 := ((s.setMov {}).fset fSEMSTAT_MOVE semNone).fset fSEMSTAT_STATUS st
  match s1.dun.offered with
  | none => s1
  | some (e, m) => (s1.setDun { s1.dun with offered := none }).mapAdopt e m

/-- SEAM_MAP_ADOPT (R463): the map and epoch that a neighbour's SEAM message carries. -/
def execSeamMapAdopt (epoch : Word) (m : List Byte) (s : State) : Out := s.live <|
  if m.length ≠ 16384 then .next s
  else if s.mov.pending then .next (s.setDun { s.dun with offered := some (epoch.toNat, m) })
  else .next (s.mapAdopt epoch.toNat m)

/-- A write of SEMWRITE (R462). -/
def State.semWrite (s : State) (v : Nat) : State :=
  let b := fSEMWRITE_BUCKET.of v
  let h := fSEMWRITE_HOME.of v
  if fSEMWRITE_GO.of v = 1 ∧ s.mov.pending then s.say .engineBusy
  else if s.fget fSEMCFG_NCHIPS ≤ h then s.say .badArgument
  else
    let s1 := (s.fset fSEMWRITE_BUCKET b).fset fSEMWRITE_HOME h
    (if fSEMWRITE_GO.of v = 1 then s1.seamChange b h else s1).say .done

/-- SEAM_WRITE (R462). -/
def execSeamWrite (a : Agent) (b : BitVec 12) (h : BitVec 3) (s : State) : Out := s.live <|
  .next (s.asAgent a rSEMWRITE fun t => t.semWrite (b.toNat + 2 ^ 12 * h.toNat + 2 ^ 31))

/-! ## Moves (R465 to R469) -/

/-- The SEAM message in which the old home asks for an abort, and the new home's two answers; the payload is the model's own
(notes/assumptions/10.md). -/
def State.seamMsg (s : State) (chip op b : Nat) : State :=
  s.chipSend chip 2 0x04 ([BitVec.ofNat 8 op] ++ beBytes 2 b) []
def seamAsk : Nat := 0x02
def seamAborted : Nat := 0x03
def seamCommitted : Nat := 0x04
def seamMoved : Nat := 0x05

/-- Confirmations of a MOVE message and of MOVED, which end steps 2 and 5 of R466. -/
def seamGotMove : Nat := 0x06
def seamGotMoved : Nat := 0x07

/-- The operands of SEMMOVE stored. -/
def State.semMoveStore (s : State) (b h m : Nat) : State :=
  ((s.fset fSEMMOVE_BUCKET b).fset fSEMMOVE_NEW h).fset fSEMMOVE_M m

/-- A move armed (R465). -/
def State.moveArm (s : State) (b h m : Nat) : State :=
  if s.mov.pending ∨ s.fget fSEMCFG_NCHIPS ≤ h ∨ (m : Int) < s.kLast + 2 ∨ (m : Int) < s.mov.otherK + 2 ∨ s.mov.noProg then
    (s.fset fSEMSTAT_STATUS Status.badArgument.code).say .badArgument
  else
    ((((s.semMoveStore b h m).setMov { pending := true, bucket := b, newHome := h, oldHome := s.seamHome b, m := m }).fset fSEMSTAT_MOVE semArmed).setFlag fSEMSTAT_SIDE
      (h = s.self)).say .done

/-- The new home gives the move up: what it received goes (R468). -/
def State.moveDiscard (s : State) : State :=
  s.mov.received.foldl (fun t e => match t.epiSlot e with
    | some i => t.eptClear i
    | none => t) s

/-- The statuses whose codes R145 lists. -/
def Status.all : List Status :=
  [.done, .badArgument, .badAddress, .badAlign, .windowDenied, .mpuDenied, .planeDenied, .csrLocked, .badKey, .badQueue,
   .badRegister, .notOwner, .lockRecursive, .illegalInstruction, .badFormat, .qfull, .qempty, .qpoolFull, .lockHeld, .modeDenied] ++
  [.lpBusy, .emitFull, .tackFull, .tableFull, .engineBusy, .coreBusy, .budgetExhausted, .keyDenied, .nonceExhausted, .tagFail,
   .alarm, .sigFail, .rollback, .keyEmpty, .keyOrphaned, .replay, .stepDenied, .mediaFull, .poisoned, .mediaError] ++
  [.programFail, .badFrame, .badEnvelope, .badCell, .unknownEndpoint, .seqGap, .sessionViolation, .engineFault, .linkDown, .fenced,
   .hwTimeout, .broken, .lcDenied, .fuseExhausted, .debugLocked]

/-- A move ends without being carried out. Which listed status STATUS then shows is not given: a free choice (R145). -/
def State.moveAbandon (s : State) : State := (s.moveEnd (Status.all.getD (s.draw % Status.all.length) .done).code).drawn 1

/-- The old home resumes service of the bucket, or a chip that only knew of the move forgets it (R468). -/
def State.moveResume (s : State) : State :=
  (if s.moveIsA ∧ s.mov.cutAt.isSome then s.seamPut s.mov.bucket s.self 0 false else s).moveAbandon

/-- A write of SEMMOVE's ABORT (R468): the old home asks the new one; the new home aborts by itself while it can. -/
def State.moveAbortWrite (s : State) : State :=
  if !s.mov.pending then s.say .done
  else if s.moveIsB then (if s.mov.committed then s else (s.moveDiscard).moveAbandon).say .done
  else if s.moveIsA then ((s.seamMsg s.mov.newHome seamAsk s.mov.bucket).setMov { s.mov with asked := true }).say .done
  else s.moveAbandon.say .done

/-- A write of SEMMOVE: a refused ARM stores nothing. -/
def State.semMoveWrite (s : State) (v : Nat) : State :=
  let b := fSEMMOVE_BUCKET.of v
  let h := fSEMMOVE_NEW.of v
  let m := fSEMMOVE_M.of v
  if fSEMMOVE_ABORT.of v = 1 then (s.semMoveStore b h m).moveAbortWrite
  else if fSEMMOVE_ARM.of v = 1 then s.moveArm b h m
  else (s.semMoveStore b h m).say .done

/-- MOVE_ARM (R465): a write of SEMMOVE with ARM, and what the other chip of the move holds: its K_LAST and whether the new home
lacks a program. -/
def execMoveArm (a : Agent) (v : DWord) (otherK : Int) (noProg : Bool) (s : State) : Out := s.live <|
  .next (s.asWhole a rSEMMOVE fun t =>
    let t1 := if t.mov.pending then t else t.setMov { t.mov with otherK := otherK, noProg := noProg }
    t1.semMoveWrite (setBits (setBits v.toNat 15 1 1) 16 1 0))

/-- One endpoint of a MOVE or STATE message written: page, tack list, security record with TX_IC at the moved ceiling, reservation
entry, pocket, and its table entry, LOCAL (R466 step 3, R418). -/
def State.endpointWrite (s : State) (b : List Byte) (poison : List Nat) : Status × State :=
  let e := EptEntry.parse (sub b 5320 32)
  let epi := e.epi
  let (st, s1) := s.eptWrite (entryWithType (sub b 5320 32) eptLocal)
  if st ≠ .done then (st, s) else
  let s2 := ((s1.write (s1.pageAddr epi) (sub b 0 4096)).write (s1.tackAddr epi) (sub b 4096 1024)).write (s1.secAddr epi) (sub b 5120 128)
  let s3 := (s2.write (resvAddr epi) (sub b 5248 8)).write (s2.pktAddr epi) (sub b 5256 64)
  let ceil := resvCeil (le b 5248 8)
  let s4 := (s3.secPut epi 16 8 ceil).secPut epi 24 8 ceil
  let marks := poison.map fun g => if g < 512 then s4.pageAddr epi / 8 + g else s4.tackAddr epi / 8 + (g - 512)
  (.done, { s4 with poison := marks.foldl (fun l g => setIns g l) s4.poison })

/-- Steps 4 and 5 at the new home: with every endpoint written, its checkpoint complete and its twin's copy confirmed, MOVE_IN is
journaled, the pages take its ISN, and MOVED goes to every chip (R466, R469, R514). -/
def State.moveIn (s : State) : State :=
  let m := s.mov
  if !s.moveIsB ∨ m.committed ∨ m.expected.isNone ∨ m.ckptWait ∨ s.held (.moveIn m.bucket) then s else
  match s.journal [{ kind := jkMoveIn, n := 1, epi := 0, body := moveBody m.bucket m.m }] (fun _ => .free) with
  | .ok s1 =>
    let isn := s1.lastIsn
    let s2 := m.received.foldl (fun t e => t.poke (t.pageAddr e + 8) 8 isn) s1
    let s3 := ((s2.setMov { m with committed := true }).fset fSEMSTAT_MOVE semCommitted).seamChange m.bucket s2.self
    (List.range (s3.fget fSEMCFG_NCHIPS)).foldl (fun t c => if c = t.self then t else t.seamMsg c seamMoved m.bucket) s3
  | _ => s

/-- MOVE_RECEIVE (R466): a MOVE message at the new home, `last` with the last one of the bucket; with no payload, the new home tries
step 4 again. -/
def execMoveReceive (b : List Byte) (poison : List Nat) (last : Bool) (s : State) : Out := s.live <|
  if !s.moveIsB ∨ s.mov.committed then .next s
  else if b = [] then .next s.moveIn
  else if b.length ≠ 5352 ∨ (EptEntry.parse (sub b 5320 32)).seamb ≠ s.mov.bucket then .next s
  else
    let (st, s1) := s.endpointWrite b poison
    if st ≠ .done then .next (s.fset fSEMSTAT_STATUS st.code) else
    let s1 := s1.seamMsg s.mov.oldHome seamGotMove s.mov.bucket
    let epi := (EptEntry.parse (sub b 5320 32)).epi
    let rec' := s1.mov.received ++ [epi]
    let s2 := (s1.shadowP 0x0C b poison (.moveIn s1.mov.bucket)).setMov { s1.mov with
      received := rec', expected := if last then some rec'.length else s1.mov.expected, ckptWait := true,
      recvAt := s1.time.raw }
    .next (s2.fset fSEMSTAT_MOVE semCut)

/-- MOVED (R466 steps 5 and 6) for bucket `b` and its new home: the map entry changes, the chip confirms, and the old home journals
MOVE_OUT and deletes its entries of the bucket. -/
def execMoved (b : BitVec 12) (home : BitVec 3) (s : State) : Out := s.live <|
  let bn := b.toNat
  let h := home.toNat
  if s.moveIsB ∧ s.mov.bucket = bn then .next (if s.mov.committed then s.moveEnd 0 else s)
  else if s.moveIsA ∧ s.mov.bucket = bn ∧ s.mov.cutAt.isSome then
    match s.journalRaw [{ kind := jkMoveOut, n := 1, epi := 0, body := moveBody bn s.mov.m }] (fun _ => .free) with
    | .ok s1 =>
      let s2 := (s1.bucketEpis bn).foldl (fun t e => match t.epiSlot e with
        | some i => t.eptClear i
        | none => t) s1
      .next (((s2.seamChange bn h).moveEnd 0).seamMsg h seamGotMoved bn)
    | _ => .next s
  else
    let s1 := if s.seamHome bn = h ∧ !s.seamMoving bn then s else s.seamChange bn h
    let s2 := if s1.mov.pending ∧ s1.mov.bucket = bn then s1.moveEnd 0 else s1
    .next (if h = s.self then s2 else s2.seamMsg h seamGotMoved bn)

/-- MOVE_TIMEOUT (R468): MOVETMO seconds after CUT the old home asks the new one to abort. -/
def execMoveTimeout (s : State) : Out := s.live <|
  match s.mov.cutAt with
  | none => .next s
  | some t =>
    if s.moveIsA ∧ !s.mov.asked ∧ t + secRaw (s.fget fSEMCFG_MOVETMO) ≤ s.time.raw then
      .next ((s.seamMsg s.mov.newHome seamAsk s.mov.bucket).setMov { s.mov with asked := true })
    else .next s

/-- MOVE_ABORT (R468). -/
def execMoveAbort (a : Agent) (st : AbortStep) (s : State) : Out := s.live <|
  match st with
  | .write v => .next (s.asWhole a rSEMMOVE fun t => t.semMoveWrite (setBits v.toNat 16 1 1))
  | .ask =>
    if s.moveIsB ∧ !s.mov.committed then
      .next ((s.seamMsg s.mov.oldHome seamAborted s.mov.bucket).moveDiscard.moveAbandon)
    else if s.mov.pending ∧ s.mov.committed then .next (s.seamMsg s.mov.oldHome seamCommitted s.mov.bucket)
    else .next s
  | .aborted => if s.moveIsA then .next s.moveResume else .next s
  | .committed => if s.moveIsA then .next (s.fset fSEMSTAT_MOVE semCommitted) else .next s

end Sys2Proof.Machine
end

