-- ==== Sys2Proof/Machine/Sessions.lean ====
section
/-!
DEFINITION. The report merge, report sessions and the hold store (R27, R247, R471 to R482, R644).
-/

namespace Sys2Proof.Machine

/-! ## Records (R27, R247) -/

/-- A record as it is sent (R247). -/
def Rec.bytes (r : Rec) : List Byte :=
  leBytes 1 r.typ ++ leBytes 1 r.rflags ++ leBytes 2 r.body.length ++ leBytes 4 (r.epi % 2 ^ 18 + 2 ^ 24 * (r.chip % 8)) ++
  leBytes 8 r.eui ++ leBytes 8 (r.isn % 2 ^ 48) ++ r.body

def recsBytes (l : List Rec) : List Byte := l.flatMap Rec.bytes

/-- The plane of a turn of the round: 0 data, 1 control, 2 management (R27). -/
def turnPlane (t : Nat) : Nat := if t = 3 then 2 else if t = 1 ∨ t = 5 then 1 else 0

/-- The turns from `t` on, one round. -/
def turnsFrom (t : Nat) : List Nat := (List.range 7).map fun i => (t + i) % 7

/-- The waiting records of a plane. -/
def State.planeQ (s : State) (p : Nat) : List Rec := if p = 0 then s.dataQ else if p = 1 then s.ctlQ else s.mgmtQ
def State.setPlaneQ (s : State) (p : Nat) (l : List Rec) : State :=
  if p = 0 then { s with dataQ := l } else if p = 1 then { s with ctlQ := l } else { s with mgmtQ := l }

/-- One turn of the merge that finds a record: the turn, the record and the rest of its queue. -/
def State.nextTurn (s : State) : Option (Nat × Rec × List Rec) :=
  (turnsFrom s.turn).findSome? fun t => match s.planeQ (turnPlane t) with
    | [] => none
    | r :: l => some (t, r, l)

/-- REPORT_MERGE_TURN (R27): the next turn whose plane has a record waiting takes one. -/
def execReportMergeTurn (s : State) : Out := s.live <|
  match s.nextTurn with
  | none => .next s
  | some (t, r, l) => .next { s.setPlaneQ (turnPlane t) l with turn := (t + 1) % 7, merged := s.merged ++ [(s.time.raw, r)] }

/-! ## What the registers show -/

def State.setCur (s : State) (c : Option Sess) : State := s.setSes { s.ses with cur := c }

/-- Bytes of the hold store. -/
def State.holdBytes (s : State) : Nat := (s.ses.hold.map fun l => (recsBytes l).length).sum

/-- REPSTAT, REPSID, REPBSEQ and REPHOLDUSE after a change of the sessions. -/
def State.sesRegs (s : State) : State :=
  let s1 := s.fset fREPHOLDUSE_BYTES s.holdBytes
  match s.ses.cur with
  | none => (s1.fset fREPSTAT_SESS 0).fset fREPSTAT_INFLIGHT 0
  | some c => (((s1.fset fREPSTAT_SESS (if c.ack then 2 else 1)).fset fREPSTAT_INFLIGHT c.flight.length).setReg rREPSID c.sid).setReg
      rREPBSEQ c.bseq

/-! ## The hold store (R480 to R482) -/

def State.holdBudget (s : State) : Nat := s.fget fREPHOLD_BUDGET * 2 ^ 30

/-- Records dropped while HOLDFULL is set (R481). -/
def State.holdDrop (s : State) (n : Nat) : State :=
  let k := cut 32 s.kLast
  (s.setSes { s.ses with
    drops := s.ses.drops + n, dropFirst := if s.ses.drops = 0 then k else s.ses.dropFirst, dropLast := k }).bump fREPHOLDDROP_COUNT n

/-- A batch put into the store, or dropped (R480, R481). -/
def State.holdPut (s : State) (l : List Rec) : State :=
  if s.flag fREPSTAT_HOLDFULL then s.holdDrop l.length
  else if s.flag fNFCSTAT_RO ∨ s.holdBudget < s.holdBytes + (recsBytes l).length then
    (s.setFlag fREPSTAT_HOLDFULL true).holdDrop l.length
  else s.setSes { s.ses with hold := s.ses.hold ++ [l] }

/-- HOLDFULL clears below half the budget, and a HOLDGAP record tells of what was dropped (R481, R482). -/
def State.holdEase (s : State) : State :=
  if s.flag fREPSTAT_HOLDFULL ∧ s.holdBytes * 2 < s.holdBudget then
    let s1 := s.setFlag fREPSTAT_HOLDFULL false
    if s.ses.drops = 0 then s1 else
    (s1.setSes { s1.ses with drops := 0, dropFirst := 0, dropLast := 0 }).pushData
      (s1.hwRec 0xF4 0 (2 ^ 64 - 1) 0 (leBytes 4 s.ses.dropFirst ++ leBytes 4 s.ses.dropLast ++ leBytes 8 s.ses.drops))
  else s

/-! ## Datagrams -/

/-- The 16-byte header of a datagram. -/
def State.sesHeader (s : State) (mtype part npart sid : Nat) : List Byte :=
  beBytes 2 0x4B4E ++ [0x01] ++ beBytes 1 mtype ++ beBytes 1 (16 * part + npart) ++ beBytes 1 s.self ++ [0, 0] ++ beBytes 8 sid

/-- A datagram leaves by the chip's own port, or by its uplink chip (R433, R479). -/
def State.sesSend (s : State) (d : List Byte) : State :=
  let up := s.fget fREPDPORT_UPLINK
  if up = s.self then s.sesDgram none d else s.chipSend up 1 0x03 d []

/-- The parts of a body over several datagrams of at most 1,200 body bytes. -/
def State.sesParts (s : State) (mtype sid : Nat) (body : List Byte) : List (List Byte) :=
  let n := (body.length + 1199) / 1200
  (List.range n).map fun i => s.sesHeader mtype i n sid ++ (body.drop (1200 * i)).take 1200

/-- The GCM tag of a control datagram with no plaintext. -/
def sesTag (key : List Byte) (kind seq : Nat) (aad : List Byte) : List Byte :=
  ofNats (gcmTag (nats key) (nats ([0x42, BitVec.ofNat 8 kind, 0, 0] ++ beBytes 8 seq)) (nats aad) [])

/-! ## Batches sent (R473, R475, R478, R482) -/

/-- Stored batches already in flight in either session. -/
def State.storedOut (s : State) : Nat :=
  let n := fun (c : Sess) => (c.flight.filter (·.stored)).length
  (match s.ses.cur with
   | some c => n c
   | none => 0) +
  (match s.ses.old with
   | some (c, _) => n c
   | none => 0)

/-- The next batch to number, and whether it comes from the store: stored batches first (R482). -/
def State.nextBatch (s : State) : Option (List Rec × Bool) :=
  match s.ses.hold.drop s.storedOut with
  | l :: _ => some (l, true)
  | [] => match s.ses.ready with
    | l :: _ => some (l, false)
    | [] => none

/-- The datagram of a batch. -/
def State.batchDgram (s : State) (c : Sess) (recs : List Rec) (stored signed : Bool) : List Byte :=
  let h := s.sesHeader 0x03 0 1 c.sid ++ beBytes 8 c.bseq ++ beBytes 1 (b2n signed + 2 * b2n stored) ++ beBytes 2 recs.length ++
    List.replicate 5 0
  let iv := nats ([0x42, 0, 0, 0] ++ beBytes 8 c.bseq)
  let ct := gcmCrypt (nats c.kUp) iv (nats (recsBytes recs))
  h ++ ofNats ct ++ ofNats (gcmTag (nats c.kUp) iv (nats h) ct)

/-- One batch sent when the session is acknowledged and the window has room; a signed batch needs its signature (R478). -/
def State.sendBatch (s : State) : State :=
  match s.ses.cur with
  | none => s
  | some c =>
    if s.mode ≠ modeService ∨ s.aesGone ∨ !c.ack ∨ c.closed ∨ s.fget fREPCFG_WIN ≤ c.flight.length ∨ 2 ^ 32 ≤ c.bseq then s else
    match s.nextBatch with
    | none => s
    | some (recs, stored) =>
      let signed := c.sign || s.flag fREPCFG_SIGN
      let sig := s.signWith 0 (beBytes 8 c.sid ++ beBytes 8 c.bseq ++ recsBytes recs) ctxBat
      if signed ∧ (sig.1 ≠ .done ∨ s.fenced 9) then s else
      let d := s.batchDgram c recs stored signed
      let ds := if signed then d :: s.sesParts 0x05 c.sid (beBytes 8 c.bseq ++ sig.2) else [d]
      let b : Batch := { bseq := c.bseq, recs := recs, dgrams := ds, sentAt := s.time.raw, sent := true, stored := stored }
      let s1 := (s.drawn (b2n signed)).setSes { s.ses with
        cur := some { c with bseq := c.bseq + 1, flight := c.flight ++ [b] },
        ready := if stored then s.ses.ready else s.ses.ready.drop 1 }
      ds.foldl State.sesSend s1

/-- Every batch that can go is sent. -/
def State.sendBatches (s : State) : State :=
  ((List.range (s.ses.hold.length + s.ses.ready.length)).foldl (fun t _ => t.sendBatch) s).sesRegs

/-- Bytes of the report buffer in use. -/
def State.bufBytes (s : State) : Nat :=
  (s.ses.ready.map fun l => (recsBytes l).length).sum +
  (match s.ses.cur with
   | some c => (c.flight.map fun b => (recsBytes b.recs).length).sum
   | none => 0)

/-- The oldest unsent batch goes to the hold store (R475). -/
def State.spillOne (s : State) : State :=
  match s.ses.ready with
  | [] => s
  | l :: ls => ((s.setSes { s.ses with ready := ls }).holdPut l).setFlag fREPSTAT_SPILL true

/-- The report buffer's size in bytes. -/
def State.bufSize (s : State) : Nat := s.fget fREPBUF_SIZE * 2 ^ 20

/-- A full report buffer spills its oldest unsent batches into the hold store until what is left fits (R475). -/
def State.spill (s : State) : State :=
  if s.bufBytes ≤ s.bufSize then s.setFlag fREPSTAT_SPILL false
  else (List.range s.ses.ready.length).foldl (fun t _ => if t.bufBytes ≤ t.bufSize then t else t.spillOne) s

/-! ## Closing a batch (R473, R480) -/

/-- The records that fit one datagram, in order: at least one. -/
def fitRecs (room : Nat) : List (Nat × Rec) → List (Nat × Rec)
  | [] => []
  | r :: l => if r.2.bytes.length ≤ room then r :: fitRecs (room - r.2.bytes.length) l else []

/-- The records of the batch that closes now, when one does: the next record would pass the MTU, or FLUSHMS have passed since the
first. -/
def State.closing (s : State) : Option (List (Nat × Rec)) :=
  match s.merged with
  | [] => none
  | r :: l =>
    let room := s.fget fREPCFG_MTU - 96
    let fit := r :: fitRecs (room - r.2.bytes.length) l
    if fit.length < s.merged.length ∨ r.1 + msRaw (10 * s.fget fREPCFG_FLUSHMS) ≤ s.time.raw then some fit else none

/-- BATCH_CLOSE (R473, R480, R482): in HOLDOVER the batch goes to the hold store; in SERVICE it is sent as the session and its window
allow. -/
def execBatchClose (s : State) : Out := s.live <|
  if !s.serving ∨ !s.flag fREPCFG_EN then .next s else
  match s.closing with
  | none => .next s.sendBatches
  | some fit =>
    let s1 := { s with merged := s.merged.drop fit.length }
    let recs := fit.map (·.2)
    if s.mode = modeHoldover then .next (s1.holdPut recs).sesRegs
    else .next (((s1.setSes { s1.ses with ready := s1.ses.ready ++ [recs] }).sendBatches).spill.sesRegs)

/-! ## Opening a session (R471, R472) -/

/-- A new session is opened: SID and NONCE_D drawn, the secret encapsulated, INIT signed and sent. Without the collector's key, the
identity key or an engine it needs, nothing opens. -/
def State.sesOpen (s : State) : State :=
  if s.fenced 8 ∨ s.fenced 9 ∨ s.fenced 10 ∨ s.aesGone then s else
  match s.deliver (s.fget fREPKEYS_CKEY) mKem with
  | (.done, k) =>
    if k.typ ≠ ktKemPub ∧ k.typ ≠ ktKemPriv then s else
    let sid := s.draw % 2 ^ 64
    let nonce := leBytes 32 (s.drawn 1).draw
    let (ct, ss) := Config.kemEncaps (s.publicOf k) (s.drawn 2).draw
    let msg := beBytes 8 (s.fget fKEYID_EUI) ++ nonce ++ sub ct 0 1568
    let s1 := s.drawn 3
    match s1.signWith 0 msg ctxSes with
    | (.done, sig) =>
      let s2 := (s1.drawn 1).setCur (some { sid := sid, nonceD := nonce, secret := sub ss 0 32, initAt := s.time.raw })
      ((s2.sesParts 0x01 sid (msg ++ sig)).foldl State.sesSend s2).sesRegs
    | _ => s1
  | _ => s

/-- Batches of a session that no BACK has covered go back, oldest first, to wait for a number in another session; those of the hold
store still stand there (R477). -/
def State.unsent (s : State) (c : Sess) : State :=
  s.setSes { s.ses with ready := (c.flight.filter fun b => !b.stored).map (·.recs) ++ s.ses.ready }

/-- INIT (R471): the chip opens a session when it has none. -/
def execInit (s : State) : Out := s.live <|
  .next (if s.serving && s.flag fREPCFG_EN && s.ses.cur.isNone then s.sesOpen else s)

/-- INIT_TIMEOUT (R472). -/
def execInitTimeout (s : State) : Out := s.live <|
  match s.ses.cur with
  | some c => .next (if !c.ack && decide (c.initAt + msRaw (s.fget fREPTMR_RTO) ≤ s.time.raw) then s.sesOpen else s)
  | none => .next s

/-- A datagram discarded for its header: counted, and recorded as SESSION_VIOLATION (R145, R642). -/
def State.badDgram (s : State) (d : List Byte) (st : Status) : State :=
  let s1 := s.bump fREPBADDG_COUNT 1
  if st = .sessionViolation then s1.refused5 st 0x3A 0 d.length s.ses.port 0 else s1

/-- A datagram's header is that of an MTYPE and its length is as given. -/
def dgramOk (d : List Byte) (mtype len : Nat) : Bool :=
  d.length = len && be d 0 2 = 0x4B4E && be d 2 1 = 1 && be d 3 1 = mtype && be d 6 2 = 0

/-- ACCEPT (R471, R472). -/
def execAccept (d : List Byte) (s : State) : Out := s.live <|
  if s.aesGone then .next s else
  match s.ses.cur with
  | none => .next (s.badDgram d .sessionViolation)
  | some c =>
    if !dgramOk d 0x02 72 ∨ be d 8 8 ≠ c.sid ∨ c.ack ∨ be d 49 7 ≠ 0 then .next (s.badDgram d .sessionViolation) else
    let ks := shake256 (c.secret ++ beBytes 8 c.sid ++ c.nonceD ++ sub d 16 32) 64
    if sesTag (ks.drop 32) 1 0 (d.take 56) ≠ d.drop 56 then .next (s.badDgram d .tagFail) else
    .next ((s.setCur (some { c with
      kUp := ks.take 32, kDown := ks.drop 32, ack := true, openAt := s.time.raw, sign := bit (be d 48 1) 0 })).sendBatches)

/-! ## BACK (R474, R482, R644) -/

/-- The recorder record of an RSEQ, as the front end or MRAM holds it. -/
def State.evrRec (s : State) (rseq : Nat) : Option (Nat × List Byte) :=
  match s.evr.openSet.find? fun o => recRseq o.data = rseq with
  | some o => some (o.slot, o.data)
  | none => (s.findRec (fun _ d => recCode d ≠ 0 && recRseq d = rseq) 8192 0).map fun k => (k, s.bytes (evrAddr k) 128)

/-- EXPORTED set on a record that is unchanged since it was sent (R644). -/
def State.setExported (s : State) (rseq rep : Nat) : State :=
  match s.evrRec rseq with
  | none => s
  | some (k, d) =>
    if recRepeat d ≠ rep then s else
    let d' := recPut d 4 2 (setBits (le d 4 2) 15 1 1)
    let s1 := s.putRec k d'
    s1.setEvr { s1.evr with openSet := s1.evr.openSet.map fun o => if o.slot = k then { o with data := d', dirty := false } else o }

/-- What a covered batch brings about in the recorder. -/
def State.coverRec (s : State) (r : Rec) : State :=
  if r.typ = 0xF6 then s.setExported (recRseq r.body) (recRepeat r.body) else s

/-- Batches up to CUM covered in a session: those that leave, and the session without them. -/
def Sess.cover (c : Sess) (ackSeq cum : Nat) : List Batch × Sess :=
  (c.flight.filter fun b => decide (b.bseq ≤ cum), { c with ackSeq := ackSeq, flight := c.flight.filter fun b => decide (cum < b.bseq) })

/-- Covered batches leave the report buffer and the hold store. -/
def State.covered (s : State) (gone : List Batch) : State :=
  let s1 := s.setSes { s.ses with hold := (gone.filter (·.stored)).foldl (fun h b => h.erase b.recs) s.ses.hold }
  (((gone.flatMap (·.recs)).foldl State.coverRec s1).holdEase).sendBatches

/-- A BACK for a session: discarded with REPLAY or a bad tag, else its numbers. -/
def Sess.backOk (c : Sess) (d : List Byte) : Status :=
  if sesTag c.kDown 1 (be d 16 8) (d.take 32) ≠ d.drop 32 then .tagFail
  else if be d 16 8 ≤ c.ackSeq then .replay
  else .done

/-- BACK (R474). -/
def execBack (d : List Byte) (s : State) : Out := s.live <|
  if s.aesGone then .next s else if !dgramOk d 0x04 48 then .next (s.badDgram d .sessionViolation) else
  let sid := be d 8 8
  let seq := be d 16 8
  let cum := be d 24 8
  let inCur := match s.ses.cur with
    | some c => c.ack && c.sid = sid
    | none => false
  let inOld := match s.ses.old with
    | some (c, _) => decide (c.sid = sid)
    | none => false
  if inCur then
    match s.ses.cur with
    | none => .next s
    | some c => match c.backOk d with
      | .done =>
        let (gone, c') := c.cover seq cum
        .next ((s.setCur (some c')).covered gone)
      | st => .next (s.badDgram d st)
  else if inOld then
    match s.ses.old with
    | none => .next s
    | some (c, at_) => match c.backOk d with
      | .done =>
        let (gone, c') := c.cover seq cum
        .next ((s.setSes { s.ses with old := some (c', at_) }).covered gone)
      | st => .next (s.badDgram d st)
  else .next (s.badDgram d .sessionViolation)

/-- BATCH_RESEND (R475): every batch whose RTO has passed goes again, byte for byte. -/
def execBatchResend (s : State) : Out := s.live <|
  match s.ses.cur with
  | none => .next s
  | some c =>
    let due := fun (b : Batch) => decide (b.sentAt + msRaw (s.fget fREPTMR_RTO) ≤ s.time.raw)
    if s.mode ≠ modeService ∨ s.aesGone then .next s else
    let s1 := (s.setCur (some { c with flight := c.flight.map fun b => if due b then { b with sentAt := s.time.raw } else b })).bump
      fREPRESEND_COUNT (c.flight.filter due).length
    .next (((c.flight.filter due).flatMap (·.dgrams)).foldl State.sesSend s1)

/-! ## Re-keying and closing (R477) -/

/-- The old session closes: its uncovered batches wait for new numbers. -/
def State.oldEnd (s : State) : State :=
  match s.ses.old with
  | none => s
  | some (c, _) => (s.setSes { s.ses with old := none }).unsent c

/-- SESSION_REKEY (R477). -/
def execSessionRekey (s : State) : Out := s.live <|
  match s.ses.cur with
  | none => .next s
  | some c =>
    if c.ack ∧ (c.openAt + secRaw (3600 * s.fget fREPTMR_REKEYH) ≤ s.time.raw ∨ 2 ^ 32 ≤ c.bseq) ∧ !s.fenced 8 ∧ !s.fenced 9
        ∧ !s.fenced 10 ∧ !s.aesGone ∧ s.serving then
      let s1 := s.oldEnd
      .next ((s1.setSes { s1.ses with cur := none, old := some (c, s.time.raw) }).sesOpen.sesRegs)
    else .next s

/-- OLD_SESSION_EXPIRY (R477): 60 s after the re-key. -/
def execOldSessionExpiry (s : State) : Out := s.live <|
  match s.ses.old with
  | none => .next s
  | some (_, at_) => .next (if at_ + secRaw 60 ≤ s.time.raw then s.oldEnd.sendBatches else s)

/-- The chip's own CLOSE of a session (R477). -/
def State.sesClose (s : State) (c : Sess) (reason : Nat) : State :=
  let h := s.sesHeader 0x06 0 1 c.sid ++ beBytes 1 reason ++ List.replicate 7 0 ++ beBytes 8 c.bseq
  s.sesSend (h ++ sesTag c.kUp 2 c.bseq h)

/-- CLOSE (R477): the collector's CLOSE of a session; with no datagram, the chip closes its current session with REASON 0x00. -/
def execClose (d : List Byte) (s : State) : Out := s.live <|
  if s.aesGone then .next s else if d = [] then
    match s.ses.cur with
    | some c => .next (if c.ack then (((s.sesClose c 0).setCur none).unsent c).sesRegs else (s.setCur none).sesRegs)
    | none => .next s
  else if !dgramOk d 0x06 48 then .next (s.badDgram d .sessionViolation)
  else
    let ok := fun (c : Sess) => sesTag c.kDown 2 (be d 24 8) (d.take 32) = d.drop 32
    let sid := be d 8 8
    match s.ses.cur, s.ses.old with
    | some c, o =>
      if c.ack ∧ c.sid = sid then .next (if ok c then ((s.setCur none).unsent c).sesRegs else s.badDgram d .tagFail)
      else match o with
        | some (x, _) =>
          if x.sid = sid then .next (if ok x then s.oldEnd.sendBatches else s.badDgram d .tagFail)
          else .next (s.badDgram d .sessionViolation)
        | none => .next (s.badDgram d .sessionViolation)
    | none, some (x, _) =>
      if x.sid = sid then .next (if ok x then s.oldEnd.sesRegs else s.badDgram d .tagFail)
      else .next (s.badDgram d .sessionViolation)
    | none, none => .next (s.badDgram d .sessionViolation)

end Sys2Proof.Machine
end

