-- ==== Sys2Proof/Machine/Reset.lean ====
section
/-!
DEFINITION. Resets, the output gate and the erasure of keys, as every path that causes them uses them (R56 to R62, R507 to R509,
R563).
-/

namespace Sys2Proof.Machine

/-! ## The output gate (R507 to R509) -/

/-- Endpoint-port transmissions in progress are cut short when the gate closes (R65, R284). -/
def State.cutTransmit (s : State) : State := s.plCutAll.rfCutAll

/-- TWNSTAT.GATE follows ACT_OUT_N and ACT_IN_N; without a twin ACT_IN_N counts as deasserted. -/
def State.gateFollow (s : State) : State :=
  let g := s.flag fTWNSTAT_ACTOUT && !(s.flag fTWNCFG_EN && s.flag fTWNSTAT_ACTIN)
  (if s.flag fTWNSTAT_GATE && !g then s.cutTransmit else s).setFlag fTWNSTAT_GATE g

/-- ACT_OUT_N driven. -/
def State.setActOut (s : State) (b : Bool) : State := (s.setFlag fTWNSTAT_ACTOUT b).gateFollow

/-- The always-on domain deasserts ACT_OUT_N and holds it so (R509). -/
def State.actRelease (s : State) : State := (s.setActOut false).setTwn { s.twn with aonHold := true }

/-! ## Erasure (R563) -/

/-- The erase cells zeroed, every secret slot overwritten and marked invalid. -/
def State.eraseKeys (s : State) : State :=
  let s1 := s.setKey { s.key with storeKey := none, slots := s.key.slots.filter fun e => !secretType e.2.typ }
  let s2 := s1.setFlag fTMPSTAT_ERASED true
  if s.flag fTMPCFG_RELEASE then s2.actRelease else s2

/-! ## Resets -/

def kPor : Nat := 0
def kBor : Nat := 1
def kExt : Nat := 2
def kWdg : Nat := 3
def kSwr : Nat := 4
def kTko : Nat := 5

/-- CSRs after a reset of a kind: those it clears return to their reset values; a staging copy of one of them takes the value in
force; snapshots are dropped (R12, R13, R16). -/
def State.resetCsrs (s : State) (kind : Nat) : State :=
  { s with
    csr := s.csr.filter fun e => !clearedBy kind e.1,
    csrStage := s.csrStage.filter fun e => !clearedBy kind e.1,
    csrSnap := [] }

/-- An address of the MRAM region, by byte and by granule. -/
def inMram (a : Nat) : Bool := mramBase ≤ a && a < csrBase
def gInMram (g : Nat) : Bool := inMram (8 * g)

/-- What a reset other than TKO keeps (R60): MRAM, NAND, fuses, the raw time and the always-on domain, which a POR alone clears.
Everything else is at its state after reset. -/
def State.keep (s : State) (kind : Nat) : State :=
  let por := kind = kPor
  let raw := if por then 0 else s.time.raw
  { pending := s.pending
    answer := s.answer
    freeCtr := s.freeCtr
    csr := s.csr
    csrStage := s.csrStage
    csrSnap := s.csrSnap
    mem := s.mem.filter fun e => inMram e.1
    poison := s.poison.filter gInMram
    soft := s.soft.filter gInMram
    pwr := {
      kind := kind
      wdtDue := raw + 2000000000
      -- the always-on watchdog was paused in Sleep and starts again from its full period (R91)
      aonDue := if por then raw + 1000000000
        else if s.pwr.asleep then raw + (s.fget fAONWDT_PERIOD + 1) * 31250000 else s.pwr.aonDue
      lastKick := raw
      lastGrant := raw
      imageBase := s.pwr.imageBase
      tmpSeen := s.pwr.tmpSeen }
    time := if por then {} else { raw := raw, offset := s.time.offset, anchor := s.time.anchor, budgetAt := s.time.budgetAt }
    evr := if por then { optBase := (s.evr.optCopy : Int) * 1000000000, optCopy := s.evr.optCopy, used := s.evr.used, exported := s.evr.exported }
      else s.evr
    mrm := { s.mrm with batch := 0, ckptAt := raw, ckptFrom := none }
    nfc := s.nfc
    rin := { since := [(0, raw), (1, raw), (2, raw), (3, raw)].filter fun e => e.2 ≠ 0 }
    clk := s.clk
    tap := s.tap
    ses := { hold := s.ses.hold, drops := s.ses.drops, dropFirst := s.ses.dropFirst, dropLast := s.ses.dropLast }
    key := { s.key with armed := none }
    ldg := { maxVer := s.ldg.maxVer, pageBase := s.ldg.pageBase, tackBase := s.ldg.tackBase }
    upd := { s.upd with kept := [], cleaned := false, op := 0, src := 0 }
    wire := s.wire
    delivered := s.delivered }

/-- One event per RSTCAUSE bit that a reset set (R62, R642). -/
def State.resetEvents (s : State) (causes step : Nat) : State :=
  (List.range 11).foldl (fun t b => if bit causes b then
    t.event { code := 0x001, sev := 1, src := 0x02, inst := b, arg0 := step, value := s.reg rRSTCAUSE } else t) s

/-- A reset of a kind other than TKO; `extra` are the further bits of RSTCAUSE it sets. While a boot is in progress its own causes
are still present, and the widest kind is performed (R57). -/
def State.doReset (s : State) (cause extra : Nat) : State :=
  let kind := if s.mode = modeBoot then min cause s.pwr.kind else cause
  let old := s.reg rRSTCAUSE
  let causes := 2 ^ cause ||| extra
  -- the next mount takes HSIZE and OP as they stood (the note on NFCPART)
  let s1 := ({ (s.resetCsrs kind).keep kind with
    nfc := { s.nfc with hsize := s.fget fNFCPART_HSIZE, op := s.fget fNFCPART_OP } } : State)
  let kept := if cause = kPor then 1 else old
  let s2 := s1.setReg rRSTCAUSE (kept ||| causes)
  let s3 := if kind ≤ kBor then s2.count fEVRPCC_COUNT 1 else s2
  -- ACT_IN_N is what the ball shows; the cause of the last slot marked BAD stays known
  (((s3.setFlag fTWNSTAT_ACTIN (s.flag fTWNSTAT_ACTIN)).gateFollow.setFlag fSLPSAVE_SAVED false).fset fUPDSTAT_LASTFB (s.fget fUPDSTAT_LASTFB)).resetEvents causes s.pwr.bootStep

/-- A valid write of SWRESET resets the chip; any other key, or REQ 0b11, is refused with BAD_KEY. -/
def State.swresetWrite (s : State) (v : Nat) : State :=
  if fSWRESET_KEY.of v ≠ 0x5352 ∨ fSWRESET_REQ.of v = 3 then s.say .badKey
  else ((s.doReset kSwr 0).fset fRSTCAUSE_SWREQ (fSWRESET_REQ.of v)).say .done

/-- An SWR with a request. -/
def State.swr (s : State) (req : Nat) : State := s.swresetWrite (0x53520000 + req)

end Sys2Proof.Machine
end

