-- ==== Sys2Proof/Machine/Tamper.lean ====
section
/-!
DEFINITION. Tamper alarms and the life cycle (R561 to R573).
-/

namespace Sys2Proof.Machine

/-! ## Tamper -/

/-- Sources that raise something now, and of those the ones that erase (R561, R562). -/
def State.tmpActive (s : State) : Nat :=
  let tmp := s.fget fTMPCFG_TEN
  let sens := if s.life = lifeField ∨ s.flag fTMPCFG_SENS then 0x3F0 else 0
  let awake := if s.pwr.asleep then 0x240 else 0x3F0
  -- VCORE_LO is judged while PFAIL_N is deasserted and the chip has not halted, after boot step 1
  let vlo := if s.flag fPFSTAT_PFAIL ∨ s.pwr.pf = .halted ∨ s.pwr.bootStep ≤ 1 then 0x3E0 else 0x3F0
  tmp ||| (sens &&& awake &&& vlo)
def State.tmpErases (s : State) : Nat := s.fget fTMPCFG_TACT ||| 0x3F0

/-- Bits of a 10-bit value. -/
def bitsOf (v : Nat) : List Nat := (List.range 10).filter (bit v)

/-- What an erasing alarm ends beside engine jobs (R565): a KEYCMD, which has written nothing and whose target slot is left invalid, and a
takeover before its TKO. -/
def State.alarmEnds (s : State) (cut : AlarmCut) : State :=
  match cut with
  | .none => s
  | .noBackup => s
  | .keycmd op =>
    let n := s.fget fKEYARG_SLOT
    let open_ := 16 ≤ n ∨ s.armedFor opInvalidate n ∨ (s.life ≠ lifeProvisioned ∧ s.life ≠ lifeField)
    let s1 := if op.toNat = opInvalidate ∧ open_ then s.dropSlot n else s
    (if s1.key.armed.isSome then s1.disarm else s1).fset fKEYSTAT_STATUS Status.alarm.code
  | .takeover => if s.isStandby then s.actRelease.setFlag fTWNSTAT_TKOBLOCKED true else s

/-- TAMPER_ALARM (R561 to R566): the sources whose alarm condition now holds. Each enabled source that newly alarms is recorded; one
with action ERASE erases, and the engines with a job in progress abort it. A KEYCMD or a takeover in progress ends (R565). -/
def execTamperAlarm (x : Alarm) (s : State) : Out :=
  let held := x.now.toNat &&& s.tmpActive
  let fresh := maskOff held s.pwr.tmpSeen
  let s1 := (s.fset fTMPSENSE_NOW x.now.toNat).setPwr { s.pwr with tmpSeen := held }
  if fresh = 0 then .next s1 else
  let s2 := s1.setReg rTMPSTAT (s1.reg rTMPSTAT ||| fresh)
  let erase := fresh &&& s.tmpErases ≠ 0
  -- an alarm in Sleep that the backup cannot serve stays latched, and boot step 3 erases (R655)
  let late := x.cut = .noBackup ∧ s.pwr.asleep
  let s3 := if erase ∧ late then s2.setFlag fTMPSTAT_PEND true else if erase then ((s2.alarmEnds x.cut).engAborts x.busy |>.eraseKeys.setFlag fTMPSTAT_PEND true).setFlag fRSTCAUSE_TAMPER_ERASE true else s2
  let s4 := (bitsOf fresh).foldl (fun t b =>
    t.event { code := 0x030, sev := 3, src := 0x2D, inst := b, arg0 := t.reg rTMPSENSE, value := t.reg rTMPSTAT }) s3
  let s5 := if erase ∧ ¬late ∧ s.pwr.asleep then s4.setFlag fTMPSTAT_SLEEPERASE true else s4
  .next (if erase ∧ s.mode = modeBoot ∧ !s.pwr.asleep then (s5.fset fMODESTAT_MODE modeRecovery).setPwr { s5.pwr with bootStep := 13 } else s5)

/-- A write of TMPSTAT: SRC and SLEEPERASE clear where it holds 1; PEND clears only when no enabled source holds its alarm
condition (R567). -/
def State.tmpstatWrite (s : State) (v : Nat) : State :=
  let hold := s.fget fTMPSENSE_NOW &&& s.tmpActive ≠ 0
  let m := (v &&& 0x403FF) ||| (if bit v 16 ∧ !hold then 0x10000 else 0)
  (s.setReg rTMPSTAT (maskOff (s.reg rTMPSTAT) m)).say .done

/-- PEND_CLEAR (R567): a write of 1 to TMPSTAT.PEND. -/
def execPendClear (a : Agent) (s : State) : Out := s.live <| .next (s.asAgent a rTMPSTAT fun t => t.tmpstatWrite 0x10000)

/-! ## Life cycle (R568 to R573) -/

def reqProvision : Nat := 1
def reqField : Nat := 2
def reqDebugOpen : Nat := 3
def reqScrap : Nat := 4

/-- STATE for a number of step pairs blown (R568). -/
def lifeOf (n : Nat) : Nat := if n = 0 then lifeBlank else (n - 1) % 3 + 1

/-- One step pair programmed. -/
def State.fuseStep (s : State) : State :=
  let n := s.fget fLCSSTAT_STEPS + 1
  (s.fset fLCSSTAT_STEPS n).fset fLCSSTAT_STATE (lifeOf n)

/-- Slot 0 of TYPE 0x4, and slots 2 to 5 valid (R569). -/
def State.provisioned (s : State) : Bool :=
  (s.slot 0).typ = ktDsaPriv && s.slotValid 2 && s.slotValid 3 && s.slotValid 4 && s.slotValid 5

/-- A request's result, in LCSRES. -/
def State.lcsEnd (s : State) (st : Status) : State := (s.fset fLCSRES_STATUS st.code).say st

/-- An AUTH for this OP is armed, as far as the request needs one. -/
def State.lcsAuth (s : State) (op : Nat) : Bool := s.armedFor op 0

/-- The request's own conditions, from the table of R569. -/
def State.lcsAllowed (s : State) (req : Nat) : Bool :=
  if req = reqProvision then (s.life = lifeBlank || s.life = lifeDepot) && s.mode = modeCommission && s.provisioned
  else if req = reqField then s.life = lifeProvisioned && s.mode = modeCommission && s.provisioned
  else if req = reqDebugOpen then s.life = lifeField && s.lcsAuth 0x80
  else s.life = lifeBlank || s.life = lifeDepot || ((s.life = lifeProvisioned || s.life = lifeField) && s.lcsAuth 0x81)

/-- DEBUG_OPEN (R571): outputs gated, erasure without TAMPER_ERASE or PEND, one step pair, SWR with the normal request. -/
def State.debugOpens (s : State) : State :=
  ((s.actRelease.eraseKeys.setFlag fLCSSTAT_ERASED true).fuseStep.lcsEnd .done).swr 0

/-- SCRAP (R573): erasure, the SCRAP pair, SWR. -/
def State.scraps (s : State) : State :=
  (((s.eraseKeys.setFlag fLCSSTAT_ERASED true).fset fLCSSTAT_STATE lifeScrap).lcsEnd .done).swr 0

/-- A write of LCSCTL (R569). It uses up an arming; no fuse program operation starts while PFAIL_N is asserted (R73). -/
def State.lcsWrite (s : State) (v : Nat) : State :=
  let req := fLCSCTL_REQ.of v
  let t := if s.key.armed.isSome then s.disarm else s
  if fLCSCTL_KEY.of v ≠ 0x4C43 then t.say .badKey
  else if req = 0 ∨ 4 < req then t.say .badArgument
  else if s.key.armed.isSome ∧ !(req = reqDebugOpen ∧ s.lcsAuth 0x80) ∧ !(req = reqScrap ∧ s.lcsAuth 0x81) then t.lcsEnd .lcDenied
  else if !s.lcsAllowed req ∨ s.life = lifeScrap then t.lcsEnd .lcDenied
  else if req ≠ reqScrap ∧ 64 ≤ s.fget fLCSSTAT_STEPS then t.lcsEnd .fuseExhausted
  else if s.flag fPFSTAT_PFAIL then s
  else if req = reqDebugOpen then t.debugOpens
  else if req = reqScrap then t.scraps
  else t.fuseStep.lcsEnd .done

/-- LCSCTL with the right key. -/
def lcsValue (req : Nat) : Nat := 0x4C430000 + req

/-- PROVISION (R569). -/
def execProvision (a : Agent) (s : State) : Out := s.live <| .next (s.asAgent a rLCSCTL fun t => t.lcsWrite (lcsValue reqProvision))
/-- FIELD (R569). -/
def execField (a : Agent) (s : State) : Out := s.live <| .next (s.asAgent a rLCSCTL fun t => t.lcsWrite (lcsValue reqField))
/-- DEBUG_OPEN (R571). -/
def execDebugOpen (a : Agent) (s : State) : Out := s.live <| .next (s.asAgent a rLCSCTL fun t => t.lcsWrite (lcsValue reqDebugOpen))
/-- SCRAP (R573). -/
def execScrap (a : Agent) (s : State) : Out := s.live <| .next (s.asAgent a rLCSCTL fun t => t.lcsWrite (lcsValue reqScrap))

end Sys2Proof.Machine
end

