-- ==== Sys2Proof/Machine/Update.lean ====
section
/-!
DEFINITION. The firmware update: checking, installing, trial, commit and the choice of an image at boot (R574 to R592).
-/

namespace Sys2Proof.Machine

/-! ## Image headers (R574, R575) -/

def hdrBytes : Nat := 4928

def hEpoch (h : List Byte) : Nat := le h 6 2
def hVersion (h : List Byte) : Nat := le h 8 4
def hSetfmt (h : List Byte) : Nat := le h 12 2
def hSize (h : List Byte) : Nat := le h 16 4
def hDigest (h : List Byte) : List Byte := sub h 160 64

/-- Manifest entry `i`: KIND, OFFSET, SIZE, and its zero bytes. -/
def manKind (h : List Byte) (i : Nat) : Nat := le h (32 + 16 * i) 2
def manOff (h : List Byte) (i : Nat) : Nat := le h (32 + 16 * i + 4) 4
def manSize (h : List Byte) (i : Nat) : Nat := le h (32 + 16 * i + 8) 4

/-- R575: kinds 1 to 4, each at most once; entry 0 the code at OFFSET 0; ascending, inside the payload, without overlap. -/
def manifestOk (h : List Byte) (n : Nat) : Bool :=
  manKind h 0 = 1 && manOff h 0 = 0 &&
  ((List.range n).all fun i =>
    1 ≤ manKind h i && manKind h i ≤ 4 && le h (32 + 16 * i + 2) 2 = 0 && le h (32 + 16 * i + 12) 4 = 0
      && manOff h i % 64 = 0 && manOff h i + manSize h i ≤ hSize h
      && (i = 0 || decide (manOff h (i - 1) + manSize h (i - 1) ≤ manOff h i ∧ manOff h (i - 1) < manOff h i))
      && (List.range i).all fun j => manKind h j ≠ manKind h i) &&
  le h (32 + 16 * n) (16 * (8 - n)) = 0

/-- R574 and R575, apart from the payload. -/
def headerOk (h : List Byte) : Bool :=
  let n := le h 14 2
  le h 0 4 = 0x4B494D47 && le h 4 1 = 1 && le h 5 1 = 0 && hEpoch h ≤ 256 && 1 ≤ hSetfmt h && 1 ≤ n && n ≤ 8
    && hSize h % 64 = 0 && 64 ≤ hSize h && hSize h ≤ 67108864 && le h 20 12 = 0 && manifestOk h n
    && le h 224 32 = 0 && le h 4883 45 = 0

/-- The verification key of R576. -/
def State.imageKey (s : State) : Option (Option KeySlot) :=
  if s.slotValid 2 then some (some (s.slot 2)) else if s.life = lifeBlank then some none else none

/-- The signature of a header (R555, R576). -/
def State.imageSig (s : State) (h : List Byte) : Status :=
  let msg := h.take 256
  let sig := sub h 256 sigBytes
  if s.slotValid 2 then s.verifyWith 2 msg ctxNone sig
  else if Config.dsaVerify Config.factoryKey (sha3_512 msg) ctxNone sig then .done else .sigFail

/-- R578. -/
def State.rollbackOk (s : State) (h : List Byte) : Bool :=
  s.fget fUPDFUSE_EPOCH ≤ hEpoch h
    && (s.fget fUPDCVER_VERSION < hVersion h || (hVersion h = s.fget fUPDCVER_VERSION && hDigest h = s.upd.digC))

/-- The checks of R579 on a header, in order. -/
def State.headerCheck (s : State) (h : List Byte) : Status :=
  if !headerOk h then .badFormat
  else if s.fenced 9 ∨ s.fenced 8 then .fenced
  else if s.imageKey.isNone then .keyEmpty
  else match s.imageSig h with
    | .done => if s.rollbackOk h then .done else .rollback
    | .badArgument => .sigFail
    | st => st

def State.setUpd (s : State) (u : UpdSt) : State := { s with upd := u }

/-- A header's fields put into a slot's record, with a state. -/
def State.slotRecord (s : State) (n st : Nat) (h : List Byte) : State :=
  s.setReg (rUPDSLOT n) (setBits (setBits (setBits (setBits st 16 16 (hEpoch h)) 32 32 (hVersion h)) 64 16 (hSetfmt h)) 96 32 (hSize h))

def usEmpty : Nat := 0
def usInstalling : Nat := 1
def usPending : Nat := 2
def usTrial : Nat := 3
def usCommitted : Nat := 4
def usSuperseded : Nat := 5
def usBad : Nat := 6
def State.slotState (s : State) (n : Nat) : Nat := s.fget (fUPDSLOT_STATE n)

/-- The image of a slot made BAD, with its cause. -/
def State.slotBad (s : State) (n cause : Nat) : State := (s.fset (fUPDSLOT_STATE n) usBad).fset fUPDSTAT_LASTFB cause

/-- The result of a command, in UPDRES. -/
def State.updEnd (s : State) (st : Status) : State := (s.fset fUPDRES_STATUS st.code).say st

/-- The running image is on trial. -/
def State.onTrial (s : State) : Bool := s.flag fUPDSTAT_TRIAL

/-! ## Commands -/

/-- CHECK (R579). -/
def State.updCheck (s : State) : State :=
  let a := s.fget fUPDADDR_ADDR
  if a % 64 ≠ 0 then s.updEnd .badAlign
  else if !s.inDa a hdrBytes ∧ !s.inDb a hdrBytes then s.updEnd .badAddress
  else if s.poisonedIn a hdrBytes then (s.touch a hdrBytes).updEnd .poisoned
  else
    let h := s.bytes a hdrBytes
    let st := s.headerCheck h
    let s1 := (s.touch a hdrBytes).countVerify st
    if st = .done then ((s1.setUpd { s1.upd with kept := h }).setFlag fUPDRES_CHECKED true).updEnd .done else s1.updEnd st

/-- A command runs until its last step: UPDRES.BUSY. -/
def State.updBusy (s : State) (op : Nat) : State := (s.setFlag fUPDRES_BUSY true).setUpd { s.upd with op := op }
def State.updRuns (s : State) (op : Nat) : Bool := s.flag fUPDRES_BUSY && s.upd.op = op
def State.updIdle (s : State) : State := (s.setFlag fUPDRES_BUSY false).setUpd { s.upd with op := 0 }

/-- Step 1 of INSTALL (R580). -/
def State.updInstall (s : State) : State :=
  let n := 1 - s.runSlot
  let h := s.upd.kept
  let a := s.fget fUPDADDR_ADDR + hdrBytes
  if !s.flag fUPDRES_CHECKED ∨ s.slotState n = usCommitted then s.updEnd .badArgument
  else if !s.inDa a (hSize h) ∧ !s.inDb a (hSize h) then s.updEnd .badAddress
  else
    let s1 := (s.fset (fUPDSLOT_STATE n) usInstalling).updBusy 2
    (s1.setUpd { s1.upd with src := a, hdrs := s1.upd.hdrs.put noBytes n h }).say .done

/-- Steps 2 and 3 of INSTALL (R580, R581). -/
def State.installStep (s : State) : State :=
  let n := 1 - s.runSlot
  let h := s.upd.hdrs.get noBytes n
  let a := s.upd.src
  let s1 := s.touch a (hSize h)
  ((s1.setUpd { s1.upd with pays := s1.upd.pays.put noBytes n (s1.bytes a (hSize h)) }).slotRecord n usPending h).updIdle.updEnd .done

/-- CLEAN (R586): once per boot, while the running image is on trial. -/
def State.updClean (s : State) : State :=
  let n := s.runSlot
  if s.upd.cleaned then s.updEnd .badArgument
  else
    let s1 := (s.setFlag (fUPDSLOT_DIRTY n) false).bump (fUPDSLOT_CLEANCNT n) 1
    (s1.setUpd { s1.upd with cleaned := true }).updEnd .done

/-- SELFTEST_PASS (R589). -/
def State.updSelftest (s : State) : State := (s.setFlag fUPDSTAT_STPASS true).updEnd .done

/-- Step 3 of R590, with E_F raised to EPOCH. -/
def State.commitFinish (s : State) : State :=
  match s.upd.intent with
  | none => s
  | some (n, v, ep, dig) =>
    let s1 := s.fset fUPDFUSE_EPOCH (max ep (s.fget fUPDFUSE_EPOCH))
    let s2 := (s1.fset (fUPDSLOT_STATE n) usCommitted).fset (fUPDSLOT_STATE (1 - n)) usSuperseded
    let s3 := s2.setUpd { s2.upd with digC := dig, intent := none, block := 1 - s2.upd.block }
    (s3.fset fUPDCVER_VERSION v).setFlag fUPDFUSE_INTENT false

/-- Step 1 of COMMIT (R590): refused unless the image is on trial with three clean boots and its self-test passed. -/
def State.updCommit (s : State) : State :=
  let n := s.runSlot
  let h := s.slotHdr n
  if !s.onTrial ∨ s.fget (fUPDSLOT_CLEANCNT n) < 3 ∨ !s.flag fUPDSTAT_STPASS then s.updEnd .badArgument
  else (((s.setUpd { s.upd with intent := some (n, hVersion h, hEpoch h, hDigest h) }).setFlag fUPDFUSE_INTENT true).updBusy 5).say .done

/-- The next step of a commit that runs (R590): one epoch fuse, never begun while PFAIL_N is asserted (R73), or step 3. -/
def State.commitStep (s : State) : State :=
  match s.upd.intent with
  | none => s
  | some (_, _, ep, _) =>
    if s.fget fUPDFUSE_EPOCH < ep then
      if s.flag fPFSTAT_PFAIL then s else s.fset fUPDFUSE_EPOCH (s.fget fUPDFUSE_EPOCH + 1)
    else (s.commitFinish.setFlag fUPDSTAT_TRIAL false).updIdle.updEnd .done

/-- ABANDON (R588). -/
def State.updAbandon (s : State) : State :=
  if !s.onTrial then s.updEnd .badArgument else ((s.slotBad s.runSlot 5).updEnd .done).swr 0

/-- A write of UPDCTL: while a command runs, every other is refused with ENGINE_BUSY (R592, the note on OP). -/
def State.updctlWrite (s : State) (v : Nat) : State :=
  let op := fUPDCTL_OP.of v
  if fUPDCTL_KEY.of v ≠ 0x5550 then s.say .badKey
  else if s.flag fUPDRES_BUSY then s.say .engineBusy
  else if op = 1 then s.updCheck
  else if op = 2 then s.updInstall
  else if op = 3 then s.updClean
  else if op = 4 then s.updSelftest
  else if op = 5 then s.updCommit
  else if op = 6 then s.updAbandon
  else s.say .badArgument

/-- A write of UPDADDR discards the checked copy (R579). -/
def State.updaddrWrite (s : State) (v : Nat) : State :=
  (((s.fset fUPDADDR_ADDR (fUPDADDR_ADDR.of v)).setUpd { s.upd with kept := [] }).setFlag fUPDRES_CHECKED false).say .done

/-- UPDCTL with the right key. -/
def updValue (op : Nat) : Nat := 0x55500000 + op

/-- CHECK (R579). -/
def execCheck (a : Agent) (s : State) : Out := s.live <| .next (s.asAgent a rUPDCTL fun t => t.updctlWrite (updValue 1))
/-- INSTALL (R580): the write of UPDCTL, or the rest of an INSTALL that runs. -/
def execInstall (u : UpdAct) (s : State) : Out := s.live <|
  match u with
  | .write a => .next (s.asAgent a rUPDCTL fun t => t.updctlWrite (updValue 2))
  | .step => .next (if s.updRuns 2 then s.installStep else s)
/-- CLEAN (R586). -/
def execClean (a : Agent) (s : State) : Out := s.live <| .next (s.asAgent a rUPDCTL fun t => t.updctlWrite (updValue 3))
/-- SELFTEST_PASS (R589). -/
def execSelftestPass (a : Agent) (s : State) : Out := s.live <| .next (s.asAgent a rUPDCTL fun t => t.updctlWrite (updValue 4))
/-- COMMIT (R590): the write of UPDCTL, or the next step of a COMMIT that runs. -/
def execCommit (u : UpdAct) (s : State) : Out := s.live <|
  match u with
  | .write a => .next (s.asAgent a rUPDCTL fun t => t.updctlWrite (updValue 5))
  | .step => .next (if s.updRuns 5 then s.commitStep else s)
/-- ABANDON (R588). -/
def execAbandon (a : Agent) (s : State) : Out := s.live <| .next (s.asAgent a rUPDCTL fun t => t.updctlWrite (updValue 6))

/-! ## The image at boot (R582 to R587) -/

/-- A slot's image passes the checks of R584; the cause of a failure, as LASTFB numbers it. -/
def State.slotPasses (s : State) (n : Nat) : Option Nat :=
  let h := s.slotHdr n
  let p := s.upd.pays.get noBytes n
  match s.headerCheck h with
  | .done =>
    if p.length ≠ hSize h ∨ sha3_512 p ≠ hDigest h then some 1
    else if hSize h < le p 20 4 ∨ 67108864 < le p 20 4 then some 2
    else none
  | .rollback => some 3
  | _ => some 2

/-- The slots to try, in order: the PENDING or TRIAL one, then the COMMITTED one. -/
def State.trySlots (s : State) : List Nat :=
  ([0, 1].filter fun n => s.slotState n = usPending || s.slotState n = usTrial) ++ ([0, 1].filter fun n => s.slotState n = usCommitted)

/-- R587: a TRIAL slot found with DIRTY set after a WDG reset becomes BAD. -/
def State.trialWdg (s : State) (n : Nat) : State :=
  if s.slotState n = usTrial ∧ s.flag (fUPDSLOT_DIRTY n) ∧ s.pwr.kind = kWdg then s.slotBad n 4 else s

/-- The first slot that passes; every slot tried before it becomes BAD. -/
def State.pickSlot (s : State) : List Nat → State × Option Nat
  | [] => (s, none)
  | n :: ns =>
    match s.slotPasses n with
    | none => (s, some n)
    | some c => State.pickSlot (s.slotBad n c) ns

/-- Boot step 5 (R582 to R587): any commit completed, INSTALLING counted as EMPTY, a slot chosen; the chosen slot runs, on trial
when it was PENDING or TRIAL. -/
def State.imageSelect (s : State) : State × Option Nat :=
  let s1 := s.commitFinish
  let s2 := [0, 1].foldl (fun (t : State) n => if t.slotState n = usInstalling then t.fset (fUPDSLOT_STATE n) usEmpty else t) s1
  let s3 := (s2.trialWdg 0).trialWdg 1
  match s3.pickSlot s3.trySlots with
  | (t, none) => (t, none)
  | (t, some n) =>
    let trial := t.slotState n ≠ usCommitted
    let t1 := (t.fset fUPDSTAT_RUN n).setFlag fUPDSTAT_TRIAL trial
    (if trial then (t1.fset (fUPDSLOT_STATE n) usTrial).setFlag (fUPDSLOT_DIRTY n) true else t1, some n)

end Sys2Proof.Machine
end

