-- ==== Sys2Proof/Machine/LedgerCmd.lean ====
section
/-!
DEFINITION. The dispatcher's and the ledger's commands: Q0, queues, markers, programs, rebuild, replay and the determinism break
(R116, R129, R201 to R206, R218, R219, R231 to R235, R242 to R246).
-/

namespace Sys2Proof.Machine

/-- DISPATCH_GRANT (R118 to R121). -/
def execDispatchGrant (s : State) : Out := s.live <| .next s.dispatchGrant

/-! ## Q0 -/

/-- A descriptor's words as an item. -/
def itemOf (d : List GReg) : Item :=
  let w := fun i => (d.getD i {}).val
  ⟨w 0, w 1, w 2, w 3, w 4, w 5, w 6, w 7⟩

/-- Why the dispatcher discards an item taken from Q0, the endpoint's rebuild and boot step 10 apart (R116, R219). -/
def State.q0Bad (s : State) (d : List GReg) : Bool :=
  let i := itemOf d
  !descEnd d || d.any (·.poison) || (s.progOf i.prog).isNone || (i.isn = 0 && i.entry ≠ 2)

/-- Outside boot step 10 an item with a non-zero ISN is taken only for an endpoint being rebuilt (R219). -/
def State.q0Seen (s : State) (i : Item) : Bool :=
  s.mode = modeBoot || s.ldg.rebuild = some i.epi || s.epiHeld i.epi

/-- A discarded item counted (R116). -/
def State.disRej (s : State) : State := s.bump fDISREJ_REJ 1

/-- The IC of the journaled READINGS input of an ISN. -/
def State.journaledIc (s : State) (epi isn : Nat) : Option Nat :=
  (s.journalEntries.find? fun e =>
    entKind e = jkReadings && entEpi e = epi && decide (entIsn e ≤ isn) && decide (isn < entIsn e + entN e)).map fun e => le e 32 8

/-- What replay at boot step 10 notes of an item taken from Q0: its ISN, and LAST_IC of a reading (R393). -/
def State.replayNote (s : State) (i : Item) : State :=
  if s.mode ≠ modeBoot then s else
  let s1 := s.setLdg { s.ldg with replIsn := max s.ldg.replIsn i.isn }
  match if i.isReading then s.journaledIc i.epi i.isn else none with
  | some ic => s1.icAdvance i.epi ic
  | none => s1

/-- DISPATCHER_Q0_TAKE (R116, R117, R219): the front of Q0 goes to the ready store or is discarded; an ON_COMMAND with ISN 0 is
left to ingest. -/
def execDispatcherQ0Take (s : State) : Out := s.live <|
  if s.storeFull then .next s else
  match s.frontJob 0 with
  | none => .next s
  | some d =>
    let i := itemOf d
    if s.q0Bad d then .next ((s.dequeued 0).disRej.rebuildEnd i.epi)
    else if i.isn = 0 then .next s
    else if !s.q0Seen i then .next (s.dequeued 0).disRej
    else
      let rank := if s.ldg.rebuild = some i.epi ∨ s.epiHeld i.epi then 1 else 2
      .next (((s.dequeued 0).replayNote i).postItem i rank (i.entry ≠ 1 && i.entry ≠ 3))

/-- HW_ENQUEUE (R129): an item of a hardware producer. -/
def execHwEnqueue (q : Fin 128) (d : BitVec 256) (s : State) : Out := s.live <|
  .next (s.hwEnqueue q.val (plainDesc ((List.range 8).map fun i => bits d.toNat (32 * i) 32)))

/-- QCFG_WRITE (R127, R132). -/
def execQcfgWrite (a : Agent) (q : Fin 128) (v : Word) (s : State) : Out := s.live <|
  .next (s.asAgent a (rQCFG q.val) fun t => t.qcfgWrite q.val v.toNat)

/-- QUEUE_FLUSH (R136). -/
def execQueueFlush (a : Agent) (q : Fin 128) (s : State) : Out := s.live <|
  .next (s.asAgent a (rQCTL q.val) fun t => (t.flush q.val).say .done)

/-- INGEST_COMMAND (R202, R218, R219): the ON_COMMAND descriptor with ISN 0 at the front of Q0 is journaled and posted. -/
def execIngestCommand (s : State) : Out := s.live <|
  if s.storeFull then .next s else
  match s.frontJob 0 with
  | none => .next s
  | some d =>
    let i := itemOf d
    if s.q0Bad d ∨ i.isn ≠ 0 then .next s
    else if i.kind = 0 then .next ((s.dequeued 0).disRej)
    else if s.epiHeld i.epi ∨ s.epiCut i.epi then .next s
    else if s.noCalendar ∨ !s.ingestOpen then .next ((s.dequeued 0).say .modeDenied)
    else
      match (s.epiEntry i.epi).bind fun e => s.eligible e.cls (s.kLast + 1) with
      | none => .next ((s.dequeued 0).bump fLDGNOPROG_COUNT 1)
      | some p =>
        let prog := s.fget (fLDGPRG_HANDLE p)
        let e := i.w4.toNat + 2 ^ 32 * i.w5.toNat
        let body := leBytes 2 i.kind ++ leBytes 2 prog ++ leBytes 4 0 ++ leBytes 8 e ++ leBytes 4 i.w6.toNat ++ leBytes 4 i.w7.toNat
        match (s.dequeued 0).journal [{ kind := jkCommand, n := 1, epi := i.epi, body := body }] (fun _ => .free) with
        | .ok s1 => .next ((s1.postItem (s1.commandItem i.epi prog i.kind s1.lastIsn e i.w6.toNat i.w7.toNat) 2 true).say .done)
        | .refused st => .next (((s.dequeued 0).journalRefused st).say st)
        | .wait => .next s

/-! ## Markers (R201 to R207) -/

/-- The scheduler's conditions for the next marker (R201, R467). -/
def State.markerDue (s : State) : Bool :=
  let k := s.kLast + 1
  s.flag fLDGCFG_SCHED_EN && s.serving && s.pwr.pf = .idle && s.timeValid && !s.noCalendar && decide (0 ≤ k)
    && decide (s.hK k.toNat ≤ s.meterNow) && !s.flag fLDGSTAT_ROUND && !s.flag fLDGSTAT_LOADING && s.ldg.markerPend.isNone
    && !(s.moveIsB && !s.mov.committed && (s.mov.m : Int) = k) && s.ldg.inq.isEmpty

/-! ## Inputs of the shadow stream (R204 to R206, R513) -/

/-- The move state after a CUT, MOVE_IN or MOVE_OUT of the active: as at the active, with nothing sent (R513). -/
def State.shadowMove (s : State) (kind b m : Nat) : State :=
  if kind = jkCut then
    let new := if s.mov.pending ∧ s.mov.bucket = b then s.mov.newHome else s.seamNew b
    (s.setMov { s.mov with pending := true, bucket := b, newHome := new, oldHome := s.self }).cutApply b m
  else if kind = jkMoveIn then
    ((s.setMov { s.mov with pending := true, bucket := b, newHome := s.self, oldHome := s.seamHome b, m := m, committed := true }).fset
      fSEMSTAT_MOVE semCommitted).seamPut b s.self 0 false
  else
    let s1 := (s.bucketEpis b).foldl (fun t e => match t.epiSlot e with
      | some i => t.eptClear i
      | none => t) s
    if s1.mov.pending ∧ s1.mov.bucket = b then (s1.setMov {}).fset fSEMSTAT_MOVE semNone else s1

/-- What an INPUT posts, exactly as ingest would (R206, R513). -/
def State.inputPost (s : State) (e : List Byte) : State :=
  let kind := entKind e
  let epi := entEpi e
  let isn := entIsn e
  let b := e.drop 16
  if kind = jkReadings then (s.icAdvance epi (max (s.lastIc epi) (le b 16 8))).postReadings epi isn (entryReadings (entN e) b)
  else if kind = jkCommand then
    s.postItem (s.commandItem epi (le b 2 2) (le b 0 2) isn (le b 8 8) (le b 16 4) (le b 20 4)) 2 true
  else if kind = jkMarker then s.markerApply (le b 0 4) isn
  else if kind = jkMetro then s.metroApply b isn
  else if kind = jkTopo then s.topoPend (le b 0 1)
  else if kind = jkKeygen then s.keygenApply epi b true
  else if kind = jkCut ∨ kind = jkMoveIn ∨ kind = jkMoveOut then s.shadowMove kind (le b 0 2) (le b 4 4)
  else s

/-- Inputs posted in order, up to a marker that must wait for the round in progress (R201, R205). -/
def State.inputRun : List (List Byte) → State → State
  | [], s => s.setLdg { s.ldg with inq := [] }
  | e :: es, s =>
    if s.flag fLDGSTAT_ROUND ∧ entKind e = jkMarker then s.setLdg { s.ldg with inq := e :: es }
    else State.inputRun es (s.inputPost e)

/-- Inputs that waited for a round go on once it is complete. -/
def State.inputDrain (s : State) : State := if s.flag fLDGSTAT_ROUND then s else State.inputRun s.ldg.inq s

/-- An input posted in its turn: behind those that wait, and a marker only with no round in progress. -/
def State.inputTake (s : State) (e : List Byte) : State := State.inputRun (s.ldg.inq ++ [e]) s

/-- PRESS_TICK (R201, R205): a firing of the press trigger, or the end of a round. -/
def execPressTick (s0 : State) : Out := s0.live <|
  let s := s0.inputDrain
  let s1 := s.setTime { s.time with fired := setBits s.time.fired 2 1 0 }
  .next (if s.markerDue then s1.setLdg { s1.ldg with markerPend := some (s.kLast + 1).toNat } else s1)

/-- A MARKER entry (R602). -/
def markerEntry (k : Nat) : JEnt := { kind := jkMarker, n := 1, epi := 0, body := leBytes 4 k }

/-- A journaled marker takes effect, and the CUT that shares its commit group (R203, R466). -/
def State.markerDone (s : State) (k isn : Nat) (cut : Bool) : State :=
  let s1 := (s.setLdg { s.ldg with markerPend := none }).markerApply k isn
  if cut then s1.cutApply s1.mov.bucket s1.mov.m else s1

/-- MARKER_JOURNALED (R203): the journal write of the marker that the scheduler requested. -/
def execMarkerJournaled (s : State) : Out := s.live <|
  match s.ldg.markerPend with
  | none => .next s
  | some k =>
    let isn := s.nextIsn
    let cut := s.cutDue k
    let es := if cut then [markerEntry k, cutEntry s.mov.bucket s.mov.m] else [markerEntry k]
    match s.journalRaw es (fun _ => .free) with
    | .ok s1 => .next (s1.markerDone k isn cut)
    | .wait => .next s
    | .refused st =>
      match if cut then s.journalRaw [markerEntry k] (fun _ => .free) else .refused st with
      | .ok s1 => .next (s1.markerDone k isn false)
      | .wait => .next s
      | .refused st => .next ((s.setLdg { s.ldg with markerPend := none }).journalRefused st)

/-! ## Programs (R188, R189, R231 to R235) -/

/-- Some item that is ready or held by a core names this handle. -/
def State.progNamed (s : State) (h : Nat) : Bool :=
  (s.ldg.ready.any fun r => r.item.prog = h) || s.lcs.any fun e => match e.2.item with
    | some i => i.prog = h
    | none => false

/-- PROGRAM_RETIRE (R235). -/
def execProgramRetire (n : Fin 16) (s : State) : Out := s.live <|
  if s.progState n.val = psPrevious ∧ (s.fget (fLDGPRG_LASTK n.val) : Int) < s.kLast - 95
      ∧ !s.progNamed (s.fget (fLDGPRG_HANDLE n.val)) then
    .next ((s.setReg (rLDGPRG n.val) (regReset (rLDGPRG n.val))).setProg n.val {})
  else .next s

/-- The ENTRYn and BUDGETn of a body. -/
def bodyEntry (b : List Byte) (i : Nat) : Nat := le b (24 + 4 * i) 4
def bodyBudget (b : List Byte) (i : Nat) : Nat := le b (40 + 4 * i) 4

/-- The rules of R188's table. -/
def bodyOk (b : List Byte) : Bool :=
  let cb := le b 8 4
  let cs := le b 12 4
  let kb := le b 16 4
  let ks := le b 20 4
  le b 0 4 = 0x43564C31 && le b 4 1 = 0x4C && le b 5 1 = 1 && le b 6 2 = 0
    && cb % 64 = 0 && 64 ≤ cb && cs % 4 = 0 && cb + cs ≤ 32768 && kb % 64 = 0 && ks % 8 = 0 && kb + ks ≤ 24576
    && ((List.range 4).all fun i => bodyEntry b i = 0 || (bodyEntry b i % 4 = 0 && cb ≤ bodyEntry b i && bodyEntry b i < cb + cs))
    && ((List.range 4).all fun i => 1 ≤ bodyBudget b i && bodyBudget b i ≤ 16777215)
    && le b 56 8 = 0 && b.length = 64 + cs + ks

/-- Two ranges have a byte in common. -/
def overlap (b1 n1 b2 n2 : Nat) : Bool := b1 < b2 + n2 && b2 < b1 + n1 && n1 ≠ 0 && n2 ≠ 0

/-- A body's ranges overlap a program still eligible (R189, R233). -/
def State.rangesTaken (s : State) (b : List Byte) : Bool :=
  (List.range 16).any fun i => s.progState i ≠ psEmpty &&
    (overlap (le b 8 4) (le b 12 4) (s.prog i).codeBase (s.prog i).codeSize
      || overlap (le b 16 4) (le b 20 4) (s.prog i).constBase (s.prog i).constSize)

/-- The word of WAITW, which the loader writes at offset 0 (R191). -/
def waitwWord : Nat := 0x80000005

/-- Step 5 of R232: code, constants and the idle block into every unfenced ledger core. -/
def State.copyProgram (s : State) (b : List Byte) : State :=
  let cs := le b 12 4
  (List.range 64).foldl (fun (t : State) n =>
    if t.fenced (32 + n) then t else
    ((t.write (lcImem n + le b 8 4) (sub b 64 cs)).write (lcData n + 0x2000 + le b 16 4) (sub b (64 + cs) (le b 20 4))).poke
      (lcImem n) 4 waitwWord) s

/-- Nothing entered yet for a CLASS (R232). -/
def verReset : Nat → Nat × List Byte := fun _ => (0, [])

/-- The load's checks, in R232's order: its status and the body. -/
def State.loadCheck (s : State) (a : Nat) : Status × List Byte × State :=
  let size := s.peek (a + 16) 4
  if a % 64 ≠ 0 then (.badAlign, [], s)
  else if !s.inDa a 96 ∨ !s.inDa a (96 + size + sigBytes) then (.badAddress, [], s)
  else if s.poisonedIn a 96 then (.poisoned, [], s)
  else
    let h := s.bytes a 96
    if le h 0 4 ≠ 0x4C414354 ∨ le h 4 1 ≠ 1 ∨ le h 6 2 = 0 ∨ le h 20 12 ≠ 0 ∨ size < 64 ∨ 57344 < size then (.badFormat, [], s)
    else if s.fenced 9 ∨ s.fenced 8 then (.fenced, [], s)
    else if s.poisonedIn (a + 96 + size) sigBytes then (.poisoned, [], s)
    else
      let st := s.verifyWith 3 h ctxNone (s.bytes (a + 96 + size) sigBytes)
      let s1 := s.countVerify st
      if st ≠ .done then (if st = .badArgument then .sigFail else st, [], s1)
      else if s.poisonedIn (a + 96) size then (.poisoned, [], s1)
      else
        let b := s.bytes (a + 96) size
        if sha3_512 b ≠ sub h 32 64 then (.sigFail, [], s1)
        else if !bodyOk b ∨ s.rangesTaken b then (.badFormat, [], s1)
        else
          let cls := le h 5 1
          let (mv, md) := s.ldg.maxVer.get verReset cls
          let ver := le h 12 4
          if md ≠ [] ∧ (ver < mv ∨ (ver = mv ∧ md ≠ sub h 32 64)) then (.rollback, [], s1)
          else if (le h 8 4 : Int) < s.kLast + 2 ∨ (s.progOf (le h 6 2)).isSome
              ∨ (List.range 16).any (fun i => s.progState i = psLoaded && s.fget (fLDGPRG_CLASS i) = cls) then (.badArgument, [], s1)
          else if (List.range 16).all fun i => s.progState i ≠ psEmpty then (.tableFull, [], s1)
          else (.done, b, s1)

/-- Step 6 of R232: the program entered as LOADED. -/
def State.enterProgram (s : State) (h b : List Byte) : State :=
  match (List.range 16).find? fun i => s.progState i = psEmpty with
  | none => s
  | some i =>
    let r := setBits (setBits (setBits (setBits (le h 6 2) 16 8 (le h 5 1)) 24 2 psLoaded) 32 32 (le h 8 4)) 64 32 (le h 12 4)
    let s1 := s.setReg (rLDGPRG i) (setBits r 96 32 noK)
    let s2 := s1.setProg i {
      codeBase := le b 8 4, codeSize := le b 12 4, constBase := le b 16 4, constSize := le b 20 4,
      entries := (List.range 4).map (bodyEntry b), budgets := (List.range 4).map (bodyBudget b), digest := sub h 32 64 }
    s2.setLdg { s2.ldg with maxVer := s2.ldg.maxVer.put verReset (le h 5 1) (le h 12 4, sub h 32 64) }

/-- A write of LDGLDCTL with GO: the load runs to its end (R232). -/
def State.progLoad (s : State) : State :=
  let a := s.fget fLDGLDADDR_ADDR
  let (st, b, s1) := s.loadCheck a
  let s2 := if st = .done then ((s1.touch a (96 + b.length + sigBytes)).copyProgram b).enterProgram (s.bytes a 96) b else s1
  (s2.fset fLDGLDSTAT_STATUS st.code).say .done

/-- PROGRAM_LOAD (R232). -/
def execProgramLoad (a : Agent) (s : State) : Out := s.live <| .next (s.asAgent a rLDGLDCTL State.progLoad)

/-! ## Rebuild (R242) -/

/-- A write of LDGREBUILD. -/
def State.rebuildWrite (s : State) (v : Nat) : State :=
  let hold := s.flag fLDGREBUILD_HOLD
  let epi := fLDGREBUILD_EPI.of v
  let go := (fLDGREBUILD_GO.of v) = 1
  let rel := (fLDGREBUILD_RELEASE.of v) = 1
  if hold ∧ go then s.say .engineBusy
  else if !hold ∧ rel then s.say .badArgument
  else if go then (((s.fset fLDGREBUILD_EPI epi).setFlag fLDGREBUILD_HOLD true).setLdg { s.ldg with rebuild := some epi }).say .done
  else if rel then ((s.setFlag fLDGREBUILD_HOLD false).rebuildEnd (s.fget fLDGREBUILD_EPI)).say .done
  else if hold then s.say .done
  else (s.fset fLDGREBUILD_EPI epi).say .done

/-- REBUILD_GO (R242). -/
def execRebuildGo (a : Agent) (epi : BitVec 18) (s : State) : Out := s.live <|
  .next (s.asAgent a rLDGREBUILD fun t => t.rebuildWrite (epi.toNat + 2 ^ 31))

/-- REBUILD_RELEASE (R242). -/
def execRebuildRelease (a : Agent) (s : State) : Out := s.live <|
  .next (s.asAgent a rLDGREBUILD fun t => t.rebuildWrite (t.fget fLDGREBUILD_EPI + 2 ^ 29))

/-! ## Replay (R245, R246, R609) -/

/-- Boot step 10 (R67): the settings are applied, the chip did not enter COMMISSION, every unfenced ledger core has left the idle block
for WAITW, and replay has not reached the last accepted ISN. -/
def State.bootStep10 (s : State) : Bool :=
  s.mode = modeBoot && decide (7 ≤ s.pwr.bootStep) && s.life = lifeField &&
    ((List.range 64).all fun n => s.fenced (32 + n) || (s.lc n).run ≠ .idle) && (!s.ldg.replayed || decide (s.ldg.replIsn < s.lastIsn))

/-- The ISN of the journaled marker of interval `k`; unstated where the journal holds none. -/
def State.markerIsn (s : State) (k : Nat) : Nat :=
  match s.journalEntries.find? fun e => entKind e = jkMarker && le e 16 4 = k with
  | some e => entIsn e
  | none => s.draw % 2 ^ 48

/-- A write of LDGREPLAY (R245). -/
def State.replayWrite (s : State) (k : Nat) : State :=
  if !s.bootStep10 then s.say .modeDenied
  else if !s.ldg.replayed then
    ((((s.setReg rLDGLASTK k).setFlag fLDGSTAT_REPLAY true).setLdg { s.ldg with
      replayed := true, ckptLow := ((s.mrm.ckpts.head?.map (·.lowIsn)).getD 0) })).say .done
  else if (k : Int) ≠ s.kLast + 1 then s.say .badArgument
  else if s.flag fLDGSTAT_ROUND then s.say .engineBusy
  else
    let isn := s.markerIsn k
    (((s.drawn 1).setLdg { s.ldg with replIsn := max s.ldg.replIsn isn }).markerApply k isn).say .done

/-- LDGREPLAY_WRITE (R245). -/
def execLdgreplayWrite (a : Agent) (k : Word) (s : State) : Out := s.live <|
  .next (s.asAgent a rLDGREPLAY fun t => t.replayWrite k.toNat)

/-- The move state that a CUT, MOVE_IN or MOVE_OUT restores (R246, R468): after a CUT the old home asks for an abort, after a MOVE_IN
the new home sends MOVED again. -/
def State.moveRestore (s : State) (kind b m : Nat) : State :=
  if kind = jkCut then
    let s1 := s.setMov { pending := true, bucket := b, newHome := s.seamNew b, oldHome := s.self, m := m, asked := true }
    (s1.cutApply b m).seamMsg (s.seamNew b) seamAsk b
  else if kind = jkMoveIn then
    let s1 := (s.setMov { pending := true, bucket := b, newHome := s.self, oldHome := s.seamHome b, m := m, committed := true }).fset
      fSEMSTAT_MOVE semCommitted
    (List.range (s1.fget fSEMCFG_NCHIPS)).foldl (fun t c => if c = t.self then t else t.seamMsg c seamMoved b) s1
  else if s.mov.pending ∧ s.mov.bucket = b then (s.setMov {}).fset fSEMSTAT_MOVE semNone else s

/-- A journal entry applied in replay (R246). -/
def State.entryApply (s0 : State) (e : List Byte) : State :=
  let s := s0.setLdg { s0.ldg with replIsn := max s0.ldg.replIsn (entIsn e + entN e - 1) }
  let kind := entKind e
  let epi := entEpi e
  let body := e.drop 16
  let low := entIsn e ≤ s.ldg.ckptLow
  if kind = jkKeygen then
    if entIsn e ≤ s.pageLastIsn epi ∨ s.kg epi = le body 0 1 then s
    else s.keygenApply epi body (resvGen (s.peek (resvAddr epi) 8) ≠ le body 0 1)
  else if low then s
  else if kind = jkMetro then s.metroApply body (entIsn e)
  else if kind = jkTopo then s.topoPend (le body 0 1)
  else if kind = jkCut ∨ kind = jkMoveIn ∨ kind = jkMoveOut then s.moveRestore kind (le body 0 2) (le body 4 4)
  else s

/-- JPOISON (R609): an entry that replay cannot read. -/
def State.jpoison (s : State) (e : List Byte) (readable : Bool) : State :=
  let epi := if readable then entEpi e else 2 ^ 32 - 1
  (s.bump fMRMJPOISON_COUNT 1).pushData (s.hwRec 0xF5 0 (2 ^ 64 - 1) 0
    (leBytes 8 (entIsn e) ++ leBytes 4 epi ++ leBytes 2 (entN e) ++ leBytes 2 0))

/-- The CRC of an entry holds (R601). -/
def entOk (e : List Byte) : Bool := le e 12 4 = crc32c (sub e 0 12 ++ e.drop 16)

/-- A write of LDGREPLAYE (R246, R609). -/
def State.replayeWrite (s : State) (v : Nat) : State :=
  let a := fLDGREPLAYE_ADDR.of v
  if !s.bootStep10 then s.say .modeDenied
  else if a % 16 ≠ 0 then s.say .badAlign
  else if !s.inDa a 16 ∨ !s.inDa a (entSize (s.bytes a 16)) then s.say .badAddress
  else
    let n := max 16 (entSize (s.bytes a 16))
    let e := s.bytes a n
    let t := s.touch a n
    if s.poisonedIn a n then (t.jpoison e (!s.poisonedIn a 16)).say .done
    else if !entOk e then (t.jpoison e true).say .done
    else (t.entryApply e).say .done

/-- REPLAY_ENTRY_APPLY (R246). -/
def execReplayEntryApply (a : Agent) (addr : DWord) (s : State) : Out := s.live <|
  .next (s.asAgent a rLDGREPLAYE fun t => t.replayeWrite addr.toNat)

/-! ## The determinism break (R243) -/

/-- DETBRK_DAILY (R243). -/
def execDetbrkDaily (s : State) : Out := s.live <|
  if s.flag fLDGSTAT_DETBRK ∧ s.ldg.detLast + secRaw 86400 ≤ s.time.raw then
    .next ((s.setLdg { s.ldg with detLast := s.time.raw }).pushData
      (s.hwRec 0xF3 0 (2 ^ 64 - 1) 0 (s.kLastBytes ++ leBytes 4 0)))
  else .next s

/-- A write of LDGSTAT: DETBRK clears only once the archive is writable and a full checkpoint has completed. -/
def State.ldgstatWrite (s : State) (v : Nat) : State :=
  (if (fLDGSTAT_DETBRK.of v) = 1 ∧ !s.flag fNFCSTAT_RO ∧ s.ldg.detClean then s.setFlag fLDGSTAT_DETBRK false else s).say .done

/-- DETBRK_CLEAR (R243). -/
def execDetbrkClear (a : Agent) (s : State) : Out := s.live <| .next (s.asAgent a rLDGSTAT fun t => t.ldgstatWrite 8)

end Sys2Proof.Machine
end

