-- ==== Sys2Proof/Machine/Metrology.lean ====
section
/-!
DEFINITION. Check metrology: samples, interval totals, calibration and the METRO and TOPO inputs (R251 to R266).
-/

namespace Sys2Proof.Machine

/-- Metrology runs: enabled and not fenced. -/
def State.cmtOn (s : State) : Bool := s.flag fCMTCFG_EN && !s.fenced 30

/-- Coefficients of a channel before any CMTCALn write takes effect. -/
def calReset : Nat → Nat := fun _ => 0x01000000

/-- An enabled channel. -/
def State.chOn (s : State) (n : Nat) : Bool := bit (s.fget fCMTCFG_CH_EN) n

/-- The enabled channel that carries a role (R251, R252). -/
def State.roleCh (s : State) (r : Nat) : Option Nat :=
  (List.range 16).find? fun n => s.chOn n && bits s.met.role (4 * n) 4 = r

/-- The scale of an exact calibrated value: 8,000 × 2^24. -/
def metScale : Nat := 8000 * 2 ^ 24

/-- A raw code less its channel's offset (R256 step 1). -/
def State.metOff (s : State) (n : Nat) (code : Nat) : Int :=
  sx code 24 - sx (bits (s.met.cal.get calReset n) 32 24) 24

/-- The calibrated sample of a channel, times `metScale` (R256): what the fractional delay of a PHASE makes of a sample is a free value,
which the GAIN then multiplies. -/
def State.metVal (s : State) (n : Nat) (code : Nat) : Int :=
  let c := s.met.cal.get calReset n
  let mean := if s.flag fCMTCFG_HPF then s.met.prev.get zeroI n else 0
  let x := s.metOff n code * 8000 - mean
  let y := if bits c 64 11 = 0 then x else Config.fracDelay (s.freeCtr + n) (bits c 64 11) x
  y * (bits c 0 32 : Nat)

/-- A code at the end of the converter's range (R256). -/
def saturated (code : Nat) : Bool := code = 0x7FFFFF || code = 0x800000

/-- A value added to a table entry. -/
def addI (l : Store Int) (k : Nat) (x : Int) : Store Int := l.put zeroI k (l.get zeroI k + x)

/-- The products of a sample added for one feeder and phase (R257). -/
def State.metProduct (s : State) (val : Nat → Int) (m : MetSt) (fp : Nat) : MetSt :=
  match s.roleCh (4 + fp) with
  | none => m
  | some ci =>
    let i := val ci
    let m1 := { m with isq := addI m.isq fp (i * i) }
    match s.roleCh (fp % 3) with
    | none => m1
    | some cv => { m1 with blk := addI m1.blk fp (i * val cv) }

/-- The open one-second block of products goes to import or export by its sign (R257). -/
def MetSt.blockEnd (m : MetSt) : MetSt :=
  (List.range 12).foldl (fun (m : MetSt) fp =>
    let x := m.blk.get zeroI fp
    if 0 < x then { m with imp := addI m.imp fp x } else if x < 0 then { m with exp := addI m.exp fp (-x) } else m)
    m |> fun m => { m with blk := [], blkN := 0 }

/-- A one-second block of offset-corrected samples becomes the previous one (R256). -/
def MetSt.meanEnd (m : MetSt) : MetSt := { m with prev := m.cur, cur := [], curN := 0 }

/-- More than one firing has been missed since the last latch (R253; notes/assumptions/20.md). -/
def State.metGap (s : State) : Bool := s.met.latch + 250000 ≤ s.time.raw

/-- One sample on all enabled channels (R253, R256, R257). -/
def State.metSample (s : State) (code : Nat → Nat) : State :=
  let chans := (List.range 16).filter s.chOn
  let satNow := chans.foldl (fun a n => if saturated (code n) then a ||| 2 ^ n else a) 0
  let s0 := s.fset fCMTSTAT_SAT (s.fget fCMTSTAT_SAT ||| satNow)
  let val := fun n => s.metVal n (code n)
  let m0 := s.met
  let m1 := chans.foldl (fun (m : MetSt) n => { m with cur := addI m.cur n (s.metOff n (code n)) }) m0
  let m2 := (List.range 4).foldl (fun (m : MetSt) r => match s.roleCh r with
    | some n => { m with vsq := addI m.vsq r (val n * val n) }
    | none => m) m1
  let m3 := (List.range 12).foldl (fun m fp => s.metProduct val m fp) m2
  let m4 := { m3 with
    nsamp := m3.nsamp + 1, blkN := m3.blkN + 1, curN := m3.curN + 1, sat := m3.sat ||| satNow, noTrig := m3.noTrig || s.metGap, latch := s.time.raw }
  let m5 := if m4.blkN = 8000 then m4.blockEnd else m4
  let m5 := if m5.curN = 8000 then m5.meanEnd else m5
  (s0.setMet m5).drawn 16

/-- The raw count at which the conversion of the last sample firing begins: the first MET edge, a multiple of 250, at or after the
firing's raw count (R39). -/
def State.metEdge (s : State) : Nat := roundUp 250 (s.time.fireRaw.get natZero (s.fget fCMTCFG_SAMP_TRIG))

/-- SAMPLE_LATCH (R39, R253): the MET edge that follows a firing of the sample trigger; `codes` holds the 24-bit raw codes of CM0 to CM15.
A pending interval firing goes first (R254). -/
def execSampleLatch (codes : BitVec 384) (s : State) : Out := s.live <|
  if !bit s.time.fired 0 ∨ bit s.time.fired 1 ∨ s.time.raw ≠ s.metEdge then .next s else
  let s1 := s.setTime { s.time with fired := setBits s.time.fired 0 1 0 }
  if !s1.cmtOn then .next s1
  else if !s1.flag fCMTSTAT_RUN then .next (s1.setMet { s1.met with latch := s1.time.raw })
  else .next (s1.metSample fun n => bits codes.toNat (24 * n) 24)

/-! ## The close of an interval (R255, R258, R259, R263) -/

/-- The shadow copy: the CMTCALn registers as written. -/
def State.calRegs (s : State) : Store Nat :=
  (List.range 16).foldl (fun (l : Store Nat) n => Store.put calReset l n (s.reg (rCMTCAL n))) []

/-- The shadow copy is about to be written: the registers before the first write of a cycle are kept, and coefficients wait (R261). -/
def State.calNote (s : State) : State :=
  (if s.met.calWrAt = some s.time.raw then s
    else s.setMet { s.met with calWrAt := some s.time.raw, calPrev := s.calRegs }).setFlag fCMTSTAT_SHADOW true

/-- A quotient of the totals; with no sample it is unstated. -/
def State.metQuot (s : State) (i : Nat) (n d : Nat) : Nat := if d = 0 then Config.freeDraw (s.freeCtr + i) else n / d

/-- L in seconds. -/
def State.lSec (s : State) : Nat := s.lms / 1000

/-- Roles that a feeder's record uses. -/
def feederRoles (f : Nat) : List Nat := [0, 1, 2, 3, 4 + 3 * f, 5 + 3 * f, 6 + 3 * f]

/-- A channel's gain error is beyond the limit (R262). -/
def State.drifts (s : State) (n : Nat) : Bool :=
  s.flag (fCMTDRIFT_VALID n) && decide (s.fget fCMTCFG_DRIFT_LIM * 100 < (sx (s.fget (fCMTDRIFT_PPM n)) 24).natAbs)

/-- FFLAGS of a feeder (R259). -/
def State.fflags (s : State) (f : Nat) (step : Bool) : Nat :=
  let chans := (feederRoles f).filterMap s.roleCh
  let want := s.lSec * 8000
  b2n (decide (s.met.nsamp * 1000 < want * 999)) +
  2 * b2n (step || decide (want * 1001 < s.met.nsamp * 1000)) +
  4 * b2n (chans.any fun n => bit s.met.sat n) +
  8 * b2n (chans.any s.drifts) +
  16 * b2n ((feederRoles f).any fun r => (s.roleCh r).isNone) +
  32 * b2n (s.met.noTrig || s.metGap)

/-- IMP, EXP and IRMS of a feeder and phase (R258). -/
def State.fpTotals (s : State) (m : MetSt) (fp : Nat) : List Byte :=
  let d := m.nsamp * 36000000000 * (metScale * metScale)
  let q := fun (x : Int) i => s.metQuot i (x.toNat * s.lSec) d
  leBytes 8 (q (m.imp.get zeroI fp) (3 * fp)) ++ leBytes 8 (q (m.exp.get zeroI fp) (3 * fp + 1)) ++
  leBytes 4 (isqrt (s.metQuot (3 * fp + 2) (m.isq.get zeroI fp).toNat (m.nsamp * 10000 * (metScale * metScale)))) ++ leBytes 4 0

/-- VRMS of a role (R258); 0 where the role is absent. -/
def State.vrms (s : State) (m : MetSt) (r : Nat) : List Byte :=
  leBytes 4 (if (s.roleCh r).isNone then 0
    else isqrt (s.metQuot (40 + r) (m.vsq.get zeroI r).toNat (m.nsamp * 10000 * (metScale * metScale))))

/-- A FEEDER body (R280). -/
def State.feederBody (s : State) (m : MetSt) (f : Nat) (step : Bool) : List Byte :=
  leBytes 4 (cut 32 m.k) ++ leBytes 2 (s.fflags f step) ++ leBytes 1 f ++ leBytes 1 0 ++ leBytes 4 m.nsamp ++ leBytes 4 0 ++
  leBytes 8 (cut 64 ((s.origin : Int) + m.k * s.lms)) ++ (List.range 4).flatMap (s.vrms m) ++
  (List.range 3).flatMap fun p => s.fpTotals m (3 * f + p)

/-- The feeders of a METRO input: those with a current channel. -/
def State.metFeeders (s : State) : List Nat :=
  (List.range 4).filter fun f => (List.range 3).any fun p => (s.roleCh (4 + 3 * f + p)).isSome

/-- A METRO body (R602). -/
def State.metroBody (s : State) (m : MetSt) (step : Bool) : List Byte :=
  leBytes 4 (cut 32 m.k) ++ leBytes 1 (s.metFeeders.foldl (fun a f => a ||| 2 ^ f) 0) ++ leBytes 11 0 ++
  s.metFeeders.flatMap fun f => s.feederBody m f step

/-- The METRO input journaled and applied; it waits while the ring is full, and is lost when refused (R263, R604, R605). -/
def State.metroInput (s : State) (body : List Byte) : State :=
  match s.journal [{ kind := jkMetro, n := 1, epi := 0, body := body }] (fun _ => .free) with
  | .ok s1 => s1.metroApply body s1.lastIsn
  | .refused st => s.journalRefused st
  | .wait => s.setBal { s.bal with metroHeld := s.bal.metroHeld ++ [body] }

/-- METRO inputs that waited for room, tried again in order. -/
def State.metroRetry (s : State) : State :=
  s.bal.metroHeld.foldl State.metroInput (s.setBal { s.bal with metroHeld := [] })

/-- A TOPO input journaled; it waits while the ring has no room, and is pending meanwhile (R266, R605). -/
def State.topoInput (s : State) (sel : Nat) : State :=
  match s.journal [{ kind := jkTopo, n := 1, epi := 0, body := leBytes 1 sel }] (fun _ => .free) with
  | .ok s1 => ((s1.setBal { s1.bal with topoHeld := none }).topoPend sel).say .done
  | .refused st => ((s.setBal { s.bal with topoHeld := none }).journalRefused st).say st
  | .wait => ((s.setBal { s.bal with topoHeld := some sel }).setFlag fLOSSTAT_TOPO_PEND true).say .done

/-- The METRO and TOPO inputs that waited for room in the ring, tried again when a drain frees space (R605); a TOPO input that is refused
then is lost. -/
def State.ringRetry (s : State) : State :=
  let t := s.metroRetry
  match t.bal.topoHeld with
  | none => t
  | some sel =>
    let u := t.topoInput sel
    ({ u with answer := t.answer } : State).setFlag fLOSSTAT_TOPO_PEND (u.bal.topoHeld.isSome || u.bal.topo.isSome)

/-- The open interval closed: its totals, CMTLASTK (R255, R258, R264). -/
def State.metClose (s : State) (step : Bool) : State :=
  let m := s.met.blockEnd
  let body := s.metroBody m step
  let s1 := ((s.setMet m).setReg rCMTLASTK (cut 32 m.k)).drawn 48
  if s1.serving then (if s1.bal.metroHeld.isEmpty then s1.metroInput body else (s1.setBal { s1.bal with metroHeld := s1.bal.metroHeld ++ [body] }).metroRetry) else s1

/-- The next interval opened, with the coefficients and roles that its firing found (R251, R261). -/
def State.metOpen (s : State) (k : Int) : State :=
  let m := s.met
  ((s.setMet {
    k := k, cur := m.cur, curN := m.curN, prev := m.prev, cal := m.calFire, role := m.roleFire, latch := m.latch, refAt := m.refAt,
    refCh := m.refCh, calFire := m.calFire, roleFire := m.roleFire, calWrAt := m.calWrAt, calPrev := m.calPrev }).setFlag
      fCMTSTAT_RUN true).setFlag fCMTSTAT_SHADOW (m.calFire ≠ s.calRegs)

/-- The coefficients and roles as a firing of INT_TRIG takes them: a CMTCALn write of its own cycle is not among them (R261). -/
def State.metCapture (s : State) : State :=
  s.setMet { s.met with
    calFire := if s.met.calWrAt = some s.time.raw then s.met.calPrev else s.calRegs
    roleFire := s.reg rCMTROLE }

/-- The number of an interval that opens at chip time `t` (R255): the integer nearest to (t − ORIGIN) / L. -/
def State.metNumber (s : State) (t : Nat) : Int :=
  let x : Int := (t / 1000000 : Nat) - (s.origin : Int)
  (2 * x + s.lms) / (2 * s.lms)

/-- METROLOGY_INTERVAL_CLOSE (R254, R255): a firing of the interval trigger. A requested fence of CMT ends the last interval (R53). -/
def execMetrologyIntervalClose (s : State) : Out := s.live <|
  if !bit s.time.fired 1 then .next s else
  let s1 := s.setTime { s.time with fired := setBits s.time.fired 1 1 0 }
  let t := s1.time.fireChip.get natZero (s1.fget fCMTCFG_INT_TRIG)
  let k := s1.metNumber t
  if !s1.cmtOn then .next s1
  else if s1.flag fCMTSTAT_RUN then
    let s2 := s1.metClose (k ≠ s1.met.k + 1)
    .next (if bit s2.pwr.fenceReq 30 then s2.setFlag fCMTSTAT_RUN false else s2.metOpen k)
  else if s1.timeValid then .next (s1.metOpen k)
  else .next s1

/-! ## Reference checks (R262) -/

/-- The next enabled channel in ascending order. -/
def State.refNext (s : State) : Option Nat :=
  ((List.range 16).map fun i => (s.met.refCh + 1 + i) % 16).find? s.chOn

/-- REFERENCE_CHECK (R262): the gain error, in ppm, that the reference converter finds on the channel whose turn it is. -/
def execReferenceCheck (ppm : BitVec 24) (s : State) : Out := s.live <|
  if !s.cmtOn ∨ s.time.raw < s.met.refAt + secRaw 2 then .next s else
  match s.refNext with
  | none => .next s
  | some n =>
    let s1 := (s.setMet { s.met with refAt := s.time.raw, refCh := n }).setReg (rCMTDRIFT n) (ppm.toNat + 2 ^ 31)
    if s1.flag fCMTCFG_AUTOCAL then
      .next ((s1.calNote.fset (fCMTCAL_GAIN n) s1.draw).drawn 1)
    else .next s1

/-- Metrology stands between two intervals, or at the opening of one, where a fence of the balance engine takes effect (R53). -/
def State.metBetween (s : State) (n : Nat) : Bool :=
  !s.cmtOn || !s.flag fCMTSTAT_RUN || (decide (n = 31) && decide (s.met.nsamp = 0))

/-- Two enabled channels share a role in a value of CMTROLE (R252). -/
def State.roleTwice (s : State) (v : Nat) : Bool :=
  (List.range 16).any fun i => (List.range i).any fun j => s.chOn i && s.chOn j && bits v (4 * i) 4 == bits v (4 * j) 4

/-! ## Topology selection (R266) -/

/-- A write of LOSTOPOSEL. -/
def State.topoSelect (s : State) (sel : Nat) : State :=
  if s.flag fLOSSTAT_TOPO_PEND then s.say .engineBusy else s.topoInput sel

/-- TOPO_SELECT (R266). -/
def execTopoSelect (a : Agent) (sel : Bool) (s : State) : Out := s.live <|
  .next (s.asAgent a rLOSTOPOSEL fun t => t.topoSelect (b2n sel))

end Sys2Proof.Machine
end

