-- ==== Sys2Proof/Machine/TimeCmd.lean ====
section
/-!
DEFINITION. The time-base commands: the increment, steps, signed steps, transmit-timestamp queues, triggers and PPS (R483 to R505).
-/

namespace Sys2Proof.Machine

/-! ## Setting and stepping chip time (R485, R488 to R494) -/

/-- OFFSET and ANCHOR rebased to now: chip time goes on from its present value (R485). -/
def State.timeRebase (s : State) : State := s.setTime { s.time with offset := s.chip, anchor := s.time.raw }

/-- A write of TIMINCR (R485). -/
def State.timincrWrite (s : State) (v : Nat) : State :=
  if 549755813 < (v - 2 ^ 40) + (2 ^ 40 - v) then s.say .badArgument
  else (s.timeRebase.setReg rTIMINCR v).say .done

/-- The step budget brought up to now, with `n` taken off (R490). -/
def State.spend (s : State) (n : Nat) : State :=
  (s.fset fTIMBUDGET_NS (s.budget - n)).setTime { s.time with
    budgetAt := s.time.raw - (s.time.raw - s.time.budgetAt) % 1800 }

/-- An accepted step: OFFSET changes, the superframe in progress keeps its own count, COARSE clears, VALID sets, and the step is recorded
(R349, R487, R489, R490, R494). -/
def State.timeStep (s : State) (S : Int) (signed : Bool) : State :=
  let s1 := (s.setTime { s.time with offset := cut 64 ((s.time.offset : Int) + S) }).rfShift S
  let s2 := (s1.setFlag fTIMSTAT_COARSE false).setFlag fTIMSTAT_VALID true
  s2.event { code := 0x020, sev := 1, src := 0x3C, arg0 := b2n signed, arg1 := cut 64 S, value := min (S.natAbs / 1000000) (2 ^ 32 - 1) }

/-- An unsigned step judged against the budget (R490). -/
def State.unsignedStep (s : State) (S : Int) : State :=
  if 2000000000 < S.natAbs ∨ s.budget < S.natAbs then s.say .stepDenied
  else ((s.spend S.natAbs).timeStep S false).say .done

/-- A write of TIMSET (R488, R489). -/
def State.timsetWrite (s : State) (v : Nat) : State :=
  if !s.flag fTIMSTAT_EVER then
    let s1 := (s.setTime { s.time with offset := v, anchor := s.time.raw }).rfShift ((v : Int) - s.chip)
    (((s1.setFlag fTIMSTAT_EVER true).setFlag fTIMSTAT_VALID true).setFlag fTIMSTAT_COARSE false).say .done
  else s.unsignedStep ((v : Int) - s.chip)

/-- A write of TIMSTEP (R488, R489). -/
def State.timstepWrite (s : State) (v : Nat) : State :=
  if !s.flag fTIMSTAT_EVER then s.say .stepDenied else s.unsignedStep (sx v 64)

/-- TIMINCR_WRITE (R485). -/
def execTimincrWrite (a : Agent) (v : DWord) (s : State) : Out := s.live <|
  .next (s.asWhole a rTIMINCR fun t => t.timincrWrite v.toNat)

/-- TIMSET_WRITE (R488 to R490). -/
def execTimsetWrite (a : Agent) (v : DWord) (s : State) : Out := s.live <|
  .next (s.asWhole a rTIMSET fun t => t.timsetWrite v.toNat)

/-- TIMSTEP_WRITE (R488 to R490). -/
def execTimstepWrite (a : Agent) (v : DWord) (s : State) : Out := s.live <|
  .next (s.asWhole a rTIMSTEP fun t => t.timstepWrite v.toNat)

/-- The checks of R492, in order, on the record's bytes. -/
def State.stepCheck (s : State) (b : List Byte) : Status :=
  if le b 0 4 ≠ 0x54535450 ∨ le b 4 1 ≠ 1 ∨ le b 5 3 ≠ 0 ∨ le b 40 8 ≠ 0 then .badFormat
  else if s.fenced 9 ∨ s.fenced 8 then .fenced
  else match s.verifyWith (s.fget fTIMSTEPREC_SLOT) (b.take 48) ctxNone (sub b 48 sigBytes) with
    | .done =>
      if le b 8 8 ≠ s.fget fKEYID_EUI ∨ !s.flag fTIMSTAT_EVER then .badArgument
      else if le b 32 8 < s.time.raw then .stepDenied
      else if le b 16 8 ≤ s.reg rTIMSTEPSEQ then .replay
      else .done
    | .keyEmpty => .keyDenied
    | st => st

/-- A GO of TIMSTEPREC (R492). -/
def State.stepGo (s : State) : State :=
  let a := s.fget fTIMSTEPADDR_ADDR
  let b := s.bytes a (48 + sigBytes)
  let st := if !s.inDa a (48 + sigBytes) then .badAddress else if s.poisonedIn a (48 + sigBytes) then .poisoned else s.stepCheck b
  let s1 := (s.touch a (48 + sigBytes)).countVerify st
  let s2 := if st = .done then (s1.setReg rTIMSTEPSEQ (le b 16 8)).timeStep (sx (le b 24 8) 64) true else s1
  (s2.fset fTIMSTEPREC_STATUS st.code).say .done

/-- A write of TIMSTEPREC: SLOT, then GO (R492). -/
def State.timsteprecWrite (s : State) (v : Nat) : State :=
  let s1 := s.fset fTIMSTEPREC_SLOT (fTIMSTEPREC_SLOT.of v)
  if fTIMSTEPREC_GO.of v = 1 then s1.stepGo else s1.say .done

/-- SIGNED_STEP (R491, R492): a write of TIMSTEPREC with GO set. -/
def execSignedStep (a : Agent) (slot : BitVec 12) (s : State) : Out := s.live <|
  .next (s.asWhole a rTIMSTEPREC fun t => t.timsteprecWrite (setBits (setBits 0 32 12 slot.toNat) 63 1 1))

/-- A write of TIMCFG (R493, R503). -/
def State.timcfgWrite (s : State) (v : Nat) : State :=
  let s1 := s.fset fTIMCFG_PRESS_TRIG (fTIMCFG_PRESS_TRIG.of v)
  (if fTIMCFG_INVAL.of v = 1 then ((s1.rfCutAll).setFlag fTIMSTAT_VALID false).setTime { s1.rfCutAll.time with ppsUntil := 0 } else s1).say .done

/-- TIME_INVALIDATE (R493): a write of TIMCFG with INVAL set. -/
def execTimeInvalidate (a : Agent) (s : State) : Out := s.live <|
  .next (s.asAgent a rTIMCFG fun t => t.timcfgWrite (t.fget fTIMCFG_PRESS_TRIG + 256))

/-! ## Transmit-timestamp queues (R499) -/

/-- TIMTXTSq as it stands: its oldest entry, zero while the queue is empty. -/
def State.txOldest (s : State) (q : Nat) : Nat :=
  match (s.time.txq.get txqReset q).entries with
  | [] => 0
  | e :: _ => e.fid % 2 ^ 16 + 2 ^ 16 + 2 ^ 17 * b2n e.gap + 2 ^ 32 * (e.chip % 2 ^ 64)

/-- A read of word 0 of TIMTXTSq: the register is snapshotted and its oldest entry popped; an empty queue reads as zero (R13, R499,
notes/assumptions/57.md). -/
def State.txtsPop (s : State) (q : Nat) : State × Nat :=
  let Q := s.time.txq.get txqReset q
  let v := s.txOldest q
  let s1 := s.setTxq q { Q with entries := Q.entries.drop 1 }
  ({ s1 with csrSnap := assocSet (rTIMTXTS q) v s1.csrSnap }, v % 2 ^ 32)

/-- TXTS_POP (R499). -/
def execTxtsPop (a : Agent) (q : Fin 20) (s : State) : Out := s.live <| .next <|
  match a with
  | .port => if !s.portMay (rTIMTXTS q.val) then s.say .debugLocked else let (t, v) := s.txtsPop q.val; t.sayVal v
  | .cc _ => let (t, v) := s.txtsPop q.val; t.sayVal v

/-! ## Triggers (R500 to R503) -/

def trigZero : Nat → Nat := fun _ => 0

/-- The consumers that name a trigger, as bits of `fired`: each takes the firing when its command follows (R503). -/
def State.consumers (s : State) (n : Nat) : Nat :=
  b2n (s.flag fCMTCFG_EN && s.fget fCMTCFG_SAMP_TRIG = n) + 2 * b2n (s.flag fCMTCFG_EN && s.fget fCMTCFG_INT_TRIG = n) +
  4 * b2n (s.fget fTIMCFG_PRESS_TRIG = n) +
  ((List.range 4).map fun k => 2 ^ (4 + k) * b2n (s.flag (fSPARM_ARMED k) && s.fget (fSPARM_TRIG k) = n)).sum

/-- TRIGGER_FIRE (R500, R501, R503). -/
def execTriggerFire (n : Fin 8) (s : State) : Out := s.live <| .next <|
  let chipMode := s.flag (fTIMTRIGCTL_MODE n.val)
  let now := if chipMode then s.chip else s.time.raw
  let start := s.fget (fTIMTRIGSTART_VALUE n.val)
  let per := s.fget (fTIMTRIGPER_VALUE n.val)
  if !s.flag (fTIMTRIGCTL_EN n.val) || (chipMode && !s.timeValid) || decide (now < start) then s else
  let m := if per = 0 then 1 else (now - start) / per + 1
  let s1 := if per = 0 then s.setFlag (fTIMTRIGCTL_EN n.val) false
    else (s.fset (fTIMTRIGSTART_VALUE n.val) (start + m * per)).bump (fTIMTRIGCTL_SKIP n.val) (m - 1)
  let s2 := if s.fget fCMTCFG_INT_TRIG = n.val then s1.metCapture else s1
  s2.setTime { s2.time with
    fired := s2.time.fired ||| s.consumers n.val
    fireRaw := s2.time.fireRaw.put trigZero n.val s.time.raw
    fireChip := s2.time.fireChip.put trigZero n.val s.chip }

/-- A write of TIMTRIGCTLn (R502). -/
def State.timtrigctlWrite (s : State) (n v : Nat) : State :=
  let en := s.flag (fTIMTRIGCTL_EN n)
  let mode := (fTIMTRIGCTL_MODE n).of v
  if en && mode ≠ s.fget (fTIMTRIGCTL_MODE n) then s.say .engineBusy
  else ((s.fset (fTIMTRIGCTL_EN n) ((fTIMTRIGCTL_EN n).of v)).fset (fTIMTRIGCTL_MODE n) mode).say .done

/-- A write of TIMTRIGSTARTn or TIMTRIGPERn (R502). -/
def State.timtrigWrite (s : State) (n : Nat) (f : Fld) (v : Nat) : State :=
  if s.flag (fTIMTRIGCTL_EN n) then s.say .engineBusy else (s.fset f v).say .done

/-! ## PPS (R504, R505) -/

/-- This TIME edge is the first at which chip time has reached a whole second. -/
def State.onSecond (s : State) : Bool :=
  s.chip % 1000000000 = 0 || (decide (s.time.anchor < s.time.raw) && s.chip / 1000000000 ≠ s.chipAt (s.time.raw - 1) / 1000000000)

/-- PPS_OUT_PULSE (R504). -/
def execPpsOutPulse (s : State) : Out := s.live <| .next <|
  if s.timeValid && s.flag fTIMPPSO_EN && s.onSecond then
    s.setTime { s.time with ppsUntil := s.time.raw + msRaw (s.fget fTIMPPSO_WIDTH) }
  else s

/-- PPS_OUT is high. -/
def State.ppsOut (s : State) : Bool := s.timeValid && decide (s.time.raw < s.time.ppsUntil)

/-- PPS_IN_CAPTURE (R505): a pulse of `ns` rises on PPS_IN. -/
def execPpsInCapture (ns : Nat) (s : State) : Out := s.live <| .next <|
  if ns < 100 then s else
  let v := s.chip + 2 ^ 64 * (s.time.raw % 2 ^ 63) + 2 ^ 127 * b2n (s.time.ppsUnread || s.flag fTIMPPSIN_OVR)
  (s.setReg rTIMPPSIN v).setTime { s.time with ppsUnread := true }

end Sys2Proof.Machine
end

