-- ==== Sys2Proof/Machine/Twin.lean ====
section
/-!
DEFINITION. Control cores at an entry of the image, the takeover reset, and twin operation: the shadow stream as both twins take it,
beats, graces, takeover and rejoining (R56, R59, R194, R195, R506 to R535).
-/

namespace Sys2Proof.Machine

/-! ## Control cores at an entry of the vector block (R192, R194, R195) -/

/-- A window entry: rights, CACHE, SIZE and base. -/
def winVal (ex : Bool) (cache size base : Nat) : Nat := 7 + 8 * b2n ex + 16 * cache + 256 * size + base

/-- The windows and the MPU region that the ROM leaves (R194). -/
def State.ccWindows (s : State) (k : Nat) : State :=
  let w := [winVal true 2 14 s.pwr.imageBase, winVal false 0 12 csrBase, winVal false 0 12 mramBase, winVal false 0 13 sramBase,
    winVal false 0 11 lcBase, winVal false 0 14 daBase, winVal false 0 14 dbBase]
  let s1 := (List.range 64).foldl (fun (t : State) j => t.setReg (rWIN k j) (w.getD j 0)) s
  (List.range 16).foldl (fun (t : State) j => t.setReg (rMPU k j) (if j = 0 then 2 ^ 64 - 2 ^ 37 + 15 * 2 ^ 32 else 0)) s1

def vecReset : Nat := 0
def vecSecondary : Nat := 4
def vecTko : Nat := 8
def vecWake : Nat := 12
def vecFault : Nat := 16

/-- The ROM starts a control core at an entry of the vector block; a fenced core stays held. -/
def State.ccStart (s : State) (k off : Nat) : State :=
  if s.fenced k then s else
  let entry := fun o => w32 (s.peek (s.pwr.imageBase + o) 4)
  (s.ccWindows k).setCc k { cpu := { pc := entry off }, run := .run, evec := entry vecFault }

/-- Every control core started. -/
def State.ccStartAll (s : State) (off : Nat) : State := (List.range 4).foldl (fun (t : State) k => t.ccStart k off) s

/-! ## The takeover reset (R56, R59, R60) -/

/-- TKO: control cores, port blocks and transmit-timestamp queues; ledger cores, dispatcher, queues and memories stay. -/
def State.doTko (s : State) : State :=
  let s1 := (List.range 4).foldl (fun (t : State) k => (t.leaveLines k).breakLocks k) s
  let s2 := ({ s1 with ccs := [], dcache := [], pl := {}, rf := {}, dun := {} } : State).resetCsrs kTko
  let s3 := (s2.setTime { s2.time with txq := [] }).setTwn { s2.twn with downAt := some s2.time.raw }
  let s4 := s3.setFlag fRSTCAUSE_TKO true
  ((s4.resetEvents (2 ^ kTko) s4.pwr.bootStep).fset fMODESTAT_MODE modeService).ccStartAll vecTko

/-! ## Conditions -/

def State.twinOn (s : State) : Bool := s.flag fTWNCFG_EN
def State.sync (s : State) : Nat := s.fget fTWNSTAT_SYNC
def syncOut : Nat := 0
def syncCatchup : Nat := 1
def syncSynced : Nat := 2
def syncSuspect : Nat := 3

/-- SYNC permits a takeover without FORCE (R523). -/
def State.tkoSync (s : State) : Bool :=
  s.sync = syncSynced || (s.sync = syncSuspect && s.flag fTWNCFG_TKOSUSP)

/-! ## Messages of the standby (R512) -/

/-- A message of the standby, with SSEQ 0. -/
def State.standbySend (s : State) (typ : Nat) (body : List Byte) : State :=
  s.dlMsg 3 2 false s.self typ (beBytes 8 0 ++ body) []

/-- Body of a CTRL message; the operand's layout is the model's own (notes/assumptions/11.md). -/
def ctrlBody (op : Nat) (operand : List Byte) : List Byte := beBytes 1 op ++ beBytes 7 0 ++ operand

def ctCatchup : Nat := 1
def ctRescue : Nat := 2
def ctDetach : Nat := 3
def ctDetached : Nat := 4
def ctDrained : Nat := 5

/-- CONFIRM after an applied message (R512, R513). -/
def State.confirmSend (s : State) : State := s.standbySend 0x0D (beBytes 8 (s.twn.expect - 1) ++ beBytes 8 s.lastIsn)

/-- A request for a catch-up: the highest ISN of the journal, or all ones for a full state transfer (R529, notes/assumptions/11.md).
The standby then joins the stream at the next message it receives. A full state transfer is restored as a replay (R245). -/
def State.catchupAsk (s : State) (full : Bool) : State :=
  let s0 := if full then s.setFlag fLDGSTAT_REPLAY true else s
  let s1 := (s0.fset fTWNSTAT_SYNC syncCatchup).setTwn { s.twn with adopt := true, digests := [] }
  s1.standbySend 0x0F (ctrlBody ctCatchup (beBytes 8 (if full then 2 ^ 64 - 1 else s.lastIsn)))

/-! ## Messages of the active -/

/-- A CTRL message of the active. -/
def State.ctrlSend (s : State) (op : Nat) (operand : List Byte) : State := s.shadow 0x0F (ctrlBody op operand) .free

/-- What a covering CONFIRM lets happen (R514). -/
def State.release (s : State) (h : Held) : State :=
  match h with
  | .free => s
  | .ack _ => s
  | .newGen epi => s.downPump false epi
  | .keyUpdate epi => s.downPump false epi
  | .ceil slot key v => (s.raiseDone slot key v).keyPump slot key
  | .moveIn _ => s.moveIn

/-- Messages up to CSEQ are covered: they leave the window, and what they held happens in order. -/
def State.cover (s : State) (cseq : Nat) : State :=
  let gone := s.twn.unconf.filter fun e => decide (e.1 ≤ cseq)
  let s1 := (s.setTwn { s.twn with unconf := s.twn.unconf.filter fun e => decide (cseq < e.1) }).fset fTWNCONF_SSEQ
    (max (s.fget fTWNCONF_SSEQ) cseq)
  gone.foldl (fun t e => t.release e.2) s1

/-- The active becomes alone: it holds nothing (R520). -/
def State.setAlone (s : State) : State :=
  let held := s.twn.unconf
  held.foldl (fun t e => t.release e.2) ((s.setFlag fTWNSTAT_ALONE true).setTwn { s.twn with unconf := [] })

/-- DRAINED is sent once every message is confirmed (R535 step 2). -/
def State.drainCheck (s : State) : State :=
  if s.twn.drain ∧ !s.twn.drained ∧ s.twn.unconf.isEmpty then (s.ctrlSend ctDrained []).setTwn { (s.ctrlSend ctDrained []).twn with drained := true }
  else s

/-- CONFIRM (R514) with CSEQ and TISN. -/
def execConfirm (cseq isn : DWord) (s : State) : Out := s.live <|
  .next (if s.isActive ∧ isn.toNat ≤ s.lastIsn then (s.cover cseq.toNat).drainCheck else s)

/-! ## Beats (R512, R517 to R520) -/

/-- A BEAT's body; the rules give its flags no meaning: a free value. -/
def State.beatBody (s : State) : List Byte :=
  beBytes 1 s.mode ++ beBytes 1 s.sync ++ beBytes 2 (s.draw % 2 ^ 16) ++ beBytes 4 0 ++ beBytes 8 s.nextIsn ++
  beBytes 4 (cut 32 s.kLast) ++ beBytes 4 0 ++ beBytes 8 s.chip ++ beBytes 8 (s.fget fTWNTKOISN_ISN)

/-- BEAT: each twin sends one every BEAT milliseconds. -/
def execBeat (s : State) : Out := s.live <|
  if !s.twinOn ∨ s.fget fTWNSTAT_ROLE = 0 ∨ s.time.raw < s.twn.beatOut + msRaw (s.fget fTWNTMR_BEAT) then .next s else
  let b := s.beatBody
  let s1 := (s.drawn 1).setTwn { s.twn with beatOut := s.time.raw }
  .next (if s.isActive then s1.shadow 0x0E b .free else s1.standbySend 0x0E b)

/-- PEER_SILENT (R519): no BEAT for SILENT milliseconds. -/
def execPeerSilent (s : State) : Out := s.live <|
  .next (if s.isStandby ∧ s.twn.beatIn + msRaw (s.fget fTWNTMR_SILENT) ≤ s.time.raw then s.setFlag fTWNSTAT_PEERSILENT true else s)

/-- A BEAT of the standby, as the active takes it: SYNC as last reported; ALONE clears at SYNCED (R517, R520). -/
def State.beatFromStandby (s : State) (b : List Byte) : State :=
  let sy := be b 1 1 % 4
  let s1 := ((s.setTwn { s.twn with beatIn := s.time.raw }).fset fTWNSTAT_SYNC sy).setFlag fTWNSTAT_PEERSILENT false
  if 2 ≤ sy then s1.setFlag fTWNSTAT_ALONE false else s1

/-! ## The standby's side of the stream (R513, R518, R522) -/

/-- The standby goes OUT (R518). -/
def State.goOut (s : State) : State := s.fset fTWNSTAT_SYNC syncOut

/-- An SSEQ gap (R518). -/
def State.seqGap (s : State) (len : Nat) : State :=
  ((s.goOut).bump fTWNGAP_COUNT 1).refused5 .seqGap 0x3D 0 len 3 0

/-- An INPUT applied: journaled under its ISN, then posted in its turn. -/
def State.inputApply (s : State) (e : List Byte) : State :=
  let isn := entIsn e
  let last := isn + entN e - 1
  let j : JEnt := { kind := entKind e, n := entN e, epi := entEpi e, body := e.drop 16 }
  let s1 := ((s.ringPut j isn).fset fMRMLASTISN_ISN (max s.lastIsn last)).setTwn { s.twn with isnSeen := max s.twn.isnSeen last }
  s1.inputTake e

/-- A DIGEST held, at most four of them, or compared at once when the standby's own round is complete (R522). -/
def State.digestTake (s : State) (k d : Nat) : State :=
  let l := (s.twn.digests.filter fun e => e.1 ≠ k) ++ [(k, d)]
  let s1 := s.setTwn { s.twn with digests := l.drop (l.length - 4) }
  if s.flag fLDGSTAT_ROUND ∨ s.kLast ≠ (k : Int) then s1 else s1.digestCompare k

/-- A CEIL or a PENDKEY written to the standby's MRAM entry and security record (R513). -/
def State.ceilTake (s : State) (b : List Byte) : State :=
  let n := be b 4 4
  s.write (if bit (be b 0 4) 0 then slotResvAddr n else resvAddr n) (sub b 8 8)

/-- An old active that holds inputs above the new active's TKO_ISN (R530). -/
def State.orphaned (s : State) (tko : Nat) : Bool :=
  tko ≠ 0 && tko ≠ s.twn.peerTko && decide (tko < s.lastIsn) && decide (s.lastIsn < tko + 2 ^ 24)

/-- Reading and command inputs above TKO_ISN go to the new active as RESCUEs, then a full transfer is asked for (R530). -/
def State.rescueAll (s : State) (tko : Nat) : State :=
  let es := s.journalEntries.filter fun e => decide (tko < entIsn e) && (entKind e = jkReadings || entKind e = jkCommand)
  (es.foldl (fun (t : State) e => t.standbySend 0x0F (ctrlBody ctRescue e)) s).catchupAsk true

/-- A BEAT of the active, as the standby takes it (R517, R519, R524, R527, R529, R530). A beat that reports CATCHUP back follows every
message of the catch-up, so the live stream is reached. -/
def State.beatFromActive (s : State) (b : List Byte) : State :=
  let tko := be b 32 8
  let s1 := (s.setTwn { s.twn with
    beatIn := s.time.raw, isnSeen := max s.twn.isnSeen (be b 8 8 - 1), peerHold := be b 0 1 = modeHoldover, peerTko := tko }).setFlag
    fTWNSTAT_PEERSILENT false
  if s.orphaned tko then s1.rescueAll tko
  else if s.sync = syncCatchup ∧ be b 1 1 = syncCatchup then (s1.fset fTWNSTAT_SYNC syncSynced).setFlag fLDGSTAT_REPLAY false
  else s1

/-- One message of the active applied, in SSEQ order (R513). -/
def State.shadowApply (s : State) (typ : Nat) (b : List Byte) (poison : List Nat) : State :=
  if typ = 0x08 then s.inputApply b
  else if typ = 0x09 then s.ceilTake b
  else if typ = 0x0A then (s.write (s.secAddr (be b 0 4) + 32) (sub b 8 48))
  else if typ = 0x0B then s.digestTake (be b 0 4) (leNat (sub b 8 32))
  else if typ = 0x0C then
    ((if s.sync = syncCatchup then s.setFlag fLDGSTAT_REPLAY true else s).endpointWrite b poison).2
  else if typ = 0x0E then s.beatFromActive b
  else if typ = 0x0F then
    if be b 0 1 = ctDetach then s.goOut.standbySend 0x0F (ctrlBody ctDetached []) else s
  else s

/-- SHADOW_MESSAGE_APPLY (R512, R513, R518): a shadow message received on DL3, its TYPE, its payload from SSEQ on, and the poisoned
granules of a STATE. -/
def execShadowMessageApply (typ : BitVec 4) (payload : List Byte) (poison : List Nat) (s : State) : Out := s.live <|
  let t := typ.toNat
  let b := payload.drop 8
  let q := be payload 0 8
  if !s.twinOn ∨ payload.length < 8 then .next s
  else if s.isStandby then
    if s.sync = syncOut then
      -- an OUT standby applies nothing, but still hears beats and answers a DETACH
      .next (if t = 0x0E then s.beatFromActive b
        else if t = 0x0F ∧ be b 0 1 = ctDetach then s.standbySend 0x0F (ctrlBody ctDetached []) else s)
    else if !s.twn.adopt ∧ q ≠ s.twn.expect then .next (s.seqGap payload.length)
    else
      let s1 := (s.setTwn { s.twn with adopt := false, expect := q + 1 }).fset fTWNSSEQ_SSEQ q
      let s2 := s1.inputDrain.shadowApply t b poison
      .next (if s2.sync = syncOut then s2 else s2.confirmSend)
  else if s.isActive then .next (if t = 0x0E then s.beatFromStandby b else s)
  else .next s

/-- STANDBY_GRACE_EXPIRY (R518): DL3 down for GRACE / 2 with ACT_IN_N asserted. -/
def execStandbyGraceExpiry (s : State) : Out := s.live <|
  match s.twn.downAt with
  | none => .next s
  | some t =>
    .next (if s.isStandby ∧ s.flag fTWNSTAT_ACTIN ∧ t + msRaw (5 * s.fget fTWNCFG_GRACE) ≤ s.time.raw ∧ 2 ≤ s.sync then s.goOut
      else s)

/-- ACTIVE_GRACE_EXPIRY (R520): DL3 down for GRACE. -/
def execActiveGraceExpiry (s : State) : Out := s.live <|
  match s.twn.downAt with
  | none => .next s
  | some t =>
    .next (if s.isActive ∧ !s.alone ∧ t + msRaw (10 * s.fget fTWNCFG_GRACE) ≤ s.time.raw then s.setAlone.drainCheck else s)

/-- DETACHED (R520): the standby's answer to a DETACH. -/
def execDetached (s : State) : Out := s.live <| .next (if s.isActive ∧ !s.alone then s.setAlone.drainCheck else s)

/-! ## Takeover (R523 to R527) -/

/-- The suppressed records of the standby as batches of the hold store (R527). -/
def keptBatches (room : Nat) : Nat → List (Nat × Rec) → List (List Rec)
  | 0, _ => []
  | _, [] => []
  | n + 1, r :: l =>
    let fit := r :: fitRecs (room - r.2.bytes.length) l
    (fit.map (·.2)) :: keptBatches room n ((r :: l).drop fit.length)

/-- Steps 4 and 5 of R524, which the firmware at TKO_ENTRY performs: the next ISN, TX_IC and VOL_IC of every key, SERVICE. -/
def State.tkoFirmware (s : State) : State :=
  let n := max s.twn.isnSeen s.lastIsn
  let s1 := (s.fset fMRMLASTISN_ISN (n + 2 ^ 24 - 1)).setFlag fLDGSTAT_REPLAY false
  let s2 := s1.epis.foldl State.txFollow s1
  let s3 := s2.setKep { s2.kep with slotIc := [], slotCeil := [] }
  let kept := keptBatches (s3.fget fREPCFG_MTU - 96) s3.twn.kept.length s3.twn.kept
  ((s3.setTwn { s3.twn with kept := [] }).setSes { s3.ses with hold := s3.ses.hold ++ kept }).sesRegs

/-- A takeover (R524): ACT_OUT_N asserted, and given up when ACT_IN_N is asserted 1 µs later (`clash`); else TKO_ISN is recorded, TKO
performed, and the chip becomes the active. -/
def State.takeover (s : State) (clash : Bool) : State :=
  -- an erased chip asserts no ACT_OUT_N (R566)
  if s.flag fTMPSTAT_ERASED then s else
  if clash then s.setFlag fTWNSTAT_ACTIN true else
  let tko := s.lastIsn
  let sy := s.sync
  let s1 := (s.setTwn { s.twn with aonHold := false }).setActOut true
  let s2 := ((s1.fset fTWNTKOISN_ISN tko).bump fTWNTKO_COUNT 1).event
    { code := 0x031, sev := 3, src := 0x3D, arg0 := sy, arg1 := tko }
  let s3 := s2.doTko.tkoFirmware
  ((s3.fset fTWNSTAT_ROLE roleActive).fset fTWNSTAT_SYNC 0).setTwn { s3.twn with
    nextSeq := 0, unconf := [], expect := 0, inactSince := none, digests := [], peerHold := false }

/-- TAKEOVER (R523): ACT_IN_N deasserted for HOLDOFF; `clash` is ACT_IN_N as sampled after ACT_OUT_N is asserted. -/
def execTakeover (clash : Bool) (s : State) : Out := s.live <|
  match s.twn.inactSince with
  | none => .next s
  | some t =>
    .next (if s.isStandby ∧ s.flag fTWNCFG_AUTOTKO ∧ s.tkoSync ∧ !s.flag fTWNSTAT_ACTIN
        ∧ t + msRaw (s.fget fTWNCFG_HOLDOFF) ≤ s.time.raw then s.takeover clash else s)

/-- ACT_IN_CHANGE (R507, R523): ACT_IN_N is now asserted (`b`) or not. -/
def execActInChange (b : Bool) (s : State) : Out :=
  let s1 := (s.setFlag fTWNSTAT_ACTIN b).gateFollow
  let s2 := s1.setTwn { s1.twn with inactSince := if b then none else some (s.twn.inactSince.getD s.time.raw) }
  .next (if s.isStandby ∧ !b ∧ !(s.flag fTWNCFG_AUTOTKO && s.tkoSync) then s2.setFlag fTWNSTAT_TKOBLOCKED true else s2)

/-! ## TWNCTL and TWNSTAT -/

/-- A write of TWNCTL; `clash` as for a takeover. A bit written in a role it does not belong to does nothing, FORCE apart. -/
def State.twnctlWrite (s : State) (v : Nat) (clash : Bool) : State :=
  if fTWNCTL_KEY.of v ≠ 0x5457 then s.say .badKey
  else if fTWNCTL_FORCE.of v = 1 ∧ !s.isStandby then s.say .modeDenied
  else
    let s1 := if fTWNCTL_DRAIN.of v = 1 ∧ s.isActive then (s.setTwn { s.twn with drain := true, drained := false }).drainCheck else s
    let s2 := if fTWNCTL_DETACH.of v = 1 ∧ s1.isActive then s1.ctrlSend ctDetach [] else s1
    let s3 := if fTWNCTL_RESYNC.of v = 1 ∧ s2.isStandby then s2.goOut.catchupAsk true else s2
    (if fTWNCTL_FORCE.of v = 1 then s3.takeover (clash || s3.flag fTWNSTAT_ACTIN) else s3).say .done

/-- The value written to TWNCTL for one of its bits, with a KEY. -/
def twnctlValue (i : Nat) (key : Half) : Nat := 2 ^ i + 2 ^ 16 * key.toNat

/-- DRAIN (R514, R535). -/
def execDrain (a : Agent) (key : Half) (s : State) : Out := s.live <|
  .next (s.asAgent a rTWNCTL fun t => t.twnctlWrite (twnctlValue 1 key) false)
/-- DETACH (R521). -/
def execDetach (a : Agent) (key : Half) (s : State) : Out := s.live <|
  .next (s.asAgent a rTWNCTL fun t => t.twnctlWrite (twnctlValue 2 key) false)
/-- RESYNC (R529). -/
def execResync (a : Agent) (key : Half) (s : State) : Out := s.live <|
  .next (s.asAgent a rTWNCTL fun t => t.twnctlWrite (twnctlValue 3 key) false)
/-- FORCE (R523). -/
def execForce (a : Agent) (key : Half) (clash : Bool) (s : State) : Out := s.live <|
  .next (s.asAgent a rTWNCTL fun t => t.twnctlWrite (twnctlValue 0 key) clash)

/-- A write of TWNSTAT: TKOBLOCKED and DIGMIS clear, and SUSPECT ends with DIGMIS (R522). -/
def State.twnstatWrite (s : State) (v : Nat) : State :=
  let s1 := if fTWNSTAT_TKOBLOCKED.of v = 1 then s.setFlag fTWNSTAT_TKOBLOCKED false else s
  let s2 := if fTWNSTAT_DIGMIS.of v = 1 then
      let t := s1.setFlag fTWNSTAT_DIGMIS false
      if t.sync = syncSuspect ∧ t.isStandby then t.fset fTWNSTAT_SYNC syncSynced else t
    else s1
  s2.say .done

/-! ## Rejoining (R529 to R531) -/

/-- Journal entries above an ISN, sent again as INPUTs. -/
def State.inputsAbove (s : State) (isn : Nat) : State :=
  (s.journalEntries.filter fun e => entKind e ≠ jkPad && decide (isn < entIsn e + entN e)).foldl
    (fun (t : State) e => t.shadow 0x08 e .free) s

/-- The journal still holds every input above an ISN: its oldest entry is the next one, or earlier. -/
def State.journalReaches (s : State) (isn : Nat) : Bool :=
  match s.journalEntries.find? fun e => entKind e ≠ jkPad with
  | none => isn = s.lastIsn
  | some e => decide (entIsn e ≤ isn + 1)

/-- CATCHUP (R529): the standby's request with the highest ISN of its journal, all ones for a full state transfer. -/
def execCatchup (isn : DWord) (s : State) : Out := s.live <|
  if !s.isActive then .next s else
  let s1 := s.fset fTWNSTAT_SYNC syncCatchup
  if isn.toNat ≤ s.lastIsn ∧ s.journalReaches isn.toNat then .next (s1.inputsAbove isn.toNat)
  else match s.mrm.ckpts with
    | [] => .next (s1.inputsAbove 0)
    | c :: _ =>
      let s2 := c.recs.foldl (fun (t : State) r => t.shadowP 0x0C (splice r.data 5248 (t.bytes (resvAddr r.epi) 8)) r.poison .free) s1
      .next (s2.inputsAbove c.lowIsn)

/-- RESCUE (R531): an entry of an old active's journal, taken as a new input from step 10 of R389 on. -/
def execRescue (e : List Byte) (s : State) : Out := s.live <|
  if !s.isActive then .next s else
  let epi := entEpi e
  let b := e.drop 16
  if entKind e = jkReadings then
    match s.ingest epi (max (s.lastIc epi) (le b 16 8)) (le b 8 4) ((entryReadings (entN e) b).map (·.1)) with
    | .ok s1 _ => .next (s1.bump fTWNRESCUE_COUNT (entN e))
    | .mode s1 => .next s1
    | .noprog s1 => .next s1
    | .busy s1 _ => .next s1
    | .wait => .next s
  else if entKind e = jkCommand then
    if s.noCalendar then .next s else
    match (s.epiEntry epi).bind fun x => s.eligible x.cls (s.kLast + 1) with
    | none => .next (s.bump fLDGNOPROG_COUNT 1)
    | some p =>
    let prog := s.fget (fLDGPRG_HANDLE p)
    match s.journal [{ kind := jkCommand, n := 1, epi := epi, body := splice b 2 (leBytes 2 prog) }] (fun _ => .free) with
    | .ok s1 =>
      .next ((s1.postItem (s1.commandItem epi prog (le b 0 2) s1.lastIsn (le b 8 8) (le b 16 4) (le b 20 4)) 2 true).bump
        fTWNRESCUE_COUNT 1)
    | .refused st => .next (s.journalRefused st)
    | .wait => .next s
  else .next s

/-- The oldest records go until `excess` bytes have gone. -/
def dropExcess : Nat → List (Nat × Rec) → List (Nat × Rec)
  | 0, l => l
  | _, [] => []
  | n + 1, r :: l => dropExcess (n + 1 - r.2.bytes.length) l

/-- Bytes of the suppressed records kept. -/
def keptBytes (l : List (Nat × Rec)) : Nat := (l.map fun e => e.2.bytes.length).sum

/-- RECORD_KEEP_EXPIRY (R527): suppressed records older than KEEP are released; while the active is in HOLDOVER all are kept, up to
REPHOLD.BUDGET. -/
def execRecordKeepExpiry (s : State) : Out := s.live <|
  if !s.isStandby then .next s else
  .next (s.setTwn { s.twn with
    kept := if s.twn.peerHold then dropExcess (keptBytes s.twn.kept - s.holdBudget) s.twn.kept
      else s.twn.kept.filter fun e => decide (s.time.raw < e.1 + secRaw (10 * s.fget fTWNTMR_KEEP)) })

end Sys2Proof.Machine
end

