-- ==== Sys2Proof/Machine/Nand.lean ====
section
/-!
DEFINITION. The flash translation: blocks, programming, erasing and retiring them, collection, wear levelling, and the cores'
commands (R612 to R626).
-/

namespace Sys2Proof.Machine

/-! ## Blocks -/

def blkReset : Nat → NBlk := fun _ => {}
def blkKey (ch n : Nat) : Nat := ch * 2 ^ 24 + n
def State.blk (s : State) (b : Nat) : NBlk := s.nfc.blocks.get blkReset b
def State.setBlk (s : State) (b : Nat) (v : NBlk) : State := s.setNfc { s.nfc with blocks := s.nfc.blocks.put blkReset b v }

/-- Blocks of a channel, spares taken into the pool included. -/
def State.blkCount (s : State) (ch : Nat) : Nat := s.nfc.nblk + s.nfc.added.get natZero ch

/-- Listed blocks of a channel. -/
def State.blksOf (s : State) (ch : Nat) : List (Nat × NBlk) := s.nfc.blocks.filter fun e => e.1 / 2 ^ 24 = ch

/-- Free blocks of a channel, its reserve included. -/
def State.freeBlks (s : State) (ch : Nat) : Nat :=
  s.blkCount ch - ((s.blksOf ch).filter fun e => e.2.st ≠ .free).length

/-- Retired blocks. -/
def State.retired (s : State) : Nat := (s.nfc.blocks.filter fun e => e.2.st = .retired).length

/-- Erase counts of the listed good blocks. -/
def State.goodErases (s : State) : List Nat := (s.nfc.blocks.filter fun e => e.2.st ≠ .retired).map (·.2.erase)

/-- Lowest and highest erase count of a good block. -/
def State.eraseMin (s : State) : Nat :=
  if s.nfc.blocks.length < s.blkCount 0 + s.blkCount 1 then 0 else s.goodErases.foldl min ((s.goodErases.head?).getD 0)
def State.eraseMax (s : State) : Nat := s.goodErases.foldl max 0

/-- NFCFREE, NFCERASE, NFCRETIRED and NFCSPARE follow the block table. -/
def State.nfcRegs (s : State) : State :=
  (((((s.fset fNFCFREE_NF0 (s.freeBlks 0)).fset fNFCFREE_NF1 (s.freeBlks 1)).fset fNFCERASE_MIN s.eraseMin).fset fNFCERASE_MAX
    s.eraseMax).setReg rNFCRETIRED s.retired).setReg rNFCSPARE s.nfc.spares

/-- Channel NFk is fenced. -/
def State.nfFenced (s : State) (ch : Nat) : Bool := s.fenced (12 + ch)

/-- The channel that a unit is written to: bolts and swatches alternate, the chip's own choice (notes/assumptions/24.md); a fenced
channel takes nothing (R53). -/
def State.unitCh (s : State) (u : Nat) : Nat :=
  let c := if u / 2 ^ 40 = 1 then u / 256 % 2 else u % 2
  if s.nfFenced c then 1 - c else c

/-! ## The map and its log (R615) -/

/-- Units of a class, as the last mount laid them out (R613). -/
def State.classUnits (s : State) (cls : Nat) : Nat :=
  if cls = 0 then s.nfc.hsize * 2 ^ 18 else
  let good := (if s.nfFenced 0 then 0 else s.blkCount 0) + (if s.nfFenced 1 then 0 else s.blkCount 1) - s.retired
  (good * (100 - s.nfc.op) / 100 - 2 * s.fget fNFCRSV_RSV) * s.nfc.perBlk - s.nfc.hsize * 2 ^ 18

/-- The place of a unit's entry in the map: bolts first, then swatches, the chip's own data at the end of class H
(notes/assumptions/24.md). -/
def State.mapIdx (s : State) (u : Nat) : Nat :=
  let l := u % 2 ^ 40
  if u / 2 ^ 40 = 1 then l / 256
  else if u / 2 ^ 40 = 0 then 2 ^ 24 + l
  else 2 ^ 24 + s.classUnits 0 - 1 - l % max 1 (s.classUnits 0)

/-- An entry of the map written where NFCMAPBASE puts it in DA. -/
def State.mapPoke (s : State) (i v : Nat) : State :=
  let a := s.fget fNFCMAPBASE_BASE + 4 * i
  if 4 * i < 2 ^ 27 ∧ daBase ≤ a ∧ a + 4 ≤ daBase + s.daSize then s.poke a 4 v else s

/-- The whole map brought into DA: at the mount, and when its place is set (R616). -/
def State.mapLoad (s : State) : State := s.nfc.map.foldl (fun (t : State) e => t.mapPoke e.1 e.2) s

/-- The flash translation log in MRAM (R595). -/
def ftlLog : Nat := mramBase + 0x8B0000
def ftlSize : Nat := 0x400000

/-- A map change: the unit's entry, whose encoding is free, and a record of it in the log (R615). -/
def State.mapNote (s : State) (u : Nat) : State :=
  let i := s.mapIdx u
  let v := s.draw % 2 ^ 32
  let at_ := s.nfc.logAt
  let s1 := (s.drawn 2).setNfc { s.nfc with map := s.nfc.map.put natZero i v, logAt := at_ + s.nfc.logRec }
  let s2 := if at_ + s.nfc.logRec ≤ ftlSize then s1.write (ftlLog + at_) (beBytes s.nfc.logRec (s.drawn 1).draw) else s1
  s2.mapPoke i v

/-- A unit no longer lies in any block. -/
def State.unmap (s : State) (u : Nat) : State :=
  s.setNfc { s.nfc with blocks := s.nfc.blocks.map fun e => (e.1, { e.2 with units := e.2.units.filter (· ≠ u) }) }

/-- A block is retired: counted, recorded, and a spare joins the pool (R623). The encoding of ARG0 is not given: a free value. -/
def State.retire (s : State) (b : Nat) : State :=
  let v := s.blk b
  let ch := b / 2 ^ 24
  let s1 := (s.setBlk b { v with st := .retired, units := [] }).event
    { code := 0x041, sev := 1, src := 0x43, inst := ch, arg0 := s.draw % 2 ^ 32, arg1 := b % 2 ^ 24, value := v.erase }
  let s2 := (s1.drawn 1).setNfc { s1.nfc with
    filling := s1.nfc.filling.filter fun e => e.2 ≠ b + 1, rewrite := s1.nfc.rewrite.filter (· ≠ b) }
  if s2.nfc.spares = 0 then s2 else
  s2.setNfc { s2.nfc with spares := s2.nfc.spares - 1, added := s2.nfc.added.put natZero ch (s2.nfc.added.get natZero ch + 1) }

/-- A block erased, or retired when the erasure fails (R623). -/
def State.erase (s : State) (b : Nat) (fails : Bool) : State :=
  let v := s.blk b
  if fails then (s.bump fNFCEFAIL_COUNT 1).retire b
  else (s.setBlk b { erase := v.erase + 1 }).setNfc { (s.setBlk b { erase := v.erase + 1 }).nfc with
    rewrite := s.nfc.rewrite.filter (· ≠ b) }

/-- The lowest-numbered free block of a channel. -/
def State.freeBlk (s : State) (ch : Nat) : Nat → Nat → Option Nat
  | 0, _ => none
  | n + 1, i => if (s.blk (blkKey ch i)).st = .free then some (blkKey ch i) else State.freeBlk s ch n (i + 1)

/-- A closed block of the channel holds units that are no longer valid. -/
def State.reclaimable (s : State) (ch : Nat) : Bool :=
  (s.blksOf ch).any fun e => e.2.st = .closed && decide (e.2.units.length < e.2.fill)

/-- How a write of the flash translation ends. -/
inductive NRes where
  | ok (s : State)
  | full
  | wait
  deriving DecidableEq, Repr

/-- What a write is for: class H, class C, or a relocation (R622). -/
def nwH : Nat := 0
def nwC : Nat := 1
def nwMove : Nat := 2

/-- A new block opened for a channel and a purpose; the one filled before is closed. -/
def State.openBlk (s : State) (ch w : Nat) : Option State :=
  match s.freeBlk ch (s.blkCount ch) 0 with
  | none => none
  | some b =>
    let k := ch + 2 * w
    let s1 := match s.nfc.filling.get natZero k with
      | 0 => s
      | c + 1 => s.setBlk c { s.blk c with st := .closed }
    let s2 := s1.setBlk b { s1.blk b with st := .opened }
    some (s2.setNfc { s2.nfc with filling := s2.nfc.filling.put natZero k (b + 1) })

/-- A block with room for one more unit: the one being filled, or a new one, when the reserve and collection permit it
(R621, R622, R625). -/
def State.roomFor (s : State) (ch w : Nat) : NRes :=
  let cur := s.nfc.filling.get natZero (ch + 2 * w)
  if cur ≠ 0 ∧ (s.blk (cur - 1)).fill < s.nfc.perBlk then .ok s else
  let free := s.freeBlks ch
  let open_ := match s.openBlk ch w with
    | some t => NRes.ok t
    | none => .full
  if w = nwMove ∨ s.fget fNFCRSV_RSV < free then open_
  else if s.reclaimable ch then (if w = nwH ∧ 0 < free then open_ else .wait)
  else .full

/-- A unit programmed in the block being filled. -/
def State.program (s : State) (ch w u : Nat) : State :=
  let b := s.nfc.filling.get natZero (ch + 2 * w) - 1
  let s1 := s.unmap u
  let v := s1.blk b
  (s1.setBlk b { v with fill := v.fill + 1, units := v.units ++ [u] }).mapNote u

/-- A program failure: the block is retired, and what it held goes to a new one (R623). -/
def State.programFail (s : State) (ch w : Nat) : State :=
  let b := s.nfc.filling.get natZero (ch + 2 * w) - 1
  let held := (s.blk b).units
  let s1 := (s.bump fNFCPFAIL_COUNT 1).retire b
  match s1.openBlk ch w with
  | none => s1
  | some t => held.foldl (fun x u => x.program ch w u) t

/-- One unit written; `fails` program failures come first. -/
def State.putUnit (s : State) (w u fails : Nat) : NRes :=
  let ch := s.unitCh u
  if s.nfFenced ch then .full else
  match s.roomFor ch w with
  | .ok t => .ok (((List.range fails).foldl (fun x _ => x.programFail ch w) t).program ch w u)
  | r => r

/-- Units written in order; the failures meet the first of them. -/
def State.putUnits (s : State) (w fails : Nat) : List Nat → NRes
  | [] => .ok s
  | u :: us => match s.putUnit w u fails with
    | .ok t => State.putUnits t w 0 us
    | r => r

/-- Units for the chip's own data: drained entries and checkpoints. -/
def State.ownUnits (s : State) (bytes : Nat) : List Nat :=
  (List.range ((bytes + 4095) / 4096)).map fun i => 2 * 2 ^ 40 + s.nfc.own + i

/-- Units of the chip's own data written. -/
def State.putOwn (s : State) (bytes fails : Nat) : NRes :=
  let us := s.ownUnits bytes
  (s.setNfc { s.nfc with own := s.nfc.own + us.length }).putUnits nwH fails us

/-- A closed block without valid units erased. -/
def State.eraseEmpty (s : State) : State :=
  (s.nfc.blocks.filter fun e => e.2.st = .closed && e.2.units.isEmpty).foldl (fun t e => t.erase e.1 false) s

/-! ## Full media (R625, R626) -/

/-- The media is full: RO, the event, the determinism break; drains stop. -/
def State.mediaFull (s : State) : State :=
  if s.flag fNFCSTAT_RO then s else
  (((s.setFlag fNFCSTAT_RO true).event { code := 0x042, sev := 3, src := 0x43 }).setMrm { s.mrm with batch := 0 }).detBreak

/-- RO clears when a channel's free blocks rise above FG_HI percent (R626). -/
def State.roCheck (s : State) : State :=
  let above := fun ch => decide (s.fget fNFCGC_FG_HI * s.blkCount ch < 100 * s.freeBlks ch)
  if s.flag fNFCSTAT_RO ∧ (above 0 ∨ above 1) then s.setFlag fNFCSTAT_RO false else s

/-- Some block holds a unit. -/
def State.mapped (s : State) (u : Nat) : Bool := s.nfc.blocks.any fun e => e.2.units.contains u

/-- Units freed: their blocks lose them, empty blocks are erased. -/
def State.freeUnits (s : State) (us : List Nat) : State :=
  ((us.foldl (fun (t : State) u => if t.mapped u then (t.unmap u).mapNote u else t) s).eraseEmpty).roCheck.nfcRegs

/-- A log more than three quarters full is emptied by a snapshot of the map in class H, which takes the place of the one before
(R615). -/
def State.nfcEnd (s : State) : State :=
  if s.nfc.logAt ≤ 3 * 2 ^ 20 then s.nfcRegs else
  let bytes := 4 * (s.classUnits 1 / 256 + s.classUnits 0)
  let us := s.ownUnits bytes
  match (s.setNfc { s.nfc with logAt := 0 }).putOwn bytes 0 with
  | .ok t => (t.setNfc { t.nfc with snap := us }).freeUnits t.nfc.snap
  | _ => s.nfcRegs

/-- R624 at the mount: the last page of an open block is torn. Its units were never mapped; what the block validly holds moves to a
new block, and the block is closed. -/
def State.tornBlock (s : State) (b : Nat) : State :=
  if (s.blk b).st ≠ .opened then s else
  let v := s.blk b
  let s1 := (s.setBlk b { v with st := .closed, fill := v.fill + 1 }).setNfc { (s.setBlk b { v with st := .closed, fill := v.fill + 1 }).nfc with
    filling := s.nfc.filling.filter fun e => e.2 ≠ b + 1 }
  match s1.putUnits nwMove 0 v.units with
  | .ok t => t
  | _ => s1

/-- The mount (R616, R624). -/
def State.mount (s : State) (torn : List Nat) : State :=
  (torn.foldl State.tornBlock (s.setFlag fNFCSTAT_MOUNTED true).mapLoad).nfcEnd

/-! ## The cores' commands (R614, R617, R618) -/

/-- A NAND descriptor. -/
structure NandJob where
  op : Nat
  cls : Nat
  endBit : Nat
  job : Nat
  lba : Nat
  len : Nat
  dlba : Nat
  da : Nat
  deriving DecidableEq, Repr

def NandJob.parse (d : List GReg) : NandJob :=
  { op := bits (descW d 0) 0 4, cls := bits (descW d 0) 4 1, endBit := bits (descW d 0) 31 1, job := bits (descW d 1) 0 16,
    lba := descW d 2 + 2 ^ 32 * bits (descW d 3) 0 8, len := descW d 4, dlba := descW d 5,
    da := descW d 6 + 2 ^ 32 * bits (descW d 7) 0 16 }

/-- A run of units that a core command may name: inside the class, and no bolt of an image slot (R614). -/
def State.unitsOk (s : State) (cls lba len : Nat) : Bool :=
  decide (lba + len ≤ s.classUnits cls) && (cls = 0 || decide (130 * 256 ≤ lba))

def unitKeys (cls lba len : Nat) : List Nat := (List.range len).map fun i => cls * 2 ^ 40 + lba + i

def unitZero : Nat → List Byte := fun _ => []

/-- The data of a unit; a unit never written, or trimmed, reads as zeros (R618). -/
def State.unitData (s : State) (u : Nat) : List Byte := padTo 4096 (s.nfc.units.get unitZero u)

/-- A run of class C units continues each of its bolts from the last written unit (R618). -/
def boltsOk (bolt : Store Nat) : List Nat → Bool
  | [] => true
  | u :: us =>
    let b := u % 2 ^ 40 / 256
    bolt.get natZero b = u % 256 && boltsOk (bolt.put natZero b (u % 256 + 1)) us

/-- Units written with their data. -/
def State.writeUnits (s : State) (cls fails : Nat) (us : List Nat) (data : Nat → List Byte) : NRes :=
  match s.putUnits (if cls = 0 then nwH else nwC) fails us with
  | .ok t => .ok (t.setNfc { t.nfc with
      units := us.foldl (fun (m : Store (List Byte)) u => m.put unitZero u (data u)) t.nfc.units,
      bolt := if cls = 0 then t.nfc.bolt else us.foldl (fun (m : Store Nat) u => m.put natZero (u % 2 ^ 40 / 256) (u % 256 + 1)) t.nfc.bolt })
  | r => r

/-- The block that holds a unit. -/
def State.blockOf (s : State) (u : Nat) : Option Nat := (s.nfc.blocks.find? fun e => e.2.units.contains u).map (·.1)

/-- Blocks queued for rewrite after a heavily corrected class C read (R623). -/
def State.queueRewrite (s : State) (us : List Nat) : State :=
  (us.filterMap s.blockOf).foldl (fun t b =>
    if t.nfc.rewrite.contains b then t
    else (t.setNfc { t.nfc with rewrite := t.nfc.rewrite ++ [b] }).bump fNFCREFRESH_COUNT 1) s

/-- How a job ends: with a status and the bytes written, or it waits for collection. -/
abbrev NandEnd := Option (Status × State × Nat)

/-- READ: `corr` is the most bits corrected in a codeword, `uncor` the units, counted from LBA, that stay uncorrectable (R623). -/
def State.nandRead (s : State) (j : NandJob) (corr : Nat) (uncor : List Nat) : NandEnd :=
  if !s.unitsOk j.cls j.lba j.len ∨ !s.engineRange j.da (4096 * j.len) then some (.badAddress, s, 0) else
  let us := unitKeys j.cls j.lba j.len
  if us.any fun u => match s.blockOf u with
      | some b => s.nfFenced (b / 2 ^ 24)
      | none => false then some (.fenced, s, 0) else
  let s1 := if j.cls = 1 ∧ s.fget fNFCWL_RDTHR ≤ corr then s.queueRewrite us else s
  let s2 := (List.range j.len).foldl (fun (t : State) i =>
    t.writeP (j.da + 4096 * i) (t.unitData (us.getD i 0)) (uncor.contains i)) s1
  let bad := uncor.any fun i => decide (i < j.len)
  some (if bad then (.mediaError, s2.bump fNFCUNCOR_COUNT 1, 4096 * j.len) else (.done, s2, 4096 * j.len))

/-- WRITE and MIGRATE: where the run may go, and then the write. -/
def State.nandPut (s : State) (cls lba len fails : Nat) (data : Nat → List Byte) : NandEnd :=
  let us := unitKeys cls lba len
  if cls = 1 ∧ !boltsOk s.nfc.bolt us then some (.badArgument, s, 0)
  else if s.flag fNFCSTAT_RO then some (.mediaFull, s, 0)
  else match s.writeUnits cls fails us data with
    | .ok t => some (.done, t.nfcEnd, 4096 * len)
    | .full => some (.mediaFull, s.mediaFull, 0)
    | .wait => none

/-- WRITE; data from poisoned granules is refused with POISONED. -/
def State.nandWrite (s : State) (j : NandJob) (fails : Nat) : NandEnd :=
  if !s.unitsOk j.cls j.lba j.len ∨ !s.engineRange j.da (4096 * j.len) then some (.badAddress, s, 0)
  else if s.poisonedIn j.da (4096 * j.len) then some (.poisoned, s.touch j.da (4096 * j.len), 0)
  else
    let base := j.cls * 2 ^ 40 + j.lba
    (s.touch j.da (4096 * j.len)).nandPut j.cls j.lba j.len fails fun u => s.bytes (j.da + 4096 * (u - base)) 4096

/-- MIGRATE: a class H range into class C bolts. -/
def State.nandMigrate (s : State) (j : NandJob) (fails : Nat) : NandEnd :=
  if j.cls = 1 then some (.badArgument, s, 0)
  else if j.dlba % 256 ≠ 0 then some (.badAlign, s, 0)
  else if !s.unitsOk 0 j.lba j.len ∨ !s.unitsOk 1 j.dlba j.len then some (.badAddress, s, 0)
  else s.nandPut 1 j.dlba j.len fails fun u => s.unitData (j.lba + (u - (2 ^ 40 + j.dlba)))

/-- TRIM; a bolt whose written units are all trimmed may be written again (R618, R626). -/
def State.nandTrim (s : State) (j : NandJob) : NandEnd :=
  if !s.unitsOk j.cls j.lba j.len then some (.badAddress, s, 0) else
  let us := unitKeys j.cls j.lba j.len
  let kept := s.nfc.units.filter fun e => !us.contains e.1
  let s1 := s.setNfc { s.nfc with
    units := kept,
    bolt := if j.cls = 0 then s.nfc.bolt else s.nfc.bolt.filter fun e => kept.any fun x => x.1 / 256 = 2 ^ 40 / 256 + e.1 }
  some (.done, (s1.freeUnits us).nfcEnd, 0)

/-- The flash translation takes the oldest descriptor of its JOBQ when its OP is one of the row's, and completes it on DONEQ. -/
def State.nandRow (s : State) (rowOp : Nat → Bool) (run : State → NandJob → NandEnd) : State :=
  let dq := s.fget fNFCCFG_DONEQ
  if !s.flag fNFCCFG_EN ∨ !s.flag fNFCSTAT_MOUNTED ∨ s.pwr.pf ≠ .idle ∨ s.holdsDone dq 0 then s else
  let jq := s.fget fNFCCFG_JOBQ
  match s.frontJob jq with
  | none => s
  | some d =>
    let j := NandJob.parse d
    if !rowOp j.op then s else
    let s1 := s.dequeued jq
    if j.endBit ≠ 1 ∨ 4 < j.op then s1.hwEnqueue dq (doneDesc .badArgument 0 j.job 0) else
    match run s1 j with
    | some (st, t, n) => t.hwEnqueue dq (doneDesc st 0 j.job n)
    | none => s

/-- NAND_READ: OP 0, and an OP outside R617's table. -/
def execNandRead (corr : Nat) (uncor : List Nat) (s : State) : Out := s.live <|
  .next (s.nandRow (fun o => o = 0 || decide (4 < o)) fun t j => t.nandRead j corr uncor)
/-- NAND_WRITE: OP 1, with the program failures it meets. -/
def execNandWrite (fails : Nat) (s : State) : Out := s.live <| .next (s.nandRow (· = 1) fun t j => t.nandWrite j fails)
/-- NAND_TRIM: OP 2. -/
def execNandTrim (s : State) : Out := s.live <| .next (s.nandRow (· = 2) fun t j => t.nandTrim j)
/-- NAND_MIGRATE: OP 3. -/
def execNandMigrate (fails : Nat) (s : State) : Out := s.live <| .next (s.nandRow (· = 3) fun t j => t.nandMigrate j fails)
/-- NAND_SYNC: OP 4; every earlier WRITE has completed with its own command. -/
def execNandSync (s : State) : Out := s.live <| .next (s.nandRow (· = 4) fun t _ => some (.done, t, 0))

/-! ## Collection, wear levelling and rewriting (R619 to R623) -/

/-- The closed block of a channel with the fewest valid units. -/
def State.victim (s : State) (ch : Nat) : Option Nat :=
  ((s.blksOf ch).filter fun e => e.2.st = .closed && decide (e.2.units.length < e.2.fill)).foldl (fun best e => match best with
    | none => some e.1
    | some b => if e.2.units.length < (s.blk b).units.length then some e.1 else best) none

/-- A block's valid units copied elsewhere, and the block erased; the copy meets `fails` program failures (R623). -/
def State.vacate (s : State) (b fails : Nat) (eraseFails : Bool) : State :=
  match s.putUnits nwMove fails (s.blk b).units with
  | .ok t => ((t.erase b eraseFails).roCheck).nfcEnd
  | _ => s

/-- The engine works: mounted, and no PFAIL sequence (R71). -/
def State.nandOn (s : State) : Bool := s.flag fNFCSTAT_MOUNTED && s.pwr.pf = .idle

/-- Free blocks of a channel below a percentage. -/
def State.freeBelow (s : State) (ch pct : Nat) : Bool := decide (100 * s.freeBlks ch < pct * s.blkCount ch)

def fFggc (ch : Nat) : Fld := ⟨rNFCSTAT, 2 + ch, 1⟩

/-- IDLE_GC (R620) on a channel. -/
def execIdleGc (ch : Fin 2) (fails : Nat) (eraseFails : Bool) (s : State) : Out := s.live <|
  if !s.nandOn ∨ !s.freeBelow ch.val (s.fget fNFCGC_IDLE_LO) then .next s else
  match s.victim ch.val with
  | some b => .next (s.vacate b fails eraseFails)
  | none => .next s

/-- FOREGROUND_GC (R621): it runs from below FG_LO until above FG_HI. -/
def execForegroundGc (ch : Fin 2) (fails : Nat) (eraseFails : Bool) (s : State) : Out := s.live <|
  let n := ch.val
  if !s.nandOn ∨ !(s.flag (fFggc n) || s.freeBelow n (s.fget fNFCGC_FG_LO)) then .next s else
  let s1 := s.setFlag (fFggc n) true
  let s2 := match s1.victim n with
    | some b => s1.vacate b fails eraseFails
    | none => s1
  .next (if s2.fget fNFCGC_FG_HI * s2.blkCount n < 100 * s2.freeBlks n then s2.setFlag (fFggc n) false else s2)

/-- The closed block with the lowest erase count (R619). -/
def State.leastErased (s : State) : Option Nat :=
  (s.nfc.blocks.filter fun e => e.2.st = .closed).foldl (fun (best : Option Nat) e => match best with
    | none => some e.1
    | some b => if e.2.erase < (s.blk b).erase then some e.1 else best) none

/-- The free block of a channel with the highest erase count (R619); a block that no entry names has never been erased. -/
def State.mostErasedFree (s : State) (ch : Nat) : Option Nat :=
  (((s.blksOf ch).filter fun e => e.2.st = .free).foldl (fun (best : Option Nat) e => match best with
    | none => some e.1
    | some c => if (s.blk c).erase < e.2.erase then some e.1 else best) none).or (s.freeBlk ch (s.blkCount ch) 0)

/-- An open block closed before it is full. -/
def State.closeBlk (s : State) (b : Nat) : State :=
  (s.setBlk b { s.blk b with st := .closed }).setNfc { (s.setBlk b { s.blk b with st := .closed }).nfc with
    filling := s.nfc.filling.filter fun e => e.2 ≠ b + 1 }

/-- WEAR_LEVEL_MOVE (R619): the least-erased block with data moves into a free block among the most-erased of its channel. -/
def execWearLevelMove (fails : Nat) (eraseFails : Bool) (s : State) : Out := s.live <|
  if !s.nandOn ∨ s.eraseMax ≤ s.eraseMin + s.fget fNFCWL_SPREAD then .next s else
  match s.leastErased with
  | none => .next s
  | some b =>
    match s.mostErasedFree (b / 2 ^ 24) with
    | none => .next s
    | some d =>
      let us := (s.blk b).units
      -- a target that fails is retired and the copy starts again on the next block of the pool
      if fails ≠ 0 then .next (((s.bump fNFCPFAIL_COUNT 1).retire d).vacate b (fails - 1) eraseFails) else
      let s1 := us.foldl State.unmap s
      let s2 := us.foldl State.mapNote (s1.setBlk d { s1.blk d with st := .closed, fill := us.length, units := us })
      .next ((s2.erase b eraseFails).nfcEnd)

/-- BLOCK_REWRITE (R623): the oldest queued block. -/
def execBlockRewrite (fails : Nat) (eraseFails : Bool) (s : State) : Out := s.live <|
  if !s.nandOn then .next s else
  match s.nfc.rewrite with
  | [] => .next s
  | b :: bs =>
    if (s.blk b).st = .closed then .next (s.vacate b fails eraseFails)
    else if (s.blk b).st = .opened then
      .next ((s.closeBlk b).vacate b fails eraseFails)
    else .next (s.setNfc { s.nfc with rewrite := bs })

end Sys2Proof.Machine
end

