-- ==== Sys2Proof/Machine/Storage.lean ====
section
/-!
DEFINITION. Draining, checkpoints and the rinse (R27, R47 to R50, R476, R607 to R611, R627, R628).
-/

namespace Sys2Proof.Machine

/-! ## Draining (R607, R608) -/

/-- Whole entries in ring order up to a number of bytes. -/
def fitEnts (room : Nat) : List RingEnt → Nat
  | [] => 0
  | e :: l => if e.len ≤ room then 1 + fitEnts (room - e.len) l else 0

/-- A batch is due: the ring holds THR KiB undrained, or its oldest entry is MS milliseconds old. -/
def State.drainDue (s : State) : Bool :=
  match s.mrm.ring with
  | [] => false
  | e :: _ => decide (1024 * s.fget fMRMDRAIN_THR ≤ s.ringUsed) || decide (e.at_ + msRaw (s.fget fMRMDRAIN_MS) ≤ s.time.raw)

/-- DRAIN_BATCH (R607): with the media writable, a due batch takes whole entries, up to 256 KiB. -/
def execDrainBatch (s : State) : Out := s.live <|
  if s.mrm.batch ≠ 0 ∨ !s.nandOn ∨ s.flag fNFCSTAT_RO ∨ !s.drainDue then .next s
  else .next (s.setMrm { s.mrm with batch := fitEnts 262144 s.mrm.ring })

/-- The tail moved past an entry (R600). -/
def State.tailPast (s : State) (e : RingEnt) : State :=
  let n := e.off + e.len
  if n = ringSize then (s.fset fMRMTAIL_OFFSET 0).count fMRMTAIL_LAPS 1 else s.fset fMRMTAIL_OFFSET n

/-- DRAIN_BATCH_COMPLETE (R608): every page programmed and read back, after `fails` program failures; the tail advances. On full media
the batch is refused and the ring keeps its entries (R625). -/
def execDrainBatchComplete (fails : Nat) (s : State) : Out := s.live <|
  if s.mrm.batch = 0 ∨ !s.nandOn then .next s else
  let gone := s.mrm.ring.take s.mrm.batch
  let bytes := (gone.map (·.len)).sum
  let us := s.ownUnits bytes
  match s.putOwn bytes fails with
  | .wait => .next s
  | .full => .next s.mediaFull
  | .ok t =>
    let t1 := t.setMrm { t.mrm with
      ring := t.mrm.ring.drop t.mrm.batch, batch := 0,
      hot := t.mrm.hot ++ [{ entries := gone.map fun e => s.bytes (ringBase + e.off) e.len, units := us }] }
    .next (gone.foldl State.tailPast t1).nfcEnd.ringRetry

/-! ## Checkpoints (R244, R610, R611) -/

/-- The modes in which a checkpoint starts. -/
def State.ckptMode (s : State) : Bool := s.serving || s.isStandby

/-- A checkpoint starts. -/
def State.ckptStart (s : State) : State := (s.setFlag fMRMCKPT_BUSY true).setMrm { s.mrm with ckptFrom := some s.time.raw }

/-- A write of MRMCKPT. -/
def State.mrmckptWrite (s : State) (v : Nat) : State :=
  let go := fMRMCKPT_GO.of v = 1
  if fMRMCKPT_INT.of v = 0 then s.say .badArgument
  else if go ∧ s.flag fMRMCKPT_BUSY then s.say .engineBusy
  else if go ∧ !s.ckptMode then s.say .modeDenied
  else
    let s1 := s.fset fMRMCKPT_INT (fMRMCKPT_INT.of v)
    (if go then s1.ckptStart else s1).say .done

/-- CHECKPOINT_GO (R610): INT is written with GO. -/
def execCheckpointGo (a : Agent) (int : Half) (s : State) : Out := s.live <|
  .next (s.asAgent a rMRMCKPT fun t => t.mrmckptWrite (int.toNat + 2 ^ 31))

/-- CHECKPOINT_DUE (R610): INT minutes after the previous one completed, in a permitted mode. -/
def execCheckpointDue (s : State) : Out := s.live <|
  .next (if s.ckptMode ∧ !s.flag fMRMCKPT_BUSY ∧ s.mrm.ckptAt + secRaw (60 * s.fget fMRMCKPT_INT) ≤ s.time.raw then s.ckptStart else s)

/-- Some endpoint stands between its press item and the switch item that follows it (R244, R610). -/
def State.switchPending (s : State) : Bool :=
  s.ldg.ready.any (fun r => r.rank = 0) || s.lcs.any fun e => e.2.item.isSome && e.2.rank = 0

/-- The lowest LAST_ISN of the local endpoints' pages. -/
def State.lowestIsn (s : State) : Nat := (s.epis.map s.pageLastIsn).foldl min s.lastIsn

/-- Some entry of a batch lies above an ISN. -/
def HotBatch.above (b : HotBatch) (isn : Nat) : Bool :=
  b.entries.any fun e => decide (isn < entIsn e + entN e - 1)

/-- Batches of a session in flight that the hold store does not hold. -/
def Sess.unheld (c : Sess) : List (List Rec) := (c.flight.filter fun b => !b.stored).map (·.recs)

/-- A session whose batches all lie in the hold store. -/
def Sess.held (c : Sess) : Sess := { c with flight := c.flight.map fun b => { b with stored := true } }

/-- Every batch formed that no BACK covers and that the hold store does not hold, oldest first (R476). -/
def State.uncovered (s : State) : List (List Rec) :=
  ((s.ses.old.map fun e => e.1.unheld).getD []) ++ ((s.ses.cur.map Sess.unheld).getD []) ++ s.ses.ready

/-- The hold store takes them all (R481). -/
def State.holdTakes (s : State) (l : List (List Rec)) : Bool :=
  l.isEmpty || (!s.flag fREPSTAT_HOLDFULL && decide (s.holdBytes + (l.map fun b => (recsBytes b).length).sum ≤ s.holdBudget))

/-- They go to the hold store (R476). -/
def State.ckptHold (s : State) : State :=
  (s.setSes { s.ses with
    ready := [], cur := s.ses.cur.map Sess.held, old := s.ses.old.map fun e => (e.1.held, e.2), hold := s.ses.hold ++ s.uncovered }).sesRegs

/-- The commit group of a checkpoint written, its records programmed in units `us` (R611): one generation, the previous one and the hot
batches it covers trimmed. -/
def State.ckptCommit (t : State) (recs : List CkptRec) (us : List Nat) : State :=
  let low := t.lowestIsn
  let c : Ckpt := {
    gen := ((t.mrm.ckpts.head?.map (·.gen)).getD 0) + 1, kLast := t.fget fLDGLASTK_K_LAST, lowIsn := low, recs := recs,
    progs := t.ldg.progs, units := us }
  let freed := (t.mrm.ckpts.flatMap (·.units)) ++ ((t.mrm.hot.filter fun b => !b.above low).flatMap (·.units))
  let t1 := (t.ckptHold.setMrm { t.mrm with
    ckpts := [c], hot := t.mrm.hot.filter fun b => b.above low, ckptFrom := none, ckptAt := t.time.raw }).setFlag fMRMCKPT_BUSY false
  (t1.freeUnits freed).nfcEnd.setLdg { t1.ldg with detClean := !t1.flag fNFCSTAT_RO }

/-- CHECKPOINT_COMPLETE (R611): every local endpoint's record programmed, after `fails` program failures, and its commit group
written, once the hold store has taken every uncovered batch (R476). -/
def execCheckpointComplete (fails : Nat) (s : State) : Out := s.live <|
  match s.mrm.ckptFrom with
  | none => .next s
  | some from_ =>
    if !s.nandOn ∨ s.flag fNFCSTAT_RO ∨ s.switchPending ∨ !s.holdTakes s.uncovered then .next s else
    let recs := s.epis.map fun e => ({ epi := e, data := s.endpointState e, poison := s.endpointPoison e } : CkptRec)
    let bytes := 5344 * recs.length
    let us := s.ownUnits bytes
    match s.putOwn bytes fails with
    | .wait => .next s
    | .full => .next s.mediaFull
    | .ok t =>
      let t2 := t.ckptCommit recs us
      -- a move's endpoints, all received before this checkpoint began, are now on NAND (R466 step 4)
      let t3 := if t2.mov.ckptWait ∧ t2.mov.recvAt ≤ from_ then (t2.setMov { t2.mov with ckptWait := false }).moveIn else t2
      .next t3

/-! ## Rinse (R627, R628) -/

/-- The memory of a rinse pass: base and bytes. -/
def State.rinseRange (s : State) (m : Nat) : Nat × Nat :=
  if m = 0 then (daBase, s.daSize) else if m = 1 then (dbBase, s.dbSize)
  else if m = 2 then (sramBase, 0x2000000) else (mramBase, 0x1000000)

/-- RINSE_PASS (R627): a pass over memory `m` ends. -/
def execRinsePass (m : Fin 4) (s : State) : Out := s.live <|
  let i := m.val
  if !s.flag (fRINCFG_EN i) ∨ (i = 1 ∧ s.fenced 11) then .next s else
  let (a, n) := s.rinseRange i
  let hit := s.soft.filter (touches a n)
  let bad := s.poison.filter (touches a n)
  let s1 := ((s.correct a n).bump (fRINCORR_COUNT i) hit.length).bump (fRINPOIS_COUNT i) bad.length
  let s2 := match bad with
    | [] => s1
    | g :: _ => s1.poisonEvent 0x44 i bad.length .poisoned (8 * g)
  let due := s.rin.since.get natZero i + secRaw (3600 * s.fget (fRINCFG_PERIOD i))
  let s3 := if due < s.time.raw then s2.setFlag (fRINSTAT_LATE i) true else s2
  .next { s3.bump (fRINSTAT_PASSES i) 1 with rin := { since := s.rin.since.put natZero i s.time.raw } }

end Sys2Proof.Machine
end

