-- ==== Sys2Proof/Machine/Recorder.lean ====
section
/-!
DEFINITION. The event recorder's commands: posting, firmware events, the writing of folds, clearing, and the copy of the operating
time (R632 to R640).
-/

namespace Sys2Proof.Machine

/-- The order in which events posted in one cycle enter (R637). -/
def eventBefore (a b : Event) : Bool := decide (a.src < b.src) || (decide (a.src = b.src) && decide (a.inst ≤ b.inst))

/-- An event put into the queue's order. -/
def eventIns (e : Event) : List Event → List Event
  | [] => [e]
  | x :: l => if eventBefore e x then e :: x :: l else x :: eventIns e l

/-- EVENT_POST (R634, R635, R637): what the units post in one cycle. The 64-entry queue takes the first of them; the others are counted
in EVRLOST, and the next record written carries LOSS (R631). -/
def execEventPost (es : List Event) (s : State) : Out := s.live <|
  let l := es.foldr eventIns []
  let s1 := (l.take 64).foldl State.event s
  .next (if 64 < l.length then (s1.setEvr { s1.evr with lost := true }).bump fEVRLOST_COUNT (l.length - 64) else s1)

/-- A write of EVRPOST by an agent (R634). INST is the writing core; the test port is none, so its number is a free value. -/
def State.evrpostWrite (s : State) (a : Agent) (v : Nat) : State :=
  let code := fEVRPOST_CODE.of v
  if code < 0xC00 then s.say .badArgument else
  let (inst, t) := match a with
    | .cc k => (k.val, s)
    | .port => (s.draw % 256, s.drawn 1)
  (t.event { code := code, sev := fEVRPOST_SEV.of v, src := 0x04, inst := inst, arg0 := fEVRPOST_ARG0.of v,
             value := fEVRPOST_VALUE.of v }).say .done

/-- EVRPOST_WRITE (R634). -/
def execEvrpostWrite (a : Agent) (v : BitVec 128) (s : State) : Out := s.live <|
  .next (s.asWhole a rEVRPOST fun t => t.evrpostWrite a v.toNat)

/-- FOLD_FLUSH (R636): every folded record whose last write lies FLUSHMS back is written. -/
def execFoldFlush (s : State) : Out := s.live <|
  let due := fun (o : OpenRec) => o.dirty && decide (o.written + msRaw (s.fget fEVRCFG_FLUSHMS) ≤ s.time.raw)
  let s1 := (s.evr.openSet.filter due).foldl State.flushOpen s
  .next (s1.setOpen (s.evr.openSet.map fun o => if due o then { o with dirty := false, written := s.time.raw } else o))

/-- One slot freed when its record is EXPORTED at or below a severity (R640). -/
def State.clearSlot (s : State) (sev k : Nat) : State :=
  let d := s.bytes (evrAddr k) 128
  if recCode d ≠ 0 ∧ recExported d ∧ recSev d ≤ sev then
    let s1 := s.putRec k (List.replicate 128 0)
    ((s1.setEvr { s1.evr with used := s1.evr.used - 1 }).setOpen (s1.evr.openSet.filter fun o => o.slot ≠ k)).setFlag fEVRSTAT_FULL false
  else s

/-- A write of EVRCTL (R640). -/
def State.evrctlWrite (s : State) (v : Nat) : State :=
  (if fEVRCTL_CLEAR.of v = 1 then (List.range 8192).foldl (fun (t : State) k => t.clearSlot (fEVRCTL_CLEARSEV.of v) k) s else s).say .done

/-- EVENT_CLEAR (R640): a write of EVRCTL with CLEAR and a CLEARSEV. -/
def execEventClear (a : Agent) (sev : Fin 4) (s : State) : Out := s.live <|
  .next (s.asAgent a rEVRCTL fun t => t.evrctlWrite (setBits sev.val 31 1 1))

/-- The operating time copied to MRAM (R632). -/
def State.optSave (s : State) : State := s.setEvr { s.evr with optCopy := s.opt, optCopyAt := s.time.raw }

/-- OPERATING_TIME_SAVE (R632): once a minute, in the always-on domain. -/
def execOperatingTimeSave (s : State) : Out :=
  .next (if s.evr.optCopyAt + secRaw 60 ≤ s.time.raw then s.optSave else s)

end Sys2Proof.Machine
end

