-- ==== Sys2Proof/Machine/Clocks.lean ====
section
/-!
DEFINITION. The clock inputs and the junction temperature (R656 to R658, R680).
-/

namespace Sys2Proof.Machine

def State.setClk (s : State) (c : ClkSt) : State := { s with clk := c }

/-- Bits of CLKSTAT.LOCK: the core PLLs run from REFCLK, the TIME PLL from TIMECLK or REFCLK, the SER PLL from SREFCLK. -/
def lockTime : Nat := 5
def lockSer : Nat := 6

/-- A PLL's LOCK bit. -/
def State.setLockBit (s : State) (n : Nat) (b : Bool) : State := s.fset fCLKSTAT_LOCK (setBits (s.fget fCLKSTAT_LOCK) n 1 (b2n b))

/-- The TIME PLL runs: from TIMECLK, or from a REFCLK that is there. -/
def State.timePll (s : State) : Bool := s.clk.refLost.isNone || !s.flag fCLKSTAT_TSRC

/-- REFCLK_LOSS (R658): the core PLLs stop, and the TIME PLL with them when it runs from REFCLK. -/
def execRefclkLoss (s : State) : Out :=
  let s1 := (List.range 5).foldl (fun (t : State) n => t.setLockBit n false) s
  let s2 := if s.flag fCLKSTAT_TSRC then s1.setLockBit lockTime false else s1
  .next (s2.setClk { s.clk with refLost := some s.time.raw })

/-- TIMECLK_LOSS (R658): the TIME PLL moves to REFCLK; INCR is unchanged. -/
def execTimeclkLoss (s : State) : Out :=
  .next (((s.setFlag fCLKSTAT_TSRC true).setFlag fCLKSTAT_TLOSS true).setClk { s.clk with timeFit := false })

/-- An EN port's link lost. -/
def State.enDown (s : State) (k : Nat) : State := ((s.setFlag (fENSTAT_LINK k) false).fset (fENSTAT_SPEED k) 0).sesMove

/-- SREFCLK_LOSS (R658): every EN and DL link goes down. -/
def execSrefclkLoss (s : State) : Out :=
  let s1 := (List.range 2).foldl State.enDown s
  let s2 := (List.range 4).foldl State.dlDown s1
  .next ((s2.setFlag fCLKSTAT_SLOSS true).setLockBit lockSer false)

/-- XTAL_LOSS (R658): the always-on domain moves to its internal oscillator. -/
def execXtalLoss (s : State) : Out := .next ((s.setFlag fCLKSTAT_XLOSS true).setClk { s.clk with slow := true })

/-- A write of CLKCTL: TRETURN returns the TIME PLL to TIMECLK when TIMECLK meets R656. -/
def State.clkctlWrite (s : State) (v : Nat) : State :=
  if fCLKCTL_TRETURN.of v = 0 then s.say .done
  else if !s.clk.timeFit then s.say .badArgument
  else ((s.setFlag fCLKSTAT_TSRC false).setLockBit lockTime true).say .done

/-- TRETURN (R658): the write of CLKCTL.TRETURN; `fit` is whether TIMECLK meets R656 at the write. -/
def execTreturn (a : Agent) (fit : Bool) (s : State) : Out := s.live <|
  .next ((s.setClk { s.clk with timeFit := fit }).asAgent a rCLKCTL fun t => t.clkctlWrite 1)

/-- TEMP_HOT (R680): the junction temperature, in 0.125 °C, as the sensor gives it; 110 °C sets HOT. -/
def execTempHot (temp : BitVec 12) (s : State) : Out := s.live <|
  let s1 := s.fset fCLKTEMP_TEMP temp.toNat
  .next (if 880 ≤ temp.toInt then s1.setFlag fCLKTEMP_HOT true else s1)

end Sys2Proof.Machine
end

