-- ==== Sys2Proof/Machine/Fence.lean ====
section
/-!
DEFINITION. Fences: a request, and the point at which it takes effect (R50 to R53).
-/

namespace Sys2Proof.Machine

/-- The units of which the minimum service set keeps one, by a unit's bit of FENCE_STAT (R52). -/
def State.keepOne (s : State) (n : Nat) : List Nat :=
  if n < 4 then [0, 1, 2, 3]
  else if 14 ≤ n ∧ n < 20 then [14, 15, 16, 17, 18, 19]
  else if 20 ≤ n ∧ n < 30 then if s.flag fSYSSTAT_ROLE_H then [] else [20, 21, 22, 23, 24, 25, 26, 27, 28, 29]
  else if 32 ≤ n ∧ n < 96 then (List.range 64).map (· + 32)
  else []

/-- A unit is fenced, or its fence has been requested. -/
def State.fencing (s : State) (n : Nat) : Bool := s.fenced n || bit s.pwr.fenceReq n

/-- Event 0x012: a fence refused or late (R642). -/
def State.fenceEvent (s : State) (n : Nat) : State := s.event { code := 0x012, sev := 2, src := 0x00, value := n }

/-- One bit of FENCE_SET (R51, R52). -/
def State.fenceBit (s : State) (n : Nat) : State :=
  if s.fencing n then s
  else if n = 11 then
    -- before the control firmware is loaded a DB fence takes effect at once; a later one is ignored
    if s.mode = modeBoot ∧ s.pwr.bootStep < 6 then s.setReg rFENCE_STAT (setBits (s.reg rFENCE_STAT) 11 1 1) else (s.setFlag fSYSSTAT_FENCE_LATE true).fenceEvent n
  else
    let l := s.keepOne n
    if !l.isEmpty ∧ l.all fun m => m = n || s.fencing m then (s.setFlag fSYSSTAT_FENCE_REFUSED true).fenceEvent n
    else s.setPwr { s.pwr with fenceReq := setBits s.pwr.fenceReq n 1 1 }

/-- A write of FENCE_SET (R51, R52). -/
def State.fenceSet (s : State) (v : Nat) : State :=
  (((List.range 96).filter (bit v)).foldl State.fenceBit s).say .done

/-- FENCE_REQUEST (R51, R52): a write of FENCE_SET. -/
def execFenceRequest (a : Agent) (v : BitVec 96) (s : State) : Out := s.live <|
  .next (s.asWhole a rFENCE_SET fun t => t.fenceSet v.toNat)

/-- A fence in effect: its bit of FENCE_STAT, and what its unit then loses (R53). -/
def State.fenceNow (s : State) (n : Nat) : State :=
  let s1 := (s.setReg rFENCE_STAT (setBits (s.reg rFENCE_STAT) n 1 1)).setPwr { s.pwr with fenceReq := setBits s.pwr.fenceReq n 1 0 }
  if n < 4 then
    let s2 := (s1.leaveLines n).breakLocks n
    s2.setCc n { s2.cc n with run := .held }
  else if n = 14 ∨ n = 15 then s1.enDown (n - 14)
  else if 16 ≤ n ∧ n < 20 then s1.dlDown (n - 16)
  else s1

/-- The unit has reached the point of R53: an LC waits in WAITW, a triple has no frame on its line, a radio port stands at the end of a
superframe, metrology and the balance engine at the end of an interval, an AES engine has no job running; the others reach theirs with
the command. -/
def State.fencePoint (s : State) (n : Nat) : Bool :=
  if 32 ≤ n ∧ n < 96 then (s.lc (n - 32)).run ≠ .running
  else if 20 ≤ n ∧ n < 24 then
    let t := n - 20
    decide ((s.pl.triples.get (fun _ => {}) t).rxTo ≤ s.time.raw) && [0, 1, 2].all fun i => (s.plPort (3 * t + i)).tx.isNone
  else if 24 ≤ n ∧ n < 30 then
    match s.rf.start with
    | none => true
    | some st => decide (s.time.raw ≤ st) || decide (st + s.rf.len ≤ s.time.raw)
  else if n = 30 ∨ n = 31 then s.metBetween n
  else true

/-- FENCE_TAKE_EFFECT (R53): unit `n` of FENCE_STAT has reached its point. -/
def execFenceTakeEffect (n : Fin 96) (s : State) : Out := s.live <|
  .next (if bit s.pwr.fenceReq n.val ∧ s.fencePoint n.val then s.fenceNow n.val else s)

end Sys2Proof.Machine
end

