-- ==== Sys2Proof/Machine/Power.lean ====
section
/-!
DEFINITION. Resets, the boot sequence, the role decision, modes, power failure, Quiet, Sleep and the watchdogs (R55 to R92, R508 to
R511).
-/

namespace Sys2Proof.Machine

/-! ## Resets (R56) -/

/-- POR: VAON rises from below its threshold. -/
def execPor (s : State) : Out := .next (s.doReset kPor 0)
/-- BOR: VCORE, VDDR or VIO leaves its range while VAON holds. -/
def execBor (s : State) : Out := .next (s.doReset kBor 0)
/-- EXT_RESET: RESET_N held low for its minimum pulse. -/
def execExtReset (s : State) : Out := .next (s.doReset kExt 0)

/-- SWRESET_NORMAL (R56): a write of SWRESET with its KEY and REQ 0b00. -/
def execSwresetNormal (a : Agent) (s : State) : Out := s.live <| .next (s.asAgent a rSWRESET fun t => t.swresetWrite 0x53520000)
/-- SWRESET_RECOVERY (R66): REQ 0b01. -/
def execSwresetRecovery (a : Agent) (s : State) : Out := s.live <| .next (s.asAgent a rSWRESET fun t => t.swresetWrite 0x53520001)
/-- SWRESET_STANDBY (R66): REQ 0b10. -/
def execSwresetStandby (a : Agent) (s : State) : Out := s.live <| .next (s.asAgent a rSWRESET fun t => t.swresetWrite 0x53520002)

/-! ## The boot sequence (R67) -/

/-- The boot stops in BOOT with a cause (R68). -/
def State.bootStopAt (s : State) (step cause : Nat) : State := (s.fset fMODESTAT_BOOTSTOP cause).setPwr { s.pwr with bootStep := step }

/-- A mode entered from BOOT: the boot has ended. -/
def State.bootEnd (s : State) (m : Nat) : State := (s.fset fMODESTAT_MODE m).setPwr { s.pwr with bootStep := 13 }

/-- Step 1: the PLLs; at a POR the time PLL measures TIMECLK (R657). -/
def State.bootClocks (s : State) (f : RomFacts) : State :=
  let s1 := (s.fset fCLKSTAT_LOCK f.plls.toNat).setClk { s.clk with refLost := none }
  if s.pwr.kind ≠ kPor then s1 else
  match f.timeclk with
  | some fast => s1.setFlag fCLKSTAT_TFREQ fast
  | none => ((s1.setFlag fCLKSTAT_TSRC true).setFlag fCLKSTAT_TLOSS true).setClk { s1.clk with timeFit := false }

/-- Step 4 for one channel: what training found (R664). -/
def State.ddrPut (s : State) (i : Nat) (d : DdrFound) : State :=
  (((s.setFlag (fDDRSTAT_TRAINED i) d.trained).fset (fDDRSTAT_RANKS i) d.ranks.toNat).fset (fDDRSTAT_SIZE i) d.gib.toNat).fset
    (fDDRSTAT_LANEFAIL i) d.laneFail.toNat

/-- Steps 2 to 4: a SCRAP chip stops; a pending alarm erases the key store; memory is trained and sized, a fenced DB apart; the flash
translation is mounted (R616). The flag is whether the boot goes on. -/
def State.bootMemory (s : State) (f : RomFacts) : State × Bool :=
  if s.life = lifeScrap then (s.bootStopAt 2 1, false) else
  let s1 := if s.flag fTMPSTAT_PEND then s.eraseKeys.setFlag fRSTCAUSE_TAMPER_ERASE true else s
  let s2 := if f.dbFence then s1.setReg rFENCE_STAT (setBits (s1.reg rFENCE_STAT) 11 1 1) else s1
  let s3 := s2.ddrPut 0 f.da
  let s4 := if s2.fenced 11 then s3 else s3.ddrPut 1 f.db
  if !f.da.trained ∨ (!s2.fenced 11 ∧ !f.db.trained) then (s4.bootStopAt 4 2, false)
  else if s4.daSize < 2 ^ 32 ∨ (!s2.fenced 11 ∧ s4.dbSize < 2 ^ 31) then (s4.bootStopAt 4 3, false)
  else (s4.mount f.torn, true)

/-- The always-on watchdog reloaded. -/
def State.aonReload (s : State) : State :=
  s.setPwr { s.pwr with aonDue := s.time.raw + (s.fget fAONWDT_PERIOD + 1) * 31250000 }

/-- The base at which step 5 loads the image: DB, or the control partition of DA when DB is fenced (R30, R195). -/
def State.loadBase (s : State) : Nat := if s.fenced 11 then daBase + s.daSize - 0x20000000 else dbBase

/-- No key-store slot is valid. -/
def State.keysEmpty (s : State) : Bool := s.key.slots.all fun e => e.2.typ = 0

/-- The ROM finds a cause to enter RECOVERY other than a missing image (R66): a pending alarm, a FIELD chip with an empty key store,
the request of SWRESET. -/
def State.wantsRecovery (s : State) : Bool :=
  s.flag fTMPSTAT_PEND || (s.life = lifeField && s.keysEmpty) || (s.pwr.kind = kSwr && s.fget fRSTCAUSE_SWREQ = 1)

/-- Steps 5 and 6: the image selected, loaded and checked, and the control cores started (R194); the seal read and cleared (R606). -/
def State.bootImage (s : State) : State :=
  let s1 := s.setMrm { s.mrm with sealed := s.mrm.sealRec.isSome, sealRec := none }
  let s2 := if s.life = lifeField ∧ !s.flag fAONWDT_EN then (s1.setFlag fAONWDT_EN true).aonReload else s1
  if s2.wantsRecovery then s2.bootEnd modeRecovery else
  match s2.imageSelect with
  | (t, none) => t.bootEnd modeRecovery
  | (t, some n) =>
    let base := t.loadBase
    let t1 := (t.write base (t.upd.pays.get noBytes n)).setPwr { t.pwr with imageBase := base, bootStep := 6 }
    ((((t1.fset fMODESTAT_BOOTSTOP 0).ccStart 0 vecReset).ccStart 1 vecSecondary).ccStart 2 vecSecondary).ccStart 3 vecSecondary

/-- R638: a recorder record found with an odd GEN gets the next even value, and keeps its contents. -/
def State.recMend (s : State) : State :=
  (s.mem.filter fun e => evrAddr 0 ≤ e.1 && decide (e.1 < evrAddr 8192) && e.1 % 128 = 0 && e.2.toNat % 2 = 1).foldl
    (fun (t : State) e => t.poke e.1 4 (t.peek e.1 4 + 1)) s

/-- Steps 1 to 6. Step 1 waits for PFAIL_N and for the REFCLK PLLs. -/
def State.bootRom (s : State) (f : RomFacts) : State :=
  if s.mode ≠ modeBoot ∨ s.pwr.bootStep ≠ 1 ∨ s.pwr.pf ≠ .idle ∨ s.pwr.asleep ∨ s.flag fTAPSTAT_HOLD then s
  else if f.pfail then (s.setFlag fPFSTAT_PFAIL true).fset fMODESTAT_BOOTSTOP 4
  else if bits f.plls.toNat 0 5 ≠ 31 then s.setFlag fPFSTAT_PFAIL false
  else
    match ((s.setFlag fPFSTAT_PFAIL false).recMend.bootClocks f).bootMemory f with
    | (t, false) => t
    | (t, true) => t.bootImage

/-- Step 7: set size, seam mode, roles, twin and the stored fences (R29, R67, R459). -/
def State.bootSettings (s : State) (f : Settings) : State :=
  if s.mode ≠ modeBoot ∨ s.pwr.bootStep ≠ 6 ∨ f.nchips.val < f.self.val ∨ !s.clocked then s else
  let s1 := ((s.fset fSEMCFG_NCHIPS (f.nchips.val + 1)).fset fSEMCFG_SELF f.self.val).setReg rSEMEPOCH f.epoch.toNat
  let s2 := ((s1.setFlag fSYSSTAT_SEAM (1 ≤ f.nchips.val)).setFlag fSYSSTAT_ROLE_F f.roleF).setFlag fSYSSTAT_ROLE_H f.roleH
  let s3 := ((s2.setFlag fTWNCFG_EN f.twin).setFlag fTWNCFG_SIDE f.side).gateFollow
  (((List.range 96).filter (bit f.fences.toNat)).foldl State.fenceBit s3).setPwr
    { (((List.range 96).filter (bit f.fences.toNat)).foldl State.fenceBit s3).pwr with bootStep := 7 }

/-- BOOT_START (R67): a part of the boot sequence, with what it finds. -/
def execBootStart (op : BootOp) (s : State) : Out :=
  match op with
  | .rom f => .next (s.bootRom f)
  | .settings f => .next (s.bootSettings f)

/-! ## The role decision (R508 to R511) -/

/-- Steps 10 and 11 are done: the pages are restored, or there was nothing to restore, and chip time is valid. -/
def State.roleReady (s : State) : Bool :=
  s.mode = modeBoot && s.life = lifeField && decide (7 ≤ s.pwr.bootStep) && s.timeValid &&
    (s.ldg.replayed || (s.journalEntries.isEmpty && s.mrm.ckpts.isEmpty))

/-- The DL3 HELLO shows this chip's own SIDE (R511). -/
def State.sideClash (s : State) : Bool := s.twinOn && s.dlUp 3 && (s.dl 3).farSide = s.fget fTWNCFG_SIDE

/-- Step 12 decides for STANDBY: ACT_IN_N asserted, or asserted 1 µs after ACT_OUT_N on the twin with SIDE 1 (R510). -/
def State.roleIsStandby (s : State) (clash : Bool) : Bool := s.twinOn && (s.flag fTWNSTAT_ACTIN || (clash && s.flag fTWNCFG_SIDE))

/-- DL3's absence counts from here (R518, R520). -/
def State.dl3From (s : State) : State :=
  if s.twinOn ∧ !s.dlUp 3 ∧ s.twn.downAt.isNone then s.setTwn { s.twn with downAt := some s.time.raw } else s

/-- STANDBY entered, and the catch-up asked for (R529). -/
def State.enterStandby (s : State) : State :=
  let s1 := ((s.bootEnd modeStandby).fset fTWNSTAT_ROLE roleStandby).setFlag fLDGSTAT_REPLAY false
  (s1.setTwn { s1.twn with inactSince := if s1.flag fTWNSTAT_ACTIN then none else some s1.time.raw }).dl3From.catchupAsk false

/-- SERVICE entered: ACT_OUT_N asserted, but not by a chip whose keys are erased (R508, R566); counters stand at their ceilings (R392,
R418). -/
def State.enterService (s : State) : State :=
  let s1 := (s.bootEnd modeService).setFlag fLDGSTAT_REPLAY false
  let s2 := if s1.twinOn then s1.fset fTWNSTAT_ROLE roleActive else s1
  let s3 := if s2.flag fTMPSTAT_ERASED then s2 else (s2.setTwn { s2.twn with aonHold := false }).setActOut true
  (s3.epis.foldl State.txFollow s3).dl3From

/-- Boot step 12. -/
def State.roleDecide (s : State) (clash : Bool) : State :=
  if s.sideClash then s.setFlag fTWNSTAT_SIDECLASH true
  else
    let s1 := if s.twinOn ∧ clash then s.setFlag fTWNSTAT_ACTIN true else s
    if s.roleIsStandby clash then s1.enterStandby else s1.enterService

/-- ROLE_DECISION (R510): boot step 12; `clash` is ACT_IN_N as sampled 1 µs after ACT_OUT_N is asserted. -/
def execRoleDecision (clash : Bool) (s : State) : Out := s.live <| .next (if s.roleReady then s.roleDecide clash else s)

/-! ## Modes (R66) -/

/-- A write of MODECTL: the transitions of R66 that firmware makes. -/
def State.modectlWrite (s : State) (v : Nat) : State :=
  let r := fMODECTL_REQ.of v
  let m := s.mode
  if (m = modeService ∧ r = modeHoldover) ∨ (m = modeHoldover ∧ r = modeService) then (s.fset fMODESTAT_MODE r).say .done
  else if m = modeBoot ∧ r = modeCommission ∧ (s.life = lifeBlank ∨ s.life = lifeProvisioned ∨ s.life = lifeDepot) ∧ 7 ≤ s.pwr.bootStep then
    (s.bootEnd modeCommission).say .done
  else if s.roleReady ∧ !s.sideClash ∧ r = (if s.roleIsStandby false then modeStandby else modeService) then
    (s.roleDecide false).say .done
  else s.say .modeDenied

/-- MODE_REQUEST (R66): a write of MODECTL. -/
def execModeRequest (a : Agent) (v : Word) (s : State) : Out := s.live <| .next (s.asAgent a rMODECTL fun t => t.modectlWrite v.toNat)

/-! ## Power failure (R70 to R75) -/

/-- The first part of the sequence: ingest is closed, no NAND operation is issued any more, and every transmitter stops (R71, R72). -/
def State.pfailClose (s : State) : State := (s.cutTransmit).setPwr { s.cutTransmit.pwr with pf := .closing s.time.raw }

/-- The length of the sequence in µs, at most 60: from its start, or a free value where it runs as one. -/
def State.pfailUs (s : State) : Nat :=
  match s.pwr.pf with
  | .closing t => min ((s.time.raw - t) / 1000) 60
  | _ => s.draw % 61

/-- The PFAIL sequence to its halt; its length is at most 60 µs. -/
def State.pfailRun (s : State) : State :=
  let us := s.pfailUs
  let s1 := (s.drawn 1).fset fPFSTAT_LASTUS us
  let s2 := s1.cutTransmit
  let s3 := s2.event { code := 0x002, sev := 1, src := 0x02, arg1 := s2.lastIsn, value := us }
  let s4 := (s3.evr.openSet.foldl State.flushOpen s3)
  let s5 := (s4.setOpen (s4.evr.openSet.map fun o => { o with dirty := false })).optSave
  let s6 := s5.setMrm { s5.mrm with sealRec := some ⟨s5.lastIsn, s5.fget fMRMHEAD_OFFSET, s5.fget fMRMTAIL_OFFSET⟩ }
  let s7 := s6.actRelease
  s7.setPwr { s7.pwr with pf := .halted }

/-- The sequence's next part: in a chip whose core clocks run it begins, closing ingest and the transmitters; one that has begun runs to
its halt. -/
def State.pfailPart (s : State) : State :=
  match s.pwr.pf with
  | .idle => if s.clocked then s.pfailClose else s
  | .closing _ => s.pfailRun
  | _ => s

/-- PFAIL_SEQUENCE (R70 to R72): PFAIL_N asserted for more than 1 µs. The command that finds no sequence begins one and the next runs it
to the halt; a command between the two meets a chip whose sequence runs. A chip that is asleep or without its core clocks only shows
PFAIL_N. -/
def execPfailSequence (s : State) : Out := .next (s.setFlag fPFSTAT_PFAIL true).pfailPart

/-- PFAIL_RECOVERY_BOR (R74): PFAIL_N deasserted for 10 ms after the halt, with all supplies in range. -/
def execPfailRecoveryBor (s : State) : Out :=
  .next (if s.pwr.pf = .halted then (s.setFlag fPFSTAT_PFAIL false).doReset kBor 0x100 else s)

/-! ## Quiet and Sleep (R77 to R85) -/

/-- Quiet: the frames in progress end, the powerline and radio ports idle, each ledger core is gated at its next WAITW (R77). -/
def State.quietEnter (s : State) : State :=
  if s.pwr.pf ≠ .idle ∨ !(s.serving || s.mode = modeStandby) then s.say .modeDenied
  else (s.rfQuiet.fset fMODESTAT_LPS 1).say .done

/-- Run: the ledger cores take the waiting work, the receivers start again (R78). -/
def State.runEnter (s : State) : State :=
  (if s.quiet then (s.fset fMODESTAT_LPS 0).rfRestart else s).say .done

/-- The save area of SLPSAVE, in DA. -/
def State.saveBase (s : State) : Nat := daBase + s.fget fSLPSAVE_BASE * 0x2000000

/-- Something holds Sleep back (R81 step 2): a queue or lock, a ledger core outside WAITW, waiting work, an engine or a NAND channel. -/
def State.lpBusy (s : State) : Bool :=
  s.queues.any (fun e => decide (e.2.count ≠ 0) || !e.2.held.isEmpty) || s.locks.any (fun e => e.2.st = .held) ||
  !s.ldg.ready.isEmpty ||
  (List.range 64).any (fun n => !s.fenced (32 + n) && (s.lc n).run ≠ .waiting) ||
  decide (s.mrm.batch ≠ 0) || s.flag fMRMCKPT_BUSY || decide (s.fget fNFCSTAT_FGGC ≠ 0)

/-- Sleep (R80, R81). -/
def State.sleepEnter (s : State) : State :=
  if s.fget fSEMCFG_NCHIPS ≠ 1 ∨ s.twinOn ∨ !s.quiet ∨ !s.serving ∨ s.pwr.pf ≠ .idle then s.say .modeDenied
  else if s.lpBusy then s.say .lpBusy
  else if !s.inDa s.saveBase 0x2000000 then s.say .badAddress
  else
    let dig := sha3_256 (s.bytes sramBase 0x2000000)
    let s1 := ((s.copyMem sramBase s.saveBase 0x2000000).setFlag fSLPSAVE_SAVED true).fset fMODESTAT_LPS 2
    ((s1.setPwr { s1.pwr with asleep := true, saveDigest := dig, saveFence := s.reg rFENCE_STAT }).setTime
      { s1.time with sleepRaw := s.time.raw }).say .done

/-- A write of LPCTL; the wake sources it names hold even for this entry, unless it is refused. -/
def State.lpctlWrite (s : State) (v : Nat) : State :=
  let t := (s.fset fLPCTL_WAKE_PF (fLPCTL_WAKE_PF.of v)).fset fLPCTL_WAKE_TMR (fLPCTL_WAKE_TMR.of v)
  let r := match fLPCTL_ENTER.of v with
    | 0 => t.runEnter
    | 1 => t.quietEnter
    | 2 => t.sleepEnter
    | _ => s.say .modeDenied
  if r.answer.status = .done then r else s.say r.answer.status

/-- The value written to LPCTL for an entry: the wake sources as they stand. -/
def State.lpVal (s : State) (enter : Nat) : Nat := setBits (s.reg rLPCTL) 0 2 enter

/-- LPCTL_QUIET (R77). -/
def execLpctlQuiet (a : Agent) (s : State) : Out := s.live <| .next (s.asAgent a rLPCTL fun t => t.lpctlWrite (t.lpVal 1))
/-- LPCTL_RUN (R78). -/
def execLpctlRun (a : Agent) (s : State) : Out := s.live <| .next (s.asAgent a rLPCTL fun t => t.lpctlWrite (t.lpVal 0))
/-- LPCTL_SLEEP (R80, R81). -/
def execLpctlSleep (a : Agent) (s : State) : Out := s.live <| .next (s.asAgent a rLPCTL fun t => t.lpctlWrite (t.lpVal 2))

/-- Raw counts of a number of 32.768 kHz ticks, to the nearest (R487). -/
def tickRaw (ticks : Nat) : Nat := (2 * ticks * 30517578125 + 1000000) / 2000000

/-- Registers that a wake keeps beside those of the always-on domain: what no firmware write can reload. -/
def wakeKept : List Nat :=
  [rSYSSTAT, rMODESTAT, rDDRSTAT 0, rDDRSTAT 1, rNFCSTAT, rNFCFREE, rNFCERASE, rLDGSTAT, rLDGLASTK, rSEMEPOCH, rTWNSTAT, rUPDSTAT]

/-- The running image in memory matches its payload digest (R83). -/
def State.imageSound (s : State) : Bool :=
  let h := s.slotHdr (s.fget fUPDSTAT_RUN)
  sha3_512 (s.bytes s.pwr.imageBase (hSize h)) = hDigest h

/-- The core domain after Sleep (R60, R83): memories of the ledger cores reloaded, ports and other CSRs at reset values, DA, DB, MRAM and
the restored SRAM kept. -/
def State.woken (s : State) : State :=
  let s1 := (s.resetCsrs kSwr).keep kSwr
  let s2 := wakeKept.foldl (fun (t : State) r => t.setReg r (s.reg r)) s1
  let ses := match s.ses.cur with
    | some c => (s.unsent c).ses.ready
    | none => s.ses.ready
  let s3 := ({ s2 with
    mem := s.mem.filter fun e => decide (0x800000 ≤ e.1)
    poison := s.poison.filter fun g => decide (0x800000 ≤ 8 * g)
    soft := s.soft.filter fun g => decide (0x800000 ≤ 8 * g)
    epiMap := s.epiMap, dataQ := s.dataQ, ctlQ := s.ctlQ, mgmtQ := s.mgmtQ, turn := s.turn, merged := s.merged } : State)
  let s4 := (s3.setSes { s3.ses with ready := ses }).setLdg { s3.ldg with
    replayed := s.ldg.replayed, ckptLow := s.ldg.ckptLow, detClean := s.ldg.detClean, detLast := s.ldg.detLast }
  let s5 := (s4.setTwn { s.twn with downAt := none }).setMrm { s4.mrm with sealed := s.mrm.sealed, ckptAt := s.mrm.ckptAt }
  ((s5.copyMem s.saveBase sramBase 0x2000000).setPwr { s5.pwr with kind := s.pwr.kind, bootStep := s.pwr.bootStep }).setReg rFENCE_STAT
    s.pwr.saveFence

/-- The wake path (R83, R84): the raw count carried over, the digests checked, the firmware resumed at its wake entry in Quiet. A key
store found erased sends the chip through the boot sequence. -/
def State.wakeUp (s : State) (ticks : Nat) : State :=
  let raw := s.time.sleepRaw + tickRaw ticks
  let s1 := (s.setTime { s.time with raw := raw }).setFlag fTIMSTAT_COARSE true
  let ok := sha3_256 (s1.bytes s1.saveBase 0x2000000) = s1.pwr.saveDigest && s1.imageSound && !s1.flag fTMPSTAT_PEND
  if !ok then s1.doReset kBor 0 else
  let s2 := (s1.woken.fset fMODESTAT_LPS 1).setFlag fSLPSAVE_SAVED false
  let s3 := s2.ccStartAll vecWake
  s3.setPwr { s3.pwr with aonDue := raw + (s3.fget fAONWDT_PERIOD + 1) * 31250000 }

/-- A wake path that a PFAIL sequence cuts short: it runs to its halt, and the chip then comes up by a BOR (R74, R75). -/
def State.wakeCut (s : State) (ticks : Nat) : State :=
  let s1 := (s.setTime { s.time with raw := s.time.sleepRaw + tickRaw ticks }).setFlag fTIMSTAT_COARSE true
  (s1.setPwr { s1.pwr with asleep := false, pf := .idle }).setFlag fPFSTAT_PFAIL true |>.pfailRun

/-- The wake path to its end, or cut short by PFAIL_N. -/
def State.wakePath (s : State) (ticks : Nat) (cut : Bool) : State := if cut then s.wakeCut ticks else s.wakeUp ticks

/-- SLEEP_WAKE (R75, R82, R83): the wake timer expires, or PFAIL_N deasserts, where LPCTL enables it; `cut` is whether PFAIL_N asserts
before the wake path ends. -/
def execSleepWake (w : Wake) (s : State) : Out :=
  if !s.pwr.asleep ∨ s.flag fTAPSTAT_HOLD then .next s else
  match w with
  | .timer cut =>
    let n := s.fget fWAKETMR_TICKS
    .next (if s.flag fLPCTL_WAKE_TMR ∧ n ≠ 0 then s.wakePath n cut else s)
  | .pfail ticks cut =>
    let t := s.setFlag fPFSTAT_PFAIL false
    .next (if s.flag fPFSTAT_PFAIL ∧ s.flag fLPCTL_WAKE_PF then t.wakePath ticks cut else t)

/-! ## Watchdogs (R86 to R91) -/

/-- The core watchdog reloaded. -/
def State.wdtReload (s : State) : State :=
  s.setPwr { s.pwr with wdtDue := s.time.raw + msRaw (s.fget fWDTCTL_TIMEOUT) }

/-- First expiry (R86). -/
def State.wdtWarn (s : State) : State :=
  let s1 := (s.setFlag fWDTSTAT_WARN true).wdtReload
  s1.setPwr { s1.pwr with wdtOnce := true }

/-- An expiry: the first warns, a second with no valid kick in between resets (R86). -/
def State.wdtExpire (s : State) : State := if s.pwr.wdtOnce then s.doReset kWdg 0 else s.wdtWarn

/-- The core watchdog has reached zero. -/
def State.wdtOut (s : State) : Bool := s.flag fWDTCTL_EN && decide (s.pwr.wdtDue ≤ s.time.raw)

/-- CORE_WDG_FIRST_EXPIRY (R86). -/
def execCoreWdgFirstExpiry (s : State) : Out := s.live <| .next (if s.wdtOut ∧ !s.pwr.wdtOnce then s.wdtWarn else s)

/-- CORE_WDG_SECOND_EXPIRY (R86). -/
def execCoreWdgSecondExpiry (s : State) : Out := s.live <| .next (if s.wdtOut ∧ s.pwr.wdtOnce then s.doReset kWdg 0 else s)

/-- A write of WDTKICK (R87). -/
def State.wdtkickWrite (s : State) (v : Nat) : State :=
  if fWDTKICK_VALUE.of v ≠ 0x5AC3 then ((s.setFlag fWDTSTAT_BADKICK true).wdtExpire).say .done
  else if 100 * (s.time.raw - s.pwr.lastKick) < s.fget fWDTCTL_WINDOW * msRaw (s.fget fWDTCTL_TIMEOUT) then
    ((s.setFlag fWDTSTAT_EARLY true).wdtExpire).say .done
  else
    let s1 := s.wdtReload.aonReload
    (s1.setPwr { s1.pwr with wdtOnce := false, lastKick := s.time.raw }).say .done

/-- WDT_KICK (R87): a write of WDTKICK. -/
def execWdtKick (a : Agent) (v : Word) (s : State) : Out := s.live <| .next (s.asAgent a rWDTKICK fun t => t.wdtkickWrite v.toNat)

/-- A write of WDTCTL. -/
def State.wdtctlWrite (s : State) (v : Nat) : State :=
  if s.flag fWDTCTL_LOCK then s.say .csrLocked
  else if fWDTCTL_TIMEOUT.of v = 0 ∨ 90 < fWDTCTL_WINDOW.of v then s.say .badArgument
  else
    let t := s.setReg rWDTCTL (v &&& 0xC0FFFFFF)
    (if s.flag fWDTCTL_EN then t else t.wdtReload).say .done

/-- A write of DSTALL. -/
def State.dstallWrite (s : State) (v : Nat) : State :=
  if s.flag fWDTCTL_LOCK then s.say .csrLocked else (s.fset fDSTALL_LIMIT v).say .done

/-- A write of AONWDT; in FIELD a write that would disable it is ignored (R89). -/
def State.aonwdtWrite (s : State) (v : Nat) : State :=
  if s.flag fAONWDT_LOCK then s.say .csrLocked
  else if s.life = lifeField ∧ fAONWDT_EN.of v = 0 then s.say .done
  else
    let t := s.setReg rAONWDT (v &&& 0xC00000FF)
    (if s.flag fAONWDT_EN ∧ fAONWDT_PERIOD.of v = s.fget fAONWDT_PERIOD then t else t.aonReload).say .done

/-- AON_WDG_EXPIRY (R88): the outputs are gated, then a WDG reset with AONWD. -/
def execAonWdgExpiry (s : State) : Out :=
  .next (if s.flag fAONWDT_EN ∧ !s.pwr.asleep ∧ s.pwr.aonDue ≤ s.time.raw then (s.actRelease.doReset kWdg 0x200).aonReload else s)

/-- DISPATCH_STALL (R90). -/
def execDispatchStall (s : State) : Out := s.live <|
  let lim := s.fget fDSTALL_LIMIT
  .next (if lim ≠ 0 ∧ !s.ldg.ready.isEmpty ∧ max s.ldg.readyAt s.pwr.lastGrant + msRaw lim ≤ s.time.raw then
    s.setFlag fWDTSTAT_DSTALL true else s)

end Sys2Proof.Machine
end

