-- ==== Sys2Proof/Machine/CsrWrite.lean ====
section
/-!
DEFINITION. What a write of each register does: its checks, its refusals and its action, from the register tables of every chapter
(R12, R14). A write of one word, and the staging of wider registers, come last.
-/

namespace Sys2Proof.Machine

/-- A write with no action of its own: RW fields take the value, W1C fields clear (R14). -/
def State.plainWrite (s : State) (b v : Nat) : State :=
  match regRow (regGroup (b / 0x10000)) b with
  | some r => (s.setReg b (r.written (s.reg b) v)).say .done
  | none => s.say .done

/-- A plain write behind its register's checks: the first that holds gives the refusal. -/
def State.guarded (s : State) (b v : Nat) (checks : List (Bool × Status)) : State :=
  match checks.find? (·.1) with
  | some c => s.say c.2
  | none => s.plainWrite b v

/-- A value outside a field's range (R145). -/
def outside (x lo hi : Nat) : Bool × Status := (decide (x < lo) || decide (hi < x), .badArgument)

/-- A base not aligned as its register says. -/
def unaligned (x m : Nat) : Bool × Status := (decide (x % m ≠ 0), .badAlign)

/-- JOBQ and DONEQ of an engine. -/
def jobChecks (v : Nat) : List (Bool × Status) :=
  let jq := bits v 0 7
  let dq := bits v 8 7
  [(decide (jq = 0), .badArgument), (decide (dq = 0) || decide (dq = jq), .badArgument)]

/-! ## SYS, CLK, PWR, WDT (chapters 01, 02, 17) -/

def State.wrSystem (s : State) (b v : Nat) : State :=
  if b = rFENCE_SET then s.fenceSet v
  else if b = rCLKCTL then s.clkctlWrite v
  else if b = rMODECTL then s.modectlWrite v
  else if b = rSWRESET then s.swresetWrite v
  else if b = rLPCTL then s.lpctlWrite v
  else if b = rWDTCTL then s.wdtctlWrite v
  else if b = rWDTKICK then s.wdtkickWrite v
  else if b = rAONWDT then s.aonwdtWrite v
  else if b = rDSTALL then s.dstallWrite v
  else s.plainWrite b v

/-! ## CCX (chapters 03, 04) -/

/-- A window entry (R103). CC0's own window-0 base is recorded by the always-on domain each time CC0 writes it (R195). -/
def State.winWrite (s : State) (a : Agent) (b v : Nat) : State :=
  let base := bits v 0 48 / 4096 * 4096
  let size := bits v 8 4
  let cache := bits v 4 2
  let span := 4096 * 2 ^ size
  if cache = 3 ∨ 14 < size ∨ base % span ≠ 0 ∨ (cache ≠ 0 ∧ base < csrBase + 0x1000000 ∧ csrBase < base + span) then s.say .badArgument
  else
    let t := s.plainWrite b v
    if b = rWIN 0 0 ∧ a = .cc 0 then t.setPwr { t.pwr with imageBase := base } else t

def State.wrCcx (s : State) (a : Agent) (b v : Nat) : State :=
  if b % 0x4000 < 0x400 then s.winWrite a b v else s.plainWrite b v

/-! ## DIS, QUE, LCK (chapter 03) -/

def State.wrQueue (s : State) (b v : Nat) : State :=
  let q := b % 0x10000 / 0x20
  if b % 0x20 = 0 then s.qcfgWrite q v
  else if b % 0x20 = 8 then (if bit v 0 then s.flush q else s).say .done
  else s.plainWrite b v

/-! ## LDG (chapter 05) -/

/-- A write of LDGCFG. -/
def State.ldgcfgWrite (s : State) (v : Nat) : State :=
  let il := fLDGCFG_INTLEN.of v
  let len := [300, 600, 900, 1800, 3600].getD il 0
  s.guarded rLDGCFG v [outside il 0 4, (decide (len < fLDGCFG_HEM.of v), .badArgument),
    (s.flag fLDGCFG_SCHED_EN && decide (il ≠ s.fget fLDGCFG_INTLEN), .badArgument),
    (decide (fLDGCFG_SCHED_EN.of v = 1) && s.noCalendar, .badArgument)]

def State.wrLedger (s : State) (b v : Nat) : State :=
  if b = rLDGCFG then s.ldgcfgWrite v
  else if b = rLDGLIMIT then s.guarded b v [outside (fLDGLIMIT_LATE_MAX.of v) 1 40]
  else if b = rLDGORIGIN then s.guarded b v [(s.flag fLDGCFG_SCHED_EN, .badArgument), (decide (v % 1000 ≠ 0), .badArgument)]
  else if b = rLDGSTAT then s.ldgstatWrite v
  else if b = rLDGREPLAY then s.replayWrite v
  else if b = rLDGREBUILD then s.rebuildWrite v
  else if b = rLDGFIRSTK then s.guarded b v [(s.flag fLDGCFG_SCHED_EN, .badArgument)]
  else if b = rLDGREPLAYE then s.replayeWrite v
  else if b = rLDGLDCTL then (if bit v 0 then s.progLoad else s.say .done)
  else s.plainWrite b v

/-! ## CMT, LOS (chapter 06) -/

/-- A write of CMTCFG; EN cleared stops metrology. -/
def State.cmtcfgWrite (s : State) (v : Nat) : State :=
  let t := s.guarded rCMTCFG v [(decide (fCMTCFG_INT_TRIG.of v = fCMTCFG_SAMP_TRIG.of v), .badArgument),
    (decide (fCMTCFG_DRIFT_LIM.of v = 0), .badArgument)]
  if t.flag fCMTCFG_EN then t else t.setFlag fCMTSTAT_RUN false

def State.wrMetrology (s : State) (b v : Nat) : State :=
  if b = rCMTCFG then s.cmtcfgWrite v
  else if rCMTCAL 0 ≤ b ∧ b < rCMTCAL 16 then
    -- the shadow copy waits for the next INT_TRIG firing (R261)
    let ph := bits v 64 11
    if 512 ≤ ph ∧ ph < 1536 then s.say .badArgument else s.calNote.plainWrite b v
  else if b = rCMTROLE then s.guarded b v [(s.roleTwice v, .badArgument)]
  else if b = rLOSCFG then s.guarded b v [(fLOSCFG_EN.of v = 1 && s.flag fSYSSTAT_SEAM, .modeDenied),
    (decide (fLOSCFG_RUN.of v = 0), .badArgument), outside (fLOSCFG_DARN_MAX.of v) 0 100]
  else if b = rLOSTOPO then s.guarded b v [unaligned (fLOSTOPO_BASE.of v) 0x100000]
  else if b = rLOSTOPOSEL then s.topoSelect (bits v 0 1)
  else if b = rLOSCOR then
    -- LOSNV lies on the higher word of LOSCOR (notes/assumptions/25.md)
    (s.plainWrite b v).plainWrite rLOSNV (v / 2 ^ 32)
  else s.plainWrite b v

/-! ## PL0 to PL11, PLS (chapter 07) -/

def State.wrPlPort (s : State) (b v : Nat) : State :=
  if b % 0x10000 = 4 then
    s.guarded b v [outside (bits v 0 4) 1 8, outside (bits v 4 4) (bits v 0 4) 8]
  else if b % 0x10000 = 8 then s.guarded b v [outside (bits v 0 10) 1 1023]
  else s.plainWrite b v

def State.wrPls (s : State) (b v : Nat) : State :=
  if b = rPLSMODE then s.plsmodeWrite v
  else if b = rPLSTMASK then s.plstmaskWrite v
  else if b = rPLSIMP then s.guarded b v [(decide (fPLSIMP_IMPTHR.of v = 0), .badArgument), (decide (fPLSIMP_CLIPN.of v = 0), .badArgument)]
  else if b = rPLSTM then s.guarded b v [outside (fPLSTM_PERIOD.of v) 1 510]
  else if b = rPLSMESH then s.guarded b v [outside (fPLSMESH_MAXHOPS.of v) 1 4]
  else if rPLSLDMAP 0 ≤ b ∧ b < rPLSLDMAP 4 then s.plsldmapWrite ((b - rPLSLDMAP 0) / 4) v
  else s.plainWrite b v

/-! ## RF0 to RF5 (chapter 08) -/

def State.wrRadio (s : State) (b v : Nat) : State :=
  let n := b / 0x10000 - 0x20
  let o := b % 0x10000
  if o = 0 then s.guarded b v [(decide (bits v 1 2 = 3), .badArgument)]
  else if o = 0x10 then s.rfchmaskWrite n v
  else if 0x40 ≤ o ∧ o < 0x60 then s.rfprofWrite n ((o - 0x40) / 4) v
  else if o = 0x80 then (if bit v 0 then s.rfslotctlWrite n v else s.say .done)
  else if 0x1000 ≤ o ∧ o < 0x1400 then s.rfslotWrite n false ((o - 0x1000) / 4) v
  else if 0x1400 ≤ o ∧ o < 0x1800 then s.rfslotWrite n true ((o - 0x1400) / 4) v
  else if b = rRFSF then (if fRFSF_SHIFT.of v = 0 then s.say .badArgument else s.rfsfWrite v)
  else if b = rRFFLOOD then s.guarded b v [outside (fRFFLOOD_RES.of v) 1 170]
  else s.plainWrite b v

/-! ## AES, SHA, DSA, KEM, KEY, TMP, LCS (chapters 09, 13) -/

/-- A write of TMPCFG; SENS is 1 in FIELD (R562). -/
def State.tmpcfgWrite (s : State) (v : Nat) : State :=
  if s.flag fTMPCFG_LOCK then s.say .csrLocked
  else
    let t := s.plainWrite rTMPCFG v
    if t.life = lifeField then t.setFlag fTMPCFG_SENS true else t

def State.wrCrypto (s : State) (b v : Nat) : State :=
  if b = rAESCFG ∨ b = rSHACFG ∨ b = rDSACFG ∨ b = rKEMCFG then s.guarded b v (jobChecks v)
  else if b = rKEYCMD then s.keyCmd (fKEYCMD_OP.of v)
  else if b = rKEYPKTBASE then s.guarded b v [unaligned (fKEYPKTBASE_BASE.of v) 0x1000000]
  else if b = rTMPCFG then s.tmpcfgWrite v
  else if b = rTMPSTAT then s.tmpstatWrite v
  else if b = rLCSCTL then s.lcsWrite v
  else s.plainWrite b v

/-! ## EN, DL, EPT, NBT, PFX, SEM, REP (chapters 09, 10) -/

/-- A write of SEMCFG, in BOOT alone. -/
def State.semcfgWrite (s : State) (v : Nat) : State :=
  s.guarded rSEMCFG v [(decide (s.mode ≠ modeBoot), .modeDenied), outside (fSEMCFG_NCHIPS.of v) 1 8,
    (decide (fSEMCFG_NCHIPS.of v ≤ fSEMCFG_SELF.of v), .badArgument), (decide (fSEMCFG_MOVETMO.of v = 0), .badArgument)]

def State.wrPorts (s : State) (b v : Nat) : State :=
  let k := b / 0x10000
  let o := b % 0x10000
  if k = 0x30 ∨ k = 0x31 then
    if o = 0 then s.guarded b v [(decide (bits v 1 2 = 3), .badArgument), outside (bits v 16 14) 1280 9000] else s.plainWrite b v
  else if 0x32 ≤ k ∧ k < 0x36 then
    if o = 0 then (s.guarded b v [(decide (bits v 4 4 = 0), .badArgument), (decide (bits v 8 16 = 0), .badArgument)]).dlTrain (k - 0x32)
        (s.flag (fDLCFG_EN (k - 0x32)))
    else s.plainWrite b v
  else if b = rEPTCMD then s.eptCmd (fEPTCMD_OP.of v)
  else if b = rNBTCFG then s.guarded b v [(decide (fNBTCFG_AGE.of v = 0), .badArgument)]
  else if b = rNBTCMD then s.nbtCmd v
  else if b = rPFXDATA then s.guarded b v [outside (fPFXDATA_LEN.of v) 0 128]
  else if b = rPFXCMD then s.pfxCmd (fPFXCMD_OP.of v)
  else if b = rSEMCFG then s.semcfgWrite v
  else if b = rSEMWRITE then s.semWrite v
  else if b = rSEMMOVE then s.semMoveWrite v
  else s.plainWrite b v

/-- The signed field DEVDEF outside −720 to +720. -/
def devdefBad (v : Nat) : Bool := decide (720 < (sx (fDLMCFG_DEVDEF.of v) 11).natAbs)

def State.wrRep (s : State) (b v : Nat) : State :=
  if b = rREPCFG then s.guarded b v [(decide (fREPCFG_WIN.of v = 0), .badArgument), outside (fREPCFG_MTU.of v) 1280 9000]
  else if b = rREPTMR then s.guarded b v [(decide (fREPTMR_RTO.of v = 0), .badArgument), (decide (fREPTMR_REKEYH.of v = 0), .badArgument)]
  else if b = rREPBUF then s.guarded b v [unaligned (fREPBUF_BASE.of v) 0x100000, (decide (fREPBUF_SIZE.of v = 0), .badArgument)]
  else if b = rKEPCFG then s.guarded b v [(decide (fKEPCFG_ACKWIN.of v = 0), .badArgument)]
  else if b = rKEPSECBASE then s.guarded b v [unaligned (fKEPSECBASE_BASE.of v) 0x2000000]
  else if b = rDLMCFG then s.guarded b v [(devdefBad v, .badArgument)]
  else if b = rRELCFG then s.guarded b v [outside (fRELCFG_MAXLEN.of v) 1264 2047]
  else if rFWCAMP 0 ≤ b ∧ b < rFWCAMP 4 then s.fwcampWrite ((b - rFWCAMP 0) / 0x40) v
  else if rSPARM 0 ≤ b ∧ b < rSPARM 4 ∧ (b - rSPARM 0) % 0x80 = 0 then s.sparmWrite ((b - rSPARM 0) / 0x80) v
  else s.plainWrite b v

/-! ## TIM, TWN, UPD (chapters 11, 12, 14) -/

def State.wrTime (s : State) (b v : Nat) : State :=
  if b = rTIMCFG then s.timcfgWrite v
  else if b = rTIMSET then s.timsetWrite v
  else if b = rTIMSTEP then s.timstepWrite v
  else if b = rTIMINCR then s.timincrWrite v
  else if b = rTIMSTEPREC then s.timsteprecWrite v
  else if b = rTIMSTEPADDR then s.guarded b v [unaligned (fTIMSTEPADDR_ADDR.of v) 64]
  else if b = rTIMPPSO then s.guarded b v [(decide (fTIMPPSO_WIDTH.of v = 0), .badArgument)]
  else if rTIMTRIGCTL 0 ≤ b ∧ b < rTIMTRIGCTL 8 then
    let n := (b - rTIMTRIGCTL 0) / 0x20
    if b % 0x20 = 0 then s.timtrigctlWrite n v
    else if b % 0x20 = 8 then s.timtrigWrite n (fTIMTRIGSTART_VALUE n) v
    else s.timtrigWrite n (fTIMTRIGPER_VALUE n) v
  else s.plainWrite b v

def State.wrTwin (s : State) (b v : Nat) : State :=
  if b = rTWNCFG then
    (s.guarded b v [(decide (fTWNCFG_HOLDOFF.of v = 0), .badArgument), (decide (fTWNCFG_GRACE.of v = 0), .badArgument),
      (decide (fTWNCFG_CATCH.of v = 0), .badArgument)]).gateFollow
  else if b = rTWNTMR then s.guarded b v [(decide (fTWNTMR_BEAT.of v = 0), .badArgument)]
  else if b = rTWNWIN then s.guarded b v [outside (fTWNWIN_WIN.of v) 1 65536]
  else if b = rTWNSTAT then s.twnstatWrite v
  else if b = rTWNCTL then s.twnctlWrite v false
  else if b = rUPDCTL then s.updctlWrite v
  else if b = rUPDADDR then s.updaddrWrite v
  else s.plainWrite b v

/-! ## MRM, NFC, RIN, EVR, TEL (chapters 15, 16) -/

def State.wrStorage (s : State) (a : Agent) (b v : Nat) : State :=
  if b = rMRMDRAIN then s.guarded b v [(decide (fMRMDRAIN_THR.of v = 0), .badArgument), (decide (fMRMDRAIN_MS.of v = 0), .badArgument)]
  else if b = rMRMCKPT then s.mrmckptWrite v
  else if b = rMRMRSV then s.guarded b v [outside (fMRMRSV_KIB.of v) 16 1024]
  else if b = rNFCCFG then s.guarded b v (jobChecks v)
  else if b = rNFCPART then s.guarded b v [outside (fNFCPART_OP.of v) 3 50]
  else if b = rNFCGC then s.guarded b v [(decide (fNFCGC_FG_HI.of v ≤ fNFCGC_FG_LO.of v), .badArgument)]
  else if b = rNFCWL then s.guarded b v [(decide (fNFCWL_SPREAD.of v = 0), .badArgument), outside (fNFCWL_RDTHR.of v) 1 100]
  else if b = rNFCMAPBASE then
    if fNFCMAPBASE_BASE.of v % 0x8000000 ≠ 0 then s.say .badAlign else (s.plainWrite b v).mapLoad
  else if b / 0x10000 = 0x44 ∧ b % 0x10 = 0 then s.guarded b v [(decide (bits v 8 8 = 0), .badArgument)]
  else if b = rEVRCFG then s.guarded b v [(decide (fEVRCFG_FLUSHMS.of v = 0), .badArgument)]
  else if b = rEVRCTL then s.evrctlWrite v
  else if b = rEVRPOST then s.evrpostWrite a v
  else if b = rTELCFG then s.guarded b v [(decide (fTELCFG_PERIOD.of v = 0), .badArgument)]
  else s.plainWrite b v

/-- A register written whole, by its block. -/
def State.regWrite (s : State) (a : Agent) (b v : Nat) : State :=
  let k := b / 0x10000
  if k < 0x04 then s.wrSystem b v
  else if k = 0x04 then s.wrCcx a b v
  else if k = 0x06 then s.wrQueue b v
  else if k = 0x08 then s.wrLedger b v
  else if k < 0x0B then s.wrMetrology b v
  else if k < 0x1C then s.wrPlPort b v
  else if k = 0x1C then s.wrPls b v
  else if k < 0x26 then s.wrRadio b v
  else if k < 0x2F then s.wrCrypto b v
  else if k < 0x3A then s.wrPorts b v
  else if k = 0x3A then s.wrRep b v
  else if k = 0x3C then s.wrTime b v
  else if k < 0x40 then s.wrTwin b v
  else s.wrStorage a b v

/-! ## One word (R12, R45) -/

/-- The width of a register in words. -/
def RegRow.words (r : RegRow) : Nat := (r.width + 31) / 32

/-- A word written to a register's staging copy, or, for the highest word, to the register (R12). -/
def State.wordWrite (s : State) (a : Agent) (csr w : Nat) : State :=
  match regAt csr with
  | none => s.say .done
  | some (r, b) =>
    let i := (csr - b) / 4
    let v := setBits (lookupD (s.reg b) b s.csrStage) (32 * i) 32 w
    if i + 1 < r.words then ({ s with csrStage := assocSet b v s.csrStage } : State).say .done
    else (s.dropStage b).regWrite a b v

/-- A CSR write of one word, with the checks of R164: the CSR number, its alignment, the block, the plane or the port's rights, then the
register's own. -/
def State.csrWord (s : State) (a : Agent) (csr : Nat) (w : Word) : State :=
  if 2 ^ 24 ≤ csr then s.say .badArgument
  else if csr % 4 ≠ 0 then s.say .badAlign
  else if !blockImplemented (csr / 0x10000) then s.say .badAddress
  else s.asAgent a csr fun t => t.wordWrite a csr w.toNat

/-- CSR_WRITE (R12): a core or the test port writes one word. -/
def execCsrWrite (a : Agent) (csr : Word) (v : Word) (s : State) : Out := s.live <| .next (s.csrWord a csr.toNat v)

end Sys2Proof.Machine
end

