-- ==== Sys2Proof/Machine/CsrRead.lean ====
section
/-!
DEFINITION. What each register reads as, snapshots and RC reads, the telemetry pass, and the test port (R13, R14, R643 to R645, R675 to
R677).
-/

namespace Sys2Proof.Machine

/-! ## Values that hardware computes -/

/-- DISSTAT, DISOCC, DISCNTp (chapter 03). -/
def State.levelCount (s : State) (p : Nat) : Nat := (s.ldg.ready.filter fun r => r.item.pri = p).length
def State.disstat (s : State) : Nat :=
  ((List.range 8).map fun p => 2 ^ p * b2n (s.levelCount p ≠ 0)).sum +
  2 ^ 8 * ((List.range 64).filter fun n => !s.fenced (32 + n) && (s.lc n).run = .waiting).length +
  2 ^ 16 * b2n s.storeFull

/-- QSTATn. -/
def State.qstat (s : State) (q : Nat) : Nat :=
  let Q := s.queue q
  Q.count + 2 ^ 16 * b2n (s.qFull q) + 2 ^ 17 * b2n (Q.count = 0) + 2 ^ 18 * b2n Q.midIn + 2 ^ 19 * b2n Q.midOut +
  2 ^ 20 * b2n (Q.flushIn || Q.flushOut) + 2 ^ 24 * min Q.stalled.length 15

/-- LCKSTn. -/
def State.lckst (s : State) (n : Nat) : Nat :=
  let L := s.lock n
  (match L.st with
    | .free => 0
    | .held => 1
    | .broken => 2) + 2 ^ 4 * L.owner + 2 ^ 8 * L.waiters.length

/-- LDGSTAT, with TIMEWAIT and HOLDBACK (R201, R209). -/
def State.ldgstat (s : State) : Nat :=
  let hold := !s.noCalendar && decide ((s.meterNow : Int) < s.origin + (s.kLast + 1) * s.lms + s.fget fLDGCFG_HEM * 1000)
  setBits (setBits (s.reg rLDGSTAT) 0 1 (b2n !s.timeValid)) 2 1 (b2n hold)

/-- KEYATTR and KEYUSED. -/
def State.keyattr (s : State) : Nat :=
  let sel := s.fget fKEYATTR_SEL
  let k := s.slot sel
  sel + 2 ^ 16 * b2n (k.typ ≠ 0) + 2 ^ 20 * k.typ + 2 ^ 24 * k.mask + 2 ^ 32 * (k.kid % 2 ^ 32)
def State.keyused (s : State) : Nat := (s.key.slots.filter fun e => e.2.typ ≠ 0).length + 2 ^ 16 * s.key.cells.length

/-- AESSTAT: jobs end with their command, so BUSY reads 0; HOLD shows completions kept (R413). -/
def State.aesstat (s : State) : Nat :=
  ((List.range 4).map fun e => 2 ^ (4 + e) * b2n (s.holdsDone (s.fget fAESCFG_DONEQ) e)).sum

/-- MRMSTAT. -/
def State.mrmstat (s : State) : Nat :=
  b2n (ringSize < s.ringUsed + 32) + 2 * b2n (s.mrm.batch ≠ 0) + 4 * b2n s.mrm.sealed + 8 * b2n (s.flag fMRMCKPT_BUSY)

/-- WDTSTAT, with the milliseconds left. -/
def State.wdtstat (s : State) : Nat := setBits (s.reg rWDTSTAT) 0 16 (min ((s.pwr.wdtDue - s.time.raw) / 1000000) 65535)

/-- SUPSTAT: the supplies are in range whenever the core domain runs; BACKUP_OK is a free value. -/
def State.supstat (s : State) : Nat := 15 + 16 * (s.draw % 2)

/-- RINSTATm, its PROGRESS a free value. -/
def State.rinstat (s : State) (b : Nat) : Nat := setBits (s.reg b) 0 7 (s.draw % 101)

/-- A register's whole value as hardware keeps it; `a` is the reader. Registers with a free part take one draw. -/
def State.liveReg (s : State) (a : Option Agent) (b : Nat) : Nat :=
  let k := b / 0x10000
  if b = rWDTSTAT then s.wdtstat
  else if b = rSUPSTAT then s.supstat
  else if b = rCCXSELF then
    match a with
    | some (.cc c) => c.val
    | _ => s.draw % 4
  else if b = rDISSTAT then s.disstat
  else if b = rDISOCC then readySlots s.ldg.ready
  else if rDISCNT 0 ≤ b ∧ b < rDISCNT 8 then s.levelCount ((b - rDISCNT 0) / 4)
  else if k = 0x06 ∧ b % 0x20 = 4 then s.qstat (b % 0x10000 / 0x20)
  else if k = 0x07 ∧ b < rLCKST 256 then
    if b % 8 = 0 then s.lckst ((b - rLCKST 0) / 8) else (s.lock ((b - rLCKST 0) / 8)).seq.toNat
  else if b = rLDGSTAT then s.ldgstat
  else if b = rLDGNEXTH then s.hK (s.kLast + 1).toNat
  else if b = rCMTSTAT then setBits (s.reg b) 1 1 (b2n (s.cmtOn && s.metGap))
  else if 0x10 ≤ k ∧ k < 0x1C ∧ b % 0x10000 = rPLSTAT 0 % 0x10000 then s.plStat (k - 0x10)
  else if rPLSLDSTAT 0 ≤ b ∧ b < rPLSLDSTAT 4 then s.plLdStat ((b - rPLSLDSTAT 0) / 4)
  else if 0x20 ≤ k ∧ k < 0x26 ∧ b % 0x10000 = rRFSTAT 0 % 0x10000 then s.rfStat (k - 0x20)
  else if b = rAESSTAT then s.aesstat
  else if b = rKEYATTR then s.keyattr
  else if b = rKEYRNG then s.draw % 2 ^ 32
  else if b = rKEYUSED then s.keyused
  else if b = rLCSSTAT then setBits (s.reg b) 16 1 (b2n s.debugOpen)
  else if b = rTIMSNAP then s.chip + 2 ^ 64 * s.time.raw
  else if b = rTIMBUDGET then s.budget
  else if b = rMRMSTAT then s.mrmstat
  else if k = 0x44 ∧ b % 0x10 = 4 then s.rinstat b
  else if b = rEVROPT then s.opt
  else s.reg b

/-- The registers whose reading takes a free value. -/
def drawsOnRead (b : Nat) : Bool :=
  b = rSUPSTAT || b = rKEYRNG || b = rCCXSELF || (b / 0x10000 = 0x44 && decide (b % 0x10 = 4))

/-- The bits of a register that read as zero: WO bits (R14). -/
def RegRow.shown (r : RegRow) (v : Nat) : Nat := maskOff v r.wo

/-- A register of RO and RC fields alone (R13). -/
def RegRow.roOnly (r : RegRow) : Bool := r.rw = 0 && r.wo = 0 && r.w1c = 0

/-! ## One word (R13, R14) -/

/-- What a read of the word at `i` of a register leaves behind: its RC fields cleared, a free value taken; TIMPPSIN counts its capture
as read (R505). -/
def State.readEffect (s : State) (r : RegRow) (b i : Nat) : State :=
  let rc := r.rc &&& (2 ^ 32 - 1) * 2 ^ (32 * i)
  let s1 := if drawsOnRead b then s.drawn 1 else s
  let s2 := if rc = 0 then s1 else s1.setReg b (maskOff (s1.reg b) rc)
  if b = rTIMPPSIN ∧ i = 0 then (s2.setFlag fTIMPPSIN_OVR false).setTime { s2.time with ppsUnread := false } else s2

/-- A word read: the lowest word of a wide RO or RC register takes a snapshot, its higher words return it (R13); an RC field clears as it
is read (R14); TIMTXTSq pops (R499). -/
def State.wordRead (s : State) (a : Option Agent) (csr : Nat) : State × Nat :=
  match regAt csr with
  | none => (s, 0)
  | some (r, b) =>
    let i := (csr - b) / 4
    if rTIMTXTS 0 ≤ b ∧ b < rTIMTXTS 20 then
      let q := (b - rTIMTXTS 0) / 0x10
      if i = 0 then s.txtsPop q else (s, bits (lookupD (s.txOldest q) b s.csrSnap) (32 * i) 32)
    else
      let live := r.shown (s.liveReg a b)
      if r.roOnly ∧ 1 < r.words then
        if i = 0 then
          let t := { s with csrSnap := assocSet b live s.csrSnap }
          (t.readEffect r b 0, bits live 0 32)
        else (s, bits (lookupD live b s.csrSnap) (32 * i) 32)
      else (s.readEffect r b i, bits live (32 * i) 32)

/-- A CSR read of one word, with the checks of R164; no plane is refused a read. The answer carries the word. -/
def State.csrRead (s : State) (a : Agent) (csr : Nat) : State :=
  if 2 ^ 24 ≤ csr then s.say .badArgument
  else if csr % 4 ≠ 0 then s.say .badAlign
  else if !blockImplemented (csr / 0x10000) then s.say .badAddress
  else if a = .port ∧ !s.portMay csr then s.say .debugLocked
  else if csr = rKEYRNG ∧ s.key.entropyBad then s.say .engineFault
  else
    let (t, v) := s.wordRead (some a) csr
    t.sayVal v

/-- A row's read: it reads when the CSR number is of the row's kind. -/
def State.csrReadIf (s : State) (a : Agent) (csr : Nat) (kind : RegRow → Nat → Bool) : State :=
  match regAt csr with
  | some (r, b) => if kind r ((csr - b) / 4) then s.csrRead a csr else s
  | none => s.csrRead a csr

/-- CSR_SNAPSHOT_READ (R13): a read of a word of a wider register, or of a register with no RC field. -/
def execCsrSnapshotRead (a : Agent) (csr : Word) (s : State) : Out := s.live <|
  .next (s.csrReadIf a csr.toNat fun r _ => r.rc = 0 || decide (1 < r.words))

/-- RC_READ (R14): a read of a word with an RC field. -/
def execRcRead (a : Agent) (csr : Word) (s : State) : Out := s.live <|
  .next (s.csrReadIf a csr.toNat fun r i => r.rc &&& (2 ^ 32 - 1) * 2 ^ (32 * i) ≠ 0)

/-! ## Telemetry (R643 to R645) -/

/-- A CSR named in the list as the exporter reads it: two words from its number, under R13. -/
def State.telRead (s : State) (csr : Nat) : State × Nat :=
  if csr % 4 ≠ 0 ∨ !blockImplemented (csr / 0x10000) then (s, 0) else
  let (t, lo) := s.wordRead none csr
  match regAt csr with
  | none => (t, 0)
  | some (r, b) =>
    if (csr - b) / 4 + 1 < r.words then
      let (u, hi) := t.wordRead none (csr + 4)
      (u, lo + 2 ^ 32 * hi)
    else (t, lo)

/-- The entries of a COUNTERS body. -/
def State.telEntries (s : State) : List Nat → State × List Byte
  | [] => (s, [])
  | c :: cs =>
    let (t, v) := s.telRead (c % 2 ^ 24)
    let (u, l) := State.telEntries t cs
    (u, leBytes 4 (c % 2 ^ 24) ++ leBytes 8 v ++ l)

/-- One COUNTERS record of at most 62 entries (R645). -/
def State.counters (s : State) (cs : List Nat) : State :=
  let (t, l) := s.telEntries cs
  t.pushMgmt (t.hwRec 0xF7 0 (2 ^ 64 - 1) 0 (leBytes 4 t.opt ++ leBytes 4 t.pcc ++ leBytes 8 t.chip ++ l))

/-- A list cut into runs of 62. -/
def by62 : Nat → List Nat → List (List Nat)
  | 0, _ => []
  | _, [] => []
  | n + 1, l => l.take 62 :: by62 n (l.drop 62)

/-- An EVENT record for a slot whose RSEQ or REPEAT has changed since its last export (R644). -/
def State.exportRec (s : State) (k : Nat) : State :=
  let d := match s.evr.openSet.find? fun o => o.slot = k with
    | some o => o.data
    | none => s.bytes (evrAddr k) 128
  if recCode d = 0 ∨ s.evr.exported.get (fun _ => (2 ^ 48, 0)) k = (recRseq d, recRepeat d) then s else
  let s1 := s.setEvr { s.evr with exported := s.evr.exported.put (fun _ => (2 ^ 48, 0)) k (recRseq d, recRepeat d) }
  s1.pushMgmt (s1.hwRec 0xF6 0 (2 ^ 64 - 1) 0 (recPut d 0 4 0))

/-- TELEMETRY_PASS (R643, R644): every PERIOD seconds. -/
def execTelemetryPass (s : State) : Out := s.live <|
  if !s.flag fTELCFG_EN ∨ s.time.raw < s.evr.telLast + secRaw (s.fget fTELCFG_PERIOD) then .next s else
  let base := s.fget fTELSEL_BASE
  let n := s.fget fTELSEL_COUNT
  let cs := if s.inMgmtMem base (4 * n) then (List.range n).map fun i => s.peek (base + 4 * i) 4 else []
  let s1 := (by62 n cs).foldl State.counters s
  let s2 := (List.range 8192).foldl State.exportRec s1
  .next ((s2.setEvr { s2.evr with telLast := s.time.raw }).bump fTELSTAT_PASSES 1)

end Sys2Proof.Machine
end

