-- ==== Sys2Proof/Machine/Tap.lean ====
section
/-!
DEFINITION. The test port: its instructions, the boundary register and the MBOX register (R675 to R677).
-/

namespace Sys2Proof.Machine

def State.setTap (s : State) (t : TapSt) : State := { s with tap := t }

/-- Instruction codes (R675). -/
def irExtest : Nat := 0x00
def irIdcode : Nat := 0x01
def irSample : Nat := 0x02
def irClamp : Nat := 0x04
def irHighz : Nat := 0x05
def irMbox : Nat := 0x10
def irDebug : Nat := 0x11
def irBypass : Nat := 0xFF

/-- Boundary cells, from TDI (R651, R675): DA 136, DB 136, NF0 and NF1 32 each, RF0 to RF5 17 each, PL 68, MET 34, SER 26, MISC 21, then
14 enable cells. -/
def cellRf : Nat := 336
def cellPl : Nat := 438
def cellMet : Nat := 506
def cellMisc : Nat := 566
def cellCount : Nat := 601

/-- Cells of RFk_TXEN, LDk_EN and ACT_OUT_N. -/
def cellTxen (k : Nat) : Nat := cellRf + 17 * k + 16
def cellLdEn (k : Nat) : Nat := cellPl + 48 + k
def cellActOut : Nat := cellMisc + 8

/-- The cells that observe only and read 0: PLn_TX, PLn_RX, MET, SER. -/
def cellsMuted : Nat := (2 ^ 48 - 1) * 2 ^ cellPl + (2 ^ 60 - 1) * 2 ^ cellMet

/-- What the loaded cells drive: in PROVISIONED and FIELD LDk_EN and RFk_TXEN low and ACT_OUT_N released, whatever is loaded (R676). -/
def State.cellsDriven (s : State) : Nat :=
  if s.life = lifeProvisioned ∨ s.life = lifeField then
    let a := (List.range 6).foldl (fun v k => setBits v (cellTxen k) 1 0) s.tap.cells
    let b := (List.range 4).foldl (fun v k => setBits v (cellLdEn k) 1 0) a
    setBits b cellActOut 1 1
  else s.tap.cells

/-- The balls as the boundary register samples them: free values, the muted cells apart. -/
def State.sampled (s : State) : State :=
  (s.setTap { s.tap with capture := maskOff (s.draw % 2 ^ cellCount) cellsMuted }).drawn 1

/-- An instruction that does not hold the chip becomes current; a hold ends (R676). -/
def State.irFree (s : State) (code : Nat) : State := (s.fset fTAPSTAT_IR code).setFlag fTAPSTAT_HOLD false

/-- An instruction that holds an EXT reset becomes current (R676). -/
def State.irHold (s : State) (code : Nat) : State :=
  let t := if s.flag fTAPSTAT_HOLD then s else s.doReset kExt 0
  (t.fset fTAPSTAT_IR code).setFlag fTAPSTAT_HOLD true

/-- TAP_RESET (R676): IDCODE selected, any hold ended. -/
def execTapReset (s : State) : Out := .next (s.irFree irIdcode)

/-- EXTEST (R676): the balls belong to the boundary cells; a scan of its register samples the balls and loads the cells. -/
def execExtest (scan : Option (BitVec 601)) (s : State) : Out :=
  let t := s.irHold irExtest
  match scan with
  | none => .next t
  | some c => .next (t.sampled.setTap { t.sampled.tap with cells := c.toNat })

/-- IDCODE (R675). -/
def execIdcode (s : State) : Out :=
  let t := s.irFree irIdcode
  .next (t.setTap { t.tap with capture := 0x12640963 })

/-- SAMPLE_PRELOAD (R675): the balls sampled, the cells loaded. -/
def execSamplePreload (cells : BitVec 601) (s : State) : Out :=
  let t := (s.irFree irSample).sampled
  .next (t.setTap { t.tap with cells := cells.toNat })

/-- CLAMP (R676). -/
def execClamp (s : State) : Out :=
  let t := s.irHold irClamp
  .next (t.setTap { t.tap with capture := 0 })

/-- HIGHZ (R676). -/
def execHighz (s : State) : Out :=
  let t := s.irHold irHighz
  .next (t.setTap { t.tap with capture := 0 })

/-- The 8 KiB mailbox (R570). -/
def mboxBase : Nat := sramBase + 0x01FFE000

/-- A mailbox word written or read by the test port; the answer carries the status. -/
def State.mailbox (s : State) (addr : Nat) (write : Bool) (data : Nat) : State :=
  if addr % 4 ≠ 0 then s.say .badAlign
  else if 8192 ≤ addr then s.say .badAddress
  else if write then (s.poke (mboxBase + addr) 4 data).say .done
  else
    let t := s.touch (mboxBase + addr) 4
    if s.poisonedIn (mboxBase + addr) 4 then { t with answer := ⟨.poisoned, s.peek (mboxBase + addr) 4⟩ }
    else t.sayVal (s.peek (mboxBase + addr) 4)

/-- The access of an Update-DR of MBOX, from the port. -/
def State.mboxAccess (s : State) (data addr : Nat) (mailbox write : Bool) : State :=
  if mailbox then s.mailbox addr write data
  else if write then s.csrWord .port addr (BitVec.ofNat 32 data)
  else s.csrRead .port addr

/-- MBOX (R677): an Update-DR of the MBOX register. The next Capture-DR gives the word read, the status, and BUSY while the core domain
does not answer. -/
def execMbox (data : Word) (addr : BitVec 24) (mailbox write : Bool) (s : State) : Out :=
  let t := s.irFree irMbox
  if t.life = lifeScrap then .next (t.setTap { t.tap with capture := 0 })
  else if !t.clocked then .next (t.setTap { t.tap with capture := 2 ^ 48 })
  else
    let u := t.mboxAccess data.toNat addr.toNat mailbox write
    let word := if write then 0 else u.answer.value % 2 ^ 32
    .next ((u.setTap { u.tap with capture := word + 2 ^ 32 * u.answer.status.code }).fset fTAPSTAT_MBOXST u.answer.status.code)

/-- DEBUG (R675): debug access in BLANK and DEPOT, DEBUG_LOCKED elsewhere. -/
def execDebug (s : State) : Out :=
  let t := s.irFree irDebug
  if t.debugOpen then .next ((t.setTap { t.tap with capture := t.draw }).drawn 1)
  else .next (t.setTap { t.tap with capture := Status.debugLocked.code })

/-- BYPASS (R675): code 0xFF, or any code that R675 does not list. -/
def execBypass (code : Byte) (s : State) : Out :=
  let c := code.toNat
  let listed := c = irExtest || c = irIdcode || c = irSample || c = irClamp || c = irHighz || c = irMbox || c = irDebug
  let t := s.irFree (if listed then irBypass else c)
  .next (t.setTap { t.tap with capture := 0 })

end Sys2Proof.Machine
end

