-- ==== Sys2Proof/Machine/Cervik.lean ====
section
/-!
DEFINITION. What every Cervik instruction shares: the encodings that exist, addresses of both profiles, the fetch, the budget, exceptions
and interrupts of the control cores (R93, R99 to R106, R125, R126, R147 to R156, R162, R166 to R174, R187).
-/

namespace Sys2Proof.Machine

/-! ## The encodings (R147 to R151) -/

/-- A word that the opcode map and the encoding tables name, on a core of the profile (R93, R147, R149, R151, R162). -/
def wordLegal (lprof : Bool) (w : Nat) : Bool := (Sys2Proof.cervikInstr (if lprof then .lc 0 else .cc 0) w).isSome

/-! ## Registers and the PC -/

/-- The PC moved on. -/
def Cpu.adv (u : Cpu) : Cpu := { u with pc := u.pc + 4 }

/-- The end of a refusable instruction: ST, F and W, then the next instruction (R96, R97). -/
def Cpu.finish (u : Cpu) (e : Ended) : Cpu := (u.ended e).adv

/-- A refusal; one with POISONED under R111 or R156 has read poison (R96). -/
def Cpu.refused (u : Cpu) (st : Status) : Cpu := (u.ps (st = .poisoned)).finish (.refuse st)

/-- A core's registers changed. -/
def State.onCpu (s : State) (c : CoreId) (f : Cpu → Cpu) : State := s.setCpu c (f (s.cpu c))

/-- The base register of a pair (R150). -/
def pairOk (r : RegNo) : Bool := r.toNat % 2 = 0 && 2 ≤ r.toNat

/-- The base register of a group of four (R150). -/
def groupOk (r : RegNo) : Bool := r.toNat % 4 = 0 && 4 ≤ r.toNat

/-- The base register of a group of eight (R128). -/
def eightOk (r : RegNo) : Bool := r.toNat = 8 || r.toNat = 16 || r.toNat = 24

/-! ## Addresses of the control cores (R99 to R104) -/

/-- The kinds of access. -/
inductive Acc where
  | load
  | store
  | fetch
  deriving DecidableEq, Repr

/-- The MPU grants an access to an EA (R101). -/
def State.mpuOk (s : State) (k : Nat) (acc : Acc) (ea : Nat) : Bool :=
  (List.range 16).any fun r =>
    s.flag (fMPU_V k r) && decide (s.fget (fMPU_START k r) ≤ ea / 32) && decide (ea / 32 ≤ s.fget (fMPU_LIMIT k r)) &&
    match acc with
    | .load => s.flag (fMPU_RD k r)
    | .store => s.flag (fMPU_WR k r)
    | .fetch => s.flag (fMPU_EX k r)

/-- The window of an EA grants the access. -/
def State.winOk (s : State) (k j : Nat) : Acc → Bool
  | .load => s.flag (fWIN_RD k j)
  | .store => s.flag (fWIN_WR k j)
  | .fetch => s.flag (fWIN_EX k j)

/-- A window's base. -/
def State.winBase (s : State) (k j : Nat) : Nat := s.fget (fWIN_BASE_LO k j) * 2 ^ 12 + s.fget (fWIN_BASE_HI k j) * 2 ^ 32

/-- The physical map for a core's access (R43): the parts of the SRAM working buffers that hardware keeps (R114, R220, R442), and the
MRAM partitions (R596). -/
def State.mapCheck (s : State) (acc : Acc) (pa n : Nat) : Option Status :=
  match s.region pa n with
  | none => some .badAddress
  | some .csr => if n ≠ 4 ∨ pa % 4 ≠ 0 then some .badAlign else none
  | some .sram =>
    let o := pa - sramBase
    let hidden := (0x01D44000 ≤ o && o < 0x01F44000) || (0x01F44000 ≤ o && o < 0x01FC4000) || (0x01FC4000 ≤ o && o < 0x01FCC000)
    if hidden then some .badAddress else none
  | some .mram =>
    let o := pa - mramBase
    if 0xA0000 ≤ o ∧ o < 0x1A0000 then some .badAddress
    else if acc = .store ∧ !((0x20000 ≤ o && o < 0xA0000) || (0xCB0000 ≤ o && o < 0x1000000)) then some .windowDenied
    else none
  | some _ => none

/-- The plane rules for memory (R29, R31 to R33). -/
def State.planeOk (s : State) (k : Nat) (acc : Acc) (pa : Nat) : Bool :=
  if !s.flag fSYSSTAT_SEAM then true
  else if dbBase ≤ pa then s.owns k .mgmt
  else if daBase ≤ pa ∧ acc = .store then
    let top := daBase + s.daSize
    if s.fenced 11 ∧ top - 0x8000000 ≤ pa then s.owns k .mgmt
    else if top - 0x20000000 ≤ pa then s.owns k .control
    else s.owns k .data
  else true

/-- The range of an access lies outside the code and constants of every program in the table (R189, R233). -/
def State.rangeFree (s : State) (o n : Nat) : Bool :=
  (List.range 16).all fun i => s.progState i = psEmpty ||
    (!overlap o n (s.prog i).codeBase (s.prog i).codeSize && !overlap o n (0xA000 + (s.prog i).constBase) (s.prog i).constSize)

/-- A store into a ledger core's memory is permitted (R104). -/
def State.lcStoreOk (s : State) (pa n : Nat) : Bool :=
  let c := pa / 0x20000
  let o := pa % 0x20000
  s.fenced (32 + c) || ((s.lc c).run = .waiting && !s.flag fDISCTL_EN)
    || (decide (o + n ≤ 0x8000 ∨ (0xA000 ≤ o ∧ o + n ≤ 0x10000)) && s.rangeFree o n)

/-- Where an access goes: its physical address and the window's CACHE field. -/
structure Place where
  pa : Nat
  cache : Nat
  deriving DecidableEq, Repr

/-- The checks of R100, in its order, for an access that needs a right: the place, or the first failed check's status. -/
def State.accessAs (s : State) (k : Nat) (right acc : Acc) (ea n : Nat) : Except Status Place :=
  let j := ea / 2 ^ 26
  let o := ea % 2 ^ 26
  let pa := s.winBase k j + o
  if ea % n ≠ 0 then .error .badAlign
  else if !s.mpuOk k right ea then .error .mpuDenied
  else if !s.flag (fWIN_V k j) ∨ 4096 * 2 ^ s.fget (fWIN_SIZE k j) ≤ o then .error .badAddress
  else if !s.winOk k j right then .error .windowDenied
  else match s.mapCheck acc pa n with
  | some st => .error st
  | none =>
    if !s.planeOk k acc pa then .error .planeDenied
    else if acc = .store ∧ pa < 0x800000 ∧ !s.lcStoreOk pa n then .error .coreBusy
    else .ok ⟨pa, s.fget (fWIN_CACHE k j)⟩

/-- A load, store or fetch checked (R100). -/
def State.access (s : State) (k : Nat) (acc : Acc) (ea n : Nat) : Except Status Place := s.accessAs k acc acc ea n

/-- What a refused access leaves behind: PLANE_VIOL with PLANE_DENIED (R31). -/
def State.violation (s : State) (st : Status) : State := if st = .planeDenied then s.setFlag fSYSSTAT_PLANE_VIOL true else s

/-! ## Exceptions and interrupts of the control cores (R166 to R174) -/

/-- ESTATE: IE, PIE, INH. -/
def CCore.ie (c : CCore) : Bool := c.estate.getLsbD 0
def CCore.inh (c : CCore) : Bool := c.estate.getLsbD 2

/-- Entry to the handler (R169): the saved registers, PIE := IE, IE := 0, INH := 1, the PC at EVEC. -/
def CCore.enter (c : CCore) (epc ecause eaddr : Word) : CCore :=
  { c with
    run := .run, cpu := { c.cpu with pc := c.evec }, epc := epc, ecause := ecause, eaddr := eaddr,
    estate := if c.ie then 6 else 4 }

/-- The causes of R168. -/
def causeFetch : Nat := 0x01
def causeIllegal : Nat := 0x02
def causeMachine : Nat := 0x10

/-- A fault of a control core (R168, R169); fatal in a handler or from a machine check: the core stops, its locks break, the chip records
the event (R171). -/
def State.fault (s : State) (k cause : Nat) (st : Status) (eaddr : Word) : State :=
  let c := s.cc k
  let d := c.enter c.cpu.pc (w32 (cause + 2 ^ 16 * st.code)) eaddr
  if c.inh ∨ cause = causeMachine then
    ((s.setCc k { d with run := .fatal, cpu := c.cpu }).breakLocks k).event {
      code := 0x010, sev := 3, src := 0x04, inst := k, arg0 := eaddr.toNat, arg1 := c.cpu.pc.toNat, value := d.ecause.toNat }
  else s.setCc k d

/-- Return from the handler (R170). -/
def CCore.leave (c : CCore) : CCore :=
  { c with cpu := { c.cpu with pc := c.epc }, estate := if c.estate.getLsbD 1 then 3 else 0 }

/-- The source blocks of an interrupt line that assert it, by their W1C status bits (R173); where a line's blocks have no such bit, what
asserts it is a free value (notes/assumptions/31.md). -/
def State.lineSource (s : State) (l : Nat) : Bool :=
  if l = 0 then s.flag fWDTSTAT_WARN || s.flag fWDTSTAT_DSTALL
  else if l = 1 then bits (s.reg rRSTCAUSE) 0 11 ≠ 0
  else if l = 2 then
    s.flag fSYSSTAT_PLANE_VIOL || s.flag fSYSSTAT_FENCE_REFUSED || s.flag fSYSSTAT_FENCE_LATE || s.flag fCLKSTAT_TLOSS ||
    s.flag fCLKSTAT_SLOSS || s.flag fCLKSTAT_XLOSS || s.flag fCLKTEMP_HOT
  else if l = 4 then s.flag fLDGSTAT_DETBRK
  else if l = 5 then s.fget fCMTSTAT_SAT ≠ 0 || s.fget fLOSSTAT_ALARM ≠ 0
  else if l = 7 then s.flag fRFSFSTAT_SEEN
  else if l = 9 then s.fget fTMPSTAT_SRC ≠ 0 || s.flag fTMPSTAT_PEND || s.flag fTMPSTAT_SLEEPERASE
  else if l = 12 then (List.range 4).any fun i => s.flag (fDLSTAT_EPOCHDIFF i)
  else if l = 15 then s.flag fTWNSTAT_TKOBLOCKED || s.flag fTWNSTAT_DIGMIS || s.flag fTWNSTAT_PEERSILENT
  else if l = 16 then (List.range 4).any fun i => s.flag (fRINSTAT_LATE i)
  else if l = 17 then s.flag fTELSTAT_LATE
  else if l < 18 then Config.lineUp s.freeCtr l
  else false

/-- The plane whose cores a line reaches in seam mode (R173). -/
def linePlane (l : Nat) : Plane :=
  if l = 3 ∨ l = 5 ∨ l = 16 then .data
  else if l = 4 ∨ l = 6 ∨ l = 7 ∨ l = 10 ∨ l = 12 ∨ l = 13 ∨ l = 14 then .control
  else .mgmt

/-- Line `l` is pending on CCk (R173, R174). -/
def State.linePending (s : State) (k l : Nat) : Bool :=
  if 24 ≤ l then l < 28 && bit (s.cc k).bell (l - 24)
  else s.lineSource l && (!s.flag fSYSSTAT_SEAM || s.owns k (linePlane l))

/-- IPEND (R173). -/
def State.ipend (s : State) (k : Nat) : Nat := ((List.range 32).map fun l => 2 ^ l * b2n (s.linePending k l)).sum

/-- The lowest line pending and enabled (R172). -/
def State.takenLine (s : State) (k : Nat) : Option Nat :=
  (List.range 32).find? fun l => (s.cc k).imask.getLsbD l && s.linePending k l

/-- The address of the instruction to resume: the one at the PC, a stalled or abandoned one included, and the next after a WFI (R166,
R172). -/
def CCore.resume (c : CCore) : Word := if c.run = .wfi then c.cpu.pc + 4 else c.cpu.pc

/-- An interrupt on a line taken, a stall abandoned (R131, R169, R172). -/
def State.interrupt (s : State) (k l : Nat) : State :=
  let t := s.leaveLines k
  let c := t.cc k
  t.setCc k (c.enter c.resume (w32 (0x80 + l)) 0)

/-- A core that executes or waits inside an instruction. -/
def CCore.alive (c : CCore) : Bool := c.run ≠ .held && c.run ≠ .fatal

/-- INTERRUPT_TAKE (R131, R172) on CCk. -/
def execInterruptTake (k : Fin 4) (s : State) : Out := s.live <|
  .next (match s.takenLine k.val with
    | some l => if (s.cc k.val).alive ∧ (s.cc k.val).ie then s.interrupt k.val l else s
    | none => s)

/-! ## Before the instruction: fetch and budget -/

/-- A line of memory read into a cache. -/
def lineBase (pa : Nat) : Nat := pa / 64 * 64

/-- What the fetch of the instruction at CCk's PC leaves: through a cached window, its line in the instruction cache (R165). -/
def State.fetchRead (s : State) (k : Nat) (p : Place) : State :=
  let c := s.cc k
  if p.cache = 0 then s.touch p.pa 4
  else if c.icache.contains (p.pa / 64) then s
  else
    let t := s.touch (lineBase p.pa) 64
    if s.poisonedIn (lineBase p.pa) 64 then t else t.setCc k { c with icache := setIns (p.pa / 64) c.icache }

/-- The fetch reads a poisoned granule (R168). -/
def State.fetchBad (s : State) (k : Nat) (p : Place) : Bool :=
  s.poisonedIn p.pa 4 && !(p.cache ≠ 0 && (s.cc k).icache.contains (p.pa / 64))

/-- EADDR of an uncorrectable error: the PC, or the address of the cache line (R168). -/
def CoreErr.addr (e : CoreErr) (pc : Word) : Word :=
  match e with
  | .regFile => pc
  | .line l => w32 (64 * l)

/-- CCk fetches the instruction at its PC and executes it as `f` says; a refused fetch enters the fault handler, and so does an
uncorrectable error that the core's caches or register file hold (R102, R168). -/
def State.fetched (s : State) (k : Nat) (f : State → State) : State :=
  let pc := (s.cc k).cpu.pc
  match s.access k .fetch pc.toNat 4 with
  | .error st => (s.violation st).fault k causeFetch st pc
  | .ok p =>
    match (s.cc k).err with
    | some e => (s.setCc k { s.cc k with err := none }).fault k causeMachine .poisoned (e.addr pc)
    | none => if s.fetchBad k p then (s.fetchRead k p).fault k causeMachine .poisoned pc else f (s.fetchRead k p)

/-- The fetch of a ledger core that R153 does not refuse. -/
def State.lcFetchOk (s : State) (n : Nat) : Bool :=
  let pc := (s.lc n).cpu.pc.toNat
  pc % 4 = 0 && pc < 0x8000 && !s.poisonedIn (lcImem n + pc) 4

/-- The weight of an instruction added to the count used, or the item failed (R126). -/
def State.charge (s : State) (n : Nat) (it : Item) (w : Nat) (f : State → State) : State :=
  let c := s.lc n
  if c.budget < c.used + w then s.itemFail n it .budgetExhausted c.used
  else f (s.setLc n { c with used := c.used + w })

/-- An instruction refused with ILLEGAL_INSTRUCTION fails the item (R123, R153). -/
def State.lcIllegal (s : State) (n : Nat) (it : Item) : State := s.itemFail n it .illegalInstruction (s.lc n).used

/-- A ledger core with an item executes an instruction of a weight (R126, R153, R187). -/
def State.onLc (s : State) (n w : Nat) (f : Item → State → State) : State :=
  match (s.lc n).run, (s.lc n).item with
  | .running, some it =>
    if s.lcFetchOk n then s.charge n it w (f it) else s.charge n it 1 fun t => t.lcIllegal n it
  | _, _ => s

/-- A control core that runs executes an instruction. -/
def State.onCc (s : State) (k : Nat) (f : State → State) : State :=
  if (s.cc k).run = .run then s.fetched k f else s

/-- A core of either profile executes an instruction of weight 1. -/
def State.issue (s : State) (c : CoreId) (f : State → State) : Out := s.live <|
  .next (match c with
    | .cc k => s.onCc k.val f
    | .lc n => s.onLc n.val 1 fun _ => f)

/-- A control core executes an instruction. -/
def State.issueC (s : State) (k : Fin 4) (f : State → State) : Out := s.live <| .next (s.onCc k.val f)

/-- A ledger core executes an instruction of a weight. -/
def State.issueL (s : State) (n : Fin 64) (w : Nat) (f : Item → State → State) : Out := s.live <| .next (s.onLc n.val w f)

/-- ILLEGAL_INSTRUCTION on a control core: ST and F, then the fault handler (R154). -/
def State.ccIllegal (s : State) (k : Nat) : State :=
  (s.onCpu (.cc (Fin.ofNat 4 k)) fun u => u.ended (.refuse .illegalInstruction)).fault k causeIllegal .illegalInstruction 0

/-- ILLEGAL_OPCODE (R93, R147, R149, R153, R154): a word that the core's profile does not have. -/
def execIllegalOpcode (c : CoreId) (w : Word) (s : State) : Out := s.live <|
  .next (match c with
    | .cc k => if wordLegal false w.toNat then s else s.onCc k.val fun t => t.ccIllegal k.val
    | .lc n => if wordLegal true w.toNat then s else s.onLc n.val 1 fun it t => t.lcIllegal n.val it)

end Sys2Proof.Machine
end

