-- ==== Sys2Proof/Machine/CervikAlu.lean ====
section
/-!
DEFINITION. The Cervik instructions that both profiles have: integer, logic, shift, multiply, divide, the carry chain, immediates,
branches and jumps (R110, R111, R151, R155 to R160).
-/

namespace Sys2Proof.Machine

/-! ## Shared shapes -/

/-- A result of two registers, poisoned when either is (R110). -/
def Cpu.alu (u : Cpu) (rd a b : RegNo) (f : Word → Word → Word) : Cpu :=
  let x := u.g a.toNat
  let y := u.g b.toNat
  let bad := x.poison || y.poison
  ((u.setG rd.toNat { val := f x.val y.val, poison := bad }).ps bad).adv

/-- A result of a register and an immediate. -/
def Cpu.aluImm (u : Cpu) (rd a : RegNo) (f : Word → Word) : Cpu :=
  let x := u.g a.toNat
  ((u.setG rd.toNat { val := f x.val, poison := x.poison }).ps x.poison).adv

/-- Flags of a sum or difference of the carry chain; ADC and SBC keep Z across the chain (R159). -/
def Cpu.chainFlags (u : Cpu) (r : Chain) (keepZ : Bool) : Cpu :=
  u.setZncv (r.val = 0 && (!keepZ || u.flag flZ)) (r.val.getLsbD 31) r.c r.v

/-- An instruction of the carry chain (R159). -/
def Cpu.carry (u : Cpu) (rd a b : RegNo) (keepZ : Bool) (f : Word → Word → Chain) : Cpu :=
  let x := u.g a.toNat
  let y := u.g b.toNat
  let bad := x.poison || y.poison
  let r := f x.val y.val
  (((u.chainFlags r keepZ).setG rd.toNat { val := r.val, poison := bad }).ps bad).adv

/-- The carry in. -/
def Cpu.cin (u : Cpu) : Nat := b2n (u.flag flC)

/-- A target relative to the PC, in words. -/
def Cpu.rel (u : Cpu) (off : Int) : Word := BitVec.ofInt 32 (u.pc.toNat + 4 * off)

/-- A branch: on a poisoned register it follows the value as delivered and sets PS (R111). -/
def Cpu.branch (u : Cpu) (taken bad : Bool) (off : BitVec 12) : Cpu :=
  { (u.ps bad) with pc := if taken then u.rel off.toInt else u.pc + 4 }

/-- A branch on two registers. -/
def Cpu.branch2 (u : Cpu) (a b : RegNo) (off : BitVec 12) (f : Word → Word → Bool) : Cpu :=
  let x := u.g a.toNat
  let y := u.g b.toNat
  u.branch (f x.val y.val) (x.poison || y.poison) off

/-! ## Arithmetic functions (R151, R157) -/

def slt (a b : Word) : Word := if a.toInt < b.toInt then 1 else 0
def sltu (a b : Word) : Word := if a.toNat < b.toNat then 1 else 0
def mulhu (a b : Word) : Word := w32 (a.toNat * b.toNat / 2 ^ 32)
def mulhs (a b : Word) : Word := BitVec.ofInt 32 (a.toInt * b.toInt / (2 ^ 32 : Nat))
def divu (a b : Word) : Word := if b = 0 then 0xFFFFFFFF else w32 (a.toNat / b.toNat)
def remu (a b : Word) : Word := if b = 0 then a else w32 (a.toNat % b.toNat)
def divs (a b : Word) : Word := if b = 0 then 0xFFFFFFFF else BitVec.ofInt 32 (Int.tdiv a.toInt b.toInt)
def rems (a b : Word) : Word := if b = 0 then a else BitVec.ofInt 32 (a.toInt - b.toInt * Int.tdiv a.toInt b.toInt)
def minS (a b : Word) : Word := if b.toInt < a.toInt then b else a
def maxS (a b : Word) : Word := if a.toInt < b.toInt then b else a
def minU (a b : Word) : Word := if b.toNat < a.toNat then b else a
def maxU (a b : Word) : Word := if a.toNat < b.toNat then b else a

/-- A shift amount: the low five bits. -/
def shamt (b : Word) : Nat := b.toNat % 32

/-! ## OP (R151, R157, R158) -/

/-- ADD (R151): 32-bit sum. -/
def execAdd (c : CoreId) (rd a b : RegNo) (s : State) : Out := s.issue c fun t => t.onCpu c fun u => u.alu rd a b fun a b => a + b

/-- SUB (R151): 32-bit difference. -/
def execSub (c : CoreId) (rd a b : RegNo) (s : State) : Out := s.issue c fun t => t.onCpu c fun u => u.alu rd a b fun a b => a - b

/-- AND (R151): bitwise AND. -/
def execAndR (c : CoreId) (rd a b : RegNo) (s : State) : Out := s.issue c fun t => t.onCpu c fun u => u.alu rd a b fun a b => a &&& b

/-- OR (R151): bitwise OR. -/
def execOrR (c : CoreId) (rd a b : RegNo) (s : State) : Out := s.issue c fun t => t.onCpu c fun u => u.alu rd a b fun a b => a ||| b

/-- XOR (R151): bitwise XOR. -/
def execXorR (c : CoreId) (rd a b : RegNo) (s : State) : Out := s.issue c fun t => t.onCpu c fun u => u.alu rd a b fun a b => a ^^^ b

/-- SLL (R151): left shift. -/
def execSll (c : CoreId) (rd a b : RegNo) (s : State) : Out := s.issue c fun t => t.onCpu c fun u => u.alu rd a b fun a b => a <<< shamt b

/-- SRL (R151): logical right shift. -/
def execSrl (c : CoreId) (rd a b : RegNo) (s : State) : Out := s.issue c fun t => t.onCpu c fun u => u.alu rd a b fun a b => a >>> shamt b

/-- SRA (R151): arithmetic right shift. -/
def execSra (c : CoreId) (rd a b : RegNo) (s : State) : Out := s.issue c fun t => t.onCpu c fun u => u.alu rd a b fun a b => a.sshiftRight (shamt b)

/-- SLT (R151): signed less-than. -/
def execSlt (c : CoreId) (rd a b : RegNo) (s : State) : Out := s.issue c fun t => t.onCpu c fun u => u.alu rd a b fun a b => slt a b

/-- SLTU (R151): unsigned less-than. -/
def execSltu (c : CoreId) (rd a b : RegNo) (s : State) : Out := s.issue c fun t => t.onCpu c fun u => u.alu rd a b fun a b => sltu a b

/-- MUL (R151): low product. -/
def execMul (c : CoreId) (rd a b : RegNo) (s : State) : Out := s.issue c fun t => t.onCpu c fun u => u.alu rd a b fun a b => a * b

/-- MULHU (R151): high unsigned product. -/
def execMulhu (c : CoreId) (rd a b : RegNo) (s : State) : Out := s.issue c fun t => t.onCpu c fun u => u.alu rd a b fun a b => mulhu a b

/-- MULHS (R151): high signed product. -/
def execMulhs (c : CoreId) (rd a b : RegNo) (s : State) : Out := s.issue c fun t => t.onCpu c fun u => u.alu rd a b fun a b => mulhs a b

/-- DIVU (R157): unsigned quotient. -/
def execDivu (c : CoreId) (rd a b : RegNo) (s : State) : Out := s.issue c fun t => t.onCpu c fun u => u.alu rd a b fun a b => divu a b

/-- DIVS (R157): signed quotient. -/
def execDivs (c : CoreId) (rd a b : RegNo) (s : State) : Out := s.issue c fun t => t.onCpu c fun u => u.alu rd a b fun a b => divs a b

/-- REMU (R157): unsigned remainder. -/
def execRemu (c : CoreId) (rd a b : RegNo) (s : State) : Out := s.issue c fun t => t.onCpu c fun u => u.alu rd a b fun a b => remu a b

/-- REMS (R157): signed remainder. -/
def execRems (c : CoreId) (rd a b : RegNo) (s : State) : Out := s.issue c fun t => t.onCpu c fun u => u.alu rd a b fun a b => rems a b

/-- MIN (R151): signed smaller. -/
def execMin (c : CoreId) (rd a b : RegNo) (s : State) : Out := s.issue c fun t => t.onCpu c fun u => u.alu rd a b fun a b => minS a b

/-- MAX (R151): signed larger. -/
def execMax (c : CoreId) (rd a b : RegNo) (s : State) : Out := s.issue c fun t => t.onCpu c fun u => u.alu rd a b fun a b => maxS a b

/-- MINU (R151): unsigned smaller. -/
def execMinu (c : CoreId) (rd a b : RegNo) (s : State) : Out := s.issue c fun t => t.onCpu c fun u => u.alu rd a b fun a b => minU a b

/-- MAXU (R151): unsigned larger. -/
def execMaxu (c : CoreId) (rd a b : RegNo) (s : State) : Out := s.issue c fun t => t.onCpu c fun u => u.alu rd a b fun a b => maxU a b

/-- GETFL (R151): FL into a register. -/
def execGetfl (c : CoreId) (rd : RegNo) (s : State) : Out := s.issue c fun t => t.onCpu c fun u => (u.setG rd.toNat { val := u.fl }).adv

/-- SETFL (R158): FL from a register; PS keeps its value in the L-profile. -/
def execSetfl (c : CoreId) (rs1 : RegNo) (s : State) : Out := s.issue c fun t => t.onCpu c fun u =>
  let l := match c with
    | .cc _ => false
    | .lc _ => true
  ({ u with fl := setflValue l u.fl (u.g rs1.toNat) } : Cpu).adv

/-! ## OPC (R159) -/

/-- ADDS (R159). -/
def execAdds (c : CoreId) (rd a b : RegNo) (s : State) : Out := s.issue c fun t => t.onCpu c fun u => u.carry rd a b false fun x y => chainAdd x y 0

/-- ADC (R159). -/
def execAdc (c : CoreId) (rd a b : RegNo) (s : State) : Out := s.issue c fun t => t.onCpu c fun u => u.carry rd a b true fun x y => chainAdd x y u.cin

/-- SUBS (R159). -/
def execSubs (c : CoreId) (rd a b : RegNo) (s : State) : Out := s.issue c fun t => t.onCpu c fun u => u.carry rd a b false fun x y => chainSub x y 0

/-- SBC (R159). -/
def execSbc (c : CoreId) (rd a b : RegNo) (s : State) : Out := s.issue c fun t => t.onCpu c fun u => u.carry rd a b true fun x y => chainSub x y (1 - u.cin)

/-- CMP (R159): as SUBS, with no register written. -/
def execCmp (c : CoreId) (a b : RegNo) (s : State) : Out := s.issue c fun t => t.onCpu c fun u => u.carry 0 a b false fun x y => chainSub x y 0

/-! ## OPI, MOVH, PCADR (R151) -/

/-- ADDI (R151). -/
def execAddi (c : CoreId) (rd a : RegNo) (i : BitVec 12) (s : State) : Out := s.issue c fun t => t.onCpu c fun u => u.aluImm rd a fun x => x + i.signExtend 32

/-- ANDI (R151). -/
def execAndi (c : CoreId) (rd a : RegNo) (i : BitVec 12) (s : State) : Out := s.issue c fun t => t.onCpu c fun u => u.aluImm rd a fun x => x &&& i.zeroExtend 32

/-- ORI (R151). -/
def execOri (c : CoreId) (rd a : RegNo) (i : BitVec 12) (s : State) : Out := s.issue c fun t => t.onCpu c fun u => u.aluImm rd a fun x => x ||| i.zeroExtend 32

/-- XORI (R151). -/
def execXori (c : CoreId) (rd a : RegNo) (i : BitVec 12) (s : State) : Out := s.issue c fun t => t.onCpu c fun u => u.aluImm rd a fun x => x ^^^ i.zeroExtend 32

/-- SLTI (R151). -/
def execSlti (c : CoreId) (rd a : RegNo) (i : BitVec 12) (s : State) : Out := s.issue c fun t => t.onCpu c fun u => u.aluImm rd a fun x => slt x (i.signExtend 32)

/-- SLTIU (R151). -/
def execSltiu (c : CoreId) (rd a : RegNo) (i : BitVec 12) (s : State) : Out := s.issue c fun t => t.onCpu c fun u => u.aluImm rd a fun x => sltu x (i.zeroExtend 32)

/-- SLLI (R151). -/
def execSlli (c : CoreId) (rd a : RegNo) (i : BitVec 5) (s : State) : Out := s.issue c fun t => t.onCpu c fun u => u.aluImm rd a fun x => x <<< i.toNat

/-- SRLI (R151). -/
def execSrli (c : CoreId) (rd a : RegNo) (i : BitVec 5) (s : State) : Out := s.issue c fun t => t.onCpu c fun u => u.aluImm rd a fun x => x >>> i.toNat

/-- SRAI (R151). -/
def execSrai (c : CoreId) (rd a : RegNo) (i : BitVec 5) (s : State) : Out := s.issue c fun t => t.onCpu c fun u => u.aluImm rd a fun x => x.sshiftRight i.toNat

/-- CMPI (R151): as CMP with a sign-extended immediate. -/
def execCmpi (c : CoreId) (a : RegNo) (i : BitVec 12) (s : State) : Out := s.issue c fun t => t.onCpu c fun u =>
  let x := u.g a.toNat
  ((u.chainFlags (chainSub x.val (i.signExtend 32) 0) false).ps x.poison).adv

/-- MOVH (R151): imm20 × 2^12. -/
def execMovh (c : CoreId) (rd : RegNo) (i : BitVec 20) (s : State) : Out := s.issue c fun t => t.onCpu c fun u =>
  (u.setG rd.toNat { val := w32 (i.toNat * 2 ^ 12) }).adv

/-- PCADR (R151): the address of the word imm20 words away. -/
def execPcadr (c : CoreId) (rd : RegNo) (i : BitVec 20) (s : State) : Out := s.issue c fun t => t.onCpu c fun u =>
  (u.setG rd.toNat { val := u.rel i.toInt }).adv

/-! ## BR and BRF (R111, R151) -/

/-- BEQ (R151): equal. -/
def execBeq (c : CoreId) (a b : RegNo) (off : BitVec 12) (s : State) : Out := s.issue c fun t => t.onCpu c fun u => u.branch2 a b off fun x y => decide (x = y)

/-- BNE (R151): not equal. -/
def execBne (c : CoreId) (a b : RegNo) (off : BitVec 12) (s : State) : Out := s.issue c fun t => t.onCpu c fun u => u.branch2 a b off fun x y => decide (x ≠ y)

/-- BLT (R151): signed less. -/
def execBlt (c : CoreId) (a b : RegNo) (off : BitVec 12) (s : State) : Out := s.issue c fun t => t.onCpu c fun u => u.branch2 a b off fun x y => decide (x.toInt < y.toInt)

/-- BGE (R151): signed greater or equal. -/
def execBge (c : CoreId) (a b : RegNo) (off : BitVec 12) (s : State) : Out := s.issue c fun t => t.onCpu c fun u => u.branch2 a b off fun x y => decide (y.toInt ≤ x.toInt)

/-- BLTU (R151): unsigned less. -/
def execBltu (c : CoreId) (a b : RegNo) (off : BitVec 12) (s : State) : Out := s.issue c fun t => t.onCpu c fun u => u.branch2 a b off fun x y => decide (x.toNat < y.toNat)

/-- BGEU (R151): unsigned greater or equal. -/
def execBgeu (c : CoreId) (a b : RegNo) (off : BitVec 12) (s : State) : Out := s.issue c fun t => t.onCpu c fun u => u.branch2 a b off fun x y => decide (y.toNat ≤ x.toNat)

/-- BFS (R151): taken when F = 1. -/
def execBfs (c : CoreId) (off : BitVec 12) (s : State) : Out := s.issue c fun t => t.onCpu c fun u => u.branch (u.flag flF) false off

/-- BFC (R151): taken when F = 0. -/
def execBfc (c : CoreId) (off : BitVec 12) (s : State) : Out := s.issue c fun t => t.onCpu c fun u => u.branch (!u.flag flF) false off

/-- BWS (R151): taken when W = 1. -/
def execBws (c : CoreId) (off : BitVec 12) (s : State) : Out := s.issue c fun t => t.onCpu c fun u => u.branch (u.flag flW) false off

/-- BCS (R151): taken when C = 1. -/
def execBcs (c : CoreId) (off : BitVec 12) (s : State) : Out := s.issue c fun t => t.onCpu c fun u => u.branch (u.flag flC) false off

/-- BCC (R151): taken when C = 0. -/
def execBcc (c : CoreId) (off : BitVec 12) (s : State) : Out := s.issue c fun t => t.onCpu c fun u => u.branch (!u.flag flC) false off

/-- BZS (R151): taken when Z = 1. -/
def execBzs (c : CoreId) (off : BitVec 12) (s : State) : Out := s.issue c fun t => t.onCpu c fun u => u.branch (u.flag flZ) false off

/-- BVS (R151): taken when V = 1. -/
def execBvs (c : CoreId) (off : BitVec 12) (s : State) : Out := s.issue c fun t => t.onCpu c fun u => u.branch (u.flag flV) false off

/-- BPS (R151): taken when PS = 1. -/
def execBps (c : CoreId) (off : BitVec 12) (s : State) : Out := s.issue c fun t => t.onCpu c fun u => u.branch (u.flag flPS) false off

/-! ## Jumps and calls (R94, R151, R160) -/

/-- JMP (R151). -/
def execJmp (c : CoreId) (i : BitVec 20) (s : State) : Out := s.issue c fun t => t.onCpu c fun u => { u with pc := u.rel i.toInt }

/-- CALL (R151): the return address goes to g31 (R94). -/
def execCall (c : CoreId) (i : BitVec 20) (s : State) : Out := s.issue c fun t => t.onCpu c fun u =>
  { (u.setG 31 { val := u.pc + 4 }) with pc := u.rel i.toInt }

/-- A jump to a register: refused with POISONED alone (R160). -/
def Cpu.jump (u : Cpu) (a : RegNo) (link : Bool) : Cpu :=
  let x := u.g a.toNat
  if x.poison then u.refused .poisoned
  else { ((if link then u.setG 31 { val := u.pc + 4 } else u).ended .done) with pc := x.val }

/-- JR (R160). -/
def execJr (c : CoreId) (a : RegNo) (s : State) : Out := s.issue c fun t => t.onCpu c fun u => u.jump a false

/-- CALLR (R160). -/
def execCallr (c : CoreId) (a : RegNo) (s : State) : Out := s.issue c fun t => t.onCpu c fun u => u.jump a true

end Sys2Proof.Machine
end

