-- ==== Sys2Proof/Machine/CervikMem.lean ====
section
/-!
DEFINITION. Loads and stores of both profiles, the data caches, and cache maintenance (R99 to R112, R156, R161 to R163, R165).
-/

namespace Sys2Proof.Machine

/-! ## The data caches (R109, R165) -/

def clineReset : Nat → CLine := fun _ => { data := [] }

/-- The line that a number names, when some cache holds it. -/
def State.cline (s : State) (l : Nat) : Option CLine :=
  let c := s.dcache.get clineReset l
  if c.data = [] then none else some c

def State.setLine (s : State) (l : Nat) (c : CLine) : State := { s with dcache := s.dcache.put clineReset l c }
def State.dropLine (s : State) (l : Nat) : State := { s with dcache := s.dcache.put clineReset l (clineReset l) }

/-- A dirty line written back, with its poisoned granules; the line stays, clean (R165). -/
def State.cleanLine (s : State) (l : Nat) : State :=
  match s.cline l with
  | none => s
  | some c =>
    if !c.dirty then s else
    let t := s.write (64 * l) c.data
    ({ t with poison := c.poison.foldl (fun p g => setIns g p) t.poison } : State).setLine l { c with dirty := false }

/-- CCk's cache takes a line: from memory, or from the cache that holds it, which writes a dirty line back. -/
def State.fillLine (s : State) (k l : Nat) : State :=
  match s.cline l with
  | none =>
    let t := s.touch (64 * l) 64
    t.setLine l { data := t.bytes (64 * l) 64, poison := t.poison.filter fun g => g / 8 = l, holders := [k] }
  | some c =>
    if c.holders.contains k then s else
    (s.cleanLine l).setLine l { c with dirty := false, holders := setIns k c.holders }

/-- CCk's cache gives a line up without writing it back. -/
def State.giveUp (s : State) (k l : Nat) : State :=
  match s.cline l with
  | none => s
  | some c =>
    if !c.holders.contains k then s
    else if c.holders = [k] then s.dropLine l
    else s.setLine l { c with holders := setDel k c.holders }

/-- CCk's cache writes a dirty line back. -/
def State.cleanOwn (s : State) (k l : Nat) : State :=
  match s.cline l with
  | none => s
  | some c => if c.holders.contains k then s.cleanLine l else s

/-- Every dirty line of CCk's cache written back, and kept. -/
def State.cleanAll (s : State) (k : Nat) : State := s.dcache.foldl (fun (u : State) e => u.cleanOwn k e.1) s

/-- The granules that a write of a range changes only in part: read, corrected and counted before they are written (R47, R49). -/
def State.correctEdges (s : State) (a n : Nat) : State :=
  (s.soft.filter fun g => touches a n g && !covers a n g).foldl (fun (t : State) g => t.correct (8 * g) 8) s

/-- Bytes written into a held line, which CCk's cache then holds alone. -/
def CLine.store (c : CLine) (k pa : Nat) (bs : List Byte) (bad dirty : Bool) : CLine :=
  { data := splice c.data (pa % 64) bs, poison := poisonAfter c.poison pa bs.length bad, dirty := dirty, holders := [k] }

/-- What CCk loads at a place: bytes and poison, through its cache where the window is cached. -/
def State.loadAt (s : State) (k : Nat) (p : Place) (n : Nat) : State × List Byte × Bool :=
  if p.cache = 0 then (s.touch p.pa n, s.bytes p.pa n, s.poisonedIn p.pa n)
  else
    let t := s.fillLine k (p.pa / 64)
    let c := t.dcache.get clineReset (p.pa / 64)
    (t, sub c.data (p.pa % 64) n, c.poison.any (touches p.pa n))

/-- CCk's store at a place: to memory; in a write-through window also to the line its cache holds; in a write-back window to the line
alone (R112). -/
def State.storeAt (s : State) (k : Nat) (p : Place) (bs : List Byte) (bad : Bool) : State :=
  let l := p.pa / 64
  if p.cache = 0 then (s.correctEdges p.pa bs.length).writeP p.pa bs bad
  else if p.cache = 1 then
    let t := ((s.cleanLine l).correctEdges p.pa bs.length).writeP p.pa bs bad
    match t.cline l with
    | some c => if c.holders.contains k then t.setLine l (c.store k p.pa bs bad false) else t.dropLine l
    | none => t
  else
    let t := s.fillLine k l
    t.setLine l ((t.dcache.get clineReset l).store k p.pa bs bad true)

/-! ## Widths -/

/-- The widths of loads (R161). -/
inductive Width where
  | byteS
  | byteU
  | halfS
  | halfU
  | word
  | dword
  deriving DecidableEq, Repr

def Width.bytes : Width → Nat
  | .byteS | .byteU => 1
  | .halfS | .halfU => 2
  | .word => 4
  | .dword => 8

/-- A loaded value in its register, or pair. -/
def Cpu.loaded (u : Cpu) (w : Width) (rd : RegNo) (bs : List Byte) (bad : Bool) : Cpu :=
  let v := leNat bs
  let g := fun x => ({ val := x, poison := bad } : GReg)
  match w with
  | .byteS => u.setG rd.toNat (g ((BitVec.ofNat 8 v).signExtend 32))
  | .halfS => u.setG rd.toNat (g ((BitVec.ofNat 16 v).signExtend 32))
  | .byteU | .halfU | .word => u.setG rd.toNat (g (w32 v))
  | .dword => (u.setG rd.toNat (g (w32 v))).setG (rd.toNat + 1) (g (w32 (v / 2 ^ 32)))

/-- A load's end: the value, the warning POISONED with poison (R110). -/
def Cpu.loadEnd (u : Cpu) (w : Width) (rd : RegNo) (bs : List Byte) (bad : Bool) : Cpu :=
  ((u.loaded w rd bs bad).ps bad).finish (if bad then .warn .poisoned else .done)

/-- The bytes a store takes from its register or pair, and their poison. -/
def Cpu.stored (u : Cpu) (w : Width) (rd : RegNo) : List Byte × Bool :=
  match w with
  | .dword => (leBytes 8 (u.pair rd.toNat), u.pairBad rd.toNat)
  | _ => (leBytes w.bytes (u.g rd.toNat).val.toNat, (u.g rd.toNat).poison)

/-- A store's end: DONE, PS with a poisoned source (R110, R161). -/
def Cpu.storeEnd (u : Cpu) (bad : Bool) : Cpu := (u.ps bad).finish .done

/-- The pair rule of a doubleword (R150). -/
def Width.regOk (w : Width) (rd : RegNo) : Bool := w ≠ .dword || pairOk rd

/-! ## Control cores -/

/-- CCk's registers changed. -/
def State.ccDo (s : State) (k : Nat) (f : Cpu → Cpu) : State := s.setCc k { s.cc k with cpu := f (s.cc k).cpu }

/-- CCk's registers changed after a CSR access, unless its effect has reset the core. -/
def State.ccAfter (s : State) (k : Nat) (old : CCore) (f : Cpu → Cpu) : State := if s.cc k = old then s.ccDo k f else s

/-- A CSR access refused with the answer's status: a POISONED among these comes from a command's own data, so PS stays (R96). -/
def Cpu.answered (u : Cpu) (st : Status) : Cpu := u.finish (.refuse st)

/-- CCk's instruction refused (R96). -/
def State.ccRefuse (s : State) (k : Nat) (st : Status) : State := (s.violation st).ccDo k fun u => u.refused st

/-- The effective address (R161). -/
def effAddr (base : Word) (i : BitVec 12) : Nat := (base + i.signExtend 32).toNat

/-- A CSR accessed through a window or by CSRR and CSRW: the answer's status and value end the instruction. -/
def State.ccCsrLoad (s : State) (k : Nat) (csr : Nat) (f : Nat → Cpu → Cpu) : State :=
  let t := s.csrRead (.cc (Fin.ofNat 4 k)) csr
  t.ccAfter k (s.cc k) fun u => if t.answer.status = .done then f t.answer.value u else u.answered t.answer.status

def State.ccCsrStore (s : State) (k : Nat) (csr : Nat) (v : GReg) : State :=
  let t := s.csrWord (.cc (Fin.ofNat 4 k)) csr v.val
  t.ccAfter k (s.cc k) fun u => if t.answer.status = .done then u.storeEnd v.poison else u.answered t.answer.status

/-- A load of a control core (R100, R156, R161). -/
def State.ccLoad (s : State) (k : Nat) (w : Width) (rd a : RegNo) (i : BitVec 12) : State :=
  let u := (s.cc k).cpu
  if !w.regOk rd then s.ccRefuse k .badRegister
  else if (u.g a.toNat).poison then s.ccRefuse k .poisoned
  else match s.access k .load (effAddr (u.g a.toNat).val i) w.bytes with
  | .error st => s.ccRefuse k st
  | .ok p =>
    if s.region p.pa w.bytes = some .csr then
      s.ccCsrLoad k (p.pa - csrBase) fun v u => u.loadEnd w rd (leBytes 4 v) false
    else
      let (t, bs, bad) := s.loadAt k p w.bytes
      t.ccDo k fun u => u.loadEnd w rd bs bad

/-- A store of a control core (R100, R112, R156, R161). -/
def State.ccStore (s : State) (k : Nat) (w : Width) (rd a : RegNo) (i : BitVec 12) : State :=
  let u := (s.cc k).cpu
  if !w.regOk rd then s.ccRefuse k .badRegister
  else if (u.g a.toNat).poison then s.ccRefuse k .poisoned
  else match s.access k .store (effAddr (u.g a.toNat).val i) w.bytes with
  | .error st => s.ccRefuse k st
  | .ok p =>
    if s.region p.pa w.bytes = some .csr then s.ccCsrStore k (p.pa - csrBase) (u.g rd.toNat)
    else
      let (bs, bad) := u.stored w rd
      (s.storeAt k p bs bad).ccDo k fun u => u.storeEnd bad

/-! ## Ledger cores (R105, R162) -/

/-- LCn's registers changed. -/
def State.lcDo (s : State) (n : Nat) (f : Cpu → Cpu) : State := s.setLc n { s.lc n with cpu := f (s.lc n).cpu }

/-- LCn's instruction refused (R96). -/
def State.lcRefuse (s : State) (n : Nat) (st : Status) : State := s.lcDo n fun u => u.refused st

/-- A window of R105: its offset in data memory, its size, and whether loads and stores are permitted. -/
structure Win where
  off : Nat
  size : Nat
  loads : Bool
  stores : Bool

def lcWindow (w : Nat) : Win :=
  if w = 1 then ⟨0, 4096, true, true⟩
  else if w = 2 then ⟨0x1000, 1024, true, false⟩
  else if w = 3 then ⟨0x1400, 2048, false, false⟩
  else if w = 4 then ⟨0x1C00, 32, true, false⟩
  else if w = 5 then ⟨0x2000, 24576, true, false⟩
  else ⟨0x8000, 65536, true, true⟩

/-- The offset, an unbounded integer (R162). -/
def lcOffset (base : Word) (i : BitVec 12) : Int := base.toNat + i.toInt

/-- Checks 4 to 6 of R162. -/
def lcCheck (win : Win) (store : Bool) (off : Int) (n : Nat) : Option Status :=
  if off % n ≠ 0 then some .badAlign
  else if off < 0 ∨ (win.size : Int) < off + n then some .badAddress
  else if !(if store then win.stores else win.loads) then some .windowDenied
  else none

/-- Address of an offset in a window of LCn. -/
def lcAddr (n : Nat) (win : Win) (off : Int) : Nat := lcData n + win.off + off.toNat

/-- A window-relative access (R162): the checks, then `f` at the address. -/
def State.lcAccess (s : State) (n : Nat) (it : Item) (w : Width) (store : Bool) (win : BitVec 3) (rd a : RegNo) (i : BitVec 12)
    (f : Nat → State) : State :=
  let u := (s.lc n).cpu
  let x := u.g a.toNat
  if win = 0 ∨ win = 7 then s.lcIllegal n it
  else if !w.regOk rd then s.lcRefuse n .badRegister
  else if x.poison then s.lcRefuse n .poisoned
  else match lcCheck (lcWindow win.toNat) store (lcOffset x.val i) w.bytes with
  | some st => s.lcRefuse n st
  | none => f (lcAddr n (lcWindow win.toNat) (lcOffset x.val i))

/-- A window-relative load. -/
def State.lcLoad (s : State) (n : Nat) (it : Item) (w : Width) (win : BitVec 3) (rd a : RegNo) (i : BitVec 12) : State :=
  s.lcAccess n it w false win rd a i fun pa =>
    (s.touch pa w.bytes).lcDo n fun u => u.loadEnd w rd (s.bytes pa w.bytes) (s.poisonedIn pa w.bytes)

/-- A window-relative store. -/
def State.lcStore (s : State) (n : Nat) (it : Item) (w : Width) (win : BitVec 3) (rd a : RegNo) (i : BitVec 12) : State :=
  s.lcAccess n it w true win rd a i fun pa =>
    let (bs, bad) := (s.lc n).cpu.stored w rd
    ((s.correctEdges pa bs.length).writeP pa bs bad).lcDo n fun u => u.storeEnd bad

/-! ## The instructions -/

/-- LDB (R161). -/
def execLdb (k : Fin 4) (rd a : RegNo) (i : BitVec 12) (s : State) : Out := s.issueC k fun t => t.ccLoad k.val .byteS rd a i

/-- LDBU (R161). -/
def execLdbu (k : Fin 4) (rd a : RegNo) (i : BitVec 12) (s : State) : Out := s.issueC k fun t => t.ccLoad k.val .byteU rd a i

/-- LDH (R161). -/
def execLdh (k : Fin 4) (rd a : RegNo) (i : BitVec 12) (s : State) : Out := s.issueC k fun t => t.ccLoad k.val .halfS rd a i

/-- LDHU (R161). -/
def execLdhu (k : Fin 4) (rd a : RegNo) (i : BitVec 12) (s : State) : Out := s.issueC k fun t => t.ccLoad k.val .halfU rd a i

/-- LDW (R161). -/
def execLdw (k : Fin 4) (rd a : RegNo) (i : BitVec 12) (s : State) : Out := s.issueC k fun t => t.ccLoad k.val .word rd a i

/-- LDD (R161). -/
def execLdd (k : Fin 4) (rd a : RegNo) (i : BitVec 12) (s : State) : Out := s.issueC k fun t => t.ccLoad k.val .dword rd a i

/-- STB (R161). -/
def execStb (k : Fin 4) (rd a : RegNo) (i : BitVec 12) (s : State) : Out := s.issueC k fun t => t.ccStore k.val .byteS rd a i

/-- STH (R161). -/
def execSth (k : Fin 4) (rd a : RegNo) (i : BitVec 12) (s : State) : Out := s.issueC k fun t => t.ccStore k.val .halfS rd a i

/-- STW (R161). -/
def execStw (k : Fin 4) (rd a : RegNo) (i : BitVec 12) (s : State) : Out := s.issueC k fun t => t.ccStore k.val .word rd a i

/-- STD (R161). -/
def execStd (k : Fin 4) (rd a : RegNo) (i : BitVec 12) (s : State) : Out := s.issueC k fun t => t.ccStore k.val .dword rd a i

/-- LXB (R162). -/
def execLxb (n : Fin 64) (win : BitVec 3) (rd a : RegNo) (i : BitVec 12) (s : State) : Out := s.issueL n 1 fun it t => t.lcLoad n.val it .byteS win rd a i

/-- LXBU (R162). -/
def execLxbu (n : Fin 64) (win : BitVec 3) (rd a : RegNo) (i : BitVec 12) (s : State) : Out := s.issueL n 1 fun it t => t.lcLoad n.val it .byteU win rd a i

/-- LXH (R162). -/
def execLxh (n : Fin 64) (win : BitVec 3) (rd a : RegNo) (i : BitVec 12) (s : State) : Out := s.issueL n 1 fun it t => t.lcLoad n.val it .halfS win rd a i

/-- LXHU (R162). -/
def execLxhu (n : Fin 64) (win : BitVec 3) (rd a : RegNo) (i : BitVec 12) (s : State) : Out := s.issueL n 1 fun it t => t.lcLoad n.val it .halfU win rd a i

/-- LXW (R162). -/
def execLxw (n : Fin 64) (win : BitVec 3) (rd a : RegNo) (i : BitVec 12) (s : State) : Out := s.issueL n 1 fun it t => t.lcLoad n.val it .word win rd a i

/-- LXD (R162). -/
def execLxd (n : Fin 64) (win : BitVec 3) (rd a : RegNo) (i : BitVec 12) (s : State) : Out := s.issueL n 1 fun it t => t.lcLoad n.val it .dword win rd a i

/-- SXB (R162). -/
def execSxb (n : Fin 64) (win : BitVec 3) (rd a : RegNo) (i : BitVec 12) (s : State) : Out := s.issueL n 1 fun it t => t.lcStore n.val it .byteS win rd a i

/-- SXH (R162). -/
def execSxh (n : Fin 64) (win : BitVec 3) (rd a : RegNo) (i : BitVec 12) (s : State) : Out := s.issueL n 1 fun it t => t.lcStore n.val it .halfS win rd a i

/-- SXW (R162). -/
def execSxw (n : Fin 64) (win : BitVec 3) (rd a : RegNo) (i : BitVec 12) (s : State) : Out := s.issueL n 1 fun it t => t.lcStore n.val it .word win rd a i

/-- SXD (R162). -/
def execSxd (n : Fin 64) (win : BitVec 3) (rd a : RegNo) (i : BitVec 12) (s : State) : Out := s.issueL n 1 fun it t => t.lcStore n.val it .dword win rd a i

end Sys2Proof.Machine
end

