-- ==== Sys2Proof/Machine/CervikSys.lean ====
section
/-!
DEFINITION. The instructions of the control cores beside loads and stores: CSRs, fences, cache maintenance, WFI, ERET, special registers,
queues and sequence locks (R108, R128 to R140, R164 to R176).
-/

namespace Sys2Proof.Machine

/-! ## CSRR and CSRW (R164) -/

/-- CSRR (R164). -/
def execCsrr (k : Fin 4) (rd a : RegNo) (s : State) : Out := s.issueC k fun t =>
  let x := (t.cc k.val).cpu.g a.toNat
  if x.poison then t.ccRefuse k.val .poisoned
  else t.ccCsrLoad k.val x.val.toNat fun v u => (u.setG rd.toNat { val := w32 v }).finish .done

/-- CSRW (R164). -/
def execCsrw (k : Fin 4) (a b : RegNo) (s : State) : Out := s.issueC k fun t =>
  let x := (t.cc k.val).cpu.g a.toNat
  if x.poison then t.ccRefuse k.val .poisoned else t.ccCsrStore k.val x.val.toNat ((t.cc k.val).cpu.g b.toNat)

/-! ## FENCE and cache maintenance (R107, R108, R165) -/

/-- FENCE (R108): every earlier store becomes visible to every agent, those in dirty lines of the data cache included. -/
def execFence (k : Fin 4) (s : State) : Out := s.issueC k fun t => (t.cleanAll k.val).ccDo k.val Cpu.adv

/-- Maintenance of the line that holds an EA: the checks of a one-byte load with the right it needs; nothing on an uncached window
(R165). -/
def State.lineOp (s : State) (k : Nat) (right : Acc) (a : RegNo) (f : Nat → State) : State :=
  let x := (s.cc k).cpu.g a.toNat
  if x.poison then s.ccRefuse k .poisoned
  else match s.accessAs k right .load x.val.toNat 1 with
  | .error .badAlign => s.ccDo k fun u => u.finish .done
  | .error st => s.ccRefuse k st
  | .ok p => (if p.cache = 0 then s else f (p.pa / 64)).ccDo k fun u => u.finish .done

/-- CINV (R165). -/
def execCinv (k : Fin 4) (a : RegNo) (s : State) : Out := s.issueC k fun t => t.lineOp k.val .store a fun l => t.giveUp k.val l

/-- CCLEAN (R165). -/
def execCclean (k : Fin 4) (a : RegNo) (s : State) : Out := s.issueC k fun t => t.lineOp k.val .load a fun l => t.cleanOwn k.val l

/-- CFLUSH (R165). -/
def execCflush (k : Fin 4) (a : RegNo) (s : State) : Out := s.issueC k fun t =>
  t.lineOp k.val .load a fun l => (t.cleanOwn k.val l).giveUp k.val l

/-- IINV (R165). -/
def execIinv (k : Fin 4) (a : RegNo) (s : State) : Out := s.issueC k fun t => t.lineOp k.val .fetch a fun l =>
  t.setCc k.val { t.cc k.val with icache := setDel l (t.cc k.val).icache }

/-- CFLUSHA (R165): every line of the core's data cache. -/
def execCflusha (k : Fin 4) (s : State) : Out := s.issueC k fun t =>
  (t.dcache.foldl (fun (u : State) e => (u.cleanOwn k.val e.1).giveUp k.val e.1) t).ccDo k.val Cpu.adv

/-- IINVA (R165). -/
def execIinva (k : Fin 4) (s : State) : Out := s.issueC k fun t =>
  t.setCc k.val { t.cc k.val with icache := [], cpu := (t.cc k.val).cpu.adv }

/-! ## WFI, ERET, special registers (R166, R167, R170, R173, R174) -/

/-- WFI (R166): the core waits. -/
def execWfi (k : Fin 4) (s : State) : Out := s.issueC k fun t => t.setCc k.val { t.cc k.val with run := .wfi }

/-- WFI_WAKE (R166): with an enabled line pending the core goes on, into the handler when IE is 1. -/
def execWfiWake (k : Fin 4) (s : State) : Out := s.live <|
  let c := s.cc k.val
  .next (if c.run ≠ .wfi then s else
    match s.takenLine k.val with
    | none => s
    | some l => if c.ie then s.interrupt k.val l else s.setCc k.val { c with run := .run, cpu := c.cpu.adv })

/-- ERET (R170); illegal outside the handler. -/
def execEret (k : Fin 4) (s : State) : Out := s.issueC k fun t =>
  if (t.cc k.val).inh then t.setCc k.val (t.cc k.val).leave else t.ccIllegal k.val

/-- A special register's value (R167); DBELL, write-only, reads as zero. -/
def State.specialReg (s : State) (k n : Nat) : Option Word :=
  let c := s.cc k
  match n with
  | 0 => some c.evec
  | 1 => some c.epc
  | 2 => some c.ecause
  | 3 => some c.eaddr
  | 4 => some c.estate
  | 5 => some c.imask
  | 6 => some (w32 (s.ipend k))
  | 7 => some 0
  | 8 => some c.scratch
  | _ => none

/-- MFSR (R167). -/
def execMfsr (k : Fin 4) (rd : RegNo) (n : BitVec 5) (s : State) : Out := s.issueC k fun t =>
  match t.specialReg k.val n.toNat with
  | some v => t.ccDo k.val fun u => (u.setG rd.toNat { val := v }).finish .done
  | none => t.ccRefuse k.val .badArgument

/-- DBELL written by CCk (R174): bits 11 to 8 clear its own lines, then bits 3 to 0 ring the cores. -/
def State.ring (s : State) (k v : Nat) : State :=
  let t := s.setCc k { s.cc k with bell := (s.cc k).bell &&& (15 ^^^ bits v 8 4) }
  (List.range 4).foldl (fun (u : State) j => if bit v j then u.setCc j { u.cc j with bell := (u.cc j).bell ||| 2 ^ k } else u) t

/-- A special register written (R167); `none` for one that is read-only or not there. -/
def State.setSpecial (s : State) (k n : Nat) (v : Word) : Option State :=
  let c := s.cc k
  match n with
  | 0 => some (s.setCc k { c with evec := v &&& 0xFFFFFFFC })
  | 1 => some (s.setCc k { c with epc := v })
  | 4 => some (s.setCc k { c with estate := (v &&& 3) ||| (c.estate &&& 4) })
  | 5 => some (s.setCc k { c with imask := v })
  | 7 => some (s.ring k v.toNat)
  | 8 => some (s.setCc k { c with scratch := v })
  | _ => none

/-- MTSR (R167). -/
def execMtsr (k : Fin 4) (a : RegNo) (n : BitVec 5) (s : State) : Out := s.issueC k fun t =>
  let x := (t.cc k.val).cpu.g a.toNat
  match t.setSpecial k.val n.toNat x.val with
  | some t' => t'.ccDo k.val fun u => u.storeEnd x.poison
  | none => t.ccRefuse k.val .badArgument

/-! ## Queues (R128 to R134, R175) -/

/-- The checks of a queue instruction before the queue's own (R175). -/
def State.queueCheck (s : State) (ra : RegNo) (q : Nat) (takes : Bool) : Option Status :=
  if !eightOk ra then some .badRegister
  else if 127 < q ∨ !s.qEn q ∨ (takes ∧ q = 0) then some .badQueue
  else none

/-- ENQ (R108, R129, R175): every earlier store is visible before the descriptor. -/
def execEnq (k : Fin 4) (ra : RegNo) (q : BitVec 8) (s : State) : Out := s.issueC k fun t =>
  match t.queueCheck ra q.toNat false with
  | some st => t.ccRefuse k.val st
  | none =>
    if t.qFull q.toNat then (t.bump (fQREF_REF q.toNat) 1).ccRefuse k.val .qfull
    else
      let d := (t.cc k.val).cpu.gs ra.toNat 8
      (((t.cleanAll k.val).enqueue q.toNat d).ccDo k.val fun u => u.storeEnd (d.any (·.poison))).serve q.toNat

/-- The oldest descriptor taken by CCk. -/
def State.deqTake (s : State) (k : Nat) (ra : RegNo) (q : Nat) : State :=
  let d := s.front q
  (s.dequeued q).ccDo k fun u => u.deqDone ra.toNat d

/-- DEQ (R130, R175): on an empty queue the core stalls, last in line. -/
def execDeq (k : Fin 4) (ra : RegNo) (q : BitVec 8) (s : State) : Out := s.issueC k fun t =>
  match t.queueCheck ra q.toNat true with
  | some st => t.ccRefuse k.val st
  | none =>
    let Q := t.queue q.toNat
    if Q.count = 0 then
      (t.setQueue q.toNat { Q with stalled := Q.stalled ++ [k.val] }).setCc k.val { t.cc k.val with run := .deq q.toNat ra.toNat }
    else t.deqTake k.val ra q.toNat

/-- DEQ_STALL_RESUME (R130): the first stalled consumer of a queue that holds a descriptor. -/
def execDeqStallResume (q : Fin 128) (s : State) : Out := s.live <| .next (s.serveOne q.val)

/-- DEQT (R130, R175). -/
def execDeqt (k : Fin 4) (ra : RegNo) (q : BitVec 8) (s : State) : Out := s.issueC k fun t =>
  match t.queueCheck ra q.toNat true with
  | some st => t.ccRefuse k.val st
  | none => if (t.queue q.toNat).count = 0 then t.ccRefuse k.val .qempty else t.deqTake k.val ra q.toNat

/-! ## Sequence locks (R137, R176) -/

/-- A cell taken: HELD by CCk, SEQ raised unless the cell was BROKEN (R137). -/
def State.lockTaken (s : State) (k : Nat) (ra : RegNo) (n : Nat) : State :=
  let L := s.lock n
  let brk := L.st = .broken
  let seq := if brk then L.seq else L.seq + 1
  (s.setLock n { L with st := .held, owner := k, seq := seq }).ccDo k fun u => u.lockDone ra.toNat seq brk

/-- LOCK and LOCKT, as the table of R137 says. -/
def State.lockOp (s : State) (k : Nat) (ra : RegNo) (n : Nat) (stall : Bool) : State :=
  let L := s.lock n
  if L.st ≠ .held then s.lockTaken k ra n
  else if L.owner = k then s.ccRefuse k .lockRecursive
  else if stall then (s.setLock n { L with waiters := L.waiters ++ [k] }).setCc k { s.cc k with run := .lock n ra.toNat }
  else s.ccRefuse k .lockHeld

/-- LOCK (R137, R176). -/
def execLock (k : Fin 4) (ra : RegNo) (n : BitVec 8) (s : State) : Out := s.issueC k fun t => t.lockOp k.val ra n.toNat true

/-- LOCK_GRANT (R137, R138, R140): the first waiter of a cell that is FREE or BROKEN. -/
def execLockGrant (n : BitVec 8) (s : State) : Out := s.live <| .next (s.lockGrant n.toNat)

/-- LOCKT (R137, R176). -/
def execLockt (k : Fin 4) (ra : RegNo) (n : BitVec 8) (s : State) : Out := s.issueC k fun t => t.lockOp k.val ra n.toNat false

/-- UNLOCK (R108, R137): every earlier store is visible before the release. -/
def execUnlock (k : Fin 4) (n : BitVec 8) (s : State) : Out := s.issueC k fun t =>
  let L := t.lock n.toNat
  if L.st = .held ∧ L.owner = k.val then
    (((t.cleanAll k.val).setLock n.toNat { L with st := .free, seq := L.seq + 1 }).ccDo k.val fun u => u.finish .done).lockGrant n.toNat
  else t.ccRefuse k.val .notOwner

end Sys2Proof.Machine
end

