-- ==== Sys2Proof/Machine/CervikLedger.lean ====
section
/-!
DEFINITION. The ledger instructions: TACK, PRESS, MAXD, SATADD, EMIT, WAITW and DONE (R177 to R187).
-/

namespace Sys2Proof.Machine

/-! ## The tack list (R177, R178) -/

/-- Address of W2, and of its entries. -/
def lcW2 (n : Nat) : Nat := lcData n + 0x1000
def tackAt (a i : Nat) : Nat := a + 16 + 24 * i

/-- An entry of the tack list. -/
structure Tack where
  time : Nat
  value : Int
  code : Nat
  flags : Nat
  mseq : Nat
  deriving DecidableEq, Repr

/-- The entry at an address. -/
def State.tackEntry (s : State) (e : Nat) : Tack :=
  ⟨s.peek e 8, sx (s.peek (e + 8) 8) 64, s.peek (e + 16) 2, s.peek (e + 18) 2, s.peek (e + 20) 4⟩

def Tack.bytes (t : Tack) : List Byte :=
  leBytes 8 t.time ++ leBytes 8 (cut 64 t.value) ++ leBytes 2 t.code ++ leBytes 2 t.flags ++ leBytes 4 t.mseq

/-- The same key (R178). -/
def Tack.sameKey (a b : Tack) : Bool := a.time = b.time && a.code = b.code && a.value = b.value

/-- Canonical order: by TIME, CODE, VALUE (R178). -/
def Tack.before (a b : Tack) : Bool :=
  a.time < b.time || (a.time = b.time && (a.code < b.code || (a.code = b.code && decide (a.value < b.value))))

/-- The entry a group of registers supplies, CONFLICT clear (R178). -/
def tackOf (g : List GReg) : Tack :=
  let r := fun i => (g.getD i {}).val.toNat
  ⟨r 0 + 2 ^ 32 * r 1, sx (r 2 + 2 ^ 32 * r 3) 64, r 4 % 2 ^ 16, r 4 / 2 ^ 16 % 2 ^ 15, r 5⟩

/-- Granules of a range poisoned when a source was (R112, R180). -/
def State.poisonIf (s : State) (a n : Nat) (bad : Bool) : State :=
  if bad then { s with poison := (granules a n).foldl (fun l g => setIns g l) s.poison } else s

/-- A duplicate merged: FLAGS joined, the higher MSEQ kept (R178). -/
def State.tackMerge (s : State) (e : Nat) (t : Tack) (bad : Bool) : State :=
  let old := s.tackEntry e
  ((s.poke (e + 18) 2 (old.flags ||| t.flags)).poke (e + 20) 4 (max old.mseq t.mseq)).poisonIf e 24 bad

/-- CONFLICT set on every entry of a TIME and CODE. -/
def State.tackConflict (s : State) (a : Nat) (hits : List Nat) : State :=
  hits.foldl (fun (u : State) i => u.poke (tackAt a i + 18) 2 (u.peek (tackAt a i + 18) 2 ||| 0x8000)) s

/-- A new entry put at its canonical place (R178). -/
def State.tackInsert (s : State) (a cnt pos : Nat) (t : Tack) (bad : Bool) : State :=
  let moved := s.copyMem (tackAt a pos) (tackAt a (pos + 1)) (24 * (cnt - pos))
  (moved.writeP (tackAt a pos) t.bytes bad).poke a 2 (cnt + 1)

/-- TACK reads poison: in COUNT, or in an entry it compares with (R110, notes/assumptions/59.md). -/
def State.tackBad (s : State) (a : Nat) : Bool := s.poisonedIn a 8 || s.poisonedIn (tackAt a 0) (24 * tackCount s a)

/-- TACK on LCn with the entry of a group (R110, R178, R180); `bad` is a poisoned operand. -/
def State.tackOp (s : State) (n : Nat) (t : Tack) (bad : Bool) : State :=
  let a := lcW2 n
  let cnt := tackCount s a
  let ents := (List.range cnt).map fun i => s.tackEntry (tackAt a i)
  let ps := bad || s.tackBad a
  let fin := fun (u : State) (z c : Bool) =>
    u.lcDo n fun p => (((p.setFlag flZ z).setFlag flN c).ps ps).finish (if ps then .warn .poisoned else .done)
  match ents.findIdx? (t.sameKey ·) with
  | some i => fin (s.tackMerge (tackAt a i) t bad) true false
  | none =>
    if cnt = 42 then s.lcRefuse n .tackFull
    else
      let hits := (List.range cnt).filter fun i => (ents.getD i t).time = t.time && (ents.getD i t).code = t.code
      let c := !hits.isEmpty
      let pos := (ents.filter (·.before t)).length
      let new := { t with flags := if c then t.flags ||| 0x8000 else t.flags }
      fin ((s.tackConflict a hits).tackInsert a cnt pos new bad) false c

/-- TACK (R178 to R180). -/
def execTack (n : Fin 64) (ra : RegNo) (s : State) : Out := s.issueL n 48 fun _ t =>
  if !eightOk ra then t.lcRefuse n.val .badRegister
  else
    let g := (t.lc n.val).cpu.gs ra.toNat 6
    (t.touch (lcW2 n.val) 1024).tackOp n.val (tackOf g) (g.any (·.poison))

/-! ## PRESS (R181) -/

/-- Entries with TIME below a boundary: a prefix of the list. -/
def State.pressCount (s : State) (a bound : Nat) : Nat :=
  ((List.range (tackCount s a)).takeWhile fun i => decide (tackTime s a i < bound)).length

/-- PRESS has consumed poison (R181): in an entry it moves, to W6 or to the front of W2, or in the TIME that ends the prefix. -/
def State.pressBad (s : State) (a m : Nat) : Bool :=
  (decide (m ≠ 0) && s.poisonedIn (tackAt a 0) (24 * tackCount s a)) || (decide (m < tackCount s a) && s.poisonedIn (tackAt a m) 8)

/-- The prefix moved to W6, the rest to the front of W2. -/
def State.pressMove (s : State) (a dst m : Nat) : State :=
  let cnt := tackCount s a
  let t := s.copyMem (tackAt a 0) dst (24 * m)
  let u := t.copyMem (tackAt a m) (tackAt a 0) (24 * (cnt - m))
  (u.clearMem (tackAt a (cnt - m)) (24 * m)).poke a 2 (cnt - m)

/-- PRESS (R181): the destination is n8 × 256 in W6. -/
def execPress (n : Fin 64) (ra rb : RegNo) (dst : BitVec 8) (s : State) : Out := s.issueL n 128 fun _ t =>
  let u := (t.lc n.val).cpu
  let a := lcW2 n.val
  let m := t.pressCount a (u.pair rb.toNat)
  if !pairOk rb then t.lcRefuse n.val .badRegister
  else if 65536 < dst.toNat * 256 + 24 * m then t.lcRefuse n.val .badAddress
  else
    let bad := u.pairBad rb.toNat || t.pressBad a m
    (((t.touch a 1024).pressMove a (lcW6 n.val + dst.toNat * 256) m)).lcDo n.val fun p =>
      ((p.setG ra.toNat { val := w32 m, poison := bad }).ps bad).finish (if bad then .warn .poisoned else .done)

/-! ## MAXD and SATADD (R182) -/

/-- Checks 2 to 5 of R182 on a cell of a size in W1. -/
def Cpu.cellCheck (u : Cpu) (groupFits : Bool) (ra : RegNo) (size : Nat) : Option Status :=
  if !groupFits then some .badRegister
  else if (u.g ra.toNat).poison then some .poisoned
  else if (u.g ra.toNat).val.toNat % size ≠ 0 then some .badAlign
  else if 4096 < (u.g ra.toNat).val.toNat + size then some .badAddress
  else none

/-- The end of MAXD and SATADD. -/
def Cpu.cellEnd (u : Cpu) (bad : Bool) : Cpu := (u.ps bad).finish (if bad then .warn .poisoned else .done)

/-- MAXD (R182). -/
def execMaxd (n : Fin 64) (ra rb : RegNo) (s : State) : Out := s.issueL n 4 fun _ t =>
  let u := (t.lc n.val).cpu
  match u.cellCheck (groupOk rb) ra 16 with
  | some st => t.lcRefuse n.val st
  | none =>
    let pa := lcData n.val + (u.g ra.toNat).val.toNat
    let v := u.pair rb.toNat
    let tm := u.pair (rb.toNat + 2)
    let cv := sx (t.peek pa 8) 64
    let bad := u.pairBad rb.toNat || u.pairBad (rb.toNat + 2) || t.poisonedIn pa 16
    let c := decide (cv < sx v 64 ∨ (sx v 64 = cv ∧ tm < t.peek (pa + 8) 8))
    let t1 := t.touch pa 16
    (if c then t1.writeP pa (leBytes 8 v ++ leBytes 8 tm) bad else t1).lcDo n.val fun p => (p.setFlag flC c).cellEnd bad

/-- SATADD (R182). -/
def execSatadd (n : Fin 64) (ra rb : RegNo) (s : State) : Out := s.issueL n 3 fun _ t =>
  let u := (t.lc n.val).cpu
  match u.cellCheck (pairOk rb) ra 8 with
  | some st => t.lcRefuse n.val st
  | none =>
    let pa := lcData n.val + (u.g ra.toNat).val.toNat
    let sum := sx (t.peek pa 8) 64 + sx (u.pair rb.toNat) 64
    let acc := clampS 64 sum
    let bad := u.pairBad rb.toNat || t.poisonedIn pa 8
    ((t.touch pa 8).writeP pa (leBytes 8 (cut 64 acc)) bad).lcDo n.val fun p =>
      (((p.setFlag flV (acc ≠ sum)).setFlag flZ (acc = 0)).setFlag flN (decide (acc < 0))).cellEnd bad

/-! ## EMIT (R183, R184) -/

/-- The checks of EMIT in R183's order. -/
def LCore.emitCheck (c : LCore) (ra rb : RegNo) : Option Status :=
  let x := c.cpu.g ra.toNat
  let len := (c.cpu.g rb.toNat).val.toNat
  if x.poison then some .poisoned
  else if len % 8 ≠ 0 ∨ len < 8 ∨ 256 < len then some .badArgument
  else if x.val.toNat % 8 ≠ 0 then some .badAlign
  else if 65536 < x.val.toNat + len then some .badAddress
  else if 32 ≤ c.emits.length ∨ 2048 < (c.emits.map (·.len)).sum + len then some .emitFull
  else none

/-- EMIT (R183, R184): the body copied to W3, the record's length, type and PS kept beside it. -/
def execEmit (n : Fin 64) (ra rb : RegNo) (typ : BitVec 8) (s : State) : Out := s.issueL n 16 fun _ t =>
  let c := t.lc n.val
  match c.emitCheck ra rb with
  | some st => t.lcRefuse n.val st
  | none =>
    let body := lcW6 n.val + (c.cpu.g ra.toNat).val.toNat
    let len := (c.cpu.g rb.toNat).val.toNat
    let off := (c.emits.map (·.len)).sum
    let bad := t.poisonedIn body len
    let u := c.cpu.ps (bad || (c.cpu.g rb.toNat).poison)
    ((t.touch body len).copyMem body (lcW3 n.val + off) len).setLc n.val { c with
      cpu := u.finish (if bad then .warn .poisoned else .done)
      emits := c.emits ++ [⟨off, len, typ.toNat, u.flag flPS⟩] }

/-! ## WAITW and DONE (R120, R122, R185, R186) -/

/-- A ledger core without an item waits. -/
def State.lcWait (s : State) (n : Nat) : State :=
  if (s.lc n).run = .idle then s.setLc n { s.lc n with run := .waiting } else s

/-- WAITW (R185): with an item it is illegal and fails it. -/
def execWaitw (n : Fin 64) (s : State) : Out := s.live <|
  .next (if (s.lc n.val).item.isSome then s.onLc n.val 1 fun it t => t.lcIllegal n.val it else s.lcWait n.val)

/-- DONE (R186). -/
def execDone (n : Fin 64) (s : State) : Out := s.live <|
  .next (if (s.lc n.val).item.isSome then s.onLc n.val 1 fun it t => t.itemDone n.val it else s.lcWait n.val)

end Sys2Proof.Machine
end

