-- ==== Sys2Proof/Machine/Dispatch.lean ====
section
/-!
DEFINITION. The dispatch: one arm for each command, each one call of its meaning.
-/

namespace Sys2Proof.Machine

def exec (i : Instr) (s : State) : Host.Outcome State Fault Refusal :=
  match i with
  | .csrWrite a csr v => Sys2Proof.Machine.execCsrWrite a csr v s
  | .csrSnapshotRead a csr => Sys2Proof.Machine.execCsrSnapshotRead a csr s
  | .rcRead a csr => Sys2Proof.Machine.execRcRead a csr s
  | .fenceRequest a v => Sys2Proof.Machine.execFenceRequest a v s
  | .fenceTakeEffect n => Sys2Proof.Machine.execFenceTakeEffect n s
  | .reportMergeTurn => Sys2Proof.Machine.execReportMergeTurn s
  | .por => Sys2Proof.Machine.execPor s
  | .bor => Sys2Proof.Machine.execBor s
  | .extReset => Sys2Proof.Machine.execExtReset s
  | .swresetNormal a => Sys2Proof.Machine.execSwresetNormal a s
  | .swresetRecovery a => Sys2Proof.Machine.execSwresetRecovery a s
  | .swresetStandby a => Sys2Proof.Machine.execSwresetStandby a s
  | .bootStart op => Sys2Proof.Machine.execBootStart op s
  | .roleDecision clash => Sys2Proof.Machine.execRoleDecision clash s
  | .modeRequest a v => Sys2Proof.Machine.execModeRequest a v s
  | .pfailSequence => Sys2Proof.Machine.execPfailSequence s
  | .pfailRecoveryBor => Sys2Proof.Machine.execPfailRecoveryBor s
  | .lpctlQuiet a => Sys2Proof.Machine.execLpctlQuiet a s
  | .lpctlRun a => Sys2Proof.Machine.execLpctlRun a s
  | .lpctlSleep a => Sys2Proof.Machine.execLpctlSleep a s
  | .sleepWake w => Sys2Proof.Machine.execSleepWake w s
  | .coreWdgFirstExpiry => Sys2Proof.Machine.execCoreWdgFirstExpiry s
  | .coreWdgSecondExpiry => Sys2Proof.Machine.execCoreWdgSecondExpiry s
  | .wdtKick a v => Sys2Proof.Machine.execWdtKick a v s
  | .aonWdgExpiry => Sys2Proof.Machine.execAonWdgExpiry s
  | .dispatchStall => Sys2Proof.Machine.execDispatchStall s
  | .illegalOpcode c w => Sys2Proof.Machine.execIllegalOpcode c w s
  | .add c rd rs1 rs2 => Sys2Proof.Machine.execAdd c rd rs1 rs2 s
  | .sub c rd rs1 rs2 => Sys2Proof.Machine.execSub c rd rs1 rs2 s
  | .andR c rd rs1 rs2 => Sys2Proof.Machine.execAndR c rd rs1 rs2 s
  | .orR c rd rs1 rs2 => Sys2Proof.Machine.execOrR c rd rs1 rs2 s
  | .xorR c rd rs1 rs2 => Sys2Proof.Machine.execXorR c rd rs1 rs2 s
  | .sll c rd rs1 rs2 => Sys2Proof.Machine.execSll c rd rs1 rs2 s
  | .srl c rd rs1 rs2 => Sys2Proof.Machine.execSrl c rd rs1 rs2 s
  | .sra c rd rs1 rs2 => Sys2Proof.Machine.execSra c rd rs1 rs2 s
  | .slt c rd rs1 rs2 => Sys2Proof.Machine.execSlt c rd rs1 rs2 s
  | .sltu c rd rs1 rs2 => Sys2Proof.Machine.execSltu c rd rs1 rs2 s
  | .mul c rd rs1 rs2 => Sys2Proof.Machine.execMul c rd rs1 rs2 s
  | .mulhu c rd rs1 rs2 => Sys2Proof.Machine.execMulhu c rd rs1 rs2 s
  | .mulhs c rd rs1 rs2 => Sys2Proof.Machine.execMulhs c rd rs1 rs2 s
  | .divu c rd rs1 rs2 => Sys2Proof.Machine.execDivu c rd rs1 rs2 s
  | .divs c rd rs1 rs2 => Sys2Proof.Machine.execDivs c rd rs1 rs2 s
  | .remu c rd rs1 rs2 => Sys2Proof.Machine.execRemu c rd rs1 rs2 s
  | .rems c rd rs1 rs2 => Sys2Proof.Machine.execRems c rd rs1 rs2 s
  | .min c rd rs1 rs2 => Sys2Proof.Machine.execMin c rd rs1 rs2 s
  | .max c rd rs1 rs2 => Sys2Proof.Machine.execMax c rd rs1 rs2 s
  | .minu c rd rs1 rs2 => Sys2Proof.Machine.execMinu c rd rs1 rs2 s
  | .maxu c rd rs1 rs2 => Sys2Proof.Machine.execMaxu c rd rs1 rs2 s
  | .getfl c rd => Sys2Proof.Machine.execGetfl c rd s
  | .setfl c rs1 => Sys2Proof.Machine.execSetfl c rs1 s
  | .adds c rd rs1 rs2 => Sys2Proof.Machine.execAdds c rd rs1 rs2 s
  | .adc c rd rs1 rs2 => Sys2Proof.Machine.execAdc c rd rs1 rs2 s
  | .subs c rd rs1 rs2 => Sys2Proof.Machine.execSubs c rd rs1 rs2 s
  | .sbc c rd rs1 rs2 => Sys2Proof.Machine.execSbc c rd rs1 rs2 s
  | .cmp c rs1 rs2 => Sys2Proof.Machine.execCmp c rs1 rs2 s
  | .addi c rd rs1 imm => Sys2Proof.Machine.execAddi c rd rs1 imm s
  | .andi c rd rs1 imm => Sys2Proof.Machine.execAndi c rd rs1 imm s
  | .ori c rd rs1 imm => Sys2Proof.Machine.execOri c rd rs1 imm s
  | .xori c rd rs1 imm => Sys2Proof.Machine.execXori c rd rs1 imm s
  | .slti c rd rs1 imm => Sys2Proof.Machine.execSlti c rd rs1 imm s
  | .sltiu c rd rs1 imm => Sys2Proof.Machine.execSltiu c rd rs1 imm s
  | .slli c rd rs1 amount => Sys2Proof.Machine.execSlli c rd rs1 amount s
  | .srli c rd rs1 amount => Sys2Proof.Machine.execSrli c rd rs1 amount s
  | .srai c rd rs1 amount => Sys2Proof.Machine.execSrai c rd rs1 amount s
  | .cmpi c rs1 imm => Sys2Proof.Machine.execCmpi c rs1 imm s
  | .movh c rd imm => Sys2Proof.Machine.execMovh c rd imm s
  | .pcadr c rd imm => Sys2Proof.Machine.execPcadr c rd imm s
  | .beq c rs1 rs2 off => Sys2Proof.Machine.execBeq c rs1 rs2 off s
  | .bne c rs1 rs2 off => Sys2Proof.Machine.execBne c rs1 rs2 off s
  | .blt c rs1 rs2 off => Sys2Proof.Machine.execBlt c rs1 rs2 off s
  | .bge c rs1 rs2 off => Sys2Proof.Machine.execBge c rs1 rs2 off s
  | .bltu c rs1 rs2 off => Sys2Proof.Machine.execBltu c rs1 rs2 off s
  | .bgeu c rs1 rs2 off => Sys2Proof.Machine.execBgeu c rs1 rs2 off s
  | .bfs c off => Sys2Proof.Machine.execBfs c off s
  | .bfc c off => Sys2Proof.Machine.execBfc c off s
  | .bws c off => Sys2Proof.Machine.execBws c off s
  | .bcs c off => Sys2Proof.Machine.execBcs c off s
  | .bcc c off => Sys2Proof.Machine.execBcc c off s
  | .bzs c off => Sys2Proof.Machine.execBzs c off s
  | .bvs c off => Sys2Proof.Machine.execBvs c off s
  | .bps c off => Sys2Proof.Machine.execBps c off s
  | .jmp c imm => Sys2Proof.Machine.execJmp c imm s
  | .call c imm => Sys2Proof.Machine.execCall c imm s
  | .jr c rs1 => Sys2Proof.Machine.execJr c rs1 s
  | .callr c rs1 => Sys2Proof.Machine.execCallr c rs1 s
  | .ldb k rd rs1 imm => Sys2Proof.Machine.execLdb k rd rs1 imm s
  | .ldbu k rd rs1 imm => Sys2Proof.Machine.execLdbu k rd rs1 imm s
  | .ldh k rd rs1 imm => Sys2Proof.Machine.execLdh k rd rs1 imm s
  | .ldhu k rd rs1 imm => Sys2Proof.Machine.execLdhu k rd rs1 imm s
  | .ldw k rd rs1 imm => Sys2Proof.Machine.execLdw k rd rs1 imm s
  | .ldd k rd rs1 imm => Sys2Proof.Machine.execLdd k rd rs1 imm s
  | .stb k rd rs1 imm => Sys2Proof.Machine.execStb k rd rs1 imm s
  | .sth k rd rs1 imm => Sys2Proof.Machine.execSth k rd rs1 imm s
  | .stw k rd rs1 imm => Sys2Proof.Machine.execStw k rd rs1 imm s
  | .std k rd rs1 imm => Sys2Proof.Machine.execStd k rd rs1 imm s
  | .lxb n win rd rs1 imm => Sys2Proof.Machine.execLxb n win rd rs1 imm s
  | .lxbu n win rd rs1 imm => Sys2Proof.Machine.execLxbu n win rd rs1 imm s
  | .lxh n win rd rs1 imm => Sys2Proof.Machine.execLxh n win rd rs1 imm s
  | .lxhu n win rd rs1 imm => Sys2Proof.Machine.execLxhu n win rd rs1 imm s
  | .lxw n win rd rs1 imm => Sys2Proof.Machine.execLxw n win rd rs1 imm s
  | .lxd n win rd rs1 imm => Sys2Proof.Machine.execLxd n win rd rs1 imm s
  | .sxb n win rd rs1 imm => Sys2Proof.Machine.execSxb n win rd rs1 imm s
  | .sxh n win rd rs1 imm => Sys2Proof.Machine.execSxh n win rd rs1 imm s
  | .sxw n win rd rs1 imm => Sys2Proof.Machine.execSxw n win rd rs1 imm s
  | .sxd n win rd rs1 imm => Sys2Proof.Machine.execSxd n win rd rs1 imm s
  | .csrr k rd rs1 => Sys2Proof.Machine.execCsrr k rd rs1 s
  | .csrw k rs1 rs2 => Sys2Proof.Machine.execCsrw k rs1 rs2 s
  | .fence k => Sys2Proof.Machine.execFence k s
  | .cinv k rs1 => Sys2Proof.Machine.execCinv k rs1 s
  | .cclean k rs1 => Sys2Proof.Machine.execCclean k rs1 s
  | .cflush k rs1 => Sys2Proof.Machine.execCflush k rs1 s
  | .iinv k rs1 => Sys2Proof.Machine.execIinv k rs1 s
  | .cflusha k => Sys2Proof.Machine.execCflusha k s
  | .iinva k => Sys2Proof.Machine.execIinva k s
  | .wfi k => Sys2Proof.Machine.execWfi k s
  | .wfiWake k => Sys2Proof.Machine.execWfiWake k s
  | .eret k => Sys2Proof.Machine.execEret k s
  | .mfsr k rd n => Sys2Proof.Machine.execMfsr k rd n s
  | .mtsr k rs1 n => Sys2Proof.Machine.execMtsr k rs1 n s
  | .interruptTake k => Sys2Proof.Machine.execInterruptTake k s
  | .enq k ra q => Sys2Proof.Machine.execEnq k ra q s
  | .deq k ra q => Sys2Proof.Machine.execDeq k ra q s
  | .deqStallResume q => Sys2Proof.Machine.execDeqStallResume q s
  | .deqt k ra q => Sys2Proof.Machine.execDeqt k ra q s
  | .lock k ra n => Sys2Proof.Machine.execLock k ra n s
  | .lockGrant n => Sys2Proof.Machine.execLockGrant n s
  | .lockt k ra n => Sys2Proof.Machine.execLockt k ra n s
  | .unlock k n => Sys2Proof.Machine.execUnlock k n s
  | .tack n ra => Sys2Proof.Machine.execTack n ra s
  | .press n ra rb dst => Sys2Proof.Machine.execPress n ra rb dst s
  | .maxd n ra rb => Sys2Proof.Machine.execMaxd n ra rb s
  | .satadd n ra rb => Sys2Proof.Machine.execSatadd n ra rb s
  | .emit n ra rb typ => Sys2Proof.Machine.execEmit n ra rb typ s
  | .waitw n => Sys2Proof.Machine.execWaitw n s
  | .done n => Sys2Proof.Machine.execDone n s
  | .dispatchGrant => Sys2Proof.Machine.execDispatchGrant s
  | .dispatcherQ0Take => Sys2Proof.Machine.execDispatcherQ0Take s
  | .hwEnqueue q d => Sys2Proof.Machine.execHwEnqueue q d s
  | .qcfgWrite a q v => Sys2Proof.Machine.execQcfgWrite a q v s
  | .queueFlush a q => Sys2Proof.Machine.execQueueFlush a q s
  | .pressTick => Sys2Proof.Machine.execPressTick s
  | .markerJournaled => Sys2Proof.Machine.execMarkerJournaled s
  | .programRetire n => Sys2Proof.Machine.execProgramRetire n s
  | .programLoad a => Sys2Proof.Machine.execProgramLoad a s
  | .rebuildGo a epi => Sys2Proof.Machine.execRebuildGo a epi s
  | .rebuildRelease a => Sys2Proof.Machine.execRebuildRelease a s
  | .ldgreplayWrite a k => Sys2Proof.Machine.execLdgreplayWrite a k s
  | .replayEntryApply a addr => Sys2Proof.Machine.execReplayEntryApply a addr s
  | .detbrkDaily => Sys2Proof.Machine.execDetbrkDaily s
  | .detbrkClear a => Sys2Proof.Machine.execDetbrkClear a s
  | .ingestCommand => Sys2Proof.Machine.execIngestCommand s
  | .sampleLatch codes => Sys2Proof.Machine.execSampleLatch codes s
  | .metrologyIntervalClose => Sys2Proof.Machine.execMetrologyIntervalClose s
  | .referenceCheck ppm => Sys2Proof.Machine.execReferenceCheck ppm s
  | .topoSelect a sel => Sys2Proof.Machine.execTopoSelect a sel s
  | .plFrameReceive t h => Sys2Proof.Machine.execPlFrameReceive t h s
  | .plTxQueue src => Sys2Proof.Machine.execPlTxQueue src s
  | .driverRequest p => Sys2Proof.Machine.execDriverRequest p s
  | .driverGrant => Sys2Proof.Machine.execDriverGrant s
  | .driverRelease p => Sys2Proof.Machine.execDriverRelease p s
  | .driverMaxdeferExpiry p => Sys2Proof.Machine.execDriverMaxdeferExpiry p s
  | .plAccessSlot p => Sys2Proof.Machine.execPlAccessSlot p s
  | .plAckSend t => Sys2Proof.Machine.execPlAckSend t s
  | .plAckReceive p fch => Sys2Proof.Machine.execPlAckReceive p fch s
  | .plAckTimeout p => Sys2Proof.Machine.execPlAckTimeout p s
  | .toneMapExpiry n => Sys2Proof.Machine.execToneMapExpiry n s
  | .rfDetection n d ds => Sys2Proof.Machine.execRfDetection n d ds s
  | .rfFrameDeliver n idx h => Sys2Proof.Machine.execRfFrameDeliver n idx h s
  | .rfAckSend n => Sys2Proof.Machine.execRfAckSend n s
  | .superframeStart => Sys2Proof.Machine.execSuperframeStart s
  | .rfRunTransmit n => Sys2Proof.Machine.execRfRunTransmit n s
  | .rfTxTimeout n => Sys2Proof.Machine.execRfTxTimeout n s
  | .slotSwapRequest a n => Sys2Proof.Machine.execSlotSwapRequest a n s
  | .beaconReceive psdu ago => Sys2Proof.Machine.execBeaconReceive psdu ago s
  | .beaconWindowClose => Sys2Proof.Machine.execBeaconWindowClose s
  | .floodRelayEligible n k => Sys2Proof.Machine.execFloodRelayEligible n k s
  | .floodOriginate dst payload => Sys2Proof.Machine.execFloodOriginate dst payload s
  | .lintTrapSweep => Sys2Proof.Machine.execLintTrapSweep s
  | .sleepySend n => Sys2Proof.Machine.execSleepySend n s
  | .rfRealign n => Sys2Proof.Machine.execRfRealign n s
  | .kepUplinkFrame p frame => Sys2Proof.Machine.execKepUplinkFrame p frame s
  | .kepAckSend n => Sys2Proof.Machine.execKepAckSend n s
  | .kepAckDrop n => Sys2Proof.Machine.execKepAckDrop n s
  | .downlinkFrameSend slot key mt id body p => Sys2Proof.Machine.execDownlinkFrameSend slot key mt id body p s
  | .keyUpdateSend epi p => Sys2Proof.Machine.execKeyUpdateSend epi p s
  | .ceilingRaise slot key => Sys2Proof.Machine.execCeilingRaise slot key s
  | .dlmsApdu epi apdu caps p => Sys2Proof.Machine.execDlmsApdu epi apdu caps p s
  | .relayEnvelopeReceive b => Sys2Proof.Machine.execRelayEnvelopeReceive b s
  | .relayDownlinkTransmit n => Sys2Proof.Machine.execRelayDownlinkTransmit n s
  | .aesGcmEncrypt e waits => Sys2Proof.Machine.execAesGcmEncrypt e waits s
  | .aesGcmDecrypt e waits => Sys2Proof.Machine.execAesGcmDecrypt e waits s
  | .aesCcmEncrypt e waits => Sys2Proof.Machine.execAesCcmEncrypt e waits s
  | .aesCcmDecrypt e waits => Sys2Proof.Machine.execAesCcmDecrypt e waits s
  | .aesCtr e waits => Sys2Proof.Machine.execAesCtr e waits s
  | .aesCmacGenerate e waits => Sys2Proof.Machine.execAesCmacGenerate e waits s
  | .aesCmacVerify e waits => Sys2Proof.Machine.execAesCmacVerify e waits s
  | .fwCampaignOpen a n v => Sys2Proof.Machine.execFwCampaignOpen a n v s
  | .setpointArm a k v slot group => Sys2Proof.Machine.execSetpointArm a k v slot group s
  | .setpointCancel a k v => Sys2Proof.Machine.execSetpointCancel a k v s
  | .setpointFire k => Sys2Proof.Machine.execSetpointFire k s
  | .ethFrameReceive k f joined => Sys2Proof.Machine.execEthFrameReceive k f joined s
  | .pfxInsert a => Sys2Proof.Machine.execPfxInsert a s
  | .pfxDelete a => Sys2Proof.Machine.execPfxDelete a s
  | .eptWrite a => Sys2Proof.Machine.execEptWrite a s
  | .eptDelete a => Sys2Proof.Machine.execEptDelete a s
  | .eptRead a => Sys2Proof.Machine.execEptRead a s
  | .neighbourAgeSweep => Sys2Proof.Machine.execNeighbourAgeSweep s
  | .nbtPin a idx => Sys2Proof.Machine.execNbtPin a idx s
  | .nbtUnpin a idx => Sys2Proof.Machine.execNbtUnpin a idx s
  | .nbtDelete a idx => Sys2Proof.Machine.execNbtDelete a idx s
  | .dunebCellReceive k b bad => Sys2Proof.Machine.execDunebCellReceive k b bad s
  | .dunebRetryTimeout k => Sys2Proof.Machine.execDunebRetryTimeout k s
  | .dunebLinkDown k => Sys2Proof.Machine.execDunebLinkDown k s
  | .hello k b => Sys2Proof.Machine.execHello k b s
  | .seamMapAdopt epoch m => Sys2Proof.Machine.execSeamMapAdopt epoch m s
  | .seamWrite a b h => Sys2Proof.Machine.execSeamWrite a b h s
  | .moveArm a v otherK noProg => Sys2Proof.Machine.execMoveArm a v otherK noProg s
  | .moveReceive b poison last => Sys2Proof.Machine.execMoveReceive b poison last s
  | .moved b home => Sys2Proof.Machine.execMoved b home s
  | .moveTimeout => Sys2Proof.Machine.execMoveTimeout s
  | .moveAbort a st => Sys2Proof.Machine.execMoveAbort a st s
  | .init => Sys2Proof.Machine.execInit s
  | .accept d => Sys2Proof.Machine.execAccept d s
  | .initTimeout => Sys2Proof.Machine.execInitTimeout s
  | .batchClose => Sys2Proof.Machine.execBatchClose s
  | .back d => Sys2Proof.Machine.execBack d s
  | .batchResend => Sys2Proof.Machine.execBatchResend s
  | .sessionRekey => Sys2Proof.Machine.execSessionRekey s
  | .close d => Sys2Proof.Machine.execClose d s
  | .timincrWrite a v => Sys2Proof.Machine.execTimincrWrite a v s
  | .timsetWrite a v => Sys2Proof.Machine.execTimsetWrite a v s
  | .timstepWrite a v => Sys2Proof.Machine.execTimstepWrite a v s
  | .signedStep a slot => Sys2Proof.Machine.execSignedStep a slot s
  | .timeInvalidate a => Sys2Proof.Machine.execTimeInvalidate a s
  | .txtsPop a q => Sys2Proof.Machine.execTxtsPop a q s
  | .triggerFire n => Sys2Proof.Machine.execTriggerFire n s
  | .ppsOutPulse => Sys2Proof.Machine.execPpsOutPulse s
  | .ppsInCapture ns => Sys2Proof.Machine.execPpsInCapture ns s
  | .actInChange b => Sys2Proof.Machine.execActInChange b s
  | .shadowMessageApply typ payload poison => Sys2Proof.Machine.execShadowMessageApply typ payload poison s
  | .confirm cseq isn => Sys2Proof.Machine.execConfirm cseq isn s
  | .beat => Sys2Proof.Machine.execBeat s
  | .peerSilent => Sys2Proof.Machine.execPeerSilent s
  | .standbyGraceExpiry => Sys2Proof.Machine.execStandbyGraceExpiry s
  | .activeGraceExpiry => Sys2Proof.Machine.execActiveGraceExpiry s
  | .detach a key => Sys2Proof.Machine.execDetach a key s
  | .detached => Sys2Proof.Machine.execDetached s
  | .drain a key => Sys2Proof.Machine.execDrain a key s
  | .resync a key => Sys2Proof.Machine.execResync a key s
  | .force a key clash => Sys2Proof.Machine.execForce a key clash s
  | .takeover clash => Sys2Proof.Machine.execTakeover clash s
  | .catchup isn => Sys2Proof.Machine.execCatchup isn s
  | .rescue e => Sys2Proof.Machine.execRescue e s
  | .gen a => Sys2Proof.Machine.execGen a s
  | .invalidate a => Sys2Proof.Machine.execInvalidate a s
  | .setpub a => Sys2Proof.Machine.execSetpub a s
  | .pubout a => Sys2Proof.Machine.execPubout a s
  | .keyImport a => Sys2Proof.Machine.execImport a s
  | .keyExport a => Sys2Proof.Machine.execExport a s
  | .genpkt a => Sys2Proof.Machine.execGenpkt a s
  | .importpkt a => Sys2Proof.Machine.execImportpkt a s
  | .rewrap a => Sys2Proof.Machine.execRewrap a s
  | .attest a => Sys2Proof.Machine.execAttest a s
  | .auth a => Sys2Proof.Machine.execAuth a s
  | .sha3x256 => Sys2Proof.Machine.execSha3x256 s
  | .sha3x512 => Sys2Proof.Machine.execSha3x512 s
  | .shake128 => Sys2Proof.Machine.execShake128 s
  | .shake256 => Sys2Proof.Machine.execShake256 s
  | .sign => Sys2Proof.Machine.execSign s
  | .verify => Sys2Proof.Machine.execVerify s
  | .encaps => Sys2Proof.Machine.execEncaps s
  | .decaps => Sys2Proof.Machine.execDecaps s
  | .tamperAlarm x => Sys2Proof.Machine.execTamperAlarm x s
  | .pendClear a => Sys2Proof.Machine.execPendClear a s
  | .provision a => Sys2Proof.Machine.execProvision a s
  | .field a => Sys2Proof.Machine.execField a s
  | .debugOpen a => Sys2Proof.Machine.execDebugOpen a s
  | .scrap a => Sys2Proof.Machine.execScrap a s
  | .check a => Sys2Proof.Machine.execCheck a s
  | .install u => Sys2Proof.Machine.execInstall u s
  | .clean a => Sys2Proof.Machine.execClean a s
  | .selftestPass a => Sys2Proof.Machine.execSelftestPass a s
  | .commit u => Sys2Proof.Machine.execCommit u s
  | .abandon a => Sys2Proof.Machine.execAbandon a s
  | .drainBatch => Sys2Proof.Machine.execDrainBatch s
  | .drainBatchComplete fails => Sys2Proof.Machine.execDrainBatchComplete fails s
  | .checkpointDue => Sys2Proof.Machine.execCheckpointDue s
  | .checkpointGo a int => Sys2Proof.Machine.execCheckpointGo a int s
  | .checkpointComplete fails => Sys2Proof.Machine.execCheckpointComplete fails s
  | .nandRead corr uncor => Sys2Proof.Machine.execNandRead corr uncor s
  | .nandWrite fails => Sys2Proof.Machine.execNandWrite fails s
  | .nandTrim => Sys2Proof.Machine.execNandTrim s
  | .nandMigrate fails => Sys2Proof.Machine.execNandMigrate fails s
  | .nandSync => Sys2Proof.Machine.execNandSync s
  | .wearLevelMove fails eraseFails => Sys2Proof.Machine.execWearLevelMove fails eraseFails s
  | .idleGc ch fails eraseFails => Sys2Proof.Machine.execIdleGc ch fails eraseFails s
  | .foregroundGc ch fails eraseFails => Sys2Proof.Machine.execForegroundGc ch fails eraseFails s
  | .rinsePass m => Sys2Proof.Machine.execRinsePass m s
  | .eventPost es => Sys2Proof.Machine.execEventPost es s
  | .evrpostWrite a v => Sys2Proof.Machine.execEvrpostWrite a v s
  | .foldFlush => Sys2Proof.Machine.execFoldFlush s
  | .eventClear a sev => Sys2Proof.Machine.execEventClear a sev s
  | .telemetryPass => Sys2Proof.Machine.execTelemetryPass s
  | .operatingTimeSave => Sys2Proof.Machine.execOperatingTimeSave s
  | .refclkLoss => Sys2Proof.Machine.execRefclkLoss s
  | .timeclkLoss => Sys2Proof.Machine.execTimeclkLoss s
  | .srefclkLoss => Sys2Proof.Machine.execSrefclkLoss s
  | .xtalLoss => Sys2Proof.Machine.execXtalLoss s
  | .treturn a fit => Sys2Proof.Machine.execTreturn a fit s
  | .tempHot temp => Sys2Proof.Machine.execTempHot temp s
  | .tapReset => Sys2Proof.Machine.execTapReset s
  | .extest scan => Sys2Proof.Machine.execExtest scan s
  | .idcode => Sys2Proof.Machine.execIdcode s
  | .samplePreload cells => Sys2Proof.Machine.execSamplePreload cells s
  | .clamp => Sys2Proof.Machine.execClamp s
  | .highz => Sys2Proof.Machine.execHighz s
  | .mbox data addr mailbox write => Sys2Proof.Machine.execMbox data addr mailbox write s
  | .debug => Sys2Proof.Machine.execDebug s
  | .bypass code => Sys2Proof.Machine.execBypass code s
  | .ethernetLinkChange k up speed => Sys2Proof.Machine.execEthernetLinkChange k up speed s
  | .oldSessionExpiry => Sys2Proof.Machine.execOldSessionExpiry s
  | .blockRewrite fails eraseFails => Sys2Proof.Machine.execBlockRewrite fails eraseFails s
  | .recordKeepExpiry => Sys2Proof.Machine.execRecordKeepExpiry s

end Sys2Proof.Machine
end

