-- ==== Sys2Proof/Machine/Step.lean ====
section
/-!
DEFINITION. One step: the command at the front of the queue, or, when none waits, one edge of the TIME clock.
-/

namespace Sys2Proof.Machine

/-- One edge of the TIME clock: the raw count moves on by one while the TIME PLL runs and the chip is not asleep (R482, R487, R658; the
choice of notes/assumptions/27.md). -/
def State.tick (s : State) : State :=
  if s.pwr.asleep || !s.timePll then s else s.setTime { s.time with raw := s.time.raw + 1 }

/-- One step of the block. -/
def step (s : State) : Host.Outcome State Fault Refusal :=
  match s.pending with
  | [] => .next s.tick
  | c :: cs => exec c { s with pending := cs }

/-- The state with the command a word spells put at the front of its queue; unchanged where it spells none. -/
def State.withFetchWord (s : State) (nbits w : Nat) : State :=
  match decodeTableWord nbits w with
  | some c => { s with pending := c :: s.pending }
  | none => s

end Sys2Proof.Machine
end

