-- ==== Sys2Proof/Safety.lean ====
section
/-!
DEFINITION. What counts as a safe run, and the terms in which claims speak of commands: which writes an agent may make, when a core
executes an instruction, and what one instruction leaves.
-/

namespace Sys2Proof.Machine

/-- An outcome that is a next state. -/
def goesOn (o : Out) : Prop := ∃ t, o = .next t

/-- A state from which `k` steps go on. -/
def SafeFor (k : Nat) (s : State) : Prop := ∃ t, Sys2Proof.core.run k s = .next t

/-- An agent may write a register: its core's plane owns the block, or debug access lets the port reach it (R31, R570). -/
def State.may (s : State) (a : Agent) (csr : Nat) : Bool :=
  match a with
  | .cc k => !s.planeDenied k.val csr
  | .port => s.portMay csr

/-- The core domain is clocked and an agent may write a register. -/
def State.writes (s : State) (a : Agent) (csr : Nat) : Bool := s.clocked && s.may a csr

/-- Where CCk fetches its next instruction, when no check refuses the fetch. -/
def State.fetchPlace (s : State) (k : Nat) : Option Place :=
  match s.access k .fetch (s.cc k).cpu.pc.toNat 4 with
  | .ok p => if s.fetchBad k p then none else some p
  | .error _ => none

/-- The core that an instruction row names, and the weight that the instruction counts (R126, R187); none for the other rows. -/
def instrCore : Instr → Option (CoreId × Nat)
  | .add c _ _ _ | .sub c _ _ _ | .andR c _ _ _ | .orR c _ _ _ | .xorR c _ _ _ | .sll c _ _ _ | .srl c _ _ _ | .sra c _ _ _
  | .slt c _ _ _ | .sltu c _ _ _ | .mul c _ _ _ | .mulhu c _ _ _ | .mulhs c _ _ _ | .divu c _ _ _ | .divs c _ _ _
  | .remu c _ _ _ | .rems c _ _ _ | .min c _ _ _ | .max c _ _ _ | .minu c _ _ _ | .maxu c _ _ _ | .getfl c _ | .setfl c _
  | .adds c _ _ _ | .adc c _ _ _ | .subs c _ _ _ | .sbc c _ _ _ | .cmp c _ _ | .addi c _ _ _ | .andi c _ _ _ | .ori c _ _ _
  | .xori c _ _ _ | .slti c _ _ _ | .sltiu c _ _ _ | .slli c _ _ _ | .srli c _ _ _ | .srai c _ _ _ | .cmpi c _ _ | .movh c _ _
  | .pcadr c _ _ | .beq c _ _ _ | .bne c _ _ _ | .blt c _ _ _ | .bge c _ _ _ | .bltu c _ _ _ | .bgeu c _ _ _ | .bfs c _
  | .bfc c _ | .bws c _ | .bcs c _ | .bcc c _ | .bzs c _ | .bvs c _ | .bps c _ | .jmp c _ | .call c _ | .jr c _ | .callr c _ => some (c, 1)
  | .ldb k _ _ _ | .ldbu k _ _ _ | .ldh k _ _ _ | .ldhu k _ _ _ | .ldw k _ _ _ | .ldd k _ _ _ | .stb k _ _ _ | .sth k _ _ _
  | .stw k _ _ _ | .std k _ _ _ | .csrr k _ _ | .csrw k _ _ | .fence k | .cinv k _ | .cclean k _ | .cflush k _ | .iinv k _
  | .cflusha k | .iinva k | .wfi k | .eret k | .mfsr k _ _ | .mtsr k _ _ | .enq k _ _ | .deq k _ _ | .deqt k _ _ | .lock k _ _
  | .lockt k _ _ | .unlock k _ => some (.cc k, 1)
  | .lxb n _ _ _ _ | .lxbu n _ _ _ _ | .lxh n _ _ _ _ | .lxhu n _ _ _ _ | .lxw n _ _ _ _ | .lxd n _ _ _ _ | .sxb n _ _ _ _
  | .sxh n _ _ _ _ | .sxw n _ _ _ _ | .sxd n _ _ _ _ | .waitw n | .done n => some (.lc n, 1)
  | .tack n _ => some (.lc n, 48)
  | .press n _ _ _ => some (.lc n, 128)
  | .maxd n _ _ => some (.lc n, 4)
  | .satadd n _ _ => some (.lc n, 3)
  | .emit n _ _ _ => some (.lc n, 16)
  | _ => none

/-- A core executes an instruction of a weight: its clocks run, it runs, its fetch is not refused, a control core holds no uncorrectable
error, and, on a ledger core, the budget of its item allows the weight (R100, R126, R153, R168). -/
def State.goes (s : State) (c : CoreId) (w : Nat) : Bool :=
  match c with
  | .cc k => s.clocked && (s.cc k.val).run = .run && (s.fetchPlace k.val).isSome && (s.cc k.val).err.isNone
  | .lc n => s.clocked && (s.lc n.val).run = .running && (s.lc n.val).item.isSome && s.lcFetchOk n.val &&
      decide ((s.lc n.val).used + w ≤ (s.lc n.val).budget)

/-- The state when the instruction begins: the fetch made, the weight counted. -/
def State.begun (s : State) (c : CoreId) (w : Nat) : State :=
  match c with
  | .cc k => match s.fetchPlace k.val with
    | some p => s.fetchRead k.val p
    | none => s
  | .lc n => s.setLc n.val { s.lc n.val with used := (s.lc n.val).used + w }

/-- The value and the poison of a core's register. -/
def State.gv (s : State) (c : CoreId) (r : RegNo) : Word := ((s.cpu c).g r.toNat).val
def State.gp (s : State) (c : CoreId) (r : RegNo) : Bool := ((s.cpu c).g r.toNat).poison

/-- Nothing but the core's own registers differs from the state when its instruction began. -/
def State.coreOnly (s : State) (c : CoreId) (w : Nat) (t : State) : Prop := t = (s.begun c w).setCpu c (t.cpu c)

/-- Every general register but one is as it was. -/
def Cpu.others (u v : Cpu) (rd : Nat) : Prop := ∀ r, r ≠ rd → v.g r = u.g r

/-- FL after an instruction that writes no flag: PS set when it has read poison (R110). -/
def Cpu.psAfter (u : Cpu) (bad : Bool) : Word := if bad then BitVec.ofNat 32 (setBits u.fl.toNat 6 1 1) else u.fl

/-- An instruction that writes one register and no flag: its value, every other register, the PC, FL, and nothing else (R94, R98, R110). -/
def State.wrote (s : State) (c : CoreId) (rd : RegNo) (v : GReg) (bad : Bool) (t : State) : Prop :=
  s.coreOnly c 1 t ∧ (t.cpu c).g rd.toNat = (if rd = 0 then {} else v) ∧ (s.cpu c).others (t.cpu c) rd.toNat ∧
    (t.cpu c).pc = (s.cpu c).pc + 4 ∧ (t.cpu c).fl = (s.cpu c).psAfter bad

/-- A branch or jump that is no call: no register changes, the PC as given, PS as poison read sets it (R110, R111). -/
def State.jumped (s : State) (c : CoreId) (pc : Word) (bad : Bool) (t : State) : Prop :=
  s.coreOnly c 1 t ∧ (∀ r, (t.cpu c).g r = (s.cpu c).g r) ∧ (t.cpu c).pc = pc ∧ (t.cpu c).fl = (s.cpu c).psAfter bad

/-- FL once a refusable instruction has ended with a status: ST, F and W, Z, N, C, V as given, PS as poison read sets it (R95 to R97,
R110). -/
def flEnded (fl : Word) (st : Status) (f w : Bool) : Word :=
  BitVec.ofNat 32 (setBits (setBits fl.toNat 16 16 st.code) 4 2 (b2n f + 2 * b2n w))

/-- A refusal: ST, F and W, the PC moved on, PS with POISONED, and nothing else (R96, R111). -/
def State.refusedWith (s : State) (c : CoreId) (w : Nat) (st : Status) (t : State) : Prop :=
  s.coreOnly c w t ∧ (∀ r, (t.cpu c).g r = (s.cpu c).g r) ∧ (t.cpu c).pc = (s.cpu c).pc + 4 ∧
    (t.cpu c).fl = flEnded ((s.cpu c).psAfter (st = .poisoned)) st true false

/-- A refusal that leaves a state `b`: ST, F and W, the PC moved on, PS set where the instruction has read poison (R96, R111). -/
def State.refusedFrom (s b : State) (c : CoreId) (st : Status) (bad : Bool) (t : State) : Prop :=
  t = b.setCpu c (t.cpu c) ∧ (∀ r, (t.cpu c).g r = (s.cpu c).g r) ∧ (t.cpu c).pc = (s.cpu c).pc + 4 ∧
    (t.cpu c).fl = flEnded ((s.cpu c).psAfter bad) st true false

/-- A refusable instruction that ends with one register written: from a state `b` that has the instruction's other effects, the register,
the warning POISONED and PS with poison, the PC moved on (R97, R110). -/
def State.loadedTo (s b : State) (c : CoreId) (rd : RegNo) (v : Word) (bad : Bool) (t : State) : Prop :=
  t = b.setCpu c (t.cpu c) ∧ (t.cpu c).g rd.toNat = (if rd = 0 then {} else ⟨v, bad⟩) ∧ (s.cpu c).others (t.cpu c) rd.toNat ∧
    (t.cpu c).pc = (s.cpu c).pc + 4 ∧
    (t.cpu c).fl = flEnded ((s.cpu c).psAfter bad) (if bad then .poisoned else .done) false bad

/-- The same for a register pair (R150). -/
def State.loadedPair (s b : State) (c : CoreId) (rd : RegNo) (v : DWord) (bad : Bool) (t : State) : Prop :=
  t = b.setCpu c (t.cpu c) ∧ (t.cpu c).g rd.toNat = ⟨v.extractLsb' 0 32, bad⟩ ∧ (t.cpu c).g (rd.toNat + 1) = ⟨v.extractLsb' 32 32, bad⟩ ∧
    (∀ r, r ≠ rd.toNat → r ≠ rd.toNat + 1 → (t.cpu c).g r = (s.cpu c).g r) ∧ (t.cpu c).pc = (s.cpu c).pc + 4 ∧
    (t.cpu c).fl = flEnded ((s.cpu c).psAfter bad) (if bad then .poisoned else .done) false bad

/-- A refusable instruction that ends with DONE and writes no register: from a state `b` that has its other effects (R97, R110). -/
def State.storedFrom (s b : State) (c : CoreId) (bad : Bool) (t : State) : Prop :=
  t = b.setCpu c (t.cpu c) ∧ (∀ r, (t.cpu c).g r = (s.cpu c).g r) ∧ (t.cpu c).pc = (s.cpu c).pc + 4 ∧
    (t.cpu c).fl = flEnded ((s.cpu c).psAfter bad) .done false false

/-- A command of the core domain: every one but the resets, the boot, the power and wake sequences, the always-on watchdog, ACT_IN_N, the
tamper alarm, the save of the operating time, the losses of the clocks, and the instructions of the test port (R71, R81, R658, R676). -/
def coreDomain : Instr → Bool
  | .por | .bor | .extReset | .bootStart _ | .pfailSequence | .pfailRecoveryBor | .sleepWake _ | .aonWdgExpiry | .actInChange _
  | .tamperAlarm .. | .operatingTimeSave | .refclkLoss | .timeclkLoss | .srefclkLoss | .xtalLoss | .tapReset | .extest _ | .idcode
  | .samplePreload _ | .clamp | .highz | .mbox .. | .debug | .bypass _ => false
  | _ => true

/-- A reset of a kind performed, with its causes: what every reset but TKO leaves (R56, R57, R60 to R62). The recorder's own part of MRAM
takes the reset's events. -/
def State.cameUp (s t : State) (kind causes : Nat) : Prop :=
  t.pwr.kind = kind ∧ t.pwr.bootStep = 1 ∧ t.mode = modeBoot ∧ t.reg rRSTCAUSE &&& causes = causes ∧ t.ccs = [] ∧ t.lcs = [] ∧
    t.dcache = [] ∧ t.queues = [] ∧ t.locks = [] ∧ t.pending = s.pending ∧
    (∀ x, x < mramBase ∨ csrBase ≤ x → t.byte x = 0) ∧
    (∀ x, mramBase ≤ x → x < csrBase → (x < evrAddr 0 ∨ evrAddr 8192 ≤ x) → t.byte x = s.byte x)

/-- The kind of reset that a cause performs: while a boot is in progress, the widest of it and its own (R57). -/
def State.resetKind (s : State) (cause : Nat) : Nat := if s.mode = modeBoot then min cause s.pwr.kind else cause

/-- The invariant that every step keeps: memory is in its canonical form. -/
abbrev State.memOk (s : State) : Prop := Memory.wf s.mem = true

/-- A chip that is the active of no twin takes a journal write of one entry: ISNs are left, the archive does not bar it, and the ring has
room (R64, R604, R605, R648). -/
def State.ringTakes (s : State) (e : JEnt) : Bool :=
  !s.isActive && decide (s.lastIsn + e.n ≤ 2 ^ 48 - 2 ^ 25) && !s.reserveBars e.kind (needAll (s.fget fMRMHEAD_OFFSET) [e]) &&
    decide (s.ringUsed + needAll (s.fget fMRMHEAD_OFFSET) [e] ≤ ringSize)

/-- The entry written at the head of the ring; its inputs have the next ISNs (R600, R601, R603). -/
def State.journaled (s : State) (e : JEnt) : State := (s.ringPut e s.nextIsn).fset fMRMLASTISN_ISN (s.lastIsn + e.n)

/-- A key command's checks before its own work pass: the mode, the arming, the slot it names and the alignment of ADDR (R541, R543, R544,
R685). -/
def State.keyReady (s : State) (op : Nat) : Bool :=
  s.keyMode op && (s.key.armed.isNone || s.armedFor op s.keyArg.slot) && (!opHasSlot op || !reservedSlot s.keyArg.slot) &&
    (!opGuarded op || decide (16 ≤ s.keyArg.slot) || (s.life ≠ lifeProvisioned && s.life ≠ lifeField) || s.armedFor op s.keyArg.slot) &&
    (!opHasAddr op || s.keyArg.addr % 64 = 0)

/-- The end of a key command that has left a state `b`: an arming that stood before it is used up, KEYSTAT.STATUS has its status, which is
also its answer (R543, R544). -/
def State.keyEnds (s b : State) (st : Status) : State :=
  ((if s.key.armed.isSome then b.disarm else b).fset fKEYSTAT_STATUS st.code).say st

/-- What posting events may change: the recorder's front end, its registers and its records in MRAM (R629, R634). -/
def State.evrOnly (s t : State) : Prop :=
  t = { s with evr := t.evr, csr := t.csr, mem := t.mem, poison := t.poison, soft := t.soft } ∧
    (∀ b, b / 0x10000 ≠ 0x45 → t.reg b = s.reg b) ∧
    (∀ x, x < evrAddr 0 ∨ evrAddr 8192 ≤ x → t.byte x = s.byte x) ∧ (s.memOk → t.memOk)

end Sys2Proof.Machine
end

