-- ==== Sys2Proof/Certificates/Slice0/Obligations.lean ====
section
/-!
DEFINITION. The statements about the model: what its commands do, from the numbered rules of spec/.
-/

open Sys2Proof Sys2Proof.Machine

/-- On either profile, ADD, SUB, AND, OR, XOR, SLL, SRL, SRA, SLT, SLTU, MUL, MULHU, MULHS, MIN, MAX, MINU and MAXU of an executing
core complete: the destination takes the 32-bit result of the two operands (g0 keeps zero), poisoned when an operand is, and PS
is set then; every other register, the rest of FL and everything outside the core are as when the instruction began, and the PC
moves on by 4. On either profile, the ten OPI instructions but CMPI, MOVH, PCADR and GETFL of an executing core complete with
the value the opcode tables give, signed immediates where the table says s(imm12) and zero-extended ones where it does not; the
destination alone is written, poisoned by its register operand, and everything else is as the frame of register instructions
says. (R94, R98, R110, R151) -/
def Obligations.RegisterArithmetic : Prop :=
    (∀ (c : CoreId) (rd a b : RegNo) (s : State),
      s.goes c 1 = true →
      ∃ t, exec (.add c rd a b) s = .next t ∧
        s.wrote c rd ⟨s.gv c a + s.gv c b, s.gp c a || s.gp c b⟩ (s.gp c a || s.gp c b) t) ∧
    (∀ (c : CoreId) (rd a b : RegNo) (s : State),
      s.goes c 1 = true →
      ∃ t, exec (.sub c rd a b) s = .next t ∧
        s.wrote c rd ⟨s.gv c a - s.gv c b, s.gp c a || s.gp c b⟩ (s.gp c a || s.gp c b) t) ∧
    (∀ (c : CoreId) (rd a b : RegNo) (s : State),
      s.goes c 1 = true →
      ∃ t, exec (.andR c rd a b) s = .next t ∧
        s.wrote c rd ⟨s.gv c a &&& s.gv c b, s.gp c a || s.gp c b⟩ (s.gp c a || s.gp c b) t) ∧
    (∀ (c : CoreId) (rd a b : RegNo) (s : State),
      s.goes c 1 = true →
      ∃ t, exec (.orR c rd a b) s = .next t ∧
        s.wrote c rd ⟨s.gv c a ||| s.gv c b, s.gp c a || s.gp c b⟩ (s.gp c a || s.gp c b) t) ∧
    (∀ (c : CoreId) (rd a b : RegNo) (s : State),
      s.goes c 1 = true →
      ∃ t, exec (.xorR c rd a b) s = .next t ∧
        s.wrote c rd ⟨s.gv c a ^^^ s.gv c b, s.gp c a || s.gp c b⟩ (s.gp c a || s.gp c b) t) ∧
    (∀ (c : CoreId) (rd a b : RegNo) (s : State),
      s.goes c 1 = true →
      ∃ t, exec (.sll c rd a b) s = .next t ∧
        s.wrote c rd ⟨s.gv c a <<< ((s.gv c b).toNat % 32), s.gp c a || s.gp c b⟩ (s.gp c a || s.gp c b) t) ∧
    (∀ (c : CoreId) (rd a b : RegNo) (s : State),
      s.goes c 1 = true →
      ∃ t, exec (.srl c rd a b) s = .next t ∧
        s.wrote c rd ⟨s.gv c a >>> ((s.gv c b).toNat % 32), s.gp c a || s.gp c b⟩ (s.gp c a || s.gp c b) t) ∧
    (∀ (c : CoreId) (rd a b : RegNo) (s : State),
      s.goes c 1 = true →
      ∃ t, exec (.sra c rd a b) s = .next t ∧
        s.wrote c rd ⟨(s.gv c a).sshiftRight ((s.gv c b).toNat % 32), s.gp c a || s.gp c b⟩ (s.gp c a || s.gp c b) t) ∧
    (∀ (c : CoreId) (rd a b : RegNo) (s : State),
      s.goes c 1 = true →
      ∃ t, exec (.slt c rd a b) s = .next t ∧
        s.wrote c rd ⟨if (s.gv c a).toInt < (s.gv c b).toInt then 1 else 0, s.gp c a || s.gp c b⟩ (s.gp c a || s.gp c b) t) ∧
    (∀ (c : CoreId) (rd a b : RegNo) (s : State),
      s.goes c 1 = true →
      ∃ t, exec (.sltu c rd a b) s = .next t ∧
        s.wrote c rd ⟨if (s.gv c a).toNat < (s.gv c b).toNat then 1 else 0, s.gp c a || s.gp c b⟩ (s.gp c a || s.gp c b) t) ∧
    (∀ (c : CoreId) (rd a b : RegNo) (s : State),
      s.goes c 1 = true →
      ∃ t, exec (.mul c rd a b) s = .next t ∧
        s.wrote c rd ⟨s.gv c a * s.gv c b, s.gp c a || s.gp c b⟩ (s.gp c a || s.gp c b) t) ∧
    (∀ (c : CoreId) (rd a b : RegNo) (s : State),
      s.goes c 1 = true →
      ∃ t, exec (.mulhu c rd a b) s = .next t ∧
        s.wrote c rd ⟨BitVec.ofNat 32 ((s.gv c a).toNat * (s.gv c b).toNat / 2 ^ 32), s.gp c a || s.gp c b⟩ (s.gp c a || s.gp c b) t) ∧
    (∀ (c : CoreId) (rd a b : RegNo) (s : State),
      s.goes c 1 = true →
      ∃ t, exec (.mulhs c rd a b) s = .next t ∧
        s.wrote c rd ⟨BitVec.ofInt 32 ((s.gv c a).toInt * (s.gv c b).toInt / 2 ^ 32), s.gp c a || s.gp c b⟩ (s.gp c a || s.gp c b) t) ∧
    (∀ (c : CoreId) (rd a b : RegNo) (s : State),
      s.goes c 1 = true →
      ∃ t, exec (.min c rd a b) s = .next t ∧
        s.wrote c rd ⟨if (s.gv c b).toInt < (s.gv c a).toInt then s.gv c b else s.gv c a, s.gp c a || s.gp c b⟩ (s.gp c a || s.gp c b) t) ∧
    (∀ (c : CoreId) (rd a b : RegNo) (s : State),
      s.goes c 1 = true →
      ∃ t, exec (.max c rd a b) s = .next t ∧
        s.wrote c rd ⟨if (s.gv c a).toInt < (s.gv c b).toInt then s.gv c b else s.gv c a, s.gp c a || s.gp c b⟩ (s.gp c a || s.gp c b) t) ∧
    (∀ (c : CoreId) (rd a b : RegNo) (s : State),
      s.goes c 1 = true →
      ∃ t, exec (.minu c rd a b) s = .next t ∧
        s.wrote c rd ⟨if (s.gv c b).toNat < (s.gv c a).toNat then s.gv c b else s.gv c a, s.gp c a || s.gp c b⟩ (s.gp c a || s.gp c b) t) ∧
    (∀ (c : CoreId) (rd a b : RegNo) (s : State),
      s.goes c 1 = true →
      ∃ t, exec (.maxu c rd a b) s = .next t ∧
        s.wrote c rd ⟨if (s.gv c a).toNat < (s.gv c b).toNat then s.gv c b else s.gv c a, s.gp c a || s.gp c b⟩ (s.gp c a || s.gp c b) t) ∧
    (∀ (c : CoreId) (rd a : RegNo) (i : BitVec 12) (s : State),
      s.goes c 1 = true →
      ∃ t, exec (.addi c rd a i) s = .next t ∧ s.wrote c rd ⟨s.gv c a + (i.signExtend 32), s.gp c a⟩ (s.gp c a) t) ∧
    (∀ (c : CoreId) (rd a : RegNo) (i : BitVec 12) (s : State),
      s.goes c 1 = true →
      ∃ t, exec (.andi c rd a i) s = .next t ∧ s.wrote c rd ⟨s.gv c a &&& (i.zeroExtend 32), s.gp c a⟩ (s.gp c a) t) ∧
    (∀ (c : CoreId) (rd a : RegNo) (i : BitVec 12) (s : State),
      s.goes c 1 = true →
      ∃ t, exec (.ori c rd a i) s = .next t ∧ s.wrote c rd ⟨s.gv c a ||| (i.zeroExtend 32), s.gp c a⟩ (s.gp c a) t) ∧
    (∀ (c : CoreId) (rd a : RegNo) (i : BitVec 12) (s : State),
      s.goes c 1 = true →
      ∃ t, exec (.xori c rd a i) s = .next t ∧ s.wrote c rd ⟨s.gv c a ^^^ (i.zeroExtend 32), s.gp c a⟩ (s.gp c a) t) ∧
    (∀ (c : CoreId) (rd a : RegNo) (i : BitVec 12) (s : State),
      s.goes c 1 = true →
      ∃ t, exec (.slti c rd a i) s = .next t ∧ s.wrote c rd ⟨if (s.gv c a).toInt < (i.signExtend 32).toInt then 1 else 0, s.gp c a⟩ (s.gp c a) t) ∧
    (∀ (c : CoreId) (rd a : RegNo) (i : BitVec 12) (s : State),
      s.goes c 1 = true →
      ∃ t, exec (.sltiu c rd a i) s = .next t ∧ s.wrote c rd ⟨if (s.gv c a).toNat < (i.zeroExtend 32).toNat then 1 else 0, s.gp c a⟩ (s.gp c a) t) ∧
    (∀ (c : CoreId) (rd a : RegNo) (i : BitVec 5) (s : State),
      s.goes c 1 = true →
      ∃ t, exec (.slli c rd a i) s = .next t ∧ s.wrote c rd ⟨s.gv c a <<< i.toNat, s.gp c a⟩ (s.gp c a) t) ∧
    (∀ (c : CoreId) (rd a : RegNo) (i : BitVec 5) (s : State),
      s.goes c 1 = true →
      ∃ t, exec (.srli c rd a i) s = .next t ∧ s.wrote c rd ⟨s.gv c a >>> i.toNat, s.gp c a⟩ (s.gp c a) t) ∧
    (∀ (c : CoreId) (rd a : RegNo) (i : BitVec 5) (s : State),
      s.goes c 1 = true →
      ∃ t, exec (.srai c rd a i) s = .next t ∧ s.wrote c rd ⟨(s.gv c a).sshiftRight i.toNat, s.gp c a⟩ (s.gp c a) t) ∧
    (∀ (c : CoreId) (rd : RegNo) (i : BitVec 20) (s : State),
      s.goes c 1 = true →
      ∃ t, exec (.movh c rd i) s = .next t ∧ s.wrote c rd ⟨BitVec.ofNat 32 (i.toNat * 2 ^ 12), false⟩ false t) ∧
    (∀ (c : CoreId) (rd : RegNo) (i : BitVec 20) (s : State),
      s.goes c 1 = true →
      ∃ t, exec (.pcadr c rd i) s = .next t ∧ s.wrote c rd ⟨BitVec.ofInt 32 ((s.cpu c).pc.toNat + 4 * i.toInt), false⟩ false t) ∧
    (∀ (c : CoreId) (rd : RegNo) (s : State),
      s.goes c 1 = true →
      ∃ t, exec (.getfl c rd) s = .next t ∧ s.wrote c rd ⟨(s.cpu c).fl, false⟩ false t)

/-- On either profile, DIVU, DIVS, REMU and REMS of an executing core complete for every pair of operands, with the result of their
own row of the table: with b = 0 the quotient is 0xFFFFFFFF and the remainder a; DIVS and REMS of 0x80000000 by 0xFFFFFFFF give
0x80000000 and 0; otherwise the quotient rounded toward zero and its remainder. Destination, poison, PS, PC and frame are those
of the other register instructions. (R157) -/
def Obligations.DivisionCorners : Prop :=
    (∀ (c : CoreId) (rd a b : RegNo) (s : State),
      s.goes c 1 = true →
      ∃ t, exec (.divu c rd a b) s = .next t ∧
        s.wrote c rd ⟨if s.gv c b = 0 then (0xFFFFFFFF : Word) else BitVec.ofNat 32 ((s.gv c a).toNat / (s.gv c b).toNat), s.gp c a || s.gp c b⟩ (s.gp c a || s.gp c b) t) ∧
    (∀ (c : CoreId) (rd a b : RegNo) (s : State),
      s.goes c 1 = true →
      ∃ t, exec (.divs c rd a b) s = .next t ∧
        s.wrote c rd ⟨if s.gv c b = 0 then (0xFFFFFFFF : Word) else if s.gv c a = (0x80000000 : Word) ∧ s.gv c b = (0xFFFFFFFF : Word) then (0x80000000 : Word) else BitVec.ofInt 32 ((s.gv c a).toInt.tdiv (s.gv c b).toInt), s.gp c a || s.gp c b⟩ (s.gp c a || s.gp c b) t) ∧
    (∀ (c : CoreId) (rd a b : RegNo) (s : State),
      s.goes c 1 = true →
      ∃ t, exec (.remu c rd a b) s = .next t ∧
        s.wrote c rd ⟨if s.gv c b = 0 then s.gv c a else BitVec.ofNat 32 ((s.gv c a).toNat % (s.gv c b).toNat), s.gp c a || s.gp c b⟩ (s.gp c a || s.gp c b) t) ∧
    (∀ (c : CoreId) (rd a b : RegNo) (s : State),
      s.goes c 1 = true →
      ∃ t, exec (.rems c rd a b) s = .next t ∧
        s.wrote c rd ⟨if s.gv c b = 0 then s.gv c a else if s.gv c a = (0x80000000 : Word) ∧ s.gv c b = (0xFFFFFFFF : Word) then 0 else BitVec.ofInt 32 ((s.gv c a).toInt.tmod (s.gv c b).toInt), s.gp c a || s.gp c b⟩ (s.gp c a || s.gp c b) t)

/-- On either profile, each BR and BRF branch and JMP of an executing core completes: the PC goes to PC + 4 × s(offset) when the
condition of its table holds and to PC + 4 when it does not; a branch on a poisoned register follows the value as delivered and
sets PS; no register, no other bit of FL and nothing outside the core changes. CALL puts the address of the next instruction
into g31. (R94, R98, R111, R151) -/
def Obligations.BranchesFollow : Prop :=
    (∀ (c : CoreId) (a b : RegNo) (off : BitVec 12) (s : State),
      s.goes c 1 = true →
      ∃ t, exec (.beq c a b off) s = .next t ∧
        s.jumped c (if s.gv c a = s.gv c b then BitVec.ofInt 32 ((s.cpu c).pc.toNat + 4 * off.toInt) else (s.cpu c).pc + 4) (s.gp c a || s.gp c b) t) ∧
    (∀ (c : CoreId) (a b : RegNo) (off : BitVec 12) (s : State),
      s.goes c 1 = true →
      ∃ t, exec (.bne c a b off) s = .next t ∧
        s.jumped c (if s.gv c a ≠ s.gv c b then BitVec.ofInt 32 ((s.cpu c).pc.toNat + 4 * off.toInt) else (s.cpu c).pc + 4) (s.gp c a || s.gp c b) t) ∧
    (∀ (c : CoreId) (a b : RegNo) (off : BitVec 12) (s : State),
      s.goes c 1 = true →
      ∃ t, exec (.blt c a b off) s = .next t ∧
        s.jumped c (if (s.gv c a).toInt < (s.gv c b).toInt then BitVec.ofInt 32 ((s.cpu c).pc.toNat + 4 * off.toInt) else (s.cpu c).pc + 4) (s.gp c a || s.gp c b) t) ∧
    (∀ (c : CoreId) (a b : RegNo) (off : BitVec 12) (s : State),
      s.goes c 1 = true →
      ∃ t, exec (.bge c a b off) s = .next t ∧
        s.jumped c (if (s.gv c b).toInt ≤ (s.gv c a).toInt then BitVec.ofInt 32 ((s.cpu c).pc.toNat + 4 * off.toInt) else (s.cpu c).pc + 4) (s.gp c a || s.gp c b) t) ∧
    (∀ (c : CoreId) (a b : RegNo) (off : BitVec 12) (s : State),
      s.goes c 1 = true →
      ∃ t, exec (.bltu c a b off) s = .next t ∧
        s.jumped c (if (s.gv c a).toNat < (s.gv c b).toNat then BitVec.ofInt 32 ((s.cpu c).pc.toNat + 4 * off.toInt) else (s.cpu c).pc + 4) (s.gp c a || s.gp c b) t) ∧
    (∀ (c : CoreId) (a b : RegNo) (off : BitVec 12) (s : State),
      s.goes c 1 = true →
      ∃ t, exec (.bgeu c a b off) s = .next t ∧
        s.jumped c (if (s.gv c b).toNat ≤ (s.gv c a).toNat then BitVec.ofInt 32 ((s.cpu c).pc.toNat + 4 * off.toInt) else (s.cpu c).pc + 4) (s.gp c a || s.gp c b) t) ∧
    (∀ (c : CoreId) (off : BitVec 12) (s : State),
      s.goes c 1 = true →
      ∃ t, exec (.bfs c off) s = .next t ∧ s.jumped c (if (s.cpu c).flag 4 = true then BitVec.ofInt 32 ((s.cpu c).pc.toNat + 4 * off.toInt) else (s.cpu c).pc + 4) false t) ∧
    (∀ (c : CoreId) (off : BitVec 12) (s : State),
      s.goes c 1 = true →
      ∃ t, exec (.bfc c off) s = .next t ∧ s.jumped c (if (s.cpu c).flag 4 = false then BitVec.ofInt 32 ((s.cpu c).pc.toNat + 4 * off.toInt) else (s.cpu c).pc + 4) false t) ∧
    (∀ (c : CoreId) (off : BitVec 12) (s : State),
      s.goes c 1 = true →
      ∃ t, exec (.bws c off) s = .next t ∧ s.jumped c (if (s.cpu c).flag 5 = true then BitVec.ofInt 32 ((s.cpu c).pc.toNat + 4 * off.toInt) else (s.cpu c).pc + 4) false t) ∧
    (∀ (c : CoreId) (off : BitVec 12) (s : State),
      s.goes c 1 = true →
      ∃ t, exec (.bcs c off) s = .next t ∧ s.jumped c (if (s.cpu c).flag 2 = true then BitVec.ofInt 32 ((s.cpu c).pc.toNat + 4 * off.toInt) else (s.cpu c).pc + 4) false t) ∧
    (∀ (c : CoreId) (off : BitVec 12) (s : State),
      s.goes c 1 = true →
      ∃ t, exec (.bcc c off) s = .next t ∧ s.jumped c (if (s.cpu c).flag 2 = false then BitVec.ofInt 32 ((s.cpu c).pc.toNat + 4 * off.toInt) else (s.cpu c).pc + 4) false t) ∧
    (∀ (c : CoreId) (off : BitVec 12) (s : State),
      s.goes c 1 = true →
      ∃ t, exec (.bzs c off) s = .next t ∧ s.jumped c (if (s.cpu c).flag 0 = true then BitVec.ofInt 32 ((s.cpu c).pc.toNat + 4 * off.toInt) else (s.cpu c).pc + 4) false t) ∧
    (∀ (c : CoreId) (off : BitVec 12) (s : State),
      s.goes c 1 = true →
      ∃ t, exec (.bvs c off) s = .next t ∧ s.jumped c (if (s.cpu c).flag 3 = true then BitVec.ofInt 32 ((s.cpu c).pc.toNat + 4 * off.toInt) else (s.cpu c).pc + 4) false t) ∧
    (∀ (c : CoreId) (off : BitVec 12) (s : State),
      s.goes c 1 = true →
      ∃ t, exec (.bps c off) s = .next t ∧ s.jumped c (if (s.cpu c).flag 6 = true then BitVec.ofInt 32 ((s.cpu c).pc.toNat + 4 * off.toInt) else (s.cpu c).pc + 4) false t) ∧
    (∀ (c : CoreId) (i : BitVec 20) (s : State),
      s.goes c 1 = true →
      ∃ t, exec (.jmp c i) s = .next t ∧ s.jumped c (BitVec.ofInt 32 ((s.cpu c).pc.toNat + 4 * i.toInt)) false t) ∧
    (∀ (c : CoreId) (i : BitVec 20) (s : State),
      s.goes c 1 = true →
      ∃ t, exec (.call c i) s = .next t ∧ s.coreOnly c 1 t ∧ (t.cpu c).g 31 = ⟨(s.cpu c).pc + 4, false⟩ ∧ (s.cpu c).others (t.cpu c) 31 ∧
        (t.cpu c).pc = BitVec.ofInt 32 ((s.cpu c).pc.toNat + 4 * i.toInt) ∧ (t.cpu c).fl = (s.cpu c).fl)

/-- On either profile, JR and CALLR of an executing core with an operand that is not poisoned go to its value as it stands, with
DONE; CALLR leaves PC + 4 in g31. With a poisoned operand both are refused with POISONED alone: no register changes and
execution goes on at PC + 4 with F set. (R160) -/
def Obligations.JumpsToRegisters : Prop :=
    (∀ (c : CoreId) (a : RegNo) (s : State),
      s.goes c 1 = true →
      s.gp c a = false →
      ∃ t, exec (.jr c a) s = .next t ∧ s.coreOnly c 1 t ∧ (∀ r, (t.cpu c).g r = (s.cpu c).g r) ∧ (t.cpu c).pc = s.gv c a ∧
        (t.cpu c).fl = flEnded (s.cpu c).fl .done false false) ∧
    (∀ (c : CoreId) (a : RegNo) (s : State),
      s.goes c 1 = true →
      s.gp c a = false →
      ∃ t, exec (.callr c a) s = .next t ∧ s.coreOnly c 1 t ∧ (t.cpu c).g 31 = ⟨(s.cpu c).pc + 4, false⟩ ∧ (s.cpu c).others (t.cpu c) 31 ∧
        (t.cpu c).pc = s.gv c a ∧ (t.cpu c).fl = flEnded (s.cpu c).fl .done false false) ∧
    (∀ (c : CoreId) (a : RegNo) (s : State),
      s.goes c 1 = true →
      s.gp c a = true →
      ∃ t, exec (.jr c a) s = .next t ∧ s.refusedWith c 1 .poisoned t) ∧
    (∀ (c : CoreId) (a : RegNo) (s : State),
      s.goes c 1 = true →
      s.gp c a = true →
      ∃ t, exec (.callr c a) s = .next t ∧ s.refusedWith c 1 .poisoned t)

/-- On either profile, ADDS, ADC, SUBS, SBC, CMP and CMPI of an executing core complete: the 32-bit sum or difference goes to the
destination (CMP and CMPI write no register); Z, N, C and V are those of R159, with Z of ADC and SBC kept clear across the
chain, C of a difference set when no borrow leaves it, V set when the exact signed result does not fit; no other bit of FL
changes but PS, which poison sets; nothing else changes. SETFL of an executing core writes FL from its operand with bits 15 to 7
kept zero; a poisoned operand sets PS, and in the L-profile PS otherwise keeps its value. No register and nothing else changes,
and the PC moves on. (R98, R110, R113, R155, R158, R159) -/
def Obligations.CarryAndFlags : Prop :=
    (∀ (c : CoreId) (rd a b : RegNo) (s : State),
      s.goes c 1 = true →
      ∃ t, exec (.adds c rd a b) s = .next t ∧ s.coreOnly c 1 t ∧
        (t.cpu c).g rd.toNat = (if rd = 0 then {} else ⟨s.gv c a + s.gv c b, s.gp c a || s.gp c b⟩) ∧ (s.cpu c).others (t.cpu c) rd.toNat ∧
        (t.cpu c).pc = (s.cpu c).pc + 4 ∧
        (t.cpu c).fl = ((s.cpu c).setZncv (decide (s.gv c a + s.gv c b = 0)) ((s.gv c a + s.gv c b).getLsbD 31)
          (decide (2 ^ 32 ≤ (s.gv c a).toNat + (s.gv c b).toNat)) (decide ((s.gv c a).toInt + (s.gv c b).toInt < -2 ^ 31 ∨ 2 ^ 31 ≤ (s.gv c a).toInt + (s.gv c b).toInt))).psAfter (s.gp c a || s.gp c b)) ∧
    (∀ (c : CoreId) (rd a b : RegNo) (s : State),
      s.goes c 1 = true →
      ∃ t, exec (.adc c rd a b) s = .next t ∧ s.coreOnly c 1 t ∧
        (t.cpu c).g rd.toNat = (if rd = 0 then {} else ⟨s.gv c a + s.gv c b + (if (s.cpu c).flag 2 then 1 else 0), s.gp c a || s.gp c b⟩) ∧ (s.cpu c).others (t.cpu c) rd.toNat ∧
        (t.cpu c).pc = (s.cpu c).pc + 4 ∧
        (t.cpu c).fl = ((s.cpu c).setZncv (decide (s.gv c a + s.gv c b + (if (s.cpu c).flag 2 then 1 else 0) = 0) && (s.cpu c).flag 0) ((s.gv c a + s.gv c b + (if (s.cpu c).flag 2 then 1 else 0)).getLsbD 31)
          (decide (2 ^ 32 ≤ (s.gv c a).toNat + (s.gv c b).toNat + (if (s.cpu c).flag 2 then 1 else 0))) (decide ((s.gv c a).toInt + (s.gv c b).toInt + (if (s.cpu c).flag 2 then 1 else 0) < -2 ^ 31 ∨ 2 ^ 31 ≤ (s.gv c a).toInt + (s.gv c b).toInt + (if (s.cpu c).flag 2 then 1 else 0)))).psAfter (s.gp c a || s.gp c b)) ∧
    (∀ (c : CoreId) (rd a b : RegNo) (s : State),
      s.goes c 1 = true →
      ∃ t, exec (.subs c rd a b) s = .next t ∧ s.coreOnly c 1 t ∧
        (t.cpu c).g rd.toNat = (if rd = 0 then {} else ⟨s.gv c a - s.gv c b, s.gp c a || s.gp c b⟩) ∧ (s.cpu c).others (t.cpu c) rd.toNat ∧
        (t.cpu c).pc = (s.cpu c).pc + 4 ∧
        (t.cpu c).fl = ((s.cpu c).setZncv (decide (s.gv c a - s.gv c b = 0)) ((s.gv c a - s.gv c b).getLsbD 31)
          (decide ((s.gv c b).toNat ≤ (s.gv c a).toNat)) (decide ((s.gv c a).toInt - (s.gv c b).toInt < -2 ^ 31 ∨ 2 ^ 31 ≤ (s.gv c a).toInt - (s.gv c b).toInt))).psAfter (s.gp c a || s.gp c b)) ∧
    (∀ (c : CoreId) (rd a b : RegNo) (s : State),
      s.goes c 1 = true →
      ∃ t, exec (.sbc c rd a b) s = .next t ∧ s.coreOnly c 1 t ∧
        (t.cpu c).g rd.toNat = (if rd = 0 then {} else ⟨s.gv c a - s.gv c b - (if (s.cpu c).flag 2 then 0 else 1), s.gp c a || s.gp c b⟩) ∧ (s.cpu c).others (t.cpu c) rd.toNat ∧
        (t.cpu c).pc = (s.cpu c).pc + 4 ∧
        (t.cpu c).fl = ((s.cpu c).setZncv (decide (s.gv c a - s.gv c b - (if (s.cpu c).flag 2 then 0 else 1) = 0) && (s.cpu c).flag 0) ((s.gv c a - s.gv c b - (if (s.cpu c).flag 2 then 0 else 1)).getLsbD 31)
          (decide ((s.gv c b).toNat + (if (s.cpu c).flag 2 then 0 else 1) ≤ (s.gv c a).toNat)) (decide ((s.gv c a).toInt - (s.gv c b).toInt - (if (s.cpu c).flag 2 then 0 else 1) < -2 ^ 31 ∨ 2 ^ 31 ≤ (s.gv c a).toInt - (s.gv c b).toInt - (if (s.cpu c).flag 2 then 0 else 1)))).psAfter (s.gp c a || s.gp c b)) ∧
    (∀ (c : CoreId) (a b : RegNo) (s : State),
      s.goes c 1 = true →
      ∃ t, exec (.cmp c a b) s = .next t ∧ s.coreOnly c 1 t ∧
        (∀ r, (t.cpu c).g r = (s.cpu c).g r) ∧
        (t.cpu c).pc = (s.cpu c).pc + 4 ∧
        (t.cpu c).fl = ((s.cpu c).setZncv (decide (s.gv c a - s.gv c b = 0)) ((s.gv c a - s.gv c b).getLsbD 31)
          (decide ((s.gv c b).toNat ≤ (s.gv c a).toNat)) (decide ((s.gv c a).toInt - (s.gv c b).toInt < -2 ^ 31 ∨ 2 ^ 31 ≤ (s.gv c a).toInt - (s.gv c b).toInt))).psAfter (s.gp c a || s.gp c b)) ∧
    (∀ (c : CoreId) (a : RegNo) (i : BitVec 12) (s : State),
      s.goes c 1 = true →
      ∃ t, exec (.cmpi c a i) s = .next t ∧ s.coreOnly c 1 t ∧
        (∀ r, (t.cpu c).g r = (s.cpu c).g r) ∧
        (t.cpu c).pc = (s.cpu c).pc + 4 ∧
        (t.cpu c).fl = ((s.cpu c).setZncv (decide (s.gv c a - (i.signExtend 32) = 0)) ((s.gv c a - (i.signExtend 32)).getLsbD 31)
          (decide ((i.signExtend 32).toNat ≤ (s.gv c a).toNat)) (decide ((s.gv c a).toInt - (i.signExtend 32).toInt < -2 ^ 31 ∨ 2 ^ 31 ≤ (s.gv c a).toInt - (i.signExtend 32).toInt))).psAfter (s.gp c a)) ∧
    (∀ (c : CoreId) (a : RegNo) (s : State) (i : Nat),
      s.goes c 1 = true →
      ∃ t, exec (.setfl c a) s = .next t ∧ s.coreOnly c 1 t ∧ (∀ r, (t.cpu c).g r = (s.cpu c).g r) ∧ (t.cpu c).pc = (s.cpu c).pc + 4 ∧
        (t.cpu c).flag i = (if 7 ≤ i ∧ i < 16 then false else if i = 6 then
          s.gp c a || (match c with
            | .cc _ => (s.gv c a).toNat.testBit 6
            | .lc _ => (s.cpu c).flag 6)
          else (s.gv c a).toNat.testBit i))

/-- LDB, LDBU, LDH, LDHU, LDW and LDD of a running control core whose base register is not poisoned, at an address that passes the
checks of R100 and lies outside CSR space, complete: the destination (a pair for LDD) takes the bytes loaded, little-endian,
sign-extended by LDB and LDH and zero-extended otherwise; with a poisoned granule the register is poisoned, PS is set and the
end is the warning POISONED, and otherwise DONE; no other register and nothing beside what the access itself leaves behind
changes. LDD with a register that is no pair is refused with BAD_REGISTER, then a poisoned base register with POISONED, then an
address that fails a check with that check's status (PLANE_DENIED also sets PLANE_VIOL). Through a window onto CSR space only
LDW passes; it loads the value that the register's read answers, or is refused with the status it answers, the effects of that
read made. (R97, R98, R100, R110, R150, R161) -/
def Obligations.ControlLoads : Prop :=
    (∀ (k : Fin 4) (rd a : RegNo) (i : BitVec 12) (s : State) (p : Place),
      s.goes (.cc k) 1 = true →
      s.gp (.cc k) a = false →
      (s.begun (.cc k) 1).access k.val .load (effAddr (s.gv (.cc k) a) i) 1 = .ok p →
      (s.begun (.cc k) 1).region p.pa 1 ≠ some .csr →
      ∃ t, exec (.ldb k rd a i) s = .next t ∧
        s.loadedTo ((s.begun (.cc k) 1).loadAt k.val p 1).1 (.cc k) rd ((BitVec.ofNat 8 (leNat ((s.begun (.cc k) 1).loadAt k.val p 1).2.1)).signExtend 32) ((s.begun (.cc k) 1).loadAt k.val p 1).2.2 t) ∧
    (∀ (k : Fin 4) (rd a : RegNo) (i : BitVec 12) (s : State) (p : Place),
      s.goes (.cc k) 1 = true →
      s.gp (.cc k) a = false →
      (s.begun (.cc k) 1).access k.val .load (effAddr (s.gv (.cc k) a) i) 1 = .ok p →
      (s.begun (.cc k) 1).region p.pa 1 ≠ some .csr →
      ∃ t, exec (.ldbu k rd a i) s = .next t ∧
        s.loadedTo ((s.begun (.cc k) 1).loadAt k.val p 1).1 (.cc k) rd (BitVec.ofNat 32 (leNat ((s.begun (.cc k) 1).loadAt k.val p 1).2.1)) ((s.begun (.cc k) 1).loadAt k.val p 1).2.2 t) ∧
    (∀ (k : Fin 4) (rd a : RegNo) (i : BitVec 12) (s : State) (p : Place),
      s.goes (.cc k) 1 = true →
      s.gp (.cc k) a = false →
      (s.begun (.cc k) 1).access k.val .load (effAddr (s.gv (.cc k) a) i) 2 = .ok p →
      (s.begun (.cc k) 1).region p.pa 2 ≠ some .csr →
      ∃ t, exec (.ldh k rd a i) s = .next t ∧
        s.loadedTo ((s.begun (.cc k) 1).loadAt k.val p 2).1 (.cc k) rd ((BitVec.ofNat 16 (leNat ((s.begun (.cc k) 1).loadAt k.val p 2).2.1)).signExtend 32) ((s.begun (.cc k) 1).loadAt k.val p 2).2.2 t) ∧
    (∀ (k : Fin 4) (rd a : RegNo) (i : BitVec 12) (s : State) (p : Place),
      s.goes (.cc k) 1 = true →
      s.gp (.cc k) a = false →
      (s.begun (.cc k) 1).access k.val .load (effAddr (s.gv (.cc k) a) i) 2 = .ok p →
      (s.begun (.cc k) 1).region p.pa 2 ≠ some .csr →
      ∃ t, exec (.ldhu k rd a i) s = .next t ∧
        s.loadedTo ((s.begun (.cc k) 1).loadAt k.val p 2).1 (.cc k) rd (BitVec.ofNat 32 (leNat ((s.begun (.cc k) 1).loadAt k.val p 2).2.1)) ((s.begun (.cc k) 1).loadAt k.val p 2).2.2 t) ∧
    (∀ (k : Fin 4) (rd a : RegNo) (i : BitVec 12) (s : State) (p : Place),
      s.goes (.cc k) 1 = true →
      s.gp (.cc k) a = false →
      (s.begun (.cc k) 1).access k.val .load (effAddr (s.gv (.cc k) a) i) 4 = .ok p →
      (s.begun (.cc k) 1).region p.pa 4 ≠ some .csr →
      ∃ t, exec (.ldw k rd a i) s = .next t ∧
        s.loadedTo ((s.begun (.cc k) 1).loadAt k.val p 4).1 (.cc k) rd (BitVec.ofNat 32 (leNat ((s.begun (.cc k) 1).loadAt k.val p 4).2.1)) ((s.begun (.cc k) 1).loadAt k.val p 4).2.2 t) ∧
    (∀ (k : Fin 4) (rd a : RegNo) (i : BitVec 12) (s : State) (p : Place),
      s.goes (.cc k) 1 = true →
      s.gp (.cc k) a = false →
      pairOk rd = true →
      (s.begun (.cc k) 1).access k.val .load (effAddr (s.gv (.cc k) a) i) 8 = .ok p →
      (s.begun (.cc k) 1).region p.pa 8 ≠ some .csr →
      ∃ t, exec (.ldd k rd a i) s = .next t ∧
        s.loadedPair ((s.begun (.cc k) 1).loadAt k.val p 8).1 (.cc k) rd (BitVec.ofNat 64 (leNat ((s.begun (.cc k) 1).loadAt k.val p 8).2.1)) ((s.begun (.cc k) 1).loadAt k.val p 8).2.2 t) ∧
    (∀ (k : Fin 4) (rd a : RegNo) (i : BitVec 12) (s : State),
      s.goes (.cc k) 1 = true →
      pairOk rd = false →
      ∃ t, exec (.ldd k rd a i) s = .next t ∧ s.refusedWith (.cc k) 1 .badRegister t) ∧
    (∀ (k : Fin 4) (rd a : RegNo) (i : BitVec 12) (s : State),
      s.goes (.cc k) 1 = true →
      s.gp (.cc k) a = true →
      ∃ t, exec (.ldb k rd a i) s = .next t ∧ s.refusedWith (.cc k) 1 .poisoned t) ∧
    (∀ (k : Fin 4) (rd a : RegNo) (i : BitVec 12) (s : State) (x : Status),
      s.goes (.cc k) 1 = true →
      s.gp (.cc k) a = false →
      (s.begun (.cc k) 1).access k.val .load (effAddr (s.gv (.cc k) a) i) 1 = .error x →
      ∃ t, exec (.ldb k rd a i) s = .next t ∧ s.refusedFrom ((s.begun (.cc k) 1).violation x) (.cc k) x (decide (x = .poisoned)) t) ∧
    (∀ (k : Fin 4) (rd a : RegNo) (i : BitVec 12) (s : State),
      s.goes (.cc k) 1 = true →
      s.gp (.cc k) a = true →
      ∃ t, exec (.ldbu k rd a i) s = .next t ∧ s.refusedWith (.cc k) 1 .poisoned t) ∧
    (∀ (k : Fin 4) (rd a : RegNo) (i : BitVec 12) (s : State) (x : Status),
      s.goes (.cc k) 1 = true →
      s.gp (.cc k) a = false →
      (s.begun (.cc k) 1).access k.val .load (effAddr (s.gv (.cc k) a) i) 1 = .error x →
      ∃ t, exec (.ldbu k rd a i) s = .next t ∧ s.refusedFrom ((s.begun (.cc k) 1).violation x) (.cc k) x (decide (x = .poisoned)) t) ∧
    (∀ (k : Fin 4) (rd a : RegNo) (i : BitVec 12) (s : State),
      s.goes (.cc k) 1 = true →
      s.gp (.cc k) a = true →
      ∃ t, exec (.ldh k rd a i) s = .next t ∧ s.refusedWith (.cc k) 1 .poisoned t) ∧
    (∀ (k : Fin 4) (rd a : RegNo) (i : BitVec 12) (s : State) (x : Status),
      s.goes (.cc k) 1 = true →
      s.gp (.cc k) a = false →
      (s.begun (.cc k) 1).access k.val .load (effAddr (s.gv (.cc k) a) i) 2 = .error x →
      ∃ t, exec (.ldh k rd a i) s = .next t ∧ s.refusedFrom ((s.begun (.cc k) 1).violation x) (.cc k) x (decide (x = .poisoned)) t) ∧
    (∀ (k : Fin 4) (rd a : RegNo) (i : BitVec 12) (s : State),
      s.goes (.cc k) 1 = true →
      s.gp (.cc k) a = true →
      ∃ t, exec (.ldhu k rd a i) s = .next t ∧ s.refusedWith (.cc k) 1 .poisoned t) ∧
    (∀ (k : Fin 4) (rd a : RegNo) (i : BitVec 12) (s : State) (x : Status),
      s.goes (.cc k) 1 = true →
      s.gp (.cc k) a = false →
      (s.begun (.cc k) 1).access k.val .load (effAddr (s.gv (.cc k) a) i) 2 = .error x →
      ∃ t, exec (.ldhu k rd a i) s = .next t ∧ s.refusedFrom ((s.begun (.cc k) 1).violation x) (.cc k) x (decide (x = .poisoned)) t) ∧
    (∀ (k : Fin 4) (rd a : RegNo) (i : BitVec 12) (s : State),
      s.goes (.cc k) 1 = true →
      s.gp (.cc k) a = true →
      ∃ t, exec (.ldw k rd a i) s = .next t ∧ s.refusedWith (.cc k) 1 .poisoned t) ∧
    (∀ (k : Fin 4) (rd a : RegNo) (i : BitVec 12) (s : State) (x : Status),
      s.goes (.cc k) 1 = true →
      s.gp (.cc k) a = false →
      (s.begun (.cc k) 1).access k.val .load (effAddr (s.gv (.cc k) a) i) 4 = .error x →
      ∃ t, exec (.ldw k rd a i) s = .next t ∧ s.refusedFrom ((s.begun (.cc k) 1).violation x) (.cc k) x (decide (x = .poisoned)) t) ∧
    (∀ (k : Fin 4) (rd a : RegNo) (i : BitVec 12) (s : State),
      s.goes (.cc k) 1 = true →
      pairOk rd = true →
      s.gp (.cc k) a = true →
      ∃ t, exec (.ldd k rd a i) s = .next t ∧ s.refusedWith (.cc k) 1 .poisoned t) ∧
    (∀ (k : Fin 4) (rd a : RegNo) (i : BitVec 12) (s : State) (x : Status),
      s.goes (.cc k) 1 = true →
      s.gp (.cc k) a = false →
      pairOk rd = true →
      (s.begun (.cc k) 1).access k.val .load (effAddr (s.gv (.cc k) a) i) 8 = .error x →
      ∃ t, exec (.ldd k rd a i) s = .next t ∧ s.refusedFrom ((s.begun (.cc k) 1).violation x) (.cc k) x (decide (x = .poisoned)) t) ∧
    (∀ (s : State) (k ea n : Nat) (right acc : Acc) (p : Place),
      s.accessAs k right acc ea n = .ok p →
      s.region p.pa n = some .csr →
      n = 4) ∧
    (∀ (k : Fin 4) (rd a : RegNo) (i : BitVec 12) (s : State) (p : Place),
      s.goes (.cc k) 1 = true →
      s.gp (.cc k) a = false →
      (s.begun (.cc k) 1).access k.val .load (effAddr (s.gv (.cc k) a) i) 4 = .ok p →
      (s.begun (.cc k) 1).region p.pa 4 = some .csr →
      ((s.begun (.cc k) 1).csrRead (.cc k) (p.pa - csrBase)).answer.status = .done →
      ∃ t, exec (.ldw k rd a i) s = .next t ∧ s.loadedTo ((s.begun (.cc k) 1).csrRead (.cc k) (p.pa - csrBase)) (.cc k) rd (BitVec.ofNat 32 ((s.begun (.cc k) 1).csrRead (.cc k) (p.pa - csrBase)).answer.value) false t) ∧
    (∀ (k : Fin 4) (rd a : RegNo) (i : BitVec 12) (s : State) (p : Place) (x : Status),
      s.goes (.cc k) 1 = true →
      s.gp (.cc k) a = false →
      (s.begun (.cc k) 1).access k.val .load (effAddr (s.gv (.cc k) a) i) 4 = .ok p →
      (s.begun (.cc k) 1).region p.pa 4 = some .csr →
      x = ((s.begun (.cc k) 1).csrRead (.cc k) (p.pa - csrBase)).answer.status →
      x ≠ .done →
      ∃ t, exec (.ldw k rd a i) s = .next t ∧ s.refusedFrom ((s.begun (.cc k) 1).csrRead (.cc k) (p.pa - csrBase)) (.cc k) x false t)

/-- STB, STH, STW and STD of a running control core whose base register is not poisoned, at an address that passes the checks of
R100 and lies outside CSR space, complete with DONE: the low bytes of the register (the pair for STD), little-endian, go to the
place the address maps to, poisoning their granules when the register is poisoned, which sets PS; no register and nothing beside
that store changes. STB, STH, STW and STD through an uncached window: after the store, the bytes of the range read as the
register's value, and every byte outside the range reads as it read before; the poison of granules outside the range is as it
was. STD with a register that is no pair is refused with BAD_REGISTER, then a poisoned base register with POISONED, then an
address that fails a check with that check's status (PLANE_DENIED also sets PLANE_VIOL). Through a window onto CSR space only
STW passes: it writes the register's word, ending with DONE or refused with the status that write answers, and where the write
resets the core nothing of the instruction is left. (R49, R97, R98, R100, R112, R150, R161) -/
def Obligations.ControlStores : Prop :=
    (∀ (k : Fin 4) (rd a : RegNo) (i : BitVec 12) (s : State) (p : Place),
      s.goes (.cc k) 1 = true →
      s.gp (.cc k) a = false →
      (s.begun (.cc k) 1).access k.val .store (effAddr (s.gv (.cc k) a) i) 1 = .ok p →
      (s.begun (.cc k) 1).region p.pa 1 ≠ some .csr →
      ∃ t, exec (.stb k rd a i) s = .next t ∧ s.storedFrom ((s.begun (.cc k) 1).storeAt k.val p (leBytes 1 (s.gv (.cc k) rd).toNat) (s.gp (.cc k) rd)) (.cc k) (s.gp (.cc k) rd) t) ∧
    (∀ (k : Fin 4) (rd a : RegNo) (i : BitVec 12) (s : State) (p : Place),
      s.goes (.cc k) 1 = true →
      s.gp (.cc k) a = false →
      (s.begun (.cc k) 1).access k.val .store (effAddr (s.gv (.cc k) a) i) 2 = .ok p →
      (s.begun (.cc k) 1).region p.pa 2 ≠ some .csr →
      ∃ t, exec (.sth k rd a i) s = .next t ∧ s.storedFrom ((s.begun (.cc k) 1).storeAt k.val p (leBytes 2 (s.gv (.cc k) rd).toNat) (s.gp (.cc k) rd)) (.cc k) (s.gp (.cc k) rd) t) ∧
    (∀ (k : Fin 4) (rd a : RegNo) (i : BitVec 12) (s : State) (p : Place),
      s.goes (.cc k) 1 = true →
      s.gp (.cc k) a = false →
      (s.begun (.cc k) 1).access k.val .store (effAddr (s.gv (.cc k) a) i) 4 = .ok p →
      (s.begun (.cc k) 1).region p.pa 4 ≠ some .csr →
      ∃ t, exec (.stw k rd a i) s = .next t ∧ s.storedFrom ((s.begun (.cc k) 1).storeAt k.val p (leBytes 4 (s.gv (.cc k) rd).toNat) (s.gp (.cc k) rd)) (.cc k) (s.gp (.cc k) rd) t) ∧
    (∀ (k : Fin 4) (rd a : RegNo) (i : BitVec 12) (s : State) (p : Place),
      s.goes (.cc k) 1 = true →
      s.gp (.cc k) a = false →
      pairOk rd = true →
      (s.begun (.cc k) 1).access k.val .store (effAddr (s.gv (.cc k) a) i) 8 = .ok p →
      (s.begun (.cc k) 1).region p.pa 8 ≠ some .csr →
      ∃ t, exec (.std k rd a i) s = .next t ∧ s.storedFrom ((s.begun (.cc k) 1).storeAt k.val p (leBytes 8 ((s.cpu (.cc k)).pair rd.toNat)) ((s.cpu (.cc k)).pairBad rd.toNat)) (.cc k) ((s.cpu (.cc k)).pairBad rd.toNat) t) ∧
    (∀ (k : Fin 4) (rd a : RegNo) (i : BitVec 12) (s : State) (p : Place),
      s.goes (.cc k) 1 = true →
      s.gp (.cc k) a = false →
      (s.begun (.cc k) 1).access k.val .store (effAddr (s.gv (.cc k) a) i) 1 = .ok p →
      p.cache = 0 →
      (s.begun (.cc k) 1).region p.pa 1 ≠ some .csr →
      ∃ t, exec (.stb k rd a i) s = .next t ∧ t.bytes p.pa 1 = (leBytes 1 (s.gv (.cc k) rd).toNat) ∧
        (∀ x, x < p.pa ∨ p.pa + 1 ≤ x → t.byte x = s.byte x) ∧
        (∀ g, touches p.pa 1 g = false → (g ∈ t.poison ↔ g ∈ s.poison))) ∧
    (∀ (k : Fin 4) (rd a : RegNo) (i : BitVec 12) (s : State) (p : Place),
      s.goes (.cc k) 1 = true →
      s.gp (.cc k) a = false →
      (s.begun (.cc k) 1).access k.val .store (effAddr (s.gv (.cc k) a) i) 2 = .ok p →
      p.cache = 0 →
      (s.begun (.cc k) 1).region p.pa 2 ≠ some .csr →
      ∃ t, exec (.sth k rd a i) s = .next t ∧ t.bytes p.pa 2 = (leBytes 2 (s.gv (.cc k) rd).toNat) ∧
        (∀ x, x < p.pa ∨ p.pa + 2 ≤ x → t.byte x = s.byte x) ∧
        (∀ g, touches p.pa 2 g = false → (g ∈ t.poison ↔ g ∈ s.poison))) ∧
    (∀ (k : Fin 4) (rd a : RegNo) (i : BitVec 12) (s : State) (p : Place),
      s.goes (.cc k) 1 = true →
      s.gp (.cc k) a = false →
      (s.begun (.cc k) 1).access k.val .store (effAddr (s.gv (.cc k) a) i) 4 = .ok p →
      p.cache = 0 →
      (s.begun (.cc k) 1).region p.pa 4 ≠ some .csr →
      ∃ t, exec (.stw k rd a i) s = .next t ∧ t.bytes p.pa 4 = (leBytes 4 (s.gv (.cc k) rd).toNat) ∧
        (∀ x, x < p.pa ∨ p.pa + 4 ≤ x → t.byte x = s.byte x) ∧
        (∀ g, touches p.pa 4 g = false → (g ∈ t.poison ↔ g ∈ s.poison))) ∧
    (∀ (k : Fin 4) (rd a : RegNo) (i : BitVec 12) (s : State) (p : Place),
      s.goes (.cc k) 1 = true →
      s.gp (.cc k) a = false →
      pairOk rd = true →
      (s.begun (.cc k) 1).access k.val .store (effAddr (s.gv (.cc k) a) i) 8 = .ok p →
      p.cache = 0 →
      (s.begun (.cc k) 1).region p.pa 8 ≠ some .csr →
      ∃ t, exec (.std k rd a i) s = .next t ∧ t.bytes p.pa 8 = (leBytes 8 ((s.cpu (.cc k)).pair rd.toNat)) ∧
        (∀ x, x < p.pa ∨ p.pa + 8 ≤ x → t.byte x = s.byte x) ∧
        (∀ g, touches p.pa 8 g = false → (g ∈ t.poison ↔ g ∈ s.poison))) ∧
    (∀ (k : Fin 4) (rd a : RegNo) (i : BitVec 12) (s : State),
      s.goes (.cc k) 1 = true →
      pairOk rd = false →
      ∃ t, exec (.std k rd a i) s = .next t ∧ s.refusedWith (.cc k) 1 .badRegister t) ∧
    (∀ (k : Fin 4) (rd a : RegNo) (i : BitVec 12) (s : State),
      s.goes (.cc k) 1 = true →
      s.gp (.cc k) a = true →
      ∃ t, exec (.stb k rd a i) s = .next t ∧ s.refusedWith (.cc k) 1 .poisoned t) ∧
    (∀ (k : Fin 4) (rd a : RegNo) (i : BitVec 12) (s : State) (x : Status),
      s.goes (.cc k) 1 = true →
      s.gp (.cc k) a = false →
      (s.begun (.cc k) 1).access k.val .store (effAddr (s.gv (.cc k) a) i) 1 = .error x →
      ∃ t, exec (.stb k rd a i) s = .next t ∧ s.refusedFrom ((s.begun (.cc k) 1).violation x) (.cc k) x (decide (x = .poisoned)) t) ∧
    (∀ (k : Fin 4) (rd a : RegNo) (i : BitVec 12) (s : State),
      s.goes (.cc k) 1 = true →
      s.gp (.cc k) a = true →
      ∃ t, exec (.sth k rd a i) s = .next t ∧ s.refusedWith (.cc k) 1 .poisoned t) ∧
    (∀ (k : Fin 4) (rd a : RegNo) (i : BitVec 12) (s : State) (x : Status),
      s.goes (.cc k) 1 = true →
      s.gp (.cc k) a = false →
      (s.begun (.cc k) 1).access k.val .store (effAddr (s.gv (.cc k) a) i) 2 = .error x →
      ∃ t, exec (.sth k rd a i) s = .next t ∧ s.refusedFrom ((s.begun (.cc k) 1).violation x) (.cc k) x (decide (x = .poisoned)) t) ∧
    (∀ (k : Fin 4) (rd a : RegNo) (i : BitVec 12) (s : State),
      s.goes (.cc k) 1 = true →
      s.gp (.cc k) a = true →
      ∃ t, exec (.stw k rd a i) s = .next t ∧ s.refusedWith (.cc k) 1 .poisoned t) ∧
    (∀ (k : Fin 4) (rd a : RegNo) (i : BitVec 12) (s : State) (x : Status),
      s.goes (.cc k) 1 = true →
      s.gp (.cc k) a = false →
      (s.begun (.cc k) 1).access k.val .store (effAddr (s.gv (.cc k) a) i) 4 = .error x →
      ∃ t, exec (.stw k rd a i) s = .next t ∧ s.refusedFrom ((s.begun (.cc k) 1).violation x) (.cc k) x (decide (x = .poisoned)) t) ∧
    (∀ (k : Fin 4) (rd a : RegNo) (i : BitVec 12) (s : State),
      s.goes (.cc k) 1 = true →
      pairOk rd = true →
      s.gp (.cc k) a = true →
      ∃ t, exec (.std k rd a i) s = .next t ∧ s.refusedWith (.cc k) 1 .poisoned t) ∧
    (∀ (k : Fin 4) (rd a : RegNo) (i : BitVec 12) (s : State) (x : Status),
      s.goes (.cc k) 1 = true →
      s.gp (.cc k) a = false →
      pairOk rd = true →
      (s.begun (.cc k) 1).access k.val .store (effAddr (s.gv (.cc k) a) i) 8 = .error x →
      ∃ t, exec (.std k rd a i) s = .next t ∧ s.refusedFrom ((s.begun (.cc k) 1).violation x) (.cc k) x (decide (x = .poisoned)) t) ∧
    (∀ (k : Fin 4) (rd a : RegNo) (i : BitVec 12) (s : State) (p : Place),
      s.goes (.cc k) 1 = true →
      s.gp (.cc k) a = false →
      (s.begun (.cc k) 1).access k.val .store (effAddr (s.gv (.cc k) a) i) 4 = .ok p →
      (s.begun (.cc k) 1).region p.pa 4 = some .csr →
      ((s.begun (.cc k) 1).csrWord (.cc k) (p.pa - csrBase) (s.gv (.cc k) rd)).cc k.val = (s.begun (.cc k) 1).cc k.val →
      ((s.begun (.cc k) 1).csrWord (.cc k) (p.pa - csrBase) (s.gv (.cc k) rd)).answer.status = .done →
      ∃ t, exec (.stw k rd a i) s = .next t ∧ s.storedFrom ((s.begun (.cc k) 1).csrWord (.cc k) (p.pa - csrBase) (s.gv (.cc k) rd)) (.cc k) (s.gp (.cc k) rd) t) ∧
    (∀ (k : Fin 4) (rd a : RegNo) (i : BitVec 12) (s : State) (p : Place) (x : Status),
      s.goes (.cc k) 1 = true →
      s.gp (.cc k) a = false →
      (s.begun (.cc k) 1).access k.val .store (effAddr (s.gv (.cc k) a) i) 4 = .ok p →
      (s.begun (.cc k) 1).region p.pa 4 = some .csr →
      ((s.begun (.cc k) 1).csrWord (.cc k) (p.pa - csrBase) (s.gv (.cc k) rd)).cc k.val = (s.begun (.cc k) 1).cc k.val →
      x = ((s.begun (.cc k) 1).csrWord (.cc k) (p.pa - csrBase) (s.gv (.cc k) rd)).answer.status →
      x ≠ .done →
      ∃ t, exec (.stw k rd a i) s = .next t ∧ s.refusedFrom ((s.begun (.cc k) 1).csrWord (.cc k) (p.pa - csrBase) (s.gv (.cc k) rd)) (.cc k) x false t) ∧
    (∀ (k : Fin 4) (rd a : RegNo) (i : BitVec 12) (s : State) (p : Place),
      s.goes (.cc k) 1 = true →
      s.gp (.cc k) a = false →
      (s.begun (.cc k) 1).access k.val .store (effAddr (s.gv (.cc k) a) i) 4 = .ok p →
      (s.begun (.cc k) 1).region p.pa 4 = some .csr →
      ((s.begun (.cc k) 1).csrWord (.cc k) (p.pa - csrBase) (s.gv (.cc k) rd)).cc k.val ≠ (s.begun (.cc k) 1).cc k.val →
      exec (.stw k rd a i) s = .next ((s.begun (.cc k) 1).csrWord (.cc k) (p.pa - csrBase) (s.gv (.cc k) rd)))

/-- CSRR and CSRW of a running control core, with an address register that is not poisoned: where the register access answers DONE
and its effect does not reset the core, CSRR loads the value answered and CSRW writes the register named, both ending with DONE;
where the access is refused the instruction is refused with that status, and a poisoned address register is refused with
POISONED before any access. FENCE, CFLUSHA and IINVA of a running control core complete and move on; FENCE writes back every
dirty line of the core's data cache, so that no earlier store is left in it, and changes nothing else; after CFLUSHA the core's
data cache holds no line, and IINVA empties its instruction cache. CINV, CCLEAN, CFLUSH and IINV, at an address that passes
their checks and is not poisoned, end with DONE: on an uncached window nothing else happens; on a cached one the line that holds
the address is given up, written back, both, or dropped from the instruction cache. A CSRW whose write resets the core leaves
nothing of the instruction; a read of a register resets no core. CFLUSHA leaves all but that cache, memory and its marks as it
was. CINV, CCLEAN, CFLUSH and IINV with a poisoned address register are refused with POISONED, and with an address that fails
their checks with that check's status, but a misaligned one ends with DONE and nothing else. (R96, R97, R107, R108, R109, R156,
R164, R165) -/
def Obligations.CsrAndCacheInstructions : Prop :=
    (∀ (k : Fin 4) (rd a : RegNo) (s : State),
      s.goes (.cc k) 1 = true →
      s.gp (.cc k) a = false →
      ((s.begun (.cc k) 1).csrRead (.cc k) (s.gv (.cc k) a).toNat).answer.status = .done →
      ((s.begun (.cc k) 1).csrRead (.cc k) (s.gv (.cc k) a).toNat).cc k.val = (s.begun (.cc k) 1).cc k.val →
      ∃ t, exec (.csrr k rd a) s = .next t ∧
        s.loadedTo ((s.begun (.cc k) 1).csrRead (.cc k) (s.gv (.cc k) a).toNat) (.cc k) rd (BitVec.ofNat 32 ((s.begun (.cc k) 1).csrRead (.cc k) (s.gv (.cc k) a).toNat).answer.value) false t) ∧
    (∀ (k : Fin 4) (a b : RegNo) (s : State),
      s.goes (.cc k) 1 = true →
      s.gp (.cc k) a = false →
      ((s.begun (.cc k) 1).csrWord (.cc k) (s.gv (.cc k) a).toNat (s.gv (.cc k) b)).answer.status = .done →
      ((s.begun (.cc k) 1).csrWord (.cc k) (s.gv (.cc k) a).toNat (s.gv (.cc k) b)).cc k.val = (s.begun (.cc k) 1).cc k.val →
      ∃ t, exec (.csrw k a b) s = .next t ∧
        s.storedFrom ((s.begun (.cc k) 1).csrWord (.cc k) (s.gv (.cc k) a).toNat (s.gv (.cc k) b)) (.cc k) (s.gp (.cc k) b) t) ∧
    (∀ (k : Fin 4) (rd a : RegNo) (s : State),
      s.goes (.cc k) 1 = true →
      s.gp (.cc k) a = true →
      ∃ t, exec (.csrr k rd a) s = .next t ∧ s.refusedWith (.cc k) 1 .poisoned t) ∧
    (∀ (k : Fin 4) (rd a : RegNo) (s : State),
      s.goes (.cc k) 1 = true →
      s.gp (.cc k) a = true →
      ∃ t, exec (.csrw k a rd) s = .next t ∧ s.refusedWith (.cc k) 1 .poisoned t) ∧
    (∀ (k : Fin 4) (s : State),
      s.goes (.cc k) 1 = true →
      ∃ t, exec (.fence k) s = .next t ∧ t = ((s.begun (.cc k) 1).cleanAll k.val).setCpu (.cc k) (t.cpu (.cc k)) ∧
        t.cpu (.cc k) = { s.cpu (.cc k) with pc := (s.cpu (.cc k)).pc + 4 } ∧ (∀ l c, t.cline l = some c → k.val ∈ c.holders → c.dirty = false)) ∧
    (∀ (k : Fin 4) (s : State),
      s.goes (.cc k) 1 = true →
      ∃ t, exec (.cflusha k) s = .next t ∧ t.cpu (.cc k) = { s.cpu (.cc k) with pc := (s.cpu (.cc k)).pc + 4 } ∧
        (∀ d, d ≠ .cc k → t.cpu d = s.cpu d) ∧ (∀ l c, t.cline l = some c → k.val ∉ c.holders)) ∧
    (∀ (k : Fin 4) (s : State),
      s.goes (.cc k) 1 = true →
      exec (.iinva k) s = .next ((s.begun (.cc k) 1).setCc k.val
          { (s.begun (.cc k) 1).cc k.val with icache := [], cpu := { s.cpu (.cc k) with pc := (s.cpu (.cc k)).pc + 4 } })) ∧
    (∀ (k : Fin 4) (a : RegNo) (s : State) (p : Place),
      s.goes (.cc k) 1 = true →
      s.gp (.cc k) a = false →
      (s.begun (.cc k) 1).accessAs k.val .store .load (s.gv (.cc k) a).toNat 1 = .ok p →
      ∃ t, exec (.cinv k a) s = .next t ∧
        s.storedFrom (if p.cache = 0 then (s.begun (.cc k) 1) else (s.begun (.cc k) 1).giveUp k.val (p.pa / 64)) (.cc k) false t) ∧
    (∀ (k : Fin 4) (a : RegNo) (s : State) (p : Place),
      s.goes (.cc k) 1 = true →
      s.gp (.cc k) a = false →
      (s.begun (.cc k) 1).accessAs k.val .load .load (s.gv (.cc k) a).toNat 1 = .ok p →
      ∃ t, exec (.cclean k a) s = .next t ∧
        s.storedFrom (if p.cache = 0 then (s.begun (.cc k) 1) else (s.begun (.cc k) 1).cleanOwn k.val (p.pa / 64)) (.cc k) false t) ∧
    (∀ (k : Fin 4) (a : RegNo) (s : State) (p : Place),
      s.goes (.cc k) 1 = true →
      s.gp (.cc k) a = false →
      (s.begun (.cc k) 1).accessAs k.val .load .load (s.gv (.cc k) a).toNat 1 = .ok p →
      ∃ t, exec (.cflush k a) s = .next t ∧
        s.storedFrom (if p.cache = 0 then (s.begun (.cc k) 1) else ((s.begun (.cc k) 1).cleanOwn k.val (p.pa / 64)).giveUp k.val (p.pa / 64)) (.cc k) false t) ∧
    (∀ (k : Fin 4) (a : RegNo) (s : State) (p : Place),
      s.goes (.cc k) 1 = true →
      s.gp (.cc k) a = false →
      (s.begun (.cc k) 1).accessAs k.val .fetch .load (s.gv (.cc k) a).toNat 1 = .ok p →
      ∃ t, exec (.iinv k a) s = .next t ∧
        s.storedFrom (if p.cache = 0 then (s.begun (.cc k) 1) else (s.begun (.cc k) 1).setCc k.val { (s.begun (.cc k) 1).cc k.val with icache := setDel (p.pa / 64) ((s.begun (.cc k) 1).cc k.val).icache }) (.cc k) false t) ∧
    (∀ (s : State) (ag : Agent) (csr : Nat),
      (s.csrRead ag csr).ccs = s.ccs) ∧
    (∀ (k : Fin 4) (rd a : RegNo) (s : State) (x : Status),
      s.goes (.cc k) 1 = true →
      s.gp (.cc k) a = false →
      x = ((s.begun (.cc k) 1).csrRead (.cc k) (s.gv (.cc k) a).toNat).answer.status →
      x ≠ .done →
      ∃ t, exec (.csrr k rd a) s = .next t ∧ s.refusedFrom ((s.begun (.cc k) 1).csrRead (.cc k) (s.gv (.cc k) a).toNat) (.cc k) x false t) ∧
    (∀ (k : Fin 4) (rd a : RegNo) (s : State) (x : Status),
      s.goes (.cc k) 1 = true →
      s.gp (.cc k) a = false →
      ((s.begun (.cc k) 1).csrWord (.cc k) (s.gv (.cc k) a).toNat (s.gv (.cc k) rd)).cc k.val = (s.begun (.cc k) 1).cc k.val →
      x = ((s.begun (.cc k) 1).csrWord (.cc k) (s.gv (.cc k) a).toNat (s.gv (.cc k) rd)).answer.status →
      x ≠ .done →
      ∃ t, exec (.csrw k a rd) s = .next t ∧ s.refusedFrom ((s.begun (.cc k) 1).csrWord (.cc k) (s.gv (.cc k) a).toNat (s.gv (.cc k) rd)) (.cc k) x false t) ∧
    (∀ (k : Fin 4) (rd a : RegNo) (s : State),
      s.goes (.cc k) 1 = true →
      s.gp (.cc k) a = false →
      ((s.begun (.cc k) 1).csrWord (.cc k) (s.gv (.cc k) a).toNat (s.gv (.cc k) rd)).cc k.val ≠ (s.begun (.cc k) 1).cc k.val →
      exec (.csrw k a rd) s = .next ((s.begun (.cc k) 1).csrWord (.cc k) (s.gv (.cc k) a).toNat (s.gv (.cc k) rd))) ∧
    (∀ (k : Fin 4) (s : State),
      s.goes (.cc k) 1 = true →
      ∃ t, exec (.cflusha k) s = .next t ∧ t = { s.begun (.cc k) 1 with mem := t.mem, poison := t.poison, soft := t.soft, dcache := t.dcache, ccs := t.ccs } ∧
        (∀ j, j ≠ k.val → t.cc j = s.cc j) ∧ t.cc k.val = { (s.begun (.cc k) 1).cc k.val with cpu := { s.cpu (.cc k) with pc := (s.cpu (.cc k)).pc + 4 } }) ∧
    (∀ (k : Fin 4) (a : RegNo) (s : State),
      s.goes (.cc k) 1 = true →
      s.gp (.cc k) a = true →
      ∃ t, exec (.cinv k a) s = .next t ∧ s.refusedWith (.cc k) 1 .poisoned t) ∧
    (∀ (k : Fin 4) (a : RegNo) (s : State),
      s.goes (.cc k) 1 = true →
      s.gp (.cc k) a = false →
      (s.begun (.cc k) 1).accessAs k.val .store .load (s.gv (.cc k) a).toNat 1 = .error .badAlign →
      ∃ t, exec (.cinv k a) s = .next t ∧ s.storedFrom (s.begun (.cc k) 1) (.cc k) false t) ∧
    (∀ (k : Fin 4) (a : RegNo) (s : State) (x : Status),
      s.goes (.cc k) 1 = true →
      s.gp (.cc k) a = false →
      (s.begun (.cc k) 1).accessAs k.val .store .load (s.gv (.cc k) a).toNat 1 = .error x →
      x ≠ .badAlign →
      ∃ t, exec (.cinv k a) s = .next t ∧ s.refusedFrom ((s.begun (.cc k) 1).violation x) (.cc k) x (decide (x = .poisoned)) t) ∧
    (∀ (k : Fin 4) (a : RegNo) (s : State),
      s.goes (.cc k) 1 = true →
      s.gp (.cc k) a = true →
      ∃ t, exec (.cclean k a) s = .next t ∧ s.refusedWith (.cc k) 1 .poisoned t) ∧
    (∀ (k : Fin 4) (a : RegNo) (s : State),
      s.goes (.cc k) 1 = true →
      s.gp (.cc k) a = false →
      (s.begun (.cc k) 1).accessAs k.val .load .load (s.gv (.cc k) a).toNat 1 = .error .badAlign →
      ∃ t, exec (.cclean k a) s = .next t ∧ s.storedFrom (s.begun (.cc k) 1) (.cc k) false t) ∧
    (∀ (k : Fin 4) (a : RegNo) (s : State) (x : Status),
      s.goes (.cc k) 1 = true →
      s.gp (.cc k) a = false →
      (s.begun (.cc k) 1).accessAs k.val .load .load (s.gv (.cc k) a).toNat 1 = .error x →
      x ≠ .badAlign →
      ∃ t, exec (.cclean k a) s = .next t ∧ s.refusedFrom ((s.begun (.cc k) 1).violation x) (.cc k) x (decide (x = .poisoned)) t) ∧
    (∀ (k : Fin 4) (a : RegNo) (s : State),
      s.goes (.cc k) 1 = true →
      s.gp (.cc k) a = true →
      ∃ t, exec (.cflush k a) s = .next t ∧ s.refusedWith (.cc k) 1 .poisoned t) ∧
    (∀ (k : Fin 4) (a : RegNo) (s : State),
      s.goes (.cc k) 1 = true →
      s.gp (.cc k) a = false →
      (s.begun (.cc k) 1).accessAs k.val .load .load (s.gv (.cc k) a).toNat 1 = .error .badAlign →
      ∃ t, exec (.cflush k a) s = .next t ∧ s.storedFrom (s.begun (.cc k) 1) (.cc k) false t) ∧
    (∀ (k : Fin 4) (a : RegNo) (s : State) (x : Status),
      s.goes (.cc k) 1 = true →
      s.gp (.cc k) a = false →
      (s.begun (.cc k) 1).accessAs k.val .load .load (s.gv (.cc k) a).toNat 1 = .error x →
      x ≠ .badAlign →
      ∃ t, exec (.cflush k a) s = .next t ∧ s.refusedFrom ((s.begun (.cc k) 1).violation x) (.cc k) x (decide (x = .poisoned)) t) ∧
    (∀ (k : Fin 4) (a : RegNo) (s : State),
      s.goes (.cc k) 1 = true →
      s.gp (.cc k) a = true →
      ∃ t, exec (.iinv k a) s = .next t ∧ s.refusedWith (.cc k) 1 .poisoned t) ∧
    (∀ (k : Fin 4) (a : RegNo) (s : State),
      s.goes (.cc k) 1 = true →
      s.gp (.cc k) a = false →
      (s.begun (.cc k) 1).accessAs k.val .fetch .load (s.gv (.cc k) a).toNat 1 = .error .badAlign →
      ∃ t, exec (.iinv k a) s = .next t ∧ s.storedFrom (s.begun (.cc k) 1) (.cc k) false t) ∧
    (∀ (k : Fin 4) (a : RegNo) (s : State) (x : Status),
      s.goes (.cc k) 1 = true →
      s.gp (.cc k) a = false →
      (s.begun (.cc k) 1).accessAs k.val .fetch .load (s.gv (.cc k) a).toNat 1 = .error x →
      x ≠ .badAlign →
      ∃ t, exec (.iinv k a) s = .next t ∧ s.refusedFrom ((s.begun (.cc k) 1).violation x) (.cc k) x (decide (x = .poisoned)) t)

/-- MFSR of a running control core loads EVEC, EPC, ECAUSE, EADDR, ESTATE, IMASK, IPEND, DBELL (which reads as zero: the model's
reading of a write-only register) or SCRATCH for n from 0 to 8, and MTSR writes EVEC with its two low bits kept zero, EPC, IE
and PIE of ESTATE, IMASK, the doorbell, or SCRATCH, both ending with DONE; MFSR with any other n, and MTSR to a read-only
register or with any other n, are refused with BAD_ARGUMENT. (R97, R98, R110, R167, R174) -/
def Obligations.SpecialRegisters : Prop :=
    (∀ (k : Fin 4) (rd : RegNo) (s : State),
      s.goes (.cc k) 1 = true →
      ∃ t, exec (.mfsr k rd 0) s = .next t ∧ s.loadedTo (s.begun (.cc k) 1) (.cc k) rd ((s.cc k.val).evec) false t) ∧
    (∀ (k : Fin 4) (rd : RegNo) (s : State),
      s.goes (.cc k) 1 = true →
      ∃ t, exec (.mfsr k rd 1) s = .next t ∧ s.loadedTo (s.begun (.cc k) 1) (.cc k) rd ((s.cc k.val).epc) false t) ∧
    (∀ (k : Fin 4) (rd : RegNo) (s : State),
      s.goes (.cc k) 1 = true →
      ∃ t, exec (.mfsr k rd 2) s = .next t ∧ s.loadedTo (s.begun (.cc k) 1) (.cc k) rd ((s.cc k.val).ecause) false t) ∧
    (∀ (k : Fin 4) (rd : RegNo) (s : State),
      s.goes (.cc k) 1 = true →
      ∃ t, exec (.mfsr k rd 3) s = .next t ∧ s.loadedTo (s.begun (.cc k) 1) (.cc k) rd ((s.cc k.val).eaddr) false t) ∧
    (∀ (k : Fin 4) (rd : RegNo) (s : State),
      s.goes (.cc k) 1 = true →
      ∃ t, exec (.mfsr k rd 4) s = .next t ∧ s.loadedTo (s.begun (.cc k) 1) (.cc k) rd ((s.cc k.val).estate) false t) ∧
    (∀ (k : Fin 4) (rd : RegNo) (s : State),
      s.goes (.cc k) 1 = true →
      ∃ t, exec (.mfsr k rd 5) s = .next t ∧ s.loadedTo (s.begun (.cc k) 1) (.cc k) rd ((s.cc k.val).imask) false t) ∧
    (∀ (k : Fin 4) (rd : RegNo) (s : State),
      s.goes (.cc k) 1 = true →
      ∃ t, exec (.mfsr k rd 6) s = .next t ∧ s.loadedTo (s.begun (.cc k) 1) (.cc k) rd (BitVec.ofNat 32 ((s.begun (.cc k) 1).ipend k.val)) false t) ∧
    (∀ (k : Fin 4) (rd : RegNo) (s : State),
      s.goes (.cc k) 1 = true →
      ∃ t, exec (.mfsr k rd 7) s = .next t ∧ s.loadedTo (s.begun (.cc k) 1) (.cc k) rd (0) false t) ∧
    (∀ (k : Fin 4) (rd : RegNo) (s : State),
      s.goes (.cc k) 1 = true →
      ∃ t, exec (.mfsr k rd 8) s = .next t ∧ s.loadedTo (s.begun (.cc k) 1) (.cc k) rd ((s.cc k.val).scratch) false t) ∧
    (∀ (k : Fin 4) (a : RegNo) (s : State),
      s.goes (.cc k) 1 = true →
      ∃ t, exec (.mtsr k a 0) s = .next t ∧ s.storedFrom ((s.begun (.cc k) 1).setCc k.val { (s.begun (.cc k) 1).cc k.val with evec := (s.gv (.cc k) a) &&& 0xFFFFFFFC }) (.cc k) (s.gp (.cc k) a) t) ∧
    (∀ (k : Fin 4) (a : RegNo) (s : State),
      s.goes (.cc k) 1 = true →
      ∃ t, exec (.mtsr k a 1) s = .next t ∧ s.storedFrom ((s.begun (.cc k) 1).setCc k.val { (s.begun (.cc k) 1).cc k.val with epc := (s.gv (.cc k) a) }) (.cc k) (s.gp (.cc k) a) t) ∧
    (∀ (k : Fin 4) (a : RegNo) (s : State),
      s.goes (.cc k) 1 = true →
      ∃ t, exec (.mtsr k a 4) s = .next t ∧ s.storedFrom ((s.begun (.cc k) 1).setCc k.val { (s.begun (.cc k) 1).cc k.val with estate := ((s.gv (.cc k) a) &&& 3) ||| (((s.begun (.cc k) 1).cc k.val).estate &&& 4) }) (.cc k) (s.gp (.cc k) a) t) ∧
    (∀ (k : Fin 4) (a : RegNo) (s : State),
      s.goes (.cc k) 1 = true →
      ∃ t, exec (.mtsr k a 5) s = .next t ∧ s.storedFrom ((s.begun (.cc k) 1).setCc k.val { (s.begun (.cc k) 1).cc k.val with imask := (s.gv (.cc k) a) }) (.cc k) (s.gp (.cc k) a) t) ∧
    (∀ (k : Fin 4) (a : RegNo) (s : State),
      s.goes (.cc k) 1 = true →
      ∃ t, exec (.mtsr k a 7) s = .next t ∧ s.storedFrom ((s.begun (.cc k) 1).ring k.val (s.gv (.cc k) a).toNat) (.cc k) (s.gp (.cc k) a) t) ∧
    (∀ (k : Fin 4) (a : RegNo) (s : State),
      s.goes (.cc k) 1 = true →
      ∃ t, exec (.mtsr k a 8) s = .next t ∧ s.storedFrom ((s.begun (.cc k) 1).setCc k.val { (s.begun (.cc k) 1).cc k.val with scratch := (s.gv (.cc k) a) }) (.cc k) (s.gp (.cc k) a) t) ∧
    (∀ (k : Fin 4) (a : RegNo) (n : BitVec 5) (s : State),
      s.goes (.cc k) 1 = true →
      8 < n.toNat →
      ∃ t, exec (.mfsr k a n) s = .next t ∧ s.refusedWith (.cc k) 1 .badArgument t) ∧
    (∀ (k : Fin 4) (a : RegNo) (n : BitVec 5) (s : State),
      s.goes (.cc k) 1 = true →
      8 < n.toNat ∨ n = 2 ∨ n = 3 ∨ n = 6 →
      ∃ t, exec (.mtsr k a n) s = .next t ∧ s.refusedWith (.cc k) 1 .badArgument t)

/-- ERET of a running control core in its handler sets the PC to EPC, IE to PIE and INH to 0, and nothing else changes; with INH = 0
it is refused with ILLEGAL_INSTRUCTION: ST and F are written, and the core enters its fault handler with cause ILLEGAL, EPC at
the instruction and EADDR 0, PIE taking IE, IE 0, INH 1. (R170) -/
def Obligations.EretReturns : Prop :=
    (∀ (k : Fin 4) (s : State),
      s.goes (.cc k) 1 = true →
      (s.cc k.val).estate.getLsbD 2 = true →
      exec (.eret k) s = .next ((s.begun (.cc k) 1).setCc k.val { (s.begun (.cc k) 1).cc k.val with
          cpu := { s.cpu (.cc k) with pc := (s.cc k.val).epc }, estate := if (s.cc k.val).estate.getLsbD 1 then 3 else 0 })) ∧
    (∀ (k : Fin 4) (s : State),
      s.goes (.cc k) 1 = true →
      (s.cc k.val).estate.getLsbD 2 = false →
      exec (.eret k) s = .next ((s.begun (.cc k) 1).setCc k.val { (s.begun (.cc k) 1).cc k.val with
          run := .run, cpu := { s.cpu (.cc k) with pc := (s.cc k.val).evec, fl := flEnded (s.cpu (.cc k)).fl .illegalInstruction true false }, epc := (s.cc k.val).cpu.pc, ecause := BitVec.ofNat 32 (2 + 2 ^ 16 * Status.illegalInstruction.code), eaddr := 0
          estate := if ((s.begun (.cc k) 1).cc k.val).estate.getLsbD 0 then 6 else 4 }))

/-- A word that the profile of the executing core does not have: on a running control core outside its handler ST takes
ILLEGAL_INSTRUCTION and F is set, and the core enters its fault handler with cause ILLEGAL; in its handler the fault is fatal:
the core stops, its locks break and the chip records the event; on a ledger core the item fails with ILLEGAL_INSTRUCTION. A word
that the profile has leaves this command without effect. An instruction of a core that does not execute changes nothing. On a
control core a fetch that a check refuses enters the handler with cause FETCH and the status, EADDR the PC (PLANE_DENIED also
sets PLANE_VIOL); in its handler that is fatal; a poisoned fetch and an uncorrectable error of its caches or register file are
fatal with cause MACHINE. A fatal core keeps its registers. On a ledger core an instruction whose weight exceeds what is left of
the budget fails the item with BUDGET_EXHAUSTED, its weight not counted, and a fetch outside its code memory, misaligned or
poisoned fails it with ILLEGAL_INSTRUCTION. (R93, R123, R147, R149, R153, R154, R168, R169, R171) -/
def Obligations.IllegalWords : Prop :=
    (∀ (k : Fin 4) (w : Word) (s : State),
      s.goes (.cc k) 1 = true →
      wordLegal false w.toNat = false →
      (s.cc k.val).estate.getLsbD 2 = false →
      exec (.illegalOpcode (.cc k) w) s = .next ((s.begun (.cc k) 1).setCc k.val { (s.begun (.cc k) 1).cc k.val with
          run := .run, cpu := { s.cpu (.cc k) with pc := (s.cc k.val).evec, fl := flEnded (s.cpu (.cc k)).fl .illegalInstruction true false }, epc := (s.cc k.val).cpu.pc, ecause := BitVec.ofNat 32 (2 + 2 ^ 16 * Status.illegalInstruction.code), eaddr := 0
          estate := if ((s.begun (.cc k) 1).cc k.val).estate.getLsbD 0 then 6 else 4 })) ∧
    (∀ (k : Fin 4) (w : Word) (s : State),
      s.goes (.cc k) 1 = true →
      wordLegal false w.toNat = false →
      (s.cc k.val).estate.getLsbD 2 = true →
      ∃ t, exec (.illegalOpcode (.cc k) w) s = .next t ∧ (t.cc k.val).run = .fatal ∧ (t.cc k.val).epc = (s.cc k.val).cpu.pc ∧
        (t.cc k.val).ecause = BitVec.ofNat 32 (2 + 2 ^ 16 * Status.illegalInstruction.code) ∧
        (∀ n, n < 256 → (s.lock n).st = .held → (s.lock n).owner = k.val → (s.lock n).waiters = [] → (t.lock n).st = .broken)) ∧
    (∀ (n : Fin 64) (w : Word) (s : State) (it : Item),
      s.goes (.lc n) 1 = true →
      (s.lc n.val).item = some it →
      wordLegal true w.toNat = false →
      exec (.illegalOpcode (.lc n) w) s = .next ((s.begun (.lc n) 1).itemFail n.val it .illegalInstruction ((s.lc n.val).used + 1))) ∧
    (∀ (i : Instr) (k : Fin 4) (w : Nat) (s : State),
      instrCore i = some (.cc k, w) →
      s.clocked = true →
      (s.cc k.val).run ≠ .run →
      exec i s = .next s) ∧
    (∀ (k : Fin 4) (w : Word) (s : State),
      s.clocked = true →
      ((s.cc k.val).run ≠ .run ∨ wordLegal false w.toNat = true) →
      exec (.illegalOpcode (.cc k) w) s = .next s) ∧
    (∀ (n : Fin 64) (w : Word) (s : State),
      s.clocked = true →
      ((s.lc n.val).run ≠ .running ∨ (s.lc n.val).item = none ∨ wordLegal true w.toNat = true) →
      exec (.illegalOpcode (.lc n) w) s = .next s) ∧
    (∀ (i : Instr) (k : Fin 4) (w : Nat) (s : State) (x : Status),
      instrCore i = some (.cc k, w) →
      s.clocked = true →
      (s.cc k.val).run = .run →
      s.access k.val .fetch (s.cc k.val).cpu.pc.toNat 4 = .error x →
      (s.cc k.val).estate.getLsbD 2 = false →
      exec i s = .next ((s.violation x).setCc k.val { (s.cc k.val) with run := .run, cpu := { (s.cc k.val).cpu with pc := (s.cc k.val).evec }, epc := (s.cc k.val).cpu.pc, ecause := BitVec.ofNat 32 (1 + 2 ^ 16 * x.code), eaddr := (s.cc k.val).cpu.pc, estate := if (s.cc k.val).estate.getLsbD 0 then 6 else 4 })) ∧
    (∀ (s : State) (x : Status),
      s.violation x = (if x = .planeDenied then s.setFlag fSYSSTAT_PLANE_VIOL true else s)) ∧
    (∀ (i : Instr) (k : Fin 4) (w : Nat) (s : State) (x : Status),
      instrCore i = some (.cc k, w) →
      s.clocked = true →
      (s.cc k.val).run = .run →
      s.access k.val .fetch (s.cc k.val).cpu.pc.toNat 4 = .error x →
      (s.cc k.val).estate.getLsbD 2 = true →
      ∃ t, exec i s = .next t ∧ (t.cc k.val).run = .fatal ∧ (t.cc k.val).cpu = (s.cc k.val).cpu ∧ (t.cc k.val).epc = (s.cc k.val).cpu.pc ∧
        (t.cc k.val).ecause = BitVec.ofNat 32 (1 + 2 ^ 16 * x.code) ∧ (t.cc k.val).eaddr = (s.cc k.val).cpu.pc ∧ t.queues = s.queues ∧ t.lcs = s.lcs ∧ t.key = s.key ∧
        (∀ n, n < 256 → (s.lock n).st = .held → (s.lock n).owner = k.val → (s.lock n).waiters = [] → (t.lock n).st = .broken)) ∧
    (∀ (i : Instr) (k : Fin 4) (w : Nat) (s : State) (p : Place),
      instrCore i = some (.cc k, w) →
      s.clocked = true →
      (s.cc k.val).run = .run →
      s.access k.val .fetch (s.cc k.val).cpu.pc.toNat 4 = .ok p →
      (s.cc k.val).err = none →
      s.fetchBad k.val p = true →
      ∃ t, exec i s = .next t ∧ (t.cc k.val).run = .fatal ∧ (t.cc k.val).cpu = (s.cc k.val).cpu ∧ (t.cc k.val).epc = (s.cc k.val).cpu.pc ∧
        (t.cc k.val).ecause = BitVec.ofNat 32 (0x10 + 2 ^ 16 * Status.poisoned.code) ∧ (t.cc k.val).eaddr = (s.cc k.val).cpu.pc ∧ t.queues = s.queues ∧ t.lcs = s.lcs ∧ t.key = s.key ∧
        (∀ n, n < 256 → (s.lock n).st = .held → (s.lock n).owner = k.val → (s.lock n).waiters = [] → (t.lock n).st = .broken)) ∧
    (∀ (i : Instr) (k : Fin 4) (w : Nat) (s : State) (p : Place) (e : CoreErr),
      instrCore i = some (.cc k, w) →
      s.clocked = true →
      (s.cc k.val).run = .run →
      s.access k.val .fetch (s.cc k.val).cpu.pc.toNat 4 = .ok p →
      (s.cc k.val).err = some e →
      ∃ t, exec i s = .next t ∧ (t.cc k.val).run = .fatal ∧ (t.cc k.val).cpu = (s.cc k.val).cpu ∧ (t.cc k.val).epc = (s.cc k.val).cpu.pc ∧
        (t.cc k.val).ecause = BitVec.ofNat 32 (0x10 + 2 ^ 16 * Status.poisoned.code) ∧ (t.cc k.val).eaddr = (match e with | .regFile => (s.cc k.val).cpu.pc | .line l => BitVec.ofNat 32 (64 * l)) ∧ t.queues = s.queues ∧ t.lcs = s.lcs ∧ t.key = s.key ∧
        (∀ n, n < 256 → (s.lock n).st = .held → (s.lock n).owner = k.val → (s.lock n).waiters = [] → (t.lock n).st = .broken)) ∧
    (∀ (i : Instr) (n : Fin 64) (w : Nat) (s : State),
      instrCore i = some (.lc n, w) →
      s.clocked = true →
      (s.lc n.val).run ≠ .running ∨ (s.lc n.val).item = none →
      i ≠ .waitw n →
      i ≠ .done n →
      exec i s = .next s) ∧
    (∀ (i : Instr) (n : Fin 64) (w : Nat) (s : State) (it : Item),
      instrCore i = some (.lc n, w) →
      s.clocked = true →
      (s.lc n.val).run = .running →
      (s.lc n.val).item = some it →
      s.lcFetchOk n.val = true →
      (s.lc n.val).budget < (s.lc n.val).used + w →
      exec i s = .next (s.itemFail n.val it .budgetExhausted (s.lc n.val).used)) ∧
    (∀ (i : Instr) (n : Fin 64) (w : Nat) (s : State) (it : Item),
      instrCore i = some (.lc n, w) →
      s.clocked = true →
      (s.lc n.val).run = .running →
      (s.lc n.val).item = some it →
      s.lcFetchOk n.val = false →
      (s.lc n.val).budget < (s.lc n.val).used + 1 →
      exec i s = .next (s.itemFail n.val it .budgetExhausted (s.lc n.val).used)) ∧
    (∀ (i : Instr) (n : Fin 64) (w : Nat) (s : State) (it : Item),
      instrCore i = some (.lc n, w) →
      s.clocked = true →
      (s.lc n.val).run = .running →
      (s.lc n.val).item = some it →
      s.lcFetchOk n.val = false →
      (s.lc n.val).used + 1 ≤ (s.lc n.val).budget →
      exec i s = .next ((s.setLc n.val { s.lc n.val with used := (s.lc n.val).used + 1 }).itemFail n.val it .illegalInstruction ((s.lc n.val).used + 1))) ∧
    (∀ (s : State) (n : Nat),
      s.lcFetchOk n = (decide ((s.lc n).cpu.pc.toNat % 4 = 0) && decide ((s.lc n).cpu.pc.toNat < 0x8000) && !s.poisonedIn (n * 0x20000 + (s.lc n).cpu.pc.toNat) 4))

/-- WFI of a running control core makes the core wait. While it waits, once a line pending and enabled is there, the core goes on at
PC + 4; when ESTATE.IE is 1 the lowest such line is taken instead: EPC is PC + 4, ECAUSE is 0x80 plus the line, EADDR 0, PIE 1,
IE 0, INH 1 and the PC at EVEC. A core that does not wait, or has no such line, is left as it is. (R166) -/
def Obligations.WaitForInterrupt : Prop :=
    (∀ (k : Fin 4) (s : State),
      s.goes (.cc k) 1 = true →
      exec (.wfi k) s = .next ((s.begun (.cc k) 1).setCc k.val { (s.begun (.cc k) 1).cc k.val with run := .wfi })) ∧
    (∀ (k : Fin 4) (s : State) (l : Nat),
      s.clocked = true →
      (s.cc k.val).run = .wfi →
      s.takenLine k.val = some l →
      (s.cc k.val).estate.getLsbD 0 = false →
      exec (.wfiWake k) s = .next (s.setCc k.val { s.cc k.val with run := .run, cpu := { s.cpu (.cc k) with pc := (s.cpu (.cc k)).pc + 4 } })) ∧
    (∀ (k : Fin 4) (s : State) (l : Nat),
      s.clocked = true →
      (s.cc k.val).run = .wfi →
      s.takenLine k.val = some l →
      (s.cc k.val).estate.getLsbD 0 = true →
      exec (.wfiWake k) s = .next (s.setCc k.val { s.cc k.val with
          run := .run, cpu := { s.cpu (.cc k) with pc := (s.cc k.val).evec }, epc := (s.cpu (.cc k)).pc + 4, ecause := BitVec.ofNat 32 (0x80 + l), eaddr := 0
          estate := 6 })) ∧
    (∀ (k : Fin 4) (s : State),
      s.clocked = true →
      ((s.cc k.val).run ≠ .wfi ∨ s.takenLine k.val = none) →
      exec (.wfiWake k) s = .next s)

/-- INTERRUPT_TAKE on a running control core with IE set and a line pending and enabled takes the lowest-numbered one: EPC is the
address of the instruction to resume, ECAUSE 0x80 plus the line, EADDR 0, PIE 1, IE 0, INH 1, the PC at EVEC, and nothing else
changes; a core stalled in DEQ or LOCK gives up its place in line, EPC holding the address of that instruction. A core waiting
in WFI resumes after it; a core that is held or stopped, has IE clear, or has no such line is left as it is. (R131, R166, R169,
R172, R173) -/
def Obligations.InterruptEntry : Prop :=
    (∀ (k : Fin 4) (s : State) (l : Nat),
      s.clocked = true →
      (s.cc k.val).run = .run →
      (s.cc k.val).estate.getLsbD 0 = true →
      s.takenLine k.val = some l →
      exec (.interruptTake k) s = .next (s.setCc k.val { s.cc k.val with
          run := .run, cpu := { s.cpu (.cc k) with pc := (s.cc k.val).evec }, epc := (s.cpu (.cc k)).pc, ecause := BitVec.ofNat 32 (0x80 + l), eaddr := 0
          estate := 6 })) ∧
    (∀ (k : Fin 4) (s : State) (l q ra : Nat),
      s.clocked = true →
      (s.cc k.val).run = .deq q ra →
      (s.cc k.val).estate.getLsbD 0 = true →
      s.takenLine k.val = some l →
      ∃ t, exec (.interruptTake k) s = .next t ∧ k.val ∉ (t.queue q).stalled ∧ (∀ j, j ≠ k.val → (j ∈ (t.queue q).stalled ↔ j ∈ (s.queue q).stalled)) ∧
        (t.cc k.val).run = .run ∧ (t.cc k.val).epc = (s.cpu (.cc k)).pc ∧ (t.cc k.val).cpu.pc = (s.cc k.val).evec) ∧
    (∀ (k : Fin 4) (s : State) (l n ra : Nat),
      s.clocked = true →
      (s.cc k.val).run = .lock n ra →
      (s.cc k.val).estate.getLsbD 0 = true →
      s.takenLine k.val = some l →
      ∃ t, exec (.interruptTake k) s = .next t ∧ k.val ∉ (t.lock n).waiters ∧ (t.lock n).st = (s.lock n).st ∧ (t.lock n).seq = (s.lock n).seq ∧
        (t.cc k.val).run = .run ∧ (t.cc k.val).epc = (s.cpu (.cc k)).pc ∧ (t.cc k.val).cpu.pc = (s.cc k.val).evec) ∧
    (∀ (k : Fin 4) (s : State) (l : Nat),
      s.clocked = true →
      (s.cc k.val).run = .wfi →
      s.takenLine k.val = some l →
      (s.cc k.val).estate.getLsbD 0 = true →
      exec (.interruptTake k) s = .next (s.setCc k.val { (s.cc k.val) with run := .run, cpu := { (s.cc k.val).cpu with pc := (s.cc k.val).evec }, epc := (s.cc k.val).cpu.pc + 4, ecause := BitVec.ofNat 32 (0x80 + l), eaddr := 0, estate := 6 })) ∧
    (∀ (k : Fin 4) (s : State) (l q ra : Nat),
      s.clocked = true →
      (s.cc k.val).run = .deq q ra →
      s.takenLine k.val = some l →
      (s.cc k.val).estate.getLsbD 0 = true →
      exec (.interruptTake k) s = .next ((s.setQueue q { s.queue q with stalled := (s.queue q).stalled.filter (· ≠ k.val) }).setCc k.val { (s.cc k.val) with run := .run, cpu := { (s.cc k.val).cpu with pc := (s.cc k.val).evec }, epc := (s.cc k.val).cpu.pc, ecause := BitVec.ofNat 32 (0x80 + l), eaddr := 0, estate := 6 })) ∧
    (∀ (k : Fin 4) (s : State) (l n ra : Nat),
      s.clocked = true →
      (s.cc k.val).run = .lock n ra →
      s.takenLine k.val = some l →
      (s.cc k.val).estate.getLsbD 0 = true →
      exec (.interruptTake k) s = .next ((s.setLock n { s.lock n with waiters := (s.lock n).waiters.filter (· ≠ k.val) }).setCc k.val { (s.cc k.val) with run := .run, cpu := { (s.cc k.val).cpu with pc := (s.cc k.val).evec }, epc := (s.cc k.val).cpu.pc, ecause := BitVec.ofNat 32 (0x80 + l), eaddr := 0, estate := 6 })) ∧
    (∀ (k : Fin 4) (s : State),
      s.clocked = true →
      ((s.cc k.val).run = .held ∨ (s.cc k.val).run = .fatal ∨ (s.cc k.val).estate.getLsbD 0 = false ∨ s.takenLine k.val = none) →
      exec (.interruptTake k) s = .next s) ∧
    (∀ (s : State) (k l : Nat),
      s.takenLine k = some l →
      (s.cc k).imask.getLsbD l = true ∧ s.linePending k l = true ∧ l < 32 ∧ (∀ j, j < l → (s.cc k).imask.getLsbD j = true → s.linePending k j = false))

/-- ENQ of a running control core, with one of the three groups of eight and an enabled queue that is not full, makes every earlier
store visible, puts the group at the tail, serves a consumer stalled on the queue, and ends with DONE. DEQ and DEQT on an
enabled queue other than 0 that holds a descriptor take the oldest one into the group, with DONE, or the warning POISONED when a
word is poisoned. DEQ on an empty queue stalls the core, last in line. Of a running control core: ENQ, DEQ and DEQT with any
other first register are refused with BAD_REGISTER; then, with a queue above 127, disabled, or, for DEQ and DEQT, queue 0, with
BAD_QUEUE; then ENQ on a full queue with QFULL, counted in QREFn, and DEQT on an empty queue with QEMPTY. (R96, R97, R108, R128,
R129, R130, R134, R175) -/
def Obligations.QueueInstructions : Prop :=
    (∀ (k : Fin 4) (ra : RegNo) (q : BitVec 8) (s : State),
      s.goes (.cc k) 1 = true →
      ra = 8 ∨ ra = 16 ∨ ra = 24 →
      (s.begun (.cc k) 1).qEn q.toNat = true →
      (s.begun (.cc k) 1).qFull q.toNat = false →
      ∃ t, exec (.enq k ra q) s = .next (t.serve q.toNat) ∧
        s.storedFrom (((s.begun (.cc k) 1).cleanAll k.val).enqueue q.toNat ((s.cpu (.cc k)).gs ra.toNat 8)) (.cc k) (((s.cpu (.cc k)).gs ra.toNat 8).any (·.poison)) t) ∧
    (∀ (k : Fin 4) (ra : RegNo) (q : BitVec 8) (s : State),
      s.goes (.cc k) 1 = true →
      ra = 8 ∨ ra = 16 ∨ ra = 24 →
      q ≠ 0 →
      (s.begun (.cc k) 1).qEn q.toNat = true →
      ((s.begun (.cc k) 1).queue q.toNat).count ≠ 0 →
      ∃ t, exec (.deq k ra q) s = .next t ∧ t = ((s.begun (.cc k) 1).dequeued q.toNat).setCpu (.cc k) (t.cpu (.cc k)) ∧
        (t.cpu (.cc k)).gs ra.toNat 8 = (s.begun (.cc k) 1).front q.toNat ∧
        (∀ r, (r < ra.toNat ∨ ra.toNat + 8 ≤ r) → (t.cpu (.cc k)).g r = (s.cpu (.cc k)).g r) ∧
        (t.cpu (.cc k)).pc = (s.cpu (.cc k)).pc + 4 ∧
        (t.cpu (.cc k)).fl = flEnded ((s.cpu (.cc k)).psAfter (((s.begun (.cc k) 1).front q.toNat).any (·.poison)))
          (if ((s.begun (.cc k) 1).front q.toNat).any (·.poison) then .poisoned else .done) false (((s.begun (.cc k) 1).front q.toNat).any (·.poison))) ∧
    (∀ (k : Fin 4) (ra : RegNo) (q : BitVec 8) (s : State),
      s.goes (.cc k) 1 = true →
      ra = 8 ∨ ra = 16 ∨ ra = 24 →
      q ≠ 0 →
      (s.begun (.cc k) 1).qEn q.toNat = true →
      ((s.begun (.cc k) 1).queue q.toNat).count ≠ 0 →
      ∃ t, exec (.deqt k ra q) s = .next t ∧ t = ((s.begun (.cc k) 1).dequeued q.toNat).setCpu (.cc k) (t.cpu (.cc k)) ∧
        (t.cpu (.cc k)).gs ra.toNat 8 = (s.begun (.cc k) 1).front q.toNat ∧
        (∀ r, (r < ra.toNat ∨ ra.toNat + 8 ≤ r) → (t.cpu (.cc k)).g r = (s.cpu (.cc k)).g r) ∧
        (t.cpu (.cc k)).pc = (s.cpu (.cc k)).pc + 4 ∧
        (t.cpu (.cc k)).fl = flEnded ((s.cpu (.cc k)).psAfter (((s.begun (.cc k) 1).front q.toNat).any (·.poison)))
          (if ((s.begun (.cc k) 1).front q.toNat).any (·.poison) then .poisoned else .done) false (((s.begun (.cc k) 1).front q.toNat).any (·.poison))) ∧
    (∀ (k : Fin 4) (ra : RegNo) (q : BitVec 8) (s : State),
      s.goes (.cc k) 1 = true →
      ra = 8 ∨ ra = 16 ∨ ra = 24 →
      q ≠ 0 →
      (s.begun (.cc k) 1).qEn q.toNat = true →
      ((s.begun (.cc k) 1).queue q.toNat).count = 0 →
      exec (.deq k ra q) s = .next (((s.begun (.cc k) 1).setQueue q.toNat { (s.begun (.cc k) 1).queue q.toNat with stalled := ((s.begun (.cc k) 1).queue q.toNat).stalled ++ [k.val] }).setCc k.val
          { (s.begun (.cc k) 1).cc k.val with run := .deq q.toNat ra.toNat })) ∧
    (∀ (k : Fin 4) (ra : RegNo) (q : BitVec 8) (s : State),
      s.goes (.cc k) 1 = true →
      ra ≠ 8 ∧ ra ≠ 16 ∧ ra ≠ 24 →
      ∃ t, exec (.enq k ra q) s = .next t ∧ s.refusedWith (.cc k) 1 .badRegister t) ∧
    (∀ (k : Fin 4) (ra : RegNo) (q : BitVec 8) (s : State),
      s.goes (.cc k) 1 = true →
      ra = 8 ∨ ra = 16 ∨ ra = 24 →
      127 < q.toNat ∨ (s.begun (.cc k) 1).qEn q.toNat = false →
      ∃ t, exec (.enq k ra q) s = .next t ∧ s.refusedWith (.cc k) 1 .badQueue t) ∧
    (∀ (k : Fin 4) (ra : RegNo) (q : BitVec 8) (s : State),
      s.goes (.cc k) 1 = true →
      ra ≠ 8 ∧ ra ≠ 16 ∧ ra ≠ 24 →
      ∃ t, exec (.deq k ra q) s = .next t ∧ s.refusedWith (.cc k) 1 .badRegister t) ∧
    (∀ (k : Fin 4) (ra : RegNo) (q : BitVec 8) (s : State),
      s.goes (.cc k) 1 = true →
      ra = 8 ∨ ra = 16 ∨ ra = 24 →
      127 < q.toNat ∨ (s.begun (.cc k) 1).qEn q.toNat = false ∨ q = 0 →
      ∃ t, exec (.deq k ra q) s = .next t ∧ s.refusedWith (.cc k) 1 .badQueue t) ∧
    (∀ (k : Fin 4) (ra : RegNo) (q : BitVec 8) (s : State),
      s.goes (.cc k) 1 = true →
      ra ≠ 8 ∧ ra ≠ 16 ∧ ra ≠ 24 →
      ∃ t, exec (.deqt k ra q) s = .next t ∧ s.refusedWith (.cc k) 1 .badRegister t) ∧
    (∀ (k : Fin 4) (ra : RegNo) (q : BitVec 8) (s : State),
      s.goes (.cc k) 1 = true →
      ra = 8 ∨ ra = 16 ∨ ra = 24 →
      127 < q.toNat ∨ (s.begun (.cc k) 1).qEn q.toNat = false ∨ q = 0 →
      ∃ t, exec (.deqt k ra q) s = .next t ∧ s.refusedWith (.cc k) 1 .badQueue t) ∧
    (∀ (k : Fin 4) (ra : RegNo) (q : BitVec 8) (s : State),
      s.goes (.cc k) 1 = true →
      ra = 8 ∨ ra = 16 ∨ ra = 24 →
      (s.begun (.cc k) 1).qEn q.toNat = true →
      (s.begun (.cc k) 1).qFull q.toNat = true →
      ∃ t, exec (.enq k ra q) s = .next t ∧ t = ((s.begun (.cc k) 1).bump (fQREF_REF q.toNat) 1).setCpu (.cc k) (t.cpu (.cc k)) ∧
        (∀ r, (t.cpu (.cc k)).g r = (s.cpu (.cc k)).g r) ∧ (t.cpu (.cc k)).pc = (s.cpu (.cc k)).pc + 4 ∧ (t.cpu (.cc k)).fl = flEnded (s.cpu (.cc k)).fl .qfull true false) ∧
    (∀ (k : Fin 4) (ra : RegNo) (q : BitVec 8) (s : State),
      s.goes (.cc k) 1 = true →
      ra = 8 ∨ ra = 16 ∨ ra = 24 →
      q ≠ 0 →
      (s.begun (.cc k) 1).qEn q.toNat = true →
      ((s.begun (.cc k) 1).queue q.toNat).count = 0 →
      ∃ t, exec (.deqt k ra q) s = .next t ∧ s.refusedWith (.cc k) 1 .qempty t)

/-- A descriptor that enters an enabled queue with room, not being discarded by a flush, lies behind the descriptors already there:
the count rises by one, the oldest descriptor is as it was unless the ring was empty, and then it is the descriptor that
entered, with its poison marks; every byte outside its ring slot is unchanged. HW_ENQUEUE on an enabled queue that is not full
and for which no item is kept puts the item at the tail and serves a stalled consumer; on a full ring the item is kept, and
QREFn counts. DEQ_STALL_RESUME hands the oldest descriptor to the consumer stalled longest. A valid write of QCFGn that enables
a queue sets its ring, and one that disables it discards its contents; a BASE that is not a multiple of the ring size is refused
with BAD_ARGUMENT. A write of QCTLn.FLUSH with the consumer at a packet boundary empties the queue, counts what it discards, and
lets the items that hardware producers keep enter; inside a packet it marks the rest of that packet to pass and what the ring
held at the flush to be discarded behind it. On a disabled queue the item is kept and not counted; with items kept it lines up
behind them and counts. DEQ_STALL_RESUME with no stalled consumer, or on an empty queue, changes nothing. QCFGn with a ring size
outside 2^4 to 2^12, or another ring of a queue that is enabled is refused with BAD_ARGUMENT, and a ring that overlaps another
enabled one or does not fit the pool with QPOOL_FULL. (R127, R129, R130, R132, R134, R136) -/
def Obligations.QueueOrderAndCommands : Prop :=
    (∀ (s : State) (q : Nat) (d : List GReg),
      d.length = 8 →
      s.qFull q = false →
      (s.queue q).flushIn = false →
      (s.queue q).count ≠ 0 →
      ((s.enqueue q d).queue q).count = (s.queue q).count + 1 ∧ (s.enqueue q d).front q = s.front q) ∧
    (∀ (s : State) (q : Nat) (d : List GReg),
      d.length = 8 →
      0 < s.qSize q →
      (s.queue q).flushIn = false →
      (s.queue q).count = 0 →
      ∀ g ∈ s.poison, touches (s.slotAddr q (s.queue q).head) 32 g = false →
      ((s.enqueue q d).queue q).count = 1 ∧ (s.enqueue q d).front q = d) ∧
    (∀ (s : State) (q : Nat) (d : List GReg) (x : Nat),
      d.length = 8 →
      (s.queue q).flushIn = false →
      x < s.slotAddr q ((s.queue q).head + (s.queue q).count) ∨ s.slotAddr q ((s.queue q).head + (s.queue q).count) + 32 ≤ x →
      (s.enqueue q d).byte x = s.byte x) ∧
    (∀ (q : Fin 128) (d : BitVec 256) (s : State),
      s.clocked = true →
      s.qEn q.val = true →
      s.qFull q.val = false →
      (s.queue q.val).held = [] →
      exec (.hwEnqueue q d) s = .next ((s.enqueue q.val ((List.range 8).map fun i => ⟨d.extractLsb' (32 * i) 32, false⟩)).serve q.val)) ∧
    (∀ (q : Fin 128) (d : BitVec 256) (s : State),
      s.clocked = true →
      s.qEn q.val = true →
      s.qFull q.val = true →
      exec (.hwEnqueue q d) s = .next ((s.setQueue q.val { s.queue q.val with
          held := (s.queue q.val).held ++ [(List.range 8).map fun i => ⟨d.extractLsb' (32 * i) 32, false⟩] }).bump (fQREF_REF q.val) 1)) ∧
    (∀ (q : Fin 128) (s : State) (k ra q1 : Nat) (ks : List Nat),
      s.clocked = true →
      (s.queue q.val).stalled = k :: ks →
      (s.queue q.val).count ≠ 0 →
      (s.cc k).run = .deq q1 ra →
      exec (.deqStallResume q) s = .next (((s.setQueue q.val { s.queue q.val with stalled := ks }).dequeued q.val).setCc k { s.cc k with
          cpu := (s.cc k).cpu.deqDone ra (s.front q.val), run := .run })) ∧
    (∀ (a : Agent) (q : Fin 128) (v : Word) (s : State),
      s.writes a (rQCFG q.val) = true →
      s.qEn q.val = true →
      v.getLsbD 31 = false →
      v.toNat / 2 ^ 24 % 16 = s.fget (fQCFG_SIZE q.val) →
      v.toNat % 2 ^ 17 = s.qBase q.val →
      s.qBase q.val % s.qSize q.val = 0 →
      4 ≤ s.fget (fQCFG_SIZE q.val) →
      s.fget (fQCFG_SIZE q.val) ≤ 12 →
      ∃ t, exec (.qcfgWrite a q v) s = .next t ∧ t.answer.status = .done ∧ t.qEn q.val = false ∧ (t.queue q.val).count = 0 ∧
        (t.queue q.val).stalled = [] ∧ (∀ p, p ≠ q.val → t.queue p = s.queue p) ∧ t.mem = s.mem) ∧
    (∀ (a : Agent) (q : Fin 128) (v : Word) (s : State),
      s.writes a (rQCFG q.val) = true →
      s.qEn q.val = false →
      ((List.range 128).filter fun p => p ≠ q.val && s.qEn p).any (fun p => ringsOverlap (v.toNat % 2 ^ 17) (2 ^ (v.toNat / 2 ^ 24 % 16)) (s.qBase p) (s.qSize p)) = false →
      (((List.range 128).filter fun p => p ≠ q.val && s.qEn p).map fun p => s.qSize p).sum + 2 ^ (v.toNat / 2 ^ 24 % 16) ≤ 131072 →
      v.getLsbD 31 = true →
      4 ≤ v.toNat / 2 ^ 24 % 16 →
      v.toNat / 2 ^ 24 % 16 ≤ 12 →
      v.toNat % 2 ^ 17 % 2 ^ (v.toNat / 2 ^ 24 % 16) = 0 →
      (s.queue q.val).held = [] →
      ∃ t, exec (.qcfgWrite a q v) s = .next t ∧ t.answer.status = .done ∧ t.qEn q.val = true ∧ t.qBase q.val = v.toNat % 2 ^ 17 ∧
        t.qSize q.val = 2 ^ (v.toNat / 2 ^ 24 % 16) ∧ (t.queue q.val).count = 0) ∧
    (∀ (a : Agent) (q : Fin 128) (v : Word) (s : State),
      s.writes a (rQCFG q.val) = true →
      4 ≤ v.toNat / 2 ^ 24 % 16 →
      v.toNat / 2 ^ 24 % 16 ≤ 12 →
      v.toNat % 2 ^ 17 % 2 ^ (v.toNat / 2 ^ 24 % 16) ≠ 0 →
      exec (.qcfgWrite a q v) s = .next (s.say .badArgument)) ∧
    (∀ (a : Agent) (q : Fin 128) (s : State),
      s.writes a (rQCTL q.val) = true →
      (s.queue q.val).midOut = false →
      exec (.queueFlush a q) s = .next ((((s.setQueue q.val { s.queue q.val with
          count := 0, marks := [], odd := [], flushOut := false, flushIn := (s.queue q.val).midIn, flushJoint := false, flushN := 0 }).bump
          (fQDISC_DISC q.val) (s.queue q.val).count).refill q.val).say .done)) ∧
    (∀ (a : Agent) (q : Fin 128) (s : State),
      s.writes a (rQCTL q.val) = true →
      (s.queue q.val).midOut = true →
      (s.queue q.val).midIn = true →
      s.ringHasEnd q.val = false →
      exec (.queueFlush a q) s = .next ((s.setQueue q.val { s.queue q.val with flushOut := true, flushIn := true, flushJoint := true }).say .done)) ∧
    (∀ (a : Agent) (q : Fin 128) (s : State),
      s.writes a (rQCTL q.val) = true →
      (s.queue q.val).midOut = true →
      (s.queue q.val).midIn = false ∨ s.ringHasEnd q.val = true →
      exec (.queueFlush a q) s = .next ((s.setQueue q.val { s.queue q.val with
          flushOut := true, flushIn := (s.queue q.val).midIn, flushJoint := false, flushN := (s.queue q.val).count }).say .done)) ∧
    (∀ (q : Fin 128) (d : BitVec 256) (s : State),
      s.clocked = true →
      s.qEn q.val = false →
      exec (.hwEnqueue q d) s = .next (s.setQueue q.val { s.queue q.val with held := (s.queue q.val).held ++ [((List.range 8).map fun i => ⟨d.extractLsb' (32 * i) 32, false⟩)] })) ∧
    (∀ (q : Fin 128) (d : BitVec 256) (s : State),
      s.clocked = true →
      s.qEn q.val = true →
      (s.queue q.val).held ≠ [] →
      exec (.hwEnqueue q d) s = .next ((s.setQueue q.val { s.queue q.val with held := (s.queue q.val).held ++ [((List.range 8).map fun i => ⟨d.extractLsb' (32 * i) 32, false⟩)] }).bump (fQREF_REF q.val) 1)) ∧
    (∀ (q : Fin 128) (s : State),
      s.clocked = true →
      (s.queue q.val).stalled = [] ∨ (s.queue q.val).count = 0 →
      exec (.deqStallResume q) s = .next s) ∧
    (∀ (a : Agent) (q : Fin 128) (v : Word) (s : State),
      s.writes a (rQCFG q.val) = true →
      ((v.toNat / 2 ^ 24 % 16) < 4 ∨ 12 < (v.toNat / 2 ^ 24 % 16)) →
      exec (.qcfgWrite a q v) s = .next (s.say .badArgument)) ∧
    (∀ (a : Agent) (q : Fin 128) (v : Word) (s : State),
      s.writes a (rQCFG q.val) = true →
      4 ≤ (v.toNat / 2 ^ 24 % 16) →
      (v.toNat / 2 ^ 24 % 16) ≤ 12 →
      (v.toNat % 2 ^ 17) % 2 ^ (v.toNat / 2 ^ 24 % 16) = 0 →
      s.qEn q.val = true →
      ((v.toNat % 2 ^ 17) ≠ s.qBase q.val ∨ 2 ^ (v.toNat / 2 ^ 24 % 16) ≠ s.qSize q.val) →
      exec (.qcfgWrite a q v) s = .next (s.say .badArgument)) ∧
    (∀ (a : Agent) (q : Fin 128) (v : Word) (s : State),
      s.writes a (rQCFG q.val) = true →
      4 ≤ (v.toNat / 2 ^ 24 % 16) →
      (v.toNat / 2 ^ 24 % 16) ≤ 12 →
      (v.toNat % 2 ^ 17) % 2 ^ (v.toNat / 2 ^ 24 % 16) = 0 →
      s.qEn q.val = true →
      (v.toNat % 2 ^ 17) = s.qBase q.val →
      2 ^ (v.toNat / 2 ^ 24 % 16) = s.qSize q.val →
      v.getLsbD 31 = true →
      exec (.qcfgWrite a q v) s = .next (s.say .done)) ∧
    (∀ (a : Agent) (q : Fin 128) (v : Word) (s : State),
      s.writes a (rQCFG q.val) = true →
      4 ≤ (v.toNat / 2 ^ 24 % 16) →
      (v.toNat / 2 ^ 24 % 16) ≤ 12 →
      (v.toNat % 2 ^ 17) % 2 ^ (v.toNat / 2 ^ 24 % 16) = 0 →
      s.qEn q.val = false →
      v.getLsbD 31 = true →
      (((List.range 128).filter fun p => p ≠ q.val && s.qEn p).any (fun p => ringsOverlap (v.toNat % 2 ^ 17) (2 ^ (v.toNat / 2 ^ 24 % 16)) (s.qBase p) (s.qSize p)) = true ∨ 131072 < (((List.range 128).filter fun p => p ≠ q.val && s.qEn p).map fun p => s.qSize p).sum + 2 ^ (v.toNat / 2 ^ 24 % 16)) →
      exec (.qcfgWrite a q v) s = .next (s.say .qpoolFull)) ∧
    (∀ (a : Agent) (q : Fin 128) (v : Word) (s : State),
      s.writes a (rQCFG q.val) = true →
      4 ≤ (v.toNat / 2 ^ 24 % 16) →
      (v.toNat / 2 ^ 24 % 16) ≤ 12 →
      (v.toNat % 2 ^ 17) % 2 ^ (v.toNat / 2 ^ 24 % 16) = 0 →
      s.qEn q.val = false →
      v.getLsbD 31 = false →
      ∃ t, exec (.qcfgWrite a q v) s = .next t ∧ t.answer = ⟨.done, 0⟩ ∧ t.qEn q.val = false ∧ t.qBase q.val = (v.toNat % 2 ^ 17) ∧ t.qSize q.val = 2 ^ (v.toNat / 2 ^ 24 % 16) ∧ t.queues = s.queues ∧
        t = { s with csr := t.csr, answer := t.answer })

/-- LOCK and LOCKT of a running control core take a cell that is FREE or BROKEN: it becomes HELD by the core, SEQ rises by one when
it was FREE and keeps its value when it was BROKEN, and goes to the register (g0 discards it) with DONE or the warning BROKEN.
On a cell held by another core LOCK stalls the core, last in line, and LOCKT is refused with LOCK_HELD; on a cell the core
itself holds both are refused with LOCK_RECURSIVE. UNLOCK by the owner makes every earlier store visible, frees the cell and
raises SEQ, with DONE, and the cell goes to its first waiter, if any; by any other core it is refused with NOT_OWNER. LOCK_GRANT
gives a cell that is free or broken to the waiter that stalled first. (R96, R97, R108, R137, R138, R140, R176) -/
def Obligations.LockTable : Prop :=
    (∀ (k : Fin 4) (ra : RegNo) (n : BitVec 8) (s : State) (seq : Word),
      s.goes (.cc k) 1 = true →
      ((s.begun (.cc k) 1).lock n.toNat).st ≠ .held →
      seq = (if ((s.begun (.cc k) 1).lock n.toNat).st = .broken then ((s.begun (.cc k) 1).lock n.toNat).seq else ((s.begun (.cc k) 1).lock n.toNat).seq + 1) →
      ∃ t, exec (.lock k ra n) s = .next t ∧
        t = ((s.begun (.cc k) 1).setLock n.toNat { ((s.begun (.cc k) 1).lock n.toNat) with st := .held, owner := k.val, seq := seq }).setCpu (.cc k) (t.cpu (.cc k)) ∧
        (t.cpu (.cc k)).g ra.toNat = (if ra = 0 then {} else ⟨seq, false⟩) ∧ (s.cpu (.cc k)).others (t.cpu (.cc k)) ra.toNat ∧
        (t.cpu (.cc k)).pc = (s.cpu (.cc k)).pc + 4 ∧ (t.cpu (.cc k)).fl = flEnded (s.cpu (.cc k)).fl
          (if ((s.begun (.cc k) 1).lock n.toNat).st = .broken then .broken else .done) false (decide (((s.begun (.cc k) 1).lock n.toNat).st = .broken))) ∧
    (∀ (k : Fin 4) (ra : RegNo) (n : BitVec 8) (s : State),
      s.goes (.cc k) 1 = true →
      ((s.begun (.cc k) 1).lock n.toNat).st = .held →
      ((s.begun (.cc k) 1).lock n.toNat).owner = k.val →
      ∃ t, exec (.lock k ra n) s = .next t ∧ s.refusedWith (.cc k) 1 .lockRecursive t) ∧
    (∀ (k : Fin 4) (ra : RegNo) (n : BitVec 8) (s : State) (seq : Word),
      s.goes (.cc k) 1 = true →
      ((s.begun (.cc k) 1).lock n.toNat).st ≠ .held →
      seq = (if ((s.begun (.cc k) 1).lock n.toNat).st = .broken then ((s.begun (.cc k) 1).lock n.toNat).seq else ((s.begun (.cc k) 1).lock n.toNat).seq + 1) →
      ∃ t, exec (.lockt k ra n) s = .next t ∧
        t = ((s.begun (.cc k) 1).setLock n.toNat { ((s.begun (.cc k) 1).lock n.toNat) with st := .held, owner := k.val, seq := seq }).setCpu (.cc k) (t.cpu (.cc k)) ∧
        (t.cpu (.cc k)).g ra.toNat = (if ra = 0 then {} else ⟨seq, false⟩) ∧ (s.cpu (.cc k)).others (t.cpu (.cc k)) ra.toNat ∧
        (t.cpu (.cc k)).pc = (s.cpu (.cc k)).pc + 4 ∧ (t.cpu (.cc k)).fl = flEnded (s.cpu (.cc k)).fl
          (if ((s.begun (.cc k) 1).lock n.toNat).st = .broken then .broken else .done) false (decide (((s.begun (.cc k) 1).lock n.toNat).st = .broken))) ∧
    (∀ (k : Fin 4) (ra : RegNo) (n : BitVec 8) (s : State),
      s.goes (.cc k) 1 = true →
      ((s.begun (.cc k) 1).lock n.toNat).st = .held →
      ((s.begun (.cc k) 1).lock n.toNat).owner = k.val →
      ∃ t, exec (.lockt k ra n) s = .next t ∧ s.refusedWith (.cc k) 1 .lockRecursive t) ∧
    (∀ (k : Fin 4) (ra : RegNo) (n : BitVec 8) (s : State),
      s.goes (.cc k) 1 = true →
      ((s.begun (.cc k) 1).lock n.toNat).st = .held →
      ((s.begun (.cc k) 1).lock n.toNat).owner ≠ k.val →
      ∃ t, exec (.lockt k ra n) s = .next t ∧ s.refusedWith (.cc k) 1 .lockHeld t) ∧
    (∀ (k : Fin 4) (ra : RegNo) (n : BitVec 8) (s : State),
      s.goes (.cc k) 1 = true →
      ((s.begun (.cc k) 1).lock n.toNat).st = .held →
      ((s.begun (.cc k) 1).lock n.toNat).owner ≠ k.val →
      exec (.lock k ra n) s = .next (((s.begun (.cc k) 1).setLock n.toNat { ((s.begun (.cc k) 1).lock n.toNat) with waiters := ((s.begun (.cc k) 1).lock n.toNat).waiters ++ [k.val] }).setCc k.val
          { (s.begun (.cc k) 1).cc k.val with run := .lock n.toNat ra.toNat })) ∧
    (∀ (k : Fin 4) (n : BitVec 8) (s : State),
      s.goes (.cc k) 1 = true →
      ((s.begun (.cc k) 1).lock n.toNat).st = .held →
      ((s.begun (.cc k) 1).lock n.toNat).owner = k.val →
      ∃ t, exec (.unlock k n) s = .next (t.lockGrant n.toNat) ∧ s.storedFrom (((s.begun (.cc k) 1).cleanAll k.val).setLock n.toNat { ((s.begun (.cc k) 1).lock n.toNat) with st := .free, seq := ((s.begun (.cc k) 1).lock n.toNat).seq + 1 }) (.cc k) false t) ∧
    (∀ (k : Fin 4) (n : BitVec 8) (s : State),
      s.goes (.cc k) 1 = true →
      ((s.begun (.cc k) 1).lock n.toNat).st ≠ .held ∨ ((s.begun (.cc k) 1).lock n.toNat).owner ≠ k.val →
      ∃ t, exec (.unlock k n) s = .next t ∧ s.refusedWith (.cc k) 1 .notOwner t) ∧
    (∀ (n : BitVec 8) (s : State),
      s.clocked = true →
      (s.lock n.toNat).st = .held ∨ (s.lock n.toNat).waiters = [] →
      exec (.lockGrant n) s = .next s) ∧
    (∀ (u : Cpu) (ra r : Nat) (seq : Word) (brk : Bool),
      r ≠ ra →
      (u.lockDone ra seq brk).pc = u.pc + 4 ∧ (u.lockDone ra seq brk).g r = u.g r ∧ (u.lockDone ra seq brk).fl = flEnded u.fl (if brk then .broken else .done) false brk ∧
        (ra ≠ 0 → ra < 32 → (u.lockDone ra seq brk).g ra = ⟨seq, false⟩)) ∧
    (∀ (n : BitVec 8) (s : State) (k m ra : Nat) (ks : List Nat),
      s.clocked = true →
      (s.lock n.toNat).st ≠ .held →
      (s.lock n.toNat).waiters = k :: ks →
      (s.cc k).run = .lock m ra →
      exec (.lockGrant n) s = .next ((s.setLock n.toNat { st := .held, owner := k, waiters := ks, seq := (if (s.lock n.toNat).st = .broken then (s.lock n.toNat).seq else (s.lock n.toNat).seq + 1) }).setCc k
          { s.cc k with run := .run, cpu := (s.cc k).cpu.lockDone ra (if (s.lock n.toNat).st = .broken then (s.lock n.toNat).seq else (s.lock n.toNat).seq + 1) (decide ((s.lock n.toNat).st = .broken)) }))

/-- LXB, LXBU, LXH, LXHU, LXW and LXD of a running ledger core through a window of R105, whose base register is not poisoned and
whose offset passes the checks of R162, complete: the destination (a pair for LXD) takes the bytes at the offset in that window,
little-endian, extended as the width says; a poisoned granule poisons it, sets PS and warns POISONED; nothing else changes but
what reading memory leaves behind. SXB, SXH, SXW and SXD of a running ledger core through a window that permits stores, whose
base register is not poisoned and whose offset passes the checks of R162, complete with DONE: the bytes at the offset take the
register's low bytes (the pair's for SXD), with their poison, and every other byte reads as before; no register changes. SATADD
of a running ledger core, on a cell of W1 that passes the checks of R182, stores the signed sum of the cell and the pair,
saturated to 64 bits; V is set exactly when it saturates, Z and N follow the value stored, and C is as it was. MAXD stores the
pair and its time exactly when the cell's value is smaller, or equal with a later time in the cell, and C says whether it did;
when it did not, every byte reads as before. Poison of an operand or of the cell poisons what is stored and sets PS with the
warning POISONED; no register changes. Windows 0 and 7 do not exist: a load or store through one fails the item with
ILLEGAL_INSTRUCTION. The other refusals, in order: BAD_REGISTER for a register that is no pair, POISONED for a poisoned base,
and the status of R162's checks, BAD_ALIGN, BAD_ADDRESS or WINDOW_DENIED. MAXD and SATADD are refused with BAD_REGISTER,
POISONED, BAD_ALIGN and BAD_ADDRESS in the same order. (R97, R98, R105, R110, R112, R150, R162, R163, R182) -/
def Obligations.LedgerMemory : Prop :=
    (∀ (n : Fin 64) (win : BitVec 3) (rd a : RegNo) (i : BitVec 12) (s : State),
      s.goes (.lc n) 1 = true →
      win ≠ 0 →
      win ≠ 7 →
      s.gp (.lc n) a = false →
      lcCheck (lcWindow win.toNat) false (lcOffset (s.gv (.lc n) a) i) 1 = none →
      ∃ t, exec (.lxb n win rd a i) s = .next t ∧
        s.loadedTo ((s.begun (.lc n) 1).touch (lcAddr n.val (lcWindow win.toNat) (lcOffset (s.gv (.lc n) a) i)) 1) (.lc n) rd ((BitVec.ofNat 8 (leNat (s.bytes (lcAddr n.val (lcWindow win.toNat) (lcOffset (s.gv (.lc n) a) i)) 1))).signExtend 32) (s.poisonedIn (lcAddr n.val (lcWindow win.toNat) (lcOffset (s.gv (.lc n) a) i)) 1) t) ∧
    (∀ (n : Fin 64) (win : BitVec 3) (rd a : RegNo) (i : BitVec 12) (s : State),
      s.goes (.lc n) 1 = true →
      win ≠ 0 →
      win ≠ 7 →
      s.gp (.lc n) a = false →
      lcCheck (lcWindow win.toNat) false (lcOffset (s.gv (.lc n) a) i) 1 = none →
      ∃ t, exec (.lxbu n win rd a i) s = .next t ∧
        s.loadedTo ((s.begun (.lc n) 1).touch (lcAddr n.val (lcWindow win.toNat) (lcOffset (s.gv (.lc n) a) i)) 1) (.lc n) rd (BitVec.ofNat 32 (leNat (s.bytes (lcAddr n.val (lcWindow win.toNat) (lcOffset (s.gv (.lc n) a) i)) 1))) (s.poisonedIn (lcAddr n.val (lcWindow win.toNat) (lcOffset (s.gv (.lc n) a) i)) 1) t) ∧
    (∀ (n : Fin 64) (win : BitVec 3) (rd a : RegNo) (i : BitVec 12) (s : State),
      s.goes (.lc n) 1 = true →
      win ≠ 0 →
      win ≠ 7 →
      s.gp (.lc n) a = false →
      lcCheck (lcWindow win.toNat) false (lcOffset (s.gv (.lc n) a) i) 2 = none →
      ∃ t, exec (.lxh n win rd a i) s = .next t ∧
        s.loadedTo ((s.begun (.lc n) 1).touch (lcAddr n.val (lcWindow win.toNat) (lcOffset (s.gv (.lc n) a) i)) 2) (.lc n) rd ((BitVec.ofNat 16 (leNat (s.bytes (lcAddr n.val (lcWindow win.toNat) (lcOffset (s.gv (.lc n) a) i)) 2))).signExtend 32) (s.poisonedIn (lcAddr n.val (lcWindow win.toNat) (lcOffset (s.gv (.lc n) a) i)) 2) t) ∧
    (∀ (n : Fin 64) (win : BitVec 3) (rd a : RegNo) (i : BitVec 12) (s : State),
      s.goes (.lc n) 1 = true →
      win ≠ 0 →
      win ≠ 7 →
      s.gp (.lc n) a = false →
      lcCheck (lcWindow win.toNat) false (lcOffset (s.gv (.lc n) a) i) 2 = none →
      ∃ t, exec (.lxhu n win rd a i) s = .next t ∧
        s.loadedTo ((s.begun (.lc n) 1).touch (lcAddr n.val (lcWindow win.toNat) (lcOffset (s.gv (.lc n) a) i)) 2) (.lc n) rd (BitVec.ofNat 32 (leNat (s.bytes (lcAddr n.val (lcWindow win.toNat) (lcOffset (s.gv (.lc n) a) i)) 2))) (s.poisonedIn (lcAddr n.val (lcWindow win.toNat) (lcOffset (s.gv (.lc n) a) i)) 2) t) ∧
    (∀ (n : Fin 64) (win : BitVec 3) (rd a : RegNo) (i : BitVec 12) (s : State),
      s.goes (.lc n) 1 = true →
      win ≠ 0 →
      win ≠ 7 →
      s.gp (.lc n) a = false →
      lcCheck (lcWindow win.toNat) false (lcOffset (s.gv (.lc n) a) i) 4 = none →
      ∃ t, exec (.lxw n win rd a i) s = .next t ∧
        s.loadedTo ((s.begun (.lc n) 1).touch (lcAddr n.val (lcWindow win.toNat) (lcOffset (s.gv (.lc n) a) i)) 4) (.lc n) rd (BitVec.ofNat 32 (leNat (s.bytes (lcAddr n.val (lcWindow win.toNat) (lcOffset (s.gv (.lc n) a) i)) 4))) (s.poisonedIn (lcAddr n.val (lcWindow win.toNat) (lcOffset (s.gv (.lc n) a) i)) 4) t) ∧
    (∀ (n : Fin 64) (win : BitVec 3) (rd a : RegNo) (i : BitVec 12) (s : State),
      s.goes (.lc n) 1 = true →
      win ≠ 0 →
      win ≠ 7 →
      pairOk rd = true →
      s.gp (.lc n) a = false →
      lcCheck (lcWindow win.toNat) false (lcOffset (s.gv (.lc n) a) i) 8 = none →
      ∃ t, exec (.lxd n win rd a i) s = .next t ∧
        s.loadedPair ((s.begun (.lc n) 1).touch (lcAddr n.val (lcWindow win.toNat) (lcOffset (s.gv (.lc n) a) i)) 8) (.lc n) rd (BitVec.ofNat 64 (leNat (s.bytes (lcAddr n.val (lcWindow win.toNat) (lcOffset (s.gv (.lc n) a) i)) 8))) (s.poisonedIn (lcAddr n.val (lcWindow win.toNat) (lcOffset (s.gv (.lc n) a) i)) 8) t) ∧
    (∀ (n : Fin 64) (win : BitVec 3) (rd a : RegNo) (i : BitVec 12) (s : State),
      s.goes (.lc n) 1 = true →
      win ≠ 0 →
      win ≠ 7 →
      s.gp (.lc n) a = false →
      lcCheck (lcWindow win.toNat) true (lcOffset (s.gv (.lc n) a) i) 1 = none →
      ∃ t, exec (.sxb n win rd a i) s = .next t ∧ s.storedFrom (((s.begun (.lc n) 1).correctEdges (lcAddr n.val (lcWindow win.toNat) (lcOffset (s.gv (.lc n) a) i)) 1).writeP (lcAddr n.val (lcWindow win.toNat) (lcOffset (s.gv (.lc n) a) i)) (leBytes 1 (s.gv (.lc n) rd).toNat) (s.gp (.lc n) rd)) (.lc n) (s.gp (.lc n) rd) t ∧
        t.bytes (lcAddr n.val (lcWindow win.toNat) (lcOffset (s.gv (.lc n) a) i)) 1 = (leBytes 1 (s.gv (.lc n) rd).toNat) ∧ (∀ x, x < (lcAddr n.val (lcWindow win.toNat) (lcOffset (s.gv (.lc n) a) i)) ∨ (lcAddr n.val (lcWindow win.toNat) (lcOffset (s.gv (.lc n) a) i)) + 1 ≤ x → t.byte x = s.byte x)) ∧
    (∀ (n : Fin 64) (win : BitVec 3) (rd a : RegNo) (i : BitVec 12) (s : State),
      s.goes (.lc n) 1 = true →
      win ≠ 0 →
      win ≠ 7 →
      s.gp (.lc n) a = false →
      lcCheck (lcWindow win.toNat) true (lcOffset (s.gv (.lc n) a) i) 2 = none →
      ∃ t, exec (.sxh n win rd a i) s = .next t ∧ s.storedFrom (((s.begun (.lc n) 1).correctEdges (lcAddr n.val (lcWindow win.toNat) (lcOffset (s.gv (.lc n) a) i)) 2).writeP (lcAddr n.val (lcWindow win.toNat) (lcOffset (s.gv (.lc n) a) i)) (leBytes 2 (s.gv (.lc n) rd).toNat) (s.gp (.lc n) rd)) (.lc n) (s.gp (.lc n) rd) t ∧
        t.bytes (lcAddr n.val (lcWindow win.toNat) (lcOffset (s.gv (.lc n) a) i)) 2 = (leBytes 2 (s.gv (.lc n) rd).toNat) ∧ (∀ x, x < (lcAddr n.val (lcWindow win.toNat) (lcOffset (s.gv (.lc n) a) i)) ∨ (lcAddr n.val (lcWindow win.toNat) (lcOffset (s.gv (.lc n) a) i)) + 2 ≤ x → t.byte x = s.byte x)) ∧
    (∀ (n : Fin 64) (win : BitVec 3) (rd a : RegNo) (i : BitVec 12) (s : State),
      s.goes (.lc n) 1 = true →
      win ≠ 0 →
      win ≠ 7 →
      s.gp (.lc n) a = false →
      lcCheck (lcWindow win.toNat) true (lcOffset (s.gv (.lc n) a) i) 4 = none →
      ∃ t, exec (.sxw n win rd a i) s = .next t ∧ s.storedFrom (((s.begun (.lc n) 1).correctEdges (lcAddr n.val (lcWindow win.toNat) (lcOffset (s.gv (.lc n) a) i)) 4).writeP (lcAddr n.val (lcWindow win.toNat) (lcOffset (s.gv (.lc n) a) i)) (leBytes 4 (s.gv (.lc n) rd).toNat) (s.gp (.lc n) rd)) (.lc n) (s.gp (.lc n) rd) t ∧
        t.bytes (lcAddr n.val (lcWindow win.toNat) (lcOffset (s.gv (.lc n) a) i)) 4 = (leBytes 4 (s.gv (.lc n) rd).toNat) ∧ (∀ x, x < (lcAddr n.val (lcWindow win.toNat) (lcOffset (s.gv (.lc n) a) i)) ∨ (lcAddr n.val (lcWindow win.toNat) (lcOffset (s.gv (.lc n) a) i)) + 4 ≤ x → t.byte x = s.byte x)) ∧
    (∀ (n : Fin 64) (win : BitVec 3) (rd a : RegNo) (i : BitVec 12) (s : State),
      s.goes (.lc n) 1 = true →
      win ≠ 0 →
      win ≠ 7 →
      pairOk rd = true →
      s.gp (.lc n) a = false →
      lcCheck (lcWindow win.toNat) true (lcOffset (s.gv (.lc n) a) i) 8 = none →
      ∃ t, exec (.sxd n win rd a i) s = .next t ∧ s.storedFrom (((s.begun (.lc n) 1).correctEdges (lcAddr n.val (lcWindow win.toNat) (lcOffset (s.gv (.lc n) a) i)) 8).writeP (lcAddr n.val (lcWindow win.toNat) (lcOffset (s.gv (.lc n) a) i)) (leBytes 8 ((s.cpu (.lc n)).pair rd.toNat)) ((s.cpu (.lc n)).pairBad rd.toNat)) (.lc n) ((s.cpu (.lc n)).pairBad rd.toNat) t ∧
        t.bytes (lcAddr n.val (lcWindow win.toNat) (lcOffset (s.gv (.lc n) a) i)) 8 = (leBytes 8 ((s.cpu (.lc n)).pair rd.toNat)) ∧ (∀ x, x < (lcAddr n.val (lcWindow win.toNat) (lcOffset (s.gv (.lc n) a) i)) ∨ (lcAddr n.val (lcWindow win.toNat) (lcOffset (s.gv (.lc n) a) i)) + 8 ≤ x → t.byte x = s.byte x)) ∧
    (∀ (n : Fin 64) (ra rb : RegNo) (s : State) (sum acc : Int),
      s.goes (.lc n) 3 = true →
      pairOk rb = true →
      s.gp (.lc n) ra = false →
      (s.gv (.lc n) ra).toNat % 8 = 0 →
      (s.gv (.lc n) ra).toNat + 8 ≤ 4096 →
      sum = (BitVec.ofNat 64 (s.peek (lcData n.val + (s.gv (.lc n) ra).toNat) 8)).toInt + (BitVec.ofNat 64 ((s.cpu (.lc n)).pair rb.toNat)).toInt →
      acc = (if sum < -2 ^ 63 then -2 ^ 63 else if 2 ^ 63 ≤ sum then 2 ^ 63 - 1 else sum) →
      ∃ t, exec (.satadd n ra rb) s = .next t ∧ (BitVec.ofNat 64 (t.peek (lcData n.val + (s.gv (.lc n) ra).toNat) 8)).toInt = acc ∧
        (t.cpu (.lc n)).flag 3 = decide (acc ≠ sum) ∧ (t.cpu (.lc n)).flag 0 = decide (acc = 0) ∧ (t.cpu (.lc n)).flag 1 = decide (acc < 0) ∧
        (t.cpu (.lc n)).flag 2 = (s.cpu (.lc n)).flag 2 ∧ (∀ r, (t.cpu (.lc n)).g r = (s.cpu (.lc n)).g r) ∧ (t.cpu (.lc n)).pc = (s.cpu (.lc n)).pc + 4 ∧
        (∀ x, x < (lcData n.val + (s.gv (.lc n) ra).toNat) ∨ (lcData n.val + (s.gv (.lc n) ra).toNat) + 8 ≤ x → t.byte x = s.byte x) ∧ (t.cpu (.lc n)).st =
          (if (s.cpu (.lc n)).pairBad rb.toNat || s.poisonedIn (lcData n.val + (s.gv (.lc n) ra).toNat) 8 then Status.poisoned.code else Status.done.code) ∧
        (t.cpu (.lc n)).flag 6 = ((s.cpu (.lc n)).flag 6 || (s.cpu (.lc n)).pairBad rb.toNat || s.poisonedIn (lcData n.val + (s.gv (.lc n) ra).toNat) 8) ∧ (t.cpu (.lc n)).flag 4 = false ∧
        t = ((((s.begun (.lc n) 3).touch (lcData n.val + (s.gv (.lc n) ra).toNat) 8).writeP (lcData n.val + (s.gv (.lc n) ra).toNat) (leBytes 8 (acc % 2 ^ 64).toNat) ((s.cpu (.lc n)).pairBad rb.toNat || s.poisonedIn (lcData n.val + (s.gv (.lc n) ra).toNat) 8)).setCpu (.lc n) (t.cpu (.lc n)))) ∧
    (∀ (n : Fin 64) (ra rb : RegNo) (s : State),
      s.goes (.lc n) 4 = true →
      groupOk rb = true →
      s.gp (.lc n) ra = false →
      (s.gv (.lc n) ra).toNat % 16 = 0 →
      (s.gv (.lc n) ra).toNat + 16 ≤ 4096 →
      (BitVec.ofNat 64 (s.peek (lcData n.val + (s.gv (.lc n) ra).toNat) 8)).toInt < (BitVec.ofNat 64 ((s.cpu (.lc n)).pair rb.toNat)).toInt ∨ ((BitVec.ofNat 64 ((s.cpu (.lc n)).pair rb.toNat)).toInt = (BitVec.ofNat 64 (s.peek (lcData n.val + (s.gv (.lc n) ra).toNat) 8)).toInt ∧ (s.cpu (.lc n)).pair (rb.toNat + 2) < s.peek ((lcData n.val + (s.gv (.lc n) ra).toNat) + 8) 8) →
      ∃ t, exec (.maxd n ra rb) s = .next t ∧ t.peek (lcData n.val + (s.gv (.lc n) ra).toNat) 8 = (s.cpu (.lc n)).pair rb.toNat ∧ t.peek ((lcData n.val + (s.gv (.lc n) ra).toNat) + 8) 8 = (s.cpu (.lc n)).pair (rb.toNat + 2) ∧
        (t.cpu (.lc n)).flag 2 = true ∧ (∀ x, x < (lcData n.val + (s.gv (.lc n) ra).toNat) ∨ (lcData n.val + (s.gv (.lc n) ra).toNat) + 16 ≤ x → t.byte x = s.byte x) ∧
        (∀ r, (t.cpu (.lc n)).g r = (s.cpu (.lc n)).g r) ∧ (t.cpu (.lc n)).pc = (s.cpu (.lc n)).pc + 4 ∧ (t.cpu (.lc n)).fl = flEnded (((s.cpu (.lc n)).setFlag 2 true).psAfter ((s.cpu (.lc n)).pairBad rb.toNat || (s.cpu (.lc n)).pairBad (rb.toNat + 2) || s.poisonedIn (lcData n.val + (s.gv (.lc n) ra).toNat) 16)) (if ((s.cpu (.lc n)).pairBad rb.toNat || (s.cpu (.lc n)).pairBad (rb.toNat + 2) || s.poisonedIn (lcData n.val + (s.gv (.lc n) ra).toNat) 16) then .poisoned else .done) false ((s.cpu (.lc n)).pairBad rb.toNat || (s.cpu (.lc n)).pairBad (rb.toNat + 2) || s.poisonedIn (lcData n.val + (s.gv (.lc n) ra).toNat) 16) ∧
        t = (((s.begun (.lc n) 4).touch (lcData n.val + (s.gv (.lc n) ra).toNat) 16).writeP (lcData n.val + (s.gv (.lc n) ra).toNat) (leBytes 8 ((s.cpu (.lc n)).pair rb.toNat) ++ leBytes 8 ((s.cpu (.lc n)).pair (rb.toNat + 2))) ((s.cpu (.lc n)).pairBad rb.toNat || (s.cpu (.lc n)).pairBad (rb.toNat + 2) || s.poisonedIn (lcData n.val + (s.gv (.lc n) ra).toNat) 16)).setCpu (.lc n) (t.cpu (.lc n))) ∧
    (∀ (n : Fin 64) (ra rb : RegNo) (s : State),
      s.goes (.lc n) 4 = true →
      groupOk rb = true →
      s.gp (.lc n) ra = false →
      (s.gv (.lc n) ra).toNat % 16 = 0 →
      (s.gv (.lc n) ra).toNat + 16 ≤ 4096 →
      ¬ ((BitVec.ofNat 64 (s.peek (lcData n.val + (s.gv (.lc n) ra).toNat) 8)).toInt < (BitVec.ofNat 64 ((s.cpu (.lc n)).pair rb.toNat)).toInt ∨ ((BitVec.ofNat 64 ((s.cpu (.lc n)).pair rb.toNat)).toInt = (BitVec.ofNat 64 (s.peek (lcData n.val + (s.gv (.lc n) ra).toNat) 8)).toInt ∧ (s.cpu (.lc n)).pair (rb.toNat + 2) < s.peek ((lcData n.val + (s.gv (.lc n) ra).toNat) + 8) 8)) →
      ∃ t, exec (.maxd n ra rb) s = .next t ∧ (t.cpu (.lc n)).flag 2 = false ∧ t.mem = s.mem ∧
        (∀ r, (t.cpu (.lc n)).g r = (s.cpu (.lc n)).g r) ∧ (t.cpu (.lc n)).pc = (s.cpu (.lc n)).pc + 4 ∧ (t.cpu (.lc n)).fl = flEnded (((s.cpu (.lc n)).setFlag 2 false).psAfter ((s.cpu (.lc n)).pairBad rb.toNat || (s.cpu (.lc n)).pairBad (rb.toNat + 2) || s.poisonedIn (lcData n.val + (s.gv (.lc n) ra).toNat) 16)) (if ((s.cpu (.lc n)).pairBad rb.toNat || (s.cpu (.lc n)).pairBad (rb.toNat + 2) || s.poisonedIn (lcData n.val + (s.gv (.lc n) ra).toNat) 16) then .poisoned else .done) false ((s.cpu (.lc n)).pairBad rb.toNat || (s.cpu (.lc n)).pairBad (rb.toNat + 2) || s.poisonedIn (lcData n.val + (s.gv (.lc n) ra).toNat) 16) ∧
        t = ((s.begun (.lc n) 4).touch (lcData n.val + (s.gv (.lc n) ra).toNat) 16).setCpu (.lc n) (t.cpu (.lc n))) ∧
    (∀ (n : Fin 64) (win : BitVec 3) (rd a : RegNo) (i : BitVec 12) (s : State) (it : Item),
      s.goes (.lc n) 1 = true →
      (s.lc n.val).item = some it →
      (win = 0 ∨ win = 7) →
      exec (.lxb n win rd a i) s = .next ((s.begun (.lc n) 1).itemFail n.val it .illegalInstruction ((s.lc n.val).used + 1))) ∧
    (∀ (n : Fin 64) (win : BitVec 3) (rd a : RegNo) (i : BitVec 12) (s : State),
      s.goes (.lc n) 1 = true →
      (win ≠ 0 ∧ win ≠ 7) →
      s.gp (.lc n) a = true →
      ∃ t, exec (.lxb n win rd a i) s = .next t ∧ s.refusedWith (.lc n) 1 .poisoned t) ∧
    (∀ (n : Fin 64) (win : BitVec 3) (rd a : RegNo) (i : BitVec 12) (s : State) (x : Status),
      s.goes (.lc n) 1 = true →
      (win ≠ 0 ∧ win ≠ 7) →
      s.gp (.lc n) a = false →
      lcCheck (lcWindow win.toNat) false (lcOffset (s.gv (.lc n) a) i) 1 = some x →
      ∃ t, exec (.lxb n win rd a i) s = .next t ∧ s.refusedWith (.lc n) 1 x t) ∧
    (∀ (n : Fin 64) (win : BitVec 3) (rd a : RegNo) (i : BitVec 12) (s : State) (it : Item),
      s.goes (.lc n) 1 = true →
      (s.lc n.val).item = some it →
      (win = 0 ∨ win = 7) →
      exec (.lxbu n win rd a i) s = .next ((s.begun (.lc n) 1).itemFail n.val it .illegalInstruction ((s.lc n.val).used + 1))) ∧
    (∀ (n : Fin 64) (win : BitVec 3) (rd a : RegNo) (i : BitVec 12) (s : State),
      s.goes (.lc n) 1 = true →
      (win ≠ 0 ∧ win ≠ 7) →
      s.gp (.lc n) a = true →
      ∃ t, exec (.lxbu n win rd a i) s = .next t ∧ s.refusedWith (.lc n) 1 .poisoned t) ∧
    (∀ (n : Fin 64) (win : BitVec 3) (rd a : RegNo) (i : BitVec 12) (s : State) (x : Status),
      s.goes (.lc n) 1 = true →
      (win ≠ 0 ∧ win ≠ 7) →
      s.gp (.lc n) a = false →
      lcCheck (lcWindow win.toNat) false (lcOffset (s.gv (.lc n) a) i) 1 = some x →
      ∃ t, exec (.lxbu n win rd a i) s = .next t ∧ s.refusedWith (.lc n) 1 x t) ∧
    (∀ (n : Fin 64) (win : BitVec 3) (rd a : RegNo) (i : BitVec 12) (s : State) (it : Item),
      s.goes (.lc n) 1 = true →
      (s.lc n.val).item = some it →
      (win = 0 ∨ win = 7) →
      exec (.lxh n win rd a i) s = .next ((s.begun (.lc n) 1).itemFail n.val it .illegalInstruction ((s.lc n.val).used + 1))) ∧
    (∀ (n : Fin 64) (win : BitVec 3) (rd a : RegNo) (i : BitVec 12) (s : State),
      s.goes (.lc n) 1 = true →
      (win ≠ 0 ∧ win ≠ 7) →
      s.gp (.lc n) a = true →
      ∃ t, exec (.lxh n win rd a i) s = .next t ∧ s.refusedWith (.lc n) 1 .poisoned t) ∧
    (∀ (n : Fin 64) (win : BitVec 3) (rd a : RegNo) (i : BitVec 12) (s : State) (x : Status),
      s.goes (.lc n) 1 = true →
      (win ≠ 0 ∧ win ≠ 7) →
      s.gp (.lc n) a = false →
      lcCheck (lcWindow win.toNat) false (lcOffset (s.gv (.lc n) a) i) 2 = some x →
      ∃ t, exec (.lxh n win rd a i) s = .next t ∧ s.refusedWith (.lc n) 1 x t) ∧
    (∀ (n : Fin 64) (win : BitVec 3) (rd a : RegNo) (i : BitVec 12) (s : State) (it : Item),
      s.goes (.lc n) 1 = true →
      (s.lc n.val).item = some it →
      (win = 0 ∨ win = 7) →
      exec (.lxhu n win rd a i) s = .next ((s.begun (.lc n) 1).itemFail n.val it .illegalInstruction ((s.lc n.val).used + 1))) ∧
    (∀ (n : Fin 64) (win : BitVec 3) (rd a : RegNo) (i : BitVec 12) (s : State),
      s.goes (.lc n) 1 = true →
      (win ≠ 0 ∧ win ≠ 7) →
      s.gp (.lc n) a = true →
      ∃ t, exec (.lxhu n win rd a i) s = .next t ∧ s.refusedWith (.lc n) 1 .poisoned t) ∧
    (∀ (n : Fin 64) (win : BitVec 3) (rd a : RegNo) (i : BitVec 12) (s : State) (x : Status),
      s.goes (.lc n) 1 = true →
      (win ≠ 0 ∧ win ≠ 7) →
      s.gp (.lc n) a = false →
      lcCheck (lcWindow win.toNat) false (lcOffset (s.gv (.lc n) a) i) 2 = some x →
      ∃ t, exec (.lxhu n win rd a i) s = .next t ∧ s.refusedWith (.lc n) 1 x t) ∧
    (∀ (n : Fin 64) (win : BitVec 3) (rd a : RegNo) (i : BitVec 12) (s : State) (it : Item),
      s.goes (.lc n) 1 = true →
      (s.lc n.val).item = some it →
      (win = 0 ∨ win = 7) →
      exec (.lxw n win rd a i) s = .next ((s.begun (.lc n) 1).itemFail n.val it .illegalInstruction ((s.lc n.val).used + 1))) ∧
    (∀ (n : Fin 64) (win : BitVec 3) (rd a : RegNo) (i : BitVec 12) (s : State),
      s.goes (.lc n) 1 = true →
      (win ≠ 0 ∧ win ≠ 7) →
      s.gp (.lc n) a = true →
      ∃ t, exec (.lxw n win rd a i) s = .next t ∧ s.refusedWith (.lc n) 1 .poisoned t) ∧
    (∀ (n : Fin 64) (win : BitVec 3) (rd a : RegNo) (i : BitVec 12) (s : State) (x : Status),
      s.goes (.lc n) 1 = true →
      (win ≠ 0 ∧ win ≠ 7) →
      s.gp (.lc n) a = false →
      lcCheck (lcWindow win.toNat) false (lcOffset (s.gv (.lc n) a) i) 4 = some x →
      ∃ t, exec (.lxw n win rd a i) s = .next t ∧ s.refusedWith (.lc n) 1 x t) ∧
    (∀ (n : Fin 64) (win : BitVec 3) (rd a : RegNo) (i : BitVec 12) (s : State) (it : Item),
      s.goes (.lc n) 1 = true →
      (s.lc n.val).item = some it →
      (win = 0 ∨ win = 7) →
      exec (.lxd n win rd a i) s = .next ((s.begun (.lc n) 1).itemFail n.val it .illegalInstruction ((s.lc n.val).used + 1))) ∧
    (∀ (n : Fin 64) (win : BitVec 3) (rd a : RegNo) (i : BitVec 12) (s : State),
      s.goes (.lc n) 1 = true →
      (win ≠ 0 ∧ win ≠ 7) →
      pairOk rd = false →
      ∃ t, exec (.lxd n win rd a i) s = .next t ∧ s.refusedWith (.lc n) 1 .badRegister t) ∧
    (∀ (n : Fin 64) (win : BitVec 3) (rd a : RegNo) (i : BitVec 12) (s : State),
      s.goes (.lc n) 1 = true →
      (win ≠ 0 ∧ win ≠ 7) →
      pairOk rd = true →
      s.gp (.lc n) a = true →
      ∃ t, exec (.lxd n win rd a i) s = .next t ∧ s.refusedWith (.lc n) 1 .poisoned t) ∧
    (∀ (n : Fin 64) (win : BitVec 3) (rd a : RegNo) (i : BitVec 12) (s : State) (x : Status),
      s.goes (.lc n) 1 = true →
      (win ≠ 0 ∧ win ≠ 7) →
      pairOk rd = true →
      s.gp (.lc n) a = false →
      lcCheck (lcWindow win.toNat) false (lcOffset (s.gv (.lc n) a) i) 8 = some x →
      ∃ t, exec (.lxd n win rd a i) s = .next t ∧ s.refusedWith (.lc n) 1 x t) ∧
    (∀ (n : Fin 64) (win : BitVec 3) (rd a : RegNo) (i : BitVec 12) (s : State) (it : Item),
      s.goes (.lc n) 1 = true →
      (s.lc n.val).item = some it →
      (win = 0 ∨ win = 7) →
      exec (.sxb n win rd a i) s = .next ((s.begun (.lc n) 1).itemFail n.val it .illegalInstruction ((s.lc n.val).used + 1))) ∧
    (∀ (n : Fin 64) (win : BitVec 3) (rd a : RegNo) (i : BitVec 12) (s : State),
      s.goes (.lc n) 1 = true →
      (win ≠ 0 ∧ win ≠ 7) →
      s.gp (.lc n) a = true →
      ∃ t, exec (.sxb n win rd a i) s = .next t ∧ s.refusedWith (.lc n) 1 .poisoned t) ∧
    (∀ (n : Fin 64) (win : BitVec 3) (rd a : RegNo) (i : BitVec 12) (s : State) (x : Status),
      s.goes (.lc n) 1 = true →
      (win ≠ 0 ∧ win ≠ 7) →
      s.gp (.lc n) a = false →
      lcCheck (lcWindow win.toNat) true (lcOffset (s.gv (.lc n) a) i) 1 = some x →
      ∃ t, exec (.sxb n win rd a i) s = .next t ∧ s.refusedWith (.lc n) 1 x t) ∧
    (∀ (n : Fin 64) (win : BitVec 3) (rd a : RegNo) (i : BitVec 12) (s : State) (it : Item),
      s.goes (.lc n) 1 = true →
      (s.lc n.val).item = some it →
      (win = 0 ∨ win = 7) →
      exec (.sxh n win rd a i) s = .next ((s.begun (.lc n) 1).itemFail n.val it .illegalInstruction ((s.lc n.val).used + 1))) ∧
    (∀ (n : Fin 64) (win : BitVec 3) (rd a : RegNo) (i : BitVec 12) (s : State),
      s.goes (.lc n) 1 = true →
      (win ≠ 0 ∧ win ≠ 7) →
      s.gp (.lc n) a = true →
      ∃ t, exec (.sxh n win rd a i) s = .next t ∧ s.refusedWith (.lc n) 1 .poisoned t) ∧
    (∀ (n : Fin 64) (win : BitVec 3) (rd a : RegNo) (i : BitVec 12) (s : State) (x : Status),
      s.goes (.lc n) 1 = true →
      (win ≠ 0 ∧ win ≠ 7) →
      s.gp (.lc n) a = false →
      lcCheck (lcWindow win.toNat) true (lcOffset (s.gv (.lc n) a) i) 2 = some x →
      ∃ t, exec (.sxh n win rd a i) s = .next t ∧ s.refusedWith (.lc n) 1 x t) ∧
    (∀ (n : Fin 64) (win : BitVec 3) (rd a : RegNo) (i : BitVec 12) (s : State) (it : Item),
      s.goes (.lc n) 1 = true →
      (s.lc n.val).item = some it →
      (win = 0 ∨ win = 7) →
      exec (.sxw n win rd a i) s = .next ((s.begun (.lc n) 1).itemFail n.val it .illegalInstruction ((s.lc n.val).used + 1))) ∧
    (∀ (n : Fin 64) (win : BitVec 3) (rd a : RegNo) (i : BitVec 12) (s : State),
      s.goes (.lc n) 1 = true →
      (win ≠ 0 ∧ win ≠ 7) →
      s.gp (.lc n) a = true →
      ∃ t, exec (.sxw n win rd a i) s = .next t ∧ s.refusedWith (.lc n) 1 .poisoned t) ∧
    (∀ (n : Fin 64) (win : BitVec 3) (rd a : RegNo) (i : BitVec 12) (s : State) (x : Status),
      s.goes (.lc n) 1 = true →
      (win ≠ 0 ∧ win ≠ 7) →
      s.gp (.lc n) a = false →
      lcCheck (lcWindow win.toNat) true (lcOffset (s.gv (.lc n) a) i) 4 = some x →
      ∃ t, exec (.sxw n win rd a i) s = .next t ∧ s.refusedWith (.lc n) 1 x t) ∧
    (∀ (n : Fin 64) (win : BitVec 3) (rd a : RegNo) (i : BitVec 12) (s : State) (it : Item),
      s.goes (.lc n) 1 = true →
      (s.lc n.val).item = some it →
      (win = 0 ∨ win = 7) →
      exec (.sxd n win rd a i) s = .next ((s.begun (.lc n) 1).itemFail n.val it .illegalInstruction ((s.lc n.val).used + 1))) ∧
    (∀ (n : Fin 64) (win : BitVec 3) (rd a : RegNo) (i : BitVec 12) (s : State),
      s.goes (.lc n) 1 = true →
      (win ≠ 0 ∧ win ≠ 7) →
      pairOk rd = false →
      ∃ t, exec (.sxd n win rd a i) s = .next t ∧ s.refusedWith (.lc n) 1 .badRegister t) ∧
    (∀ (n : Fin 64) (win : BitVec 3) (rd a : RegNo) (i : BitVec 12) (s : State),
      s.goes (.lc n) 1 = true →
      (win ≠ 0 ∧ win ≠ 7) →
      pairOk rd = true →
      s.gp (.lc n) a = true →
      ∃ t, exec (.sxd n win rd a i) s = .next t ∧ s.refusedWith (.lc n) 1 .poisoned t) ∧
    (∀ (n : Fin 64) (win : BitVec 3) (rd a : RegNo) (i : BitVec 12) (s : State) (x : Status),
      s.goes (.lc n) 1 = true →
      (win ≠ 0 ∧ win ≠ 7) →
      pairOk rd = true →
      s.gp (.lc n) a = false →
      lcCheck (lcWindow win.toNat) true (lcOffset (s.gv (.lc n) a) i) 8 = some x →
      ∃ t, exec (.sxd n win rd a i) s = .next t ∧ s.refusedWith (.lc n) 1 x t) ∧
    (∀ (w : Win) (o : Int) (n : Nat) (sto : Bool),
      (o % n ≠ 0 → lcCheck w sto o n = some .badAlign) ∧ (o % n = 0 → o < 0 ∨ (w.size : Int) < o + n → lcCheck w sto o n = some .badAddress) ∧
        (o % n = 0 → 0 ≤ o → o + n ≤ (w.size : Int) → lcCheck w sto o n = (if (if sto then w.stores else w.loads) = true then none else some .windowDenied))) ∧
    (∀ (n : Fin 64) (ra rb : RegNo) (s : State) (x : Status),
      s.goes (.lc n) 3 = true →
      (s.cpu (.lc n)).cellCheck (pairOk rb) ra 8 = some x →
      ∃ t, exec (.satadd n ra rb) s = .next t ∧ s.refusedWith (.lc n) 3 x t) ∧
    (∀ (n : Fin 64) (ra rb : RegNo) (s : State) (x : Status),
      s.goes (.lc n) 4 = true →
      (s.cpu (.lc n)).cellCheck (groupOk rb) ra 16 = some x →
      ∃ t, exec (.maxd n ra rb) s = .next t ∧ s.refusedWith (.lc n) 4 x t) ∧
    (∀ (u : Cpu) (fits : Bool) (ra : RegNo) (size : Nat),
      u.cellCheck fits ra size = (if fits = false then some .badRegister else if (u.g ra.toNat).poison = true then some .poisoned
          else if (u.g ra.toNat).val.toNat % size ≠ 0 then some .badAlign else if 4096 < (u.g ra.toNat).val.toNat + size then some .badAddress else none))

/-- TACK of a running ledger core: an entry whose key the list already has is merged in place, FLAGS joined and the higher MSEQ
kept, Z set, the count unchanged; a new entry, with the list not full, is counted, Z is clear, and N says whether another entry
has its TIME and CODE; with 42 entries and no equal key it is refused with TACK_FULL and nothing is stored. PRESS with a fitting
destination moves the entries before the boundary out of the list: the register takes their number and the count falls by it.
EMIT of a running ledger core, whose operands pass the checks of R183, adds one record to the emit buffer, made of the length,
the type and PS after the copy, with the body copied behind the records before it, and ends with DONE, or with the warning
POISONED when the body is poisoned. WAITW of a core without an item makes an idle core wait, and with an item fails it with
ILLEGAL_INSTRUCTION. DONE of a core that runs an item ends it, and the core waits; without one it acts as WAITW. TACK with a
register that begins no group of eight is refused with BAD_REGISTER; PRESS with a register that is no pair with BAD_REGISTER,
and with a destination that runs over its window with BAD_ADDRESS; EMIT with POISONED, BAD_ARGUMENT, BAD_ALIGN, BAD_ADDRESS or
EMIT_FULL, the first that holds. (R96, R97, R122, R123, R177, R178, R180, R181, R183, R184, R185, R186) -/
def Obligations.TackEmitAndEnd : Prop :=
    (∀ (n : Fin 64) (ra : RegNo) (s : State),
      s.goes (.lc n) 48 = true →
      ra = 8 ∨ ra = 16 ∨ ra = 24 →
      tackCount s (lcW2 n.val) ≤ 42 →
      ∃ j, j < tackCount s (lcW2 n.val) ∧ (tackOf ((s.cpu (.lc n)).gs ra.toNat 6)).sameKey (s.tackEntry (tackAt (lcW2 n.val) j)) = true →
      ∃ t, exec (.tack n ra) s = .next t ∧ tackCount t (lcW2 n.val) = tackCount s (lcW2 n.val) ∧ (t.cpu (.lc n)).flag 0 = true ∧ (t.cpu (.lc n)).flag 1 = false ∧
        (∃ j, j < tackCount s (lcW2 n.val) ∧ (tackOf ((s.cpu (.lc n)).gs ra.toNat 6)).sameKey (s.tackEntry (tackAt (lcW2 n.val) j)) = true ∧ (t.tackEntry (tackAt (lcW2 n.val) j)).flags = (s.tackEntry (tackAt (lcW2 n.val) j)).flags ||| (tackOf ((s.cpu (.lc n)).gs ra.toNat 6)).flags ∧
          (t.tackEntry (tackAt (lcW2 n.val) j)).mseq = max (s.tackEntry (tackAt (lcW2 n.val) j)).mseq (tackOf ((s.cpu (.lc n)).gs ra.toNat 6)).mseq) ∧
        (∀ x, x < (lcW2 n.val) + 16 ∨ (lcW2 n.val) + 1024 ≤ x → t.byte x = s.byte x) ∧ (∀ r, (t.cpu (.lc n)).g r = (s.cpu (.lc n)).g r) ∧
        (t.cpu (.lc n)).pc = (s.cpu (.lc n)).pc + 4 ∧ (t.cpu (.lc n)).flag 4 = false ∧ (t.cpu (.lc n)).st = (if (((s.cpu (.lc n)).gs ra.toNat 6).any (·.poison) || s.tackBad (lcW2 n.val)) then Status.poisoned.code else Status.done.code) ∧
        (t.cpu (.lc n)).flag 6 = ((s.cpu (.lc n)).flag 6 || (((s.cpu (.lc n)).gs ra.toNat 6).any (·.poison) || s.tackBad (lcW2 n.val))) ∧ t = { (s.begun (.lc n) 48).touch (lcW2 n.val) 1024 with mem := t.mem, poison := t.poison, soft := t.soft, lcs := t.lcs } ∧
        t = (t.setCpu (.lc n) (t.cpu (.lc n))) ∧ (∀ c, c ≠ .lc n → t.cpu c = s.cpu c)) ∧
    (∀ (n : Fin 64) (ra : RegNo) (s : State),
      s.goes (.lc n) 48 = true →
      ra = 8 ∨ ra = 16 ∨ ra = 24 →
      tackCount s (lcW2 n.val) ≤ 42 →
      tackCount s (lcW2 n.val) < 42 →
      ∀ j, j < tackCount s (lcW2 n.val) → (tackOf ((s.cpu (.lc n)).gs ra.toNat 6)).sameKey (s.tackEntry (tackAt (lcW2 n.val) j)) = false →
      ∃ t, exec (.tack n ra) s = .next t ∧ tackCount t (lcW2 n.val) = tackCount s (lcW2 n.val) + 1 ∧ (t.cpu (.lc n)).flag 0 = false ∧
        ((t.cpu (.lc n)).flag 1 = true ↔ ∃ j, j < tackCount s (lcW2 n.val) ∧ (s.tackEntry (tackAt (lcW2 n.val) j)).time = (tackOf ((s.cpu (.lc n)).gs ra.toNat 6)).time ∧ (s.tackEntry (tackAt (lcW2 n.val) j)).code = (tackOf ((s.cpu (.lc n)).gs ra.toNat 6)).code) ∧
        (∀ x, x < (lcW2 n.val) ∨ (lcW2 n.val) + 1024 ≤ x → t.byte x = s.byte x) ∧ (∀ r, (t.cpu (.lc n)).g r = (s.cpu (.lc n)).g r) ∧
        (t.cpu (.lc n)).pc = (s.cpu (.lc n)).pc + 4 ∧ (t.cpu (.lc n)).flag 4 = false ∧ (t.cpu (.lc n)).st = (if (((s.cpu (.lc n)).gs ra.toNat 6).any (·.poison) || s.tackBad (lcW2 n.val)) then Status.poisoned.code else Status.done.code) ∧
        (t.cpu (.lc n)).flag 6 = ((s.cpu (.lc n)).flag 6 || (((s.cpu (.lc n)).gs ra.toNat 6).any (·.poison) || s.tackBad (lcW2 n.val))) ∧ t = { (s.begun (.lc n) 48).touch (lcW2 n.val) 1024 with mem := t.mem, poison := t.poison, soft := t.soft, lcs := t.lcs } ∧
        t = (t.setCpu (.lc n) (t.cpu (.lc n))) ∧ (∀ c, c ≠ .lc n → t.cpu c = s.cpu c)) ∧
    (∀ (n : Fin 64) (ra : RegNo) (s : State),
      s.goes (.lc n) 48 = true →
      ra = 8 ∨ ra = 16 ∨ ra = 24 →
      tackCount s (lcW2 n.val) = 42 →
      ∀ j, j < tackCount s (lcW2 n.val) → (tackOf ((s.cpu (.lc n)).gs ra.toNat 6)).sameKey (s.tackEntry (tackAt (lcW2 n.val) j)) = false →
      ∃ t, exec (.tack n ra) s = .next t ∧ s.refusedFrom ((s.begun (.lc n) 48).touch (lcW2 n.val) 1024) (.lc n) .tackFull false t) ∧
    (∀ (n : Fin 64) (ra rb : RegNo) (dst : BitVec 8) (s : State),
      s.goes (.lc n) 128 = true →
      pairOk rb = true →
      tackCount s (lcW2 n.val) ≤ 42 →
      dst.toNat * 256 + 24 * (s.pressCount (lcW2 n.val) ((s.cpu (.lc n)).pair rb.toNat)) ≤ 65536 →
      ∃ t, exec (.press n ra rb dst) s = .next t ∧ tackCount t (lcW2 n.val) = tackCount s (lcW2 n.val) - (s.pressCount (lcW2 n.val) ((s.cpu (.lc n)).pair rb.toNat)) ∧
        (t.cpu (.lc n)).g ra.toNat = (if ra = 0 then {} else ⟨BitVec.ofNat 32 (s.pressCount (lcW2 n.val) ((s.cpu (.lc n)).pair rb.toNat)), (s.cpu (.lc n)).pairBad rb.toNat || s.pressBad (lcW2 n.val) (s.pressCount (lcW2 n.val) ((s.cpu (.lc n)).pair rb.toNat))⟩) ∧
        (s.cpu (.lc n)).others (t.cpu (.lc n)) ra.toNat ∧ t.bytes (lcW6 n.val + dst.toNat * 256) (24 * (s.pressCount (lcW2 n.val) ((s.cpu (.lc n)).pair rb.toNat))) = s.bytes ((lcW2 n.val) + 16) (24 * (s.pressCount (lcW2 n.val) ((s.cpu (.lc n)).pair rb.toNat))) ∧
        (t.cpu (.lc n)).pc = (s.cpu (.lc n)).pc + 4 ∧ (t.cpu (.lc n)).fl = flEnded ((s.cpu (.lc n)).psAfter ((s.cpu (.lc n)).pairBad rb.toNat || s.pressBad (lcW2 n.val) (s.pressCount (lcW2 n.val) ((s.cpu (.lc n)).pair rb.toNat)))) (if ((s.cpu (.lc n)).pairBad rb.toNat || s.pressBad (lcW2 n.val) (s.pressCount (lcW2 n.val) ((s.cpu (.lc n)).pair rb.toNat))) then .poisoned else .done) false ((s.cpu (.lc n)).pairBad rb.toNat || s.pressBad (lcW2 n.val) (s.pressCount (lcW2 n.val) ((s.cpu (.lc n)).pair rb.toNat))) ∧
        t = ((((s.begun (.lc n) 128).touch (lcW2 n.val) 1024).pressMove (lcW2 n.val) (lcW6 n.val + dst.toNat * 256) (s.pressCount (lcW2 n.val) ((s.cpu (.lc n)).pair rb.toNat))).setCpu (.lc n) (t.cpu (.lc n))) ∧
        (∀ x, (x < (lcW2 n.val) ∨ (lcW2 n.val) + 1024 ≤ x) → (x < lcW6 n.val + dst.toNat * 256 ∨ lcW6 n.val + dst.toNat * 256 + 24 * (s.pressCount (lcW2 n.val) ((s.cpu (.lc n)).pair rb.toNat)) ≤ x) → t.byte x = s.byte x) ∧
        (∀ i, i < tackCount s (lcW2 n.val) - (s.pressCount (lcW2 n.val) ((s.cpu (.lc n)).pair rb.toNat)) → t.tackEntry (tackAt (lcW2 n.val) i) = s.tackEntry (tackAt (lcW2 n.val) (i + (s.pressCount (lcW2 n.val) ((s.cpu (.lc n)).pair rb.toNat)))))) ∧
    (∀ (n : Fin 64) (ra rb : RegNo) (typ : BitVec 8) (s : State),
      s.goes (.lc n) 16 = true →
      (s.lc n.val).emitCheck ra rb = none →
      ∃ t, exec (.emit n ra rb typ) s = .next t ∧ (t.lc n.val).emits = (s.lc n.val).emits ++
          [⟨((s.lc n.val).emits.map (·.len)).sum, (s.gv (.lc n) rb).toNat, typ.toNat, (s.cpu (.lc n)).flag 6 || s.gp (.lc n) rb || s.poisonedIn (lcW6 n.val + (s.gv (.lc n) ra).toNat) (s.gv (.lc n) rb).toNat⟩] ∧
        t.bytes (lcW3 n.val + ((s.lc n.val).emits.map (·.len)).sum) (s.gv (.lc n) rb).toNat = s.bytes (lcW6 n.val + (s.gv (.lc n) ra).toNat) (s.gv (.lc n) rb).toNat ∧
        (∀ r, (t.cpu (.lc n)).g r = (s.cpu (.lc n)).g r) ∧ (t.cpu (.lc n)).pc = (s.cpu (.lc n)).pc + 4 ∧
        (t.cpu (.lc n)).fl = flEnded ((s.cpu (.lc n)).psAfter (s.poisonedIn (lcW6 n.val + (s.gv (.lc n) ra).toNat) (s.gv (.lc n) rb).toNat || s.gp (.lc n) rb)) (if s.poisonedIn (lcW6 n.val + (s.gv (.lc n) ra).toNat) (s.gv (.lc n) rb).toNat then .poisoned else .done) false (s.poisonedIn (lcW6 n.val + (s.gv (.lc n) ra).toNat) (s.gv (.lc n) rb).toNat) ∧
        (∀ x, x < lcW3 n.val + ((s.lc n.val).emits.map (·.len)).sum ∨ lcW3 n.val + ((s.lc n.val).emits.map (·.len)).sum + (s.gv (.lc n) rb).toNat ≤ x → t.byte x = s.byte x) ∧
        t = { (s.begun (.lc n) 16).touch (lcW6 n.val + (s.gv (.lc n) ra).toNat) (s.gv (.lc n) rb).toNat with mem := t.mem, poison := t.poison, soft := t.soft, lcs := t.lcs } ∧ (∀ c, c ≠ .lc n → t.cpu c = s.cpu c)) ∧
    (∀ (n : Fin 64) (s : State),
      s.clocked = true →
      (s.lc n.val).item = none →
      (s.lc n.val).run = .idle →
      exec (.waitw n) s = .next (s.setLc n.val { s.lc n.val with run := .waiting })) ∧
    (∀ (n : Fin 64) (s : State),
      s.clocked = true →
      (s.lc n.val).item = none →
      (s.lc n.val).run = .idle →
      exec (.done n) s = .next (s.setLc n.val { s.lc n.val with run := .waiting })) ∧
    (∀ (n : Fin 64) (s : State) (it : Item),
      s.goes (.lc n) 1 = true →
      (s.lc n.val).item = some it →
      exec (.waitw n) s = .next ((s.begun (.lc n) 1).itemFail n.val it .illegalInstruction ((s.lc n.val).used + 1))) ∧
    (∀ (n : Fin 64) (s : State) (it : Item),
      s.goes (.lc n) 1 = true →
      (s.lc n.val).item = some it →
      exec (.done n) s = .next ((s.begun (.lc n) 1).itemDone n.val it)) ∧
    (∀ (n : Fin 64) (ra : RegNo) (s : State),
      s.goes (.lc n) 48 = true →
      (ra ≠ 8 ∧ ra ≠ 16 ∧ ra ≠ 24) →
      ∃ t, exec (.tack n ra) s = .next t ∧ s.refusedWith (.lc n) 48 .badRegister t) ∧
    (∀ (n : Fin 64) (ra rb : RegNo) (dst : BitVec 8) (s : State),
      s.goes (.lc n) 128 = true →
      pairOk rb = false →
      ∃ t, exec (.press n ra rb dst) s = .next t ∧ s.refusedWith (.lc n) 128 .badRegister t) ∧
    (∀ (n : Fin 64) (ra rb : RegNo) (dst : BitVec 8) (s : State),
      s.goes (.lc n) 128 = true →
      pairOk rb = true →
      65536 < dst.toNat * 256 + 24 * (s.pressCount (lcW2 n.val) ((s.cpu (.lc n)).pair rb.toNat)) →
      ∃ t, exec (.press n ra rb dst) s = .next t ∧ s.refusedWith (.lc n) 128 .badAddress t) ∧
    (∀ (n : Fin 64) (ra rb : RegNo) (typ : BitVec 8) (s : State) (x : Status),
      s.goes (.lc n) 16 = true →
      (s.lc n.val).emitCheck ra rb = some x →
      ∃ t, exec (.emit n ra rb typ) s = .next t ∧ s.refusedWith (.lc n) 16 x t) ∧
    (∀ (c : LCore) (ra rb : RegNo) (x : GReg) (len : Nat),
      x = c.cpu.g ra.toNat →
      len = (c.cpu.g rb.toNat).val.toNat →
      c.emitCheck ra rb = (if x.poison = true then some .poisoned else if len % 8 ≠ 0 ∨ len < 8 ∨ 256 < len then some .badArgument else if x.val.toNat % 8 ≠ 0 then some .badAlign
          else if 65536 < x.val.toNat + len then some .badAddress else if 32 ≤ c.emits.length ∨ 2048 < (c.emits.map (·.len)).sum + len then some .emitFull else none)) ∧
    (∀ (n : Fin 64) (s : State),
      s.clocked = true →
      (s.lc n.val).item = none →
      (s.lc n.val).run ≠ .idle →
      exec (.waitw n) s = .next s ∧ exec (.done n) s = .next s)

/-- For every command and state, the step of a state with that command at the front of its queue is exec of the command on the state
with the queue's rest. With an empty queue the block idles for one edge of the TIME counter (the model's choice,
notes/assumptions/27.md). (spec/01_architecture.md, R483) -/
def Obligations.StepTakesTheFront : Prop :=
    (∀ (c : Instr) (cs : List Instr) (s : State),
      s.pending = c :: cs →
      step s = exec c { s with pending := cs }) ∧
    (∀ (s : State),
      s.pending = [] →
      step s = .next s.tick) ∧
    (∀ (s : State),
      s.tick = (if s.pwr.asleep || !s.timePll then s else s.setTime { s.time with raw := s.time.raw + 1 }))

/-- For every command and state, exec answers a next state, and that state has the same waiting commands: exec is the effect on
everything but the queue. (R16, R145) -/
def Obligations.CommandsLeaveTheQueue : Prop :=
    ∀ (c : Instr) (s : State),
      ∃ t, exec c s = .next t ∧ t.pending = s.pending

/-- Every command, in every state, is answered with a next state: the model has no command that ends in a fault or a refusal. While
the core domain has no clock (halted after a PFAIL sequence, in Sleep, without REFCLK, or held by the test port), every command
changes nothing but the resets, the boot, the power and wake sequences, the always-on watchdog, ACT_IN_N, the tamper alarm, the
save of the operating time, the losses of the clocks, and the instructions of the test port. (R16, R71, R81, R145, R658, R676) -/
def Obligations.EveryCommandGoesOn : Prop :=
    (∀ (c : Instr) (s : State),
      ∃ t, exec c s = .next t) ∧
    (∀ (c : Instr) (s : State),
      s.clocked = false →
      coreDomain c = true →
      exec c s = .next s)

/-- In seam mode a CSR write by a control core to a block that its plane does not own, and in every mode a write to another core's
window or MPU entry, is refused with PLANE_DENIED, sets SYSSTAT.PLANE_VIOL, and has no other effect; a write by the test port
that debug access does not allow is refused with DEBUG_LOCKED and has no effect. A write to a number above 2^24 is refused with
BAD_ARGUMENT, then to one that is no multiple of 4 with BAD_ALIGN, then to a block that is not implemented with BAD_ADDRESS.
(R31, R145, R146, R570) -/
def Obligations.PlanesGuardWrites : Prop :=
    (∀ (k : Fin 4) (csr v : Word) (s : State),
      s.clocked = true →
      csr.toNat < 2 ^ 24 →
      csr.toNat % 4 = 0 →
      blockImplemented (csr.toNat / 0x10000) = true →
      s.planeDenied k.val csr.toNat = true →
      exec (.csrWrite (.cc k) csr v) s = .next ((s.setFlag fSYSSTAT_PLANE_VIOL true).say .planeDenied)) ∧
    (∀ (csr v : Word) (s : State),
      s.clocked = true →
      csr.toNat < 2 ^ 24 →
      csr.toNat % 4 = 0 →
      blockImplemented (csr.toNat / 0x10000) = true →
      s.portMay csr.toNat = false →
      exec (.csrWrite .port csr v) s = .next (s.say .debugLocked)) ∧
    (∀ (a : Agent) (csr v : Word) (s : State),
      s.clocked = true →
      csr.toNat < 2 ^ 24 →
      csr.toNat % 4 ≠ 0 →
      exec (.csrWrite a csr v) s = .next (s.say .badAlign)) ∧
    (∀ (a : Agent) (csr v : Word) (s : State),
      s.clocked = true →
      2 ^ 24 ≤ csr.toNat →
      exec (.csrWrite a csr v) s = .next (s.say .badArgument)) ∧
    (∀ (a : Agent) (csr v : Word) (s : State),
      s.clocked = true →
      csr.toNat < 2 ^ 24 →
      csr.toNat % 4 = 0 →
      blockImplemented (csr.toNat / 0x10000) = false →
      exec (.csrWrite a csr v) s = .next (s.say .badAddress))

/-- CSR_WRITE by an agent that may write the register, to a word below the highest of a register wider than a word: the word goes to
the staging copy (which starts from the value in force), and nothing else changes. To the highest word, or the only one: the
staged value with that word is written to the register whole, and the staging copy is gone. To a number of an implemented block
at which no register lies: DONE, and nothing changes. Where a register has no action of its own, such a write gives each RW bit
the bit written, clears each W1C bit written as 1, and leaves every other bit and every other register. LDGORIGIN, with the
scheduler disabled and a whole number of seconds, takes its 64 bits so. CSR_SNAPSHOT_READ of the lowest word of a wider register
of RO and RC fields answers it and takes a snapshot of the whole value; a read of a higher word is answered from the snapshot,
or from the value in force where none stands; of another register it answers the word in force. RC_READ answers the word and
clears its RC fields; LCKBRK so reads its count and leaves it zero. (WO bits read as zero. TIMTXTSq, which pops, and KEYRNG
while its entropy is not sound have their own clauses or refusals; what a read of a free value leaves is the draw taken.) A read
of a number above 2^24 is refused with BAD_ARGUMENT, then of one that is no multiple of 4 with BAD_ALIGN, of a block that is not
implemented with BAD_ADDRESS, by the port where it may not with DEBUG_LOCKED, and of KEYRNG while its entropy is not sound with
ENGINE_FAULT; where no register lies it answers 0. A read of the lowest word of TIMTXTSq is its pop, and its higher words come
from the snapshot. Each of the two rows leaves a word of the other row's kind as it is. (R12, R13, R14) -/
def Obligations.WideRegisters : Prop :=
    (∀ (a : Agent) (csr v : Word) (s : State) (r : RegRow) (b : Nat),
      s.clocked = true →
      csr.toNat < 2 ^ 24 →
      csr.toNat % 4 = 0 →
      blockImplemented (csr.toNat / 0x10000) = true →
      s.may a csr.toNat = true →
      regAt csr.toNat = some (r, b) →
      (csr.toNat - b) / 4 + 1 < r.words →
      exec (.csrWrite a csr v) s = .next ({ s with csrStage := assocSet b (setBits (lookupD (s.reg b) b s.csrStage) (32 * ((csr.toNat - b) / 4)) 32 v.toNat) s.csrStage }.say .done)) ∧
    (∀ (a : Agent) (csr v : Word) (s : State) (r : RegRow) (b : Nat),
      s.clocked = true →
      csr.toNat < 2 ^ 24 →
      csr.toNat % 4 = 0 →
      blockImplemented (csr.toNat / 0x10000) = true →
      s.may a csr.toNat = true →
      regAt csr.toNat = some (r, b) →
      (csr.toNat - b) / 4 + 1 = r.words →
      exec (.csrWrite a csr v) s = .next ((s.dropStage b).regWrite a b (setBits (lookupD (s.reg b) b s.csrStage) (32 * ((csr.toNat - b) / 4)) 32 v.toNat))) ∧
    (∀ (a : Agent) (csr v : Word) (s : State),
      s.clocked = true →
      csr.toNat < 2 ^ 24 →
      csr.toNat % 4 = 0 →
      blockImplemented (csr.toNat / 0x10000) = true →
      s.may a csr.toNat = true →
      regAt csr.toNat = none →
      exec (.csrWrite a csr v) s = .next (s.say .done)) ∧
    (∀ (a : Agent) (csr v : Word) (s : State) (r : RegRow) (b x : Nat),
      s.clocked = true →
      csr.toNat < 2 ^ 24 →
      csr.toNat % 4 = 0 →
      blockImplemented (csr.toNat / 0x10000) = true →
      s.may a csr.toNat = true →
      regAt csr.toNat = some (r, b) →
      (csr.toNat - b) / 4 + 1 = r.words →
      x = (setBits (lookupD (s.reg b) b s.csrStage) (32 * ((csr.toNat - b) / 4)) 32 v.toNat) →
      (s.dropStage b).regWrite a b x = (s.dropStage b).plainWrite b x →
      regRow (regGroup (b / 0x10000)) b = some r →
      ∃ t, exec (.csrWrite a csr v) s = .next t ∧ t.answer.status = .done ∧
        (∀ i, (t.reg b).testBit i = if r.rw.testBit i then x.testBit i else if r.w1c.testBit i && x.testBit i then false else (s.reg b).testBit i) ∧
        (∀ d, d ≠ b → t.reg d = s.reg d) ∧ t = { s with csr := t.csr, csrStage := t.csrStage, answer := t.answer }) ∧
    (∀ (a : Agent) (v : Word) (s : State) (x : Nat),
      s.writes a rLDGORIGIN = true →
      s.flag fLDGCFG_SCHED_EN = false →
      x = v.toNat * 2 ^ 32 + bits (lookupD (s.reg rLDGORIGIN) rLDGORIGIN s.csrStage) 0 32 →
      x % 1000 = 0 →
      ∃ t, exec (.csrWrite a 0x8000C v) s = .next t ∧ t.reg rLDGORIGIN = x ∧ t.answer.status = .done ∧
        (∀ b, b ≠ rLDGORIGIN → t.reg b = s.reg b) ∧ t = { s with csr := t.csr, csrStage := t.csrStage, answer := t.answer }) ∧
    (∀ (a : Agent) (csr : Word) (s : State) (r : RegRow) (b : Nat),
      s.clocked = true →
      csr.toNat < 2 ^ 24 →
      csr.toNat % 4 = 0 →
      blockImplemented (csr.toNat / 0x10000) = true →
      a ≠ .port ∨ s.portMay csr.toNat = true →
      csr.toNat ≠ rKEYRNG ∨ s.key.entropyBad = false →
      regAt csr.toNat = some (r, b) →
      b < rTIMTXTS 0 ∨ rTIMTXTS 20 ≤ b →
      r.roOnly = true →
      1 < r.words →
      csr.toNat = b →
      exec (.csrSnapshotRead a csr) s = .next (({ s with csrSnap := assocSet b (r.shown (s.liveReg (some a) b)) s.csrSnap }.readEffect r b 0).sayVal (bits (r.shown (s.liveReg (some a) b)) 0 32))) ∧
    (∀ (a : Agent) (csr : Word) (s : State) (r : RegRow) (b : Nat),
      s.clocked = true →
      csr.toNat < 2 ^ 24 →
      csr.toNat % 4 = 0 →
      blockImplemented (csr.toNat / 0x10000) = true →
      a ≠ .port ∨ s.portMay csr.toNat = true →
      csr.toNat ≠ rKEYRNG ∨ s.key.entropyBad = false →
      regAt csr.toNat = some (r, b) →
      b < rTIMTXTS 0 ∨ rTIMTXTS 20 ≤ b →
      r.roOnly = true →
      1 < r.words →
      (csr.toNat - b) / 4 ≠ 0 →
      exec (.csrSnapshotRead a csr) s = .next (s.sayVal (bits (lookupD (r.shown (s.liveReg (some a) b)) b s.csrSnap) (32 * ((csr.toNat - b) / 4)) 32))) ∧
    (∀ (a : Agent) (csr : Word) (s : State) (r : RegRow) (b : Nat),
      s.clocked = true →
      csr.toNat < 2 ^ 24 →
      csr.toNat % 4 = 0 →
      blockImplemented (csr.toNat / 0x10000) = true →
      a ≠ .port ∨ s.portMay csr.toNat = true →
      csr.toNat ≠ rKEYRNG ∨ s.key.entropyBad = false →
      regAt csr.toNat = some (r, b) →
      b < rTIMTXTS 0 ∨ rTIMTXTS 20 ≤ b →
      r.roOnly = false ∨ r.words ≤ 1 →
      r.rc = 0 →
      exec (.csrSnapshotRead a csr) s = .next ((s.readEffect r b ((csr.toNat - b) / 4)).sayVal (bits (r.shown (s.liveReg (some a) b)) (32 * ((csr.toNat - b) / 4)) 32))) ∧
    (∀ (a : Agent) (csr : Word) (s : State) (r : RegRow) (b : Nat),
      s.clocked = true →
      csr.toNat < 2 ^ 24 →
      csr.toNat % 4 = 0 →
      blockImplemented (csr.toNat / 0x10000) = true →
      a ≠ .port ∨ s.portMay csr.toNat = true →
      csr.toNat ≠ rKEYRNG ∨ s.key.entropyBad = false →
      regAt csr.toNat = some (r, b) →
      b < rTIMTXTS 0 ∨ rTIMTXTS 20 ≤ b →
      r.words ≤ 1 →
      csr.toNat = b →
      r.rc % 2 ^ 32 ≠ 0 →
      exec (.rcRead a csr) s = .next ((s.readEffect r b 0).sayVal (bits (r.shown (s.liveReg (some a) b)) 0 32)) ∧
        (s.readEffect r b 0).reg b = maskOff (s.reg b) (r.rc % 2 ^ 32)) ∧
    (∀ (a : Agent) (s : State),
      s.clocked = true →
      a ≠ .port ∨ s.portMay rLCKBRK = true →
      exec (.rcRead a 0x70800) s = .next ((s.setReg rLCKBRK (s.reg rLCKBRK - s.reg rLCKBRK % 2 ^ 32)).sayVal (s.reg rLCKBRK % 2 ^ 32))) ∧
    (∀ (a : Agent) (csr : Word) (s : State),
      s.clocked = true →
      2 ^ 24 ≤ csr.toNat →
      exec (.csrSnapshotRead a csr) s = .next (s.say .badArgument) ∧ exec (.rcRead a csr) s = .next (s.say .badArgument)) ∧
    (∀ (a : Agent) (csr : Word) (s : State),
      s.clocked = true →
      csr.toNat < 2 ^ 24 →
      csr.toNat % 4 ≠ 0 →
      regAt csr.toNat = none →
      exec (.csrSnapshotRead a csr) s = .next (s.say .badAlign) ∧ exec (.rcRead a csr) s = .next (s.say .badAlign)) ∧
    (∀ (a : Agent) (csr : Word) (s : State),
      s.clocked = true →
      csr.toNat < 2 ^ 24 →
      csr.toNat % 4 = 0 →
      blockImplemented (csr.toNat / 0x10000) = false →
      exec (.csrSnapshotRead a csr) s = .next (s.say .badAddress) ∧ exec (.rcRead a csr) s = .next (s.say .badAddress)) ∧
    (∀ (a : Agent) (csr : Word) (s : State),
      s.clocked = true →
      csr.toNat < 2 ^ 24 →
      csr.toNat % 4 = 0 →
      blockImplemented (csr.toNat / 0x10000) = true →
      regAt csr.toNat = none →
      a = .port →
      s.portMay csr.toNat = false →
      exec (.csrSnapshotRead a csr) s = .next (s.say .debugLocked) ∧ exec (.rcRead a csr) s = .next (s.say .debugLocked)) ∧
    (∀ (a : Agent) (csr : Word) (s : State),
      s.clocked = true →
      csr.toNat < 2 ^ 24 →
      csr.toNat % 4 = 0 →
      blockImplemented (csr.toNat / 0x10000) = true →
      regAt csr.toNat = none →
      (a ≠ .port ∨ s.portMay csr.toNat = true) →
      exec (.csrSnapshotRead a csr) s = .next (s.sayVal 0) ∧ exec (.rcRead a csr) s = .next (s.sayVal 0)) ∧
    (∀ (a : Agent) (csr : Word) (s : State) (r : RegRow) (b : Nat),
      s.clocked = true →
      csr.toNat < 2 ^ 24 →
      csr.toNat % 4 = 0 →
      blockImplemented (csr.toNat / 0x10000) = true →
      regAt csr.toNat = some (r, b) →
      a = .port →
      s.portMay csr.toNat = false →
      (r.rc = 0 ∨ 1 < r.words → exec (.csrSnapshotRead a csr) s = .next (s.say .debugLocked)) ∧
        (r.rc &&& (2 ^ 32 - 1) * 2 ^ (32 * ((csr.toNat - b) / 4)) ≠ 0 → exec (.rcRead a csr) s = .next (s.say .debugLocked))) ∧
    (∀ (a : Agent) (csr : Word) (s : State) (r : RegRow) (b : Nat),
      s.clocked = true →
      regAt csr.toNat = some (r, b) →
      (r.rc ≠ 0 → r.words ≤ 1 → exec (.csrSnapshotRead a csr) s = .next s) ∧
        (r.rc &&& (2 ^ 32 - 1) * 2 ^ (32 * ((csr.toNat - b) / 4)) = 0 → exec (.rcRead a csr) s = .next s)) ∧
    (∀ (a : Agent) (q : Fin 20) (s : State),
      s.clocked = true →
      exec (.csrSnapshotRead a (BitVec.ofNat 32 (rTIMTXTS q.val))) s = exec (.txtsPop a q) s ∧ exec (.rcRead a (BitVec.ofNat 32 (rTIMTXTS q.val))) s = exec (.txtsPop a q) s) ∧
    (∀ (a : Agent) (q : Fin 20) (i : Nat) (s : State),
      s.clocked = true →
      (a ≠ .port ∨ s.portMay (rTIMTXTS q.val) = true) →
      (i = 1 ∨ i = 2) →
      exec (.csrSnapshotRead a (BitVec.ofNat 32 (rTIMTXTS q.val + 4 * i))) s = .next (s.sayVal (bits (lookupD (s.txOldest q.val) (rTIMTXTS q.val) s.csrSnap) (32 * i) 32))) ∧
    (∀ (a : Agent) (s : State),
      s.clocked = true →
      (a ≠ .port ∨ s.portMay rKEYRNG = true) →
      s.key.entropyBad = true →
      exec (.csrSnapshotRead a (BitVec.ofNat 32 rKEYRNG)) s = .next (s.say .engineFault))

/-- FENCE_REQUEST for one unit that is neither fenced nor requested, is not the DDR channel DB, and is not the last of the units of
which the minimum service set keeps one, notes the request, and nothing else changes; for the last of them it is refused:
FENCE_REFUSED is set and the request is not taken. A fence of the DDR channel DB takes effect at once before the control
firmware is loaded; later it only sets FENCE_LATE. FENCE_TAKE_EFFECT, for a unit whose fence is requested and which has reached
its point, sets its bit of FENCE_STAT and withdraws the request; for a control core the core is held and its locks break; an
Ethernet port or Duneb link of a fenced unit goes down; for a powerline triple, a radio port, metrology, the balance engine or a
ledger core nothing else changes. Without a request, or before its point, nothing changes. A request for a unit that is fenced
or requested changes nothing. A request for several units asks for each, the lowest number first. (R50, R51, R52, R53, R138) -/
def Obligations.Fences : Prop :=
    (∀ (a : Agent) (n : Fin 96) (v : BitVec 96) (s : State),
      s.writes a rFENCE_SET = true →
      v.toNat = 2 ^ n.val →
      s.fencing n.val = false →
      n ≠ 11 →
      ((s.keepOne n.val).isEmpty || !((s.keepOne n.val).all fun m => decide (m = n.val) || s.fencing m)) = true →
      exec (.fenceRequest a v) s = .next (((s.dropStage rFENCE_SET).setPwr { s.pwr with fenceReq := setBits s.pwr.fenceReq n.val 1 1 }).say .done)) ∧
    (∀ (a : Agent) (n : Fin 96) (v : BitVec 96) (s : State),
      s.writes a rFENCE_SET = true →
      v.toNat = 2 ^ n.val →
      s.fencing n.val = false →
      n ≠ 11 →
      (s.keepOne n.val).isEmpty = false →
      ((s.keepOne n.val).all fun m => decide (m = n.val) || s.fencing m) = true →
      ∃ t, exec (.fenceRequest a v) s = .next t ∧ t.flag fSYSSTAT_FENCE_REFUSED = true ∧ t.pwr.fenceReq = s.pwr.fenceReq ∧
        t.reg rFENCE_STAT = s.reg rFENCE_STAT) ∧
    (∀ (n : Fin 96) (s : State),
      s.clocked = true →
      bit s.pwr.fenceReq n.val = true →
      s.fencePoint n.val = true →
      20 ≤ n.val →
      exec (.fenceTakeEffect n) s = .next ((s.setReg rFENCE_STAT (setBits (s.reg rFENCE_STAT) n.val 1 1)).setPwr
          { s.pwr with fenceReq := setBits s.pwr.fenceReq n.val 1 0 })) ∧
    (∀ (n : Fin 96) (s : State),
      s.clocked = true →
      bit s.pwr.fenceReq n.val = true →
      n.val < 4 →
      ∃ t, exec (.fenceTakeEffect n) s = .next t ∧ t.fenced n.val = true ∧ bit t.pwr.fenceReq n.val = false ∧ (t.cc n.val).run = .held ∧
        (∀ m, m < 256 → (s.lock m).st = .held → (s.lock m).owner = n.val → (s.lock m).waiters = [] → (t.lock m).st = .broken)) ∧
    (∀ (n : Fin 96) (s : State),
      s.clocked = true →
      bit s.pwr.fenceReq n.val = true →
      s.fencePoint n.val = true →
      ∃ t, exec (.fenceTakeEffect n) s = .next t ∧ t.reg rFENCE_STAT = setBits (s.reg rFENCE_STAT) n.val 1 1 ∧
        t.pwr = { s.pwr with fenceReq := setBits s.pwr.fenceReq n.val 1 0 } ∧ t.mem = s.mem ∧ t.lcs = s.lcs ∧
        (n = 14 → t.flag (fENSTAT_LINK 0) = false) ∧ (n = 15 → t.flag (fENSTAT_LINK 1) = false) ∧
        (16 ≤ n.val → n.val < 20 → t.dlUp (n.val - 16) = false)) ∧
    (∀ (n : Fin 96) (s : State),
      s.clocked = true →
      bit s.pwr.fenceReq n.val = false ∨ s.fencePoint n.val = false →
      exec (.fenceTakeEffect n) s = .next s) ∧
    (∀ (a : Agent) (v : BitVec 96) (s : State),
      s.writes a rFENCE_SET = true →
      v.toNat = 2 ^ 11 →
      s.fencing 11 = false →
      s.mode = modeBoot →
      s.pwr.bootStep < 6 →
      exec (.fenceRequest a v) s = .next (((s.dropStage rFENCE_SET).setReg rFENCE_STAT (setBits (s.reg rFENCE_STAT) 11 1 1)).say .done)) ∧
    (∀ (a : Agent) (v : BitVec 96) (s : State),
      s.writes a rFENCE_SET = true →
      v.toNat = 2 ^ 11 →
      s.fencing 11 = false →
      s.mode ≠ modeBoot ∨ 6 ≤ s.pwr.bootStep →
      ∃ t, exec (.fenceRequest a v) s = .next t ∧ t.flag fSYSSTAT_FENCE_LATE = true ∧ t.pwr = s.pwr ∧ t.reg rFENCE_STAT = s.reg rFENCE_STAT) ∧
    (∀ (a : Agent) (n : Fin 96) (v : BitVec 96) (s : State),
      s.writes a rFENCE_SET = true →
      v.toNat = 2 ^ n.val →
      s.fencing n.val = true →
      exec (.fenceRequest a v) s = .next ((s.dropStage rFENCE_SET).say .done)) ∧
    (∀ (a : Agent) (n : Fin 96) (u v w : BitVec 96) (s : State),
      s.writes a rFENCE_SET = true →
      u.toNat = 2 ^ n.val →
      v.toNat < 2 ^ n.val →
      w.toNat = v.toNat + 2 ^ n.val →
      ∃ t, exec (.fenceRequest a v) s = .next t ∧ exec (.fenceRequest a w) s = exec (.fenceRequest a u) t)

/-- POR, BOR, EXT_RESET and the three requests of SWRESET each perform a reset of their kind (the widest of it and the one whose
boot is in progress), set their bit of RSTCAUSE, and leave the chip at boot step 1 in BOOT with its control cores held, its
queues, lock cells and caches at their reset values, memory outside MRAM at what an unlisted byte reads as and MRAM outside the
recorder as it was; a SWRESET leaves its request in RSTCAUSE, and one with another key is refused with BAD_KEY. A POR clears the
raw count, a BOR keeps it. One whose request is none of the three is refused with BAD_KEY too. (R56, R57, R60, R62, R66) -/
def Obligations.ResetsPerform : Prop :=
    (∀ (s : State),
      ∃ t, exec .por s = .next t ∧ s.cameUp t 0 1 ∧ t.time.raw = 0) ∧
    (∀ (s : State),
      ∃ t, exec .bor s = .next t ∧ s.cameUp t (s.resetKind 1) 2) ∧
    (∀ (s : State),
      s.mode ≠ modeBoot →
      ∃ t, exec .bor s = .next t ∧ s.cameUp t 1 2 ∧ t.time.raw = s.time.raw) ∧
    (∀ (s : State),
      ∃ t, exec .extReset s = .next t ∧ s.cameUp t (s.resetKind 2) 4) ∧
    (∀ (a : Agent) (s : State),
      s.writes a rSWRESET = true →
      ∃ t, exec (.swresetNormal a) s = .next t ∧ s.cameUp t (s.resetKind 4) 16 ∧ t.fget fRSTCAUSE_SWREQ = 0 ∧ t.answer.status = .done) ∧
    (∀ (a : Agent) (s : State),
      s.writes a rSWRESET = true →
      ∃ t, exec (.swresetRecovery a) s = .next t ∧ s.cameUp t (s.resetKind 4) 16 ∧ t.fget fRSTCAUSE_SWREQ = 1 ∧ t.answer.status = .done) ∧
    (∀ (a : Agent) (s : State),
      s.writes a rSWRESET = true →
      ∃ t, exec (.swresetStandby a) s = .next t ∧ s.cameUp t (s.resetKind 4) 16 ∧ t.fget fRSTCAUSE_SWREQ = 2 ∧ t.answer.status = .done) ∧
    (∀ (a : Agent) (v : Word) (s : State),
      s.writes a rSWRESET = true →
      v.toNat / 2 ^ 16 ≠ 0x5352 →
      exec (.csrWrite a (BitVec.ofNat 32 rSWRESET) v) s = .next ({ s with csrStage := s.csrStage.filter fun e => e.1 ≠ rSWRESET }.say .badKey)) ∧
    (∀ (a : Agent) (v : Word) (s : State),
      s.writes a rSWRESET = true →
      v.toNat % 4 = 3 →
      exec (.csrWrite a (BitVec.ofNat 32 rSWRESET) v) s = .next ({ s with csrStage := s.csrStage.filter fun e => e.1 ≠ rSWRESET }.say .badKey))

/-- After reset the chip is in BOOT at step 1 with POR in RSTCAUSE, every control core held with its registers zero, every queue
empty and disabled, every lock cell FREE with SEQ 0, no command waiting; memory lists nothing and is in its canonical form. (The
value that a byte of memory reads as before it is written, 0, is the model's choice: notes/assumptions/5.md.) (R56, R57, R67,
R137) -/
def Obligations.ResetState : Prop :=
    ∀ (q : Fin 128) (n : Fin 256) (k : Fin 4),
      State.reset.mode = modeBoot ∧ State.reset.pwr.bootStep = 1 ∧ State.reset.fget fRSTCAUSE_POR = 1 ∧ (State.reset.cc k.val).run = .held ∧
      State.reset.cpu (.cc k) = {} ∧ State.reset.qEn q.val = false ∧ (State.reset.queue q.val).count = 0 ∧ (State.reset.lock n.val).st = .free ∧
      (State.reset.lock n.val).seq = 0 ∧ State.reset.pending = [] ∧ State.reset.mem = [] ∧ State.reset.memOk

/-- For every state whose memory is in its canonical form (addresses strictly rising, no entry equal to what an unlisted address
reads as), a step that answers a next state keeps it so. (R40, R43, R49) -/
def Obligations.MemoryStaysCanonical : Prop :=
    ∀ (s t : State),
      s.memOk →
      step s = .next t →
      t.memOk

/-- BOOT_START stops the boot in BOOT with its cause when the chip is SCRAP, and with another when memory does not train; with the
clocks locked and memory trained and large enough it goes on, its findings in CLKSTAT and DDRSTAT, to RECOVERY, or to step 6
with every control core that is not fenced started, and a FIELD chip whose key store is empty goes to RECOVERY with the
always-on watchdog enabled; boot step 7 sets the set size, the place in the set, the seam mode, the roles and the twin from the
settings, and ends at step 7. ROLE_DECISION, when steps 10 and 11 are done and no side clashes, enters SERVICE, with ACT_OUT_N
asserted where the keys are not erased, or STANDBY where the twin is active. MODE_REQUEST moves between SERVICE and HOLDOVER
with DONE, and a transition that the modes do not have is refused with MODE_DENIED. The core watchdog, enabled and at zero: its
first expiry sets WDTSTAT.WARN and starts the count again, and a second with no valid kick in between performs a WDG reset. A
kick with the right value, and not inside the early window, starts both counts again and ends a warning; one with another value
sets BADKICK. The always-on watchdog's expiry deasserts ACT_OUT_N and performs a WDG reset with the AONWD cause. With waiting
work and no grant for DSTALL milliseconds, DISPATCH_STALL sets WDTSTAT.DSTALL, and nothing else changes. BOOT_START out of its
step changes nothing; with PFAIL_N asserted it stops with its cause, and without the locks it waits. ROLE_DECISION before steps
10 and 11 are done changes nothing, with a side that clashes it only sets SIDECLASH, and on a twin it enters SERVICE as the
active, or STANDBY where the other side wins. MODE_REQUEST also ends the boot: to COMMISSION, or as ROLE_DECISION does. A
watchdog that is not due changes nothing. (R66, R67, R68, R86, R87, R88, R90, R508, R510) -/
def Obligations.BootRolesWatchdogs : Prop :=
    (∀ (f : RomFacts) (s : State),
      s.mode = modeBoot →
      s.pwr.bootStep = 1 →
      s.pwr.pf = .idle →
      s.pwr.asleep = false →
      s.flag fTAPSTAT_HOLD = false →
      f.pfail = false →
      bits f.plls.toNat 0 5 = 31 →
      s.life = lifeScrap →
      ∃ t, exec (.bootStart (.rom f)) s = .next t ∧ t.mode = modeBoot ∧ t.fget fMODESTAT_BOOTSTOP = 1 ∧ t.pwr.bootStep = 2 ∧ t.ccs = s.ccs ∧ t.mem = s.mem) ∧
    (∀ (f : RomFacts) (s : State),
      s.mode = modeBoot →
      s.pwr.bootStep = 1 →
      s.pwr.pf = .idle →
      s.pwr.asleep = false →
      s.flag fTAPSTAT_HOLD = false →
      f.pfail = false →
      bits f.plls.toNat 0 5 = 31 →
      s.life ≠ lifeScrap →
      f.da.trained = false →
      ∃ t, exec (.bootStart (.rom f)) s = .next t ∧ t.mode = modeBoot ∧ t.fget fMODESTAT_BOOTSTOP = 2 ∧ t.pwr.bootStep = 4 ∧ t.ccs = s.ccs) ∧
    (∀ (f : RomFacts) (s : State),
      s.mode = modeBoot →
      s.pwr.bootStep = 1 →
      s.pwr.pf = .idle →
      s.pwr.asleep = false →
      s.flag fTAPSTAT_HOLD = false →
      f.pfail = false →
      bits f.plls.toNat 0 5 = 31 →
      s.life ≠ lifeScrap →
      f.da.trained = true →
      f.db.trained = true →
      f.dbFence = false →
      s.fenced 11 = false →
      4 ≤ f.da.gib.toNat →
      2 ≤ f.db.gib.toNat →
      ∃ t, exec (.bootStart (.rom f)) s = .next t ∧ t.flag fPFSTAT_PFAIL = false ∧ t.fget fCLKSTAT_LOCK = f.plls.toNat ∧ t.fget (fDDRSTAT_SIZE 0) = f.da.gib.toNat ∧ t.fget (fDDRSTAT_SIZE 1) = f.db.gib.toNat ∧ t.flag (fDDRSTAT_TRAINED 0) = true ∧
        ((t.mode = modeRecovery ∧ t.pwr.bootStep = 13) ∨
          (t.mode = modeBoot ∧ t.pwr.bootStep = 6 ∧ t.fget fMODESTAT_BOOTSTOP = 0 ∧ (∀ k, k < 4 → s.fenced k = false → (t.cc k).run = .run)))) ∧
    (∀ (f : RomFacts) (s : State),
      s.mode = modeBoot →
      s.pwr.bootStep = 1 →
      s.pwr.pf = .idle →
      s.pwr.asleep = false →
      s.flag fTAPSTAT_HOLD = false →
      f.pfail = false →
      bits f.plls.toNat 0 5 = 31 →
      s.life ≠ lifeScrap →
      f.da.trained = true →
      f.db.trained = true →
      f.dbFence = false →
      s.fenced 11 = false →
      4 ≤ f.da.gib.toNat →
      2 ≤ f.db.gib.toNat →
      s.life = lifeField →
      s.keysEmpty = true →
      ∃ t, exec (.bootStart (.rom f)) s = .next t ∧ t.flag fPFSTAT_PFAIL = false ∧ t.fget fCLKSTAT_LOCK = f.plls.toNat ∧ t.fget (fDDRSTAT_SIZE 0) = f.da.gib.toNat ∧ t.fget (fDDRSTAT_SIZE 1) = f.db.gib.toNat ∧ t.flag (fDDRSTAT_TRAINED 0) = true ∧ t.mode = modeRecovery ∧ t.pwr.bootStep = 13 ∧ t.flag fAONWDT_EN = true) ∧
    (∀ (f : Settings) (s : State),
      s.mode = modeBoot →
      s.pwr.bootStep = 6 →
      s.clocked = true →
      f.self.val ≤ f.nchips.val →
      ∃ t, exec (.bootStart (.settings f)) s = .next t ∧ t.pwr.bootStep = 7 ∧ t.fget fSEMCFG_NCHIPS = f.nchips.val + 1 ∧
        t.fget fSEMCFG_SELF = f.self.val ∧ t.flag fSYSSTAT_SEAM = decide (1 ≤ f.nchips.val) ∧ t.flag fSYSSTAT_ROLE_F = f.roleF ∧
        t.flag fSYSSTAT_ROLE_H = f.roleH ∧ t.flag fTWNCFG_EN = f.twin ∧ t.flag fTWNCFG_SIDE = f.side ∧ t.mode = modeBoot) ∧
    (∀ (s : State),
      s.clocked = true →
      s.roleReady = true →
      s.twinOn = false →
      s.flag fTMPSTAT_ERASED = false →
      ∃ t, exec (.roleDecision false) s = .next t ∧ t.mode = modeService ∧ t.pwr.bootStep = 13 ∧ t.flag fTWNSTAT_ACTOUT = true ∧ t.flag fLDGSTAT_REPLAY = false ∧ t.ccs = s.ccs ∧ t.queues = s.queues) ∧
    (∀ (clash : Bool) (s : State),
      s.clocked = true →
      s.roleReady = true →
      s.twinOn = true →
      s.sideClash = false →
      s.flag fTWNSTAT_ACTIN = true →
      ∃ t, exec (.roleDecision clash) s = .next t ∧ t.mode = modeStandby ∧ t.fget fTWNSTAT_ROLE = roleStandby ∧ t.pwr.bootStep = 13) ∧
    (∀ (a : Agent) (v : Word) (s : State),
      s.writes a rMODECTL = true →
      (s.mode = modeService ∧ v.toNat % 8 = modeHoldover) ∨ (s.mode = modeHoldover ∧ v.toNat % 8 = modeService) →
      exec (.modeRequest a v) s = .next ((s.fset fMODESTAT_MODE (v.toNat % 8)).say .done)) ∧
    (∀ (a : Agent) (v : Word) (s : State),
      s.writes a rMODECTL = true →
      s.mode = modeRecovery →
      exec (.modeRequest a v) s = .next (s.say .modeDenied)) ∧
    (∀ (s : State),
      s.clocked = true →
      s.flag fWDTCTL_EN = true →
      s.pwr.wdtDue ≤ s.time.raw →
      s.pwr.wdtOnce = false →
      exec .coreWdgFirstExpiry s = .next ((s.setFlag fWDTSTAT_WARN true).setPwr { s.pwr with wdtDue := s.time.raw + msRaw (s.fget fWDTCTL_TIMEOUT), wdtOnce := true })) ∧
    (∀ (s : State),
      s.clocked = true →
      s.flag fWDTCTL_EN = true →
      s.pwr.wdtDue ≤ s.time.raw →
      s.pwr.wdtOnce = true →
      ∃ t, exec .coreWdgSecondExpiry s = .next t ∧ s.cameUp t (s.resetKind 3) 8) ∧
    (∀ (a : Agent) (v : Word) (s : State),
      s.writes a rWDTKICK = true →
      v.toNat % 2 ^ 16 = 0x5AC3 →
      s.fget fWDTCTL_WINDOW * msRaw (s.fget fWDTCTL_TIMEOUT) ≤ 100 * (s.time.raw - s.pwr.lastKick) →
      exec (.wdtKick a v) s = .next ((s.setPwr { s.pwr with
          wdtDue := s.time.raw + msRaw (s.fget fWDTCTL_TIMEOUT), aonDue := s.time.raw + (s.fget fAONWDT_PERIOD + 1) * 31250000
          wdtOnce := false, lastKick := s.time.raw }).say .done)) ∧
    (∀ (a : Agent) (v : Word) (s : State),
      s.writes a rWDTKICK = true →
      v.toNat % 2 ^ 16 ≠ 0x5AC3 →
      s.pwr.wdtOnce = false →
      ∃ t, exec (.wdtKick a v) s = .next t ∧ t.flag fWDTSTAT_BADKICK = true ∧ t.flag fWDTSTAT_WARN = true ∧ t.pwr.wdtOnce = true) ∧
    (∀ (s : State),
      s.flag fAONWDT_EN = true →
      s.pwr.asleep = false →
      s.pwr.aonDue ≤ s.time.raw →
      ∃ t, exec .aonWdgExpiry s = .next t ∧ s.cameUp t (s.resetKind 3) 0x208 ∧ t.flag fTWNSTAT_ACTOUT = false ∧ t.pwr.aonDue = t.time.raw + (t.fget fAONWDT_PERIOD + 1) * 31250000) ∧
    (∀ (s : State),
      s.clocked = true →
      s.fget fDSTALL_LIMIT ≠ 0 →
      s.ldg.ready ≠ [] →
      max s.ldg.readyAt s.pwr.lastGrant + msRaw (s.fget fDSTALL_LIMIT) ≤ s.time.raw →
      exec .dispatchStall s = .next (s.setFlag fWDTSTAT_DSTALL true)) ∧
    (∀ (f : RomFacts) (s : State),
      (s.mode ≠ modeBoot ∨ s.pwr.bootStep ≠ 1 ∨ s.pwr.pf ≠ .idle ∨ s.pwr.asleep = true ∨ s.flag fTAPSTAT_HOLD = true) →
      exec (.bootStart (.rom f)) s = .next s) ∧
    (∀ (f : RomFacts) (s : State),
      s.mode = modeBoot →
      s.pwr.bootStep = 1 →
      s.pwr.pf = .idle →
      s.pwr.asleep = false →
      s.flag fTAPSTAT_HOLD = false →
      f.pfail = true →
      exec (.bootStart (.rom f)) s = .next ((s.setFlag fPFSTAT_PFAIL true).fset fMODESTAT_BOOTSTOP 4)) ∧
    (∀ (f : RomFacts) (s : State),
      s.mode = modeBoot →
      s.pwr.bootStep = 1 →
      s.pwr.pf = .idle →
      s.pwr.asleep = false →
      s.flag fTAPSTAT_HOLD = false →
      f.pfail = false →
      bits f.plls.toNat 0 5 ≠ 31 →
      exec (.bootStart (.rom f)) s = .next (s.setFlag fPFSTAT_PFAIL false)) ∧
    (∀ (f : RomFacts) (s u : State) (b : Bool),
      s.mode = modeBoot →
      s.pwr.bootStep = 1 →
      s.pwr.pf = .idle →
      s.pwr.asleep = false →
      s.flag fTAPSTAT_HOLD = false →
      f.pfail = false →
      bits f.plls.toNat 0 5 = 31 →
      ((s.setFlag fPFSTAT_PFAIL false).recMend.bootClocks f).bootMemory f = (u, b) →
      exec (.bootStart (.rom f)) s = .next (if b = true then u.bootImage else u)) ∧
    (∀ (s u : State),
      (s.life = lifeField → s.flag fAONWDT_EN = true) →
      u = s.setMrm { s.mrm with sealed := s.mrm.sealRec.isSome, sealRec := none } →
      (u.wantsRecovery = true → s.bootImage = u.bootEnd modeRecovery) ∧ (u.wantsRecovery = false → u.imageSelect.2 = none → s.bootImage = u.imageSelect.1.bootEnd modeRecovery)) ∧
    (∀ (s u : State),
      (s.life = lifeField → s.flag fAONWDT_EN = true) →
      u = s.setMrm { s.mrm with sealed := s.mrm.sealRec.isSome, sealRec := none } →
      u.wantsRecovery = false →
      ∀ n, u.imageSelect.2 = some n → (s.bootImage.pwr.imageBase = u.imageSelect.1.loadBase ∧ s.bootImage.pwr.bootStep = 6 ∧ s.bootImage.fget fMODESTAT_BOOTSTOP = 0 ∧
        s.bootImage.bytes u.imageSelect.1.loadBase (u.imageSelect.1.upd.pays.get noBytes n).length = u.imageSelect.1.upd.pays.get noBytes n ∧
        (∀ k : Fin 4, s.fenced k.val = false → (s.bootImage.cc k.val).run = .run))) ∧
    (∀ (f : Settings) (s : State),
      (s.mode ≠ modeBoot ∨ s.pwr.bootStep ≠ 6 ∨ s.clocked = false ∨ f.nchips.val < f.self.val) →
      exec (.bootStart (.settings f)) s = .next s) ∧
    (∀ (clash : Bool) (s : State),
      s.clocked = true →
      s.roleReady = false →
      exec (.roleDecision clash) s = .next s) ∧
    (∀ (clash : Bool) (s : State),
      s.clocked = true →
      s.roleReady = true →
      s.sideClash = true →
      exec (.roleDecision clash) s = .next (s.setFlag fTWNSTAT_SIDECLASH true)) ∧
    (∀ (clash : Bool) (s : State),
      s.clocked = true →
      s.roleReady = true →
      s.twinOn = true →
      s.sideClash = false →
      s.flag fTWNSTAT_ACTIN = false →
      (clash = false ∨ s.flag fTWNCFG_SIDE = false) →
      ∃ t, exec (.roleDecision clash) s = .next t ∧ t.mode = modeService ∧ t.fget fTWNSTAT_ROLE = roleActive ∧ t.pwr.bootStep = 13 ∧
        t.flag fTWNSTAT_ACTIN = clash ∧ (s.flag fTMPSTAT_ERASED = true → t.flag fTWNSTAT_ACTOUT = s.flag fTWNSTAT_ACTOUT) ∧ t.ccs = s.ccs) ∧
    (∀ (s : State),
      s.clocked = true →
      s.roleReady = true →
      s.twinOn = true →
      s.sideClash = false →
      s.flag fTWNSTAT_ACTIN = false →
      s.flag fTWNCFG_SIDE = true →
      ∃ t, exec (.roleDecision true) s = .next t ∧ t.mode = modeStandby ∧ t.fget fTWNSTAT_ROLE = roleStandby ∧ t.pwr.bootStep = 13 ∧ t.flag fTWNSTAT_ACTIN = true) ∧
    (∀ (s : State),
      s.clocked = true →
      s.roleReady = true →
      s.twinOn = false →
      s.flag fTMPSTAT_ERASED = true →
      ∃ t, exec (.roleDecision false) s = .next t ∧ t.mode = modeService ∧ t.pwr.bootStep = 13 ∧ t.flag fTWNSTAT_ACTOUT = s.flag fTWNSTAT_ACTOUT) ∧
    (∀ (a : Agent) (v : Word) (s : State),
      s.writes a rMODECTL = true →
      s.mode = modeBoot →
      v.toNat % 8 = modeCommission →
      7 ≤ s.pwr.bootStep →
      (s.life = lifeBlank ∨ s.life = lifeProvisioned ∨ s.life = lifeDepot) →
      exec (.modeRequest a v) s = .next ((s.bootEnd modeCommission).say .done)) ∧
    (∀ (a : Agent) (v : Word) (s : State),
      s.writes a rMODECTL = true →
      s.mode = modeBoot →
      v.toNat % 8 = modeCommission →
      (s.pwr.bootStep < 7 ∨ s.life = lifeField ∨ s.life = lifeScrap) →
      exec (.modeRequest a v) s = .next (s.say .modeDenied)) ∧
    (∀ (a : Agent) (v : Word) (s : State) (m : Nat),
      s.writes a rMODECTL = true →
      s.roleReady = true →
      s.sideClash = false →
      m = (if s.roleIsStandby false = true then modeStandby else modeService) →
      v.toNat % 8 = m →
      exec (.modeRequest a v) s = .next ((s.roleDecide false).say .done)) ∧
    (∀ (a : Agent) (v : Word) (s : State),
      s.writes a rMODECTL = true →
      s.mode = modeBoot →
      v.toNat % 8 ≠ modeCommission →
      (s.roleReady = false ∨ s.sideClash = true ∨ v.toNat % 8 ≠ (if s.roleIsStandby false = true then modeStandby else modeService)) →
      exec (.modeRequest a v) s = .next (s.say .modeDenied)) ∧
    (∀ (a : Agent) (v : Word) (s : State),
      s.writes a rMODECTL = true →
      s.mode ≠ modeBoot →
      (s.mode ≠ modeService ∨ v.toNat % 8 ≠ modeHoldover) →
      (s.mode ≠ modeHoldover ∨ v.toNat % 8 ≠ modeService) →
      exec (.modeRequest a v) s = .next (s.say .modeDenied)) ∧
    (∀ (s : State),
      s.clocked = true →
      (s.flag fWDTCTL_EN = false ∨ s.time.raw < s.pwr.wdtDue ∨ s.pwr.wdtOnce = true) →
      exec .coreWdgFirstExpiry s = .next s) ∧
    (∀ (s : State),
      s.clocked = true →
      (s.flag fWDTCTL_EN = false ∨ s.time.raw < s.pwr.wdtDue ∨ s.pwr.wdtOnce = false) →
      exec .coreWdgSecondExpiry s = .next s) ∧
    (∀ (a : Agent) (v : Word) (s : State),
      s.writes a rWDTKICK = true →
      v.toNat % 2 ^ 16 = 0x5AC3 →
      100 * (s.time.raw - s.pwr.lastKick) < s.fget fWDTCTL_WINDOW * msRaw (s.fget fWDTCTL_TIMEOUT) →
      s.pwr.wdtOnce = false →
      ∃ t, exec (.wdtKick a v) s = .next t ∧ t.flag fWDTSTAT_EARLY = true ∧ t.flag fWDTSTAT_WARN = true ∧ t.pwr = { s.pwr with wdtOnce := true, wdtDue := s.time.raw + msRaw (s.fget fWDTCTL_TIMEOUT) } ∧ t.answer = ⟨.done, 0⟩ ∧ t = { s with csr := t.csr, pwr := t.pwr, answer := t.answer }) ∧
    (∀ (a : Agent) (v : Word) (s : State),
      s.writes a rWDTKICK = true →
      v.toNat % 2 ^ 16 = 0x5AC3 →
      100 * (s.time.raw - s.pwr.lastKick) < s.fget fWDTCTL_WINDOW * msRaw (s.fget fWDTCTL_TIMEOUT) →
      s.pwr.wdtOnce = true →
      ∃ t, exec (.wdtKick a v) s = .next t ∧ s.cameUp t (s.resetKind 3) 8) ∧
    (∀ (a : Agent) (v : Word) (s : State),
      s.writes a rWDTKICK = true →
      v.toNat % 2 ^ 16 ≠ 0x5AC3 →
      s.pwr.wdtOnce = true →
      ∃ t, exec (.wdtKick a v) s = .next t ∧ s.cameUp t (s.resetKind 3) 8) ∧
    (∀ (s : State),
      (s.flag fAONWDT_EN = false ∨ s.pwr.asleep = true ∨ s.time.raw < s.pwr.aonDue) →
      exec .aonWdgExpiry s = .next s) ∧
    (∀ (s : State),
      s.clocked = true →
      (s.fget fDSTALL_LIMIT = 0 ∨ s.ldg.ready = [] ∨ s.time.raw < max s.ldg.readyAt s.pwr.lastGrant + msRaw (s.fget fDSTALL_LIMIT)) →
      exec .dispatchStall s = .next s)

/-- PFAIL_SEQUENCE sets PFSTAT.PFAIL. In a clocked chip with no sequence in progress it begins one: ingest and the transmitters
close and the raw count of its begin is kept; once begun, the next one halts the chip: ACT_OUT_N deasserted, the ring sealed
(last ISN, head, tail), LASTUS the µs since its begin, at most 60. Neither part changes the cores, queues, lock cells, keys or a
byte outside the recorder and the neighbour table; in a halted or unclocked chip only PFAIL is set. PFAIL_RECOVERY_BOR of a
halted chip clears PFAIL and performs a BOR with the PFAIL cause; of any other it changes nothing. LPCTL_QUIET in SERVICE,
HOLDOVER or STANDBY, no sequence in progress, enters Quiet and changes no byte outside the lint trap; else MODE_DENIED.
LPCTL_RUN leaves Quiet, or changes nothing but the answer. LPCTL_SLEEP in Quiet, in service, alone in its set and without a twin
(else MODE_DENIED), with nothing busy (else LP_BUSY) and its save area in DA (else BAD_ADDRESS), saves the SRAM there, changes
no other byte, records the digest and stops the core domain. SLEEP_WAKE that nothing cuts short, by the timer or by PFAIL_N
deasserted where LPCTL enables it, carries the raw count over by the ticks slept: with the digest right, the image sound and no
alarm pending it resumes in Quiet, otherwise it performs a BOR; cut short by PFAIL_N it ends in the halt. In a chip not asleep
or held by the test port it changes nothing; a wake source that is not enabled wakes nothing, PFAIL_N deasserted then only
clears PFAIL. (R70, R71, R72, R74, R75, R77, R78, R80, R81, R82, R83, R84) -/
def Obligations.PowerAndSleep : Prop :=
    (∀ (s : State),
      s.clocked = true →
      s.pwr.pf = .idle →
      ∃ t, exec .pfailSequence s = .next t ∧ t.pwr.pf = .closing s.time.raw ∧ t.flag fPFSTAT_PFAIL = true ∧ t.ingestOpen = false ∧
        t.txEnabled = false ∧ t.mayEmit = false ∧ t.ccs = s.ccs ∧ t.lcs = s.lcs ∧ t.queues = s.queues ∧ t.locks = s.locks ∧ t.key = s.key ∧
        (∀ x, (x < evrAddr 0 ∨ evrAddr 8192 ≤ x) → (x < nbtAddr 0 ∨ nbtAddr 65536 ≤ x) → t.byte x = s.byte x)) ∧
    (∀ (s : State) (t0 : Nat),
      s.pwr.pf = .closing t0 →
      ∃ t, exec .pfailSequence s = .next t ∧ t.pwr.pf = .halted ∧ t.flag fPFSTAT_PFAIL = true ∧ t.fget fPFSTAT_LASTUS = min ((s.time.raw - t0) / 1000) 60 ∧
        t.flag fTWNSTAT_ACTOUT = false ∧ t.mrm.sealRec = some ⟨s.lastIsn, s.fget fMRMHEAD_OFFSET, s.fget fMRMTAIL_OFFSET⟩ ∧ t.clocked = false ∧
        t.ccs = s.ccs ∧ t.lcs = s.lcs ∧ t.queues = s.queues ∧ t.locks = s.locks ∧ t.key = s.key ∧
        (∀ x, (x < evrAddr 0 ∨ evrAddr 8192 ≤ x) → (x < nbtAddr 0 ∨ nbtAddr 65536 ≤ x) → t.byte x = s.byte x)) ∧
    (∀ (s : State),
      s.pwr.pf = .halted ∨ (s.pwr.pf = .idle ∧ s.clocked = false) →
      exec .pfailSequence s = .next (s.setFlag fPFSTAT_PFAIL true)) ∧
    (∀ (s : State),
      s.pwr.pf = .halted →
      ∃ t, exec .pfailRecoveryBor s = .next t ∧ s.cameUp t (s.resetKind 1) 0x102 ∧ t.flag fPFSTAT_PFAIL = false ∧ t.pwr.pf = .idle) ∧
    (∀ (s : State),
      s.pwr.pf ≠ .halted →
      exec .pfailRecoveryBor s = .next s) ∧
    (∀ (a : Agent) (s : State),
      s.writes a rLPCTL = true →
      s.pwr.pf = .idle →
      s.mode = modeService ∨ s.mode = modeHoldover ∨ s.mode = modeStandby →
      ∃ t, exec (.lpctlQuiet a) s = .next t ∧ t.fget fMODESTAT_LPS = 1 ∧ t.answer.status = .done ∧ t.mode = s.mode ∧
        (∀ x, x < sramBase + 0x1C40000 ∨ sramBase + 0x1D40000 ≤ x → t.byte x = s.byte x)) ∧
    (∀ (a : Agent) (s : State),
      s.writes a rLPCTL = true →
      s.quiet = true →
      ∃ t, exec (.lpctlRun a) s = .next t ∧ t.fget fMODESTAT_LPS = 0 ∧ t.answer.status = .done ∧ t.mode = s.mode ∧ t.mem = s.mem) ∧
    (∀ (a : Agent) (s : State),
      s.writes a rLPCTL = true →
      s.fget fSEMCFG_NCHIPS = 1 →
      s.twinOn = false →
      s.quiet = true →
      s.serving = true →
      s.pwr.pf = .idle →
      s.lpBusy = false →
      s.inDa s.saveBase 0x2000000 = true →
      ∃ t, exec (.lpctlSleep a) s = .next t ∧ t.pwr.asleep = true ∧ t.clocked = false ∧ t.pwr.saveDigest = sha3_256 (s.bytes sramBase 0x2000000) ∧
        t.time.sleepRaw = s.time.raw ∧ t.flag fSLPSAVE_SAVED = true ∧ t.fget fMODESTAT_LPS = 2 ∧ t.answer.status = .done ∧
        (∀ i, i < 0x2000000 → t.byte (s.saveBase + i) = s.byte (sramBase + i)) ∧
        (∀ x, x < s.saveBase ∨ s.saveBase + 0x2000000 ≤ x → t.byte x = s.byte x)) ∧
    (∀ (s : State),
      s.pwr.asleep = true →
      s.flag fTAPSTAT_HOLD = false →
      s.flag fLPCTL_WAKE_TMR = true →
      s.fget fWAKETMR_TICKS ≠ 0 →
      sha3_256 (s.bytes s.saveBase 0x2000000) = s.pwr.saveDigest →
      s.imageSound = true →
      s.flag fTMPSTAT_PEND = false →
      ∃ t, exec (.sleepWake (.timer false)) s = .next t ∧ t.pwr.asleep = false ∧ t.fget fMODESTAT_LPS = 1 ∧ t.mode = s.mode ∧ t.time.raw = s.time.sleepRaw + tickRaw (s.fget fWAKETMR_TICKS) ∧ t.flag fTIMSTAT_COARSE = true ∧ t.flag fSLPSAVE_SAVED = false) ∧
    (∀ (n : Nat) (s : State),
      s.pwr.asleep = true →
      s.flag fTAPSTAT_HOLD = false →
      s.flag fPFSTAT_PFAIL = true →
      s.flag fLPCTL_WAKE_PF = true →
      sha3_256 (s.bytes s.saveBase 0x2000000) = s.pwr.saveDigest →
      s.imageSound = true →
      s.flag fTMPSTAT_PEND = false →
      ∃ t, exec (.sleepWake (.pfail n false)) s = .next t ∧ t.pwr.asleep = false ∧ t.fget fMODESTAT_LPS = 1 ∧ t.mode = s.mode ∧ t.time.raw = s.time.sleepRaw + tickRaw n ∧ t.flag fTIMSTAT_COARSE = true ∧ t.flag fSLPSAVE_SAVED = false ∧ t.flag fPFSTAT_PFAIL = false) ∧
    (∀ (s : State),
      s.pwr.asleep = true →
      s.flag fTAPSTAT_HOLD = false →
      s.flag fLPCTL_WAKE_TMR = true →
      s.fget fWAKETMR_TICKS ≠ 0 →
      sha3_256 (s.bytes s.saveBase 0x2000000) ≠ s.pwr.saveDigest ∨ s.imageSound = false ∨ s.flag fTMPSTAT_PEND = true →
      ∃ t, exec (.sleepWake (.timer false)) s = .next t ∧ s.cameUp t (s.resetKind 1) 2 ∧ t.time.raw = s.time.sleepRaw + tickRaw (s.fget fWAKETMR_TICKS)) ∧
    (∀ (n : Nat) (s : State),
      s.pwr.asleep = true →
      s.flag fTAPSTAT_HOLD = false →
      s.flag fPFSTAT_PFAIL = true →
      s.flag fLPCTL_WAKE_PF = true →
      sha3_256 (s.bytes s.saveBase 0x2000000) ≠ s.pwr.saveDigest ∨ s.imageSound = false ∨ s.flag fTMPSTAT_PEND = true →
      ∃ t, exec (.sleepWake (.pfail n false)) s = .next t ∧ s.cameUp t (s.resetKind 1) 2 ∧ t.time.raw = s.time.sleepRaw + tickRaw n) ∧
    (∀ (s : State),
      s.pwr.asleep = true →
      s.flag fTAPSTAT_HOLD = false →
      s.flag fLPCTL_WAKE_TMR = true →
      s.fget fWAKETMR_TICKS ≠ 0 →
      ∃ t, exec (.sleepWake (.timer true)) s = .next t ∧ t.pwr.pf = .halted ∧ t.pwr.asleep = false ∧ t.flag fPFSTAT_PFAIL = true ∧ t.fget fPFSTAT_LASTUS ≤ 60) ∧
    (∀ (n : Nat) (s : State),
      s.pwr.asleep = true →
      s.flag fTAPSTAT_HOLD = false →
      s.flag fPFSTAT_PFAIL = true →
      s.flag fLPCTL_WAKE_PF = true →
      ∃ t, exec (.sleepWake (.pfail n true)) s = .next t ∧ t.pwr.pf = .halted ∧ t.pwr.asleep = false ∧ t.flag fPFSTAT_PFAIL = true ∧ t.fget fPFSTAT_LASTUS ≤ 60) ∧
    (∀ (a : Agent) (s : State),
      s.writes a rLPCTL = true →
      s.pwr.pf ≠ .idle ∨ (s.mode ≠ modeService ∧ s.mode ≠ modeHoldover ∧ s.mode ≠ modeStandby) →
      exec (.lpctlQuiet a) s = .next (s.say .modeDenied)) ∧
    (∀ (a : Agent) (s : State),
      s.writes a rLPCTL = true →
      s.quiet = false →
      ∃ t, exec (.lpctlRun a) s = .next t ∧ t.answer = ⟨.done, 0⟩ ∧ t.mode = s.mode ∧ t.quiet = false ∧ t.mem = s.mem ∧ t.rf = s.rf ∧ t.queues = s.queues) ∧
    (∀ (a : Agent) (s : State),
      s.writes a rLPCTL = true →
      s.fget fSEMCFG_NCHIPS ≠ 1 ∨ s.twinOn = true ∨ s.quiet = false ∨ s.serving = false ∨ s.pwr.pf ≠ .idle →
      exec (.lpctlSleep a) s = .next (s.say .modeDenied)) ∧
    (∀ (a : Agent) (s : State),
      s.writes a rLPCTL = true →
      s.fget fSEMCFG_NCHIPS = 1 →
      s.twinOn = false →
      s.quiet = true →
      s.serving = true →
      s.pwr.pf = .idle →
      s.lpBusy = true →
      exec (.lpctlSleep a) s = .next (s.say .lpBusy)) ∧
    (∀ (a : Agent) (s : State),
      s.writes a rLPCTL = true →
      s.fget fSEMCFG_NCHIPS = 1 →
      s.twinOn = false →
      s.quiet = true →
      s.serving = true →
      s.pwr.pf = .idle →
      s.lpBusy = false →
      s.inDa s.saveBase 0x2000000 = false →
      exec (.lpctlSleep a) s = .next (s.say .badAddress)) ∧
    (∀ (w : Wake) (s : State),
      s.pwr.asleep = false ∨ s.flag fTAPSTAT_HOLD = true →
      exec (.sleepWake w) s = .next s) ∧
    (∀ (cut : Bool) (s : State),
      s.pwr.asleep = true →
      s.flag fLPCTL_WAKE_TMR = false ∨ s.fget fWAKETMR_TICKS = 0 →
      exec (.sleepWake (.timer cut)) s = .next s) ∧
    (∀ (n : Nat) (cut : Bool) (s : State),
      s.pwr.asleep = true →
      s.flag fTAPSTAT_HOLD = false →
      s.flag fPFSTAT_PFAIL = false ∨ s.flag fLPCTL_WAKE_PF = false →
      exec (.sleepWake (.pfail n cut)) s = .next (s.setFlag fPFSTAT_PFAIL false))

/-- A write of TIMINCR within 549,755,813 of 2^40 rebases chip time, which goes on from its present value, and puts the increment in
force; beyond, it is refused with BAD_ARGUMENT. The first write of TIMSET makes chip time the value written and sets VALID and
EVER. A later TIMSET, and a TIMSTEP, within the step budget and 2 s, moves chip time by the step, takes it from the budget, sets
VALID and clears COARSE; beyond either it is refused with STEP_DENIED, as is TIMSTEP before the first TIMSET. TIME_INVALIDATE
clears VALID and leaves chip time as it is. A step records its event and moves the radio's superframe with chip time, so that
the recorder and nothing else but the time base and the radio's times changes. Each of the three writes takes the register
whole, so that its staging copy is gone. SIGNED_STEP with its record inside the fitted DA and free of poison gives
TIMSTEPREC.STATUS the result of the checks, in their order; when they all pass, the record's SEQ becomes TIMSTEPSEQ and chip
time moves by its STEP, without regard to the budget; otherwise chip time, TIMSTEPSEQ and the budget are as they were. A record
outside DA gives BAD_ADDRESS (the model's choice, notes/assumptions/29.md). A poisoned record in DA gives POISONED, and nothing
of the time base changes. In the last two cases nothing but STATUS and the counts of a read changes. (R485, R487, R488, R489,
R490, R491, R492, R493, R494) -/
def Obligations.ChipTimeAndSteps : Prop :=
    (∀ (a : Agent) (v : DWord) (s : State),
      s.writes a rTIMINCR = true →
      2 ^ 40 - 549755813 ≤ v.toNat →
      v.toNat ≤ 2 ^ 40 + 549755813 →
      ∃ t, exec (.timincrWrite a v) s = .next t ∧ t.chip = s.chip ∧ t.reg rTIMINCR = v.toNat ∧ t.answer.status = .done ∧
        t.time = { s.time with offset := s.chip, anchor := s.time.raw } ∧ t.mem = s.mem) ∧
    (∀ (a : Agent) (v : DWord) (s : State),
      s.writes a rTIMINCR = true →
      v.toNat < 2 ^ 40 - 549755813 ∨ 2 ^ 40 + 549755813 < v.toNat →
      exec (.timincrWrite a v) s = .next ((s.dropStage rTIMINCR).say .badArgument)) ∧
    (∀ (a : Agent) (v : DWord) (s : State),
      s.writes a rTIMSET = true →
      s.flag fTIMSTAT_EVER = false →
      ∃ t, exec (.timsetWrite a v) s = .next t ∧ t.chip = v.toNat ∧ t.timeValid = true ∧ t.flag fTIMSTAT_EVER = true ∧
        t.flag fTIMSTAT_COARSE = false ∧ t.answer.status = .done ∧ t.evr = s.evr ∧ t.mem = s.mem) ∧
    (∀ (a : Agent) (v : DWord) (s : State),
      s.writes a rTIMSET = true →
      s.flag fTIMSTAT_EVER = true →
      ((v.toNat : Int) - s.chip).natAbs ≤ 2000000000 →
      ((v.toNat : Int) - s.chip).natAbs ≤ s.budget →
      ∃ t, exec (.timsetWrite a v) s = .next t ∧ t.chip = v.toNat ∧ t.timeValid = true ∧ t.flag fTIMSTAT_COARSE = false ∧
        t.budget = s.budget - ((v.toNat : Int) - s.chip).natAbs ∧ t.answer.status = .done ∧ t.time.raw = s.time.raw ∧ t.time.anchor = s.time.anchor ∧
        (∀ b, b / 0x10000 ≠ 0x45 → b ≠ rTIMSTAT → b ≠ rTIMBUDGET → t.reg b = s.reg b) ∧
        (∀ x, x < evrAddr 0 ∨ evrAddr 8192 ≤ x → t.byte x = s.byte x)) ∧
    (∀ (a : Agent) (v : DWord) (s : State),
      s.writes a rTIMSTEP = true →
      s.flag fTIMSTAT_EVER = true →
      v.toInt.natAbs ≤ 2000000000 →
      v.toInt.natAbs ≤ s.budget →
      ∃ t, exec (.timstepWrite a v) s = .next t ∧ t.chip = cut 64 (s.chip + v.toInt) ∧ t.timeValid = true ∧ t.flag fTIMSTAT_COARSE = false ∧
        t.budget = s.budget - (v.toInt).natAbs ∧ t.answer.status = .done ∧ t.time.raw = s.time.raw ∧ t.time.anchor = s.time.anchor ∧
        (∀ b, b / 0x10000 ≠ 0x45 → b ≠ rTIMSTAT → b ≠ rTIMBUDGET → t.reg b = s.reg b) ∧
        (∀ x, x < evrAddr 0 ∨ evrAddr 8192 ≤ x → t.byte x = s.byte x)) ∧
    (∀ (a : Agent) (v : DWord) (s : State),
      s.writes a rTIMSET = true →
      s.flag fTIMSTAT_EVER = true →
      2000000000 < ((v.toNat : Int) - s.chip).natAbs ∨ s.budget < ((v.toNat : Int) - s.chip).natAbs →
      exec (.timsetWrite a v) s = .next ((s.dropStage rTIMSET).say .stepDenied)) ∧
    (∀ (a : Agent) (v : DWord) (s : State),
      s.writes a rTIMSTEP = true →
      s.flag fTIMSTAT_EVER = false ∨ 2000000000 < v.toInt.natAbs ∨ s.budget < v.toInt.natAbs →
      exec (.timstepWrite a v) s = .next ((s.dropStage rTIMSTEP).say .stepDenied)) ∧
    (∀ (a : Agent) (s : State),
      s.writes a rTIMCFG = true →
      ∃ t, exec (.timeInvalidate a) s = .next t ∧ t.timeValid = false ∧ t.ppsOut = false ∧ t.chip = s.chip ∧ t.answer.status = .done ∧
        t.fget fTIMCFG_PRESS_TRIG = s.fget fTIMCFG_PRESS_TRIG ∧ t.time = { s.time with ppsUntil := 0 } ∧
        (∀ b, b ≠ rTIMSTAT → b ≠ rTIMCFG → t.reg b = s.reg b) ∧ t.mem = s.mem) ∧
    (∀ (a : Agent) (slot : BitVec 12) (s : State) (st : Status),
      s.writes a rTIMSTEPREC = true →
      s.inDa (s.fget fTIMSTEPADDR_ADDR) (48 + sigBytes) = true →
      s.poisonedIn (s.fget fTIMSTEPADDR_ADDR) (48 + sigBytes) = false →
      st = (s.fset fTIMSTEPREC_SLOT slot.toNat).stepCheck (s.bytes (s.fget fTIMSTEPADDR_ADDR) (48 + sigBytes)) →
      ∃ t, exec (.signedStep a slot) s = .next t ∧ t.fget fTIMSTEPREC_STATUS = st.code ∧ t.answer.status = .done ∧
        t.reg rTIMSTEPSEQ = (if st = .done then le (s.bytes (s.fget fTIMSTEPADDR_ADDR) (48 + sigBytes)) 16 8 else s.reg rTIMSTEPSEQ) ∧
        t.chip = (if st = .done then cut 64 (s.chip + sx (le (s.bytes (s.fget fTIMSTEPADDR_ADDR) (48 + sigBytes)) 24 8) 64) else s.chip) ∧ t.budget = s.budget) ∧
    (∀ (a : Agent) (slot : BitVec 12) (s : State),
      s.writes a rTIMSTEPREC = true →
      s.inDa (s.fget fTIMSTEPADDR_ADDR) (48 + sigBytes) = false →
      ∃ t, exec (.signedStep a slot) s = .next t ∧ t.fget fTIMSTEPREC_STATUS = Status.badAddress.code ∧ t.time = s.time ∧ t.reg rTIMSTEPSEQ = s.reg rTIMSTEPSEQ ∧ t.mem = s.mem) ∧
    (∀ (a : Agent) (slot : BitVec 12) (s : State),
      s.writes a rTIMSTEPREC = true →
      s.inDa (s.fget fTIMSTEPADDR_ADDR) (48 + sigBytes) = true →
      s.poisonedIn (s.fget fTIMSTEPADDR_ADDR) (48 + sigBytes) = true →
      ∃ t, exec (.signedStep a slot) s = .next t ∧ t.fget fTIMSTEPREC_STATUS = Status.poisoned.code ∧ t.answer.status = .done ∧ t.reg rTIMSTEPSEQ = s.reg rTIMSTEPSEQ ∧
        t = { s with csr := t.csr, csrStage := t.csrStage, soft := t.soft, answer := t.answer }) ∧
    (∀ (a : Agent) (slot : BitVec 12) (s : State),
      s.writes a rTIMSTEPREC = true →
      s.inDa (s.fget fTIMSTEPADDR_ADDR) (48 + sigBytes) = false →
      ∃ t, exec (.signedStep a slot) s = .next t ∧ t.answer.status = .done ∧ t = { s with csr := t.csr, csrStage := t.csrStage, soft := t.soft, answer := t.answer })

/-- TXTS_POP takes the oldest entry of the port's queue, answers the first word of it with VALID 1 and keeps the rest to be read; on
an empty queue it answers 0 and leaves zeros to be read (the model's choice, notes/assumptions/57.md). No other queue changes.
TRIGGER_FIRE of an enabled trigger whose START has been reached tells every consumer that names it; a one-shot trigger is then
disabled, and a periodic one moves START past now by whole periods and counts the periods it skipped. A trigger that is
disabled, or runs on chip time while that is not valid, does not fire. PPS_OUT_PULSE at a whole second raises PPS_OUT for the
width set. PPS_IN_CAPTURE of a pulse of at least 100 ns captures chip time and the raw count, and sets OVR when the last capture
was not read. REFCLK_LOSS stops the core domain and clears the lock bits of the core PLLs, and that of the TIME PLL when it runs
from REFCLK. TIMECLK_LOSS moves the TIME PLL to REFCLK and sets TLOSS, INCR unchanged. SREFCLK_LOSS takes every EN and DL link
down and sets SLOSS. XTAL_LOSS sets XLOSS and moves the always-on domain to its oscillator. TRETURN returns the TIME PLL to a
TIMECLK that is fit, and is refused with BAD_ARGUMENT for one that is not. TEMP_HOT gives CLKTEMP its reading and sets HOT from
110 °C on. Before its START a trigger does not fire. Without valid time, disabled or within a second no PPS pulse starts, and a
pulse on the input shorter than 100 ns is none. A read of TXTS by the port where it may not is refused with DEBUG_LOCKED. (R499,
R500, R501, R503, R504, R505, R658, R680) -/
def Obligations.ReadingTheWorld : Prop :=
    (∀ (a : Agent) (q : Fin 20) (s : State) (e : TxStamp) (es : List TxStamp),
      s.clocked = true →
      a ≠ .port ∨ s.portMay (rTIMTXTS q.val) = true →
      (s.time.txq.get txqReset q.val).entries = e :: es →
      e.fid < 2 ^ 16 →
      ∃ t, exec (.txtsPop a q) s = .next t ∧ (t.time.txq.get txqReset q.val).entries = es ∧
        t.answer = ⟨.done, e.fid + 2 ^ 16 + 2 ^ 17 * b2n e.gap⟩ ∧
        bits (lookupD 0 (rTIMTXTS q.val) t.csrSnap) 32 64 = e.chip % 2 ^ 64 ∧
        (∀ p, p ≠ q.val → t.time.txq.get txqReset p = s.time.txq.get txqReset p)) ∧
    (∀ (a : Agent) (q : Fin 20) (s : State),
      s.clocked = true →
      a ≠ .port ∨ s.portMay (rTIMTXTS q.val) = true →
      (s.time.txq.get txqReset q.val).entries = [] →
      ∃ t, exec (.txtsPop a q) s = .next t ∧ (t.time.txq.get txqReset q.val).entries = [] ∧ t.answer = ⟨.done, 0⟩ ∧ lookupD 1 (rTIMTXTS q.val) t.csrSnap = 0 ∧
        (∀ p, p ≠ q.val → t.time.txq.get txqReset p = s.time.txq.get txqReset p)) ∧
    (∀ (n : Fin 8) (s : State),
      s.clocked = true →
      s.flag (fTIMTRIGCTL_EN n.val) = true →
      s.flag (fTIMTRIGCTL_MODE n.val) = false →
      s.fget (fTIMTRIGSTART_VALUE n.val) ≤ s.time.raw →
      s.fget (fTIMTRIGPER_VALUE n.val) = 0 →
      ∃ t, exec (.triggerFire n) s = .next t ∧ t.flag (fTIMTRIGCTL_EN n.val) = false ∧ t.time.fired = s.time.fired ||| s.consumers n.val ∧
        t.time.fireRaw.get trigZero n.val = s.time.raw ∧ t.fget (fTIMTRIGSTART_VALUE n.val) = s.fget (fTIMTRIGSTART_VALUE n.val) ∧ t.mem = s.mem) ∧
    (∀ (n : Fin 8) (s : State) (m : Nat),
      s.clocked = true →
      s.flag (fTIMTRIGCTL_EN n.val) = true →
      s.flag (fTIMTRIGCTL_MODE n.val) = false →
      s.fget (fTIMTRIGSTART_VALUE n.val) ≤ s.time.raw →
      s.fget (fTIMTRIGPER_VALUE n.val) ≠ 0 →
      m = (s.time.raw - s.fget (fTIMTRIGSTART_VALUE n.val)) / s.fget (fTIMTRIGPER_VALUE n.val) →
      s.time.raw + s.fget (fTIMTRIGPER_VALUE n.val) < 2 ^ 64 →
      ∃ t, exec (.triggerFire n) s = .next t ∧ t.flag (fTIMTRIGCTL_EN n.val) = true ∧ t.time.fired = s.time.fired ||| s.consumers n.val ∧
        t.fget (fTIMTRIGSTART_VALUE n.val) = s.fget (fTIMTRIGSTART_VALUE n.val) + (m + 1) * s.fget (fTIMTRIGPER_VALUE n.val) ∧
        s.time.raw < t.fget (fTIMTRIGSTART_VALUE n.val) ∧ t.fget (fTIMTRIGCTL_SKIP n.val) = satAdd 16 (s.fget (fTIMTRIGCTL_SKIP n.val)) m) ∧
    (∀ (n : Fin 8) (s : State),
      s.clocked = true →
      s.flag (fTIMTRIGCTL_EN n.val) = true →
      s.flag (fTIMTRIGCTL_MODE n.val) = true →
      s.timeValid = true →
      s.fget (fTIMTRIGSTART_VALUE n.val) ≤ s.chip →
      s.fget (fTIMTRIGPER_VALUE n.val) = 0 →
      ∃ t, exec (.triggerFire n) s = .next t ∧ t.flag (fTIMTRIGCTL_EN n.val) = false ∧ t.time.fired = s.time.fired ||| s.consumers n.val ∧
        t.time.fireChip.get trigZero n.val = s.chip) ∧
    (∀ (n : Fin 8) (s : State) (m : Nat),
      s.clocked = true →
      s.flag (fTIMTRIGCTL_EN n.val) = true →
      s.flag (fTIMTRIGCTL_MODE n.val) = true →
      s.timeValid = true →
      s.fget (fTIMTRIGSTART_VALUE n.val) ≤ s.chip →
      s.fget (fTIMTRIGPER_VALUE n.val) ≠ 0 →
      m = (s.chip - s.fget (fTIMTRIGSTART_VALUE n.val)) / s.fget (fTIMTRIGPER_VALUE n.val) →
      s.chip + s.fget (fTIMTRIGPER_VALUE n.val) < 2 ^ 64 →
      ∃ t, exec (.triggerFire n) s = .next t ∧ t.flag (fTIMTRIGCTL_EN n.val) = true ∧ t.time.fired = s.time.fired ||| s.consumers n.val ∧
        t.time.fireChip.get trigZero n.val = s.chip ∧
        t.fget (fTIMTRIGSTART_VALUE n.val) = s.fget (fTIMTRIGSTART_VALUE n.val) + (m + 1) * s.fget (fTIMTRIGPER_VALUE n.val) ∧
        s.chip < t.fget (fTIMTRIGSTART_VALUE n.val) ∧ t.fget (fTIMTRIGCTL_SKIP n.val) = satAdd 16 (s.fget (fTIMTRIGCTL_SKIP n.val)) m) ∧
    (∀ (n : Fin 8) (s : State),
      s.clocked = true →
      s.flag (fTIMTRIGCTL_EN n.val) = false ∨ (s.flag (fTIMTRIGCTL_MODE n.val) = true ∧ s.timeValid = false) →
      exec (.triggerFire n) s = .next s) ∧
    (∀ (s : State),
      s.clocked = true →
      s.timeValid = true →
      s.flag fTIMPPSO_EN = true →
      s.chip % 1000000000 = 0 →
      exec .ppsOutPulse s = .next (s.setTime { s.time with
          ppsUntil := s.time.raw + msRaw (s.fget fTIMPPSO_WIDTH) })) ∧
    (∀ (ns : Nat) (s : State),
      s.clocked = true →
      100 ≤ ns →
      ∃ t, exec (.ppsInCapture ns) s = .next t ∧ t.fget fTIMPPSIN_CHIP = s.chip ∧ t.fget fTIMPPSIN_RAW = s.time.raw % 2 ^ 63 ∧
        t.flag fTIMPPSIN_OVR = (s.time.ppsUnread || s.flag fTIMPPSIN_OVR) ∧ t.time.ppsUnread = true ∧ t.mem = s.mem) ∧
    (∀ (s : State),
      ∃ t, exec .refclkLoss s = .next t ∧ t.clocked = false ∧ t.clk = { s.clk with refLost := some s.time.raw } ∧
        bits (t.fget fCLKSTAT_LOCK) 0 5 = 0 ∧ bits (t.fget fCLKSTAT_LOCK) 5 1 = (if s.flag fCLKSTAT_TSRC then 0 else bits (s.fget fCLKSTAT_LOCK) 5 1) ∧
        bits (t.fget fCLKSTAT_LOCK) 6 1 = bits (s.fget fCLKSTAT_LOCK) 6 1 ∧ t.ccs = s.ccs ∧ t.mem = s.mem ∧ t.time = s.time) ∧
    (∀ (s : State),
      ∃ t, exec .timeclkLoss s = .next t ∧ t.flag fCLKSTAT_TSRC = true ∧ t.flag fCLKSTAT_TLOSS = true ∧ t.clk.timeFit = false ∧
        t.reg rTIMINCR = s.reg rTIMINCR ∧ t.chip = s.chip ∧ t.mem = s.mem) ∧
    (∀ (s : State),
      ∃ t, exec .srefclkLoss s = .next t ∧ t.flag fCLKSTAT_SLOSS = true ∧ bits (t.fget fCLKSTAT_LOCK) 6 1 = 0 ∧
        (∀ k, k < 2 → t.flag (fENSTAT_LINK k) = false) ∧ (∀ k, k < 4 → t.dlUp k = false) ∧ t.mem = s.mem ∧ t.ccs = s.ccs) ∧
    (∀ (s : State),
      exec .xtalLoss s = .next ((s.setFlag fCLKSTAT_XLOSS true).setClk { s.clk with slow := true })) ∧
    (∀ (a : Agent) (s : State),
      s.writes a rCLKCTL = true →
      ∃ t, exec (.treturn a true) s = .next t ∧ t.flag fCLKSTAT_TSRC = false ∧ bits (t.fget fCLKSTAT_LOCK) 5 1 = 1 ∧
        t.clk = { s.clk with timeFit := true } ∧ t.answer.status = .done ∧ (∀ b, b ≠ rCLKSTAT → t.reg b = s.reg b)) ∧
    (∀ (a : Agent) (s : State),
      s.writes a rCLKCTL = true →
      exec (.treturn a false) s = .next ((s.setClk { s.clk with timeFit := false }).say .badArgument)) ∧
    (∀ (temp : BitVec 12) (s : State),
      s.clocked = true →
      880 ≤ temp.toInt →
      exec (.tempHot temp) s = .next ((s.fset fCLKTEMP_TEMP temp.toNat).setFlag fCLKTEMP_HOT true)) ∧
    (∀ (temp : BitVec 12) (s : State),
      s.clocked = true →
      temp.toInt < 880 →
      exec (.tempHot temp) s = .next (s.fset fCLKTEMP_TEMP temp.toNat)) ∧
    (∀ (n : Fin 8) (s : State),
      s.clocked = true →
      (if s.flag (fTIMTRIGCTL_MODE n.val) = true then s.chip else s.time.raw) < s.fget (fTIMTRIGSTART_VALUE n.val) →
      exec (.triggerFire n) s = .next s) ∧
    (∀ (s : State),
      s.clocked = true →
      (s.timeValid = false ∨ s.flag fTIMPPSO_EN = false ∨ s.chip % 1000000000 ≠ 0) →
      exec .ppsOutPulse s = .next s) ∧
    (∀ (ns : Nat) (s : State),
      s.clocked = true →
      ns < 100 →
      exec (.ppsInCapture ns) s = .next s) ∧
    (∀ (q : Fin 20) (s : State),
      s.clocked = true →
      s.portMay (rTIMTXTS q.val) = false →
      exec (.txtsPop .port q) s = .next (s.say .debugLocked)) ∧
    (∀ (n : Fin 8) (s : State),
      s.clocked = true →
      s.flag (fTIMTRIGCTL_EN n.val) = true →
      (s.flag (fTIMTRIGCTL_MODE n.val) = false ∨ s.timeValid = true) →
      s.fget (fTIMTRIGSTART_VALUE n.val) ≤ (if s.flag (fTIMTRIGCTL_MODE n.val) = true then s.chip else s.time.raw) →
      ∃ t, exec (.triggerFire n) s = .next t ∧ t.time.fireRaw.get trigZero n.val = s.time.raw ∧ t.time.fireChip.get trigZero n.val = s.chip ∧
        t = { s with csr := t.csr, time := t.time, met := t.met } ∧ (s.fget fCMTCFG_INT_TRIG ≠ n.val → t.met = s.met) ∧ t.time.raw = s.time.raw ∧ t.chip = s.chip)

/-- An event whose key has an open record of this power cycle within the merge window folds into it: the record is the most recently
used one, unwritten, with the event's value added. An event that opens a record, with nothing in the open set, takes the slot
found for it: EVRRSEQ goes up by one, NEWEST names the slot, and the record carries the event's code, severity, source, instance
and the sequence number, REPEAT 0 and MIN, MAX, SUM and LASTVAL of the one value. Posting events changes the recorder alone: its
front end, its registers and its records in MRAM; of more than 64 events in one cycle the rest is counted in EVRLOST.
EVRPOST_WRITE by a core, of a code of at least 0xC00, posts its event with the core as instance; by the port with a free
instance; a lower code is refused with BAD_ARGUMENT. FOLD_FLUSH writes each folded record whose last write lies FLUSHMS back and
keeps it open, and changes nothing outside the recorder. EVENT_CLEAR frees exactly the slots whose records are exported and of
at most the severity given, and nothing outside the recorder changes. TELEMETRY_PASS, when its period has passed, counts the
pass and notes when it was made. OPERATING_TIME_SAVE, a minute after the last, copies the operating time. In general an event
that opens a record first closes the open record of its key and, with eight open, the one used least recently, each written;
with no slot it is counted as dropped by its severity. A pass that is disabled or not yet due, and a save within the minute,
change nothing. (R629, R632, R634, R635, R636, R637, R638, R639, R640, R643) -/
def Obligations.EventsAreRecorded : Prop :=
    (∀ (e : Event) (s : State),
      s.clocked = true →
      ∃ t, exec (.eventPost [e]) s = .next t ∧ t = s.event e ∧ s.evrOnly t) ∧
    (∀ (es : List Event) (s : State),
      s.clocked = true →
      ∃ t, exec (.eventPost es) s = .next t ∧ s.evrOnly t) ∧
    (∀ (es : List Event) (s : State),
      s.clocked = true →
      64 < es.length →
      ∃ t, exec (.eventPost es) s = .next t ∧ t.evr.lost = true ∧ t.fget fEVRLOST_COUNT = satAdd 32 (s.fget fEVRLOST_COUNT) (es.length - 64)) ∧
    (∀ (e : Event) (s : State) (o : OpenRec),
      s.foldsInto e = some o →
      ∃ t, s.event e = t ∧ t.evr.openSet = { o with data := s.foldRec o.data e.value, dirty := true } :: s.evr.openSet.filter (fun x => x.slot ≠ o.slot) ∧
        t.mem = s.mem ∧ t.fget fEVRRSEQ_RSEQ = s.fget fEVRRSEQ_RSEQ ∧ t.evr.used = s.evr.used) ∧
    (∀ (e : Event) (s : State) (k : Nat),
      s.evr.openSet = [] →
      (s.setOpen []).takeSlot e.sev = some k →
      k < 8192 →
      s.fget fEVRRSEQ_RSEQ + 1 < 2 ^ 48 →
      ∃ d, (s.event e).evr.openSet = [{ slot := k, data := d, written := s.time.raw }] ∧ (s.event e).evr.lost = false ∧
        (s.event e).fget fEVRRSEQ_RSEQ = s.fget fEVRRSEQ_RSEQ + 1 ∧ (s.event e).fget fEVRSTAT_NEWEST = k ∧
        (∃ gen, (s.event e).bytes (evrAddr k) 128 = recPut d 0 4 gen) ∧
        recCode d = e.code % 4096 ∧ recSev d = e.sev % 4 ∧ bit (le d 4 2) 14 = s.evr.lost ∧ recExported d = false ∧ recRepeat d = 0 ∧
        recRseq d = s.fget fEVRRSEQ_RSEQ ∧ le d 40 1 = e.src % 2 ^ 8 ∧ le d 41 1 = e.inst % 2 ^ 8 ∧ le d 44 4 = e.arg0 % 2 ^ 32 ∧
        le d 48 8 = e.arg1 % 2 ^ 64 ∧ (e.value < 2 ^ 32 → le d 56 4 = e.value ∧ le d 60 4 = e.value ∧ le d 96 8 = e.value ∧ le d 104 4 = e.value)) ∧
    (∀ (k : Fin 4) (v : BitVec 128) (s : State),
      s.clocked = true →
      s.planeDenied k.val rEVRPOST = false →
      0xC00 ≤ fEVRPOST_CODE.of v.toNat →
      exec (.evrpostWrite (.cc k) v) s = .next (((s.dropStage rEVRPOST).event {
          code := fEVRPOST_CODE.of v.toNat, sev := fEVRPOST_SEV.of v.toNat, src := 0x04, inst := k.val
          arg0 := fEVRPOST_ARG0.of v.toNat, value := fEVRPOST_VALUE.of v.toNat }).say .done)) ∧
    (∀ (a : Agent) (v : BitVec 128) (s : State),
      s.writes a rEVRPOST = true →
      fEVRPOST_CODE.of v.toNat < 0xC00 →
      exec (.evrpostWrite a v) s = .next ((s.dropStage rEVRPOST).say .badArgument)) ∧
    (∀ (v : BitVec 128) (s : State),
      s.clocked = true →
      s.portMay rEVRPOST = true →
      0xC00 ≤ fEVRPOST_CODE.of v.toNat →
      ∃ t, exec (.evrpostWrite .port v) s = .next t ∧ t.answer.status = .done ∧ (∀ x, x < evrAddr 0 ∨ evrAddr 8192 ≤ x → t.byte x = s.byte x)) ∧
    (∀ (s : State) (o : OpenRec),
      s.clocked = true →
      s.evr.openSet = [o] →
      o.dirty = true →
      o.written + msRaw (s.fget fEVRCFG_FLUSHMS) ≤ s.time.raw →
      exec .foldFlush s = .next ((s.putRec o.slot o.data).setOpen [{ o with dirty := false, written := s.time.raw }])) ∧
    (∀ (s : State),
      s.clocked = true →
      ∃ t, exec .foldFlush s = .next t ∧ s.evrOnly t ∧
        t.evr.openSet = s.evr.openSet.map (fun o => if o.dirty = true ∧ o.written + msRaw (s.fget fEVRCFG_FLUSHMS) ≤ s.time.raw
          then { o with dirty := false, written := s.time.raw } else o)) ∧
    (∀ (a : Agent) (sev : Fin 4) (s : State) (k : Nat),
      s.writes a rEVRCTL = true →
      k < 8192 →
      ∃ t, exec (.eventClear a sev) s = .next t ∧ s.evrOnly { t with answer := s.answer } ∧ t.answer.status = .done ∧
        (if recCode (s.bytes (evrAddr k) 128) ≠ 0 ∧ recExported (s.bytes (evrAddr k) 128) = true ∧ recSev (s.bytes (evrAddr k) 128) ≤ sev.val
          then recCode (t.bytes (evrAddr k) 128) = 0 else t.bytes (evrAddr k) 128 = s.bytes (evrAddr k) 128)) ∧
    (∀ (s : State),
      s.clocked = true →
      s.flag fTELCFG_EN = true →
      s.evr.telLast + secRaw (s.fget fTELCFG_PERIOD) ≤ s.time.raw →
      ∃ t, exec .telemetryPass s = .next t ∧ t.fget fTELSTAT_PASSES = satAdd fTELSTAT_PASSES.w (s.fget fTELSTAT_PASSES) 1 ∧ t.evr.telLast = s.time.raw ∧ t.queues = s.queues ∧ t.ccs = s.ccs) ∧
    (∀ (s : State),
      s.evr.optCopyAt + 60000000000 ≤ s.time.raw →
      exec .operatingTimeSave s = .next (s.setEvr { s.evr with optCopy := s.opt, optCopyAt := s.time.raw })) ∧
    (∀ (e : Event) (s u : State),
      s.foldsInto e = none →
      u = ((s.evr.openSet.filter (fun o => recKey o.data e) ++ (s.evr.openSet.filter fun o => !recKey o.data e).drop 7).foldl State.flushOpen s).setOpen ((s.evr.openSet.filter fun o => !recKey o.data e).take 7) →
      (u.takeSlot e.sev = none → s.event e = u.bump (fEVRDROP_COUNT (min e.sev 3)) 1) ∧
        (∀ k, u.takeSlot e.sev = some k → (s.event e).evr.openSet = { slot := k, data := u.newRec e (u.fget fEVRRSEQ_RSEQ), written := u.time.raw } :: u.evr.openSet ∧ (s.event e).evr.lost = false ∧
        (s.event e).mem = (u.putRec k (u.newRec e (u.fget fEVRRSEQ_RSEQ))).mem)) ∧
    (∀ (s : State) (e : Event) (r : Nat),
      recCode (s.newRec e r) = e.code % 4096 ∧ recSev (s.newRec e r) = e.sev % 4 ∧ bit (le (s.newRec e r) 4 2) 14 = s.evr.lost ∧ recExported (s.newRec e r) = false ∧ recRepeat (s.newRec e r) = 0 ∧
        recRseq (s.newRec e r) = r % 2 ^ 48 ∧ le (s.newRec e r) 40 1 = e.src % 2 ^ 8 ∧ le (s.newRec e r) 41 1 = e.inst % 2 ^ 8 ∧ le (s.newRec e r) 44 4 = e.arg0 % 2 ^ 32 ∧ le (s.newRec e r) 48 8 = e.arg1 % 2 ^ 64 ∧ (s.newRec e r).length = 128) ∧
    (∀ (s : State),
      s.clocked = true →
      (s.flag fTELCFG_EN = false ∨ s.time.raw < s.evr.telLast + secRaw (s.fget fTELCFG_PERIOD)) →
      exec .telemetryPass s = .next s) ∧
    (∀ (s : State),
      s.time.raw < s.evr.optCopyAt + 60000000000 →
      exec .operatingTimeSave s = .next s)

/-- TAP_RESET selects IDCODE and ends a hold. IDCODE captures 0x12640963. SAMPLE_PRELOAD samples the balls, the cells of the
powerline, metrology and serial balls reading 0, and loads the cells. EXTEST, CLAMP and HIGHZ hold the chip in an EXT reset,
which they perform unless it is held already; a scan in EXTEST loads the cells. MBOX reads and writes a word of the mailbox, or
a register that the port may reach as CSR_WRITE and a CSR read of the port do, and captures the word and the status; outside the
mailbox it answers BAD_ADDRESS, and for a register that the port may not reach DEBUG_LOCKED; it captures 0 in SCRAP, and BUSY
while the core domain has no clock. DEBUG captures DEBUG_LOCKED where debug access is locked; what it captures elsewhere is open
(a free value). BYPASS, and every code that is not listed, captures 0. A poisoned word gives its value with POISONED, a
misaligned mailbox address BAD_ALIGN. In PROVISIONED and FIELD what the cells drive has LDk_EN and RFk_TXEN low and ACT_OUT_N
released, whatever is loaded. (R675, R676, R677) -/
def Obligations.TestPort : Prop :=
    (∀ (s : State),
      ∃ t, exec .tapReset s = .next t ∧ t.fget fTAPSTAT_IR = irIdcode ∧ t.flag fTAPSTAT_HOLD = false ∧ t.tap = s.tap ∧ t.mem = s.mem ∧ t.ccs = s.ccs) ∧
    (∀ (s : State),
      ∃ t, exec .idcode s = .next t ∧ t.fget fTAPSTAT_IR = irIdcode ∧ t.flag fTAPSTAT_HOLD = false ∧ t.tap.capture = 0x12640963 ∧ t.tap.cells = s.tap.cells ∧ t.mem = s.mem ∧ t.ccs = s.ccs) ∧
    (∀ (cells : BitVec 601) (s : State),
      ∃ t, exec (.samplePreload cells) s = .next t ∧ t.fget fTAPSTAT_IR = irSample ∧ t.flag fTAPSTAT_HOLD = false ∧ t.tap.cells = cells.toNat ∧ t.tap.capture &&& cellsMuted = 0 ∧ t.mem = s.mem ∧ t.ccs = s.ccs) ∧
    (∀ (s : State),
      s.flag fTAPSTAT_HOLD = false →
      ∃ t, exec (.extest none) s = .next t ∧ t.fget fTAPSTAT_IR = irExtest ∧ t.flag fTAPSTAT_HOLD = true ∧ t.clocked = false ∧ s.cameUp t (s.resetKind 2) 4) ∧
    (∀ (s : State),
      s.flag fTAPSTAT_HOLD = true →
      ∃ t, exec (.extest none) s = .next t ∧ t.fget fTAPSTAT_IR = irExtest ∧ t.flag fTAPSTAT_HOLD = true ∧ t.mem = s.mem ∧ t.ccs = s.ccs ∧ t.pwr = s.pwr) ∧
    (∀ (s : State),
      s.flag fTAPSTAT_HOLD = false →
      ∃ t, exec .clamp s = .next t ∧ t.fget fTAPSTAT_IR = irClamp ∧ t.flag fTAPSTAT_HOLD = true ∧ t.clocked = false ∧ s.cameUp t (s.resetKind 2) 4) ∧
    (∀ (s : State),
      s.flag fTAPSTAT_HOLD = true →
      ∃ t, exec .clamp s = .next t ∧ t.fget fTAPSTAT_IR = irClamp ∧ t.flag fTAPSTAT_HOLD = true ∧ t.mem = s.mem ∧ t.ccs = s.ccs ∧ t.pwr = s.pwr) ∧
    (∀ (s : State),
      s.flag fTAPSTAT_HOLD = false →
      ∃ t, exec .highz s = .next t ∧ t.fget fTAPSTAT_IR = irHighz ∧ t.flag fTAPSTAT_HOLD = true ∧ t.clocked = false ∧ s.cameUp t (s.resetKind 2) 4) ∧
    (∀ (s : State),
      s.flag fTAPSTAT_HOLD = true →
      ∃ t, exec .highz s = .next t ∧ t.fget fTAPSTAT_IR = irHighz ∧ t.flag fTAPSTAT_HOLD = true ∧ t.mem = s.mem ∧ t.ccs = s.ccs ∧ t.pwr = s.pwr) ∧
    (∀ (c : BitVec 601) (s : State),
      s.flag fTAPSTAT_HOLD = true →
      ∃ t, exec (.extest (some c)) s = .next t ∧ t.tap.cells = c.toNat ∧ t.fget fTAPSTAT_IR = irExtest ∧ t.flag fTAPSTAT_HOLD = true ∧ t.mem = s.mem ∧ t.pwr = s.pwr) ∧
    (∀ (c : BitVec 601) (s : State),
      s.flag fTAPSTAT_HOLD = false →
      ∃ t, exec (.extest (some c)) s = .next t ∧ t.tap.cells = c.toNat ∧ t.fget fTAPSTAT_IR = irExtest ∧ t.flag fTAPSTAT_HOLD = true ∧ s.cameUp t (s.resetKind 2) 4) ∧
    (∀ (data : Word) (addr : BitVec 24) (s : State),
      s.clocked = true →
      s.life ≠ lifeScrap →
      addr.toNat % 4 = 0 →
      addr.toNat < 8192 →
      ∃ t, exec (.mbox data addr true true) s = .next t ∧ t.bytes (mboxBase + addr.toNat) 4 = leBytes 4 data.toNat ∧ t.tap.capture = 0 ∧
        t.fget fTAPSTAT_MBOXST = Status.done.code ∧ (∀ x, x < mboxBase + addr.toNat ∨ mboxBase + addr.toNat + 4 ≤ x → t.byte x = s.byte x)) ∧
    (∀ (data : Word) (addr : BitVec 24) (s : State),
      s.clocked = true →
      s.life ≠ lifeScrap →
      addr.toNat % 4 = 0 →
      addr.toNat < 8192 →
      s.poisonedIn (mboxBase + addr.toNat) 4 = false →
      ∃ t, exec (.mbox data addr true false) s = .next t ∧ t.tap.capture = s.peek (mboxBase + addr.toNat) 4 ∧ t.fget fTAPSTAT_MBOXST = Status.done.code ∧ t.mem = s.mem) ∧
    (∀ (data : Word) (addr : BitVec 24) (write : Bool) (s : State),
      s.clocked = true →
      s.life ≠ lifeScrap →
      addr.toNat % 4 = 0 →
      8192 ≤ addr.toNat →
      ∃ t, exec (.mbox data addr true write) s = .next t ∧ t.fget fTAPSTAT_MBOXST = Status.badAddress.code ∧ t.mem = s.mem ∧ t.ccs = s.ccs) ∧
    (∀ (data : Word) (addr : BitVec 24) (write : Bool) (s : State),
      s.clocked = true →
      s.life ≠ lifeScrap →
      s.debugOpen = false →
      s.portMay addr.toNat = false →
      addr.toNat % 4 = 0 →
      blockImplemented (addr.toNat / 0x10000) = true →
      ∃ t, exec (.mbox data addr false write) s = .next t ∧ t.fget fTAPSTAT_MBOXST = Status.debugLocked.code ∧ t.mem = s.mem ∧ t.ccs = s.ccs ∧ (∀ b, b ≠ rTAPSTAT → t.reg b = s.reg b)) ∧
    (∀ (data : Word) (addr : BitVec 24) (s : State),
      s.clocked = true →
      s.life ≠ lifeScrap →
      s.portMay addr.toNat = true →
      addr.toNat % 4 = 0 →
      blockImplemented (addr.toNat / 0x10000) = true →
      exec (.mbox data addr false true) s = .next ((((s.irFree irMbox).csrWord .port addr.toNat data).setTap { ((s.irFree irMbox).csrWord .port addr.toNat data).tap with capture := 0 + 2 ^ 32 * ((s.irFree irMbox).csrWord .port addr.toNat data).answer.status.code }).fset
          fTAPSTAT_MBOXST ((s.irFree irMbox).csrWord .port addr.toNat data).answer.status.code)) ∧
    (∀ (data : Word) (addr : BitVec 24) (s : State),
      s.clocked = true →
      s.life ≠ lifeScrap →
      s.portMay addr.toNat = true →
      addr.toNat % 4 = 0 →
      blockImplemented (addr.toNat / 0x10000) = true →
      exec (.mbox data addr false false) s = .next ((((s.irFree irMbox).csrRead .port addr.toNat).setTap { ((s.irFree irMbox).csrRead .port addr.toNat).tap with capture := ((s.irFree irMbox).csrRead .port addr.toNat).answer.value % 2 ^ 32 + 2 ^ 32 * ((s.irFree irMbox).csrRead .port addr.toNat).answer.status.code }).fset
          fTAPSTAT_MBOXST ((s.irFree irMbox).csrRead .port addr.toNat).answer.status.code)) ∧
    (∀ (data : Word) (addr : BitVec 24) (mailbox write : Bool) (s : State),
      s.life = lifeScrap →
      ∃ t, exec (.mbox data addr mailbox write) s = .next t ∧ t.tap.capture = 0 ∧ t.fget fTAPSTAT_IR = irMbox ∧ t.flag fTAPSTAT_HOLD = false ∧ t.mem = s.mem ∧ (∀ b, b ≠ rTAPSTAT → t.reg b = s.reg b)) ∧
    (∀ (data : Word) (addr : BitVec 24) (mailbox write : Bool) (s : State),
      s.life ≠ lifeScrap →
      s.pwr.pf = .halted →
      ∃ t, exec (.mbox data addr mailbox write) s = .next t ∧ t.tap.capture = 2 ^ 48 ∧ t.fget fTAPSTAT_IR = irMbox ∧ t.flag fTAPSTAT_HOLD = false ∧ t.mem = s.mem) ∧
    (∀ (s : State),
      s.debugOpen = false →
      ∃ t, exec .debug s = .next t ∧ t.fget fTAPSTAT_IR = irDebug ∧ t.flag fTAPSTAT_HOLD = false ∧ t.tap = { s.tap with capture := Status.debugLocked.code } ∧ t.mem = s.mem) ∧
    (∀ (s : State),
      s.debugOpen = true →
      ∃ t, exec .debug s = .next t ∧ t.fget fTAPSTAT_IR = irDebug ∧ t.flag fTAPSTAT_HOLD = false ∧ t.tap.cells = s.tap.cells ∧ t.mem = s.mem ∧ t.ccs = s.ccs) ∧
    (∀ (code : Byte) (s : State),
      ∃ t, exec (.bypass code) s = .next t ∧ t.tap.capture = 0 ∧ t.flag fTAPSTAT_HOLD = false ∧ t.tap.cells = s.tap.cells ∧ t.mem = s.mem ∧ t.ccs = s.ccs) ∧
    (∀ (data : Word) (addr : BitVec 24) (s : State),
      s.clocked = true →
      s.life ≠ lifeScrap →
      addr.toNat % 4 = 0 →
      addr.toNat < 8192 →
      s.poisonedIn (mboxBase + addr.toNat) 4 = true →
      ∃ t, exec (.mbox data addr true false) s = .next t ∧ t.tap.capture = s.peek (mboxBase + addr.toNat) 4 % 2 ^ 32 + 2 ^ 32 * Status.poisoned.code ∧ t.fget fTAPSTAT_MBOXST = Status.poisoned.code ∧ t.poison = s.poison) ∧
    (∀ (data : Word) (addr : BitVec 24) (write : Bool) (s : State),
      s.clocked = true →
      s.life ≠ lifeScrap →
      addr.toNat % 4 ≠ 0 →
      ∃ t, exec (.mbox data addr true write) s = .next t ∧ t.fget fTAPSTAT_MBOXST = Status.badAlign.code ∧ t.mem = s.mem ∧ t.ccs = s.ccs) ∧
    (∀ (data : Word) (addr : BitVec 24) (mailbox write : Bool) (s : State),
      s.clocked = false →
      s.life ≠ lifeScrap →
      ∃ t, exec (.mbox data addr mailbox write) s = .next t ∧ t.tap.capture = 2 ^ 48 ∧ t.fget fTAPSTAT_IR = irMbox ∧ t.mem = s.mem ∧ t.ccs = s.ccs ∧ (∀ b, b ≠ rTAPSTAT → t.reg b = s.reg b)) ∧
    (∀ (s : State),
      (s.life = lifeProvisioned ∨ s.life = lifeField) →
      (∀ k, k < 6 → bit s.cellsDriven (336 + 17 * k + 16) = false) ∧ (∀ k, k < 4 → bit s.cellsDriven (486 + k) = false) ∧ bit s.cellsDriven 574 = true)

/-- REPORT_MERGE_TURN takes the oldest record of the plane whose turn it is; a turn without a record passes to the next.
DISPATCH_GRANT, with grants enabled and the chip in Run, gives the item picked to the lowest waiting core: the endpoint's page
and tack list fill the core's windows, W3 and W6 are cleared, W4 holds the item's words, the registers are zero, the PC, the
budget and the grant counter are as the program says; memory outside the core's windows, and every other core, is as it was. The
ADJUST item that R223 puts first is granted before it, and the item stays ready. An item of an unknown program is discarded and
counted, and one that the page already holds in replay or rebuild is dropped; a press item so lost counts as ended. With no core
waiting, nothing eligible, in Quiet, or with grants disabled, nothing is granted. DISPATCHER_Q0_TAKE moves a sound item from the
front of Q0 to the ready list in boot or for an endpoint being rebuilt, discards and counts one that is not sound or has an ISN
outside them, and leaves one with ISN 0 to ingest. INGEST_COMMAND journals the command at the front of Q0 and posts its item; it
discards and counts one with code 0 or without an eligible program, refuses in a mode that does not permit ingest, and waits for
a held endpoint, for ring room and for the ready store. (R27, R77, R114, R116, R118, R120, R121, R191, R218, R219, R223) -/
def Obligations.MergeAndGrants : Prop :=
    (∀ (s : State) (r : Rec) (l : List Rec),
      s.clocked = true →
      s.turn < 7 →
      s.planeQ (turnPlane s.turn) = r :: l →
      ∃ t, exec .reportMergeTurn s = .next t ∧ t.merged = s.merged ++ [(s.time.raw, r)] ∧ t.turn = (s.turn + 1) % 7 ∧
        t.planeQ (turnPlane s.turn) = l ∧ (∀ p, p < 3 → p ≠ turnPlane s.turn → t.planeQ p = s.planeQ p) ∧
        t = { s with merged := t.merged, turn := t.turn, dataQ := t.dataQ, ctlQ := t.ctlQ, mgmtQ := t.mgmtQ }) ∧
    (∀ (s : State),
      s.clocked = true →
      s.turn < 7 →
      s.planeQ (turnPlane s.turn) = [] →
      s.dataQ ≠ [] ∨ s.ctlQ ≠ [] ∨ s.mgmtQ ≠ [] →
      exec .reportMergeTurn s = exec .reportMergeTurn { s with turn := (s.turn + 1) % 7 }) ∧
    (∀ (s : State),
      s.clocked = true →
      s.dataQ = [] →
      s.ctlQ = [] →
      s.mgmtQ = [] →
      exec .reportMergeTurn s = .next s) ∧
    ((List.range 7).map turnPlane = [0, 1, 0, 2, 0, 1, 0]) ∧
    (∀ (s : State) (n : Nat) (r : RItem) (p : Nat),
      s.memOk →
      s.clocked = true →
      s.flag fDISCTL_EN = true →
      s.fget fMODESTAT_LPS = 0 →
      s.waitingCore = some n →
      s.pickItem = some r →
      s.dropsSeen r = false →
      s.progOf r.item.prog = some p →
      s.adjustFirst r p = none →
      0x800000 ≤ s.tackAddr r.item.epi →
      ∃ t, exec .dispatchGrant s = .next t ∧
        (t.lc n).cpu = { pc := w32 ((s.prog p).entries.getD (r.item).entry 0) } ∧ (t.lc n).run = .running ∧ (t.lc n).item = some r.item ∧
        (t.lc n).used = 0 ∧ (t.lc n).budget = (s.prog p).budgets.getD (r.item).entry 0 ∧ (t.lc n).emits = [] ∧ (t.lc n).rank = r.rank ∧
        (∀ m, m ≠ n → t.lc m = s.lc m) ∧ t.ldg = { s.ldg with ready := s.ldg.ready.filter fun q => q.ord ≠ r.ord } ∧
        t.fget fDISGRANTS_GRANTS = (s.fget fDISGRANTS_GRANTS + 1) % 2 ^ fDISGRANTS_GRANTS.w ∧
        (∀ i, i < 4096 → t.byte (lcData n + i) = s.byte (s.pageAddr (r.item).epi + i)) ∧
        (∀ i, i < 1024 → t.byte (lcData n + 0x1000 + i) = s.byte (s.tackAddr (r.item).epi + i)) ∧
        (∀ i, i < 2048 → t.byte (lcW3 n + i) = 0) ∧ (∀ i, i < 65536 → t.byte (lcW6 n + i) = 0) ∧
        t.bytes (lcW4 n) 32 = (r.item).words.flatMap (fun w => leBytes 4 w.toNat) ∧
        (∀ x, x < lcData n ∨ lcData n + 0x18000 ≤ x → t.byte x = s.byte x) ∧ t.ccs = s.ccs ∧ t.queues = s.queues) ∧
    (∀ (s : State) (n : Nat) (r : RItem) (p q : Nat) (a : Item),
      s.memOk →
      s.clocked = true →
      s.flag fDISCTL_EN = true →
      s.fget fMODESTAT_LPS = 0 →
      s.waitingCore = some n →
      s.pickItem = some r →
      s.dropsSeen r = false →
      s.progOf r.item.prog = some p →
      s.adjustFirst r p = some a →
      s.progOf a.prog = some q →
      0x800000 ≤ s.tackAddr a.epi →
      ∃ t, exec .dispatchGrant s = .next t ∧
        (t.lc n).cpu = { pc := w32 ((s.prog q).entries.getD (a).entry 0) } ∧ (t.lc n).run = .running ∧ (t.lc n).item = some a ∧
        (t.lc n).used = 0 ∧ (t.lc n).budget = (s.prog q).budgets.getD (a).entry 0 ∧ (t.lc n).emits = [] ∧ (t.lc n).rank = 2 ∧
        (∀ m, m ≠ n → t.lc m = s.lc m) ∧ t.ldg = s.ldg ∧
        t.fget fDISGRANTS_GRANTS = (s.fget fDISGRANTS_GRANTS + 1) % 2 ^ fDISGRANTS_GRANTS.w ∧ t.fget fLDGADJ_ADJ = (s.fget fLDGADJ_ADJ + 1) % 2 ^ fLDGADJ_ADJ.w ∧
        (∀ i, i < 4096 → t.byte (lcData n + i) = s.byte (s.pageAddr (a).epi + i)) ∧
        (∀ i, i < 1024 → t.byte (lcData n + 0x1000 + i) = s.byte (s.tackAddr (a).epi + i)) ∧
        (∀ i, i < 2048 → t.byte (lcW3 n + i) = 0) ∧ (∀ i, i < 65536 → t.byte (lcW6 n + i) = 0) ∧
        t.bytes (lcW4 n) 32 = (a).words.flatMap (fun w => leBytes 4 w.toNat) ∧
        (∀ x, x < lcData n ∨ lcData n + 0x18000 ≤ x → t.byte x = s.byte x) ∧ t.ccs = s.ccs ∧ t.queues = s.queues) ∧
    (∀ (s : State) (n : Nat) (r : RItem),
      s.clocked = true →
      s.flag fDISCTL_EN = true →
      s.fget fMODESTAT_LPS = 0 →
      s.waitingCore = some n →
      s.pickItem = some r →
      s.dropsSeen r = false →
      s.progOf r.item.prog = none →
      r.item.isPress = false →
      ∃ t, exec .dispatchGrant s = .next t ∧ t.fget fDISREJ_REJ = satAdd fDISREJ_REJ.w (s.fget fDISREJ_REJ) 1 ∧
        t.ldg.ready = (s.ldg.ready.filter fun q => q.ord ≠ r.ord) ∧ t.mem = s.mem ∧ t.lcs = s.lcs ∧ t.ccs = s.ccs ∧ t.queues = s.queues) ∧
    (∀ (s : State) (n : Nat) (r : RItem),
      s.clocked = true →
      s.flag fDISCTL_EN = true →
      s.fget fMODESTAT_LPS = 0 →
      s.waitingCore = some n →
      s.pickItem = some r →
      s.dropsSeen r = true →
      r.item.isPress = false →
      ∃ t, exec .dispatchGrant s = .next t ∧ t.ldg.ready = (s.ldg.ready.filter fun q => q.ord ≠ r.ord) ∧ t.csr = s.csr ∧ t.mem = s.mem ∧
        t.lcs = s.lcs ∧ t.ccs = s.ccs ∧ t.queues = s.queues) ∧
    (∀ (s : State) (n : Nat) (r : RItem),
      s.clocked = true →
      s.flag fDISCTL_EN = true →
      s.fget fMODESTAT_LPS = 0 →
      s.waitingCore = some n →
      s.pickItem = some r →
      s.dropsSeen r = true ∨ s.progOf r.item.prog = none →
      r.item.isPress = true →
      r.rank = 2 →
      s.flag fLDGSTAT_ROUND = true →
      r.item.w4.toNat = s.ldg.roundK →
      2 ≤ s.fget fLDGROUND_LEFT →
      ∃ t, exec .dispatchGrant s = .next t ∧ t.fget fLDGROUND_LEFT = s.fget fLDGROUND_LEFT - 1 ∧ t.flag fLDGSTAT_ROUND = true ∧
        t.ldg.ready = (s.ldg.ready.filter fun q => q.ord ≠ r.ord) ∧ t.mem = s.mem ∧ t.lcs = s.lcs ∧ t.ccs = s.ccs ∧ t.queues = s.queues) ∧
    (∀ (s : State),
      s.clocked = true →
      s.flag fDISCTL_EN = false ∨ s.fget fMODESTAT_LPS ≠ 0 ∨ s.waitingCore = none ∨ s.pickItem = none →
      exec .dispatchGrant s = .next s) ∧
    (∀ (s : State),
      s.clocked = true →
      s.storeFull = false →
      s.qEn 0 = true →
      (s.queue 0).count ≠ 0 →
      s.q0Bad (s.front 0) = false →
      (itemOf (s.front 0)).isn ≠ 0 →
      s.ldg.rebuild = some (itemOf (s.front 0)).epi ∨ s.epiHeld (itemOf (s.front 0)).epi = true →
      s.mode ≠ modeBoot →
      exec .dispatcherQ0Take s = .next ((s.dequeued 0).postItem (itemOf (s.front 0)) 1 ((itemOf (s.front 0)).entry ≠ 1 && (itemOf (s.front 0)).entry ≠ 3))) ∧
    (∀ (s : State),
      s.clocked = true →
      s.storeFull = false →
      s.qEn 0 = true →
      (s.queue 0).count ≠ 0 →
      s.q0Bad (s.front 0) = false →
      (itemOf (s.front 0)).isn ≠ 0 →
      s.mode = modeBoot →
      s.ldg.rebuild ≠ some (itemOf (s.front 0)).epi →
      s.epiHeld (itemOf (s.front 0)).epi = false →
      (itemOf (s.front 0)).isReading = false →
      ∃ t, exec .dispatcherQ0Take s = .next t ∧ t.ldg.ready = s.ldg.ready ++ [⟨(itemOf (s.front 0)), s.ldg.ord, 2, ((itemOf (s.front 0)).entry ≠ 1 && (itemOf (s.front 0)).entry ≠ 3)⟩] ∧
        t.ldg.replIsn = max s.ldg.replIsn (itemOf (s.front 0)).isn ∧ t.queues = (s.dequeued 0).queues ∧ t.csr = (s.dequeued 0).csr ∧ t.mem = (s.dequeued 0).mem) ∧
    (∀ (s : State) (ic : Nat),
      s.clocked = true →
      s.storeFull = false →
      s.qEn 0 = true →
      (s.queue 0).count ≠ 0 →
      s.q0Bad (s.front 0) = false →
      (itemOf (s.front 0)).isn ≠ 0 →
      s.mode = modeBoot →
      s.ldg.rebuild ≠ some (itemOf (s.front 0)).epi →
      s.epiHeld (itemOf (s.front 0)).epi = false →
      (itemOf (s.front 0)).isReading = true →
      s.journaledIc (itemOf (s.front 0)).epi (itemOf (s.front 0)).isn = some ic →
      exec .dispatcherQ0Take s = .next ((((s.dequeued 0).setLdg { (s.dequeued 0).ldg with replIsn := max s.ldg.replIsn (itemOf (s.front 0)).isn }).icAdvance
          (itemOf (s.front 0)).epi ic).postItem (itemOf (s.front 0)) 2 ((itemOf (s.front 0)).entry ≠ 1 && (itemOf (s.front 0)).entry ≠ 3))) ∧
    (∀ (s : State),
      s.clocked = true →
      s.storeFull = false →
      s.qEn 0 = true →
      (s.queue 0).count ≠ 0 →
      s.q0Bad (s.front 0) = false →
      (itemOf (s.front 0)).isn ≠ 0 →
      s.mode ≠ modeBoot →
      s.ldg.rebuild ≠ some (itemOf (s.front 0)).epi →
      s.epiHeld (itemOf (s.front 0)).epi = false →
      exec .dispatcherQ0Take s = .next ((s.dequeued 0).bump fDISREJ_REJ 1)) ∧
    (∀ (s : State),
      s.clocked = true →
      s.storeFull = false →
      s.qEn 0 = true →
      (s.queue 0).count ≠ 0 →
      s.q0Bad (s.front 0) = true →
      exec .dispatcherQ0Take s = .next (((s.dequeued 0).bump fDISREJ_REJ 1).rebuildEnd (itemOf (s.front 0)).epi)) ∧
    (∀ (s : State),
      s.clocked = true →
      s.storeFull = true ∨ s.qEn 0 = false ∨ (s.queue 0).count = 0 ∨ (s.q0Bad (s.front 0) = false ∧ (itemOf (s.front 0)).isn = 0) →
      exec .dispatcherQ0Take s = .next s) ∧
    (∀ (s : State) (p : Nat) (e : JEnt),
      s.clocked = true →
      s.storeFull = false →
      s.qEn 0 = true →
      (s.queue 0).count ≠ 0 →
      s.q0Bad (s.front 0) = false →
      (itemOf (s.front 0)).isn = 0 →
      (itemOf (s.front 0)).kind ≠ 0 →
      s.epiHeld (itemOf (s.front 0)).epi = false →
      s.epiCut (itemOf (s.front 0)).epi = false →
      s.noCalendar = false →
      s.ingestOpen = true →
      s.ldg.inq = [] →
      (s.epiEntry (itemOf (s.front 0)).epi).bind (fun e => s.eligible e.cls (s.kLast + 1)) = some p →
      e = {
            kind := jkCommand, n := 1, epi := (itemOf (s.front 0)).epi
            body := leBytes 2 (itemOf (s.front 0)).kind ++ leBytes 2 (s.fget (fLDGPRG_HANDLE p)) ++ leBytes 4 0 ++
              leBytes 8 ((itemOf (s.front 0)).w4.toNat + 2 ^ 32 * (itemOf (s.front 0)).w5.toNat) ++ leBytes 4 (itemOf (s.front 0)).w6.toNat ++ leBytes 4 (itemOf (s.front 0)).w7.toNat } →
      (s.dequeued 0).ringTakes e = true →
      ∃ t, exec .ingestCommand s = .next t ∧ t.answer.status = .done ∧ t = (((s.dequeued 0).journaled e).postItem
          (((s.dequeued 0).journaled e).commandItem (itemOf (s.front 0)).epi (s.fget (fLDGPRG_HANDLE p)) (itemOf (s.front 0)).kind (s.lastIsn + 1)
            ((itemOf (s.front 0)).w4.toNat + 2 ^ 32 * (itemOf (s.front 0)).w5.toNat) (itemOf (s.front 0)).w6.toNat (itemOf (s.front 0)).w7.toNat) 2 true).say .done) ∧
    (∀ (s : State),
      s.clocked = true →
      s.storeFull = false →
      s.qEn 0 = true →
      (s.queue 0).count ≠ 0 →
      s.q0Bad (s.front 0) = false →
      (itemOf (s.front 0)).isn = 0 →
      (itemOf (s.front 0)).kind ≠ 0 →
      s.epiHeld (itemOf (s.front 0)).epi = false →
      s.epiCut (itemOf (s.front 0)).epi = false →
      s.noCalendar = true ∨ s.ingestOpen = false →
      exec .ingestCommand s = .next ((s.dequeued 0).say .modeDenied)) ∧
    (∀ (s : State),
      s.clocked = true →
      s.storeFull = false →
      s.qEn 0 = true →
      (s.queue 0).count ≠ 0 →
      s.q0Bad (s.front 0) = false →
      (itemOf (s.front 0)).isn = 0 →
      (itemOf (s.front 0)).kind ≠ 0 →
      s.epiHeld (itemOf (s.front 0)).epi = false →
      s.epiCut (itemOf (s.front 0)).epi = false →
      s.noCalendar = false →
      s.ingestOpen = true →
      (s.epiEntry (itemOf (s.front 0)).epi).bind (fun e => s.eligible e.cls (s.kLast + 1)) = none →
      exec .ingestCommand s = .next ((s.dequeued 0).bump fLDGNOPROG_COUNT 1)) ∧
    (∀ (s : State),
      s.clocked = true →
      s.storeFull = false →
      s.qEn 0 = true →
      (s.queue 0).count ≠ 0 →
      s.q0Bad (s.front 0) = false →
      (itemOf (s.front 0)).isn = 0 →
      (itemOf (s.front 0)).kind = 0 →
      exec .ingestCommand s = .next ((s.dequeued 0).bump fDISREJ_REJ 1)) ∧
    (∀ (s : State),
      s.clocked = true →
      s.storeFull = true ∨ s.qEn 0 = false ∨ (s.queue 0).count = 0 ∨ s.q0Bad (s.front 0) = true ∨ (itemOf (s.front 0)).isn ≠ 0 ∨ ((itemOf (s.front 0)).kind ≠ 0 ∧ (s.epiHeld (itemOf (s.front 0)).epi = true ∨ s.epiCut (itemOf (s.front 0)).epi = true)) →
      exec .ingestCommand s = .next s)

/-- PRESS_TICK first posts the inputs that waited for a round; then, when the scheduler's conditions for the next marker hold, it
requests the marker of the interval after K_LAST, and in every case it takes the firing. MARKER_JOURNALED journals the marker,
with the CUT that is due at it, under the next ISN and applies it: K_LAST is the interval and never decreases, LDGMARK the ISN,
and a round starts with one press item for every endpoint that has one; with no ring room it waits. (R201, R203, R204, R209,
R466) -/
def Obligations.MarkersAndRounds : Prop :=
    (∀ (s d : State),
      s.clocked = true →
      d = s.inputDrain →
      d.markerDue = true →
      exec .pressTick s = .next ((d.setTime { d.time with fired := setBits d.time.fired 2 1 0 }).setLdg { d.ldg with
          markerPend := some (d.kLast + 1).toNat })) ∧
    (∀ (s d : State),
      s.clocked = true →
      d = s.inputDrain →
      d.markerDue = false →
      exec .pressTick s = .next (d.setTime { d.time with fired := setBits d.time.fired 2 1 0 })) ∧
    (∀ (s : State),
      s.flag fLDGSTAT_ROUND = true ∨ s.ldg.inq = [] →
      s.inputDrain = s) ∧
    (∀ (s : State) (e : List Byte),
      s.flag fLDGSTAT_ROUND = false →
      s.ldg.inq = [e] →
      s.inputDrain = (s.inputPost e).setLdg { (s.inputPost e).ldg with inq := [] }) ∧
    (∀ (s : State),
      s.markerDue = true →
      s.flag fLDGCFG_SCHED_EN = true ∧ s.serving = true ∧ s.timeValid = true ∧ s.flag fLDGSTAT_ROUND = false ∧ 0 ≤ s.kLast + 1 ∧
        s.hK (s.kLast + 1).toNat ≤ s.meterNow ∧ s.ldg.markerPend = none ∧ s.ldg.inq = []) ∧
    (∀ (s : State) (k : Nat),
      s.clocked = true →
      s.ldg.markerPend = some k →
      s.cutDue k = false →
      s.ringTakes (markerEntry k) = true →
      exec .markerJournaled s = .next (((s.journaled (markerEntry k)).setLdg { (s.journaled (markerEntry k)).ldg with
          markerPend := none }).markerApply k (s.lastIsn + 1))) ∧
    (∀ (s u v : State) (k : Nat),
      s.clocked = true →
      s.ldg.markerPend = some k →
      s.cutDue k = true →
      s.journalRaw [markerEntry k, cutEntry s.mov.bucket s.mov.m] (fun _ => .free) = .ok u →
      v = (u.setLdg { u.ldg with markerPend := none }).markerApply k s.nextIsn →
      exec .markerJournaled s = .next (v.cutApply v.mov.bucket v.mov.m)) ∧
    (∀ (s : State) (k : Nat),
      s.clocked = true →
      s.ldg.markerPend = some k →
      s.cutDue k = false →
      s.lastIsn + 1 ≤ 2 ^ 48 - 2 ^ 25 →
      s.reserveBars jkMarker (needAll (s.fget fMRMHEAD_OFFSET) [markerEntry k]) = false →
      ringSize < s.ringUsed + needAll (s.fget fMRMHEAD_OFFSET) [markerEntry k] →
      exec .markerJournaled s = .next s) ∧
    (∀ (s : State),
      s.clocked = true →
      s.ldg.markerPend = none →
      exec .markerJournaled s = .next s) ∧
    (∀ (s : State) (k isn : Nat),
      s.pressItems k isn ≠ [] →
      (s.pressItems k isn).length < 2 ^ 19 →
      isn < 2 ^ 48 →
      k < 2 ^ 32 →
      (s.markerApply k isn).reg rLDGLASTK = (if s.reg rLDGLASTK = noK then k else max k (s.reg rLDGLASTK)) ∧ (s.markerApply k isn).fget fLDGMARK_ISN = isn ∧
        (s.markerApply k isn).flag fLDGSTAT_ROUND = true ∧ (s.markerApply k isn).fget fLDGROUND_LEFT = (s.pressItems k isn).length ∧
        (s.markerApply k isn).ldg.ready.map (·.item) = s.ldg.ready.map (·.item) ++ s.pressItems k isn ∧
        (s.markerApply k isn).ldg.roundK = k ∧ (s.markerApply k isn).ldg.digestAcc = 0 ∧ (s.markerApply k isn).mem = s.mem)

/-- PROGRAM_RETIRE empties the entry of a PREVIOUS program that is more than 95 intervals past and that no item names, and changes
nothing otherwise. PROGRAM_LOAD gives LDGLDSTAT the result of its checks; when they pass, a free entry becomes LOADED with the
handle, class, activation and version of the record, and otherwise no entry changes. REBUILD_GO holds the endpoint, with
ENGINE_BUSY while one is held; REBUILD_RELEASE lets it go, with BAD_ARGUMENT when none is. The first LDGREPLAY_WRITE in boot
sets K_LAST and REPLAY, later ones apply the next marker and refuse any other with BAD_ARGUMENT; outside boot step 10 it is
refused with MODE_DENIED. REPLAY_ENTRY_APPLY applies a sound entry above the checkpoint; one that fails its CRC or is poisoned
is counted in MRMJPOISON; a bad address, a bad alignment and a call outside boot step 10 are refused. DETBRK_DAILY emits its
record a day after the last, and nothing sooner; DETBRK_CLEAR clears once a clean checkpoint exists and the archive is writable.
That LDGREPLAY answers ENGINE_BUSY in a round is the model's choice (log 38). (R232, R235, R242, R243, R245, R246, R609) -/
def Obligations.LedgerCommands : Prop :=
    (∀ (n : Fin 16) (s : State),
      s.clocked = true →
      s.progState n.val = psPrevious →
      (s.fget (fLDGPRG_LASTK n.val) : Int) < s.kLast - 95 →
      s.progNamed (s.fget (fLDGPRG_HANDLE n.val)) = false →
      ∃ t, exec (.programRetire n) s = .next t ∧ t.progState n.val = psEmpty ∧ t.prog n.val = {} ∧ (∀ m, m < 16 → m ≠ n.val → t.reg (rLDGPRG m) = s.reg (rLDGPRG m) ∧ t.prog m = s.prog m) ∧ t = { s with csr := t.csr, ldg := t.ldg }) ∧
    (∀ (n : Fin 16) (s : State),
      s.clocked = true →
      s.progState n.val ≠ psPrevious ∨ s.kLast - 95 ≤ s.fget (fLDGPRG_LASTK n.val) ∨ s.progNamed (s.fget (fLDGPRG_HANDLE n.val)) = true →
      exec (.programRetire n) s = .next s) ∧
    (∀ (a : Agent) (s : State),
      s.writes a rLDGLDCTL = true →
      ∃ t, exec (.programLoad a) s = .next t ∧ t.fget fLDGLDSTAT_STATUS = (s.loadCheck (s.fget fLDGLDADDR_ADDR)).1.code ∧ t.answer.status = .done ∧
        ((s.loadCheck (s.fget fLDGLDADDR_ADDR)).1 ≠ .done → t.ldg = s.ldg ∧ t.mem = s.mem ∧ ∀ i, i < 16 → t.reg (rLDGPRG i) = s.reg (rLDGPRG i)) ∧
        ((s.loadCheck (s.fget fLDGLDADDR_ADDR)).1 = .done → ∃ i, i < 16 ∧ s.progState i = psEmpty ∧ t.progState i = psLoaded ∧
          t.fget (fLDGPRG_HANDLE i) = le (s.bytes (s.fget fLDGLDADDR_ADDR) 96) 6 2 ∧ t.fget (fLDGPRG_CLASS i) = le (s.bytes (s.fget fLDGLDADDR_ADDR) 96) 5 1 ∧
          t.fget (fLDGPRG_AK i) = le (s.bytes (s.fget fLDGLDADDR_ADDR) 96) 8 4 ∧ t.fget (fLDGPRG_VERSION i) = le (s.bytes (s.fget fLDGLDADDR_ADDR) 96) 12 4 ∧
          ∀ j, j < 16 → j ≠ i → t.reg (rLDGPRG j) = s.reg (rLDGPRG j))) ∧
    (∀ (a : Agent) (epi : BitVec 18) (s : State),
      s.writes a rLDGREBUILD = true →
      s.flag fLDGREBUILD_HOLD = false →
      ∃ t, exec (.rebuildGo a epi) s = .next t ∧ t.flag fLDGREBUILD_HOLD = true ∧ t.fget fLDGREBUILD_EPI = epi.toNat ∧ t.ldg = { s.ldg with rebuild := some epi.toNat } ∧ t.answer.status = .done ∧ t.mem = s.mem ∧ t.lcs = s.lcs) ∧
    (∀ (a : Agent) (epi : BitVec 18) (s : State),
      s.writes a rLDGREBUILD = true →
      s.flag fLDGREBUILD_HOLD = true →
      exec (.rebuildGo a epi) s = .next (s.say .engineBusy)) ∧
    (∀ (a : Agent) (s : State),
      s.writes a rLDGREBUILD = true →
      s.flag fLDGREBUILD_HOLD = false →
      exec (.rebuildRelease a) s = .next (s.say .badArgument)) ∧
    (∀ (a : Agent) (s : State),
      s.writes a rLDGREBUILD = true →
      s.flag fLDGREBUILD_HOLD = true →
      ∃ t, exec (.rebuildRelease a) s = .next t ∧ t.flag fLDGREBUILD_HOLD = false ∧ t.fget fLDGREBUILD_EPI = s.fget fLDGREBUILD_EPI ∧ t.ldg.ready = s.ldg.ready ∧ t.answer.status = .done ∧ t.mem = s.mem ∧ t.lcs = s.lcs) ∧
    (∀ (a : Agent) (k : Word) (s : State),
      s.writes a rLDGREPLAY = true →
      s.bootStep10 = true →
      s.ldg.replayed = false →
      ∃ t, exec (.ldgreplayWrite a k) s = .next t ∧ t.reg rLDGLASTK = k.toNat ∧ t.flag fLDGSTAT_REPLAY = true ∧ t.ldg.replayed = true ∧
        t.ldg.ready = s.ldg.ready ∧ t.answer.status = .done ∧ t.mem = s.mem) ∧
    (∀ (a : Agent) (k : Word) (s : State),
      s.writes a rLDGREPLAY = true →
      s.bootStep10 = true →
      s.ldg.replayed = true →
      (k.toNat : Int) = s.kLast + 1 →
      s.flag fLDGSTAT_ROUND = false →
      exec (.ldgreplayWrite a k) s = .next (((s.drawn 1).markerApply k.toNat (s.markerIsn k.toNat)).say .done)) ∧
    (∀ (a : Agent) (k : Word) (s : State),
      s.writes a rLDGREPLAY = true →
      s.bootStep10 = false →
      exec (.ldgreplayWrite a k) s = .next (s.say .modeDenied)) ∧
    (∀ (a : Agent) (addr : DWord) (s : State) (p n : Nat),
      s.writes a rLDGREPLAYE = true →
      s.bootStep10 = true →
      p = fLDGREPLAYE_ADDR.of addr.toNat →
      n = max 16 (entSize (s.bytes p 16)) →
      p % 16 = 0 →
      s.inDa p n = true →
      s.poisonedIn p n = false →
      entOk (s.bytes p n) = true →
      exec (.replayEntryApply a addr) s = .next (((s.touch p n).entryApply (s.bytes p n)).say .done)) ∧
    (∀ (a : Agent) (k : Word) (s : State),
      s.writes a rLDGREPLAY = true →
      s.bootStep10 = true →
      s.ldg.replayed = true →
      (k.toNat : Int) ≠ s.kLast + 1 →
      exec (.ldgreplayWrite a k) s = .next (s.say .badArgument)) ∧
    (∀ (a : Agent) (k : Word) (s : State),
      s.writes a rLDGREPLAY = true →
      s.bootStep10 = true →
      s.ldg.replayed = true →
      (k.toNat : Int) = s.kLast + 1 →
      s.flag fLDGSTAT_ROUND = true →
      exec (.ldgreplayWrite a k) s = .next (s.say .engineBusy)) ∧
    (∀ (s : State) (e : List Byte),
      entKind e = jkTopo →
      s.ldg.ckptLow < entIsn e →
      s.entryApply e = (((s.setLdg { s.ldg with replIsn := max s.ldg.replIsn (entIsn e + entN e - 1) }).setBal { s.bal with topo := some (le (e.drop 16) 0 1 % 2) })).setFlag fLOSSTAT_TOPO_PEND true) ∧
    (∀ (s : State) (e : List Byte),
      entKind e ≠ jkKeygen →
      entIsn e ≤ s.ldg.ckptLow →
      s.entryApply e = s.setLdg { s.ldg with replIsn := max s.ldg.replIsn (entIsn e + entN e - 1) }) ∧
    (∀ (a : Agent) (addr : DWord) (s : State) (p n : Nat),
      s.writes a rLDGREPLAYE = true →
      s.bootStep10 = true →
      p = fLDGREPLAYE_ADDR.of addr.toNat →
      n = max 16 (entSize (s.bytes p 16)) →
      p % 16 = 0 →
      s.inDa p n = true →
      s.poisonedIn p n = false →
      entOk (s.bytes p n) = false →
      ∃ t, exec (.replayEntryApply a addr) s = .next t ∧ t.fget fMRMJPOISON_COUNT = satAdd fMRMJPOISON_COUNT.w (s.fget fMRMJPOISON_COUNT) 1 ∧ t.answer.status = .done ∧ t.mem = s.mem ∧ t.ldg = s.ldg) ∧
    (∀ (a : Agent) (addr : DWord) (s : State) (p n : Nat),
      s.writes a rLDGREPLAYE = true →
      s.bootStep10 = true →
      p = fLDGREPLAYE_ADDR.of addr.toNat →
      n = max 16 (entSize (s.bytes p 16)) →
      p % 16 = 0 →
      s.inDa p n = true →
      s.poisonedIn p n = true →
      ∃ t, exec (.replayEntryApply a addr) s = .next t ∧ t.fget fMRMJPOISON_COUNT = satAdd fMRMJPOISON_COUNT.w (s.fget fMRMJPOISON_COUNT) 1 ∧ t.answer.status = .done ∧ t.mem = s.mem ∧ t.ldg = s.ldg) ∧
    (∀ (a : Agent) (addr : DWord) (s : State) (p n : Nat),
      s.writes a rLDGREPLAYE = true →
      s.bootStep10 = true →
      p = fLDGREPLAYE_ADDR.of addr.toNat →
      n = max 16 (entSize (s.bytes p 16)) →
      p % 16 = 0 →
      s.inDa p 16 = false ∨ s.inDa p (entSize (s.bytes p 16)) = false →
      exec (.replayEntryApply a addr) s = .next (s.say .badAddress)) ∧
    (∀ (a : Agent) (addr : DWord) (s : State),
      s.writes a rLDGREPLAYE = true →
      s.bootStep10 = true →
      fLDGREPLAYE_ADDR.of addr.toNat % 16 ≠ 0 →
      exec (.replayEntryApply a addr) s = .next (s.say .badAlign)) ∧
    (∀ (a : Agent) (addr : DWord) (s : State),
      s.writes a rLDGREPLAYE = true →
      s.bootStep10 = false →
      exec (.replayEntryApply a addr) s = .next (s.say .modeDenied)) ∧
    (∀ (s : State),
      s.clocked = true →
      s.flag fLDGSTAT_DETBRK = true →
      s.ldg.detLast + 86400000000000 ≤ s.time.raw →
      s.isStandby = false →
      ∃ t, exec .detbrkDaily s = .next t ∧ t.ldg = { s.ldg with detLast := s.time.raw } ∧
        t.dataQ = s.dataQ ++ [s.hwRec 0xF3 0 (2 ^ 64 - 1) 0 (leBytes 4 (cut 32 s.kLast) ++ leBytes 4 0)] ∧ t = { s with ldg := t.ldg, dataQ := t.dataQ }) ∧
    (∀ (s : State),
      s.clocked = true →
      s.flag fLDGSTAT_DETBRK = true →
      s.ldg.detLast + 86400000000000 ≤ s.time.raw →
      s.isStandby = true →
      ∃ t, exec .detbrkDaily s = .next t ∧ t.ldg = { s.ldg with detLast := s.time.raw } ∧
        t.twn.kept = s.twn.kept ++ [(s.time.raw, s.hwRec 0xF3 0 (2 ^ 64 - 1) 0 (leBytes 4 (cut 32 s.kLast) ++ leBytes 4 0))] ∧ t = { s with ldg := t.ldg, twn := t.twn }) ∧
    (∀ (s : State),
      s.clocked = true →
      s.flag fLDGSTAT_DETBRK = false ∨ s.time.raw < s.ldg.detLast + 86400000000000 →
      exec .detbrkDaily s = .next s) ∧
    (∀ (a : Agent) (s : State),
      s.writes a rLDGSTAT = true →
      s.flag fNFCSTAT_RO = false →
      s.ldg.detClean = true →
      exec (.detbrkClear a) s = .next ((s.setFlag fLDGSTAT_DETBRK false).say .done)) ∧
    (∀ (a : Agent) (s : State),
      s.writes a rLDGSTAT = true →
      s.flag fNFCSTAT_RO = true ∨ s.ldg.detClean = false →
      exec (.detbrkClear a) s = .next (s.say .done))

/-- SAMPLE_LATCH, at the first multiple of 250 raw counts at or after the firing, in a running interval, takes one sample: the
counts go up, each enabled channel's offset-corrected sum grows by its sample, and CMTSTAT.SAT gathers the channels at an end
code; after 8,000 samples the sums become the means of the high-pass filter. Between intervals it keeps only the time; with
nothing fired, or at another count, it changes nothing. TRIGGER_FIRE of INT_TRIG captures the coefficients and roles for the
interval it opens. METROLOGY_INTERVAL_CLOSE gives CMTLASTK the interval that ends, hands its totals to ingest as a METRO input
with its own ISN, and opens the one nearest the firing's chip time with the captured coefficients; the engine stops there when
its fence was requested. With none running it opens one once time is valid. REFERENCE_CHECK, 2 s after the last, records the
gain error of the next enabled channel, and with AUTOCAL writes its GAIN (a free value) into the shadow copy. TOPO_SELECT
journals its input and leaves the table pending; with one pending it is refused with ENGINE_BUSY, in a mode without ingest with
MODE_DENIED, and without ring room the input is kept. (R253, R255, R256, R261, R262, R263, R266, R605) -/
def Obligations.Metrology : Prop :=
    (∀ (codes : BitVec 384) (s : State),
      s.clocked = true →
      bit s.time.fired 0 = true →
      bit s.time.fired 1 = false →
      s.time.raw = s.metEdge →
      s.cmtOn = true →
      s.flag fCMTSTAT_RUN = true →
      s.met.curN + 1 ≠ 8000 →
      s.met.blkN + 1 ≠ 8000 →
      ∃ t, exec (.sampleLatch codes) s = .next t ∧ t.met.nsamp = s.met.nsamp + 1 ∧ t.met.blkN = s.met.blkN + 1 ∧ t.met.curN = s.met.curN + 1 ∧
        t.met.latch = s.time.raw ∧ bit t.time.fired 0 = false ∧ t.met.k = s.met.k ∧ t.met.cal = s.met.cal ∧ t.met.prev = s.met.prev ∧
        (∀ n, n < 16 → t.met.cur.get zeroI n = s.met.cur.get zeroI n + (if s.chOn n then s.metOff n (bits codes.toNat (24 * n) 24) else 0)) ∧
        (∀ n, n < 16 → bit (t.fget fCMTSTAT_SAT) n = (bit (s.fget fCMTSTAT_SAT) n || (s.chOn n && saturated (bits codes.toNat (24 * n) 24)))) ∧
        (∀ r, r ≠ rCMTSTAT → t.reg r = s.reg r) ∧ t = { s with csr := t.csr, met := t.met, time := t.time, freeCtr := t.freeCtr }) ∧
    (∀ (codes : BitVec 384) (s : State),
      s.clocked = true →
      bit s.time.fired 0 = true →
      bit s.time.fired 1 = false →
      s.time.raw = s.metEdge →
      s.cmtOn = true →
      s.flag fCMTSTAT_RUN = true →
      s.met.curN + 1 = 8000 →
      ∃ t, exec (.sampleLatch codes) s = .next t ∧ t.met.curN = 0 ∧ t.met.cur = [] ∧ t.met.nsamp = s.met.nsamp + 1 ∧
        (∀ n, n < 16 → t.met.prev.get zeroI n = s.met.cur.get zeroI n + (if s.chOn n then s.metOff n (bits codes.toNat (24 * n) 24) else 0))) ∧
    (∀ (codes : BitVec 384) (s : State),
      s.clocked = true →
      bit s.time.fired 0 = true →
      bit s.time.fired 1 = false →
      s.time.raw = s.metEdge →
      s.cmtOn = true →
      s.flag fCMTSTAT_RUN = false →
      exec (.sampleLatch codes) s = .next ((s.setTime { s.time with fired := setBits s.time.fired 0 1 0 }).setMet { s.met with latch := s.time.raw })) ∧
    (∀ (codes : BitVec 384) (s : State),
      s.clocked = true →
      bit s.time.fired 0 = false ∨ bit s.time.fired 1 = true ∨ s.time.raw ≠ s.metEdge →
      exec (.sampleLatch codes) s = .next s) ∧
    (∀ (s : State),
      s.metEdge % 250 = 0 ∧ s.time.fireRaw.get natZero (s.fget fCMTCFG_SAMP_TRIG) ≤ s.metEdge ∧ s.metEdge < s.time.fireRaw.get natZero (s.fget fCMTCFG_SAMP_TRIG) + 250) ∧
    (∀ (n : Fin 8) (s : State),
      s.clocked = true →
      s.flag (fTIMTRIGCTL_EN n.val) = true →
      s.flag (fTIMTRIGCTL_MODE n.val) = false →
      s.fget (fTIMTRIGSTART_VALUE n.val) ≤ s.time.raw →
      s.fget fCMTCFG_INT_TRIG = n.val →
      ∃ t, exec (.triggerFire n) s = .next t ∧ t.met.roleFire = s.reg rCMTROLE ∧
        t.met.calFire = (if s.met.calWrAt = some s.time.raw then s.met.calPrev else s.calRegs) ∧ t.met.cal = s.met.cal ∧ t.met.role = s.met.role) ∧
    (∀ (s : State),
      s.clocked = true →
      bit s.time.fired 1 = true →
      s.cmtOn = true →
      s.flag fCMTSTAT_RUN = true →
      bit s.pwr.fenceReq 30 = false →
      s.serving = false →
      ∃ t, exec .metrologyIntervalClose s = .next t ∧ t.reg rCMTLASTK = cut 32 s.met.k ∧ t.met.k = s.metNumber (s.time.fireChip.get natZero (s.fget fCMTCFG_INT_TRIG)) ∧ t.met.nsamp = 0 ∧ t.flag fCMTSTAT_RUN = true ∧ t.met.cal = s.met.calFire ∧ t.met.role = s.met.roleFire ∧ bit t.time.fired 1 = false ∧
        t = { s with csr := t.csr, met := t.met, time := t.time, freeCtr := t.freeCtr }) ∧
    (∀ (s : State) (body : List Byte),
      s.clocked = true →
      bit s.time.fired 1 = true →
      s.cmtOn = true →
      s.flag fCMTSTAT_RUN = true →
      bit s.pwr.fenceReq 30 = false →
      s.serving = true →
      s.bal.metroHeld = [] →
      s.ingestOpen = true →
      s.ldg.inq = [] →
      body = s.metroBody s.met.blockEnd (s.metNumber (s.time.fireChip.get natZero (s.fget fCMTCFG_INT_TRIG)) ≠ s.met.k + 1) →
      s.ringTakes { kind := jkMetro, n := 1, epi := 0, body := body } = true →
      ∃ t, exec .metrologyIntervalClose s = .next t ∧ t.reg rCMTLASTK = cut 32 s.met.k ∧ t.met.k = s.metNumber (s.time.fireChip.get natZero (s.fget fCMTCFG_INT_TRIG)) ∧ t.met.nsamp = 0 ∧ t.flag fCMTSTAT_RUN = true ∧ t.met.cal = s.met.calFire ∧ t.met.role = s.met.roleFire ∧ bit t.time.fired 1 = false ∧ t.lastIsn = s.lastIsn + 1 ∧
        t.mem = (s.journaled { kind := jkMetro, n := 1, epi := 0, body := body }).mem ∧ t.mrm = (s.journaled { kind := jkMetro, n := 1, epi := 0, body := body }).mrm) ∧
    (∀ (s : State),
      s.clocked = true →
      bit s.time.fired 1 = true →
      s.cmtOn = true →
      s.flag fCMTSTAT_RUN = true →
      bit s.pwr.fenceReq 30 = true →
      ∃ t, exec .metrologyIntervalClose s = .next t ∧ t.flag fCMTSTAT_RUN = false ∧ t.reg rCMTLASTK = cut 32 s.met.k ∧ bit t.time.fired 1 = false) ∧
    (∀ (s : State),
      s.clocked = true →
      bit s.time.fired 1 = true →
      s.cmtOn = true →
      s.flag fCMTSTAT_RUN = false →
      s.timeValid = true →
      ∃ t, exec .metrologyIntervalClose s = .next t ∧ t.met.k = s.metNumber (s.time.fireChip.get natZero (s.fget fCMTCFG_INT_TRIG)) ∧ t.met.nsamp = 0 ∧ t.flag fCMTSTAT_RUN = true ∧ t.met.cal = s.met.calFire ∧ t.met.role = s.met.roleFire ∧ bit t.time.fired 1 = false ∧ t.reg rCMTLASTK = s.reg rCMTLASTK ∧
        t = { s with csr := t.csr, met := t.met, time := t.time }) ∧
    (∀ (s : State),
      s.clocked = true →
      bit s.time.fired 1 = true →
      s.cmtOn = false ∨ (s.flag fCMTSTAT_RUN = false ∧ s.timeValid = false) →
      exec .metrologyIntervalClose s = .next (s.setTime { s.time with fired := setBits s.time.fired 1 1 0 })) ∧
    (∀ (s : State),
      s.clocked = true →
      bit s.time.fired 1 = false →
      exec .metrologyIntervalClose s = .next s) ∧
    (∀ (ppm : BitVec 24) (s : State) (n : Nat),
      s.clocked = true →
      s.cmtOn = true →
      s.met.refAt + 2000000000 ≤ s.time.raw →
      s.refNext = some n →
      s.flag fCMTCFG_AUTOCAL = false →
      exec (.referenceCheck ppm) s = .next ((s.setMet { s.met with refAt := s.time.raw, refCh := n }).setReg (rCMTDRIFT n) (ppm.toNat + 2 ^ 31))) ∧
    (∀ (ppm : BitVec 24) (s : State) (n : Nat),
      s.clocked = true →
      s.cmtOn = true →
      s.met.refAt + 2000000000 ≤ s.time.raw →
      s.refNext = some n →
      s.flag fCMTCFG_AUTOCAL = true →
      ∃ t, exec (.referenceCheck ppm) s = .next t ∧ t.reg (rCMTDRIFT n) = ppm.toNat + 2 ^ 31 ∧ t.met.refAt = s.time.raw ∧ t.met.refCh = n ∧
        t.fget (fCMTCAL_GAIN n) = s.draw % 2 ^ (fCMTCAL_GAIN n).w ∧ t.flag fCMTSTAT_SHADOW = true ∧ t.met.cal = s.met.cal ∧
        t = { s with csr := t.csr, met := t.met, freeCtr := t.freeCtr }) ∧
    (∀ (ppm : BitVec 24) (s : State),
      s.clocked = true →
      s.cmtOn = false ∨ s.time.raw < s.met.refAt + 2000000000 ∨ s.refNext = none →
      exec (.referenceCheck ppm) s = .next s) ∧
    (∀ (a : Agent) (sel : Bool) (s : State),
      s.writes a rLOSTOPOSEL = true →
      s.flag fLOSSTAT_TOPO_PEND = false →
      s.ingestOpen = true →
      s.ldg.inq = [] →
      s.ringTakes { kind := jkTopo, n := 1, epi := 0, body := leBytes 1 (b2n sel) } = true →
      ∃ t, exec (.topoSelect a sel) s = .next t ∧ t.bal.topo = some (b2n sel) ∧ t.flag fLOSSTAT_TOPO_PEND = true ∧ t.lastIsn = s.lastIsn + 1 ∧
        t.answer.status = .done ∧ t.mem = (s.journaled { kind := jkTopo, n := 1, epi := 0, body := leBytes 1 (b2n sel) }).mem ∧ t.mrm = (s.journaled { kind := jkTopo, n := 1, epi := 0, body := leBytes 1 (b2n sel) }).mrm) ∧
    (∀ (a : Agent) (sel : Bool) (s : State),
      s.writes a rLOSTOPOSEL = true →
      s.flag fLOSSTAT_TOPO_PEND = true →
      exec (.topoSelect a sel) s = .next (s.say .engineBusy)) ∧
    (∀ (a : Agent) (sel : Bool) (s : State),
      s.writes a rLOSTOPOSEL = true →
      s.flag fLOSSTAT_TOPO_PEND = false →
      s.ingestOpen = false →
      s.lastIsn + 32 ≤ 2 ^ 48 - 2 ^ 25 →
      ∃ t, exec (.topoSelect a sel) s = .next t ∧ t.answer.status = .modeDenied ∧ t.bal = { s.bal with topoHeld := none } ∧ t = { s with bal := t.bal, answer := t.answer }) ∧
    (∀ (a : Agent) (sel : Bool) (s : State),
      s.writes a rLOSTOPOSEL = true →
      s.flag fLOSSTAT_TOPO_PEND = false →
      s.ingestOpen = true →
      s.ldg.inq ≠ [] →
      ∃ t, exec (.topoSelect a sel) s = .next t ∧ t.answer.status = .done ∧ t.bal = { s.bal with topoHeld := some (b2n sel) } ∧ t.flag fLOSSTAT_TOPO_PEND = true ∧ t.mem = s.mem ∧ t.mrm = s.mrm)

/-- PL_FRAME_RECEIVE at a triple that is receiving or sending, or with no port listening, changes nothing; energy, and a frame of a
mode it does not hear, only keep the medium busy. An SPL DATA frame whose FCH is right and whose map is known holds the triple
to its end, and its payload is taken as sent when the symbols not erased reach the SNR of its map and the blocks are whole, and
otherwise as the decoder (left open, a free value) gives it: one whose FCS passes is counted on the port of the best path,
handed on with its source when it is a KEP frame for this chip, and answered by an ACK that falls due RIFS after its end when it
asks this chip for one; one that fails is counted as an error and answered by a NACK with reason 1, and one of an unknown map by
reason 2. A bad FCH, or one of an ACK or NACK, only holds the triple. A G.9903 frame of the supported subset, in the modes that
hear it, is counted: data and commands are handed to the control firmware, segments are put together until the last, an ACK or
NACK ends the attempt that waits for it; one that fails its FCS, uses another part, is too long, or is secured with no AES
engine is counted as an error. TONE_MAP_EXPIRY of a map that is too old drops it, and of any other changes nothing. (R283, R292,
R296, R297, R298, R299, R300, R303, R308, R314, R329) -/
def Obligations.PowerlineReception : Prop :=
    (∀ (t : Fin 4) (h : PlHeard) (s : State),
      s.clocked = true →
      s.time.raw < s.plBusyEnd t.val →
      exec (.plFrameReceive t h) s = .next s) ∧
    (∀ (t : Fin 4) (e : Nat) (s : State),
      s.clocked = true →
      s.plBusyEnd t.val ≤ s.time.raw →
      ∃ t', exec (.plFrameReceive t (.energy e)) s = .next t' ∧ t' = { s with pl := t'.pl } ∧ (t'.plTri t.val) = { (s.plTri t.val) with busyTo := (t'.plTri t.val).busyTo, g3To := (t'.plTri t.val).g3To } ∧
        (t'.plTri t.val).busyTo = (if s.plMode t.val = plSpl ∨ s.plMode t.val = plDual then max (s.plTri t.val).busyTo e else (s.plTri t.val).busyTo) ∧
        (t'.plTri t.val).g3To = (if s.plMode t.val = plSpl then (s.plTri t.val).g3To else max (s.plTri t.val).g3To e) ∧ (∀ p, t'.plPort p = s.plPort p)) ∧
    (∀ (t : Fin 4) (paths : List PlPathRx) (fch psdu : List Byte) (ok : Bool) (e : Nat) (s : State),
      s.clocked = true →
      s.plBusyEnd t.val ≤ s.time.raw →
      s.plMode t.val ≠ plSpl →
      s.plMode t.val ≠ plDual →
      ∃ t', exec (.plFrameReceive t (.spl paths fch psdu ok e)) s = .next t' ∧ t' = { s with pl := t'.pl } ∧ (t'.plTri t.val) = { (s.plTri t.val) with busyTo := (t'.plTri t.val).busyTo, g3To := (t'.plTri t.val).g3To } ∧
        (t'.plTri t.val).busyTo = (if s.plMode t.val = plSpl ∨ s.plMode t.val = plDual then max (s.plTri t.val).busyTo e else (s.plTri t.val).busyTo) ∧
        (t'.plTri t.val).g3To = (if s.plMode t.val = plSpl then (s.plTri t.val).g3To else max (s.plTri t.val).g3To e) ∧ (∀ p, t'.plPort p = s.plPort p)) ∧
    (∀ (t : Fin 4) (paths : List PlPathRx) (parts : List G3Part) (kind : G3Kind) (fcs : Bool) (o : List Byte) (e : Nat) (s : State),
      s.clocked = true →
      s.plBusyEnd t.val ≤ s.time.raw →
      s.plMode t.val = plSpl ∨ g3Plan (s.plMode t.val) parts = false →
      ∃ t', exec (.plFrameReceive t (.g3 paths parts kind fcs o e)) s = .next t' ∧ t' = { s with pl := t'.pl } ∧ (t'.plTri t.val) = { (s.plTri t.val) with busyTo := (t'.plTri t.val).busyTo, g3To := (t'.plTri t.val).g3To } ∧
        (t'.plTri t.val).busyTo = (if s.plMode t.val = plSpl ∨ s.plMode t.val = plDual then max (s.plTri t.val).busyTo e else (s.plTri t.val).busyTo) ∧
        (t'.plTri t.val).g3To = (if s.plMode t.val = plSpl then (s.plTri t.val).g3To else max (s.plTri t.val).g3To e) ∧ (∀ p, t'.plPort p = s.plPort p)) ∧
    (∀ (t : Fin 4) (paths : List PlPathRx) (fch psdu : List Byte) (ok : Bool) (e : Nat) (s : State),
      s.clocked = true →
      s.plBusyEnd t.val ≤ s.time.raw →
      s.plMode t.val = plSpl ∨ s.plMode t.val = plDual →
      plBest (s.plListening t.val) (fun i => (plPathOf paths i).peak) = none →
      exec (.plFrameReceive t (.spl paths fch psdu ok e)) s = .next s) ∧
    (∀ (t : Fin 4) (paths : List PlPathRx) (parts : List G3Part) (kind : G3Kind) (fcs : Bool) (o : List Byte) (e : Nat) (s : State),
      s.clocked = true →
      s.plBusyEnd t.val ≤ s.time.raw →
      s.plMode t.val ≠ plSpl →
      g3Plan (s.plMode t.val) parts = true →
      plBest (s.plListening t.val) (fun i => (plPathOf paths i).peak) = none →
      exec (.plFrameReceive t (.g3 paths parts kind fcs o e)) s = .next s) ∧
    (∀ (t : Fin 4) (paths : List PlPathRx) (fch psdu : List Byte) (ok : Bool) (e : Nat) (s : State) (best : Nat),
      s.clocked = true →
      s.plBusyEnd t.val ≤ s.time.raw →
      s.plMode t.val = plSpl ∨ s.plMode t.val = plDual →
      plBest (s.plListening t.val) (fun i => (plPathOf paths i).peak) = some best →
      s.fchOk fch = false →
      ∃ t', exec (.plFrameReceive t (.spl paths fch psdu ok e)) s = .next t' ∧ t' = { s with pl := t'.pl } ∧ (t'.plTri t.val) = { (s.plTri t.val) with busyTo := (t'.plTri t.val).busyTo, rxTo := (t'.plTri t.val).rxTo } ∧
        (t'.plTri t.val).rxTo = max (s.plTri t.val).rxTo (s.time.raw + usRaw (s.plAckUs t.val)) ∧ (t'.plTri t.val).busyTo = max (s.plTri t.val).busyTo (max e (s.time.raw + usRaw (s.plAckUs t.val))) ∧ (∀ p, t'.plPort p = s.plPort p)) ∧
    (∀ (t : Fin 4) (paths : List PlPathRx) (fch psdu : List Byte) (ok : Bool) (e : Nat) (s : State) (best : Nat),
      s.clocked = true →
      s.plBusyEnd t.val ≤ s.time.raw →
      s.plMode t.val = plSpl ∨ s.plMode t.val = plDual →
      plBest (s.plListening t.val) (fun i => (plPathOf paths i).peak) = some best →
      s.fchOk fch = true →
      be fch 0 1 / 32 ≠ 0 →
      ∃ t', exec (.plFrameReceive t (.spl paths fch psdu ok e)) s = .next t' ∧ t' = { s with pl := t'.pl } ∧ (t'.plTri t.val) = { (s.plTri t.val) with busyTo := (t'.plTri t.val).busyTo, rxTo := (t'.plTri t.val).rxTo } ∧
        (t'.plTri t.val).rxTo = max (s.plTri t.val).rxTo (s.time.raw + usRaw (s.plAckUs t.val)) ∧ (t'.plTri t.val).busyTo = max (s.plTri t.val).busyTo (max (max e (s.time.raw + usRaw (s.plAckUs t.val))) (s.time.raw + usRaw (s.plAckUs t.val) + usRaw (16 * be fch 4 2))) ∧ (∀ p, t'.plPort p = s.plPort p)) ∧
    (∀ (t : Fin 4) (paths : List PlPathRx) (fch psdu : List Byte) (ok : Bool) (e : Nat) (s : State) (best stop : Nat) (asks : Bool) (m : ToneMap) (d : List Byte),
      s.clocked = true →
      s.plBusyEnd t.val ≤ s.time.raw →
      s.plMode t.val = plSpl ∨ s.plMode t.val = plDual →
      plBest (s.plListening t.val) (fun i => (plPathOf paths i).peak) = some best →
      s.fchOk fch = true →
      be fch 0 1 / 32 = 0 →
      stop = s.time.raw + usRaw (s.plAckUs t.val) + usRaw (528 * (be fch 2 2 % 1024)) →
      asks = (bit (be fch 0 1) 1 && decide (be fch 8 2 = s.fget fKEYID_EUI % 2 ^ 16)) →
      s.plRxMap t.val (be fch 1 1) (be psdu 12 8) = some m →
      d = (if ok && plBlocksOk (be fch 2 2 / 1024 % 4) 4 ((List.range (be fch 2 2 % 1024)).map fun j =>
          (s.plLeft (s.plFold t.val best paths) paths j).isEmpty) then psdu
        else Config.plDecode (be fch 2 2 / 1024 % 4) (s.plSoft t.val (s.plFold t.val best paths) paths (be fch 2 2 % 1024))) →
      plFcsOk d = true →
      ∃ t', exec (.plFrameReceive t (.spl paths fch psdu ok e)) s = .next t' ∧ stop ≤ (t'.plTri t.val).rxTo ∧ stop ≤ (t'.plTri t.val).busyTo ∧
        t'.fget (fPLRXOK_COUNT (3 * t.val + best)) = (s.fget (fPLRXOK_COUNT (3 * t.val + best)) + 1) % 2 ^ (fPLRXOK_COUNT 0).w ∧
        t'.fget (fPLRXERR_COUNT (3 * t.val + best)) = s.fget (fPLRXERR_COUNT (3 * t.val + best)) ∧
        (be d 0 1 / 16 = 0 → (be d 4 8 = s.fget fKEYID_EUI ∨ be d 4 8 = euiAll) → bit (be d 0 1) 3 = false →
          ∃ x hdr, t'.delivered = x :: s.delivered ∧ x.dest = .hw ∧ x.src = 0x10 + 3 * t.val + best ∧ x.bytes = hdr ++ sub d 20 (d.length - 24)) ∧
        (be d 0 1 / 16 = 0 → (be d 4 8 = s.fget fKEYID_EUI ∨ be d 4 8 = euiAll) → bit (be d 0 1) 3 = true → (be d 28 8 = s.fget fKEYID_EUI ∨ be d 28 8 = euiAll) →
          ∃ x hdr, t'.delivered = x :: s.delivered ∧ x.dest = .hw ∧ x.src = 0x10 + 3 * t.val + best ∧ x.bytes = hdr ++ sub d 38 (d.length - 42)) ∧
        (be d 0 1 / 16 ≠ 0 → t'.delivered = s.delivered) ∧
        (be d 4 8 ≠ s.fget fKEYID_EUI → be d 4 8 ≠ euiAll → t'.delivered = s.delivered) ∧
        (asks = false → (t'.plTri t.val).owed = (s.plTri t.val).owed) ∧
        (asks = true → be d 4 8 = s.fget fKEYID_EUI → ∃ o, (t'.plTri t.val).owed = some o ∧ o.due = stop + usRaw 1056 ∧ o.port = 3 * t.val + best ∧
          be o.fch 0 1 / 32 = 1 ∧ be o.fch 6 2 = be d (d.length - 4) 4 % 2 ^ 16) ∧
        (∀ x, x < nbtAddr 0 ∨ nbtAddr 65536 ≤ x → t'.byte x = s.byte x) ∧ t'.kep = s.kep ∧ t'.wire = s.wire) ∧
    (∀ (t : Fin 4) (paths : List PlPathRx) (fch psdu : List Byte) (ok : Bool) (e : Nat) (s : State) (best stop : Nat) (asks : Bool) (m : ToneMap) (d : List Byte),
      s.clocked = true →
      s.plBusyEnd t.val ≤ s.time.raw →
      s.plMode t.val = plSpl ∨ s.plMode t.val = plDual →
      plBest (s.plListening t.val) (fun i => (plPathOf paths i).peak) = some best →
      s.fchOk fch = true →
      be fch 0 1 / 32 = 0 →
      stop = s.time.raw + usRaw (s.plAckUs t.val) + usRaw (528 * (be fch 2 2 % 1024)) →
      asks = (bit (be fch 0 1) 1 && decide (be fch 8 2 = s.fget fKEYID_EUI % 2 ^ 16)) →
      s.plRxMap t.val (be fch 1 1) (be psdu 12 8) = some m →
      d = (if ok && plBlocksOk (be fch 2 2 / 1024 % 4) 4 ((List.range (be fch 2 2 % 1024)).map fun j =>
          (s.plLeft (s.plFold t.val best paths) paths j).isEmpty) then psdu
        else Config.plDecode (be fch 2 2 / 1024 % 4) (s.plSoft t.val (s.plFold t.val best paths) paths (be fch 2 2 % 1024))) →
      plFcsOk d = false →
      ∃ t', exec (.plFrameReceive t (.spl paths fch psdu ok e)) s = .next t' ∧ stop ≤ (t'.plTri t.val).rxTo ∧ stop ≤ (t'.plTri t.val).busyTo ∧
        t'.fget (fPLRXERR_COUNT (3 * t.val + best)) = satAdd (fPLRXERR_COUNT 0).w (s.fget (fPLRXERR_COUNT (3 * t.val + best))) 1 ∧
        t'.fget (fPLRXOK_COUNT (3 * t.val + best)) = s.fget (fPLRXOK_COUNT (3 * t.val + best)) ∧ t'.delivered = s.delivered ∧ t'.mem = s.mem ∧
        (asks = false → (t'.plTri t.val).owed = (s.plTri t.val).owed) ∧
        (asks = true → ∃ o, (t'.plTri t.val).owed = some o ∧ o.due = stop + usRaw 1056 ∧ o.port = 3 * t.val + best ∧ be o.fch 0 1 / 32 = 2 ∧ be o.fch 9 1 = 1)) ∧
    (∀ (t : Fin 4) (paths : List PlPathRx) (fch psdu : List Byte) (ok : Bool) (e : Nat) (s : State) (best stop : Nat) (asks : Bool),
      s.clocked = true →
      s.plBusyEnd t.val ≤ s.time.raw →
      s.plMode t.val = plSpl ∨ s.plMode t.val = plDual →
      plBest (s.plListening t.val) (fun i => (plPathOf paths i).peak) = some best →
      s.fchOk fch = true →
      be fch 0 1 / 32 = 0 →
      stop = s.time.raw + usRaw (s.plAckUs t.val) + usRaw (528 * (be fch 2 2 % 1024)) →
      asks = (bit (be fch 0 1) 1 && decide (be fch 8 2 = s.fget fKEYID_EUI % 2 ^ 16)) →
      s.plRxMap t.val (be fch 1 1) (be psdu 12 8) = none →
      ∃ t', exec (.plFrameReceive t (.spl paths fch psdu ok e)) s = .next t' ∧ stop ≤ (t'.plTri t.val).rxTo ∧ stop ≤ (t'.plTri t.val).busyTo ∧ t'.delivered = s.delivered ∧ t'.mem = s.mem ∧
        t'.fget (fPLRXOK_COUNT (3 * t.val + best)) = s.fget (fPLRXOK_COUNT (3 * t.val + best)) ∧ t'.fget (fPLRXERR_COUNT (3 * t.val + best)) = s.fget (fPLRXERR_COUNT (3 * t.val + best)) ∧
        (asks = false → (t'.plTri t.val).owed = (s.plTri t.val).owed) ∧
        (asks = true → ∃ o, (t'.plTri t.val).owed = some o ∧ o.due = stop + usRaw 1056 ∧ o.port = 3 * t.val + best ∧ be o.fch 0 1 / 32 = 2 ∧ be o.fch 9 1 = 2)) ∧
    (∀ (t : Fin 4) (paths : List PlPathRx) (parts : List G3Part) (kind : G3Kind) (fcs : Bool) (o : List Byte) (e : Nat) (s : State) (best : Nat),
      s.clocked = true →
      s.plBusyEnd t.val ≤ s.time.raw →
      s.plMode t.val ≠ plSpl →
      g3Plan (s.plMode t.val) parts = true →
      plBest (s.plListening t.val) (fun i => (plPathOf paths i).peak) = some best →
      fcs = true →
      parts.all G3Part.supported = true →
      o.length ≤ 1280 →
      (parts.contains .secured && s.aesGone) = false →
      kind = .data ∨ kind = .command →
      ∃ t', exec (.plFrameReceive t (.g3 paths parts kind fcs o e)) s = .next t' ∧ (t'.plTri t.val).rxTo = max (s.plTri t.val).rxTo e ∧ (t'.plTri t.val).g3To = max (s.plTri t.val).g3To e ∧
        t'.fget (fPLRXOK_COUNT (3 * t.val + best)) = (s.fget (fPLRXOK_COUNT (3 * t.val + best)) + 1) % 2 ^ (fPLRXOK_COUNT 0).w ∧
        (∃ x, t'.delivered = x :: s.delivered ∧ x.dest = .controlFw ∧ x.src = 0x10 + 3 * t.val + best ∧ x.bytes = o) ∧ t'.mem = s.mem ∧ t'.wire = s.wire ∧ (∀ p, t'.plPort p = s.plPort p)) ∧
    (∀ (t : Fin 4) (paths : List PlPathRx) (parts : List G3Part) (fcs : Bool) (o : List Byte) (e : Nat) (s : State) (best : Nat),
      s.clocked = true →
      s.plBusyEnd t.val ≤ s.time.raw →
      s.plMode t.val ≠ plSpl →
      g3Plan (s.plMode t.val) parts = true →
      plBest (s.plListening t.val) (fun i => (plPathOf paths i).peak) = some best →
      fcs = true →
      parts.all G3Part.supported = true →
      o.length ≤ 1280 →
      (parts.contains .secured && s.aesGone) = false →
      ((s.plTri t.val).g3Part ++ o).length ≤ 1280 →
      ∃ t', exec (.plFrameReceive t (.g3 paths parts (.segment false) fcs o e)) s = .next t' ∧ (t'.plTri t.val).rxTo = max (s.plTri t.val).rxTo e ∧ (t'.plTri t.val).g3To = max (s.plTri t.val).g3To e ∧
        t'.fget (fPLRXOK_COUNT (3 * t.val + best)) = (s.fget (fPLRXOK_COUNT (3 * t.val + best)) + 1) % 2 ^ (fPLRXOK_COUNT 0).w ∧
        (t'.plTri t.val).g3Part = (s.plTri t.val).g3Part ++ o ∧ t'.delivered = s.delivered ∧ t'.mem = s.mem ∧ (∀ p, t'.plPort p = s.plPort p)) ∧
    (∀ (t : Fin 4) (paths : List PlPathRx) (parts : List G3Part) (fcs : Bool) (o : List Byte) (e : Nat) (s : State) (best : Nat),
      s.clocked = true →
      s.plBusyEnd t.val ≤ s.time.raw →
      s.plMode t.val ≠ plSpl →
      g3Plan (s.plMode t.val) parts = true →
      plBest (s.plListening t.val) (fun i => (plPathOf paths i).peak) = some best →
      fcs = true →
      parts.all G3Part.supported = true →
      o.length ≤ 1280 →
      (parts.contains .secured && s.aesGone) = false →
      ((s.plTri t.val).g3Part ++ o).length ≤ 1280 →
      ∃ t', exec (.plFrameReceive t (.g3 paths parts (.segment true) fcs o e)) s = .next t' ∧ (t'.plTri t.val).rxTo = max (s.plTri t.val).rxTo e ∧ (t'.plTri t.val).g3To = max (s.plTri t.val).g3To e ∧
        t'.fget (fPLRXOK_COUNT (3 * t.val + best)) = (s.fget (fPLRXOK_COUNT (3 * t.val + best)) + 1) % 2 ^ (fPLRXOK_COUNT 0).w ∧
        (t'.plTri t.val).g3Part = [] ∧ (∃ x, t'.delivered = x :: s.delivered ∧ x.dest = .controlFw ∧ x.src = 0x10 + 3 * t.val + best ∧ x.bytes = (s.plTri t.val).g3Part ++ o) ∧ t'.mem = s.mem ∧ (∀ p, t'.plPort p = s.plPort p)) ∧
    (∀ (t : Fin 4) (paths : List PlPathRx) (parts : List G3Part) (fcs : Bool) (o : List Byte) (e : Nat) (s : State) (best : Nat) (last : Bool),
      s.clocked = true →
      s.plBusyEnd t.val ≤ s.time.raw →
      s.plMode t.val ≠ plSpl →
      g3Plan (s.plMode t.val) parts = true →
      plBest (s.plListening t.val) (fun i => (plPathOf paths i).peak) = some best →
      fcs = true →
      parts.all G3Part.supported = true →
      o.length ≤ 1280 →
      (parts.contains .secured && s.aesGone) = false →
      1280 < ((s.plTri t.val).g3Part ++ o).length →
      ∃ t', exec (.plFrameReceive t (.g3 paths parts (.segment last) fcs o e)) s = .next t' ∧ (t'.plTri t.val).rxTo = max (s.plTri t.val).rxTo e ∧ (t'.plTri t.val).g3To = max (s.plTri t.val).g3To e ∧
        (t'.plTri t.val).g3Part = [] ∧ t'.delivered = s.delivered ∧ t'.fget (fPLRXERR_COUNT (3 * t.val + best)) = satAdd (fPLRXERR_COUNT 0).w (s.fget (fPLRXERR_COUNT (3 * t.val + best))) 1) ∧
    (∀ (t : Fin 4) (paths : List PlPathRx) (parts : List G3Part) (kind : G3Kind) (fcs : Bool) (o : List Byte) (e : Nat) (s : State) (best : Nat) (q : Nat) (f : PlFrame) (fs : List PlFrame),
      s.clocked = true →
      s.plBusyEnd t.val ≤ s.time.raw →
      s.plMode t.val ≠ plSpl →
      g3Plan (s.plMode t.val) parts = true →
      plBest (s.plListening t.val) (fun i => (plPathOf paths i).peak) = some best →
      fcs = true →
      parts.all G3Part.supported = true →
      o.length ≤ 1280 →
      (parts.contains .secured && s.aesGone) = false →
      kind = .ack →
      s.plG3Waits t.val = some q →
      (s.plPort q).queue = f :: fs →
      ∃ t', exec (.plFrameReceive t (.g3 paths parts kind fcs o e)) s = .next t' ∧ (t'.plTri t.val).rxTo = max (s.plTri t.val).rxTo e ∧ (t'.plTri t.val).g3To = max (s.plTri t.val).g3To e ∧
        t'.fget (fPLRXOK_COUNT (3 * t.val + best)) = (s.fget (fPLRXOK_COUNT (3 * t.val + best)) + 1) % 2 ^ (fPLRXOK_COUNT 0).w ∧
        t'.delivered = s.delivered ∧ (t'.plPort q).queue = fs ∧ (t'.plPort q).e = 0 ∧ (t'.plPort q).tx = (s.plPort q).tx.map (fun x => { x with ended := true }) ∧
        t'.fget (fPLTXOK_COUNT q) = (s.fget (fPLTXOK_COUNT q) + 1) % 2 ^ (fPLTXOK_COUNT 0).w) ∧
    (∀ (t : Fin 4) (paths : List PlPathRx) (parts : List G3Part) (kind : G3Kind) (fcs : Bool) (o : List Byte) (e : Nat) (s : State) (best : Nat) (q : Nat) (f : PlFrame) (fs : List PlFrame),
      s.clocked = true →
      s.plBusyEnd t.val ≤ s.time.raw →
      s.plMode t.val ≠ plSpl →
      g3Plan (s.plMode t.val) parts = true →
      plBest (s.plListening t.val) (fun i => (plPathOf paths i).peak) = some best →
      fcs = true →
      parts.all G3Part.supported = true →
      o.length ≤ 1280 →
      (parts.contains .secured && s.aesGone) = false →
      kind = .nack →
      s.plG3Waits t.val = some q →
      (s.plPort q).queue = f :: fs →
      f.ackReq = true →
      f.tries < s.fget (fPLACC_MAXRETRY q) →
      ∃ t', exec (.plFrameReceive t (.g3 paths parts kind fcs o e)) s = .next t' ∧ (t'.plTri t.val).rxTo = max (s.plTri t.val).rxTo e ∧ (t'.plTri t.val).g3To = max (s.plTri t.val).g3To e ∧
        t'.fget (fPLRXOK_COUNT (3 * t.val + best)) = (s.fget (fPLRXOK_COUNT (3 * t.val + best)) + 1) % 2 ^ (fPLRXOK_COUNT 0).w ∧
        t'.delivered = s.delivered ∧ (t'.plPort q).queue = { f with left := none, tries := f.tries + 1 } :: fs ∧
        (t'.plPort q).tx = (s.plPort q).tx.map (fun x => { x with ended := true })) ∧
    (∀ (t : Fin 4) (paths : List PlPathRx) (parts : List G3Part) (kind : G3Kind) (fcs : Bool) (o : List Byte) (e : Nat) (s : State) (best : Nat),
      s.clocked = true →
      s.plBusyEnd t.val ≤ s.time.raw →
      s.plMode t.val ≠ plSpl →
      g3Plan (s.plMode t.val) parts = true →
      plBest (s.plListening t.val) (fun i => (plPathOf paths i).peak) = some best →
      fcs = false ∨ parts.all G3Part.supported = false ∨ 1280 < o.length ∨ (parts.contains .secured && s.aesGone) = true →
      ∃ t', exec (.plFrameReceive t (.g3 paths parts kind fcs o e)) s = .next t' ∧ (t'.plTri t.val).rxTo = max (s.plTri t.val).rxTo e ∧ (t'.plTri t.val).g3To = max (s.plTri t.val).g3To e ∧
        t'.fget (fPLRXERR_COUNT (3 * t.val + best)) = satAdd (fPLRXERR_COUNT 0).w (s.fget (fPLRXERR_COUNT (3 * t.val + best))) 1 ∧ t'.delivered = s.delivered ∧
        t' = { s with csr := t'.csr, pl := t'.pl } ∧ (∀ p, t'.plPort p = s.plPort p)) ∧
    (∀ (i : Half) (s : State),
      s.clocked = true →
      s.nbValid i.toNat = true →
      s.nbMedium i.toNat < 4 →
      (s.nbMap i.toNat 24).tmid ≠ 0 →
      s.pl.mapAt.get (fun _ => 0) i.toNat + secRaw (4 * s.nb i.toNat 48 1) ≤ s.time.raw + 1 →
      ∃ t, exec (.toneMapExpiry i) s = .next t ∧ t.bytes (nbtAddr i.toNat + 24) 25 = List.replicate 25 0 ∧ (t.nbMap i.toNat 24).tmid = 0 ∧
        (∀ x, x < nbtAddr i.toNat + 16 ∨ nbtAddr i.toNat + 49 ≤ x → t.byte x = s.byte x) ∧ t = { s with mem := t.mem, poison := t.poison, soft := t.soft }) ∧
    (∀ (i : Half) (s : State),
      s.clocked = true →
      s.nbValid i.toNat = false ∨ 4 ≤ s.nbMedium i.toNat ∨ (s.nbMap i.toNat 24).tmid = 0 ∨ s.time.raw + 1 < s.pl.mapAt.get (fun _ => 0) i.toNat + secRaw (4 * s.nb i.toNat 48 1) →
      exec (.toneMapExpiry i) s = .next s)

/-- PL_TX_QUEUE puts a unicast frame at the end of the port's queue, direct to a destination without a neighbour entry and otherwise
on the path chosen, asking for an ACK; a broadcast goes to every enabled port of the triple; a G.9903 frame is queued as it is;
a frame of the message layer goes to the port of its path. One too long for the PSDU or the symbol limit is refused with
BAD_ARGUMENT and takes no SEQ; one for a port without a driver is dropped and counted. DRIVER_REQUEST stamps the request of a
port whose head frame may go or whose triple owes an ACK, and changes nothing otherwise. DRIVER_GRANT gives the lowest free
driver to the oldest request it can serve. DRIVER_RELEASE at the end of an attempt frees the driver, and when an owed ACK could
not start at RIFS counts it as lost. DRIVER_MAXDEFER_EXPIRY frees the driver of a grant that has not been used in time. (R145,
R293, R311, R319, R321, R322, R323, R325, R328) -/
def Obligations.PowerlineQueuesAndDrivers : Prop :=
    (∀ (p : Fin 12) (dst : DWord) (pri : Fin 5) (mtype : Fin 16) (body : List Byte) (fid : Option Half) (s : State) (f : PlFrame),
      s.clocked = true →
      dst.toNat ≠ euiAll →
      s.nbFind dst.toNat (p.val / 3) = none →
      f = { dst := dst.toNat, pri := pri.val, mtype := mtype.val, body := body, seq := s.pl.seq, ackReq := true, fid := fid.map BitVec.toNat } →
      s.plRefuses p.val f = false →
      s.plWired p.val = true →
      ∃ t, exec (.plTxQueue (.spl p dst pri mtype body fid)) s = .next t ∧ t.answer.status = .done ∧ (t.plPort p.val) = { (s.plPort p.val) with queue := (s.plPort p.val).queue ++ [f] } ∧ (∀ q, q ≠ p.val → t.plPort q = s.plPort q) ∧ t.pl.seq = (s.pl.seq + 1) % 2 ^ 16 ∧ t = { s with pl := t.pl, answer := t.answer }) ∧
    (∀ (p : Fin 12) (dst : DWord) (pri : Fin 5) (mtype : Fin 16) (body : List Byte) (fid : Option Half) (s : State) (f : PlFrame),
      s.clocked = true →
      dst.toNat ≠ euiAll →
      s.nbFind dst.toNat (p.val / 3) = none →
      f = { dst := dst.toNat, pri := pri.val, mtype := mtype.val, body := body, seq := s.pl.seq, ackReq := true, fid := fid.map BitVec.toNat } →
      s.plRefuses p.val f = false →
      s.plWired p.val = false →
      ∃ t, exec (.plTxQueue (.spl p dst pri mtype body fid)) s = .next t ∧ t.answer.status = .done ∧ t.fget (fPLNODRV_COUNT p.val) = satAdd (fPLNODRV_COUNT 0).w (s.fget (fPLNODRV_COUNT p.val)) 1 ∧
        (∀ q, t.plPort q = s.plPort q) ∧ t.pl.seq = (s.pl.seq + 1) % 2 ^ 16 ∧ t = { s with csr := t.csr, pl := t.pl, answer := t.answer }) ∧
    (∀ (p : Fin 12) (dst : DWord) (pri : Fin 5) (mtype : Fin 16) (body : List Byte) (fid : Option Half) (s : State) (f : PlFrame),
      s.clocked = true →
      dst.toNat ≠ euiAll →
      s.nbFind dst.toNat (p.val / 3) = none →
      f = { dst := dst.toNat, pri := pri.val, mtype := mtype.val, body := body, seq := s.pl.seq, ackReq := true, fid := fid.map BitVec.toNat } →
      s.plRefuses p.val f = true →
      exec (.plTxQueue (.spl p dst pri mtype body fid)) s = .next (s.say .badArgument)) ∧
    (∀ (p : Nat) (f : PlFrame) (s : State),
      f.g3 = false →
      1280 < (if f.via.isSome then 38 else 20) + f.body.length + 4 →
      s.plRefuses p f = true) ∧
    (∀ (p : Fin 12) (dst : DWord) (pri : Fin 5) (mtype : Fin 16) (body : List Byte) (fid : Option Half) (s : State) (i : Nat) (u : State) (c : Option PlCand) (f : PlFrame),
      s.clocked = true →
      dst.toNat ≠ euiAll →
      s.nbFind dst.toNat (p.val / 3) = some i →
      s.plPath i = (u, c) →
      f = { dst := dst.toNat, pri := pri.val, mtype := mtype.val, body := body, seq := s.pl.seq, ackReq := true, via := c.map (·.eui), fid := fid.map BitVec.toNat } →
      u.plRefuses p.val f = false →
      u.plWired p.val = true →
      ∃ t, exec (.plTxQueue (.spl p dst pri mtype body fid)) s = .next t ∧ t.answer.status = .done ∧ (t.plPort p.val) = { (s.plPort p.val) with queue := (s.plPort p.val).queue ++ [f] } ∧ (∀ q, q ≠ p.val → t.plPort q = s.plPort q) ∧ t.pl.seq = (s.pl.seq + 1) % 2 ^ 16 ∧ t.mem = u.mem ∧ t = { s with pl := t.pl, mem := t.mem, poison := t.poison, soft := t.soft, answer := t.answer }) ∧
    (∀ (p : Fin 12) (dst : DWord) (pri : Fin 5) (mtype : Fin 16) (body : List Byte) (fid : Option Half) (s : State) (i : Nat) (u : State) (c : Option PlCand) (f : PlFrame),
      s.clocked = true →
      dst.toNat ≠ euiAll →
      s.nbFind dst.toNat (p.val / 3) = some i →
      s.plPath i = (u, c) →
      f = { dst := dst.toNat, pri := pri.val, mtype := mtype.val, body := body, seq := s.pl.seq, ackReq := true, via := c.map (·.eui), fid := fid.map BitVec.toNat } →
      u.plRefuses p.val f = true →
      exec (.plTxQueue (.spl p dst pri mtype body fid)) s = .next (s.say .badArgument)) ∧
    (∀ (s u : State) (i : Nat) (c : Option PlCand),
      s.plPath i = (u, c) →
      ∀ x, x < nbtAddr i + 120 ∨ nbtAddr i + 123 ≤ x → u.byte x = s.byte x) ∧
    (∀ (p : Fin 12) (dst : DWord) (pri : Fin 5) (mtype : Fin 16) (body : List Byte) (fid : Option Half) (s : State) (f : PlFrame),
      s.clocked = true →
      dst.toNat = euiAll →
      f = { dst := dst.toNat, pri := pri.val, mtype := mtype.val, body := body, seq := s.pl.seq, ackReq := false, bid := some s.pl.bid, fid := fid.map BitVec.toNat } →
      (List.range 3).all (fun j => !s.flag (fPLCFG_EN (3 * (p.val / 3) + j)) || ! s.plRefuses (3 * (p.val / 3) + j) f) = true →
      ∃ t, exec (.plTxQueue (.spl p dst pri mtype body fid)) s = .next t ∧ t.answer.status = .done ∧ t.pl.seq = (s.pl.seq + 1) % 2 ^ 16 ∧ t.pl.bid = s.pl.bid + 1 ∧ t.mem = s.mem ∧
        (∀ q, t.plPort q = (if q / 3 = p.val / 3 ∧ s.flag (fPLCFG_EN q) = true ∧ s.plWired q = true then { s.plPort q with queue := (s.plPort q).queue ++ [f] } else s.plPort q))) ∧
    (∀ (p : Fin 12) (dst : DWord) (pri : Fin 5) (mtype : Fin 16) (body : List Byte) (fid : Option Half) (s : State) (f : PlFrame) (j : Fin 3),
      s.clocked = true →
      dst.toNat = euiAll →
      f = { dst := dst.toNat, pri := pri.val, mtype := mtype.val, body := body, seq := s.pl.seq, ackReq := false, bid := some s.pl.bid, fid := fid.map BitVec.toNat } →
      s.flag (fPLCFG_EN (3 * (p.val / 3) + j.val)) = true →
      s.plRefuses (3 * (p.val / 3) + j.val) f = true →
      exec (.plTxQueue (.spl p dst pri mtype body fid)) s = .next (s.say .badArgument)) ∧
    (∀ (p : Fin 12) (dst : DWord) (pri : Fin 5) (o : List Byte) (ack : Bool) (fid : Option Half) (s : State),
      s.clocked = true →
      o.length ≤ 1280 →
      s.plWired p.val = true →
      ∃ t f, exec (.plTxQueue (.g3 p dst pri o ack fid)) s = .next t ∧ t.answer.status = .done ∧ (t.plPort p.val) = { (s.plPort p.val) with queue := (s.plPort p.val).queue ++ [f] } ∧ (∀ q, q ≠ p.val → t.plPort q = s.plPort q) ∧ f.g3 = true ∧ f.body = o ∧ f.ackReq = ack ∧ f.pri = pri.val ∧ f.dst = dst.toNat ∧
        t = { s with pl := t.pl, answer := t.answer } ∧ t.pl.seq = s.pl.seq) ∧
    (∀ (p : Fin 12) (dst : DWord) (pri : Fin 5) (o : List Byte) (ack : Bool) (fid : Option Half) (s : State),
      s.clocked = true →
      1280 < o.length →
      exec (.plTxQueue (.g3 p dst pri o ack fid)) s = .next (s.say .badArgument)) ∧
    (∀ (p : Fin 12) (dst : DWord) (pri : Fin 5) (o : List Byte) (ack : Bool) (fid : Option Half) (s : State),
      s.clocked = true →
      o.length ≤ 1280 →
      s.plWired p.val = false →
      exec (.plTxQueue (.g3 p dst pri o ack fid)) s = .next ((s.bump (fPLNODRV_COUNT p.val) 1).say .done)) ∧
    (∀ (n : Nat) (s : State) (f : PortFrame) (p : Nat),
      s.clocked = true →
      s.kep.out[n]? = some f →
      s.plPortFor f = some p →
      exec (.plTxQueue (.out n)) s = .next ((s.setKep { s.kep with out := s.kep.out.eraseIdx n }).plSend p (if 2 ≤ f.kind then euiAll else f.link)
          (if f.kind = 3 then 0 else if be f.frame 1 1 = 0x03 then 1 else if be f.frame 1 1 = 0x11 then 3 else 4) 0 f.frame f.notBefore f.fid
          (decide (f.kind = 0)) f.ackBy)) ∧
    (∀ (n : Nat) (s : State),
      s.clocked = true →
      s.kep.out[n]?.bind s.plPortFor = none →
      exec (.plTxQueue (.out n)) s = .next s) ∧
    (∀ (p : Fin 12) (s : State) (f : PlFrame) (fs : List PlFrame),
      s.clocked = true →
      (s.plPort p.val).req = none →
      s.plOn p.val = true →
      (s.plPort p.val).queue = f :: fs →
      s.plInOrder p.val f = true →
      exec (.driverRequest p) s = .next (s.setPlPort p.val { (s.plPort p.val) with req := some (s.time.raw * 32 / 1000) })) ∧
    (∀ (p : Fin 12) (s : State) (o : PlOwe),
      s.clocked = true →
      (s.plPort p.val).req = none →
      s.plOn p.val = true →
      (s.plTri (p.val / 3)).owed = some o →
      exec (.driverRequest p) s = .next (s.setPlPort p.val { (s.plPort p.val) with req := some (s.time.raw * 32 / 1000) })) ∧
    (∀ (p : Fin 12) (s : State),
      s.clocked = true →
      (s.plPort p.val).req.isSome = true ∨ s.plOn p.val = false ∨ ((s.plTri (p.val / 3)).owed = none ∧ ((s.plPort p.val).queue = [] ∨ ((s.plPort p.val).queue.map (s.plInOrder p.val)).head? = some false)) →
      exec (.driverRequest p) s = .next s) ∧
    (∀ (s : State) (k p : Nat) (r : Nat),
      s.clocked = true →
      k < 4 →
      (List.range k).all (fun j => (s.plDriver j).isSome || (s.plOldest j).isNone) = true →
      s.plDriver k = none →
      s.plOldest k = some p →
      (s.plPort p).req = some r →
      ∃ t, exec .driverGrant s = .next t ∧ t.plPort p = { s.plPort p with gnt := some (k, s.time.raw), yielded := (s.plPort p).yielded && s.plOwes (p / 3) } ∧
        (∀ q, q ≠ p → t.plPort q = s.plPort q) ∧ t.pl.triples = s.pl.triples ∧
        t.fget (fPLWAITMAX_US p) = min (max (s.fget (fPLWAITMAX_US p)) ((s.plCycles - r) / 32)) (2 ^ 32 - 1) ∧ t = { s with csr := t.csr, pl := t.pl }) ∧
    (∀ (s : State),
      s.clocked = true →
      (List.range 4).all (fun j => (s.plDriver j).isSome || (s.plOldest j).isNone) = true →
      exec .driverGrant s = .next s) ∧
    (∀ (s : State) (k p : Nat),
      s.plOldest k = some p →
      p < 12 ∧ bit (s.fget (fPLSLDMAP_PORTS k)) p = true ∧ (s.plPort p).req.isSome = true ∧ (s.plPort p).gnt = none ∧
        (∀ q, q < 12 → bit (s.fget (fPLSLDMAP_PORTS k)) q = true → (s.plPort q).req.isSome = true → (s.plPort q).gnt = none → (s.plPort q).yielded = false →
          min (s.plCycles - ((s.plPort q).req.getD 0)) (2 ^ 31 - 1) ≤ min (s.plCycles - ((s.plPort p).req.getD 0)) (2 ^ 31 - 1))) ∧
    (∀ (p : Fin 12) (s : State) (x : PlTx),
      s.clocked = true →
      (s.plPort p.val).tx = some x →
      x.isAck = false →
      x.ackReq = false →
      x.txEnd ≤ s.time.raw →
      ∃ t, exec (.driverRelease p) s = .next t ∧ (t.plPort p.val).req = none ∧ (t.plPort p.val).gnt = none ∧ (t.plPort p.val).tx = none ∧ (t.plPort p.val).yielded = false ∧ ((t.plPort p.val).queue = (s.plPort p.val).queue.tail ∨ (t.plPort p.val).queue = []) ∧ t = { s with csr := t.csr, pl := t.pl }) ∧
    (∀ (p : Fin 12) (s : State) (x : PlTx),
      s.clocked = true →
      (s.plPort p.val).tx = some x →
      x.isAck = false →
      x.ackReq = true →
      x.ended = true →
      x.waitEnd ≤ s.time.raw →
      ∃ t, exec (.driverRelease p) s = .next t ∧ (t.plPort p.val).req = none ∧ (t.plPort p.val).gnt = none ∧ (t.plPort p.val).tx = none ∧ (t.plPort p.val).yielded = false ∧ ((t.plPort p.val).queue = (s.plPort p.val).queue ∨ (t.plPort p.val).queue = []) ∧ t = { s with csr := t.csr, pl := t.pl }) ∧
    (∀ (p : Fin 12) (s : State) (x : PlTx),
      s.clocked = true →
      (s.plPort p.val).tx = some x →
      x.isAck = true →
      x.txEnd ≤ s.time.raw →
      ∃ t, exec (.driverRelease p) s = .next t ∧ (t.plPort p.val).req = none ∧ (t.plPort p.val).gnt = none ∧ (t.plPort p.val).tx = none ∧ (t.plPort p.val).yielded = false ∧ (t.plTri (p.val / 3)).owed = none ∧ ((t.plPort p.val).queue = (s.plPort p.val).queue ∨ (t.plPort p.val).queue = []) ∧ t = { s with csr := t.csr, pl := t.pl }) ∧
    (∀ (p : Fin 12) (s : State) (x : PlTx),
      s.clocked = true →
      (s.plPort p.val).tx = some x →
      (x.isAck = true ∧ s.time.raw < x.txEnd) ∨ (x.isAck = false ∧ x.ackReq = false ∧ s.time.raw < x.txEnd) ∨ (x.isAck = false ∧ x.ackReq = true ∧ (x.ended = false ∨ s.time.raw < x.waitEnd)) →
      exec (.driverRelease p) s = .next s) ∧
    (∀ (p : Fin 12) (s : State) (o : PlOwe),
      s.clocked = true →
      (s.plPort p.val).tx = none →
      (s.plTri (p.val / 3)).owed = some o →
      o.due < s.time.raw →
      ∃ t, exec (.driverRelease p) s = .next t ∧ (t.plTri (p.val / 3)).owed = none ∧ (o.port < 12 → s.fget (fPLACKLOST_COUNT o.port) < 2 ^ (fPLACKLOST_COUNT 0).w - 1 →
          t.fget (fPLACKLOST_COUNT o.port) = s.fget (fPLACKLOST_COUNT o.port) + 1) ∧ ((s.plPort p.val).req.isSome = true → (s.plPort p.val).yielded = false → (t.plPort p.val).req = none ∧ (t.plPort p.val).gnt = none ∧ (t.plPort p.val).tx = none ∧ (t.plPort p.val).yielded = false) ∧ t = { s with csr := t.csr, pl := t.pl }) ∧
    (∀ (p : Fin 12) (s : State),
      s.clocked = true →
      (s.plPort p.val).tx = none →
      (s.plTri (p.val / 3)).owed = none →
      (s.plPort p.val).req.isSome = true →
      (s.plPort p.val).queue = [] →
      ∃ t, exec (.driverRelease p) s = .next t ∧ (t.plPort p.val).req = none ∧ (t.plPort p.val).gnt = none ∧ (t.plPort p.val).tx = none ∧ (t.plPort p.val).yielded = false ∧ (t.plPort p.val).queue = [] ∧ t = { s with csr := t.csr, pl := t.pl }) ∧
    (∀ (p : Fin 12) (s : State),
      s.clocked = true →
      (s.plPort p.val).tx = none →
      (s.plTri (p.val / 3)).owed = none ∧ ((s.plPort p.val).req = none ∨ (s.plPort p.val).queue ≠ []) →
      exec (.driverRelease p) s = .next s) ∧
    (∀ (p : Fin 12) (s : State) (k g : Nat),
      s.clocked = true →
      (s.plPort p.val).gnt = some (k, g) →
      (s.plPort p.val).tx = none →
      s.fget (fPLACC_MAXDEFER p.val) ≠ 0 →
      g + msRaw (s.fget (fPLACC_MAXDEFER p.val)) ≤ s.time.raw →
      ∃ t, exec (.driverMaxdeferExpiry p) s = .next t ∧ (t.plPort p.val).req = none ∧ (t.plPort p.val).gnt = none ∧ (t.plPort p.val).tx = none ∧ (t.plPort p.val).yielded = false ∧ ((t.plPort p.val).queue = (s.plPort p.val).queue ∨ (t.plPort p.val).queue = []) ∧ t = { s with csr := t.csr, pl := t.pl }) ∧
    (∀ (p : Fin 12) (s : State),
      s.clocked = true →
      (s.plPort p.val).gnt = none ∨ (s.plPort p.val).tx.isSome = true ∨ s.fget (fPLACC_MAXDEFER p.val) = 0 →
      exec (.driverMaxdeferExpiry p) s = .next s) ∧
    (∀ (p : Fin 12) (s : State) (k g : Nat),
      s.clocked = true →
      (s.plPort p.val).gnt = some (k, g) →
      s.time.raw < g + msRaw (s.fget (fPLACC_MAXDEFER p.val)) →
      exec (.driverMaxdeferExpiry p) s = .next s)

/-- PL_ACCESS_SLOT at the beginning of a slot, at a granted port whose triple owes no ACK and whose medium is idle: a frame of
priority 0 to 3 starts in the slot of its window drawn once for the sequence; one of normal priority counts its backoff down and
starts in the slot in which it is 0; a G.9903 frame starts while its band is idle (how long it lasts is open). The medium is
then busy at least until the frame's end. At any other time, in the middle of a slot, while an ACK is owed, or in a mode that
does not send the frame, nothing happens. PL_ACK_SEND at RIFS sends what is owed from a granted port; without one, or later, it
is lost and counted, and before that it waits. PL_ACK_RECEIVE of the ACK of the frame takes it from the queue and counts it; a
NACK leaves it to be tried again, after reason 2 on the robust map; other headers, and one outside the wait, are ignored.
PL_ACK_TIMEOUT counts a failed attempt and frees the driver: the frame is tried again, or after the last retry dropped and
counted. (R282, R304, R305, R306, R307, R308, R309, R328) -/
def Obligations.PowerlineAccess : Prop :=
    (∀ (p : Fin 12) (s : State) (f : PlFrame) (fs : List PlFrame) (k g : Nat) (j r : Nat),
      s.clocked = true →
      (s.plPort p.val).queue = f :: fs →
      (s.plPort p.val).gnt = some (k, g) →
      (s.plPort p.val).tx = none →
      s.txEnabled = true →
      s.plOn p.val = true →
      s.plOwes (p.val / 3) = false →
      s.plBusyEnd (p.val / 3) ≤ s.time.raw →
      f.notBefore ≤ s.chip →
      f.tries = 0 → s.time.raw ≤ f.ackBy.getD s.time.raw →
      s.plModeSends (p.val / 3) f = true →
      s.plInOrder p.val f = true →
      (s.plTri (p.val / 3)).busyTo ≤ s.time.raw →
      s.plSeqStart p.val g + usRaw 2112 + usRaw (1056 * j) = s.time.raw →
      f.g3 = false →
      f.pri < 4 →
      f.left = some r →
      (s.plPort p.val).counted = s.plSeqStart p.val g + 1 →
      j = 2 * f.pri + r →
      ∃ t x, exec (.plAccessSlot p) s = .next t ∧ (t.plPort p.val).tx = some x ∧ x.ackReq = f.ackReq ∧ x.isAck = false ∧ x.ended = false ∧
        s.time.raw ≤ x.txEnd ∧ x.txEnd ≤ (t.plTri (p.val / 3)).busyTo ∧ t.mem = s.mem ∧ t.wire.length = s.wire.length + 3 ∧
        (∀ q, q ≠ p.val → t.plPort q = s.plPort q)) ∧
    (∀ (p : Fin 12) (s : State) (f : PlFrame) (fs : List PlFrame) (k g : Nat) (j r : Nat),
      s.clocked = true →
      (s.plPort p.val).queue = f :: fs →
      (s.plPort p.val).gnt = some (k, g) →
      (s.plPort p.val).tx = none →
      s.txEnabled = true →
      s.plOn p.val = true →
      s.plOwes (p.val / 3) = false →
      s.plBusyEnd (p.val / 3) ≤ s.time.raw →
      f.notBefore ≤ s.chip →
      f.tries = 0 → s.time.raw ≤ f.ackBy.getD s.time.raw →
      s.plModeSends (p.val / 3) f = true →
      s.plInOrder p.val f = true →
      (s.plTri (p.val / 3)).busyTo ≤ s.time.raw →
      s.plSeqStart p.val g + usRaw 2112 + usRaw (1056 * j) = s.time.raw →
      f.g3 = false →
      f.pri < 4 →
      f.left = some r →
      (s.plPort p.val).counted = s.plSeqStart p.val g + 1 →
      j ≠ 2 * f.pri + r →
      ∃ t, exec (.plAccessSlot p) s = .next t ∧ (t.plPort p.val).tx = none ∧ t.wire = s.wire ∧ (t.plPort p.val).queue = { f with left := some r } :: fs ∧
        (∀ q, q ≠ p.val → t.plPort q = s.plPort q) ∧ t.pl.triples = s.pl.triples ∧ t = { s with pl := t.pl, freeCtr := t.freeCtr }) ∧
    (∀ (p : Fin 12) (s : State) (f : PlFrame) (fs : List PlFrame) (k g : Nat) (j : Nat),
      s.clocked = true →
      (s.plPort p.val).queue = f :: fs →
      (s.plPort p.val).gnt = some (k, g) →
      (s.plPort p.val).tx = none →
      s.txEnabled = true →
      s.plOn p.val = true →
      s.plOwes (p.val / 3) = false →
      s.plBusyEnd (p.val / 3) ≤ s.time.raw →
      f.notBefore ≤ s.chip →
      f.tries = 0 → s.time.raw ≤ f.ackBy.getD s.time.raw →
      s.plModeSends (p.val / 3) f = true →
      s.plInOrder p.val f = true →
      (s.plTri (p.val / 3)).busyTo ≤ s.time.raw →
      s.plSeqStart p.val g + usRaw 2112 + usRaw (1056 * j) = s.time.raw →
      f.g3 = false →
      f.pri < 4 →
      f.left = none ∨ (s.plPort p.val).counted ≠ s.plSeqStart p.val g + 1 →
      ∃ t, exec (.plAccessSlot p) s = .next t ∧ t.mem = s.mem ∧ (∀ q, q ≠ p.val → t.plPort q = s.plPort q) ∧
        (j = 2 * f.pri + s.draw % 2 → ∃ x, (t.plPort p.val).tx = some x ∧ x.ackReq = f.ackReq ∧ x.isAck = false ∧ x.ended = false ∧ s.time.raw ≤ x.txEnd ∧
          x.txEnd ≤ (t.plTri (p.val / 3)).busyTo ∧ t.wire.length = s.wire.length + 3) ∧
        (j ≠ 2 * f.pri + s.draw % 2 → (t.plPort p.val).tx = none ∧ t.wire = s.wire ∧ (t.plPort p.val).queue = { f with left := some (s.draw % 2) } :: fs ∧ t.pl.triples = s.pl.triples)) ∧
    (∀ (p : Fin 12) (s : State) (f : PlFrame) (fs : List PlFrame) (k g : Nat) (j b : Nat),
      s.clocked = true →
      (s.plPort p.val).queue = f :: fs →
      (s.plPort p.val).gnt = some (k, g) →
      (s.plPort p.val).tx = none →
      s.txEnabled = true →
      s.plOn p.val = true →
      s.plOwes (p.val / 3) = false →
      s.plBusyEnd (p.val / 3) ≤ s.time.raw →
      f.notBefore ≤ s.chip →
      f.tries = 0 → s.time.raw ≤ f.ackBy.getD s.time.raw →
      s.plModeSends (p.val / 3) f = true →
      s.plInOrder p.val f = true →
      (s.plTri (p.val / 3)).busyTo ≤ s.time.raw →
      s.plSeqStart p.val g + usRaw 2112 + usRaw (1056 * j) = s.time.raw →
      f.g3 = false →
      4 ≤ f.pri →
      8 ≤ j →
      f.left = some b →
      b ≤ (s.time.raw - max (max (s.plSeqStart p.val g + usRaw 2112 + usRaw (8 * 1056)) (s.plPort p.val).counted) g) / usRaw 1056 →
      ∃ t x, exec (.plAccessSlot p) s = .next t ∧ (t.plPort p.val).tx = some x ∧ x.ackReq = f.ackReq ∧ x.isAck = false ∧ x.ended = false ∧
        s.time.raw ≤ x.txEnd ∧ x.txEnd ≤ (t.plTri (p.val / 3)).busyTo ∧ t.mem = s.mem ∧ t.wire.length = s.wire.length + 3 ∧
        (∀ q, q ≠ p.val → t.plPort q = s.plPort q)) ∧
    (∀ (p : Fin 12) (s : State) (f : PlFrame) (fs : List PlFrame) (k g : Nat) (j b : Nat),
      s.clocked = true →
      (s.plPort p.val).queue = f :: fs →
      (s.plPort p.val).gnt = some (k, g) →
      (s.plPort p.val).tx = none →
      s.txEnabled = true →
      s.plOn p.val = true →
      s.plOwes (p.val / 3) = false →
      s.plBusyEnd (p.val / 3) ≤ s.time.raw →
      f.notBefore ≤ s.chip →
      f.tries = 0 → s.time.raw ≤ f.ackBy.getD s.time.raw →
      s.plModeSends (p.val / 3) f = true →
      s.plInOrder p.val f = true →
      (s.plTri (p.val / 3)).busyTo ≤ s.time.raw →
      s.plSeqStart p.val g + usRaw 2112 + usRaw (1056 * j) = s.time.raw →
      f.g3 = false →
      4 ≤ f.pri →
      8 ≤ j →
      f.left = some b →
      (s.time.raw - max (max (s.plSeqStart p.val g + usRaw 2112 + usRaw (8 * 1056)) (s.plPort p.val).counted) g) / usRaw 1056 < b →
      ∃ t, exec (.plAccessSlot p) s = .next t ∧ (t.plPort p.val).tx = none ∧ t.wire = s.wire ∧ (t.plPort p.val).queue = { f with left := some (b - (s.time.raw - max (max (s.plSeqStart p.val g + usRaw 2112 + usRaw (8 * 1056)) (s.plPort p.val).counted) g) / usRaw 1056) } :: fs ∧
        (∀ q, q ≠ p.val → t.plPort q = s.plPort q) ∧ t.pl.triples = s.pl.triples ∧ t = { s with pl := t.pl, freeCtr := t.freeCtr }) ∧
    (∀ (p : Fin 12) (s : State) (f : PlFrame) (fs : List PlFrame) (k g : Nat) (j : Nat),
      s.clocked = true →
      (s.plPort p.val).queue = f :: fs →
      (s.plPort p.val).gnt = some (k, g) →
      (s.plPort p.val).tx = none →
      s.txEnabled = true →
      s.plOn p.val = true →
      s.plOwes (p.val / 3) = false →
      s.plBusyEnd (p.val / 3) ≤ s.time.raw →
      f.notBefore ≤ s.chip →
      f.tries = 0 → s.time.raw ≤ f.ackBy.getD s.time.raw →
      s.plModeSends (p.val / 3) f = true →
      s.plInOrder p.val f = true →
      (s.plTri (p.val / 3)).busyTo ≤ s.time.raw →
      s.plSeqStart p.val g + usRaw 2112 + usRaw (1056 * j) = s.time.raw →
      f.g3 = false →
      4 ≤ f.pri →
      8 ≤ j →
      f.left = none →
      ∃ t, exec (.plAccessSlot p) s = .next t ∧ t.mem = s.mem ∧ (∀ q, q ≠ p.val → t.plPort q = s.plPort q) ∧
        (s.draw % 2 ^ s.plExp p.val = 0 → ∃ x, (t.plPort p.val).tx = some x ∧ x.ackReq = f.ackReq ∧ x.isAck = false ∧ x.ended = false ∧ s.time.raw ≤ x.txEnd ∧
          x.txEnd ≤ (t.plTri (p.val / 3)).busyTo ∧ t.wire.length = s.wire.length + 3) ∧
        (s.draw % 2 ^ s.plExp p.val ≠ 0 → (t.plPort p.val).tx = none ∧ t.wire = s.wire ∧ (t.plPort p.val).queue = { f with left := some (s.draw % 2 ^ s.plExp p.val) } :: fs ∧ t.pl.triples = s.pl.triples)) ∧
    (∀ (p : Fin 12) (s : State) (f : PlFrame) (fs : List PlFrame) (k g : Nat),
      s.clocked = true →
      (s.plPort p.val).queue = f :: fs →
      (s.plPort p.val).gnt = some (k, g) →
      (s.plPort p.val).tx = none →
      s.txEnabled = true →
      s.plOn p.val = true →
      s.plOwes (p.val / 3) = false →
      s.plBusyEnd (p.val / 3) ≤ s.time.raw →
      f.notBefore ≤ s.chip →
      f.tries = 0 → s.time.raw ≤ f.ackBy.getD s.time.raw →
      s.plModeSends (p.val / 3) f = true →
      s.plInOrder p.val f = true →
      f.g3 = true →
      (s.plTri (p.val / 3)).g3To ≤ s.time.raw →
      ∃ t x, exec (.plAccessSlot p) s = .next t ∧ (t.plPort p.val).tx = some x ∧ x.ackReq = f.ackReq ∧ x.isAck = false ∧ x.ended = false ∧
        s.time.raw ≤ x.txEnd ∧ x.txEnd ≤ (t.plTri (p.val / 3)).g3To ∧ t.mem = s.mem ∧ t.wire.length = s.wire.length + 1 ∧
        (∀ q, q ≠ p.val → t.plPort q = s.plPort q)) ∧
    (∀ (p : Fin 12) (s : State),
      s.clocked = true →
      (s.plPort p.val).queue = [] ∨ (s.plPort p.val).gnt = none ∨ (s.plPort p.val).tx.isSome = true ∨ s.txEnabled = false ∨ s.plOn p.val = false ∨ s.plOwes (p.val / 3) = true ∨ s.time.raw < s.plBusyEnd (p.val / 3) →
      exec (.plAccessSlot p) s = .next s) ∧
    (∀ (p : Fin 12) (s : State) (f : PlFrame) (fs : List PlFrame) (k g : Nat),
      s.clocked = true →
      (s.plPort p.val).queue = f :: fs →
      (s.plPort p.val).gnt = some (k, g) →
      s.chip < f.notBefore ∨ s.plModeSends (p.val / 3) f = false ∨ s.plInOrder p.val f = false ∨ (f.g3 = true ∧ s.time.raw < (s.plTri (p.val / 3)).g3To) ∨ (f.g3 = false ∧ (s.time.raw < s.plSeqStart p.val g + usRaw 2112 ∨ s.time.raw < (s.plTri (p.val / 3)).busyTo ∨ (s.time.raw - (s.plSeqStart p.val g + usRaw 2112)) % usRaw 1056 ≠ 0 ∨ (4 ≤ f.pri ∧ (s.time.raw - (s.plSeqStart p.val g + usRaw 2112)) / usRaw 1056 < 8))) →
      exec (.plAccessSlot p) s = .next s) ∧
    (∀ (s : State) (t : Nat) (f : PlFrame),
      s.plModeSends t f = (if f.g3 then decide (s.plMode t ≠ plSpl) else decide (s.plMode t = plSpl ∨ s.plMode t = plDual))) ∧
    (∀ (t : Fin 4) (s : State) (o : PlOwe) (p : Nat),
      s.clocked = true →
      (s.plTri t.val).owed = some o →
      o.due = s.time.raw →
      s.txEnabled = true →
      s.plReady t.val = some p →
      ∃ t' x, exec (.plAckSend t) s = .next t' ∧ (t'.plPort p).tx = some x ∧ x.isAck = true ∧ (t'.plTri t.val).owed = none ∧
        x.txEnd = s.time.raw + usRaw (5120 + 528 * s.plNf t.val) ∧ x.txEnd ≤ (t'.plTri t.val).busyTo ∧ t'.wire.length = s.wire.length + 3 ∧
        (∀ q, q ≠ p → t'.plPort q = s.plPort q) ∧ t' = { s with pl := t'.pl, wire := t'.wire, answer := t'.answer }) ∧
    (∀ (t : Fin 4) (s : State) (o : PlOwe) (p : Nat),
      s.clocked = true →
      (s.plTri t.val).owed = some o →
      o.due = s.time.raw →
      s.txEnabled = true →
      s.plReady t.val = none →
      (s.plAckGrant t.val).plReady t.val = some p →
      ∃ t' x, exec (.plAckSend t) s = .next t' ∧ (t'.plPort p).tx = some x ∧ x.isAck = true ∧ (t'.plTri t.val).owed = none ∧
        x.txEnd = s.time.raw + usRaw (5120 + 528 * s.plNf t.val) ∧ t'.wire.length = s.wire.length + 3) ∧
    (∀ (t : Fin 4) (s : State) (o : PlOwe),
      s.clocked = true →
      (s.plTri t.val).owed = some o →
      o.due < s.time.raw →
      ∃ t', exec (.plAckSend t) s = .next t' ∧ (t'.plTri t.val).owed = none ∧ t'.wire = s.wire ∧
        (o.port < 12 → s.fget (fPLACKLOST_COUNT o.port) < 2 ^ (fPLACKLOST_COUNT 0).w - 1 → t'.fget (fPLACKLOST_COUNT o.port) = s.fget (fPLACKLOST_COUNT o.port) + 1) ∧
        t' = { s with csr := t'.csr, pl := t'.pl }) ∧
    (∀ (t : Fin 4) (s : State) (o : PlOwe),
      s.clocked = true →
      (s.plTri t.val).owed = some o →
      o.due = s.time.raw →
      s.txEnabled = false ∨ (s.plReady t.val = none ∧ (s.plAckGrant t.val).plReady t.val = none) →
      ∃ t', exec (.plAckSend t) s = .next t' ∧ (t'.plTri t.val).owed = none ∧ t'.wire = s.wire ∧
        (o.port < 12 → s.fget (fPLACKLOST_COUNT o.port) < 2 ^ (fPLACKLOST_COUNT 0).w - 1 → t'.fget (fPLACKLOST_COUNT o.port) = s.fget (fPLACKLOST_COUNT o.port) + 1) ∧
        t' = { s with csr := t'.csr, pl := t'.pl }) ∧
    (∀ (t : Fin 4) (s : State),
      s.clocked = true →
      (s.plTri t.val).owed = none →
      exec (.plAckSend t) s = .next s) ∧
    (∀ (t : Fin 4) (s : State) (o : PlOwe),
      s.clocked = true →
      (s.plTri t.val).owed = some o →
      s.time.raw < o.due →
      exec (.plAckSend t) s = .next s) ∧
    (∀ (p : Fin 12) (fch : List Byte) (s : State) (f : PlFrame) (fs : List PlFrame) (x : PlTx),
      s.clocked = true →
      (s.plPort p.val).queue = f :: fs →
      (s.plPort p.val).tx = some x →
      x.ackReq = true →
      f.g3 = false →
      x.ended = false →
      x.txEnd ≤ s.time.raw →
      s.time.raw < x.waitEnd →
      s.fchOk fch = true →
      be fch 0 1 / 32 = 1 →
      be fch 6 2 = x.fcs →
      ∃ t, exec (.plAckReceive p fch) s = .next t ∧ (t.plPort p.val).queue = fs ∧ (t.plPort p.val).tx = some { x with ended := true } ∧
        (t.plPort p.val).e = 0 ∧ t.fget (fPLTXOK_COUNT p.val) = (s.fget (fPLTXOK_COUNT p.val) + 1) % 2 ^ (fPLTXOK_COUNT 0).w ∧ (∀ q, q ≠ p.val → t.plPort q = s.plPort q) ∧ (∀ a, a < nbtAddr 0 ∨ nbtAddr 65536 ≤ a → t.byte a = s.byte a)) ∧
    (∀ (p : Fin 12) (fch : List Byte) (s : State) (f : PlFrame) (fs : List PlFrame) (x : PlTx),
      s.clocked = true →
      (s.plPort p.val).queue = f :: fs →
      (s.plPort p.val).tx = some x →
      x.ackReq = true →
      f.g3 = false →
      x.ended = false →
      x.txEnd ≤ s.time.raw →
      s.time.raw < x.waitEnd →
      s.fchOk fch = true →
      be fch 0 1 / 32 = 2 →
      f.ackReq = true →
      f.tries < s.fget (fPLACC_MAXRETRY p.val) →
      ∃ t f', exec (.plAckReceive p fch) s = .next t ∧ (t.plPort p.val).queue = f' :: fs ∧ f' = { f with robust := f.robust || decide (be fch 9 1 = 2), left := none, tries := f.tries + 1 } ∧
        (t.plPort p.val).tx = some { x with ended := true } ∧ (t.plPort p.val).e = min ((s.plPort p.val).e + 1) 8 ∧ (∀ q, q ≠ p.val → t.plPort q = s.plPort q) ∧ (∀ a, a < nbtAddr 0 ∨ nbtAddr 65536 ≤ a → t.byte a = s.byte a)) ∧
    (∀ (p : Fin 12) (fch : List Byte) (s : State) (f : PlFrame) (fs : List PlFrame) (x : PlTx),
      s.clocked = true →
      (s.plPort p.val).queue = f :: fs →
      (s.plPort p.val).tx = some x →
      x.ackReq = true →
      f.g3 = false →
      x.ended = false →
      x.txEnd ≤ s.time.raw →
      s.time.raw < x.waitEnd →
      s.fchOk fch = true →
      be fch 0 1 / 32 = 2 →
      s.fget (fPLACC_MAXRETRY p.val) ≤ f.tries →
      ∃ t, exec (.plAckReceive p fch) s = .next t ∧ (t.plPort p.val).queue = fs ∧ (t.plPort p.val).tx = some { x with ended := true } ∧
        t.fget (fPLTXFAIL_COUNT p.val) = satAdd (fPLTXFAIL_COUNT 0).w (s.fget (fPLTXFAIL_COUNT p.val)) 1 ∧ (∀ q, q ≠ p.val → t.plPort q = s.plPort q) ∧ (∀ a, a < nbtAddr 0 ∨ nbtAddr 65536 ≤ a → t.byte a = s.byte a)) ∧
    (∀ (p : Fin 12) (fch : List Byte) (s : State) (f : PlFrame) (fs : List PlFrame) (x : PlTx),
      s.clocked = true →
      (s.plPort p.val).queue = f :: fs →
      (s.plPort p.val).tx = some x →
      x.ackReq = false ∨ f.g3 = true ∨ x.ended = true ∨ s.time.raw < x.txEnd ∨ x.waitEnd ≤ s.time.raw ∨ s.fchOk fch = false ∨ be fch 0 1 / 32 = 0 ∨ (be fch 0 1 / 32 = 1 ∧ be fch 6 2 ≠ x.fcs) →
      exec (.plAckReceive p fch) s = .next s) ∧
    (∀ (p : Fin 12) (fch : List Byte) (s : State),
      s.clocked = true →
      (s.plPort p.val).queue = [] ∨ (s.plPort p.val).tx = none →
      exec (.plAckReceive p fch) s = .next s) ∧
    (∀ (p : Fin 12) (s : State) (f : PlFrame) (fs : List PlFrame) (x : PlTx),
      s.clocked = true →
      (s.plPort p.val).queue = f :: fs →
      (s.plPort p.val).tx = some x →
      x.ackReq = true →
      x.ended = false →
      x.waitEnd ≤ s.time.raw →
      s.fget (fPLACC_MAXRETRY p.val) ≤ f.tries →
      ∃ t, exec (.plAckTimeout p) s = .next t ∧ (t.plPort p.val).req = none ∧ (t.plPort p.val).gnt = none ∧ (t.plPort p.val).tx = none ∧ (t.plPort p.val).yielded = false ∧ ((t.plPort p.val).queue = fs ∨ (t.plPort p.val).queue = []) ∧
        t.fget (fPLTXFAIL_COUNT p.val) = satAdd (fPLTXFAIL_COUNT 0).w (s.fget (fPLTXFAIL_COUNT p.val)) 1 ∧ (∀ a, a < nbtAddr 0 ∨ nbtAddr 65536 ≤ a → t.byte a = s.byte a)) ∧
    (∀ (p : Fin 12) (s : State) (f : PlFrame) (fs : List PlFrame) (x : PlTx),
      s.clocked = true →
      (s.plPort p.val).queue = f :: fs →
      (s.plPort p.val).tx = some x →
      x.ackReq = true →
      x.ended = false →
      x.waitEnd ≤ s.time.raw →
      f.ackReq = true →
      f.tries < s.fget (fPLACC_MAXRETRY p.val) →
      ∃ t, exec (.plAckTimeout p) s = .next t ∧ (t.plPort p.val).req = none ∧ (t.plPort p.val).gnt = none ∧ (t.plPort p.val).tx = none ∧ (t.plPort p.val).yielded = false ∧ ((t.plPort p.val).queue = { f with left := none, tries := f.tries + 1 } :: fs ∨ (t.plPort p.val).queue = []) ∧
        (t.plPort p.val).e = min ((s.plPort p.val).e + 1) 8 ∧ t.fget (fPLTXFAIL_COUNT p.val) = s.fget (fPLTXFAIL_COUNT p.val) ∧ (∀ a, a < nbtAddr 0 ∨ nbtAddr 65536 ≤ a → t.byte a = s.byte a)) ∧
    (∀ (p : Fin 12) (s : State),
      s.clocked = true →
      (s.plPort p.val).tx = none →
      exec (.plAckTimeout p) s = .next s) ∧
    (∀ (p : Fin 12) (s : State) (x : PlTx),
      s.clocked = true →
      (s.plPort p.val).tx = some x →
      x.ackReq = false ∨ x.ended = true ∨ s.time.raw < x.waitEnd →
      exec (.plAckTimeout p) s = .next s)

/-- Every radio command first lets the transmissions that were laid out and are due begin. RF_DETECTION serves the detections of a
cycle in ascending group order, FSK before OFDM: each on a port that is on, takes its kind and group, is not blind and has
nothing overlapping in progress, puts the lowest free demodulator to work; with none free it is counted, and any other is
ignored. RF_FRAME_DELIVER frees the demodulator: a frame without a sound PHR or FCS, or too long, is dropped; an unsupported
one, or a MAC frame that fails its checks, is counted as an error; a sound one is counted, a DATA frame for this chip is handed
on with its metadata, one for another device is not, one that asks this chip for an ACK makes it due 1,000 µs after the frame's
end, the first copy of a flood is also relayed, a repeat is counted or, for this chip, handed on as such; the other types are
handed on whole. RF_ACK_SEND at its moment, clear of beacons and windows, sends the ACK owed and leaves the port's SEQ; one that
meets a beacon, or 2 ms too late, is skipped and counted. RF_REALIGN abandons and counts every reception in progress. (R335,
R336, R337, R338, R339, R342, R343, R344, R345, R368, R369, R666) -/
def Obligations.RadioReception : Prop :=
    (∀ (s : State) (n : Nat),
      (s.rfPort n).ahead.all (fun x => decide (s.time.raw < x.air.from_)) = true →
      (s.rfSettle n).rfPort n = s.rfPort n ∧ (s.rfSettle n).wire = s.wire ∧ (s.rfSettle n).csr = s.csr ∧ (s.rfSettle n).mem = s.mem) ∧
    (∀ (s v : State) (n : Nat) (x : RfSend),
      (s.rfPort n).ahead = [x] →
      x.air.from_ ≤ s.time.raw →
      v = s.setRfPort n { s.rfPort n with ahead := [] } →
      (v.rfMayBegin n x = true → (s.rfSettle n).wire.length = s.wire.length + 1 ∧ ((s.rfSettle n).rfPort n).tx.head? = some x.air ∧ ((s.rfSettle n).rfPort n).ahead = [] ∧
          ((s.rfSettle n).rfPort n).queue = (s.rfPort n).queue ∧ ((s.rfSettle n).rfPort n).seq = ((s.rfPort n).seq + 1) % 2 ^ 16) ∧
        (v.rfMayBegin n x = false → (s.rfSettle n).wire = s.wire ∧ ((s.rfSettle n).rfPort n).queue = x.frame.toList ++ (s.rfPort n).queue)) ∧
    (∀ (n : Fin 6) (d : RfDet) (s u : State) (i : Nat),
      s.clocked = true →
      u = s.rfSettle n.val →
      u.rfOn n.val = true →
      bit (u.fget (fRFCFG_RXKINDS n.val)) d.kind.val = true →
      u.rfGroupOk n.val d.kind.val d.group.val = true →
      u.rfBlind n.val = false →
      (u.rfPort n.val).dems.any (fun e => rfOverlap e.kind e.group d.kind.val d.group.val) = false →
      freeDemod (u.rfPort n.val).dems = some i →
      exec (.rfDetection n d []) s = .next (u.setRfPort n.val { (u.rfPort n.val) with dems := (u.rfPort n.val).dems ++ [⟨i, d.group.val, d.kind.val, u.time.raw⟩] })) ∧
    (∀ (n : Fin 6) (d : RfDet) (s u : State),
      s.clocked = true →
      u = s.rfSettle n.val →
      u.rfOn n.val = true →
      bit (u.fget (fRFCFG_RXKINDS n.val)) d.kind.val = true →
      u.rfGroupOk n.val d.kind.val d.group.val = true →
      u.rfBlind n.val = false →
      (u.rfPort n.val).dems.any (fun e => rfOverlap e.kind e.group d.kind.val d.group.val) = false →
      freeDemod (u.rfPort n.val).dems = none →
      exec (.rfDetection n d []) s = .next (u.bump (fRFNODEM_COUNT n.val) 1)) ∧
    (∀ (n : Fin 6) (d : RfDet) (s u : State),
      s.clocked = true →
      u = s.rfSettle n.val →
      u.rfOn n.val = false ∨ bit (u.fget (fRFCFG_RXKINDS n.val)) d.kind.val = false ∨ u.rfGroupOk n.val d.kind.val d.group.val = false ∨ u.rfBlind n.val = true ∨ (u.rfPort n.val).dems.any (fun e => rfOverlap e.kind e.group d.kind.val d.group.val) = true →
      exec (.rfDetection n d []) s = .next u) ∧
    (∀ (n : Fin 6) (d e : RfDet) (s u v : State),
      s.clocked = true →
      u = s.rfSettle n.val →
      8 * d.group.val + d.kind.val < 8 * e.group.val + e.kind.val →
      v = (u.rfDetect n.val d).rfDetect n.val e →
      exec (.rfDetection n d [e]) s = .next v ∧ exec (.rfDetection n e [d]) s = .next v) ∧
    (∀ (l : List RfDemod) (i : Nat),
      freeDemod l = some i →
      i < 64 ∧ l.all (fun d => decide (d.idx ≠ i)) = true ∧ (∀ j, j < i → l.any (fun d => decide (d.idx = j)) = true)) ∧
    (∀ (n : Fin 6) (idx : Fin 64) (h : RfHeard) (s u : State),
      s.clocked = true →
      u = s.rfSettle n.val →
      (u.rfPort n.val).dems.find? (fun d => d.idx = idx.val) = none →
      exec (.rfFrameDeliver n idx h) s = .next u) ∧
    (∀ (n : Fin 6) (idx : Fin 64) (h : RfHeard) (s u : State) (D : RfDemod),
      s.clocked = true →
      u = s.rfSettle n.val →
      (u.rfPort n.val).dems.find? (fun d => d.idx = idx.val) = some D →
      h.phr = false ∨ (h.supported = true ∧ rfMcsOk D.kind h.mcs.val = true ∧ (h.fcs = false ∨ 1280 < h.psdu.length + (if h.fcs2 then 2 else 4) ∨ u.rfHears n.val = false)) →
      exec (.rfFrameDeliver n idx h) s = .next (u.setRfPort n.val { (u.rfPort n.val) with dems := (u.rfPort n.val).dems.filter (fun d => d.idx ≠ idx.val) })) ∧
    (∀ (n : Fin 6) (idx : Fin 64) (h : RfHeard) (s u : State) (D : RfDemod),
      s.clocked = true →
      u = s.rfSettle n.val →
      (u.rfPort n.val).dems.find? (fun d => d.idx = idx.val) = some D →
      h.phr = true →
      h.supported = false ∨ rfMcsOk D.kind h.mcs.val = false →
      exec (.rfFrameDeliver n idx h) s = .next ((u.setRfPort n.val { (u.rfPort n.val) with dems := (u.rfPort n.val).dems.filter (fun d => d.idx ≠ idx.val) }).bump (fRFRXERR_COUNT n.val) 1)) ∧
    (∀ (n : Fin 6) (idx : Fin 64) (h : RfHeard) (s u : State) (D : RfDemod),
      s.clocked = true →
      u = s.rfSettle n.val →
      (u.rfPort n.val).dems.find? (fun d => d.idx = idx.val) = some D →
      h.phr = true →
      h.supported = true →
      rfMcsOk D.kind h.mcs.val = true →
      h.fcs = true →
      h.psdu.length + (if h.fcs2 then 2 else 4) ≤ 1280 →
      u.rfHears n.val = true →
      macOk h.psdu = false →
      ∃ t, exec (.rfFrameDeliver n idx h) s = .next t ∧ (t.rfPort n.val).dems = (u.rfPort n.val).dems.filter (fun d => d.idx ≠ idx.val) ∧ t.fget (fRFRXOK_COUNT n.val) = (u.fget (fRFRXOK_COUNT n.val) + 1) % 2 ^ (fRFRXOK_COUNT 0).w ∧ t.fget (fRFRXERR_COUNT n.val) = satAdd (fRFRXERR_COUNT 0).w (u.fget (fRFRXERR_COUNT n.val)) 1 ∧ t.delivered = u.delivered ∧ t.rf.start = u.rf.start ∧ (∀ m, m < 6 → m ≠ n.val → t.rfPort m = u.rfPort m)) ∧
    (∀ (n : Fin 6) (idx : Fin 64) (h : RfHeard) (s u : State) (D : RfDemod),
      s.clocked = true →
      u = s.rfSettle n.val →
      (u.rfPort n.val).dems.find? (fun d => d.idx = idx.val) = some D →
      h.phr = true →
      h.supported = true →
      rfMcsOk D.kind h.mcs.val = true →
      h.fcs = true →
      h.psdu.length + (if h.fcs2 then 2 else 4) ≤ 1280 →
      u.rfHears n.val = true →
      macOk h.psdu = true →
      macType h.psdu = 0 →
      macFlood h.psdu = false →
      (macDst h.psdu = u.fget fKEYID_EUI ∨ macDst h.psdu = euiAll) →
      (macAckReq h.psdu && decide (macDst h.psdu = u.fget fKEYID_EUI)) = false →
      ∃ t e hdr, exec (.rfFrameDeliver n idx h) s = .next t ∧ t.delivered = e :: u.delivered ∧ e.dest = .hw ∧ e.src = 0x20 + n.val ∧ (e.radio.map (fun m => (m.port, m.group, m.kind, m.mcs, m.rssi, m.snr))) = some (n.val, D.group, D.kind, h.mcs.val, h.rssi.toNat, h.snr.toNat) ∧ e.bytes = hdr ++ macBody h.psdu ∧ t.fget (fRFRXOK_COUNT n.val) = (u.fget (fRFRXOK_COUNT n.val) + 1) % 2 ^ (fRFRXOK_COUNT 0).w ∧ (t.rfPort n.val).dems = (u.rfPort n.val).dems.filter (fun d => d.idx ≠ idx.val) ∧ (t.rfPort n.val).owed = (u.rfPort n.val).owed ∧ (t.rfPort n.val).queue = (u.rfPort n.val).queue ∧ (∀ m, m < 6 → m ≠ n.val → t.rfPort m = u.rfPort m)) ∧
    (∀ (n : Fin 6) (idx : Fin 64) (h : RfHeard) (s u : State) (D : RfDemod),
      s.clocked = true →
      u = s.rfSettle n.val →
      (u.rfPort n.val).dems.find? (fun d => d.idx = idx.val) = some D →
      h.phr = true →
      h.supported = true →
      rfMcsOk D.kind h.mcs.val = true →
      h.fcs = true →
      h.psdu.length + (if h.fcs2 then 2 else 4) ≤ 1280 →
      u.rfHears n.val = true →
      macOk h.psdu = true →
      macType h.psdu = 0 →
      macFlood h.psdu = false →
      macAckReq h.psdu = true →
      macDst h.psdu = u.fget fKEYID_EUI →
      ∃ t e hdr a, exec (.rfFrameDeliver n idx h) s = .next t ∧ t.delivered = e :: u.delivered ∧ e.dest = .hw ∧ e.src = 0x20 + n.val ∧ (e.radio.map (fun m => (m.port, m.group, m.kind, m.mcs, m.rssi, m.snr))) = some (n.val, D.group, D.kind, h.mcs.val, h.rssi.toNat, h.snr.toNat) ∧ e.bytes = hdr ++ macBody h.psdu ∧ t.fget (fRFRXOK_COUNT n.val) = (u.fget (fRFRXOK_COUNT n.val) + 1) % 2 ^ (fRFRXOK_COUNT 0).w ∧ (t.rfPort n.val).dems = (u.rfPort n.val).dems.filter (fun d => d.idx ≠ idx.val) ∧ (t.rfPort n.val).owed = (u.rfPort n.val).owed ++ [a] ∧
        a.due = u.rawOf (u.rfRxStamp n.val D.kind u.time.raw + 1000000) ∧ a.group = D.group ∧ a.kind = D.kind ∧ a.mcs = h.mcs.val ∧ a.seq = macSeq h.psdu ∧ a.dst = macSrc h.psdu) ∧
    (∀ (n : Fin 6) (idx : Fin 64) (h : RfHeard) (s u : State) (D : RfDemod),
      s.clocked = true →
      u = s.rfSettle n.val →
      (u.rfPort n.val).dems.find? (fun d => d.idx = idx.val) = some D →
      h.phr = true →
      h.supported = true →
      rfMcsOk D.kind h.mcs.val = true →
      h.fcs = true →
      h.psdu.length + (if h.fcs2 then 2 else 4) ≤ 1280 →
      u.rfHears n.val = true →
      macOk h.psdu = true →
      macType h.psdu = 0 →
      macFlood h.psdu = false →
      macDst h.psdu ≠ u.fget fKEYID_EUI →
      macDst h.psdu ≠ euiAll →
      ∃ t, exec (.rfFrameDeliver n idx h) s = .next t ∧ t.delivered = u.delivered ∧ t.fget (fRFRXOK_COUNT n.val) = (u.fget (fRFRXOK_COUNT n.val) + 1) % 2 ^ (fRFRXOK_COUNT 0).w ∧ (t.rfPort n.val).dems = (u.rfPort n.val).dems.filter (fun d => d.idx ≠ idx.val) ∧ (t.rfPort n.val).owed = (u.rfPort n.val).owed ∧ (t.rfPort n.val).queue = (u.rfPort n.val).queue ∧ (∀ m, m < 6 → m ≠ n.val → t.rfPort m = u.rfPort m)) ∧
    (∀ (n : Fin 6) (idx : Fin 64) (h : RfHeard) (s u : State) (D : RfDemod) (o q : Nat),
      s.clocked = true →
      u = s.rfSettle n.val →
      (u.rfPort n.val).dems.find? (fun d => d.idx = idx.val) = some D →
      h.phr = true →
      h.supported = true →
      rfMcsOk D.kind h.mcs.val = true →
      h.fcs = true →
      h.psdu.length + (if h.fcs2 then 2 else 4) ≤ 1280 →
      u.rfHears n.val = true →
      macOk h.psdu = true →
      macType h.psdu = 0 →
      macFlood h.psdu = true →
      macAckReq h.psdu = false →
      o = be h.psdu (macFloodAt h.psdu) 8 →
      q = be h.psdu (macFloodAt h.psdu + 8) 2 →
      u.lintHit o q = none →
      macDst h.psdu = euiAll →
      u.flag fRFFLOOD_RELAY = true →
      be h.psdu (macFloodAt h.psdu + 10) 1 / 16 ≠ 0 →
      euiAll ≠ u.fget fKEYID_EUI →
      ∃ t e hdr, exec (.rfFrameDeliver n idx h) s = .next t ∧ t.delivered = e :: u.delivered ∧ e.dest = .hw ∧ e.src = 0x20 + n.val ∧ (e.radio.map (fun m => (m.port, m.group, m.kind, m.mcs, m.rssi, m.snr))) = some (n.val, D.group, D.kind, h.mcs.val, h.rssi.toNat, h.snr.toNat) ∧ e.bytes = hdr ++ macBody h.psdu ∧ t.fget (fRFRXOK_COUNT n.val) = (u.fget (fRFRXOK_COUNT n.val) + 1) % 2 ^ (fRFRXOK_COUNT 0).w ∧ (t.rfPort n.val).dems = (u.rfPort n.val).dems.filter (fun d => d.idx ≠ idx.val) ∧
        (∀ m, m < 6 → if u.rfOn m = true ∧ u.rfHasTxb m = true then
          ∃ f, (t.rfPort m).queue = (u.rfPort m).queue ++ [f] ∧ f.use = .broadcast ∧ f.dst = euiAll ∧ f.eligible = false ∧ f.since = u.time.raw ∧
            be f.psdu 12 8 = u.fget fKEYID_EUI ∧ be f.psdu (macFloodAt h.psdu + 10) 1 = 16 * (be h.psdu (macFloodAt h.psdu + 10) 1 / 16 - 1) + min (be h.psdu (macFloodAt h.psdu + 10) 1 % 16 + 1) 15
          else (t.rfPort m).queue = (u.rfPort m).queue)) ∧
    (∀ (n : Fin 6) (idx : Fin 64) (h : RfHeard) (s u : State) (D : RfDemod) (o q : Nat),
      s.clocked = true →
      u = s.rfSettle n.val →
      (u.rfPort n.val).dems.find? (fun d => d.idx = idx.val) = some D →
      h.phr = true →
      h.supported = true →
      rfMcsOk D.kind h.mcs.val = true →
      h.fcs = true →
      h.psdu.length + (if h.fcs2 then 2 else 4) ≤ 1280 →
      u.rfHears n.val = true →
      macOk h.psdu = true →
      macType h.psdu = 0 →
      macFlood h.psdu = true →
      macAckReq h.psdu = false →
      o = be h.psdu (macFloodAt h.psdu) 8 →
      q = be h.psdu (macFloodAt h.psdu + 8) 2 →
      u.lintHit o q = none →
      macDst h.psdu = euiAll →
      u.flag fRFFLOOD_RELAY = false ∨ be h.psdu (macFloodAt h.psdu + 10) 1 / 16 = 0 →
      ∃ t e hdr, exec (.rfFrameDeliver n idx h) s = .next t ∧ t.delivered = e :: u.delivered ∧ e.dest = .hw ∧ e.src = 0x20 + n.val ∧ (e.radio.map (fun m => (m.port, m.group, m.kind, m.mcs, m.rssi, m.snr))) = some (n.val, D.group, D.kind, h.mcs.val, h.rssi.toNat, h.snr.toNat) ∧ e.bytes = hdr ++ macBody h.psdu ∧ t.fget (fRFRXOK_COUNT n.val) = (u.fget (fRFRXOK_COUNT n.val) + 1) % 2 ^ (fRFRXOK_COUNT 0).w ∧ (t.rfPort n.val).dems = (u.rfPort n.val).dems.filter (fun d => d.idx ≠ idx.val) ∧ (t.rfPort n.val).queue = (u.rfPort n.val).queue ∧ (∀ m, m < 6 → m ≠ n.val → t.rfPort m = u.rfPort m)) ∧
    (∀ (n : Fin 6) (idx : Fin 64) (h : RfHeard) (s u : State) (D : RfDemod) (o q : Nat) (i : Nat),
      s.clocked = true →
      u = s.rfSettle n.val →
      (u.rfPort n.val).dems.find? (fun d => d.idx = idx.val) = some D →
      h.phr = true →
      h.supported = true →
      rfMcsOk D.kind h.mcs.val = true →
      h.fcs = true →
      h.psdu.length + (if h.fcs2 then 2 else 4) ≤ 1280 →
      u.rfHears n.val = true →
      macOk h.psdu = true →
      macType h.psdu = 0 →
      macFlood h.psdu = true →
      macAckReq h.psdu = false →
      o = be h.psdu (macFloodAt h.psdu) 8 →
      q = be h.psdu (macFloodAt h.psdu + 8) 2 →
      u.lintHit o q = some i →
      (u.rfNoted n.val D h).lintHit o q = some i →
      ∃ t, exec (.rfFrameDeliver n idx h) s = .next t ∧ (t.rfPort n.val).dems = (u.rfPort n.val).dems.filter (fun d => d.idx ≠ idx.val) ∧ t.fget (fRFRXOK_COUNT n.val) = (u.fget (fRFRXOK_COUNT n.val) + 1) % 2 ^ (fRFRXOK_COUNT 0).w ∧ (t.rfPort n.val).queue = (u.rfPort n.val).queue ∧ (∀ m, m < 6 → m ≠ n.val → t.rfPort m = u.rfPort m) ∧
        (u.lintAge i < u.fget fRFFLOOD_ACKHOLD * 100 → t.delivered = u.delivered ∧ t.fget fRFLINTDUP_COUNT = satAdd fRFLINTDUP_COUNT.w (u.fget fRFLINTDUP_COUNT) 1) ∧
        (u.fget fRFFLOOD_ACKHOLD * 100 ≤ u.lintAge i → macDst h.psdu = u.fget fKEYID_EUI → ∃ e, t.delivered = e :: u.delivered ∧ e.dest = .hw ∧ e.src = 0x20 + n.val ∧ (e.radio.map (fun m => (m.port, m.group, m.kind, m.mcs, m.rssi, m.snr))) = some (n.val, D.group, D.kind, h.mcs.val, h.rssi.toNat, h.snr.toNat) ∧ e.typ = 1) ∧
        (u.fget fRFFLOOD_ACKHOLD * 100 ≤ u.lintAge i → macDst h.psdu ≠ u.fget fKEYID_EUI → t.delivered = u.delivered)) ∧
    (∀ (n : Fin 6) (idx : Fin 64) (h : RfHeard) (s u : State) (D : RfDemod),
      s.clocked = true →
      u = s.rfSettle n.val →
      (u.rfPort n.val).dems.find? (fun d => d.idx = idx.val) = some D →
      h.phr = true →
      h.supported = true →
      rfMcsOk D.kind h.mcs.val = true →
      h.fcs = true →
      h.psdu.length + (if h.fcs2 then 2 else 4) ≤ 1280 →
      u.rfHears n.val = true →
      macOk h.psdu = true →
      macType h.psdu ≠ 0 →
      ∃ t e, exec (.rfFrameDeliver n idx h) s = .next t ∧ t.delivered = e :: u.delivered ∧ e.dest = .hw ∧ e.src = 0x20 + n.val ∧ (e.radio.map (fun m => (m.port, m.group, m.kind, m.mcs, m.rssi, m.snr))) = some (n.val, D.group, D.kind, h.mcs.val, h.rssi.toNat, h.snr.toNat) ∧ e.bytes = h.psdu ∧ e.typ = 16 * macType h.psdu ∧ t.fget (fRFRXOK_COUNT n.val) = (u.fget (fRFRXOK_COUNT n.val) + 1) % 2 ^ (fRFRXOK_COUNT 0).w ∧ (t.rfPort n.val).dems = (u.rfPort n.val).dems.filter (fun d => d.idx ≠ idx.val) ∧ (t.rfPort n.val).owed = (u.rfPort n.val).owed ∧ (t.rfPort n.val).queue = (u.rfPort n.val).queue ∧ (∀ m, m < 6 → m ≠ n.val → t.rfPort m = u.rfPort m)) ∧
    (∀ (n : Fin 6) (s u : State) (a : RfAck) (rest : List RfAck),
      s.clocked = true →
      u = s.rfSettle n.val →
      (u.rfPort n.val).owed = a :: rest →
      u.rfAckAt n.val a (rfAir ⟨a.kind, a.mcs, false, 4, 8⟩ 28) = some u.time.raw →
      u.time.raw ≤ a.due + 2000000 →
      u.rfBeaconClash n.val u.time.raw (u.time.raw + rfAir ⟨a.kind, a.mcs, false, 4, 8⟩ 28) = false →
      u.rfTxOk n.val = true →
      u.rfGroupOk n.val a.kind a.group = true →
      ∃ t b, exec (.rfAckSend n) s = .next t ∧ t.wire = b :: u.wire ∧ b.port = 0x20 + n.val ∧ (t.rfPort n.val).owed = rest ∧ (t.rfPort n.val).seq = (u.rfPort n.val).seq ∧ (t.rfPort n.val).dems = [] ∧
        (t.rfPort n.val).tx.head? = some ⟨u.time.raw, u.time.raw + rfAir ⟨a.kind, a.mcs, false, 4, 8⟩ 28, false⟩ ∧ (t.rfPort n.val).queue = (u.rfPort n.val).queue ∧ t.mem = u.mem ∧ (∀ m, m < 6 → m ≠ n.val → t.rfPort m = u.rfPort m) ∧
        t.fget (fRFTXOK_COUNT n.val) = (u.fget (fRFTXOK_COUNT n.val) + 1) % 2 ^ (fRFTXOK_COUNT 0).w) ∧
    (∀ (n : Fin 6) (s u : State) (a : RfAck) (rest : List RfAck),
      s.clocked = true →
      u = s.rfSettle n.val →
      (u.rfPort n.val).owed = a :: rest →
      a.due + 2000000 < u.time.raw →
      exec (.rfAckSend n) s = .next ((u.setRfPort n.val { (u.rfPort n.val) with owed := rest }).bump (fRFACKSKIP_COUNT n.val) 1)) ∧
    (∀ (n : Fin 6) (s u : State) (a : RfAck) (rest : List RfAck) (x : Nat),
      s.clocked = true →
      u = s.rfSettle n.val →
      (u.rfPort n.val).owed = a :: rest →
      u.rfAckAt n.val a (rfAir ⟨a.kind, a.mcs, false, 4, 8⟩ 28) = some x →
      u.rfBeaconClash n.val x (x + rfAir ⟨a.kind, a.mcs, false, 4, 8⟩ 28) = true →
      exec (.rfAckSend n) s = .next ((u.setRfPort n.val { (u.rfPort n.val) with owed := rest }).bump (fRFACKSKIP_COUNT n.val) 1)) ∧
    (∀ (n : Fin 6) (s u : State) (a : RfAck) (rest : List RfAck) (x : Nat),
      s.clocked = true →
      u = s.rfSettle n.val →
      (u.rfPort n.val).owed = a :: rest →
      u.rfAckAt n.val a (rfAir ⟨a.kind, a.mcs, false, 4, 8⟩ 28) = some x →
      u.time.raw ≤ a.due + 2000000 →
      u.rfBeaconClash n.val x (x + rfAir ⟨a.kind, a.mcs, false, 4, 8⟩ 28) = false →
      u.time.raw ≠ x ∨ u.rfTxOk n.val = false ∨ u.rfGroupOk n.val a.kind a.group = false →
      exec (.rfAckSend n) s = .next u) ∧
    (∀ (n : Fin 6) (s u : State) (a : RfAck) (rest : List RfAck),
      s.clocked = true →
      u = s.rfSettle n.val →
      (u.rfPort n.val).owed = a :: rest →
      (u.rfTxs n.val).all (fun t => t.beacon || !t.meets a.due (a.due + rfAir ⟨a.kind, a.mcs, false, 4, 8⟩ 28)) = true →
      u.rfAckAt n.val a (rfAir ⟨a.kind, a.mcs, false, 4, 8⟩ 28) = some a.due) ∧
    (∀ (n : Fin 6) (s u : State),
      s.clocked = true →
      u = s.rfSettle n.val →
      (u.rfPort n.val).owed = [] →
      exec (.rfAckSend n) s = .next u) ∧
    (∀ (n : Fin 6) (s u : State),
      s.clocked = true →
      u = s.rfSettle n.val →
      exec (.rfRealign n) s = .next ((u.setRfPort n.val { (u.rfPort n.val) with dems := [] }).bump (fRFRXABORT_COUNT n.val) (u.rfPort n.val).dems.length))

/-- SUPERFRAME_START of a root with valid time, when none runs or the next is due, starts a superframe at the last offset multiple
of chip time, with its number and HOP 0; of a follower, at the start its parent or HOLD foretells, with the number foretold; at
the ninth start in HOLD counted from the window that closed third, it becomes a fallback root with HOP 0; pending swaps take
effect, and each port whose slot 0 is BEACON lays a beacon out 500 µs into it. Not due, with invalid time, in Quiet, or not
serving, it changes nothing but what is due. BEACON_RECEIVE of a beacon of the root followed: in ACQUIRE, in HOLD, or in TRACK
from the parent within the window, it enters TRACK under its sender with HOP one more; in FALLBACK it sets SEEN; any other is
ignored. BEACON_WINDOW_CLOSE without a beacon counts it, and at the third in a row enters HOLD. SLOT_SWAP_REQUEST with a sound
inactive bank leaves the swap pending; with one pending it is refused with ENGINE_BUSY, and with an unsound bank with
BAD_ARGUMENT. (R348, R349, R355, R356, R359, R360, R361, R363, R364) -/
def Obligations.SuperframesAndBeacons : Prop :=
    (∀ (s u : State) (start : Nat),
      s.clocked = true →
      s.serving = true →
      s.quiet = false →
      u = (List.range 6).foldl (fun v k => v.rfSettle k) s →
      u.sfFollows = false →
      u.timeValid = true →
      u.sfNext.getD 0 ≤ u.chip →
      start = u.chip - (((u.chip : Int) - (u.fget fRFSFOFF_OFFSET : Int)) % 4096000000).toNat →
      ∃ t, exec .superframeStart s = .next t ∧ t.rf.start = some start ∧ t.rf.len = 4096000000 ∧ t.sfState = sfRoot ∧ t.fget fRFSFSTAT_HOP = 0 ∧
        t.fget fRFSFN_SFN = cut 32 (((start : Int) - (u.fget fRFSFOFF_OFFSET : Int)) / 4096000000) ∧ t.rf.follow = u.rf.follow ∧ t.mem = u.mem ∧
        (∀ n, n < 6 → t.flag (fRFSLOTCTL_PEND n) = (u.flag (fRFSLOTCTL_PEND n) && decide (u.rawOf start < (u.rfPort n).swapAt + 2000)) ∧
          t.rfAct n = (if u.flag (fRFSLOTCTL_PEND n) = true ∧ (u.rfPort n).swapAt + 2000 ≤ u.rawOf start then !u.rfAct n else u.rfAct n))) ∧
    (∀ (s u : State),
      s.clocked = true →
      s.serving = true →
      s.quiet = false →
      u = (List.range 6).foldl (fun v k => v.rfSettle k) s →
      u.sfFollows = false →
      u.timeValid = false ∨ u.chip < u.sfNext.getD 0 →
      exec .superframeStart s = .next u) ∧
    (∀ (s u : State) (start : Nat),
      s.clocked = true →
      s.serving = true →
      s.quiet = false →
      u = (List.range 6).foldl (fun v k => v.rfSettle k) s →
      u.sfFollows = true →
      u.rf.follow = some start →
      start ≤ u.chip →
      u.rf.nextSfn < 2 ^ 32 →
      u.sfState ≠ sfHold ∨ u.sfHeld u.rf.nextSfn < 9 →
      ∃ t, exec .superframeStart s = .next t ∧ t.rf.start = some start ∧ t.rf.len = u.sfLen ∧ t.rf.follow = some (start + u.sfLen) ∧ t.fget fRFSFN_SFN = u.rf.nextSfn ∧
        t.rf.nextSfn = (u.rf.nextSfn + 1) % 2 ^ 32 ∧ t.sfState = u.sfState ∧ t.fget fRFSFSTAT_HOP = u.fget fRFSFSTAT_HOP ∧ t.mem = u.mem ∧
        (∀ n, n < 6 → t.flag (fRFSLOTCTL_PEND n) = (u.flag (fRFSLOTCTL_PEND n) && decide (u.rawOf start < (u.rfPort n).swapAt + 2000)) ∧
          t.rfAct n = (if u.flag (fRFSLOTCTL_PEND n) = true ∧ (u.rfPort n).swapAt + 2000 ≤ u.rawOf start then !u.rfAct n else u.rfAct n))) ∧
    (∀ (s u : State) (start : Nat),
      s.clocked = true →
      s.serving = true →
      s.quiet = false →
      u = (List.range 6).foldl (fun v k => v.rfSettle k) s →
      u.sfFollows = true →
      u.rf.follow = some start →
      start ≤ u.chip →
      u.rf.nextSfn < 2 ^ 32 →
      u.sfState = sfHold →
      9 ≤ u.sfHeld u.rf.nextSfn →
      ∃ t, exec .superframeStart s = .next t ∧ t.rf.start = some start ∧ t.sfState = sfFallback ∧ t.fget fRFSFSTAT_HOP = 0 ∧ t.fget fRFSFN_SFN = u.rf.nextSfn ∧
        t.rf.nextSfn = (u.rf.nextSfn + 1) % 2 ^ 32 ∧ t.mem = u.mem) ∧
    (∀ (s u : State),
      s.clocked = true →
      s.serving = true →
      s.quiet = false →
      u = (List.range 6).foldl (fun v k => v.rfSettle k) s →
      u.sfFollows = true →
      u.rf.follow.getD (u.chip + 1) > u.chip →
      exec .superframeStart s = .next u) ∧
    (∀ (s : State),
      s.clocked = true →
      s.serving = false ∨ s.quiet = true →
      exec .superframeStart s = .next s) ∧
    (∀ (s : State) (n start : Nat),
      slotUse (s.rfSlot n (s.rfAct n) 0) = useBeacon →
      s.rfMayTx n = true →
      ∃ x, ((s.rfBeacon n start).rfPort n).ahead = (s.rfPort n).ahead ++ [x] ∧ x.air.from_ = s.rawOf (start + 500000) ∧ x.air.beacon = true ∧ macType x.psdu = 1 ∧
        macDst x.psdu = euiAll ∧ be (macBody x.psdu) 0 2 = s.fget fRFCELL_CELL % 2 ^ 16 ∧ be (macBody x.psdu) 12 4 = s.fget fRFSFN_SFN) ∧
    (∀ (psdu : List Byte) (ago : Nat) (s : State),
      s.clocked = true →
      s.serving = true →
      s.quiet = false →
      macOk psdu = true →
      macType psdu = 1 →
      be (macBody psdu) 2 8 = s.fget fRFFOLLOW_EUI →
      be (macBody psdu) 0 2 = s.fget fRFCELL_CELL →
      be (macBody psdu) 10 1 ≤ 14 →
      s.sfState = sfAcquire ∨ s.sfState = sfHold ∨ (s.sfState = sfTrack ∧ macSrc psdu = s.fget fRFPARENT_EUI ∧ s.rfInWindow (s.chipAt (s.time.raw - ago)) = true) →
      ∃ t, exec (.beaconReceive psdu ago) s = .next t ∧ t.sfState = sfTrack ∧ t.fget fRFSFSTAT_MISSED = 0 ∧ t.fget fRFSFSTAT_HOP = be (macBody psdu) 10 1 + 1 ∧
        t.fget fRFPARENT_EUI = macSrc psdu ∧ t.rf.nextSfn = be (macBody psdu) 12 4 ∧ t.rf.winSfn = (be (macBody psdu) 12 4 + 1) % 2 ^ 32 ∧
        t.rf.follow = some (s.chipAt (s.time.raw - ago) - 500000 + s.fget fRFSF_SHIFT * 16000000) ∧ t.rf.win = s.chipAt (s.time.raw - ago) + 4096000000 ∧
        (∀ n, t.rfPort n = s.rfPort n) ∧ t = { s with csr := t.csr, rf := t.rf }) ∧
    (∀ (psdu : List Byte) (ago : Nat) (s : State),
      s.clocked = true →
      s.serving = true →
      s.quiet = false →
      macOk psdu = true →
      macType psdu = 1 →
      be (macBody psdu) 2 8 = s.fget fRFFOLLOW_EUI →
      s.sfState = sfFallback →
      exec (.beaconReceive psdu ago) s = .next (s.setFlag fRFSFSTAT_SEEN true)) ∧
    (∀ (psdu : List Byte) (ago : Nat) (s : State),
      s.clocked = true →
      s.serving = false ∨ s.quiet = true ∨ macOk psdu = false ∨ macType psdu ≠ 1 ∨ be (macBody psdu) 2 8 ≠ s.fget fRFFOLLOW_EUI ∨
        (s.sfState ≠ sfFallback ∧ (be (macBody psdu) 0 2 ≠ s.fget fRFCELL_CELL ∨ 14 < be (macBody psdu) 10 1 ∨ s.sfState = sfUnsync ∨ s.sfState = sfRoot ∨
          (s.sfState = sfTrack ∧ (macSrc psdu ≠ s.fget fRFPARENT_EUI ∨ s.rfInWindow (s.chipAt (s.time.raw - ago)) = false)))) →
      exec (.beaconReceive psdu ago) s = .next s) ∧
    (∀ (s : State),
      s.clocked = true →
      s.serving = true →
      s.quiet = false →
      s.sfState = sfTrack →
      s.rf.win + s.fget fRFSF_BWIN * 100000 ≤ s.chip →
      s.fget fRFSFSTAT_MISSED < 2 →
      ∃ t, exec .beaconWindowClose s = .next t ∧ t.sfState = sfTrack ∧ t.fget fRFSFSTAT_MISSED = s.fget fRFSFSTAT_MISSED + 1 ∧ t.fget fRFBMISS_COUNT = satAdd fRFBMISS_COUNT.w (s.fget fRFBMISS_COUNT) 1 ∧ t.rf.win = s.rf.win + 4096000000 ∧ (∀ n, t.rfPort n = s.rfPort n) ∧ t = { s with csr := t.csr, rf := t.rf }) ∧
    (∀ (s : State),
      s.clocked = true →
      s.serving = true →
      s.quiet = false →
      s.sfState = sfTrack →
      s.rf.win + s.fget fRFSF_BWIN * 100000 ≤ s.chip →
      s.fget fRFSFSTAT_MISSED = 2 →
      ∃ t, exec .beaconWindowClose s = .next t ∧ t.sfState = sfHold ∧ t.rf.holdSfn = s.rf.winSfn ∧ t.fget fRFBMISS_COUNT = satAdd fRFBMISS_COUNT.w (s.fget fRFBMISS_COUNT) 1 ∧ t.rf.win = s.rf.win + 4096000000 ∧ (∀ n, t.rfPort n = s.rfPort n) ∧ t = { s with csr := t.csr, rf := t.rf }) ∧
    (∀ (s : State),
      s.clocked = true →
      s.serving = false ∨ s.quiet = true ∨ s.sfState ≠ sfTrack ∨ s.chip < s.rf.win + s.fget fRFSF_BWIN * 100000 →
      exec .beaconWindowClose s = .next s) ∧
    (∀ (a : Agent) (n : Fin 6) (s : State),
      s.writes a (rRFSLOTCTL n.val) = true →
      s.flag (fRFSLOTCTL_PEND n.val) = false →
      s.rfBankOk n.val (!s.rfAct n.val) (s.rfProf n.val) = true →
      exec (.slotSwapRequest a n) s = .next (((s.setRfPort n.val { (s.rfPort n.val) with swapAt := s.time.raw }).setFlag (fRFSLOTCTL_PEND n.val) true).say .done)) ∧
    (∀ (a : Agent) (n : Fin 6) (s : State),
      s.writes a (rRFSLOTCTL n.val) = true →
      s.flag (fRFSLOTCTL_PEND n.val) = true →
      exec (.slotSwapRequest a n) s = .next (s.say .engineBusy)) ∧
    (∀ (a : Agent) (n : Fin 6) (s : State),
      s.writes a (rRFSLOTCTL n.val) = true →
      s.flag (fRFSLOTCTL_PEND n.val) = false →
      s.rfBankOk n.val (!s.rfAct n.val) (s.rfProf n.val) = false →
      exec (.slotSwapRequest a n) s = .next (s.say .badArgument))

/-- RF_RUN_TRANSMIT takes the frames handed to the port, and of those that can start in the run in progress sends the first, in a
TXU run the one of earliest scheduled start: it lies in the run between its guards, on an enabled group, takes the port's SEQ
and is counted; with no run, none that can start, or a port that may not transmit, it sends nothing. RF_TX_TIMEOUT drops the
frames that have waited too long or fit no run, and counts them. FLOOD_RELAY_ELIGIBLE makes a relay copy whose delay is over
eligible. FLOOD_ORIGINATE takes the next FSEQ and queues the flood on every port that has a broadcast run, and on no other; in
Quiet or not serving it does nothing. SLEEPY_SEND lays out the sequence of the sleepy frame whose plan begins first: WAKE frames
and data, in one TXU run of the endpoint's group, clear of the port's other transmissions. LINT_TRAP_SWEEP, a minute after the
last, frees exactly the entries older than RES, and sooner nothing. (R333, R350, R352, R369, R370, R374, R375, R376, R377, R647) -/
def Obligations.RadioTransmission : Prop :=
    (∀ (n : Fin 6) (s u : State) (r : RfRun) (f : RfFrame),
      s.clocked = true →
      u = (s.rfSettle n.val).rfPull n.val →
      u.rfRunAt n.val u.time.raw = some r →
      rfFirst (slotUse r.entry = useTxu) ((u.rfPort n.val).queue.filter (u.rfCanSend n.val r)) = some f →
      u.rfMayTx n.val = true →
      ∃ t b, exec (.rfRunTransmit n) s = .next t ∧ (t.rfPort n.val).queue = (u.rfPort n.val).queue.erase f ∧ t.wire = b :: u.wire ∧ b.port = 0x20 + n.val ∧
        (t.rfPort n.val).tx.head? = some ⟨u.time.raw, u.time.raw + (rfFrameAir (u.rfProf n.val (slotProf r.entry)) f), false⟩ ∧ (t.rfPort n.val).seq = ((u.rfPort n.val).seq + 1) % 2 ^ 16 ∧ (t.rfPort n.val).dems = [] ∧ (∀ m, m < 6 → m ≠ n.val → t.rfPort m = u.rfPort m) ∧
        t.fget (fRFTXOK_COUNT n.val) = (u.fget (fRFTXOK_COUNT n.val) + 1) % 2 ^ (fRFTXOK_COUNT 0).w ∧ t.mem = u.mem ∧ t.kep = u.kep) ∧
    (∀ (n : Fin 6) (s u : State),
      s.clocked = true →
      u = (s.rfSettle n.val).rfPull n.val →
      u.rfRunAt n.val u.time.raw = none ∨ u.rfMayTx n.val = false →
      exec (.rfRunTransmit n) s = .next u) ∧
    (∀ (n : Fin 6) (s u : State) (r : RfRun),
      s.clocked = true →
      u = (s.rfSettle n.val).rfPull n.val →
      u.rfRunAt n.val u.time.raw = some r →
      (u.rfPort n.val).queue.filter (u.rfCanSend n.val r) = [] →
      exec (.rfRunTransmit n) s = .next u) ∧
    (∀ (txu : Bool) (l : List RfFrame) (f : RfFrame),
      rfFirst txu l = some f →
      l.contains f = true ∧ (txu = false → l.head? = some f) ∧
        (txu = true → l.all (fun g => decide (max f.since f.notBefore ≤ max g.since g.notBefore)) = true)) ∧
    (∀ (s : State) (n : Nat) (r : RfRun) (f : RfFrame),
      s.rfCanSend n r f = true →
      f.useOf = slotUse r.entry ∧ f.notBefore ≤ s.time.raw ∧ r.from_ + 500000 ≤ s.time.raw ∧ s.time.raw + rfFrameAir (s.rfProf n (slotProf r.entry)) f + 500000 ≤ r.to_ ∧
        s.rfGroupOk n (s.rfProf n (slotProf r.entry)).kind (slotCh r.entry) = true ∧ s.rfFree n s.time.raw (s.time.raw + rfFrameAir (s.rfProf n (slotProf r.entry)) f) = true) ∧
    (∀ (s : State) (n : Nat),
      s.kep.out.any (s.rfMine n) = false →
      (s.rfPull n).rfPort n = s.rfPort n ∧ (s.rfPull n).kep = s.kep ∧ (s.rfPull n).csr = s.csr) ∧
    (∀ (s : State) (n : Nat) (f : PortFrame),
      s.kep.out = [f] →
      s.rfMine n f = true →
      ∃ g, ((s.rfPull n).rfPort n).queue = (s.rfPort n).queue ++ [g] ∧ g.dst = (if 2 ≤ f.kind then euiAll else f.link) ∧ g.since = f.since ∧ g.ackBy = f.ackBy ∧
        g.use = (if f.kind = 3 then .setpoint else if f.kind = 2 then .broadcast else .unicast) ∧ (s.rfPull n).kep.out = []) ∧
    (∀ (n : Fin 6) (s u : State) (late : RfFrame → Bool),
      s.clocked = true →
      u = (s.rfSettle n.val).rfPull n.val →
      late = (fun f => decide (f.since + secRaw (u.fget fRFFLOOD_RES) ≤ u.time.raw) || u.rfHopeless n.val f) →
      ∃ t, exec (.rfTxTimeout n) s = .next t ∧ (t.rfPort n.val).queue = (u.rfPort n.val).queue.filter (fun f => !late f) ∧
        t.fget (fRFTXDROP_COUNT n.val) = satAdd (fRFTXDROP_COUNT 0).w (u.fget (fRFTXDROP_COUNT n.val)) ((u.rfPort n.val).queue.filter late).length ∧ (∀ m, m < 6 → m ≠ n.val → t.rfPort m = u.rfPort m) ∧ t = { u with csr := t.csr, rf := t.rf }) ∧
    (∀ (n : Fin 6) (k : Nat) (s : State) (f : RfFrame),
      s.clocked = true →
      (s.rfPort n.val).queue[k]? = some f →
      f.notBefore ≤ s.time.raw →
      exec (.floodRelayEligible n k) s = .next (s.setRfPort n.val { (s.rfPort n.val) with queue := (s.rfPort n.val).queue.set k { f with eligible := true } })) ∧
    (∀ (n : Fin 6) (k : Nat) (s : State),
      s.clocked = true →
      ((s.rfPort n.val).queue[k]?.map (fun f => decide (f.notBefore ≤ s.time.raw))).getD false = false →
      exec (.floodRelayEligible n k) s = .next s) ∧
    (∀ (dst : DWord) (payload : List Byte) (s : State),
      s.clocked = true →
      s.serving = true →
      s.quiet = false →
      ∃ t, exec (.floodOriginate dst payload) s = .next t ∧ t.fget fRFFSEQ_FSEQ = (s.fget fRFFSEQ_FSEQ + 1) % 2 ^ fRFFSEQ_FSEQ.w ∧ t.wire = s.wire ∧
        (∀ n, n < 6 → if s.rfOn n = true ∧ s.rfHasTxb n = true
          then ∃ f, (t.rfPort n).queue = (s.rfPort n).queue ++ [f] ∧ f.use = .broadcast ∧ f.dst = dst.toNat ∧ f.own = true ∧ f.since = s.time.raw ∧ macBody f.psdu = payload
          else t.rfPort n = s.rfPort n)) ∧
    (∀ (dst : DWord) (payload : List Byte) (s : State),
      s.clocked = true →
      s.serving = false ∨ s.quiet = true →
      exec (.floodOriginate dst payload) s = .next s) ∧
    (∀ (n : Fin 6) (s u : State) (f : RfFrame) (p : SleepyPlan),
      s.clocked = true →
      u = (s.rfSettle n.val).rfPull n.val →
      u.rfMayTx n.val = true →
      u.sleepyPick n.val (u.rfPort n.val).queue = some (f, p) →
      exec (.sleepySend n) s = .next ((u.setRfPort n.val { (u.rfPort n.val) with queue := (u.rfPort n.val).queue.erase f, ahead := (u.rfPort n.val).ahead ++ u.sleepySends n.val f p }).rfSettle n.val)) ∧
    (∀ (n : Fin 6) (s u : State),
      s.clocked = true →
      u = (s.rfSettle n.val).rfPull n.val →
      u.rfMayTx n.val = false ∨ u.sleepyPick n.val (u.rfPort n.val).queue = none →
      exec (.sleepySend n) s = .next u) ∧
    (∀ (s : State) (n : Nat) (f : RfFrame) (p : SleepyPlan),
      (s.sleepySends n f p).length = p.wakes + 1 ∧ ((s.sleepySends n f p).map (·.frame)) = List.replicate p.wakes none ++ [some f] ∧
        ((s.sleepySends n f p).getLast?.map (fun x => (x.psdu, x.air.to_))) = some (f.psdu, p.to_) ∧
        ((s.sleepySends n f p).take p.wakes).all (fun x => decide (macType x.psdu = 3) && decide (macDst x.psdu = f.dst % 2 ^ 64)) = true) ∧
    (∀ (s : State) (n i len raw win : Nat) (p : SleepyPlan),
      s.sleepyAt n i len raw win = some p →
      ∃ r, s.rfRunAt n raw = some r ∧ p.from_ = raw ∧ r.from_ + 500000 ≤ p.from_ ∧ p.to_ + 500000 ≤ r.to_ ∧ slotUse r.entry = useTxu ∧ slotCh r.entry = s.nb i 16 1 ∧
        s.rfFree n p.from_ p.to_ = true ∧ p.to_ = raw + (sleepyCover (s.rfProf n (slotProf r.entry)) len win).2.2) ∧
    (∀ (s : State),
      s.clocked = true →
      s.rf.sweptAt + 60000000000 ≤ s.time.raw →
      ∃ t, exec .lintTrapSweep s = .next t ∧ t.rf = { s.rf with sweptAt := s.time.raw } ∧
        (∀ i, i < 65536 → t.peek (lintAddr i + 10) 1 =
          if s.fget fRFFLOOD_RES * 1000 < s.lintAge i then 0 else s.peek (lintAddr i + 10) 1) ∧
        (∀ x, (∀ i, i < 65536 → x ≠ lintAddr i + 10) → t.byte x = s.byte x) ∧ t.csr = s.csr) ∧
    (∀ (s : State),
      s.clocked = true →
      s.time.raw < s.rf.sweptAt + 60000000000 →
      exec .lintTrapSweep s = .next s)

/-- KEP_UPLINK_FRAME, check by check in the order of R389: a frame out of shape or of an ID nobody knows is counted and recorded;
one of a remote home is forwarded; on a field-role chip one of a relay target, or of an unknown ID under FWD_UNKNOWN, goes into
an envelope, waits for the ceiling, or is lost with the peer closed. A frame of another generation, without a key, with a
counter too low or a wrong tag is counted and not answered (no key: SFLAGS[4], but for a mask without an engine). One with the
last counter there is gets a REKEY answer, a malformed or wrong-way READINGS a FORMAT answer and any other none; CMD_RESP and
FW_STATUS move VOL_IC, go to the control firmware, and FW_STATUS updates the bitmap of its campaign. READINGS with the last
counter again are a duplicate: counted, answered with DUP, not journaled. New ones are answered MODE with no calendar or ingest
closed, BUSY while the endpoint is cut or held or the store has no room, NOPROG without a program (counted), and else ACCEPTED
with the first ISN; with no room in the ring nothing happens but the receive report. The first frame under the pending
generation journals a KEYGEN entry and changes the generation. DLMS_APDU makes the same checks for a meter, without answers:
wrapper, layout, endpoint, title, key, counter, tag, exhausted counter, service; an APDU without named values moves VOL_IC, and
one with them is ingested. The ingest of the readings of one frame writes one journal entry, moves LAST_IC and posts their items
in ISN order. (R202, R208, R381, R384, R385, R389, R391, R395, R397, R402, R602) -/
def Obligations.UplinkFramesAndReadings : Prop :=
    (∀ (p : RxPath) (frame : List Byte) (s : State),
      s.clocked = true →
      (KepFrame.parse frame).shaped = false →
      exec (.kepUplinkFrame p frame) s = .next ((s.bump fKEPBADF_COUNT 1).refused5 .badFrame (pathSrc p).1 (pathSrc p).2 frame.length p.port (if 12 ≤ frame.length then (KepFrame.parse frame).id else 0))) ∧
    (∀ (p : RxPath) (frame : List Byte) (s : State),
      s.clocked = true →
      (KepFrame.parse frame).shaped = true →
      s.lookup (KepFrame.parse frame).id p.chip.isSome = .unknown →
      s.unknownPeer = none →
      exec (.kepUplinkFrame p frame) s = .next ((((s.setKep { s.kep with reports := p :: s.kep.reports }).bump fEPTMISS_COUNT 1).bump fKEPUNK_COUNT 1).refused5 .unknownEndpoint (pathSrc p).1 (pathSrc p).2 frame.length p.port (KepFrame.parse frame).id)) ∧
    (∀ (p : RxPath) (frame : List Byte) (s : State) (e : EptEntry),
      s.clocked = true →
      (KepFrame.parse frame).shaped = true →
      s.lookup (KepFrame.parse frame).id p.chip.isSome = .relay e →
      s.flag fSYSSTAT_ROLE_F = false →
      exec (.kepUplinkFrame p frame) s = .next (((s.setKep { s.kep with reports := p :: s.kep.reports }).bump fKEPUNK_COUNT 1).refused5 .unknownEndpoint (pathSrc p).1 (pathSrc p).2 frame.length p.port (KepFrame.parse frame).id)) ∧
    (∀ (p : RxPath) (frame : List Byte) (s : State) (c : Nat) (o : Option EptEntry),
      s.clocked = true →
      (KepFrame.parse frame).shaped = true →
      s.lookup (KepFrame.parse frame).id p.chip.isSome = .remote c o →
      exec (.kepUplinkFrame p frame) s = .next (((s.setKep { s.kep with reports := p :: s.kep.reports }).chipSend c 0 0x01 (pathRecord p frame.length ++ frame) []).count fSEMFWD_COUNT 1)) ∧
    (∀ (p : RxPath) (frame : List Byte) (s : State) (e : EptEntry) (n : Nat),
      s.clocked = true →
      (KepFrame.parse frame).shaped = true →
      s.lookup (KepFrame.parse frame).id p.chip.isSome = .relay e →
      s.flag fSYSSTAT_ROLE_F = true →
      n = e.rpeer →
      s.peerOpen n = false →
      exec (.kepUplinkFrame p frame) s = .next (s.setKep { s.kep with reports := p :: s.kep.reports })) ∧
    (∀ (p : RxPath) (frame : List Byte) (s : State) (e : EptEntry) (n : Nat),
      s.clocked = true →
      (KepFrame.parse frame).shaped = true →
      s.lookup (KepFrame.parse frame).id p.chip.isSome = .relay e →
      s.flag fSYSSTAT_ROLE_F = true →
      n = e.rpeer →
      s.peerOpen n = true →
      s.envelopeReady n = false →
      exec (.kepUplinkFrame p frame) s = .next (((s.setKep { s.kep with reports := p :: s.kep.reports }).setKep { (s.setKep { s.kep with reports := p :: s.kep.reports }).kep with envs := s.kep.envs ++ [⟨n, 0, p, frame⟩] }).bump fKEPCTRWAIT_COUNT 1)) ∧
    (∀ (p : RxPath) (frame : List Byte) (s : State) (e : EptEntry) (n : Nat),
      s.clocked = true →
      (KepFrame.parse frame).shaped = true →
      s.lookup (KepFrame.parse frame).id p.chip.isSome = .relay e →
      s.flag fSYSSTAT_ROLE_F = true →
      n = e.rpeer →
      s.envelopeReady n = true →
      exec (.kepUplinkFrame p frame) s = .next ((s.setKep { s.kep with reports := p :: s.kep.reports }).envelopeOut n 0 p frame)) ∧
    (∀ (p : RxPath) (frame : List Byte) (s : State) (n : Nat),
      s.clocked = true →
      (KepFrame.parse frame).shaped = true →
      s.lookup (KepFrame.parse frame).id p.chip.isSome = .unknown →
      s.unknownPeer = some n →
      exec (.kepUplinkFrame p frame) s = .next ((s.setKep { s.kep with reports := p :: s.kep.reports }).envelopePut n 0 p frame)) ∧
    (∀ (p : RxPath) (frame : List Byte) (s : State) (e : EptEntry),
      s.clocked = true →
      (KepFrame.parse frame).shaped = true →
      s.lookup (KepFrame.parse frame).id p.chip.isSome = .localTo e →
      ¬ ((KepFrame.parse frame).kg = s.kg e.epi ∨ (bit (s.sflags e.epi) sfPending = true ∧ (KepFrame.parse frame).kg = s.pkg e.epi)) →
      exec (.kepUplinkFrame p frame) s = .next ((s.setKep { s.kep with reports := p :: s.kep.reports }).bump fKEPREPLAY_COUNT 1)) ∧
    (∀ (p : RxPath) (frame : List Byte) (s : State) (e : EptEntry) (wrap key : List Byte) (eng : Nat) (status : Status) (f : Bool),
      s.clocked = true →
      (KepFrame.parse frame).shaped = true →
      s.lookup (KepFrame.parse frame).id p.chip.isSome = .localTo e →
      ((KepFrame.parse frame).kg = s.kg e.epi ∨ (bit (s.sflags e.epi) sfPending = true ∧ (KepFrame.parse frame).kg = s.pkg e.epi)) →
      wrap = (if (KepFrame.parse frame).kg = s.kg e.epi then (s.pocket e.epi).wrap else s.bytes (s.secAddr e.epi + 40) 40) →
      s.uplinkKey e.epi wrap = (status, key, eng, f) →
      status ≠ .done →
      exec (.kepUplinkFrame p frame) s = .next ((if status = .keyDenied then (if f then (s.setKep { s.kep with reports := p :: s.kep.reports }).bump fKEYUNWRAPF_COUNT 1 else (s.setKep { s.kep with reports := p :: s.kep.reports })) else (if f then (s.setKep { s.kep with reports := p :: s.kep.reports }).bump fKEYUNWRAPF_COUNT 1 else (s.setKep { s.kep with reports := p :: s.kep.reports })).setSflag e.epi sfOrphaned true).bump fKEPKEY_COUNT 1)) ∧
    (∀ (epi : Nat) (wrap : List Byte) (s : State),
      (s.flag fTMPSTAT_ERASED = true → (s.uplinkKey epi wrap).1 = .keyEmpty) ∧
        (s.flag fTMPSTAT_ERASED = false → (s.pocket epi).v ≠ 1 → (s.uplinkKey epi wrap).1 = .keyEmpty) ∧
        (s.flag fTMPSTAT_ERASED = false → (s.pocket epi).v = 1 → ((s.slot (s.pocket epi).parent).typ = 0 ∨
          bit (s.slot (s.pocket epi).parent).mask mWrap = false ∨ (s.slot (s.pocket epi).parent).kid ≠ (s.pocket epi).pkid) → (s.uplinkKey epi wrap).1 = .keyOrphaned) ∧
        ((s.uplinkKey epi wrap).1 = .done → (s.uplinkKey epi wrap).2.2.1 < 4 ∧ bit (s.pocket epi).mask (s.uplinkKey epi wrap).2.2.1 = true ∧ s.fenced (4 + (s.uplinkKey epi wrap).2.2.1) = false)) ∧
    (∀ (p : RxPath) (frame : List Byte) (s : State) (e : EptEntry) (wrap key : List Byte) (eng : Nat),
      s.clocked = true →
      (KepFrame.parse frame).shaped = true →
      s.lookup (KepFrame.parse frame).id p.chip.isSome = .localTo e →
      ((KepFrame.parse frame).kg = s.kg e.epi ∨ (bit (s.sflags e.epi) sfPending = true ∧ (KepFrame.parse frame).kg = s.pkg e.epi)) →
      wrap = (if (KepFrame.parse frame).kg = s.kg e.epi then (s.pocket e.epi).wrap else s.bytes (s.secAddr e.epi + 40) 40) →
      s.uplinkKey e.epi wrap = (.done, key, eng, false) →
      ¬ (if (KepFrame.parse frame).mt = mtReadings then s.lastIc e.epi ≤ (KepFrame.parse frame).ic else max (s.lastIc e.epi) (s.volIc e.epi) < (KepFrame.parse frame).ic) →
      exec (.kepUplinkFrame p frame) s = .next ((s.setKep { s.kep with reports := p :: s.kep.reports }).bump fKEPREPLAY_COUNT 1)) ∧
    (∀ (p : RxPath) (frame : List Byte) (s : State) (e : EptEntry) (wrap key : List Byte) (eng : Nat),
      s.clocked = true →
      (KepFrame.parse frame).shaped = true →
      s.lookup (KepFrame.parse frame).id p.chip.isSome = .localTo e →
      ((KepFrame.parse frame).kg = s.kg e.epi ∨ (bit (s.sflags e.epi) sfPending = true ∧ (KepFrame.parse frame).kg = s.pkg e.epi)) →
      wrap = (if (KepFrame.parse frame).kg = s.kg e.epi then (s.pocket e.epi).wrap else s.bytes (s.secAddr e.epi + 40) 40) →
      s.uplinkKey e.epi wrap = (.done, key, eng, false) →
      (if (KepFrame.parse frame).mt = mtReadings then s.lastIc e.epi ≤ (KepFrame.parse frame).ic else max (s.lastIc e.epi) (s.volIc e.epi) < (KepFrame.parse frame).ic) →
      ofNats (gcmTag (nats key) (nats (kepIv (KepFrame.parse frame).dir (KepFrame.parse frame).kg (KepFrame.parse frame).ic)) (nats ((KepFrame.parse frame).raw.take 24)) (nats (((KepFrame.parse frame).raw.drop 24).take (KepFrame.parse frame).clen))) ≠ (KepFrame.parse frame).raw.drop (24 + (KepFrame.parse frame).clen) →
      exec (.kepUplinkFrame p frame) s = .next (((s.setKep { s.kep with reports := p :: s.kep.reports }).aeCount eng false).bump fKEPTAGF_COUNT 1)) ∧
    (∀ (p : RxPath) (frame : List Byte) (s : State) (e : EptEntry) (key : List Byte) (eng : Nat),
      s.clocked = true →
      (KepFrame.parse frame).shaped = true →
      s.lookup (KepFrame.parse frame).id p.chip.isSome = .localTo e →
      (KepFrame.parse frame).kg = s.kg e.epi →
      s.uplinkKey e.epi (s.pocket e.epi).wrap = (.done, key, eng, false) →
      (if (KepFrame.parse frame).mt = mtReadings then s.lastIc e.epi ≤ (KepFrame.parse frame).ic else max (s.lastIc e.epi) (s.volIc e.epi) < (KepFrame.parse frame).ic) →
      ofNats (gcmTag (nats key) (nats (kepIv (KepFrame.parse frame).dir (KepFrame.parse frame).kg (KepFrame.parse frame).ic)) (nats ((KepFrame.parse frame).raw.take 24)) (nats (((KepFrame.parse frame).raw.drop 24).take (KepFrame.parse frame).clen))) = (KepFrame.parse frame).raw.drop (24 + (KepFrame.parse frame).clen) →
      2 ^ 64 - 1 ≤ (KepFrame.parse frame).ic →
      exec (.kepUplinkFrame p frame) s = .next ((((s.setKep { s.kep with reports := p :: s.kep.reports }).aeCount eng false).bump fKEPEXH_COUNT 1).answerAck e.epi (KepFrame.parse frame).ic ackRekey 0 0 false p none)) ∧
    (∀ (p : RxPath) (frame : List Byte) (s : State) (e : EptEntry) (key : List Byte) (eng : Nat),
      s.clocked = true →
      (KepFrame.parse frame).shaped = true →
      s.lookup (KepFrame.parse frame).id p.chip.isSome = .localTo e →
      (KepFrame.parse frame).kg = s.kg e.epi →
      s.uplinkKey e.epi (s.pocket e.epi).wrap = (.done, key, eng, false) →
      (if (KepFrame.parse frame).mt = mtReadings then s.lastIc e.epi ≤ (KepFrame.parse frame).ic else max (s.lastIc e.epi) (s.volIc e.epi) < (KepFrame.parse frame).ic) →
      ofNats (gcmTag (nats key) (nats (kepIv (KepFrame.parse frame).dir (KepFrame.parse frame).kg (KepFrame.parse frame).ic)) (nats ((KepFrame.parse frame).raw.take 24)) (nats (((KepFrame.parse frame).raw.drop 24).take (KepFrame.parse frame).clen))) = (KepFrame.parse frame).raw.drop (24 + (KepFrame.parse frame).clen) →
      (KepFrame.parse frame).ic < 2 ^ 64 - 1 →
      (KepFrame.parse frame).mt = mtReadings →
      (¬ ((KepFrame.parse frame).dir = 0 ∧ (KepFrame.parse frame).kt = 0) ∨ parseReadings (ofNats (gcmCrypt (nats key) (nats (kepIv (KepFrame.parse frame).dir (KepFrame.parse frame).kg (KepFrame.parse frame).ic)) (nats (((KepFrame.parse frame).raw.drop 24).take (KepFrame.parse frame).clen)))) = none) →
      exec (.kepUplinkFrame p frame) s = .next (((((s.setKep { s.kep with reports := p :: s.kep.reports }).aeCount eng false).bump fKEPBADF_COUNT 1).refused5 .badFrame (pathSrc p).1 (pathSrc p).2 frame.length p.port (KepFrame.parse frame).id).answerAck e.epi (KepFrame.parse frame).ic ackFormat 0 0 false p none)) ∧
    (∀ (p : RxPath) (frame : List Byte) (s : State) (e : EptEntry) (key : List Byte) (eng : Nat),
      s.clocked = true →
      (KepFrame.parse frame).shaped = true →
      s.lookup (KepFrame.parse frame).id p.chip.isSome = .localTo e →
      (KepFrame.parse frame).kg = s.kg e.epi →
      s.uplinkKey e.epi (s.pocket e.epi).wrap = (.done, key, eng, false) →
      (if (KepFrame.parse frame).mt = mtReadings then s.lastIc e.epi ≤ (KepFrame.parse frame).ic else max (s.lastIc e.epi) (s.volIc e.epi) < (KepFrame.parse frame).ic) →
      ofNats (gcmTag (nats key) (nats (kepIv (KepFrame.parse frame).dir (KepFrame.parse frame).kg (KepFrame.parse frame).ic)) (nats ((KepFrame.parse frame).raw.take 24)) (nats (((KepFrame.parse frame).raw.drop 24).take (KepFrame.parse frame).clen))) = (KepFrame.parse frame).raw.drop (24 + (KepFrame.parse frame).clen) →
      (KepFrame.parse frame).ic < 2 ^ 64 - 1 →
      (KepFrame.parse frame).mt ≠ mtReadings →
      (¬ ((KepFrame.parse frame).dir = 0 ∧ (KepFrame.parse frame).kt = 0) ∨ ((KepFrame.parse frame).mt ≠ mtCmdResp ∧ (KepFrame.parse frame).mt ≠ mtFwStatus) ∨ otherBodyOk (KepFrame.parse frame).mt (ofNats (gcmCrypt (nats key) (nats (kepIv (KepFrame.parse frame).dir (KepFrame.parse frame).kg (KepFrame.parse frame).ic)) (nats (((KepFrame.parse frame).raw.drop 24).take (KepFrame.parse frame).clen)))) = false) →
      exec (.kepUplinkFrame p frame) s = .next ((((s.setKep { s.kep with reports := p :: s.kep.reports }).aeCount eng false).bump fKEPBADF_COUNT 1).refused5 .badFrame (pathSrc p).1 (pathSrc p).2 frame.length p.port (KepFrame.parse frame).id)) ∧
    (∀ (p : RxPath) (frame : List Byte) (s : State) (e : EptEntry) (key : List Byte) (eng : Nat),
      s.clocked = true →
      (KepFrame.parse frame).shaped = true →
      s.lookup (KepFrame.parse frame).id p.chip.isSome = .localTo e →
      (KepFrame.parse frame).kg = s.kg e.epi →
      s.uplinkKey e.epi (s.pocket e.epi).wrap = (.done, key, eng, false) →
      (if (KepFrame.parse frame).mt = mtReadings then s.lastIc e.epi ≤ (KepFrame.parse frame).ic else max (s.lastIc e.epi) (s.volIc e.epi) < (KepFrame.parse frame).ic) →
      ofNats (gcmTag (nats key) (nats (kepIv (KepFrame.parse frame).dir (KepFrame.parse frame).kg (KepFrame.parse frame).ic)) (nats ((KepFrame.parse frame).raw.take 24)) (nats (((KepFrame.parse frame).raw.drop 24).take (KepFrame.parse frame).clen))) = (KepFrame.parse frame).raw.drop (24 + (KepFrame.parse frame).clen) →
      (KepFrame.parse frame).ic < 2 ^ 64 - 1 →
      ((KepFrame.parse frame).dir = 0 ∧ (KepFrame.parse frame).kt = 0) →
      (KepFrame.parse frame).mt = mtCmdResp →
      otherBodyOk (KepFrame.parse frame).mt (ofNats (gcmCrypt (nats key) (nats (kepIv (KepFrame.parse frame).dir (KepFrame.parse frame).kg (KepFrame.parse frame).ic)) (nats (((KepFrame.parse frame).raw.drop 24).take (KepFrame.parse frame).clen)))) = true →
      exec (.kepUplinkFrame p frame) s = .next ((((s.setKep { s.kep with reports := p :: s.kep.reports }).aeCount eng false).secPut e.epi 8 8 (KepFrame.parse frame).ic).setKep { ((s.setKep { s.kep with reports := p :: s.kep.reports }).aeCount eng false).kep with apdus := (e.epi, (ofNats (gcmCrypt (nats key) (nats (kepIv (KepFrame.parse frame).dir (KepFrame.parse frame).kg (KepFrame.parse frame).ic)) (nats (((KepFrame.parse frame).raw.drop 24).take (KepFrame.parse frame).clen))))) :: s.kep.apdus })) ∧
    (∀ (p : RxPath) (frame : List Byte) (s : State) (e : EptEntry) (key : List Byte) (eng : Nat) (body : List Byte),
      s.clocked = true →
      (KepFrame.parse frame).shaped = true →
      s.lookup (KepFrame.parse frame).id p.chip.isSome = .localTo e →
      (KepFrame.parse frame).kg = s.kg e.epi →
      s.uplinkKey e.epi (s.pocket e.epi).wrap = (.done, key, eng, false) →
      (if (KepFrame.parse frame).mt = mtReadings then s.lastIc e.epi ≤ (KepFrame.parse frame).ic else max (s.lastIc e.epi) (s.volIc e.epi) < (KepFrame.parse frame).ic) →
      ofNats (gcmTag (nats key) (nats (kepIv (KepFrame.parse frame).dir (KepFrame.parse frame).kg (KepFrame.parse frame).ic)) (nats ((KepFrame.parse frame).raw.take 24)) (nats (((KepFrame.parse frame).raw.drop 24).take (KepFrame.parse frame).clen))) = (KepFrame.parse frame).raw.drop (24 + (KepFrame.parse frame).clen) →
      (KepFrame.parse frame).ic < 2 ^ 64 - 1 →
      ((KepFrame.parse frame).dir = 0 ∧ (KepFrame.parse frame).kt = 0) →
      (KepFrame.parse frame).mt = mtFwStatus →
      otherBodyOk (KepFrame.parse frame).mt (ofNats (gcmCrypt (nats key) (nats (kepIv (KepFrame.parse frame).dir (KepFrame.parse frame).kg (KepFrame.parse frame).ic)) (nats (((KepFrame.parse frame).raw.drop 24).take (KepFrame.parse frame).clen)))) = true →
      body = (ofNats (gcmCrypt (nats key) (nats (kepIv (KepFrame.parse frame).dir (KepFrame.parse frame).kg (KepFrame.parse frame).ic)) (nats (((KepFrame.parse frame).raw.drop 24).take (KepFrame.parse frame).clen)))) →
      ((List.range 4).find? fun n => s.flag (fFWCAMP_OPEN n) && s.fget (fFWCAMP_CAMPAIGN n) = be body 0 4 && s.fget (fFWCAMP_NBLK n) = be body 4 2) = none →
      exec (.kepUplinkFrame p frame) s = .next ((((s.setKep { s.kep with reports := p :: s.kep.reports }).aeCount eng false).secPut e.epi 8 8 (KepFrame.parse frame).ic).setKep { ((s.setKep { s.kep with reports := p :: s.kep.reports }).aeCount eng false).kep with apdus := (e.epi, body) :: s.kep.apdus })) ∧
    (∀ (p : RxPath) (frame : List Byte) (s : State) (e : EptEntry) (key : List Byte) (eng : Nat) (body : List Byte) (n : Nat) (u : State),
      s.clocked = true →
      (KepFrame.parse frame).shaped = true →
      s.lookup (KepFrame.parse frame).id p.chip.isSome = .localTo e →
      (KepFrame.parse frame).kg = s.kg e.epi →
      s.uplinkKey e.epi (s.pocket e.epi).wrap = (.done, key, eng, false) →
      (if (KepFrame.parse frame).mt = mtReadings then s.lastIc e.epi ≤ (KepFrame.parse frame).ic else max (s.lastIc e.epi) (s.volIc e.epi) < (KepFrame.parse frame).ic) →
      ofNats (gcmTag (nats key) (nats (kepIv (KepFrame.parse frame).dir (KepFrame.parse frame).kg (KepFrame.parse frame).ic)) (nats ((KepFrame.parse frame).raw.take 24)) (nats (((KepFrame.parse frame).raw.drop 24).take (KepFrame.parse frame).clen))) = (KepFrame.parse frame).raw.drop (24 + (KepFrame.parse frame).clen) →
      (KepFrame.parse frame).ic < 2 ^ 64 - 1 →
      ((KepFrame.parse frame).dir = 0 ∧ (KepFrame.parse frame).kt = 0) →
      (KepFrame.parse frame).mt = mtFwStatus →
      otherBodyOk (KepFrame.parse frame).mt (ofNats (gcmCrypt (nats key) (nats (kepIv (KepFrame.parse frame).dir (KepFrame.parse frame).kg (KepFrame.parse frame).ic)) (nats (((KepFrame.parse frame).raw.drop 24).take (KepFrame.parse frame).clen)))) = true →
      body = (ofNats (gcmCrypt (nats key) (nats (kepIv (KepFrame.parse frame).dir (KepFrame.parse frame).kg (KepFrame.parse frame).ic)) (nats (((KepFrame.parse frame).raw.drop 24).take (KepFrame.parse frame).clen)))) →
      ((List.range 4).find? fun n => s.flag (fFWCAMP_OPEN n) && s.fget (fFWCAMP_CAMPAIGN n) = be body 0 4 && s.fget (fFWCAMP_NBLK n) = be body 4 2) = some n →
      u = ((((s.setKep { s.kep with reports := p :: s.kep.reports }).aeCount eng false).secPut e.epi 8 8 (KepFrame.parse frame).ic).setKep { ((s.setKep { s.kep with reports := p :: s.kep.reports }).aeCount eng false).kep with apdus := (e.epi, body) :: s.kep.apdus }) →
      exec (.kepUplinkFrame p frame) s = .next (u.write (s.fget (fFWCAMP_BITMAP n) + (be body 4 2 + 7) / 8 * e.epi) (if be body 6 1 = 2 then List.replicate ((be body 4 2 + 7) / 8) 0 else List.zipWith (fun x y => x ||| y) (u.bytes (s.fget (fFWCAMP_BITMAP n) + (be body 4 2 + 7) / 8 * e.epi) ((be body 4 2 + 7) / 8)) (sub body 8 ((be body 4 2 + 7) / 8))))) ∧
    (∀ (p : RxPath) (frame : List Byte) (s : State) (e : EptEntry) (key : List Byte) (eng : Nat) (mseq : Nat) (rs : List Reading),
      s.clocked = true →
      (KepFrame.parse frame).shaped = true →
      s.lookup (KepFrame.parse frame).id p.chip.isSome = .localTo e →
      (KepFrame.parse frame).kg = s.kg e.epi →
      s.uplinkKey e.epi (s.pocket e.epi).wrap = (.done, key, eng, false) →
      (if (KepFrame.parse frame).mt = mtReadings then s.lastIc e.epi ≤ (KepFrame.parse frame).ic else max (s.lastIc e.epi) (s.volIc e.epi) < (KepFrame.parse frame).ic) →
      ofNats (gcmTag (nats key) (nats (kepIv (KepFrame.parse frame).dir (KepFrame.parse frame).kg (KepFrame.parse frame).ic)) (nats ((KepFrame.parse frame).raw.take 24)) (nats (((KepFrame.parse frame).raw.drop 24).take (KepFrame.parse frame).clen))) = (KepFrame.parse frame).raw.drop (24 + (KepFrame.parse frame).clen) →
      (KepFrame.parse frame).ic < 2 ^ 64 - 1 →
      ((KepFrame.parse frame).dir = 0 ∧ (KepFrame.parse frame).kt = 0) →
      (KepFrame.parse frame).mt = mtReadings →
      parseReadings (ofNats (gcmCrypt (nats key) (nats (kepIv (KepFrame.parse frame).dir (KepFrame.parse frame).kg (KepFrame.parse frame).ic)) (nats (((KepFrame.parse frame).raw.drop 24).take (KepFrame.parse frame).clen)))) = some (mseq, rs) →
      (KepFrame.parse frame).ic = s.lastIc e.epi →
      exec (.kepUplinkFrame p frame) s = .next ((((s.setKep { s.kep with reports := p :: s.kep.reports }).aeCount eng false).bump fKEPDUP_COUNT 1).answerAck e.epi (KepFrame.parse frame).ic ackAccepted 0 rs.length true p none)) ∧
    (∀ (p : RxPath) (frame : List Byte) (s : State) (e : EptEntry) (key : List Byte) (eng : Nat) (mseq : Nat) (rs : List Reading),
      s.clocked = true →
      (KepFrame.parse frame).shaped = true →
      s.lookup (KepFrame.parse frame).id p.chip.isSome = .localTo e →
      (KepFrame.parse frame).kg = s.kg e.epi →
      s.uplinkKey e.epi (s.pocket e.epi).wrap = (.done, key, eng, false) →
      (if (KepFrame.parse frame).mt = mtReadings then s.lastIc e.epi ≤ (KepFrame.parse frame).ic else max (s.lastIc e.epi) (s.volIc e.epi) < (KepFrame.parse frame).ic) →
      ofNats (gcmTag (nats key) (nats (kepIv (KepFrame.parse frame).dir (KepFrame.parse frame).kg (KepFrame.parse frame).ic)) (nats ((KepFrame.parse frame).raw.take 24)) (nats (((KepFrame.parse frame).raw.drop 24).take (KepFrame.parse frame).clen))) = (KepFrame.parse frame).raw.drop (24 + (KepFrame.parse frame).clen) →
      (KepFrame.parse frame).ic < 2 ^ 64 - 1 →
      ((KepFrame.parse frame).dir = 0 ∧ (KepFrame.parse frame).kt = 0) →
      (KepFrame.parse frame).mt = mtReadings →
      parseReadings (ofNats (gcmCrypt (nats key) (nats (kepIv (KepFrame.parse frame).dir (KepFrame.parse frame).kg (KepFrame.parse frame).ic)) (nats (((KepFrame.parse frame).raw.drop 24).take (KepFrame.parse frame).clen)))) = some (mseq, rs) →
      s.lastIc e.epi < (KepFrame.parse frame).ic →
      (s.noCalendar = true ∨ s.ingestOpen = false) →
      exec (.kepUplinkFrame p frame) s = .next ((((s.setKep { s.kep with reports := p :: s.kep.reports }).aeCount eng false)).answerAck e.epi (KepFrame.parse frame).ic ackMode (s.fget fKEPCFG_BUSYRETRY) 0 false p none)) ∧
    (∀ (p : RxPath) (frame : List Byte) (s : State) (e : EptEntry) (key : List Byte) (eng : Nat) (mseq : Nat) (rs : List Reading),
      s.clocked = true →
      (KepFrame.parse frame).shaped = true →
      s.lookup (KepFrame.parse frame).id p.chip.isSome = .localTo e →
      (KepFrame.parse frame).kg = s.kg e.epi →
      s.uplinkKey e.epi (s.pocket e.epi).wrap = (.done, key, eng, false) →
      (if (KepFrame.parse frame).mt = mtReadings then s.lastIc e.epi ≤ (KepFrame.parse frame).ic else max (s.lastIc e.epi) (s.volIc e.epi) < (KepFrame.parse frame).ic) →
      ofNats (gcmTag (nats key) (nats (kepIv (KepFrame.parse frame).dir (KepFrame.parse frame).kg (KepFrame.parse frame).ic)) (nats ((KepFrame.parse frame).raw.take 24)) (nats (((KepFrame.parse frame).raw.drop 24).take (KepFrame.parse frame).clen))) = (KepFrame.parse frame).raw.drop (24 + (KepFrame.parse frame).clen) →
      (KepFrame.parse frame).ic < 2 ^ 64 - 1 →
      ((KepFrame.parse frame).dir = 0 ∧ (KepFrame.parse frame).kt = 0) →
      (KepFrame.parse frame).mt = mtReadings →
      parseReadings (ofNats (gcmCrypt (nats key) (nats (kepIv (KepFrame.parse frame).dir (KepFrame.parse frame).kg (KepFrame.parse frame).ic)) (nats (((KepFrame.parse frame).raw.drop 24).take (KepFrame.parse frame).clen)))) = some (mseq, rs) →
      s.lastIc e.epi < (KepFrame.parse frame).ic →
      s.noCalendar = false →
      s.ingestOpen = true →
      s.epiCut e.epi = true →
      exec (.kepUplinkFrame p frame) s = .next ((((s.setKep { s.kep with reports := p :: s.kep.reports }).aeCount eng false)).answerAck e.epi (KepFrame.parse frame).ic ackBusy (s.fget fSEMCFG_MOVERETRY) 0 false p none)) ∧
    (∀ (p : RxPath) (frame : List Byte) (s : State) (e : EptEntry) (key : List Byte) (eng : Nat) (mseq : Nat) (rs : List Reading),
      s.clocked = true →
      (KepFrame.parse frame).shaped = true →
      s.lookup (KepFrame.parse frame).id p.chip.isSome = .localTo e →
      (KepFrame.parse frame).kg = s.kg e.epi →
      s.uplinkKey e.epi (s.pocket e.epi).wrap = (.done, key, eng, false) →
      (if (KepFrame.parse frame).mt = mtReadings then s.lastIc e.epi ≤ (KepFrame.parse frame).ic else max (s.lastIc e.epi) (s.volIc e.epi) < (KepFrame.parse frame).ic) →
      ofNats (gcmTag (nats key) (nats (kepIv (KepFrame.parse frame).dir (KepFrame.parse frame).kg (KepFrame.parse frame).ic)) (nats ((KepFrame.parse frame).raw.take 24)) (nats (((KepFrame.parse frame).raw.drop 24).take (KepFrame.parse frame).clen))) = (KepFrame.parse frame).raw.drop (24 + (KepFrame.parse frame).clen) →
      (KepFrame.parse frame).ic < 2 ^ 64 - 1 →
      ((KepFrame.parse frame).dir = 0 ∧ (KepFrame.parse frame).kt = 0) →
      (KepFrame.parse frame).mt = mtReadings →
      parseReadings (ofNats (gcmCrypt (nats key) (nats (kepIv (KepFrame.parse frame).dir (KepFrame.parse frame).kg (KepFrame.parse frame).ic)) (nats (((KepFrame.parse frame).raw.drop 24).take (KepFrame.parse frame).clen)))) = some (mseq, rs) →
      s.lastIc e.epi < (KepFrame.parse frame).ic →
      s.noCalendar = false →
      s.ingestOpen = true →
      s.epiCut e.epi = false →
      s.epiHeld e.epi = true →
      exec (.kepUplinkFrame p frame) s = .next ((((s.setKep { s.kep with reports := p :: s.kep.reports }).aeCount eng false)).answerAck e.epi (KepFrame.parse frame).ic ackBusy (s.fget fKEPCFG_BUSYRETRY) 0 false p none)) ∧
    (∀ (p : RxPath) (frame : List Byte) (s : State) (e : EptEntry) (key : List Byte) (eng : Nat) (mseq : Nat) (rs : List Reading) (items : List Reading),
      s.clocked = true →
      (KepFrame.parse frame).shaped = true →
      s.lookup (KepFrame.parse frame).id p.chip.isSome = .localTo e →
      (KepFrame.parse frame).kg = s.kg e.epi →
      s.uplinkKey e.epi (s.pocket e.epi).wrap = (.done, key, eng, false) →
      (if (KepFrame.parse frame).mt = mtReadings then s.lastIc e.epi ≤ (KepFrame.parse frame).ic else max (s.lastIc e.epi) (s.volIc e.epi) < (KepFrame.parse frame).ic) →
      ofNats (gcmTag (nats key) (nats (kepIv (KepFrame.parse frame).dir (KepFrame.parse frame).kg (KepFrame.parse frame).ic)) (nats ((KepFrame.parse frame).raw.take 24)) (nats (((KepFrame.parse frame).raw.drop 24).take (KepFrame.parse frame).clen))) = (KepFrame.parse frame).raw.drop (24 + (KepFrame.parse frame).clen) →
      (KepFrame.parse frame).ic < 2 ^ 64 - 1 →
      ((KepFrame.parse frame).dir = 0 ∧ (KepFrame.parse frame).kt = 0) →
      (KepFrame.parse frame).mt = mtReadings →
      parseReadings (ofNats (gcmCrypt (nats key) (nats (kepIv (KepFrame.parse frame).dir (KepFrame.parse frame).kg (KepFrame.parse frame).ic)) (nats (((KepFrame.parse frame).raw.drop 24).take (KepFrame.parse frame).clen)))) = some (mseq, rs) →
      s.lastIc e.epi < (KepFrame.parse frame).ic →
      s.noCalendar = false →
      s.ingestOpen = true →
      s.epiCut e.epi = false →
      s.epiHeld e.epi = false →
      items = (rs.filter fun r => (s.classify r.time).posts) →
      (items.filter fun r => (s.readProg e.epi r).isNone) ≠ [] →
      exec (.kepUplinkFrame p frame) s = .next ((((s.setKep { s.kep with reports := p :: s.kep.reports }).aeCount eng false).bump fLDGNOPROG_COUNT (items.filter fun r => (s.readProg e.epi r).isNone).length).answerAck e.epi (KepFrame.parse frame).ic ackNoprog 0 0 false p none)) ∧
    (∀ (p : RxPath) (frame : List Byte) (s : State) (e : EptEntry) (key : List Byte) (eng : Nat) (mseq : Nat) (rs : List Reading) (items : List Reading),
      s.clocked = true →
      (KepFrame.parse frame).shaped = true →
      s.lookup (KepFrame.parse frame).id p.chip.isSome = .localTo e →
      (KepFrame.parse frame).kg = s.kg e.epi →
      s.uplinkKey e.epi (s.pocket e.epi).wrap = (.done, key, eng, false) →
      (if (KepFrame.parse frame).mt = mtReadings then s.lastIc e.epi ≤ (KepFrame.parse frame).ic else max (s.lastIc e.epi) (s.volIc e.epi) < (KepFrame.parse frame).ic) →
      ofNats (gcmTag (nats key) (nats (kepIv (KepFrame.parse frame).dir (KepFrame.parse frame).kg (KepFrame.parse frame).ic)) (nats ((KepFrame.parse frame).raw.take 24)) (nats (((KepFrame.parse frame).raw.drop 24).take (KepFrame.parse frame).clen))) = (KepFrame.parse frame).raw.drop (24 + (KepFrame.parse frame).clen) →
      (KepFrame.parse frame).ic < 2 ^ 64 - 1 →
      ((KepFrame.parse frame).dir = 0 ∧ (KepFrame.parse frame).kt = 0) →
      (KepFrame.parse frame).mt = mtReadings →
      parseReadings (ofNats (gcmCrypt (nats key) (nats (kepIv (KepFrame.parse frame).dir (KepFrame.parse frame).kg (KepFrame.parse frame).ic)) (nats (((KepFrame.parse frame).raw.drop 24).take (KepFrame.parse frame).clen)))) = some (mseq, rs) →
      s.lastIc e.epi < (KepFrame.parse frame).ic →
      s.noCalendar = false →
      s.ingestOpen = true →
      s.epiCut e.epi = false →
      s.epiHeld e.epi = false →
      items = (rs.filter fun r => (s.classify r.time).posts) →
      (items.filter fun r => (s.readProg e.epi r).isNone) = [] →
      s.reserveAdmits e.epi (items.length - (rs.filter fun r => s.classify r.time = .late).length) (rs.filter fun r => s.classify r.time = .late).length = false →
      exec (.kepUplinkFrame p frame) s = .next ((((s.setKep { s.kep with reports := p :: s.kep.reports }).aeCount eng false).bump fLDGTACKREF_COUNT 1).answerAck e.epi (KepFrame.parse frame).ic ackBusy (s.fget fKEPCFG_BUSYRETRY) 0 false p none)) ∧
    (∀ (p : RxPath) (frame : List Byte) (s : State) (e : EptEntry) (key : List Byte) (eng : Nat) (mseq : Nat) (rs : List Reading) (items : List Reading),
      s.clocked = true →
      (KepFrame.parse frame).shaped = true →
      s.lookup (KepFrame.parse frame).id p.chip.isSome = .localTo e →
      (KepFrame.parse frame).kg = s.kg e.epi →
      s.uplinkKey e.epi (s.pocket e.epi).wrap = (.done, key, eng, false) →
      (if (KepFrame.parse frame).mt = mtReadings then s.lastIc e.epi ≤ (KepFrame.parse frame).ic else max (s.lastIc e.epi) (s.volIc e.epi) < (KepFrame.parse frame).ic) →
      ofNats (gcmTag (nats key) (nats (kepIv (KepFrame.parse frame).dir (KepFrame.parse frame).kg (KepFrame.parse frame).ic)) (nats ((KepFrame.parse frame).raw.take 24)) (nats (((KepFrame.parse frame).raw.drop 24).take (KepFrame.parse frame).clen))) = (KepFrame.parse frame).raw.drop (24 + (KepFrame.parse frame).clen) →
      (KepFrame.parse frame).ic < 2 ^ 64 - 1 →
      ((KepFrame.parse frame).dir = 0 ∧ (KepFrame.parse frame).kt = 0) →
      (KepFrame.parse frame).mt = mtReadings →
      parseReadings (ofNats (gcmCrypt (nats key) (nats (kepIv (KepFrame.parse frame).dir (KepFrame.parse frame).kg (KepFrame.parse frame).ic)) (nats (((KepFrame.parse frame).raw.drop 24).take (KepFrame.parse frame).clen)))) = some (mseq, rs) →
      s.lastIc e.epi < (KepFrame.parse frame).ic →
      s.noCalendar = false →
      s.ingestOpen = true →
      s.epiCut e.epi = false →
      s.epiHeld e.epi = false →
      items = (rs.filter fun r => (s.classify r.time).posts) →
      (items.filter fun r => (s.readProg e.epi r).isNone) = [] →
      s.reserveAdmits e.epi (items.length - (rs.filter fun r => s.classify r.time = .late).length) (rs.filter fun r => s.classify r.time = .late).length = true →
      s.ldg.inq ≠ [] →
      exec (.kepUplinkFrame p frame) s = .next ((s.setKep { s.kep with reports := p :: s.kep.reports }).aeCount eng false)) ∧
    (∀ (p : RxPath) (frame : List Byte) (s : State) (e : EptEntry) (key : List Byte) (eng : Nat) (mseq : Nat) (rs : List Reading) (isn : Nat) (u : State),
      s.clocked = true →
      (KepFrame.parse frame).shaped = true →
      s.lookup (KepFrame.parse frame).id p.chip.isSome = .localTo e →
      (KepFrame.parse frame).kg = s.kg e.epi →
      s.uplinkKey e.epi (s.pocket e.epi).wrap = (.done, key, eng, false) →
      (if (KepFrame.parse frame).mt = mtReadings then s.lastIc e.epi ≤ (KepFrame.parse frame).ic else max (s.lastIc e.epi) (s.volIc e.epi) < (KepFrame.parse frame).ic) →
      ofNats (gcmTag (nats key) (nats (kepIv (KepFrame.parse frame).dir (KepFrame.parse frame).kg (KepFrame.parse frame).ic)) (nats ((KepFrame.parse frame).raw.take 24)) (nats (((KepFrame.parse frame).raw.drop 24).take (KepFrame.parse frame).clen))) = (KepFrame.parse frame).raw.drop (24 + (KepFrame.parse frame).clen) →
      (KepFrame.parse frame).ic < 2 ^ 64 - 1 →
      ((KepFrame.parse frame).dir = 0 ∧ (KepFrame.parse frame).kt = 0) →
      (KepFrame.parse frame).mt = mtReadings →
      parseReadings (ofNats (gcmCrypt (nats key) (nats (kepIv (KepFrame.parse frame).dir (KepFrame.parse frame).kg (KepFrame.parse frame).ic)) (nats (((KepFrame.parse frame).raw.drop 24).take (KepFrame.parse frame).clen)))) = some (mseq, rs) →
      s.lastIc e.epi < (KepFrame.parse frame).ic →
      ((s.setKep { s.kep with reports := p :: s.kep.reports }).aeCount eng false).ingest e.epi (KepFrame.parse frame).ic mseq rs = .ok u isn →
      exec (.kepUplinkFrame p frame) s = .next ((u).answerAck e.epi (KepFrame.parse frame).ic ackAccepted 0 rs.length false p (some isn))) ∧
    (∀ (epi aic result retry nacc : Nat) (dup : Bool) (p : RxPath) (isn : Option Nat) (s t : State),
      t = s.answerAck epi aic result retry nacc dup p isn →
      t = { s with kep := t.kep, csr := t.csr } ∧ t.kep = { s.kep with
          acks := s.kep.acks ++ [⟨epi, aic, result, if dup then 1 else 0, retry, nacc, { p with ts := 0 }, s.time.raw, isn, false⟩] } ∧
        (result ≠ ackAccepted → t.csr = s.csr) ∧ t.fget fKEPRXOK_COUNT = (if result = ackAccepted then (s.fget fKEPRXOK_COUNT + 1) % 2 ^ 48 else s.fget fKEPRXOK_COUNT)) ∧
    (∀ (p : RxPath) (frame : List Byte) (s : State) (e : EptEntry) (key : List Byte) (eng : Nat) (g : JEnt) (u : State),
      s.clocked = true →
      (KepFrame.parse frame).shaped = true →
      s.lookup (KepFrame.parse frame).id p.chip.isSome = .localTo e →
      (KepFrame.parse frame).kg ≠ s.kg e.epi →
      bit (s.sflags e.epi) sfPending = true →
      (KepFrame.parse frame).kg = s.pkg e.epi →
      s.uplinkKey e.epi (s.bytes (s.secAddr e.epi + 40) 40) = (.done, key, eng, false) →
      (if (KepFrame.parse frame).mt = mtReadings then s.lastIc e.epi ≤ (KepFrame.parse frame).ic else max (s.lastIc e.epi) (s.volIc e.epi) < (KepFrame.parse frame).ic) →
      ofNats (gcmTag (nats key) (nats (kepIv (KepFrame.parse frame).dir (KepFrame.parse frame).kg (KepFrame.parse frame).ic)) (nats ((KepFrame.parse frame).raw.take 24)) (nats (((KepFrame.parse frame).raw.drop 24).take (KepFrame.parse frame).clen))) = (KepFrame.parse frame).raw.drop (24 + (KepFrame.parse frame).clen) →
      (KepFrame.parse frame).ic < 2 ^ 64 - 1 →
      ((KepFrame.parse frame).dir = 0 ∧ (KepFrame.parse frame).kt = 0) →
      (KepFrame.parse frame).mt = mtCmdResp →
      otherBodyOk (KepFrame.parse frame).mt (ofNats (gcmCrypt (nats key) (nats (kepIv (KepFrame.parse frame).dir (KepFrame.parse frame).kg (KepFrame.parse frame).ic)) (nats (((KepFrame.parse frame).raw.drop 24).take (KepFrame.parse frame).clen)))) = true →
      s.ingestOpen = true →
      s.ldg.inq = [] →
      g = { kind := jkKeygen, n := 1, epi := e.epi, body := keygenBody (s.pkg e.epi) (KepFrame.parse frame).ic (resvEntry 1 (s.pkg e.epi)) (s.bytes (s.secAddr e.epi + 40) 40) } →
      ((s.setKep { s.kep with reports := p :: s.kep.reports }).aeCount eng false).ringTakes g = true →
      u = ((((s.setKep { s.kep with reports := p :: s.kep.reports }).aeCount eng false).journaled g).keygenApply e.epi g.body true) →
      exec (.kepUplinkFrame p frame) s = .next ((u.secPut e.epi 8 8 (KepFrame.parse frame).ic).setKep { u.kep with apdus := (e.epi, (ofNats (gcmCrypt (nats key) (nats (kepIv (KepFrame.parse frame).dir (KepFrame.parse frame).kg (KepFrame.parse frame).ic)) (nats (((KepFrame.parse frame).raw.drop 24).take (KepFrame.parse frame).clen))))) :: u.kep.apdus })) ∧
    (∀ (p : RxPath) (frame : List Byte) (s : State) (e : EptEntry) (key : List Byte) (eng : Nat) (mseq : Nat) (rs : List Reading) (g : JEnt) (u : State),
      s.clocked = true →
      (KepFrame.parse frame).shaped = true →
      s.lookup (KepFrame.parse frame).id p.chip.isSome = .localTo e →
      (KepFrame.parse frame).kg ≠ s.kg e.epi →
      bit (s.sflags e.epi) sfPending = true →
      (KepFrame.parse frame).kg = s.pkg e.epi →
      s.uplinkKey e.epi (s.bytes (s.secAddr e.epi + 40) 40) = (.done, key, eng, false) →
      (if (KepFrame.parse frame).mt = mtReadings then s.lastIc e.epi ≤ (KepFrame.parse frame).ic else max (s.lastIc e.epi) (s.volIc e.epi) < (KepFrame.parse frame).ic) →
      ofNats (gcmTag (nats key) (nats (kepIv (KepFrame.parse frame).dir (KepFrame.parse frame).kg (KepFrame.parse frame).ic)) (nats ((KepFrame.parse frame).raw.take 24)) (nats (((KepFrame.parse frame).raw.drop 24).take (KepFrame.parse frame).clen))) = (KepFrame.parse frame).raw.drop (24 + (KepFrame.parse frame).clen) →
      (KepFrame.parse frame).ic < 2 ^ 64 - 1 →
      ((KepFrame.parse frame).dir = 0 ∧ (KepFrame.parse frame).kt = 0) →
      (KepFrame.parse frame).mt = mtReadings →
      parseReadings (ofNats (gcmCrypt (nats key) (nats (kepIv (KepFrame.parse frame).dir (KepFrame.parse frame).kg (KepFrame.parse frame).ic)) (nats (((KepFrame.parse frame).raw.drop 24).take (KepFrame.parse frame).clen)))) = some (mseq, rs) →
      s.ingestOpen = true →
      s.ldg.inq = [] →
      g = { kind := jkKeygen, n := 1, epi := e.epi, body := keygenBody (s.pkg e.epi) (KepFrame.parse frame).ic (resvEntry 1 (s.pkg e.epi)) (s.bytes (s.secAddr e.epi + 40) 40) } →
      ((s.setKep { s.kep with reports := p :: s.kep.reports }).aeCount eng false).ringTakes g = true →
      u = ((((s.setKep { s.kep with reports := p :: s.kep.reports }).aeCount eng false).journaled g).keygenApply e.epi g.body true) →
      exec (.kepUplinkFrame p frame) s = .next ((u.bump fKEPDUP_COUNT 1).answerAck e.epi (KepFrame.parse frame).ic ackAccepted 0 rs.length true p none)) ∧
    (∀ (p : RxPath) (frame : List Byte) (s : State) (e : EptEntry) (key : List Byte) (eng : Nat),
      s.clocked = true →
      (KepFrame.parse frame).shaped = true →
      s.lookup (KepFrame.parse frame).id p.chip.isSome = .localTo e →
      (KepFrame.parse frame).kg ≠ s.kg e.epi →
      bit (s.sflags e.epi) sfPending = true →
      (KepFrame.parse frame).kg = s.pkg e.epi →
      s.uplinkKey e.epi (s.bytes (s.secAddr e.epi + 40) 40) = (.done, key, eng, false) →
      (if (KepFrame.parse frame).mt = mtReadings then s.lastIc e.epi ≤ (KepFrame.parse frame).ic else max (s.lastIc e.epi) (s.volIc e.epi) < (KepFrame.parse frame).ic) →
      ofNats (gcmTag (nats key) (nats (kepIv (KepFrame.parse frame).dir (KepFrame.parse frame).kg (KepFrame.parse frame).ic)) (nats ((KepFrame.parse frame).raw.take 24)) (nats (((KepFrame.parse frame).raw.drop 24).take (KepFrame.parse frame).clen))) = (KepFrame.parse frame).raw.drop (24 + (KepFrame.parse frame).clen) →
      s.ingestOpen = false →
      exec (.kepUplinkFrame p frame) s = .next (if (KepFrame.parse frame).mt = mtReadings then ((((s.setKep { s.kep with reports := p :: s.kep.reports }).aeCount eng false).journalRefused .modeDenied).answerAck e.epi (KepFrame.parse frame).ic ackMode (s.fget fKEPCFG_BUSYRETRY) 0 false p none) else ((s.setKep { s.kep with reports := p :: s.kep.reports }).aeCount eng false).journalRefused .modeDenied)) ∧
    (∀ (epi ic : Nat) (nkg ent : Nat) (wrap : List Byte) (s t : State),
      wrap.length = 40 →
      nkg < 256 →
      ic < 2 ^ 64 →
      ent < 2 ^ 64 →
      epi < 2 ^ 18 →
      s.secAddr epi + 128 ≤ s.pktAddr epi ∨ s.pktAddr epi + 64 ≤ s.secAddr epi →
      resvAddr epi + 8 ≤ s.secAddr epi ∨ s.secAddr epi + 128 ≤ resvAddr epi →
      t = s.keygenApply epi (keygenBody nkg ic ent wrap) true →
      s.pktAddr epi + 64 ≤ resvAddr epi ∨ resvAddr epi + 8 ≤ s.pktAddr epi →
      t.kg epi = nkg ∧ t.lastIc epi = ic ∧ t.volIc epi = 0 ∧ t.txIc epi = 0 ∧ t.txCeil epi = resvCeil ent ∧ t.bytes (t.pktAddr epi + 24) 40 = wrap ∧
        t.peek (resvAddr epi) 8 = ent ∧ bit (t.sflags epi) sfPending = false ∧ bit (t.sflags epi) sfRekey = false ∧ bit (t.sflags epi) sfExhausted = false ∧
        t = { s with mem := t.mem, poison := t.poison, soft := t.soft } ∧
        (∀ x, (x < s.secAddr epi ∨ s.secAddr epi + 40 ≤ x) → (x < s.pktAddr epi + 24 ∨ s.pktAddr epi + 64 ≤ x) → (x < resvAddr epi ∨ resvAddr epi + 8 ≤ x) → t.byte x = s.byte x)) ∧
    (∀ (epi ic mseq pr : Nat) (r : Reading) (s : State) (e : JEnt),
      s.noCalendar = false →
      s.ingestOpen = true →
      s.ldg.inq = [] →
      s.epiCut epi = false →
      s.epiHeld epi = false →
      s.classify r.time = .inTime →
      s.readProg epi r = some pr →
      s.reserveAdmits epi 1 0 = true →
      e = { kind := jkReadings, n := 1, epi := epi, body := leBytes 8 r.time ++ leBytes 4 mseq ++ leBytes 2 (s.fget (fLDGPRG_HANDLE pr)) ++ leBytes 2 0 ++ leBytes 8 ic ++ leBytes 8 0 ++ (leBytes 2 r.code ++ leBytes 2 r.flags ++ leBytes 4 0 ++ leBytes 8 (cut 64 r.value)) } →
      s.ringTakes e = true →
      s.ingest epi ic mseq [r] = .ok (((s.journaled e).icAdvance epi ic).postReading epi s.nextIsn r .inTime) s.nextIsn) ∧
    (∀ (epi ic mseq prog : Nat) (rs : List Reading) (rc : List (Reading × RdClass)) (items : List Reading) (s : State) (e : JEnt),
      s.noCalendar = false →
      s.ingestOpen = true →
      s.ldg.inq = [] →
      s.epiCut epi = false →
      s.epiHeld epi = false →
      rs ≠ [] →
      items = (rs.filter fun r => (s.classify r.time).posts) →
      (items.filter fun r => (s.readProg epi r).isNone) = [] →
      s.reserveAdmits epi (items.length - (rs.filter fun r => s.classify r.time = .late).length) (rs.filter fun r => s.classify r.time = .late).length = true →
      (rs.all fun r => rs.all fun q => decide (q.time < r.time + 2 ^ 32)) = true →
      rc = (rs.map fun r => (r, s.classify r.time)) →
      prog = (match items with | [] => 0 | r :: _ => ((s.readProg epi r).map fun n => s.fget (fLDGPRG_HANDLE n)).getD 0) →
      e = (readingsEntry epi ic mseq prog rc) →
      s.ringTakes e = true →
      s.ingest epi ic mseq rs = .ok (((s.journaled e).icAdvance epi ic).postReadings epi s.nextIsn rc) s.nextIsn ∧
        e.n = rs.length ∧ e.body.length = 32 + 16 * rs.length) ∧
    (∀ (epi : Nat) (apdu : List Byte) (caps : List DlmsCapture) (p : RxPath) (s : State),
      s.clocked = true →
      s.flag fDLMCFG_EN = false →
      exec (.dlmsApdu epi apdu caps p) s = .next s) ∧
    (∀ (epi : Nat) (apdu : List Byte) (caps : List DlmsCapture) (p : RxPath) (s : State),
      s.clocked = true →
      s.flag fDLMCFG_EN = true →
      (dlmsWrapped apdu).bind dlmsParts = none →
      exec (.dlmsApdu epi apdu caps p) s = .next ((s.bump fKEPBADF_COUNT 1).refused5 .badFrame (pathSrc p).1 (pathSrc p).2 apdu.length p.port (s.epiEui epi))) ∧
    (∀ (epi : Nat) (apdu : List Byte) (caps : List DlmsCapture) (p : RxPath) (s : State) (title ct tag : List Byte) (sc ic : Nat),
      s.clocked = true →
      s.flag fDLMCFG_EN = true →
      (dlmsWrapped apdu).bind dlmsParts = some (title, sc, ic, ct, tag) →
      sc ≠ 0x30 →
      sc ≠ 0x10 →
      exec (.dlmsApdu epi apdu caps p) s = .next ((s.bump fKEPBADF_COUNT 1).refused5 .badFrame (pathSrc p).1 (pathSrc p).2 apdu.length p.port (s.epiEui epi))) ∧
    (∀ (epi : Nat) (apdu : List Byte) (caps : List DlmsCapture) (p : RxPath) (s : State) (title ct tag : List Byte) (sc ic : Nat),
      s.clocked = true →
      s.flag fDLMCFG_EN = true →
      (dlmsWrapped apdu).bind dlmsParts = some (title, sc, ic, ct, tag) →
      (sc = 0x30 ∨ sc = 0x10) →
      s.epiEntry epi = none →
      exec (.dlmsApdu epi apdu caps p) s = .next (((s.bump fEPTMISS_COUNT 1).bump fKEPUNK_COUNT 1).refused5 .unknownEndpoint (pathSrc p).1 (pathSrc p).2 apdu.length p.port (s.epiEui epi))) ∧
    (∀ (epi : Nat) (apdu : List Byte) (caps : List DlmsCapture) (p : RxPath) (s : State) (title ct tag : List Byte) (sc ic : Nat) (e : EptEntry),
      s.clocked = true →
      s.flag fDLMCFG_EN = true →
      (dlmsWrapped apdu).bind dlmsParts = some (title, sc, ic, ct, tag) →
      (sc = 0x30 ∨ sc = 0x10) →
      s.epiEntry epi = some e →
      (e.systitle ≠ title ∨ e.proto ≠ 1) →
      exec (.dlmsApdu epi apdu caps p) s = .next ((s.bump fKEPBADF_COUNT 1).refused5 .badFrame (pathSrc p).1 (pathSrc p).2 apdu.length p.port (s.epiEui epi))) ∧
    (∀ (epi : Nat) (apdu : List Byte) (caps : List DlmsCapture) (p : RxPath) (s : State) (title ct tag key : List Byte) (sc ic eng : Nat) (e : EptEntry) (status : Status) (f : Bool),
      s.clocked = true →
      s.flag fDLMCFG_EN = true →
      (dlmsWrapped apdu).bind dlmsParts = some (title, sc, ic, ct, tag) →
      (sc = 0x30 ∨ sc = 0x10) →
      s.epiEntry epi = some e →
      e.systitle = title →
      e.proto = 1 →
      s.uplinkKey epi (s.pocket epi).wrap = (status, key, eng, f) →
      status ≠ .done →
      exec (.dlmsApdu epi apdu caps p) s = .next ((if status = .keyDenied then (if f then s.bump fKEYUNWRAPF_COUNT 1 else s) else (if f then s.bump fKEYUNWRAPF_COUNT 1 else s).setSflag epi sfOrphaned true).bump fKEPKEY_COUNT 1)) ∧
    (∀ (epi : Nat) (apdu : List Byte) (caps : List DlmsCapture) (p : RxPath) (s : State) (title ct tag key : List Byte) (sc ic eng : Nat) (e : EptEntry),
      s.clocked = true →
      s.flag fDLMCFG_EN = true →
      (dlmsWrapped apdu).bind dlmsParts = some (title, sc, ic, ct, tag) →
      (sc = 0x30 ∨ sc = 0x10) →
      s.epiEntry epi = some e →
      e.systitle = title →
      e.proto = 1 →
      s.uplinkKey epi (s.pocket epi).wrap = (.done, key, eng, false) →
      ¬ (if (caps.any fun c => c.named.isSome) = true then s.lastIc epi % 2 ^ 32 ≤ ic else max (s.lastIc epi % 2 ^ 32) (s.volIc epi % 2 ^ 32) < ic) →
      exec (.dlmsApdu epi apdu caps p) s = .next (s.bump fKEPREPLAY_COUNT 1)) ∧
    (∀ (epi : Nat) (apdu : List Byte) (caps : List DlmsCapture) (p : RxPath) (s : State) (title ct tag key : List Byte) (sc ic eng : Nat) (e : EptEntry),
      s.clocked = true →
      s.flag fDLMCFG_EN = true →
      (dlmsWrapped apdu).bind dlmsParts = some (title, sc, ic, ct, tag) →
      (sc = 0x30 ∨ sc = 0x10) →
      s.epiEntry epi = some e →
      e.systitle = title →
      e.proto = 1 →
      s.uplinkKey epi (s.pocket epi).wrap = (.done, key, eng, false) →
      (if (caps.any fun c => c.named.isSome) = true then s.lastIc epi % 2 ^ 32 ≤ ic else max (s.lastIc epi % 2 ^ 32) (s.volIc epi % 2 ^ 32) < ic) →
      (ofNats (gcmTag (nats (key.take 16)) (nats (title ++ beBytes 4 ic)) (nats ([BitVec.ofNat 8 sc] ++ (key.drop 16).take 16 ++ (if sc = 0x10 then ct else []))) (nats (if sc = 0x30 then ct else [])))).take 12 ≠ tag →
      exec (.dlmsApdu epi apdu caps p) s = .next ((s.aeCount eng false).bump fKEPTAGF_COUNT 1)) ∧
    (∀ (epi : Nat) (apdu : List Byte) (caps : List DlmsCapture) (p : RxPath) (s : State) (title ct tag key : List Byte) (sc ic eng : Nat) (e : EptEntry),
      s.clocked = true →
      s.flag fDLMCFG_EN = true →
      (dlmsWrapped apdu).bind dlmsParts = some (title, sc, ic, ct, tag) →
      (sc = 0x30 ∨ sc = 0x10) →
      s.epiEntry epi = some e →
      e.systitle = title →
      e.proto = 1 →
      s.uplinkKey epi (s.pocket epi).wrap = (.done, key, eng, false) →
      (if (caps.any fun c => c.named.isSome) = true then s.lastIc epi % 2 ^ 32 ≤ ic else max (s.lastIc epi % 2 ^ 32) (s.volIc epi % 2 ^ 32) < ic) →
      (ofNats (gcmTag (nats (key.take 16)) (nats (title ++ beBytes 4 ic)) (nats ([BitVec.ofNat 8 sc] ++ (key.drop 16).take 16 ++ (if sc = 0x10 then ct else []))) (nats (if sc = 0x30 then ct else [])))).take 12 = tag →
      ic = 2 ^ 32 - 1 →
      exec (.dlmsApdu epi apdu caps p) s = .next ((((s.aeCount eng false).setSflag epi sfExhausted true).setKep { (s.aeCount eng false).kep with rekeys := epi :: s.kep.rekeys }).bump fKEPEXH_COUNT 1)) ∧
    (∀ (epi : Nat) (apdu : List Byte) (caps : List DlmsCapture) (p : RxPath) (s : State) (title ct tag key : List Byte) (sc ic eng : Nat) (e : EptEntry),
      s.clocked = true →
      s.flag fDLMCFG_EN = true →
      (dlmsWrapped apdu).bind dlmsParts = some (title, sc, ic, ct, tag) →
      (sc = 0x30 ∨ sc = 0x10) →
      s.epiEntry epi = some e →
      e.systitle = title →
      e.proto = 1 →
      s.uplinkKey epi (s.pocket epi).wrap = (.done, key, eng, false) →
      (if (caps.any fun c => c.named.isSome) = true then s.lastIc epi % 2 ^ 32 ≤ ic else max (s.lastIc epi % 2 ^ 32) (s.volIc epi % 2 ^ 32) < ic) →
      (ofNats (gcmTag (nats (key.take 16)) (nats (title ++ beBytes 4 ic)) (nats ([BitVec.ofNat 8 sc] ++ (key.drop 16).take 16 ++ (if sc = 0x10 then ct else []))) (nats (if sc = 0x30 then ct else [])))).take 12 = tag →
      ic ≠ 2 ^ 32 - 1 →
      dlmsService (if sc = 0x30 then ofNats (gcmCrypt (nats (key.take 16)) (nats (title ++ beBytes 4 ic)) (nats ct)) else ct) = false →
      exec (.dlmsApdu epi apdu caps p) s = .next (((s.aeCount eng false).bump fKEPBADF_COUNT 1).refused5 .badFrame (pathSrc p).1 (pathSrc p).2 apdu.length p.port (s.epiEui epi))) ∧
    (∀ (epi : Nat) (apdu : List Byte) (caps : List DlmsCapture) (p : RxPath) (s : State) (title ct tag key : List Byte) (sc ic eng : Nat) (e : EptEntry),
      s.clocked = true →
      s.flag fDLMCFG_EN = true →
      (dlmsWrapped apdu).bind dlmsParts = some (title, sc, ic, ct, tag) →
      (sc = 0x30 ∨ sc = 0x10) →
      s.epiEntry epi = some e →
      e.systitle = title →
      e.proto = 1 →
      s.uplinkKey epi (s.pocket epi).wrap = (.done, key, eng, false) →
      (if (caps.any fun c => c.named.isSome) = true then s.lastIc epi % 2 ^ 32 ≤ ic else max (s.lastIc epi % 2 ^ 32) (s.volIc epi % 2 ^ 32) < ic) →
      (ofNats (gcmTag (nats (key.take 16)) (nats (title ++ beBytes 4 ic)) (nats ([BitVec.ofNat 8 sc] ++ (key.drop 16).take 16 ++ (if sc = 0x10 then ct else []))) (nats (if sc = 0x30 then ct else [])))).take 12 = tag →
      ic ≠ 2 ^ 32 - 1 →
      dlmsService (if sc = 0x30 then ofNats (gcmCrypt (nats (key.take 16)) (nats (title ++ beBytes 4 ic)) (nats ct)) else ct) = true →
      (caps.any fun c => c.named.isSome) = false →
      exec (.dlmsApdu epi apdu caps p) s = .next (((s.aeCount eng false).setKep { (s.aeCount eng false).kep with apdus := (epi, (if sc = 0x30 then ofNats (gcmCrypt (nats (key.take 16)) (nats (title ++ beBytes 4 ic)) (nats ct)) else ct)) :: s.kep.apdus }).secPut epi 8 8 ic)) ∧
    (∀ (epi : Nat) (apdu : List Byte) (caps : List DlmsCapture) (p : RxPath) (s : State) (title ct tag key : List Byte) (sc ic eng : Nat) (e : EptEntry),
      s.clocked = true →
      s.flag fDLMCFG_EN = true →
      (dlmsWrapped apdu).bind dlmsParts = some (title, sc, ic, ct, tag) →
      (sc = 0x30 ∨ sc = 0x10) →
      s.epiEntry epi = some e →
      e.systitle = title →
      e.proto = 1 →
      s.uplinkKey epi (s.pocket epi).wrap = (.done, key, eng, false) →
      (if (caps.any fun c => c.named.isSome) = true then s.lastIc epi % 2 ^ 32 ≤ ic else max (s.lastIc epi % 2 ^ 32) (s.volIc epi % 2 ^ 32) < ic) →
      (ofNats (gcmTag (nats (key.take 16)) (nats (title ++ beBytes 4 ic)) (nats ([BitVec.ofNat 8 sc] ++ (key.drop 16).take 16 ++ (if sc = 0x10 then ct else []))) (nats (if sc = 0x30 then ct else [])))).take 12 = tag →
      ic ≠ 2 ^ 32 - 1 →
      dlmsService (if sc = 0x30 then ofNats (gcmCrypt (nats (key.take 16)) (nats (title ++ beBytes 4 ic)) (nats ct)) else ct) = true →
      (caps.any fun c => c.named.isSome) = true →
      ic = s.lastIc epi % 2 ^ 32 →
      exec (.dlmsApdu epi apdu caps p) s = .next ((s.aeCount eng false).bump fKEPDUP_COUNT 1)) ∧
    (∀ (epi : Nat) (apdu : List Byte) (caps : List DlmsCapture) (p : RxPath) (s : State) (title ct tag key : List Byte) (sc ic eng : Nat) (e : EptEntry) (rs : List Reading) (bad : Nat),
      s.clocked = true →
      s.flag fDLMCFG_EN = true →
      (dlmsWrapped apdu).bind dlmsParts = some (title, sc, ic, ct, tag) →
      (sc = 0x30 ∨ sc = 0x10) →
      s.epiEntry epi = some e →
      e.systitle = title →
      e.proto = 1 →
      s.uplinkKey epi (s.pocket epi).wrap = (.done, key, eng, false) →
      (if (caps.any fun c => c.named.isSome) = true then s.lastIc epi % 2 ^ 32 ≤ ic else max (s.lastIc epi % 2 ^ 32) (s.volIc epi % 2 ^ 32) < ic) →
      (ofNats (gcmTag (nats (key.take 16)) (nats (title ++ beBytes 4 ic)) (nats ([BitVec.ofNat 8 sc] ++ (key.drop 16).take 16 ++ (if sc = 0x10 then ct else []))) (nats (if sc = 0x30 then ct else [])))).take 12 = tag →
      ic ≠ 2 ^ 32 - 1 →
      dlmsService (if sc = 0x30 then ofNats (gcmCrypt (nats (key.take 16)) (nats (title ++ beBytes 4 ic)) (nats ct)) else ct) = true →
      (caps.any fun c => c.named.isSome) = true →
      s.lastIc epi % 2 ^ 32 < ic →
      ((s.aeCount eng false).setKep { (s.aeCount eng false).kep with apdus := (epi, (if sc = 0x30 then ofNats (gcmCrypt (nats (key.take 16)) (nats (title ++ beBytes 4 ic)) (nats ct)) else ct)) :: s.kep.apdus }).dlmsReadings ic caps = (rs, bad) →
      (rs.filter fun r => r.fits) = [] →
      exec (.dlmsApdu epi apdu caps p) s = .next (((s.aeCount eng false).setKep { (s.aeCount eng false).kep with apdus := (epi, (if sc = 0x30 then ofNats (gcmCrypt (nats (key.take 16)) (nats (title ++ beBytes 4 ic)) (nats ct)) else ct)) :: s.kep.apdus }).bump fDLMBADTIME_COUNT bad)) ∧
    (∀ (epi : Nat) (apdu : List Byte) (caps : List DlmsCapture) (p : RxPath) (s : State) (title ct tag key : List Byte) (sc ic eng : Nat) (e : EptEntry) (rs : List Reading) (bad : Nat) (u : State),
      s.clocked = true →
      s.flag fDLMCFG_EN = true →
      (dlmsWrapped apdu).bind dlmsParts = some (title, sc, ic, ct, tag) →
      (sc = 0x30 ∨ sc = 0x10) →
      s.epiEntry epi = some e →
      e.systitle = title →
      e.proto = 1 →
      s.uplinkKey epi (s.pocket epi).wrap = (.done, key, eng, false) →
      (if (caps.any fun c => c.named.isSome) = true then s.lastIc epi % 2 ^ 32 ≤ ic else max (s.lastIc epi % 2 ^ 32) (s.volIc epi % 2 ^ 32) < ic) →
      (ofNats (gcmTag (nats (key.take 16)) (nats (title ++ beBytes 4 ic)) (nats ([BitVec.ofNat 8 sc] ++ (key.drop 16).take 16 ++ (if sc = 0x10 then ct else []))) (nats (if sc = 0x30 then ct else [])))).take 12 = tag →
      ic ≠ 2 ^ 32 - 1 →
      dlmsService (if sc = 0x30 then ofNats (gcmCrypt (nats (key.take 16)) (nats (title ++ beBytes 4 ic)) (nats ct)) else ct) = true →
      (caps.any fun c => c.named.isSome) = true →
      s.lastIc epi % 2 ^ 32 < ic →
      ((s.aeCount eng false).setKep { (s.aeCount eng false).kep with apdus := (epi, (if sc = 0x30 then ofNats (gcmCrypt (nats (key.take 16)) (nats (title ++ beBytes 4 ic)) (nats ct)) else ct)) :: s.kep.apdus }).dlmsReadings ic caps = (rs, bad) →
      (rs.filter fun r => r.fits) ≠ [] →
      (s.noCalendar = true ∨ s.ingestOpen = false) →
      u = (((s.aeCount eng false).setKep { (s.aeCount eng false).kep with apdus := (epi, (if sc = 0x30 then ofNats (gcmCrypt (nats (key.take 16)) (nats (title ++ beBytes 4 ic)) (nats ct)) else ct)) :: s.kep.apdus }).bump fDLMBADTIME_COUNT bad) →
      exec (.dlmsApdu epi apdu caps p) s = .next u) ∧
    (∀ (epi : Nat) (apdu : List Byte) (caps : List DlmsCapture) (p : RxPath) (s : State) (title ct tag key : List Byte) (sc ic eng : Nat) (e : EptEntry) (rs : List Reading) (bad : Nat) (u v : State) (isn : Nat),
      s.clocked = true →
      s.flag fDLMCFG_EN = true →
      (dlmsWrapped apdu).bind dlmsParts = some (title, sc, ic, ct, tag) →
      (sc = 0x30 ∨ sc = 0x10) →
      s.epiEntry epi = some e →
      e.systitle = title →
      e.proto = 1 →
      s.uplinkKey epi (s.pocket epi).wrap = (.done, key, eng, false) →
      (if (caps.any fun c => c.named.isSome) = true then s.lastIc epi % 2 ^ 32 ≤ ic else max (s.lastIc epi % 2 ^ 32) (s.volIc epi % 2 ^ 32) < ic) →
      (ofNats (gcmTag (nats (key.take 16)) (nats (title ++ beBytes 4 ic)) (nats ([BitVec.ofNat 8 sc] ++ (key.drop 16).take 16 ++ (if sc = 0x10 then ct else []))) (nats (if sc = 0x30 then ct else [])))).take 12 = tag →
      ic ≠ 2 ^ 32 - 1 →
      dlmsService (if sc = 0x30 then ofNats (gcmCrypt (nats (key.take 16)) (nats (title ++ beBytes 4 ic)) (nats ct)) else ct) = true →
      (caps.any fun c => c.named.isSome) = true →
      s.lastIc epi % 2 ^ 32 < ic →
      ((s.aeCount eng false).setKep { (s.aeCount eng false).kep with apdus := (epi, (if sc = 0x30 then ofNats (gcmCrypt (nats (key.take 16)) (nats (title ++ beBytes 4 ic)) (nats ct)) else ct)) :: s.kep.apdus }).dlmsReadings ic caps = (rs, bad) →
      (rs.filter fun r => r.fits) ≠ [] →
      u = (((s.aeCount eng false).setKep { (s.aeCount eng false).kep with apdus := (epi, (if sc = 0x30 then ofNats (gcmCrypt (nats (key.take 16)) (nats (title ++ beBytes 4 ic)) (nats ct)) else ct)) :: s.kep.apdus }).bump fDLMBADTIME_COUNT bad) →
      u.ingest epi ic ic (rs.filter fun r => r.fits) = .ok v isn →
      exec (.dlmsApdu epi apdu caps p) s = .next v)

/-- KEP_ACK_SEND sends a waiting ACK under the endpoint's key and next counter on the path of its frame: a port, the chip or the
envelope sender it came from; it does nothing for a number that does not wait, past ACKWIN, while a CONFIRM, the path or a
change of generation holds it, counts the wait for a ceiling once, and drops the ACK of a key that is gone or exhausted.
KEP_ACK_DROP drops a waiting ACK past ACKWIN, or with a number beyond them those handed on that are late, and counts them.
DOWNLINK_FRAME_SEND refuses a type or a body that is not laid out right, else sends the frame, under the endpoint's key or a
slot's group key, keeps it while it must wait (counting a wait for the ceiling), or drops it for want of a key, a GROUP_KEY also
when its slot may not be exported; an exhausted counter is counted and sets SFLAGS[1]. KEY_UPDATE_SEND needs EXPORT and the
wrapping key; it draws and stores the pending key of the next generation and then, as at each further command while PENDING,
sends that key. CEILING_RAISE of a raise that is due writes the entry and, unless a CONFIRM must come first, brings the ceiling
into force and sends the frame that waited; otherwise it does nothing. RELAY_ENVELOPE_RECEIVE drops envelopes of an unknown
sender or out of layout with an event, of a wrong tag or an old EIC without one; of the others it takes DIR 0 records through
the uplink checks and queues DIR 1 records. RELAY_DOWNLINK_TRANSMIT hands one to its port once TS has come, keeps it before,
drops it past ACKWIN; with a number beyond them it drops the late ones handed on. (R386, R394, R395, R403, R404, R405, R406,
R415, R416, R417, R419, R550) -/
def Obligations.DownlinkFramesAndKeys : Prop :=
    (∀ (n : Nat) (s : State),
      s.clocked = true →
      s.kep.acks[n]? = none →
      exec (.kepAckSend n) s = .next s) ∧
    (∀ (n : Nat) (s : State) (j : AckJob),
      s.clocked = true →
      s.kep.acks[n]? = some j →
      (s.pastAckWin j.since = true ∨ (match j.isn with | some i => s.held (.ack i) | none => false) = true) →
      exec (.kepAckSend n) s = .next s) ∧
    (∀ (n : Nat) (s : State) (j : AckJob) (key : List Byte) (eng : Nat),
      s.clocked = true →
      s.kep.acks[n]? = some j →
      s.pastAckWin j.since = false →
      (match j.isn with | some i => s.held (.ack i) | none => false) = false →
      eng < 4 →
      s.txIc j.epi < s.txCeil j.epi →
      s.pathReady j.path = true →
      s.held (.newGen j.epi) = false →
      s.epiCut j.epi = false →
      s.pocketKey j.epi (s.pocket j.epi).wrap = (.done, key, eng, false) →
      j.path.peer = none →
      j.path.chip = none →
      ∃ t, exec (.kepAckSend n) s = .next t ∧ t.kep.acks = (s.kep.acks.take n ++ s.kep.acks.drop (n + 1)) ∧
        t.kep.out = s.kep.out ++ [{
          port := j.path.port, link := j.path.link, group := j.path.group, kind := 0, notBefore := j.path.ts, since := s.time.raw, ackBy := (some (j.since + msRaw (s.fget fKEPCFG_ACKWIN)))
          frame := kepSeal key 0 mtAck (s.epiEui j.epi) (s.txIc j.epi) (s.kg j.epi) (s.ackBody j) }] ∧
        t.txIc j.epi = (s.txIc j.epi + 1) % 2 ^ 64 ∧ t.fget (fAESJOBS_COUNT eng) = (s.fget (fAESJOBS_COUNT eng) + 1) % 2 ^ (fAESJOBS_COUNT 0).w ∧
        (∀ x, x < s.secAddr j.epi + 16 ∨ s.secAddr j.epi + 24 ≤ x → t.byte x = s.byte x) ∧
        t = { s with kep := t.kep, csr := t.csr, mem := t.mem, poison := t.poison, soft := t.soft } ∧ t.kep = { s.kep with acks := t.kep.acks, out := t.kep.out, aeJobs := t.kep.aeJobs }) ∧
    (∀ (n : Nat) (s : State) (j : AckJob) (key : List Byte) (eng : Nat),
      s.clocked = true →
      s.kep.acks[n]? = some j →
      s.pastAckWin j.since = false →
      (match j.isn with | some i => s.held (.ack i) | none => false) = false →
      s.txIc j.epi < s.txCeil j.epi →
      s.pathReady j.path = true →
      s.held (.newGen j.epi) = false →
      s.epiCut j.epi = false →
      s.pocketKey j.epi (s.pocket j.epi).wrap = (.done, key, eng, false) →
      exec (.kepAckSend n) s = .next ((((s.secPut j.epi 16 8 (s.txIc j.epi + 1)).aeCount eng false).egress j.path (kepSeal key 0 mtAck (s.epiEui j.epi) (s.txIc j.epi) (s.kg j.epi) (s.ackBody j)) 0 (some (j.since + msRaw (s.fget fKEPCFG_ACKWIN)))).setAcks (s.kep.acks.take n ++ s.kep.acks.drop (n + 1)))) ∧
    (∀ (s : State) (p : RxPath) (f : List Byte) (kind : Nat) (b : Option Nat),
      (∀ e, p.peer = some e → s.egress p f kind b = s.envelopeOut e 1 p f) ∧
        (∀ c, p.peer = none → p.chip = some c → s.egress p f kind b = s.chipSend c 0 0x02 (pathRecord p f.length ++ f) []) ∧
        (p.peer = none → p.chip = none → s.egress p f kind b = s.setKep { s.kep with out := s.kep.out ++ [{
          port := p.port, link := p.link, group := p.group, kind := kind, notBefore := p.ts, since := s.time.raw, ackBy := b, frame := f }] }) ∧
        (∀ e, p.peer = some e → s.pathReady p = s.envelopeReady e) ∧ (∀ c, p.peer = none → p.chip = some c → s.pathReady p = true) ∧
        (p.peer = none → p.chip = none → s.pathReady p = s.txEnabled)) ∧
    (∀ (n : Nat) (s : State) (j : AckJob),
      s.clocked = true →
      s.kep.acks[n]? = some j →
      s.pastAckWin j.since = false →
      (match j.isn with | some i => s.held (.ack i) | none => false) = false →
      s.txCeil j.epi ≤ s.txIc j.epi →
      s.txCeil j.epi + 4096 ≤ s.ceilLimit false j.epi →
      exec (.kepAckSend n) s = .next (if j.waited then s else (s.setAcks (s.kep.acks.set n { j with waited := true })).bump fKEPCTRWAIT_COUNT 1)) ∧
    (∀ (n : Nat) (s : State) (j : AckJob),
      s.clocked = true →
      s.kep.acks[n]? = some j →
      s.pastAckWin j.since = false →
      (match j.isn with | some i => s.held (.ack i) | none => false) = false →
      s.txCeil j.epi ≤ s.txIc j.epi →
      s.ceilLimit false j.epi < s.txCeil j.epi + 4096 →
      exec (.kepAckSend n) s = .next (((s.setSflag j.epi sfExhausted true).bump fKEPEXH_COUNT 1).setAcks (s.kep.acks.take n ++ s.kep.acks.drop (n + 1)))) ∧
    (∀ (n : Nat) (s : State) (j : AckJob),
      s.clocked = true →
      s.kep.acks[n]? = some j →
      s.pastAckWin j.since = false →
      (match j.isn with | some i => s.held (.ack i) | none => false) = false →
      s.txIc j.epi < s.txCeil j.epi →
      (s.pathReady j.path = false ∨ s.held (.newGen j.epi) = true ∨ s.epiCut j.epi = true) →
      exec (.kepAckSend n) s = .next s) ∧
    (∀ (n : Nat) (s : State) (j : AckJob) (key : List Byte) (eng : Nat) (status : Status) (f : Bool),
      s.clocked = true →
      s.kep.acks[n]? = some j →
      s.pastAckWin j.since = false →
      (match j.isn with | some i => s.held (.ack i) | none => false) = false →
      s.txIc j.epi < s.txCeil j.epi →
      s.pathReady j.path = true →
      s.held (.newGen j.epi) = false →
      s.epiCut j.epi = false →
      s.pocketKey j.epi (s.pocket j.epi).wrap = (status, key, eng, f) →
      status ≠ .done →
      status ≠ .nonceExhausted →
      exec (.kepAckSend n) s = .next (s.setAcks (s.kep.acks.take n ++ s.kep.acks.drop (n + 1)))) ∧
    (∀ (n : Nat) (s : State) (j : AckJob),
      s.clocked = true →
      s.kep.acks[n]? = some j →
      exec (.kepAckDrop n) s = .next (if s.pastAckWin j.since then (s.setAcks (s.kep.acks.take n ++ s.kep.acks.drop (n + 1))).bump fKEPACKDROP_COUNT 1 else s)) ∧
    (∀ (n : Nat) (s : State),
      s.clocked = true →
      s.kep.acks[n]? = none →
      ∃ t, exec (.kepAckDrop n) s = .next t ∧ t = { s with kep := t.kep, pl := t.pl, rf := t.rf, csr := t.csr } ∧
        t.kep = { s.kep with out := s.kep.out.filter fun f => !(fun f : PortFrame => decide (f.kind = 0) = true && late f.ackBy s.time.raw) f } ∧
        (∀ n : Fin 6, (t.rfPort n.val).queue = (s.rfPort n.val).queue.filter fun f => !(decide (f.ack = true) && late f.ackBy s.time.raw)) ∧
        (∀ p : Fin 12, (t.plPort p.val).queue = (s.plPort p.val).queue.take (if (s.plPort p.val).tx.isSome then 1 else 0) ++
          ((s.plPort p.val).queue.drop (if (s.plPort p.val).tx.isSome then 1 else 0)).filter fun f => !(decide (f.tries = 0) && decide (f.ack = true) && late f.ackBy s.time.raw)) ∧
        t.csr = (s.bump fKEPACKDROP_COUNT (s.handedLate true).2).csr) ∧
    (∀ (slot : Bool) (key mt id : Nat) (body : List Byte) (p : RxPath) (s : State),
      s.clocked = true →
      (downType slot mt = false ∨ downBodyOk mt body = false) →
      exec (.downlinkFrameSend slot key mt id body p) s = .next (s.say .badArgument)) ∧
    (∀ (mt : Nat) (b : List Byte),
      (downType false mt = true ↔ mt = mtCommand ∨ mt = mtGroupKey ∨ mt = mtFwBlock ∨ mt = mtFwQuery ∨ mt = mtFwActivate) ∧
        (downType true mt = true ↔ mt = mtFwBlock ∨ mt = mtFwActivate) ∧
        (downBodyOk mtCommand b = true ↔ be b 6 2 ≤ 64 ∧ b.length = 8 + be b 6 2) ∧
        (downBodyOk mtGroupKey b = true ↔ b.length = 16 ∧ be b 9 1 ≤ 1 ∧ be b 10 6 = 0) ∧
        (downBodyOk mtFwBlock b = true ↔ 1 ≤ be b 6 2 ∧ be b 6 2 ≤ 1024 ∧ b.length = 8 + be b 6 2) ∧
        (downBodyOk mtFwQuery b = true ↔ b.length = 8 ∧ be b 6 2 = 0) ∧
        (downBodyOk mtFwActivate b = true ↔ b.length = 16 ∧ be b 4 4 = 0)) ∧
    (∀ (epi mt id : Nat) (body : List Byte) (p : RxPath) (s : State) (key : List Byte) (eng : Nat) (b : List Byte),
      s.clocked = true →
      downType false mt = true →
      downBodyOk mt body = true →
      (s.kep.down.all fun d => d.slot != false || d.key != epi) = true →
      (mt = mtGroupKey → (s.slot id).typ = ktAes256 ∧ bit (s.slot id).mask mExport = true) →
      b = (if mt = mtGroupKey then sub body 0 16 ++ (s.slot id).mat else body) →
      eng < 4 →
      s.txIc epi < s.txCeil epi →
      s.pathReady p = true →
      s.held (.newGen epi) = false →
      s.epiCut epi = false →
      s.pocketKey epi (s.pocket epi).wrap = (.done, key, eng, false) →
      p.peer = none →
      p.chip = none →
      ∃ t, exec (.downlinkFrameSend false epi mt id body p) s = .next t ∧ t.kep.down = s.kep.down ∧ t.answer = ⟨.done, 0⟩ ∧
        t.kep.out = s.kep.out ++ [{
          port := p.port, link := p.link, group := p.group, kind := 1, notBefore := p.ts, since := s.time.raw, ackBy := none
          frame := kepSeal key 0 mt (s.epiEui epi) (s.txIc epi) (s.kg epi) b }] ∧
        t.txIc epi = (s.txIc epi + 1) % 2 ^ 64 ∧ t.fget (fAESJOBS_COUNT eng) = (s.fget (fAESJOBS_COUNT eng) + 1) % 2 ^ (fAESJOBS_COUNT 0).w ∧
        (∀ x, x < s.secAddr epi + 16 ∨ s.secAddr epi + 24 ≤ x → t.byte x = s.byte x) ∧
        t = { s with kep := t.kep, csr := t.csr, mem := t.mem, poison := t.poison, soft := t.soft, answer := t.answer } ∧ t.kep = { s.kep with out := t.kep.out, aeJobs := t.kep.aeJobs }) ∧
    (∀ (epi mt id : Nat) (body : List Byte) (p : RxPath) (s : State) (key : List Byte) (eng : Nat) (b : List Byte),
      s.clocked = true →
      downType false mt = true →
      downBodyOk mt body = true →
      (s.kep.down.all fun d => d.slot != false || d.key != epi) = true →
      (mt = mtGroupKey → (s.slot id).typ = ktAes256 ∧ bit (s.slot id).mask mExport = true) →
      b = (if mt = mtGroupKey then sub body 0 16 ++ (s.slot id).mat else body) →
      s.txIc epi < s.txCeil epi →
      s.pathReady p = true →
      s.held (.newGen epi) = false →
      s.epiCut epi = false →
      s.pocketKey epi (s.pocket epi).wrap = (.done, key, eng, false) →
      exec (.downlinkFrameSend false epi mt id body p) s = .next ((((s.secPut epi 16 8 (s.txIc epi + 1)).aeCount eng false).egress p (kepSeal key 0 mt (s.epiEui epi) (s.txIc epi) (s.kg epi) b) 1 none).say .done)) ∧
    (∀ (epi mt id : Nat) (body : List Byte) (p : RxPath) (s : State),
      s.clocked = true →
      downType false mt = true →
      downBodyOk mt body = true →
      (s.kep.down.all fun d => d.slot != false || d.key != epi) = true →
      mt = mtGroupKey →
      ((s.slot id).typ ≠ ktAes256 ∨ bit (s.slot id).mask mExport = false) →
      exec (.downlinkFrameSend false epi mt id body p) s = .next (s.say .done)) ∧
    (∀ (epi mt id : Nat) (body : List Byte) (p : RxPath) (s : State),
      s.clocked = true →
      downType false mt = true →
      downBodyOk mt body = true →
      (s.kep.down.all fun d => d.slot != false || d.key != epi) = true →
      (mt = mtGroupKey → (s.slot id).typ = ktAes256 ∧ bit (s.slot id).mask mExport = true) →
      s.txCeil epi ≤ s.txIc epi →
      s.txCeil epi + 4096 ≤ s.ceilLimit false epi →
      exec (.downlinkFrameSend false epi mt id body p) s = .next (((s.setKep { s.kep with down := s.kep.down ++ [⟨false, epi, mt, id, body, p, true⟩] }).bump fKEPCTRWAIT_COUNT 1).say .done)) ∧
    (∀ (epi mt id : Nat) (body : List Byte) (p : RxPath) (s : State),
      s.clocked = true →
      downType false mt = true →
      downBodyOk mt body = true →
      (s.kep.down.all fun d => d.slot != false || d.key != epi) = true →
      (mt = mtGroupKey → (s.slot id).typ = ktAes256 ∧ bit (s.slot id).mask mExport = true) →
      s.txCeil epi ≤ s.txIc epi →
      s.ceilLimit false epi < s.txCeil epi + 4096 →
      exec (.downlinkFrameSend false epi mt id body p) s = .next (((s.setSflag epi sfExhausted true).bump fKEPEXH_COUNT 1).say .done)) ∧
    (∀ (epi mt id : Nat) (body : List Byte) (p : RxPath) (s : State),
      s.clocked = true →
      downType false mt = true →
      downBodyOk mt body = true →
      (s.kep.down.all fun d => d.slot != false || d.key != epi) = true →
      (mt = mtGroupKey → (s.slot id).typ = ktAes256 ∧ bit (s.slot id).mask mExport = true) →
      s.txIc epi < s.txCeil epi →
      (s.pathReady p = false ∨ s.held (.newGen epi) = true ∨ s.epiCut epi = true) →
      exec (.downlinkFrameSend false epi mt id body p) s = .next ((s.setKep { s.kep with down := s.kep.down ++ [⟨false, epi, mt, id, body, p, false⟩] }).say .done)) ∧
    (∀ (epi mt id : Nat) (body : List Byte) (p : RxPath) (s : State) (key : List Byte) (eng : Nat) (status : Status) (f : Bool),
      s.clocked = true →
      downType false mt = true →
      downBodyOk mt body = true →
      (s.kep.down.all fun d => d.slot != false || d.key != epi) = true →
      (mt = mtGroupKey → (s.slot id).typ = ktAes256 ∧ bit (s.slot id).mask mExport = true) →
      s.txIc epi < s.txCeil epi →
      s.pathReady p = true →
      s.held (.newGen epi) = false →
      s.epiCut epi = false →
      s.pocketKey epi (s.pocket epi).wrap = (status, key, eng, f) →
      status ≠ .done →
      status ≠ .nonceExhausted →
      exec (.downlinkFrameSend false epi mt id body p) s = .next (s.say .done)) ∧
    (∀ (k mt id : Nat) (body : List Byte) (p : RxPath) (s : State) (eng : Nat),
      s.clocked = true →
      downType true mt = true →
      downBodyOk mt body = true →
      (s.kep.down.all fun d => d.slot != true || d.key != k) = true →
      s.slotTx k < s.slotCeil k →
      s.pathReady p = true →
      (s.slot k).typ ≠ 0 →
      s.aePick (s.slot k).mask = some eng →
      exec (.downlinkFrameSend true k mt id body p) s = .next ((((s.setSlotTx k (s.slotTx k + 1)).aeCount eng false).egress p (kepSeal (s.slot k).mat 1 mt id (s.slotTx k) (resvGen (s.peek (slotResvAddr k) 8)) body) 2 none).say .done)) ∧
    (∀ (k mt id : Nat) (body : List Byte) (p : RxPath) (s : State),
      s.clocked = true →
      downType true mt = true →
      downBodyOk mt body = true →
      (s.kep.down.all fun d => d.slot != true || d.key != k) = true →
      s.slotTx k < s.slotCeil k →
      s.pathReady p = true →
      ((s.slot k).typ = 0 ∨ s.aePick (s.slot k).mask = none) →
      exec (.downlinkFrameSend true k mt id body p) s = .next (s.say .done)) ∧
    (∀ (k mt id : Nat) (body : List Byte) (p : RxPath) (s : State),
      s.clocked = true →
      downType true mt = true →
      downBodyOk mt body = true →
      (s.kep.down.all fun d => d.slot != true || d.key != k) = true →
      s.slotCeil k ≤ s.slotTx k →
      s.slotCeil k + 4096 ≤ 2 ^ 64 - 4096 →
      exec (.downlinkFrameSend true k mt id body p) s = .next (((s.setKep { s.kep with down := s.kep.down ++ [⟨true, k, mt, id, body, p, true⟩] }).bump fKEPCTRWAIT_COUNT 1).say .done)) ∧
    (∀ (k mt id : Nat) (body : List Byte) (p : RxPath) (s : State),
      s.clocked = true →
      downType true mt = true →
      downBodyOk mt body = true →
      (s.kep.down.all fun d => d.slot != true || d.key != k) = true →
      s.slotCeil k ≤ s.slotTx k →
      2 ^ 64 - 4096 < s.slotCeil k + 4096 →
      exec (.downlinkFrameSend true k mt id body p) s = .next ((s.bump fKEPEXH_COUNT 1).say .done)) ∧
    (∀ (k mt id : Nat) (body : List Byte) (p : RxPath) (s : State),
      s.clocked = true →
      downType true mt = true →
      downBodyOk mt body = true →
      (s.kep.down.all fun d => d.slot != true || d.key != k) = true →
      s.slotTx k < s.slotCeil k →
      s.pathReady p = false →
      exec (.downlinkFrameSend true k mt id body p) s = .next ((s.setKep { s.kep with down := s.kep.down ++ [⟨true, k, mt, id, body, p, false⟩] }).say .done)) ∧
    (∀ (epi : Nat) (p : RxPath) (s : State),
      s.clocked = true →
      bit (s.sflags epi) sfPending = false →
      bit (s.pocket epi).mask mExport = false →
      exec (.keyUpdateSend epi p) s = .next (s.say .keyDenied)) ∧
    (∀ (epi : Nat) (p : RxPath) (s : State),
      s.clocked = true →
      bit (s.sflags epi) sfPending = false →
      bit (s.pocket epi).mask mExport = true →
      ((s.pocket epi).v ≠ 1 ∨ (s.slot (s.pocket epi).parent).typ = 0 ∨ bit (s.slot (s.pocket epi).parent).mask mWrap = false ∨ (s.slot (s.pocket epi).parent).kid ≠ (s.pocket epi).pkid) →
      exec (.keyUpdateSend epi p) s = .next (s.say .keyOrphaned)) ∧
    (∀ (epi : Nat) (p : RxPath) (s u : State) (w : List Byte),
      s.clocked = true →
      bit (s.sflags epi) sfPending = false →
      bit (s.pocket epi).mask mExport = true →
      s.newWrap epi = some w →
      w.length = 40 →
      u = (((((s.drawn 1).secPut epi 33 1 ((s.kg epi + 1) % 256)).write (s.secAddr epi + 40) w).setSflag epi sfPending true).pendKey epi) →
      exec (.keyUpdateSend epi p) s = exec (.keyUpdateSend epi p) u ∧ bit (u.sflags epi) sfPending = true ∧ u.pkg epi = (s.kg epi + 1) % 256 ∧
        u.bytes (s.secAddr epi + 40) 40 = w ∧ u.kg epi = s.kg epi ∧ u.freeCtr = s.freeCtr + 1 ∧
        (s.isActive = false → u = { s with mem := u.mem, poison := u.poison, soft := u.soft, freeCtr := s.freeCtr + 1 }) ∧
        (s.isActive = true → s.alone = false → u.held (.keyUpdate epi) = true) ∧
        (∀ x, x < s.secAddr epi + 33 ∨ (s.secAddr epi + 35 ≤ x ∧ x < s.secAddr epi + 40) ∨ s.secAddr epi + 80 ≤ x → u.byte x = s.byte x)) ∧
    (∀ (epi : Nat) (p : RxPath) (s : State) (key newKey : List Byte) (eng eng2 : Nat),
      s.clocked = true →
      bit (s.sflags epi) sfPending = true →
      (s.kep.down.all fun d => d.slot != false || d.key != epi) = true →
      s.held (.keyUpdate epi) = false →
      s.pocketKey epi (s.bytes (s.secAddr epi + 40) 40) = (.done, newKey, eng2, false) →
      bit (s.pocket epi).mask mExport = true →
      s.txIc epi < s.txCeil epi →
      s.pathReady p = true →
      s.held (.newGen epi) = false →
      s.epiCut epi = false →
      s.pocketKey epi (s.pocket epi).wrap = (.done, key, eng, false) →
      exec (.keyUpdateSend epi p) s = .next ((((s.secPut epi 16 8 (s.txIc epi + 1)).aeCount eng false).egress p (kepSeal key 0 mtKeyUpdate (s.epiEui epi) (s.txIc epi) (s.kg epi) (beBytes 1 (s.pkg epi) ++ List.replicate 7 0 ++ padTo 32 newKey)) 1 none).say .done)) ∧
    (∀ (epi : Nat) (p : RxPath) (s : State),
      s.clocked = true →
      bit (s.sflags epi) sfPending = true →
      (s.kep.down.all fun d => d.slot != false || d.key != epi) = true →
      s.held (.keyUpdate epi) = true →
      exec (.keyUpdateSend epi p) s = .next ((s.setKep { s.kep with down := s.kep.down ++ [⟨false, epi, mtKeyUpdate, 0, [], p, s.ctrWaits false epi false⟩] }).say .done)) ∧
    (∀ (epi : Nat) (p : RxPath) (s : State) (newKey : List Byte) (eng2 : Nat),
      s.clocked = true →
      bit (s.sflags epi) sfPending = true →
      (s.kep.down.all fun d => d.slot != false || d.key != epi) = true →
      s.held (.keyUpdate epi) = false →
      s.pocketKey epi (s.bytes (s.secAddr epi + 40) 40) = (.done, newKey, eng2, false) →
      bit (s.pocket epi).mask mExport = true →
      s.txCeil epi ≤ s.txIc epi →
      s.txCeil epi + 4096 ≤ s.ceilLimit false epi →
      exec (.keyUpdateSend epi p) s = .next (((s.setKep { s.kep with down := s.kep.down ++ [⟨false, epi, mtKeyUpdate, 0, [], p, true⟩] }).bump fKEPCTRWAIT_COUNT 1).say .done)) ∧
    (∀ (epi : Nat) (p : RxPath) (s : State) (newKey : List Byte) (eng2 : Nat),
      s.clocked = true →
      bit (s.sflags epi) sfPending = true →
      (s.kep.down.all fun d => d.slot != false || d.key != epi) = true →
      s.held (.keyUpdate epi) = false →
      s.pocketKey epi (s.bytes (s.secAddr epi + 40) 40) = (.done, newKey, eng2, false) →
      bit (s.pocket epi).mask mExport = true →
      s.txCeil epi ≤ s.txIc epi →
      s.ceilLimit false epi < s.txCeil epi + 4096 →
      exec (.keyUpdateSend epi p) s = .next (((s.setSflag epi sfExhausted true).bump fKEPEXH_COUNT 1).say .done)) ∧
    (∀ (epi : Nat) (p : RxPath) (s : State),
      s.clocked = true →
      bit (s.sflags epi) sfPending = true →
      (s.kep.down.all fun d => d.slot != false || d.key != epi) = true →
      s.held (.keyUpdate epi) = false →
      ((s.pocketKey epi (s.bytes (s.secAddr epi + 40) 40)).1 ≠ .done ∨ bit (s.pocket epi).mask mExport = false) →
      (s.pocketKey epi (s.bytes (s.secAddr epi + 40) 40)).1 ≠ .nonceExhausted →
      exec (.keyUpdateSend epi p) s = .next (s.say .done)) ∧
    (∀ (slot : Bool) (key : Nat) (s : State),
      s.clocked = true →
      s.raiseDue slot key = false →
      exec (.ceilingRaise slot key) s = .next s) ∧
    (∀ (slot : Bool) (key : Nat) (s : State),
      (s.raiseDue slot key = true ↔ s.keyCeil slot key - 1024 ≤ s.keyTx slot key ∧ ∀ r ∈ s.kep.raises, r.1 ≠ slot ∨ r.2.1 ≠ key)) ∧
    (∀ (slot : Bool) (key : Nat) (s : State),
      s.clocked = true →
      s.raiseDue slot key = true →
      s.ceilLimit slot key < s.keyCeil slot key + 4096 →
      (s.kep.down.all fun d => d.slot != slot || d.key != key) = true →
      s.kep.envs = [] →
      exec (.ceilingRaise slot key) s = .next s) ∧
    (∀ (epi : Nat) (s : State),
      s.clocked = true →
      s.raiseDue false epi = true →
      s.txCeil epi + 4096 ≤ s.ceilLimit false epi →
      s.isActive = false →
      (s.kep.down.all fun d => d.slot != false || d.key != epi) = true →
      epi < 2 ^ 18 →
      s.secAddr epi + 128 ≤ mramBase ∨ csrBase ≤ s.secAddr epi →
      ∃ t, exec (.ceilingRaise false epi) s = .next t ∧ t.txCeil epi = s.txCeil epi + 4096 ∧ t.txIc epi = s.txIc epi ∧
        t.peek (resvAddr epi) 8 = resvEntry ((s.txCeil epi + 4096) / 4096) (resvGen (s.peek (resvAddr epi) 8)) ∧
        (s.ceilLimit false epi ≤ s.txCeil epi + 4096 + s.fget fKEPCFG_REKEYWARN * 4096 → bit (t.sflags epi) sfRekey = true) ∧
        (s.txCeil epi + 4096 + s.fget fKEPCFG_REKEYWARN * 4096 < s.ceilLimit false epi → t.sflags epi = s.sflags epi) ∧
        t = { s with mem := t.mem, poison := t.poison, soft := t.soft, kep := t.kep } ∧ t.kep = { s.kep with raises := t.kep.raises } ∧
        (∀ x, (x < s.secAddr epi + 24 ∨ s.secAddr epi + 35 ≤ x) → (x < resvAddr epi ∨ resvAddr epi + 8 ≤ x) → t.byte x = s.byte x)) ∧
    (∀ (epi : Nat) (s : State) (j : DownJob) (key : List Byte) (eng : Nat),
      s.clocked = true →
      s.raiseDue false epi = true →
      s.txCeil epi + 4096 ≤ s.ceilLimit false epi →
      s.isActive = false →
      s.kep.down = [j] →
      j.slot = false →
      j.key = epi →
      j.mt = mtCommand →
      s.pathReady j.path = true →
      j.path.peer = none →
      j.path.chip = none →
      s.held (.newGen epi) = false →
      s.epiCut epi = false →
      s.pocketKey epi (s.pocket epi).wrap = (.done, key, eng, false) →
      s.txCeil epi = s.txIc epi →
      epi < 2 ^ 18 →
      s.secAddr epi + 128 ≤ mramBase ∨ csrBase ≤ s.secAddr epi →
      s.pktAddr epi + 64 ≤ s.secAddr epi ∨ s.secAddr epi + 128 ≤ s.pktAddr epi →
      s.pktAddr epi + 64 ≤ resvAddr epi ∨ resvAddr epi + 8 ≤ s.pktAddr epi →
      (s.epiSlot epi).isSome = true →
      ∃ t, exec (.ceilingRaise false epi) s = .next t ∧ t.kep.down = [] ∧ t.txIc epi = s.txIc epi + 1 ∧ t.kep.out = s.kep.out ++ [{
          port := j.path.port, link := j.path.link, group := j.path.group, kind := 1, notBefore := j.path.ts, since := s.time.raw, ackBy := none
          frame := kepSeal key 0 mtCommand (s.epiEui epi) (s.txIc epi) (s.kg epi) j.body }]) ∧
    (∀ (epi : Nat) (s : State),
      s.clocked = true →
      s.raiseDue false epi = true →
      s.txCeil epi + 4096 ≤ s.ceilLimit false epi →
      s.isActive = true →
      s.alone = false →
      s.kep.down = [] →
      epi < 2 ^ 18 →
      ∃ t, exec (.ceilingRaise false epi) s = .next t ∧ t.kep = { s.kep with raises := s.kep.raises ++ [(false, epi, s.txCeil epi + 4096)] } ∧
        t.held (.ceil false epi (s.txCeil epi + 4096)) = true ∧ t.twn.nextSeq = s.twn.nextSeq + 1 ∧
        t.peek (resvAddr epi) 8 = resvEntry ((s.txCeil epi + 4096) / 4096) (resvGen (s.peek (resvAddr epi) 8)) ∧
        (∀ x, (x < resvAddr epi ∨ resvAddr epi + 8 ≤ x) → t.byte x = s.byte x)) ∧
    (∀ (k : Nat) (s : State),
      s.clocked = true →
      s.raiseDue true k = true →
      s.slotCeil k + 4096 ≤ 2 ^ 64 - 4096 →
      s.isActive = false →
      (s.kep.down.all fun d => d.slot != true || d.key != k) = true →
      s.kep.envs = [] →
      k < 8192 →
      ∃ t, exec (.ceilingRaise true k) s = .next t ∧ t.slotCeil k = s.slotCeil k + 4096 ∧
        (s.kep.slotIc.get natZero k ≠ 0 → t.slotTx k = s.slotTx k) ∧
        t.peek (slotResvAddr k) 8 = resvEntry ((s.slotCeil k + 4096) / 4096) (resvGen (s.peek (slotResvAddr k) 8)) ∧
        (∀ m, m < 8192 → m ≠ k → t.slotCeil m = s.slotCeil m ∧ t.slotTx m = s.slotTx m) ∧
        t = { s with mem := t.mem, poison := t.poison, soft := t.soft, kep := t.kep } ∧ t.kep = { s.kep with raises := t.kep.raises, slotCeil := t.kep.slotCeil } ∧
        (∀ x, (x < slotResvAddr k ∨ slotResvAddr k + 8 ≤ x) → t.byte x = s.byte x)) ∧
    (∀ (k : Nat) (s : State) (e : EnvJob),
      s.clocked = true →
      s.raiseDue true k = true →
      s.slotCeil k + 4096 ≤ 2 ^ 64 - 4096 →
      s.isActive = false →
      (s.kep.down.all fun d => d.slot != true || d.key != k) = true →
      s.kep.envs = [e] →
      s.fget (fRELPEER_SLOT e.peer) = k →
      s.peerOpen e.peer = true →
      s.slotTx k = s.slotCeil k →
      0 < s.slotCeil k →
      s.kep.slotIc.get natZero k ≠ 0 →
      ∃ t, exec (.ceilingRaise true k) s = .next t ∧ t.kep.envs = [] ∧ t.slotTx k = s.slotTx k + 1 ∧ t.slotCeil k = s.slotCeil k + 4096 ∧
        t = ((s.raise true k).setKep { (s.raise true k).kep with envs := [] }).envelopeOut e.peer e.dir e.path e.frame) ∧
    (∀ (b : List Byte) (s : State),
      s.clocked = true →
      s.flag fRELCFG_EN = false →
      exec (.relayEnvelopeReceive b) s = .next s) ∧
    (∀ (b : List Byte) (s : State),
      s.clocked = true →
      s.flag fRELCFG_EN = true →
      s.peerOf (be b 4 8) = none →
      exec (.relayEnvelopeReceive b) s = .next (s.refused5 .badEnvelope 0x3A 0 b.length 0 (be b 4 8))) ∧
    (∀ (b : List Byte) (s : State) (peer : Nat),
      s.clocked = true →
      s.flag fRELCFG_EN = true →
      s.peerOf (be b 4 8) = some peer →
      (¬ (40 ≤ b.length ∧ b.length ≤ s.fget fRELCFG_MAXLEN ∧ be b 0 2 = 0x4B52 ∧ be b 2 1 = 1 ∧ bits (be b 3 1) 5 2 = 0 ∧ 1 ≤ (bits (be b 3 1) 0 5) ∧ (bits (be b 3 1) 0 5) ≤ 16 ∧ be b 20 4 = 0) ∨ relayRecords peer (bits (be b 3 1) 0 5) ((b.take (b.length - 16)).drop 24) = none) →
      exec (.relayEnvelopeReceive b) s = .next (s.refused5 .badEnvelope 0x3A 0 b.length 0 (be b 4 8))) ∧
    (∀ (b : List Byte) (s : State) (peer : Nat) (rs : List (RxPath × List Byte)),
      s.clocked = true →
      s.flag fRELCFG_EN = true →
      s.peerOf (be b 4 8) = some peer →
      (40 ≤ b.length ∧ b.length ≤ s.fget fRELCFG_MAXLEN ∧ be b 0 2 = 0x4B52 ∧ be b 2 1 = 1 ∧ bits (be b 3 1) 5 2 = 0 ∧ 1 ≤ (bits (be b 3 1) 0 5) ∧ (bits (be b 3 1) 0 5) ≤ 16 ∧ be b 20 4 = 0) →
      relayRecords peer (bits (be b 3 1) 0 5) ((b.take (b.length - 16)).drop 24) = some rs →
      (s.aePick (s.slot (s.fget (fRELPEER_SLOT peer))).mask = none ∨ (s.slot (s.fget (fRELPEER_SLOT peer))).typ ≠ ktAes256 ∨ ofNats (gcmTag (nats (s.slot (s.fget (fRELPEER_SLOT peer))).mat) (nats ([0x52] ++ beBytes 1 (bits (be b 3 1) 7 1) ++ [0, 0] ++ beBytes 8 (be b 12 8))) (nats (b.take (b.length - 16))) []) ≠ b.drop (b.length - 16)) →
      exec (.relayEnvelopeReceive b) s = .next s) ∧
    (∀ (b : List Byte) (s : State) (peer : Nat) (rs : List (RxPath × List Byte)) (eng : Nat),
      s.clocked = true →
      s.flag fRELCFG_EN = true →
      s.peerOf (be b 4 8) = some peer →
      (40 ≤ b.length ∧ b.length ≤ s.fget fRELCFG_MAXLEN ∧ be b 0 2 = 0x4B52 ∧ be b 2 1 = 1 ∧ bits (be b 3 1) 5 2 = 0 ∧ 1 ≤ (bits (be b 3 1) 0 5) ∧ (bits (be b 3 1) 0 5) ≤ 16 ∧ be b 20 4 = 0) →
      relayRecords peer (bits (be b 3 1) 0 5) ((b.take (b.length - 16)).drop 24) = some rs →
      s.aePick (s.slot (s.fget (fRELPEER_SLOT peer))).mask = some eng →
      (s.slot (s.fget (fRELPEER_SLOT peer))).typ = ktAes256 →
      ofNats (gcmTag (nats (s.slot (s.fget (fRELPEER_SLOT peer))).mat) (nats ([0x52] ++ beBytes 1 (bits (be b 3 1) 7 1) ++ [0, 0] ++ beBytes 8 (be b 12 8))) (nats (b.take (b.length - 16))) []) = b.drop (b.length - 16) →
      (s.kep.eicSeen.contains (peer, be b 4 8) = true ∧ be b 12 8 ≤ s.fget (fRELPEER_LASTEIC peer)) →
      exec (.relayEnvelopeReceive b) s = .next s) ∧
    (∀ (b : List Byte) (s : State) (peer : Nat) (rs : List (RxPath × List Byte)) (eng : Nat) (u : State),
      s.clocked = true →
      s.flag fRELCFG_EN = true →
      s.peerOf (be b 4 8) = some peer →
      (40 ≤ b.length ∧ b.length ≤ s.fget fRELCFG_MAXLEN ∧ be b 0 2 = 0x4B52 ∧ be b 2 1 = 1 ∧ bits (be b 3 1) 5 2 = 0 ∧ 1 ≤ (bits (be b 3 1) 0 5) ∧ (bits (be b 3 1) 0 5) ≤ 16 ∧ be b 20 4 = 0) →
      relayRecords peer (bits (be b 3 1) 0 5) ((b.take (b.length - 16)).drop 24) = some rs →
      s.aePick (s.slot (s.fget (fRELPEER_SLOT peer))).mask = some eng →
      (s.slot (s.fget (fRELPEER_SLOT peer))).typ = ktAes256 →
      ofNats (gcmTag (nats (s.slot (s.fget (fRELPEER_SLOT peer))).mat) (nats ([0x52] ++ beBytes 1 (bits (be b 3 1) 7 1) ++ [0, 0] ++ beBytes 8 (be b 12 8))) (nats (b.take (b.length - 16))) []) = b.drop (b.length - 16) →
      ¬ (s.kep.eicSeen.contains (peer, be b 4 8) = true ∧ be b 12 8 ≤ s.fget (fRELPEER_LASTEIC peer)) →
      bits (be b 3 1) 7 1 = 1 →
      u = (((s.aeCount eng false).fset (fRELPEER_LASTEIC peer) (be b 12 8)).setKep { (s.aeCount eng false).kep with eicSeen := (peer, be b 4 8) :: s.kep.eicSeen.filter (·.1 ≠ peer) }) →
      exec (.relayEnvelopeReceive b) s = .next (u.setKep { u.kep with rel := s.kep.rel ++ rs.map (fun r => ⟨{ r.1 with peer := none }, r.2, s.time.raw⟩) })) ∧
    (∀ (b : List Byte) (s : State) (peer : Nat) (rs : List (RxPath × List Byte)) (eng : Nat) (u : State),
      s.clocked = true →
      s.flag fRELCFG_EN = true →
      s.peerOf (be b 4 8) = some peer →
      (40 ≤ b.length ∧ b.length ≤ s.fget fRELCFG_MAXLEN ∧ be b 0 2 = 0x4B52 ∧ be b 2 1 = 1 ∧ bits (be b 3 1) 5 2 = 0 ∧ 1 ≤ (bits (be b 3 1) 0 5) ∧ (bits (be b 3 1) 0 5) ≤ 16 ∧ be b 20 4 = 0) →
      relayRecords peer (bits (be b 3 1) 0 5) ((b.take (b.length - 16)).drop 24) = some rs →
      s.aePick (s.slot (s.fget (fRELPEER_SLOT peer))).mask = some eng →
      (s.slot (s.fget (fRELPEER_SLOT peer))).typ = ktAes256 →
      ofNats (gcmTag (nats (s.slot (s.fget (fRELPEER_SLOT peer))).mat) (nats ([0x52] ++ beBytes 1 (bits (be b 3 1) 7 1) ++ [0, 0] ++ beBytes 8 (be b 12 8))) (nats (b.take (b.length - 16))) []) = b.drop (b.length - 16) →
      ¬ (s.kep.eicSeen.contains (peer, be b 4 8) = true ∧ be b 12 8 ≤ s.fget (fRELPEER_LASTEIC peer)) →
      bits (be b 3 1) 7 1 = 0 →
      u = (((s.aeCount eng false).fset (fRELPEER_LASTEIC peer) (be b 12 8)).setKep { (s.aeCount eng false).kep with eicSeen := (peer, be b 4 8) :: s.kep.eicSeen.filter (·.1 ≠ peer) }) →
      exec (.relayEnvelopeReceive b) s = .next (rs.foldl (fun t r => t.kepFrom2 (KepFrame.parse r.2) r.1) u)) ∧
    (∀ (b : List Byte) (s : State) (peer : Nat) (p : RxPath) (f : List Byte) (eng : Nat) (u : State),
      s.clocked = true →
      s.flag fRELCFG_EN = true →
      s.peerOf (be b 4 8) = some peer →
      (40 ≤ b.length ∧ b.length ≤ s.fget fRELCFG_MAXLEN ∧ be b 0 2 = 0x4B52 ∧ be b 2 1 = 1 ∧ bits (be b 3 1) 5 2 = 0 ∧ 1 ≤ (bits (be b 3 1) 0 5) ∧ (bits (be b 3 1) 0 5) ≤ 16 ∧ be b 20 4 = 0) →
      relayRecords peer (bits (be b 3 1) 0 5) ((b.take (b.length - 16)).drop 24) = some [(p, f)] →
      s.aePick (s.slot (s.fget (fRELPEER_SLOT peer))).mask = some eng →
      (s.slot (s.fget (fRELPEER_SLOT peer))).typ = ktAes256 →
      ofNats (gcmTag (nats (s.slot (s.fget (fRELPEER_SLOT peer))).mat) (nats ([0x52] ++ beBytes 1 (bits (be b 3 1) 7 1) ++ [0, 0] ++ beBytes 8 (be b 12 8))) (nats (b.take (b.length - 16))) []) = b.drop (b.length - 16) →
      ¬ (s.kep.eicSeen.contains (peer, be b 4 8) = true ∧ be b 12 8 ≤ s.fget (fRELPEER_LASTEIC peer)) →
      bits (be b 3 1) 7 1 = 0 →
      (KepFrame.parse f).shaped = true →
      u = (((s.aeCount eng false).fset (fRELPEER_LASTEIC peer) (be b 12 8)).setKep { (s.aeCount eng false).kep with eicSeen := (peer, be b 4 8) :: s.kep.eicSeen.filter (·.1 ≠ peer) }) →
      exec (.relayEnvelopeReceive b) s = exec (.kepUplinkFrame p f) u) ∧
    (∀ (n : Nat) (s : State),
      s.clocked = true →
      s.kep.rel[n]? = none →
      ∃ t, exec (.relayDownlinkTransmit n) s = .next t ∧ t = { s with kep := t.kep, pl := t.pl, rf := t.rf, csr := t.csr } ∧
        t.kep = { s.kep with out := s.kep.out.filter fun f => !(fun f : PortFrame => decide (f.kind = 0) = false && late f.ackBy s.time.raw) f } ∧
        (∀ n : Fin 6, (t.rfPort n.val).queue = (s.rfPort n.val).queue.filter fun f => !(decide (f.ack = false) && late f.ackBy s.time.raw)) ∧
        (∀ p : Fin 12, (t.plPort p.val).queue = (s.plPort p.val).queue.take (if (s.plPort p.val).tx.isSome then 1 else 0) ++
          ((s.plPort p.val).queue.drop (if (s.plPort p.val).tx.isSome then 1 else 0)).filter fun f => !(decide (f.tries = 0) && decide (f.ack = false) && late f.ackBy s.time.raw)) ∧
        t.csr = (s.bump fRELTXDROP_COUNT (s.handedLate false).2).csr) ∧
    (∀ (n : Nat) (s : State) (j : RelJob),
      s.clocked = true →
      s.kep.rel[n]? = some j →
      s.pastAckWin j.since = true →
      exec (.relayDownlinkTransmit n) s = .next ((s.setKep { s.kep with rel := (s.kep.rel.take n ++ s.kep.rel.drop (n + 1)) }).bump fRELTXDROP_COUNT 1)) ∧
    (∀ (n : Nat) (s : State) (j : RelJob),
      s.clocked = true →
      s.kep.rel[n]? = some j →
      s.pastAckWin j.since = false →
      (s.chip < j.path.ts ∨ s.txEnabled = false) →
      exec (.relayDownlinkTransmit n) s = .next s) ∧
    (∀ (n : Nat) (s : State) (j : RelJob),
      s.clocked = true →
      s.kep.rel[n]? = some j →
      s.pastAckWin j.since = false →
      j.path.ts ≤ s.chip →
      s.txEnabled = true →
      j.path.peer = none →
      j.path.chip = none →
      exec (.relayDownlinkTransmit n) s = .next (s.setKep { s.kep with rel := (s.kep.rel.take n ++ s.kep.rel.drop (n + 1)), out := s.kep.out ++ [{
          port := j.path.port, link := j.path.link, group := j.path.group, kind := 1, frame := j.frame, notBefore := j.path.ts
          since := s.time.raw, ackBy := (some (j.since + msRaw (s.fget fKEPCFG_ACKWIN))) }] }))

/-- AES_GCM_ENCRYPT, AES_GCM_DECRYPT, AES_CCM_ENCRYPT, AES_CCM_DECRYPT, AES_CTR, AES_CMAC_GENERATE and AES_CMAC_VERIFY each take the
job at the front of AESCFG.JOBQ when its MODE is the row's (GCM encryption takes those of a MODE that the table does not have as
well), and do nothing when the engines are off, this one is fenced or still keeps a completion, no job of the row is in front,
or an ingest frame waits and software has had its share of the last 16 jobs. A job within the limits of R408, on ranges an
engine reaches, with a key that names the engine and a source without poison, writes the message and, where the mode generates
one, the tag at DST, is counted, and posts DONE with the bytes written; when a decrypting or verifying job's tag is wrong it
posts TAG_FAIL, counts that as well, and writes nothing. Every other job writes nothing and posts its status: MODE_DENIED in
BOOT, BAD_ARGUMENT outside the limits, BAD_ADDRESS outside those ranges, KEY_EMPTY for an empty slot, KEY_DENIED for a mask
without the engine, KEY_ORPHANED for an orphaned pocket, POISONED. (R407, R408, R409, R410, R411, R413, R414, R685) -/
def Obligations.AesJobs : Prop :=
    (∀ (e : Fin 4) (waits : Bool) (s : State) (d : List GReg) (j : AesJob) (key : List Byte) (f : Bool) (u : State),
      s.clocked = true →
      s.flag fAESCFG_EN = true →
      s.fenced (4 + e.val) = false →
      s.holdsDone (s.fget fAESCFG_DONEQ) e.val = false →
      waits = false ∨ s.swShare e.val = true →
      s.frontJob (s.fget fAESCFG_JOBQ) = some d →
      j = AesJob.parse d →
      j.mode = 0 →
      s.mode ≠ modeBoot →
      j.ok = true →
      s.engineRange j.src j.srcLen = true →
      s.engineRange j.dst (j.msglen + j.taglen) = true →
      (s.dequeued (s.fget fAESCFG_JOBQ)).aesKey j e.val = (.done, key, f) →
      u = (s.dequeued (s.fget fAESCFG_JOBQ)).touch j.src j.srcLen →
      u.poisonedIn j.src j.srcLen = false →
      exec (.aesGcmEncrypt e waits) s = .next
          (((u.write j.dst (ofNats (gcmCrypt (nats key) (nats ((u.bytes j.src j.srcLen).take j.ivlen)) (nats (((u.bytes j.src j.srcLen).drop (j.ivlen + j.aadlen)).take j.msglen)) ++ (gcmTag (nats key) (nats ((u.bytes j.src j.srcLen).take j.ivlen)) (nats (((u.bytes j.src j.srcLen).drop j.ivlen).take j.aadlen)) (gcmCrypt (nats key) (nats ((u.bytes j.src j.srcLen).take j.ivlen)) (nats (((u.bytes j.src j.srcLen).drop (j.ivlen + j.aadlen)).take j.msglen)))).take j.taglen))).aeCount e.val true).hwEnqueue (s.fget fAESCFG_DONEQ) (doneDesc .done e.val j.job (ofNats (gcmCrypt (nats key) (nats ((u.bytes j.src j.srcLen).take j.ivlen)) (nats (((u.bytes j.src j.srcLen).drop (j.ivlen + j.aadlen)).take j.msglen)) ++ (gcmTag (nats key) (nats ((u.bytes j.src j.srcLen).take j.ivlen)) (nats (((u.bytes j.src j.srcLen).drop j.ivlen).take j.aadlen)) (gcmCrypt (nats key) (nats ((u.bytes j.src j.srcLen).take j.ivlen)) (nats (((u.bytes j.src j.srcLen).drop (j.ivlen + j.aadlen)).take j.msglen)))).take j.taglen)).length))) ∧
    (∀ (e : Fin 4) (waits : Bool) (s : State) (d : List GReg) (j : AesJob) (key : List Byte) (f : Bool) (u : State),
      s.clocked = true →
      s.flag fAESCFG_EN = true →
      s.fenced (4 + e.val) = false →
      s.holdsDone (s.fget fAESCFG_DONEQ) e.val = false →
      waits = false ∨ s.swShare e.val = true →
      s.frontJob (s.fget fAESCFG_JOBQ) = some d →
      j = AesJob.parse d →
      j.mode = 1 →
      s.mode ≠ modeBoot →
      j.ok = true →
      s.engineRange j.src j.srcLen = true →
      s.engineRange j.dst (j.msglen) = true →
      (s.dequeued (s.fget fAESCFG_JOBQ)).aesKey j e.val = (.done, key, f) →
      u = (s.dequeued (s.fget fAESCFG_JOBQ)).touch j.src j.srcLen →
      u.poisonedIn j.src j.srcLen = false →
      (gcmTag (nats key) (nats ((u.bytes j.src j.srcLen).take j.ivlen)) (nats (((u.bytes j.src j.srcLen).drop j.ivlen).take j.aadlen)) (nats (((u.bytes j.src j.srcLen).drop (j.ivlen + j.aadlen)).take j.msglen))).take j.taglen = (nats ((u.bytes j.src j.srcLen).drop (j.ivlen + j.aadlen + j.msglen))) →
      exec (.aesGcmDecrypt e waits) s = .next
          (((u.write j.dst (ofNats (gcmCrypt (nats key) (nats ((u.bytes j.src j.srcLen).take j.ivlen)) (nats (((u.bytes j.src j.srcLen).drop (j.ivlen + j.aadlen)).take j.msglen))))).aeCount e.val true).hwEnqueue (s.fget fAESCFG_DONEQ) (doneDesc .done e.val j.job (ofNats (gcmCrypt (nats key) (nats ((u.bytes j.src j.srcLen).take j.ivlen)) (nats (((u.bytes j.src j.srcLen).drop (j.ivlen + j.aadlen)).take j.msglen)))).length))) ∧
    (∀ (e : Fin 4) (waits : Bool) (s : State) (d : List GReg) (j : AesJob) (key : List Byte) (f : Bool) (u : State),
      s.clocked = true →
      s.flag fAESCFG_EN = true →
      s.fenced (4 + e.val) = false →
      s.holdsDone (s.fget fAESCFG_DONEQ) e.val = false →
      waits = false ∨ s.swShare e.val = true →
      s.frontJob (s.fget fAESCFG_JOBQ) = some d →
      j = AesJob.parse d →
      j.mode = 2 →
      s.mode ≠ modeBoot →
      j.ok = true →
      s.engineRange j.src j.srcLen = true →
      s.engineRange j.dst (j.msglen + j.taglen) = true →
      (s.dequeued (s.fget fAESCFG_JOBQ)).aesKey j e.val = (.done, key, f) →
      u = (s.dequeued (s.fget fAESCFG_JOBQ)).touch j.src j.srcLen →
      u.poisonedIn j.src j.srcLen = false →
      exec (.aesCcmEncrypt e waits) s = .next
          (((u.write j.dst (ofNats (ccmCrypt (nats key) (nats ((u.bytes j.src j.srcLen).take j.ivlen)) (nats (((u.bytes j.src j.srcLen).drop (j.ivlen + j.aadlen)).take j.msglen)) ++ ccmTag (nats key) (nats ((u.bytes j.src j.srcLen).take j.ivlen)) (nats (((u.bytes j.src j.srcLen).drop j.ivlen).take j.aadlen)) (nats (((u.bytes j.src j.srcLen).drop (j.ivlen + j.aadlen)).take j.msglen)) j.taglen))).aeCount e.val true).hwEnqueue (s.fget fAESCFG_DONEQ) (doneDesc .done e.val j.job (ofNats (ccmCrypt (nats key) (nats ((u.bytes j.src j.srcLen).take j.ivlen)) (nats (((u.bytes j.src j.srcLen).drop (j.ivlen + j.aadlen)).take j.msglen)) ++ ccmTag (nats key) (nats ((u.bytes j.src j.srcLen).take j.ivlen)) (nats (((u.bytes j.src j.srcLen).drop j.ivlen).take j.aadlen)) (nats (((u.bytes j.src j.srcLen).drop (j.ivlen + j.aadlen)).take j.msglen)) j.taglen)).length))) ∧
    (∀ (e : Fin 4) (waits : Bool) (s : State) (d : List GReg) (j : AesJob) (key : List Byte) (f : Bool) (u : State),
      s.clocked = true →
      s.flag fAESCFG_EN = true →
      s.fenced (4 + e.val) = false →
      s.holdsDone (s.fget fAESCFG_DONEQ) e.val = false →
      waits = false ∨ s.swShare e.val = true →
      s.frontJob (s.fget fAESCFG_JOBQ) = some d →
      j = AesJob.parse d →
      j.mode = 3 →
      s.mode ≠ modeBoot →
      j.ok = true →
      s.engineRange j.src j.srcLen = true →
      s.engineRange j.dst (j.msglen) = true →
      (s.dequeued (s.fget fAESCFG_JOBQ)).aesKey j e.val = (.done, key, f) →
      u = (s.dequeued (s.fget fAESCFG_JOBQ)).touch j.src j.srcLen →
      u.poisonedIn j.src j.srcLen = false →
      ccmTag (nats key) (nats ((u.bytes j.src j.srcLen).take j.ivlen)) (nats (((u.bytes j.src j.srcLen).drop j.ivlen).take j.aadlen)) (ccmCrypt (nats key) (nats ((u.bytes j.src j.srcLen).take j.ivlen)) (nats (((u.bytes j.src j.srcLen).drop (j.ivlen + j.aadlen)).take j.msglen))) j.taglen = (nats ((u.bytes j.src j.srcLen).drop (j.ivlen + j.aadlen + j.msglen))) →
      exec (.aesCcmDecrypt e waits) s = .next
          (((u.write j.dst (ofNats (ccmCrypt (nats key) (nats ((u.bytes j.src j.srcLen).take j.ivlen)) (nats (((u.bytes j.src j.srcLen).drop (j.ivlen + j.aadlen)).take j.msglen))))).aeCount e.val true).hwEnqueue (s.fget fAESCFG_DONEQ) (doneDesc .done e.val j.job (ofNats (ccmCrypt (nats key) (nats ((u.bytes j.src j.srcLen).take j.ivlen)) (nats (((u.bytes j.src j.srcLen).drop (j.ivlen + j.aadlen)).take j.msglen)))).length))) ∧
    (∀ (e : Fin 4) (waits : Bool) (s : State) (d : List GReg) (j : AesJob) (key : List Byte) (f : Bool) (u : State),
      s.clocked = true →
      s.flag fAESCFG_EN = true →
      s.fenced (4 + e.val) = false →
      s.holdsDone (s.fget fAESCFG_DONEQ) e.val = false →
      waits = false ∨ s.swShare e.val = true →
      s.frontJob (s.fget fAESCFG_JOBQ) = some d →
      j = AesJob.parse d →
      j.mode = 4 →
      s.mode ≠ modeBoot →
      j.ok = true →
      s.engineRange j.src j.srcLen = true →
      s.engineRange j.dst (j.msglen) = true →
      (s.dequeued (s.fget fAESCFG_JOBQ)).aesKey j e.val = (.done, key, f) →
      u = (s.dequeued (s.fget fAESCFG_JOBQ)).touch j.src j.srcLen →
      u.poisonedIn j.src j.srcLen = false →
      exec (.aesCtr e waits) s = .next
          (((u.write j.dst (ofNats (aesCtr (nats key) 128 (blkNat (nats ((u.bytes j.src j.srcLen).take j.ivlen))) (nats (((u.bytes j.src j.srcLen).drop (j.ivlen + j.aadlen)).take j.msglen))))).aeCount e.val true).hwEnqueue (s.fget fAESCFG_DONEQ) (doneDesc .done e.val j.job (ofNats (aesCtr (nats key) 128 (blkNat (nats ((u.bytes j.src j.srcLen).take j.ivlen))) (nats (((u.bytes j.src j.srcLen).drop (j.ivlen + j.aadlen)).take j.msglen)))).length))) ∧
    (∀ (e : Fin 4) (waits : Bool) (s : State) (d : List GReg) (j : AesJob) (key : List Byte) (f : Bool) (u : State),
      s.clocked = true →
      s.flag fAESCFG_EN = true →
      s.fenced (4 + e.val) = false →
      s.holdsDone (s.fget fAESCFG_DONEQ) e.val = false →
      waits = false ∨ s.swShare e.val = true →
      s.frontJob (s.fget fAESCFG_JOBQ) = some d →
      j = AesJob.parse d →
      j.mode = 5 →
      s.mode ≠ modeBoot →
      j.ok = true →
      s.engineRange j.src j.srcLen = true →
      s.engineRange j.dst (j.taglen) = true →
      (s.dequeued (s.fget fAESCFG_JOBQ)).aesKey j e.val = (.done, key, f) →
      u = (s.dequeued (s.fget fAESCFG_JOBQ)).touch j.src j.srcLen →
      u.poisonedIn j.src j.srcLen = false →
      exec (.aesCmacGenerate e waits) s = .next
          (((u.write j.dst (ofNats ((aesCmac (nats key) (nats (((u.bytes j.src j.srcLen).drop (j.ivlen + j.aadlen)).take j.msglen))).take j.taglen))).aeCount e.val true).hwEnqueue (s.fget fAESCFG_DONEQ) (doneDesc .done e.val j.job (ofNats ((aesCmac (nats key) (nats (((u.bytes j.src j.srcLen).drop (j.ivlen + j.aadlen)).take j.msglen))).take j.taglen)).length))) ∧
    (∀ (e : Fin 4) (waits : Bool) (s : State) (d : List GReg) (j : AesJob) (key : List Byte) (f : Bool) (u : State),
      s.clocked = true →
      s.flag fAESCFG_EN = true →
      s.fenced (4 + e.val) = false →
      s.holdsDone (s.fget fAESCFG_DONEQ) e.val = false →
      waits = false ∨ s.swShare e.val = true →
      s.frontJob (s.fget fAESCFG_JOBQ) = some d →
      j = AesJob.parse d →
      j.mode = 6 →
      s.mode ≠ modeBoot →
      j.ok = true →
      s.engineRange j.src j.srcLen = true →
      s.engineRange j.dst (0) = true →
      (s.dequeued (s.fget fAESCFG_JOBQ)).aesKey j e.val = (.done, key, f) →
      u = (s.dequeued (s.fget fAESCFG_JOBQ)).touch j.src j.srcLen →
      u.poisonedIn j.src j.srcLen = false →
      (aesCmac (nats key) (nats (((u.bytes j.src j.srcLen).drop (j.ivlen + j.aadlen)).take j.msglen))).take j.taglen = (nats ((u.bytes j.src j.srcLen).drop (j.ivlen + j.aadlen + j.msglen))) →
      exec (.aesCmacVerify e waits) s = .next
          ((u.aeCount e.val true).hwEnqueue (s.fget fAESCFG_DONEQ) (doneDesc .done e.val j.job 0))) ∧
    (∀ (e : Fin 4) (waits : Bool) (s : State) (d : List GReg) (j : AesJob) (key : List Byte) (f : Bool) (u : State),
      s.clocked = true →
      s.flag fAESCFG_EN = true →
      s.fenced (4 + e.val) = false →
      s.holdsDone (s.fget fAESCFG_DONEQ) e.val = false →
      waits = false ∨ s.swShare e.val = true →
      s.frontJob (s.fget fAESCFG_JOBQ) = some d →
      j = AesJob.parse d →
      j.mode = 1 →
      s.mode ≠ modeBoot →
      j.ok = true →
      s.engineRange j.src j.srcLen = true →
      s.engineRange j.dst (j.msglen) = true →
      (s.dequeued (s.fget fAESCFG_JOBQ)).aesKey j e.val = (.done, key, f) →
      u = (s.dequeued (s.fget fAESCFG_JOBQ)).touch j.src j.srcLen →
      u.poisonedIn j.src j.srcLen = false →
      (gcmTag (nats key) (nats ((u.bytes j.src j.srcLen).take j.ivlen)) (nats (((u.bytes j.src j.srcLen).drop j.ivlen).take j.aadlen)) (nats (((u.bytes j.src j.srcLen).drop (j.ivlen + j.aadlen)).take j.msglen))).take j.taglen ≠ (nats ((u.bytes j.src j.srcLen).drop (j.ivlen + j.aadlen + j.msglen))) →
      exec (.aesGcmDecrypt e waits) s = .next
          (((u.bump fAESTAGF_COUNT 1).aeCount e.val true).hwEnqueue (s.fget fAESCFG_DONEQ) (doneDesc .tagFail e.val j.job 0))) ∧
    (∀ (e : Fin 4) (waits : Bool) (s : State) (d : List GReg) (j : AesJob) (key : List Byte) (f : Bool) (u : State),
      s.clocked = true →
      s.flag fAESCFG_EN = true →
      s.fenced (4 + e.val) = false →
      s.holdsDone (s.fget fAESCFG_DONEQ) e.val = false →
      waits = false ∨ s.swShare e.val = true →
      s.frontJob (s.fget fAESCFG_JOBQ) = some d →
      j = AesJob.parse d →
      j.mode = 3 →
      s.mode ≠ modeBoot →
      j.ok = true →
      s.engineRange j.src j.srcLen = true →
      s.engineRange j.dst (j.msglen) = true →
      (s.dequeued (s.fget fAESCFG_JOBQ)).aesKey j e.val = (.done, key, f) →
      u = (s.dequeued (s.fget fAESCFG_JOBQ)).touch j.src j.srcLen →
      u.poisonedIn j.src j.srcLen = false →
      ccmTag (nats key) (nats ((u.bytes j.src j.srcLen).take j.ivlen)) (nats (((u.bytes j.src j.srcLen).drop j.ivlen).take j.aadlen)) (ccmCrypt (nats key) (nats ((u.bytes j.src j.srcLen).take j.ivlen)) (nats (((u.bytes j.src j.srcLen).drop (j.ivlen + j.aadlen)).take j.msglen))) j.taglen ≠ (nats ((u.bytes j.src j.srcLen).drop (j.ivlen + j.aadlen + j.msglen))) →
      exec (.aesCcmDecrypt e waits) s = .next
          (((u.bump fAESTAGF_COUNT 1).aeCount e.val true).hwEnqueue (s.fget fAESCFG_DONEQ) (doneDesc .tagFail e.val j.job 0))) ∧
    (∀ (e : Fin 4) (waits : Bool) (s : State) (d : List GReg) (j : AesJob) (key : List Byte) (f : Bool) (u : State),
      s.clocked = true →
      s.flag fAESCFG_EN = true →
      s.fenced (4 + e.val) = false →
      s.holdsDone (s.fget fAESCFG_DONEQ) e.val = false →
      waits = false ∨ s.swShare e.val = true →
      s.frontJob (s.fget fAESCFG_JOBQ) = some d →
      j = AesJob.parse d →
      j.mode = 6 →
      s.mode ≠ modeBoot →
      j.ok = true →
      s.engineRange j.src j.srcLen = true →
      s.engineRange j.dst (0) = true →
      (s.dequeued (s.fget fAESCFG_JOBQ)).aesKey j e.val = (.done, key, f) →
      u = (s.dequeued (s.fget fAESCFG_JOBQ)).touch j.src j.srcLen →
      u.poisonedIn j.src j.srcLen = false →
      (aesCmac (nats key) (nats (((u.bytes j.src j.srcLen).drop (j.ivlen + j.aadlen)).take j.msglen))).take j.taglen ≠ (nats ((u.bytes j.src j.srcLen).drop (j.ivlen + j.aadlen + j.msglen))) →
      exec (.aesCmacVerify e waits) s = .next
          (((u.bump fAESTAGF_COUNT 1).aeCount e.val true).hwEnqueue (s.fget fAESCFG_DONEQ) (doneDesc .tagFail e.val j.job 0))) ∧
    (∀ (c : Instr) (m : Fin 7) (e : Fin 4) (waits : Bool) (s : State),
      s.clocked = true →
      c = (match m.val with | 0 => Instr.aesGcmEncrypt e waits | 1 => Instr.aesGcmDecrypt e waits | 2 => Instr.aesCcmEncrypt e waits | 3 => Instr.aesCcmDecrypt e waits | 4 => Instr.aesCtr e waits | 5 => Instr.aesCmacGenerate e waits | _ => Instr.aesCmacVerify e waits) →
      (s.flag fAESCFG_EN = false ∨ s.fenced (4 + e.val) = true ∨ s.holdsDone (s.fget fAESCFG_DONEQ) e.val = true ∨ (waits = true ∧ s.swShare e.val = false) ∨ (s.frontJob (s.fget fAESCFG_JOBQ)).all (fun d => (AesJob.parse d).mode ≠ m.val && (m.val ≠ 0 || (AesJob.parse d).mode ≤ 6)) = true) →
      exec c s = .next s) ∧
    (∀ (c : Instr) (m : Fin 7) (e : Fin 4) (waits : Bool) (s : State) (d : List GReg) (j : AesJob),
      s.clocked = true →
      c = (match m.val with | 0 => Instr.aesGcmEncrypt e waits | 1 => Instr.aesGcmDecrypt e waits | 2 => Instr.aesCcmEncrypt e waits | 3 => Instr.aesCcmDecrypt e waits | 4 => Instr.aesCtr e waits | 5 => Instr.aesCmacGenerate e waits | _ => Instr.aesCmacVerify e waits) →
      s.flag fAESCFG_EN = true →
      s.fenced (4 + e.val) = false →
      s.holdsDone (s.fget fAESCFG_DONEQ) e.val = false →
      (waits = false ∨ s.swShare e.val = true) →
      s.frontJob (s.fget fAESCFG_JOBQ) = some d →
      j = (AesJob.parse d) →
      (j.mode = m.val ∨ (m.val = 0 ∧ 6 < j.mode)) →
      s.mode = modeBoot →
      exec c s = .next (((s.dequeued (s.fget fAESCFG_JOBQ)).aeCount e.val true).hwEnqueue (s.fget fAESCFG_DONEQ) (doneDesc .modeDenied e.val j.job 0))) ∧
    (∀ (c : Instr) (m : Fin 7) (e : Fin 4) (waits : Bool) (s : State) (d : List GReg) (j : AesJob),
      s.clocked = true →
      c = (match m.val with | 0 => Instr.aesGcmEncrypt e waits | 1 => Instr.aesGcmDecrypt e waits | 2 => Instr.aesCcmEncrypt e waits | 3 => Instr.aesCcmDecrypt e waits | 4 => Instr.aesCtr e waits | 5 => Instr.aesCmacGenerate e waits | _ => Instr.aesCmacVerify e waits) →
      s.flag fAESCFG_EN = true →
      s.fenced (4 + e.val) = false →
      s.holdsDone (s.fget fAESCFG_DONEQ) e.val = false →
      (waits = false ∨ s.swShare e.val = true) →
      s.frontJob (s.fget fAESCFG_JOBQ) = some d →
      j = (AesJob.parse d) →
      (j.mode = m.val ∨ (m.val = 0 ∧ 6 < j.mode)) →
      s.mode ≠ modeBoot →
      j.ok = false →
      exec c s = .next (((s.dequeued (s.fget fAESCFG_JOBQ)).aeCount e.val true).hwEnqueue (s.fget fAESCFG_DONEQ) (doneDesc .badArgument e.val j.job 0))) ∧
    (∀ (c : Instr) (m : Fin 7) (e : Fin 4) (waits : Bool) (s : State) (d : List GReg) (j : AesJob),
      s.clocked = true →
      c = (match m.val with | 0 => Instr.aesGcmEncrypt e waits | 1 => Instr.aesGcmDecrypt e waits | 2 => Instr.aesCcmEncrypt e waits | 3 => Instr.aesCcmDecrypt e waits | 4 => Instr.aesCtr e waits | 5 => Instr.aesCmacGenerate e waits | _ => Instr.aesCmacVerify e waits) →
      s.flag fAESCFG_EN = true →
      s.fenced (4 + e.val) = false →
      s.holdsDone (s.fget fAESCFG_DONEQ) e.val = false →
      (waits = false ∨ s.swShare e.val = true) →
      s.frontJob (s.fget fAESCFG_JOBQ) = some d →
      j = (AesJob.parse d) →
      (j.mode = m.val ∨ (m.val = 0 ∧ 6 < j.mode)) →
      s.mode ≠ modeBoot →
      j.ok = true →
      (s.engineRange j.src j.srcLen = false ∨ s.engineRange j.dst j.outLen = false) →
      exec c s = .next (((s.dequeued (s.fget fAESCFG_JOBQ)).aeCount e.val true).hwEnqueue (s.fget fAESCFG_DONEQ) (doneDesc .badAddress e.val j.job 0))) ∧
    (∀ (c : Instr) (m : Fin 7) (e : Fin 4) (waits : Bool) (s : State) (d : List GReg) (j : AesJob) (key : List Byte) (f : Bool) (status : Status),
      s.clocked = true →
      c = (match m.val with | 0 => Instr.aesGcmEncrypt e waits | 1 => Instr.aesGcmDecrypt e waits | 2 => Instr.aesCcmEncrypt e waits | 3 => Instr.aesCcmDecrypt e waits | 4 => Instr.aesCtr e waits | 5 => Instr.aesCmacGenerate e waits | _ => Instr.aesCmacVerify e waits) →
      s.flag fAESCFG_EN = true →
      s.fenced (4 + e.val) = false →
      s.holdsDone (s.fget fAESCFG_DONEQ) e.val = false →
      (waits = false ∨ s.swShare e.val = true) →
      s.frontJob (s.fget fAESCFG_JOBQ) = some d →
      j = (AesJob.parse d) →
      (j.mode = m.val ∨ (m.val = 0 ∧ 6 < j.mode)) →
      s.mode ≠ modeBoot →
      j.ok = true →
      s.engineRange j.src j.srcLen = true →
      s.engineRange j.dst j.outLen = true →
      (s.dequeued (s.fget fAESCFG_JOBQ)).aesKey j e.val = (status, key, f) →
      status ≠ .done →
      exec c s = .next (((if f then (s.dequeued (s.fget fAESCFG_JOBQ)).bump fKEYUNWRAPF_COUNT 1 else s.dequeued (s.fget fAESCFG_JOBQ)).aeCount e.val true).hwEnqueue (s.fget fAESCFG_DONEQ) (doneDesc status e.val j.job 0))) ∧
    (∀ (c : Instr) (m : Fin 7) (e : Fin 4) (waits : Bool) (s : State) (d : List GReg) (j : AesJob) (key : List Byte) (f : Bool),
      s.clocked = true →
      c = (match m.val with | 0 => Instr.aesGcmEncrypt e waits | 1 => Instr.aesGcmDecrypt e waits | 2 => Instr.aesCcmEncrypt e waits | 3 => Instr.aesCcmDecrypt e waits | 4 => Instr.aesCtr e waits | 5 => Instr.aesCmacGenerate e waits | _ => Instr.aesCmacVerify e waits) →
      s.flag fAESCFG_EN = true →
      s.fenced (4 + e.val) = false →
      s.holdsDone (s.fget fAESCFG_DONEQ) e.val = false →
      (waits = false ∨ s.swShare e.val = true) →
      s.frontJob (s.fget fAESCFG_JOBQ) = some d →
      j = (AesJob.parse d) →
      (j.mode = m.val ∨ (m.val = 0 ∧ 6 < j.mode)) →
      s.mode ≠ modeBoot →
      j.ok = true →
      s.engineRange j.src j.srcLen = true →
      s.engineRange j.dst j.outLen = true →
      (s.dequeued (s.fget fAESCFG_JOBQ)).aesKey j e.val = (.done, key, f) →
      ((s.dequeued (s.fget fAESCFG_JOBQ)).touch j.src j.srcLen).poisonedIn j.src j.srcLen = true →
      exec c s = .next ((((s.dequeued (s.fget fAESCFG_JOBQ)).touch j.src j.srcLen).aeCount e.val true).hwEnqueue (s.fget fAESCFG_DONEQ) (doneDesc .poisoned e.val j.job 0))) ∧
    (∀ (s : State) (j : AesJob) (e : Nat),
      (j.ksrc = 0 → (s.slot (j.key % 4096)).typ = 0 → s.aesKey j e = (.keyEmpty, [], false)) ∧
        (j.ksrc = 0 → (s.slot (j.key % 4096)).typ ≠ 0 → bit (s.slot (j.key % 4096)).mask e = false → s.aesKey j e = (.keyDenied, [], false)) ∧
        (j.ksrc = 0 → ((s.slot (j.key % 4096)).typ = 1 ∨ (s.slot (j.key % 4096)).typ = 2) → bit (s.slot (j.key % 4096)).mask e = true →
          s.aesKey j e = (.done, (s.slot (j.key % 4096)).mat, false)) ∧
        (j.ksrc = 1 → (s.pocket j.key).v ≠ 1 → s.aesKey j e = (.keyEmpty, [], false)) ∧
        (j.ksrc = 1 → (s.pocket j.key).v = 1 → ((s.slot (s.pocket j.key).parent).typ = 0 ∨ bit (s.slot (s.pocket j.key).parent).mask mWrap = false ∨
          (s.slot (s.pocket j.key).parent).kid ≠ (s.pocket j.key).pkid) → s.aesKey j e = (.keyOrphaned, [], false)) ∧
        (j.ksrc = 1 → (s.aesKey j e).1 = .done → bit (s.pocket j.key).mask e = true))

/-- FW_CAMPAIGN_OPEN of a closed campaign takes its fields, opens it and zeroes the bitmap of every target; NBLK outside 1 to 4,096
gives BAD_ARGUMENT and a misaligned image or bitmap BAD_ALIGN, and neither changes a field. While it is open a write of the same
fields changes nothing, and one that changes a field gives ENGINE_BUSY. SETPOINT_ARM encrypts the frame once under the group's
key and takes its IC; while armed it is refused with ENGINE_BUSY; without a key it gives KEY_EMPTY or KEY_DENIED, with an
exhausted counter NONCE_EXHAUSTED, counted; with no counter below the ceiling it waits, counted, and CEILING_RAISE carries it
out. SETPOINT_CANCEL disarms the slot and ends the wait. SETPOINT_FIRE does nothing before its trigger fires; then it queues
REPEAT + 1 copies of an armed slot's frame on every enabled triple and radio port and disarms the slot, and of an idle slot only
takes the trigger away. None of them changes another slot or another register. (R417, R421, R422, R425, R426, R427) -/
def Obligations.CampaignsAndSetpoints : Prop :=
    (∀ (a : Agent) (n : Fin 4) (v : BitVec 256) (s : State),
      s.writes a (rFWCAMP n.val) = true →
      s.flag (fFWCAMP_OPEN n.val) = false →
      1 ≤ (fFWCAMP_NBLK n.val).of v.toNat →
      (fFWCAMP_NBLK n.val).of v.toNat ≤ 4096 →
      (fFWCAMP_IMAGE n.val).of v.toNat % 1024 = 0 →
      (fFWCAMP_BITMAP n.val).of v.toNat % 64 = 0 →
      ∃ t, exec (.fwCampaignOpen a n v) s = .next t ∧ t.flag (fFWCAMP_OPEN n.val) = true ∧ t.answer = ⟨.done, 0⟩ ∧
        t.fget (fFWCAMP_CAMPAIGN n.val) = (fFWCAMP_CAMPAIGN n.val).of v.toNat ∧
        t.fget (fFWCAMP_NBLK n.val) = (fFWCAMP_NBLK n.val).of v.toNat ∧
        t.fget (fFWCAMP_MENDMAX n.val) = (fFWCAMP_MENDMAX n.val).of v.toNat ∧
        t.fget (fFWCAMP_GROUP_ID n.val) = (fFWCAMP_GROUP_ID n.val).of v.toNat ∧
        t.fget (fFWCAMP_IMAGE n.val) = (fFWCAMP_IMAGE n.val).of v.toNat ∧
        t.fget (fFWCAMP_BITMAP n.val) = (fFWCAMP_BITMAP n.val).of v.toNat ∧
        t.fget (fFWCAMP_QWAIT n.val) = (fFWCAMP_QWAIT n.val).of v.toNat ∧
        (∀ x, if (fFWCAMP_BITMAP n.val).of v.toNat ≤ x ∧ x < (fFWCAMP_BITMAP n.val).of v.toNat + 262144 * (((fFWCAMP_NBLK n.val).of v.toNat + 7) / 8)
          then t.byte x = 0 else t.byte x = s.byte x) ∧ (∀ r, r ≠ rFWCAMP n.val → t.reg r = s.reg r) ∧
        t = { (s.dropStage (rFWCAMP n.val)) with csr := t.csr, mem := t.mem, poison := t.poison, soft := t.soft, answer := t.answer }) ∧
    (∀ (a : Agent) (n : Fin 4) (v : BitVec 256) (s : State),
      s.writes a (rFWCAMP n.val) = true →
      s.flag (fFWCAMP_OPEN n.val) = false →
      ((fFWCAMP_NBLK n.val).of v.toNat = 0 ∨ 4096 < (fFWCAMP_NBLK n.val).of v.toNat) →
      exec (.fwCampaignOpen a n v) s = .next ((s.dropStage (rFWCAMP n.val)).say .badArgument)) ∧
    (∀ (a : Agent) (n : Fin 4) (v : BitVec 256) (s : State),
      s.writes a (rFWCAMP n.val) = true →
      s.flag (fFWCAMP_OPEN n.val) = false →
      1 ≤ (fFWCAMP_NBLK n.val).of v.toNat →
      (fFWCAMP_NBLK n.val).of v.toNat ≤ 4096 →
      ((fFWCAMP_IMAGE n.val).of v.toNat % 1024 ≠ 0 ∨ (fFWCAMP_BITMAP n.val).of v.toNat % 64 ≠ 0) →
      exec (.fwCampaignOpen a n v) s = .next ((s.dropStage (rFWCAMP n.val)).say .badAlign)) ∧
    (∀ (a : Agent) (n : Fin 4) (v : BitVec 256) (s : State),
      s.writes a (rFWCAMP n.val) = true →
      s.flag (fFWCAMP_OPEN n.val) = true →
      ¬ ((fFWCAMP_CAMPAIGN n.val).of v.toNat = s.fget (fFWCAMP_CAMPAIGN n.val) ∧ (fFWCAMP_NBLK n.val).of v.toNat = s.fget (fFWCAMP_NBLK n.val) ∧ (fFWCAMP_MENDMAX n.val).of v.toNat = s.fget (fFWCAMP_MENDMAX n.val) ∧ (fFWCAMP_GROUP_ID n.val).of v.toNat = s.fget (fFWCAMP_GROUP_ID n.val) ∧ (fFWCAMP_IMAGE n.val).of v.toNat = s.fget (fFWCAMP_IMAGE n.val) ∧ (fFWCAMP_BITMAP n.val).of v.toNat = s.fget (fFWCAMP_BITMAP n.val) ∧ (fFWCAMP_QWAIT n.val).of v.toNat = s.fget (fFWCAMP_QWAIT n.val)) →
      exec (.fwCampaignOpen a n v) s = .next ((s.dropStage (rFWCAMP n.val)).say .engineBusy)) ∧
    (∀ (a : Agent) (n : Fin 4) (v : BitVec 256) (s : State),
      s.writes a (rFWCAMP n.val) = true →
      s.flag (fFWCAMP_OPEN n.val) = true →
      ((fFWCAMP_CAMPAIGN n.val).of v.toNat = s.fget (fFWCAMP_CAMPAIGN n.val) ∧ (fFWCAMP_NBLK n.val).of v.toNat = s.fget (fFWCAMP_NBLK n.val) ∧ (fFWCAMP_MENDMAX n.val).of v.toNat = s.fget (fFWCAMP_MENDMAX n.val) ∧ (fFWCAMP_GROUP_ID n.val).of v.toNat = s.fget (fFWCAMP_GROUP_ID n.val) ∧ (fFWCAMP_IMAGE n.val).of v.toNat = s.fget (fFWCAMP_IMAGE n.val) ∧ (fFWCAMP_BITMAP n.val).of v.toNat = s.fget (fFWCAMP_BITMAP n.val) ∧ (fFWCAMP_QWAIT n.val).of v.toNat = s.fget (fFWCAMP_QWAIT n.val)) →
      ∃ t, exec (.fwCampaignOpen a n v) s = .next t ∧ (∀ f, f < 256 → bit (t.reg (rFWCAMP n.val)) f = bit (s.reg (rFWCAMP n.val)) f) ∧ (∀ r, r ≠ rFWCAMP n.val → t.reg r = s.reg r) ∧ t = { (s.dropStage (rFWCAMP n.val)) with csr := t.csr, answer := ⟨.done, 0⟩ }) ∧
    (∀ (a : Agent) (k : Fin 4) (v : Word) (slot : Fin 4096) (group : DWord) (s : State) (eng : Nat),
      s.writes a (rSPARM k.val) = true →
      s.flag (fSPARM_ARMED k.val) = false →
      s.slotTx slot.val < s.slotCeil slot.val →
      (s.slot slot.val).typ ≠ 0 →
      s.aePick (s.slot slot.val).mask = some eng →
      ∃ t, exec (.setpointArm a k v slot group) s = .next t ∧ t.flag (fSPARM_ARMED k.val) = true ∧ t.answer = ⟨.done, 0⟩ ∧
        t.sp k.val = { armed := true, frame := (kepSeal (s.slot slot.val).mat 1 mtSetpoint group.toNat (s.slotTx slot.val) (resvGen (s.peek (slotResvAddr slot.val) 8))
          ((leBytes 60 (s.fget (fSPBUF_BODY k.val))).take ((fSPARM_LEN k.val).of v.toNat))) } ∧
        t.slotTx slot.val = s.slotTx slot.val + 1 ∧ (∀ m, m ≠ k.val → t.sp m = s.sp m) ∧ (∀ r, r ≠ rSPARM k.val → r ≠ (fAESJOBS_COUNT eng).reg → t.reg r = s.reg r) ∧ t.kep = { s.kep with spSlot := t.kep.spSlot, spGroup := t.kep.spGroup, slotIc := t.kep.slotIc, aeJobs := t.kep.aeJobs, sp := t.kep.sp } ∧
        t.fget (fSPARM_TRIG k.val) = (fSPARM_TRIG k.val).of v.toNat ∧ t.fget (fSPARM_REPEAT k.val) = (fSPARM_REPEAT k.val).of v.toNat ∧
        t.fget (fSPARM_LEN k.val) = (fSPARM_LEN k.val).of v.toNat ∧ t.kep.spSlot = slot.val ∧ t.kep.spGroup = group.toNat ∧
        t = { s with csr := t.csr, kep := t.kep, answer := t.answer }) ∧
    (∀ (a : Agent) (k : Fin 4) (v : Word) (slot : Fin 4096) (group : DWord) (s : State),
      s.writes a (rSPARM k.val) = true →
      s.flag (fSPARM_ARMED k.val) = true →
      exec (.setpointArm a k v slot group) s = .next (s.say .engineBusy)) ∧
    (∀ (a : Agent) (k : Fin 4) (v : Word) (slot : Fin 4096) (group : DWord) (s : State),
      s.writes a (rSPARM k.val) = true →
      s.flag (fSPARM_ARMED k.val) = false →
      s.slotTx slot.val < s.slotCeil slot.val →
      (s.slot slot.val).typ = 0 →
      ∃ t, exec (.setpointArm a k v slot group) s = .next t ∧ t.answer = ⟨.keyEmpty, 0⟩ ∧ t.flag (fSPARM_ARMED k.val) = false ∧ (∀ r, r ≠ rSPARM k.val → t.reg r = s.reg r) ∧ t.kep = { s.kep with spSlot := t.kep.spSlot, spGroup := t.kep.spGroup } ∧
        t.fget (fSPARM_TRIG k.val) = (fSPARM_TRIG k.val).of v.toNat ∧ t.fget (fSPARM_REPEAT k.val) = (fSPARM_REPEAT k.val).of v.toNat ∧
        t.fget (fSPARM_LEN k.val) = (fSPARM_LEN k.val).of v.toNat ∧ t.kep.spSlot = slot.val ∧ t.kep.spGroup = group.toNat ∧
        t = { s with csr := t.csr, kep := t.kep, answer := t.answer }) ∧
    (∀ (a : Agent) (k : Fin 4) (v : Word) (slot : Fin 4096) (group : DWord) (s : State),
      s.writes a (rSPARM k.val) = true →
      s.flag (fSPARM_ARMED k.val) = false →
      s.slotTx slot.val < s.slotCeil slot.val →
      (s.slot slot.val).typ ≠ 0 →
      s.aePick (s.slot slot.val).mask = none →
      ∃ t, exec (.setpointArm a k v slot group) s = .next t ∧ t.answer = ⟨.keyDenied, 0⟩ ∧ t.flag (fSPARM_ARMED k.val) = false ∧ (∀ r, r ≠ rSPARM k.val → t.reg r = s.reg r) ∧ t.kep = { s.kep with spSlot := t.kep.spSlot, spGroup := t.kep.spGroup } ∧
        t.fget (fSPARM_TRIG k.val) = (fSPARM_TRIG k.val).of v.toNat ∧ t.fget (fSPARM_REPEAT k.val) = (fSPARM_REPEAT k.val).of v.toNat ∧
        t.fget (fSPARM_LEN k.val) = (fSPARM_LEN k.val).of v.toNat ∧ t.kep.spSlot = slot.val ∧ t.kep.spGroup = group.toNat ∧
        t = { s with csr := t.csr, kep := t.kep, answer := t.answer }) ∧
    (∀ (a : Agent) (k : Fin 4) (v : Word) (slot : Fin 4096) (group : DWord) (s : State),
      s.writes a (rSPARM k.val) = true →
      s.flag (fSPARM_ARMED k.val) = false →
      s.slotCeil slot.val ≤ s.slotTx slot.val →
      2 ^ 64 - 4096 < s.slotCeil slot.val + 4096 →
      ∃ t, exec (.setpointArm a k v slot group) s = .next t ∧ t.answer = ⟨.nonceExhausted, 0⟩ ∧ t.flag (fSPARM_ARMED k.val) = false ∧
        t.fget fKEPEXH_COUNT = satAdd fKEPEXH_COUNT.w (s.fget fKEPEXH_COUNT) 1 ∧ (∀ r, r ≠ rSPARM k.val → r ≠ fKEPEXH_COUNT.reg → t.reg r = s.reg r) ∧ t.kep = { s.kep with spSlot := t.kep.spSlot, spGroup := t.kep.spGroup } ∧
        t.fget (fSPARM_TRIG k.val) = (fSPARM_TRIG k.val).of v.toNat ∧ t.fget (fSPARM_REPEAT k.val) = (fSPARM_REPEAT k.val).of v.toNat ∧
        t.fget (fSPARM_LEN k.val) = (fSPARM_LEN k.val).of v.toNat ∧ t.kep.spSlot = slot.val ∧ t.kep.spGroup = group.toNat ∧
        t = { s with csr := t.csr, kep := t.kep, answer := t.answer }) ∧
    (∀ (a : Agent) (k : Fin 4) (v : Word) (slot : Fin 4096) (group : DWord) (s : State),
      s.writes a (rSPARM k.val) = true →
      s.flag (fSPARM_ARMED k.val) = false →
      s.slotCeil slot.val ≤ s.slotTx slot.val →
      s.slotCeil slot.val + 4096 ≤ 2 ^ 64 - 4096 →
      ∃ t, exec (.setpointArm a k v slot group) s = .next t ∧ t.answer = ⟨.done, 0⟩ ∧ t.flag (fSPARM_ARMED k.val) = false ∧ t.sp k.val = { wait := some (slot.val, group.toNat) } ∧
        t.fget fKEPCTRWAIT_COUNT = satAdd fKEPCTRWAIT_COUNT.w (s.fget fKEPCTRWAIT_COUNT) 1 ∧ (∀ m, m ≠ k.val → t.sp m = s.sp m) ∧ (∀ r, r ≠ rSPARM k.val → r ≠ fKEPCTRWAIT_COUNT.reg → t.reg r = s.reg r) ∧ t.kep = { s.kep with spSlot := t.kep.spSlot, spGroup := t.kep.spGroup, sp := t.kep.sp } ∧
        t.fget (fSPARM_TRIG k.val) = (fSPARM_TRIG k.val).of v.toNat ∧ t.fget (fSPARM_REPEAT k.val) = (fSPARM_REPEAT k.val).of v.toNat ∧
        t.fget (fSPARM_LEN k.val) = (fSPARM_LEN k.val).of v.toNat ∧ t.kep.spSlot = slot.val ∧ t.kep.spGroup = group.toNat ∧
        t = { s with csr := t.csr, kep := t.kep, answer := t.answer }) ∧
    (∀ (n : Nat) (k : Fin 4) (g eng : Nat) (s : State),
      s.clocked = true →
      s.raiseDue true n = true →
      s.slotCeil n + 4096 ≤ 2 ^ 64 - 4096 →
      s.isActive = false →
      s.kep.down = [] →
      s.kep.envs = [] →
      n < 4096 →
      (s.sp k.val).wait = some (n, g) →
      (∀ m : Fin 4, m ≠ k → (s.sp m.val).wait = none) →
      s.flag (fSPARM_ARMED k.val) = false →
      s.slotTx n = s.slotCeil n →
      s.kep.slotIc.get natZero n ≠ 0 →
      (s.slot n).typ ≠ 0 →
      s.aePick (s.slot n).mask = some eng →
      ∃ t, exec (.ceilingRaise true n) s = .next t ∧ t.flag (fSPARM_ARMED k.val) = true ∧ t.slotTx n = s.slotTx n + 1 ∧ t.answer = s.answer ∧
        t.sp k.val = { armed := true, frame := kepSeal (s.slot n).mat 1 mtSetpoint g (s.slotTx n) (resvGen (s.peek (slotResvAddr n) 8)) (s.spBody k.val) } ∧
        (∀ m, m ≠ k.val → t.sp m = s.sp m)) ∧
    (∀ (a : Agent) (k : Fin 4) (v : Word) (s : State),
      s.writes a (rSPARM k.val) = true →
      ∃ t, exec (.setpointCancel a k v) s = .next t ∧ t.flag (fSPARM_ARMED k.val) = false ∧ t.sp k.val = {} ∧ t.answer = ⟨.done, 0⟩ ∧
        t.fget (fSPARM_TRIG k.val) = (fSPARM_TRIG k.val).of v.toNat ∧ t.fget (fSPARM_REPEAT k.val) = (fSPARM_REPEAT k.val).of v.toNat ∧
        t.fget (fSPARM_LEN k.val) = (fSPARM_LEN k.val).of v.toNat ∧ (∀ m, m ≠ k.val → t.sp m = s.sp m) ∧ (∀ r, r ≠ rSPARM k.val → t.reg r = s.reg r) ∧
        t = { s with csr := t.csr, kep := { s.kep with sp := t.kep.sp }, answer := t.answer }) ∧
    (∀ (k : Fin 4) (s : State),
      s.clocked = true →
      bit s.time.fired (4 + k.val) = false →
      exec (.setpointFire k) s = .next s) ∧
    (∀ (k : Fin 4) (s : State),
      s.clocked = true →
      bit s.time.fired (4 + k.val) = true →
      (s.sp k.val).armed = false →
      exec (.setpointFire k) s = .next (s.setTime { s.time with fired := setBits s.time.fired (4 + k.val) 1 0 })) ∧
    (∀ (k : Fin 4) (s : State),
      s.clocked = true →
      bit s.time.fired (4 + k.val) = true →
      (s.sp k.val).armed = true →
      ∃ t, exec (.setpointFire k) s = .next t ∧ t.flag (fSPARM_ARMED k.val) = false ∧ t.time = { s.time with fired := setBits s.time.fired (4 + k.val) 1 0 } ∧
        (∀ f, f < 32 → f ≠ (fSPARM_ARMED k.val).lo → bit (t.reg (rSPARM k.val)) f = bit (s.reg (rSPARM k.val)) f) ∧ (∀ r, r ≠ rSPARM k.val → t.reg r = s.reg r) ∧
        t = { s with csr := t.csr, time := t.time, kep := t.kep } ∧ t.kep = { s.kep with out := t.kep.out } ∧
        t.kep.out = s.kep.out ++ (List.range (s.fget (fSPARM_REPEAT k.val) + 1)).flatMap (fun c => s.spPorts.map fun i =>
          ⟨i, 2 ^ 64 - 1, 0, 3, (s.sp k.val).frame, 0, s.time.raw, some (0xF000 + 16 * k.val + c), none⟩)) ∧
    (∀ (s : State) (i : Nat),
      (i ∈ s.spPorts → i < 12 ∨ (16 ≤ i ∧ i < 22)) ∧
        (∀ r : Fin 6, 16 + r.val ∈ s.spPorts ↔ s.flag (fRFCFG_EN r.val) = true ∧ s.fenced (24 + r.val) = false) ∧
        (∀ q : Fin 4, ((∃ j : Fin 3, 3 * q.val + j.val ∈ s.spPorts) ↔ (∃ j : Fin 3, s.flag (fPLCFG_EN (3 * q.val + j.val)) = true ∧ s.fenced (20 + q.val) = false))))

/-- ETH_FRAME_RECEIVE does nothing at a port that is not enabled, up and unfenced. A frame without the port's VLAN tag, of another
Ethertype, or with an IPv6 packet above the MTU is dropped and counted in ENDROP; a UDP packet with a wrong or zero checksum is
counted in ENCSUM; every other frame is counted in ENRXOK. One of the time base goes to the firmware. A packet is handed on by
the first row that matches: for another destination to the forwarding path, with an extension header or of no other row to the
firmware, by its UDP port to the relay, the DLMS path, the sessions, or the chip whose sessions it carries; with the receive
timestamp. BOOT hands nothing on, RECOVERY only packets for the ROM on its port. The forwarding path drops and counts with FWD
0, gives a packet at its last hop to the firmware, and sends any other on with its hop limit one lower as the first matching
prefix entry says: out of a port, to a chip, to the firmware, or nowhere; without an entry PFXMISS counts it, without a next hop
ENFWDDROP. ETHERNET_LINK_CHANGE sets LINK and SPEED of an enabled, unfenced port, and moves the sessions off a port that is down
where ALTPORT says so; at any other port it does nothing. PFX_INSERT replaces an entry of the same key and length in place, else
puts the new one behind every entry at least as long, or ends with TABLE_FULL; PFX_DELETE takes it out, or ends with
BAD_ARGUMENT. (R63, R66, R430, R431, R432, R433, R434, R435, R436, R495) -/
def Obligations.EthernetAndPrefixes : Prop :=
    (∀ (k : Fin 2) (f : List Byte) (joined : Bool) (s : State),
      s.clocked = true →
      s.enUp k.val = false →
      exec (.ethFrameReceive k f joined) s = .next s) ∧
    (∀ (k : Fin 2) (f : List Byte) (joined : Bool) (s : State),
      s.clocked = true →
      s.enUp k.val = true →
      s.enPayload k.val f = none →
      exec (.ethFrameReceive k f joined) s = .next (s.bump (fENDROP_COUNT k.val) 1)) ∧
    (∀ (k : Fin 2) (f : List Byte) (joined : Bool) (s : State) (et : Nat) (p : List Byte),
      s.clocked = true →
      s.enUp k.val = true →
      s.enPayload k.val f = some (et, p) →
      et ≠ 0x86DD →
      et ≠ 0x88F7 →
      exec (.ethFrameReceive k f joined) s = .next (s.bump (fENDROP_COUNT k.val) 1)) ∧
    (∀ (k : Fin 2) (f : List Byte) (s : State),
      (f.length < 14 → s.enPayload k.val f = none) ∧
        (14 ≤ f.length → s.fget (fENCFG_VID k.val) = 0 → s.enPayload k.val f = some (be f 12 2, f.drop 14)) ∧
        (18 ≤ f.length → s.fget (fENCFG_VID k.val) ≠ 0 → be f 12 2 = 0x8100 → be f 14 2 % 4096 = s.fget (fENCFG_VID k.val) → s.enPayload k.val f = some (be f 16 2, f.drop 18)) ∧
        (s.fget (fENCFG_VID k.val) ≠ 0 → (be f 12 2 ≠ 0x8100 ∨ be f 14 2 % 4096 ≠ s.fget (fENCFG_VID k.val)) → s.enPayload k.val f = none)) ∧
    (∀ (k : Fin 2) (f : List Byte) (joined : Bool) (s : State) (p : List Byte),
      s.clocked = true →
      s.enUp k.val = true →
      s.enPayload k.val f = some (0x88F7, p) →
      exec (.ethFrameReceive k f joined) s = .next ({ (s.count (fENRXOK_COUNT k.val) 1) with delivered := { dest := (if k.val = 1 ∧ s.flag fSYSSTAT_SEAM = true then .mgmtFw else .controlFw), src := 0x30 + k.val, stamp := s.enStamp k.val, bytes := f } :: s.delivered } : State)) ∧
    (∀ (k : Fin 2) (f p : List Byte) (joined : Bool) (s : State),
      s.clocked = true →
      s.enUp k.val = true →
      s.enPayload k.val f = some (0x86DD, p) →
      (p.length < 40 + be p 4 2 ∨ s.fget (fENCFG_MTU k.val) < 40 + be p 4 2) →
      exec (.ethFrameReceive k f joined) s = .next (s.bump (fENDROP_COUNT k.val) 1)) ∧
    (∀ (k : Fin 2) (f p : List Byte) (joined : Bool) (s : State),
      s.clocked = true →
      s.enUp k.val = true →
      s.enPayload k.val f = some (0x86DD, p) →
      40 + be p 4 2 ≤ p.length →
      40 + be p 4 2 ≤ s.fget (fENCFG_MTU k.val) →
      be (p.take (40 + be p 4 2)) 6 1 = 17 →
      (be (p.take (40 + be p 4 2)) 4 2 < 8 ∨ udpSumOk (p.take (40 + be p 4 2)) = false) →
      exec (.ethFrameReceive k f joined) s = .next (s.bump (fENCSUM_COUNT k.val) 1)) ∧
    (∀ (k : Fin 2) (f p : List Byte) (joined : Bool) (s : State),
      s.clocked = true →
      s.enUp k.val = true →
      s.enPayload k.val f = some (0x86DD, p) →
      40 + be p 4 2 ≤ p.length →
      40 + be p 4 2 ≤ s.fget (fENCFG_MTU k.val) →
      (be (p.take (40 + be p 4 2)) 6 1 ≠ 17 ∨ (8 ≤ be (p.take (40 + be p 4 2)) 4 2 ∧ udpSumOk (p.take (40 + be p 4 2)) = true)) →
      s.mode = modeBoot →
      exec (.ethFrameReceive k f joined) s = .next (s.count (fENRXOK_COUNT k.val) 1)) ∧
    (∀ (k : Fin 2) (f p : List Byte) (joined : Bool) (s : State),
      s.clocked = true →
      s.enUp k.val = true →
      s.enPayload k.val f = some (0x86DD, p) →
      40 + be p 4 2 ≤ p.length →
      40 + be p 4 2 ≤ s.fget (fENCFG_MTU k.val) →
      (be (p.take (40 + be p 4 2)) 6 1 ≠ 17 ∨ (8 ≤ be (p.take (40 + be p 4 2)) 4 2 ∧ udpSumOk (p.take (40 + be p 4 2)) = true)) →
      s.mode = modeRecovery →
      exec (.ethFrameReceive k f joined) s = .next (if k.val = (if s.fenced 15 then 0 else 1) ∧ s.enMine k.val (be (p.take (40 + be p 4 2)) 24 16) joined = true then ({ (s.count (fENRXOK_COUNT k.val) 1) with delivered := { dest := .rom, src := 0x30 + k.val, stamp := s.enStamp k.val, bytes := (p.take (40 + be p 4 2)) } :: s.delivered } : State) else (s.count (fENRXOK_COUNT k.val) 1))) ∧
    (∀ (k : Fin 2) (dst : Nat) (joined : Bool) (s : State),
      s.enMine k.val dst joined = true ↔ (dst ≠ 0 ∧ ∃ j : Fin 4, s.fget (fENADDR_ADDR k.val j.val) = dst) ∨ (bits dst 120 8 = 0xFF ∧ joined = true)) ∧
    (∀ (k : Fin 2) (f p : List Byte) (joined : Bool) (s : State),
      s.clocked = true →
      s.enUp k.val = true →
      s.enPayload k.val f = some (0x86DD, p) →
      40 + be p 4 2 ≤ p.length →
      40 + be p 4 2 ≤ s.fget (fENCFG_MTU k.val) →
      (be (p.take (40 + be p 4 2)) 6 1 ≠ 17 ∨ (8 ≤ be (p.take (40 + be p 4 2)) 4 2 ∧ udpSumOk (p.take (40 + be p 4 2)) = true)) →
      s.mode ≠ modeBoot →
      s.mode ≠ modeRecovery →
      s.enMine k.val (be (p.take (40 + be p 4 2)) 24 16) joined = false →
      s.flag (fENCFG_FWD k.val) = false →
      exec (.ethFrameReceive k f joined) s = .next ((s.count (fENRXOK_COUNT k.val) 1).bump (fENFWDDROP_COUNT k.val) 1)) ∧
    (∀ (k : Fin 2) (f p : List Byte) (joined : Bool) (s : State),
      s.clocked = true →
      s.enUp k.val = true →
      s.enPayload k.val f = some (0x86DD, p) →
      40 + be p 4 2 ≤ p.length →
      40 + be p 4 2 ≤ s.fget (fENCFG_MTU k.val) →
      (be (p.take (40 + be p 4 2)) 6 1 ≠ 17 ∨ (8 ≤ be (p.take (40 + be p 4 2)) 4 2 ∧ udpSumOk (p.take (40 + be p 4 2)) = true)) →
      s.mode ≠ modeBoot →
      s.mode ≠ modeRecovery →
      s.enMine k.val (be (p.take (40 + be p 4 2)) 24 16) joined = false →
      s.flag (fENCFG_FWD k.val) = true →
      be (p.take (40 + be p 4 2)) 7 1 ≤ 1 →
      exec (.ethFrameReceive k f joined) s = .next ({ (s.count (fENRXOK_COUNT k.val) 1) with delivered := { dest := (if k.val = 1 ∧ s.flag fSYSSTAT_SEAM = true then .mgmtFw else .controlFw), src := 0x30 + k.val, stamp := s.enStamp k.val, bytes := (p.take (40 + be p 4 2)) } :: s.delivered } : State)) ∧
    (∀ (k : Fin 2) (f p : List Byte) (joined : Bool) (s : State) (q : List Byte),
      s.clocked = true →
      s.enUp k.val = true →
      s.enPayload k.val f = some (0x86DD, p) →
      40 + be p 4 2 ≤ p.length →
      40 + be p 4 2 ≤ s.fget (fENCFG_MTU k.val) →
      (be (p.take (40 + be p 4 2)) 6 1 ≠ 17 ∨ (8 ≤ be (p.take (40 + be p 4 2)) 4 2 ∧ udpSumOk (p.take (40 + be p 4 2)) = true)) →
      s.mode ≠ modeBoot →
      s.mode ≠ modeRecovery →
      s.enMine k.val (be (p.take (40 + be p 4 2)) 24 16) joined = false →
      s.flag (fENCFG_FWD k.val) = true →
      1 < be (p.take (40 + be p 4 2)) 7 1 →
      q = (splice (p.take (40 + be p 4 2)) 7 (beBytes 1 (be (p.take (40 + be p 4 2)) 7 1 - 1))) →
      s.pfxFind (be q 24 16) = none →
      exec (.ethFrameReceive k f joined) s = .next ((s.count (fENRXOK_COUNT k.val) 1).bump fPFXMISS_COUNT 1)) ∧
    (∀ (k : Fin 2) (f p : List Byte) (joined : Bool) (s : State) (q : List Byte) (e : PfxEntry),
      s.clocked = true →
      s.enUp k.val = true →
      s.enPayload k.val f = some (0x86DD, p) →
      40 + be p 4 2 ≤ p.length →
      40 + be p 4 2 ≤ s.fget (fENCFG_MTU k.val) →
      (be (p.take (40 + be p 4 2)) 6 1 ≠ 17 ∨ (8 ≤ be (p.take (40 + be p 4 2)) 4 2 ∧ udpSumOk (p.take (40 + be p 4 2)) = true)) →
      s.mode ≠ modeBoot →
      s.mode ≠ modeRecovery →
      s.enMine k.val (be (p.take (40 + be p 4 2)) 24 16) joined = false →
      s.flag (fENCFG_FWD k.val) = true →
      1 < be (p.take (40 + be p 4 2)) 7 1 →
      q = (splice (p.take (40 + be p 4 2)) 7 (beBytes 1 (be (p.take (40 + be p 4 2)) 7 1 - 1))) →
      s.pfxFind (be q 24 16) = some e →
      e.dest = 0 →
      s.flag (fPFXNH_V e.nh) = false →
      exec (.ethFrameReceive k f joined) s = .next ((s.count (fENRXOK_COUNT k.val) 1).bump (fENFWDDROP_COUNT k.val) 1)) ∧
    (∀ (k : Fin 2) (f p : List Byte) (joined : Bool) (s : State) (q : List Byte) (e : PfxEntry),
      s.clocked = true →
      s.enUp k.val = true →
      s.enPayload k.val f = some (0x86DD, p) →
      40 + be p 4 2 ≤ p.length →
      40 + be p 4 2 ≤ s.fget (fENCFG_MTU k.val) →
      (be (p.take (40 + be p 4 2)) 6 1 ≠ 17 ∨ (8 ≤ be (p.take (40 + be p 4 2)) 4 2 ∧ udpSumOk (p.take (40 + be p 4 2)) = true)) →
      s.mode ≠ modeBoot →
      s.mode ≠ modeRecovery →
      s.enMine k.val (be (p.take (40 + be p 4 2)) 24 16) joined = false →
      s.flag (fENCFG_FWD k.val) = true →
      1 < be (p.take (40 + be p 4 2)) 7 1 →
      q = (splice (p.take (40 + be p 4 2)) 7 (beBytes 1 (be (p.take (40 + be p 4 2)) 7 1 - 1))) →
      s.pfxFind (be q 24 16) = some e →
      e.dest = 0 →
      s.flag (fPFXNH_V e.nh) = true →
      (s.enUp (e.target % 2) = false ∨ s.mayEmit = false) →
      exec (.ethFrameReceive k f joined) s = .next (s.count (fENRXOK_COUNT k.val) 1)) ∧
    (∀ (k : Fin 2) (f p : List Byte) (joined : Bool) (s : State) (q : List Byte) (e : PfxEntry),
      s.clocked = true →
      s.enUp k.val = true →
      s.enPayload k.val f = some (0x86DD, p) →
      40 + be p 4 2 ≤ p.length →
      40 + be p 4 2 ≤ s.fget (fENCFG_MTU k.val) →
      (be (p.take (40 + be p 4 2)) 6 1 ≠ 17 ∨ (8 ≤ be (p.take (40 + be p 4 2)) 4 2 ∧ udpSumOk (p.take (40 + be p 4 2)) = true)) →
      s.mode ≠ modeBoot →
      s.mode ≠ modeRecovery →
      s.enMine k.val (be (p.take (40 + be p 4 2)) 24 16) joined = false →
      s.flag (fENCFG_FWD k.val) = true →
      1 < be (p.take (40 + be p 4 2)) 7 1 →
      q = (splice (p.take (40 + be p 4 2)) 7 (beBytes 1 (be (p.take (40 + be p 4 2)) 7 1 - 1))) →
      s.pfxFind (be q 24 16) = some e →
      e.dest = 0 →
      s.flag (fPFXNH_V e.nh) = true →
      s.enUp (e.target % 2) = true →
      s.mayEmit = true →
      exec (.ethFrameReceive k f joined) s = .next (({ (s.count (fENRXOK_COUNT k.val) 1) with wire := ⟨0x30 + e.target % 2, beBytes 6 (s.fget (fPFXNH_MAC e.nh)) ++ beBytes 6 (s.fget (fENMAC_MAC (e.target % 2))) ++
          (if s.fget (fENCFG_VID (e.target % 2)) = 0 then [] else beBytes 2 0x8100 ++ beBytes 2 (s.fget (fENCFG_VID (e.target % 2)))) ++ beBytes 2 0x86DD ++ q⟩ :: s.wire } : State).count
            (fENTXOK_COUNT (e.target % 2)) 1)) ∧
    (∀ (k : Fin 2) (f p : List Byte) (joined : Bool) (s : State) (q : List Byte) (e : PfxEntry),
      s.clocked = true →
      s.enUp k.val = true →
      s.enPayload k.val f = some (0x86DD, p) →
      40 + be p 4 2 ≤ p.length →
      40 + be p 4 2 ≤ s.fget (fENCFG_MTU k.val) →
      (be (p.take (40 + be p 4 2)) 6 1 ≠ 17 ∨ (8 ≤ be (p.take (40 + be p 4 2)) 4 2 ∧ udpSumOk (p.take (40 + be p 4 2)) = true)) →
      s.mode ≠ modeBoot →
      s.mode ≠ modeRecovery →
      s.enMine k.val (be (p.take (40 + be p 4 2)) 24 16) joined = false →
      s.flag (fENCFG_FWD k.val) = true →
      1 < be (p.take (40 + be p 4 2)) 7 1 →
      q = (splice (p.take (40 + be p 4 2)) 7 (beBytes 1 (be (p.take (40 + be p 4 2)) 7 1 - 1))) →
      s.pfxFind (be q 24 16) = some e →
      e.dest = 1 →
      exec (.ethFrameReceive k f joined) s = .next ((s.count (fENRXOK_COUNT k.val) 1).chipSend e.target 2 0x06 q [])) ∧
    (∀ (k : Fin 2) (f p : List Byte) (joined : Bool) (s : State) (q : List Byte) (e : PfxEntry),
      s.clocked = true →
      s.enUp k.val = true →
      s.enPayload k.val f = some (0x86DD, p) →
      40 + be p 4 2 ≤ p.length →
      40 + be p 4 2 ≤ s.fget (fENCFG_MTU k.val) →
      (be (p.take (40 + be p 4 2)) 6 1 ≠ 17 ∨ (8 ≤ be (p.take (40 + be p 4 2)) 4 2 ∧ udpSumOk (p.take (40 + be p 4 2)) = true)) →
      s.mode ≠ modeBoot →
      s.mode ≠ modeRecovery →
      s.enMine k.val (be (p.take (40 + be p 4 2)) 24 16) joined = false →
      s.flag (fENCFG_FWD k.val) = true →
      1 < be (p.take (40 + be p 4 2)) 7 1 →
      q = (splice (p.take (40 + be p 4 2)) 7 (beBytes 1 (be (p.take (40 + be p 4 2)) 7 1 - 1))) →
      s.pfxFind (be q 24 16) = some e →
      e.dest = 2 →
      exec (.ethFrameReceive k f joined) s = .next ({ (s.count (fENRXOK_COUNT k.val) 1) with delivered := { dest := (if k.val = 1 ∧ s.flag fSYSSTAT_SEAM = true then .mgmtFw else .controlFw), src := 0x30 + k.val, stamp := 0, bytes := q } :: s.delivered } : State)) ∧
    (∀ (k : Fin 2) (f p : List Byte) (joined : Bool) (s : State) (q : List Byte) (e : PfxEntry),
      s.clocked = true →
      s.enUp k.val = true →
      s.enPayload k.val f = some (0x86DD, p) →
      40 + be p 4 2 ≤ p.length →
      40 + be p 4 2 ≤ s.fget (fENCFG_MTU k.val) →
      (be (p.take (40 + be p 4 2)) 6 1 ≠ 17 ∨ (8 ≤ be (p.take (40 + be p 4 2)) 4 2 ∧ udpSumOk (p.take (40 + be p 4 2)) = true)) →
      s.mode ≠ modeBoot →
      s.mode ≠ modeRecovery →
      s.enMine k.val (be (p.take (40 + be p 4 2)) 24 16) joined = false →
      s.flag (fENCFG_FWD k.val) = true →
      1 < be (p.take (40 + be p 4 2)) 7 1 →
      q = (splice (p.take (40 + be p 4 2)) 7 (beBytes 1 (be (p.take (40 + be p 4 2)) 7 1 - 1))) →
      s.pfxFind (be q 24 16) = some e →
      e.dest = 3 →
      exec (.ethFrameReceive k f joined) s = .next (s.count (fENRXOK_COUNT k.val) 1)) ∧
    (∀ (s : State) (dst : Nat) (e : PfxEntry),
      s.pfxFind dst = some e →
      e ∈ s.pfx ∧ e.key / 2 ^ (128 - e.len) = dst / 2 ^ (128 - e.len) ∧ (∀ x ∈ s.pfx.takeWhile (fun x => x ≠ e), x.key / 2 ^ (128 - x.len) ≠ dst / 2 ^ (128 - x.len))) ∧
    (∀ (k : Fin 2) (f p : List Byte) (joined : Bool) (s : State),
      s.clocked = true →
      s.enUp k.val = true →
      s.enPayload k.val f = some (0x86DD, p) →
      40 + be p 4 2 ≤ p.length →
      40 + be p 4 2 ≤ s.fget (fENCFG_MTU k.val) →
      (be (p.take (40 + be p 4 2)) 6 1 ≠ 17 ∨ (8 ≤ be (p.take (40 + be p 4 2)) 4 2 ∧ udpSumOk (p.take (40 + be p 4 2)) = true)) →
      s.mode ≠ modeBoot →
      s.mode ≠ modeRecovery →
      s.enMine k.val (be (p.take (40 + be p 4 2)) 24 16) joined = true →
      isExtHeader (be (p.take (40 + be p 4 2)) 6 1) = true →
      exec (.ethFrameReceive k f joined) s = .next ({ (s.count (fENRXOK_COUNT k.val) 1) with delivered := { dest := (if k.val = 1 ∧ s.flag fSYSSTAT_SEAM = true then .mgmtFw else .controlFw), src := 0x30 + k.val, stamp := s.enStamp k.val, bytes := (p.take (40 + be p 4 2)) } :: s.delivered } : State)) ∧
    (∀ (n : Nat),
      isExtHeader n = true ↔ n = 0 ∨ n = 43 ∨ n = 44 ∨ n = 50 ∨ n = 51 ∨ n = 60 ∨ n = 135 ∨ n = 139 ∨ n = 140) ∧
    (∀ (k : Fin 2) (f p : List Byte) (joined : Bool) (s : State),
      s.clocked = true →
      s.enUp k.val = true →
      s.enPayload k.val f = some (0x86DD, p) →
      40 + be p 4 2 ≤ p.length →
      40 + be p 4 2 ≤ s.fget (fENCFG_MTU k.val) →
      (be (p.take (40 + be p 4 2)) 6 1 ≠ 17 ∨ (8 ≤ be (p.take (40 + be p 4 2)) 4 2 ∧ udpSumOk (p.take (40 + be p 4 2)) = true)) →
      s.mode ≠ modeBoot →
      s.mode ≠ modeRecovery →
      s.enMine k.val (be (p.take (40 + be p 4 2)) 24 16) joined = true →
      isExtHeader (be (p.take (40 + be p 4 2)) 6 1) = false →
      be (p.take (40 + be p 4 2)) 6 1 ≠ 17 →
      exec (.ethFrameReceive k f joined) s = .next ({ (s.count (fENRXOK_COUNT k.val) 1) with delivered := { dest := (if k.val = 1 ∧ s.flag fSYSSTAT_SEAM = true then .mgmtFw else .controlFw), src := 0x30 + k.val, stamp := s.enStamp k.val, bytes := (p.take (40 + be p 4 2)) } :: s.delivered } : State)) ∧
    (∀ (k : Fin 2) (f p : List Byte) (joined : Bool) (s : State) (port : Nat),
      s.clocked = true →
      s.enUp k.val = true →
      s.enPayload k.val f = some (0x86DD, p) →
      40 + be p 4 2 ≤ p.length →
      40 + be p 4 2 ≤ s.fget (fENCFG_MTU k.val) →
      (be (p.take (40 + be p 4 2)) 6 1 ≠ 17 ∨ (8 ≤ be (p.take (40 + be p 4 2)) 4 2 ∧ udpSumOk (p.take (40 + be p 4 2)) = true)) →
      s.mode ≠ modeBoot →
      s.mode ≠ modeRecovery →
      s.enMine k.val (be (p.take (40 + be p 4 2)) 24 16) joined = true →
      be (p.take (40 + be p 4 2)) 6 1 = 17 →
      port = (be (p.take (40 + be p 4 2)) 42 2) →
      port = s.fget fRELCFG_PORT →
      exec (.ethFrameReceive k f joined) s = .next ({ (s.count (fENRXOK_COUNT k.val) 1) with delivered := { dest := .relay, src := 0x30 + k.val, stamp := s.enStamp k.val, bytes := ((p.take (40 + be p 4 2)).drop 48).take (be (p.take (40 + be p 4 2)) 4 2 - 8) } :: s.delivered } : State)) ∧
    (∀ (k : Fin 2) (f p : List Byte) (joined : Bool) (s : State) (port : Nat),
      s.clocked = true →
      s.enUp k.val = true →
      s.enPayload k.val f = some (0x86DD, p) →
      40 + be p 4 2 ≤ p.length →
      40 + be p 4 2 ≤ s.fget (fENCFG_MTU k.val) →
      (be (p.take (40 + be p 4 2)) 6 1 ≠ 17 ∨ (8 ≤ be (p.take (40 + be p 4 2)) 4 2 ∧ udpSumOk (p.take (40 + be p 4 2)) = true)) →
      s.mode ≠ modeBoot →
      s.mode ≠ modeRecovery →
      s.enMine k.val (be (p.take (40 + be p 4 2)) 24 16) joined = true →
      be (p.take (40 + be p 4 2)) 6 1 = 17 →
      port = (be (p.take (40 + be p 4 2)) 42 2) →
      port ≠ s.fget fRELCFG_PORT →
      port = s.fget fDLMCFG_PORT →
      s.flag fDLMCFG_EN = true →
      exec (.ethFrameReceive k f joined) s = .next ({ (s.count (fENRXOK_COUNT k.val) 1) with delivered := { dest := .dlms, src := 0x30 + k.val, stamp := s.enStamp k.val, bytes := ((p.take (40 + be p 4 2)).drop 48).take (be (p.take (40 + be p 4 2)) 4 2 - 8) } :: s.delivered } : State)) ∧
    (∀ (k : Fin 2) (f p : List Byte) (joined : Bool) (s : State) (port : Nat),
      s.clocked = true →
      s.enUp k.val = true →
      s.enPayload k.val f = some (0x86DD, p) →
      40 + be p 4 2 ≤ p.length →
      40 + be p 4 2 ≤ s.fget (fENCFG_MTU k.val) →
      (be (p.take (40 + be p 4 2)) 6 1 ≠ 17 ∨ (8 ≤ be (p.take (40 + be p 4 2)) 4 2 ∧ udpSumOk (p.take (40 + be p 4 2)) = true)) →
      s.mode ≠ modeBoot →
      s.mode ≠ modeRecovery →
      s.enMine k.val (be (p.take (40 + be p 4 2)) 24 16) joined = true →
      be (p.take (40 + be p 4 2)) 6 1 = 17 →
      port = (be (p.take (40 + be p 4 2)) 42 2) →
      port ≠ s.fget fRELCFG_PORT →
      (port ≠ s.fget fDLMCFG_PORT ∨ s.flag fDLMCFG_EN = false) →
      port = s.fget fREPCFG_PORT →
      exec (.ethFrameReceive k f joined) s = .next ({ (s.count (fENRXOK_COUNT k.val) 1) with delivered := { dest := .session, src := 0x30 + k.val, stamp := s.enStamp k.val, bytes := ((p.take (40 + be p 4 2)).drop 48).take (be (p.take (40 + be p 4 2)) 4 2 - 8) } :: s.delivered } : State)) ∧
    (∀ (k : Fin 2) (f p : List Byte) (joined : Bool) (s : State) (port : Nat) (c : Nat),
      s.clocked = true →
      s.enUp k.val = true →
      s.enPayload k.val f = some (0x86DD, p) →
      40 + be p 4 2 ≤ p.length →
      40 + be p 4 2 ≤ s.fget (fENCFG_MTU k.val) →
      (be (p.take (40 + be p 4 2)) 6 1 ≠ 17 ∨ (8 ≤ be (p.take (40 + be p 4 2)) 4 2 ∧ udpSumOk (p.take (40 + be p 4 2)) = true)) →
      s.mode ≠ modeBoot →
      s.mode ≠ modeRecovery →
      s.enMine k.val (be (p.take (40 + be p 4 2)) 24 16) joined = true →
      be (p.take (40 + be p 4 2)) 6 1 = 17 →
      port = (be (p.take (40 + be p 4 2)) 42 2) →
      port ≠ s.fget fRELCFG_PORT →
      (port ≠ s.fget fDLMCFG_PORT ∨ s.flag fDLMCFG_EN = false) →
      port ≠ s.fget fREPCFG_PORT →
      s.batchChip port = some c →
      exec (.ethFrameReceive k f joined) s = .next ((s.count (fENRXOK_COUNT k.val) 1).chipSend c 1 0x03 (((p.take (40 + be p 4 2)).drop 48).take (be (p.take (40 + be p 4 2)) 4 2 - 8)) [])) ∧
    (∀ (k : Fin 2) (f p : List Byte) (joined : Bool) (s : State) (port : Nat),
      s.clocked = true →
      s.enUp k.val = true →
      s.enPayload k.val f = some (0x86DD, p) →
      40 + be p 4 2 ≤ p.length →
      40 + be p 4 2 ≤ s.fget (fENCFG_MTU k.val) →
      (be (p.take (40 + be p 4 2)) 6 1 ≠ 17 ∨ (8 ≤ be (p.take (40 + be p 4 2)) 4 2 ∧ udpSumOk (p.take (40 + be p 4 2)) = true)) →
      s.mode ≠ modeBoot →
      s.mode ≠ modeRecovery →
      s.enMine k.val (be (p.take (40 + be p 4 2)) 24 16) joined = true →
      be (p.take (40 + be p 4 2)) 6 1 = 17 →
      port = (be (p.take (40 + be p 4 2)) 42 2) →
      port ≠ s.fget fRELCFG_PORT →
      (port ≠ s.fget fDLMCFG_PORT ∨ s.flag fDLMCFG_EN = false) →
      port ≠ s.fget fREPCFG_PORT →
      s.batchChip port = none →
      exec (.ethFrameReceive k f joined) s = .next ({ (s.count (fENRXOK_COUNT k.val) 1) with delivered := { dest := (if k.val = 1 ∧ s.flag fSYSSTAT_SEAM = true then .mgmtFw else .controlFw), src := 0x30 + k.val, stamp := s.enStamp k.val, bytes := (p.take (40 + be p 4 2)) } :: s.delivered } : State)) ∧
    (∀ (s : State) (port c : Nat),
      s.batchChip port = some c →
      s.flag fSYSSTAT_SEAM = true ∧ c ≠ s.self ∧ c < s.fget fSEMCFG_NCHIPS ∧ (s.fget fREPCFG_PORT + 1 + c) % 65536 = port) ∧
    (∀ (k : Fin 2) (s : State),
      s.enStamp k.val = s.stamp k.val s.time.raw (if s.fget (fENCFG_MODE k.val) = 0 then -58
          else if s.fget (fENSTAT_SPEED k.val) = 2 then -872 else if s.fget (fENSTAT_SPEED k.val) = 3 then -8072 else -152) false) ∧
    (∀ (k : Fin 2) (up : Bool) (speed : Fin 4) (s : State),
      s.clocked = true →
      (s.flag (fENCFG_EN k.val) = false ∨ s.fenced (14 + k.val) = true) →
      exec (.ethernetLinkChange k up speed) s = .next s) ∧
    (∀ (k : Fin 2) (up : Bool) (speed : Fin 4) (s : State) (u : State),
      s.clocked = true →
      s.flag (fENCFG_EN k.val) = true →
      s.fenced (14 + k.val) = false →
      u = ((s.setFlag (fENSTAT_LINK k.val) up).fset (fENSTAT_SPEED k.val) (if up then speed.val else 0)) →
      ∃ t, exec (.ethernetLinkChange k up speed) s = .next t ∧ t.flag (fENSTAT_LINK k.val) = up ∧ t.fget (fENSTAT_SPEED k.val) = (if up then speed.val else 0) ∧
        t = { u with ses := { s.ses with port := if s.flag fREPDPORT_ALTPORT = true ∧ u.enUp s.ses.port = false ∧ u.enUp (1 - s.ses.port) = true then 1 - s.ses.port else s.ses.port } }) ∧
    (∀ (a : Agent) (s : State) (l : List PfxEntry),
      s.writes a rPFXCMD = true →
      s.pfx.any (fun x => x.key = s.fget fPFXKEY_KEY && x.len = s.fget fPFXDATA_LEN) = false →
      s.pfx.length < 4096 →
      l = s.pfx.takeWhile (fun x => s.fget fPFXDATA_LEN ≤ x.len) ++
          ⟨s.fget fPFXKEY_KEY, s.fget fPFXDATA_LEN, s.fget fPFXDATA_DEST, s.fget fPFXDATA_TARGET, s.fget fPFXDATA_NH⟩ :: s.pfx.dropWhile (fun x => s.fget fPFXDATA_LEN ≤ x.len) →
      exec (.pfxInsert a) s = .next ((((s.setPfx l).fset fPFXSTAT_STATUS Status.done.code).fset fPFXCOUNT_COUNT (s.setPfx l).pfx.length).say .done)) ∧
    (∀ (a : Agent) (s : State),
      s.writes a rPFXCMD = true →
      s.pfx.any (fun x => x.key = s.fget fPFXKEY_KEY && x.len = s.fget fPFXDATA_LEN) = true →
      exec (.pfxInsert a) s = .next (((({ s with pfx := s.pfx.map (fun x => if x.key = s.fget fPFXKEY_KEY && x.len = s.fget fPFXDATA_LEN then
            ⟨s.fget fPFXKEY_KEY, s.fget fPFXDATA_LEN, s.fget fPFXDATA_DEST, s.fget fPFXDATA_TARGET, s.fget fPFXDATA_NH⟩ else x) } : State).fset fPFXSTAT_STATUS Status.done.code).fset fPFXCOUNT_COUNT s.pfx.length).say .done)) ∧
    (∀ (a : Agent) (s : State),
      s.writes a rPFXCMD = true →
      s.pfx.any (fun x => x.key = s.fget fPFXKEY_KEY && x.len = s.fget fPFXDATA_LEN) = false →
      4096 ≤ s.pfx.length →
      exec (.pfxInsert a) s = .next ((((s).fset fPFXSTAT_STATUS Status.tableFull.code).fset fPFXCOUNT_COUNT (s).pfx.length).say .done)) ∧
    (∀ (a : Agent) (s : State),
      s.writes a rPFXCMD = true →
      s.pfx.any (fun x => x.key = s.fget fPFXKEY_KEY && x.len = s.fget fPFXDATA_LEN) = true →
      exec (.pfxDelete a) s = .next ((((s.setPfx (s.pfx.filter fun x => !(x.key = s.fget fPFXKEY_KEY && x.len = s.fget fPFXDATA_LEN))).fset fPFXSTAT_STATUS Status.done.code).fset fPFXCOUNT_COUNT (s.setPfx (s.pfx.filter fun x => !(x.key = s.fget fPFXKEY_KEY && x.len = s.fget fPFXDATA_LEN))).pfx.length).say .done)) ∧
    (∀ (a : Agent) (s : State),
      s.writes a rPFXCMD = true →
      s.pfx.any (fun x => x.key = s.fget fPFXKEY_KEY && x.len = s.fget fPFXDATA_LEN) = false →
      exec (.pfxDelete a) s = .next ((((s).fset fPFXSTAT_STATUS Status.badArgument.code).fset fPFXCOUNT_COUNT (s).pfx.length).say .done))

/-- EPT_WRITE puts the 32 bytes of EPTDATA at the slot of an entry of the same EUI-64, else at the lowest free way of its bucket,
else at a free overflow slot, and counts a new one; the map of EPIs follows a LOCAL entry that comes or goes. It answers
TABLE_FULL with no slot free, and BAD_ARGUMENT for TYPE 0 or an EPI that another LOCAL entry holds. EPT_READ copies the entry of
an EUI-64 into EPTDATA; EPT_DELETE makes it invalid, counts it out and clears its EPI, unless its endpoint is being worked on
(ENGINE_BUSY); for an EUI-64 that is not there both answer BAD_ARGUMENT. The answer stands in EPTSTAT.STATUS. NBT_PIN, NBT_UNPIN
and NBT_DELETE pin, unpin and free a valid neighbour entry and answer BAD_ARGUMENT for one that is not; a freed entry is zero
but for GEN, which counts on, and is counted out of NBTSTAT. NEIGHBOUR_AGE_SWEEP frees exactly the unpinned entries that are at
least NBTCFG.AGE old. Nothing else changes. (R438, R439, R442, R443, R444, R446) -/
def Obligations.EndpointAndNeighbourTables : Prop :=
    (∀ (a : Agent) (s : State) (b : List Byte),
      s.writes a rEPTCMD = true →
      b = leBytes 32 (s.fget fEPTDATA_ENTRY) →
      ((EptEntry.parse b).typ = 0 ∨ ((EptEntry.parse b).typ = eptLocal ∧ s.epiTaken (EptEntry.parse b).epi (EptEntry.parse b).eui = true)) →
      exec (.eptWrite a) s = .next ((s.fset fEPTSTAT_STATUS Status.badArgument.code).say .done)) ∧
    (∀ (a : Agent) (s : State) (b : List Byte) (i : Nat),
      s.writes a rEPTCMD = true →
      b = leBytes 32 (s.fget fEPTDATA_ENTRY) →
      (EptEntry.parse b).typ ≠ 0 →
      ((EptEntry.parse b).typ ≠ eptLocal ∨ s.epiTaken (EptEntry.parse b).epi (EptEntry.parse b).eui = false) →
      s.eptSlotFor (EptEntry.parse b).eui = some i →
      ∃ t, exec (.eptWrite a) s = .next t ∧ t.bytes (eptAddr i) 32 = b ∧ t.fget fEPTSTAT_STATUS = Status.done.code ∧
        ((EptEntry.parse b).typ = eptLocal → t.epiSlot (EptEntry.parse b).epi = some i) ∧
        ((s.eptEntry i).typ = eptLocal → ((EptEntry.parse b).typ ≠ eptLocal ∨ (EptEntry.parse b).epi ≠ (s.eptEntry i).epi) → t.epiSlot (s.eptEntry i).epi = none) ∧
        (∀ n, n < 262144 → ((EptEntry.parse b).typ ≠ eptLocal ∨ n ≠ (EptEntry.parse b).epi) → ((s.eptEntry i).typ ≠ eptLocal ∨ n ≠ (s.eptEntry i).epi) → t.epiSlot n = s.epiSlot n) ∧
        ((s.eptEntry i).typ ≠ 0 → t.reg rEPTUSED = s.reg rEPTUSED) ∧
        ((s.eptEntry i).typ = 0 → i < 524288 → t.fget fEPTUSED_BUCKET = (s.fget fEPTUSED_BUCKET + 1) % 2 ^ fEPTUSED_BUCKET.w ∧ t.fget fEPTUSED_OVF = s.fget fEPTUSED_OVF) ∧
        ((s.eptEntry i).typ = 0 → 524288 ≤ i → t.fget fEPTUSED_OVF = (s.fget fEPTUSED_OVF + 1) % 2 ^ fEPTUSED_OVF.w ∧ t.fget fEPTUSED_BUCKET = s.fget fEPTUSED_BUCKET) ∧
        (∀ x, x < eptAddr i ∨ eptAddr i + 32 ≤ x → t.byte x = s.byte x) ∧ (∀ r, r ≠ fEPTSTAT_STATUS.reg → r ≠ fEPTUSED_BUCKET.reg → r ≠ fEPTLOCAL_COUNT.reg → t.reg r = s.reg r) ∧ t = { s with mem := t.mem, poison := t.poison, soft := t.soft, csr := t.csr, epiMap := t.epiMap, answer := ⟨.done, 0⟩ }) ∧
    (∀ (s : State) (eui : Nat),
      (∀ i, s.eptFind eui = some i → s.eptSlotFor eui = some i ∧ (s.eptEntry i).eui = eui ∧ (s.eptEntry i).typ ≠ 0 ∧ ((4 * eptBucket eui ≤ i ∧ i < 4 * eptBucket eui + 4) ∨ 524288 ≤ i)) ∧
        (s.eptFind eui = none → ∀ j : Fin 4, (s.eptEntry (4 * eptBucket eui + j.val)).typ = 0 → (∀ m : Fin 4, m.val < j.val → (s.eptEntry (4 * eptBucket eui + m.val)).typ ≠ 0) →
          s.eptSlotFor eui = some (4 * eptBucket eui + j.val)) ∧
        (s.eptFind eui = none → (∀ j : Fin 4, (s.eptEntry (4 * eptBucket eui + j.val)).typ ≠ 0) → 8192 ≤ s.fget fEPTUSED_OVF → s.eptSlotFor eui = none) ∧
        eptBucket eui = crc32c (beBytes 8 eui) % 2 ^ 17) ∧
    (∀ (a : Agent) (s : State) (b : List Byte),
      s.writes a rEPTCMD = true →
      b = leBytes 32 (s.fget fEPTDATA_ENTRY) →
      (EptEntry.parse b).typ ≠ 0 →
      ((EptEntry.parse b).typ ≠ eptLocal ∨ s.epiTaken (EptEntry.parse b).epi (EptEntry.parse b).eui = false) →
      s.eptFind (EptEntry.parse b).eui = none →
      (∀ j : Fin 4, (s.eptEntry (4 * eptBucket (EptEntry.parse b).eui + j.val)).typ ≠ 0) →
      8192 ≤ s.fget fEPTUSED_OVF →
      exec (.eptWrite a) s = .next ((s.fset fEPTSTAT_STATUS Status.tableFull.code).say .done)) ∧
    (∀ (a : Agent) (s : State) (i : Nat),
      s.writes a rEPTCMD = true →
      s.eptFind (EptEntry.parse (leBytes 32 (s.fget fEPTDATA_ENTRY))).eui = some i →
      exec (.eptRead a) s = .next (((s.fset fEPTDATA_ENTRY (leNat (s.bytes (eptAddr i) 32))).fset fEPTSTAT_STATUS Status.done.code).say .done)) ∧
    (∀ (a : Agent) (s : State),
      s.writes a rEPTCMD = true →
      s.eptFind (EptEntry.parse (leBytes 32 (s.fget fEPTDATA_ENTRY))).eui = none →
      exec (.eptRead a) s = .next ((s.fset fEPTSTAT_STATUS Status.badArgument.code).say .done)) ∧
    (∀ (a : Agent) (s : State),
      s.writes a rEPTCMD = true →
      s.eptFind (EptEntry.parse (leBytes 32 (s.fget fEPTDATA_ENTRY))).eui = none →
      exec (.eptDelete a) s = .next ((s.fset fEPTSTAT_STATUS Status.badArgument.code).say .done)) ∧
    (∀ (a : Agent) (s : State) (i : Nat),
      s.writes a rEPTCMD = true →
      s.eptFind (EptEntry.parse (leBytes 32 (s.fget fEPTDATA_ENTRY))).eui = some i →
      ((s.eptEntry i).typ ≠ eptLocal ∨ s.epiActive (s.eptEntry i).epi = false) →
      ∃ t, exec (.eptDelete a) s = .next t ∧ (t.eptEntry i).typ = 0 ∧ t.fget fEPTSTAT_STATUS = Status.done.code ∧
        ((s.eptEntry i).typ = eptLocal → t.epiSlot (s.eptEntry i).epi = none) ∧ (∀ n, n < 262144 → ((s.eptEntry i).typ ≠ eptLocal ∨ n ≠ (s.eptEntry i).epi) → t.epiSlot n = s.epiSlot n) ∧
        (∀ x, x < eptAddr i + 8 ∨ eptAddr i + 12 ≤ x → t.byte x = s.byte x) ∧
        (i < 524288 → t.fget fEPTUSED_BUCKET = s.fget fEPTUSED_BUCKET - 1 ∧ t.fget fEPTUSED_OVF = s.fget fEPTUSED_OVF) ∧
        (524288 ≤ i → t.fget fEPTUSED_OVF = s.fget fEPTUSED_OVF - 1 ∧ t.fget fEPTUSED_BUCKET = s.fget fEPTUSED_BUCKET) ∧
        (∀ r, r ≠ fEPTSTAT_STATUS.reg → r ≠ fEPTUSED_BUCKET.reg → r ≠ fEPTLOCAL_COUNT.reg → t.reg r = s.reg r) ∧ t = { s with mem := t.mem, poison := t.poison, soft := t.soft, csr := t.csr, epiMap := t.epiMap, answer := ⟨.done, 0⟩ }) ∧
    (∀ (a : Agent) (s : State) (i : Nat),
      s.writes a rEPTCMD = true →
      s.eptFind (EptEntry.parse (leBytes 32 (s.fget fEPTDATA_ENTRY))).eui = some i →
      (s.eptEntry i).typ = eptLocal →
      s.epiActive (s.eptEntry i).epi = true →
      exec (.eptDelete a) s = .next ((s.fset fEPTSTAT_STATUS Status.engineBusy.code).say .done)) ∧
    (∀ (a : Agent) (idx : Half) (s : State),
      s.writes a rNBTCMD = true →
      s.nbValid idx.toNat = true →
      ∃ t, exec (.nbtPin a idx) s = .next t ∧ t.nbPinned idx.toNat = true ∧ t.nb idx.toNat 9 1 = setBits (s.nb idx.toNat 9 1) 1 1 1 ∧
        t.reg rNBTLAST = Status.done.code ∧ t.fget fNBTCMD_IDX = idx.toNat ∧ (∀ x, x ≠ nbtAddr idx.toNat + 9 → t.byte x = s.byte x) ∧ (∀ r, r ≠ rNBTLAST → r ≠ fNBTCMD_IDX.reg → t.reg r = s.reg r) ∧ t = { s with mem := t.mem, poison := t.poison, soft := t.soft, csr := t.csr, answer := ⟨.done, 0⟩ }) ∧
    (∀ (a : Agent) (idx : Half) (s : State),
      s.writes a rNBTCMD = true →
      s.nbValid idx.toNat = true →
      ∃ t, exec (.nbtUnpin a idx) s = .next t ∧ t.nbPinned idx.toNat = false ∧ t.nb idx.toNat 9 1 = setBits (s.nb idx.toNat 9 1) 1 1 0 ∧
        t.reg rNBTLAST = Status.done.code ∧ t.fget fNBTCMD_IDX = idx.toNat ∧ (∀ x, x ≠ nbtAddr idx.toNat + 9 → t.byte x = s.byte x) ∧ (∀ r, r ≠ rNBTLAST → r ≠ fNBTCMD_IDX.reg → t.reg r = s.reg r) ∧ t = { s with mem := t.mem, poison := t.poison, soft := t.soft, csr := t.csr, answer := ⟨.done, 0⟩ }) ∧
    (∀ (a : Agent) (idx : Half) (s : State),
      s.writes a rNBTCMD = true →
      s.nbValid idx.toNat = true →
      ∃ t, exec (.nbtDelete a idx) s = .next t ∧ t.reg rNBTLAST = Status.done.code ∧ t.fget fNBTCMD_IDX = idx.toNat ∧ t.nbValid idx.toNat = false ∧
        t.bytes (nbtAddr idx.toNat) 128 = List.replicate 10 0 ++ leBytes 1 ((s.nbGen idx.toNat + 1) % 256) ++ List.replicate 117 0 ∧ t.fget fNBTSTAT_USED = s.fget fNBTSTAT_USED - 1 ∧
        (∀ x, x < nbtAddr idx.toNat ∨ nbtAddr idx.toNat + 128 ≤ x → t.byte x = s.byte x) ∧ (∀ r, r ≠ rNBTLAST → r ≠ fNBTCMD_IDX.reg → r ≠ fNBTSTAT_USED.reg → t.reg r = s.reg r) ∧
        t = { s with mem := t.mem, poison := t.poison, soft := t.soft, csr := t.csr, pl := t.pl, answer := ⟨.done, 0⟩ } ∧
        t.pl = { s.pl with mapAt := t.pl.mapAt, ackLow := t.pl.ackLow } ∧
        t.pl.mapAt = s.pl.mapAt.put (fun _ => 0) idx.toNat 0 ∧ t.pl.ackLow = s.pl.ackLow.put (fun _ => 0) idx.toNat 0) ∧
    (∀ (a : Agent) (idx : Half) (s : State),
      s.writes a rNBTCMD = true →
      s.nbValid idx.toNat = false →
      exec (.nbtPin a idx) s = .next (((s.fset fNBTCMD_IDX idx.toNat).setReg rNBTLAST Status.badArgument.code).say .done)) ∧
    (∀ (a : Agent) (idx : Half) (s : State),
      s.writes a rNBTCMD = true →
      s.nbValid idx.toNat = false →
      exec (.nbtUnpin a idx) s = .next (((s.fset fNBTCMD_IDX idx.toNat).setReg rNBTLAST Status.badArgument.code).say .done)) ∧
    (∀ (a : Agent) (idx : Half) (s : State),
      s.writes a rNBTCMD = true →
      s.nbValid idx.toNat = false →
      exec (.nbtDelete a idx) s = .next (((s.fset fNBTCMD_IDX idx.toNat).setReg rNBTLAST Status.badArgument.code).say .done)) ∧
    (∀ (s : State),
      s.clocked = true →
      ∃ t, exec .neighbourAgeSweep s = .next t ∧ (∀ i, i < 65536 → t.bytes (nbtAddr i) 128 =
          if s.nbValid i = true ∧ s.nbPinned i = false ∧ s.fget fNBTCFG_AGE ≤ s.nbAge i
          then List.replicate 10 0 ++ leBytes 1 ((s.nbGen i + 1) % 256) ++ List.replicate 117 0 else s.bytes (nbtAddr i) 128) ∧
        (∀ x, x < nbtAddr 0 ∨ nbtAddr 65536 ≤ x → t.byte x = s.byte x) ∧ (∀ r, r ≠ fNBTSTAT_USED.reg → r ≠ fNBTAGED_COUNT.reg → t.reg r = s.reg r) ∧
        t = { s with mem := t.mem, poison := t.poison, soft := t.soft, csr := t.csr, pl := t.pl } ∧
        t.pl = { s.pl with mapAt := t.pl.mapAt, ackLow := t.pl.ackLow })

/-- DUNEB_CELL_RECEIVE does nothing on a link that is down. A run that is not a cell with a right CRC is counted and answered with a
NAK; any other cell first brings its ASEQ, credits and NAK to bear, which may resend cells or take the link down. A cell that
breaks the layout or its message's run is bad: counted, recorded, answered with a NAK, and the third in a row takes the link
down. An IDLE cell does no more. A cell out of sequence is answered with a NAK and delivers nothing. One in sequence is counted,
its TSEQ acknowledged and its credit given back; the last cell of a message hands the message on: at this chip to what its TYPE
names, else to its next link, where it waits in the backlog, or is reported undelivered with no link for it. Every cell is
answered with the cells that can go and IDLE cells for credits and NAK. DUNEB_RETRY_TIMEOUT, after RTO without progress, sends
every cell not yet acknowledged again, in order, or takes the link down after RETRYMAX resends; before, or with nothing to
resend, it does nothing. DUNEB_LINK_DOWN of a link that is up empties it, reports what was not delivered, and counts. HELLO on
an enabled link: of the right neighbour it brings the link up, notes the far end, answers with a HELLO when the link was down,
and asks for a map that wins; of a wrong one it sets MISWIRE and the link goes down. On DL3 of a twin the fall of the link
begins the grace and its rise ends it. (R450, R451, R452, R453, R454, R455, R456, R457, R459, R460, R463, R464) -/
def Obligations.DunebLinks : Prop :=
    (∀ (k : Fin 4) (b : List Byte) (bad : List (Fin 8)) (s : State),
      s.clocked = true →
      s.dlUp k.val = false →
      exec (.dunebCellReceive k b bad) s = .next s) ∧
    (∀ (k : Fin 4) (b : List Byte) (bad : List (Fin 8)) (s : State),
      s.clocked = true →
      s.dlUp k.val = true →
      (b.length ≠ 88 ∨ crc32 (b.take 84) ≠ be b 84 4) →
      ∃ t, exec (.dunebCellReceive k b bad) s = .next t ∧ t.fget (fDLCRCERR_COUNT k.val) = satAdd (fDLCRCERR_COUNT 0).w (s.fget (fDLCRCERR_COUNT k.val)) 1 ∧
        (t.dl k.val).rxSeq = (s.dl k.val).rxSeq ∧ (t.dl k.val).rx = (s.dl k.val).rx ∧ t.delivered = s.delivered ∧ t.mem = s.mem ∧
        (s.mayEmit = true → (t.dl k.val).nak = false ∧ ((t.wire.take (t.wire.length - s.wire.length)).any fun x => x.port = 0x32 + k.val && bit (be x.bytes 80 4) 7) = true) ∧
        (s.mayEmit = false → t.wire = s.wire ∧ (t.dl k.val).nak = true) ∧ (∀ j, j < 4 → j ≠ k.val → t.dl j = s.dl j) ∧
        t = { s with dun := t.dun, csr := t.csr, wire := t.wire, freeCtr := t.freeCtr }) ∧
    (∀ (k w : Nat) (s t : State),
      t = s.dlWord k w →
      bit w 7 = false →
      (t.dl k).aseq = bits w 8 12 ∧ (t.dl k).retry = (s.dl k).retry.filter (fun e => decide (2048 ≤ (bits w 8 12 + 4096 - e.1) % 4096)) ∧
        (t.dl k).usedCr.get crZero (bits w 4 3) = (s.dl k).usedCr.get crZero (bits w 4 3) - bits w 0 4 ∧
        (∀ p, p < 8 → p ≠ bits w 4 3 → (t.dl k).usedCr.get crZero p = (s.dl k).usedCr.get crZero p) ∧
        ((t.dl k).retry.length < (s.dl k).retry.length → (t.dl k).resends = 0 ∧ (t.dl k).progAt = s.time.raw) ∧
        ((t.dl k).retry.length = (s.dl k).retry.length → (t.dl k).resends = (s.dl k).resends ∧ (t.dl k).progAt = (s.dl k).progAt) ∧
        (t.dl k).rxSeq = (s.dl k).rxSeq ∧ (t.dl k).rx = (s.dl k).rx ∧ (t.dl k).tseq = (s.dl k).tseq ∧ (t.dl k).backlog = (s.dl k).backlog ∧ t = { s with dun := t.dun }) ∧
    (∀ (k w : Nat) (s : State),
      bit w 7 = true →
      s.dlWord k w = (s.dlWord k (w - 128)).dlResend k) ∧
    (∀ (k : Fin 4) (b : List Byte) (bad : List (Fin 8)) (s : State) (c : DlCell) (u : State),
      s.clocked = true →
      s.dlUp k.val = true →
      b.length = 88 →
      crc32 (b.take 84) = be b 84 4 →
      c = (parseCell b bad) →
      u = (s.dlWord k.val (be b 80 4)) →
      u.dlUp k.val = false →
      exec (.dunebCellReceive k b bad) s = .next u) ∧
    (∀ (k : Fin 4) (b : List Byte) (bad : List (Fin 8)) (s : State) (c : DlCell) (u : State),
      s.clocked = true →
      s.dlUp k.val = true →
      b.length = 88 →
      crc32 (b.take 84) = be b 84 4 →
      c = (parseCell b bad) →
      u = (s.dlWord k.val (be b 80 4)) →
      u.dlUp k.val = true →
      (cellOk k.val b c = false ∨ (c.typ ≠ 0 ∧ bits (be b 80 4) 20 12 = ((u.dl k.val).rxSeq + 1) % 4096 ∧ cellFits (u.dl k.val).rx c = false)) →
      ∃ v t, exec (.dunebCellReceive k b bad) s = .next t ∧ v = ((u.setDl k.val { u.dl k.val with nak := true, badRun := (u.dl k.val).badRun + 1 }).bump (fDLBADCELL_COUNT k.val) 1).refused5 .badCell (0x32 + k.val) k.val 88 k.val 0 ∧
        t = (if 3 ≤ (u.dl k.val).badRun + 1 then v.dlDown k.val else v).dlAnswer k.val) ∧
    (∀ (k : Fin 4) (b : List Byte) (c : DlCell),
      c.payload.length ≤ 64 →
      (cellOk k.val b c = true → bits (be b 0 1) 0 3 = 0 ∧ bits (be b 1 1) 0 2 = 0 ∧ be b 3 1 ≤ 64 ∧ (c.typ = 0 → be b 3 1 = 0) ∧ (c.typ ≠ 0 → be b 3 1 ≠ 0 ∧ typeClass c.typ = some c.cls) ∧
          (8 ≤ c.typ → c.typ < 16 → c.det = false ∧ k = 3)) ∧
        (∀ x, typeClass c.typ = some x → x < 4) ∧
        ((c.typ ∈ [1, 2] → typeClass c.typ = some 0) ∧ (c.typ ∈ [3, 5, 8, 9, 10, 11, 12] → typeClass c.typ = some 1) ∧
          (c.typ ∈ [4, 6, 13, 14, 15, 127] → typeClass c.typ = some 2) ∧ (c.typ = 7 → typeClass c.typ = some 3)) ∧
        ((c.typ = 0 ∨ (16 ≤ c.typ ∧ c.typ ≠ 127)) → typeClass c.typ = none)) ∧
    (∀ (l : List DlMsg) (c : DlCell),
      (rxFind l c = none → (cellFits l c = true ↔ c.sop = true)) ∧
        (∀ m, rxFind l c = some m → (m.parts = [] ∨ (cellFits l c = true ↔ c.sop = false ∧ (m.parts.headD c).typ = c.typ ∧ (m.parts.headD c).msgid = c.msgid ∧ m.parts.length < 256)))) ∧
    (∀ (k : Fin 4) (b : List Byte) (bad : List (Fin 8)) (s : State) (c : DlCell) (u : State),
      s.clocked = true →
      s.dlUp k.val = true →
      b.length = 88 →
      crc32 (b.take 84) = be b 84 4 →
      c = (parseCell b bad) →
      u = (s.dlWord k.val (be b 80 4)) →
      u.dlUp k.val = true →
      cellOk k.val b c = true →
      c.typ = 0 →
      exec (.dunebCellReceive k b bad) s = .next (u.dlPump k.val)) ∧
    (∀ (k : Fin 4) (b : List Byte) (bad : List (Fin 8)) (s : State) (c : DlCell) (u : State),
      s.clocked = true →
      s.dlUp k.val = true →
      b.length = 88 →
      crc32 (b.take 84) = be b 84 4 →
      c = (parseCell b bad) →
      u = (s.dlWord k.val (be b 80 4)) →
      u.dlUp k.val = true →
      cellOk k.val b c = true →
      c.typ ≠ 0 →
      bits (be b 80 4) 20 12 ≠ ((u.dl k.val).rxSeq + 1) % 4096 →
      ∃ t, exec (.dunebCellReceive k b bad) s = .next t ∧ t = (u.setDl k.val { u.dl k.val with nak := true }).dlAnswer k.val ∧ t.delivered = s.delivered ∧ (t.dl k.val).rxSeq = (u.dl k.val).rxSeq ∧
        (t.dl k.val).rx = (u.dl k.val).rx ∧ t.fget (fDLCELLR_COUNT k.val) = u.fget (fDLCELLR_COUNT k.val) ∧ t.mem = s.mem) ∧
    (∀ (k : Fin 4) (b : List Byte) (bad : List (Fin 8)) (s : State) (c : DlCell) (u : State) (parts : List DlCell) (v : State),
      s.clocked = true →
      s.dlUp k.val = true →
      b.length = 88 →
      crc32 (b.take 84) = be b 84 4 →
      c = (parseCell b bad) →
      u = (s.dlWord k.val (be b 80 4)) →
      u.dlUp k.val = true →
      cellOk k.val b c = true →
      c.typ ≠ 0 →
      bits (be b 80 4) 20 12 = ((u.dl k.val).rxSeq + 1) % 4096 →
      cellFits (u.dl k.val).rx c = true →
      parts = ((match rxFind (u.dl k.val).rx c with | some m => m.parts | none => []) ++ [c]) →
      v = ((u.setDl k.val { u.dl k.val with rxSeq := bits (be b 80 4) 20 12, badRun := 0, rx := rxDrop (u.dl k.val).rx c ++ (if c.eop then [] else [⟨parts⟩]), owed := (u.dl k.val).owed.put crZero c.pool ((u.dl k.val).owed.get crZero c.pool + 1) }).count (fDLCELLR_COUNT k.val) 1) →
      c.eop = false →
      exec (.dunebCellReceive k b bad) s = .next (v.dlAnswer k.val)) ∧
    (∀ (k : Fin 4) (b : List Byte) (bad : List (Fin 8)) (s : State) (c : DlCell) (u : State) (parts : List DlCell) (v : State),
      s.clocked = true →
      s.dlUp k.val = true →
      b.length = 88 →
      crc32 (b.take 84) = be b 84 4 →
      c = (parseCell b bad) →
      u = (s.dlWord k.val (be b 80 4)) →
      u.dlUp k.val = true →
      cellOk k.val b c = true →
      c.typ ≠ 0 →
      bits (be b 80 4) 20 12 = ((u.dl k.val).rxSeq + 1) % 4096 →
      cellFits (u.dl k.val).rx c = true →
      parts = ((match rxFind (u.dl k.val).rx c with | some m => m.parts | none => []) ++ [c]) →
      v = ((u.setDl k.val { u.dl k.val with rxSeq := bits (be b 80 4) 20 12, badRun := 0, rx := rxDrop (u.dl k.val).rx c ++ (if c.eop then [] else [⟨parts⟩]), owed := (u.dl k.val).owed.put crZero c.pool ((u.dl k.val).owed.get crZero c.pool + 1) }).count (fDLCELLR_COUNT k.val) 1) →
      c.eop = true →
      (v.dlMine k.val c.dst = true ∨ (8 ≤ c.typ ∧ c.typ < 16) ∨ c.typ = 0x7F) →
      exec (.dunebCellReceive k b bad) s = .next ((v.dlDeliver k.val parts).dlAnswer k.val)) ∧
    (∀ (k : Fin 4) (b : List Byte) (bad : List (Fin 8)) (s : State) (c : DlCell) (u : State) (parts : List DlCell) (v : State),
      s.clocked = true →
      s.dlUp k.val = true →
      b.length = 88 →
      crc32 (b.take 84) = be b 84 4 →
      c = (parseCell b bad) →
      u = (s.dlWord k.val (be b 80 4)) →
      u.dlUp k.val = true →
      cellOk k.val b c = true →
      c.typ ≠ 0 →
      bits (be b 80 4) 20 12 = ((u.dl k.val).rxSeq + 1) % 4096 →
      cellFits (u.dl k.val).rx c = true →
      parts = ((match rxFind (u.dl k.val).rx c with | some m => m.parts | none => []) ++ [c]) →
      v = ((u.setDl k.val { u.dl k.val with rxSeq := bits (be b 80 4) 20 12, badRun := 0, rx := rxDrop (u.dl k.val).rx c ++ (if c.eop then [] else [⟨parts⟩]), owed := (u.dl k.val).owed.put crZero c.pool ((u.dl k.val).owed.get crZero c.pool + 1) }).count (fDLCELLR_COUNT k.val) 1) →
      c.eop = true →
      ¬ (v.dlMine k.val c.dst = true ∨ (8 ≤ c.typ ∧ c.typ < 16) ∨ c.typ = 0x7F) →
      exec (.dunebCellReceive k b bad) s = .next ((v.dlForward k.val parts).dlAnswer k.val)) ∧
    (∀ (k : Fin 4) (b : List Byte) (bad : List (Fin 8)) (s : State) (c : DlCell) (u : State) (parts : List DlCell) (v : State),
      s.clocked = true →
      s.dlUp k.val = true →
      b.length = 88 →
      crc32 (b.take 84) = be b 84 4 →
      c = (parseCell b bad) →
      u = (s.dlWord k.val (be b 80 4)) →
      u.dlUp k.val = true →
      cellOk k.val b c = true →
      c.typ ≠ 0 →
      bits (be b 80 4) 20 12 = ((u.dl k.val).rxSeq + 1) % 4096 →
      cellFits (u.dl k.val).rx c = true →
      parts = ((match rxFind (u.dl k.val).rx c with | some m => m.parts | none => []) ++ [c]) →
      v = ((u.setDl k.val { u.dl k.val with rxSeq := bits (be b 80 4) 20 12, badRun := 0, rx := rxDrop (u.dl k.val).rx c ++ (if c.eop then [] else [⟨parts⟩]), owed := (u.dl k.val).owed.put crZero c.pool ((u.dl k.val).owed.get crZero c.pool + 1) }).count (fDLCELLR_COUNT k.val) 1) →
      c.eop = true →
      (v.dlMine k.val c.dst = true ∨ (8 ≤ c.typ ∧ c.typ < 16) ∨ c.typ = 0x7F) →
      c.typ = 7 →
      bit (be b 80 4) 7 = false →
      ∃ t, exec (.dunebCellReceive k b bad) s = .next t ∧ (t.dl k.val).rxSeq = bits (be b 80 4) 20 12 ∧ (t.dl k.val).badRun = 0 ∧
        t.delivered = { dest := .mgmtFw, src := 0x32 + k.val, typ := 7, bytes := parts.flatMap (·.payload) } :: s.delivered ∧
        t.fget (fDLCELLR_COUNT k.val) = (s.fget (fDLCELLR_COUNT k.val) + 1) % 2 ^ (fDLCELLR_COUNT 0).w ∧ t.mem = s.mem) ∧
    (∀ (k : Nat) (m : List DlCell) (c : DlCell) (b : List Byte) (s : State),
      m.head? = some c →
      b = (m.flatMap (·.payload)) →
      c.typ = 2 →
      s.dlDeliver k m = s.egress (pathParse b) (b.drop 24) (if be b 25 1 = mtAck then 0 else if (pathParse b).link = euiAll then 2 else 1) none) ∧
    (∀ (k : Nat) (m : List DlCell) (c : DlCell) (b : List Byte) (s : State),
      m.head? = some c →
      b = (m.flatMap (·.payload)) →
      c.typ = 3 →
      s.fget fREPDPORT_UPLINK ≠ s.self →
      s.fget fREPDPORT_UPLINK = c.src →
      s.dlDeliver k m = ({ s with delivered := { dest := .session, src := 0x32 + k, typ := c.typ, bytes := b } :: s.delivered } : State)) ∧
    (∀ (k : Nat) (m : List DlCell) (c : DlCell) (b : List Byte) (s : State),
      m.head? = some c →
      b = (m.flatMap (·.payload)) →
      c.typ = 3 →
      (s.fget fREPDPORT_UPLINK = s.self ∨ s.fget fREPDPORT_UPLINK ≠ c.src) →
      s.dlDeliver k m = s.udpOut (some s.ses.port) (s.fget fREPDEST_ADDR) ((s.fget fREPCFG_PORT + 1 + c.src) % 65536) (s.fget fREPDPORT_DPORT) b) ∧
    (∀ (k : Nat) (m : List DlCell) (c : DlCell) (b : List Byte) (s : State),
      m.head? = some c →
      b = (m.flatMap (·.payload)) →
      c.typ = 4 →
      b = [0x01] →
      s.dlDeliver k m = s.chipSend c.src 2 0x04 (s.bytes (seamAddr 0) 16384) []) ∧
    (∀ (k : Nat) (m : List DlCell) (c : DlCell) (b : List Byte) (s : State),
      m.head? = some c →
      b = (m.flatMap (·.payload)) →
      c.typ = 6 →
      bits (be b 0 1) 4 4 = 6 →
      40 ≤ b.length →
      s.dlDeliver k m = s.pfxForward 0 none b) ∧
    (∀ (k : Nat) (m : List DlCell) (c : DlCell) (b : List Byte) (s : State),
      m.head? = some c →
      b = (m.flatMap (·.payload)) →
      c.typ = 6 →
      (bits (be b 0 1) 4 4 ≠ 6 ∨ b.length < 40) →
      s.dlDeliver k m = ({ s with delivered := { dest := .controlFw, src := 0x32 + k, typ := c.typ, bytes := b } :: s.delivered } : State)) ∧
    (∀ (k : Nat) (m : List DlCell) (c : DlCell) (b : List Byte) (s : State),
      m.head? = some c →
      b = (m.flatMap (·.payload)) →
      c.typ = 7 →
      s.dlDeliver k m = ({ s with delivered := { dest := .mgmtFw, src := 0x32 + k, typ := c.typ, bytes := b } :: s.delivered } : State)) ∧
    (∀ (k : Nat) (m : List DlCell) (c : DlCell) (b : List Byte) (s : State),
      m.head? = some c →
      b = (m.flatMap (·.payload)) →
      c.typ = 0x7F →
      s.dlDeliver k m = s.helloApply k b) ∧
    (∀ (k : Nat) (m : List DlCell) (c : DlCell) (b : List Byte) (s : State),
      m.head? = some c →
      b = (m.flatMap (·.payload)) →
      c.typ ≠ 2 →
      c.typ ≠ 3 →
      (c.typ ≠ 4 ∨ b ≠ [0x01]) →
      c.typ ≠ 6 →
      c.typ ≠ 7 →
      c.typ ≠ 0x7F →
      s.dlDeliver k m = ({ s with delivered := { dest := .hw, src := 0x32 + k, typ := c.typ, bytes := b } :: s.delivered } : State)) ∧
    (∀ (k : Nat) (m : List DlCell) (c : DlCell) (route : Option (Nat × Bool)) (s : State),
      m.head? = some c →
      route = (if c.dst = s.self then some (3, true) else s.dlRoute c.dst (c.det || k = 3)) →
      (route.all fun r => !s.dlUp r.1) = true →
      s.dlForward k m = s.setDun { s.dun with undelivered := c.typ :: s.dun.undelivered }) ∧
    (∀ (k : Nat) (m : List DlCell) (c : DlCell) (route : Option (Nat × Bool)) (s : State) (j : Nat) (det : Bool),
      m.head? = some c →
      route = (if c.dst = s.self then some (3, true) else s.dlRoute c.dst (c.det || k = 3)) →
      route = some (j, det) →
      s.dlUp j = true →
      s.dlForward k m = (s.setDl j { s.dl j with backlog := (s.dl j).backlog ++ m.map fun x => { x with det := det } }).dlPump j) ∧
    (∀ (k : Fin 4) (s : State),
      s.clocked = true →
      (s.dlUp k.val = false ∨ s.time.raw < (s.dl k.val).progAt + s.fget (fDLCFG_RTO k.val) ∨ (s.dl k.val).retry = []) →
      exec (.dunebRetryTimeout k) s = .next s) ∧
    (∀ (k : Fin 4) (s : State),
      s.clocked = true →
      s.dlUp k.val = true →
      (s.dl k.val).progAt + s.fget (fDLCFG_RTO k.val) ≤ s.time.raw →
      (s.dl k.val).retry ≠ [] →
      (s.dl k.val).resends < s.fget (fDLCFG_RETRYMAX k.val) →
      ((s.dl k.val).retry.all fun e => decide (e.1 < 4096 ∧ e.2.payload.length ≤ 64 ∧ e.2.cls < 4 ∧ e.2.dst < 8 ∧ e.2.src < 8 ∧ e.2.typ < 256)) = true →
      ∃ t, exec (.dunebRetryTimeout k) s = .next t ∧ (s.mayEmit = true → t.wire.length = s.wire.length + (s.dl k.val).retry.length ∧
          ((t.wire.take (s.dl k.val).retry.length).reverse.map fun x => (x.port, bits (be x.bytes 80 4) 20 12, sub x.bytes 0 72)) =
            (s.dl k.val).retry.map fun e => (0x32 + k.val, e.1 % 4096, e.2.header ++ padTo 64 e.2.payload)) ∧ (s.mayEmit = false → t.wire = s.wire) ∧
        (t.dl k.val).retry = (s.dl k.val).retry ∧ (t.dl k.val).backlog = (s.dl k.val).backlog ∧ (t.dl k.val).rxSeq = (s.dl k.val).rxSeq ∧
        (t.dl k.val).resends = (s.dl k.val).resends + 1 ∧ (t.dl k.val).progAt = s.time.raw ∧ (t.dl k.val).tseq = (s.dl k.val).tseq ∧
        t.fget (fDLREPLAY_COUNT k.val) = satAdd (fDLREPLAY_COUNT 0).w (s.fget (fDLREPLAY_COUNT k.val)) 1 ∧ (∀ j, j < 4 → j ≠ k.val → t.dl j = s.dl j) ∧
        (∀ r, r ≠ (fDLREPLAY_COUNT k.val).reg → t.reg r = s.reg r) ∧ t = { s with dun := t.dun, csr := t.csr, wire := t.wire, freeCtr := t.freeCtr }) ∧
    (∀ (k : Fin 4) (s : State),
      s.clocked = true →
      s.dlUp k.val = true →
      (s.dl k.val).progAt + s.fget (fDLCFG_RTO k.val) ≤ s.time.raw →
      (s.dl k.val).retry ≠ [] →
      s.fget (fDLCFG_RETRYMAX k.val) ≤ (s.dl k.val).resends →
      ∃ t, exec (.dunebRetryTimeout k) s = .next t ∧ t.flag (fDLSTAT_UP k.val) = false ∧ t.flag (fDLSTAT_LOCK k.val) = false ∧ t.dl k.val = {} ∧
        t.dun.undelivered = cellTypes ((s.dl k.val).retry.map (·.2) ++ (s.dl k.val).backlog) ++ s.dun.undelivered ∧
        t.fget (fDLDOWN_COUNT k.val) = satAdd (fDLDOWN_COUNT 0).w (s.fget (fDLDOWN_COUNT k.val)) 1 ∧ (∀ j, j < 4 → j ≠ k.val → t.dl j = s.dl j) ∧
        (if k = 3 then t.twn = { s.twn with downAt := some s.time.raw } else t.twn = s.twn) ∧ (∀ r, r ≠ (fDLSTAT_UP k.val).reg → r ≠ (fDLDOWN_COUNT k.val).reg → t.reg r = s.reg r) ∧
        t = { s with dun := t.dun, csr := t.csr, twn := t.twn }) ∧
    (∀ (k : Fin 4) (s : State),
      s.clocked = true →
      s.dlUp k.val = false →
      exec (.dunebLinkDown k) s = .next s) ∧
    (∀ (k : Fin 4) (s : State),
      s.clocked = true →
      s.dlUp k.val = true →
      ∃ t, exec (.dunebLinkDown k) s = .next t ∧ t.flag (fDLSTAT_UP k.val) = false ∧ t.flag (fDLSTAT_LOCK k.val) = false ∧ t.dl k.val = {} ∧
        t.dun.undelivered = cellTypes ((s.dl k.val).retry.map (·.2) ++ (s.dl k.val).backlog) ++ s.dun.undelivered ∧
        t.fget (fDLDOWN_COUNT k.val) = satAdd (fDLDOWN_COUNT 0).w (s.fget (fDLDOWN_COUNT k.val)) 1 ∧ (∀ j, j < 4 → j ≠ k.val → t.dl j = s.dl j) ∧
        (if k = 3 then t.twn = { s.twn with downAt := some s.time.raw } else t.twn = s.twn) ∧ (∀ r, r ≠ (fDLSTAT_UP k.val).reg → r ≠ (fDLDOWN_COUNT k.val).reg → t.reg r = s.reg r) ∧
        t = { s with dun := t.dun, csr := t.csr, twn := t.twn }) ∧
    (∀ (k : Fin 4) (b : List Byte) (s : State),
      s.clocked = true →
      (s.flag (fDLCFG_EN k.val) = false ∨ s.fenced (16 + k.val) = true ∨ b.length ≠ 24) →
      exec (.hello k b) s = .next s) ∧
    (∀ (k : Fin 4) (b : List Byte) (s : State) (u : State),
      s.clocked = true →
      s.flag (fDLCFG_EN k.val) = true →
      s.fenced (16 + k.val) = false →
      b.length = 24 →
      (be b 1 1 = s.fget fSEMCFG_NCHIPS ∧ if k = 3 then be b 0 1 = s.self else be b 0 1 = s.self ^^^ 2 ^ k.val ∧ be b 0 1 < s.fget fSEMCFG_NCHIPS) →
      u = (((((s.setDl k.val { (if s.dlUp k.val then s.dl k.val else {}) with farEpoch := be b 4 4, farDig := be b 16 8, farSide := bits (be b 2 1) 1 1 }).setFlag (fDLSTAT_UP k.val) true).setFlag (fDLSTAT_LOCK k.val) true).setFlag (fDLSTAT_MISWIRE k.val) false).fset (fDLSTAT_FAR k.val) (be b 0 1)).setFlag (fDLSTAT_FARSTBY k.val) (bit (be b 2 1) 0) →
      ∃ v w t, exec (.hello k b) s = .next t ∧ v = (if k = 3 then u.setTwn { s.twn with downAt := none } else u) ∧ w = (if s.dlUp k.val then v else v.dlMsg k.val 2 false v.self 0x7F v.helloBody []) ∧
        t = (if (s.fget fSEMEPOCH_EPOCH < be b 4 4 ∨ (s.fget fSEMEPOCH_EPOCH = be b 4 4 ∧ s.mapDig < be b 16 8)) then (w.setFlag (fDLSTAT_EPOCHDIFF k.val) true).dlMsg k.val 2 false (be b 0 1) 0x04 [0x01] [] else w) ∧
        t.flag (fDLSTAT_UP k.val) = true ∧ t.flag (fDLSTAT_LOCK k.val) = true ∧ t.flag (fDLSTAT_MISWIRE k.val) = false ∧
        t.fget (fDLSTAT_FAR k.val) = be b 0 1 % 8 ∧ t.flag (fDLSTAT_FARSTBY k.val) = bit (be b 2 1) 0 ∧ (t.dl k.val).farEpoch = be b 4 4 ∧
        (t.dl k.val).farDig = be b 16 8 ∧ t.mem = s.mem ∧ t.delivered = s.delivered ∧ (∀ j, j < 4 → j ≠ k.val → t.dl j = s.dl j)) ∧
    (∀ (k : Fin 4) (b : List Byte) (s : State),
      s.clocked = true →
      s.flag (fDLCFG_EN k.val) = true →
      s.fenced (16 + k.val) = false →
      b.length = 24 →
      ¬(be b 1 1 = s.fget fSEMCFG_NCHIPS ∧ if k = 3 then be b 0 1 = s.self else be b 0 1 = s.self ^^^ 2 ^ k.val ∧ be b 0 1 < s.fget fSEMCFG_NCHIPS) →
      ∃ t, exec (.hello k b) s = .next t ∧ t.flag (fDLSTAT_UP k.val) = false ∧ t.flag (fDLSTAT_MISWIRE k.val) = true ∧ (s.dlUp k.val = false → t = s.setFlag (fDLSTAT_MISWIRE k.val) true) ∧
        (s.dlUp k.val = true → t = (s.dlDown k.val).setFlag (fDLSTAT_MISWIRE k.val) true) ∧ t.mem = s.mem ∧ t.wire = s.wire)

/-- SEAM_MAP_ADOPT takes over a map of a higher epoch, or of the same epoch and a higher digest, and keeps every other offer out;
while a move is pending the map waits for its end. SEAM_WRITE changes one entry and raises SEMEPOCH; it refuses a home outside
the set with BAD_ARGUMENT, and any write while a move is pending with ENGINE_BUSY. Every change of the map sends a HELLO on each
up link. MOVE_ARM arms a move whose conditions hold, and refuses any other with BAD_ARGUMENT. MOVE_RECEIVE at the new home
writes the endpoint of a MOVE message of the bucket with its entry made LOCAL and its counter at the moved ceiling, confirms it
and notes it; with no payload it tries step 4: once every endpoint is there, checkpointed and confirmed, MOVE_IN is journaled,
the pages take its ISN, the entry changes and MOVED goes out. Anything else it leaves. MOVED ends the move at the new home after
its commit; at the old home, after the cut, it journals MOVE_OUT and deletes the entries of the bucket; at any other chip it
changes the entry, unless it stands so already; the chip confirms. MOVE_TIMEOUT asks the new home once for an abort, MOVETMO
after the cut. MOVE_ABORT: a write, or the old home's question, ends the move at the new home before its commit and discards
what it received; the old home asks, and takes the bucket back when the answer is ABORTED; after COMMITTED it waits; a chip that
is neither forgets the move. The STATUS shown after an abort is open, one of the listed statuses that the model draws. (R418,
R459, R462, R463, R465, R466, R468, R469) -/
def Obligations.SeamMapAndMoves : Prop :=
    (∀ (epoch : Word) (m : List Byte) (s : State),
      s.clocked = true →
      m.length ≠ 16384 →
      exec (.seamMapAdopt epoch m) s = .next s) ∧
    (∀ (epoch : Word) (m : List Byte) (s : State),
      s.clocked = true →
      m.length = 16384 →
      s.mov.pending = false →
      ∃ t, exec (.seamMapAdopt epoch m) s = .next t ∧ (s.fget fSEMEPOCH_EPOCH < epoch.toNat ∨ (s.fget fSEMEPOCH_EPOCH = epoch.toNat ∧ s.mapDig < be (sha3_256 m) 0 8) →
          t = ((s.write (seamAddr 0) m).fset fSEMEPOCH_EPOCH epoch.toNat).helloAll ∧ t.fget fSEMEPOCH_EPOCH = epoch.toNat ∧ t.bytes (seamAddr 0) 16384 = m ∧
            (∀ x, x < seamAddr 0 ∨ seamAddr 4096 ≤ x → t.byte x = s.byte x)) ∧
        (epoch.toNat < s.fget fSEMEPOCH_EPOCH ∨ (s.fget fSEMEPOCH_EPOCH = epoch.toNat ∧ be (sha3_256 m) 0 8 ≤ s.mapDig) → t = s)) ∧
    (∀ (epoch : Word) (m : List Byte) (s : State),
      s.clocked = true →
      m.length = 16384 →
      s.mov.pending = true →
      exec (.seamMapAdopt epoch m) s = .next { s with dun := { s.dun with offered := some (epoch.toNat, m) } }) ∧
    (∀ (s : State),
      ((∀ k : Fin 4, s.dlUp k.val = false) → s.helloAll = s) ∧
        (∀ k : Fin 4, s.dlUp k.val = true → (∀ j : Fin 4, j ≠ k → s.dlUp j.val = false) → s.helloAll = s.dlMsg k.val 2 false s.self 0x7F s.helloBody []) ∧
        s.helloBody = beBytes 1 s.self ++ beBytes 1 (s.fget fSEMCFG_NCHIPS) ++ beBytes 1 ((if s.mode = modeStandby then 1 else 0) + 2 * s.fget fTWNCFG_SIDE) ++ [0] ++
          beBytes 4 (s.fget fSEMEPOCH_EPOCH) ++ beBytes 8 (s.fget fKEYID_EUI) ++ beBytes 8 s.mapDig) ∧
    (∀ (a : Agent) (b : BitVec 12) (h : BitVec 3) (s : State) (u : State),
      s.writes a rSEMWRITE = true →
      s.mov.pending = false →
      h.toNat < s.fget fSEMCFG_NCHIPS →
      u = ((s.fset fSEMWRITE_BUCKET b.toNat).fset fSEMWRITE_HOME h.toNat) →
      ∃ t, exec (.seamWrite a b h) s = .next t ∧ t = ((((u.seamPut b.toNat h.toNat 0 false).fset fSEMEPOCH_EPOCH (s.fget fSEMEPOCH_EPOCH + 1)).helloAll).say .done) ∧
        t.seamHome b.toNat = h.toNat ∧ t.seamMoving b.toNat = false ∧ t.fget fSEMEPOCH_EPOCH = (s.fget fSEMEPOCH_EPOCH + 1) % 2 ^ 32 ∧
        t.answer = ⟨.done, 0⟩ ∧ (∀ x, x < seamAddr b.toNat ∨ seamAddr b.toNat + 4 ≤ x → t.byte x = s.byte x)) ∧
    (∀ (a : Agent) (b : BitVec 12) (h : BitVec 3) (s : State),
      s.writes a rSEMWRITE = true →
      s.mov.pending = false →
      s.fget fSEMCFG_NCHIPS ≤ h.toNat →
      exec (.seamWrite a b h) s = .next (s.say .badArgument)) ∧
    (∀ (a : Agent) (b : BitVec 12) (h : BitVec 3) (s : State),
      s.writes a rSEMWRITE = true →
      s.mov.pending = true →
      exec (.seamWrite a b h) s = .next (s.say .engineBusy)) ∧
    (∀ (a : Agent) (v : DWord) (otherK : Int) (noProg : Bool) (s : State),
      s.writes a rSEMMOVE = true →
      s.mov.pending = false →
      fSEMMOVE_NEW.of v.toNat < s.fget fSEMCFG_NCHIPS →
      s.kLast + 2 ≤ fSEMMOVE_M.of v.toNat →
      otherK + 2 ≤ fSEMMOVE_M.of v.toNat →
      noProg = false →
      ∃ t, exec (.moveArm a v otherK noProg) s = .next t ∧ t.answer = ⟨.done, 0⟩ ∧ t.fget fSEMSTAT_MOVE = semArmed ∧
        t.mov = { pending := true, bucket := fSEMMOVE_BUCKET.of v.toNat, newHome := fSEMMOVE_NEW.of v.toNat, oldHome := s.seamHome (fSEMMOVE_BUCKET.of v.toNat), m := fSEMMOVE_M.of v.toNat } ∧
        t.flag fSEMSTAT_SIDE = decide (fSEMMOVE_NEW.of v.toNat = s.self) ∧ t.fget fSEMMOVE_BUCKET = fSEMMOVE_BUCKET.of v.toNat ∧ t.fget fSEMMOVE_NEW = fSEMMOVE_NEW.of v.toNat ∧
        t.fget fSEMMOVE_M = fSEMMOVE_M.of v.toNat ∧ (∀ r, r ≠ rSEMMOVE → r ≠ fSEMSTAT_MOVE.reg → t.reg r = s.reg r) ∧ t = { (s.dropStage rSEMMOVE) with csr := t.csr, mov := t.mov, answer := t.answer }) ∧
    (∀ (a : Agent) (v : DWord) (otherK : Int) (noProg : Bool) (s : State),
      s.writes a rSEMMOVE = true →
      s.mov.pending = true →
      exec (.moveArm a v otherK noProg) s = .next (((s.dropStage rSEMMOVE).fset fSEMSTAT_STATUS Status.badArgument.code).say .badArgument)) ∧
    (∀ (a : Agent) (v : DWord) (otherK : Int) (noProg : Bool) (s : State),
      s.writes a rSEMMOVE = true →
      s.mov.pending = false →
      (s.fget fSEMCFG_NCHIPS ≤ fSEMMOVE_NEW.of v.toNat ∨ fSEMMOVE_M.of v.toNat < s.kLast + 2 ∨ fSEMMOVE_M.of v.toNat < otherK + 2 ∨ noProg = true) →
      exec (.moveArm a v otherK noProg) s = .next ((((s.dropStage rSEMMOVE).setMov { s.mov with otherK := otherK, noProg := noProg }).fset fSEMSTAT_STATUS Status.badArgument.code).say .badArgument)) ∧
    (∀ (b : List Byte) (poison : List Nat) (last : Bool) (s : State),
      s.clocked = true →
      (s.moveIsB = false ∨ s.mov.committed = true ∨ (b ≠ [] ∧ (b.length ≠ 5352 ∨ (EptEntry.parse (sub b 5320 32)).seamb ≠ s.mov.bucket))) →
      exec (.moveReceive b poison last) s = .next s) ∧
    (∀ (b : List Byte) (poison : List Nat) (last : Bool) (s : State) (u : State),
      s.clocked = true →
      s.moveIsB = true →
      s.mov.committed = false →
      b.length = 5352 →
      (EptEntry.parse (sub b 5320 32)).seamb = s.mov.bucket →
      s.endpointWrite b poison = (.done, u) →
      ∃ t, exec (.moveReceive b poison last) s = .next t ∧ t = ((((u.seamMsg s.mov.oldHome seamGotMove s.mov.bucket).shadowP 0x0C b poison (.moveIn s.mov.bucket)).setMov { s.mov with
            received := s.mov.received ++ [(EptEntry.parse (sub b 5320 32)).epi], expected := if last then some (s.mov.received.length + 1) else s.mov.expected, ckptWait := true, recvAt := s.time.raw }).fset fSEMSTAT_MOVE semCut) ∧
        t.mem = u.mem ∧ t.epiMap = u.epiMap ∧ t.poison = u.poison ∧ t.fget fSEMSTAT_MOVE = semCut) ∧
    (∀ (b : List Byte) (poison : List Nat) (last : Bool) (s : State) (status : Status) (u : State),
      s.clocked = true →
      s.moveIsB = true →
      s.mov.committed = false →
      b.length = 5352 →
      (EptEntry.parse (sub b 5320 32)).seamb = s.mov.bucket →
      s.endpointWrite b poison = (status, u) →
      status ≠ .done →
      exec (.moveReceive b poison last) s = .next (s.fset fSEMSTAT_STATUS status.code)) ∧
    (∀ (b : List Byte) (poison : List Nat) (s v : State) (status : Status) (epi : Nat),
      epi = (EptEntry.parse (sub b 5320 32)).epi →
      s.eptWrite (entryWithType (sub b 5320 32) eptLocal) = (status, v) →
      (status ≠ .done → s.endpointWrite b poison = (status, s)) ∧
        (status = .done → (s.endpointWrite b poison).1 = .done ∧ (s.endpointWrite b poison).2.mem =
          (((((((v.write (v.pageAddr epi) (sub b 0 4096)).write (v.tackAddr epi) (sub b 4096 1024)).write (v.secAddr epi) (sub b 5120 128)).write (resvAddr epi) (sub b 5248 8)).write
            (v.pktAddr epi) (sub b 5256 64)).secPut epi 16 8 (resvCeil (le b 5248 8))).secPut epi 24 8 (resvCeil (le b 5248 8))).mem ∧
          (s.endpointWrite b poison).2 = { v with mem := (s.endpointWrite b poison).2.mem, poison := (s.endpointWrite b poison).2.poison, soft := (s.endpointWrite b poison).2.soft } ∧
          (poison.all fun g => (s.endpointWrite b poison).2.poison.contains (if g < 512 then v.pageAddr epi / 8 + g else v.tackAddr epi / 8 + (g - 512))) = true)) ∧
    (∀ (poison : List Nat) (last : Bool) (s : State),
      s.clocked = true →
      s.moveIsB = true →
      s.mov.committed = false →
      (¬ (s.mov.expected.isSome = true ∧ s.mov.ckptWait = false ∧ s.held (.moveIn s.mov.bucket) = false) ∨ s.ingestOpen = false ∨ s.ldg.inq ≠ []) →
      exec (.moveReceive [] poison last) s = .next s) ∧
    (∀ (poison : List Nat) (last : Bool) (s u v : State),
      s.clocked = true →
      s.moveIsB = true →
      s.mov.committed = false →
      (s.mov.expected.isSome = true ∧ s.mov.ckptWait = false ∧ s.held (.moveIn s.mov.bucket) = false) →
      s.ingestOpen = true →
      s.ldg.inq = [] →
      s.ringTakes ⟨jkMoveIn, 1, 0, moveBody s.mov.bucket s.mov.m⟩ = true →
      u = (s.journaled ⟨jkMoveIn, 1, 0, moveBody s.mov.bucket s.mov.m⟩) →
      v = (((((s.mov.received.foldl (fun t e => t.poke (t.pageAddr e + 8) 8 u.lastIsn) u).setMov { s.mov with committed := true }).fset fSEMSTAT_MOVE semCommitted)).seamChange s.mov.bucket s.self) →
      ∃ t, exec (.moveReceive [] poison last) s = .next t ∧ t = (List.range (v.fget fSEMCFG_NCHIPS)).foldl (fun x c => if c = x.self then x else x.seamMsg c seamMoved s.mov.bucket) v ∧
        t.lastIsn = s.lastIsn + 1 ∧ t.mov = { s.mov with committed := true } ∧ t.seamHome s.mov.bucket = s.self % 8 ∧ t.seamMoving s.mov.bucket = false ∧ t.fget fSEMSTAT_MOVE = semCommitted) ∧
    (∀ (b : BitVec 12) (home : BitVec 3) (s : State),
      s.clocked = true →
      s.moveIsB = true →
      s.mov.bucket = b.toNat →
      exec (.moved b home) s = .next (if s.mov.committed then s.moveEnd 0 else s)) ∧
    (∀ (n : Nat) (s : State),
      (s.dun.offered = none → s.moveEnd n = ((s.setMov {}).fset fSEMSTAT_MOVE semNone).fset fSEMSTAT_STATUS n) ∧
        (∀ x, s.dun.offered = some x → s.moveEnd n = (((((s.setMov {}).fset fSEMSTAT_MOVE semNone).fset fSEMSTAT_STATUS n).setDun { s.dun with offered := none }).mapAdopt x.1 x.2))) ∧
    (∀ (b : BitVec 12) (home : BitVec 3) (s : State) (u : State),
      s.clocked = true →
      s.moveIsA = true →
      s.mov.bucket = b.toNat →
      s.mov.cutAt.isSome = true →
      s.ringTakes ⟨jkMoveOut, 1, 0, moveBody b.toNat s.mov.m⟩ = true →
      u = (s.journaled ⟨jkMoveOut, 1, 0, moveBody b.toNat s.mov.m⟩) →
      ∃ v t, exec (.moved b home) s = .next t ∧ v = ((u.bucketEpis b.toNat).foldl (fun x e => match x.epiSlot e with | some i => x.eptClear i | none => x) u).seamChange b.toNat home.toNat ∧
        t = (v.moveEnd 0).seamMsg home.toNat seamGotMoved b.toNat ∧ t.lastIsn = s.lastIsn + 1 ∧ t.mov = {} ∧ t.fget fSEMSTAT_MOVE = semNone ∧
        (s.dun.offered = none → t.seamHome b.toNat = home.toNat ∧ t.seamMoving b.toNat = false)) ∧
    (∀ (b : BitVec 12) (home : BitVec 3) (s : State),
      s.clocked = true →
      s.moveIsA = true →
      s.mov.bucket = b.toNat →
      s.mov.cutAt.isSome = true →
      s.isActive = false →
      (2 ^ 48 - 2 ^ 25 < s.lastIsn + 1 ∨ s.reserveBars jkMoveOut (needAll (s.fget fMRMHEAD_OFFSET) [⟨jkMoveOut, 1, 0, moveBody b.toNat s.mov.m⟩]) = true ∨ ringSize < s.ringUsed + needAll (s.fget fMRMHEAD_OFFSET) [⟨jkMoveOut, 1, 0, moveBody b.toNat s.mov.m⟩]) →
      exec (.moved b home) s = .next s) ∧
    (∀ (b : BitVec 12) (home : BitVec 3) (s : State),
      s.clocked = true →
      (s.moveIsB = false ∨ s.mov.bucket ≠ b.toNat) →
      (s.moveIsA = false ∨ s.mov.bucket ≠ b.toNat ∨ s.mov.cutAt = none) →
      ∃ u v t, exec (.moved b home) s = .next t ∧ u = (if s.seamHome b.toNat = home.toNat ∧ s.seamMoving b.toNat = false then s else s.seamChange b.toNat home.toNat) ∧
        v = (if u.mov.pending = true ∧ u.mov.bucket = b.toNat then u.moveEnd 0 else u) ∧
        t = (if home.toNat = s.self then v else v.seamMsg home.toNat seamGotMoved b.toNat)) ∧
    (∀ (b : BitVec 12) (home : BitVec 3) (s : State),
      s.clocked = true →
      s.mov.pending = false →
      ¬(s.seamHome b.toNat = home.toNat ∧ s.seamMoving b.toNat = false) →
      ∃ t, exec (.moved b home) s = .next t ∧ t.seamHome b.toNat = home.toNat ∧ t.seamMoving b.toNat = false ∧ t.fget fSEMEPOCH_EPOCH = (s.fget fSEMEPOCH_EPOCH + 1) % 2 ^ 32 ∧
        (∀ x, x < seamAddr b.toNat ∨ seamAddr b.toNat + 4 ≤ x → t.byte x = s.byte x)) ∧
    (∀ (s : State) (c : Nat),
      s.clocked = true →
      s.mov.cutAt = some c →
      s.moveIsA = true →
      s.mov.asked = false →
      c + secRaw (s.fget fSEMCFG_MOVETMO) ≤ s.time.raw →
      exec .moveTimeout s = .next ((s.seamMsg s.mov.newHome seamAsk s.mov.bucket).setMov { s.mov with asked := true })) ∧
    (∀ (s : State),
      s.clocked = true →
      (s.mov.cutAt.all fun c => !s.moveIsA || s.mov.asked || decide (s.time.raw < c + secRaw (s.fget fSEMCFG_MOVETMO))) = true →
      exec .moveTimeout s = .next s) ∧
    (∀ (s : State) (chip op n : Nat),
      s.seamMsg chip op n = s.chipSend chip 2 0x04 (BitVec.ofNat 8 op :: beBytes 2 n) []) ∧
    (∀ (a : Agent) (v : DWord) (s u : State),
      s.writes a rSEMMOVE = true →
      u = ((((s.dropStage rSEMMOVE).fset fSEMMOVE_BUCKET (fSEMMOVE_BUCKET.of v.toNat)).fset fSEMMOVE_NEW (fSEMMOVE_NEW.of v.toNat)).fset fSEMMOVE_M (fSEMMOVE_M.of v.toNat)) →
      s.mov.pending = false →
      exec (.moveAbort a (.write v)) s = .next (u.say .done)) ∧
    (∀ (a : Agent) (v : DWord) (s u : State),
      s.writes a rSEMMOVE = true →
      u = ((((s.dropStage rSEMMOVE).fset fSEMMOVE_BUCKET (fSEMMOVE_BUCKET.of v.toNat)).fset fSEMMOVE_NEW (fSEMMOVE_NEW.of v.toNat)).fset fSEMMOVE_M (fSEMMOVE_M.of v.toNat)) →
      s.moveIsB = true →
      exec (.moveAbort a (.write v)) s = .next ((if s.mov.committed then u else u.moveDiscard.moveAbandon).say .done)) ∧
    (∀ (a : Agent) (v : DWord) (s u : State),
      s.writes a rSEMMOVE = true →
      u = ((((s.dropStage rSEMMOVE).fset fSEMMOVE_BUCKET (fSEMMOVE_BUCKET.of v.toNat)).fset fSEMMOVE_NEW (fSEMMOVE_NEW.of v.toNat)).fset fSEMMOVE_M (fSEMMOVE_M.of v.toNat)) →
      s.moveIsA = true →
      exec (.moveAbort a (.write v)) s = .next (((u.seamMsg s.mov.newHome seamAsk s.mov.bucket).setMov { s.mov with asked := true }).say .done)) ∧
    (∀ (a : Agent) (v : DWord) (s u : State),
      s.writes a rSEMMOVE = true →
      u = ((((s.dropStage rSEMMOVE).fset fSEMMOVE_BUCKET (fSEMMOVE_BUCKET.of v.toNat)).fset fSEMMOVE_NEW (fSEMMOVE_NEW.of v.toNat)).fset fSEMMOVE_M (fSEMMOVE_M.of v.toNat)) →
      s.mov.pending = true →
      s.moveIsA = false →
      s.moveIsB = false →
      exec (.moveAbort a (.write v)) s = .next (u.moveAbandon.say .done)) ∧
    (∀ (a : Agent) (s : State),
      s.clocked = true →
      s.moveIsB = true →
      s.mov.committed = false →
      exec (.moveAbort a .ask) s = .next ((s.seamMsg s.mov.oldHome seamAborted s.mov.bucket).moveDiscard.moveAbandon)) ∧
    (∀ (a : Agent) (s : State),
      s.clocked = true →
      s.mov.pending = true →
      s.mov.committed = true →
      exec (.moveAbort a .ask) s = .next (s.seamMsg s.mov.oldHome seamCommitted s.mov.bucket)) ∧
    (∀ (a : Agent) (s : State),
      s.clocked = true →
      (s.mov.pending = false ∨ (s.moveIsB = false ∧ s.mov.committed = false)) →
      exec (.moveAbort a .ask) s = .next s) ∧
    (∀ (a : Agent) (s : State),
      s.clocked = true →
      s.moveIsA = true →
      exec (.moveAbort a .aborted) s = .next ((if s.mov.cutAt.isSome then s.seamPut s.mov.bucket s.self 0 false else s).moveAbandon)) ∧
    (∀ (a : Agent) (s : State),
      s.clocked = true →
      s.moveIsA = true →
      exec (.moveAbort a .committed) s = .next (s.fset fSEMSTAT_MOVE semCommitted)) ∧
    (∀ (a : Agent) (s : State),
      s.clocked = true →
      s.moveIsA = false →
      exec (.moveAbort a .aborted) s = .next s) ∧
    (∀ (a : Agent) (s : State),
      s.clocked = true →
      s.moveIsA = false →
      exec (.moveAbort a .committed) s = .next s) ∧
    (∀ (s : State),
      s.moveAbandon.mov = {} ∧ s.moveAbandon.fget fSEMSTAT_MOVE = semNone ∧ (Status.all.any fun x => x.code = s.moveAbandon.fget fSEMSTAT_STATUS) = true ∧
        (s.dun.offered = none → s.moveAbandon.freeCtr = s.freeCtr + 1 ∧ s.moveAbandon.mem = s.mem) ∧
        s.moveDiscard = s.mov.received.foldl (fun t e => match t.epiSlot e with | some i => t.eptClear i | none => t) s)

/-- INIT, on a serving chip with REPCFG.EN and no session, and INIT_TIMEOUT, when RTO has passed over an unanswered INIT, open a
session: SID, nonce and the secret's encapsulation are drawn, the INIT signed and sent. A fenced engine or a missing key opens
none; where no signature comes, only draws are used up. A sound ACCEPT derives the keys and acknowledges the session. ACCEPT,
BACK and CLOSE of no session, of a bad header or of a bad tag, and a BACK that repeats, are counted as bad; while all AES
engines are fenced they do nothing. BATCH_CLOSE takes the records that fit: in HOLDOVER they go to the hold store, which drops
what it has no room for; in SERVICE they wait for a number, and what overfills the report buffer spills, oldest first. Batches
go out as session and window allow, stored ones first, each with the next BSEQ, and with its signature where signing is asked. A
sound BACK takes every batch up to CUM from flight, in the current or the old session, and from the hold store, and marks the
event records it covers. BATCH_RESEND sends what is overdue again, byte for byte. SESSION_REKEY keeps a session past its time as
the old one and opens another; OLD_SESSION_EXPIRY ends the old one after 60 s. CLOSE ends the session from either side; its
unacknowledged batches, unless stored, wait for new numbers. (R471, R472, R473, R474, R475, R477, R478, R480, R481, R482, R644) -/
def Obligations.ReportSessions : Prop :=
    (∀ (s : State),
      (s.fenced 8 = true ∨ s.fenced 9 = true ∨ s.fenced 10 = true ∨ s.aesGone = true) →
      s.sesOpen = s) ∧
    (∀ (s : State) (x : Status × KeySlot),
      x = s.deliver (s.fget fREPKEYS_CKEY) mKem →
      (x.1 ≠ .done ∨ (x.2.typ ≠ ktKemPub ∧ x.2.typ ≠ ktKemPriv)) →
      s.sesOpen = s) ∧
    (∀ (s : State) (k : KeySlot),
      s.fenced 8 = false →
      s.fenced 9 = false →
      s.fenced 10 = false →
      s.aesGone = false →
      s.deliver (s.fget fREPKEYS_CKEY) mKem = (.done, k) →
      (k.typ = ktKemPub ∨ k.typ = ktKemPriv) →
      ((s.deliver 0 mDsa).1 ≠ .done ∨ (s.deliver 0 mDsa).2.typ ≠ ktDsaPriv ∨ s.key.entropyBad = true) →
      s.sesOpen = s.drawn 3) ∧
    (∀ (s : State) (k k0 : KeySlot),
      s.fenced 8 = false →
      s.fenced 9 = false →
      s.fenced 10 = false →
      s.aesGone = false →
      s.deliver (s.fget fREPKEYS_CKEY) mKem = (.done, k) →
      (k.typ = ktKemPub ∨ k.typ = ktKemPriv) →
      s.deliver 0 mDsa = (.done, k0) →
      k0.typ = ktDsaPriv →
      s.key.entropyBad = false →
      (Config.dsaStuck (Config.freeDraw (s.freeCtr + 3)) = true → s.sesOpen = s.drawn 3) ∧
        (Config.dsaStuck (Config.freeDraw (s.freeCtr + 3)) = false →
          s.sesOpen = ((s.sesParts 0x01 (s.draw % 2 ^ 64) ((beBytes 8 (s.fget fKEYID_EUI) ++ leBytes 32 (Config.freeDraw (s.freeCtr + 1)) ++ sub (Config.kemEncaps (s.publicOf k) (Config.freeDraw (s.freeCtr + 2))).1 0 1568) ++ (sub (Config.dsaSign k0.mat (sha3_512 (beBytes 8 (s.fget fKEYID_EUI) ++ leBytes 32 (Config.freeDraw (s.freeCtr + 1)) ++ sub (Config.kemEncaps (s.publicOf k) (Config.freeDraw (s.freeCtr + 2))).1 0 1568)) ctxSes (Config.freeDraw (s.freeCtr + 3))) 0 sigBytes))).foldl State.sesSend ((s.drawn 4).setCur (some {
            sid := s.draw % 2 ^ 64, nonceD := leBytes 32 (Config.freeDraw (s.freeCtr + 1)), initAt := s.time.raw
            secret := sub (Config.kemEncaps (s.publicOf k) (Config.freeDraw (s.freeCtr + 2))).2 0 32 }))).sesRegs)) ∧
    (∀ (s : State) (d : List Byte) (u : State),
      u = s.sesSend d →
      (s.fget fREPDPORT_UPLINK = s.self → u = s.udpOut (some s.ses.port) (s.fget fREPDEST_ADDR) (s.fget fREPCFG_PORT) (s.fget fREPDPORT_DPORT) d) ∧
        (s.fget fREPDPORT_UPLINK ≠ s.self → u = s.chipSend (s.fget fREPDPORT_UPLINK) 1 0x03 d []) ∧ u.ses = s.ses ∧
        u = { s with csr := u.csr, freeCtr := u.freeCtr, mem := u.mem, poison := u.poison, soft := u.soft, evr := u.evr, wire := u.wire, nfc := u.nfc, dun := u.dun, delivered := u.delivered }) ∧
    (∀ (s : State) (mtype sid : Nat) (body : List Byte),
      s.sesParts mtype sid body = (List.range ((body.length + 1199) / 1200)).map (fun i =>
          beBytes 2 0x4B4E ++ [0x01] ++ beBytes 1 mtype ++ beBytes 1 (16 * i + (body.length + 1199) / 1200) ++ beBytes 1 s.self ++ [0, 0] ++ beBytes 8 sid ++ (body.drop (1200 * i)).take 1200)) ∧
    (∀ (s : State),
      s.clocked = true →
      s.serving = true →
      s.flag fREPCFG_EN = true →
      s.ses.cur = none →
      exec .init s = .next s.sesOpen) ∧
    (∀ (s : State),
      s.clocked = true →
      (s.serving = false ∨ s.flag fREPCFG_EN = false ∨ s.ses.cur.isSome = true) →
      exec .init s = .next s) ∧
    (∀ (s : State) (c : Sess),
      s.clocked = true →
      s.ses.cur = some c →
      c.ack = false →
      c.initAt + msRaw (s.fget fREPTMR_RTO) ≤ s.time.raw →
      exec .initTimeout s = .next s.sesOpen) ∧
    (∀ (s : State),
      s.clocked = true →
      (s.ses.cur.all fun c => c.ack || decide (s.time.raw < c.initAt + msRaw (s.fget fREPTMR_RTO))) = true →
      exec .initTimeout s = .next s) ∧
    (∀ (d : List Byte) (s : State) (c : Sess),
      s.clocked = true →
      s.aesGone = false →
      s.ses.cur = some c →
      dgramOk d 0x02 72 = true →
      be d 8 8 = c.sid →
      c.ack = false →
      be d 49 7 = 0 →
      sesTag ((shake256 (c.secret ++ beBytes 8 c.sid ++ c.nonceD ++ sub d 16 32) 64).drop 32) 1 0 (d.take 56) = d.drop 56 →
      exec (.accept d) s = .next ((s.setCur (some { c with kUp := (shake256 (c.secret ++ beBytes 8 c.sid ++ c.nonceD ++ sub d 16 32) 64).take 32, kDown := (shake256 (c.secret ++ beBytes 8 c.sid ++ c.nonceD ++ sub d 16 32) 64).drop 32, ack := true, openAt := s.time.raw, sign := bit (be d 48 1) 0 })).sendBatches)) ∧
    (∀ (d : List Byte) (s : State) (c : Sess),
      s.clocked = true →
      s.aesGone = false →
      s.ses.cur = some c →
      dgramOk d 0x02 72 = true →
      be d 8 8 = c.sid →
      c.ack = false →
      be d 49 7 = 0 →
      sesTag ((shake256 (c.secret ++ beBytes 8 c.sid ++ c.nonceD ++ sub d 16 32) 64).drop 32) 1 0 (d.take 56) ≠ d.drop 56 →
      exec (.accept d) s = .next (s.badDgram d .tagFail)) ∧
    (∀ (d : List Byte) (s : State) (c : Sess),
      s.clocked = true →
      s.aesGone = false →
      s.ses.cur = some c →
      (dgramOk d 0x02 72 = false ∨ be d 8 8 ≠ c.sid ∨ c.ack = true ∨ be d 49 7 ≠ 0) →
      exec (.accept d) s = .next (s.badDgram d .sessionViolation)) ∧
    (∀ (d : List Byte) (s : State),
      s.clocked = true →
      s.aesGone = false →
      s.ses.cur = none →
      exec (.accept d) s = .next (s.badDgram d .sessionViolation)) ∧
    (∀ (d : List Byte) (s : State),
      s.clocked = true →
      s.aesGone = true →
      exec (.accept d) s = .next s ∧ exec (.back d) s = .next s ∧ exec (.close d) s = .next s) ∧
    (∀ (s : State) (d : List Byte) (x : Status),
      (x ≠ .sessionViolation → s.badDgram d x = s.fset fREPBADDG_COUNT (satAdd 32 (s.fget fREPBADDG_COUNT) 1)) ∧
        s.badDgram d .sessionViolation = (s.fset fREPBADDG_COUNT (satAdd 32 (s.fget fREPBADDG_COUNT) 1)).refused5 .sessionViolation 0x3A 0 d.length s.ses.port 0 ∧
        dgramOk d x.code 48 = decide (d.length = 48 ∧ be d 0 2 = 0x4B4E ∧ be d 2 1 = 1 ∧ be d 3 1 = x.code ∧ be d 6 2 = 0)) ∧
    (∀ (s : State) (fit : List (Nat × Rec)),
      s.clocked = true →
      s.serving = true →
      s.flag fREPCFG_EN = true →
      s.closing = some fit →
      s.mode = modeHoldover →
      exec .batchClose s = .next ((({ s with merged := s.merged.drop fit.length } : State).holdPut (fit.map (·.2))).sesRegs)) ∧
    (∀ (s : State) (fit : List (Nat × Rec)) (u : State),
      s.clocked = true →
      s.serving = true →
      s.flag fREPCFG_EN = true →
      s.closing = some fit →
      s.mode = modeService →
      u = { s with merged := s.merged.drop fit.length, ses := { s.ses with ready := s.ses.ready ++ [fit.map (·.2)] } } →
      exec .batchClose s = .next (u.sendBatches.spill.sesRegs)) ∧
    (∀ (s : State),
      s.clocked = true →
      s.serving = true →
      s.flag fREPCFG_EN = true →
      s.closing = none →
      exec .batchClose s = .next s.sendBatches) ∧
    (∀ (s : State),
      s.clocked = true →
      (s.serving = false ∨ s.flag fREPCFG_EN = false) →
      exec .batchClose s = .next s) ∧
    (∀ (s : State) (r : Nat × Rec) (l : List (Nat × Rec)) (fit : List (Nat × Rec)),
      s.merged = r :: l →
      fit = r :: fitRecs (s.fget fREPCFG_MTU - 96 - r.2.bytes.length) l →
      s.closing = if fit.length < s.merged.length ∨ r.1 + msRaw (10 * s.fget fREPCFG_FLUSHMS) ≤ s.time.raw then some fit else none) ∧
    (∀ (s : State) (l : List Rec),
      (s.flag fREPSTAT_HOLDFULL = false ∧ s.flag fNFCSTAT_RO = false ∧ s.holdBytes + (recsBytes l).length ≤ s.fget fREPHOLD_BUDGET * 2 ^ 30 →
          s.holdPut l = { s with ses := { s.ses with hold := s.ses.hold ++ [l] } }) ∧
        (s.flag fREPSTAT_HOLDFULL = true ∨ s.flag fNFCSTAT_RO = true ∨ s.fget fREPHOLD_BUDGET * 2 ^ 30 < s.holdBytes + (recsBytes l).length →
          ∃ t, s.holdPut l = t ∧ t.flag fREPSTAT_HOLDFULL = true ∧ t.fget fREPHOLDDROP_COUNT = satAdd 32 (s.fget fREPHOLDDROP_COUNT) l.length ∧
            t = { s with csr := t.csr, ses := { s.ses with drops := s.ses.drops + l.length, dropFirst := (if s.ses.drops = 0 then cut 32 s.kLast else s.ses.dropFirst), dropLast := cut 32 s.kLast } })) ∧
    (∀ (s : State) (c : Sess),
      s.ses.cur = some c →
      (s.mode ≠ modeService ∨ s.aesGone = true ∨ c.ack = false ∨ c.closed = true ∨ s.fget fREPCFG_WIN ≤ c.flight.length ∨ 2 ^ 32 ≤ c.bseq ∨ s.nextBatch = none) →
      s.sendBatch = s) ∧
    (∀ (s : State),
      s.ses.cur = none →
      s.sendBatch = s) ∧
    (∀ (s : State) (c : Sess) (recs : List Rec) (stored : Bool),
      s.ses.cur = some c →
      s.mode = modeService →
      s.aesGone = false →
      c.ack = true →
      c.closed = false →
      c.flight.length < s.fget fREPCFG_WIN →
      c.bseq < 2 ^ 32 →
      s.nextBatch = some (recs, stored) →
      c.sign = false →
      s.flag fREPCFG_SIGN = false →
      s.sendBatch = (s.setSes { s.ses with cur := some { c with bseq := c.bseq + 1, flight := c.flight ++ [⟨c.bseq, recs, [(s.batchDgram c recs stored false)], s.time.raw, true, stored⟩] }, ready := (if stored then s.ses.ready else s.ses.ready.drop 1) }).sesSend (s.batchDgram c recs stored false)) ∧
    (∀ (s : State) (c : Sess) (recs : List Rec) (stored : Bool),
      s.ses.cur = some c →
      s.mode = modeService →
      s.aesGone = false →
      c.ack = true →
      c.closed = false →
      c.flight.length < s.fget fREPCFG_WIN →
      c.bseq < 2 ^ 32 →
      s.nextBatch = some (recs, stored) →
      (c.sign = true ∨ s.flag fREPCFG_SIGN = true) →
      ((s.signWith 0 (beBytes 8 c.sid ++ beBytes 8 c.bseq ++ recsBytes recs) ctxBat).1 ≠ .done ∨ s.fenced 9 = true → s.sendBatch = s) ∧
        ((s.signWith 0 (beBytes 8 c.sid ++ beBytes 8 c.bseq ++ recsBytes recs) ctxBat).1 = .done ∧ s.fenced 9 = false → s.sendBatch = (s.batchDgram c recs stored true :: s.sesParts 0x05 c.sid (beBytes 8 c.bseq ++ (s.signWith 0 (beBytes 8 c.sid ++ beBytes 8 c.bseq ++ recsBytes recs) ctxBat).2)).foldl State.sesSend ((s.drawn 1).setSes { s.ses with cur := some { c with bseq := c.bseq + 1, flight := c.flight ++ [⟨c.bseq, recs, (s.batchDgram c recs stored true :: s.sesParts 0x05 c.sid (beBytes 8 c.bseq ++ (s.signWith 0 (beBytes 8 c.sid ++ beBytes 8 c.bseq ++ recsBytes recs) ctxBat).2)), s.time.raw, true, stored⟩] }, ready := (if stored then s.ses.ready else s.ses.ready.drop 1) }))) ∧
    (∀ (s : State) (c : Sess) (recs : List Rec) (stored signed : Bool),
      s.batchDgram c recs stored signed = (s.sesHeader 0x03 0 1 c.sid ++ beBytes 8 c.bseq ++ beBytes 1 (b2n signed + 2 * b2n stored) ++ beBytes 2 recs.length ++ List.replicate 5 0) ++ ofNats (gcmCrypt (nats c.kUp) (nats ([0x42, 0, 0, 0] ++ beBytes 8 c.bseq)) (nats (recsBytes recs))) ++
          ofNats (gcmTag (nats c.kUp) (nats ([0x42, 0, 0, 0] ++ beBytes 8 c.bseq)) (nats (s.sesHeader 0x03 0 1 c.sid ++ beBytes 8 c.bseq ++ beBytes 1 (b2n signed + 2 * b2n stored) ++ beBytes 2 recs.length ++ List.replicate 5 0)) (gcmCrypt (nats c.kUp) (nats ([0x42, 0, 0, 0] ++ beBytes 8 c.bseq)) (nats (recsBytes recs))))) ∧
    (∀ (s : State),
      (∀ l, (s.ses.hold.drop s.storedOut).head? = some l → s.nextBatch = some (l, true)) ∧
        (s.ses.hold.length ≤ s.storedOut → s.nextBatch = s.ses.ready.head?.map fun l => (l, false)) ∧
        s.sendBatches = ((List.range (s.ses.hold.length + s.ses.ready.length)).foldl (fun t _ => t.sendBatch) s).sesRegs) ∧
    (∀ (s : State),
      (s.bufBytes ≤ s.fget fREPBUF_SIZE * 2 ^ 20 → s.spill = s.setFlag fREPSTAT_SPILL false) ∧
        (s.fget fREPBUF_SIZE * 2 ^ 20 < s.bufBytes → s.spill = (List.range s.ses.ready.length).foldl (fun t _ => if t.bufBytes ≤ t.fget fREPBUF_SIZE * 2 ^ 20 then t else t.spillOne) s) ∧
        (s.ses.ready = [] → s.spillOne = s) ∧
        (∀ x, s.ses.ready.head? = some x → s.spillOne = ((s.setSes { s.ses with ready := s.ses.ready.drop 1 }).holdPut x).setFlag fREPSTAT_SPILL true)) ∧
    (∀ (s : State),
      s.sesRegs.fget fREPHOLDUSE_BYTES = s.holdBytes % 2 ^ 64 ∧
        (s.ses.cur = none → s.sesRegs.fget fREPSTAT_SESS = 0 ∧ s.sesRegs.fget fREPSTAT_INFLIGHT = 0) ∧
        (∀ c, s.ses.cur = some c → s.sesRegs.fget fREPSTAT_SESS = (if c.ack then 2 else 1) ∧ s.sesRegs.fget fREPSTAT_INFLIGHT = c.flight.length % 256 ∧
          s.sesRegs.reg rREPSID = c.sid % 2 ^ 64 ∧ s.sesRegs.reg rREPBSEQ = c.bseq % 2 ^ 64) ∧ s.sesRegs = { s with csr := s.sesRegs.csr }) ∧
    (∀ (d : List Byte) (s : State) (c : Sess),
      s.clocked = true →
      s.aesGone = false →
      dgramOk d 0x04 48 = true →
      s.ses.cur = some c →
      c.ack = true →
      c.sid = be d 8 8 →
      sesTag c.kDown 1 (be d 16 8) (d.take 32) = d.drop 32 →
      c.ackSeq < be d 16 8 →
      exec (.back d) s = .next ((s.setCur (some { c with ackSeq := be d 16 8, flight := c.flight.filter fun b => decide (be d 24 8 < b.bseq) })).covered (c.flight.filter fun b => decide (b.bseq ≤ be d 24 8)))) ∧
    (∀ (d : List Byte) (s : State) (c : Sess),
      s.clocked = true →
      s.aesGone = false →
      dgramOk d 0x04 48 = true →
      s.ses.cur = some c →
      c.ack = true →
      c.sid = be d 8 8 →
      sesTag c.kDown 1 (be d 16 8) (d.take 32) ≠ d.drop 32 →
      exec (.back d) s = .next (s.badDgram d .tagFail)) ∧
    (∀ (d : List Byte) (s : State) (c : Sess),
      s.clocked = true →
      s.aesGone = false →
      dgramOk d 0x04 48 = true →
      s.ses.cur = some c →
      c.ack = true →
      c.sid = be d 8 8 →
      sesTag c.kDown 1 (be d 16 8) (d.take 32) = d.drop 32 →
      be d 16 8 ≤ c.ackSeq →
      exec (.back d) s = .next (s.badDgram d .replay)) ∧
    (∀ (d : List Byte) (s : State) (c : Sess) (at_ : Nat),
      s.clocked = true →
      s.aesGone = false →
      dgramOk d 0x04 48 = true →
      (s.ses.cur.all fun x => !x.ack || decide (x.sid ≠ be d 8 8)) = true →
      s.ses.old = some (c, at_) →
      c.sid = be d 8 8 →
      sesTag c.kDown 1 (be d 16 8) (d.take 32) = d.drop 32 →
      c.ackSeq < be d 16 8 →
      exec (.back d) s = .next ((s.setSes { s.ses with old := some ({ c with ackSeq := be d 16 8, flight := c.flight.filter fun b => decide (be d 24 8 < b.bseq) }, at_) }).covered (c.flight.filter fun b => decide (b.bseq ≤ be d 24 8)))) ∧
    (∀ (d : List Byte) (s : State) (c : Sess) (at_ : Nat),
      s.clocked = true →
      s.aesGone = false →
      dgramOk d 0x04 48 = true →
      (s.ses.cur.all fun x => !x.ack || decide (x.sid ≠ be d 8 8)) = true →
      s.ses.old = some (c, at_) →
      c.sid = be d 8 8 →
      sesTag c.kDown 1 (be d 16 8) (d.take 32) ≠ d.drop 32 →
      exec (.back d) s = .next (s.badDgram d .tagFail)) ∧
    (∀ (d : List Byte) (s : State) (c : Sess) (at_ : Nat),
      s.clocked = true →
      s.aesGone = false →
      dgramOk d 0x04 48 = true →
      (s.ses.cur.all fun x => !x.ack || decide (x.sid ≠ be d 8 8)) = true →
      s.ses.old = some (c, at_) →
      c.sid = be d 8 8 →
      sesTag c.kDown 1 (be d 16 8) (d.take 32) = d.drop 32 →
      be d 16 8 ≤ c.ackSeq →
      exec (.back d) s = .next (s.badDgram d .replay)) ∧
    (∀ (d : List Byte) (s : State),
      s.clocked = true →
      s.aesGone = false →
      (dgramOk d 0x04 48 = false ∨ ((s.ses.cur.all fun x => !x.ack || decide (x.sid ≠ be d 8 8)) = true ∧ (s.ses.old.all fun x => decide (x.1.sid ≠ be d 8 8)) = true)) →
      exec (.back d) s = .next (s.badDgram d .sessionViolation)) ∧
    (∀ (s : State) (gone : List Batch) (r : Rec),
      s.covered gone = (((gone.flatMap (·.recs)).foldl State.coverRec
          (s.setSes { s.ses with hold := (gone.filter (·.stored)).foldl (fun h b => h.erase b.recs) s.ses.hold })).holdEase).sendBatches ∧
        (r.typ ≠ 0xF6 → s.coverRec r = s)) ∧
    (∀ (s : State) (r : Rec) (k : Nat) (x : List Byte),
      r.typ = 0xF6 →
      s.evrRec (recRseq r.body) = some (k, x) →
      (recRepeat x ≠ recRepeat r.body → s.coverRec r = s) ∧
        (recRepeat x = recRepeat r.body → (s.coverRec r).evr = { s.evr with openSet := s.evr.openSet.map fun o => if o.slot = k then { o with data := recPut x 4 2 (setBits (le x 4 2) 15 1 1), dirty := false } else o } ∧
          (s.coverRec r).mem = (s.putRec k (recPut x 4 2 (setBits (le x 4 2) 15 1 1))).mem)) ∧
    (∀ (s : State),
      ((s.flag fREPSTAT_HOLDFULL = false ∨ s.fget fREPHOLD_BUDGET * 2 ^ 30 ≤ s.holdBytes * 2) → s.holdEase = s) ∧
        (s.flag fREPSTAT_HOLDFULL = true ∧ s.holdBytes * 2 < s.fget fREPHOLD_BUDGET * 2 ^ 30 → s.ses.drops = 0 → s.holdEase = s.setFlag fREPSTAT_HOLDFULL false) ∧
        (s.flag fREPSTAT_HOLDFULL = true ∧ s.holdBytes * 2 < s.fget fREPHOLD_BUDGET * 2 ^ 30 → s.ses.drops ≠ 0 → s.holdEase =
          ((s.setFlag fREPSTAT_HOLDFULL false).setSes { s.ses with drops := 0, dropFirst := 0, dropLast := 0 }).pushData ((s.setFlag fREPSTAT_HOLDFULL false).hwRec 0xF4 0 (2 ^ 64 - 1) 0
            (leBytes 4 s.ses.dropFirst ++ leBytes 4 s.ses.dropLast ++ leBytes 8 s.ses.drops)))) ∧
    (∀ (s : State) (c : Sess),
      s.clocked = true →
      s.ses.cur = some c →
      s.mode = modeService →
      s.aesGone = false →
      exec .batchResend s = .next (((c.flight.filter (fun (b : Batch) => decide (b.sentAt + msRaw (s.fget fREPTMR_RTO) ≤ s.time.raw))).flatMap (·.dgrams)).foldl State.sesSend
          ((s.setCur (some { c with flight := c.flight.map fun b => if (fun (b : Batch) => decide (b.sentAt + msRaw (s.fget fREPTMR_RTO) ≤ s.time.raw)) b then { b with sentAt := s.time.raw } else b })).fset fREPRESEND_COUNT
            (satAdd 32 (s.fget fREPRESEND_COUNT) (c.flight.filter (fun (b : Batch) => decide (b.sentAt + msRaw (s.fget fREPTMR_RTO) ≤ s.time.raw))).length)))) ∧
    (∀ (s : State),
      s.clocked = true →
      (s.ses.cur = none ∨ s.mode ≠ modeService ∨ s.aesGone = true) →
      exec .batchResend s = .next s) ∧
    (∀ (s : State) (c : Sess),
      s.clocked = true →
      s.ses.cur = some c →
      c.ack = true →
      (c.openAt + secRaw (3600 * s.fget fREPTMR_REKEYH) ≤ s.time.raw ∨ 2 ^ 32 ≤ c.bseq) →
      s.fenced 8 = false →
      s.fenced 9 = false →
      s.fenced 10 = false →
      s.aesGone = false →
      s.serving = true →
      exec .sessionRekey s = .next (((s.oldEnd.setSes { s.oldEnd.ses with cur := none, old := some (c, s.time.raw) }).sesOpen).sesRegs)) ∧
    (∀ (s : State) (c : Sess),
      s.clocked = true →
      s.ses.cur = some c →
      (c.ack = false ∨ ¬ (c.openAt + secRaw (3600 * s.fget fREPTMR_REKEYH) ≤ s.time.raw ∨ 2 ^ 32 ≤ c.bseq) ∨ s.fenced 8 = true ∨ s.fenced 9 = true ∨ s.fenced 10 = true ∨ s.aesGone = true ∨ s.serving = false) →
      exec .sessionRekey s = .next s) ∧
    (∀ (s : State),
      s.clocked = true →
      s.ses.cur = none →
      exec .sessionRekey s = .next s) ∧
    (∀ (s : State) (c : Sess) (at_ : Nat),
      s.ses.old = some (c, at_) →
      s.oldEnd = { s with ses := { s.ses with old := none, ready := (c.flight.filter fun b => !b.stored).map (·.recs) ++ s.ses.ready } }) ∧
    (∀ (s : State),
      s.ses.old = none →
      s.oldEnd = s) ∧
    (∀ (s : State) (c : Sess) (at_ : Nat),
      s.clocked = true →
      s.ses.old = some (c, at_) →
      at_ + secRaw 60 ≤ s.time.raw →
      exec .oldSessionExpiry s = .next s.oldEnd.sendBatches) ∧
    (∀ (s : State),
      s.clocked = true →
      (s.ses.old.all fun x => decide (s.time.raw < x.2 + secRaw 60)) = true →
      exec .oldSessionExpiry s = .next s) ∧
    (∀ (d : List Byte) (s : State) (c : Sess),
      s.clocked = true →
      s.aesGone = false →
      dgramOk d 0x06 48 = true →
      s.ses.cur = some c →
      c.ack = true →
      c.sid = be d 8 8 →
      sesTag c.kDown 2 (be d 24 8) (d.take 32) = d.drop 32 →
      exec (.close d) s = .next ((s.setSes { s.ses with cur := none, ready := (c.flight.filter fun b => !b.stored).map (·.recs) ++ s.ses.ready }).sesRegs)) ∧
    (∀ (d : List Byte) (s : State) (c : Sess),
      s.clocked = true →
      s.aesGone = false →
      dgramOk d 0x06 48 = true →
      s.ses.cur = some c →
      c.ack = true →
      c.sid = be d 8 8 →
      sesTag c.kDown 2 (be d 24 8) (d.take 32) ≠ d.drop 32 →
      exec (.close d) s = .next (s.badDgram d .tagFail)) ∧
    (∀ (d : List Byte) (s : State) (c : Sess) (at_ : Nat),
      s.clocked = true →
      s.aesGone = false →
      dgramOk d 0x06 48 = true →
      (s.ses.cur.all fun x => !x.ack || decide (x.sid ≠ be d 8 8)) = true →
      s.ses.old = some (c, at_) →
      c.sid = be d 8 8 →
      sesTag c.kDown 2 (be d 24 8) (d.take 32) = d.drop 32 →
      exec (.close d) s = .next (if s.ses.cur.isSome then s.oldEnd.sendBatches else s.oldEnd.sesRegs)) ∧
    (∀ (d : List Byte) (s : State) (c : Sess) (at_ : Nat),
      s.clocked = true →
      s.aesGone = false →
      dgramOk d 0x06 48 = true →
      (s.ses.cur.all fun x => !x.ack || decide (x.sid ≠ be d 8 8)) = true →
      s.ses.old = some (c, at_) →
      c.sid = be d 8 8 →
      sesTag c.kDown 2 (be d 24 8) (d.take 32) ≠ d.drop 32 →
      exec (.close d) s = .next (s.badDgram d .tagFail)) ∧
    (∀ (d : List Byte) (s : State),
      s.clocked = true →
      s.aesGone = false →
      d ≠ [] →
      (dgramOk d 0x06 48 = false ∨ ((s.ses.cur.all fun x => !x.ack || decide (x.sid ≠ be d 8 8)) = true ∧ (s.ses.old.all fun x => decide (x.1.sid ≠ be d 8 8)) = true)) →
      exec (.close d) s = .next (s.badDgram d .sessionViolation)) ∧
    (∀ (s : State) (c : Sess) (u : State),
      s.clocked = true →
      s.aesGone = false →
      s.ses.cur = some c →
      c.ack = true →
      u = s.sesSend ((s.sesHeader 0x06 0 1 c.sid ++ beBytes 1 0 ++ List.replicate 7 0 ++ beBytes 8 c.bseq) ++ sesTag c.kUp 2 c.bseq (s.sesHeader 0x06 0 1 c.sid ++ beBytes 1 0 ++ List.replicate 7 0 ++ beBytes 8 c.bseq)) →
      exec (.close []) s = .next ((u.setSes { s.ses with cur := none, ready := (c.flight.filter fun b => !b.stored).map (·.recs) ++ s.ses.ready }).sesRegs)) ∧
    (∀ (s : State) (c : Sess),
      s.clocked = true →
      s.aesGone = false →
      s.ses.cur = some c →
      c.ack = false →
      exec (.close []) s = .next ((s.setCur none).sesRegs)) ∧
    (∀ (s : State),
      s.clocked = true →
      s.ses.cur = none →
      exec (.close []) s = .next s)

/-- ACT_IN_CHANGE takes ACT_IN_N over and marks since when it has been away; on a standby that may not take over by itself the loss
sets TKOBLOCKED. SHADOW_MESSAGE_APPLY at a standby in the stream applies the message in order, and confirms it unless it ends
OUT: INPUT is journaled under its ISN and posted as ingest would, markers after the round; CEIL and PENDKEY are written to the
reservation and the security record; DIGEST is compared or held, four at most; STATE is written as a move's is; BEAT updates
what is known of the active, ends a catch-up, or starts rescue and full transfer; DETACH takes it OUT and is answered. A gap in
SSEQ takes it OUT, counted and recorded. An OUT standby hears only BEAT and DETACH; the active only BEAT, by which it learns
SYNC and stops being alone; any other chip, or a message with no SSEQ, does nothing. Messages of the active are numbered and
kept in the window unless it is alone. CONFIRM takes the messages it covers from the window and lets what they held happen; one
above the journal does nothing. BEAT goes out when due, numbered at the active. PEER_SILENT sets PEERSILENT on a standby that
heard none. STANDBY_GRACE_EXPIRY takes the standby OUT, ACTIVE_GRACE_EXPIRY and DETACHED leave the active alone, holding
nothing; before their time, or elsewhere, they do nothing. RECORD_KEEP_EXPIRY releases suppressed records that are too old;
while the active is in HOLDOVER it keeps them, the newest within the budget. (R507, R512, R513, R514, R517, R518, R519, R520,
R522, R527, R529, R530) -/
def Obligations.TwinStream : Prop :=
    (∀ (b : Bool) (s u : State),
      u = (s.setFlag fTWNSTAT_ACTIN b).gateFollow →
      ∃ t, exec (.actInChange b) s = .next t ∧ t.flag fTWNSTAT_ACTIN = b ∧
        t.twn = { u.twn with inactSince := if b then none else some (s.twn.inactSince.getD s.time.raw) } ∧ u.twn = s.twn ∧
        (s.isStandby = true ∧ b = false ∧ (s.flag fTWNCFG_AUTOTKO && s.tkoSync) = false → t = (u.setTwn t.twn).setFlag fTWNSTAT_TKOBLOCKED true ∧ t.flag fTWNSTAT_TKOBLOCKED = true) ∧
        (¬(s.isStandby = true ∧ b = false ∧ (s.flag fTWNCFG_AUTOTKO && s.tkoSync) = false) → t = u.setTwn t.twn) ∧ t.mem = s.mem ∧ t.mode = s.mode ∧ t.wire = u.wire ∧ t.pl = u.pl ∧ t.rf = u.rf) ∧
    (∀ (typ : BitVec 4) (p : List Byte) (poison : List Nat) (s : State),
      s.clocked = true →
      (s.twinOn = false ∨ p.length < 8 ∨ (s.isStandby = false ∧ s.isActive = false)) →
      exec (.shadowMessageApply typ p poison) s = .next s) ∧
    (∀ (typ : BitVec 4) (p : List Byte) (poison : List Nat) (s : State),
      s.clocked = true →
      s.twinOn = true →
      8 ≤ p.length →
      s.isStandby = true →
      s.sync = syncOut →
      (typ.toNat = 0x0E → exec (.shadowMessageApply typ p poison) s = .next (s.beatFromActive (p.drop 8))) ∧
        (typ.toNat = 0x0F ∧ be (p.drop 8) 0 1 = ctDetach → exec (.shadowMessageApply typ p poison) s = .next (s.standbySend 0x0F (ctrlBody ctDetached []))) ∧
        (typ.toNat ≠ 0x0E ∧ ¬(typ.toNat = 0x0F ∧ be (p.drop 8) 0 1 = ctDetach) → exec (.shadowMessageApply typ p poison) s = .next s)) ∧
    (∀ (typ : BitVec 4) (p : List Byte) (poison : List Nat) (s : State),
      s.clocked = true →
      s.twinOn = true →
      8 ≤ p.length →
      s.isStandby = true →
      s.sync ≠ syncOut →
      s.twn.adopt = false →
      be p 0 8 ≠ s.twn.expect →
      exec (.shadowMessageApply typ p poison) s = .next (((s.fset fTWNSTAT_SYNC syncOut).fset fTWNGAP_COUNT (satAdd 32 (s.fget fTWNGAP_COUNT) 1)).refused5 .seqGap 0x3D 0 p.length 3 0)) ∧
    (∀ (typ : BitVec 4) (p : List Byte) (poison : List Nat) (s : State) (u : State),
      s.clocked = true →
      s.twinOn = true →
      8 ≤ p.length →
      s.isStandby = true →
      s.sync ≠ syncOut →
      (s.twn.adopt = true ∨ be p 0 8 = s.twn.expect) →
      u = ((((s.setTwn { s.twn with adopt := false, expect := be p 0 8 + 1 }).fset fTWNSSEQ_SSEQ (be p 0 8)).inputDrain).shadowApply typ.toNat (p.drop 8) poison) →
      exec (.shadowMessageApply typ p poison) s = .next (if u.sync = syncOut then u else u.standbySend 0x0D (beBytes 8 (u.twn.expect - 1) ++ beBytes 8 u.lastIsn))) ∧
    (∀ (typ : BitVec 4) (p : List Byte) (poison : List Nat) (s : State),
      s.clocked = true →
      s.twinOn = true →
      8 ≤ p.length →
      s.isStandby = false →
      s.isActive = true →
      (typ.toNat = 0x0E → exec (.shadowMessageApply typ p poison) s = .next (s.beatFromStandby (p.drop 8))) ∧ (typ.toNat ≠ 0x0E → exec (.shadowMessageApply typ p poison) s = .next s)) ∧
    (∀ (s : State) (b : List Byte) (poison : List Nat) (a : Nat),
      a = (if bit (be b 0 4) 0 then slotResvAddr (be b 4 4) else resvAddr (be b 4 4)) →
      s.shadowApply 0x08 b poison = s.inputApply b ∧ s.shadowApply 0x09 b poison = s.write a (sub b 8 8) ∧ s.shadowApply 0x0A b poison = s.write (s.secAddr (be b 0 4) + 32) (sub b 8 48) ∧
        s.shadowApply 0x0B b poison = s.digestTake (be b 0 4) (leNat (sub b 8 32)) ∧
        s.shadowApply 0x0C b poison = ((if s.sync = syncCatchup then s.setFlag fLDGSTAT_REPLAY true else s).endpointWrite b poison).2 ∧
        s.shadowApply 0x0E b poison = s.beatFromActive b ∧ s.shadowApply 0x0D b poison = s ∧
        (be b 0 1 = ctDetach → s.shadowApply 0x0F b poison = (s.fset fTWNSTAT_SYNC syncOut).standbySend 0x0F (ctrlBody ctDetached [])) ∧ (be b 0 1 ≠ ctDetach → s.shadowApply 0x0F b poison = s)) ∧
    (∀ (s u : State) (e : List Byte) (j : JEnt),
      j = ⟨entKind e, entN e, entEpi e, e.drop 16⟩ →
      u = ((s.ringPut j (entIsn e)).fset fMRMLASTISN_ISN (max s.lastIsn (entIsn e + entN e - 1))).setTwn { s.twn with isnSeen := max s.twn.isnSeen (entIsn e + entN e - 1) } →
      s.inputApply e = State.inputRun (u.ldg.inq ++ [e]) u ∧ (entIsn e + entN e ≤ 2 ^ 48 → u.lastIsn = max s.lastIsn (entIsn e + entN e - 1)) ∧ u.ldg = s.ldg) ∧
    (∀ (s : State) (e : List Byte) (es : List (List Byte)),
      State.inputRun [] s = s.setLdg { s.ldg with inq := [] } ∧
        (s.flag fLDGSTAT_ROUND = true ∧ entKind e = jkMarker → State.inputRun (e :: es) s = s.setLdg { s.ldg with inq := e :: es }) ∧
        (¬(s.flag fLDGSTAT_ROUND = true ∧ entKind e = jkMarker) → State.inputRun (e :: es) s = State.inputRun es (s.inputPost e)) ∧
        (s.flag fLDGSTAT_ROUND = true → s.inputDrain = s) ∧ (s.flag fLDGSTAT_ROUND = false → s.inputDrain = State.inputRun s.ldg.inq s)) ∧
    (∀ (s : State) (e d : List Byte),
      d = e.drop 16 →
      (entKind e = jkReadings → s.inputPost e = (s.icAdvance (entEpi e) (max (s.lastIc (entEpi e)) (le d 16 8))).postReadings (entEpi e) (entIsn e) (entryReadings (entN e) d)) ∧
        (entKind e = jkCommand → s.inputPost e = s.postItem (s.commandItem (entEpi e) (le d 2 2) (le d 0 2) (entIsn e) (le d 8 8) (le d 16 4) (le d 20 4)) 2 true) ∧
        (entKind e = jkMarker → s.inputPost e = s.markerApply (le d 0 4) (entIsn e)) ∧ (entKind e = jkMetro → s.inputPost e = s.metroApply d (entIsn e)) ∧
        (entKind e = jkTopo → s.inputPost e = s.topoPend (le d 0 1)) ∧ (entKind e = jkKeygen → s.inputPost e = s.keygenApply (entEpi e) d true) ∧
        (entKind e = jkCut ∨ entKind e = jkMoveIn ∨ entKind e = jkMoveOut → s.inputPost e = s.shadowMove (entKind e) (le d 0 2) (le d 4 4))) ∧
    (∀ (s u : State) (k d : Nat) (l : List (Nat × Nat)),
      l = (s.twn.digests.filter fun e => e.1 ≠ k) ++ [(k, d)] →
      u = s.setTwn { s.twn with digests := l.drop (l.length - 4) } →
      s.digestTake k d = (if s.flag fLDGSTAT_ROUND ∨ s.kLast ≠ (k : Int) then u else u.digestCompare k) ∧
        (∀ x, u.twn.digests.find? (fun e => e.1 = k) = some x → (x.2 = u.reg rLDGDIGEST → u.digestCompare k = u.setTwn { u.twn with digests := u.twn.digests.filter fun e => e.1 ≠ k }) ∧
          (x.2 ≠ u.reg rLDGDIGEST → u.digestCompare k = (u.setTwn { u.twn with digests := u.twn.digests.filter fun e => e.1 ≠ k }).digestMismatch k))) ∧
    (∀ (s u : State) (b : List Byte),
      u = (s.setTwn { s.twn with
          beatIn := s.time.raw, isnSeen := max s.twn.isnSeen (be b 8 8 - 1), peerHold := be b 0 1 = modeHoldover, peerTko := be b 32 8 }).setFlag fTWNSTAT_PEERSILENT false →
      (s.orphaned (be b 32 8) = true → s.beatFromActive b = u.rescueAll (be b 32 8)) ∧
        (s.orphaned (be b 32 8) = false ∧ s.sync = syncCatchup ∧ be b 1 1 = syncCatchup → s.beatFromActive b = (u.fset fTWNSTAT_SYNC syncSynced).setFlag fLDGSTAT_REPLAY false) ∧
        (s.orphaned (be b 32 8) = false ∧ ¬(s.sync = syncCatchup ∧ be b 1 1 = syncCatchup) → s.beatFromActive b = u) ∧
        (s.orphaned (be b 32 8) = true ↔ be b 32 8 ≠ 0 ∧ be b 32 8 ≠ s.twn.peerTko ∧ be b 32 8 < s.lastIsn ∧ s.lastIsn < be b 32 8 + 2 ^ 24)) ∧
    (∀ (s u : State) (tko : Nat),
      u = (s.journalEntries.filter fun e => decide (tko < entIsn e) && (entKind e = jkReadings || entKind e = jkCommand)).foldl (fun (t : State) e => t.standbySend 0x0F (ctrlBody ctRescue e)) s →
      s.rescueAll tko = u.catchupAsk true ∧ (∀ f : Fin 2, u.catchupAsk (f.val = 1) = ((((if f.val = 1 then u.setFlag fLDGSTAT_REPLAY true else u).fset fTWNSTAT_SYNC syncCatchup).setTwn
            { u.twn with adopt := true, digests := [] }).standbySend 0x0F (ctrlBody ctCatchup (beBytes 8 (if f.val = 1 then 2 ^ 64 - 1 else u.lastIsn))))) ∧
        ctrlBody ctRescue [] = [2, 0, 0, 0, 0, 0, 0, 0]) ∧
    (∀ (s u : State) (b : List Byte),
      u = ((s.setTwn { s.twn with beatIn := s.time.raw }).fset fTWNSTAT_SYNC (be b 1 1 % 4)).setFlag fTWNSTAT_PEERSILENT false →
      s.beatFromStandby b = (if 2 ≤ be b 1 1 % 4 then u.setFlag fTWNSTAT_ALONE false else u) ∧ u.sync = be b 1 1 % 4 ∧ u.mem = s.mem) ∧
    (∀ (s u : State) (typ : Nat) (body : List Byte) (poison : List Nat) (h : Held),
      u = (s.setTwn { s.twn with nextSeq := s.twn.nextSeq + 1, unconf := if s.alone then s.twn.unconf else s.twn.unconf ++ [(s.twn.nextSeq, h)] }).fset fTWNSSEQ_SSEQ s.twn.nextSeq →
      (s.isActive = false → s.shadowP typ body poison h = s) ∧ (s.isActive = true → s.shadowP typ body poison h =
          u.dlMsg 3 (if typ < 0x0D then 1 else 2) false u.self typ (beBytes 8 s.twn.nextSeq ++ body) (poison.map (· + 1))) ∧ s.shadow typ body h = s.shadowP typ body [] h ∧
        s.standbySend typ body = s.dlMsg 3 2 false s.self typ (beBytes 8 0 ++ body) []) ∧
    (∀ (cseq isn : DWord) (s u : State),
      s.clocked = true →
      s.isActive = true →
      isn.toNat ≤ s.lastIsn →
      u = ((s.setTwn { s.twn with unconf := s.twn.unconf.filter fun e => decide (cseq.toNat < e.1) }).fset fTWNCONF_SSEQ (max (s.fget fTWNCONF_SSEQ) cseq.toNat)) →
      exec (.confirm cseq isn) s = .next (((s.twn.unconf.filter fun e => decide (e.1 ≤ cseq.toNat)).foldl (fun t e => t.release e.2) u).drainCheck)) ∧
    (∀ (cseq isn : DWord) (s : State),
      s.clocked = true →
      (s.isActive = false ∨ s.lastIsn < isn.toNat) →
      exec (.confirm cseq isn) s = .next s) ∧
    (∀ (s : State) (epi n v : Nat) (slot : Bool),
      s.release .free = s ∧ s.release (.ack epi) = s ∧ s.release (.newGen epi) = s.downPump false epi ∧ s.release (.keyUpdate epi) = s.downPump false epi ∧
        s.release (.ceil slot n v) = (s.raiseDone slot n v).keyPump slot n ∧ s.release (.moveIn n) = s.moveIn ∧
        (s.twn.drain = true ∧ s.twn.drained = false ∧ s.twn.unconf = [] → s.drainCheck = (s.ctrlSend ctDrained []).setTwn { (s.ctrlSend ctDrained []).twn with drained := true }) ∧
        (s.twn.drain = false ∨ s.twn.drained = true ∨ s.twn.unconf ≠ [] → s.drainCheck = s) ∧ s.ctrlSend n [] = s.shadow 0x0F (ctrlBody n []) .free) ∧
    (∀ (s u : State) (b : List Byte),
      s.clocked = true →
      s.twinOn = true →
      s.fget fTWNSTAT_ROLE ≠ 0 →
      s.twn.beatOut + msRaw (s.fget fTWNTMR_BEAT) ≤ s.time.raw →
      u = { s with freeCtr := s.freeCtr + 1, twn := { s.twn with beatOut := s.time.raw } } →
      b = beBytes 1 s.mode ++ beBytes 1 s.sync ++ beBytes 2 (s.draw % 2 ^ 16) ++ beBytes 4 0 ++ beBytes 8 s.nextIsn ++ beBytes 4 (cut 32 s.kLast) ++ beBytes 4 0 ++ beBytes 8 s.chip ++ beBytes 8 (s.fget fTWNTKOISN_ISN) →
      exec .beat s = .next (if s.isActive then u.shadow 0x0E b .free else u.standbySend 0x0E b)) ∧
    (∀ (s : State),
      s.clocked = true →
      (s.twinOn = false ∨ s.fget fTWNSTAT_ROLE = 0 ∨ s.time.raw < s.twn.beatOut + msRaw (s.fget fTWNTMR_BEAT)) →
      exec .beat s = .next s) ∧
    (∀ (s : State),
      s.clocked = true →
      s.isStandby = true →
      s.twn.beatIn + msRaw (s.fget fTWNTMR_SILENT) ≤ s.time.raw →
      exec .peerSilent s = .next (s.setFlag fTWNSTAT_PEERSILENT true)) ∧
    (∀ (s : State),
      s.clocked = true →
      (s.isStandby = false ∨ ¬ s.twn.beatIn + msRaw (s.fget fTWNTMR_SILENT) ≤ s.time.raw) →
      exec .peerSilent s = .next s) ∧
    (∀ (s : State),
      s.clocked = true →
      (s.isStandby = true ∧ s.flag fTWNSTAT_ACTIN = true ∧ 2 ≤ s.sync ∧ s.twn.downAt.any (fun d => decide (d + msRaw (5 * s.fget fTWNCFG_GRACE) ≤ s.time.raw)) = true) →
      exec .standbyGraceExpiry s = .next (s.fset fTWNSTAT_SYNC syncOut)) ∧
    (∀ (s : State),
      s.clocked = true →
      ¬ (s.isStandby = true ∧ s.flag fTWNSTAT_ACTIN = true ∧ 2 ≤ s.sync ∧ s.twn.downAt.any (fun d => decide (d + msRaw (5 * s.fget fTWNCFG_GRACE) ≤ s.time.raw)) = true) →
      exec .standbyGraceExpiry s = .next s) ∧
    (∀ (s : State),
      s.clocked = true →
      (s.isActive = true ∧ s.alone = false ∧ s.twn.downAt.any (fun d => decide (d + msRaw (10 * s.fget fTWNCFG_GRACE) ≤ s.time.raw)) = true) →
      exec .activeGraceExpiry s = .next (s.setAlone.drainCheck)) ∧
    (∀ (s : State),
      s.clocked = true →
      ¬ (s.isActive = true ∧ s.alone = false ∧ s.twn.downAt.any (fun d => decide (d + msRaw (10 * s.fget fTWNCFG_GRACE) ≤ s.time.raw)) = true) →
      exec .activeGraceExpiry s = .next s) ∧
    (∀ (s : State),
      s.clocked = true →
      s.isActive = true →
      s.alone = false →
      exec .detached s = .next (s.setAlone.drainCheck)) ∧
    (∀ (s : State),
      s.clocked = true →
      (s.isActive = false ∨ s.alone = true) →
      exec .detached s = .next s) ∧
    (∀ (s : State),
      s.setAlone = s.twn.unconf.foldl (fun t e => t.release e.2) ((s.setFlag fTWNSTAT_ALONE true).setTwn { s.twn with unconf := [] }) ∧ (s.twn.unconf = [] → s.setAlone.alone = true ∧ s.setAlone.mem = s.mem)) ∧
    (∀ (s : State),
      s.clocked = true →
      s.isStandby = true →
      s.twn.peerHold = false →
      exec .recordKeepExpiry s = .next (s.setTwn { s.twn with kept := s.twn.kept.filter fun e => decide (s.time.raw < e.1 + secRaw (10 * s.fget fTWNTMR_KEEP)) })) ∧
    (∀ (s : State),
      s.clocked = true →
      s.isStandby = true →
      s.twn.peerHold = true →
      ∃ t, exec .recordKeepExpiry s = .next t ∧ t = s.setTwn { s.twn with kept := t.twn.kept } ∧ t.twn.kept = s.twn.kept.drop (s.twn.kept.length - t.twn.kept.length) ∧ keptBytes t.twn.kept ≤ s.holdBudget ∧
        (t.twn.kept.length < s.twn.kept.length → s.holdBudget < keptBytes (s.twn.kept.drop (s.twn.kept.length - t.twn.kept.length - 1)))) ∧
    (∀ (s : State),
      s.clocked = true →
      s.isStandby = false →
      exec .recordKeepExpiry s = .next s)

/-- A write of TWNCTL (DETACH, DRAIN, RESYNC, FORCE) without its KEY is refused with BAD_KEY. On the active DETACH sends its CTRL
message and DRAIN closes ingest until the window is empty, then answers DRAINED; RESYNC on a standby asks for a full transfer;
each does nothing in the other role. FORCE is refused with MODE_DENIED on a chip that is not a standby; on a standby it takes
over, as TAKEOVER does when AUTOTKO and SYNC allow and ACT_IN_N has been away for HOLDOFF; otherwise TAKEOVER does nothing. A
takeover asserts ACT_OUT_N, and is given up when ACT_IN_N comes back; an erased chip starts none. It records TKO_ISN, counts,
performs the TKO reset, leaves ledger cores and dispatcher as they were, starts the control cores, numbers on above every ISN
seen, lets the transmit counters follow their ceilings, hands the kept records to the hold store as batches, and makes the chip
the active in SERVICE. CATCHUP sends a standby every input above its ISN, or the last checkpoint as STATE messages and the
inputs after it. RESCUE takes an old active's reading or command as a new input, and counts it; where the journal has no room it
waits, where no program or calendar takes it nothing is posted. (R521, R523, R524, R526, R527, R529, R530, R531, R535) -/
def Obligations.TakeoverAndRejoin : Prop :=
    (∀ (a : Agent) (key : Half) (s : State),
      s.writes a rTWNCTL = true →
      key ≠ 0x5457 →
      exec (.detach a key) s = .next (s.say .badKey)) ∧
    (∀ (a : Agent) (key : Half) (s : State),
      s.writes a rTWNCTL = true →
      key ≠ 0x5457 →
      exec (.drain a key) s = .next (s.say .badKey)) ∧
    (∀ (a : Agent) (key : Half) (s : State),
      s.writes a rTWNCTL = true →
      key ≠ 0x5457 →
      exec (.resync a key) s = .next (s.say .badKey)) ∧
    (∀ (a : Agent) (key : Half) (s : State),
      s.writes a rTWNCTL = true →
      key ≠ 0x5457 →
      exec (.force a key false) s = .next (s.say .badKey)) ∧
    (∀ (a : Agent) (s : State),
      s.writes a rTWNCTL = true →
      (s.isActive = true → exec (.detach a 0x5457) s = .next ((s.ctrlSend ctDetach []).say .done)) ∧ (s.isActive = false → exec (.detach a 0x5457) s = .next (s.say .done)) ∧
        (s.isActive = true → exec (.drain a 0x5457) s = .next (((s.setTwn { s.twn with drain := true, drained := false }).drainCheck).say .done)) ∧
        (s.isActive = false → exec (.drain a 0x5457) s = .next (s.say .done)) ∧
        (s.isStandby = true → exec (.resync a 0x5457) s = .next (((s.fset fTWNSTAT_SYNC syncOut).catchupAsk true).say .done)) ∧
        (s.isStandby = false → exec (.resync a 0x5457) s = .next (s.say .done))) ∧
    (∀ (a : Agent) (s : State),
      s.isActive = true →
      s.ingestOpen = true →
      s.twn.unconf = [] →
      ∃ t, (s.setTwn { s.twn with drain := true, drained := false }).drainCheck = t ∧ t.ingestOpen = false ∧ t.twn.drained = true ∧ t.twn.drain = true) ∧
    (∀ (a : Agent) (s : State),
      s.writes a rTWNCTL = true →
      s.isStandby = true →
      ∃ t, exec (.resync a 0x5457) s = .next t ∧ t.answer.status = .done ∧ t.sync = syncCatchup ∧ t.twn.adopt = true ∧ t.twn.digests = [] ∧ t.flag fLDGSTAT_REPLAY = true ∧ t.mem = s.mem) ∧
    (∀ (a : Agent) (clash : Bool) (s : State),
      s.writes a rTWNCTL = true →
      s.isStandby = false →
      exec (.force a 0x5457 clash) s = .next (s.say .modeDenied)) ∧
    (∀ (a : Agent) (clash : Bool) (s : State),
      s.writes a rTWNCTL = true →
      s.isStandby = true →
      exec (.force a 0x5457 clash) s = .next ((s.takeover (clash || s.flag fTWNSTAT_ACTIN)).say .done)) ∧
    (∀ (clash : Bool) (s : State),
      s.clocked = true →
      (s.isStandby = true ∧ s.flag fTWNCFG_AUTOTKO = true ∧ (s.sync = syncSynced ∨ (s.sync = syncSuspect ∧ s.flag fTWNCFG_TKOSUSP = true)) ∧ s.flag fTWNSTAT_ACTIN = false ∧ s.twn.inactSince.any (fun d => decide (d + msRaw (s.fget fTWNCFG_HOLDOFF) ≤ s.time.raw)) = true) →
      exec (.takeover clash) s = .next (s.takeover clash)) ∧
    (∀ (clash : Bool) (s : State),
      s.clocked = true →
      ¬ (s.isStandby = true ∧ s.flag fTWNCFG_AUTOTKO = true ∧ (s.sync = syncSynced ∨ (s.sync = syncSuspect ∧ s.flag fTWNCFG_TKOSUSP = true)) ∧ s.flag fTWNSTAT_ACTIN = false ∧ s.twn.inactSince.any (fun d => decide (d + msRaw (s.fget fTWNCFG_HOLDOFF) ≤ s.time.raw)) = true) →
      exec (.takeover clash) s = .next s) ∧
    (∀ (clash : Bool) (s : State),
      (s.flag fTMPSTAT_ERASED = true → s.takeover clash = s) ∧ (s.flag fTMPSTAT_ERASED = false → s.takeover true = s.setFlag fTWNSTAT_ACTIN true)) ∧
    (∀ (s : State),
      s.flag fTMPSTAT_ERASED = false →
      (s.takeover false).fget fTWNSTAT_ROLE = roleActive ∧ (s.takeover false).mode = modeService ∧
        (s.takeover false).fget fTWNTKOISN_ISN = s.lastIsn ∧ (s.takeover false).fget fTWNTKO_COUNT = satAdd 32 (s.fget fTWNTKO_COUNT) 1 ∧
        (s.takeover false).lastIsn = (max s.twn.isnSeen s.lastIsn + 2 ^ 24 - 1) % 2 ^ 48 ∧
        (s.takeover false).lcs = s.lcs ∧ (s.takeover false).ldg = s.ldg ∧ (s.takeover false).flag fRSTCAUSE_TKO = true ∧ (s.takeover false).flag fTWNSTAT_ACTOUT = true ∧
        (s.takeover false).twn.unconf = [] ∧ (s.takeover false).twn.nextSeq = 0 ∧ (s.takeover false).twn.kept = [] ∧ (s.takeover false).queues = s.queues ∧
        (s.takeover false).ses.hold = s.ses.hold ++ keptBatches (s.fget fREPCFG_MTU - 96) s.twn.kept.length s.twn.kept ∧
        (∀ k : Fin 4, s.fenced k.val = false → ((s.takeover false).cc k.val).run = .run) ∧ (s.takeover false).mrm = s.mrm ∧ (s.takeover false).nfc = s.nfc) ∧
    (∀ (s : State) (epi : Nat),
      s.txFollow epi = ((s.secPut epi 16 8 (resvCeil (s.peek (resvAddr epi) 8))).secPut epi 24 8 (resvCeil (s.peek (resvAddr epi) 8))).secPut epi 8 8 (s.lastIc epi) ∧
        (∃ u, u = s.epis.foldl State.txFollow ((s.fset fMRMLASTISN_ISN (max s.twn.isnSeen s.lastIsn + 2 ^ 24 - 1)).setFlag fLDGSTAT_REPLAY false) ∧ s.tkoFirmware.mem = u.mem)) ∧
    (∀ (isn : DWord) (s : State),
      s.clocked = true →
      s.isActive = true →
      isn.toNat ≤ s.lastIsn →
      s.journalReaches isn.toNat = true →
      exec (.catchup isn) s = .next ((s.fset fTWNSTAT_SYNC syncCatchup).inputsAbove isn.toNat)) ∧
    (∀ (isn : DWord) (s : State) (c : Ckpt) (l : List Ckpt),
      s.clocked = true →
      s.isActive = true →
      (s.lastIsn < isn.toNat ∨ s.journalReaches isn.toNat = false) →
      s.mrm.ckpts = c :: l →
      exec (.catchup isn) s = .next ((c.recs.foldl (fun (t : State) r => t.shadowP 0x0C (splice r.data 5248 (t.bytes (resvAddr r.epi) 8)) r.poison .free) (s.fset fTWNSTAT_SYNC syncCatchup)).inputsAbove c.lowIsn)) ∧
    (∀ (isn : DWord) (s : State),
      s.clocked = true →
      s.isActive = true →
      (s.lastIsn < isn.toNat ∨ s.journalReaches isn.toNat = false) →
      s.mrm.ckpts = [] →
      exec (.catchup isn) s = .next ((s.fset fTWNSTAT_SYNC syncCatchup).inputsAbove 0)) ∧
    (∀ (isn : DWord) (s : State),
      s.clocked = true →
      s.isActive = false →
      exec (.catchup isn) s = .next s) ∧
    (∀ (isn : Nat) (s : State),
      s.inputsAbove isn = (s.journalEntries.filter fun e => entKind e ≠ jkPad && decide (isn < entIsn e + entN e)).foldl (fun (t : State) e => t.shadow 0x08 e .free) s ∧
        (s.journalEntries.all (fun e => entKind e = jkPad) = true → s.journalReaches isn = decide (isn = s.lastIsn)) ∧
        (∀ e, s.journalEntries.find? (fun e => entKind e ≠ jkPad) = some e → s.journalReaches isn = decide (entIsn e ≤ isn + 1))) ∧
    (∀ (e : List Byte) (s u : State) (n : Nat),
      s.clocked = true →
      s.isActive = true →
      entKind e = jkReadings →
      s.ingest (entEpi e) (max (s.lastIc (entEpi e)) (le (e.drop 16) 16 8)) (le (e.drop 16) 8 4) ((entryReadings (entN e) (e.drop 16)).map (·.1)) = .ok u n →
      exec (.rescue e) s = .next (u.bump fTWNRESCUE_COUNT (entN e))) ∧
    (∀ (e : List Byte) (s : State),
      s.clocked = true →
      s.isActive = true →
      entKind e = jkReadings →
      (s.ingest (entEpi e) (max (s.lastIc (entEpi e)) (le (e.drop 16) 16 8)) (le (e.drop 16) 8 4) ((entryReadings (entN e) (e.drop 16)).map (·.1)) = .wait → exec (.rescue e) s = .next s) ∧ (∀ u, s.ingest (entEpi e) (max (s.lastIc (entEpi e)) (le (e.drop 16) 16 8)) (le (e.drop 16) 8 4) ((entryReadings (entN e) (e.drop 16)).map (·.1)) = .mode u → exec (.rescue e) s = .next u) ∧ (∀ u, s.ingest (entEpi e) (max (s.lastIc (entEpi e)) (le (e.drop 16) 16 8)) (le (e.drop 16) 8 4) ((entryReadings (entN e) (e.drop 16)).map (·.1)) = .noprog u → exec (.rescue e) s = .next u) ∧ (∀ u n, s.ingest (entEpi e) (max (s.lastIc (entEpi e)) (le (e.drop 16) 16 8)) (le (e.drop 16) 8 4) ((entryReadings (entN e) (e.drop 16)).map (·.1)) = .busy u n → exec (.rescue e) s = .next u)) ∧
    (∀ (e : List Byte) (s u : State) (p : Nat),
      s.clocked = true →
      s.isActive = true →
      entKind e = jkCommand →
      s.noCalendar = false →
      ((s.epiEntry (entEpi e)).bind fun x => s.eligible x.cls (s.kLast + 1)) = some p →
      s.journal [⟨jkCommand, 1, entEpi e, splice (e.drop 16) 2 (leBytes 2 (s.fget (fLDGPRG_HANDLE p)))⟩] (fun _ => .free) = .ok u →
      exec (.rescue e) s = .next (((u.postItem (u.commandItem (entEpi e) (s.fget (fLDGPRG_HANDLE p)) (le (e.drop 16) 0 2) u.lastIsn (le (e.drop 16) 8 8)
          (le (e.drop 16) 16 4) (le (e.drop 16) 20 4)) 2 true).bump fTWNRESCUE_COUNT 1))) ∧
    (∀ (e : List Byte) (s : State) (p : Nat),
      s.clocked = true →
      s.isActive = true →
      entKind e = jkCommand →
      s.noCalendar = false →
      ((s.epiEntry (entEpi e)).bind fun x => s.eligible x.cls (s.kLast + 1)) = some p →
      (s.journal [⟨jkCommand, 1, entEpi e, splice (e.drop 16) 2 (leBytes 2 (s.fget (fLDGPRG_HANDLE p)))⟩] (fun _ => .free) = .wait → exec (.rescue e) s = .next s) ∧ (∀ x, s.journal [⟨jkCommand, 1, entEpi e, splice (e.drop 16) 2 (leBytes 2 (s.fget (fLDGPRG_HANDLE p)))⟩] (fun _ => .free) = .refused x → exec (.rescue e) s = .next (s.journalRefused x))) ∧
    (∀ (e : List Byte) (s : State),
      s.clocked = true →
      s.isActive = true →
      entKind e = jkCommand →
      s.noCalendar = false →
      ((s.epiEntry (entEpi e)).bind fun x => s.eligible x.cls (s.kLast + 1)) = none →
      exec (.rescue e) s = .next (s.fset fLDGNOPROG_COUNT (satAdd 32 (s.fget fLDGNOPROG_COUNT) 1))) ∧
    (∀ (e : List Byte) (s : State),
      s.clocked = true →
      (s.isActive = false ∨ (entKind e = jkCommand ∧ s.noCalendar = true) ∨ (entKind e ≠ jkReadings ∧ entKind e ≠ jkCommand)) →
      exec (.rescue e) s = .next s)

/-- GEN, INVALIDATE, SETPUB, PUBOUT, IMPORT, EXPORT, GENPKT, IMPORTPKT, REWRAP, ATTEST and AUTH are writes of KEYCMD: each runs the
command with the operands of KEYARG, ends an arming that stood before it (an AUTH that is done arms anew), and shows its status
in KEYSTAT.STATUS and as its answer. KEYCMD refuses, in this order: an unknown OP, one the mode bars (MODE_DENIED; in BOOT all,
in COMMISSION the pocket commands), one the arming does not match, a reserved slot, a guarded command on slots 0 to 15 in
PROVISIONED or FIELD without an arming (LC_DENIED), and a misaligned ADDR. Then each command refuses as its rule says, leaving
the slots as they were, or is done: GEN fills an empty slot with a drawn key and clears its reservation entry; INVALIDATE
empties a slot and frees its cell; SETPUB takes a public key and its digest; PUBOUT writes the public key out; IMPORT and EXPORT
unwrap and wrap a blob; GENPKT, IMPORTPKT and REWRAP write an endpoint's pocket under a wrapping key, REWRAP its pending key
too; ATTEST writes the signed statement; AUTH of a record that passes its checks arms its command. A source that was read leaves
the corrections and counts of a read. Whether the signature engine gives up, and whether a signature verifies, is the model's
open function; both cases are stated. (R537, R541, R542, R543, R544, R545, R546, R547, R548, R559, R685, R686) -/
def Obligations.KeyCommands : Prop :=
    (∀ (a : Agent) (s : State),
      s.writes a rKEYCMD = true →
      exec (.gen a) s = .next (s.keyEnds (s.keyCheck opGen).2 (s.keyCheck opGen).1) ∧
        exec (.invalidate a) s = .next (s.keyEnds (s.keyCheck opInvalidate).2 (s.keyCheck opInvalidate).1) ∧
        exec (.setpub a) s = .next (s.keyEnds (s.keyCheck opSetpub).2 (s.keyCheck opSetpub).1) ∧
        exec (.pubout a) s = .next (s.keyEnds (s.keyCheck opPubout).2 (s.keyCheck opPubout).1) ∧
        exec (.keyImport a) s = .next (s.keyEnds (s.keyCheck opImport).2 (s.keyCheck opImport).1) ∧
        exec (.keyExport a) s = .next (s.keyEnds (s.keyCheck opExport).2 (s.keyCheck opExport).1) ∧
        exec (.genpkt a) s = .next (s.keyEnds (s.keyCheck opGenpkt).2 (s.keyCheck opGenpkt).1) ∧
        exec (.importpkt a) s = .next (s.keyEnds (s.keyCheck opImportpkt).2 (s.keyCheck opImportpkt).1) ∧
        exec (.rewrap a) s = .next (s.keyEnds (s.keyCheck opRewrap).2 (s.keyCheck opRewrap).1) ∧
        exec (.attest a) s = .next (s.keyEnds (s.keyCheck opAttest).2 (s.keyCheck opAttest).1) ∧
        exec (.auth a) s = .next (if (s.keyCheck opAuth).1 = .done then ((s.keyCheck opAuth).2.fset fKEYSTAT_STATUS Status.done.code).say .done else s.keyEnds (s.keyCheck opAuth).2 (s.keyCheck opAuth).1)) ∧
    (∀ (s : State) (op : Nat),
      (op = 0 ∨ 11 < op → s.keyCheck op = (.badArgument, s)) ∧
        (1 ≤ op ∧ op ≤ 11 → s.keyMode op = false → s.keyCheck op = (.modeDenied, s)) ∧
        (1 ≤ op ∧ op ≤ 11 → s.keyMode op = true → (s.key.armed.isSome = true ∧ s.armedFor op s.keyArg.slot = false) → s.keyCheck op = (.lcDenied, s)) ∧
        (1 ≤ op ∧ op ≤ 11 → s.keyMode op = true → ¬(s.key.armed.isSome = true ∧ s.armedFor op s.keyArg.slot = false) → (1 ≤ op ∧ op ≤ 6 ∧ (s.keyArg.slot = 1 ∨ (6 ≤ s.keyArg.slot ∧ s.keyArg.slot ≤ 15))) → s.keyCheck op = (.badArgument, s)) ∧
        (1 ≤ op ∧ op ≤ 11 → s.keyMode op = true → ¬(s.key.armed.isSome = true ∧ s.armedFor op s.keyArg.slot = false) → ¬(1 ≤ op ∧ op ≤ 6 ∧ (s.keyArg.slot = 1 ∨ (6 ≤ s.keyArg.slot ∧ s.keyArg.slot ≤ 15))) → ((op = opGen ∨ op = opInvalidate ∨ op = opSetpub ∨ op = opImport) ∧ s.keyArg.slot < 16 ∧ (s.life = lifeProvisioned ∨ s.life = lifeField) ∧ s.armedFor op s.keyArg.slot = false) → s.keyCheck op = (.lcDenied, s)) ∧
        (1 ≤ op ∧ op ≤ 11 → s.keyMode op = true → ¬(s.key.armed.isSome = true ∧ s.armedFor op s.keyArg.slot = false) → ¬(1 ≤ op ∧ op ≤ 6 ∧ (s.keyArg.slot = 1 ∨ (6 ≤ s.keyArg.slot ∧ s.keyArg.slot ≤ 15))) → ¬((op = opGen ∨ op = opInvalidate ∨ op = opSetpub ∨ op = opImport) ∧ s.keyArg.slot < 16 ∧ (s.life = lifeProvisioned ∨ s.life = lifeField) ∧ s.armedFor op s.keyArg.slot = false) → (opHasAddr op = true ∧ s.keyArg.addr % 64 ≠ 0) → s.keyCheck op = (.badAlign, s)) ∧
        (1 ≤ op ∧ op ≤ 11 → s.keyReady op = true → s.keyCheck op = ((s.keyRun op s.keyArg).1,
          if keyHasRead (s.keyRun op s.keyArg).1 then (s.keyRun op s.keyArg).2.touch s.keyArg.addr (s.keySrcLen op s.keyArg) else (s.keyRun op s.keyArg).2)) ∧
        (s.keyMode op = true ↔ s.mode ≠ modeBoot ∧ ¬(s.mode = modeCommission ∧ (op = opGenpkt ∨ op = opImportpkt ∨ op = opRewrap))) ∧
        (s.armedFor op s.keyArg.slot = true ↔ s.key.armed.any (fun x => x.1 = op ∧ x.2.1 = s.keyArg.slot) = true)) ∧
    (∀ (s : State) (g : KeyArg),
      ((s.slotValid g.slot = true ∨ secretType g.typ = false ∨ maskOk g.typ g.mask = false) → s.keyGen g = (.badArgument, s)) ∧
        (¬(s.slotValid g.slot = true ∨ secretType g.typ = false ∨ maskOk g.typ g.mask = false) → s.key.entropyBad = true → s.keyGen g = (.engineFault, s)) ∧
        (s.slotValid g.slot = false → s.keyInvalidate g = (.keyEmpty, s))) ∧
    (∀ (s : State) (g : KeyArg),
      ((s.slotValid g.slot = true ∨ publicType g.typ = false ∨ maskOk g.typ g.mask = false) → s.keySetpub g = (.badArgument, s)) ∧ (∀ x, s.srcOk g.addr (matBytes g.typ) = some x → ¬(s.slotValid g.slot = true ∨ publicType g.typ = false ∨ maskOk g.typ g.mask = false) → s.keySetpub g = (x, s)) ∧
        (¬(s.slotValid g.slot = true ∨ publicType g.typ = false ∨ maskOk g.typ g.mask = false) → s.srcOk g.addr (matBytes g.typ) = none → s.argOk opSetpub g.slot (s.bytes g.addr (matBytes g.typ)) = false → s.keySetpub g = (.badArgument, s)) ∧
        (¬(s.slotValid g.slot = true ∨ publicType g.typ = false ∨ maskOk g.typ g.mask = false) → s.srcOk g.addr (matBytes g.typ) = none → s.argOk opSetpub g.slot (s.bytes g.addr (matBytes g.typ)) = true → s.freeCell = none → s.keySetpub g = (.tableFull, s)) ∧
        (s.engineRange g.addr (matBytes g.typ) = false → s.srcOk g.addr (matBytes g.typ) = some .badAddress) ∧
        (s.engineRange g.addr (matBytes g.typ) = true → s.poisonedIn g.addr (matBytes g.typ) = true → s.srcOk g.addr (matBytes g.typ) = some .poisoned)) ∧
    (∀ (s : State) (g : KeyArg),
      ((s.slot g.slot).typ = 0 → s.keyPubout g = (.keyEmpty, s)) ∧ (1 ≤ (s.slot g.slot).typ ∧ (s.slot g.slot).typ < 4 → s.keyPubout g = (.badArgument, s)) ∧
        (4 ≤ (s.slot g.slot).typ ∧ (s.slot g.slot).typ ≤ 7 → s.engineRange g.addr (if (s.slot g.slot).typ = ktDsaPriv ∨ (s.slot g.slot).typ = ktDsaPub then 2592 else 1568) = false → s.keyPubout g = (.badAddress, s)) ∧
        (4 ≤ (s.slot g.slot).typ ∧ (s.slot g.slot).typ ≤ 7 → s.engineRange g.addr (if (s.slot g.slot).typ = ktDsaPriv ∨ (s.slot g.slot).typ = ktDsaPub then 2592 else 1568) = true → (publicType (s.slot g.slot).typ = true ∧ sha3_256 (s.cellOf (s.slot g.slot).cell) ≠ (s.slot g.slot).dig) → s.keyPubout g = (.keyDenied, s)) ∧
        (4 ≤ (s.slot g.slot).typ ∧ (s.slot g.slot).typ ≤ 7 → s.engineRange g.addr (if (s.slot g.slot).typ = ktDsaPriv ∨ (s.slot g.slot).typ = ktDsaPub then 2592 else 1568) = true → ¬(publicType (s.slot g.slot).typ = true ∧ sha3_256 (s.cellOf (s.slot g.slot).cell) ≠ (s.slot g.slot).dig) → s.keyPubout g = (.done, s.write g.addr (sub (s.publicOf (s.slot g.slot)) 0 (if (s.slot g.slot).typ = ktDsaPriv ∨ (s.slot g.slot).typ = ktDsaPub then 2592 else 1568))))) ∧
    (∀ (s : State) (g : KeyArg),
      (s.slotValid g.slot = true → s.keyImport g = (.badArgument, s)) ∧ (∀ x, s.srcOk g.addr 8 = some x → s.slotValid g.slot = false → s.keyImport g = (x, s)) ∧
        ((s.slotValid g.slot = false ∧ s.srcOk g.addr 8 = none) → ¬(secretType (s.peek g.addr 1) = true ∧ maskOk (s.peek g.addr 1) (s.peek (g.addr + 1) 1) = true) → s.keyImport g = (.badArgument, s)) ∧ (∀ x, s.srcOk g.addr (8 + (matBytes (s.peek g.addr 1) + 8)) = some x → (s.slotValid g.slot = false ∧ s.srcOk g.addr 8 = none) → (secretType (s.peek g.addr 1) = true ∧ maskOk (s.peek g.addr 1) (s.peek (g.addr + 1) 1) = true) → s.keyImport g = (x, s)) ∧
        ((s.slotValid g.slot = false ∧ s.srcOk g.addr 8 = none) → (secretType (s.peek g.addr 1) = true ∧ maskOk (s.peek g.addr 1) (s.peek (g.addr + 1) 1) = true) → s.srcOk g.addr (8 + (matBytes (s.peek g.addr 1) + 8)) = none → s.argOk opImport g.slot (s.bytes g.addr (8 + (matBytes (s.peek g.addr 1) + 8))) = false → s.keyImport g = (.badArgument, s)) ∧
        ((s.slotValid g.slot = false ∧ s.srcOk g.addr 8 = none) → (secretType (s.peek g.addr 1) = true ∧ maskOk (s.peek g.addr 1) (s.peek (g.addr + 1) 1) = true) → (s.srcOk g.addr (8 + (matBytes (s.peek g.addr 1) + 8)) = none ∧ s.argOk opImport g.slot (s.bytes g.addr (8 + (matBytes (s.peek g.addr 1) + 8))) = true) → (s.wrapKey g.pslot).1 ≠ .done → s.keyImport g = ((s.wrapKey g.pslot).1, s)) ∧
        ((s.slotValid g.slot = false ∧ s.srcOk g.addr 8 = none) → (secretType (s.peek g.addr 1) = true ∧ maskOk (s.peek g.addr 1) (s.peek (g.addr + 1) 1) = true) → (s.srcOk g.addr (8 + (matBytes (s.peek g.addr 1) + 8)) = none ∧ s.argOk opImport g.slot (s.bytes g.addr (8 + (matBytes (s.peek g.addr 1) + 8))) = true) → (s.wrapKey g.pslot).1 = .done → s.blobOpen g.addr (s.wrapKey g.pslot).2 = none → s.keyImport g = (.tagFail, s))) ∧
    (∀ (s : State) (g : KeyArg),
      ((s.deliver g.slot mExport).1 ≠ .done → s.keyExport g = ((s.deliver g.slot mExport).1, s)) ∧
        ((s.deliver g.slot mExport).1 = .done → (s.wrapKey g.pslot).1 ≠ .done → s.keyExport g = ((s.wrapKey g.pslot).1, s)) ∧
        ((s.deliver g.slot mExport).1 = .done → (s.wrapKey g.pslot).1 = .done → secretType (s.slot g.slot).typ = true → (s.slot g.slot).mat.length = matBytes (s.slot g.slot).typ →
          s.engineRange g.addr (16 + matBytes (s.slot g.slot).typ) = false → s.keyExport g = (.badAddress, s)) ∧
        ((s.slot g.slot).typ = 0 → (s.deliver g.slot mExport).1 = .keyEmpty ∧ (s.deliver g.slot mWrap).1 = .keyEmpty) ∧
        ((s.slot g.slot).typ ≠ 0 ∧ bit (s.slot g.slot).mask 7 = false → (s.deliver g.slot mExport).1 = .keyDenied) ∧
        ((s.slot g.slot).typ ≠ 0 ∧ bit (s.slot g.slot).mask 6 = false → (s.wrapKey g.slot).1 = .keyDenied)) ∧
    (∀ (s : State) (g : KeyArg),
      (¬((g.typ = 1 ∨ g.typ = 2) ∧ childMaskOk g.mask = true) → s.keyGenpkt g = (.badArgument, s)) ∧ (((g.typ = 1 ∨ g.typ = 2) ∧ childMaskOk g.mask = true) → (s.wrapKey g.pslot).1 ≠ .done → s.keyGenpkt g = ((s.wrapKey g.pslot).1, s)) ∧
        (((g.typ = 1 ∨ g.typ = 2) ∧ childMaskOk g.mask = true) → (s.wrapKey g.pslot).1 = .done → s.key.entropyBad = true → s.keyGenpkt g = (.engineFault, s)) ∧
        (((g.typ = 1 ∨ g.typ = 2) ∧ childMaskOk g.mask = true) → (s.wrapKey g.pslot).1 = .done → s.key.entropyBad = false → s.inDa (s.pktAddr g.epi) 64 = false → s.keyGenpkt g = (.badAddress, s))) ∧
    (∀ (s : State) (g : KeyArg),
      (∀ x, s.srcOk g.addr 48 = some x → s.keyImportpkt g = (x, s)) ∧ (s.srcOk g.addr 48 = none → ¬((s.peek g.addr 1 = 1 ∨ s.peek g.addr 1 = 2) ∧ childMaskOk (s.peek (g.addr + 1) 1) = true) → s.keyImportpkt g = (.badArgument, s)) ∧
        (s.srcOk g.addr 48 = none → ((s.peek g.addr 1 = 1 ∨ s.peek g.addr 1 = 2) ∧ childMaskOk (s.peek (g.addr + 1) 1) = true) → (s.wrapKey g.slot).1 ≠ .done → s.keyImportpkt g = ((s.wrapKey g.slot).1, s)) ∧
        (s.srcOk g.addr 48 = none → ((s.peek g.addr 1 = 1 ∨ s.peek g.addr 1 = 2) ∧ childMaskOk (s.peek (g.addr + 1) 1) = true) → (s.wrapKey g.slot).1 = .done → (s.wrapKey g.pslot).1 ≠ .done → s.keyImportpkt g = ((s.wrapKey g.pslot).1, s)) ∧
        (s.srcOk g.addr 48 = none → ((s.peek g.addr 1 = 1 ∨ s.peek g.addr 1 = 2) ∧ childMaskOk (s.peek (g.addr + 1) 1) = true) → (s.wrapKey g.slot).1 = .done → (s.wrapKey g.pslot).1 = .done → s.inDa (s.pktAddr g.epi) 64 = false → s.keyImportpkt g = (.badAddress, s)) ∧
        (s.srcOk g.addr 48 = none → ((s.peek g.addr 1 = 1 ∨ s.peek g.addr 1 = 2) ∧ childMaskOk (s.peek (g.addr + 1) 1) = true) → (s.wrapKey g.slot).1 = .done → (s.wrapKey g.pslot).1 = .done → s.inDa (s.pktAddr g.epi) 64 = true →
          kwUnwrap (nats (s.wrapKey g.slot).2) (blobIv (s.peek g.addr 1) (s.peek (g.addr + 1) 1) (be (s.bytes g.addr 8) 4 4)) (nats (s.bytes (g.addr + 8) 40)) = none → s.keyImportpkt g = (.tagFail, s))) ∧
    (∀ (s : State) (g : KeyArg),
      (s.inDa (s.pktAddr g.epi) 64 = false → s.keyRewrap g = (.badAddress, s)) ∧ (s.inDa (s.pktAddr g.epi) 64 = true → (s.unwrapAs (s.pocket g.epi) (s.pocket g.epi).wrap).1 ≠ .done → s.keyRewrap g = ((s.unwrapAs (s.pocket g.epi) (s.pocket g.epi).wrap).1, s.unwrapFail (s.unwrapAs (s.pocket g.epi) (s.pocket g.epi).wrap).2.2)) ∧
        (s.inDa (s.pktAddr g.epi) 64 = true → (s.unwrapAs (s.pocket g.epi) (s.pocket g.epi).wrap).1 = .done → (s.wrapKey g.pslot).1 ≠ .done → s.keyRewrap g = ((s.wrapKey g.pslot).1, s)) ∧
        (s.inDa (s.pktAddr g.epi) 64 = true → (s.unwrapAs (s.pocket g.epi) (s.pocket g.epi).wrap).1 = .done → (s.wrapKey g.pslot).1 = .done → bit (s.sflags g.epi) sfPending = false → s.keyRewrap g = (.done, (s.pocketPut g.epi g.pslot (s.pocket g.epi).ptype (s.pocket g.epi).mask (s.unwrapAs (s.pocket g.epi) (s.pocket g.epi).wrap).2.1))) ∧
        (s.inDa (s.pktAddr g.epi) 64 = true → (s.unwrapAs (s.pocket g.epi) (s.pocket g.epi).wrap).1 = .done → (s.wrapKey g.pslot).1 = .done → bit (s.sflags g.epi) sfPending = true → (s.unwrapAs (s.pocket g.epi) (s.bytes (s.secAddr g.epi + 40) 40)).1 ≠ .done → s.keyRewrap g = ((s.unwrapAs (s.pocket g.epi) (s.bytes (s.secAddr g.epi + 40) 40)).1, s.unwrapFail (s.unwrapAs (s.pocket g.epi) (s.bytes (s.secAddr g.epi + 40) 40)).2.2)) ∧
        (s.inDa (s.pktAddr g.epi) 64 = true → (s.unwrapAs (s.pocket g.epi) (s.pocket g.epi).wrap).1 = .done → (s.wrapKey g.pslot).1 = .done → bit (s.sflags g.epi) sfPending = true → (s.unwrapAs (s.pocket g.epi) (s.bytes (s.secAddr g.epi + 40) 40)).1 = .done → s.keyRewrap g = (.done, (s.pocketPut g.epi g.pslot (s.pocket g.epi).ptype (s.pocket g.epi).mask (s.unwrapAs (s.pocket g.epi) (s.pocket g.epi).wrap).2.1).write (s.secAddr g.epi + 40)
          (ofNats (kwWrap (nats (s.wrapKey g.pslot).2) (pocketIv (s.pocket g.epi).ptype (s.pocket g.epi).mask g.epi) (nats (s.unwrapAs (s.pocket g.epi) (s.bytes (s.secAddr g.epi + 40) 40)).2.1)))))) ∧
    (∀ (s : State) (epi n pt m : Nat) (mat : List Byte),
      (s.unwrapFail false = s) ∧ s.unwrapFail true = s.fset fKEYUNWRAPF_COUNT (satAdd 32 (s.fget fKEYUNWRAPF_COUNT) 1) ∧
        s.pocketPut epi n pt m mat = s.write (s.pktAddr epi) (leBytes 2 n ++ leBytes 1 pt ++ leBytes 1 m ++ leBytes 4 (s.slot n).kid ++ leBytes 4 epi ++ leBytes 1 1 ++ leBytes 11 0 ++
          padTo 40 (ofNats (kwWrap (nats (s.slot n).mat) (pocketIv pt m epi) (nats mat))))) ∧
    (∀ (s : State) (g : KeyArg),
      (s.engineRange g.addr 4883 = false → s.keyAttest g = (.badAddress, s)) ∧ (s.engineRange g.addr 4883 = true → (s.fenced 8 = true ∨ s.fenced 9 = true) → s.keyAttest g = (.fenced, s)) ∧
        ((s.engineRange g.addr 4883 = true ∧ s.fenced 8 = false ∧ s.fenced 9 = false) → (s.signWith 0 s.attestBody ctxAtt).1 ≠ .done → s.keyAttest g = ((s.signWith 0 s.attestBody ctxAtt).1, s.drawn 1))) ∧
    (∀ (s : State) (g : KeyArg),
      (∀ x, s.srcOk g.addr 4691 = some x → s.keyAuth g = (x, s)) ∧ (s.srcOk g.addr 4691 = none → authShape (s.bytes g.addr 4691) = false → s.keyAuth g = (.badFormat, s)) ∧
        ((s.srcOk g.addr 4691 = none ∧ authShape (s.bytes g.addr 4691) = true) → s.slotValid 4 = false → s.keyAuth g = (.keyEmpty, s)) ∧ ((s.srcOk g.addr 4691 = none ∧ authShape (s.bytes g.addr 4691) = true) → s.slotValid 4 = true → (s.fenced 8 = true ∨ s.fenced 9 = true) → s.keyAuth g = (.fenced, s)) ∧
        (((s.srcOk g.addr 4691 = none ∧ authShape (s.bytes g.addr 4691) = true) ∧ s.slotValid 4 = true ∧ s.fenced 8 = false ∧ s.fenced 9 = false) → (s.verifyWith 4 ((s.bytes g.addr 4691).take 64) ctxNone ((s.bytes g.addr 4691).drop 64)) ≠ .done → s.keyAuth g = ((s.verifyWith 4 ((s.bytes g.addr 4691).take 64) ctxNone ((s.bytes g.addr 4691).drop 64)), s.countVerify (s.verifyWith 4 ((s.bytes g.addr 4691).take 64) ctxNone ((s.bytes g.addr 4691).drop 64)))) ∧ (((s.srcOk g.addr 4691 = none ∧ authShape (s.bytes g.addr 4691) = true) ∧ s.slotValid 4 = true ∧ s.fenced 8 = false ∧ s.fenced 9 = false) → (s.verifyWith 4 ((s.bytes g.addr 4691).take 64) ctxNone ((s.bytes g.addr 4691).drop 64)) = .done → le (s.bytes g.addr 4691) 8 8 ≠ s.eui → s.keyAuth g = (.badArgument, s)) ∧
        (((s.srcOk g.addr 4691 = none ∧ authShape (s.bytes g.addr 4691) = true) ∧ s.slotValid 4 = true ∧ s.fenced 8 = false ∧ s.fenced 9 = false) → (s.verifyWith 4 ((s.bytes g.addr 4691).take 64) ctxNone ((s.bytes g.addr 4691).drop 64)) = .done → le (s.bytes g.addr 4691) 8 8 = s.eui → le (s.bytes g.addr 4691) 16 8 ≤ s.fget fKEYAUTHSEQ_SEQ → s.keyAuth g = (.replay, s)) ∧
        s.countVerify .sigFail = s.fset fDSAVFAIL_COUNT (satAdd 32 (s.fget fDSAVFAIL_COUNT) 1) ∧ s.countVerify .keyDenied = s) ∧
    (∀ (a : Agent) (s : State) (g : KeyArg),
      s.writes a rKEYCMD = true →
      s.keyReady opGen = true →
      g = s.keyArg →
      s.slotValid g.slot = false →
      secretType g.typ = true →
      maskOk g.typ g.mask = true →
      s.key.entropyBad = false →
      ∃ t, exec (.gen a) s = .next t ∧ t.slot g.slot = { typ := g.typ, mask := g.mask, kid := kidOf (Config.freeDraw (s.freeCtr + 1)), mat := leBytes (matBytes g.typ) s.draw } ∧
        (∀ m, m ≠ g.slot → t.slot m = s.slot m) ∧ t.answer.status = .done ∧ t.fget fKEYSTAT_STATUS = Status.done.code ∧ t.key.armed = none ∧ t.peek (slotResvAddr g.slot) 8 = 0 ∧ (∀ x, x < slotResvAddr g.slot ∨ slotResvAddr g.slot + 8 ≤ x → t.byte x = s.byte x) ∧ t = { s with key := t.key, csr := t.csr, answer := t.answer, freeCtr := t.freeCtr, mem := t.mem, poison := t.poison, soft := t.soft, kep := t.kep }) ∧
    (∀ (a : Agent) (s : State) (g : KeyArg),
      s.writes a rKEYCMD = true →
      s.keyReady opInvalidate = true →
      g = s.keyArg →
      s.slotValid g.slot = true →
      ∃ t, exec (.invalidate a) s = .next t ∧ t.slot g.slot = {} ∧ (∀ m, m ≠ g.slot → t.slot m = s.slot m) ∧ t.answer.status = .done ∧ t.fget fKEYSTAT_STATUS = Status.done.code ∧ t.key.armed = none ∧ t = { s with key := t.key, csr := t.csr, answer := t.answer }) ∧
    (∀ (a : Agent) (s : State) (g : KeyArg) (b : List Byte) (c : Nat),
      s.writes a rKEYCMD = true →
      s.keyReady opSetpub = true →
      g = s.keyArg →
      s.slotValid g.slot = false →
      publicType g.typ = true →
      maskOk g.typ g.mask = true →
      s.srcOk g.addr (matBytes g.typ) = none →
      b = s.bytes g.addr (matBytes g.typ) →
      s.argOk opSetpub g.slot b = true →
      s.freeCell = some c →
      ∃ t, exec (.setpub a) s = .next t ∧ t.slot g.slot = { typ := g.typ, mask := g.mask, kid := kidOf s.draw, cell := c, dig := sha3_256 b } ∧
        t.cellOf c = b ∧ (∀ m, m ≠ g.slot → t.slot m = s.slot m) ∧ t.answer.status = .done ∧ t.fget fKEYSTAT_STATUS = Status.done.code ∧ t.key.armed = none ∧ t.freeCtr = s.freeCtr + 1 ∧ t = { s with key := t.key, csr := t.csr, answer := t.answer, freeCtr := t.freeCtr, soft := t.soft }) ∧
    (∀ (a : Agent) (s : State) (g : KeyArg),
      s.writes a rKEYCMD = true →
      s.keyReady opPubout = true →
      g = s.keyArg →
      (s.slot g.slot).typ = ktDsaPriv ∨ (s.slot g.slot).typ = ktKemPriv →
      s.engineRange g.addr (if (s.slot g.slot).typ = ktDsaPriv then 2592 else 1568) = true →
      exec (.pubout a) s = .next (s.keyEnds (s.write g.addr (sub (s.publicOf (s.slot g.slot)) 0
          (if (s.slot g.slot).typ = ktDsaPriv then 2592 else 1568))) .done)) ∧
    (∀ (a : Agent) (s : State) (g : KeyArg) (kek mat : List Byte),
      s.writes a rKEYCMD = true →
      s.keyReady opImport = true →
      g = s.keyArg →
      s.slotValid g.slot = false →
      s.srcOk g.addr 8 = none →
      secretType (s.peek g.addr 1) = true →
      maskOk (s.peek g.addr 1) (s.peek (g.addr + 1) 1) = true →
      s.srcOk g.addr (8 + (matBytes (s.peek g.addr 1) + 8)) = none →
      s.argOk opImport g.slot (s.bytes g.addr (8 + (matBytes (s.peek g.addr 1) + 8))) = true →
      s.wrapKey g.pslot = (.done, kek) →
      s.blobOpen g.addr kek = some mat →
      ∃ t, exec (.keyImport a) s = .next t ∧ t.slot g.slot = { typ := s.peek g.addr 1, mask := s.peek (g.addr + 1) 1, kid := be (s.bytes g.addr 8) 4 4, mat := mat } ∧
        (∀ m, m ≠ g.slot → t.slot m = s.slot m) ∧ t.answer.status = .done ∧ t.fget fKEYSTAT_STATUS = Status.done.code ∧ t.key.armed = none ∧ t.peek (slotResvAddr g.slot) 8 = 0 ∧ (∀ x, x < slotResvAddr g.slot ∨ slotResvAddr g.slot + 8 ≤ x → t.byte x = s.byte x) ∧ t = { s with key := t.key, csr := t.csr, answer := t.answer, freeCtr := t.freeCtr, mem := t.mem, poison := t.poison, soft := t.soft, kep := t.kep }) ∧
    (∀ (a : Agent) (s : State) (g : KeyArg) (k : KeySlot) (kek : List Byte),
      s.writes a rKEYCMD = true →
      s.keyReady opExport = true →
      g = s.keyArg →
      s.deliver g.slot mExport = (.done, k) →
      s.wrapKey g.pslot = (.done, kek) →
      s.engineRange g.addr (16 + 8 * (k.mat.length / 8)) = true →
      exec (.keyExport a) s = .next (s.keyEnds (s.write g.addr
          (leBytes 1 k.typ ++ leBytes 1 k.mask ++ leBytes 2 0 ++ beBytes 4 k.kid ++ ofNats (kwWrap (nats kek) (blobIv k.typ k.mask k.kid) (nats k.mat)))) .done)) ∧
    (∀ (a : Agent) (s : State) (g : KeyArg),
      s.writes a rKEYCMD = true →
      s.keyReady opGenpkt = true →
      g = s.keyArg →
      g.typ = 1 ∨ g.typ = 2 →
      childMaskOk g.mask = true →
      (s.wrapKey g.pslot).1 = .done →
      s.key.entropyBad = false →
      s.inDa (s.pktAddr g.epi) 64 = true →
      exec (.genpkt a) s = .next (s.keyEnds (((s.drawn 1).pocketPut g.epi g.pslot g.typ g.mask (leBytes 32 s.draw)).poke (resvAddr g.epi) 8 0) .done)) ∧
    (∀ (a : Agent) (s : State) (g : KeyArg) (kek : List Byte) (mat : List Nat),
      s.writes a rKEYCMD = true →
      s.keyReady opImportpkt = true →
      g = s.keyArg →
      s.srcOk g.addr 48 = none →
      s.peek g.addr 1 = 1 ∨ s.peek g.addr 1 = 2 →
      childMaskOk (s.peek (g.addr + 1) 1) = true →
      s.wrapKey g.slot = (.done, kek) →
      (s.wrapKey g.pslot).1 = .done →
      s.inDa (s.pktAddr g.epi) 64 = true →
      kwUnwrap (nats kek) (blobIv (s.peek g.addr 1) (s.peek (g.addr + 1) 1) (be (s.bytes g.addr 8) 4 4)) (nats (s.bytes (g.addr + 8) 40)) = some mat →
      exec (.importpkt a) s = .next (s.keyEnds (((s.pocketPut g.epi g.pslot (s.peek g.addr 1) (s.peek (g.addr + 1) 1) (ofNats mat)).poke (resvAddr g.epi) 8 0).touch g.addr 48) .done)) ∧
    (∀ (a : Agent) (s : State) (g : KeyArg) (m : List Byte) (f : Bool),
      s.writes a rKEYCMD = true →
      s.keyReady opRewrap = true →
      g = s.keyArg →
      s.inDa (s.pktAddr g.epi) 64 = true →
      bit (s.sflags g.epi) sfPending = false →
      s.unwrapAs (s.pocket g.epi) (s.pocket g.epi).wrap = (.done, m, f) →
      (s.wrapKey g.pslot).1 = .done →
      exec (.rewrap a) s = .next (s.keyEnds (s.pocketPut g.epi g.pslot (s.pocket g.epi).ptype (s.pocket g.epi).mask m) .done)) ∧
    (∀ (a : Agent) (s : State) (g : KeyArg) (k : KeySlot),
      s.writes a rKEYCMD = true →
      s.keyReady opAttest = true →
      g = s.keyArg →
      s.engineRange g.addr 4883 = true →
      s.fenced 8 = false →
      s.fenced 9 = false →
      s.deliver 0 mDsa = (.done, k) →
      k.typ = ktDsaPriv →
      s.key.entropyBad = false →
      exec (.attest a) s = .next (if Config.dsaStuck s.draw then s.keyEnds (s.drawn 1) .engineFault
          else s.keyEnds ((s.drawn 1).write g.addr (s.attestBody ++ sub (Config.dsaSign k.mat (sha3_512 s.attestBody) ctxAtt s.draw) 0 4627)) .done)) ∧
    (∀ (a : Agent) (s : State) (g : KeyArg) (b : List Byte) (k : KeySlot),
      s.writes a rKEYCMD = true →
      s.keyReady opAuth = true →
      g = s.keyArg →
      s.srcOk g.addr 4691 = none →
      b = s.bytes g.addr 4691 →
      authShape b = true →
      s.fenced 8 = false →
      s.fenced 9 = false →
      s.deliver 4 mDsa = (.done, k) →
      k.typ = ktDsaPriv ∨ k.typ = ktDsaPub →
      le b 8 8 = s.eui →
      s.fget fKEYAUTHSEQ_SEQ < le b 16 8 →
      ∃ t, exec (.auth a) s = .next t ∧ t = { s with key := t.key, csr := t.csr, answer := t.answer, soft := t.soft } ∧ t.key.slots = s.key.slots ∧
        if Config.dsaVerify (s.publicOf k) (sha3_512 (b.take 64)) ctxNone (b.drop 64) then
          t.answer.status = .done ∧ t.fget fKEYAUTHSEQ_SEQ = le b 16 8 ∧ t.key.armed = some (le b 5 1, le b 6 2, sub b 24 32) ∧ t.flag fKEYSTAT_ARMED = true
        else t.answer.status = .sigFail ∧ t.key.armed = none ∧ t.fget fKEYAUTHSEQ_SEQ = s.fget fKEYAUTHSEQ_SEQ ∧
          t.fget fDSAVFAIL_COUNT = satAdd fDSAVFAIL_COUNT.w (s.fget fDSAVFAIL_COUNT) 1) ∧
    (∀ (a : Agent) (s : State),
      s.writes a rKEYCMD = true →
      s.mode = modeBoot →
      s.key.armed = none →
      exec (.gen a) s = .next ((s.fset fKEYSTAT_STATUS Status.modeDenied.code).say .modeDenied) ∧ exec (.invalidate a) s = .next ((s.fset fKEYSTAT_STATUS Status.modeDenied.code).say .modeDenied) ∧ exec (.setpub a) s = .next ((s.fset fKEYSTAT_STATUS Status.modeDenied.code).say .modeDenied) ∧ exec (.pubout a) s = .next ((s.fset fKEYSTAT_STATUS Status.modeDenied.code).say .modeDenied)) ∧
    (∀ (a : Agent) (s : State),
      s.writes a rKEYCMD = true →
      s.mode = modeBoot →
      s.key.armed = none →
      exec (.keyImport a) s = .next ((s.fset fKEYSTAT_STATUS Status.modeDenied.code).say .modeDenied) ∧ exec (.keyExport a) s = .next ((s.fset fKEYSTAT_STATUS Status.modeDenied.code).say .modeDenied) ∧ exec (.genpkt a) s = .next ((s.fset fKEYSTAT_STATUS Status.modeDenied.code).say .modeDenied) ∧ exec (.importpkt a) s = .next ((s.fset fKEYSTAT_STATUS Status.modeDenied.code).say .modeDenied)) ∧
    (∀ (a : Agent) (s : State),
      s.writes a rKEYCMD = true →
      s.mode = modeBoot →
      s.key.armed = none →
      exec (.rewrap a) s = .next ((s.fset fKEYSTAT_STATUS Status.modeDenied.code).say .modeDenied) ∧ exec (.attest a) s = .next ((s.fset fKEYSTAT_STATUS Status.modeDenied.code).say .modeDenied) ∧ exec (.auth a) s = .next ((s.fset fKEYSTAT_STATUS Status.modeDenied.code).say .modeDenied)) ∧
    (∀ (a : Agent) (s : State),
      s.writes a rKEYCMD = true →
      s.mode = modeService →
      s.key.armed = none →
      (s.life = lifeProvisioned ∨ s.life = lifeField) →
      reservedSlot s.keyArg.slot = false →
      s.keyArg.slot < 16 →
      exec (.gen a) s = .next ((s.fset fKEYSTAT_STATUS Status.lcDenied.code).say .lcDenied) ∧ exec (.invalidate a) s = .next ((s.fset fKEYSTAT_STATUS Status.lcDenied.code).say .lcDenied) ∧ exec (.setpub a) s = .next ((s.fset fKEYSTAT_STATUS Status.lcDenied.code).say .lcDenied) ∧ exec (.keyImport a) s = .next ((s.fset fKEYSTAT_STATUS Status.lcDenied.code).say .lcDenied))

/-- SHA3_256, SHA3_512, SHAKE128, SHAKE256, SIGN, VERIFY, ENCAPS and DECAPS each take the job at the front of their engine's JOBQ
when its OP is the row's (the first row of an engine also takes an OP outside the table) and post its completion with the bytes
written; a disabled or fenced engine, one that holds a completion for a full DONEQ, an empty queue and another row's job leave
all as it was. In BOOT a job completes with MODE_DENIED, one without END or outside the table with BAD_ARGUMENT. A hash writes
the digest of its source; SIGN writes the signature, or completes with ENGINE_FAULT where the sampler gives up; VERIFY completes
with DONE or SIG_FAIL as the signature verifies; ENCAPS writes the ciphertext and puts the secret into DSLOT, DECAPS puts the
secret of the ciphertext there. A bad DSLOT, a key of another type, a key that is not delivered, a range outside memory or a
poisoned source end the job with their status, nothing written. (R411, R413, R541, R553, R554, R555, R556, R557, R685) -/
def Obligations.HashAndSignatureJobs : Prop :=
    (∀ (s : State),
      s.clocked = true →
      (s.flag fSHACFG_EN = false ∨ s.fenced 8 = true ∨ s.holdsDone (s.fget fSHACFG_DONEQ) 0 = true ∨ s.frontJob (s.fget fSHACFG_JOBQ) = none) →
      exec .sha3x256 s = .next s ∧ exec .sha3x512 s = .next s ∧ exec .shake128 s = .next s ∧ exec .shake256 s = .next s) ∧
    (∀ (s u : State) (d : List GReg) (j : EngJob) (r : JobEnd),
      s.clocked = true →
      s.flag fSHACFG_EN = true →
      s.fenced 8 = false →
      s.holdsDone (s.fget fSHACFG_DONEQ) 0 = false →
      s.frontJob (s.fget fSHACFG_JOBQ) = some d →
      j = EngJob.parse d →
      u = s.dequeued (s.fget fSHACFG_JOBQ) →
      r = (if s.mode = modeBoot then (.modeDenied, u, 0) else if j.endBit ≠ 1 then (.badArgument, u, 0) else u.shaJob j) →
      ((j.op = 0 ∨ 3 < j.op) → exec .sha3x256 s = .next (r.2.1.hwEnqueue (s.fget fSHACFG_DONEQ) (doneDesc r.1 0 j.job r.2.2))) ∧ (¬(j.op = 0 ∨ 3 < j.op) → exec .sha3x256 s = .next s) ∧
        (j.op = 1 → exec .sha3x512 s = .next (r.2.1.hwEnqueue (s.fget fSHACFG_DONEQ) (doneDesc r.1 0 j.job r.2.2))) ∧ (¬(j.op = 1) → exec .sha3x512 s = .next s) ∧
        (j.op = 2 → exec .shake128 s = .next (r.2.1.hwEnqueue (s.fget fSHACFG_DONEQ) (doneDesc r.1 0 j.job r.2.2))) ∧ (¬(j.op = 2) → exec .shake128 s = .next s) ∧
        (j.op = 3 → exec .shake256 s = .next (r.2.1.hwEnqueue (s.fget fSHACFG_DONEQ) (doneDesc r.1 0 j.job r.2.2))) ∧ (¬(j.op = 3) → exec .shake256 s = .next s)) ∧
    (∀ (s : State),
      s.clocked = true →
      (s.flag fDSACFG_EN = false ∨ s.fenced 9 = true ∨ s.holdsDone (s.fget fDSACFG_DONEQ) 0 = true ∨ s.frontJob (s.fget fDSACFG_JOBQ) = none) →
      exec .sign s = .next s ∧ exec .verify s = .next s) ∧
    (∀ (s u : State) (d : List GReg) (j : EngJob) (r : JobEnd),
      s.clocked = true →
      s.flag fDSACFG_EN = true →
      s.fenced 9 = false →
      s.holdsDone (s.fget fDSACFG_DONEQ) 0 = false →
      s.frontJob (s.fget fDSACFG_JOBQ) = some d →
      j = EngJob.parse d →
      u = s.dequeued (s.fget fDSACFG_JOBQ) →
      r = (if s.mode = modeBoot then (.modeDenied, u, 0) else if j.endBit ≠ 1 then (.badArgument, u, 0) else u.dsaJob j) →
      ((j.op = 0 ∨ 1 < j.op) → exec .sign s = .next (r.2.1.hwEnqueue (s.fget fDSACFG_DONEQ) (doneDesc r.1 0 j.job r.2.2))) ∧ (¬(j.op = 0 ∨ 1 < j.op) → exec .sign s = .next s) ∧
        (j.op = 1 → exec .verify s = .next (r.2.1.hwEnqueue (s.fget fDSACFG_DONEQ) (doneDesc r.1 0 j.job r.2.2))) ∧ (¬(j.op = 1) → exec .verify s = .next s)) ∧
    (∀ (s : State),
      s.clocked = true →
      (s.flag fKEMCFG_EN = false ∨ s.fenced 10 = true ∨ s.holdsDone (s.fget fKEMCFG_DONEQ) 0 = true ∨ s.frontJob (s.fget fKEMCFG_JOBQ) = none) →
      exec .encaps s = .next s ∧ exec .decaps s = .next s) ∧
    (∀ (s u : State) (d : List GReg) (j : EngJob) (r : JobEnd),
      s.clocked = true →
      s.flag fKEMCFG_EN = true →
      s.fenced 10 = false →
      s.holdsDone (s.fget fKEMCFG_DONEQ) 0 = false →
      s.frontJob (s.fget fKEMCFG_JOBQ) = some d →
      j = EngJob.parse d →
      u = s.dequeued (s.fget fKEMCFG_JOBQ) →
      r = (if s.mode = modeBoot then (.modeDenied, u, 0) else if j.endBit ≠ 1 then (.badArgument, u, 0) else u.kemJob j) →
      ((j.op = 0 ∨ 1 < j.op) → exec .encaps s = .next (r.2.1.hwEnqueue (s.fget fKEMCFG_DONEQ) (doneDesc r.1 0 j.job r.2.2))) ∧ (¬(j.op = 0 ∨ 1 < j.op) → exec .encaps s = .next s) ∧
        (j.op = 1 → exec .decaps s = .next (r.2.1.hwEnqueue (s.fget fKEMCFG_DONEQ) (doneDesc r.1 0 j.job r.2.2))) ∧ (¬(j.op = 1) → exec .decaps s = .next s)) ∧
    (∀ (s : State) (a n : Nat),
      (s.engineRange a n = false → s.jobSrc a n = (.badAddress, s, [])) ∧ (s.engineRange a n = true → (s.touch a n).poisonedIn a n = true → s.jobSrc a n = (.poisoned, s.touch a n, [])) ∧
        (s.engineRange a n = true → (s.touch a n).poisonedIn a n = false → s.jobSrc a n = (.done, s.touch a n, (s.touch a n).bytes a n))) ∧
    (∀ (s : State) (j : EngJob),
      ((3 < j.op ∨ (2 ≤ j.op ∧ j.outlen = 0)) → s.shaJob j = (.badArgument, s, 0)) ∧ (¬(3 < j.op ∨ (2 ≤ j.op ∧ j.outlen = 0)) → (s.jobSrc j.src j.len).1 ≠ .done → s.shaJob j = ((s.jobSrc j.src j.len).1, (s.jobSrc j.src j.len).2.1, 0)) ∧
        (j.op = 0 → (s.jobSrc j.src j.len).1 = .done → s.shaJob j = (s.jobSrc j.src j.len).2.1.jobOut j.dst (sha3_256 (s.jobSrc j.src j.len).2.2)) ∧
        (j.op = 1 → (s.jobSrc j.src j.len).1 = .done → s.shaJob j = (s.jobSrc j.src j.len).2.1.jobOut j.dst (sha3_512 (s.jobSrc j.src j.len).2.2)) ∧
        (j.op = 2 → j.outlen ≠ 0 → (s.jobSrc j.src j.len).1 = .done → s.shaJob j = (s.jobSrc j.src j.len).2.1.jobOut j.dst (shake128 (s.jobSrc j.src j.len).2.2 j.outlen)) ∧
        (j.op = 3 → j.outlen ≠ 0 → (s.jobSrc j.src j.len).1 = .done → s.shaJob j = (s.jobSrc j.src j.len).2.1.jobOut j.dst (shake256 (s.jobSrc j.src j.len).2.2 j.outlen))) ∧
    (∀ (s : State) (a : Nat) (out : List Byte),
      (s.engineRange a out.length = false → s.jobOut a out = (.badAddress, s, 0)) ∧ (s.engineRange a out.length = true → s.jobOut a out = (.done, s.write a out, out.length))) ∧
    (∀ (s : State) (j : EngJob),
      (1 < j.op → s.dsaJob j = (.badArgument, s, 0)) ∧ (j.op = 0 → (s.jobSrc j.src j.len).1 ≠ .done → s.dsaJob j = ((s.jobSrc j.src j.len).1, (s.jobSrc j.src j.len).2.1, 0)) ∧
        (j.op = 0 → (s.jobSrc j.src j.len).1 = .done → (s.jobSrc j.src j.len).2.1.engineRange j.dst sigBytes = false → s.dsaJob j = (.badAddress, (s.jobSrc j.src j.len).2.1, 0)) ∧
        (j.op = 0 → (s.jobSrc j.src j.len).1 = .done → (s.jobSrc j.src j.len).2.1.engineRange j.dst sigBytes = true → ((s.jobSrc j.src j.len).2.1.signWith j.slot (s.jobSrc j.src j.len).2.2 ctxNone).1 ≠ .done → s.dsaJob j = (((s.jobSrc j.src j.len).2.1.signWith j.slot (s.jobSrc j.src j.len).2.2 ctxNone).1, (s.jobSrc j.src j.len).2.1.drawn 1, 0)) ∧
        (j.op = 0 → (s.jobSrc j.src j.len).1 = .done → (s.jobSrc j.src j.len).2.1.engineRange j.dst sigBytes = true → ((s.jobSrc j.src j.len).2.1.signWith j.slot (s.jobSrc j.src j.len).2.2 ctxNone).1 = .done → s.dsaJob j = ((s.jobSrc j.src j.len).2.1.drawn 1).jobOut j.dst ((s.jobSrc j.src j.len).2.1.signWith j.slot (s.jobSrc j.src j.len).2.2 ctxNone).2) ∧
        (j.op = 1 → (s.jobSrc j.src (j.len + sigBytes)).1 ≠ .done → s.dsaJob j = ((s.jobSrc j.src (j.len + sigBytes)).1, (s.jobSrc j.src (j.len + sigBytes)).2.1, 0)) ∧ (j.op = 1 → (s.jobSrc j.src (j.len + sigBytes)).1 = .done → s.dsaJob j = (((s.jobSrc j.src (j.len + sigBytes)).2.1.verifyWith j.slot ((s.jobSrc j.src (j.len + sigBytes)).2.2.take j.len) ctxNone ((s.jobSrc j.src (j.len + sigBytes)).2.2.drop j.len)), (s.jobSrc j.src (j.len + sigBytes)).2.1.countVerify ((s.jobSrc j.src (j.len + sigBytes)).2.1.verifyWith j.slot ((s.jobSrc j.src (j.len + sigBytes)).2.2.take j.len) ctxNone ((s.jobSrc j.src (j.len + sigBytes)).2.2.drop j.len)), 0))) ∧
    (∀ (s : State) (n : Nat) (msg ctx sig : List Byte) (k : KeySlot),
      k = (s.deliver n mDsa).2 →
      ((s.deliver n mDsa).1 ≠ .done → s.verifyWith n msg ctx sig = (s.deliver n mDsa).1 ∧ s.signWith n msg ctx = ((s.deliver n mDsa).1, [])) ∧
        ((s.deliver n mDsa).1 = .done → k.typ ≠ ktDsaPriv ∧ k.typ ≠ ktDsaPub → s.verifyWith n msg ctx sig = .badArgument ∧ s.signWith n msg ctx = (.badArgument, [])) ∧
        ((s.deliver n mDsa).1 = .done → k.typ = ktDsaPub → s.signWith n msg ctx = (.badArgument, [])) ∧
        ((s.deliver n mDsa).1 = .done → k.typ = ktDsaPriv ∨ k.typ = ktDsaPub → s.verifyWith n msg ctx sig = (if Config.dsaVerify (s.publicOf k) (sha3_512 msg) ctx sig then .done else .sigFail)) ∧
        ((s.deliver n mDsa).1 = .done → k.typ = ktDsaPriv → s.key.entropyBad = true ∨ Config.dsaStuck s.draw = true → s.signWith n msg ctx = (.engineFault, [])) ∧
        ((s.deliver n mDsa).1 = .done → k.typ = ktDsaPriv → s.key.entropyBad = false ∧ Config.dsaStuck s.draw = false → s.signWith n msg ctx = (.done, sub (Config.dsaSign k.mat (sha3_512 msg) ctx s.draw) 0 sigBytes))) ∧
    (∀ (s : State) (j : EngJob),
      ((1 < j.op ∨ s.dslotBad j = true) → s.kemJob j = (.badArgument, s, 0)) ∧ (¬(1 < j.op ∨ s.dslotBad j = true) → (s.deliver j.slot mKem).1 ≠ .done → s.kemJob j = ((s.deliver j.slot mKem).1, s, 0)) ∧
        (¬(1 < j.op ∨ s.dslotBad j = true) → (s.deliver j.slot mKem).1 = .done → (j.op = 0 ∧ (s.deliver j.slot mKem).2.typ ≠ ktKemPub) ∨ (j.op = 1 ∧ (s.deliver j.slot mKem).2.typ ≠ ktKemPriv) → s.kemJob j = (.badArgument, s, 0)) ∧
        (¬(1 < j.op ∨ s.dslotBad j = true) → (s.deliver j.slot mKem).1 = .done → j.op = 0 ∧ (s.deliver j.slot mKem).2.typ = ktKemPub → s.engineRange j.dst 1568 = false → s.kemJob j = (.badAddress, s, 0)) ∧
        (¬(1 < j.op ∨ s.dslotBad j = true) → (s.deliver j.slot mKem).1 = .done → j.op = 1 ∧ (s.deliver j.slot mKem).2.typ = ktKemPriv → (s.jobSrc j.src 1568).1 ≠ .done → s.kemJob j = ((s.jobSrc j.src 1568).1, (s.jobSrc j.src 1568).2.1, 0)) ∧
        (s.dslotBad j = true ↔ (s.slot j.dslot).typ ≠ 0 ∨ reservedSlot j.dslot = true ∨ maskOk ktAes256 j.dmask = false ∨ (j.dslot < 16 ∧ (s.life = lifeProvisioned ∨ s.life = lifeField)))) ∧
    (∀ (s : State) (d : List GReg) (j : EngJob) (u : State),
      s.clocked = true →
      s.flag fSHACFG_EN = true →
      s.fenced 8 = false →
      s.holdsDone (s.fget fSHACFG_DONEQ) 0 = false →
      s.frontJob (s.fget fSHACFG_JOBQ) = some d →
      j = EngJob.parse d →
      j.op = 0 →
      j.endBit = 1 →
      s.mode ≠ modeBoot →
      s.engineRange j.src (j.len) = true →
      u = (s.dequeued (s.fget fSHACFG_JOBQ)).touch j.src (j.len) →
      u.poisonedIn j.src (j.len) = false →
      u.engineRange j.dst (sha3_256 (u.bytes j.src j.len)).length = true →
      exec .sha3x256 s = .next ((u.write j.dst (sha3_256 (u.bytes j.src j.len))).hwEnqueue (s.fget fSHACFG_DONEQ) (doneDesc .done 0 j.job (sha3_256 (u.bytes j.src j.len)).length))) ∧
    (∀ (s : State) (d : List GReg) (j : EngJob) (u : State),
      s.clocked = true →
      s.flag fSHACFG_EN = true →
      s.fenced 8 = false →
      s.holdsDone (s.fget fSHACFG_DONEQ) 0 = false →
      s.frontJob (s.fget fSHACFG_JOBQ) = some d →
      j = EngJob.parse d →
      j.op = 1 →
      j.endBit = 1 →
      s.mode ≠ modeBoot →
      s.engineRange j.src (j.len) = true →
      u = (s.dequeued (s.fget fSHACFG_JOBQ)).touch j.src (j.len) →
      u.poisonedIn j.src (j.len) = false →
      u.engineRange j.dst (sha3_512 (u.bytes j.src j.len)).length = true →
      exec .sha3x512 s = .next ((u.write j.dst (sha3_512 (u.bytes j.src j.len))).hwEnqueue (s.fget fSHACFG_DONEQ) (doneDesc .done 0 j.job (sha3_512 (u.bytes j.src j.len)).length))) ∧
    (∀ (s : State) (d : List GReg) (j : EngJob) (u : State),
      s.clocked = true →
      s.flag fSHACFG_EN = true →
      s.fenced 8 = false →
      s.holdsDone (s.fget fSHACFG_DONEQ) 0 = false →
      s.frontJob (s.fget fSHACFG_JOBQ) = some d →
      j = EngJob.parse d →
      j.op = 2 →
      j.endBit = 1 →
      s.mode ≠ modeBoot →
      s.engineRange j.src (j.len) = true →
      u = (s.dequeued (s.fget fSHACFG_JOBQ)).touch j.src (j.len) →
      u.poisonedIn j.src (j.len) = false →
      j.outlen ≠ 0 →
      u.engineRange j.dst (shake128 (u.bytes j.src j.len) j.outlen).length = true →
      exec .shake128 s = .next ((u.write j.dst (shake128 (u.bytes j.src j.len) j.outlen)).hwEnqueue (s.fget fSHACFG_DONEQ) (doneDesc .done 0 j.job (shake128 (u.bytes j.src j.len) j.outlen).length))) ∧
    (∀ (s : State) (d : List GReg) (j : EngJob) (u : State),
      s.clocked = true →
      s.flag fSHACFG_EN = true →
      s.fenced 8 = false →
      s.holdsDone (s.fget fSHACFG_DONEQ) 0 = false →
      s.frontJob (s.fget fSHACFG_JOBQ) = some d →
      j = EngJob.parse d →
      j.op = 3 →
      j.endBit = 1 →
      s.mode ≠ modeBoot →
      s.engineRange j.src (j.len) = true →
      u = (s.dequeued (s.fget fSHACFG_JOBQ)).touch j.src (j.len) →
      u.poisonedIn j.src (j.len) = false →
      j.outlen ≠ 0 →
      u.engineRange j.dst (shake256 (u.bytes j.src j.len) j.outlen).length = true →
      exec .shake256 s = .next ((u.write j.dst (shake256 (u.bytes j.src j.len) j.outlen)).hwEnqueue (s.fget fSHACFG_DONEQ) (doneDesc .done 0 j.job (shake256 (u.bytes j.src j.len) j.outlen).length))) ∧
    (∀ (s : State) (d : List GReg) (j : EngJob) (u : State) (k : KeySlot),
      s.clocked = true →
      s.flag fDSACFG_EN = true →
      s.fenced 9 = false →
      s.holdsDone (s.fget fDSACFG_DONEQ) 0 = false →
      s.frontJob (s.fget fDSACFG_JOBQ) = some d →
      j = EngJob.parse d →
      j.op = 0 →
      j.endBit = 1 →
      s.mode ≠ modeBoot →
      s.engineRange j.src (j.len) = true →
      u = (s.dequeued (s.fget fDSACFG_JOBQ)).touch j.src (j.len) →
      u.poisonedIn j.src (j.len) = false →
      u.engineRange j.dst sigBytes = true →
      u.deliver j.slot mDsa = (.done, k) →
      k.typ = ktDsaPriv →
      s.key.entropyBad = false →
      exec .sign s = .next (if Config.dsaStuck u.draw then (u.drawn 1).hwEnqueue (s.fget fDSACFG_DONEQ) (doneDesc .engineFault 0 j.job 0)
          else ((u.drawn 1).write j.dst (sub (Config.dsaSign k.mat (sha3_512 (u.bytes j.src j.len)) ctxNone u.draw) 0 sigBytes)).hwEnqueue
            (s.fget fDSACFG_DONEQ) (doneDesc .done 0 j.job sigBytes))) ∧
    (∀ (s : State) (d : List GReg) (j : EngJob) (u : State) (k : KeySlot),
      s.clocked = true →
      s.flag fDSACFG_EN = true →
      s.fenced 9 = false →
      s.holdsDone (s.fget fDSACFG_DONEQ) 0 = false →
      s.frontJob (s.fget fDSACFG_JOBQ) = some d →
      j = EngJob.parse d →
      j.op = 1 →
      j.endBit = 1 →
      s.mode ≠ modeBoot →
      s.engineRange j.src (j.len + sigBytes) = true →
      u = (s.dequeued (s.fget fDSACFG_JOBQ)).touch j.src (j.len + sigBytes) →
      u.poisonedIn j.src (j.len + sigBytes) = false →
      u.deliver j.slot mDsa = (.done, k) →
      k.typ = ktDsaPriv ∨ k.typ = ktDsaPub →
      exec .verify s = .next (if Config.dsaVerify (u.publicOf k) (sha3_512 ((u.bytes j.src (j.len + sigBytes)).take j.len)) ctxNone ((u.bytes j.src (j.len + sigBytes)).drop j.len)
          then u.hwEnqueue (s.fget fDSACFG_DONEQ) (doneDesc .done 0 j.job 0)
          else (u.bump fDSAVFAIL_COUNT 1).hwEnqueue (s.fget fDSACFG_DONEQ) (doneDesc .sigFail 0 j.job 0))) ∧
    (∀ (s : State) (d : List GReg) (j : EngJob) (u : State) (k : KeySlot),
      s.clocked = true →
      s.flag fKEMCFG_EN = true →
      s.fenced 10 = false →
      s.holdsDone (s.fget fKEMCFG_DONEQ) 0 = false →
      s.frontJob (s.fget fKEMCFG_JOBQ) = some d →
      j = EngJob.parse d →
      j.op = 0 →
      j.endBit = 1 →
      s.mode ≠ modeBoot →
      u = s.dequeued (s.fget fKEMCFG_JOBQ) →
      u.dslotBad j = false →
      u.deliver j.slot mKem = (.done, k) →
      k.typ = ktKemPub →
      u.engineRange j.dst 1568 = true →
      exec .encaps s = .next ((((u.drawn 1).kemSecret j (Config.kemEncaps (u.publicOf k) u.draw).2).write j.dst (sub (Config.kemEncaps (u.publicOf k) u.draw).1 0 1568)).hwEnqueue
          (s.fget fKEMCFG_DONEQ) (doneDesc .done 0 j.job 1568))) ∧
    (∀ (s : State) (d : List GReg) (j : EngJob) (u : State) (k : KeySlot),
      s.clocked = true →
      s.flag fKEMCFG_EN = true →
      s.fenced 10 = false →
      s.holdsDone (s.fget fKEMCFG_DONEQ) 0 = false →
      s.frontJob (s.fget fKEMCFG_JOBQ) = some d →
      j = EngJob.parse d →
      j.op = 1 →
      j.endBit = 1 →
      s.mode ≠ modeBoot →
      s.engineRange j.src (1568) = true →
      u = (s.dequeued (s.fget fKEMCFG_JOBQ)).touch j.src (1568) →
      u.poisonedIn j.src (1568) = false →
      u.dslotBad j = false →
      u.deliver j.slot mKem = (.done, k) →
      k.typ = ktKemPriv →
      exec .decaps s = .next ((u.kemSecret j (Config.kemDecaps k.mat (u.bytes j.src 1568))).hwEnqueue (s.fget fKEMCFG_DONEQ) (doneDesc .done 0 j.job 0))) ∧
    (∀ (s : State) (j : EngJob) (x : List Byte),
      (s.kemSecret j x).slot j.dslot = { typ := ktAes256, mask := j.dmask, kid := kidOf s.draw, mat := sub x 0 32 } ∧ (∀ m, m ≠ j.dslot → (s.kemSecret j x).slot m = s.slot m) ∧
        (s.kemSecret j x).mem = s.mem)

/-- TAMPER_ALARM shows the conditions that now hold, latches each active source that newly alarms and records one event for each;
where none newly alarms nothing else changes. A source whose action is LOG leaves the keys. An ERASE ends what runs (an engine
job aborts with ALARM, the bytes it wrote zeroed; a KEYCMD ends with ALARM; a takeover before TKO is abandoned with TKOBLOCKED),
erases the store key and every secret slot, and sets PEND, ERASED and the reset cause; with TMPCFG.RELEASE it deasserts
ACT_OUT_N. In BOOT it enters RECOVERY, in Sleep it marks SLEEPERASE; in Sleep with a backup too low it stays latched in PEND.
Which sources are active and which erase follow from TMPCFG, the life cycle and the state. PEND_CLEAR clears PEND only when no
active source holds its condition. PROVISION and FIELD program one step pair from the states R569 allows, DEBUG_OPEN of an armed
FIELD chip erases, programs a step and ends in an SWR, and SCRAP of a BLANK or DEPOT chip or an armed one erases, scraps and
ends in an SWR; a request uses up an arming. Any other request, or one that the arming does not match, is refused with
LC_DENIED; after 64 step pairs a request other than SCRAP is refused with FUSE_EXHAUSTED; while PFAIL_N is asserted none starts.
(R412, R558, R561, R562, R563, R565, R567, R568, R569, R571, R573, R655) -/
def Obligations.TamperAndLifeCycle : Prop :=
    (∀ (now : BitVec 10) (busy : List EngBusy) (cut : AlarmCut) (s : State),
      maskOff (now.toNat &&& s.tmpActive) s.pwr.tmpSeen = 0 →
      exec (.tamperAlarm ⟨now, busy, cut⟩) s = .next ((s.fset fTMPSENSE_NOW now.toNat).setPwr { s.pwr with tmpSeen := now.toNat &&& s.tmpActive })) ∧
    (∀ (now : BitVec 10) (busy : List EngBusy) (cut : AlarmCut) (s : State) (fr : Nat) (u : State),
      fr = maskOff (now.toNat &&& s.tmpActive) s.pwr.tmpSeen →
      fr ≠ 0 →
      fr &&& s.tmpErases = 0 →
      u = (((s.fset fTMPSENSE_NOW now.toNat).setPwr { s.pwr with tmpSeen := now.toNat &&& s.tmpActive }).setReg rTMPSTAT (s.reg rTMPSTAT ||| fr)) →
      exec (.tamperAlarm ⟨now, busy, cut⟩) s = .next ((bitsOf fr).foldl (fun (t : State) b => t.event { code := 0x030, sev := 3, src := 0x2D, inst := b, arg0 := t.reg rTMPSENSE, value := t.reg rTMPSTAT }) u)) ∧
    (∀ (now : BitVec 10) (busy : List EngBusy) (cut : AlarmCut) (s : State) (fr : Nat) (u : State),
      fr = maskOff (now.toNat &&& s.tmpActive) s.pwr.tmpSeen →
      fr &&& s.tmpErases ≠ 0 →
      (cut ≠ .noBackup ∨ s.pwr.asleep = false) →
      u = (((((((s.fset fTMPSENSE_NOW now.toNat).setPwr { s.pwr with tmpSeen := now.toNat &&& s.tmpActive }).setReg rTMPSTAT (s.reg rTMPSTAT ||| fr)).alarmEnds cut).engAborts busy).eraseKeys.setFlag fTMPSTAT_PEND true).setFlag fRSTCAUSE_TAMPER_ERASE true) →
      (s.pwr.asleep = true → exec (.tamperAlarm ⟨now, busy, cut⟩) s = .next (((bitsOf fr).foldl (fun (t : State) b => t.event { code := 0x030, sev := 3, src := 0x2D, inst := b, arg0 := t.reg rTMPSENSE, value := t.reg rTMPSTAT }) u).setFlag fTMPSTAT_SLEEPERASE true)) ∧
        (s.pwr.asleep = false → s.mode = modeBoot → exec (.tamperAlarm ⟨now, busy, cut⟩) s = .next ((((bitsOf fr).foldl (fun (t : State) b => t.event { code := 0x030, sev := 3, src := 0x2D, inst := b, arg0 := t.reg rTMPSENSE, value := t.reg rTMPSTAT }) u).fset fMODESTAT_MODE modeRecovery).setPwr { ((bitsOf fr).foldl (fun (t : State) b => t.event { code := 0x030, sev := 3, src := 0x2D, inst := b, arg0 := t.reg rTMPSENSE, value := t.reg rTMPSTAT }) u).pwr with bootStep := 13 })) ∧
        (s.pwr.asleep = false → s.mode ≠ modeBoot → exec (.tamperAlarm ⟨now, busy, cut⟩) s = .next ((bitsOf fr).foldl (fun (t : State) b => t.event { code := 0x030, sev := 3, src := 0x2D, inst := b, arg0 := t.reg rTMPSENSE, value := t.reg rTMPSTAT }) u))) ∧
    (∀ (now : BitVec 10) (busy : List EngBusy) (cut : AlarmCut) (s : State) (fr : Nat) (u : State),
      fr = maskOff (now.toNat &&& s.tmpActive) s.pwr.tmpSeen →
      fr &&& s.tmpErases ≠ 0 →
      cut = .noBackup →
      s.pwr.asleep = true →
      u = (((s.fset fTMPSENSE_NOW now.toNat).setPwr { s.pwr with tmpSeen := now.toNat &&& s.tmpActive }).setReg rTMPSTAT (s.reg rTMPSTAT ||| fr)).setFlag fTMPSTAT_PEND true →
      exec (.tamperAlarm ⟨now, busy, cut⟩) s = .next ((bitsOf fr).foldl (fun (t : State) b => t.event { code := 0x030, sev := 3, src := 0x2D, inst := b, arg0 := t.reg rTMPSENSE, value := t.reg rTMPSTAT }) u)) ∧
    (∀ (now : BitVec 10) (busy : List EngBusy) (cut : AlarmCut) (s : State),
      maskOff (now.toNat &&& s.tmpActive) s.pwr.tmpSeen ≠ 0 →
      maskOff (now.toNat &&& s.tmpActive) s.pwr.tmpSeen &&& s.tmpErases = 0 →
      ∃ t, exec (.tamperAlarm ⟨now, busy, cut⟩) s = .next t ∧ t.fget fTMPSENSE_NOW = now.toNat ∧ t.reg rTMPSTAT = s.reg rTMPSTAT ||| maskOff (now.toNat &&& s.tmpActive) s.pwr.tmpSeen ∧
        t.key = s.key ∧ t.mode = s.mode ∧ t.queues = s.queues ∧ (∀ x, (x < evrAddr 0 ∨ evrAddr 8192 ≤ x) → t.byte x = s.byte x)) ∧
    (∀ (now : BitVec 10) (cut : AlarmCut) (s : State),
      maskOff (now.toNat &&& s.tmpActive) s.pwr.tmpSeen &&& s.tmpErases ≠ 0 →
      (cut ≠ .noBackup ∨ s.pwr.asleep = false) →
      ∃ t, exec (.tamperAlarm ⟨now, [], cut⟩) s = .next t ∧ t.fget fTMPSENSE_NOW = now.toNat ∧ t.fget fTMPSTAT_SRC = s.fget fTMPSTAT_SRC ||| maskOff (now.toNat &&& s.tmpActive) s.pwr.tmpSeen ∧
        t.flag fTMPSTAT_PEND = true ∧ t.flag fTMPSTAT_ERASED = true ∧ t.flag fRSTCAUSE_TAMPER_ERASE = true ∧ t.key.storeKey = none ∧
        (∀ n, secretType (t.slot n).typ = false) ∧ (s.pwr.asleep = true → t.flag fTMPSTAT_SLEEPERASE = true) ∧
        t.mode = (if s.mode = modeBoot ∧ s.pwr.asleep = false then modeRecovery else s.mode) ∧
        (∀ x, (x < evrAddr 0 ∨ evrAddr 8192 ≤ x) → t.byte x = s.byte x)) ∧
    (∀ (s : State) (op : BitVec 4),
      s.alarmEnds .none = s ∧ s.alarmEnds .noBackup = s ∧ (s.isStandby = false → s.alarmEnds .takeover = s) ∧
        (s.isStandby = true → s.alarmEnds .takeover = s.actRelease.setFlag fTWNSTAT_TKOBLOCKED true) ∧ (s.alarmEnds (.keycmd op)).fget fKEYSTAT_STATUS = Status.alarm.code ∧
        (s.alarmEnds (.keycmd op)).key.armed = none ∧ (s.alarmEnds (.keycmd op)).mem = s.mem ∧
        (op.toNat = opInvalidate ∧ 16 ≤ s.fget fKEYARG_SLOT → ((s.alarmEnds (.keycmd op)).slot (s.fget fKEYARG_SLOT)).typ = 0)) ∧
    (∀ (s : State) (x : EngBusy) (l : List EngBusy),
      ((s.engSeat x.unit.val).en = false ∨ s.fenced (s.engSeat x.unit.val).fence = true ∨ s.holdsDone (s.engSeat x.unit.val).dq (s.engSeat x.unit.val).num = true ∨ s.frontJob (s.engSeat x.unit.val).jq = none) →
      s.engAbort x = s) ∧
    (∀ (s u v : State) (x : EngBusy) (e : EngSeat) (d : List GReg) (n : Nat),
      e = s.engSeat x.unit.val →
      e.en = true →
      s.fenced e.fence = false →
      s.holdsDone e.dq e.num = false →
      s.frontJob e.jq = some d →
      n = min x.wrote (engOutLen x.unit.val d) →
      u = (if (s.dequeued e.jq).engineRange (EngJob.parse d).dst n then (s.dequeued e.jq).write (EngJob.parse d).dst (List.replicate n 0) else s.dequeued e.jq) →
      v = (if x.unit.val < 4 then (u.bump fAESALARM_COUNT 1).aeCount e.num true else u) →
      s.engAbort x = v.hwEnqueue e.dq (doneDesc .alarm e.num (EngJob.parse d).job 0)) ∧
    (∀ (s : State),
      (∀ x : Fin 7, s.engAborts [⟨x, 3⟩] = s.engAbort ⟨x, 3⟩) ∧ s.engAborts [] = s ∧ s.tmpErases = s.fget fTMPCFG_TACT ||| 0x3F0 ∧
        s.tmpActive = s.fget fTMPCFG_TEN ||| ((if s.life = lifeField ∨ s.flag fTMPCFG_SENS = true then 0x3F0 else 0) &&& (if s.pwr.asleep then 0x240 else 0x3F0) &&&
          (if s.flag fPFSTAT_PFAIL = true ∨ s.pwr.pf = .halted ∨ s.pwr.bootStep ≤ 1 then 0x3E0 else 0x3F0))) ∧
    (∀ (s : State),
      s.eraseKeys.key.storeKey = none ∧ (∀ n, secretType (s.eraseKeys.slot n).typ = false) ∧
        (∀ n, secretType (s.slot n).typ = false → s.eraseKeys.slot n = s.slot n) ∧ s.eraseKeys.flag fTMPSTAT_ERASED = true ∧ s.eraseKeys.mem = s.mem ∧
        (s.flag fTMPCFG_RELEASE = true → s.eraseKeys.flag fTWNSTAT_ACTOUT = false ∧ s.eraseKeys.flag fTWNSTAT_GATE = false) ∧
        (s.flag fTMPCFG_RELEASE = false → s.eraseKeys = (s.setKey s.eraseKeys.key).setFlag fTMPSTAT_ERASED true)) ∧
    (∀ (a : Agent) (s : State),
      s.writes a rTMPSTAT = true →
      s.fget fTMPSENSE_NOW &&& s.tmpActive = 0 →
      exec (.pendClear a) s = .next ((s.setReg rTMPSTAT (maskOff (s.reg rTMPSTAT) 0x10000)).say .done) ∧ (s.setReg rTMPSTAT (maskOff (s.reg rTMPSTAT) 0x10000)).flag fTMPSTAT_PEND = false) ∧
    (∀ (a : Agent) (s : State),
      s.writes a rTMPSTAT = true →
      s.fget fTMPSENSE_NOW &&& s.tmpActive ≠ 0 →
      ∃ t, exec (.pendClear a) s = .next t ∧ (∀ b, t.reg b = s.reg b) ∧ t = { s with csr := t.csr, answer := ⟨.done, 0⟩ }) ∧
    (∀ (a : Agent) (s : State),
      s.writes a rLCSCTL = true →
      (¬(s.key.armed = none) ∨ ¬((s.life = lifeBlank ∨ s.life = lifeDepot) ∧ s.mode = modeCommission ∧ s.provisioned = true)) →
      exec (.provision a) s = .next ((if s.key.armed.isSome then s.disarm else s).lcsEnd .lcDenied)) ∧
    (∀ (a : Agent) (s : State),
      s.writes a rLCSCTL = true →
      s.key.armed = none →
      ((s.life = lifeBlank ∨ s.life = lifeDepot) ∧ s.mode = modeCommission ∧ s.provisioned = true) →
      64 ≤ s.fget fLCSSTAT_STEPS →
      exec (.provision a) s = .next ((if s.key.armed.isSome then s.disarm else s).lcsEnd .fuseExhausted)) ∧
    (∀ (a : Agent) (s : State),
      s.writes a rLCSCTL = true →
      s.key.armed = none →
      ((s.life = lifeBlank ∨ s.life = lifeDepot) ∧ s.mode = modeCommission ∧ s.provisioned = true) →
      s.fget fLCSSTAT_STEPS < 64 →
      s.flag fPFSTAT_PFAIL = true →
      exec (.provision a) s = .next s) ∧
    (∀ (a : Agent) (s : State),
      s.writes a rLCSCTL = true →
      s.key.armed = none →
      ((s.life = lifeBlank ∨ s.life = lifeDepot) ∧ s.mode = modeCommission ∧ s.provisioned = true) →
      s.fget fLCSSTAT_STEPS < 64 →
      s.flag fPFSTAT_PFAIL = false →
      exec (.provision a) s = .next ((if s.key.armed.isSome then s.disarm else s).fuseStep.lcsEnd .done)) ∧
    (∀ (a : Agent) (s : State),
      s.writes a rLCSCTL = true →
      (¬(s.key.armed = none) ∨ ¬(s.life = lifeProvisioned ∧ s.mode = modeCommission ∧ s.provisioned = true)) →
      exec (.field a) s = .next ((if s.key.armed.isSome then s.disarm else s).lcsEnd .lcDenied)) ∧
    (∀ (a : Agent) (s : State),
      s.writes a rLCSCTL = true →
      s.key.armed = none →
      (s.life = lifeProvisioned ∧ s.mode = modeCommission ∧ s.provisioned = true) →
      64 ≤ s.fget fLCSSTAT_STEPS →
      exec (.field a) s = .next ((if s.key.armed.isSome then s.disarm else s).lcsEnd .fuseExhausted)) ∧
    (∀ (a : Agent) (s : State),
      s.writes a rLCSCTL = true →
      s.key.armed = none →
      (s.life = lifeProvisioned ∧ s.mode = modeCommission ∧ s.provisioned = true) →
      s.fget fLCSSTAT_STEPS < 64 →
      s.flag fPFSTAT_PFAIL = true →
      exec (.field a) s = .next s) ∧
    (∀ (a : Agent) (s : State),
      s.writes a rLCSCTL = true →
      s.key.armed = none →
      (s.life = lifeProvisioned ∧ s.mode = modeCommission ∧ s.provisioned = true) →
      s.fget fLCSSTAT_STEPS < 64 →
      s.flag fPFSTAT_PFAIL = false →
      exec (.field a) s = .next ((if s.key.armed.isSome then s.disarm else s).fuseStep.lcsEnd .done)) ∧
    (∀ (a : Agent) (s : State),
      s.writes a rLCSCTL = true →
      (¬(s.key.armed = none ∨ s.armedFor 0x80 0 = true) ∨ ¬(s.life = lifeField ∧ s.armedFor 0x80 0 = true)) →
      exec (.debugOpen a) s = .next ((if s.key.armed.isSome then s.disarm else s).lcsEnd .lcDenied)) ∧
    (∀ (a : Agent) (s : State),
      s.writes a rLCSCTL = true →
      (s.key.armed = none ∨ s.armedFor 0x80 0 = true) →
      (s.life = lifeField ∧ s.armedFor 0x80 0 = true) →
      64 ≤ s.fget fLCSSTAT_STEPS →
      exec (.debugOpen a) s = .next ((if s.key.armed.isSome then s.disarm else s).lcsEnd .fuseExhausted)) ∧
    (∀ (a : Agent) (s : State),
      s.writes a rLCSCTL = true →
      (s.key.armed = none ∨ s.armedFor 0x80 0 = true) →
      (s.life = lifeField ∧ s.armedFor 0x80 0 = true) →
      s.fget fLCSSTAT_STEPS < 64 →
      s.flag fPFSTAT_PFAIL = true →
      exec (.debugOpen a) s = .next s) ∧
    (∀ (a : Agent) (s : State),
      s.writes a rLCSCTL = true →
      (s.key.armed = none ∨ s.armedFor 0x80 0 = true) →
      (s.life = lifeField ∧ s.armedFor 0x80 0 = true) →
      s.fget fLCSSTAT_STEPS < 64 →
      s.flag fPFSTAT_PFAIL = false →
      exec (.debugOpen a) s = .next ((((((if s.key.armed.isSome then s.disarm else s).actRelease).eraseKeys.setFlag fLCSSTAT_ERASED true).fuseStep).lcsEnd .done).swr 0)) ∧
    (∀ (a : Agent) (s : State),
      s.writes a rLCSCTL = true →
      (¬(s.key.armed = none ∨ s.armedFor 0x81 0 = true) ∨ ¬(s.life = lifeBlank ∨ s.life = lifeDepot ∨ ((s.life = lifeProvisioned ∨ s.life = lifeField) ∧ s.armedFor 0x81 0 = true))) →
      exec (.scrap a) s = .next ((if s.key.armed.isSome then s.disarm else s).lcsEnd .lcDenied)) ∧
    (∀ (a : Agent) (s : State),
      s.writes a rLCSCTL = true →
      (s.key.armed = none ∨ s.armedFor 0x81 0 = true) →
      (s.life = lifeBlank ∨ s.life = lifeDepot ∨ ((s.life = lifeProvisioned ∨ s.life = lifeField) ∧ s.armedFor 0x81 0 = true)) →
      s.flag fPFSTAT_PFAIL = true →
      exec (.scrap a) s = .next s) ∧
    (∀ (a : Agent) (s : State),
      s.writes a rLCSCTL = true →
      (s.key.armed = none ∨ s.armedFor 0x81 0 = true) →
      (s.life = lifeBlank ∨ s.life = lifeDepot ∨ ((s.life = lifeProvisioned ∨ s.life = lifeField) ∧ s.armedFor 0x81 0 = true)) →
      s.flag fPFSTAT_PFAIL = false →
      exec (.scrap a) s = .next (((((if s.key.armed.isSome then s.disarm else s).eraseKeys.setFlag fLCSSTAT_ERASED true).fset fLCSSTAT_STATE lifeScrap).lcsEnd .done).swr 0)) ∧
    (∀ (s : State) (x : Status),
      (s.lcsEnd x).answer = ⟨x, 0⟩ ∧ (s.lcsEnd x).fget fLCSRES_STATUS = x.code ∧ s.lcsEnd x = (s.fset fLCSRES_STATUS x.code).say x ∧
        s.fuseStep.fget fLCSSTAT_STEPS = (s.fget fLCSSTAT_STEPS + 1) % 128 ∧ s.fuseStep.life = lifeOf (s.fget fLCSSTAT_STEPS + 1) ∧ s.fuseStep = { s with csr := s.fuseStep.csr } ∧
        s.disarm.key = { s.key with armed := none }) ∧
    (∀ (n : Nat),
      lifeOf 0 = lifeBlank ∧ lifeOf (3 * n + 1) = lifeProvisioned ∧ lifeOf (3 * n + 2) = lifeField ∧ lifeOf (3 * n + 3) = lifeDepot)

/-- Every write of UPDCTL (CHECK, INSTALL, CLEAN, SELFTEST_PASS, COMMIT, ABANDON) while a command runs is refused with ENGINE_BUSY.
CHECK of an aligned, mapped and unpoisoned candidate gives UPDRES the status of the first of its header's checks that fails, and
only DONE keeps the header and sets CHECKED; a misaligned, unmapped or poisoned candidate is refused. No header whose EPOCH lies
below the fused count, or whose VERSION lies below the committed one, passes. INSTALL without CHECKED, or over a COMMITTED slot,
is refused with BAD_ARGUMENT; otherwise its write marks the slot that does not run INSTALLING and its step puts the kept header
and its payload there, PENDING. CLEAN is accepted once per boot and counts. SELFTEST_PASS sets STPASS. COMMIT is refused with
BAD_ARGUMENT without the trial, three clean boots and STPASS; otherwise its write notes the intent, and its steps raise the
fused epoch one at a time, none while PFAIL_N is asserted, then commit the running slot, supersede the other and take over
VERSION and DIGEST. A step of a command that does not run does nothing. ABANDON on trial makes the slot BAD and ends in an SWR;
else it is refused with BAD_ARGUMENT. (R574, R576, R578, R579, R580, R581, R586, R588, R589, R590, R591, R592) -/
def Obligations.FirmwareUpdate : Prop :=
    (∀ (a : Agent) (s : State),
      s.writes a rUPDCTL = true →
      s.flag fUPDRES_BUSY = true →
      exec (.check a) s = .next (s.say .engineBusy) ∧ exec (.install (.write a)) s = .next (s.say .engineBusy) ∧ exec (.clean a) s = .next (s.say .engineBusy) ∧ exec (.selftestPass a) s = .next (s.say .engineBusy) ∧ exec (.commit (.write a)) s = .next (s.say .engineBusy) ∧ exec (.abandon a) s = .next (s.say .engineBusy)) ∧
    (∀ (a : Agent) (s : State),
      s.writes a rUPDCTL = true →
      s.flag fUPDRES_BUSY = false →
      s.fget fUPDADDR_ADDR % 64 = 0 →
      (s.inDa (s.fget fUPDADDR_ADDR) hdrBytes = true ∨ s.inDb (s.fget fUPDADDR_ADDR) hdrBytes = true) →
      s.poisonedIn (s.fget fUPDADDR_ADDR) hdrBytes = false →
      ((s.headerCheck (s.bytes (s.fget fUPDADDR_ADDR) hdrBytes)) = .done → exec (.check a) s = .next (((((s.touch (s.fget fUPDADDR_ADDR) hdrBytes).setUpd { s.upd with kept := s.bytes (s.fget fUPDADDR_ADDR) hdrBytes }).setFlag fUPDRES_CHECKED true)).updEnd .done)) ∧
        ((s.headerCheck (s.bytes (s.fget fUPDADDR_ADDR) hdrBytes)) ≠ .done → exec (.check a) s = .next (((s.touch (s.fget fUPDADDR_ADDR) hdrBytes).countVerify (s.headerCheck (s.bytes (s.fget fUPDADDR_ADDR) hdrBytes))).updEnd (s.headerCheck (s.bytes (s.fget fUPDADDR_ADDR) hdrBytes))))) ∧
    (∀ (a : Agent) (s : State),
      s.writes a rUPDCTL = true →
      s.flag fUPDRES_BUSY = false →
      s.fget fUPDADDR_ADDR % 64 ≠ 0 →
      exec (.check a) s = .next (s.updEnd .badAlign)) ∧
    (∀ (a : Agent) (s : State),
      s.writes a rUPDCTL = true →
      s.flag fUPDRES_BUSY = false →
      s.fget fUPDADDR_ADDR % 64 = 0 →
      s.inDa (s.fget fUPDADDR_ADDR) hdrBytes = false →
      s.inDb (s.fget fUPDADDR_ADDR) hdrBytes = false →
      exec (.check a) s = .next (s.updEnd .badAddress)) ∧
    (∀ (a : Agent) (s : State),
      s.writes a rUPDCTL = true →
      s.flag fUPDRES_BUSY = false →
      s.fget fUPDADDR_ADDR % 64 = 0 →
      (s.inDa (s.fget fUPDADDR_ADDR) hdrBytes = true ∨ s.inDb (s.fget fUPDADDR_ADDR) hdrBytes = true) →
      s.poisonedIn (s.fget fUPDADDR_ADDR) hdrBytes = true →
      exec (.check a) s = .next ((s.touch (s.fget fUPDADDR_ADDR) hdrBytes).updEnd .poisoned)) ∧
    (∀ (s : State) (x : Status),
      s.updEnd x = (s.fset fUPDRES_STATUS x.code).say x ∧ (s.updEnd x).answer = ⟨x, 0⟩ ∧ (s.updEnd x).fget fUPDRES_STATUS = x.code ∧ (s.updEnd x).upd = s.upd) ∧
    (∀ (s : State) (h : List Byte),
      (hEpoch h < s.fget fUPDFUSE_EPOCH ∨ hVersion h < s.fget fUPDCVER_VERSION) →
      s.headerCheck h ≠ .done) ∧
    (∀ (s : State) (h : List Byte),
      (headerOk h = false → s.headerCheck h = .badFormat) ∧ (headerOk h = true → s.fenced 9 = true ∨ s.fenced 8 = true → s.headerCheck h = .fenced) ∧
        (headerOk h = true → s.fenced 9 = false ∧ s.fenced 8 = false → s.slotValid 2 = false ∧ s.life ≠ lifeBlank → s.headerCheck h = .keyEmpty) ∧
        (headerOk h = true → s.fenced 9 = false ∧ s.fenced 8 = false → s.slotValid 2 = true ∨ s.life = lifeBlank → s.imageSig h = .sigFail ∨ s.imageSig h = .badArgument → s.headerCheck h = .sigFail) ∧
        (headerOk h = true → s.fenced 9 = false ∧ s.fenced 8 = false → s.slotValid 2 = true ∨ s.life = lifeBlank → s.imageSig h = .done → s.rollbackOk h = false → s.headerCheck h = .rollback) ∧
        (headerOk h = true → s.fenced 9 = false ∧ s.fenced 8 = false → s.slotValid 2 = true ∨ s.life = lifeBlank → s.imageSig h = .done → s.rollbackOk h = true → s.headerCheck h = .done) ∧ s.imageSig h = (if s.slotValid 2 then s.verifyWith 2 (h.take 256) ctxNone (sub h 256 sigBytes) else if Config.dsaVerify Config.factoryKey (sha3_512 (h.take 256)) ctxNone (sub h 256 sigBytes) then .done else .sigFail) ∧
        (s.rollbackOk h = true ↔ s.fget fUPDFUSE_EPOCH ≤ hEpoch h ∧ (s.fget fUPDCVER_VERSION < hVersion h ∨ (hVersion h = s.fget fUPDCVER_VERSION ∧ hDigest h = s.upd.digC)))) ∧
    (∀ (a : Agent) (s : State),
      s.writes a rUPDCTL = true →
      s.flag fUPDRES_BUSY = false →
      (s.flag fUPDRES_CHECKED = false ∨ s.slotState (1 - s.runSlot) = usCommitted) →
      exec (.install (.write a)) s = .next (s.updEnd .badArgument)) ∧
    (∀ (a : Agent) (s : State),
      s.writes a rUPDCTL = true →
      s.flag fUPDRES_BUSY = false →
      s.flag fUPDRES_CHECKED = true →
      s.slotState (1 - s.runSlot) ≠ usCommitted →
      s.inDa (s.fget fUPDADDR_ADDR + hdrBytes) (hSize s.upd.kept) = false →
      s.inDb (s.fget fUPDADDR_ADDR + hdrBytes) (hSize s.upd.kept) = false →
      exec (.install (.write a)) s = .next (s.updEnd .badAddress)) ∧
    (∀ (a : Agent) (s : State),
      s.writes a rUPDCTL = true →
      s.flag fUPDRES_BUSY = false →
      s.flag fUPDRES_CHECKED = true →
      s.slotState (1 - s.runSlot) ≠ usCommitted →
      (s.inDa (s.fget fUPDADDR_ADDR + hdrBytes) (hSize s.upd.kept) = true ∨ s.inDb (s.fget fUPDADDR_ADDR + hdrBytes) (hSize s.upd.kept) = true) →
      ∃ t, exec (.install (.write a)) s = .next t ∧ t.answer = ⟨.done, 0⟩ ∧ t.flag fUPDRES_BUSY = true ∧ t.slotState (1 - s.runSlot) = usInstalling ∧
        t.upd = { s.upd with op := 2, src := s.fget fUPDADDR_ADDR + hdrBytes, hdrs := s.upd.hdrs.put noBytes (1 - s.runSlot) s.upd.kept } ∧
        t = { s with csr := t.csr, upd := t.upd, answer := t.answer }) ∧
    (∀ (s : State),
      s.clocked = true →
      s.flag fUPDRES_BUSY = true →
      s.upd.op = 2 →
      ∃ t, exec (.install .step) s = .next t ∧ t.answer = ⟨.done, 0⟩ ∧ t.fget fUPDRES_STATUS = Status.done.code ∧ t.flag fUPDRES_BUSY = false ∧
        t.upd = { s.upd with op := 0, pays := s.upd.pays.put noBytes (1 - s.runSlot) (s.bytes s.upd.src (hSize (s.slotHdr (1 - s.runSlot)))) } ∧ t.slotState (1 - s.runSlot) = usPending ∧
        t.fget (fUPDSLOT_EPOCH (1 - s.runSlot)) = hEpoch (s.slotHdr (1 - s.runSlot)) ∧ t.fget (fUPDSLOT_VERSION (1 - s.runSlot)) = hVersion (s.slotHdr (1 - s.runSlot)) ∧ t.fget (fUPDSLOT_SETFMT (1 - s.runSlot)) = hSetfmt (s.slotHdr (1 - s.runSlot)) ∧
        (s.runSlot ≤ 1 → t.slotState s.runSlot = s.slotState s.runSlot) ∧ t = { s with csr := t.csr, upd := t.upd, answer := t.answer, soft := t.soft }) ∧
    (∀ (a : Agent) (s : State),
      s.writes a rUPDCTL = true →
      s.flag fUPDRES_BUSY = false →
      s.upd.cleaned = false →
      ∃ t, exec (.clean a) s = .next t ∧ t.answer = ⟨.done, 0⟩ ∧ t.upd = { s.upd with cleaned := true } ∧
        (s.runSlot < 2 → t.flag (fUPDSLOT_DIRTY s.runSlot) = false ∧ t.fget (fUPDSLOT_CLEANCNT s.runSlot) = min 255 (s.fget (fUPDSLOT_CLEANCNT s.runSlot) + 1) ∧ t.slotState s.runSlot = s.slotState s.runSlot) ∧
        t = { s with csr := t.csr, upd := t.upd, answer := t.answer }) ∧
    (∀ (a : Agent) (s : State),
      s.writes a rUPDCTL = true →
      s.flag fUPDRES_BUSY = false →
      s.upd.cleaned = true →
      exec (.clean a) s = .next (s.updEnd .badArgument)) ∧
    (∀ (a : Agent) (s : State),
      s.writes a rUPDCTL = true →
      s.flag fUPDRES_BUSY = false →
      exec (.selftestPass a) s = .next ((s.setFlag fUPDSTAT_STPASS true).updEnd .done)) ∧
    (∀ (a : Agent) (s : State),
      s.writes a rUPDCTL = true →
      s.flag fUPDRES_BUSY = false →
      (s.onTrial = false ∨ s.fget (fUPDSLOT_CLEANCNT s.runSlot) < 3 ∨ s.flag fUPDSTAT_STPASS = false) →
      exec (.commit (.write a)) s = .next (s.updEnd .badArgument)) ∧
    (∀ (a : Agent) (s : State),
      s.writes a rUPDCTL = true →
      s.flag fUPDRES_BUSY = false →
      s.onTrial = true →
      3 ≤ s.fget (fUPDSLOT_CLEANCNT s.runSlot) →
      s.flag fUPDSTAT_STPASS = true →
      ∃ t, exec (.commit (.write a)) s = .next t ∧ t.answer = ⟨.done, 0⟩ ∧ t.flag fUPDRES_BUSY = true ∧ t.flag fUPDFUSE_INTENT = true ∧
        t.upd = { s.upd with op := 5, intent := some (s.runSlot, hVersion (s.slotHdr s.runSlot), hEpoch (s.slotHdr s.runSlot), hDigest (s.slotHdr s.runSlot)) } ∧ t.fget fUPDFUSE_EPOCH = s.fget fUPDFUSE_EPOCH ∧
        t = { s with csr := t.csr, upd := t.upd, answer := t.answer }) ∧
    (∀ (s : State) (n v ep : Nat) (dig : List Byte),
      s.clocked = true →
      s.flag fUPDRES_BUSY = true →
      s.upd.op = 5 →
      s.upd.intent = some (n, v, ep, dig) →
      s.fget fUPDFUSE_EPOCH < ep →
      (s.flag fPFSTAT_PFAIL = true → exec (.commit .step) s = .next s) ∧
        (s.flag fPFSTAT_PFAIL = false → exec (.commit .step) s = .next (s.fset fUPDFUSE_EPOCH (s.fget fUPDFUSE_EPOCH + 1)))) ∧
    (∀ (s : State) (n v ep : Nat) (dig : List Byte),
      s.clocked = true →
      s.flag fUPDRES_BUSY = true →
      s.upd.op = 5 →
      s.upd.intent = some (n, v, ep, dig) →
      ep ≤ s.fget fUPDFUSE_EPOCH →
      n < 2 →
      ∃ t, exec (.commit .step) s = .next t ∧ t.answer = ⟨.done, 0⟩ ∧ t.fget fUPDRES_STATUS = Status.done.code ∧ t.flag fUPDRES_BUSY = false ∧ t.slotState n = usCommitted ∧ t.slotState (1 - n) = usSuperseded ∧
        t.fget fUPDFUSE_EPOCH = s.fget fUPDFUSE_EPOCH ∧ t.fget fUPDCVER_VERSION = v % 2 ^ 32 ∧ t.flag fUPDFUSE_INTENT = false ∧ t.onTrial = false ∧
        t.upd = { s.upd with op := 0, digC := dig, intent := none, block := 1 - s.upd.block } ∧ t = { s with csr := t.csr, upd := t.upd, answer := t.answer }) ∧
    (∀ (s : State),
      s.clocked = true →
      (s.flag fUPDRES_BUSY = false ∨ s.upd.op ≠ 5 ∨ s.upd.intent = none → exec (.commit .step) s = .next s) ∧
        (s.flag fUPDRES_BUSY = false ∨ s.upd.op ≠ 2 → exec (.install .step) s = .next s)) ∧
    (∀ (a : Agent) (s : State),
      s.writes a rUPDCTL = true →
      s.flag fUPDRES_BUSY = false →
      s.onTrial = true →
      exec (.abandon a) s = .next ((((s.fset (fUPDSLOT_STATE s.runSlot) usBad).fset fUPDSTAT_LASTFB 5).updEnd .done).swr 0)) ∧
    (∀ (a : Agent) (s : State),
      s.writes a rUPDCTL = true →
      s.flag fUPDRES_BUSY = false →
      s.onTrial = false →
      exec (.abandon a) s = .next (s.updEnd .badArgument))

/-- DRAIN_BATCH, once the ring holds THR KiB or an entry MS old, on mounted writable media with no batch open, takes whole entries
up to 256 KiB; else nothing is taken. DRAIN_BATCH_COMPLETE of a programmed batch moves the tail past its entries, which leave
the ring and stay as a hot batch, and what waits for the ring tries again; with no block to be had the media is full: the ring
keeps every entry and RO is set; while collection must first free a block it waits. CHECKPOINT_GO without an interval, while one
runs, or outside SERVICE, HOLDOVER and STANDBY is refused; otherwise it, as CHECKPOINT_DUE when the interval has passed, starts
one. CHECKPOINT_COMPLETE writes one record of 5,344 bytes (the model adds the reservation entry) for each local endpoint, and
becomes the only generation, keeping just the hot batches above its lowest ISN, with every uncovered batch in the hold store; a
move then goes on. It waits while a switch item is due, the hold store has no room or no block is free; with none started it
does nothing. RINSE_PASS over an enabled memory counts corrected and poisoned granules, the first poisoned one recorded, and the
pass, corrects every correctable granule, and sets LATE past its period; over a disabled memory, or fenced DB, it does nothing.
(R466, R476, R600, R607, R608, R610, R611, R625, R627, R628) -/
def Obligations.DrainsCheckpointsRinse : Prop :=
    (∀ (s : State),
      s.clocked = true →
      (s.mrm.batch = 0 ∧ s.nandOn = true ∧ s.flag fNFCSTAT_RO = false ∧ s.drainDue = true) →
      exec .drainBatch s = .next (s.setMrm { s.mrm with batch := fitEnts 262144 s.mrm.ring }) ∧ ((s.mrm.ring.take (fitEnts 262144 s.mrm.ring)).map fun e => e.len).sum ≤ 262144) ∧
    (∀ (s : State),
      s.clocked = true →
      ¬ (s.mrm.batch = 0 ∧ s.nandOn = true ∧ s.flag fNFCSTAT_RO = false ∧ s.drainDue = true) →
      exec .drainBatch s = .next s) ∧
    (∀ (s : State),
      (s.mrm.ring = [] → s.drainDue = false) ∧ (∀ e, s.mrm.ring.head? = some e → s.drainDue = (decide (1024 * s.fget fMRMDRAIN_THR ≤ s.ringUsed) || decide (e.at_ + msRaw (s.fget fMRMDRAIN_MS) ≤ s.time.raw))) ∧
        s.nandOn = (s.flag fNFCSTAT_MOUNTED && decide (s.pwr.pf = .idle))) ∧
    (∀ (fails : Nat) (s u : State),
      s.clocked = true →
      s.nandOn = true →
      s.mrm.batch ≠ 0 →
      s.putOwn (((s.mrm.ring.take s.mrm.batch).map fun e => e.len).sum) fails = .ok u →
      exec (.drainBatchComplete fails) s = .next (((s.mrm.ring.take s.mrm.batch).foldl State.tailPast (u.setMrm { u.mrm with ring := u.mrm.ring.drop u.mrm.batch, batch := 0, hot := u.mrm.hot ++ [{ entries := (s.mrm.ring.take s.mrm.batch).map fun e => s.bytes (ringBase + e.off) e.len, units := s.ownUnits (((s.mrm.ring.take s.mrm.batch).map fun e => e.len).sum) }] })).nfcEnd.ringRetry)) ∧
    (∀ (fails : Nat) (s u : State),
      s.clocked = true →
      s.nandOn = true →
      s.mrm.batch ≠ 0 →
      s.putOwn (((s.mrm.ring.take s.mrm.batch).map fun e => e.len).sum) fails = .ok u →
      u.mrm = s.mrm ∧ u.time = s.time ∧ u.key = s.key ∧ u.nfc.units = s.nfc.units ∧ u.nfc.own = s.nfc.own + ((((s.mrm.ring.take s.mrm.batch).map fun e => e.len).sum + 4095) / 4096)) ∧
    (∀ (fails : Nat) (s : State),
      s.clocked = true →
      s.nandOn = true →
      s.mrm.batch ≠ 0 →
      s.putOwn (((s.mrm.ring.take s.mrm.batch).map fun e => e.len).sum) fails = .full →
      exec (.drainBatchComplete fails) s = .next s.mediaFull) ∧
    (∀ (fails : Nat) (s : State),
      s.clocked = true →
      (s.mrm.batch = 0 ∨ s.nandOn = false) →
      exec (.drainBatchComplete fails) s = .next s) ∧
    (∀ (fails : Nat) (s : State),
      s.clocked = true →
      s.nandOn = true →
      s.mrm.batch ≠ 0 →
      (s.putOwn (((s.mrm.ring.take s.mrm.batch).map fun e => e.len).sum) fails = .wait → exec (.drainBatchComplete fails) s = .next s)) ∧
    (∀ (s : State),
      (s.flag fNFCSTAT_RO = true → s.mediaFull = s) ∧ (s.flag fNFCSTAT_RO = false → s.mediaFull =
          ((((s.setFlag fNFCSTAT_RO true).event { code := 0x042, sev := 3, src := 0x43 }).setMrm { s.mrm with batch := 0 }).detBreak) ∧ s.mediaFull.flag fNFCSTAT_RO = true ∧ s.mediaFull.mrm.ring = s.mrm.ring ∧ s.mediaFull.mrm.batch = 0)) ∧
    (∀ (s : State) (e : RingEnt),
      (e.off + e.len = ringSize → s.tailPast e = (s.fset fMRMTAIL_OFFSET 0).fset fMRMTAIL_LAPS (s.fget fMRMTAIL_LAPS + 1)) ∧
        (e.off + e.len ≠ ringSize → s.tailPast e = s.fset fMRMTAIL_OFFSET (e.off + e.len))) ∧
    (∀ (a : Agent) (int : Half) (s : State),
      s.writes a rMRMCKPT = true →
      int ≠ 0 →
      s.flag fMRMCKPT_BUSY = false →
      (s.mode = modeService ∨ s.mode = modeHoldover ∨ s.mode = modeStandby) →
      exec (.checkpointGo a int) s = .next ((((s.fset fMRMCKPT_INT int.toNat).setFlag fMRMCKPT_BUSY true).setMrm { s.mrm with ckptFrom := some s.time.raw }).say .done)) ∧
    (∀ (a : Agent) (int : Half) (s : State),
      s.writes a rMRMCKPT = true →
      int = 0 →
      exec (.checkpointGo a int) s = .next (s.say .badArgument)) ∧
    (∀ (a : Agent) (int : Half) (s : State),
      s.writes a rMRMCKPT = true →
      int ≠ 0 →
      s.flag fMRMCKPT_BUSY = true →
      exec (.checkpointGo a int) s = .next (s.say .engineBusy)) ∧
    (∀ (a : Agent) (int : Half) (s : State),
      s.writes a rMRMCKPT = true →
      int ≠ 0 →
      s.flag fMRMCKPT_BUSY = false →
      ¬(s.mode = modeService ∨ s.mode = modeHoldover ∨ s.mode = modeStandby) →
      exec (.checkpointGo a int) s = .next (s.say .modeDenied)) ∧
    (∀ (s : State),
      s.clocked = true →
      (s.ckptMode = true ∧ s.flag fMRMCKPT_BUSY = false ∧ s.mrm.ckptAt + secRaw (60 * s.fget fMRMCKPT_INT) ≤ s.time.raw) →
      exec .checkpointDue s = .next ((s.setFlag fMRMCKPT_BUSY true).setMrm { s.mrm with ckptFrom := some s.time.raw })) ∧
    (∀ (s : State),
      s.clocked = true →
      ¬ (s.ckptMode = true ∧ s.flag fMRMCKPT_BUSY = false ∧ s.mrm.ckptAt + secRaw (60 * s.fget fMRMCKPT_INT) ≤ s.time.raw) →
      exec .checkpointDue s = .next s) ∧
    (∀ (fails : Nat) (s : State) (d : Nat) (u v : State),
      s.clocked = true →
      s.mrm.ckptFrom = some d →
      (s.nandOn = true ∧ s.flag fNFCSTAT_RO = false ∧ s.switchPending = false ∧ s.holdTakes s.uncovered = true) →
      s.putOwn (5344 * s.epis.length) fails = .ok u →
      v = u.ckptCommit (s.epis.map fun e => ({ epi := e, data := s.endpointState e, poison := s.endpointPoison e } : CkptRec)) (s.ownUnits (5344 * s.epis.length)) →
      ((v.mov.ckptWait = false ∨ d < v.mov.recvAt) → exec (.checkpointComplete fails) s = .next v) ∧ (v.mov.ckptWait = true ∧ v.mov.recvAt ≤ d → exec (.checkpointComplete fails) s = .next ((v.setMov { v.mov with ckptWait := false }).moveIn)) ∧
        v.flag fMRMCKPT_BUSY = false ∧ v.mrm.ckptFrom = none ∧ v.mrm.ckptAt = u.time.raw ∧ v.ses.ready = [] ∧ v.ses.hold = s.ses.hold ++ s.uncovered ∧ v.mrm.ring = s.mrm.ring ∧
        v.mrm.hot = (s.mrm.hot.filter fun b => b.above s.lowestIsn) ∧
        (v.mrm.ckpts.map fun c => (c.recs, c.progs, c.lowIsn, c.units)) = [((s.epis.map fun e => ({ epi := e, data := s.endpointState e, poison := s.endpointPoison e } : CkptRec)), s.ldg.progs, s.lowestIsn, s.ownUnits (5344 * s.epis.length))]) ∧
    (∀ (fails : Nat) (s : State) (d : Nat),
      s.clocked = true →
      s.mrm.ckptFrom = some d →
      (s.nandOn = true ∧ s.flag fNFCSTAT_RO = false ∧ s.switchPending = false ∧ s.holdTakes s.uncovered = true) →
      (s.putOwn (5344 * s.epis.length) fails = .wait → exec (.checkpointComplete fails) s = .next s) ∧ (s.putOwn (5344 * s.epis.length) fails = .full → exec (.checkpointComplete fails) s = .next s.mediaFull)) ∧
    (∀ (fails : Nat) (s : State),
      s.clocked = true →
      (s.mrm.ckptFrom = none ∨ ¬(s.nandOn = true ∧ s.flag fNFCSTAT_RO = false ∧ s.switchPending = false ∧ s.holdTakes s.uncovered = true)) →
      exec (.checkpointComplete fails) s = .next s) ∧
    (∀ (s : State) (l : List (List Rec)),
      (l = [] → s.holdTakes l = true) ∧ (l ≠ [] → (s.holdTakes l = true ↔ s.flag fREPSTAT_HOLDFULL = false ∧ s.holdBytes + (l.map fun b => (recsBytes b).length).sum ≤ s.fget fREPHOLD_BUDGET * 2 ^ 30)) ∧
        (s.ses.cur = none ∧ s.ses.old = none → s.uncovered = s.ses.ready) ∧ (∀ c, s.ses.cur = some c → s.ses.old = none → s.uncovered = (c.flight.filter fun b => !b.stored).map (·.recs) ++ s.ses.ready)) ∧
    (∀ (s : State) (epi : Nat),
      (s.endpointState epi).length = 5352) ∧
    (∀ (m : Fin 4) (s u v : State),
      s.clocked = true →
      s.flag (fRINCFG_EN m.val) = true →
      (m.val = 1 → s.fenced 11 = false) →
      u = (((s.correct (s.rinseRange m.val).1 (s.rinseRange m.val).2).bump (fRINCORR_COUNT m.val) (s.soft.filter (touches (s.rinseRange m.val).1 (s.rinseRange m.val).2)).length).bump (fRINPOIS_COUNT m.val) (s.poison.filter (touches (s.rinseRange m.val).1 (s.rinseRange m.val).2)).length) →
      v = (match (s.poison.filter (touches (s.rinseRange m.val).1 (s.rinseRange m.val).2)) with | [] => u | g :: _ => u.poisonEvent 0x44 m.val (s.poison.filter (touches (s.rinseRange m.val).1 (s.rinseRange m.val).2)).length .poisoned (8 * g)) →
      exec (.rinsePass m) s = .next { ((if s.rin.since.get natZero m.val + secRaw (3600 * s.fget (fRINCFG_PERIOD m.val)) < s.time.raw then v.setFlag (fRINSTAT_LATE m.val) true else v).bump
          (fRINSTAT_PASSES m.val) 1) with rin := { since := s.rin.since.put natZero m.val s.time.raw } }) ∧
    (∀ (m : Fin 4) (s : State),
      s.clocked = true →
      s.flag (fRINCFG_EN m.val) = true →
      (m.val = 1 → s.fenced 11 = false) →
      ∃ t, exec (.rinsePass m) s = .next t ∧ (t.soft.all fun g => !touches (s.rinseRange m.val).1 (s.rinseRange m.val).2 g || !s.soft.contains g) = true ∧ t.fget (fRINSTAT_PASSES m.val) = satAdd (fRINSTAT_PASSES m.val).w (s.fget (fRINSTAT_PASSES m.val)) 1 ∧
        t.fget (fRINCORR_COUNT m.val) = satAdd (fRINCORR_COUNT m.val).w (s.fget (fRINCORR_COUNT m.val)) (s.soft.filter (touches (s.rinseRange m.val).1 (s.rinseRange m.val).2)).length ∧
        t.fget (fRINPOIS_COUNT m.val) = satAdd (fRINPOIS_COUNT m.val).w (s.fget (fRINPOIS_COUNT m.val)) (s.poison.filter (touches (s.rinseRange m.val).1 (s.rinseRange m.val).2)).length ∧
        t.time = s.time ∧ t.key = s.key ∧ ∀ x, (x < evrAddr 0 ∨ evrAddr 8192 ≤ x) → t.byte x = s.byte x) ∧
    (∀ (m : Fin 4) (s : State),
      s.clocked = true →
      (s.flag (fRINCFG_EN m.val) = false ∨ (m.val = 1 ∧ s.fenced 11 = true)) →
      exec (.rinsePass m) s = .next s)

/-- NAND_READ, NAND_WRITE, NAND_TRIM, NAND_MIGRATE and NAND_SYNC each take the descriptor at the front of the engine's queue when
its OP is the row's (NAND_READ also an OP outside the table) and complete it on DONEQ; an engine that is off, not mounted or
stopped by a PFAIL sequence, a full DONEQ, an empty queue and another row's descriptor leave all as it was, and a write that
waits for collection stays. Without END, or outside the table, it completes with BAD_ARGUMENT. READ copies the units (zeros
where nothing was written) to memory, with MEDIA_ERROR and poison where a unit is uncorrectable, and queues blocks that needed
much correction; a fenced channel gives FENCED. WRITE, of data in good memory, and MIGRATE put the data into the units, which
then read back, and no other unit changes; a class C run out of order completes with BAD_ARGUMENT, on read-only or full media
either completes with MEDIA_FULL. TRIM makes the units read as zeros; SYNC completes. A run outside its class, or memory outside
the map, gives BAD_ADDRESS. IDLE_GC and FOREGROUND_GC vacate the reclaimable block with the fewest valid units when the free
blocks lie below their thresholds, FOREGROUND_GC until above FG_HI; WEAR_LEVEL_MOVE carries the least-erased block to the
most-erased free one beyond the spread; BLOCK_REWRITE takes the oldest queued block; otherwise they do nothing. No collection
changes the data of any unit. (R614, R615, R617, R618, R619, R620, R621, R622, R623, R625, R626) -/
def Obligations.FlashTranslation : Prop :=
    (∀ (corr fails : Nat) (uncor : List Nat) (s : State),
      s.clocked = true →
      (s.flag fNFCCFG_EN = false ∨ s.nandOn = false ∨ s.holdsDone (s.fget fNFCCFG_DONEQ) 0 = true ∨ s.frontJob (s.fget fNFCCFG_JOBQ) = none) →
      exec (.nandRead corr uncor) s = .next s ∧ exec (.nandWrite fails) s = .next s ∧ exec .nandTrim s = .next s ∧ exec (.nandMigrate fails) s = .next s ∧ exec .nandSync s = .next s) ∧
    (∀ (corr fails : Nat) (uncor : List Nat) (s u : State) (d : List GReg) (j : NandJob),
      s.clocked = true →
      s.flag fNFCCFG_EN = true →
      s.nandOn = true →
      s.holdsDone (s.fget fNFCCFG_DONEQ) 0 = false →
      s.frontJob (s.fget fNFCCFG_JOBQ) = some d →
      j = NandJob.parse d →
      u = s.dequeued (s.fget fNFCCFG_JOBQ) →
      (¬(j.op = 0 ∨ 4 < j.op) → exec (.nandRead corr uncor) s = .next s) ∧ ((j.op = 0 ∨ 4 < j.op) → (j.endBit ≠ 1 ∨ 4 < j.op) → exec (.nandRead corr uncor) s = .next (u.hwEnqueue (s.fget fNFCCFG_DONEQ) (doneDesc .badArgument 0 j.job 0))) ∧
        ((j.op = 0 ∨ 4 < j.op) → j.endBit = 1 ∧ j.op ≤ 4 → u.nandRead j corr uncor = none → exec (.nandRead corr uncor) s = .next s) ∧ (∀ r, u.nandRead j corr uncor = some r → (j.op = 0 ∨ 4 < j.op) → j.endBit = 1 ∧ j.op ≤ 4 → exec (.nandRead corr uncor) s = .next (r.2.1.hwEnqueue (s.fget fNFCCFG_DONEQ) (doneDesc r.1 0 j.job r.2.2))) ∧
        (¬(j.op = 1) → exec (.nandWrite fails) s = .next s) ∧ (j.op = 1 → (j.endBit ≠ 1 ∨ 4 < j.op) → exec (.nandWrite fails) s = .next (u.hwEnqueue (s.fget fNFCCFG_DONEQ) (doneDesc .badArgument 0 j.job 0))) ∧
        (j.op = 1 → j.endBit = 1 ∧ j.op ≤ 4 → u.nandWrite j fails = none → exec (.nandWrite fails) s = .next s) ∧ (∀ r, u.nandWrite j fails = some r → j.op = 1 → j.endBit = 1 ∧ j.op ≤ 4 → exec (.nandWrite fails) s = .next (r.2.1.hwEnqueue (s.fget fNFCCFG_DONEQ) (doneDesc r.1 0 j.job r.2.2))) ∧
        (¬(j.op = 2) → exec .nandTrim s = .next s) ∧ (j.op = 2 → (j.endBit ≠ 1 ∨ 4 < j.op) → exec .nandTrim s = .next (u.hwEnqueue (s.fget fNFCCFG_DONEQ) (doneDesc .badArgument 0 j.job 0))) ∧
        (j.op = 2 → j.endBit = 1 ∧ j.op ≤ 4 → u.nandTrim j = none → exec .nandTrim s = .next s) ∧ (∀ r, u.nandTrim j = some r → j.op = 2 → j.endBit = 1 ∧ j.op ≤ 4 → exec .nandTrim s = .next (r.2.1.hwEnqueue (s.fget fNFCCFG_DONEQ) (doneDesc r.1 0 j.job r.2.2))) ∧
        (¬(j.op = 3) → exec (.nandMigrate fails) s = .next s) ∧ (j.op = 3 → (j.endBit ≠ 1 ∨ 4 < j.op) → exec (.nandMigrate fails) s = .next (u.hwEnqueue (s.fget fNFCCFG_DONEQ) (doneDesc .badArgument 0 j.job 0))) ∧
        (j.op = 3 → j.endBit = 1 ∧ j.op ≤ 4 → u.nandMigrate j fails = none → exec (.nandMigrate fails) s = .next s) ∧ (∀ r, u.nandMigrate j fails = some r → j.op = 3 → j.endBit = 1 ∧ j.op ≤ 4 → exec (.nandMigrate fails) s = .next (r.2.1.hwEnqueue (s.fget fNFCCFG_DONEQ) (doneDesc r.1 0 j.job r.2.2))) ∧
        (¬(j.op = 4) → exec .nandSync s = .next s) ∧ (j.op = 4 → (j.endBit ≠ 1 ∨ 4 < j.op) → exec .nandSync s = .next (u.hwEnqueue (s.fget fNFCCFG_DONEQ) (doneDesc .badArgument 0 j.job 0))) ∧
        (j.op = 4 → j.endBit = 1 ∧ j.op ≤ 4 → (some (.done, u, 0) : NandEnd) = none → exec .nandSync s = .next s) ∧ (∀ r, (some (.done, u, 0) : NandEnd) = some r → j.op = 4 → j.endBit = 1 ∧ j.op ≤ 4 → exec .nandSync s = .next (r.2.1.hwEnqueue (s.fget fNFCCFG_DONEQ) (doneDesc r.1 0 j.job r.2.2)))) ∧
    (∀ (s : State) (j : NandJob) (corr : Nat) (uncor : List Nat),
      (¬(s.unitsOk j.cls j.lba j.len = true ∧ s.engineRange j.da (4096 * j.len) = true) → s.nandRead j corr uncor = some (.badAddress, s, 0)) ∧ ((s.unitsOk j.cls j.lba j.len = true ∧ s.engineRange j.da (4096 * j.len) = true) → ((unitKeys j.cls j.lba j.len).any fun u => (s.blockOf u).any fun b => s.nfFenced (b / 2 ^ 24)) = true → s.nandRead j corr uncor = some (.fenced, s, 0)) ∧
        ((s.unitsOk j.cls j.lba j.len = true ∧ s.engineRange j.da (4096 * j.len) = true) → ((unitKeys j.cls j.lba j.len).any fun u => (s.blockOf u).any fun b => s.nfFenced (b / 2 ^ 24)) = false → (uncor.any fun i => decide (i < j.len)) = false → s.nandRead j corr uncor = some (.done, ((List.range j.len).foldl (fun (t : State) i => t.writeP (j.da + 4096 * i) (t.unitData ((unitKeys j.cls j.lba j.len).getD i 0)) (uncor.contains i)) (if j.cls = 1 ∧ s.fget fNFCWL_RDTHR ≤ corr then s.queueRewrite (unitKeys j.cls j.lba j.len) else s)), 4096 * j.len)) ∧
        ((s.unitsOk j.cls j.lba j.len = true ∧ s.engineRange j.da (4096 * j.len) = true) → ((unitKeys j.cls j.lba j.len).any fun u => (s.blockOf u).any fun b => s.nfFenced (b / 2 ^ 24)) = false → (uncor.any fun i => decide (i < j.len)) = true → s.nandRead j corr uncor = some (.mediaError, ((List.range j.len).foldl (fun (t : State) i => t.writeP (j.da + 4096 * i) (t.unitData ((unitKeys j.cls j.lba j.len).getD i 0)) (uncor.contains i)) (if j.cls = 1 ∧ s.fget fNFCWL_RDTHR ≤ corr then s.queueRewrite (unitKeys j.cls j.lba j.len) else s)).bump fNFCUNCOR_COUNT 1, 4096 * j.len))) ∧
    (∀ (s : State) (u cls lba n : Nat),
      (s.nfc.units.get unitZero u = [] → s.unitData u = List.replicate 4096 0) ∧ s.queueRewrite [] = s ∧
        (∀ b, s.blockOf u = some b → s.queueRewrite [u] = (if s.nfc.rewrite.contains b then s else (s.setNfc { s.nfc with rewrite := s.nfc.rewrite ++ [b] }).bump fNFCREFRESH_COUNT 1)) ∧
        (s.unitsOk cls lba n = true ↔ lba + n ≤ s.classUnits cls ∧ (cls = 0 ∨ 33280 ≤ lba))) ∧
    (∀ (s : State) (j : NandJob) (fails : Nat),
      (¬(s.unitsOk j.cls j.lba j.len = true ∧ s.engineRange j.da (4096 * j.len) = true) → s.nandWrite j fails = some (.badAddress, s, 0)) ∧ ((s.unitsOk j.cls j.lba j.len = true ∧ s.engineRange j.da (4096 * j.len) = true) → s.poisonedIn j.da (4096 * j.len) = true → s.nandWrite j fails = some (.poisoned, s.touch j.da (4096 * j.len), 0)) ∧
        ((s.unitsOk j.cls j.lba j.len = true ∧ s.engineRange j.da (4096 * j.len) = true) → s.poisonedIn j.da (4096 * j.len) = false → s.nandWrite j fails = (s.touch j.da (4096 * j.len)).nandPut j.cls j.lba j.len fails (fun u => s.bytes (j.da + 4096 * (u - (j.cls * 2 ^ 40 + j.lba))) 4096)) ∧
        (j.cls = 1 → s.nandMigrate j fails = some (.badArgument, s, 0)) ∧ (j.cls ≠ 1 → j.dlba % 256 ≠ 0 → s.nandMigrate j fails = some (.badAlign, s, 0)) ∧
        (j.cls ≠ 1 → j.dlba % 256 = 0 → s.unitsOk 0 j.lba j.len = false ∨ s.unitsOk 1 j.dlba j.len = false → s.nandMigrate j fails = some (.badAddress, s, 0)) ∧
        (j.cls ≠ 1 → j.dlba % 256 = 0 → s.unitsOk 0 j.lba j.len = true ∧ s.unitsOk 1 j.dlba j.len = true →
          s.nandMigrate j fails = s.nandPut 1 j.dlba j.len fails (fun u => s.unitData (j.lba + (u - (2 ^ 40 + j.dlba)))))) ∧
    (∀ (s : State) (cls lba n fails : Nat) (data : Nat → List Byte),
      ((cls = 1 ∧ boltsOk s.nfc.bolt (unitKeys cls lba n) = false) → s.nandPut cls lba n fails data = some (.badArgument, s, 0)) ∧ (¬(cls = 1 ∧ boltsOk s.nfc.bolt (unitKeys cls lba n) = false) → s.flag fNFCSTAT_RO = true → s.nandPut cls lba n fails data = some (.mediaFull, s, 0)) ∧
        (¬(cls = 1 ∧ boltsOk s.nfc.bolt (unitKeys cls lba n) = false) → s.flag fNFCSTAT_RO = false → (∀ t, s.writeUnits cls fails (unitKeys cls lba n) data = .ok t → s.nandPut cls lba n fails data = some (.done, t.nfcEnd, 4096 * n)) ∧
          (s.writeUnits cls fails (unitKeys cls lba n) data = .full → s.nandPut cls lba n fails data = some (.mediaFull, s.mediaFull, 0)) ∧ (s.writeUnits cls fails (unitKeys cls lba n) data = .wait → s.nandPut cls lba n fails data = none))) ∧
    (∀ (cls fails : Nat) (us : List Nat) (data : Nat → List Byte) (s t : State),
      s.writeUnits cls fails us data = .ok t →
      (∀ u ∈ us, (data u).length = 4096 → t.unitData u = data u) ∧ (∀ u, u ∉ us → t.unitData u = s.unitData u) ∧ t.key = s.key ∧ t.mrm = s.mrm ∧
        (∀ x, ((x < evrAddr 0 ∨ evrAddr 8192 ≤ x) ∧ (x < ftlLog ∨ ftlLog + ftlSize ≤ x) ∧ (x < s.fget fNFCMAPBASE_BASE ∨ s.fget fNFCMAPBASE_BASE + 2 ^ 27 ≤ x)) → t.byte x = s.byte x)) ∧
    (∀ (s : State) (j : NandJob),
      (s.unitsOk j.cls j.lba j.len = false → s.nandTrim j = some (.badAddress, s, 0)) ∧
        (∀ r, s.nandTrim j = some r → s.unitsOk j.cls j.lba j.len = true → r.1 = .done ∧ r.2.2 = 0 ∧ r.2.1.nfc.units = (s.nfc.units.filter fun e => !(unitKeys j.cls j.lba j.len).contains e.1) ∧ r.2.1.key = s.key ∧ r.2.1.time = s.time ∧ r.2.1.mrm = s.mrm) ∧
        (s.nandTrim j).isSome = true) ∧
    (∀ (ch : Fin 2) (fails : Nat) (eraseFails : Bool) (s : State) (b : Nat),
      s.clocked = true →
      s.nandOn = true →
      100 * s.freeBlks ch.val < s.fget fNFCGC_IDLE_LO * s.blkCount ch.val →
      s.victim ch.val = some b →
      exec (.idleGc ch fails eraseFails) s = .next (s.vacate b fails eraseFails)) ∧
    (∀ (ch : Fin 2) (fails : Nat) (eraseFails : Bool) (s : State),
      s.clocked = true →
      (s.nandOn = false ∨ s.fget fNFCGC_IDLE_LO * s.blkCount ch.val ≤ 100 * s.freeBlks ch.val ∨ s.victim ch.val = none) →
      exec (.idleGc ch fails eraseFails) s = .next s) ∧
    (∀ (ch : Fin 2) (fails : Nat) (eraseFails : Bool) (s : State) (u : State),
      s.clocked = true →
      s.nandOn = true →
      (s.flag (fFggc ch.val) = true ∨ 100 * s.freeBlks ch.val < s.fget fNFCGC_FG_LO * s.blkCount ch.val) →
      u = ((((s.setFlag (fFggc ch.val) true).victim ch.val).map fun b => (s.setFlag (fFggc ch.val) true).vacate b fails eraseFails).getD (s.setFlag (fFggc ch.val) true)) →
      exec (.foregroundGc ch fails eraseFails) s = .next (if u.fget fNFCGC_FG_HI * u.blkCount ch.val < 100 * u.freeBlks ch.val then u.setFlag (fFggc ch.val) false else u)) ∧
    (∀ (ch : Fin 2) (fails : Nat) (eraseFails : Bool) (s : State),
      s.clocked = true →
      (s.nandOn = false ∨ ¬(s.flag (fFggc ch.val) = true ∨ 100 * s.freeBlks ch.val < s.fget fNFCGC_FG_LO * s.blkCount ch.val)) →
      exec (.foregroundGc ch fails eraseFails) s = .next s) ∧
    (∀ (ch b : Nat) (s : State),
      s.victim ch = some b →
      Store.wf blkReset s.nfc.blocks = true →
      (s.blk b).st = .closed ∧ (s.blk b).units.length < (s.blk b).fill ∧ b / 2 ^ 24 = ch ∧
        (s.nfc.blocks.all fun e => !(decide (e.1 / 2 ^ 24 = ch) && decide (e.2.st = .closed) && decide (e.2.units.length < e.2.fill)) || decide ((s.blk b).units.length ≤ e.2.units.length)) = true) ∧
    (∀ (b fails : Nat) (eraseFails : Bool) (s : State),
      (∀ t, s.putUnits nwMove fails (s.blk b).units = .ok t → s.vacate b fails eraseFails = ((t.erase b eraseFails).roCheck).nfcEnd) ∧
        (s.putUnits nwMove fails (s.blk b).units = .full ∨ s.putUnits nwMove fails (s.blk b).units = .wait → s.vacate b fails eraseFails = s)) ∧
    (∀ (b fails : Nat) (eraseFails : Bool) (s : State),
      (s.vacate b fails eraseFails).nfc.units = s.nfc.units ∧ (s.vacate b fails eraseFails).nfc.bolt = s.nfc.bolt ∧ (s.vacate b fails eraseFails).key = s.key ∧ (s.vacate b fails eraseFails).mrm = s.mrm) ∧
    (∀ (b : Nat) (s : State),
      s.erase b true = (s.bump fNFCEFAIL_COUNT 1).retire b ∧ ((s.erase b false).blk b) = { erase := (s.blk b).erase + 1 } ∧ ((s.retire b).blk b) = { s.blk b with st := .retired, units := [] } ∧
        (0 < s.nfc.spares → (s.retire b).nfc.spares = s.nfc.spares - 1 ∧ (s.retire b).blkCount (b / 2 ^ 24) = s.blkCount (b / 2 ^ 24) + 1)) ∧
    (∀ (fails : Nat) (eraseFails : Bool) (s : State) (b d : Nat),
      s.clocked = true →
      s.nandOn = true →
      s.eraseMin + s.fget fNFCWL_SPREAD < s.eraseMax →
      s.leastErased = some b →
      s.mostErasedFree (b / 2 ^ 24) = some d →
      (fails ≠ 0 → exec (.wearLevelMove fails eraseFails) s = .next (((s.bump fNFCPFAIL_COUNT 1).retire d).vacate b (fails - 1) eraseFails)) ∧
        (fails = 0 → exec (.wearLevelMove fails eraseFails) s = .next ((((s.blk b).units.foldl State.mapNote (((s.blk b).units.foldl State.unmap s).setBlk d { ((s.blk b).units.foldl State.unmap s).blk d with st := .closed, fill := (s.blk b).units.length, units := (s.blk b).units })).erase b eraseFails).nfcEnd))) ∧
    (∀ (fails : Nat) (eraseFails : Bool) (s : State),
      s.clocked = true →
      s.nandOn = true →
      s.eraseMin + s.fget fNFCWL_SPREAD < s.eraseMax →
      (s.leastErased = none ∨ ∀ b, s.leastErased = some b → s.mostErasedFree (b / 2 ^ 24) = none) →
      exec (.wearLevelMove fails eraseFails) s = .next s) ∧
    (∀ (fails : Nat) (eraseFails : Bool) (s : State),
      s.clocked = true →
      s.nandOn = true →
      s.eraseMin + s.fget fNFCWL_SPREAD < s.eraseMax →
      ∃ t, exec (.wearLevelMove fails eraseFails) s = .next t ∧ t.nfc.units = s.nfc.units ∧ t.nfc.bolt = s.nfc.bolt ∧ t.key = s.key ∧ t.mrm = s.mrm) ∧
    (∀ (fails : Nat) (eraseFails : Bool) (s : State),
      s.clocked = true →
      (s.nandOn = false ∨ s.eraseMax ≤ s.eraseMin + s.fget fNFCWL_SPREAD) →
      exec (.wearLevelMove fails eraseFails) s = .next s) ∧
    (∀ (b d ch : Nat) (s : State),
      Store.wf blkReset s.nfc.blocks = true →
      s.blkCount ch ≤ 2 ^ 24 →
      (s.leastErased = some b → (s.blk b).st = .closed ∧ (s.nfc.blocks.all fun e => !decide (e.2.st = .closed) || decide ((s.blk b).erase ≤ e.2.erase)) = true) ∧
        (s.mostErasedFree ch = some d → (s.blk d).st = .free ∧ d / 2 ^ 24 = ch ∧ (s.nfc.blocks.all fun e => !(decide (e.2.st = .free) && decide (e.1 / 2 ^ 24 = ch)) || decide (e.2.erase ≤ (s.blk d).erase)) = true)) ∧
    (∀ (fails : Nat) (eraseFails : Bool) (s : State) (b : Nat) (bs : List Nat),
      s.clocked = true →
      s.nandOn = true →
      s.nfc.rewrite = b :: bs →
      ((s.blk b).st = .closed → exec (.blockRewrite fails eraseFails) s = .next (s.vacate b fails eraseFails)) ∧
        ((s.blk b).st = .opened → exec (.blockRewrite fails eraseFails) s = .next ((s.closeBlk b).vacate b fails eraseFails)) ∧
        ((s.blk b).st ≠ .closed ∧ (s.blk b).st ≠ .opened → exec (.blockRewrite fails eraseFails) s = .next (s.setNfc { s.nfc with rewrite := bs }))) ∧
    (∀ (fails : Nat) (eraseFails : Bool) (s : State),
      s.clocked = true →
      s.nandOn = true →
      s.nfc.rewrite ≠ [] →
      ∃ t, exec (.blockRewrite fails eraseFails) s = .next t ∧ t.nfc.units = s.nfc.units ∧ t.nfc.bolt = s.nfc.bolt ∧ t.key = s.key ∧ t.mrm = s.mrm) ∧
    (∀ (fails : Nat) (eraseFails : Bool) (s : State),
      s.clocked = true →
      (s.nandOn = false ∨ s.nfc.rewrite = []) →
      exec (.blockRewrite fails eraseFails) s = .next s) ∧
    (∀ (b : Nat) (s : State),
      (s.closeBlk b).blk b = { s.blk b with st := .closed } ∧ (s.closeBlk b).nfc.filling = s.nfc.filling.filter (fun e => e.2 ≠ b + 1) ∧ (s.closeBlk b).mem = s.mem ∧
        (s.nfc.logAt ≤ 3 * 2 ^ 20 → s.nfcEnd = s.nfcRegs))
end

