-- ==== Sys2Proof/Laws/Aes.lean ====
section
/-!
SUPPORT. What AES functions answer in length, and that `strict` changes no value.
-/

namespace Sys2Proof.Machine

@[simp] theorem strict_eq {α : Type} (n : Nat) (f : Nat → α) : strict n f = f n := by cases n <;> rfl

theorem natBlkAux_length (n v : Nat) (acc : List Nat) : (natBlkAux n v acc).length = n + acc.length := by
  induction n generalizing v acc with
  | zero => simp [natBlkAux]
  | succ n ih => simp [natBlkAux, ih]; omega

/-- A block has 16 bytes. -/
@[simp] theorem natBlk_length (v : Nat) : (natBlk v).length = 16 := by simp [natBlk, natBlkAux_length]

/-- A GCM tag has 16 bytes. -/
@[simp] theorem gcmTag_length (key nonce aad ct : List Nat) : (gcmTag key nonce aad ct).length = 16 := by simp [gcmTag]

theorem piecesAux_length (n : Nat) (l : List Nat) : (piecesAux n l).length = n := by
  induction n generalizing l with
  | zero => rfl
  | succ n ih => simp [piecesAux, ih]

theorem kwPass_length (kek rs acc : List Nat) (t a : Nat) : (kwPass kek rs t a acc).2.length = rs.length + acc.length := by
  induction rs generalizing t a acc with
  | nil => simp [kwPass]
  | cons r rs ih => simp [kwPass, ih]; omega

theorem kwPasses_length (kek rs : List Nat) (n p t a : Nat) : (kwPasses kek n p t a rs).2.length = rs.length := by
  induction p generalizing t a rs with
  | zero => rfl
  | succ p ih => simp [kwPasses, ih, kwPass_length]

theorem unpieces8_length (l : List Nat) : (unpieces8 l).length = 8 * l.length := by
  induction l with
  | nil => rfl
  | cons v l ih => simp [unpieces8] at ih ⊢; omega

/-- A wrap has eight bytes more than what it wraps. -/
theorem kwWrap_length (kek pt : List Nat) (iv : Nat) : (kwWrap kek iv pt).length = 8 * (pt.length / 8) + 8 := by
  simp [kwWrap, unpieces8_length, kwPasses_length, pieces8, piecesAux_length]; omega

end Sys2Proof.Machine
end

