-- ==== Sys2Proof/Laws/Store.lean ====
section
/-!
SUPPORT. Laws of the sparse table and of bit fields: a read after a write gives the value written, a write leaves every other key and
field alone, and the canonical form is kept.
-/

namespace Sys2Proof.Machine

variable {α : Type} {d : Nat → α}

theorem Store.get_skipTo (l : Store α) {k n : Nat} (h : k < n) : Store.get d (Store.skipTo k l) n = Store.get d l n := by
  induction l with
  | nil => rfl
  | cons e l ih =>
    obtain ⟨j, v⟩ := e
    by_cases hj : j ≤ k
    · have h1 : j ≠ n := by omega
      have h2 : ¬ n < j := by omega
      simp [Store.skipTo, Store.get, hj, h1, h2, ih]
    · simp [Store.skipTo, hj]

theorem Store.get_skipTo_le (l : Store α) {k n : Nat} (h : n ≤ k) : Store.get d (Store.skipTo k l) n = d n := by
  induction l with
  | nil => rfl
  | cons e l ih =>
    obtain ⟨j, v⟩ := e
    by_cases hj : j ≤ k
    · simpa [Store.skipTo, hj] using ih
    · have h1 : j ≠ n := by omega
      have h2 : n < j := by omega
      simp [Store.skipTo, Store.get, hj, h1, h2]

/-- A read after a write to the same key gives the value written. -/
@[simp] theorem Store.get_put_same [DecidableEq α] (l : Store α) (k : Nat) (x : α) : Store.get d (Store.put d l k x) k = x := by
  induction l with
  | nil => by_cases hx : x = d k <;> simp [Store.put, Store.get, hx]
  | cons e l ih =>
    obtain ⟨j, v⟩ := e
    by_cases hj : j = k
    · by_cases hx : x = d k
      · simp [Store.put, hj, hx, Store.get_skipTo_le]
      · simp [Store.put, Store.get, hj, hx]
    · by_cases hk : k < j
      · by_cases hx : x = d k <;> simp [Store.put, Store.get, hj, hk, hx]
      · simp [Store.put, Store.get, hj, hk, ih]

/-- A write leaves every other key alone. -/
theorem Store.get_put_ne [DecidableEq α] (l : Store α) {k n : Nat} (x : α) (h : n ≠ k) :
    Store.get d (Store.put d l k x) n = Store.get d l n := by
  have h' : k ≠ n := Ne.symm h
  induction l with
  | nil =>
    by_cases hx : x = d k
    · simp [Store.put, hx]
    · simp [Store.put, Store.get, hx, h']
  | cons e l ih =>
    obtain ⟨j, v⟩ := e
    rcases Nat.lt_trichotomy j k with hj | hj | hj
    · have e1 : Store.put d ((j, v) :: l) k x = (j, v) :: Store.put d l k x := by
        have : j ≠ k := by omega
        have : ¬ k < j := by omega
        simp [Store.put, *]
      rw [e1]; simp only [Store.get, ih]
    · subst hj
      by_cases hx : x = d j
      · have e1 : Store.put d ((j, v) :: l) j x = Store.skipTo j l := by simp [Store.put, hx]
        rw [e1]
        rcases Nat.lt_or_gt_of_ne h with h1 | h1
        · rw [Store.get_skipTo_le l (Nat.le_of_lt h1)]; simp [Store.get, h', h1]
        · have h3 : ¬ n < j := by omega
          rw [Store.get_skipTo l h1]; simp [Store.get, h', h3]
      · have e1 : Store.put d ((j, v) :: l) j x = (j, x) :: l := by simp [Store.put, hx]
        rw [e1]; simp only [Store.get, if_neg h']
    · have hjk : j ≠ k := by omega
      by_cases hx : x = d k
      · have e1 : Store.put d ((j, v) :: l) k x = (j, v) :: l := by simp [Store.put, hjk, hj, hx]
        rw [e1]
      · have e1 : Store.put d ((j, v) :: l) k x = (k, x) :: (j, v) :: l := by simp [Store.put, hjk, hj, hx]
        rw [e1]
        simp only [Store.get, if_neg h']
        by_cases h1 : n < k
        · have h2 : n < j := by omega
          have h3 : j ≠ n := by omega
          simp [h1, h2, h3]
        · simp [h1]

theorem Store.wfFrom_mono [DecidableEq α] (l : Store α) {a b : Nat} (h : a ≤ b) (hl : Store.wfFrom d b l = true) :
    Store.wfFrom d a l = true := by
  cases l with
  | nil => rfl
  | cons e l =>
    obtain ⟨j, v⟩ := e
    simp only [Store.wfFrom, Bool.and_eq_true, decide_eq_true_eq] at hl ⊢
    exact ⟨⟨by omega, hl.1.2⟩, hl.2⟩

theorem Store.skipTo_wf [DecidableEq α] (l : Store α) {k : Nat} (hl : Store.wfFrom d (k + 1) l = true) : Store.skipTo k l = l := by
  cases l with
  | nil => rfl
  | cons e l =>
    obtain ⟨j, v⟩ := e
    simp only [Store.wfFrom, Bool.and_eq_true, decide_eq_true_eq] at hl
    have : ¬ j ≤ k := by omega
    simp [Store.skipTo, this]

/-- A write keeps the canonical form. -/
theorem Store.wfFrom_put [DecidableEq α] (l : Store α) {lo k : Nat} (x : α) (h : lo ≤ k) (hl : Store.wfFrom d lo l = true) :
    Store.wfFrom d lo (Store.put d l k x) = true := by
  induction l generalizing lo with
  | nil => by_cases hx : x = d k <;> simp [Store.put, Store.wfFrom, hx, h]
  | cons e l ih =>
    obtain ⟨j, v⟩ := e
    simp only [Store.wfFrom, Bool.and_eq_true, decide_eq_true_eq] at hl
    obtain ⟨⟨h1, h2⟩, h3⟩ := hl
    by_cases hj : j = k
    · subst hj
      by_cases hx : x = d j
      · simp only [Store.put, if_true, hx, Store.skipTo_wf l h3]
        exact Store.wfFrom_mono l (by omega) h3
      · simp [Store.put, hx, Store.wfFrom, h1, h3]
    · by_cases hk : k < j
      · by_cases hx : x = d k
        · simp [Store.put, hj, hk, hx, Store.wfFrom, h1, h2, h3]
        · simp [Store.put, hj, hk, hx, Store.wfFrom, h, h2, h3]
      · simp only [Store.put, hj, hk, if_false, Store.wfFrom, Bool.and_eq_true, decide_eq_true_eq]
        exact ⟨⟨h1, h2⟩, ih (by omega) h3⟩

/-- A write keeps the canonical form. -/
theorem Store.wf_put [DecidableEq α] {l : Store α} (k : Nat) (x : α) (hl : Store.wf d l = true) : Store.wf d (Store.put d l k x) = true :=
  Store.wfFrom_put l x (Nat.zero_le k) hl

theorem Store.wfFrom_filter [DecidableEq α] (p : Nat × α → Bool) (l : Store α) {lo : Nat} (hl : Store.wfFrom d lo l = true) :
    Store.wfFrom d lo (l.filter p) = true := by
  induction l generalizing lo with
  | nil => rfl
  | cons e l ih =>
    obtain ⟨j, v⟩ := e
    simp only [Store.wfFrom, Bool.and_eq_true, decide_eq_true_eq] at hl
    by_cases hp : p (j, v) = true
    · simp [List.filter, hp, Store.wfFrom, hl.1.1, hl.1.2, ih hl.2]
    · simp only [Bool.not_eq_true] at hp
      simp only [List.filter, hp]
      exact ih (Store.wfFrom_mono l (by omega) hl.2)

/-- Entries taken out keep the canonical form. -/
theorem Store.wf_filter [DecidableEq α] {l : Store α} (p : Nat × α → Bool) (hl : Store.wf d l = true) : Store.wf d (l.filter p) = true :=
  Store.wfFrom_filter p l hl

/-! ## Bit fields -/

/-- A field read after it is written. -/
@[simp] theorem bits_setBits_same (v lo w x : Nat) : bits (setBits v lo w x) lo w = x % 2 ^ w := by
  have h0 : 0 < 2 ^ lo := Nat.two_pow_pos lo
  have hw : 0 < 2 ^ w := Nat.two_pow_pos w
  have h1 : v % 2 ^ lo < 2 ^ lo := Nat.mod_lt _ h0
  have h2 : v % 2 ^ lo + x % 2 ^ w * 2 ^ lo + v / 2 ^ (lo + w) * 2 ^ (lo + w) =
      v % 2 ^ lo + 2 ^ lo * (x % 2 ^ w + 2 ^ w * (v / 2 ^ (lo + w))) := by
    rw [Nat.pow_add]; ring
  unfold bits setBits
  rw [h2, Nat.add_mul_div_left _ _ h0, Nat.div_eq_of_lt h1, Nat.zero_add, Nat.add_mul_mod_self_left, Nat.mod_mod]

/-- A field below one that is written. -/
theorem bits_setBits_below (v lo w x l n : Nat) (h : l + n ≤ lo) : bits (setBits v lo w x) l n = bits v l n := by
  obtain ⟨m, rfl⟩ := Nat.exists_eq_add_of_le h
  have h0 : 0 < 2 ^ l := Nat.two_pow_pos l
  unfold bits setBits
  have e : v % 2 ^ (l + n + m) + x % 2 ^ w * 2 ^ (l + n + m) + v / 2 ^ (l + n + m + w) * 2 ^ (l + n + m + w) =
      v % 2 ^ (l + n + m) + 2 ^ (l + n + m) * (x % 2 ^ w + 2 ^ w * (v / 2 ^ (l + n + m + w))) := by
    rw [Nat.pow_add 2 (l + n + m) w]; ring
  have e2 : v = v % 2 ^ (l + n + m) + 2 ^ (l + n + m) * (v / 2 ^ (l + n + m)) := (Nat.mod_add_div v _).symm
  rw [e]
  conv_rhs => rw [e2]
  have key : ∀ y, (v % 2 ^ (l + n + m) + 2 ^ (l + n + m) * y) / 2 ^ l % 2 ^ n = v % 2 ^ (l + n + m) / 2 ^ l % 2 ^ n := by
    intro y
    have : 2 ^ (l + n + m) * y = 2 ^ l * (2 ^ n * (2 ^ m * y)) := by rw [Nat.pow_add, Nat.pow_add]; ring
    rw [this, Nat.add_mul_div_left _ _ h0, Nat.add_mul_mod_self_left]
  rw [key, key]

/-- A field above one that is written. -/
theorem bits_setBits_above (v lo w x l n : Nat) (h : lo + w ≤ l) : bits (setBits v lo w x) l n = bits v l n := by
  obtain ⟨m, rfl⟩ := Nat.exists_eq_add_of_le h
  have h0 : 0 < 2 ^ lo := Nat.two_pow_pos lo
  have hw : 0 < 2 ^ w := Nat.two_pow_pos w
  have hlt : v % 2 ^ lo + x % 2 ^ w * 2 ^ lo < 2 ^ (lo + w) := by
    have h1 : v % 2 ^ lo < 2 ^ lo := Nat.mod_lt _ h0
    have h2 : x % 2 ^ w + 1 ≤ 2 ^ w := Nat.mod_lt _ hw
    calc v % 2 ^ lo + x % 2 ^ w * 2 ^ lo < 2 ^ lo + x % 2 ^ w * 2 ^ lo := by omega
      _ = (x % 2 ^ w + 1) * 2 ^ lo := by ring
      _ ≤ 2 ^ w * 2 ^ lo := Nat.mul_le_mul_right _ h2
      _ = 2 ^ (lo + w) := by rw [Nat.pow_add]; ring
  unfold bits setBits
  have e : ∀ a b : Nat, (a + b * 2 ^ (lo + w)) / 2 ^ (lo + w + m) = (a + b * 2 ^ (lo + w)) / 2 ^ (lo + w) / 2 ^ m := by
    intro a b; rw [Nat.pow_add 2 (lo + w) m, Nat.div_div_eq_div_mul]
  rw [e, Nat.add_mul_div_right _ _ (Nat.two_pow_pos _), Nat.div_eq_of_lt hlt, Nat.zero_add, Nat.pow_add 2 (lo + w) m,
    Nat.div_div_eq_div_mul]

/-- A flag bit's field. -/
@[simp] theorem b2n_eq_one (b : Bool) : (b2n b == 1) = b := by cases b <;> rfl
@[simp] theorem b2n_mod_two (b : Bool) : b2n b % 2 = b2n b := by cases b <;> rfl

end Sys2Proof.Machine
end

