-- ==== Sys2Proof/Laws/State.lean ====
section
/-!
SUPPORT. One lemma for each field and each update of the state, and the laws of registers, fields, cores, queues and lock cells: a read
after a write gives the value written, and a write leaves everything else alone.
-/

namespace Sys2Proof.Machine

variable (s : State)

/-! ### say -/

@[simp] theorem say_pending (v : Status) : (s.say v).pending = s.pending := rfl
@[simp] theorem say_freeCtr (v : Status) : (s.say v).freeCtr = s.freeCtr := rfl
@[simp] theorem say_csr (v : Status) : (s.say v).csr = s.csr := rfl
@[simp] theorem say_csrStage (v : Status) : (s.say v).csrStage = s.csrStage := rfl
@[simp] theorem say_csrSnap (v : Status) : (s.say v).csrSnap = s.csrSnap := rfl
@[simp] theorem say_mem (v : Status) : (s.say v).mem = s.mem := rfl
@[simp] theorem say_poison (v : Status) : (s.say v).poison = s.poison := rfl
@[simp] theorem say_soft (v : Status) : (s.say v).soft = s.soft := rfl
@[simp] theorem say_pwr (v : Status) : (s.say v).pwr = s.pwr := rfl
@[simp] theorem say_ccs (v : Status) : (s.say v).ccs = s.ccs := rfl
@[simp] theorem say_lcs (v : Status) : (s.say v).lcs = s.lcs := rfl
@[simp] theorem say_dcache (v : Status) : (s.say v).dcache = s.dcache := rfl
@[simp] theorem say_queues (v : Status) : (s.say v).queues = s.queues := rfl
@[simp] theorem say_locks (v : Status) : (s.say v).locks = s.locks := rfl
@[simp] theorem say_ldg (v : Status) : (s.say v).ldg = s.ldg := rfl
@[simp] theorem say_time (v : Status) : (s.say v).time = s.time := rfl
@[simp] theorem say_evr (v : Status) : (s.say v).evr = s.evr := rfl
@[simp] theorem say_dataQ (v : Status) : (s.say v).dataQ = s.dataQ := rfl
@[simp] theorem say_ctlQ (v : Status) : (s.say v).ctlQ = s.ctlQ := rfl
@[simp] theorem say_mgmtQ (v : Status) : (s.say v).mgmtQ = s.mgmtQ := rfl
@[simp] theorem say_turn (v : Status) : (s.say v).turn = s.turn := rfl
@[simp] theorem say_merged (v : Status) : (s.say v).merged = s.merged := rfl
@[simp] theorem say_epiMap (v : Status) : (s.say v).epiMap = s.epiMap := rfl
@[simp] theorem say_wire (v : Status) : (s.say v).wire = s.wire := rfl
@[simp] theorem say_twn (v : Status) : (s.say v).twn = s.twn := rfl
@[simp] theorem say_mrm (v : Status) : (s.say v).mrm = s.mrm := rfl
@[simp] theorem say_nfc (v : Status) : (s.say v).nfc = s.nfc := rfl
@[simp] theorem say_rin (v : Status) : (s.say v).rin = s.rin := rfl
@[simp] theorem say_clk (v : Status) : (s.say v).clk = s.clk := rfl
@[simp] theorem say_tap (v : Status) : (s.say v).tap = s.tap := rfl
@[simp] theorem say_met (v : Status) : (s.say v).met = s.met := rfl
@[simp] theorem say_bal (v : Status) : (s.say v).bal = s.bal := rfl
@[simp] theorem say_dun (v : Status) : (s.say v).dun = s.dun := rfl
@[simp] theorem say_mov (v : Status) : (s.say v).mov = s.mov := rfl
@[simp] theorem say_pfx (v : Status) : (s.say v).pfx = s.pfx := rfl
@[simp] theorem say_ses (v : Status) : (s.say v).ses = s.ses := rfl
@[simp] theorem say_key (v : Status) : (s.say v).key = s.key := rfl
@[simp] theorem say_kep (v : Status) : (s.say v).kep = s.kep := rfl
@[simp] theorem say_upd (v : Status) : (s.say v).upd = s.upd := rfl
@[simp] theorem say_pl (v : Status) : (s.say v).pl = s.pl := rfl
@[simp] theorem say_rf (v : Status) : (s.say v).rf = s.rf := rfl
@[simp] theorem say_delivered (v : Status) : (s.say v).delivered = s.delivered := rfl
@[simp] theorem say_reg (v : Status) (r : Nat) : (s.say v).reg r = s.reg r := rfl
@[simp] theorem say_fget (v : Status) (x : Fld) : (s.say v).fget x = s.fget x := rfl
@[simp] theorem say_flag (v : Status) (x : Fld) : (s.say v).flag x = s.flag x := rfl

/-! ### setReg -/

@[simp] theorem setReg_pending (b v : Nat) : (s.setReg b v).pending = s.pending := rfl
@[simp] theorem setReg_answer (b v : Nat) : (s.setReg b v).answer = s.answer := rfl
@[simp] theorem setReg_freeCtr (b v : Nat) : (s.setReg b v).freeCtr = s.freeCtr := rfl
@[simp] theorem setReg_csrStage (b v : Nat) : (s.setReg b v).csrStage = s.csrStage := rfl
@[simp] theorem setReg_csrSnap (b v : Nat) : (s.setReg b v).csrSnap = s.csrSnap := rfl
@[simp] theorem setReg_mem (b v : Nat) : (s.setReg b v).mem = s.mem := rfl
@[simp] theorem setReg_poison (b v : Nat) : (s.setReg b v).poison = s.poison := rfl
@[simp] theorem setReg_soft (b v : Nat) : (s.setReg b v).soft = s.soft := rfl
@[simp] theorem setReg_pwr (b v : Nat) : (s.setReg b v).pwr = s.pwr := rfl
@[simp] theorem setReg_ccs (b v : Nat) : (s.setReg b v).ccs = s.ccs := rfl
@[simp] theorem setReg_lcs (b v : Nat) : (s.setReg b v).lcs = s.lcs := rfl
@[simp] theorem setReg_dcache (b v : Nat) : (s.setReg b v).dcache = s.dcache := rfl
@[simp] theorem setReg_queues (b v : Nat) : (s.setReg b v).queues = s.queues := rfl
@[simp] theorem setReg_locks (b v : Nat) : (s.setReg b v).locks = s.locks := rfl
@[simp] theorem setReg_ldg (b v : Nat) : (s.setReg b v).ldg = s.ldg := rfl
@[simp] theorem setReg_time (b v : Nat) : (s.setReg b v).time = s.time := rfl
@[simp] theorem setReg_evr (b v : Nat) : (s.setReg b v).evr = s.evr := rfl
@[simp] theorem setReg_dataQ (b v : Nat) : (s.setReg b v).dataQ = s.dataQ := rfl
@[simp] theorem setReg_ctlQ (b v : Nat) : (s.setReg b v).ctlQ = s.ctlQ := rfl
@[simp] theorem setReg_mgmtQ (b v : Nat) : (s.setReg b v).mgmtQ = s.mgmtQ := rfl
@[simp] theorem setReg_turn (b v : Nat) : (s.setReg b v).turn = s.turn := rfl
@[simp] theorem setReg_merged (b v : Nat) : (s.setReg b v).merged = s.merged := rfl
@[simp] theorem setReg_epiMap (b v : Nat) : (s.setReg b v).epiMap = s.epiMap := rfl
@[simp] theorem setReg_wire (b v : Nat) : (s.setReg b v).wire = s.wire := rfl
@[simp] theorem setReg_twn (b v : Nat) : (s.setReg b v).twn = s.twn := rfl
@[simp] theorem setReg_mrm (b v : Nat) : (s.setReg b v).mrm = s.mrm := rfl
@[simp] theorem setReg_nfc (b v : Nat) : (s.setReg b v).nfc = s.nfc := rfl
@[simp] theorem setReg_rin (b v : Nat) : (s.setReg b v).rin = s.rin := rfl
@[simp] theorem setReg_clk (b v : Nat) : (s.setReg b v).clk = s.clk := rfl
@[simp] theorem setReg_tap (b v : Nat) : (s.setReg b v).tap = s.tap := rfl
@[simp] theorem setReg_met (b v : Nat) : (s.setReg b v).met = s.met := rfl
@[simp] theorem setReg_bal (b v : Nat) : (s.setReg b v).bal = s.bal := rfl
@[simp] theorem setReg_dun (b v : Nat) : (s.setReg b v).dun = s.dun := rfl
@[simp] theorem setReg_mov (b v : Nat) : (s.setReg b v).mov = s.mov := rfl
@[simp] theorem setReg_pfx (b v : Nat) : (s.setReg b v).pfx = s.pfx := rfl
@[simp] theorem setReg_ses (b v : Nat) : (s.setReg b v).ses = s.ses := rfl
@[simp] theorem setReg_key (b v : Nat) : (s.setReg b v).key = s.key := rfl
@[simp] theorem setReg_kep (b v : Nat) : (s.setReg b v).kep = s.kep := rfl
@[simp] theorem setReg_upd (b v : Nat) : (s.setReg b v).upd = s.upd := rfl
@[simp] theorem setReg_pl (b v : Nat) : (s.setReg b v).pl = s.pl := rfl
@[simp] theorem setReg_rf (b v : Nat) : (s.setReg b v).rf = s.rf := rfl
@[simp] theorem setReg_delivered (b v : Nat) : (s.setReg b v).delivered = s.delivered := rfl

/-! ### setCc -/

@[simp] theorem setCc_pending (k : Nat) (v : CCore) : (s.setCc k v).pending = s.pending := rfl
@[simp] theorem setCc_answer (k : Nat) (v : CCore) : (s.setCc k v).answer = s.answer := rfl
@[simp] theorem setCc_freeCtr (k : Nat) (v : CCore) : (s.setCc k v).freeCtr = s.freeCtr := rfl
@[simp] theorem setCc_csr (k : Nat) (v : CCore) : (s.setCc k v).csr = s.csr := rfl
@[simp] theorem setCc_csrStage (k : Nat) (v : CCore) : (s.setCc k v).csrStage = s.csrStage := rfl
@[simp] theorem setCc_csrSnap (k : Nat) (v : CCore) : (s.setCc k v).csrSnap = s.csrSnap := rfl
@[simp] theorem setCc_mem (k : Nat) (v : CCore) : (s.setCc k v).mem = s.mem := rfl
@[simp] theorem setCc_poison (k : Nat) (v : CCore) : (s.setCc k v).poison = s.poison := rfl
@[simp] theorem setCc_soft (k : Nat) (v : CCore) : (s.setCc k v).soft = s.soft := rfl
@[simp] theorem setCc_pwr (k : Nat) (v : CCore) : (s.setCc k v).pwr = s.pwr := rfl
@[simp] theorem setCc_lcs (k : Nat) (v : CCore) : (s.setCc k v).lcs = s.lcs := rfl
@[simp] theorem setCc_dcache (k : Nat) (v : CCore) : (s.setCc k v).dcache = s.dcache := rfl
@[simp] theorem setCc_queues (k : Nat) (v : CCore) : (s.setCc k v).queues = s.queues := rfl
@[simp] theorem setCc_locks (k : Nat) (v : CCore) : (s.setCc k v).locks = s.locks := rfl
@[simp] theorem setCc_ldg (k : Nat) (v : CCore) : (s.setCc k v).ldg = s.ldg := rfl
@[simp] theorem setCc_time (k : Nat) (v : CCore) : (s.setCc k v).time = s.time := rfl
@[simp] theorem setCc_evr (k : Nat) (v : CCore) : (s.setCc k v).evr = s.evr := rfl
@[simp] theorem setCc_dataQ (k : Nat) (v : CCore) : (s.setCc k v).dataQ = s.dataQ := rfl
@[simp] theorem setCc_ctlQ (k : Nat) (v : CCore) : (s.setCc k v).ctlQ = s.ctlQ := rfl
@[simp] theorem setCc_mgmtQ (k : Nat) (v : CCore) : (s.setCc k v).mgmtQ = s.mgmtQ := rfl
@[simp] theorem setCc_turn (k : Nat) (v : CCore) : (s.setCc k v).turn = s.turn := rfl
@[simp] theorem setCc_merged (k : Nat) (v : CCore) : (s.setCc k v).merged = s.merged := rfl
@[simp] theorem setCc_epiMap (k : Nat) (v : CCore) : (s.setCc k v).epiMap = s.epiMap := rfl
@[simp] theorem setCc_wire (k : Nat) (v : CCore) : (s.setCc k v).wire = s.wire := rfl
@[simp] theorem setCc_twn (k : Nat) (v : CCore) : (s.setCc k v).twn = s.twn := rfl
@[simp] theorem setCc_mrm (k : Nat) (v : CCore) : (s.setCc k v).mrm = s.mrm := rfl
@[simp] theorem setCc_nfc (k : Nat) (v : CCore) : (s.setCc k v).nfc = s.nfc := rfl
@[simp] theorem setCc_rin (k : Nat) (v : CCore) : (s.setCc k v).rin = s.rin := rfl
@[simp] theorem setCc_clk (k : Nat) (v : CCore) : (s.setCc k v).clk = s.clk := rfl
@[simp] theorem setCc_tap (k : Nat) (v : CCore) : (s.setCc k v).tap = s.tap := rfl
@[simp] theorem setCc_met (k : Nat) (v : CCore) : (s.setCc k v).met = s.met := rfl
@[simp] theorem setCc_bal (k : Nat) (v : CCore) : (s.setCc k v).bal = s.bal := rfl
@[simp] theorem setCc_dun (k : Nat) (v : CCore) : (s.setCc k v).dun = s.dun := rfl
@[simp] theorem setCc_mov (k : Nat) (v : CCore) : (s.setCc k v).mov = s.mov := rfl
@[simp] theorem setCc_pfx (k : Nat) (v : CCore) : (s.setCc k v).pfx = s.pfx := rfl
@[simp] theorem setCc_ses (k : Nat) (v : CCore) : (s.setCc k v).ses = s.ses := rfl
@[simp] theorem setCc_key (k : Nat) (v : CCore) : (s.setCc k v).key = s.key := rfl
@[simp] theorem setCc_kep (k : Nat) (v : CCore) : (s.setCc k v).kep = s.kep := rfl
@[simp] theorem setCc_upd (k : Nat) (v : CCore) : (s.setCc k v).upd = s.upd := rfl
@[simp] theorem setCc_pl (k : Nat) (v : CCore) : (s.setCc k v).pl = s.pl := rfl
@[simp] theorem setCc_rf (k : Nat) (v : CCore) : (s.setCc k v).rf = s.rf := rfl
@[simp] theorem setCc_delivered (k : Nat) (v : CCore) : (s.setCc k v).delivered = s.delivered := rfl
@[simp] theorem setCc_reg (k : Nat) (v : CCore) (r : Nat) : (s.setCc k v).reg r = s.reg r := rfl
@[simp] theorem setCc_fget (k : Nat) (v : CCore) (x : Fld) : (s.setCc k v).fget x = s.fget x := rfl
@[simp] theorem setCc_flag (k : Nat) (v : CCore) (x : Fld) : (s.setCc k v).flag x = s.flag x := rfl

/-! ### setLc -/

@[simp] theorem setLc_pending (k : Nat) (v : LCore) : (s.setLc k v).pending = s.pending := rfl
@[simp] theorem setLc_answer (k : Nat) (v : LCore) : (s.setLc k v).answer = s.answer := rfl
@[simp] theorem setLc_freeCtr (k : Nat) (v : LCore) : (s.setLc k v).freeCtr = s.freeCtr := rfl
@[simp] theorem setLc_csr (k : Nat) (v : LCore) : (s.setLc k v).csr = s.csr := rfl
@[simp] theorem setLc_csrStage (k : Nat) (v : LCore) : (s.setLc k v).csrStage = s.csrStage := rfl
@[simp] theorem setLc_csrSnap (k : Nat) (v : LCore) : (s.setLc k v).csrSnap = s.csrSnap := rfl
@[simp] theorem setLc_mem (k : Nat) (v : LCore) : (s.setLc k v).mem = s.mem := rfl
@[simp] theorem setLc_poison (k : Nat) (v : LCore) : (s.setLc k v).poison = s.poison := rfl
@[simp] theorem setLc_soft (k : Nat) (v : LCore) : (s.setLc k v).soft = s.soft := rfl
@[simp] theorem setLc_pwr (k : Nat) (v : LCore) : (s.setLc k v).pwr = s.pwr := rfl
@[simp] theorem setLc_ccs (k : Nat) (v : LCore) : (s.setLc k v).ccs = s.ccs := rfl
@[simp] theorem setLc_dcache (k : Nat) (v : LCore) : (s.setLc k v).dcache = s.dcache := rfl
@[simp] theorem setLc_queues (k : Nat) (v : LCore) : (s.setLc k v).queues = s.queues := rfl
@[simp] theorem setLc_locks (k : Nat) (v : LCore) : (s.setLc k v).locks = s.locks := rfl
@[simp] theorem setLc_ldg (k : Nat) (v : LCore) : (s.setLc k v).ldg = s.ldg := rfl
@[simp] theorem setLc_time (k : Nat) (v : LCore) : (s.setLc k v).time = s.time := rfl
@[simp] theorem setLc_evr (k : Nat) (v : LCore) : (s.setLc k v).evr = s.evr := rfl
@[simp] theorem setLc_dataQ (k : Nat) (v : LCore) : (s.setLc k v).dataQ = s.dataQ := rfl
@[simp] theorem setLc_ctlQ (k : Nat) (v : LCore) : (s.setLc k v).ctlQ = s.ctlQ := rfl
@[simp] theorem setLc_mgmtQ (k : Nat) (v : LCore) : (s.setLc k v).mgmtQ = s.mgmtQ := rfl
@[simp] theorem setLc_turn (k : Nat) (v : LCore) : (s.setLc k v).turn = s.turn := rfl
@[simp] theorem setLc_merged (k : Nat) (v : LCore) : (s.setLc k v).merged = s.merged := rfl
@[simp] theorem setLc_epiMap (k : Nat) (v : LCore) : (s.setLc k v).epiMap = s.epiMap := rfl
@[simp] theorem setLc_wire (k : Nat) (v : LCore) : (s.setLc k v).wire = s.wire := rfl
@[simp] theorem setLc_twn (k : Nat) (v : LCore) : (s.setLc k v).twn = s.twn := rfl
@[simp] theorem setLc_mrm (k : Nat) (v : LCore) : (s.setLc k v).mrm = s.mrm := rfl
@[simp] theorem setLc_nfc (k : Nat) (v : LCore) : (s.setLc k v).nfc = s.nfc := rfl
@[simp] theorem setLc_rin (k : Nat) (v : LCore) : (s.setLc k v).rin = s.rin := rfl
@[simp] theorem setLc_clk (k : Nat) (v : LCore) : (s.setLc k v).clk = s.clk := rfl
@[simp] theorem setLc_tap (k : Nat) (v : LCore) : (s.setLc k v).tap = s.tap := rfl
@[simp] theorem setLc_met (k : Nat) (v : LCore) : (s.setLc k v).met = s.met := rfl
@[simp] theorem setLc_bal (k : Nat) (v : LCore) : (s.setLc k v).bal = s.bal := rfl
@[simp] theorem setLc_dun (k : Nat) (v : LCore) : (s.setLc k v).dun = s.dun := rfl
@[simp] theorem setLc_mov (k : Nat) (v : LCore) : (s.setLc k v).mov = s.mov := rfl
@[simp] theorem setLc_pfx (k : Nat) (v : LCore) : (s.setLc k v).pfx = s.pfx := rfl
@[simp] theorem setLc_ses (k : Nat) (v : LCore) : (s.setLc k v).ses = s.ses := rfl
@[simp] theorem setLc_key (k : Nat) (v : LCore) : (s.setLc k v).key = s.key := rfl
@[simp] theorem setLc_kep (k : Nat) (v : LCore) : (s.setLc k v).kep = s.kep := rfl
@[simp] theorem setLc_upd (k : Nat) (v : LCore) : (s.setLc k v).upd = s.upd := rfl
@[simp] theorem setLc_pl (k : Nat) (v : LCore) : (s.setLc k v).pl = s.pl := rfl
@[simp] theorem setLc_rf (k : Nat) (v : LCore) : (s.setLc k v).rf = s.rf := rfl
@[simp] theorem setLc_delivered (k : Nat) (v : LCore) : (s.setLc k v).delivered = s.delivered := rfl
@[simp] theorem setLc_reg (k : Nat) (v : LCore) (r : Nat) : (s.setLc k v).reg r = s.reg r := rfl
@[simp] theorem setLc_fget (k : Nat) (v : LCore) (x : Fld) : (s.setLc k v).fget x = s.fget x := rfl
@[simp] theorem setLc_flag (k : Nat) (v : LCore) (x : Fld) : (s.setLc k v).flag x = s.flag x := rfl

/-! ### setQueue -/

@[simp] theorem setQueue_pending (k : Nat) (v : Queue) : (s.setQueue k v).pending = s.pending := rfl
@[simp] theorem setQueue_answer (k : Nat) (v : Queue) : (s.setQueue k v).answer = s.answer := rfl
@[simp] theorem setQueue_freeCtr (k : Nat) (v : Queue) : (s.setQueue k v).freeCtr = s.freeCtr := rfl
@[simp] theorem setQueue_csr (k : Nat) (v : Queue) : (s.setQueue k v).csr = s.csr := rfl
@[simp] theorem setQueue_csrStage (k : Nat) (v : Queue) : (s.setQueue k v).csrStage = s.csrStage := rfl
@[simp] theorem setQueue_csrSnap (k : Nat) (v : Queue) : (s.setQueue k v).csrSnap = s.csrSnap := rfl
@[simp] theorem setQueue_mem (k : Nat) (v : Queue) : (s.setQueue k v).mem = s.mem := rfl
@[simp] theorem setQueue_poison (k : Nat) (v : Queue) : (s.setQueue k v).poison = s.poison := rfl
@[simp] theorem setQueue_soft (k : Nat) (v : Queue) : (s.setQueue k v).soft = s.soft := rfl
@[simp] theorem setQueue_pwr (k : Nat) (v : Queue) : (s.setQueue k v).pwr = s.pwr := rfl
@[simp] theorem setQueue_ccs (k : Nat) (v : Queue) : (s.setQueue k v).ccs = s.ccs := rfl
@[simp] theorem setQueue_lcs (k : Nat) (v : Queue) : (s.setQueue k v).lcs = s.lcs := rfl
@[simp] theorem setQueue_dcache (k : Nat) (v : Queue) : (s.setQueue k v).dcache = s.dcache := rfl
@[simp] theorem setQueue_locks (k : Nat) (v : Queue) : (s.setQueue k v).locks = s.locks := rfl
@[simp] theorem setQueue_ldg (k : Nat) (v : Queue) : (s.setQueue k v).ldg = s.ldg := rfl
@[simp] theorem setQueue_time (k : Nat) (v : Queue) : (s.setQueue k v).time = s.time := rfl
@[simp] theorem setQueue_evr (k : Nat) (v : Queue) : (s.setQueue k v).evr = s.evr := rfl
@[simp] theorem setQueue_dataQ (k : Nat) (v : Queue) : (s.setQueue k v).dataQ = s.dataQ := rfl
@[simp] theorem setQueue_ctlQ (k : Nat) (v : Queue) : (s.setQueue k v).ctlQ = s.ctlQ := rfl
@[simp] theorem setQueue_mgmtQ (k : Nat) (v : Queue) : (s.setQueue k v).mgmtQ = s.mgmtQ := rfl
@[simp] theorem setQueue_turn (k : Nat) (v : Queue) : (s.setQueue k v).turn = s.turn := rfl
@[simp] theorem setQueue_merged (k : Nat) (v : Queue) : (s.setQueue k v).merged = s.merged := rfl
@[simp] theorem setQueue_epiMap (k : Nat) (v : Queue) : (s.setQueue k v).epiMap = s.epiMap := rfl
@[simp] theorem setQueue_wire (k : Nat) (v : Queue) : (s.setQueue k v).wire = s.wire := rfl
@[simp] theorem setQueue_twn (k : Nat) (v : Queue) : (s.setQueue k v).twn = s.twn := rfl
@[simp] theorem setQueue_mrm (k : Nat) (v : Queue) : (s.setQueue k v).mrm = s.mrm := rfl
@[simp] theorem setQueue_nfc (k : Nat) (v : Queue) : (s.setQueue k v).nfc = s.nfc := rfl
@[simp] theorem setQueue_rin (k : Nat) (v : Queue) : (s.setQueue k v).rin = s.rin := rfl
@[simp] theorem setQueue_clk (k : Nat) (v : Queue) : (s.setQueue k v).clk = s.clk := rfl
@[simp] theorem setQueue_tap (k : Nat) (v : Queue) : (s.setQueue k v).tap = s.tap := rfl
@[simp] theorem setQueue_met (k : Nat) (v : Queue) : (s.setQueue k v).met = s.met := rfl
@[simp] theorem setQueue_bal (k : Nat) (v : Queue) : (s.setQueue k v).bal = s.bal := rfl
@[simp] theorem setQueue_dun (k : Nat) (v : Queue) : (s.setQueue k v).dun = s.dun := rfl
@[simp] theorem setQueue_mov (k : Nat) (v : Queue) : (s.setQueue k v).mov = s.mov := rfl
@[simp] theorem setQueue_pfx (k : Nat) (v : Queue) : (s.setQueue k v).pfx = s.pfx := rfl
@[simp] theorem setQueue_ses (k : Nat) (v : Queue) : (s.setQueue k v).ses = s.ses := rfl
@[simp] theorem setQueue_key (k : Nat) (v : Queue) : (s.setQueue k v).key = s.key := rfl
@[simp] theorem setQueue_kep (k : Nat) (v : Queue) : (s.setQueue k v).kep = s.kep := rfl
@[simp] theorem setQueue_upd (k : Nat) (v : Queue) : (s.setQueue k v).upd = s.upd := rfl
@[simp] theorem setQueue_pl (k : Nat) (v : Queue) : (s.setQueue k v).pl = s.pl := rfl
@[simp] theorem setQueue_rf (k : Nat) (v : Queue) : (s.setQueue k v).rf = s.rf := rfl
@[simp] theorem setQueue_delivered (k : Nat) (v : Queue) : (s.setQueue k v).delivered = s.delivered := rfl
@[simp] theorem setQueue_reg (k : Nat) (v : Queue) (r : Nat) : (s.setQueue k v).reg r = s.reg r := rfl
@[simp] theorem setQueue_fget (k : Nat) (v : Queue) (x : Fld) : (s.setQueue k v).fget x = s.fget x := rfl
@[simp] theorem setQueue_flag (k : Nat) (v : Queue) (x : Fld) : (s.setQueue k v).flag x = s.flag x := rfl

/-! ### setLock -/

@[simp] theorem setLock_pending (k : Nat) (v : LockCell) : (s.setLock k v).pending = s.pending := rfl
@[simp] theorem setLock_answer (k : Nat) (v : LockCell) : (s.setLock k v).answer = s.answer := rfl
@[simp] theorem setLock_freeCtr (k : Nat) (v : LockCell) : (s.setLock k v).freeCtr = s.freeCtr := rfl
@[simp] theorem setLock_csr (k : Nat) (v : LockCell) : (s.setLock k v).csr = s.csr := rfl
@[simp] theorem setLock_csrStage (k : Nat) (v : LockCell) : (s.setLock k v).csrStage = s.csrStage := rfl
@[simp] theorem setLock_csrSnap (k : Nat) (v : LockCell) : (s.setLock k v).csrSnap = s.csrSnap := rfl
@[simp] theorem setLock_mem (k : Nat) (v : LockCell) : (s.setLock k v).mem = s.mem := rfl
@[simp] theorem setLock_poison (k : Nat) (v : LockCell) : (s.setLock k v).poison = s.poison := rfl
@[simp] theorem setLock_soft (k : Nat) (v : LockCell) : (s.setLock k v).soft = s.soft := rfl
@[simp] theorem setLock_pwr (k : Nat) (v : LockCell) : (s.setLock k v).pwr = s.pwr := rfl
@[simp] theorem setLock_ccs (k : Nat) (v : LockCell) : (s.setLock k v).ccs = s.ccs := rfl
@[simp] theorem setLock_lcs (k : Nat) (v : LockCell) : (s.setLock k v).lcs = s.lcs := rfl
@[simp] theorem setLock_dcache (k : Nat) (v : LockCell) : (s.setLock k v).dcache = s.dcache := rfl
@[simp] theorem setLock_queues (k : Nat) (v : LockCell) : (s.setLock k v).queues = s.queues := rfl
@[simp] theorem setLock_ldg (k : Nat) (v : LockCell) : (s.setLock k v).ldg = s.ldg := rfl
@[simp] theorem setLock_time (k : Nat) (v : LockCell) : (s.setLock k v).time = s.time := rfl
@[simp] theorem setLock_evr (k : Nat) (v : LockCell) : (s.setLock k v).evr = s.evr := rfl
@[simp] theorem setLock_dataQ (k : Nat) (v : LockCell) : (s.setLock k v).dataQ = s.dataQ := rfl
@[simp] theorem setLock_ctlQ (k : Nat) (v : LockCell) : (s.setLock k v).ctlQ = s.ctlQ := rfl
@[simp] theorem setLock_mgmtQ (k : Nat) (v : LockCell) : (s.setLock k v).mgmtQ = s.mgmtQ := rfl
@[simp] theorem setLock_turn (k : Nat) (v : LockCell) : (s.setLock k v).turn = s.turn := rfl
@[simp] theorem setLock_merged (k : Nat) (v : LockCell) : (s.setLock k v).merged = s.merged := rfl
@[simp] theorem setLock_epiMap (k : Nat) (v : LockCell) : (s.setLock k v).epiMap = s.epiMap := rfl
@[simp] theorem setLock_wire (k : Nat) (v : LockCell) : (s.setLock k v).wire = s.wire := rfl
@[simp] theorem setLock_twn (k : Nat) (v : LockCell) : (s.setLock k v).twn = s.twn := rfl
@[simp] theorem setLock_mrm (k : Nat) (v : LockCell) : (s.setLock k v).mrm = s.mrm := rfl
@[simp] theorem setLock_nfc (k : Nat) (v : LockCell) : (s.setLock k v).nfc = s.nfc := rfl
@[simp] theorem setLock_rin (k : Nat) (v : LockCell) : (s.setLock k v).rin = s.rin := rfl
@[simp] theorem setLock_clk (k : Nat) (v : LockCell) : (s.setLock k v).clk = s.clk := rfl
@[simp] theorem setLock_tap (k : Nat) (v : LockCell) : (s.setLock k v).tap = s.tap := rfl
@[simp] theorem setLock_met (k : Nat) (v : LockCell) : (s.setLock k v).met = s.met := rfl
@[simp] theorem setLock_bal (k : Nat) (v : LockCell) : (s.setLock k v).bal = s.bal := rfl
@[simp] theorem setLock_dun (k : Nat) (v : LockCell) : (s.setLock k v).dun = s.dun := rfl
@[simp] theorem setLock_mov (k : Nat) (v : LockCell) : (s.setLock k v).mov = s.mov := rfl
@[simp] theorem setLock_pfx (k : Nat) (v : LockCell) : (s.setLock k v).pfx = s.pfx := rfl
@[simp] theorem setLock_ses (k : Nat) (v : LockCell) : (s.setLock k v).ses = s.ses := rfl
@[simp] theorem setLock_key (k : Nat) (v : LockCell) : (s.setLock k v).key = s.key := rfl
@[simp] theorem setLock_kep (k : Nat) (v : LockCell) : (s.setLock k v).kep = s.kep := rfl
@[simp] theorem setLock_upd (k : Nat) (v : LockCell) : (s.setLock k v).upd = s.upd := rfl
@[simp] theorem setLock_pl (k : Nat) (v : LockCell) : (s.setLock k v).pl = s.pl := rfl
@[simp] theorem setLock_rf (k : Nat) (v : LockCell) : (s.setLock k v).rf = s.rf := rfl
@[simp] theorem setLock_delivered (k : Nat) (v : LockCell) : (s.setLock k v).delivered = s.delivered := rfl
@[simp] theorem setLock_reg (k : Nat) (v : LockCell) (r : Nat) : (s.setLock k v).reg r = s.reg r := rfl
@[simp] theorem setLock_fget (k : Nat) (v : LockCell) (x : Fld) : (s.setLock k v).fget x = s.fget x := rfl
@[simp] theorem setLock_flag (k : Nat) (v : LockCell) (x : Fld) : (s.setLock k v).flag x = s.flag x := rfl

/-! ### setLine -/

@[simp] theorem setLine_pending (k : Nat) (v : CLine) : (s.setLine k v).pending = s.pending := rfl
@[simp] theorem setLine_answer (k : Nat) (v : CLine) : (s.setLine k v).answer = s.answer := rfl
@[simp] theorem setLine_freeCtr (k : Nat) (v : CLine) : (s.setLine k v).freeCtr = s.freeCtr := rfl
@[simp] theorem setLine_csr (k : Nat) (v : CLine) : (s.setLine k v).csr = s.csr := rfl
@[simp] theorem setLine_csrStage (k : Nat) (v : CLine) : (s.setLine k v).csrStage = s.csrStage := rfl
@[simp] theorem setLine_csrSnap (k : Nat) (v : CLine) : (s.setLine k v).csrSnap = s.csrSnap := rfl
@[simp] theorem setLine_mem (k : Nat) (v : CLine) : (s.setLine k v).mem = s.mem := rfl
@[simp] theorem setLine_poison (k : Nat) (v : CLine) : (s.setLine k v).poison = s.poison := rfl
@[simp] theorem setLine_soft (k : Nat) (v : CLine) : (s.setLine k v).soft = s.soft := rfl
@[simp] theorem setLine_pwr (k : Nat) (v : CLine) : (s.setLine k v).pwr = s.pwr := rfl
@[simp] theorem setLine_ccs (k : Nat) (v : CLine) : (s.setLine k v).ccs = s.ccs := rfl
@[simp] theorem setLine_lcs (k : Nat) (v : CLine) : (s.setLine k v).lcs = s.lcs := rfl
@[simp] theorem setLine_queues (k : Nat) (v : CLine) : (s.setLine k v).queues = s.queues := rfl
@[simp] theorem setLine_locks (k : Nat) (v : CLine) : (s.setLine k v).locks = s.locks := rfl
@[simp] theorem setLine_ldg (k : Nat) (v : CLine) : (s.setLine k v).ldg = s.ldg := rfl
@[simp] theorem setLine_time (k : Nat) (v : CLine) : (s.setLine k v).time = s.time := rfl
@[simp] theorem setLine_evr (k : Nat) (v : CLine) : (s.setLine k v).evr = s.evr := rfl
@[simp] theorem setLine_dataQ (k : Nat) (v : CLine) : (s.setLine k v).dataQ = s.dataQ := rfl
@[simp] theorem setLine_ctlQ (k : Nat) (v : CLine) : (s.setLine k v).ctlQ = s.ctlQ := rfl
@[simp] theorem setLine_mgmtQ (k : Nat) (v : CLine) : (s.setLine k v).mgmtQ = s.mgmtQ := rfl
@[simp] theorem setLine_turn (k : Nat) (v : CLine) : (s.setLine k v).turn = s.turn := rfl
@[simp] theorem setLine_merged (k : Nat) (v : CLine) : (s.setLine k v).merged = s.merged := rfl
@[simp] theorem setLine_epiMap (k : Nat) (v : CLine) : (s.setLine k v).epiMap = s.epiMap := rfl
@[simp] theorem setLine_wire (k : Nat) (v : CLine) : (s.setLine k v).wire = s.wire := rfl
@[simp] theorem setLine_twn (k : Nat) (v : CLine) : (s.setLine k v).twn = s.twn := rfl
@[simp] theorem setLine_mrm (k : Nat) (v : CLine) : (s.setLine k v).mrm = s.mrm := rfl
@[simp] theorem setLine_nfc (k : Nat) (v : CLine) : (s.setLine k v).nfc = s.nfc := rfl
@[simp] theorem setLine_rin (k : Nat) (v : CLine) : (s.setLine k v).rin = s.rin := rfl
@[simp] theorem setLine_clk (k : Nat) (v : CLine) : (s.setLine k v).clk = s.clk := rfl
@[simp] theorem setLine_tap (k : Nat) (v : CLine) : (s.setLine k v).tap = s.tap := rfl
@[simp] theorem setLine_met (k : Nat) (v : CLine) : (s.setLine k v).met = s.met := rfl
@[simp] theorem setLine_bal (k : Nat) (v : CLine) : (s.setLine k v).bal = s.bal := rfl
@[simp] theorem setLine_dun (k : Nat) (v : CLine) : (s.setLine k v).dun = s.dun := rfl
@[simp] theorem setLine_mov (k : Nat) (v : CLine) : (s.setLine k v).mov = s.mov := rfl
@[simp] theorem setLine_pfx (k : Nat) (v : CLine) : (s.setLine k v).pfx = s.pfx := rfl
@[simp] theorem setLine_ses (k : Nat) (v : CLine) : (s.setLine k v).ses = s.ses := rfl
@[simp] theorem setLine_key (k : Nat) (v : CLine) : (s.setLine k v).key = s.key := rfl
@[simp] theorem setLine_kep (k : Nat) (v : CLine) : (s.setLine k v).kep = s.kep := rfl
@[simp] theorem setLine_upd (k : Nat) (v : CLine) : (s.setLine k v).upd = s.upd := rfl
@[simp] theorem setLine_pl (k : Nat) (v : CLine) : (s.setLine k v).pl = s.pl := rfl
@[simp] theorem setLine_rf (k : Nat) (v : CLine) : (s.setLine k v).rf = s.rf := rfl
@[simp] theorem setLine_delivered (k : Nat) (v : CLine) : (s.setLine k v).delivered = s.delivered := rfl
@[simp] theorem setLine_reg (k : Nat) (v : CLine) (r : Nat) : (s.setLine k v).reg r = s.reg r := rfl
@[simp] theorem setLine_fget (k : Nat) (v : CLine) (x : Fld) : (s.setLine k v).fget x = s.fget x := rfl
@[simp] theorem setLine_flag (k : Nat) (v : CLine) (x : Fld) : (s.setLine k v).flag x = s.flag x := rfl

/-! ### setPwr -/

@[simp] theorem setPwr_pending (v : PwrSt) : (s.setPwr v).pending = s.pending := rfl
@[simp] theorem setPwr_answer (v : PwrSt) : (s.setPwr v).answer = s.answer := rfl
@[simp] theorem setPwr_freeCtr (v : PwrSt) : (s.setPwr v).freeCtr = s.freeCtr := rfl
@[simp] theorem setPwr_csr (v : PwrSt) : (s.setPwr v).csr = s.csr := rfl
@[simp] theorem setPwr_csrStage (v : PwrSt) : (s.setPwr v).csrStage = s.csrStage := rfl
@[simp] theorem setPwr_csrSnap (v : PwrSt) : (s.setPwr v).csrSnap = s.csrSnap := rfl
@[simp] theorem setPwr_mem (v : PwrSt) : (s.setPwr v).mem = s.mem := rfl
@[simp] theorem setPwr_poison (v : PwrSt) : (s.setPwr v).poison = s.poison := rfl
@[simp] theorem setPwr_soft (v : PwrSt) : (s.setPwr v).soft = s.soft := rfl
@[simp] theorem setPwr_pwr (v : PwrSt) : (s.setPwr v).pwr = v := rfl
@[simp] theorem setPwr_ccs (v : PwrSt) : (s.setPwr v).ccs = s.ccs := rfl
@[simp] theorem setPwr_lcs (v : PwrSt) : (s.setPwr v).lcs = s.lcs := rfl
@[simp] theorem setPwr_dcache (v : PwrSt) : (s.setPwr v).dcache = s.dcache := rfl
@[simp] theorem setPwr_queues (v : PwrSt) : (s.setPwr v).queues = s.queues := rfl
@[simp] theorem setPwr_locks (v : PwrSt) : (s.setPwr v).locks = s.locks := rfl
@[simp] theorem setPwr_ldg (v : PwrSt) : (s.setPwr v).ldg = s.ldg := rfl
@[simp] theorem setPwr_time (v : PwrSt) : (s.setPwr v).time = s.time := rfl
@[simp] theorem setPwr_evr (v : PwrSt) : (s.setPwr v).evr = s.evr := rfl
@[simp] theorem setPwr_dataQ (v : PwrSt) : (s.setPwr v).dataQ = s.dataQ := rfl
@[simp] theorem setPwr_ctlQ (v : PwrSt) : (s.setPwr v).ctlQ = s.ctlQ := rfl
@[simp] theorem setPwr_mgmtQ (v : PwrSt) : (s.setPwr v).mgmtQ = s.mgmtQ := rfl
@[simp] theorem setPwr_turn (v : PwrSt) : (s.setPwr v).turn = s.turn := rfl
@[simp] theorem setPwr_merged (v : PwrSt) : (s.setPwr v).merged = s.merged := rfl
@[simp] theorem setPwr_epiMap (v : PwrSt) : (s.setPwr v).epiMap = s.epiMap := rfl
@[simp] theorem setPwr_wire (v : PwrSt) : (s.setPwr v).wire = s.wire := rfl
@[simp] theorem setPwr_twn (v : PwrSt) : (s.setPwr v).twn = s.twn := rfl
@[simp] theorem setPwr_mrm (v : PwrSt) : (s.setPwr v).mrm = s.mrm := rfl
@[simp] theorem setPwr_nfc (v : PwrSt) : (s.setPwr v).nfc = s.nfc := rfl
@[simp] theorem setPwr_rin (v : PwrSt) : (s.setPwr v).rin = s.rin := rfl
@[simp] theorem setPwr_clk (v : PwrSt) : (s.setPwr v).clk = s.clk := rfl
@[simp] theorem setPwr_tap (v : PwrSt) : (s.setPwr v).tap = s.tap := rfl
@[simp] theorem setPwr_met (v : PwrSt) : (s.setPwr v).met = s.met := rfl
@[simp] theorem setPwr_bal (v : PwrSt) : (s.setPwr v).bal = s.bal := rfl
@[simp] theorem setPwr_dun (v : PwrSt) : (s.setPwr v).dun = s.dun := rfl
@[simp] theorem setPwr_mov (v : PwrSt) : (s.setPwr v).mov = s.mov := rfl
@[simp] theorem setPwr_pfx (v : PwrSt) : (s.setPwr v).pfx = s.pfx := rfl
@[simp] theorem setPwr_ses (v : PwrSt) : (s.setPwr v).ses = s.ses := rfl
@[simp] theorem setPwr_key (v : PwrSt) : (s.setPwr v).key = s.key := rfl
@[simp] theorem setPwr_kep (v : PwrSt) : (s.setPwr v).kep = s.kep := rfl
@[simp] theorem setPwr_upd (v : PwrSt) : (s.setPwr v).upd = s.upd := rfl
@[simp] theorem setPwr_pl (v : PwrSt) : (s.setPwr v).pl = s.pl := rfl
@[simp] theorem setPwr_rf (v : PwrSt) : (s.setPwr v).rf = s.rf := rfl
@[simp] theorem setPwr_delivered (v : PwrSt) : (s.setPwr v).delivered = s.delivered := rfl
@[simp] theorem setPwr_reg (v : PwrSt) (r : Nat) : (s.setPwr v).reg r = s.reg r := rfl
@[simp] theorem setPwr_fget (v : PwrSt) (x : Fld) : (s.setPwr v).fget x = s.fget x := rfl
@[simp] theorem setPwr_flag (v : PwrSt) (x : Fld) : (s.setPwr v).flag x = s.flag x := rfl

/-! ### setLdg -/

@[simp] theorem setLdg_pending (v : LedgerSt) : (s.setLdg v).pending = s.pending := rfl
@[simp] theorem setLdg_answer (v : LedgerSt) : (s.setLdg v).answer = s.answer := rfl
@[simp] theorem setLdg_freeCtr (v : LedgerSt) : (s.setLdg v).freeCtr = s.freeCtr := rfl
@[simp] theorem setLdg_csr (v : LedgerSt) : (s.setLdg v).csr = s.csr := rfl
@[simp] theorem setLdg_csrStage (v : LedgerSt) : (s.setLdg v).csrStage = s.csrStage := rfl
@[simp] theorem setLdg_csrSnap (v : LedgerSt) : (s.setLdg v).csrSnap = s.csrSnap := rfl
@[simp] theorem setLdg_mem (v : LedgerSt) : (s.setLdg v).mem = s.mem := rfl
@[simp] theorem setLdg_poison (v : LedgerSt) : (s.setLdg v).poison = s.poison := rfl
@[simp] theorem setLdg_soft (v : LedgerSt) : (s.setLdg v).soft = s.soft := rfl
@[simp] theorem setLdg_pwr (v : LedgerSt) : (s.setLdg v).pwr = s.pwr := rfl
@[simp] theorem setLdg_ccs (v : LedgerSt) : (s.setLdg v).ccs = s.ccs := rfl
@[simp] theorem setLdg_lcs (v : LedgerSt) : (s.setLdg v).lcs = s.lcs := rfl
@[simp] theorem setLdg_dcache (v : LedgerSt) : (s.setLdg v).dcache = s.dcache := rfl
@[simp] theorem setLdg_queues (v : LedgerSt) : (s.setLdg v).queues = s.queues := rfl
@[simp] theorem setLdg_locks (v : LedgerSt) : (s.setLdg v).locks = s.locks := rfl
@[simp] theorem setLdg_ldg (v : LedgerSt) : (s.setLdg v).ldg = v := rfl
@[simp] theorem setLdg_time (v : LedgerSt) : (s.setLdg v).time = s.time := rfl
@[simp] theorem setLdg_evr (v : LedgerSt) : (s.setLdg v).evr = s.evr := rfl
@[simp] theorem setLdg_dataQ (v : LedgerSt) : (s.setLdg v).dataQ = s.dataQ := rfl
@[simp] theorem setLdg_ctlQ (v : LedgerSt) : (s.setLdg v).ctlQ = s.ctlQ := rfl
@[simp] theorem setLdg_mgmtQ (v : LedgerSt) : (s.setLdg v).mgmtQ = s.mgmtQ := rfl
@[simp] theorem setLdg_turn (v : LedgerSt) : (s.setLdg v).turn = s.turn := rfl
@[simp] theorem setLdg_merged (v : LedgerSt) : (s.setLdg v).merged = s.merged := rfl
@[simp] theorem setLdg_epiMap (v : LedgerSt) : (s.setLdg v).epiMap = s.epiMap := rfl
@[simp] theorem setLdg_wire (v : LedgerSt) : (s.setLdg v).wire = s.wire := rfl
@[simp] theorem setLdg_twn (v : LedgerSt) : (s.setLdg v).twn = s.twn := rfl
@[simp] theorem setLdg_mrm (v : LedgerSt) : (s.setLdg v).mrm = s.mrm := rfl
@[simp] theorem setLdg_nfc (v : LedgerSt) : (s.setLdg v).nfc = s.nfc := rfl
@[simp] theorem setLdg_rin (v : LedgerSt) : (s.setLdg v).rin = s.rin := rfl
@[simp] theorem setLdg_clk (v : LedgerSt) : (s.setLdg v).clk = s.clk := rfl
@[simp] theorem setLdg_tap (v : LedgerSt) : (s.setLdg v).tap = s.tap := rfl
@[simp] theorem setLdg_met (v : LedgerSt) : (s.setLdg v).met = s.met := rfl
@[simp] theorem setLdg_bal (v : LedgerSt) : (s.setLdg v).bal = s.bal := rfl
@[simp] theorem setLdg_dun (v : LedgerSt) : (s.setLdg v).dun = s.dun := rfl
@[simp] theorem setLdg_mov (v : LedgerSt) : (s.setLdg v).mov = s.mov := rfl
@[simp] theorem setLdg_pfx (v : LedgerSt) : (s.setLdg v).pfx = s.pfx := rfl
@[simp] theorem setLdg_ses (v : LedgerSt) : (s.setLdg v).ses = s.ses := rfl
@[simp] theorem setLdg_key (v : LedgerSt) : (s.setLdg v).key = s.key := rfl
@[simp] theorem setLdg_kep (v : LedgerSt) : (s.setLdg v).kep = s.kep := rfl
@[simp] theorem setLdg_upd (v : LedgerSt) : (s.setLdg v).upd = s.upd := rfl
@[simp] theorem setLdg_pl (v : LedgerSt) : (s.setLdg v).pl = s.pl := rfl
@[simp] theorem setLdg_rf (v : LedgerSt) : (s.setLdg v).rf = s.rf := rfl
@[simp] theorem setLdg_delivered (v : LedgerSt) : (s.setLdg v).delivered = s.delivered := rfl
@[simp] theorem setLdg_reg (v : LedgerSt) (r : Nat) : (s.setLdg v).reg r = s.reg r := rfl
@[simp] theorem setLdg_fget (v : LedgerSt) (x : Fld) : (s.setLdg v).fget x = s.fget x := rfl
@[simp] theorem setLdg_flag (v : LedgerSt) (x : Fld) : (s.setLdg v).flag x = s.flag x := rfl

/-! ### setTime -/

@[simp] theorem setTime_pending (v : TimeSt) : (s.setTime v).pending = s.pending := rfl
@[simp] theorem setTime_answer (v : TimeSt) : (s.setTime v).answer = s.answer := rfl
@[simp] theorem setTime_freeCtr (v : TimeSt) : (s.setTime v).freeCtr = s.freeCtr := rfl
@[simp] theorem setTime_csr (v : TimeSt) : (s.setTime v).csr = s.csr := rfl
@[simp] theorem setTime_csrStage (v : TimeSt) : (s.setTime v).csrStage = s.csrStage := rfl
@[simp] theorem setTime_csrSnap (v : TimeSt) : (s.setTime v).csrSnap = s.csrSnap := rfl
@[simp] theorem setTime_mem (v : TimeSt) : (s.setTime v).mem = s.mem := rfl
@[simp] theorem setTime_poison (v : TimeSt) : (s.setTime v).poison = s.poison := rfl
@[simp] theorem setTime_soft (v : TimeSt) : (s.setTime v).soft = s.soft := rfl
@[simp] theorem setTime_pwr (v : TimeSt) : (s.setTime v).pwr = s.pwr := rfl
@[simp] theorem setTime_ccs (v : TimeSt) : (s.setTime v).ccs = s.ccs := rfl
@[simp] theorem setTime_lcs (v : TimeSt) : (s.setTime v).lcs = s.lcs := rfl
@[simp] theorem setTime_dcache (v : TimeSt) : (s.setTime v).dcache = s.dcache := rfl
@[simp] theorem setTime_queues (v : TimeSt) : (s.setTime v).queues = s.queues := rfl
@[simp] theorem setTime_locks (v : TimeSt) : (s.setTime v).locks = s.locks := rfl
@[simp] theorem setTime_ldg (v : TimeSt) : (s.setTime v).ldg = s.ldg := rfl
@[simp] theorem setTime_time (v : TimeSt) : (s.setTime v).time = v := rfl
@[simp] theorem setTime_evr (v : TimeSt) : (s.setTime v).evr = s.evr := rfl
@[simp] theorem setTime_dataQ (v : TimeSt) : (s.setTime v).dataQ = s.dataQ := rfl
@[simp] theorem setTime_ctlQ (v : TimeSt) : (s.setTime v).ctlQ = s.ctlQ := rfl
@[simp] theorem setTime_mgmtQ (v : TimeSt) : (s.setTime v).mgmtQ = s.mgmtQ := rfl
@[simp] theorem setTime_turn (v : TimeSt) : (s.setTime v).turn = s.turn := rfl
@[simp] theorem setTime_merged (v : TimeSt) : (s.setTime v).merged = s.merged := rfl
@[simp] theorem setTime_epiMap (v : TimeSt) : (s.setTime v).epiMap = s.epiMap := rfl
@[simp] theorem setTime_wire (v : TimeSt) : (s.setTime v).wire = s.wire := rfl
@[simp] theorem setTime_twn (v : TimeSt) : (s.setTime v).twn = s.twn := rfl
@[simp] theorem setTime_mrm (v : TimeSt) : (s.setTime v).mrm = s.mrm := rfl
@[simp] theorem setTime_nfc (v : TimeSt) : (s.setTime v).nfc = s.nfc := rfl
@[simp] theorem setTime_rin (v : TimeSt) : (s.setTime v).rin = s.rin := rfl
@[simp] theorem setTime_clk (v : TimeSt) : (s.setTime v).clk = s.clk := rfl
@[simp] theorem setTime_tap (v : TimeSt) : (s.setTime v).tap = s.tap := rfl
@[simp] theorem setTime_met (v : TimeSt) : (s.setTime v).met = s.met := rfl
@[simp] theorem setTime_bal (v : TimeSt) : (s.setTime v).bal = s.bal := rfl
@[simp] theorem setTime_dun (v : TimeSt) : (s.setTime v).dun = s.dun := rfl
@[simp] theorem setTime_mov (v : TimeSt) : (s.setTime v).mov = s.mov := rfl
@[simp] theorem setTime_pfx (v : TimeSt) : (s.setTime v).pfx = s.pfx := rfl
@[simp] theorem setTime_ses (v : TimeSt) : (s.setTime v).ses = s.ses := rfl
@[simp] theorem setTime_key (v : TimeSt) : (s.setTime v).key = s.key := rfl
@[simp] theorem setTime_kep (v : TimeSt) : (s.setTime v).kep = s.kep := rfl
@[simp] theorem setTime_upd (v : TimeSt) : (s.setTime v).upd = s.upd := rfl
@[simp] theorem setTime_pl (v : TimeSt) : (s.setTime v).pl = s.pl := rfl
@[simp] theorem setTime_rf (v : TimeSt) : (s.setTime v).rf = s.rf := rfl
@[simp] theorem setTime_delivered (v : TimeSt) : (s.setTime v).delivered = s.delivered := rfl
@[simp] theorem setTime_reg (v : TimeSt) (r : Nat) : (s.setTime v).reg r = s.reg r := rfl
@[simp] theorem setTime_fget (v : TimeSt) (x : Fld) : (s.setTime v).fget x = s.fget x := rfl
@[simp] theorem setTime_flag (v : TimeSt) (x : Fld) : (s.setTime v).flag x = s.flag x := rfl

/-! ### setEvr -/

@[simp] theorem setEvr_pending (v : EvrSt) : (s.setEvr v).pending = s.pending := rfl
@[simp] theorem setEvr_answer (v : EvrSt) : (s.setEvr v).answer = s.answer := rfl
@[simp] theorem setEvr_freeCtr (v : EvrSt) : (s.setEvr v).freeCtr = s.freeCtr := rfl
@[simp] theorem setEvr_csr (v : EvrSt) : (s.setEvr v).csr = s.csr := rfl
@[simp] theorem setEvr_csrStage (v : EvrSt) : (s.setEvr v).csrStage = s.csrStage := rfl
@[simp] theorem setEvr_csrSnap (v : EvrSt) : (s.setEvr v).csrSnap = s.csrSnap := rfl
@[simp] theorem setEvr_mem (v : EvrSt) : (s.setEvr v).mem = s.mem := rfl
@[simp] theorem setEvr_poison (v : EvrSt) : (s.setEvr v).poison = s.poison := rfl
@[simp] theorem setEvr_soft (v : EvrSt) : (s.setEvr v).soft = s.soft := rfl
@[simp] theorem setEvr_pwr (v : EvrSt) : (s.setEvr v).pwr = s.pwr := rfl
@[simp] theorem setEvr_ccs (v : EvrSt) : (s.setEvr v).ccs = s.ccs := rfl
@[simp] theorem setEvr_lcs (v : EvrSt) : (s.setEvr v).lcs = s.lcs := rfl
@[simp] theorem setEvr_dcache (v : EvrSt) : (s.setEvr v).dcache = s.dcache := rfl
@[simp] theorem setEvr_queues (v : EvrSt) : (s.setEvr v).queues = s.queues := rfl
@[simp] theorem setEvr_locks (v : EvrSt) : (s.setEvr v).locks = s.locks := rfl
@[simp] theorem setEvr_ldg (v : EvrSt) : (s.setEvr v).ldg = s.ldg := rfl
@[simp] theorem setEvr_time (v : EvrSt) : (s.setEvr v).time = s.time := rfl
@[simp] theorem setEvr_evr (v : EvrSt) : (s.setEvr v).evr = v := rfl
@[simp] theorem setEvr_dataQ (v : EvrSt) : (s.setEvr v).dataQ = s.dataQ := rfl
@[simp] theorem setEvr_ctlQ (v : EvrSt) : (s.setEvr v).ctlQ = s.ctlQ := rfl
@[simp] theorem setEvr_mgmtQ (v : EvrSt) : (s.setEvr v).mgmtQ = s.mgmtQ := rfl
@[simp] theorem setEvr_turn (v : EvrSt) : (s.setEvr v).turn = s.turn := rfl
@[simp] theorem setEvr_merged (v : EvrSt) : (s.setEvr v).merged = s.merged := rfl
@[simp] theorem setEvr_epiMap (v : EvrSt) : (s.setEvr v).epiMap = s.epiMap := rfl
@[simp] theorem setEvr_wire (v : EvrSt) : (s.setEvr v).wire = s.wire := rfl
@[simp] theorem setEvr_twn (v : EvrSt) : (s.setEvr v).twn = s.twn := rfl
@[simp] theorem setEvr_mrm (v : EvrSt) : (s.setEvr v).mrm = s.mrm := rfl
@[simp] theorem setEvr_nfc (v : EvrSt) : (s.setEvr v).nfc = s.nfc := rfl
@[simp] theorem setEvr_rin (v : EvrSt) : (s.setEvr v).rin = s.rin := rfl
@[simp] theorem setEvr_clk (v : EvrSt) : (s.setEvr v).clk = s.clk := rfl
@[simp] theorem setEvr_tap (v : EvrSt) : (s.setEvr v).tap = s.tap := rfl
@[simp] theorem setEvr_met (v : EvrSt) : (s.setEvr v).met = s.met := rfl
@[simp] theorem setEvr_bal (v : EvrSt) : (s.setEvr v).bal = s.bal := rfl
@[simp] theorem setEvr_dun (v : EvrSt) : (s.setEvr v).dun = s.dun := rfl
@[simp] theorem setEvr_mov (v : EvrSt) : (s.setEvr v).mov = s.mov := rfl
@[simp] theorem setEvr_pfx (v : EvrSt) : (s.setEvr v).pfx = s.pfx := rfl
@[simp] theorem setEvr_ses (v : EvrSt) : (s.setEvr v).ses = s.ses := rfl
@[simp] theorem setEvr_key (v : EvrSt) : (s.setEvr v).key = s.key := rfl
@[simp] theorem setEvr_kep (v : EvrSt) : (s.setEvr v).kep = s.kep := rfl
@[simp] theorem setEvr_upd (v : EvrSt) : (s.setEvr v).upd = s.upd := rfl
@[simp] theorem setEvr_pl (v : EvrSt) : (s.setEvr v).pl = s.pl := rfl
@[simp] theorem setEvr_rf (v : EvrSt) : (s.setEvr v).rf = s.rf := rfl
@[simp] theorem setEvr_delivered (v : EvrSt) : (s.setEvr v).delivered = s.delivered := rfl
@[simp] theorem setEvr_reg (v : EvrSt) (r : Nat) : (s.setEvr v).reg r = s.reg r := rfl
@[simp] theorem setEvr_fget (v : EvrSt) (x : Fld) : (s.setEvr v).fget x = s.fget x := rfl
@[simp] theorem setEvr_flag (v : EvrSt) (x : Fld) : (s.setEvr v).flag x = s.flag x := rfl

/-! ### setTwn -/

@[simp] theorem setTwn_pending (v : TwnSt) : (s.setTwn v).pending = s.pending := rfl
@[simp] theorem setTwn_answer (v : TwnSt) : (s.setTwn v).answer = s.answer := rfl
@[simp] theorem setTwn_freeCtr (v : TwnSt) : (s.setTwn v).freeCtr = s.freeCtr := rfl
@[simp] theorem setTwn_csr (v : TwnSt) : (s.setTwn v).csr = s.csr := rfl
@[simp] theorem setTwn_csrStage (v : TwnSt) : (s.setTwn v).csrStage = s.csrStage := rfl
@[simp] theorem setTwn_csrSnap (v : TwnSt) : (s.setTwn v).csrSnap = s.csrSnap := rfl
@[simp] theorem setTwn_mem (v : TwnSt) : (s.setTwn v).mem = s.mem := rfl
@[simp] theorem setTwn_poison (v : TwnSt) : (s.setTwn v).poison = s.poison := rfl
@[simp] theorem setTwn_soft (v : TwnSt) : (s.setTwn v).soft = s.soft := rfl
@[simp] theorem setTwn_pwr (v : TwnSt) : (s.setTwn v).pwr = s.pwr := rfl
@[simp] theorem setTwn_ccs (v : TwnSt) : (s.setTwn v).ccs = s.ccs := rfl
@[simp] theorem setTwn_lcs (v : TwnSt) : (s.setTwn v).lcs = s.lcs := rfl
@[simp] theorem setTwn_dcache (v : TwnSt) : (s.setTwn v).dcache = s.dcache := rfl
@[simp] theorem setTwn_queues (v : TwnSt) : (s.setTwn v).queues = s.queues := rfl
@[simp] theorem setTwn_locks (v : TwnSt) : (s.setTwn v).locks = s.locks := rfl
@[simp] theorem setTwn_ldg (v : TwnSt) : (s.setTwn v).ldg = s.ldg := rfl
@[simp] theorem setTwn_time (v : TwnSt) : (s.setTwn v).time = s.time := rfl
@[simp] theorem setTwn_evr (v : TwnSt) : (s.setTwn v).evr = s.evr := rfl
@[simp] theorem setTwn_dataQ (v : TwnSt) : (s.setTwn v).dataQ = s.dataQ := rfl
@[simp] theorem setTwn_ctlQ (v : TwnSt) : (s.setTwn v).ctlQ = s.ctlQ := rfl
@[simp] theorem setTwn_mgmtQ (v : TwnSt) : (s.setTwn v).mgmtQ = s.mgmtQ := rfl
@[simp] theorem setTwn_turn (v : TwnSt) : (s.setTwn v).turn = s.turn := rfl
@[simp] theorem setTwn_merged (v : TwnSt) : (s.setTwn v).merged = s.merged := rfl
@[simp] theorem setTwn_epiMap (v : TwnSt) : (s.setTwn v).epiMap = s.epiMap := rfl
@[simp] theorem setTwn_wire (v : TwnSt) : (s.setTwn v).wire = s.wire := rfl
@[simp] theorem setTwn_twn (v : TwnSt) : (s.setTwn v).twn = v := rfl
@[simp] theorem setTwn_mrm (v : TwnSt) : (s.setTwn v).mrm = s.mrm := rfl
@[simp] theorem setTwn_nfc (v : TwnSt) : (s.setTwn v).nfc = s.nfc := rfl
@[simp] theorem setTwn_rin (v : TwnSt) : (s.setTwn v).rin = s.rin := rfl
@[simp] theorem setTwn_clk (v : TwnSt) : (s.setTwn v).clk = s.clk := rfl
@[simp] theorem setTwn_tap (v : TwnSt) : (s.setTwn v).tap = s.tap := rfl
@[simp] theorem setTwn_met (v : TwnSt) : (s.setTwn v).met = s.met := rfl
@[simp] theorem setTwn_bal (v : TwnSt) : (s.setTwn v).bal = s.bal := rfl
@[simp] theorem setTwn_dun (v : TwnSt) : (s.setTwn v).dun = s.dun := rfl
@[simp] theorem setTwn_mov (v : TwnSt) : (s.setTwn v).mov = s.mov := rfl
@[simp] theorem setTwn_pfx (v : TwnSt) : (s.setTwn v).pfx = s.pfx := rfl
@[simp] theorem setTwn_ses (v : TwnSt) : (s.setTwn v).ses = s.ses := rfl
@[simp] theorem setTwn_key (v : TwnSt) : (s.setTwn v).key = s.key := rfl
@[simp] theorem setTwn_kep (v : TwnSt) : (s.setTwn v).kep = s.kep := rfl
@[simp] theorem setTwn_upd (v : TwnSt) : (s.setTwn v).upd = s.upd := rfl
@[simp] theorem setTwn_pl (v : TwnSt) : (s.setTwn v).pl = s.pl := rfl
@[simp] theorem setTwn_rf (v : TwnSt) : (s.setTwn v).rf = s.rf := rfl
@[simp] theorem setTwn_delivered (v : TwnSt) : (s.setTwn v).delivered = s.delivered := rfl
@[simp] theorem setTwn_reg (v : TwnSt) (r : Nat) : (s.setTwn v).reg r = s.reg r := rfl
@[simp] theorem setTwn_fget (v : TwnSt) (x : Fld) : (s.setTwn v).fget x = s.fget x := rfl
@[simp] theorem setTwn_flag (v : TwnSt) (x : Fld) : (s.setTwn v).flag x = s.flag x := rfl

/-! ### setMrm -/

@[simp] theorem setMrm_pending (v : MrmSt) : (s.setMrm v).pending = s.pending := rfl
@[simp] theorem setMrm_answer (v : MrmSt) : (s.setMrm v).answer = s.answer := rfl
@[simp] theorem setMrm_freeCtr (v : MrmSt) : (s.setMrm v).freeCtr = s.freeCtr := rfl
@[simp] theorem setMrm_csr (v : MrmSt) : (s.setMrm v).csr = s.csr := rfl
@[simp] theorem setMrm_csrStage (v : MrmSt) : (s.setMrm v).csrStage = s.csrStage := rfl
@[simp] theorem setMrm_csrSnap (v : MrmSt) : (s.setMrm v).csrSnap = s.csrSnap := rfl
@[simp] theorem setMrm_mem (v : MrmSt) : (s.setMrm v).mem = s.mem := rfl
@[simp] theorem setMrm_poison (v : MrmSt) : (s.setMrm v).poison = s.poison := rfl
@[simp] theorem setMrm_soft (v : MrmSt) : (s.setMrm v).soft = s.soft := rfl
@[simp] theorem setMrm_pwr (v : MrmSt) : (s.setMrm v).pwr = s.pwr := rfl
@[simp] theorem setMrm_ccs (v : MrmSt) : (s.setMrm v).ccs = s.ccs := rfl
@[simp] theorem setMrm_lcs (v : MrmSt) : (s.setMrm v).lcs = s.lcs := rfl
@[simp] theorem setMrm_dcache (v : MrmSt) : (s.setMrm v).dcache = s.dcache := rfl
@[simp] theorem setMrm_queues (v : MrmSt) : (s.setMrm v).queues = s.queues := rfl
@[simp] theorem setMrm_locks (v : MrmSt) : (s.setMrm v).locks = s.locks := rfl
@[simp] theorem setMrm_ldg (v : MrmSt) : (s.setMrm v).ldg = s.ldg := rfl
@[simp] theorem setMrm_time (v : MrmSt) : (s.setMrm v).time = s.time := rfl
@[simp] theorem setMrm_evr (v : MrmSt) : (s.setMrm v).evr = s.evr := rfl
@[simp] theorem setMrm_dataQ (v : MrmSt) : (s.setMrm v).dataQ = s.dataQ := rfl
@[simp] theorem setMrm_ctlQ (v : MrmSt) : (s.setMrm v).ctlQ = s.ctlQ := rfl
@[simp] theorem setMrm_mgmtQ (v : MrmSt) : (s.setMrm v).mgmtQ = s.mgmtQ := rfl
@[simp] theorem setMrm_turn (v : MrmSt) : (s.setMrm v).turn = s.turn := rfl
@[simp] theorem setMrm_merged (v : MrmSt) : (s.setMrm v).merged = s.merged := rfl
@[simp] theorem setMrm_epiMap (v : MrmSt) : (s.setMrm v).epiMap = s.epiMap := rfl
@[simp] theorem setMrm_wire (v : MrmSt) : (s.setMrm v).wire = s.wire := rfl
@[simp] theorem setMrm_twn (v : MrmSt) : (s.setMrm v).twn = s.twn := rfl
@[simp] theorem setMrm_mrm (v : MrmSt) : (s.setMrm v).mrm = v := rfl
@[simp] theorem setMrm_nfc (v : MrmSt) : (s.setMrm v).nfc = s.nfc := rfl
@[simp] theorem setMrm_rin (v : MrmSt) : (s.setMrm v).rin = s.rin := rfl
@[simp] theorem setMrm_clk (v : MrmSt) : (s.setMrm v).clk = s.clk := rfl
@[simp] theorem setMrm_tap (v : MrmSt) : (s.setMrm v).tap = s.tap := rfl
@[simp] theorem setMrm_met (v : MrmSt) : (s.setMrm v).met = s.met := rfl
@[simp] theorem setMrm_bal (v : MrmSt) : (s.setMrm v).bal = s.bal := rfl
@[simp] theorem setMrm_dun (v : MrmSt) : (s.setMrm v).dun = s.dun := rfl
@[simp] theorem setMrm_mov (v : MrmSt) : (s.setMrm v).mov = s.mov := rfl
@[simp] theorem setMrm_pfx (v : MrmSt) : (s.setMrm v).pfx = s.pfx := rfl
@[simp] theorem setMrm_ses (v : MrmSt) : (s.setMrm v).ses = s.ses := rfl
@[simp] theorem setMrm_key (v : MrmSt) : (s.setMrm v).key = s.key := rfl
@[simp] theorem setMrm_kep (v : MrmSt) : (s.setMrm v).kep = s.kep := rfl
@[simp] theorem setMrm_upd (v : MrmSt) : (s.setMrm v).upd = s.upd := rfl
@[simp] theorem setMrm_pl (v : MrmSt) : (s.setMrm v).pl = s.pl := rfl
@[simp] theorem setMrm_rf (v : MrmSt) : (s.setMrm v).rf = s.rf := rfl
@[simp] theorem setMrm_delivered (v : MrmSt) : (s.setMrm v).delivered = s.delivered := rfl
@[simp] theorem setMrm_reg (v : MrmSt) (r : Nat) : (s.setMrm v).reg r = s.reg r := rfl
@[simp] theorem setMrm_fget (v : MrmSt) (x : Fld) : (s.setMrm v).fget x = s.fget x := rfl
@[simp] theorem setMrm_flag (v : MrmSt) (x : Fld) : (s.setMrm v).flag x = s.flag x := rfl

/-! ### setNfc -/

@[simp] theorem setNfc_pending (v : NfcSt) : (s.setNfc v).pending = s.pending := rfl
@[simp] theorem setNfc_answer (v : NfcSt) : (s.setNfc v).answer = s.answer := rfl
@[simp] theorem setNfc_freeCtr (v : NfcSt) : (s.setNfc v).freeCtr = s.freeCtr := rfl
@[simp] theorem setNfc_csr (v : NfcSt) : (s.setNfc v).csr = s.csr := rfl
@[simp] theorem setNfc_csrStage (v : NfcSt) : (s.setNfc v).csrStage = s.csrStage := rfl
@[simp] theorem setNfc_csrSnap (v : NfcSt) : (s.setNfc v).csrSnap = s.csrSnap := rfl
@[simp] theorem setNfc_mem (v : NfcSt) : (s.setNfc v).mem = s.mem := rfl
@[simp] theorem setNfc_poison (v : NfcSt) : (s.setNfc v).poison = s.poison := rfl
@[simp] theorem setNfc_soft (v : NfcSt) : (s.setNfc v).soft = s.soft := rfl
@[simp] theorem setNfc_pwr (v : NfcSt) : (s.setNfc v).pwr = s.pwr := rfl
@[simp] theorem setNfc_ccs (v : NfcSt) : (s.setNfc v).ccs = s.ccs := rfl
@[simp] theorem setNfc_lcs (v : NfcSt) : (s.setNfc v).lcs = s.lcs := rfl
@[simp] theorem setNfc_dcache (v : NfcSt) : (s.setNfc v).dcache = s.dcache := rfl
@[simp] theorem setNfc_queues (v : NfcSt) : (s.setNfc v).queues = s.queues := rfl
@[simp] theorem setNfc_locks (v : NfcSt) : (s.setNfc v).locks = s.locks := rfl
@[simp] theorem setNfc_ldg (v : NfcSt) : (s.setNfc v).ldg = s.ldg := rfl
@[simp] theorem setNfc_time (v : NfcSt) : (s.setNfc v).time = s.time := rfl
@[simp] theorem setNfc_evr (v : NfcSt) : (s.setNfc v).evr = s.evr := rfl
@[simp] theorem setNfc_dataQ (v : NfcSt) : (s.setNfc v).dataQ = s.dataQ := rfl
@[simp] theorem setNfc_ctlQ (v : NfcSt) : (s.setNfc v).ctlQ = s.ctlQ := rfl
@[simp] theorem setNfc_mgmtQ (v : NfcSt) : (s.setNfc v).mgmtQ = s.mgmtQ := rfl
@[simp] theorem setNfc_turn (v : NfcSt) : (s.setNfc v).turn = s.turn := rfl
@[simp] theorem setNfc_merged (v : NfcSt) : (s.setNfc v).merged = s.merged := rfl
@[simp] theorem setNfc_epiMap (v : NfcSt) : (s.setNfc v).epiMap = s.epiMap := rfl
@[simp] theorem setNfc_wire (v : NfcSt) : (s.setNfc v).wire = s.wire := rfl
@[simp] theorem setNfc_twn (v : NfcSt) : (s.setNfc v).twn = s.twn := rfl
@[simp] theorem setNfc_mrm (v : NfcSt) : (s.setNfc v).mrm = s.mrm := rfl
@[simp] theorem setNfc_nfc (v : NfcSt) : (s.setNfc v).nfc = v := rfl
@[simp] theorem setNfc_rin (v : NfcSt) : (s.setNfc v).rin = s.rin := rfl
@[simp] theorem setNfc_clk (v : NfcSt) : (s.setNfc v).clk = s.clk := rfl
@[simp] theorem setNfc_tap (v : NfcSt) : (s.setNfc v).tap = s.tap := rfl
@[simp] theorem setNfc_met (v : NfcSt) : (s.setNfc v).met = s.met := rfl
@[simp] theorem setNfc_bal (v : NfcSt) : (s.setNfc v).bal = s.bal := rfl
@[simp] theorem setNfc_dun (v : NfcSt) : (s.setNfc v).dun = s.dun := rfl
@[simp] theorem setNfc_mov (v : NfcSt) : (s.setNfc v).mov = s.mov := rfl
@[simp] theorem setNfc_pfx (v : NfcSt) : (s.setNfc v).pfx = s.pfx := rfl
@[simp] theorem setNfc_ses (v : NfcSt) : (s.setNfc v).ses = s.ses := rfl
@[simp] theorem setNfc_key (v : NfcSt) : (s.setNfc v).key = s.key := rfl
@[simp] theorem setNfc_kep (v : NfcSt) : (s.setNfc v).kep = s.kep := rfl
@[simp] theorem setNfc_upd (v : NfcSt) : (s.setNfc v).upd = s.upd := rfl
@[simp] theorem setNfc_pl (v : NfcSt) : (s.setNfc v).pl = s.pl := rfl
@[simp] theorem setNfc_rf (v : NfcSt) : (s.setNfc v).rf = s.rf := rfl
@[simp] theorem setNfc_delivered (v : NfcSt) : (s.setNfc v).delivered = s.delivered := rfl
@[simp] theorem setNfc_reg (v : NfcSt) (r : Nat) : (s.setNfc v).reg r = s.reg r := rfl
@[simp] theorem setNfc_fget (v : NfcSt) (x : Fld) : (s.setNfc v).fget x = s.fget x := rfl
@[simp] theorem setNfc_flag (v : NfcSt) (x : Fld) : (s.setNfc v).flag x = s.flag x := rfl

/-! ### setClk -/

@[simp] theorem setClk_pending (v : ClkSt) : (s.setClk v).pending = s.pending := rfl
@[simp] theorem setClk_answer (v : ClkSt) : (s.setClk v).answer = s.answer := rfl
@[simp] theorem setClk_freeCtr (v : ClkSt) : (s.setClk v).freeCtr = s.freeCtr := rfl
@[simp] theorem setClk_csr (v : ClkSt) : (s.setClk v).csr = s.csr := rfl
@[simp] theorem setClk_csrStage (v : ClkSt) : (s.setClk v).csrStage = s.csrStage := rfl
@[simp] theorem setClk_csrSnap (v : ClkSt) : (s.setClk v).csrSnap = s.csrSnap := rfl
@[simp] theorem setClk_mem (v : ClkSt) : (s.setClk v).mem = s.mem := rfl
@[simp] theorem setClk_poison (v : ClkSt) : (s.setClk v).poison = s.poison := rfl
@[simp] theorem setClk_soft (v : ClkSt) : (s.setClk v).soft = s.soft := rfl
@[simp] theorem setClk_pwr (v : ClkSt) : (s.setClk v).pwr = s.pwr := rfl
@[simp] theorem setClk_ccs (v : ClkSt) : (s.setClk v).ccs = s.ccs := rfl
@[simp] theorem setClk_lcs (v : ClkSt) : (s.setClk v).lcs = s.lcs := rfl
@[simp] theorem setClk_dcache (v : ClkSt) : (s.setClk v).dcache = s.dcache := rfl
@[simp] theorem setClk_queues (v : ClkSt) : (s.setClk v).queues = s.queues := rfl
@[simp] theorem setClk_locks (v : ClkSt) : (s.setClk v).locks = s.locks := rfl
@[simp] theorem setClk_ldg (v : ClkSt) : (s.setClk v).ldg = s.ldg := rfl
@[simp] theorem setClk_time (v : ClkSt) : (s.setClk v).time = s.time := rfl
@[simp] theorem setClk_evr (v : ClkSt) : (s.setClk v).evr = s.evr := rfl
@[simp] theorem setClk_dataQ (v : ClkSt) : (s.setClk v).dataQ = s.dataQ := rfl
@[simp] theorem setClk_ctlQ (v : ClkSt) : (s.setClk v).ctlQ = s.ctlQ := rfl
@[simp] theorem setClk_mgmtQ (v : ClkSt) : (s.setClk v).mgmtQ = s.mgmtQ := rfl
@[simp] theorem setClk_turn (v : ClkSt) : (s.setClk v).turn = s.turn := rfl
@[simp] theorem setClk_merged (v : ClkSt) : (s.setClk v).merged = s.merged := rfl
@[simp] theorem setClk_epiMap (v : ClkSt) : (s.setClk v).epiMap = s.epiMap := rfl
@[simp] theorem setClk_wire (v : ClkSt) : (s.setClk v).wire = s.wire := rfl
@[simp] theorem setClk_twn (v : ClkSt) : (s.setClk v).twn = s.twn := rfl
@[simp] theorem setClk_mrm (v : ClkSt) : (s.setClk v).mrm = s.mrm := rfl
@[simp] theorem setClk_nfc (v : ClkSt) : (s.setClk v).nfc = s.nfc := rfl
@[simp] theorem setClk_rin (v : ClkSt) : (s.setClk v).rin = s.rin := rfl
@[simp] theorem setClk_clk (v : ClkSt) : (s.setClk v).clk = v := rfl
@[simp] theorem setClk_tap (v : ClkSt) : (s.setClk v).tap = s.tap := rfl
@[simp] theorem setClk_met (v : ClkSt) : (s.setClk v).met = s.met := rfl
@[simp] theorem setClk_bal (v : ClkSt) : (s.setClk v).bal = s.bal := rfl
@[simp] theorem setClk_dun (v : ClkSt) : (s.setClk v).dun = s.dun := rfl
@[simp] theorem setClk_mov (v : ClkSt) : (s.setClk v).mov = s.mov := rfl
@[simp] theorem setClk_pfx (v : ClkSt) : (s.setClk v).pfx = s.pfx := rfl
@[simp] theorem setClk_ses (v : ClkSt) : (s.setClk v).ses = s.ses := rfl
@[simp] theorem setClk_key (v : ClkSt) : (s.setClk v).key = s.key := rfl
@[simp] theorem setClk_kep (v : ClkSt) : (s.setClk v).kep = s.kep := rfl
@[simp] theorem setClk_upd (v : ClkSt) : (s.setClk v).upd = s.upd := rfl
@[simp] theorem setClk_pl (v : ClkSt) : (s.setClk v).pl = s.pl := rfl
@[simp] theorem setClk_rf (v : ClkSt) : (s.setClk v).rf = s.rf := rfl
@[simp] theorem setClk_delivered (v : ClkSt) : (s.setClk v).delivered = s.delivered := rfl
@[simp] theorem setClk_reg (v : ClkSt) (r : Nat) : (s.setClk v).reg r = s.reg r := rfl
@[simp] theorem setClk_fget (v : ClkSt) (x : Fld) : (s.setClk v).fget x = s.fget x := rfl
@[simp] theorem setClk_flag (v : ClkSt) (x : Fld) : (s.setClk v).flag x = s.flag x := rfl

/-! ### setTap -/

@[simp] theorem setTap_pending (v : TapSt) : (s.setTap v).pending = s.pending := rfl
@[simp] theorem setTap_answer (v : TapSt) : (s.setTap v).answer = s.answer := rfl
@[simp] theorem setTap_freeCtr (v : TapSt) : (s.setTap v).freeCtr = s.freeCtr := rfl
@[simp] theorem setTap_csr (v : TapSt) : (s.setTap v).csr = s.csr := rfl
@[simp] theorem setTap_csrStage (v : TapSt) : (s.setTap v).csrStage = s.csrStage := rfl
@[simp] theorem setTap_csrSnap (v : TapSt) : (s.setTap v).csrSnap = s.csrSnap := rfl
@[simp] theorem setTap_mem (v : TapSt) : (s.setTap v).mem = s.mem := rfl
@[simp] theorem setTap_poison (v : TapSt) : (s.setTap v).poison = s.poison := rfl
@[simp] theorem setTap_soft (v : TapSt) : (s.setTap v).soft = s.soft := rfl
@[simp] theorem setTap_pwr (v : TapSt) : (s.setTap v).pwr = s.pwr := rfl
@[simp] theorem setTap_ccs (v : TapSt) : (s.setTap v).ccs = s.ccs := rfl
@[simp] theorem setTap_lcs (v : TapSt) : (s.setTap v).lcs = s.lcs := rfl
@[simp] theorem setTap_dcache (v : TapSt) : (s.setTap v).dcache = s.dcache := rfl
@[simp] theorem setTap_queues (v : TapSt) : (s.setTap v).queues = s.queues := rfl
@[simp] theorem setTap_locks (v : TapSt) : (s.setTap v).locks = s.locks := rfl
@[simp] theorem setTap_ldg (v : TapSt) : (s.setTap v).ldg = s.ldg := rfl
@[simp] theorem setTap_time (v : TapSt) : (s.setTap v).time = s.time := rfl
@[simp] theorem setTap_evr (v : TapSt) : (s.setTap v).evr = s.evr := rfl
@[simp] theorem setTap_dataQ (v : TapSt) : (s.setTap v).dataQ = s.dataQ := rfl
@[simp] theorem setTap_ctlQ (v : TapSt) : (s.setTap v).ctlQ = s.ctlQ := rfl
@[simp] theorem setTap_mgmtQ (v : TapSt) : (s.setTap v).mgmtQ = s.mgmtQ := rfl
@[simp] theorem setTap_turn (v : TapSt) : (s.setTap v).turn = s.turn := rfl
@[simp] theorem setTap_merged (v : TapSt) : (s.setTap v).merged = s.merged := rfl
@[simp] theorem setTap_epiMap (v : TapSt) : (s.setTap v).epiMap = s.epiMap := rfl
@[simp] theorem setTap_wire (v : TapSt) : (s.setTap v).wire = s.wire := rfl
@[simp] theorem setTap_twn (v : TapSt) : (s.setTap v).twn = s.twn := rfl
@[simp] theorem setTap_mrm (v : TapSt) : (s.setTap v).mrm = s.mrm := rfl
@[simp] theorem setTap_nfc (v : TapSt) : (s.setTap v).nfc = s.nfc := rfl
@[simp] theorem setTap_rin (v : TapSt) : (s.setTap v).rin = s.rin := rfl
@[simp] theorem setTap_clk (v : TapSt) : (s.setTap v).clk = s.clk := rfl
@[simp] theorem setTap_tap (v : TapSt) : (s.setTap v).tap = v := rfl
@[simp] theorem setTap_met (v : TapSt) : (s.setTap v).met = s.met := rfl
@[simp] theorem setTap_bal (v : TapSt) : (s.setTap v).bal = s.bal := rfl
@[simp] theorem setTap_dun (v : TapSt) : (s.setTap v).dun = s.dun := rfl
@[simp] theorem setTap_mov (v : TapSt) : (s.setTap v).mov = s.mov := rfl
@[simp] theorem setTap_pfx (v : TapSt) : (s.setTap v).pfx = s.pfx := rfl
@[simp] theorem setTap_ses (v : TapSt) : (s.setTap v).ses = s.ses := rfl
@[simp] theorem setTap_key (v : TapSt) : (s.setTap v).key = s.key := rfl
@[simp] theorem setTap_kep (v : TapSt) : (s.setTap v).kep = s.kep := rfl
@[simp] theorem setTap_upd (v : TapSt) : (s.setTap v).upd = s.upd := rfl
@[simp] theorem setTap_pl (v : TapSt) : (s.setTap v).pl = s.pl := rfl
@[simp] theorem setTap_rf (v : TapSt) : (s.setTap v).rf = s.rf := rfl
@[simp] theorem setTap_delivered (v : TapSt) : (s.setTap v).delivered = s.delivered := rfl
@[simp] theorem setTap_reg (v : TapSt) (r : Nat) : (s.setTap v).reg r = s.reg r := rfl
@[simp] theorem setTap_fget (v : TapSt) (x : Fld) : (s.setTap v).fget x = s.fget x := rfl
@[simp] theorem setTap_flag (v : TapSt) (x : Fld) : (s.setTap v).flag x = s.flag x := rfl

/-! ### setMet -/

@[simp] theorem setMet_pending (v : MetSt) : (s.setMet v).pending = s.pending := rfl
@[simp] theorem setMet_answer (v : MetSt) : (s.setMet v).answer = s.answer := rfl
@[simp] theorem setMet_freeCtr (v : MetSt) : (s.setMet v).freeCtr = s.freeCtr := rfl
@[simp] theorem setMet_csr (v : MetSt) : (s.setMet v).csr = s.csr := rfl
@[simp] theorem setMet_csrStage (v : MetSt) : (s.setMet v).csrStage = s.csrStage := rfl
@[simp] theorem setMet_csrSnap (v : MetSt) : (s.setMet v).csrSnap = s.csrSnap := rfl
@[simp] theorem setMet_mem (v : MetSt) : (s.setMet v).mem = s.mem := rfl
@[simp] theorem setMet_poison (v : MetSt) : (s.setMet v).poison = s.poison := rfl
@[simp] theorem setMet_soft (v : MetSt) : (s.setMet v).soft = s.soft := rfl
@[simp] theorem setMet_pwr (v : MetSt) : (s.setMet v).pwr = s.pwr := rfl
@[simp] theorem setMet_ccs (v : MetSt) : (s.setMet v).ccs = s.ccs := rfl
@[simp] theorem setMet_lcs (v : MetSt) : (s.setMet v).lcs = s.lcs := rfl
@[simp] theorem setMet_dcache (v : MetSt) : (s.setMet v).dcache = s.dcache := rfl
@[simp] theorem setMet_queues (v : MetSt) : (s.setMet v).queues = s.queues := rfl
@[simp] theorem setMet_locks (v : MetSt) : (s.setMet v).locks = s.locks := rfl
@[simp] theorem setMet_ldg (v : MetSt) : (s.setMet v).ldg = s.ldg := rfl
@[simp] theorem setMet_time (v : MetSt) : (s.setMet v).time = s.time := rfl
@[simp] theorem setMet_evr (v : MetSt) : (s.setMet v).evr = s.evr := rfl
@[simp] theorem setMet_dataQ (v : MetSt) : (s.setMet v).dataQ = s.dataQ := rfl
@[simp] theorem setMet_ctlQ (v : MetSt) : (s.setMet v).ctlQ = s.ctlQ := rfl
@[simp] theorem setMet_mgmtQ (v : MetSt) : (s.setMet v).mgmtQ = s.mgmtQ := rfl
@[simp] theorem setMet_turn (v : MetSt) : (s.setMet v).turn = s.turn := rfl
@[simp] theorem setMet_merged (v : MetSt) : (s.setMet v).merged = s.merged := rfl
@[simp] theorem setMet_epiMap (v : MetSt) : (s.setMet v).epiMap = s.epiMap := rfl
@[simp] theorem setMet_wire (v : MetSt) : (s.setMet v).wire = s.wire := rfl
@[simp] theorem setMet_twn (v : MetSt) : (s.setMet v).twn = s.twn := rfl
@[simp] theorem setMet_mrm (v : MetSt) : (s.setMet v).mrm = s.mrm := rfl
@[simp] theorem setMet_nfc (v : MetSt) : (s.setMet v).nfc = s.nfc := rfl
@[simp] theorem setMet_rin (v : MetSt) : (s.setMet v).rin = s.rin := rfl
@[simp] theorem setMet_clk (v : MetSt) : (s.setMet v).clk = s.clk := rfl
@[simp] theorem setMet_tap (v : MetSt) : (s.setMet v).tap = s.tap := rfl
@[simp] theorem setMet_met (v : MetSt) : (s.setMet v).met = v := rfl
@[simp] theorem setMet_bal (v : MetSt) : (s.setMet v).bal = s.bal := rfl
@[simp] theorem setMet_dun (v : MetSt) : (s.setMet v).dun = s.dun := rfl
@[simp] theorem setMet_mov (v : MetSt) : (s.setMet v).mov = s.mov := rfl
@[simp] theorem setMet_pfx (v : MetSt) : (s.setMet v).pfx = s.pfx := rfl
@[simp] theorem setMet_ses (v : MetSt) : (s.setMet v).ses = s.ses := rfl
@[simp] theorem setMet_key (v : MetSt) : (s.setMet v).key = s.key := rfl
@[simp] theorem setMet_kep (v : MetSt) : (s.setMet v).kep = s.kep := rfl
@[simp] theorem setMet_upd (v : MetSt) : (s.setMet v).upd = s.upd := rfl
@[simp] theorem setMet_pl (v : MetSt) : (s.setMet v).pl = s.pl := rfl
@[simp] theorem setMet_rf (v : MetSt) : (s.setMet v).rf = s.rf := rfl
@[simp] theorem setMet_delivered (v : MetSt) : (s.setMet v).delivered = s.delivered := rfl
@[simp] theorem setMet_reg (v : MetSt) (r : Nat) : (s.setMet v).reg r = s.reg r := rfl
@[simp] theorem setMet_fget (v : MetSt) (x : Fld) : (s.setMet v).fget x = s.fget x := rfl
@[simp] theorem setMet_flag (v : MetSt) (x : Fld) : (s.setMet v).flag x = s.flag x := rfl

/-! ### setBal -/

@[simp] theorem setBal_pending (v : BalSt) : (s.setBal v).pending = s.pending := rfl
@[simp] theorem setBal_answer (v : BalSt) : (s.setBal v).answer = s.answer := rfl
@[simp] theorem setBal_freeCtr (v : BalSt) : (s.setBal v).freeCtr = s.freeCtr := rfl
@[simp] theorem setBal_csr (v : BalSt) : (s.setBal v).csr = s.csr := rfl
@[simp] theorem setBal_csrStage (v : BalSt) : (s.setBal v).csrStage = s.csrStage := rfl
@[simp] theorem setBal_csrSnap (v : BalSt) : (s.setBal v).csrSnap = s.csrSnap := rfl
@[simp] theorem setBal_mem (v : BalSt) : (s.setBal v).mem = s.mem := rfl
@[simp] theorem setBal_poison (v : BalSt) : (s.setBal v).poison = s.poison := rfl
@[simp] theorem setBal_soft (v : BalSt) : (s.setBal v).soft = s.soft := rfl
@[simp] theorem setBal_pwr (v : BalSt) : (s.setBal v).pwr = s.pwr := rfl
@[simp] theorem setBal_ccs (v : BalSt) : (s.setBal v).ccs = s.ccs := rfl
@[simp] theorem setBal_lcs (v : BalSt) : (s.setBal v).lcs = s.lcs := rfl
@[simp] theorem setBal_dcache (v : BalSt) : (s.setBal v).dcache = s.dcache := rfl
@[simp] theorem setBal_queues (v : BalSt) : (s.setBal v).queues = s.queues := rfl
@[simp] theorem setBal_locks (v : BalSt) : (s.setBal v).locks = s.locks := rfl
@[simp] theorem setBal_ldg (v : BalSt) : (s.setBal v).ldg = s.ldg := rfl
@[simp] theorem setBal_time (v : BalSt) : (s.setBal v).time = s.time := rfl
@[simp] theorem setBal_evr (v : BalSt) : (s.setBal v).evr = s.evr := rfl
@[simp] theorem setBal_dataQ (v : BalSt) : (s.setBal v).dataQ = s.dataQ := rfl
@[simp] theorem setBal_ctlQ (v : BalSt) : (s.setBal v).ctlQ = s.ctlQ := rfl
@[simp] theorem setBal_mgmtQ (v : BalSt) : (s.setBal v).mgmtQ = s.mgmtQ := rfl
@[simp] theorem setBal_turn (v : BalSt) : (s.setBal v).turn = s.turn := rfl
@[simp] theorem setBal_merged (v : BalSt) : (s.setBal v).merged = s.merged := rfl
@[simp] theorem setBal_epiMap (v : BalSt) : (s.setBal v).epiMap = s.epiMap := rfl
@[simp] theorem setBal_wire (v : BalSt) : (s.setBal v).wire = s.wire := rfl
@[simp] theorem setBal_twn (v : BalSt) : (s.setBal v).twn = s.twn := rfl
@[simp] theorem setBal_mrm (v : BalSt) : (s.setBal v).mrm = s.mrm := rfl
@[simp] theorem setBal_nfc (v : BalSt) : (s.setBal v).nfc = s.nfc := rfl
@[simp] theorem setBal_rin (v : BalSt) : (s.setBal v).rin = s.rin := rfl
@[simp] theorem setBal_clk (v : BalSt) : (s.setBal v).clk = s.clk := rfl
@[simp] theorem setBal_tap (v : BalSt) : (s.setBal v).tap = s.tap := rfl
@[simp] theorem setBal_met (v : BalSt) : (s.setBal v).met = s.met := rfl
@[simp] theorem setBal_bal (v : BalSt) : (s.setBal v).bal = v := rfl
@[simp] theorem setBal_dun (v : BalSt) : (s.setBal v).dun = s.dun := rfl
@[simp] theorem setBal_mov (v : BalSt) : (s.setBal v).mov = s.mov := rfl
@[simp] theorem setBal_pfx (v : BalSt) : (s.setBal v).pfx = s.pfx := rfl
@[simp] theorem setBal_ses (v : BalSt) : (s.setBal v).ses = s.ses := rfl
@[simp] theorem setBal_key (v : BalSt) : (s.setBal v).key = s.key := rfl
@[simp] theorem setBal_kep (v : BalSt) : (s.setBal v).kep = s.kep := rfl
@[simp] theorem setBal_upd (v : BalSt) : (s.setBal v).upd = s.upd := rfl
@[simp] theorem setBal_pl (v : BalSt) : (s.setBal v).pl = s.pl := rfl
@[simp] theorem setBal_rf (v : BalSt) : (s.setBal v).rf = s.rf := rfl
@[simp] theorem setBal_delivered (v : BalSt) : (s.setBal v).delivered = s.delivered := rfl
@[simp] theorem setBal_reg (v : BalSt) (r : Nat) : (s.setBal v).reg r = s.reg r := rfl
@[simp] theorem setBal_fget (v : BalSt) (x : Fld) : (s.setBal v).fget x = s.fget x := rfl
@[simp] theorem setBal_flag (v : BalSt) (x : Fld) : (s.setBal v).flag x = s.flag x := rfl

/-! ### setDun -/

@[simp] theorem setDun_pending (v : DunSt) : (s.setDun v).pending = s.pending := rfl
@[simp] theorem setDun_answer (v : DunSt) : (s.setDun v).answer = s.answer := rfl
@[simp] theorem setDun_freeCtr (v : DunSt) : (s.setDun v).freeCtr = s.freeCtr := rfl
@[simp] theorem setDun_csr (v : DunSt) : (s.setDun v).csr = s.csr := rfl
@[simp] theorem setDun_csrStage (v : DunSt) : (s.setDun v).csrStage = s.csrStage := rfl
@[simp] theorem setDun_csrSnap (v : DunSt) : (s.setDun v).csrSnap = s.csrSnap := rfl
@[simp] theorem setDun_mem (v : DunSt) : (s.setDun v).mem = s.mem := rfl
@[simp] theorem setDun_poison (v : DunSt) : (s.setDun v).poison = s.poison := rfl
@[simp] theorem setDun_soft (v : DunSt) : (s.setDun v).soft = s.soft := rfl
@[simp] theorem setDun_pwr (v : DunSt) : (s.setDun v).pwr = s.pwr := rfl
@[simp] theorem setDun_ccs (v : DunSt) : (s.setDun v).ccs = s.ccs := rfl
@[simp] theorem setDun_lcs (v : DunSt) : (s.setDun v).lcs = s.lcs := rfl
@[simp] theorem setDun_dcache (v : DunSt) : (s.setDun v).dcache = s.dcache := rfl
@[simp] theorem setDun_queues (v : DunSt) : (s.setDun v).queues = s.queues := rfl
@[simp] theorem setDun_locks (v : DunSt) : (s.setDun v).locks = s.locks := rfl
@[simp] theorem setDun_ldg (v : DunSt) : (s.setDun v).ldg = s.ldg := rfl
@[simp] theorem setDun_time (v : DunSt) : (s.setDun v).time = s.time := rfl
@[simp] theorem setDun_evr (v : DunSt) : (s.setDun v).evr = s.evr := rfl
@[simp] theorem setDun_dataQ (v : DunSt) : (s.setDun v).dataQ = s.dataQ := rfl
@[simp] theorem setDun_ctlQ (v : DunSt) : (s.setDun v).ctlQ = s.ctlQ := rfl
@[simp] theorem setDun_mgmtQ (v : DunSt) : (s.setDun v).mgmtQ = s.mgmtQ := rfl
@[simp] theorem setDun_turn (v : DunSt) : (s.setDun v).turn = s.turn := rfl
@[simp] theorem setDun_merged (v : DunSt) : (s.setDun v).merged = s.merged := rfl
@[simp] theorem setDun_epiMap (v : DunSt) : (s.setDun v).epiMap = s.epiMap := rfl
@[simp] theorem setDun_wire (v : DunSt) : (s.setDun v).wire = s.wire := rfl
@[simp] theorem setDun_twn (v : DunSt) : (s.setDun v).twn = s.twn := rfl
@[simp] theorem setDun_mrm (v : DunSt) : (s.setDun v).mrm = s.mrm := rfl
@[simp] theorem setDun_nfc (v : DunSt) : (s.setDun v).nfc = s.nfc := rfl
@[simp] theorem setDun_rin (v : DunSt) : (s.setDun v).rin = s.rin := rfl
@[simp] theorem setDun_clk (v : DunSt) : (s.setDun v).clk = s.clk := rfl
@[simp] theorem setDun_tap (v : DunSt) : (s.setDun v).tap = s.tap := rfl
@[simp] theorem setDun_met (v : DunSt) : (s.setDun v).met = s.met := rfl
@[simp] theorem setDun_bal (v : DunSt) : (s.setDun v).bal = s.bal := rfl
@[simp] theorem setDun_dun (v : DunSt) : (s.setDun v).dun = v := rfl
@[simp] theorem setDun_mov (v : DunSt) : (s.setDun v).mov = s.mov := rfl
@[simp] theorem setDun_pfx (v : DunSt) : (s.setDun v).pfx = s.pfx := rfl
@[simp] theorem setDun_ses (v : DunSt) : (s.setDun v).ses = s.ses := rfl
@[simp] theorem setDun_key (v : DunSt) : (s.setDun v).key = s.key := rfl
@[simp] theorem setDun_kep (v : DunSt) : (s.setDun v).kep = s.kep := rfl
@[simp] theorem setDun_upd (v : DunSt) : (s.setDun v).upd = s.upd := rfl
@[simp] theorem setDun_pl (v : DunSt) : (s.setDun v).pl = s.pl := rfl
@[simp] theorem setDun_rf (v : DunSt) : (s.setDun v).rf = s.rf := rfl
@[simp] theorem setDun_delivered (v : DunSt) : (s.setDun v).delivered = s.delivered := rfl
@[simp] theorem setDun_reg (v : DunSt) (r : Nat) : (s.setDun v).reg r = s.reg r := rfl
@[simp] theorem setDun_fget (v : DunSt) (x : Fld) : (s.setDun v).fget x = s.fget x := rfl
@[simp] theorem setDun_flag (v : DunSt) (x : Fld) : (s.setDun v).flag x = s.flag x := rfl

/-! ### setMov -/

@[simp] theorem setMov_pending (v : MoveSt) : (s.setMov v).pending = s.pending := rfl
@[simp] theorem setMov_answer (v : MoveSt) : (s.setMov v).answer = s.answer := rfl
@[simp] theorem setMov_freeCtr (v : MoveSt) : (s.setMov v).freeCtr = s.freeCtr := rfl
@[simp] theorem setMov_csr (v : MoveSt) : (s.setMov v).csr = s.csr := rfl
@[simp] theorem setMov_csrStage (v : MoveSt) : (s.setMov v).csrStage = s.csrStage := rfl
@[simp] theorem setMov_csrSnap (v : MoveSt) : (s.setMov v).csrSnap = s.csrSnap := rfl
@[simp] theorem setMov_mem (v : MoveSt) : (s.setMov v).mem = s.mem := rfl
@[simp] theorem setMov_poison (v : MoveSt) : (s.setMov v).poison = s.poison := rfl
@[simp] theorem setMov_soft (v : MoveSt) : (s.setMov v).soft = s.soft := rfl
@[simp] theorem setMov_pwr (v : MoveSt) : (s.setMov v).pwr = s.pwr := rfl
@[simp] theorem setMov_ccs (v : MoveSt) : (s.setMov v).ccs = s.ccs := rfl
@[simp] theorem setMov_lcs (v : MoveSt) : (s.setMov v).lcs = s.lcs := rfl
@[simp] theorem setMov_dcache (v : MoveSt) : (s.setMov v).dcache = s.dcache := rfl
@[simp] theorem setMov_queues (v : MoveSt) : (s.setMov v).queues = s.queues := rfl
@[simp] theorem setMov_locks (v : MoveSt) : (s.setMov v).locks = s.locks := rfl
@[simp] theorem setMov_ldg (v : MoveSt) : (s.setMov v).ldg = s.ldg := rfl
@[simp] theorem setMov_time (v : MoveSt) : (s.setMov v).time = s.time := rfl
@[simp] theorem setMov_evr (v : MoveSt) : (s.setMov v).evr = s.evr := rfl
@[simp] theorem setMov_dataQ (v : MoveSt) : (s.setMov v).dataQ = s.dataQ := rfl
@[simp] theorem setMov_ctlQ (v : MoveSt) : (s.setMov v).ctlQ = s.ctlQ := rfl
@[simp] theorem setMov_mgmtQ (v : MoveSt) : (s.setMov v).mgmtQ = s.mgmtQ := rfl
@[simp] theorem setMov_turn (v : MoveSt) : (s.setMov v).turn = s.turn := rfl
@[simp] theorem setMov_merged (v : MoveSt) : (s.setMov v).merged = s.merged := rfl
@[simp] theorem setMov_epiMap (v : MoveSt) : (s.setMov v).epiMap = s.epiMap := rfl
@[simp] theorem setMov_wire (v : MoveSt) : (s.setMov v).wire = s.wire := rfl
@[simp] theorem setMov_twn (v : MoveSt) : (s.setMov v).twn = s.twn := rfl
@[simp] theorem setMov_mrm (v : MoveSt) : (s.setMov v).mrm = s.mrm := rfl
@[simp] theorem setMov_nfc (v : MoveSt) : (s.setMov v).nfc = s.nfc := rfl
@[simp] theorem setMov_rin (v : MoveSt) : (s.setMov v).rin = s.rin := rfl
@[simp] theorem setMov_clk (v : MoveSt) : (s.setMov v).clk = s.clk := rfl
@[simp] theorem setMov_tap (v : MoveSt) : (s.setMov v).tap = s.tap := rfl
@[simp] theorem setMov_met (v : MoveSt) : (s.setMov v).met = s.met := rfl
@[simp] theorem setMov_bal (v : MoveSt) : (s.setMov v).bal = s.bal := rfl
@[simp] theorem setMov_dun (v : MoveSt) : (s.setMov v).dun = s.dun := rfl
@[simp] theorem setMov_mov (v : MoveSt) : (s.setMov v).mov = v := rfl
@[simp] theorem setMov_pfx (v : MoveSt) : (s.setMov v).pfx = s.pfx := rfl
@[simp] theorem setMov_ses (v : MoveSt) : (s.setMov v).ses = s.ses := rfl
@[simp] theorem setMov_key (v : MoveSt) : (s.setMov v).key = s.key := rfl
@[simp] theorem setMov_kep (v : MoveSt) : (s.setMov v).kep = s.kep := rfl
@[simp] theorem setMov_upd (v : MoveSt) : (s.setMov v).upd = s.upd := rfl
@[simp] theorem setMov_pl (v : MoveSt) : (s.setMov v).pl = s.pl := rfl
@[simp] theorem setMov_rf (v : MoveSt) : (s.setMov v).rf = s.rf := rfl
@[simp] theorem setMov_delivered (v : MoveSt) : (s.setMov v).delivered = s.delivered := rfl
@[simp] theorem setMov_reg (v : MoveSt) (r : Nat) : (s.setMov v).reg r = s.reg r := rfl
@[simp] theorem setMov_fget (v : MoveSt) (x : Fld) : (s.setMov v).fget x = s.fget x := rfl
@[simp] theorem setMov_flag (v : MoveSt) (x : Fld) : (s.setMov v).flag x = s.flag x := rfl

/-! ### setSes -/

@[simp] theorem setSes_pending (v : SesSt) : (s.setSes v).pending = s.pending := rfl
@[simp] theorem setSes_answer (v : SesSt) : (s.setSes v).answer = s.answer := rfl
@[simp] theorem setSes_freeCtr (v : SesSt) : (s.setSes v).freeCtr = s.freeCtr := rfl
@[simp] theorem setSes_csr (v : SesSt) : (s.setSes v).csr = s.csr := rfl
@[simp] theorem setSes_csrStage (v : SesSt) : (s.setSes v).csrStage = s.csrStage := rfl
@[simp] theorem setSes_csrSnap (v : SesSt) : (s.setSes v).csrSnap = s.csrSnap := rfl
@[simp] theorem setSes_mem (v : SesSt) : (s.setSes v).mem = s.mem := rfl
@[simp] theorem setSes_poison (v : SesSt) : (s.setSes v).poison = s.poison := rfl
@[simp] theorem setSes_soft (v : SesSt) : (s.setSes v).soft = s.soft := rfl
@[simp] theorem setSes_pwr (v : SesSt) : (s.setSes v).pwr = s.pwr := rfl
@[simp] theorem setSes_ccs (v : SesSt) : (s.setSes v).ccs = s.ccs := rfl
@[simp] theorem setSes_lcs (v : SesSt) : (s.setSes v).lcs = s.lcs := rfl
@[simp] theorem setSes_dcache (v : SesSt) : (s.setSes v).dcache = s.dcache := rfl
@[simp] theorem setSes_queues (v : SesSt) : (s.setSes v).queues = s.queues := rfl
@[simp] theorem setSes_locks (v : SesSt) : (s.setSes v).locks = s.locks := rfl
@[simp] theorem setSes_ldg (v : SesSt) : (s.setSes v).ldg = s.ldg := rfl
@[simp] theorem setSes_time (v : SesSt) : (s.setSes v).time = s.time := rfl
@[simp] theorem setSes_evr (v : SesSt) : (s.setSes v).evr = s.evr := rfl
@[simp] theorem setSes_dataQ (v : SesSt) : (s.setSes v).dataQ = s.dataQ := rfl
@[simp] theorem setSes_ctlQ (v : SesSt) : (s.setSes v).ctlQ = s.ctlQ := rfl
@[simp] theorem setSes_mgmtQ (v : SesSt) : (s.setSes v).mgmtQ = s.mgmtQ := rfl
@[simp] theorem setSes_turn (v : SesSt) : (s.setSes v).turn = s.turn := rfl
@[simp] theorem setSes_merged (v : SesSt) : (s.setSes v).merged = s.merged := rfl
@[simp] theorem setSes_epiMap (v : SesSt) : (s.setSes v).epiMap = s.epiMap := rfl
@[simp] theorem setSes_wire (v : SesSt) : (s.setSes v).wire = s.wire := rfl
@[simp] theorem setSes_twn (v : SesSt) : (s.setSes v).twn = s.twn := rfl
@[simp] theorem setSes_mrm (v : SesSt) : (s.setSes v).mrm = s.mrm := rfl
@[simp] theorem setSes_nfc (v : SesSt) : (s.setSes v).nfc = s.nfc := rfl
@[simp] theorem setSes_rin (v : SesSt) : (s.setSes v).rin = s.rin := rfl
@[simp] theorem setSes_clk (v : SesSt) : (s.setSes v).clk = s.clk := rfl
@[simp] theorem setSes_tap (v : SesSt) : (s.setSes v).tap = s.tap := rfl
@[simp] theorem setSes_met (v : SesSt) : (s.setSes v).met = s.met := rfl
@[simp] theorem setSes_bal (v : SesSt) : (s.setSes v).bal = s.bal := rfl
@[simp] theorem setSes_dun (v : SesSt) : (s.setSes v).dun = s.dun := rfl
@[simp] theorem setSes_mov (v : SesSt) : (s.setSes v).mov = s.mov := rfl
@[simp] theorem setSes_pfx (v : SesSt) : (s.setSes v).pfx = s.pfx := rfl
@[simp] theorem setSes_ses (v : SesSt) : (s.setSes v).ses = v := rfl
@[simp] theorem setSes_key (v : SesSt) : (s.setSes v).key = s.key := rfl
@[simp] theorem setSes_kep (v : SesSt) : (s.setSes v).kep = s.kep := rfl
@[simp] theorem setSes_upd (v : SesSt) : (s.setSes v).upd = s.upd := rfl
@[simp] theorem setSes_pl (v : SesSt) : (s.setSes v).pl = s.pl := rfl
@[simp] theorem setSes_rf (v : SesSt) : (s.setSes v).rf = s.rf := rfl
@[simp] theorem setSes_delivered (v : SesSt) : (s.setSes v).delivered = s.delivered := rfl
@[simp] theorem setSes_reg (v : SesSt) (r : Nat) : (s.setSes v).reg r = s.reg r := rfl
@[simp] theorem setSes_fget (v : SesSt) (x : Fld) : (s.setSes v).fget x = s.fget x := rfl
@[simp] theorem setSes_flag (v : SesSt) (x : Fld) : (s.setSes v).flag x = s.flag x := rfl

/-! ### setKey -/

@[simp] theorem setKey_pending (v : KeySt) : (s.setKey v).pending = s.pending := rfl
@[simp] theorem setKey_answer (v : KeySt) : (s.setKey v).answer = s.answer := rfl
@[simp] theorem setKey_freeCtr (v : KeySt) : (s.setKey v).freeCtr = s.freeCtr := rfl
@[simp] theorem setKey_csr (v : KeySt) : (s.setKey v).csr = s.csr := rfl
@[simp] theorem setKey_csrStage (v : KeySt) : (s.setKey v).csrStage = s.csrStage := rfl
@[simp] theorem setKey_csrSnap (v : KeySt) : (s.setKey v).csrSnap = s.csrSnap := rfl
@[simp] theorem setKey_mem (v : KeySt) : (s.setKey v).mem = s.mem := rfl
@[simp] theorem setKey_poison (v : KeySt) : (s.setKey v).poison = s.poison := rfl
@[simp] theorem setKey_soft (v : KeySt) : (s.setKey v).soft = s.soft := rfl
@[simp] theorem setKey_pwr (v : KeySt) : (s.setKey v).pwr = s.pwr := rfl
@[simp] theorem setKey_ccs (v : KeySt) : (s.setKey v).ccs = s.ccs := rfl
@[simp] theorem setKey_lcs (v : KeySt) : (s.setKey v).lcs = s.lcs := rfl
@[simp] theorem setKey_dcache (v : KeySt) : (s.setKey v).dcache = s.dcache := rfl
@[simp] theorem setKey_queues (v : KeySt) : (s.setKey v).queues = s.queues := rfl
@[simp] theorem setKey_locks (v : KeySt) : (s.setKey v).locks = s.locks := rfl
@[simp] theorem setKey_ldg (v : KeySt) : (s.setKey v).ldg = s.ldg := rfl
@[simp] theorem setKey_time (v : KeySt) : (s.setKey v).time = s.time := rfl
@[simp] theorem setKey_evr (v : KeySt) : (s.setKey v).evr = s.evr := rfl
@[simp] theorem setKey_dataQ (v : KeySt) : (s.setKey v).dataQ = s.dataQ := rfl
@[simp] theorem setKey_ctlQ (v : KeySt) : (s.setKey v).ctlQ = s.ctlQ := rfl
@[simp] theorem setKey_mgmtQ (v : KeySt) : (s.setKey v).mgmtQ = s.mgmtQ := rfl
@[simp] theorem setKey_turn (v : KeySt) : (s.setKey v).turn = s.turn := rfl
@[simp] theorem setKey_merged (v : KeySt) : (s.setKey v).merged = s.merged := rfl
@[simp] theorem setKey_epiMap (v : KeySt) : (s.setKey v).epiMap = s.epiMap := rfl
@[simp] theorem setKey_wire (v : KeySt) : (s.setKey v).wire = s.wire := rfl
@[simp] theorem setKey_twn (v : KeySt) : (s.setKey v).twn = s.twn := rfl
@[simp] theorem setKey_mrm (v : KeySt) : (s.setKey v).mrm = s.mrm := rfl
@[simp] theorem setKey_nfc (v : KeySt) : (s.setKey v).nfc = s.nfc := rfl
@[simp] theorem setKey_rin (v : KeySt) : (s.setKey v).rin = s.rin := rfl
@[simp] theorem setKey_clk (v : KeySt) : (s.setKey v).clk = s.clk := rfl
@[simp] theorem setKey_tap (v : KeySt) : (s.setKey v).tap = s.tap := rfl
@[simp] theorem setKey_met (v : KeySt) : (s.setKey v).met = s.met := rfl
@[simp] theorem setKey_bal (v : KeySt) : (s.setKey v).bal = s.bal := rfl
@[simp] theorem setKey_dun (v : KeySt) : (s.setKey v).dun = s.dun := rfl
@[simp] theorem setKey_mov (v : KeySt) : (s.setKey v).mov = s.mov := rfl
@[simp] theorem setKey_pfx (v : KeySt) : (s.setKey v).pfx = s.pfx := rfl
@[simp] theorem setKey_ses (v : KeySt) : (s.setKey v).ses = s.ses := rfl
@[simp] theorem setKey_key (v : KeySt) : (s.setKey v).key = v := rfl
@[simp] theorem setKey_kep (v : KeySt) : (s.setKey v).kep = s.kep := rfl
@[simp] theorem setKey_upd (v : KeySt) : (s.setKey v).upd = s.upd := rfl
@[simp] theorem setKey_pl (v : KeySt) : (s.setKey v).pl = s.pl := rfl
@[simp] theorem setKey_rf (v : KeySt) : (s.setKey v).rf = s.rf := rfl
@[simp] theorem setKey_delivered (v : KeySt) : (s.setKey v).delivered = s.delivered := rfl
@[simp] theorem setKey_reg (v : KeySt) (r : Nat) : (s.setKey v).reg r = s.reg r := rfl
@[simp] theorem setKey_fget (v : KeySt) (x : Fld) : (s.setKey v).fget x = s.fget x := rfl
@[simp] theorem setKey_flag (v : KeySt) (x : Fld) : (s.setKey v).flag x = s.flag x := rfl

/-! ### setKep -/

@[simp] theorem setKep_pending (v : KepSt) : (s.setKep v).pending = s.pending := rfl
@[simp] theorem setKep_answer (v : KepSt) : (s.setKep v).answer = s.answer := rfl
@[simp] theorem setKep_freeCtr (v : KepSt) : (s.setKep v).freeCtr = s.freeCtr := rfl
@[simp] theorem setKep_csr (v : KepSt) : (s.setKep v).csr = s.csr := rfl
@[simp] theorem setKep_csrStage (v : KepSt) : (s.setKep v).csrStage = s.csrStage := rfl
@[simp] theorem setKep_csrSnap (v : KepSt) : (s.setKep v).csrSnap = s.csrSnap := rfl
@[simp] theorem setKep_mem (v : KepSt) : (s.setKep v).mem = s.mem := rfl
@[simp] theorem setKep_poison (v : KepSt) : (s.setKep v).poison = s.poison := rfl
@[simp] theorem setKep_soft (v : KepSt) : (s.setKep v).soft = s.soft := rfl
@[simp] theorem setKep_pwr (v : KepSt) : (s.setKep v).pwr = s.pwr := rfl
@[simp] theorem setKep_ccs (v : KepSt) : (s.setKep v).ccs = s.ccs := rfl
@[simp] theorem setKep_lcs (v : KepSt) : (s.setKep v).lcs = s.lcs := rfl
@[simp] theorem setKep_dcache (v : KepSt) : (s.setKep v).dcache = s.dcache := rfl
@[simp] theorem setKep_queues (v : KepSt) : (s.setKep v).queues = s.queues := rfl
@[simp] theorem setKep_locks (v : KepSt) : (s.setKep v).locks = s.locks := rfl
@[simp] theorem setKep_ldg (v : KepSt) : (s.setKep v).ldg = s.ldg := rfl
@[simp] theorem setKep_time (v : KepSt) : (s.setKep v).time = s.time := rfl
@[simp] theorem setKep_evr (v : KepSt) : (s.setKep v).evr = s.evr := rfl
@[simp] theorem setKep_dataQ (v : KepSt) : (s.setKep v).dataQ = s.dataQ := rfl
@[simp] theorem setKep_ctlQ (v : KepSt) : (s.setKep v).ctlQ = s.ctlQ := rfl
@[simp] theorem setKep_mgmtQ (v : KepSt) : (s.setKep v).mgmtQ = s.mgmtQ := rfl
@[simp] theorem setKep_turn (v : KepSt) : (s.setKep v).turn = s.turn := rfl
@[simp] theorem setKep_merged (v : KepSt) : (s.setKep v).merged = s.merged := rfl
@[simp] theorem setKep_epiMap (v : KepSt) : (s.setKep v).epiMap = s.epiMap := rfl
@[simp] theorem setKep_wire (v : KepSt) : (s.setKep v).wire = s.wire := rfl
@[simp] theorem setKep_twn (v : KepSt) : (s.setKep v).twn = s.twn := rfl
@[simp] theorem setKep_mrm (v : KepSt) : (s.setKep v).mrm = s.mrm := rfl
@[simp] theorem setKep_nfc (v : KepSt) : (s.setKep v).nfc = s.nfc := rfl
@[simp] theorem setKep_rin (v : KepSt) : (s.setKep v).rin = s.rin := rfl
@[simp] theorem setKep_clk (v : KepSt) : (s.setKep v).clk = s.clk := rfl
@[simp] theorem setKep_tap (v : KepSt) : (s.setKep v).tap = s.tap := rfl
@[simp] theorem setKep_met (v : KepSt) : (s.setKep v).met = s.met := rfl
@[simp] theorem setKep_bal (v : KepSt) : (s.setKep v).bal = s.bal := rfl
@[simp] theorem setKep_dun (v : KepSt) : (s.setKep v).dun = s.dun := rfl
@[simp] theorem setKep_mov (v : KepSt) : (s.setKep v).mov = s.mov := rfl
@[simp] theorem setKep_pfx (v : KepSt) : (s.setKep v).pfx = s.pfx := rfl
@[simp] theorem setKep_ses (v : KepSt) : (s.setKep v).ses = s.ses := rfl
@[simp] theorem setKep_key (v : KepSt) : (s.setKep v).key = s.key := rfl
@[simp] theorem setKep_kep (v : KepSt) : (s.setKep v).kep = v := rfl
@[simp] theorem setKep_upd (v : KepSt) : (s.setKep v).upd = s.upd := rfl
@[simp] theorem setKep_pl (v : KepSt) : (s.setKep v).pl = s.pl := rfl
@[simp] theorem setKep_rf (v : KepSt) : (s.setKep v).rf = s.rf := rfl
@[simp] theorem setKep_delivered (v : KepSt) : (s.setKep v).delivered = s.delivered := rfl
@[simp] theorem setKep_reg (v : KepSt) (r : Nat) : (s.setKep v).reg r = s.reg r := rfl
@[simp] theorem setKep_fget (v : KepSt) (x : Fld) : (s.setKep v).fget x = s.fget x := rfl
@[simp] theorem setKep_flag (v : KepSt) (x : Fld) : (s.setKep v).flag x = s.flag x := rfl

/-! ### setUpd -/

@[simp] theorem setUpd_pending (v : UpdSt) : (s.setUpd v).pending = s.pending := rfl
@[simp] theorem setUpd_answer (v : UpdSt) : (s.setUpd v).answer = s.answer := rfl
@[simp] theorem setUpd_freeCtr (v : UpdSt) : (s.setUpd v).freeCtr = s.freeCtr := rfl
@[simp] theorem setUpd_csr (v : UpdSt) : (s.setUpd v).csr = s.csr := rfl
@[simp] theorem setUpd_csrStage (v : UpdSt) : (s.setUpd v).csrStage = s.csrStage := rfl
@[simp] theorem setUpd_csrSnap (v : UpdSt) : (s.setUpd v).csrSnap = s.csrSnap := rfl
@[simp] theorem setUpd_mem (v : UpdSt) : (s.setUpd v).mem = s.mem := rfl
@[simp] theorem setUpd_poison (v : UpdSt) : (s.setUpd v).poison = s.poison := rfl
@[simp] theorem setUpd_soft (v : UpdSt) : (s.setUpd v).soft = s.soft := rfl
@[simp] theorem setUpd_pwr (v : UpdSt) : (s.setUpd v).pwr = s.pwr := rfl
@[simp] theorem setUpd_ccs (v : UpdSt) : (s.setUpd v).ccs = s.ccs := rfl
@[simp] theorem setUpd_lcs (v : UpdSt) : (s.setUpd v).lcs = s.lcs := rfl
@[simp] theorem setUpd_dcache (v : UpdSt) : (s.setUpd v).dcache = s.dcache := rfl
@[simp] theorem setUpd_queues (v : UpdSt) : (s.setUpd v).queues = s.queues := rfl
@[simp] theorem setUpd_locks (v : UpdSt) : (s.setUpd v).locks = s.locks := rfl
@[simp] theorem setUpd_ldg (v : UpdSt) : (s.setUpd v).ldg = s.ldg := rfl
@[simp] theorem setUpd_time (v : UpdSt) : (s.setUpd v).time = s.time := rfl
@[simp] theorem setUpd_evr (v : UpdSt) : (s.setUpd v).evr = s.evr := rfl
@[simp] theorem setUpd_dataQ (v : UpdSt) : (s.setUpd v).dataQ = s.dataQ := rfl
@[simp] theorem setUpd_ctlQ (v : UpdSt) : (s.setUpd v).ctlQ = s.ctlQ := rfl
@[simp] theorem setUpd_mgmtQ (v : UpdSt) : (s.setUpd v).mgmtQ = s.mgmtQ := rfl
@[simp] theorem setUpd_turn (v : UpdSt) : (s.setUpd v).turn = s.turn := rfl
@[simp] theorem setUpd_merged (v : UpdSt) : (s.setUpd v).merged = s.merged := rfl
@[simp] theorem setUpd_epiMap (v : UpdSt) : (s.setUpd v).epiMap = s.epiMap := rfl
@[simp] theorem setUpd_wire (v : UpdSt) : (s.setUpd v).wire = s.wire := rfl
@[simp] theorem setUpd_twn (v : UpdSt) : (s.setUpd v).twn = s.twn := rfl
@[simp] theorem setUpd_mrm (v : UpdSt) : (s.setUpd v).mrm = s.mrm := rfl
@[simp] theorem setUpd_nfc (v : UpdSt) : (s.setUpd v).nfc = s.nfc := rfl
@[simp] theorem setUpd_rin (v : UpdSt) : (s.setUpd v).rin = s.rin := rfl
@[simp] theorem setUpd_clk (v : UpdSt) : (s.setUpd v).clk = s.clk := rfl
@[simp] theorem setUpd_tap (v : UpdSt) : (s.setUpd v).tap = s.tap := rfl
@[simp] theorem setUpd_met (v : UpdSt) : (s.setUpd v).met = s.met := rfl
@[simp] theorem setUpd_bal (v : UpdSt) : (s.setUpd v).bal = s.bal := rfl
@[simp] theorem setUpd_dun (v : UpdSt) : (s.setUpd v).dun = s.dun := rfl
@[simp] theorem setUpd_mov (v : UpdSt) : (s.setUpd v).mov = s.mov := rfl
@[simp] theorem setUpd_pfx (v : UpdSt) : (s.setUpd v).pfx = s.pfx := rfl
@[simp] theorem setUpd_ses (v : UpdSt) : (s.setUpd v).ses = s.ses := rfl
@[simp] theorem setUpd_key (v : UpdSt) : (s.setUpd v).key = s.key := rfl
@[simp] theorem setUpd_kep (v : UpdSt) : (s.setUpd v).kep = s.kep := rfl
@[simp] theorem setUpd_upd (v : UpdSt) : (s.setUpd v).upd = v := rfl
@[simp] theorem setUpd_pl (v : UpdSt) : (s.setUpd v).pl = s.pl := rfl
@[simp] theorem setUpd_rf (v : UpdSt) : (s.setUpd v).rf = s.rf := rfl
@[simp] theorem setUpd_delivered (v : UpdSt) : (s.setUpd v).delivered = s.delivered := rfl
@[simp] theorem setUpd_reg (v : UpdSt) (r : Nat) : (s.setUpd v).reg r = s.reg r := rfl
@[simp] theorem setUpd_fget (v : UpdSt) (x : Fld) : (s.setUpd v).fget x = s.fget x := rfl
@[simp] theorem setUpd_flag (v : UpdSt) (x : Fld) : (s.setUpd v).flag x = s.flag x := rfl

/-! ### setPl -/

@[simp] theorem setPl_pending (v : PlSt) : (s.setPl v).pending = s.pending := rfl
@[simp] theorem setPl_answer (v : PlSt) : (s.setPl v).answer = s.answer := rfl
@[simp] theorem setPl_freeCtr (v : PlSt) : (s.setPl v).freeCtr = s.freeCtr := rfl
@[simp] theorem setPl_csr (v : PlSt) : (s.setPl v).csr = s.csr := rfl
@[simp] theorem setPl_csrStage (v : PlSt) : (s.setPl v).csrStage = s.csrStage := rfl
@[simp] theorem setPl_csrSnap (v : PlSt) : (s.setPl v).csrSnap = s.csrSnap := rfl
@[simp] theorem setPl_mem (v : PlSt) : (s.setPl v).mem = s.mem := rfl
@[simp] theorem setPl_poison (v : PlSt) : (s.setPl v).poison = s.poison := rfl
@[simp] theorem setPl_soft (v : PlSt) : (s.setPl v).soft = s.soft := rfl
@[simp] theorem setPl_pwr (v : PlSt) : (s.setPl v).pwr = s.pwr := rfl
@[simp] theorem setPl_ccs (v : PlSt) : (s.setPl v).ccs = s.ccs := rfl
@[simp] theorem setPl_lcs (v : PlSt) : (s.setPl v).lcs = s.lcs := rfl
@[simp] theorem setPl_dcache (v : PlSt) : (s.setPl v).dcache = s.dcache := rfl
@[simp] theorem setPl_queues (v : PlSt) : (s.setPl v).queues = s.queues := rfl
@[simp] theorem setPl_locks (v : PlSt) : (s.setPl v).locks = s.locks := rfl
@[simp] theorem setPl_ldg (v : PlSt) : (s.setPl v).ldg = s.ldg := rfl
@[simp] theorem setPl_time (v : PlSt) : (s.setPl v).time = s.time := rfl
@[simp] theorem setPl_evr (v : PlSt) : (s.setPl v).evr = s.evr := rfl
@[simp] theorem setPl_dataQ (v : PlSt) : (s.setPl v).dataQ = s.dataQ := rfl
@[simp] theorem setPl_ctlQ (v : PlSt) : (s.setPl v).ctlQ = s.ctlQ := rfl
@[simp] theorem setPl_mgmtQ (v : PlSt) : (s.setPl v).mgmtQ = s.mgmtQ := rfl
@[simp] theorem setPl_turn (v : PlSt) : (s.setPl v).turn = s.turn := rfl
@[simp] theorem setPl_merged (v : PlSt) : (s.setPl v).merged = s.merged := rfl
@[simp] theorem setPl_epiMap (v : PlSt) : (s.setPl v).epiMap = s.epiMap := rfl
@[simp] theorem setPl_wire (v : PlSt) : (s.setPl v).wire = s.wire := rfl
@[simp] theorem setPl_twn (v : PlSt) : (s.setPl v).twn = s.twn := rfl
@[simp] theorem setPl_mrm (v : PlSt) : (s.setPl v).mrm = s.mrm := rfl
@[simp] theorem setPl_nfc (v : PlSt) : (s.setPl v).nfc = s.nfc := rfl
@[simp] theorem setPl_rin (v : PlSt) : (s.setPl v).rin = s.rin := rfl
@[simp] theorem setPl_clk (v : PlSt) : (s.setPl v).clk = s.clk := rfl
@[simp] theorem setPl_tap (v : PlSt) : (s.setPl v).tap = s.tap := rfl
@[simp] theorem setPl_met (v : PlSt) : (s.setPl v).met = s.met := rfl
@[simp] theorem setPl_bal (v : PlSt) : (s.setPl v).bal = s.bal := rfl
@[simp] theorem setPl_dun (v : PlSt) : (s.setPl v).dun = s.dun := rfl
@[simp] theorem setPl_mov (v : PlSt) : (s.setPl v).mov = s.mov := rfl
@[simp] theorem setPl_pfx (v : PlSt) : (s.setPl v).pfx = s.pfx := rfl
@[simp] theorem setPl_ses (v : PlSt) : (s.setPl v).ses = s.ses := rfl
@[simp] theorem setPl_key (v : PlSt) : (s.setPl v).key = s.key := rfl
@[simp] theorem setPl_kep (v : PlSt) : (s.setPl v).kep = s.kep := rfl
@[simp] theorem setPl_upd (v : PlSt) : (s.setPl v).upd = s.upd := rfl
@[simp] theorem setPl_pl (v : PlSt) : (s.setPl v).pl = v := rfl
@[simp] theorem setPl_rf (v : PlSt) : (s.setPl v).rf = s.rf := rfl
@[simp] theorem setPl_delivered (v : PlSt) : (s.setPl v).delivered = s.delivered := rfl
@[simp] theorem setPl_reg (v : PlSt) (r : Nat) : (s.setPl v).reg r = s.reg r := rfl
@[simp] theorem setPl_fget (v : PlSt) (x : Fld) : (s.setPl v).fget x = s.fget x := rfl
@[simp] theorem setPl_flag (v : PlSt) (x : Fld) : (s.setPl v).flag x = s.flag x := rfl

/-! ### setRf -/

@[simp] theorem setRf_pending (v : RfSt) : (s.setRf v).pending = s.pending := rfl
@[simp] theorem setRf_answer (v : RfSt) : (s.setRf v).answer = s.answer := rfl
@[simp] theorem setRf_freeCtr (v : RfSt) : (s.setRf v).freeCtr = s.freeCtr := rfl
@[simp] theorem setRf_csr (v : RfSt) : (s.setRf v).csr = s.csr := rfl
@[simp] theorem setRf_csrStage (v : RfSt) : (s.setRf v).csrStage = s.csrStage := rfl
@[simp] theorem setRf_csrSnap (v : RfSt) : (s.setRf v).csrSnap = s.csrSnap := rfl
@[simp] theorem setRf_mem (v : RfSt) : (s.setRf v).mem = s.mem := rfl
@[simp] theorem setRf_poison (v : RfSt) : (s.setRf v).poison = s.poison := rfl
@[simp] theorem setRf_soft (v : RfSt) : (s.setRf v).soft = s.soft := rfl
@[simp] theorem setRf_pwr (v : RfSt) : (s.setRf v).pwr = s.pwr := rfl
@[simp] theorem setRf_ccs (v : RfSt) : (s.setRf v).ccs = s.ccs := rfl
@[simp] theorem setRf_lcs (v : RfSt) : (s.setRf v).lcs = s.lcs := rfl
@[simp] theorem setRf_dcache (v : RfSt) : (s.setRf v).dcache = s.dcache := rfl
@[simp] theorem setRf_queues (v : RfSt) : (s.setRf v).queues = s.queues := rfl
@[simp] theorem setRf_locks (v : RfSt) : (s.setRf v).locks = s.locks := rfl
@[simp] theorem setRf_ldg (v : RfSt) : (s.setRf v).ldg = s.ldg := rfl
@[simp] theorem setRf_time (v : RfSt) : (s.setRf v).time = s.time := rfl
@[simp] theorem setRf_evr (v : RfSt) : (s.setRf v).evr = s.evr := rfl
@[simp] theorem setRf_dataQ (v : RfSt) : (s.setRf v).dataQ = s.dataQ := rfl
@[simp] theorem setRf_ctlQ (v : RfSt) : (s.setRf v).ctlQ = s.ctlQ := rfl
@[simp] theorem setRf_mgmtQ (v : RfSt) : (s.setRf v).mgmtQ = s.mgmtQ := rfl
@[simp] theorem setRf_turn (v : RfSt) : (s.setRf v).turn = s.turn := rfl
@[simp] theorem setRf_merged (v : RfSt) : (s.setRf v).merged = s.merged := rfl
@[simp] theorem setRf_epiMap (v : RfSt) : (s.setRf v).epiMap = s.epiMap := rfl
@[simp] theorem setRf_wire (v : RfSt) : (s.setRf v).wire = s.wire := rfl
@[simp] theorem setRf_twn (v : RfSt) : (s.setRf v).twn = s.twn := rfl
@[simp] theorem setRf_mrm (v : RfSt) : (s.setRf v).mrm = s.mrm := rfl
@[simp] theorem setRf_nfc (v : RfSt) : (s.setRf v).nfc = s.nfc := rfl
@[simp] theorem setRf_rin (v : RfSt) : (s.setRf v).rin = s.rin := rfl
@[simp] theorem setRf_clk (v : RfSt) : (s.setRf v).clk = s.clk := rfl
@[simp] theorem setRf_tap (v : RfSt) : (s.setRf v).tap = s.tap := rfl
@[simp] theorem setRf_met (v : RfSt) : (s.setRf v).met = s.met := rfl
@[simp] theorem setRf_bal (v : RfSt) : (s.setRf v).bal = s.bal := rfl
@[simp] theorem setRf_dun (v : RfSt) : (s.setRf v).dun = s.dun := rfl
@[simp] theorem setRf_mov (v : RfSt) : (s.setRf v).mov = s.mov := rfl
@[simp] theorem setRf_pfx (v : RfSt) : (s.setRf v).pfx = s.pfx := rfl
@[simp] theorem setRf_ses (v : RfSt) : (s.setRf v).ses = s.ses := rfl
@[simp] theorem setRf_key (v : RfSt) : (s.setRf v).key = s.key := rfl
@[simp] theorem setRf_kep (v : RfSt) : (s.setRf v).kep = s.kep := rfl
@[simp] theorem setRf_upd (v : RfSt) : (s.setRf v).upd = s.upd := rfl
@[simp] theorem setRf_pl (v : RfSt) : (s.setRf v).pl = s.pl := rfl
@[simp] theorem setRf_rf (v : RfSt) : (s.setRf v).rf = v := rfl
@[simp] theorem setRf_delivered (v : RfSt) : (s.setRf v).delivered = s.delivered := rfl
@[simp] theorem setRf_reg (v : RfSt) (r : Nat) : (s.setRf v).reg r = s.reg r := rfl
@[simp] theorem setRf_fget (v : RfSt) (x : Fld) : (s.setRf v).fget x = s.fget x := rfl
@[simp] theorem setRf_flag (v : RfSt) (x : Fld) : (s.setRf v).flag x = s.flag x := rfl

/-! ### setPfx -/

@[simp] theorem setPfx_pending (v : List PfxEntry) : (s.setPfx v).pending = s.pending := rfl
@[simp] theorem setPfx_answer (v : List PfxEntry) : (s.setPfx v).answer = s.answer := rfl
@[simp] theorem setPfx_freeCtr (v : List PfxEntry) : (s.setPfx v).freeCtr = s.freeCtr := rfl
@[simp] theorem setPfx_csr (v : List PfxEntry) : (s.setPfx v).csr = s.csr := rfl
@[simp] theorem setPfx_csrStage (v : List PfxEntry) : (s.setPfx v).csrStage = s.csrStage := rfl
@[simp] theorem setPfx_csrSnap (v : List PfxEntry) : (s.setPfx v).csrSnap = s.csrSnap := rfl
@[simp] theorem setPfx_mem (v : List PfxEntry) : (s.setPfx v).mem = s.mem := rfl
@[simp] theorem setPfx_poison (v : List PfxEntry) : (s.setPfx v).poison = s.poison := rfl
@[simp] theorem setPfx_soft (v : List PfxEntry) : (s.setPfx v).soft = s.soft := rfl
@[simp] theorem setPfx_pwr (v : List PfxEntry) : (s.setPfx v).pwr = s.pwr := rfl
@[simp] theorem setPfx_ccs (v : List PfxEntry) : (s.setPfx v).ccs = s.ccs := rfl
@[simp] theorem setPfx_lcs (v : List PfxEntry) : (s.setPfx v).lcs = s.lcs := rfl
@[simp] theorem setPfx_dcache (v : List PfxEntry) : (s.setPfx v).dcache = s.dcache := rfl
@[simp] theorem setPfx_queues (v : List PfxEntry) : (s.setPfx v).queues = s.queues := rfl
@[simp] theorem setPfx_locks (v : List PfxEntry) : (s.setPfx v).locks = s.locks := rfl
@[simp] theorem setPfx_ldg (v : List PfxEntry) : (s.setPfx v).ldg = s.ldg := rfl
@[simp] theorem setPfx_time (v : List PfxEntry) : (s.setPfx v).time = s.time := rfl
@[simp] theorem setPfx_evr (v : List PfxEntry) : (s.setPfx v).evr = s.evr := rfl
@[simp] theorem setPfx_dataQ (v : List PfxEntry) : (s.setPfx v).dataQ = s.dataQ := rfl
@[simp] theorem setPfx_ctlQ (v : List PfxEntry) : (s.setPfx v).ctlQ = s.ctlQ := rfl
@[simp] theorem setPfx_mgmtQ (v : List PfxEntry) : (s.setPfx v).mgmtQ = s.mgmtQ := rfl
@[simp] theorem setPfx_turn (v : List PfxEntry) : (s.setPfx v).turn = s.turn := rfl
@[simp] theorem setPfx_merged (v : List PfxEntry) : (s.setPfx v).merged = s.merged := rfl
@[simp] theorem setPfx_epiMap (v : List PfxEntry) : (s.setPfx v).epiMap = s.epiMap := rfl
@[simp] theorem setPfx_wire (v : List PfxEntry) : (s.setPfx v).wire = s.wire := rfl
@[simp] theorem setPfx_twn (v : List PfxEntry) : (s.setPfx v).twn = s.twn := rfl
@[simp] theorem setPfx_mrm (v : List PfxEntry) : (s.setPfx v).mrm = s.mrm := rfl
@[simp] theorem setPfx_nfc (v : List PfxEntry) : (s.setPfx v).nfc = s.nfc := rfl
@[simp] theorem setPfx_rin (v : List PfxEntry) : (s.setPfx v).rin = s.rin := rfl
@[simp] theorem setPfx_clk (v : List PfxEntry) : (s.setPfx v).clk = s.clk := rfl
@[simp] theorem setPfx_tap (v : List PfxEntry) : (s.setPfx v).tap = s.tap := rfl
@[simp] theorem setPfx_met (v : List PfxEntry) : (s.setPfx v).met = s.met := rfl
@[simp] theorem setPfx_bal (v : List PfxEntry) : (s.setPfx v).bal = s.bal := rfl
@[simp] theorem setPfx_dun (v : List PfxEntry) : (s.setPfx v).dun = s.dun := rfl
@[simp] theorem setPfx_mov (v : List PfxEntry) : (s.setPfx v).mov = s.mov := rfl
@[simp] theorem setPfx_pfx (v : List PfxEntry) : (s.setPfx v).pfx = v := rfl
@[simp] theorem setPfx_ses (v : List PfxEntry) : (s.setPfx v).ses = s.ses := rfl
@[simp] theorem setPfx_key (v : List PfxEntry) : (s.setPfx v).key = s.key := rfl
@[simp] theorem setPfx_kep (v : List PfxEntry) : (s.setPfx v).kep = s.kep := rfl
@[simp] theorem setPfx_upd (v : List PfxEntry) : (s.setPfx v).upd = s.upd := rfl
@[simp] theorem setPfx_pl (v : List PfxEntry) : (s.setPfx v).pl = s.pl := rfl
@[simp] theorem setPfx_rf (v : List PfxEntry) : (s.setPfx v).rf = s.rf := rfl
@[simp] theorem setPfx_delivered (v : List PfxEntry) : (s.setPfx v).delivered = s.delivered := rfl
@[simp] theorem setPfx_reg (v : List PfxEntry) (r : Nat) : (s.setPfx v).reg r = s.reg r := rfl
@[simp] theorem setPfx_fget (v : List PfxEntry) (x : Fld) : (s.setPfx v).fget x = s.fget x := rfl
@[simp] theorem setPfx_flag (v : List PfxEntry) (x : Fld) : (s.setPfx v).flag x = s.flag x := rfl

/-! ## Registers and fields -/

variable {s}

@[simp] theorem reg_setReg_same (b v : Nat) : (s.setReg b v).reg b = v := Store.get_put_same ..

theorem reg_setReg_ne {b c : Nat} (v : Nat) (h : c ≠ b) : (s.setReg b v).reg c = s.reg c := Store.get_put_ne _ v h

@[simp] theorem fget_fset_same (f : Fld) (v : Nat) : (s.fset f v).fget f = v % 2 ^ f.w := by
  unfold State.fget State.fset
  rw [reg_setReg_same, bits_setBits_same]

/-- A field of another register. -/
theorem fget_fset_reg {f g : Fld} (v : Nat) (h : g.reg ≠ f.reg) : (s.fset f v).fget g = s.fget g := by
  unfold State.fget State.fset
  rw [reg_setReg_ne _ h]

/-- Another field of the same register. -/
theorem fget_fset_apart {f g : Fld} (v : Nat) (hr : g.reg = f.reg) (h : g.lo + g.w ≤ f.lo ∨ f.lo + f.w ≤ g.lo) :
    (s.fset f v).fget g = s.fget g := by
  unfold State.fget State.fset
  rw [hr, reg_setReg_same]
  rcases h with h | h
  · exact bits_setBits_below _ _ _ _ _ _ h
  · exact bits_setBits_above _ _ _ _ _ _ h

@[simp] theorem flag_setFlag_same {f : Fld} (b : Bool) (h : f.w = 1) : (s.setFlag f b).flag f = b := by
  unfold State.flag State.setFlag
  rw [fget_fset_same, h]
  cases b <;> rfl

theorem flag_setFlag_reg {f g : Fld} (b : Bool) (h : g.reg ≠ f.reg) : (s.setFlag f b).flag g = s.flag g := by
  unfold State.flag State.setFlag
  rw [fget_fset_reg _ h]

theorem flag_setFlag_apart {f g : Fld} (b : Bool) (hr : g.reg = f.reg) (h : g.lo + g.w ≤ f.lo ∨ f.lo + f.w ≤ g.lo) :
    (s.setFlag f b).flag g = s.flag g := by
  unfold State.flag State.setFlag
  rw [fget_fset_apart _ hr h]

/-- What a field update leaves alone. -/
theorem fset_eq (f : Fld) (v : Nat) : s.fset f v = s.setReg f.reg (setBits (s.reg f.reg) f.lo f.w v) := rfl

theorem setFlag_eq (f : Fld) (b : Bool) : s.setFlag f b = s.fset f (b2n b) := rfl

theorem bump_eq (f : Fld) (n : Nat) : s.bump f n = s.fset f (satAdd f.w (s.fget f) n) := rfl

theorem count_eq (f : Fld) (n : Nat) : s.count f n = s.fset f (s.fget f + n) := rfl

@[simp] theorem fset_pending (f : Fld) (v : Nat) : (s.fset f v).pending = s.pending := rfl
@[simp] theorem fset_answer (f : Fld) (v : Nat) : (s.fset f v).answer = s.answer := rfl
@[simp] theorem fset_freeCtr (f : Fld) (v : Nat) : (s.fset f v).freeCtr = s.freeCtr := rfl
@[simp] theorem fset_csrStage (f : Fld) (v : Nat) : (s.fset f v).csrStage = s.csrStage := rfl
@[simp] theorem fset_csrSnap (f : Fld) (v : Nat) : (s.fset f v).csrSnap = s.csrSnap := rfl
@[simp] theorem fset_mem (f : Fld) (v : Nat) : (s.fset f v).mem = s.mem := rfl
@[simp] theorem fset_poison (f : Fld) (v : Nat) : (s.fset f v).poison = s.poison := rfl
@[simp] theorem fset_soft (f : Fld) (v : Nat) : (s.fset f v).soft = s.soft := rfl
@[simp] theorem fset_pwr (f : Fld) (v : Nat) : (s.fset f v).pwr = s.pwr := rfl
@[simp] theorem fset_ccs (f : Fld) (v : Nat) : (s.fset f v).ccs = s.ccs := rfl
@[simp] theorem fset_lcs (f : Fld) (v : Nat) : (s.fset f v).lcs = s.lcs := rfl
@[simp] theorem fset_dcache (f : Fld) (v : Nat) : (s.fset f v).dcache = s.dcache := rfl
@[simp] theorem fset_queues (f : Fld) (v : Nat) : (s.fset f v).queues = s.queues := rfl
@[simp] theorem fset_locks (f : Fld) (v : Nat) : (s.fset f v).locks = s.locks := rfl
@[simp] theorem fset_ldg (f : Fld) (v : Nat) : (s.fset f v).ldg = s.ldg := rfl
@[simp] theorem fset_time (f : Fld) (v : Nat) : (s.fset f v).time = s.time := rfl
@[simp] theorem fset_evr (f : Fld) (v : Nat) : (s.fset f v).evr = s.evr := rfl
@[simp] theorem fset_dataQ (f : Fld) (v : Nat) : (s.fset f v).dataQ = s.dataQ := rfl
@[simp] theorem fset_ctlQ (f : Fld) (v : Nat) : (s.fset f v).ctlQ = s.ctlQ := rfl
@[simp] theorem fset_mgmtQ (f : Fld) (v : Nat) : (s.fset f v).mgmtQ = s.mgmtQ := rfl
@[simp] theorem fset_turn (f : Fld) (v : Nat) : (s.fset f v).turn = s.turn := rfl
@[simp] theorem fset_merged (f : Fld) (v : Nat) : (s.fset f v).merged = s.merged := rfl
@[simp] theorem fset_epiMap (f : Fld) (v : Nat) : (s.fset f v).epiMap = s.epiMap := rfl
@[simp] theorem fset_wire (f : Fld) (v : Nat) : (s.fset f v).wire = s.wire := rfl
@[simp] theorem fset_twn (f : Fld) (v : Nat) : (s.fset f v).twn = s.twn := rfl
@[simp] theorem fset_mrm (f : Fld) (v : Nat) : (s.fset f v).mrm = s.mrm := rfl
@[simp] theorem fset_nfc (f : Fld) (v : Nat) : (s.fset f v).nfc = s.nfc := rfl
@[simp] theorem fset_rin (f : Fld) (v : Nat) : (s.fset f v).rin = s.rin := rfl
@[simp] theorem fset_clk (f : Fld) (v : Nat) : (s.fset f v).clk = s.clk := rfl
@[simp] theorem fset_tap (f : Fld) (v : Nat) : (s.fset f v).tap = s.tap := rfl
@[simp] theorem fset_met (f : Fld) (v : Nat) : (s.fset f v).met = s.met := rfl
@[simp] theorem fset_bal (f : Fld) (v : Nat) : (s.fset f v).bal = s.bal := rfl
@[simp] theorem fset_dun (f : Fld) (v : Nat) : (s.fset f v).dun = s.dun := rfl
@[simp] theorem fset_mov (f : Fld) (v : Nat) : (s.fset f v).mov = s.mov := rfl
@[simp] theorem fset_pfx (f : Fld) (v : Nat) : (s.fset f v).pfx = s.pfx := rfl
@[simp] theorem fset_ses (f : Fld) (v : Nat) : (s.fset f v).ses = s.ses := rfl
@[simp] theorem fset_key (f : Fld) (v : Nat) : (s.fset f v).key = s.key := rfl
@[simp] theorem fset_kep (f : Fld) (v : Nat) : (s.fset f v).kep = s.kep := rfl
@[simp] theorem fset_upd (f : Fld) (v : Nat) : (s.fset f v).upd = s.upd := rfl
@[simp] theorem fset_pl (f : Fld) (v : Nat) : (s.fset f v).pl = s.pl := rfl
@[simp] theorem fset_rf (f : Fld) (v : Nat) : (s.fset f v).rf = s.rf := rfl
@[simp] theorem fset_delivered (f : Fld) (v : Nat) : (s.fset f v).delivered = s.delivered := rfl

@[simp] theorem setFlag_pending (f : Fld) (b : Bool) : (s.setFlag f b).pending = s.pending := rfl
@[simp] theorem setFlag_answer (f : Fld) (b : Bool) : (s.setFlag f b).answer = s.answer := rfl
@[simp] theorem setFlag_freeCtr (f : Fld) (b : Bool) : (s.setFlag f b).freeCtr = s.freeCtr := rfl
@[simp] theorem setFlag_csrStage (f : Fld) (b : Bool) : (s.setFlag f b).csrStage = s.csrStage := rfl
@[simp] theorem setFlag_csrSnap (f : Fld) (b : Bool) : (s.setFlag f b).csrSnap = s.csrSnap := rfl
@[simp] theorem setFlag_mem (f : Fld) (b : Bool) : (s.setFlag f b).mem = s.mem := rfl
@[simp] theorem setFlag_poison (f : Fld) (b : Bool) : (s.setFlag f b).poison = s.poison := rfl
@[simp] theorem setFlag_soft (f : Fld) (b : Bool) : (s.setFlag f b).soft = s.soft := rfl
@[simp] theorem setFlag_pwr (f : Fld) (b : Bool) : (s.setFlag f b).pwr = s.pwr := rfl
@[simp] theorem setFlag_ccs (f : Fld) (b : Bool) : (s.setFlag f b).ccs = s.ccs := rfl
@[simp] theorem setFlag_lcs (f : Fld) (b : Bool) : (s.setFlag f b).lcs = s.lcs := rfl
@[simp] theorem setFlag_dcache (f : Fld) (b : Bool) : (s.setFlag f b).dcache = s.dcache := rfl
@[simp] theorem setFlag_queues (f : Fld) (b : Bool) : (s.setFlag f b).queues = s.queues := rfl
@[simp] theorem setFlag_locks (f : Fld) (b : Bool) : (s.setFlag f b).locks = s.locks := rfl
@[simp] theorem setFlag_ldg (f : Fld) (b : Bool) : (s.setFlag f b).ldg = s.ldg := rfl
@[simp] theorem setFlag_time (f : Fld) (b : Bool) : (s.setFlag f b).time = s.time := rfl
@[simp] theorem setFlag_evr (f : Fld) (b : Bool) : (s.setFlag f b).evr = s.evr := rfl
@[simp] theorem setFlag_dataQ (f : Fld) (b : Bool) : (s.setFlag f b).dataQ = s.dataQ := rfl
@[simp] theorem setFlag_ctlQ (f : Fld) (b : Bool) : (s.setFlag f b).ctlQ = s.ctlQ := rfl
@[simp] theorem setFlag_mgmtQ (f : Fld) (b : Bool) : (s.setFlag f b).mgmtQ = s.mgmtQ := rfl
@[simp] theorem setFlag_turn (f : Fld) (b : Bool) : (s.setFlag f b).turn = s.turn := rfl
@[simp] theorem setFlag_merged (f : Fld) (b : Bool) : (s.setFlag f b).merged = s.merged := rfl
@[simp] theorem setFlag_epiMap (f : Fld) (b : Bool) : (s.setFlag f b).epiMap = s.epiMap := rfl
@[simp] theorem setFlag_wire (f : Fld) (b : Bool) : (s.setFlag f b).wire = s.wire := rfl
@[simp] theorem setFlag_twn (f : Fld) (b : Bool) : (s.setFlag f b).twn = s.twn := rfl
@[simp] theorem setFlag_mrm (f : Fld) (b : Bool) : (s.setFlag f b).mrm = s.mrm := rfl
@[simp] theorem setFlag_nfc (f : Fld) (b : Bool) : (s.setFlag f b).nfc = s.nfc := rfl
@[simp] theorem setFlag_rin (f : Fld) (b : Bool) : (s.setFlag f b).rin = s.rin := rfl
@[simp] theorem setFlag_clk (f : Fld) (b : Bool) : (s.setFlag f b).clk = s.clk := rfl
@[simp] theorem setFlag_tap (f : Fld) (b : Bool) : (s.setFlag f b).tap = s.tap := rfl
@[simp] theorem setFlag_met (f : Fld) (b : Bool) : (s.setFlag f b).met = s.met := rfl
@[simp] theorem setFlag_bal (f : Fld) (b : Bool) : (s.setFlag f b).bal = s.bal := rfl
@[simp] theorem setFlag_dun (f : Fld) (b : Bool) : (s.setFlag f b).dun = s.dun := rfl
@[simp] theorem setFlag_mov (f : Fld) (b : Bool) : (s.setFlag f b).mov = s.mov := rfl
@[simp] theorem setFlag_pfx (f : Fld) (b : Bool) : (s.setFlag f b).pfx = s.pfx := rfl
@[simp] theorem setFlag_ses (f : Fld) (b : Bool) : (s.setFlag f b).ses = s.ses := rfl
@[simp] theorem setFlag_key (f : Fld) (b : Bool) : (s.setFlag f b).key = s.key := rfl
@[simp] theorem setFlag_kep (f : Fld) (b : Bool) : (s.setFlag f b).kep = s.kep := rfl
@[simp] theorem setFlag_upd (f : Fld) (b : Bool) : (s.setFlag f b).upd = s.upd := rfl
@[simp] theorem setFlag_pl (f : Fld) (b : Bool) : (s.setFlag f b).pl = s.pl := rfl
@[simp] theorem setFlag_rf (f : Fld) (b : Bool) : (s.setFlag f b).rf = s.rf := rfl
@[simp] theorem setFlag_delivered (f : Fld) (b : Bool) : (s.setFlag f b).delivered = s.delivered := rfl

@[simp] theorem bump_pending (f : Fld) (n : Nat) : (s.bump f n).pending = s.pending := rfl
@[simp] theorem bump_answer (f : Fld) (n : Nat) : (s.bump f n).answer = s.answer := rfl
@[simp] theorem bump_freeCtr (f : Fld) (n : Nat) : (s.bump f n).freeCtr = s.freeCtr := rfl
@[simp] theorem bump_csrStage (f : Fld) (n : Nat) : (s.bump f n).csrStage = s.csrStage := rfl
@[simp] theorem bump_csrSnap (f : Fld) (n : Nat) : (s.bump f n).csrSnap = s.csrSnap := rfl
@[simp] theorem bump_mem (f : Fld) (n : Nat) : (s.bump f n).mem = s.mem := rfl
@[simp] theorem bump_poison (f : Fld) (n : Nat) : (s.bump f n).poison = s.poison := rfl
@[simp] theorem bump_soft (f : Fld) (n : Nat) : (s.bump f n).soft = s.soft := rfl
@[simp] theorem bump_pwr (f : Fld) (n : Nat) : (s.bump f n).pwr = s.pwr := rfl
@[simp] theorem bump_ccs (f : Fld) (n : Nat) : (s.bump f n).ccs = s.ccs := rfl
@[simp] theorem bump_lcs (f : Fld) (n : Nat) : (s.bump f n).lcs = s.lcs := rfl
@[simp] theorem bump_dcache (f : Fld) (n : Nat) : (s.bump f n).dcache = s.dcache := rfl
@[simp] theorem bump_queues (f : Fld) (n : Nat) : (s.bump f n).queues = s.queues := rfl
@[simp] theorem bump_locks (f : Fld) (n : Nat) : (s.bump f n).locks = s.locks := rfl
@[simp] theorem bump_ldg (f : Fld) (n : Nat) : (s.bump f n).ldg = s.ldg := rfl
@[simp] theorem bump_time (f : Fld) (n : Nat) : (s.bump f n).time = s.time := rfl
@[simp] theorem bump_evr (f : Fld) (n : Nat) : (s.bump f n).evr = s.evr := rfl
@[simp] theorem bump_dataQ (f : Fld) (n : Nat) : (s.bump f n).dataQ = s.dataQ := rfl
@[simp] theorem bump_ctlQ (f : Fld) (n : Nat) : (s.bump f n).ctlQ = s.ctlQ := rfl
@[simp] theorem bump_mgmtQ (f : Fld) (n : Nat) : (s.bump f n).mgmtQ = s.mgmtQ := rfl
@[simp] theorem bump_turn (f : Fld) (n : Nat) : (s.bump f n).turn = s.turn := rfl
@[simp] theorem bump_merged (f : Fld) (n : Nat) : (s.bump f n).merged = s.merged := rfl
@[simp] theorem bump_epiMap (f : Fld) (n : Nat) : (s.bump f n).epiMap = s.epiMap := rfl
@[simp] theorem bump_wire (f : Fld) (n : Nat) : (s.bump f n).wire = s.wire := rfl
@[simp] theorem bump_twn (f : Fld) (n : Nat) : (s.bump f n).twn = s.twn := rfl
@[simp] theorem bump_mrm (f : Fld) (n : Nat) : (s.bump f n).mrm = s.mrm := rfl
@[simp] theorem bump_nfc (f : Fld) (n : Nat) : (s.bump f n).nfc = s.nfc := rfl
@[simp] theorem bump_rin (f : Fld) (n : Nat) : (s.bump f n).rin = s.rin := rfl
@[simp] theorem bump_clk (f : Fld) (n : Nat) : (s.bump f n).clk = s.clk := rfl
@[simp] theorem bump_tap (f : Fld) (n : Nat) : (s.bump f n).tap = s.tap := rfl
@[simp] theorem bump_met (f : Fld) (n : Nat) : (s.bump f n).met = s.met := rfl
@[simp] theorem bump_bal (f : Fld) (n : Nat) : (s.bump f n).bal = s.bal := rfl
@[simp] theorem bump_dun (f : Fld) (n : Nat) : (s.bump f n).dun = s.dun := rfl
@[simp] theorem bump_mov (f : Fld) (n : Nat) : (s.bump f n).mov = s.mov := rfl
@[simp] theorem bump_pfx (f : Fld) (n : Nat) : (s.bump f n).pfx = s.pfx := rfl
@[simp] theorem bump_ses (f : Fld) (n : Nat) : (s.bump f n).ses = s.ses := rfl
@[simp] theorem bump_key (f : Fld) (n : Nat) : (s.bump f n).key = s.key := rfl
@[simp] theorem bump_kep (f : Fld) (n : Nat) : (s.bump f n).kep = s.kep := rfl
@[simp] theorem bump_upd (f : Fld) (n : Nat) : (s.bump f n).upd = s.upd := rfl
@[simp] theorem bump_pl (f : Fld) (n : Nat) : (s.bump f n).pl = s.pl := rfl
@[simp] theorem bump_rf (f : Fld) (n : Nat) : (s.bump f n).rf = s.rf := rfl
@[simp] theorem bump_delivered (f : Fld) (n : Nat) : (s.bump f n).delivered = s.delivered := rfl

@[simp] theorem count_pending (f : Fld) (n : Nat) : (s.count f n).pending = s.pending := rfl
@[simp] theorem count_answer (f : Fld) (n : Nat) : (s.count f n).answer = s.answer := rfl
@[simp] theorem count_freeCtr (f : Fld) (n : Nat) : (s.count f n).freeCtr = s.freeCtr := rfl
@[simp] theorem count_csrStage (f : Fld) (n : Nat) : (s.count f n).csrStage = s.csrStage := rfl
@[simp] theorem count_csrSnap (f : Fld) (n : Nat) : (s.count f n).csrSnap = s.csrSnap := rfl
@[simp] theorem count_mem (f : Fld) (n : Nat) : (s.count f n).mem = s.mem := rfl
@[simp] theorem count_poison (f : Fld) (n : Nat) : (s.count f n).poison = s.poison := rfl
@[simp] theorem count_soft (f : Fld) (n : Nat) : (s.count f n).soft = s.soft := rfl
@[simp] theorem count_pwr (f : Fld) (n : Nat) : (s.count f n).pwr = s.pwr := rfl
@[simp] theorem count_ccs (f : Fld) (n : Nat) : (s.count f n).ccs = s.ccs := rfl
@[simp] theorem count_lcs (f : Fld) (n : Nat) : (s.count f n).lcs = s.lcs := rfl
@[simp] theorem count_dcache (f : Fld) (n : Nat) : (s.count f n).dcache = s.dcache := rfl
@[simp] theorem count_queues (f : Fld) (n : Nat) : (s.count f n).queues = s.queues := rfl
@[simp] theorem count_locks (f : Fld) (n : Nat) : (s.count f n).locks = s.locks := rfl
@[simp] theorem count_ldg (f : Fld) (n : Nat) : (s.count f n).ldg = s.ldg := rfl
@[simp] theorem count_time (f : Fld) (n : Nat) : (s.count f n).time = s.time := rfl
@[simp] theorem count_evr (f : Fld) (n : Nat) : (s.count f n).evr = s.evr := rfl
@[simp] theorem count_dataQ (f : Fld) (n : Nat) : (s.count f n).dataQ = s.dataQ := rfl
@[simp] theorem count_ctlQ (f : Fld) (n : Nat) : (s.count f n).ctlQ = s.ctlQ := rfl
@[simp] theorem count_mgmtQ (f : Fld) (n : Nat) : (s.count f n).mgmtQ = s.mgmtQ := rfl
@[simp] theorem count_turn (f : Fld) (n : Nat) : (s.count f n).turn = s.turn := rfl
@[simp] theorem count_merged (f : Fld) (n : Nat) : (s.count f n).merged = s.merged := rfl
@[simp] theorem count_epiMap (f : Fld) (n : Nat) : (s.count f n).epiMap = s.epiMap := rfl
@[simp] theorem count_wire (f : Fld) (n : Nat) : (s.count f n).wire = s.wire := rfl
@[simp] theorem count_twn (f : Fld) (n : Nat) : (s.count f n).twn = s.twn := rfl
@[simp] theorem count_mrm (f : Fld) (n : Nat) : (s.count f n).mrm = s.mrm := rfl
@[simp] theorem count_nfc (f : Fld) (n : Nat) : (s.count f n).nfc = s.nfc := rfl
@[simp] theorem count_rin (f : Fld) (n : Nat) : (s.count f n).rin = s.rin := rfl
@[simp] theorem count_clk (f : Fld) (n : Nat) : (s.count f n).clk = s.clk := rfl
@[simp] theorem count_tap (f : Fld) (n : Nat) : (s.count f n).tap = s.tap := rfl
@[simp] theorem count_met (f : Fld) (n : Nat) : (s.count f n).met = s.met := rfl
@[simp] theorem count_bal (f : Fld) (n : Nat) : (s.count f n).bal = s.bal := rfl
@[simp] theorem count_dun (f : Fld) (n : Nat) : (s.count f n).dun = s.dun := rfl
@[simp] theorem count_mov (f : Fld) (n : Nat) : (s.count f n).mov = s.mov := rfl
@[simp] theorem count_pfx (f : Fld) (n : Nat) : (s.count f n).pfx = s.pfx := rfl
@[simp] theorem count_ses (f : Fld) (n : Nat) : (s.count f n).ses = s.ses := rfl
@[simp] theorem count_key (f : Fld) (n : Nat) : (s.count f n).key = s.key := rfl
@[simp] theorem count_kep (f : Fld) (n : Nat) : (s.count f n).kep = s.kep := rfl
@[simp] theorem count_upd (f : Fld) (n : Nat) : (s.count f n).upd = s.upd := rfl
@[simp] theorem count_pl (f : Fld) (n : Nat) : (s.count f n).pl = s.pl := rfl
@[simp] theorem count_rf (f : Fld) (n : Nat) : (s.count f n).rf = s.rf := rfl
@[simp] theorem count_delivered (f : Fld) (n : Nat) : (s.count f n).delivered = s.delivered := rfl

/-! ## Cores, queues and lock cells -/

@[simp] theorem cc_setCc_same (k : Nat) (c : CCore) : (s.setCc k c).cc k = c := Store.get_put_same ..
theorem cc_setCc_ne {k j : Nat} (c : CCore) (h : j ≠ k) : (s.setCc k c).cc j = s.cc j := Store.get_put_ne _ c h
@[simp] theorem lc_setLc_same (n : Nat) (c : LCore) : (s.setLc n c).lc n = c := Store.get_put_same ..
theorem lc_setLc_ne {n j : Nat} (c : LCore) (h : j ≠ n) : (s.setLc n c).lc j = s.lc j := Store.get_put_ne _ c h
@[simp] theorem queue_setQueue_same (q : Nat) (v : Queue) : (s.setQueue q v).queue q = v := Store.get_put_same ..
theorem queue_setQueue_ne {q j : Nat} (v : Queue) (h : j ≠ q) : (s.setQueue q v).queue j = s.queue j := Store.get_put_ne _ v h
@[simp] theorem lock_setLock_same (n : Nat) (v : LockCell) : (s.setLock n v).lock n = v := Store.get_put_same ..
theorem lock_setLock_ne {n j : Nat} (v : LockCell) (h : j ≠ n) : (s.setLock n v).lock j = s.lock j := Store.get_put_ne _ v h

/-- A general register other than g0, after it is written. -/
theorem Cpu.g_setG_same (u : Cpu) {r : Nat} (v : GReg) (h : r ≠ 0) : (u.setG r v).g r = v := by
  simp [Cpu.g, Cpu.setG, h]

/-- g0 reads as zero and ignores writes (R94). -/
@[simp] theorem Cpu.g_zero (u : Cpu) : u.g 0 = {} := rfl
@[simp] theorem Cpu.setG_zero (u : Cpu) (v : GReg) : u.setG 0 v = u := rfl

theorem Cpu.g_setG_ne (u : Cpu) {r j : Nat} (v : GReg) (h : j ≠ r) : (u.setG r v).g j = u.g j := by
  unfold Cpu.g Cpu.setG
  by_cases hj : j = 0 <;> by_cases hr : r = 0 <;> simp [hj, hr]
  exact Store.get_put_ne _ v h

/-! ## Memory -/

/-- One byte after bytes are put into a memory: the byte put there, or what it was. -/
theorem get_putBytes (m : Store Byte) (a : Nat) (bs : List Byte) (x : Nat) :
    (putBytes m a bs).get memDefault x = if a ≤ x ∧ x < a + bs.length then bs.getD (x - a) 0 else m.get memDefault x := by
  induction bs generalizing m a with
  | nil =>
    have : ¬ (a ≤ x ∧ x < a) := by omega
    simp [putBytes, this]
  | cons b bs ih =>
    rw [putBytes, ih]
    by_cases hx : x = a
    · subst hx
      have h1 : ¬ (x + 1 ≤ x ∧ x < x + 1 + bs.length) := by omega
      rw [if_neg h1, Store.get_put_same]
      simp
    · by_cases h1 : a + 1 ≤ x ∧ x < a + 1 + bs.length
      · have h2 : a ≤ x ∧ x < a + (b :: bs).length := by simp only [List.length_cons]; omega
        rw [if_pos h1, if_pos h2]
        have h3 : x - a = (x - (a + 1)) + 1 := by omega
        rw [h3, List.getD_cons_succ]
      · have h2 : ¬ (a ≤ x ∧ x < a + (b :: bs).length) := by simp only [List.length_cons]; omega
        rw [if_neg h1, if_neg h2, Store.get_put_ne _ _ hx]

/-- Bytes put into a memory keep its canonical form. -/
theorem putBytes_wf (m : Store Byte) (a : Nat) (bs : List Byte) (h : Memory.wf m = true) : Memory.wf (putBytes m a bs) = true := by
  induction bs generalizing m a with
  | nil => exact h
  | cons b bs ih => exact ih _ _ (Store.wf_put _ _ h)

/-- A write leaves every byte outside its range alone. -/
theorem byte_write (s : State) (a : Nat) (bs : List Byte) {x : Nat} (h : x < a ∨ a + bs.length ≤ x) :
    (s.write a bs).byte x = s.byte x := by
  unfold State.byte State.write
  simp only [get_putBytes]
  rw [if_neg (by omega)]

/-- A write stores its bytes. -/
theorem byte_write_at (s : State) (a : Nat) (bs : List Byte) {i : Nat} (h : i < bs.length) :
    (s.write a bs).byte (a + i) = bs.getD i 0 := by
  unfold State.byte State.write
  simp only [get_putBytes]
  rw [if_pos ⟨by omega, by omega⟩, Nat.add_sub_cancel_left]

/-- The memory operations keep memory's canonical form. -/
theorem write_wf (s : State) (a : Nat) (bs : List Byte) (h : Memory.wf s.mem = true) : Memory.wf (s.write a bs).mem = true :=
  putBytes_wf _ _ _ h

theorem writeP_wf (s : State) (a : Nat) (bs : List Byte) (bad : Bool) (h : Memory.wf s.mem = true) :
    Memory.wf (s.writeP a bs bad).mem = true := putBytes_wf _ _ _ h

theorem poke_wf (s : State) (a n v : Nat) (h : Memory.wf s.mem = true) : Memory.wf (s.poke a n v).mem = true := putBytes_wf _ _ _ h

theorem clearMem_wf (s : State) (a n : Nat) (h : Memory.wf s.mem = true) : Memory.wf (s.clearMem a n).mem = true := Store.wf_filter _ h

end Sys2Proof.Machine
end

