-- ==== Sys2Proof/Laws/Cervik.lean ====
section
/-!
SUPPORT. What an instruction does once, for the shared operations of the Cervik cores: fetch, budget and registers.
-/

namespace Sys2Proof.Machine

variable {s : State}

/-- A corrected range changes no core and no byte. -/
theorem correct_frame (a n : Nat) : (s.correct a n).ccs = s.ccs ∧ (s.correct a n).lcs = s.lcs ∧ (s.correct a n).mem = s.mem := by
  unfold State.correct
  by_cases h : (s.soft.filter (touches a n)).isEmpty = true
  · simp only [h, if_true, and_self]
  · simp only [h]; exact ⟨rfl, rfl, rfl⟩

/-- Counting poison changes no core and no byte. -/
theorem countPoison_frame (a n : Nat) :
    (s.countPoison a n).ccs = s.ccs ∧ (s.countPoison a n).lcs = s.lcs ∧ (s.countPoison a n).mem = s.mem := by
  unfold State.countPoison
  split
  · split
    · exact ⟨rfl, rfl, rfl⟩
    · split <;> exact ⟨rfl, rfl, rfl⟩
  · exact ⟨rfl, rfl, rfl⟩

theorem touch_frame (a n : Nat) : (s.touch a n).ccs = s.ccs ∧ (s.touch a n).lcs = s.lcs ∧ (s.touch a n).mem = s.mem := by
  obtain ⟨h1, h2, h3⟩ := countPoison_frame (s := s.correct a n) a n
  obtain ⟨g1, g2, g3⟩ := correct_frame (s := s) a n
  exact ⟨h1.trans g1, h2.trans g2, h3.trans g3⟩

theorem touch_ccs (a n : Nat) : (s.touch a n).ccs = s.ccs := (touch_frame a n).1
theorem touch_lcs (a n : Nat) : (s.touch a n).lcs = s.lcs := (touch_frame a n).2.1
theorem touch_mem (a n : Nat) : (s.touch a n).mem = s.mem := (touch_frame a n).2.2

@[simp] theorem touch_cc (a n k : Nat) : (s.touch a n).cc k = s.cc k := by unfold State.cc; rw [touch_ccs]
@[simp] theorem touch_lc (a n k : Nat) : (s.touch a n).lc k = s.lc k := by unfold State.lc; rw [touch_lcs]

@[simp] theorem cpu_touch (a n : Nat) (d : CoreId) : (s.touch a n).cpu d = s.cpu d := by cases d <;> simp [State.cpu]

@[simp] theorem cpu_fetchRead (k : Nat) (p : Place) (d : CoreId) : (s.fetchRead k p).cpu d = s.cpu d := by
  unfold State.fetchRead
  dsimp only
  by_cases h1 : p.cache = 0
  · rw [if_pos h1]; exact cpu_touch ..
  · rw [if_neg h1]
    by_cases h2 : (s.cc k).icache.contains (p.pa / 64) = true
    · rw [if_pos h2]
    · rw [if_neg h2]
      by_cases h3 : s.poisonedIn (lineBase p.pa) 64 = true
      · rw [if_pos h3]; exact cpu_touch ..
      · rw [if_neg h3]
        cases d with
        | cc j =>
          by_cases hj : j.val = k
          · simp [State.cpu, hj]
          · simp [State.cpu, cc_setCc_ne _ hj]
        | lc n => simp [State.cpu, State.lc, touch_lcs]

theorem begun_cc (k : Fin 4) (w : Nat) :
    s.begun (.cc k) w = match s.fetchPlace k.val with | some p => s.fetchRead k.val p | none => s := rfl

/-- The fetch of an instruction leaves every core's registers. -/
@[simp] theorem cpu_begun (c d : CoreId) (w : Nat) : (s.begun c w).cpu d = s.cpu d := by
  cases c with
  | cc k =>
    rw [begun_cc]
    cases h : s.fetchPlace k.val with
    | none => rfl
    | some p => exact cpu_fetchRead ..
  | lc n =>
    cases d with
    | cc j => rfl
    | lc m =>
      by_cases hm : m.val = n.val
      · simp [State.begun, State.cpu, hm]
      · simp [State.begun, State.cpu, lc_setLc_ne _ hm]

@[simp] theorem cpu_setCpu_same (c : CoreId) (u : Cpu) : (s.setCpu c u).cpu c = u := by
  cases c <;> simp [State.setCpu, State.cpu]

@[simp] theorem setCpu_cpu_onCpu (c : CoreId) (f : Cpu → Cpu) : (s.onCpu c f).cpu c = f (s.cpu c) := by simp [State.onCpu]

theorem onCpu_eq (c : CoreId) (f : Cpu → Cpu) : s.onCpu c f = s.setCpu c ((s.onCpu c f).cpu c) := by simp [State.onCpu]

/-- An instruction of a control core that nothing refuses runs on the state after its fetch. -/
theorem onCc_goes {k : Fin 4} {w : Nat} (h : s.goes (.cc k) w = true) (f : State → State) : s.onCc k.val f = f (s.begun (.cc k) w) := by
  simp only [State.goes, Bool.and_eq_true, decide_eq_true_eq] at h
  obtain ⟨⟨⟨_, hr⟩, hp⟩, he⟩ := h
  simp only [State.onCc, hr, if_true, State.begun, State.fetched]
  simp only [State.fetchPlace] at hp ⊢
  cases ha : s.access k.val .fetch (s.cc k.val).cpu.pc.toNat 4 with
  | error e => simp [ha] at hp
  | ok p =>
    by_cases hb : s.fetchBad k.val p = true
    · simp [ha, hb] at hp
    · simp [hb, Option.isNone_iff_eq_none.mp he]

/-- An instruction of a ledger core that nothing refuses runs on the state with its weight counted. -/
theorem onLc_goes {n : Fin 64} {w : Nat} (h : s.goes (.lc n) w = true) (f : Item → State → State) :
    ∃ it, (s.lc n.val).item = some it ∧ s.onLc n.val w f = f it (s.begun (.lc n) w) := by
  simp only [State.goes, Bool.and_eq_true, decide_eq_true_eq] at h
  obtain ⟨⟨⟨⟨_, hr⟩, hi⟩, hf⟩, hb⟩ := h
  obtain ⟨it, hi⟩ := Option.isSome_iff_exists.mp hi
  refine ⟨it, hi, ?_⟩
  have hlt : ¬ (s.lc n.val).budget < (s.lc n.val).used + w := by omega
  unfold State.onLc
  simp only [hr, hi, hf, if_true, State.charge, if_neg hlt, State.begun]

theorem goes_clocked {c : CoreId} {w : Nat} (h : s.goes c w = true) : s.clocked = true := by
  cases c <;> simp only [State.goes, Bool.and_eq_true] at h
  · exact h.1.1.1
  · exact h.1.1.1.1

@[simp] theorem live_of_clocked (h : s.clocked = true) (o : Out) : s.live o = o := by simp [State.live, h]

/-- An instruction of either profile. -/
theorem issue_goes {c : CoreId} (h : s.goes c 1 = true) (f : State → State) : s.issue c f = .next (f (s.begun c 1)) := by
  have hc := goes_clocked h
  unfold State.issue
  rw [live_of_clocked hc]
  cases c with
  | cc k => exact congrArg _ (onCc_goes h f)
  | lc n =>
    obtain ⟨it, _, he⟩ := onLc_goes h (fun _ => f)
    exact congrArg _ he

theorem issueC_goes {k : Fin 4} (h : s.goes (.cc k) 1 = true) (f : State → State) : s.issueC k f = .next (f (s.begun (.cc k) 1)) := by
  unfold State.issueC
  rw [live_of_clocked (goes_clocked h), onCc_goes h]

theorem issueL_goes {n : Fin 64} {w : Nat} (h : s.goes (.lc n) w = true) (f : Item → State → State) :
    ∃ it, (s.lc n.val).item = some it ∧ s.issueL n w f = .next (f it (s.begun (.lc n) w)) := by
  obtain ⟨it, hi, he⟩ := onLc_goes h f
  refine ⟨it, hi, ?_⟩
  unfold State.issueL
  rw [live_of_clocked (goes_clocked h), he]

/-- A write by an agent that may make it. -/
theorem asAgent_may {a : Agent} {csr : Nat} (h : s.may a csr = true) (f : State → State) : s.asAgent a csr f = f s := by
  cases a with
  | cc k =>
    simp only [State.may, Bool.not_eq_true'] at h
    simp [State.asAgent, h]
  | port =>
    simp only [State.may] at h
    simp [State.asAgent, h]

theorem writes_split {a : Agent} {csr : Nat} (h : s.writes a csr = true) : s.clocked = true ∧ s.may a csr = true := by
  simpa [State.writes] using h

end Sys2Proof.Machine
end

