-- ==== Sys2Proof/Laws/CervikOps.lean ====
section
/-!
SUPPORT. One lemma for each shape of instruction that both profiles share: what a result, an immediate result, a branch and a refusal
leave.
-/

namespace Sys2Proof.Machine

variable {s : State} {u : Cpu}

/-! ### Registers and flags of one core -/

@[simp] theorem adv_g (r : Nat) : u.adv.g r = u.g r := rfl
@[simp] theorem adv_pc : u.adv.pc = u.pc + 4 := rfl
@[simp] theorem adv_fl : u.adv.fl = u.fl := rfl
theorem withFl_g (x : Word) (r : Nat) : ({ u with fl := x } : Cpu).g r = u.g r := rfl
theorem withFl_pc (x : Word) : ({ u with fl := x } : Cpu).pc = u.pc := rfl
@[simp] theorem setFlag_g (i : Nat) (b : Bool) (r : Nat) : (u.setFlag i b).g r = u.g r := withFl_g _ _
@[simp] theorem setFlag_pc (i : Nat) (b : Bool) : (u.setFlag i b).pc = u.pc := rfl
@[simp] theorem setZncv_g (z n c v : Bool) (r : Nat) : (u.setZncv z n c v).g r = u.g r := withFl_g _ _
@[simp] theorem setZncv_pc (z n c v : Bool) : (u.setZncv z n c v).pc = u.pc := rfl
@[simp] theorem ended_g (e : Ended) (r : Nat) : (u.ended e).g r = u.g r := by cases e <;> exact withFl_g _ _
@[simp] theorem ended_pc (e : Ended) : (u.ended e).pc = u.pc := by cases e <;> exact withFl_pc _
@[simp] theorem ps_g (b : Bool) (r : Nat) : (u.ps b).g r = u.g r := by cases b <;> rfl
@[simp] theorem ps_pc (b : Bool) : (u.ps b).pc = u.pc := by cases b <;> rfl
@[simp] theorem ps_fl (b : Bool) : (u.ps b).fl = u.psAfter b := by cases b <;> rfl
@[simp] theorem setG_pc (r : Nat) (v : GReg) : (u.setG r v).pc = u.pc := by unfold Cpu.setG; split <;> rfl
@[simp] theorem setG_fl (r : Nat) (v : GReg) : (u.setG r v).fl = u.fl := by unfold Cpu.setG; split <;> rfl

/-- A general register read after a write of a register. -/
theorem setG_g (r n : Nat) (v : GReg) : (u.setG r v).g n = if n = r then (if r = 0 then {} else v) else u.g n := by
  by_cases h : n = r
  · subst h; simp only [if_true]; by_cases hz : n = 0
    · subst hz; rfl
    · rw [if_neg hz]; exact Cpu.g_setG_same _ _ hz
  · rw [if_neg h]; exact Cpu.g_setG_ne _ _ h

theorem psAfter_setG (r : Nat) (v : GReg) (b : Bool) : (u.setG r v).psAfter b = u.psAfter b := by simp [Cpu.psAfter]

/-- FL at the end of a refusable instruction. -/
theorem ended_fl_done : (u.ended .done).fl = flEnded u.fl .done false false := by simp only [Cpu.ended, flEnded]
theorem ended_fl_warn (st : Status) : (u.ended (.warn st)).fl = flEnded u.fl st false true := by simp only [Cpu.ended, flEnded]
theorem ended_fl_refuse (st : Status) : (u.ended (.refuse st)).fl = flEnded u.fl st true false := by simp only [Cpu.ended, flEnded]

/-! ### What an instruction of one core leaves -/

theorem regNo_zero {r : RegNo} : r.toNat = 0 ↔ r = 0 := by
  constructor
  · intro h; apply BitVec.eq_of_toNat_eq; simpa using h
  · rintro rfl; rfl

/-- Whatever an instruction makes of its core's registers, nothing else changes. -/
theorem coreOnly_onCpu (c : CoreId) (w : Nat) (f : Cpu → Cpu) : s.coreOnly c w ((s.begun c w).onCpu c f) :=
  onCpu_eq (s := s.begun c w) c f

@[simp] theorem onCpu_cpu (c : CoreId) (w : Nat) (f : Cpu → Cpu) : ((s.begun c w).onCpu c f).cpu c = f (s.cpu c) := by simp

/-- A change of a core's registers that writes one register, no flag but PS, and moves the PC on. -/
theorem wrote_of {c : CoreId} {rd : RegNo} {v : GReg} {bad : Bool} {f : Cpu → Cpu}
    (hg : ∀ r, (f (s.cpu c)).g r = if r = rd.toNat then (if rd.toNat = 0 then {} else v) else (s.cpu c).g r)
    (hpc : (f (s.cpu c)).pc = (s.cpu c).pc + 4) (hfl : (f (s.cpu c)).fl = (s.cpu c).psAfter bad) :
    s.wrote c rd v bad ((s.begun c 1).onCpu c f) := by
  refine ⟨coreOnly_onCpu .., ?_, ?_, ?_, ?_⟩
  · rw [onCpu_cpu, hg, if_pos rfl]; simp only [regNo_zero]
  · intro r hr; rw [onCpu_cpu, hg, if_neg hr]
  · rw [onCpu_cpu, hpc]
  · rw [onCpu_cpu, hfl]

/-- A result of two registers (R94, R110). -/
theorem wrote_alu (c : CoreId) (rd a b : RegNo) (f : Word → Word → Word) :
    s.wrote c rd ⟨f (s.gv c a) (s.gv c b), s.gp c a || s.gp c b⟩ (s.gp c a || s.gp c b) ((s.begun c 1).onCpu c fun u => u.alu rd a b f) :=
  wrote_of (fun r => by simp [Cpu.alu, setG_g, State.gv, State.gp]) (by simp [Cpu.alu])
    (by simp [Cpu.alu, psAfter_setG, State.gp])

/-- A result of a register and an immediate. -/
theorem wrote_aluImm (c : CoreId) (rd a : RegNo) (f : Word → Word) :
    s.wrote c rd ⟨f (s.gv c a), s.gp c a⟩ (s.gp c a) ((s.begun c 1).onCpu c fun u => u.aluImm rd a f) :=
  wrote_of (fun r => by simp [Cpu.aluImm, setG_g, State.gv, State.gp]) (by simp [Cpu.aluImm])
    (by simp [Cpu.aluImm, psAfter_setG, State.gp])

/-- A value written that reads no register. -/
theorem wrote_value (c : CoreId) (rd : RegNo) (v : Cpu → GReg) :
    s.wrote c rd (v (s.cpu c)) false ((s.begun c 1).onCpu c fun u => (u.setG rd.toNat (v u)).adv) :=
  wrote_of (fun r => by simp [setG_g]) (by simp) (by simp [Cpu.psAfter])

/-- A branch (R111). -/
theorem jumped_branch (c : CoreId) (taken bad : Cpu → Bool) (off : BitVec 12) :
    s.jumped c (if taken (s.cpu c) then (s.cpu c).rel off.toInt else (s.cpu c).pc + 4) (bad (s.cpu c))
      ((s.begun c 1).onCpu c fun u => u.branch (taken u) (bad u) off) := by
  refine ⟨coreOnly_onCpu .., ?_, ?_, ?_⟩
  · intro r; rw [onCpu_cpu]; exact ps_g _ _
  · rw [onCpu_cpu]; rfl
  · rw [onCpu_cpu]; exact ps_fl _

theorem refused_g (st : Status) (r : Nat) : (u.refused st).g r = u.g r := by
  unfold Cpu.refused Cpu.finish
  rw [adv_g, ended_g, ps_g]

theorem refused_pc (st : Status) : (u.refused st).pc = u.pc + 4 := by
  unfold Cpu.refused Cpu.finish
  rw [adv_pc, ended_pc, ps_pc]

theorem refused_fl (st : Status) : (u.refused st).fl = flEnded (u.psAfter (st = .poisoned)) st true false := by
  unfold Cpu.refused Cpu.finish
  rw [adv_fl, ended_fl_refuse, ps_fl]

/-- A refusal (R96). -/
theorem refusedWith_of (c : CoreId) (w : Nat) (st : Status) : s.refusedWith c w st ((s.begun c w).onCpu c fun u => u.refused st) := by
  refine ⟨coreOnly_onCpu .., ?_, ?_, ?_⟩
  · intro r; rw [onCpu_cpu]; exact refused_g _ _
  · rw [onCpu_cpu]; exact refused_pc _
  · rw [onCpu_cpu]; exact refused_fl _

/-! ### Instructions that load, store or end with DONE -/

variable {b : State} {c : CoreId}

theorem ccDo_eq (k : Fin 4) (f : Cpu → Cpu) : s.ccDo k.val f = s.onCpu (.cc k) f := rfl
theorem lcDo_eq (n : Fin 64) (f : Cpu → Cpu) : s.lcDo n.val f = s.onCpu (.lc n) f := rfl

theorem finish_fl (e : Ended) : (u.finish e).fl = (u.ended e).fl := by unfold Cpu.finish; rw [adv_fl]
theorem finish_g (e : Ended) (r : Nat) : (u.finish e).g r = u.g r := by unfold Cpu.finish; rw [adv_g, ended_g]
theorem finish_pc (e : Ended) : (u.finish e).pc = u.pc + 4 := by unfold Cpu.finish; rw [adv_pc, ended_pc]

theorem ended_fl_warnIf (bad : Bool) :
    (u.ended (if bad then .warn .poisoned else .done)).fl = flEnded u.fl (if bad then .poisoned else .done) false bad := by
  cases bad
  · exact ended_fl_done
  · exact ended_fl_warn _

/-- An instruction that writes a register and ends with DONE or the warning POISONED. -/
theorem loadedTo_of {rd : RegNo} {v : Word} {bad : Bool} {f : Cpu → Cpu} (hb : b.cpu c = s.cpu c)
    (hf : f (s.cpu c) = (((s.cpu c).setG rd.toNat ⟨v, bad⟩).ps bad).finish (if bad then .warn .poisoned else .done)) :
    s.loadedTo b c rd v bad (b.onCpu c f) := by
  have hc : (b.onCpu c f).cpu c = f (s.cpu c) := by rw [setCpu_cpu_onCpu, hb]
  refine ⟨onCpu_eq .., ?_, ?_, ?_, ?_⟩
  · rw [hc, hf, finish_g, ps_g, setG_g, if_pos rfl]; simp only [regNo_zero]
  · intro r hr; rw [hc, hf, finish_g, ps_g, setG_g, if_neg hr]
  · rw [hc, hf, finish_pc, ps_pc, setG_pc]
  · rw [hc, hf, finish_fl, ended_fl_warnIf, ps_fl, psAfter_setG]

/-- An instruction that writes no register and ends with DONE. -/
theorem storedFrom_of {bad : Bool} {f : Cpu → Cpu} (hb : b.cpu c = s.cpu c) (hf : f (s.cpu c) = (s.cpu c).storeEnd bad) :
    s.storedFrom b c bad (b.onCpu c f) := by
  have hc : (b.onCpu c f).cpu c = f (s.cpu c) := by rw [setCpu_cpu_onCpu, hb]
  refine ⟨onCpu_eq .., ?_, ?_, ?_⟩
  · intro r; rw [hc, hf]; unfold Cpu.storeEnd; rw [finish_g, ps_g]
  · rw [hc, hf]; unfold Cpu.storeEnd; rw [finish_pc, ps_pc]
  · rw [hc, hf]; unfold Cpu.storeEnd; rw [finish_fl, ended_fl_done, ps_fl]

end Sys2Proof.Machine
end

