-- ==== Sys2Proof/Laws/Copy.lean ====
section
/-!
SUPPORT. Copying a range of memory keeps its canonical form.
-/

namespace Sys2Proof.Machine

/-- The canonical form, said of the entries: keys from `lo` on, in rising order, and none that an unlisted key would read as. -/
theorem Store.wfFrom_iff {α : Type} [DecidableEq α] (d : Nat → α) (l : Store α) (lo : Nat) :
    Store.wfFrom d lo l = true ↔ (∀ e ∈ l, lo ≤ e.1 ∧ e.2 ≠ d e.1) ∧ l.Pairwise (fun a b => a.1 < b.1) := by
  induction l generalizing lo with
  | nil => simp [Store.wfFrom]
  | cons e l ih =>
    obtain ⟨j, v⟩ := e
    simp only [Store.wfFrom, Bool.and_eq_true, decide_eq_true_eq, ih, List.mem_cons, forall_eq_or_imp, List.pairwise_cons]
    constructor
    · rintro ⟨⟨h1, h2⟩, h3, h4⟩
      exact ⟨⟨⟨h1, h2⟩, fun e he => ⟨by have := (h3 e he).1; omega, (h3 e he).2⟩⟩, fun e he => (h3 e he).1, h4⟩
    · rintro ⟨⟨h1, h2⟩, h3, h4⟩
      exact ⟨h1, fun e he => ⟨h3 e he, (h2 e he).2⟩, h4⟩

/-- A slice of a table pasted into it leaves the canonical form, where every unlisted key reads alike. -/
theorem Store.wf_paste_slice {α : Type} [DecidableEq α] {d : Nat → α} (hd : ∀ i j, d i = d j) (l : Store α) (src dst n : Nat)
    (h : Store.wf d l = true) : Store.wf d (Store.paste dst n (l.slice src (src + n)) l) = true := by
  unfold Store.wf at h ⊢
  rw [Store.wfFrom_iff] at h ⊢
  obtain ⟨h1, h2⟩ := h
  unfold Store.paste Store.slice
  constructor
  · intro e he
    refine ⟨Nat.zero_le _, ?_⟩
    simp only [List.mem_append, List.mem_map, List.mem_filter] at he
    rcases he with (he | ⟨x, ⟨⟨y, hy, rfl⟩, _⟩, rfl⟩) | he
    · exact (h1 e he.1).2
    · exact fun hv => (h1 y hy.1).2 (hv.trans (hd _ _))
    · exact (h1 e he.1).2
  · rw [List.pairwise_append, List.pairwise_append]
    refine ⟨⟨h2.filter _, ?_, ?_⟩, h2.filter _, ?_⟩
    · rw [List.pairwise_map]
      refine List.Pairwise.imp (fun h => Nat.add_lt_add_right h _) (List.Pairwise.filter _ ?_)
      rw [List.pairwise_map]
      refine (h2.filter fun e => decide (src ≤ e.1) && decide (e.1 < src + n)).imp_of_mem ?_
      intro a b ha hb hab
      simp only [List.mem_filter, Bool.and_eq_true, decide_eq_true_eq] at ha hb
      show a.1 - src < b.1 - src
      omega
    · intro a ha b hb
      simp only [List.mem_filter, decide_eq_true_eq, List.mem_map] at ha hb
      obtain ⟨x, _, rfl⟩ := hb
      show a.1 < x.1 + dst
      omega
    · intro a ha b hb
      simp only [List.mem_append, List.mem_filter, decide_eq_true_eq, List.mem_map] at ha hb
      rcases ha with ha | ⟨x, ⟨_, hx⟩, rfl⟩
      · omega
      · show x.1 + dst < b.1
        omega

/-- The value of a listed key. -/
theorem Store.get_of_mem {α : Type} (d : Nat → α) {l : Store α} {k : Nat} {v : α} (hs : l.Pairwise (fun a b => a.1 < b.1))
    (h : (k, v) ∈ l) : Store.get d l k = v := by
  induction l with
  | nil => cases h
  | cons e l ih =>
    obtain ⟨j, w⟩ := e
    rw [List.pairwise_cons] at hs
    rcases List.mem_cons.1 h with h | h
    · cases h
      rw [Store.get, if_pos rfl]
    · have hj : j < k := hs.1 _ h
      rw [Store.get, if_neg (by omega), if_neg (by omega)]
      exact ih hs.2 h

/-- The value of a key that is not listed. -/
theorem Store.get_of_not {α : Type} (d : Nat → α) {l : Store α} {k : Nat} (h : ∀ v, (k, v) ∉ l) : Store.get d l k = d k := by
  induction l with
  | nil => rfl
  | cons e l ih =>
    obtain ⟨j, w⟩ := e
    have hj : j ≠ k := fun hj => h w (hj ▸ List.mem_cons_self ..)
    rw [Store.get, if_neg hj]
    split
    · rfl
    · exact ih fun v hv => h v (List.mem_cons_of_mem _ hv)

/-- A copy keeps memory's canonical form. -/
theorem copyMem_wf (s : State) (src dst n : Nat) (h : Memory.wf s.mem = true) : Memory.wf (s.copyMem src dst n).mem = true :=
  Store.wf_paste_slice (fun _ _ => rfl) _ _ _ _ h

/-- What lies where after a copy: the source's bytes in the destination, every other byte as it was (R181). -/
theorem byte_copyMem (s : State) (src dst n : Nat) (h : Memory.wf s.mem = true) (x : Nat) :
    (s.copyMem src dst n).byte x = if dst ≤ x ∧ x < dst + n then s.byte (x - dst + src) else s.byte x := by
  have hw := copyMem_wf s src dst n h
  have hs := ((Store.wfFrom_iff _ _ _).1 h).2
  have ht := ((Store.wfFrom_iff _ _ _).1 hw).2
  have hm : ∀ v, (x, v) ∈ (s.copyMem src dst n).mem ↔
      if dst ≤ x ∧ x < dst + n then (x - dst + src, v) ∈ s.mem else (x, v) ∈ s.mem := by
    intro v
    simp only [State.copyMem, Store.paste, Store.slice, List.mem_append, List.mem_map, List.mem_filter, Bool.and_eq_true,
      decide_eq_true_eq]
    split
    · next hx =>
      constructor
      · rintro ((h | ⟨e, ⟨⟨f, ⟨hf, hf2⟩, rfl⟩, _⟩, he⟩) | h)
        · omega
        · obtain ⟨j, w⟩ := f
          simp only [Prod.mk.injEq] at he hf2
          obtain ⟨rfl, rfl⟩ := he
          have : j - src + dst - dst + src = j := by omega
          rwa [this]
        · omega
      · intro hv
        exact Or.inl (Or.inr ⟨(x - dst, v), ⟨⟨(x - dst + src, v), ⟨hv, by simp only; omega⟩, by simp⟩, by simp only; omega⟩,
          by simp only [Prod.mk.injEq, and_true]; omega⟩)
    · next hx =>
      constructor
      · rintro ((h | ⟨e, ⟨⟨f, ⟨hf, hf2⟩, rfl⟩, he2⟩, he⟩) | h)
        · exact h.1
        · simp only [Prod.mk.injEq] at he hf2 he2
          omega
        · exact h.1
      · intro hv
        by_cases hl : x < dst
        · exact Or.inl (Or.inl ⟨hv, hl⟩)
        · exact Or.inr ⟨hv, by omega⟩
  unfold State.byte
  split
  · next hx =>
    by_cases hv : ∃ v, (x - dst + src, v) ∈ s.mem
    · obtain ⟨v, hv⟩ := hv
      rw [Store.get_of_mem _ hs hv, Store.get_of_mem _ ht ((hm v).2 (by rwa [if_pos hx]))]
    · rw [Store.get_of_not _ fun v h => hv ⟨v, h⟩, Store.get_of_not]
      · rfl
      · intro v h
        have := (hm v).1 h
        rw [if_pos hx] at this
        exact hv ⟨v, this⟩
  · next hx =>
    by_cases hv : ∃ v, (x, v) ∈ s.mem
    · obtain ⟨v, hv⟩ := hv
      rw [Store.get_of_mem _ hs hv, Store.get_of_mem _ ht ((hm v).2 (by rwa [if_neg hx]))]
    · rw [Store.get_of_not _ fun v h => hv ⟨v, h⟩, Store.get_of_not]
      intro v h
      have := (hm v).1 h
      rw [if_neg hx] at this
      exact hv ⟨v, this⟩

end Sys2Proof.Machine
end

