-- ==== Sys2Proof/Laws/Events.lean ====
section
/-!
SUPPORT. What posting an event can do: the recorder's front end, its registers and its records change, and nothing else.
-/

namespace Sys2Proof.Machine

variable {s t u : State}

theorem evrOnly_refl (s : State) : s.evrOnly s := ⟨rfl, fun _ _ => rfl, fun _ _ => rfl, id⟩

theorem evrOnly_trans (h : s.evrOnly t) (k : t.evrOnly u) : s.evrOnly u := by
  obtain ⟨h1, h2, h3, h4⟩ := h
  obtain ⟨k1, k2, k3, k4⟩ := k
  refine ⟨?_, fun b hb => (k2 b hb).trans (h2 b hb), fun x hx => (k3 x hx).trans (h3 x hx), k4 ∘ h4⟩
  rw [k1, h1]

theorem evrOnly_setEvr (s : State) (e : EvrSt) : s.evrOnly (s.setEvr e) := ⟨rfl, fun _ _ => rfl, fun _ _ => rfl, id⟩

theorem evrOnly_setReg (s : State) {b : Nat} (v : Nat) (hb : b / 0x10000 = 0x45) : s.evrOnly (s.setReg b v) :=
  ⟨rfl, fun _ hc => reg_setReg_ne v (fun h => hc (h ▸ hb)), fun _ _ => rfl, id⟩

theorem evrOnly_fset (s : State) {f : Fld} (v : Nat) (hb : f.reg / 0x10000 = 0x45) : s.evrOnly (s.fset f v) := evrOnly_setReg _ _ hb

theorem evrOnly_setOpen (s : State) (os : List OpenRec) : s.evrOnly (s.setOpen os) :=
  evrOnly_trans (evrOnly_setEvr _ _) (evrOnly_fset _ _ (by decide))

theorem evrOnly_write (s : State) (a : Nat) (bs : List Byte) (h : evrAddr 0 ≤ a ∧ a + bs.length ≤ evrAddr 8192) :
    s.evrOnly (s.write a bs) :=
  ⟨rfl, fun _ _ => rfl, fun _ hx => byte_write s a bs (hx.imp (fun g => Nat.lt_of_lt_of_le g h.1) (fun g => Nat.le_trans h.2 g)),
    write_wf s a bs⟩

theorem evrOnly_putRec (s : State) (k : Nat) (d : List Byte) : s.evrOnly (s.putRec k d) := by
  unfold State.putRec
  refine evrOnly_write _ _ _ ⟨?_, ?_⟩
  · simp only [evrAddr]; omega
  · refine Nat.le_trans (Nat.add_le_add_left (List.length_take_le ..) _) ?_
    simp only [evrAddr]; omega

theorem evrOnly_flushOpen (s : State) (o : OpenRec) : s.evrOnly (s.flushOpen o) := by
  unfold State.flushOpen
  split
  · exact evrOnly_putRec ..
  · exact evrOnly_refl _

theorem evrOnly_foldl {α : Type} (f : State → α → State) (h : ∀ (s : State) (x : α), s.evrOnly (f s x)) (l : List α) (s : State) :
    s.evrOnly (l.foldl f s) := by
  induction l generalizing s with
  | nil => exact evrOnly_refl _
  | cons x l ih => exact evrOnly_trans (h s x) (ih _)

/-- An event changes the recorder alone (R634 to R639). -/
theorem evrOnly_event (s : State) (e : Event) : s.evrOnly (s.event e) := by
  unfold State.event
  split
  · exact evrOnly_setOpen ..
  · simp only
    have h := fun l os => evrOnly_trans (evrOnly_foldl State.flushOpen evrOnly_flushOpen l s) (evrOnly_setOpen _ os)
    generalize hu : State.setOpen _ _ = u
    refine evrOnly_trans (hu ▸ h _ _) ?_
    split
    · refine evrOnly_fset _ _ ?_
      simp only [fEVRDROP_COUNT, rEVRDROP]
      omega
    · refine evrOnly_trans ?_ (evrOnly_fset _ _ (by decide))
      refine evrOnly_trans ?_ (evrOnly_fset _ _ (by decide))
      refine evrOnly_trans ?_ (evrOnly_setOpen _ _)
      refine evrOnly_trans ?_ (evrOnly_setEvr _ _)
      refine evrOnly_trans ?_ (evrOnly_fset _ _ (by decide))
      exact evrOnly_putRec ..

end Sys2Proof.Machine
end

