-- ==== Sys2Proof/WellFormed.lean ====
section
/-!
DEFINITION. Which commands have operands that their row can carry: the ranges that an operand's type does not already hold it to.
-/

namespace Sys2Proof

/-- At most so many bytes. -/
def frameFits (n : Nat) (b : List Byte) : Bool := decide (b.length ≤ n)

/-- The fields of a path fit the record of R403, and name a chip of a set. -/
def pathOk (p : RxPath) : Bool :=
  decide (p.srckind < 256) && decide (p.port < 256) && decide (p.ts < 2 ^ 64) && decide (p.snr < 256) && decide (p.fold < 256) &&
  decide (p.rssi < 256) && decide (p.group < 256) && decide (p.link < 2 ^ 64) && decide (p.chip.getD 0 < 8)

/-- An endpoint index (R115). -/
def epiOk (epi : Nat) : Bool := decide (epi < 2 ^ 18)

/-- A key-store slot, or an endpoint's key. -/
def keyOk (slot : Bool) (key : Nat) : Bool := if slot then decide (key < 4096) else epiOk key

/-- A capture has a 16-bit register code and a 12-byte date-time (R398). -/
def captureOk (c : DlmsCapture) : Bool :=
  (match c.named with
    | some (code, _) => decide (code < 65536)
    | none => true) && decide (c.stamp.length = 12)

/-- An event's fields fit its record (R634). -/
def eventOk (e : Event) : Bool :=
  decide (e.code < 65536) && decide (e.sev < 4) && decide (e.src < 256) && decide (e.inst < 256) && decide (e.arg0 < 2 ^ 32) &&
  decide (e.arg1 < 2 ^ 32) && decide (e.value < 2 ^ 64)

/-- A reception names a triple's three paths, and an FCH of 12 bytes (R293, R295). -/
def plHeardOk : PlHeard → Bool
  | .spl paths fch psdu _ _ => decide (paths.length = 3) && decide (fch.length = 12) && frameFits 2047 psdu
  | .g3 paths _ _ _ octets _ => decide (paths.length = 3) && frameFits 2047 octets
  | .energy _ => true

/-- A body to be sent fits a frame. -/
def plSourceOk : PlSource → Bool
  | .out _ => true
  | .spl _ _ _ _ body _ => frameFits 2047 body
  | .g3 _ _ _ octets _ _ => frameFits 2047 octets

/-- A set of chips is named whole: this chip is one of it (R459). -/
def bootOpOk : BootOp → Bool
  | .rom _ => true
  | .settings f => decide (f.self ≤ f.nchips)

/-- A wake timer has 32 bits. -/
def wakeOk : Wake → Bool
  | .timer _ => true
  | .pfail ticks _ => decide (ticks < 2 ^ 32)

/-- A well-formed command. -/
def Instr.wf (i : Instr) : Bool :=
  match i with
  | .csrWrite _ _ _ => true
  | .csrSnapshotRead _ _ => true
  | .rcRead _ _ => true
  | .fenceRequest _ _ => true
  | .fenceTakeEffect _ => true
  | .reportMergeTurn => true
  | .por => true
  | .bor => true
  | .extReset => true
  | .swresetNormal _ => true
  | .swresetRecovery _ => true
  | .swresetStandby _ => true
  | .bootStart op => bootOpOk op
  | .roleDecision _ => true
  | .modeRequest _ _ => true
  | .pfailSequence => true
  | .pfailRecoveryBor => true
  | .lpctlQuiet _ => true
  | .lpctlRun _ => true
  | .lpctlSleep _ => true
  | .sleepWake w => wakeOk w
  | .coreWdgFirstExpiry => true
  | .coreWdgSecondExpiry => true
  | .wdtKick _ _ => true
  | .aonWdgExpiry => true
  | .dispatchStall => true
  | .illegalOpcode _ _ => true
  | .add _ _ _ _ => true
  | .sub _ _ _ _ => true
  | .andR _ _ _ _ => true
  | .orR _ _ _ _ => true
  | .xorR _ _ _ _ => true
  | .sll _ _ _ _ => true
  | .srl _ _ _ _ => true
  | .sra _ _ _ _ => true
  | .slt _ _ _ _ => true
  | .sltu _ _ _ _ => true
  | .mul _ _ _ _ => true
  | .mulhu _ _ _ _ => true
  | .mulhs _ _ _ _ => true
  | .divu _ _ _ _ => true
  | .divs _ _ _ _ => true
  | .remu _ _ _ _ => true
  | .rems _ _ _ _ => true
  | .min _ _ _ _ => true
  | .max _ _ _ _ => true
  | .minu _ _ _ _ => true
  | .maxu _ _ _ _ => true
  | .getfl _ _ => true
  | .setfl _ _ => true
  | .adds _ _ _ _ => true
  | .adc _ _ _ _ => true
  | .subs _ _ _ _ => true
  | .sbc _ _ _ _ => true
  | .cmp _ _ _ => true
  | .addi _ _ _ _ => true
  | .andi _ _ _ _ => true
  | .ori _ _ _ _ => true
  | .xori _ _ _ _ => true
  | .slti _ _ _ _ => true
  | .sltiu _ _ _ _ => true
  | .slli _ _ _ _ => true
  | .srli _ _ _ _ => true
  | .srai _ _ _ _ => true
  | .cmpi _ _ _ => true
  | .movh _ _ _ => true
  | .pcadr _ _ _ => true
  | .beq _ _ _ _ => true
  | .bne _ _ _ _ => true
  | .blt _ _ _ _ => true
  | .bge _ _ _ _ => true
  | .bltu _ _ _ _ => true
  | .bgeu _ _ _ _ => true
  | .bfs _ _ => true
  | .bfc _ _ => true
  | .bws _ _ => true
  | .bcs _ _ => true
  | .bcc _ _ => true
  | .bzs _ _ => true
  | .bvs _ _ => true
  | .bps _ _ => true
  | .jmp _ _ => true
  | .call _ _ => true
  | .jr _ _ => true
  | .callr _ _ => true
  | .ldb _ _ _ _ => true
  | .ldbu _ _ _ _ => true
  | .ldh _ _ _ _ => true
  | .ldhu _ _ _ _ => true
  | .ldw _ _ _ _ => true
  | .ldd _ _ _ _ => true
  | .stb _ _ _ _ => true
  | .sth _ _ _ _ => true
  | .stw _ _ _ _ => true
  | .std _ _ _ _ => true
  | .lxb _ _ _ _ _ => true
  | .lxbu _ _ _ _ _ => true
  | .lxh _ _ _ _ _ => true
  | .lxhu _ _ _ _ _ => true
  | .lxw _ _ _ _ _ => true
  | .lxd _ _ _ _ _ => true
  | .sxb _ _ _ _ _ => true
  | .sxh _ _ _ _ _ => true
  | .sxw _ _ _ _ _ => true
  | .sxd _ _ _ _ _ => true
  | .csrr _ _ _ => true
  | .csrw _ _ _ => true
  | .fence _ => true
  | .cinv _ _ => true
  | .cclean _ _ => true
  | .cflush _ _ => true
  | .iinv _ _ => true
  | .cflusha _ => true
  | .iinva _ => true
  | .wfi _ => true
  | .wfiWake _ => true
  | .eret _ => true
  | .mfsr _ _ _ => true
  | .mtsr _ _ _ => true
  | .interruptTake _ => true
  | .enq _ _ _ => true
  | .deq _ _ _ => true
  | .deqStallResume _ => true
  | .deqt _ _ _ => true
  | .lock _ _ _ => true
  | .lockGrant _ => true
  | .lockt _ _ _ => true
  | .unlock _ _ => true
  | .tack _ _ => true
  | .press _ _ _ _ => true
  | .maxd _ _ _ => true
  | .satadd _ _ _ => true
  | .emit _ _ _ _ => true
  | .waitw _ => true
  | .done _ => true
  | .dispatchGrant => true
  | .dispatcherQ0Take => true
  | .hwEnqueue _ _ => true
  | .qcfgWrite _ _ _ => true
  | .queueFlush _ _ => true
  | .pressTick => true
  | .markerJournaled => true
  | .programRetire _ => true
  | .programLoad _ => true
  | .rebuildGo _ _ => true
  | .rebuildRelease _ => true
  | .ldgreplayWrite _ _ => true
  | .replayEntryApply _ _ => true
  | .detbrkDaily => true
  | .detbrkClear _ => true
  | .ingestCommand => true
  | .sampleLatch _ => true
  | .metrologyIntervalClose => true
  | .referenceCheck _ => true
  | .topoSelect _ _ => true
  | .plFrameReceive _ h => plHeardOk h
  | .plTxQueue src => plSourceOk src
  | .driverRequest _ => true
  | .driverGrant => true
  | .driverRelease _ => true
  | .driverMaxdeferExpiry _ => true
  | .plAccessSlot _ => true
  | .plAckSend _ => true
  | .plAckReceive _ fch => decide (fch.length = 12)
  | .plAckTimeout _ => true
  | .toneMapExpiry _ => true
  | .rfDetection _ _ _ => true
  | .rfFrameDeliver _ _ h => frameFits 2047 h.psdu
  | .rfAckSend _ => true
  | .superframeStart => true
  | .rfRunTransmit _ => true
  | .rfTxTimeout _ => true
  | .slotSwapRequest _ _ => true
  | .beaconReceive psdu _ => frameFits 2047 psdu
  | .beaconWindowClose => true
  | .floodRelayEligible _ _ => true
  | .floodOriginate _ payload => frameFits 2047 payload
  | .lintTrapSweep => true
  | .sleepySend _ => true
  | .rfRealign _ => true
  | .kepUplinkFrame p frame => pathOk p && frameFits 1200 frame
  | .kepAckSend _ => true
  | .kepAckDrop _ => true
  | .downlinkFrameSend slot key mt id body p => decide (mt < 256) && decide (id < 65536) && keyOk slot key && frameFits 1200 body && pathOk p
  | .keyUpdateSend epi p => epiOk epi && pathOk p
  | .ceilingRaise slot key => keyOk slot key
  | .dlmsApdu epi apdu caps p => epiOk epi && frameFits 1200 apdu && caps.all captureOk && pathOk p
  | .relayEnvelopeReceive b => frameFits 2047 b
  | .relayDownlinkTransmit _ => true
  | .aesGcmEncrypt _ _ => true
  | .aesGcmDecrypt _ _ => true
  | .aesCcmEncrypt _ _ => true
  | .aesCcmDecrypt _ _ => true
  | .aesCtr _ _ => true
  | .aesCmacGenerate _ _ => true
  | .aesCmacVerify _ _ => true
  | .fwCampaignOpen _ _ _ => true
  | .setpointArm _ _ _ _ _ => true
  | .setpointCancel _ _ _ => true
  | .setpointFire _ => true
  | .ethFrameReceive _ f _ => frameFits 9018 f
  | .pfxInsert _ => true
  | .pfxDelete _ => true
  | .eptWrite _ => true
  | .eptDelete _ => true
  | .eptRead _ => true
  | .neighbourAgeSweep => true
  | .nbtPin _ _ => true
  | .nbtUnpin _ _ => true
  | .nbtDelete _ _ => true
  | .dunebCellReceive _ b _ => decide (b.length = 88)
  | .dunebRetryTimeout _ => true
  | .dunebLinkDown _ => true
  | .hello _ b => decide (b.length = 24)
  | .seamMapAdopt _ m => decide (m.length = 16384)
  | .seamWrite _ _ _ => true
  | .moveArm _ _ otherK _ => decide (-1 ≤ otherK)
  | .moveReceive b poison _ => (b.isEmpty || decide (b.length = 5352)) && poison.all fun g => decide (g < 640)
  | .moved _ _ => true
  | .moveTimeout => true
  | .moveAbort _ _ => true
  | .init => true
  | .accept d => frameFits 65507 d
  | .initTimeout => true
  | .batchClose => true
  | .back d => frameFits 65507 d
  | .batchResend => true
  | .sessionRekey => true
  | .close d => frameFits 65507 d
  | .timincrWrite _ _ => true
  | .timsetWrite _ _ => true
  | .timstepWrite _ _ => true
  | .signedStep _ _ => true
  | .timeInvalidate _ => true
  | .txtsPop _ _ => true
  | .triggerFire _ => true
  | .ppsOutPulse => true
  | .ppsInCapture _ => true
  | .actInChange _ => true
  | .shadowMessageApply _ _ poison => poison.all fun g => decide (g < 640)
  | .confirm _ _ => true
  | .beat => true
  | .peerSilent => true
  | .standbyGraceExpiry => true
  | .activeGraceExpiry => true
  | .detach _ _ => true
  | .detached => true
  | .drain _ _ => true
  | .resync _ _ => true
  | .force _ _ _ => true
  | .takeover _ => true
  | .catchup _ => true
  | .rescue e => frameFits 65536 e
  | .gen _ => true
  | .invalidate _ => true
  | .setpub _ => true
  | .pubout _ => true
  | .keyImport _ => true
  | .keyExport _ => true
  | .genpkt _ => true
  | .importpkt _ => true
  | .rewrap _ => true
  | .attest _ => true
  | .auth _ => true
  | .sha3x256 => true
  | .sha3x512 => true
  | .shake128 => true
  | .shake256 => true
  | .sign => true
  | .verify => true
  | .encaps => true
  | .decaps => true
  | .tamperAlarm _ => true
  | .pendClear _ => true
  | .provision _ => true
  | .field _ => true
  | .debugOpen _ => true
  | .scrap _ => true
  | .check _ => true
  | .install _ => true
  | .clean _ => true
  | .selftestPass _ => true
  | .commit _ => true
  | .abandon _ => true
  | .drainBatch => true
  | .drainBatchComplete _ => true
  | .checkpointDue => true
  | .checkpointGo _ _ => true
  | .checkpointComplete _ => true
  | .nandRead _ _ => true
  | .nandWrite _ => true
  | .nandTrim => true
  | .nandMigrate _ => true
  | .nandSync => true
  | .wearLevelMove _ _ => true
  | .idleGc _ _ _ => true
  | .foregroundGc _ _ _ => true
  | .rinsePass _ => true
  | .eventPost es => es.all eventOk
  | .evrpostWrite _ _ => true
  | .foldFlush => true
  | .eventClear _ _ => true
  | .telemetryPass => true
  | .operatingTimeSave => true
  | .refclkLoss => true
  | .timeclkLoss => true
  | .srefclkLoss => true
  | .xtalLoss => true
  | .treturn _ _ => true
  | .tempHot _ => true
  | .tapReset => true
  | .extest _ => true
  | .idcode => true
  | .samplePreload _ => true
  | .clamp => true
  | .highz => true
  | .mbox _ _ _ _ => true
  | .debug => true
  | .bypass _ => true
  | .ethernetLinkChange _ _ _ => true
  | .oldSessionExpiry => true
  | .blockRewrite _ _ => true
  | .recordKeepExpiry => true

end Sys2Proof
end

