-- ==== Sys2Proof/Tests/Slice0.lean ====
section
/-!
SUPPORT. The tests: ill-formed terms that each check refuses, small steps, and for each statement with hypotheses states and operands
that meet them.
-/

namespace Sys2Proof.Tests

set_option Elab.async false
set_option maxRecDepth 100000
set_option synthInstance.maxSize 4000
set_option synthInstance.maxHeartbeats 200000

open Sys2Proof.Machine

/-! ## Well-formed commands, and one ill-formed term for each check -/

/-- A path, an event and a capture that fit their records. -/
def okPath : RxPath := { srckind := 2, port := 11, ts := 5, chip := some 7 }
def okEvent : Event := { code := 0x501, sev := 2, src := 0x1C, inst := 1 }
def okCapture : DlmsCapture := ⟨some (8, 0), 42, List.replicate 12 0⟩

theorem test_wf_boot : Instr.wf (.bootStart (.settings ⟨2, 1, 0, false, false, false, false, 0⟩)) = true ∧
    Instr.wf (.bootStart (.settings ⟨2, 3, 0, false, false, false, false, 0⟩)) = false := by decide
theorem test_wf_wake : Instr.wf (.sleepWake (.pfail 5 false)) = true ∧ Instr.wf (.sleepWake (.pfail (2 ^ 32) true)) = false := by decide
theorem test_wf_heard :
    Instr.wf (.plFrameReceive 0 (.spl (List.replicate 3 ⟨1, [], [], [], []⟩) (List.replicate 12 0) [] true 0)) = true ∧
    Instr.wf (.plFrameReceive 0 (.spl (List.replicate 2 ⟨1, [], [], [], []⟩) (List.replicate 12 0) [] true 0)) = false ∧
    Instr.wf (.plFrameReceive 0 (.spl (List.replicate 3 ⟨1, [], [], [], []⟩) [] [] true 0)) = false ∧
    Instr.wf (.plFrameReceive 0 (.g3 [] [] .data true [] 0)) = false := by decide
theorem test_wf_source : Instr.wf (.plTxQueue (.spl 0 9 0 0 [1] none)) = true ∧
    frameFits 4 [1, 2, 3, 4] = true ∧ frameFits 4 [1, 2, 3, 4, 5] = false := by decide
theorem test_wf_ack : Instr.wf (.plAckReceive 0 (List.replicate 12 0)) = true ∧ Instr.wf (.plAckReceive 0 []) = false := by decide
theorem test_wf_path : Instr.wf (.kepUplinkFrame okPath [1]) = true ∧ Instr.wf (.kepUplinkFrame { okPath with port := 256 } [1]) = false ∧
    Instr.wf (.kepUplinkFrame { okPath with chip := some 8 } [1]) = false := by decide
theorem test_wf_downlink : Instr.wf (.downlinkFrameSend false 5 0x10 0 [] okPath) = true ∧
    Instr.wf (.downlinkFrameSend true 4096 0x10 0 [] okPath) = false ∧ Instr.wf (.downlinkFrameSend false 5 256 0 [] okPath) = false := by decide
theorem test_wf_epi : Instr.wf (.keyUpdateSend 262143 okPath) = true ∧ Instr.wf (.keyUpdateSend 262144 okPath) = false := by decide
theorem test_wf_key : Instr.wf (.ceilingRaise true 4095) = true ∧ Instr.wf (.ceilingRaise true 4096) = false ∧
    Instr.wf (.ceilingRaise false 4096) = true := by decide
theorem test_wf_apdu : Instr.wf (.dlmsApdu 5 [] [okCapture] okPath) = true ∧
    Instr.wf (.dlmsApdu 5 [] [{ okCapture with stamp := [] }] okPath) = false ∧
    Instr.wf (.dlmsApdu 5 [] [{ okCapture with named := some (65536, 0) }] okPath) = false := by decide
theorem test_wf_cell : Instr.wf (.dunebCellReceive 0 (List.replicate 88 0) []) = true ∧ Instr.wf (.dunebCellReceive 0 [] []) = false := by decide
theorem test_wf_hello : Instr.wf (.hello 0 (List.replicate 24 0)) = true ∧ Instr.wf (.hello 0 []) = false := by decide
theorem test_wf_seam : Instr.wf (.seamMapAdopt 1 [1]) = false := by decide
theorem test_wf_arm : Instr.wf (.moveArm .port 0 (-1) false) = true ∧ Instr.wf (.moveArm .port 0 (-2) false) = false := by decide
theorem test_wf_move : Instr.wf (.moveReceive [] [639] true) = true ∧ Instr.wf (.moveReceive [1] [] true) = false ∧
    Instr.wf (.moveReceive [] [640] true) = false := by decide
theorem test_wf_shadow : Instr.wf (.shadowMessageApply 8 [] [639]) = true ∧ Instr.wf (.shadowMessageApply 8 [] [640]) = false := by decide
theorem test_wf_event : Instr.wf (.eventPost [okEvent]) = true ∧ Instr.wf (.eventPost [{ okEvent with sev := 4 }]) = false ∧
    Instr.wf (.eventPost [{ okEvent with arg0 := 2 ^ 32 }]) = false := by decide

/-! ## The worked examples of spec/ -/

/-- The reading frame of chapter 7: 1,641 bits, five symbols; stream bit 1 in symbol 3, slot 51, stream bit 2 in symbol 1, slot 17. -/
theorem test_reading_frame : plCodedLen 120 1 false = 1641 ∧ plNsym 120 1 false 376 = 5 ∧ manglerP 5 = 3 ∧
    mangleBit 5 376 3 51 = 1 ∧ mangleBit 5 376 1 17 = 2 := by decide +kernel
/-- The full FW_BLOCK broadcast of chapter 9: 75,312 bits, 325 symbols on the robust map. -/
theorem test_block_broadcast : plCodedLen 1096 0 true = 75312 ∧ plNsym 1096 0 true 232 = 325 := by decide +kernel

/-- Interval 100 of feeder F2, phase L2, at Tarnby T7 (chapter 6): 21,620,000 mWh in, 140,000 out, 95,000 mA. -/
def exFeeder : List Byte :=
  List.replicate 64 0 ++ leBytes 8 21620000 ++ leBytes 8 140000 ++ leBytes 4 95000 ++ List.replicate 28 0
def exLoss : State :=
  ((((State.reset.fset fLDGCFG_INTLEN 2).fset fLOSCFG_DARN_MAX 5).fset fLOSCFG_RUN 4).setBal
    { metro := [(100, leBytes 4 100 ++ [2] ++ List.replicate 11 0 ++ exFeeder)], model := [(4, 42000 + 40 * 2 ^ 32 + 5000 * 2 ^ 64)]
      thr := 200 + 0 * 2 ^ 16, runs := [(4, 3)] })
def exThr (s : State) (a r : Nat) : State := s.setBal { s.bal with thr := r + a * 2 ^ 16 }
/-- The figures of the example's provisional BALANCE record: E_TL, U, ALARM and the fourth interval in a row. -/
theorem test_balance :
    (((exThr exLoss 200 200).balanceCell 100 4 { ep := 20305000, darn := 412000, nEp := 127, nDarn := 3 } false).dataQ.head?.map fun r =>
      (le r.body 32 8, le r.body 40 8, bit (le r.body 4 2) 4, le r.body 60 2)) = some (208347, 554653, true, 4) := by decide +kernel
/-- Its final record: E_TL and U with the three actual values. -/
theorem test_balance_final :
    (((exThr exLoss 200 200).balanceCell 100 4 { ep := 20703000, nEp := 130 } true).dataQ.head?.map fun r =>
      (le r.body 32 8, le r.body 40 8, bit (le r.body 4 2) 4)) = some (208277, 568723, true) := by decide +kernel

/-- The sleepy sequences of chapter 8 at FSK 100: 676 WAKE frames, then preambles of 632 and of 47 octets. -/
theorem test_sleepy : (sleepyCover ⟨1, 0, false, 4, 8⟩ 30 2050000000).2.1 = 676 ∧ (sleepyCover ⟨1, 0, false, 4, 8⟩ 30 50500000).1 = 632 ∧
    (sleepyCover ⟨1, 0, false, 4, 8⟩ 30 3700000).1 = 47 := by decide +kernel

/-- An outcome is a next state of which `p` holds. -/
def tNext (p : State → Bool) : Out → Bool
  | .next t => p t
  | _ => false

/-- The signed step of chapter 11: the trigger with START 14:14:59 fires once at 14:15:02, three periods are skipped. -/
theorem test_trigger_after_step :
    tNext (fun t => decide (t.fget (fTIMTRIGSTART_VALUE 2) = 51303000000000 ∧ t.fget (fTIMTRIGCTL_SKIP 2) = 3))
      (exec (.triggerFire 2) ((((State.reset.setFlag (fTIMTRIGCTL_EN 2) true).fset (fTIMTRIGSTART_VALUE 2) 51299000000000).fset
        (fTIMTRIGPER_VALUE 2) 1000000000).setTime { raw := 51302000000000 })) = true := by decide +kernel

/-! ## Small steps -/

/-- R157: division by zero. -/
theorem test_divide : tNext (fun t => ((t.cpu (.lc 0)).g 3).val = 0xFFFFFFFF)
    (exec (.divu (.lc 0) 3 1 2) (State.reset.setLc 0 { run := .running, item := some {}, budget := 1000 })) = true := by decide +kernel
/-- R635: a second event of one key in the window folds into the first one's record. -/
theorem test_event_folds : tNext (fun t => t.fget fEVRSTAT_OPEN = 1) (exec (.eventPost [okEvent, okEvent]) State.reset) = true := by
  decide +kernel
/-- The flood of chapter 16: a malformed 64-byte frame is refused, and counts in histogram bin 7. -/
theorem test_open_record : tNext (fun t => t.fget fEVRSTAT_NEWEST = 0 && t.evr.openSet.length = 1)
    (exec (.eventPost [{ okEvent with value := 64 }]) State.reset) = true := by decide +kernel
/-- The front command runs first; an idle step advances the raw count by one. -/
theorem test_step : tNext (fun t => t.time.raw = 1) (step { State.reset with time := { raw := 0 } }) = true := by decide +kernel


/-- A ledger core that runs an item. -/
def tLc : State := State.reset.setLc 0 { run := .running, item := some {}, budget := 1000 }

/-- A control core that runs, with a window on DDR channel A that grants everything. -/
def tCc : State :=
  (((State.reset.setReg (rWIN 0 0) (0xE0F + 0x010000000000)).setReg (rMPU 0 0) 0xFFFFFFEF00000000).fset (fDDRSTAT_SIZE 0) 4).setCc 0 { run := .run }

/-- What a ROM finds when every PLL locks and no memory trains. -/
def tRom : RomFacts := ⟨false, 0x7F, some false, ⟨0, 0, false, 0⟩, ⟨0, 0, false, 0⟩, false, []⟩

/-- A settings block of a chip alone in its set. -/
def tSet : Settings := ⟨0, 0, 0, false, false, false, false, 0⟩

/-- A chip in Sleep, waiting for its wake timer, without its save digest. -/
def tSleep0 : State :=
  { (((State.reset.setFlag fLPCTL_WAKE_TMR true).fset fWAKETMR_TICKS 5).setPwr { asleep := true }) with
    upd := { State.reset.upd with hdrs := [(0, List.replicate 160 0 ++ sha3_512 [])] } }

/-- The same with the digest of its save area. -/
def tSleep : State := tSleep0.setPwr { tSleep0.pwr with saveDigest := sha3_256 (tSleep0.bytes tSleep0.saveBase 0x2000000) }

/-- The same, waiting for PFAIL_N to deassert. -/
def tSleepP0 : State := (tSleep0.setFlag fLPCTL_WAKE_PF true).setFlag fPFSTAT_PFAIL true
def tSleepP : State := tSleepP0.setPwr { tSleepP0.pwr with saveDigest := sha3_256 (tSleepP0.bytes tSleepP0.saveBase 0x2000000) }

theorem test_saved (s : State) (n : Nat) (t : State)
    (h : t = s.setPwr { s.pwr with saveDigest := sha3_256 (s.bytes s.saveBase n) }) : sha3_256 (t.bytes t.saveBase n) = t.pwr.saveDigest := by
  subst h; rfl

/-- A reading for endpoint 5 under program 7. -/
def tItem : Item := { w0 := 0x84000005, w1 := 7 }

/-- Ledger core 0 waits, program 7 is current, grants are enabled, the endpoint pages lie in a fitted DA. -/
def tProg : State :=
  ((((State.reset.setLc 0 { run := .waiting }).setReg (rLDGPRG 0) (7 + 2 ^ 25)).setProg 0 { entries := [64, 0, 96], budgets := [500, 0, 700] }).setFlag
    fDISCTL_EN true).fset (fDDRSTAT_SIZE 0) 4

/-- The same with an item ready. -/
def tGrant : State := tProg.postItem tItem 2 true

/-- A serving chip with a calendar, SCHED_EN, a valid time well past the end of interval 0. -/
def tCal : State :=
  ((((((State.reset.fset fMODESTAT_MODE modeService).setReg rLDGFIRSTK 0).setReg rLDGLASTK noK).setFlag fLDGCFG_SCHED_EN true).setFlag
    fTIMSTAT_VALID true).setTime { raw := 5, offset := 9000000000000000 })

/-- A serving chip with a calendar whose Q0 holds a command for endpoint 5, of program 7. -/
def tCmd : State :=
  ({ (((tCal.setReg (rLDGPRG 0) (7 + 2 ^ 25)).write (eptAddr 0) (leBytes 8 77 ++ leBytes 4 (5 + 2 ^ 30) ++ List.replicate 20 0)).setReg
    (rQCFG 0) 0x84000000) with epiMap := [(5, 1)] } : State).enqueue 0 (plainDesc [0x80200005, 7 + 3 * 2 ^ 16])

/-- Endpoint 5's list holds a reading of interval 2, its press of interval 4 waits, and program 7 takes force at interval 3. -/
def tAdj : State :=
  (((((tProg.setReg (rLDGPRG 0) (7 + 2 ^ 25 + 3 * 2 ^ 32)).setReg (rLDGPRG 1) (8 + 3 * 2 ^ 24 + 2 * 2 ^ 96)).setProg 1 { entries := [0, 32], budgets := [0, 900] }).poke
    (tProg.pageAddr 5 + 16) 4 2).write (tProg.tackAddr 5) (leBytes 16 1 ++ leBytes 24 (2 * tProg.lms))).postItem { w0 := 0x80100005, w1 := 7, w4 := 3 } 2 false

/-- The scheduler of an old home has asked for the marker at which bucket 0 is cut. -/
def tCut : State :=
  (tCal.setMov { pending := true, bucket := 0, newHome := 1, m := 1 }).setLdg { tCal.ldg with markerPend := some 0 }

/-- The journal of a booting chip holds reading 1 of endpoint 5, with IC 77, and Q0 its item. -/
def tRepl : State :=
  ((tProg.ringPut ⟨jkReadings, 1, 5, List.replicate 16 0 ++ leBytes 8 77 ++ List.replicate 24 0⟩ 1).setReg (rQCFG 0) 0x84000000).enqueue 0 (plainDesc [0x80000005, 7, 1])

/-- A serving chip in whose metrology interval the next trigger has fired. -/
def tMet : State :=
  (((tCal.setFlag fCMTCFG_EN true).fset fCMTCFG_CH_EN 3).setFlag fCMTSTAT_RUN true).setTime { tCal.time with fired := 2 }

/-- A chip at boot step 10 with every ledger core fenced. -/
def tBoot10 : State := ((State.reset.setPwr { bootStep := 10 }).fset fLCSSTAT_STATE lifeField).setReg rFENCE_STAT ((2 ^ 64 - 1) * 2 ^ 32)

/-- The firmware of a booting chip has a TOPO entry of the journal at the start of DA. -/
def tTopo : State := (tBoot10.fset (fDDRSTAT_SIZE 0) 4).write 0x010000000000 ((JEnt.mk jkTopo 1 0 [1]).bytes 3)

/-- Powerline port 1 is enabled and wired to driver 0; the chip is in SERVICE and transmits. -/
def tPl : State :=
  ((((((State.reset.fset fMODESTAT_MODE modeService).setFlag fTWNSTAT_GATE true).setFlag (fPLCFG_EN 1) true).fset (fPLSLDMAP_PORTS 0) 2).fset
    (fPLSTMASK_GROUPS) (2 ^ 58 - 1)).fset (fPLTXLIM_MAXSYM 1) 500).setTime { raw := 100000000 }

/-- A frame for a neighbour that is not known. -/
def tPlF : PlFrame := { dst := 77, pri := 1, mtype := 0, body := [1, 2], seq := 0, ackReq := true }

/-- The same port with its driver granted and a frame to send. -/
def tPlG (f : PlFrame) : State := tPl.setPlPort 1 { queue := [f], req := some 0, gnt := some (0, 1000) }

/-- The port has sent its frame and waits for the ACK. -/
def tPlW (f : PlFrame) (wait : Nat) : State :=
  tPl.setPlPort 1 { queue := [f], req := some 0, gnt := some (0, 1000), tx := some { txEnd := 99000000, waitEnd := wait, fcs := 5, ackReq := true } }

/-- A triple in G.9903 FCC mode whose port 1 waits for the acknowledgement of a G.9903 frame. -/
def tPlG3 : State :=
  (tPl.fset fPLSMODE_MODE 1).setPlPort 1 { queue := [{ tPlF with g3 := true }], gnt := some (0, 1000), tx := some { txEnd := 99000000, waitEnd := 200000000, fcs := 5, ackReq := true } }

/-- A PSDU for this chip, from neighbour 9. -/
def tPsdu : List Byte :=
  let b : List Byte := [0, 0, 0, 1] ++ beBytes 8 0 ++ beBytes 8 9 ++ [4, 5]
  b ++ beBytes 4 (plFcs b)

/-- What triple 0 hears of it. -/
def tPaths : List PlPathRx := List.replicate 3 ⟨100, [], [], [], []⟩

/-- Radio port 2 is on in SERVICE with a valid time; its slot 1 is a TXB run. -/
def tRf : State :=
  ((((((((State.reset.fset fMODESTAT_MODE modeService).setFlag fTWNSTAT_GATE true).setFlag (fRFCFG_EN 2) true).setFlag fTIMSTAT_VALID true).fset
    fRFSFSTAT_STATE sfRoot).setReg (rRFSLOTA 2 1) (2 + 2 ^ 4)).setReg (rRFPROF 2 0) (1 + 4 * 2 ^ 12)).fset (fRFCHMASK_CH 2) (2 ^ 128 - 1)).setTime
    { raw := 5000000000 }

/-- A superframe is in progress and slot 1 has begun. -/
def tRfRun : State := (tRf.setTime { raw := 17000000 }).setRf { start := some 0 }

/-- A broadcast frame waits. -/
def tRfQ : State := tRfRun.setRfPort 2 { queue := [{ use := .broadcast, dst := euiAll, psdu := List.replicate 22 0, since := 0 }] }

/-- A DATA frame for this chip, from neighbour 9. -/
def tMac : List Byte := [0, 0, 0, 1] ++ beBytes 8 0 ++ beBytes 8 9 ++ [4, 5]

/-- The same, asking for an ACK. -/
def tMacAck : List Byte := [4, 0, 0, 1] ++ beBytes 8 0 ++ beBytes 8 9 ++ [4, 5]

/-- A flood of neighbour 9 to all. -/
def tFlood : List Byte := [8, 0, 0, 1] ++ beBytes 8 euiAll ++ beBytes 8 9 ++ (beBytes 8 9 ++ [0, 7, 0x31, 0] ++ [4, 5])

/-- A port whose demodulators are all at work. -/
def tDems : State := (tRf.fset (fRFCFG_RXKINDS 2) 3).setRfPort 2 { dems := (List.range 64).map fun i => ⟨i, 20 + i, 1, 0⟩ }

/-- The flood is known. -/
def tFlSeen : State := (tRf.lintPut 9 7).setRfPort 2 { dems := [⟨0, 5, 1, 0⟩] }
def tFlI : Nat := (tFlSeen.lintHit 9 7).getD 0

/-- A superframe is in progress whose slot 0 is BEACON. -/
def tRfBcn : State := (tRf.setReg (rRFSLOTA 2 0) 4).setRf { start := some 0 } |>.setTime { raw := 3000000 }

/-- A beacon of the root followed, EUI-64 0. -/
def tBeacon : List Byte := [0x10, 0, 0, 1] ++ beBytes 8 euiAll ++ beBytes 8 9 ++ (List.replicate 10 0 ++ [3, 0] ++ beBytes 4 8 ++ List.replicate 40 0)

/-- Neighbour entry 3 holds a powerline neighbour with tone map 5. -/
def tNb : State := (tPl.write (nbtAddr 3 + 8) [1, 1]).write (nbtAddr 3 + 24) [5]

/-- Neighbour 77 of triple 0 is known. -/
def tPl77 : State := tPl.write (nbtAddr 308) (leBytes 8 77 ++ [0, 1])

/-- A frame waits for a sleepy endpoint of unknown phase; the slots from 1 on are one run of its group. -/
def tSleepy : State :=
  let a := (((List.range 20).foldl (fun (u : State) k => u.setReg (rRFSLOTA 2 (k + 1)) (1 + 2 ^ 4)) tRfRun).setReg (rRFPROF 2 0) (4 * 2 ^ 12)).nbSeen 9 6 false
  let i := (a.nbFind 9 6).getD 0
  ((a.nbPut i 16 1 1).nbPut i 18 1 1).setRfPort 2 { queue := [{ use := .unicast, dst := 9, psdu := List.replicate 22 0, since := 0 }] }

/-- Where endpoint 77 stands in the endpoint table. -/
def tSlot : Nat := 4 * eptBucket 77

/-- The pocket of endpoint 5, its key of 32 bytes 2 wrapped under the key of slot 1. -/
def tPocket : Pocket :=
  { parent := 1, ptype := 2, mask := 0x8F, pkid := 3, owner := 5, v := 1
    wrap := beBytes 40 0x5638e5a3c57b0753cca6204d951b611e936f6c539a3dfbcdf31c0b71aa811c15c853d96536ad231b }

/-- A serving chip with a calendar, program 7 and the local endpoint 5 of EUI-64 77, its key in its pocket, the wrap key in slot 1. -/
def tKep : State :=
  { ((((((tCal.setReg (rLDGPRG 0) (7 + 2 ^ 25)).setFlag fTWNSTAT_GATE true).fset fKEPSECBASE_BASE 0x010010000000).fset fKEYPKTBASE_BASE 0x010020000000).setSlot 1
      { typ := 2, mask := 0xCF, kid := 3, mat := List.replicate 32 1 }).write (eptAddr tSlot)
        (leBytes 8 77 ++ leBytes 4 (5 + 2 ^ 30) ++ [0, 0, 1, 0] ++ leBytes 8 0)).write (0x010020000000 + 64 * 5) tPocket.bytes with
    epiMap := [(5, tSlot + 1)] }

/-- A READINGS body of one reading at meter time 1000. -/
def tRead : List Byte := beBytes 8 1000 ++ beBytes 4 0 ++ [1, 0, 0, 0] ++ (beBytes 2 1 ++ [0, 0] ++ beBytes 4 0 ++ beBytes 8 42)

/-- Its uplink frame. -/
def tUp : List Byte :=
  beBytes 72 0x10010020000000000000004d000000000000000900000000ccdf4a619f37e14f0fb2f0a360524ac6a5a1922806cc62768da0c09b53b99e37a6c05f7d6ee9207a4b7044f63bf4896f

/-- The endpoint may send frames down: its next counter is 0, its ceiling 4096. -/
def tDown : State := tKep.secPut 5 24 8 4096

/-- A COSEM date-time: 1970-01-01 01:00:00, deviation 0. -/
def tStamp : List Byte := beBytes 2 1970 ++ [1, 1, 0xFF, 1, 0, 0, 0, 0, 0, 0]

/-- Frames of endpoint 5: READINGS with the last counter, and with a malformed body; CMD_RESP, right and malformed; FW_STATUS of state
0; CMD_RESP and READINGS under generation 1. -/
def tUpMax : List Byte :=
  beBytes 72 0x10010020000000000000004dffffffffffffffff00000000de46074461c8c4bdd8e173d1b31a2fb6ebc98b11496838cabe81f6ab93db8996d19b80d41491f6039de13799821e4ace
def tUpBad : List Byte := beBytes 41 0x10010001000000000000004d000000000000000900000000cd280e8cb3f2dfdf54be3cb2148823a1e6
def tUpResp : List Byte :=
  beBytes 56 0x10040010000000000000004d000000000000000900000000ccdf4a619f37e2a70fb2f0a361524ac609f58f0c7e6fb2d086e8c9d30a6fea1b
def tUpResp1 : List Byte := beBytes 41 0x10040001000000000000004d000000000000000900000000cd9ed16f294f9f397607e265b57ffaec67
def tUpFw : List Byte := beBytes 49 0x10120009000000000000004d000000000000000900000000ccdf4a619f3fe2a70aa3a04aa8e5ee163c91bfc2d3dc1ca724
def tUpPkg : List Byte :=
  beBytes 56 0x10040010000000000000004d00000000000000090100000022d1f9d0248712d4fc891001c031f25eb92b815409e64cf099d0b95676a393ab
def tUpPkgRd : List Byte :=
  beBytes 72 0x10010020000000000000004d00000000000000090100000022d1f9d02487113cfc891001c131f25e98a6c7f3802cbe6d292bc6f840919e755e8da8c756797b980317950dae8eb948

/-- Ciphered APDUs of endpoint 5, one byte of plaintext: counter 9; the last counter; a service that is not supported; authenticated only. -/
def tApdu : List Byte := beBytes 37 0x000100010001001ddb0800000000000000001230000000098d836e5db8a59a796fc894bba1
def tApduMax : List Byte := beBytes 37 0x000100010001001ddb0800000000000000001230fffffffff4dfac1342e7aa53cc6357aad5
def tApduSvc : List Byte := beBytes 37 0x000100010001001ddb080000000000000000123000000009830d4800a3ba5eae678c0f3ec8
def tApdu10 : List Byte := beBytes 37 0x000100010001001ddb0800000000000000001210000000090f66f4924707b9e576190a8dd4

/-- Relay peer 0 has EUI-64 5 and the relay key of slot 1. -/
def tRel : State :=
  ((((tKep.setFlag fRELCFG_EN true).fset fRELCFG_MAXLEN 1400).setFlag (fRELPEER_V 0) true).fset (fRELPEER_EUI 0) 5).fset (fRELPEER_SLOT 0) 1

/-- A DIR 1 envelope of that peer with one record. -/
def tEnv : List Byte :=
  beBytes 104 0x4b5201810000000000000005000000000000000100000000002800000000000000000000000000000000000000000000070707070707070707070707070707070707070707070707070707070707070707070707070707070298262686206cd533a6200dfad931fb

/-- A DIR 0 envelope of that peer with the READINGS frame. -/
def tEnvUp : List Byte :=
  beBytes 136 0x4b520101000000000000000500000000000000000000000000480000000000000000000000000000000000000000000010010020000000000000004d000000000000000900000000ccdf4a619f37e14f0fb2f0a360524ac6a5a1922806cc62768da0c09b53b99e37a6c05f7d6ee9207a4b7044f63bf4896fa0aeba6101e75f707f26772b51fbd876

/-- The table names endpoint 77 otherwise: a relay target (peer 0) on a head-role chip, a remote home (chip 2 of a set of four, not
fenced), and a relay target on a field-role chip. -/
def tEptRelay : State := tKep.write (eptAddr tSlot) (leBytes 8 77 ++ leBytes 4 (5 + 3 * 2 ^ 30) ++ [0, 0, 1, 0] ++ leBytes 8 0)
def tEptRemote : State :=
  ((((tKep.write (eptAddr tSlot) (leBytes 8 77 ++ leBytes 4 (5 + 7 * 2 ^ 18 + 2 * 2 ^ 30) ++ [0, 0, 1, 0] ++ leBytes 8 0)).write (seamAddr 7) [2]).setFlag
    fSYSSTAT_SEAM true).fset fSEMCFG_NCHIPS 4)
def tEptField : State :=
  (tRel.write (eptAddr tSlot) (leBytes 8 77 ++ leBytes 4 (5 + 3 * 2 ^ 30) ++ [0, 0, 1, 0] ++ leBytes 8 0)).setFlag fSYSSTAT_ROLE_F true

/-- Firmware campaign 0 of 8 blocks is open, its bitmaps in DA. -/
def tCamp : State :=
  (((tKep.setFlag (fFWCAMP_OPEN 0) true).fset (fFWCAMP_NBLK 0) 8).fset (fFWCAMP_BITMAP 0) 0x010040000000).fset (fDDRSTAT_SIZE 0) 4

/-- Endpoint 5 held by a rebuild; cut by a move; no room left in its reserve. -/
def tKepHeld : State := (tKep.setFlag fLDGREBUILD_HOLD true).fset fLDGREBUILD_EPI 5
def tKepCut : State := tKep.setMov { tKep.mov with pending := true, newHome := 1, bucket := 0, cutAt := some 1 }
def tKepFull : State := (tKep.fset fLDGLIMIT_LATE_MAX 0).setReg rLDGLASTK 4

/-- Generation 1 is pending at endpoint 5, its key the old one again; the PENDKEY of it not yet confirmed; the counters at their end. -/
def tPkg : State := ((tKep.secPut 5 33 1 1).secPut 5 34 1 8).write (tKep.secAddr 5 + 40) tPocket.wrap
def tPkgHeld : State := tPkg.setTwn { tPkg.twn with unconf := [(1, .keyUpdate 5)] }
def tKepEnd : State := (tKep.secPut 5 16 8 (2 ^ 64 - 4096)).secPut 5 24 8 (2 ^ 64 - 4096)
def tPkgEnd : State := (tPkg.secPut 5 16 8 (2 ^ 64 - 4096)).secPut 5 24 8 (2 ^ 64 - 4096)

/-- The chip as the active of a twin that is not alone. -/
def tAct0 (s : State) : State := (s.setFlag fTWNCFG_EN true).fset fTWNSTAT_ROLE roleActive

theorem test_new_wrap : ∃ w, tKep.newWrap 5 = some w ∧ w.length = 40 := by
  refine ⟨_, by unfold State.newWrap; dsimp only; exact if_neg (by decide +kernel), ?_⟩
  simp only [ofNats, List.length_map, kwWrap_length]
  decide +kernel

/-- The ingest of an accepted frame has answered with this ISN. -/
def tIsOk : Ing → Nat → Bool
  | .ok _ m, n => m == n
  | _, _ => false

theorem test_is_ok {i : Ing} {n : Nat} (h : tIsOk i n = true) : ∃ u, i = .ok u n := by
  cases i with
  | ok u m => exact ⟨u, by rw [eq_of_beq h]⟩
  | _ => cases h

theorem test_ingest_frame :
    ∃ u, ((tKep.setKep { tKep.kep with reports := {} :: tKep.kep.reports }).aeCount 0 false).ingest 5 9 0 [⟨1000, 1, 0, 42, 0⟩] = .ok u 1 :=
  test_is_ok (by decide +kernel)

theorem test_ingest_apdu :
    ∃ u, ((((tKep.setFlag fDLMCFG_EN true).aeCount 0 false).setKep { ((tKep.setFlag fDLMCFG_EN true).aeCount 0 false).kep with
      apdus := (5, ofNats (gcmCrypt (nats ((List.replicate 32 (2 : Byte)).take 16)) (nats (List.replicate 8 (0 : Byte) ++ beBytes 4 9)) (nats (sub tApdu 24 1)))) ::
        tKep.kep.apdus }).bump fDLMBADTIME_COUNT 0).ingest 5 9 9 [⟨3600000, 1, 0, 42, 9⟩] = .ok u 1 :=
  test_is_ok (by decide +kernel)

/-- An AES job in queue 1: mode, source and destination in DA, key slot 1 of any engine, `n` bytes of message. -/
def tAes (m iv tag aad n : Nat) (src : List Byte) : State :=
  ((((((((tKep.setFlag fAESCFG_EN true).fset fAESCFG_JOBQ 1).fset fAESCFG_DONEQ 2).setReg (rQCFG 1) 0x84000000).setReg (rQCFG 2) 0x84000100).fset
    (fDDRSTAT_SIZE 0) 4).setSlot 1 { typ := 2, mask := 0xCF, kid := 3, mat := List.replicate 32 1 }).write 0x010000000000 src).enqueue 1
      (plainDesc [m + 2 ^ 8 * tag + 2 ^ 16 * iv + 2 ^ 31, 1, aad, n, 0, 0x100 + 7 * 2 ^ 16, 0x1000, 0x100])

/-- The job itself. -/
def tAesJ (m iv tag aad n : Nat) : AesJob := ⟨m, 0, tag, iv, 1, 1, aad, n, 0x010000000000, 7, 0x010000001000⟩

/-- A tag as GCM, CCM or CMAC gives it for one byte 5, IVs of zeros and the key of slot 1. -/
def tGcm : List Byte := List.replicate 12 0 ++ [5] ++ ofNats ((gcmTag (List.replicate 32 1) (List.replicate 12 0) [] [5]).take 12)
def tCcm : List Byte :=
  List.replicate 13 0 ++ [5] ++ ofNats (ccmTag (List.replicate 32 1) (List.replicate 13 0) [] (ccmCrypt (List.replicate 32 1) (List.replicate 13 0) [5]) 4)
def tCmac : List Byte := [5] ++ ofNats ((aesCmac (List.replicate 32 1) [5]).take 8)

/-- The source of that job holds poison. -/
def tPois (s : State) : State := { s with poison := [0x010000000000 / 8] }

/-- A setpoint group under slot 1 whose counter has room. -/
def tSp : State := (tKep.setSlotCeil 1 4096).setKep { (tKep.setSlotCeil 1 4096).kep with spGroup := 9, spSlot := 1 }

/-- An IPv6 packet with 10 bytes of UDP to a port, its checksum right, as payload of an Ethernet frame without a VLAN tag. -/
def tIp (port sum : Nat) : List Byte :=
  [0x60, 0, 0, 0, 0, 10, 17, 64] ++ beBytes 16 1 ++ beBytes 16 2 ++ (beBytes 2 7 ++ beBytes 2 port ++ [0, 10] ++ beBytes 2 sum ++ [5, 6])
def tEth (pkt : List Byte) : List Byte := List.replicate 12 0 ++ beBytes 2 0x86DD ++ pkt

/-- Ethernet ports 0 and 1 are up; address 2 is port 0's. -/
def tEn : State :=
  (((((((State.reset.setFlag (fENCFG_EN 0) true).setFlag (fENSTAT_LINK 0) true).setFlag (fENCFG_FWD 0) true).fset (fENCFG_MTU 0) 1500).setFlag
    (fENCFG_EN 1) true).setFlag (fENSTAT_LINK 1) true).fset (fENADDR_ADDR 0 0) 2).fset fRELCFG_PORT 0x1234

/-- A REMOTE entry of EUI-64 99 in EPTDATA. -/
def tEptB : List Byte := leBytes 8 99 ++ leBytes 4 (2 ^ 31) ++ List.replicate 20 0
def tEpt : State := State.reset.fset fEPTDATA_ENTRY (leNat tEptB)

/-- The four ways of that bucket are taken, and the overflow store counts as full. -/
def tEptFull : State :=
  (((((tEpt.write (eptAddr (4 * eptBucket 99)) (leBytes 8 1 ++ leBytes 4 (2 ^ 31))).write (eptAddr (4 * eptBucket 99 + 1)) (leBytes 8 2 ++ leBytes 4 (2 ^ 31))).write
    (eptAddr (4 * eptBucket 99 + 2)) (leBytes 8 3 ++ leBytes 4 (2 ^ 31))).write (eptAddr (4 * eptBucket 99 + 3)) (leBytes 8 4 ++ leBytes 4 (2 ^ 31))).fset fEPTUSED_OVF 8192)

theorem test_get_high {l : Store Byte} {k : Nat} (h : (l.all fun e => decide (e.1 < k)) = true) : l.get memDefault k = memDefault k := by
  induction l with
  | nil => rfl
  | cons e l ih =>
    simp only [List.all_cons, Bool.and_eq_true, decide_eq_true_eq] at h
    rw [Store.get, if_neg (by omega), if_neg (by omega), ih h.2]

theorem test_bytes_high (l : Store Byte) (k n : Nat) (h : (l.all fun e => decide (e.1 < k)) = true) : getBytes l k n = getBytes [] k n := by
  induction n generalizing k with
  | zero => rfl
  | succ n ih =>
    have h2 : (l.all fun e => decide (e.1 < k + 1)) = true := by
      simp only [List.all_eq_true, decide_eq_true_eq] at h ⊢
      intro e he
      have := h e he
      omega
    rw [getBytes, getBytes, ih _ h2, test_get_high h]
    rfl

theorem test_ept_next (i : Nat) : eptAddr i < eptAddr (i + 1) := by
  by_cases h1 : i < 524288 <;> by_cases h2 : i + 1 < 524288 <;> simp only [eptAddr, h1, h2, if_true, if_false] <;> omega

theorem test_scan_empty (s : State) (eui n i : Nat) (h : (s.mem.all fun e => decide (e.1 < eptAddr i)) = true)
    (hd : ∀ a, memDefault a = 0) : s.eptScan eui n i = none := by
  induction n generalizing i with
  | zero => rfl
  | succ n ih =>
    have h2 : (s.mem.all fun e => decide (e.1 < eptAddr (i + 1))) = true := by
      rw [List.all_eq_true] at h ⊢
      intro e he
      exact decide_eq_true (Nat.lt_trans (of_decide_eq_true (h e he)) (test_ept_next i))
    have ht : (s.eptEntry i).typ = 0 := by
      unfold State.eptEntry State.bytes
      rw [test_bytes_high _ _ _ h]
      simp [EptEntry.parse, getBytes, Store.get, hd, le, sub, leNat, bits]
    rw [State.eptScan, if_neg (by simp [ht])]
    exact ih _ h2

theorem test_ept_full : tEptFull.eptFind (EptEntry.parse tEptB).eui = none := by
  unfold State.eptFind
  rw [show tEptFull.eptScan (EptEntry.parse tEptB).eui 4 (4 * eptBucket (EptEntry.parse tEptB).eui) = none by decide +kernel]
  rw [show tEptFull.fget fEPTUSED_OVF = 8192 by decide +kernel]
  simp only [show ¬ (8192 = 0) by decide, if_false]
  exact test_scan_empty _ _ _ _ (by decide +kernel) fun _ => rfl

/-- The local endpoint 77 and the command to read or delete its entry. -/
def tEptL : State := tKep.fset fEPTDATA_ENTRY 77

def tSum : Nat := 59542

/-- A cell of one MGMT message of two bytes for chip 0, TSEQ 0 or 5. -/
def tCellOf (w crc : Nat) : List Byte :=
  [0xD8, 0, 7, 2, 0, 0, 0, 9, 5, 6] ++ List.replicate 70 0 ++ beBytes 4 w ++ beBytes 4 crc
def tCell : List Byte := tCellOf 0 0x88ac1363
def tCell5 : List Byte := tCellOf (5 * 2 ^ 20) 3826269651

/-- Cells whose CRC is right: a reserved TYPE, an IDLE cell, an IDLE cell with a NAK, the first of a longer message, a message for chip 1. -/
def tCellSeal (h : List Byte) (w : Nat) : List Byte :=
  let b := h ++ List.replicate (80 - h.length) 0 ++ beBytes 4 w
  b ++ beBytes 4 (crc32 b)
def tCellB : List Byte := tCellSeal [0xD8, 0, 0x20, 2, 0, 0, 0, 9, 5, 6] 0
def tCellI : List Byte := tCellSeal [0, 0, 0, 0, 0, 0, 0, 0] 0
def tCellN : List Byte := tCellSeal [0, 0, 0, 0, 0, 0, 0, 0] (4095 * 256 + 128)
def tCellS : List Byte := tCellSeal [0xD0, 0, 7, 2, 0, 0, 0, 9, 5, 6] 0
def tCellF : List Byte := tCellSeal [0xD8, 0x20, 7, 2, 0, 0, 0, 9, 5, 6] 0

/-- Link DL0 of chip 0 of two is up. -/
def tDl : State := (((State.reset.setFlag (fDLCFG_EN 0) true).setFlag (fDLSTAT_UP 0) true).fset fSEMCFG_NCHIPS 2).fset (fDLCFG_RETRYMAX 0) 4

/-- A cell that waits for its ASEQ. -/
def tDlC : DlCell := ⟨3, false, true, true, 1, 0, 7, 0, [1], []⟩
def tDlR : State := (tDl.setTime { raw := 1000000 }).setDl 0 { tseq := 1, retry := [(0, tDlC)] }

/-- The HELLO of chip 1 of two. -/
def tHello : List Byte := [1, 2, 0, 0] ++ List.replicate 20 0

/-- The chip serves a calendar as chip 0 of two. -/
def tSeam : State := (tKep.fset fSEMCFG_NCHIPS 2).fset fSEMCFG_MOVETMO 1
def tOld : State := (tSeam.setTime { raw := 5000000000, offset := 9000000000000000 }).setMov { pending := true, bucket := 0, newHome := 1, m := 9, cutAt := some 0 }
def tNew : State := (tSeam.seamPut 0 1 0 false).setMov { pending := true, bucket := 0, newHome := 0, oldHome := 1, m := 9 }

/-- The MOVE message of EUI-64 99, EPI 6. -/
def tMove : List Byte := List.replicate 5320 0 ++ (leBytes 8 99 ++ leBytes 4 (6 + 2 ^ 30) ++ List.replicate 20 0)

/-- The same with an EPI that another LOCAL entry holds; the new home with all of its endpoints written. -/
def tMove5 : List Byte := List.replicate 5320 0 ++ (leBytes 8 99 ++ leBytes 4 (5 + 2 ^ 30) ++ List.replicate 20 0)
def tNewIn : State := tNew.setMov { tNew.mov with expected := some 0 }

theorem test_snd {α β : Type} {p : α × β} {a : α} (h : p.1 = a) : p = (a, p.2) := by
  cases p; cases h; rfl

/-- A batch of one record in flight, and a session it belongs to. -/
def tBatch : Batch := ⟨0, [{ typ := 5 }], [[1, 2]], 0, true, false⟩
def tSess : Sess :=
  { sid := 7, nonceD := List.replicate 32 4, secret := List.replicate 32 3, kUp := List.replicate 32 6, kDown := List.replicate 32 6, ack := true, initAt := 0
    bseq := 1, flight := [tBatch] }

/-- A chip in SERVICE with sessions on Ethernet port 0, and the session given. -/
def tSes (c : Option Sess) : State :=
  ((((((State.reset.fset fMODESTAT_MODE modeService).setFlag fREPCFG_EN true).fset fREPCFG_MTU 1400).fset fREPCFG_WIN 4).setTime { raw := 100000000000000 }).setCur c)

/-- A recorder record of RSEQ 77, CODE 5, REPEAT 2. -/
def tEvRec : List Byte := leBytes 4 1 ++ leBytes 2 5 ++ leBytes 2 2 ++ leBytes 8 77 ++ List.replicate 112 0

/-- An ACCEPT, a BACK that covers batch 0 and a CLOSE of that session. -/
def tAccept : List Byte :=
  [0x4B, 0x4E, 1, 2, 0, 0, 0, 0] ++ beBytes 8 7 ++ List.replicate 32 5 ++ List.replicate 8 0 ++ beBytes 16 0x5023139d6f700639ea17089472d67563
def tBack : List Byte := [0x4B, 0x4E, 1, 4, 0, 0, 0, 0] ++ beBytes 8 7 ++ beBytes 8 1 ++ beBytes 8 0 ++ beBytes 16 0x5b448ee8db63e0d8db8fccec91c5e81d
def tClose : List Byte := [0x4B, 0x4E, 1, 6, 0, 0, 0, 0] ++ beBytes 8 7 ++ beBytes 8 0 ++ beBytes 8 9 ++ beBytes 16 0x259b4f8ac7cf572c0b056c1665fa3971

/-- The collector's public key in slot 2 as REPKEYS names it, the identity key in slot 0. -/
def tOpen : State :=
  (((tSes none).fset fREPKEYS_CKEY 2).setSlot 2 { typ := 7, mask := 0x20, cell := 0, dig := sha3_256 [] }).setSlot 0
    { typ := 4, mask := 0x10, mat := List.replicate 32 1 }

/-- The active of a twin that is alone, and the standby of a twin in sync. -/
def tAct : State := ((tKep.setFlag fTWNCFG_EN true).fset fTWNSTAT_ROLE roleActive).setFlag fTWNSTAT_ALONE true
def tStby : State :=
  (((((tKep.setFlag fTWNCFG_EN true).fset fMODESTAT_MODE modeStandby).fset fTWNSTAT_ROLE roleStandby).fset fTWNSTAT_SYNC syncSynced).setFlag fTWNSTAT_ACTIN
    true).setTwn { adopt := false, expect := 4, downAt := some 0, inactSince := some 0 }
def tLater (s : State) : State := s.setTime { s.time with raw := 10000000000000 }

/-- An active with one checkpoint of one endpoint. -/
def tCkd1 : Ckpt := { gen := 1, kLast := 0, lowIsn := 3, recs := [⟨5, List.replicate 5352 1, [2]⟩] }
def tCkd : State := tAct.setMrm { tAct.mrm with ckpts := [tCkd1] }

/-- A command of endpoint 5 as a journal entry of ISN 3. -/
def tCmdEnt : List Byte := (⟨jkCommand, 1, 5, leBytes 2 3 ++ leBytes 2 7 ++ List.replicate 20 0⟩ : JEnt).bytes 3

/-- The reading of endpoint 5 as a journal entry of ISN 3. -/
def tReadEnt : List Byte := (readingsEntry 5 9 0 7 [(⟨1000, 1, 0, 42, 0⟩, .inTime)]).bytes 3

theorem test_rescue :
    ∃ u, tAct.ingest (entEpi tReadEnt) (max (tAct.lastIc (entEpi tReadEnt)) (le (tReadEnt.drop 16) 16 8)) (le (tReadEnt.drop 16) 8 4)
      ((entryReadings (entN tReadEnt) (tReadEnt.drop 16)).map (·.1)) = .ok u 1 :=
  test_is_ok (by decide +kernel)

/-- The journal has taken a write. -/
def tWritten : JRes → Bool
  | .ok _ => true
  | _ => false

theorem test_written {j : JRes} (h : tWritten j = true) : ∃ u, j = .ok u := by
  cases j with
  | ok u => exact ⟨u, rfl⟩
  | _ => cases h

theorem test_rescue_cmd :
    ∃ u, tAct.journal [⟨jkCommand, 1, entEpi tCmdEnt, splice (tCmdEnt.drop 16) 2 (leBytes 2 (tAct.fget (fLDGPRG_HANDLE 0)))⟩] (fun _ => .free) = .ok u :=
  test_written (by decide +kernel)

/-- The operands of a key command, over a DA of 4 GiB. -/
def tKey (slot pslot typ mask epi : Nat) (s : State) : State :=
  ((((((s.fset (fDDRSTAT_SIZE 0) 4).fset fKEYARG_SLOT slot).fset fKEYARG_PSLOT pslot).fset fKEYARG_TYPE typ).fset fKEYARG_MASK mask).fset fKEYARG_EPI epi).fset
    fKEYARG_ADDR 0x010000000000

/-- A blob of the key of 32 bytes 2 under the key of slot 1, TYPE 2, MASK 0x8F, KID 9. -/
def tBlob : List Byte := [2, 0x8F, 0, 0] ++ beBytes 4 9 ++ beBytes 40 0xc7f11b0d0927f5926eb7b7c011bc229c559c84c7faf828c7dc86d79fa7d35376a78a8ee8efe9b9

/-- An authorisation record: GEN of slot 3, SEQ 1, EUI-64 0. -/
def tAuth : List Byte := leBytes 4 0x4B415554 ++ [1, 1, 3, 0] ++ leBytes 8 0 ++ leBytes 8 1 ++ List.replicate 40 0

/-- A private signing key in slot 0, a public one in slot 4. -/
def tIds : State :=
  ((tKep.fset (fDDRSTAT_SIZE 0) 4).setSlot 0 { typ := 4, mask := 0x90, mat := List.replicate 32 1 }).setSlot 4
    { typ := 5, mask := 0x10, cell := 0, dig := sha3_256 [] }

/-- A job of an engine in queue 1. -/
def tJob (op slot dslot outlen dmask len : Nat) (s : State) : State :=
  (((s.fset (fDDRSTAT_SIZE 0) 4).setReg (rQCFG 1) 0x84000000).setReg (rQCFG 2) 0x84000100).enqueue 1
    (plainDesc [op + 2 ^ 31, slot + 2 ^ 16 * dslot, outlen + 2 ^ 16 * dmask, len, 0, 0x100 + 7 * 2 ^ 16, 0x10000, 0x100])
def tSha : State := ((tKep.fset fSHACFG_JOBQ 1).fset fSHACFG_DONEQ 2).setFlag fSHACFG_EN true
def tDsa : State := ((tIds.fset fDSACFG_JOBQ 1).fset fDSACFG_DONEQ 2).setFlag fDSACFG_EN true
def tKem : State :=
  ((((tIds.fset fKEMCFG_JOBQ 1).fset fKEMCFG_DONEQ 2).setFlag fKEMCFG_EN true).setSlot 20 { typ := 7, mask := 0x20, cell := 0, dig := sha3_256 [] }).setSlot 21
    { typ := 6, mask := 0xA0, mat := List.replicate 64 1 }

theorem test_no_unconf {s : State} (h : s.twn.unconf = []) : ∀ e ∈ s.twn.unconf, e.2 = .free ∨ ∃ i, e.2 = .ack i := by
  rw [h]; intro e he; cases he

/-- Tamper source 0 enabled with action ERASE, a secret key in slot 21. -/
def tTmp : State := (tKem.fset fTMPCFG_TEN 1).fset fTMPCFG_TACT 1
/-- The same source records only. -/
def tTmp0 : State := tTmp.fset fTMPCFG_TACT 0

/-- A chip in COMMISSION whose slots 0 and 2 to 5 hold keys. -/
def tProv (life steps : Nat) : State :=
  (((((((((State.reset.fset fMODESTAT_MODE modeCommission).fset fLCSSTAT_STATE life).fset fLCSSTAT_STEPS steps).setSlot 0 { typ := 4 }).setSlot 2
    { typ := 5, cell := 0 }).setSlot 3 { typ := 5, cell := 1 }).setSlot 4 { typ := 5, cell := 2 }).setSlot 5 { typ := 6 }).setPwr
    { bootStep := 7 })
/-- A FIELD chip armed for an OP. -/
def tArmed (op : Nat) : State := (tProv lifeField 2).setKey { (tProv lifeField 2).key with armed := some (op, 0, []) }

/-- A header of kind, one code entry of 64 bytes, epoch 0, version 1. -/
def tHdr : List Byte :=
  leBytes 4 0x4B494D47 ++ [1, 0, 0, 0] ++ leBytes 4 1 ++ [1, 0, 1, 0] ++ leBytes 4 64 ++ List.replicate 12 0 ++ ([1, 0, 0, 0, 0, 0, 0, 0] ++ leBytes 4 64 ++
    List.replicate 4 0) ++ List.replicate 4880 0
/-- A candidate image in DA. -/
def tUpd : State := ((State.reset.fset (fDDRSTAT_SIZE 0) 4).fset fUPDADDR_ADDR 0x010000000000).write 0x010000000000 (tHdr ++ List.replicate 64 7)
/-- The same, checked. -/
def tChk : State := (tUpd.setUpd { tUpd.upd with kept := tHdr }).setFlag fUPDRES_CHECKED true
/-- Slot 0 runs on trial with three clean boots and its self-test passed. -/
def tTrial : State :=
  ((((State.reset.setFlag fUPDSTAT_TRIAL true).fset (fUPDSLOT_STATE 0) usTrial).fset (fUPDSLOT_CLEANCNT 0) 3).setFlag fUPDSTAT_STPASS true).setUpd
    { State.reset.upd with hdrs := [(0, tHdr)] }

/-- The flash is mounted; its engine takes jobs from queue 1. -/
def tNd : State :=
  (((((((((tKep.fset (fDDRSTAT_SIZE 0) 4).setReg (rQCFG 1) 0x84000000).setReg (rQCFG 2) 0x84000100).setFlag fNFCSTAT_MOUNTED true).fset fNFCCFG_JOBQ 1).fset
    fNFCCFG_DONEQ 2).setFlag fNFCCFG_EN true).fset fNFCGC_FG_HI 10).setFlag fNFCSTAT_RO false)
/-- With a job: OP, class, unit, units, destination unit; memory at the start of DA. -/
def tNj (op cls lba len dlba : Nat) : State :=
  tNd.enqueue 1 (plainDesc [op + 2 ^ 4 * cls + 2 ^ 31, 7, lba, 0, len, dlba, 0, 0x100])
/-- With block 0 closed and half valid, block 1 the next free one, few blocks left. -/
def tGc : State :=
  tNd.setNfc { tNd.nfc with nblk := 4, perBlk := 4, blocks := [(0, { st := .closed, fill := 4, units := [1, 3], erase := 1 }), (1, { st := .closed, fill := 4, units :=
    [4, 5, 6, 7] }), (2, { st := .free, erase := 9 }), (3, { st := .closed, fill := 4, units := [8, 9, 10, 11], erase := 2 })], rewrite := [0] }
/-- A program write that succeeds. -/
def tNOk : NRes → Bool
  | .ok _ => true
  | _ => false
theorem test_nand_ok {r : NRes} (h : tNOk r = true) : ∃ u, r = .ok u := by
  cases r with
  | ok u => exact ⟨u, rfl⟩
  | _ => cases h
theorem test_nand_write (s : State) (j : NandJob) (fails : Nat)
    (h : tNOk (((s.dequeued (s.fget fNFCCFG_JOBQ)).touch j.da (4096 * j.len)).writeUnits j.cls fails (unitKeys j.cls j.lba j.len)
      (fun u => (s.dequeued (s.fget fNFCCFG_JOBQ)).bytes (j.da + 4096 * (u - (j.cls * 2 ^ 40 + j.lba))) 4096)) = true) :
    ∃ v, ((s.dequeued (s.fget fNFCCFG_JOBQ)).touch j.da (4096 * j.len)).writeUnits j.cls fails (unitKeys j.cls j.lba j.len)
      (fun u => (s.dequeued (s.fget fNFCCFG_JOBQ)).bytes (j.da + 4096 * (u - (j.cls * 2 ^ 40 + j.lba))) 4096) = .ok v :=
  test_nand_ok h
theorem test_nand_migrate (s : State) (j : NandJob) (fails : Nat)
    (h : tNOk ((s.dequeued (s.fget fNFCCFG_JOBQ)).writeUnits 1 fails (unitKeys 1 j.dlba j.len)
      (fun u => s.unitData (j.lba + (u - (2 ^ 40 + j.dlba))))) = true) :
    ∃ v, (s.dequeued (s.fget fNFCCFG_JOBQ)).writeUnits 1 fails (unitKeys 1 j.dlba j.len)
      (fun u => s.unitData (j.lba + (u - (2 ^ 40 + j.dlba)))) = .ok v :=
  test_nand_ok h
/-- A ring with a due entry of 32 bytes. -/
def tRing : State := (tNd.setMrm { tNd.mrm with ring := [⟨0, 32, 0⟩, ⟨32, 64, 5⟩] }).setTime { raw := 10000000000 }
def tBatched : State := tRing.setMrm { tRing.mrm with batch := 1 }
/-- A checkpoint in progress on a serving chip. -/
def tCk : State := (tNd.setFlag fMRMCKPT_BUSY true).setMrm { tNd.mrm with ckptFrom := some 0 }


/-! ## The hypotheses of the statements can be met -/

/-- The hypotheses of RegisterArithmetic can be met. -/
theorem test_meets_register_arithmetic :
    (∃ (c : CoreId) (s : State),
      s.goes c 1 = true) :=
  ⟨.lc 0, tLc, by decide +kernel⟩

/-- The hypotheses of DivisionCorners can be met. -/
theorem test_meets_division_corners :
    (∃ (c : CoreId) (s : State),
      s.goes c 1 = true) :=
  ⟨.lc 0, tLc, by decide +kernel⟩

/-- The hypotheses of BranchesFollow can be met. -/
theorem test_meets_branches_follow :
    (∃ (c : CoreId) (s : State),
      s.goes c 1 = true) :=
  ⟨.lc 0, tLc, by decide +kernel⟩

/-- The hypotheses of JumpsToRegisters can be met. -/
theorem test_meets_jumps_to_registers :
    (∃ (c : CoreId) (a : RegNo) (s : State),
      s.goes c 1 = true ∧
      s.gp c a = false) ∧
    (∃ (c : CoreId) (a : RegNo) (s : State),
      s.goes c 1 = true ∧
      s.gp c a = true) :=
  ⟨⟨.lc 0, 5, tLc, by decide +kernel⟩,
   ⟨.lc 0, 7, tLc.onCpu (.lc 0) fun u => u.setG 7 ⟨5, true⟩, by decide +kernel⟩⟩

/-- The hypotheses of CarryAndFlags can be met. -/
theorem test_meets_carry_and_flags :
    (∃ (c : CoreId) (s : State),
      s.goes c 1 = true) :=
  ⟨.lc 0, tLc, by decide +kernel⟩

/-- The hypotheses of ControlLoads can be met: part 1. -/
theorem test_meets_control_loads_1 :
    (∃ (k : Fin 4) (a : RegNo) (i : BitVec 12) (s : State) (p : Place),
      s.goes (.cc k) 1 = true ∧
      s.gp (.cc k) a = false ∧
      (s.begun (.cc k) 1).access k.val .load (effAddr (s.gv (.cc k) a) i) 1 = .ok p ∧
      (s.begun (.cc k) 1).region p.pa 1 ≠ some .csr) ∧
    (∃ (k : Fin 4) (a : RegNo) (i : BitVec 12) (s : State) (p : Place),
      s.goes (.cc k) 1 = true ∧
      s.gp (.cc k) a = false ∧
      (s.begun (.cc k) 1).access k.val .load (effAddr (s.gv (.cc k) a) i) 2 = .ok p ∧
      (s.begun (.cc k) 1).region p.pa 2 ≠ some .csr) ∧
    (∃ (k : Fin 4) (a : RegNo) (i : BitVec 12) (s : State) (p : Place),
      s.goes (.cc k) 1 = true ∧
      s.gp (.cc k) a = false ∧
      (s.begun (.cc k) 1).access k.val .load (effAddr (s.gv (.cc k) a) i) 4 = .ok p ∧
      (s.begun (.cc k) 1).region p.pa 4 ≠ some .csr) ∧
    (∃ (k : Fin 4) (rd : RegNo) (a : RegNo) (i : BitVec 12) (s : State) (p : Place),
      s.goes (.cc k) 1 = true ∧
      s.gp (.cc k) a = false ∧
      pairOk rd = true ∧
      (s.begun (.cc k) 1).access k.val .load (effAddr (s.gv (.cc k) a) i) 8 = .ok p ∧
      (s.begun (.cc k) 1).region p.pa 8 ≠ some .csr) ∧
    (∃ (k : Fin 4) (rd : RegNo) (s : State),
      s.goes (.cc k) 1 = true ∧
      pairOk rd = false) ∧
    (∃ (k : Fin 4) (a : RegNo) (s : State),
      s.goes (.cc k) 1 = true ∧
      s.gp (.cc k) a = true) ∧
    (∃ (k : Fin 4) (a : RegNo) (i : BitVec 12) (s : State) (x : Status),
      s.goes (.cc k) 1 = true ∧
      s.gp (.cc k) a = false ∧
      (s.begun (.cc k) 1).access k.val .load (effAddr (s.gv (.cc k) a) i) 1 = .error x) ∧
    (∃ (k : Fin 4) (a : RegNo) (i : BitVec 12) (s : State) (x : Status),
      s.goes (.cc k) 1 = true ∧
      s.gp (.cc k) a = false ∧
      (s.begun (.cc k) 1).access k.val .load (effAddr (s.gv (.cc k) a) i) 2 = .error x) :=
  ⟨⟨0, 0, 0x40, tCc, ⟨daBase + 0x40, 0⟩, by decide +kernel⟩,
   ⟨0, 0, 0x40, tCc, ⟨daBase + 0x40, 0⟩, by decide +kernel⟩,
   ⟨0, 0, 0x40, tCc, ⟨daBase + 0x40, 0⟩, by decide +kernel⟩,
   ⟨0, 2, 0, 0x40, tCc, ⟨daBase + 0x40, 0⟩, by decide +kernel⟩,
   ⟨0, 3, tCc, by decide +kernel⟩,
   ⟨0, 7, tCc.onCpu (.cc 0) fun u => u.setG 7 ⟨5, true⟩, by decide +kernel⟩,
   ⟨0, 5, 0, tCc.onCpu (.cc 0) fun u => u.setG 5 ⟨0x4000000, false⟩, .badAddress, by decide +kernel⟩,
   ⟨0, 5, 0, tCc.onCpu (.cc 0) fun u => u.setG 5 ⟨0x4000000, false⟩, .badAddress, by decide +kernel⟩⟩

/-- The hypotheses of ControlLoads can be met: part 2. -/
theorem test_meets_control_loads_2 :
    (∃ (k : Fin 4) (a : RegNo) (i : BitVec 12) (s : State) (x : Status),
      s.goes (.cc k) 1 = true ∧
      s.gp (.cc k) a = false ∧
      (s.begun (.cc k) 1).access k.val .load (effAddr (s.gv (.cc k) a) i) 4 = .error x) ∧
    (∃ (k : Fin 4) (rd : RegNo) (a : RegNo) (s : State),
      s.goes (.cc k) 1 = true ∧
      pairOk rd = true ∧
      s.gp (.cc k) a = true) ∧
    (∃ (k : Fin 4) (rd : RegNo) (a : RegNo) (i : BitVec 12) (s : State) (x : Status),
      s.goes (.cc k) 1 = true ∧
      s.gp (.cc k) a = false ∧
      pairOk rd = true ∧
      (s.begun (.cc k) 1).access k.val .load (effAddr (s.gv (.cc k) a) i) 8 = .error x) ∧
    (∃ (s : State) (k : Nat) (ea : Nat) (n : Nat) (right : Acc) (acc : Acc) (p : Place),
      s.accessAs k right acc ea n = .ok p ∧
      s.region p.pa n = some .csr) ∧
    (∃ (k : Fin 4) (a : RegNo) (i : BitVec 12) (s : State) (p : Place),
      s.goes (.cc k) 1 = true ∧
      s.gp (.cc k) a = false ∧
      (s.begun (.cc k) 1).access k.val .load (effAddr (s.gv (.cc k) a) i) 4 = .ok p ∧
      (s.begun (.cc k) 1).region p.pa 4 = some .csr ∧
      ((s.begun (.cc k) 1).csrRead (.cc k) (p.pa - csrBase)).answer.status = .done) ∧
    (∃ (k : Fin 4) (a : RegNo) (i : BitVec 12) (s : State) (p : Place) (x : Status),
      s.goes (.cc k) 1 = true ∧
      s.gp (.cc k) a = false ∧
      (s.begun (.cc k) 1).access k.val .load (effAddr (s.gv (.cc k) a) i) 4 = .ok p ∧
      (s.begun (.cc k) 1).region p.pa 4 = some .csr ∧
      x = ((s.begun (.cc k) 1).csrRead (.cc k) (p.pa - csrBase)).answer.status ∧
      x ≠ .done) :=
  ⟨⟨0, 5, 0, tCc.onCpu (.cc 0) fun u => u.setG 5 ⟨0x4000000, false⟩, .badAddress, by decide +kernel⟩,
   ⟨0, 2, 7, tCc.onCpu (.cc 0) fun u => u.setG 7 ⟨5, true⟩, by decide +kernel⟩,
   ⟨0, 2, 5, 0, tCc.onCpu (.cc 0) fun u => u.setG 5 ⟨0x4000000, false⟩, .badAddress, by decide +kernel⟩,
   ⟨tCc.setReg (rWIN 0 1) (0xE0F + csrBase), 0, 0x4000000, 4, .load, .load, ⟨csrBase, 0⟩, by decide +kernel⟩,
   ⟨0, 5, 0, ((tCc.setReg (rWIN 0 1) (0xE0F + csrBase)).onCpu (.cc 0) fun u => u.setG 5 ⟨0x4000000 + BitVec.ofNat 32 rLPCTL, false⟩), ⟨csrBase + rLPCTL, 0⟩, by decide +kernel⟩,
   ⟨0, 5, 0, (((tCc.setReg (rWIN 0 1) (0xE0F + csrBase)).onCpu (.cc 0) fun u => u.setG 5 ⟨0x4000000 + BitVec.ofNat 32 rLPCTL, false⟩).onCpu (.cc 0) fun u => u.setG 5 ⟨0x4FF0000, false⟩), ⟨csrBase + 0xFF0000, 0⟩, (((((((tCc.setReg (rWIN 0 1) (0xE0F + csrBase)).onCpu (.cc 0) fun u => u.setG 5 ⟨0x4000000 + BitVec.ofNat 32 rLPCTL, false⟩).onCpu (.cc 0) fun u => u.setG 5 ⟨0x4FF0000, false⟩) : State).begun (.cc (0 : Fin 4)) 1).csrRead (.cc (0 : Fin 4)) ((⟨csrBase + 0xFF0000, 0⟩ : Place).pa - csrBase)).answer.status), by decide +kernel⟩⟩

/-- The hypotheses of ControlStores can be met: part 1. -/
theorem test_meets_control_stores_1 :
    (∃ (k : Fin 4) (a : RegNo) (i : BitVec 12) (s : State) (p : Place),
      s.goes (.cc k) 1 = true ∧
      s.gp (.cc k) a = false ∧
      (s.begun (.cc k) 1).access k.val .store (effAddr (s.gv (.cc k) a) i) 1 = .ok p ∧
      (s.begun (.cc k) 1).region p.pa 1 ≠ some .csr) ∧
    (∃ (k : Fin 4) (a : RegNo) (i : BitVec 12) (s : State) (p : Place),
      s.goes (.cc k) 1 = true ∧
      s.gp (.cc k) a = false ∧
      (s.begun (.cc k) 1).access k.val .store (effAddr (s.gv (.cc k) a) i) 2 = .ok p ∧
      (s.begun (.cc k) 1).region p.pa 2 ≠ some .csr) ∧
    (∃ (k : Fin 4) (a : RegNo) (i : BitVec 12) (s : State) (p : Place),
      s.goes (.cc k) 1 = true ∧
      s.gp (.cc k) a = false ∧
      (s.begun (.cc k) 1).access k.val .store (effAddr (s.gv (.cc k) a) i) 4 = .ok p ∧
      (s.begun (.cc k) 1).region p.pa 4 ≠ some .csr) ∧
    (∃ (k : Fin 4) (rd : RegNo) (a : RegNo) (i : BitVec 12) (s : State) (p : Place),
      s.goes (.cc k) 1 = true ∧
      s.gp (.cc k) a = false ∧
      pairOk rd = true ∧
      (s.begun (.cc k) 1).access k.val .store (effAddr (s.gv (.cc k) a) i) 8 = .ok p ∧
      (s.begun (.cc k) 1).region p.pa 8 ≠ some .csr) ∧
    (∃ (k : Fin 4) (a : RegNo) (i : BitVec 12) (s : State) (p : Place),
      s.goes (.cc k) 1 = true ∧
      s.gp (.cc k) a = false ∧
      (s.begun (.cc k) 1).access k.val .store (effAddr (s.gv (.cc k) a) i) 1 = .ok p ∧
      p.cache = 0 ∧
      (s.begun (.cc k) 1).region p.pa 1 ≠ some .csr) ∧
    (∃ (k : Fin 4) (a : RegNo) (i : BitVec 12) (s : State) (p : Place),
      s.goes (.cc k) 1 = true ∧
      s.gp (.cc k) a = false ∧
      (s.begun (.cc k) 1).access k.val .store (effAddr (s.gv (.cc k) a) i) 2 = .ok p ∧
      p.cache = 0 ∧
      (s.begun (.cc k) 1).region p.pa 2 ≠ some .csr) ∧
    (∃ (k : Fin 4) (a : RegNo) (i : BitVec 12) (s : State) (p : Place),
      s.goes (.cc k) 1 = true ∧
      s.gp (.cc k) a = false ∧
      (s.begun (.cc k) 1).access k.val .store (effAddr (s.gv (.cc k) a) i) 4 = .ok p ∧
      p.cache = 0 ∧
      (s.begun (.cc k) 1).region p.pa 4 ≠ some .csr) ∧
    (∃ (k : Fin 4) (rd : RegNo) (a : RegNo) (i : BitVec 12) (s : State) (p : Place),
      s.goes (.cc k) 1 = true ∧
      s.gp (.cc k) a = false ∧
      pairOk rd = true ∧
      (s.begun (.cc k) 1).access k.val .store (effAddr (s.gv (.cc k) a) i) 8 = .ok p ∧
      p.cache = 0 ∧
      (s.begun (.cc k) 1).region p.pa 8 ≠ some .csr) :=
  ⟨⟨0, 0, 0x40, tCc, ⟨daBase + 0x40, 0⟩, by decide +kernel⟩,
   ⟨0, 0, 0x40, tCc, ⟨daBase + 0x40, 0⟩, by decide +kernel⟩,
   ⟨0, 0, 0x40, tCc, ⟨daBase + 0x40, 0⟩, by decide +kernel⟩,
   ⟨0, 2, 0, 0x40, tCc, ⟨daBase + 0x40, 0⟩, by decide +kernel⟩,
   ⟨0, 0, 0x40, tCc, ⟨daBase + 0x40, 0⟩, by decide +kernel⟩,
   ⟨0, 0, 0x40, tCc, ⟨daBase + 0x40, 0⟩, by decide +kernel⟩,
   ⟨0, 0, 0x40, tCc, ⟨daBase + 0x40, 0⟩, by decide +kernel⟩,
   ⟨0, 2, 0, 0x40, tCc, ⟨daBase + 0x40, 0⟩, by decide +kernel⟩⟩

/-- The hypotheses of ControlStores can be met: part 2. -/
theorem test_meets_control_stores_2 :
    (∃ (k : Fin 4) (rd : RegNo) (s : State),
      s.goes (.cc k) 1 = true ∧
      pairOk rd = false) ∧
    (∃ (k : Fin 4) (a : RegNo) (s : State),
      s.goes (.cc k) 1 = true ∧
      s.gp (.cc k) a = true) ∧
    (∃ (k : Fin 4) (a : RegNo) (i : BitVec 12) (s : State) (x : Status),
      s.goes (.cc k) 1 = true ∧
      s.gp (.cc k) a = false ∧
      (s.begun (.cc k) 1).access k.val .store (effAddr (s.gv (.cc k) a) i) 1 = .error x) ∧
    (∃ (k : Fin 4) (a : RegNo) (i : BitVec 12) (s : State) (x : Status),
      s.goes (.cc k) 1 = true ∧
      s.gp (.cc k) a = false ∧
      (s.begun (.cc k) 1).access k.val .store (effAddr (s.gv (.cc k) a) i) 2 = .error x) ∧
    (∃ (k : Fin 4) (a : RegNo) (i : BitVec 12) (s : State) (x : Status),
      s.goes (.cc k) 1 = true ∧
      s.gp (.cc k) a = false ∧
      (s.begun (.cc k) 1).access k.val .store (effAddr (s.gv (.cc k) a) i) 4 = .error x) ∧
    (∃ (k : Fin 4) (rd : RegNo) (a : RegNo) (s : State),
      s.goes (.cc k) 1 = true ∧
      pairOk rd = true ∧
      s.gp (.cc k) a = true) ∧
    (∃ (k : Fin 4) (rd : RegNo) (a : RegNo) (i : BitVec 12) (s : State) (x : Status),
      s.goes (.cc k) 1 = true ∧
      s.gp (.cc k) a = false ∧
      pairOk rd = true ∧
      (s.begun (.cc k) 1).access k.val .store (effAddr (s.gv (.cc k) a) i) 8 = .error x) ∧
    (∃ (k : Fin 4) (rd : RegNo) (a : RegNo) (i : BitVec 12) (s : State) (p : Place),
      s.goes (.cc k) 1 = true ∧
      s.gp (.cc k) a = false ∧
      (s.begun (.cc k) 1).access k.val .store (effAddr (s.gv (.cc k) a) i) 4 = .ok p ∧
      (s.begun (.cc k) 1).region p.pa 4 = some .csr ∧
      ((s.begun (.cc k) 1).csrWord (.cc k) (p.pa - csrBase) (s.gv (.cc k) rd)).cc k.val = (s.begun (.cc k) 1).cc k.val ∧
      ((s.begun (.cc k) 1).csrWord (.cc k) (p.pa - csrBase) (s.gv (.cc k) rd)).answer.status = .done) :=
  ⟨⟨0, 3, tCc, by decide +kernel⟩,
   ⟨0, 7, tCc.onCpu (.cc 0) fun u => u.setG 7 ⟨5, true⟩, by decide +kernel⟩,
   ⟨0, 5, 0, tCc.onCpu (.cc 0) fun u => u.setG 5 ⟨0x4000000, false⟩, .badAddress, by decide +kernel⟩,
   ⟨0, 5, 0, tCc.onCpu (.cc 0) fun u => u.setG 5 ⟨0x4000000, false⟩, .badAddress, by decide +kernel⟩,
   ⟨0, 5, 0, tCc.onCpu (.cc 0) fun u => u.setG 5 ⟨0x4000000, false⟩, .badAddress, by decide +kernel⟩,
   ⟨0, 2, 7, tCc.onCpu (.cc 0) fun u => u.setG 7 ⟨5, true⟩, by decide +kernel⟩,
   ⟨0, 2, 5, 0, tCc.onCpu (.cc 0) fun u => u.setG 5 ⟨0x4000000, false⟩, .badAddress, by decide +kernel⟩,
   ⟨0, 0, 5, 0, ((tCc.setReg (rWIN 0 1) (0xE0F + csrBase)).onCpu (.cc 0) fun u => u.setG 5 ⟨0x4000000 + BitVec.ofNat 32 rLPCTL, false⟩), ⟨csrBase + rLPCTL, 0⟩, by decide +kernel⟩⟩

/-- The hypotheses of ControlStores can be met: part 3. -/
theorem test_meets_control_stores_3 :
    (∃ (k : Fin 4) (rd : RegNo) (a : RegNo) (i : BitVec 12) (s : State) (p : Place) (x : Status),
      s.goes (.cc k) 1 = true ∧
      s.gp (.cc k) a = false ∧
      (s.begun (.cc k) 1).access k.val .store (effAddr (s.gv (.cc k) a) i) 4 = .ok p ∧
      (s.begun (.cc k) 1).region p.pa 4 = some .csr ∧
      ((s.begun (.cc k) 1).csrWord (.cc k) (p.pa - csrBase) (s.gv (.cc k) rd)).cc k.val = (s.begun (.cc k) 1).cc k.val ∧
      x = ((s.begun (.cc k) 1).csrWord (.cc k) (p.pa - csrBase) (s.gv (.cc k) rd)).answer.status ∧
      x ≠ .done) ∧
    (∃ (k : Fin 4) (rd : RegNo) (a : RegNo) (i : BitVec 12) (s : State) (p : Place),
      s.goes (.cc k) 1 = true ∧
      s.gp (.cc k) a = false ∧
      (s.begun (.cc k) 1).access k.val .store (effAddr (s.gv (.cc k) a) i) 4 = .ok p ∧
      (s.begun (.cc k) 1).region p.pa 4 = some .csr ∧
      ((s.begun (.cc k) 1).csrWord (.cc k) (p.pa - csrBase) (s.gv (.cc k) rd)).cc k.val ≠ (s.begun (.cc k) 1).cc k.val) :=
  ⟨⟨0, 2, 5, 0, ((tCc.setReg (rWIN 0 1) (0xE0F + csrBase)).onCpu (.cc 0) fun u => u.setG 5 ⟨0x4FF0000, false⟩), ⟨csrBase + 0xFF0000, 0⟩, ((((((tCc.setReg (rWIN 0 1) (0xE0F + csrBase)).onCpu (.cc 0) fun u => u.setG 5 ⟨0x4FF0000, false⟩) : State).begun (.cc (0 : Fin 4)) 1).csrWord (.cc (0 : Fin 4)) ((⟨csrBase + 0xFF0000, 0⟩ : Place).pa - csrBase) ((((tCc.setReg (rWIN 0 1) (0xE0F + csrBase)).onCpu (.cc 0) fun u => u.setG 5 ⟨0x4FF0000, false⟩) : State).gv (.cc (0 : Fin 4)) (2 : RegNo))).answer.status), by decide +kernel⟩,
   ⟨0, 9, 5, 0, ((tCc.setReg (rWIN 0 1) (0xE0F + csrBase)).onCpu (.cc 0) fun u => (u.setG 5 ⟨0x4000000 + BitVec.ofNat 32 rSWRESET, false⟩).setG 9 ⟨0x53520000, false⟩), ⟨csrBase + rSWRESET, 0⟩, by decide +kernel⟩⟩

/-- The hypotheses of CsrAndCacheInstructions can be met: part 1. -/
theorem test_meets_csr_and_cache_instructions_1 :
    (∃ (k : Fin 4) (a : RegNo) (s : State),
      s.goes (.cc k) 1 = true ∧
      s.gp (.cc k) a = false ∧
      ((s.begun (.cc k) 1).csrRead (.cc k) (s.gv (.cc k) a).toNat).answer.status = .done ∧
      ((s.begun (.cc k) 1).csrRead (.cc k) (s.gv (.cc k) a).toNat).cc k.val = (s.begun (.cc k) 1).cc k.val) ∧
    (∃ (k : Fin 4) (a : RegNo) (b : RegNo) (s : State),
      s.goes (.cc k) 1 = true ∧
      s.gp (.cc k) a = false ∧
      ((s.begun (.cc k) 1).csrWord (.cc k) (s.gv (.cc k) a).toNat (s.gv (.cc k) b)).answer.status = .done ∧
      ((s.begun (.cc k) 1).csrWord (.cc k) (s.gv (.cc k) a).toNat (s.gv (.cc k) b)).cc k.val = (s.begun (.cc k) 1).cc k.val) ∧
    (∃ (k : Fin 4) (a : RegNo) (s : State),
      s.goes (.cc k) 1 = true ∧
      s.gp (.cc k) a = true) ∧
    (∃ (k : Fin 4) (s : State),
      s.goes (.cc k) 1 = true) ∧
    (∃ (k : Fin 4) (a : RegNo) (s : State) (p : Place),
      s.goes (.cc k) 1 = true ∧
      s.gp (.cc k) a = false ∧
      (s.begun (.cc k) 1).accessAs k.val .store .load (s.gv (.cc k) a).toNat 1 = .ok p) ∧
    (∃ (k : Fin 4) (a : RegNo) (s : State) (p : Place),
      s.goes (.cc k) 1 = true ∧
      s.gp (.cc k) a = false ∧
      (s.begun (.cc k) 1).accessAs k.val .load .load (s.gv (.cc k) a).toNat 1 = .ok p) ∧
    (∃ (k : Fin 4) (a : RegNo) (s : State) (p : Place),
      s.goes (.cc k) 1 = true ∧
      s.gp (.cc k) a = false ∧
      (s.begun (.cc k) 1).accessAs k.val .fetch .load (s.gv (.cc k) a).toNat 1 = .ok p) ∧
    (∃ (k : Fin 4) (a : RegNo) (s : State) (x : Status),
      s.goes (.cc k) 1 = true ∧
      s.gp (.cc k) a = false ∧
      x = ((s.begun (.cc k) 1).csrRead (.cc k) (s.gv (.cc k) a).toNat).answer.status ∧
      x ≠ .done) :=
  ⟨⟨0, 1, tCc, by decide +kernel⟩,
   ⟨0, 1, 0, tCc.onCpu (.cc 0) fun u => u.setG 1 ⟨BitVec.ofNat 32 rLPCTL, false⟩, by decide +kernel⟩,
   ⟨0, 7, tCc.onCpu (.cc 0) fun u => u.setG 7 ⟨5, true⟩, by decide +kernel⟩,
   ⟨0, tCc, by decide +kernel⟩,
   ⟨0, 0, tCc, ⟨daBase, 0⟩, by decide +kernel⟩,
   ⟨0, 0, tCc, ⟨daBase, 0⟩, by decide +kernel⟩,
   ⟨0, 0, tCc, ⟨daBase, 0⟩, by decide +kernel⟩,
   ⟨0, 5, tCc.onCpu (.cc 0) fun u => u.setG 5 ⟨1, false⟩, ((((tCc.onCpu (.cc 0) fun u => u.setG 5 ⟨1, false⟩ : State).begun (.cc (0 : Fin 4)) 1).csrRead (.cc (0 : Fin 4)) ((tCc.onCpu (.cc 0) fun u => u.setG 5 ⟨1, false⟩ : State).gv (.cc (0 : Fin 4)) (5 : RegNo)).toNat).answer.status), by decide +kernel⟩⟩

/-- The hypotheses of CsrAndCacheInstructions can be met: part 2. -/
theorem test_meets_csr_and_cache_instructions_2 :
    (∃ (k : Fin 4) (rd : RegNo) (a : RegNo) (s : State) (x : Status),
      s.goes (.cc k) 1 = true ∧
      s.gp (.cc k) a = false ∧
      ((s.begun (.cc k) 1).csrWord (.cc k) (s.gv (.cc k) a).toNat (s.gv (.cc k) rd)).cc k.val = (s.begun (.cc k) 1).cc k.val ∧
      x = ((s.begun (.cc k) 1).csrWord (.cc k) (s.gv (.cc k) a).toNat (s.gv (.cc k) rd)).answer.status ∧
      x ≠ .done) ∧
    (∃ (k : Fin 4) (rd : RegNo) (a : RegNo) (s : State),
      s.goes (.cc k) 1 = true ∧
      s.gp (.cc k) a = false ∧
      ((s.begun (.cc k) 1).csrWord (.cc k) (s.gv (.cc k) a).toNat (s.gv (.cc k) rd)).cc k.val ≠ (s.begun (.cc k) 1).cc k.val) ∧
    (∃ (k : Fin 4) (a : RegNo) (s : State),
      s.goes (.cc k) 1 = true ∧
      s.gp (.cc k) a = false ∧
      (s.begun (.cc k) 1).accessAs k.val .store .load (s.gv (.cc k) a).toNat 1 = .error .badAlign) ∧
    (∃ (k : Fin 4) (a : RegNo) (s : State) (x : Status),
      s.goes (.cc k) 1 = true ∧
      s.gp (.cc k) a = false ∧
      (s.begun (.cc k) 1).accessAs k.val .store .load (s.gv (.cc k) a).toNat 1 = .error x ∧
      x ≠ .badAlign) ∧
    (∃ (k : Fin 4) (a : RegNo) (s : State),
      s.goes (.cc k) 1 = true ∧
      s.gp (.cc k) a = false ∧
      (s.begun (.cc k) 1).accessAs k.val .load .load (s.gv (.cc k) a).toNat 1 = .error .badAlign) ∧
    (∃ (k : Fin 4) (a : RegNo) (s : State) (x : Status),
      s.goes (.cc k) 1 = true ∧
      s.gp (.cc k) a = false ∧
      (s.begun (.cc k) 1).accessAs k.val .load .load (s.gv (.cc k) a).toNat 1 = .error x ∧
      x ≠ .badAlign) ∧
    (∃ (k : Fin 4) (a : RegNo) (s : State),
      s.goes (.cc k) 1 = true ∧
      s.gp (.cc k) a = false ∧
      (s.begun (.cc k) 1).accessAs k.val .fetch .load (s.gv (.cc k) a).toNat 1 = .error .badAlign) ∧
    (∃ (k : Fin 4) (a : RegNo) (s : State) (x : Status),
      s.goes (.cc k) 1 = true ∧
      s.gp (.cc k) a = false ∧
      (s.begun (.cc k) 1).accessAs k.val .fetch .load (s.gv (.cc k) a).toNat 1 = .error x ∧
      x ≠ .badAlign) :=
  ⟨⟨0, 2, 5, tCc.onCpu (.cc 0) fun u => u.setG 5 ⟨1, false⟩, ((((tCc.onCpu (.cc 0) fun u => u.setG 5 ⟨1, false⟩ : State).begun (.cc (0 : Fin 4)) 1).csrWord (.cc (0 : Fin 4)) ((tCc.onCpu (.cc 0) fun u => u.setG 5 ⟨1, false⟩ : State).gv (.cc (0 : Fin 4)) (5 : RegNo)).toNat ((tCc.onCpu (.cc 0) fun u => u.setG 5 ⟨1, false⟩ : State).gv (.cc (0 : Fin 4)) (2 : RegNo))).answer.status), by decide +kernel⟩,
   ⟨0, 9, 5, ((tCc.setReg (rWIN 0 1) (0xE0F + csrBase)).onCpu (.cc 0) fun u => (u.setG 5 ⟨BitVec.ofNat 32 rSWRESET, false⟩).setG 9 ⟨0x53520000, false⟩), by decide +kernel⟩,
   ⟨0, 5, (tCc.setReg (rWIN 0 1) (0xE0F + csrBase)).onCpu (.cc 0) fun u => u.setG 5 ⟨0x4000000, false⟩, by decide +kernel⟩,
   ⟨0, 5, tCc.onCpu (.cc 0) fun u => u.setG 5 ⟨0x4000000, false⟩, .badAddress, by decide +kernel⟩,
   ⟨0, 5, (tCc.setReg (rWIN 0 1) (0xE0F + csrBase)).onCpu (.cc 0) fun u => u.setG 5 ⟨0x4000000, false⟩, by decide +kernel⟩,
   ⟨0, 5, tCc.onCpu (.cc 0) fun u => u.setG 5 ⟨0x4000000, false⟩, .badAddress, by decide +kernel⟩,
   ⟨0, 5, (tCc.setReg (rWIN 0 1) (0xE0F + csrBase)).onCpu (.cc 0) fun u => u.setG 5 ⟨0x4000000, false⟩, by decide +kernel⟩,
   ⟨0, 5, tCc.onCpu (.cc 0) fun u => u.setG 5 ⟨0x4000000, false⟩, .badAddress, by decide +kernel⟩⟩

/-- The hypotheses of SpecialRegisters can be met. -/
theorem test_meets_special_registers :
    (∃ (k : Fin 4) (s : State),
      s.goes (.cc k) 1 = true) ∧
    (∃ (k : Fin 4) (n : BitVec 5) (s : State),
      s.goes (.cc k) 1 = true ∧
      8 < n.toNat) ∧
    (∃ (k : Fin 4) (n : BitVec 5) (s : State),
      s.goes (.cc k) 1 = true ∧
      (8 < n.toNat ∨ n = 2 ∨ n = 3 ∨ n = 6)) :=
  ⟨⟨0, tCc, by decide +kernel⟩,
   ⟨0, 9, tCc, by decide +kernel⟩,
   ⟨0, 6, tCc, by decide +kernel⟩⟩

/-- The hypotheses of EretReturns can be met. -/
theorem test_meets_eret_returns :
    (∃ (k : Fin 4) (s : State),
      s.goes (.cc k) 1 = true ∧
      (s.cc k.val).estate.getLsbD 2 = true) ∧
    (∃ (k : Fin 4) (s : State),
      s.goes (.cc k) 1 = true ∧
      (s.cc k.val).estate.getLsbD 2 = false) :=
  ⟨⟨0, tCc.setCc 0 { tCc.cc 0 with estate := 4 }, by decide +kernel⟩,
   ⟨0, tCc, by decide +kernel⟩⟩

/-- The hypotheses of IllegalWords can be met: part 1. -/
theorem test_meets_illegal_words_1 :
    (∃ (k : Fin 4) (w : Word) (s : State),
      s.goes (.cc k) 1 = true ∧
      wordLegal false w.toNat = false ∧
      (s.cc k.val).estate.getLsbD 2 = false) ∧
    (∃ (k : Fin 4) (w : Word) (s : State),
      s.goes (.cc k) 1 = true ∧
      wordLegal false w.toNat = false ∧
      (s.cc k.val).estate.getLsbD 2 = true) ∧
    (∃ (n : Fin 64) (w : Word) (s : State) (it : Item),
      s.goes (.lc n) 1 = true ∧
      (s.lc n.val).item = some it ∧
      wordLegal true w.toNat = false) ∧
    (∃ (i : Instr) (k : Fin 4) (w : Nat) (s : State),
      instrCore i = some (.cc k, w) ∧
      s.clocked = true ∧
      (s.cc k.val).run ≠ .run) ∧
    (∃ (k : Fin 4) (w : Word) (s : State),
      s.clocked = true ∧
      ((s.cc k.val).run ≠ .run ∨ wordLegal false w.toNat = true)) ∧
    (∃ (n : Fin 64) (w : Word) (s : State),
      s.clocked = true ∧
      ((s.lc n.val).run ≠ .running ∨ (s.lc n.val).item = none ∨ wordLegal true w.toNat = true)) ∧
    (∃ (i : Instr) (k : Fin 4) (w : Nat) (s : State) (x : Status),
      instrCore i = some (.cc k, w) ∧
      s.clocked = true ∧
      (s.cc k.val).run = .run ∧
      s.access k.val .fetch (s.cc k.val).cpu.pc.toNat 4 = .error x ∧
      (s.cc k.val).estate.getLsbD 2 = false) ∧
    (∃ (i : Instr) (k : Fin 4) (w : Nat) (s : State) (x : Status),
      instrCore i = some (.cc k, w) ∧
      s.clocked = true ∧
      (s.cc k.val).run = .run ∧
      s.access k.val .fetch (s.cc k.val).cpu.pc.toNat 4 = .error x ∧
      (s.cc k.val).estate.getLsbD 2 = true) :=
  ⟨⟨0, 0, tCc, by decide +kernel⟩,
   ⟨0, 0, tCc.setCc 0 { tCc.cc 0 with estate := 4 }, by decide +kernel⟩,
   ⟨0, 0, tLc, {}, by decide +kernel⟩,
   ⟨.add (.cc 0) 1 2 3, 0, 1, tCc.setCc 0 { run := .wfi }, by decide +kernel⟩,
   ⟨0, 0, tCc.setCc 0 { run := .wfi }, by decide +kernel, .inl (by decide +kernel)⟩,
   ⟨0, 0, State.reset, by decide +kernel, .inl (by decide +kernel)⟩,
   ⟨.add (.cc 0) 1 2 3, 0, 1, State.reset.setCc 0 { run := .run }, .mpuDenied, by decide +kernel⟩,
   ⟨.add (.cc 0) 1 2 3, 0, 1, State.reset.setCc 0 { run := .run, estate := 4 }, .mpuDenied, by decide +kernel⟩⟩

/-- The hypotheses of IllegalWords can be met: part 2. -/
theorem test_meets_illegal_words_2 :
    (∃ (i : Instr) (k : Fin 4) (w : Nat) (s : State) (p : Place),
      instrCore i = some (.cc k, w) ∧
      s.clocked = true ∧
      (s.cc k.val).run = .run ∧
      s.access k.val .fetch (s.cc k.val).cpu.pc.toNat 4 = .ok p ∧
      (s.cc k.val).err = none ∧
      s.fetchBad k.val p = true) ∧
    (∃ (i : Instr) (k : Fin 4) (w : Nat) (s : State) (p : Place) (e : CoreErr),
      instrCore i = some (.cc k, w) ∧
      s.clocked = true ∧
      (s.cc k.val).run = .run ∧
      s.access k.val .fetch (s.cc k.val).cpu.pc.toNat 4 = .ok p ∧
      (s.cc k.val).err = some e) ∧
    (∃ (i : Instr) (n : Fin 64) (w : Nat) (s : State),
      instrCore i = some (.lc n, w) ∧
      s.clocked = true ∧
      ((s.lc n.val).run ≠ .running ∨ (s.lc n.val).item = none) ∧
      i ≠ .waitw n ∧
      i ≠ .done n) ∧
    (∃ (i : Instr) (n : Fin 64) (w : Nat) (s : State) (it : Item),
      instrCore i = some (.lc n, w) ∧
      s.clocked = true ∧
      (s.lc n.val).run = .running ∧
      (s.lc n.val).item = some it ∧
      s.lcFetchOk n.val = true ∧
      (s.lc n.val).budget < (s.lc n.val).used + w) ∧
    (∃ (i : Instr) (n : Fin 64) (w : Nat) (s : State) (it : Item),
      instrCore i = some (.lc n, w) ∧
      s.clocked = true ∧
      (s.lc n.val).run = .running ∧
      (s.lc n.val).item = some it ∧
      s.lcFetchOk n.val = false ∧
      (s.lc n.val).budget < (s.lc n.val).used + 1) ∧
    (∃ (i : Instr) (n : Fin 64) (w : Nat) (s : State) (it : Item),
      instrCore i = some (.lc n, w) ∧
      s.clocked = true ∧
      (s.lc n.val).run = .running ∧
      (s.lc n.val).item = some it ∧
      s.lcFetchOk n.val = false ∧
      (s.lc n.val).used + 1 ≤ (s.lc n.val).budget) :=
  ⟨⟨.add (.cc 0) 1 2 3, 0, 1, tPois tCc, ⟨daBase, 0⟩, by decide +kernel⟩,
   ⟨.add (.cc 0) 1 2 3, 0, 1, tCc.setCc 0 { tCc.cc 0 with err := some (.line 3) }, ⟨daBase, 0⟩, .line 3, by decide +kernel⟩,
   ⟨.lxb 0 1 2 0 8, 0, 1, State.reset, by decide +kernel, by decide +kernel, .inl (by decide +kernel), by decide +kernel, by decide +kernel⟩,
   ⟨.lxb 0 1 2 0 8, 0, 1, tLc.setLc 0 { tLc.lc 0 with used := 1000 }, {}, by decide +kernel⟩,
   ⟨.lxb 0 1 2 0 8, 0, 1, (tLc.setLc 0 { tLc.lc 0 with used := 1000 }).onCpu (.lc 0) fun u => { u with pc := 2 }, {}, by decide +kernel⟩,
   ⟨.lxb 0 1 2 0 8, 0, 1, tLc.onCpu (.lc 0) fun u => { u with pc := 2 }, {}, by decide +kernel⟩⟩

/-- The hypotheses of WaitForInterrupt can be met. -/
theorem test_meets_wait_for_interrupt :
    (∃ (k : Fin 4) (s : State),
      s.goes (.cc k) 1 = true) ∧
    (∃ (k : Fin 4) (s : State) (l : Nat),
      s.clocked = true ∧
      (s.cc k.val).run = .wfi ∧
      s.takenLine k.val = some l ∧
      (s.cc k.val).estate.getLsbD 0 = false) ∧
    (∃ (k : Fin 4) (s : State) (l : Nat),
      s.clocked = true ∧
      (s.cc k.val).run = .wfi ∧
      s.takenLine k.val = some l ∧
      (s.cc k.val).estate.getLsbD 0 = true) ∧
    (∃ (k : Fin 4) (s : State),
      s.clocked = true ∧
      ((s.cc k.val).run ≠ .wfi ∨ s.takenLine k.val = none)) :=
  ⟨⟨0, tCc, by decide +kernel⟩,
   ⟨0, ((tCc.setCc 0 { tCc.cc 0 with run := .wfi, imask := 2 ^ 24, bell := 1 })), 24, by decide +kernel⟩,
   ⟨0, ((tCc.setCc 0 { tCc.cc 0 with run := .wfi, imask := 2 ^ 24, bell := 1, estate := 1 })), 24, by decide +kernel⟩,
   ⟨0, tCc, by decide +kernel, .inl (by decide +kernel)⟩⟩

/-- The hypotheses of InterruptEntry can be met. -/
theorem test_meets_interrupt_entry :
    (∃ (k : Fin 4) (s : State) (l : Nat),
      s.clocked = true ∧
      (s.cc k.val).run = .run ∧
      (s.cc k.val).estate.getLsbD 0 = true ∧
      s.takenLine k.val = some l) ∧
    (∃ (k : Fin 4) (s : State) (l : Nat) (q : Nat) (ra : Nat),
      s.clocked = true ∧
      (s.cc k.val).run = .deq q ra ∧
      (s.cc k.val).estate.getLsbD 0 = true ∧
      s.takenLine k.val = some l) ∧
    (∃ (k : Fin 4) (s : State) (l : Nat) (n : Nat) (ra : Nat),
      s.clocked = true ∧
      (s.cc k.val).run = .lock n ra ∧
      (s.cc k.val).estate.getLsbD 0 = true ∧
      s.takenLine k.val = some l) ∧
    (∃ (k : Fin 4) (s : State) (l : Nat),
      s.clocked = true ∧
      (s.cc k.val).run = .wfi ∧
      s.takenLine k.val = some l ∧
      (s.cc k.val).estate.getLsbD 0 = true) ∧
    (∃ (k : Fin 4) (s : State) (l : Nat) (q : Nat) (ra : Nat),
      s.clocked = true ∧
      (s.cc k.val).run = .deq q ra ∧
      s.takenLine k.val = some l ∧
      (s.cc k.val).estate.getLsbD 0 = true) ∧
    (∃ (k : Fin 4) (s : State) (l : Nat) (n : Nat) (ra : Nat),
      s.clocked = true ∧
      (s.cc k.val).run = .lock n ra ∧
      s.takenLine k.val = some l ∧
      (s.cc k.val).estate.getLsbD 0 = true) ∧
    (∃ (k : Fin 4) (s : State),
      s.clocked = true ∧
      ((s.cc k.val).run = .held ∨ (s.cc k.val).run = .fatal ∨ (s.cc k.val).estate.getLsbD 0 = false ∨ s.takenLine k.val = none)) ∧
    (∃ (s : State) (k : Nat) (l : Nat),
      s.takenLine k = some l) :=
  ⟨⟨0, ((tCc.setCc 0 { tCc.cc 0 with run := .run, imask := 2 ^ 24, bell := 1, estate := 1 })), 24, by decide +kernel⟩,
   ⟨0, ((tCc.setCc 0 { tCc.cc 0 with run := .deq 5 8, imask := 2 ^ 24, bell := 1, estate := 1 })), 24, 5, 8, by decide +kernel⟩,
   ⟨0, ((tCc.setCc 0 { tCc.cc 0 with run := .lock 5 8, imask := 2 ^ 24, bell := 1, estate := 1 })), 24, 5, 8, by decide +kernel⟩,
   ⟨0, ((tCc.setCc 0 { tCc.cc 0 with run := .wfi, imask := 2 ^ 24, bell := 1, estate := 1 })), 24, by decide +kernel⟩,
   ⟨0, ((tCc.setCc 0 { tCc.cc 0 with run := .deq 5 8, imask := 2 ^ 24, bell := 1, estate := 1 })), 24, 5, 8, by decide +kernel⟩,
   ⟨0, ((tCc.setCc 0 { tCc.cc 0 with run := .lock 5 8, imask := 2 ^ 24, bell := 1, estate := 1 })), 24, 5, 8, by decide +kernel⟩,
   ⟨0, State.reset, by decide +kernel, .inl (by decide +kernel)⟩,
   ⟨((tCc.setCc 0 { tCc.cc 0 with run := .wfi, imask := 2 ^ 24, bell := 1, estate := 1 })), 0, 24, by decide +kernel⟩⟩

/-- The hypotheses of QueueInstructions can be met. -/
theorem test_meets_queue_instructions :
    (∃ (k : Fin 4) (ra : RegNo) (q : BitVec 8) (s : State),
      s.goes (.cc k) 1 = true ∧
      (ra = 8 ∨ ra = 16 ∨ ra = 24) ∧
      (s.begun (.cc k) 1).qEn q.toNat = true ∧
      (s.begun (.cc k) 1).qFull q.toNat = false) ∧
    (∃ (k : Fin 4) (ra : RegNo) (q : BitVec 8) (s : State),
      s.goes (.cc k) 1 = true ∧
      (ra = 8 ∨ ra = 16 ∨ ra = 24) ∧
      q ≠ 0 ∧
      (s.begun (.cc k) 1).qEn q.toNat = true ∧
      ((s.begun (.cc k) 1).queue q.toNat).count ≠ 0) ∧
    (∃ (k : Fin 4) (ra : RegNo) (q : BitVec 8) (s : State),
      s.goes (.cc k) 1 = true ∧
      (ra = 8 ∨ ra = 16 ∨ ra = 24) ∧
      q ≠ 0 ∧
      (s.begun (.cc k) 1).qEn q.toNat = true ∧
      ((s.begun (.cc k) 1).queue q.toNat).count = 0) ∧
    (∃ (k : Fin 4) (ra : RegNo) (s : State),
      s.goes (.cc k) 1 = true ∧
      ra ≠ 8 ∧ ra ≠ 16 ∧ ra ≠ 24) ∧
    (∃ (k : Fin 4) (ra : RegNo) (q : BitVec 8) (s : State),
      s.goes (.cc k) 1 = true ∧
      (ra = 8 ∨ ra = 16 ∨ ra = 24) ∧
      (127 < q.toNat ∨ (s.begun (.cc k) 1).qEn q.toNat = false)) ∧
    (∃ (k : Fin 4) (ra : RegNo) (q : BitVec 8) (s : State),
      s.goes (.cc k) 1 = true ∧
      (ra = 8 ∨ ra = 16 ∨ ra = 24) ∧
      (127 < q.toNat ∨ (s.begun (.cc k) 1).qEn q.toNat = false ∨ q = 0)) ∧
    (∃ (k : Fin 4) (ra : RegNo) (q : BitVec 8) (s : State),
      s.goes (.cc k) 1 = true ∧
      (ra = 8 ∨ ra = 16 ∨ ra = 24) ∧
      (s.begun (.cc k) 1).qEn q.toNat = true ∧
      (s.begun (.cc k) 1).qFull q.toNat = true) :=
  ⟨⟨0, 8, 5, (tCc.setReg (rQCFG 5) 0x84000000), by decide +kernel⟩,
   ⟨0, 8, 5, ((tCc.setReg (rQCFG 5) 0x84000000).enqueue 5 (plainDesc [1, 2, 3])), by decide +kernel⟩,
   ⟨0, 8, 5, (tCc.setReg (rQCFG 5) 0x84000000), by decide +kernel⟩,
   ⟨0, 9, (tCc.setReg (rQCFG 5) 0x84000000), by decide +kernel⟩,
   ⟨0, 8, 7, (tCc.setReg (rQCFG 5) 0x84000000), by decide +kernel⟩,
   ⟨0, 8, 7, (tCc.setReg (rQCFG 5) 0x84000000), by decide +kernel⟩,
   ⟨0, 8, 5, ((tCc.setReg (rQCFG 5) 0x84000000).setQueue 5 { count := 16 }), by decide +kernel⟩⟩

/-- The hypotheses of QueueOrderAndCommands can be met: part 1. -/
theorem test_meets_queue_order_and_commands_1 :
    (∃ (s : State) (q : Nat) (d : List GReg),
      d.length = 8 ∧
      s.qFull q = false ∧
      (s.queue q).flushIn = false ∧
      (s.queue q).count ≠ 0) ∧
    (∃ (s : State) (q : Nat) (d : List GReg),
      d.length = 8 ∧
      0 < s.qSize q ∧
      (s.queue q).flushIn = false ∧
      (s.queue q).count = 0 ∧
      (∀ g ∈ s.poison, touches (s.slotAddr q (s.queue q).head) 32 g = false)) ∧
    (∃ (s : State) (q : Nat) (d : List GReg) (x : Nat),
      d.length = 8 ∧
      (s.queue q).flushIn = false ∧
      (x < s.slotAddr q ((s.queue q).head + (s.queue q).count) ∨ s.slotAddr q ((s.queue q).head + (s.queue q).count) + 32 ≤ x)) ∧
    (∃ (q : Fin 128) (s : State),
      s.clocked = true ∧
      s.qEn q.val = true ∧
      s.qFull q.val = false ∧
      (s.queue q.val).held = []) ∧
    (∃ (q : Fin 128) (s : State),
      s.clocked = true ∧
      s.qEn q.val = true ∧
      s.qFull q.val = true) ∧
    (∃ (q : Fin 128) (s : State) (k : Nat) (ra : Nat) (q1 : Nat) (ks : List Nat),
      s.clocked = true ∧
      (s.queue q.val).stalled = k :: ks ∧
      (s.queue q.val).count ≠ 0 ∧
      (s.cc k).run = .deq q1 ra) ∧
    (∃ (a : Agent) (q : Fin 128) (v : Word) (s : State),
      s.writes a (rQCFG q.val) = true ∧
      s.qEn q.val = true ∧
      v.getLsbD 31 = false ∧
      v.toNat / 2 ^ 24 % 16 = s.fget (fQCFG_SIZE q.val) ∧
      v.toNat % 2 ^ 17 = s.qBase q.val ∧
      s.qBase q.val % s.qSize q.val = 0 ∧
      4 ≤ s.fget (fQCFG_SIZE q.val) ∧
      s.fget (fQCFG_SIZE q.val) ≤ 12) ∧
    (∃ (a : Agent) (q : Fin 128) (v : Word) (s : State),
      s.writes a (rQCFG q.val) = true ∧
      s.qEn q.val = false ∧
      ((List.range 128).filter fun p => p ≠ q.val && s.qEn p).any (fun p => ringsOverlap (v.toNat % 2 ^ 17) (2 ^ (v.toNat / 2 ^ 24 % 16)) (s.qBase p) (s.qSize p)) = false ∧
      (((List.range 128).filter fun p => p ≠ q.val && s.qEn p).map fun p => s.qSize p).sum + 2 ^ (v.toNat / 2 ^ 24 % 16) ≤ 131072 ∧
      v.getLsbD 31 = true ∧
      4 ≤ v.toNat / 2 ^ 24 % 16 ∧
      v.toNat / 2 ^ 24 % 16 ≤ 12 ∧
      v.toNat % 2 ^ 17 % 2 ^ (v.toNat / 2 ^ 24 % 16) = 0 ∧
      (s.queue q.val).held = []) :=
  ⟨⟨((tCc.setReg (rQCFG 5) 0x84000000).enqueue 5 (plainDesc [1, 2, 3])), 5, plainDesc [7], by decide +kernel⟩,
   ⟨(tCc.setReg (rQCFG 5) 0x84000000), 5, plainDesc [7], by decide +kernel⟩,
   ⟨(tCc.setReg (rQCFG 5) 0x84000000), 5, plainDesc [7], 3, by decide +kernel⟩,
   ⟨5, (tCc.setReg (rQCFG 5) 0x84000000), by decide +kernel⟩,
   ⟨5, ((tCc.setReg (rQCFG 5) 0x84000000).setQueue 5 { count := 16 }), by decide +kernel⟩,
   ⟨5, (((tCc.setReg (rQCFG 5) 0x84000000).enqueue 5 (plainDesc [1, 2, 3])).setQueue 5 { ((tCc.setReg (rQCFG 5) 0x84000000).enqueue 5 (plainDesc [1, 2, 3])).queue 5 with stalled := [1] }).setCc 1 { run := .deq 5 8 }, 1, 8, 5, [], by decide +kernel⟩,
   ⟨.cc 0, 5, 0x04000000, ((tCc.setReg (rQCFG 5) 0x84000000).enqueue 5 (plainDesc [1, 2, 3])), by decide +kernel⟩,
   ⟨.cc 0, 5, 0x84000000, tCc, by decide +kernel⟩⟩

/-- The hypotheses of QueueOrderAndCommands can be met: part 2. -/
theorem test_meets_queue_order_and_commands_2 :
    (∃ (a : Agent) (q : Fin 128) (v : Word) (s : State),
      s.writes a (rQCFG q.val) = true ∧
      4 ≤ v.toNat / 2 ^ 24 % 16 ∧
      v.toNat / 2 ^ 24 % 16 ≤ 12 ∧
      v.toNat % 2 ^ 17 % 2 ^ (v.toNat / 2 ^ 24 % 16) ≠ 0) ∧
    (∃ (a : Agent) (q : Fin 128) (s : State),
      s.writes a (rQCTL q.val) = true ∧
      (s.queue q.val).midOut = false) ∧
    (∃ (a : Agent) (q : Fin 128) (s : State),
      s.writes a (rQCTL q.val) = true ∧
      (s.queue q.val).midOut = true ∧
      (s.queue q.val).midIn = true ∧
      s.ringHasEnd q.val = false) ∧
    (∃ (a : Agent) (q : Fin 128) (s : State),
      s.writes a (rQCTL q.val) = true ∧
      (s.queue q.val).midOut = true ∧
      ((s.queue q.val).midIn = false ∨ s.ringHasEnd q.val = true)) ∧
    (∃ (q : Fin 128) (s : State),
      s.clocked = true ∧
      s.qEn q.val = false) ∧
    (∃ (q : Fin 128) (s : State),
      s.clocked = true ∧
      s.qEn q.val = true ∧
      (s.queue q.val).held ≠ []) ∧
    (∃ (q : Fin 128) (s : State),
      s.clocked = true ∧
      ((s.queue q.val).stalled = [] ∨ (s.queue q.val).count = 0)) ∧
    (∃ (a : Agent) (q : Fin 128) (v : Word) (s : State),
      s.writes a (rQCFG q.val) = true ∧
      ((v.toNat / 2 ^ 24 % 16) < 4 ∨ 12 < (v.toNat / 2 ^ 24 % 16))) :=
  ⟨⟨.cc 0, 5, 0x84000001, tCc, by decide +kernel⟩,
   ⟨.cc 0, 5, ((tCc.setReg (rQCFG 5) 0x84000000).enqueue 5 (plainDesc [1, 2, 3])), by decide +kernel⟩,
   ⟨.cc 0, 5, (((tCc.setReg (rQCFG 5) 0x84000000).enqueue 5 (plainDesc [1, 2, 3])).setQueue 5 { ((tCc.setReg (rQCFG 5) 0x84000000).enqueue 5 (plainDesc [1, 2, 3])).queue 5 with midOut := true, midIn := true }), by decide +kernel⟩,
   ⟨.cc 0, 5, (((tCc.setReg (rQCFG 5) 0x84000000).enqueue 5 (plainDesc [1, 2, 3])).setQueue 5 { ((tCc.setReg (rQCFG 5) 0x84000000).enqueue 5 (plainDesc [1, 2, 3])).queue 5 with midOut := true, midIn := false }), by decide +kernel⟩,
   ⟨5, tCc, by decide +kernel⟩,
   ⟨5, (tCc.setReg (rQCFG 5) 0x84000000).setQueue 5 { held := [plainDesc [1]] }, by decide +kernel⟩,
   ⟨5, tCc, by decide +kernel, .inl (by decide +kernel)⟩,
   ⟨.cc 0, 5, 0x83000000, tCc, by decide +kernel, .inl (by decide +kernel)⟩⟩

/-- The hypotheses of QueueOrderAndCommands can be met: part 3. -/
theorem test_meets_queue_order_and_commands_3 :
    (∃ (a : Agent) (q : Fin 128) (v : Word) (s : State),
      s.writes a (rQCFG q.val) = true ∧
      4 ≤ (v.toNat / 2 ^ 24 % 16) ∧
      (v.toNat / 2 ^ 24 % 16) ≤ 12 ∧
      (v.toNat % 2 ^ 17) % 2 ^ (v.toNat / 2 ^ 24 % 16) = 0 ∧
      s.qEn q.val = true ∧
      ((v.toNat % 2 ^ 17) ≠ s.qBase q.val ∨ 2 ^ (v.toNat / 2 ^ 24 % 16) ≠ s.qSize q.val)) ∧
    (∃ (a : Agent) (q : Fin 128) (v : Word) (s : State),
      s.writes a (rQCFG q.val) = true ∧
      4 ≤ (v.toNat / 2 ^ 24 % 16) ∧
      (v.toNat / 2 ^ 24 % 16) ≤ 12 ∧
      (v.toNat % 2 ^ 17) % 2 ^ (v.toNat / 2 ^ 24 % 16) = 0 ∧
      s.qEn q.val = true ∧
      (v.toNat % 2 ^ 17) = s.qBase q.val ∧
      2 ^ (v.toNat / 2 ^ 24 % 16) = s.qSize q.val ∧
      v.getLsbD 31 = true) ∧
    (∃ (a : Agent) (q : Fin 128) (v : Word) (s : State),
      s.writes a (rQCFG q.val) = true ∧
      4 ≤ (v.toNat / 2 ^ 24 % 16) ∧
      (v.toNat / 2 ^ 24 % 16) ≤ 12 ∧
      (v.toNat % 2 ^ 17) % 2 ^ (v.toNat / 2 ^ 24 % 16) = 0 ∧
      s.qEn q.val = false ∧
      v.getLsbD 31 = true ∧
      (((List.range 128).filter fun p => p ≠ q.val && s.qEn p).any (fun p => ringsOverlap (v.toNat % 2 ^ 17) (2 ^ (v.toNat / 2 ^ 24 % 16)) (s.qBase p) (s.qSize p)) = true ∨ 131072 < (((List.range 128).filter fun p => p ≠ q.val && s.qEn p).map fun p => s.qSize p).sum + 2 ^ (v.toNat / 2 ^ 24 % 16))) ∧
    (∃ (a : Agent) (q : Fin 128) (v : Word) (s : State),
      s.writes a (rQCFG q.val) = true ∧
      4 ≤ (v.toNat / 2 ^ 24 % 16) ∧
      (v.toNat / 2 ^ 24 % 16) ≤ 12 ∧
      (v.toNat % 2 ^ 17) % 2 ^ (v.toNat / 2 ^ 24 % 16) = 0 ∧
      s.qEn q.val = false ∧
      v.getLsbD 31 = false) :=
  ⟨⟨.cc 0, 5, 0x84000010, (tCc.setReg (rQCFG 5) 0x84000000), by decide +kernel, by decide +kernel, by decide +kernel, by decide +kernel, by decide +kernel, .inl (by decide +kernel)⟩,
   ⟨.cc 0, 5, 0x84000000, (tCc.setReg (rQCFG 5) 0x84000000), by decide +kernel⟩,
   ⟨.cc 0, 4, 0x84000000, (tCc.setReg (rQCFG 5) 0x84000000), by decide +kernel, by decide +kernel, by decide +kernel, by decide +kernel, by decide +kernel, by decide +kernel, .inl (by decide +kernel)⟩,
   ⟨.cc 0, 5, 0x04000000, tCc, by decide +kernel⟩⟩

/-- The hypotheses of LockTable can be met. -/
theorem test_meets_lock_table :
    (∃ (k : Fin 4) (n : BitVec 8) (s : State) (seq : Word),
      s.goes (.cc k) 1 = true ∧
      ((s.begun (.cc k) 1).lock n.toNat).st ≠ .held ∧
      seq = (if ((s.begun (.cc k) 1).lock n.toNat).st = .broken then ((s.begun (.cc k) 1).lock n.toNat).seq else ((s.begun (.cc k) 1).lock n.toNat).seq + 1)) ∧
    (∃ (k : Fin 4) (n : BitVec 8) (s : State),
      s.goes (.cc k) 1 = true ∧
      ((s.begun (.cc k) 1).lock n.toNat).st = .held ∧
      ((s.begun (.cc k) 1).lock n.toNat).owner = k.val) ∧
    (∃ (k : Fin 4) (n : BitVec 8) (s : State),
      s.goes (.cc k) 1 = true ∧
      ((s.begun (.cc k) 1).lock n.toNat).st = .held ∧
      ((s.begun (.cc k) 1).lock n.toNat).owner ≠ k.val) ∧
    (∃ (k : Fin 4) (n : BitVec 8) (s : State),
      s.goes (.cc k) 1 = true ∧
      (((s.begun (.cc k) 1).lock n.toNat).st ≠ .held ∨ ((s.begun (.cc k) 1).lock n.toNat).owner ≠ k.val)) ∧
    (∃ (n : BitVec 8) (s : State),
      s.clocked = true ∧
      ((s.lock n.toNat).st = .held ∨ (s.lock n.toNat).waiters = [])) ∧
    (∃ (ra : Nat) (r : Nat),
      r ≠ ra) ∧
    (∃ (n : BitVec 8) (s : State) (k : Nat) (m : Nat) (ra : Nat) (ks : List Nat),
      s.clocked = true ∧
      (s.lock n.toNat).st ≠ .held ∧
      (s.lock n.toNat).waiters = k :: ks ∧
      (s.cc k).run = .lock m ra) :=
  ⟨⟨0, 9, tCc, ((if (((tCc : State).begun (.cc (0 : Fin 4)) 1).lock (9 : BitVec 8).toNat).st = .broken then (((tCc : State).begun (.cc (0 : Fin 4)) 1).lock (9 : BitVec 8).toNat).seq else (((tCc : State).begun (.cc (0 : Fin 4)) 1).lock (9 : BitVec 8).toNat).seq + 1)), by decide +kernel⟩,
   ⟨0, 9, tCc.setLock 9 { st := .held, owner := 0 }, by decide +kernel⟩,
   ⟨0, 9, tCc.setLock 9 { st := .held, owner := 2 }, by decide +kernel⟩,
   ⟨0, 9, tCc, by decide +kernel⟩,
   ⟨9, tCc, by decide +kernel, .inr (by decide +kernel)⟩,
   ⟨3, 4, by decide +kernel⟩,
   ⟨9, tCc.setLock 9 { waiters := [1] } |>.setCc 1 { run := .lock 9 3 }, 1, 9, 3, [], by decide +kernel⟩⟩

/-- The hypotheses of LedgerMemory can be met: part 1. -/
theorem test_meets_ledger_memory_1 :
    (∃ (n : Fin 64) (win : BitVec 3) (a : RegNo) (i : BitVec 12) (s : State),
      s.goes (.lc n) 1 = true ∧
      win ≠ 0 ∧
      win ≠ 7 ∧
      s.gp (.lc n) a = false ∧
      lcCheck (lcWindow win.toNat) false (lcOffset (s.gv (.lc n) a) i) 1 = none) ∧
    (∃ (n : Fin 64) (win : BitVec 3) (a : RegNo) (i : BitVec 12) (s : State),
      s.goes (.lc n) 1 = true ∧
      win ≠ 0 ∧
      win ≠ 7 ∧
      s.gp (.lc n) a = false ∧
      lcCheck (lcWindow win.toNat) false (lcOffset (s.gv (.lc n) a) i) 2 = none) ∧
    (∃ (n : Fin 64) (win : BitVec 3) (a : RegNo) (i : BitVec 12) (s : State),
      s.goes (.lc n) 1 = true ∧
      win ≠ 0 ∧
      win ≠ 7 ∧
      s.gp (.lc n) a = false ∧
      lcCheck (lcWindow win.toNat) false (lcOffset (s.gv (.lc n) a) i) 4 = none) ∧
    (∃ (n : Fin 64) (win : BitVec 3) (rd : RegNo) (a : RegNo) (i : BitVec 12) (s : State),
      s.goes (.lc n) 1 = true ∧
      win ≠ 0 ∧
      win ≠ 7 ∧
      pairOk rd = true ∧
      s.gp (.lc n) a = false ∧
      lcCheck (lcWindow win.toNat) false (lcOffset (s.gv (.lc n) a) i) 8 = none) ∧
    (∃ (n : Fin 64) (win : BitVec 3) (a : RegNo) (i : BitVec 12) (s : State),
      s.goes (.lc n) 1 = true ∧
      win ≠ 0 ∧
      win ≠ 7 ∧
      s.gp (.lc n) a = false ∧
      lcCheck (lcWindow win.toNat) true (lcOffset (s.gv (.lc n) a) i) 1 = none) ∧
    (∃ (n : Fin 64) (win : BitVec 3) (a : RegNo) (i : BitVec 12) (s : State),
      s.goes (.lc n) 1 = true ∧
      win ≠ 0 ∧
      win ≠ 7 ∧
      s.gp (.lc n) a = false ∧
      lcCheck (lcWindow win.toNat) true (lcOffset (s.gv (.lc n) a) i) 2 = none) ∧
    (∃ (n : Fin 64) (win : BitVec 3) (a : RegNo) (i : BitVec 12) (s : State),
      s.goes (.lc n) 1 = true ∧
      win ≠ 0 ∧
      win ≠ 7 ∧
      s.gp (.lc n) a = false ∧
      lcCheck (lcWindow win.toNat) true (lcOffset (s.gv (.lc n) a) i) 4 = none) ∧
    (∃ (n : Fin 64) (win : BitVec 3) (rd : RegNo) (a : RegNo) (i : BitVec 12) (s : State),
      s.goes (.lc n) 1 = true ∧
      win ≠ 0 ∧
      win ≠ 7 ∧
      pairOk rd = true ∧
      s.gp (.lc n) a = false ∧
      lcCheck (lcWindow win.toNat) true (lcOffset (s.gv (.lc n) a) i) 8 = none) :=
  ⟨⟨0, 2, 0, 8, tLc, by decide +kernel⟩,
   ⟨0, 2, 0, 8, tLc, by decide +kernel⟩,
   ⟨0, 2, 0, 8, tLc, by decide +kernel⟩,
   ⟨0, 2, 2, 0, 8, tLc, by decide +kernel⟩,
   ⟨0, 1, 0, 8, tLc, by decide +kernel⟩,
   ⟨0, 1, 0, 8, tLc, by decide +kernel⟩,
   ⟨0, 1, 0, 8, tLc, by decide +kernel⟩,
   ⟨0, 1, 2, 0, 8, tLc, by decide +kernel⟩⟩

/-- The hypotheses of LedgerMemory can be met: part 2. -/
theorem test_meets_ledger_memory_2 :
    (∃ (n : Fin 64) (ra : RegNo) (rb : RegNo) (s : State) (sum : Int) (acc : Int),
      s.goes (.lc n) 3 = true ∧
      pairOk rb = true ∧
      s.gp (.lc n) ra = false ∧
      (s.gv (.lc n) ra).toNat % 8 = 0 ∧
      (s.gv (.lc n) ra).toNat + 8 ≤ 4096 ∧
      sum = (BitVec.ofNat 64 (s.peek (lcData n.val + (s.gv (.lc n) ra).toNat) 8)).toInt + (BitVec.ofNat 64 ((s.cpu (.lc n)).pair rb.toNat)).toInt ∧
      acc = (if sum < -2 ^ 63 then -2 ^ 63 else if 2 ^ 63 ≤ sum then 2 ^ 63 - 1 else sum)) ∧
    (∃ (n : Fin 64) (ra : RegNo) (rb : RegNo) (s : State),
      s.goes (.lc n) 4 = true ∧
      groupOk rb = true ∧
      s.gp (.lc n) ra = false ∧
      (s.gv (.lc n) ra).toNat % 16 = 0 ∧
      (s.gv (.lc n) ra).toNat + 16 ≤ 4096 ∧
      (BitVec.ofNat 64 (s.peek (lcData n.val + (s.gv (.lc n) ra).toNat) 8)).toInt < (BitVec.ofNat 64 ((s.cpu (.lc n)).pair rb.toNat)).toInt ∨ ((BitVec.ofNat 64 ((s.cpu (.lc n)).pair rb.toNat)).toInt = (BitVec.ofNat 64 (s.peek (lcData n.val + (s.gv (.lc n) ra).toNat) 8)).toInt ∧ (s.cpu (.lc n)).pair (rb.toNat + 2) < s.peek ((lcData n.val + (s.gv (.lc n) ra).toNat) + 8) 8)) ∧
    (∃ (n : Fin 64) (ra : RegNo) (rb : RegNo) (s : State),
      s.goes (.lc n) 4 = true ∧
      groupOk rb = true ∧
      s.gp (.lc n) ra = false ∧
      (s.gv (.lc n) ra).toNat % 16 = 0 ∧
      (s.gv (.lc n) ra).toNat + 16 ≤ 4096 ∧
      (¬ ((BitVec.ofNat 64 (s.peek (lcData n.val + (s.gv (.lc n) ra).toNat) 8)).toInt < (BitVec.ofNat 64 ((s.cpu (.lc n)).pair rb.toNat)).toInt ∨ ((BitVec.ofNat 64 ((s.cpu (.lc n)).pair rb.toNat)).toInt = (BitVec.ofNat 64 (s.peek (lcData n.val + (s.gv (.lc n) ra).toNat) 8)).toInt ∧ (s.cpu (.lc n)).pair (rb.toNat + 2) < s.peek ((lcData n.val + (s.gv (.lc n) ra).toNat) + 8) 8)))) ∧
    (∃ (n : Fin 64) (win : BitVec 3) (_rd _a : RegNo) (_i : BitVec 12) (s : State) (it : Item),
      s.goes (.lc n) 1 = true ∧
      (s.lc n.val).item = some it ∧
      (win = 0 ∨ win = 7)) ∧
    (∃ (n : Fin 64) (win : BitVec 3) (a : RegNo) (s : State),
      s.goes (.lc n) 1 = true ∧
      (win ≠ 0 ∧ win ≠ 7) ∧
      s.gp (.lc n) a = true) ∧
    (∃ (n : Fin 64) (win : BitVec 3) (a : RegNo) (i : BitVec 12) (s : State) (x : Status),
      s.goes (.lc n) 1 = true ∧
      (win ≠ 0 ∧ win ≠ 7) ∧
      s.gp (.lc n) a = false ∧
      lcCheck (lcWindow win.toNat) false (lcOffset (s.gv (.lc n) a) i) 1 = some x) ∧
    (∃ (n : Fin 64) (win : BitVec 3) (a : RegNo) (i : BitVec 12) (s : State) (x : Status),
      s.goes (.lc n) 1 = true ∧
      (win ≠ 0 ∧ win ≠ 7) ∧
      s.gp (.lc n) a = false ∧
      lcCheck (lcWindow win.toNat) false (lcOffset (s.gv (.lc n) a) i) 2 = some x) ∧
    (∃ (n : Fin 64) (win : BitVec 3) (a : RegNo) (i : BitVec 12) (s : State) (x : Status),
      s.goes (.lc n) 1 = true ∧
      (win ≠ 0 ∧ win ≠ 7) ∧
      s.gp (.lc n) a = false ∧
      lcCheck (lcWindow win.toNat) false (lcOffset (s.gv (.lc n) a) i) 4 = some x) :=
  ⟨⟨0, 0, 2, tLc, ((BitVec.ofNat 64 ((tLc : State).peek (lcData (0 : Fin 64).val + ((tLc : State).gv (.lc (0 : Fin 64)) (0 : RegNo)).toNat) 8)).toInt + (BitVec.ofNat 64 (((tLc : State).cpu (.lc (0 : Fin 64))).pair (2 : RegNo).toNat)).toInt), ((if (((BitVec.ofNat 64 ((tLc : State).peek (lcData (0 : Fin 64).val + ((tLc : State).gv (.lc (0 : Fin 64)) (0 : RegNo)).toNat) 8)).toInt + (BitVec.ofNat 64 (((tLc : State).cpu (.lc (0 : Fin 64))).pair (2 : RegNo).toNat)).toInt) : Int) < -2 ^ 63 then -2 ^ 63 else if 2 ^ 63 ≤ (((BitVec.ofNat 64 ((tLc : State).peek (lcData (0 : Fin 64).val + ((tLc : State).gv (.lc (0 : Fin 64)) (0 : RegNo)).toNat) 8)).toInt + (BitVec.ofNat 64 (((tLc : State).cpu (.lc (0 : Fin 64))).pair (2 : RegNo).toNat)).toInt) : Int) then 2 ^ 63 - 1 else (((BitVec.ofNat 64 ((tLc : State).peek (lcData (0 : Fin 64).val + ((tLc : State).gv (.lc (0 : Fin 64)) (0 : RegNo)).toNat) 8)).toInt + (BitVec.ofNat 64 (((tLc : State).cpu (.lc (0 : Fin 64))).pair (2 : RegNo).toNat)).toInt) : Int))), by decide +kernel⟩,
   ⟨0, 0, 4, tLc.onCpu (.lc 0) fun u => u.setG 4 ⟨5, false⟩, by decide +kernel⟩,
   ⟨0, 0, 4, tLc, by decide +kernel⟩,
   ⟨0, 7, 2, 0, 8, tLc, {}, by decide +kernel, by decide +kernel, .inr (by decide +kernel)⟩,
   ⟨0, 1, 7, tLc.onCpu (.lc 0) fun u => u.setG 7 ⟨8, true⟩, by decide +kernel⟩,
   ⟨0, 3, 0, 8, tLc, .windowDenied, by decide +kernel⟩,
   ⟨0, 3, 0, 8, tLc, .windowDenied, by decide +kernel⟩,
   ⟨0, 3, 0, 8, tLc, .windowDenied, by decide +kernel⟩⟩

/-- The hypotheses of LedgerMemory can be met: part 3. -/
theorem test_meets_ledger_memory_3 :
    (∃ (n : Fin 64) (win : BitVec 3) (rd : RegNo) (s : State),
      s.goes (.lc n) 1 = true ∧
      (win ≠ 0 ∧ win ≠ 7) ∧
      pairOk rd = false) ∧
    (∃ (n : Fin 64) (win : BitVec 3) (rd : RegNo) (a : RegNo) (s : State),
      s.goes (.lc n) 1 = true ∧
      (win ≠ 0 ∧ win ≠ 7) ∧
      pairOk rd = true ∧
      s.gp (.lc n) a = true) ∧
    (∃ (n : Fin 64) (win : BitVec 3) (rd : RegNo) (a : RegNo) (i : BitVec 12) (s : State) (x : Status),
      s.goes (.lc n) 1 = true ∧
      (win ≠ 0 ∧ win ≠ 7) ∧
      pairOk rd = true ∧
      s.gp (.lc n) a = false ∧
      lcCheck (lcWindow win.toNat) false (lcOffset (s.gv (.lc n) a) i) 8 = some x) ∧
    (∃ (n : Fin 64) (win : BitVec 3) (a : RegNo) (i : BitVec 12) (s : State) (x : Status),
      s.goes (.lc n) 1 = true ∧
      (win ≠ 0 ∧ win ≠ 7) ∧
      s.gp (.lc n) a = false ∧
      lcCheck (lcWindow win.toNat) true (lcOffset (s.gv (.lc n) a) i) 1 = some x) ∧
    (∃ (n : Fin 64) (win : BitVec 3) (a : RegNo) (i : BitVec 12) (s : State) (x : Status),
      s.goes (.lc n) 1 = true ∧
      (win ≠ 0 ∧ win ≠ 7) ∧
      s.gp (.lc n) a = false ∧
      lcCheck (lcWindow win.toNat) true (lcOffset (s.gv (.lc n) a) i) 2 = some x) ∧
    (∃ (n : Fin 64) (win : BitVec 3) (a : RegNo) (i : BitVec 12) (s : State) (x : Status),
      s.goes (.lc n) 1 = true ∧
      (win ≠ 0 ∧ win ≠ 7) ∧
      s.gp (.lc n) a = false ∧
      lcCheck (lcWindow win.toNat) true (lcOffset (s.gv (.lc n) a) i) 4 = some x) ∧
    (∃ (n : Fin 64) (win : BitVec 3) (rd : RegNo) (a : RegNo) (i : BitVec 12) (s : State) (x : Status),
      s.goes (.lc n) 1 = true ∧
      (win ≠ 0 ∧ win ≠ 7) ∧
      pairOk rd = true ∧
      s.gp (.lc n) a = false ∧
      lcCheck (lcWindow win.toNat) true (lcOffset (s.gv (.lc n) a) i) 8 = some x) ∧
    (∃ (n : Fin 64) (ra : RegNo) (rb : RegNo) (s : State) (x : Status),
      s.goes (.lc n) 3 = true ∧
      (s.cpu (.lc n)).cellCheck (pairOk rb) ra 8 = some x) :=
  ⟨⟨0, 1, 3, tLc, by decide +kernel⟩,
   ⟨0, 1, 2, 7, tLc.onCpu (.lc 0) fun u => u.setG 7 ⟨8, true⟩, by decide +kernel⟩,
   ⟨0, 3, 2, 0, 8, tLc, .windowDenied, by decide +kernel⟩,
   ⟨0, 3, 0, 8, tLc, .windowDenied, by decide +kernel⟩,
   ⟨0, 3, 0, 8, tLc, .windowDenied, by decide +kernel⟩,
   ⟨0, 3, 0, 8, tLc, .windowDenied, by decide +kernel⟩,
   ⟨0, 3, 2, 0, 8, tLc, .windowDenied, by decide +kernel⟩,
   ⟨0, 0, 3, tLc, .badRegister, by decide +kernel⟩⟩

/-- The hypotheses of LedgerMemory can be met: part 4. -/
theorem test_meets_ledger_memory_4 :
    (∃ (n : Fin 64) (ra : RegNo) (rb : RegNo) (s : State) (x : Status),
      s.goes (.lc n) 4 = true ∧
      (s.cpu (.lc n)).cellCheck (groupOk rb) ra 16 = some x) :=
  ⟨0, 0, 3, tLc, .badRegister, by decide +kernel⟩

/-- The hypotheses of TackEmitAndEnd can be met: part 1. -/
theorem test_meets_tack_emit_and_end_1 :
    (∃ (n : Fin 64) (ra : RegNo) (s : State),
      s.goes (.lc n) 48 = true ∧
      (ra = 8 ∨ ra = 16 ∨ ra = 24) ∧
      tackCount s (lcW2 n.val) ≤ 42 ∧
      (∃ j, j < tackCount s (lcW2 n.val) ∧ (tackOf ((s.cpu (.lc n)).gs ra.toNat 6)).sameKey (s.tackEntry (tackAt (lcW2 n.val) j)) = true)) ∧
    (∃ (n : Fin 64) (ra : RegNo) (s : State),
      s.goes (.lc n) 48 = true ∧
      (ra = 8 ∨ ra = 16 ∨ ra = 24) ∧
      tackCount s (lcW2 n.val) ≤ 42 ∧
      tackCount s (lcW2 n.val) < 42 ∧
      (∀ j, j < tackCount s (lcW2 n.val) → (tackOf ((s.cpu (.lc n)).gs ra.toNat 6)).sameKey (s.tackEntry (tackAt (lcW2 n.val) j)) = false)) ∧
    (∃ (n : Fin 64) (ra : RegNo) (s : State),
      s.goes (.lc n) 48 = true ∧
      (ra = 8 ∨ ra = 16 ∨ ra = 24) ∧
      tackCount s (lcW2 n.val) = 42 ∧
      (∀ j, j < tackCount s (lcW2 n.val) → (tackOf ((s.cpu (.lc n)).gs ra.toNat 6)).sameKey (s.tackEntry (tackAt (lcW2 n.val) j)) = false)) ∧
    (∃ (n : Fin 64) (rb : RegNo) (dst : BitVec 8) (s : State),
      s.goes (.lc n) 128 = true ∧
      pairOk rb = true ∧
      tackCount s (lcW2 n.val) ≤ 42 ∧
      dst.toNat * 256 + 24 * (s.pressCount (lcW2 n.val) ((s.cpu (.lc n)).pair rb.toNat)) ≤ 65536) ∧
    (∃ (n : Fin 64) (ra : RegNo) (rb : RegNo) (s : State),
      s.goes (.lc n) 16 = true ∧
      (s.lc n.val).emitCheck ra rb = none) ∧
    (∃ (n : Fin 64) (s : State),
      s.clocked = true ∧
      (s.lc n.val).item = none ∧
      (s.lc n.val).run = .idle) ∧
    (∃ (n : Fin 64) (s : State) (it : Item),
      s.goes (.lc n) 1 = true ∧
      (s.lc n.val).item = some it) ∧
    (∃ (n : Fin 64) (ra : RegNo) (s : State),
      s.goes (.lc n) 48 = true ∧
      (ra ≠ 8 ∧ ra ≠ 16 ∧ ra ≠ 24)) :=
  ⟨⟨0, 8, tLc.poke (lcW2 0) 2 1, by decide +kernel, by decide +kernel, by decide +kernel, 0, by decide +kernel, by decide +kernel⟩,
   ⟨0, 8, tLc, by decide +kernel, by decide +kernel, by decide +kernel, by decide +kernel, by decide +kernel⟩,
   ⟨0, 8, (tLc.poke (lcW2 0) 2 42).onCpu (.lc 0) fun u => u.setG 8 ⟨9, false⟩, by decide +kernel, by decide +kernel, by decide +kernel, by decide +kernel⟩,
   ⟨0, 2, 0, tLc.poke (lcW2 0) 2 1 |>.onCpu (.lc 0) fun u => u.setG 2 ⟨9, false⟩, by decide +kernel⟩,
   ⟨0, 0, 2, tLc.onCpu (.lc 0) fun u => u.setG 2 ⟨16, false⟩, by decide +kernel⟩,
   ⟨3, State.reset, by decide +kernel⟩,
   ⟨0, tLc, {}, by decide +kernel⟩,
   ⟨0, 9, tLc, by decide +kernel⟩⟩

/-- The hypotheses of TackEmitAndEnd can be met: part 2. -/
theorem test_meets_tack_emit_and_end_2 :
    (∃ (n : Fin 64) (rb : RegNo) (s : State),
      s.goes (.lc n) 128 = true ∧
      pairOk rb = false) ∧
    (∃ (n : Fin 64) (rb : RegNo) (dst : BitVec 8) (s : State),
      s.goes (.lc n) 128 = true ∧
      pairOk rb = true ∧
      65536 < dst.toNat * 256 + 24 * (s.pressCount (lcW2 n.val) ((s.cpu (.lc n)).pair rb.toNat))) ∧
    (∃ (n : Fin 64) (ra : RegNo) (rb : RegNo) (s : State) (x : Status),
      s.goes (.lc n) 16 = true ∧
      (s.lc n.val).emitCheck ra rb = some x) ∧
    (∃ (c : LCore) (ra : RegNo) (rb : RegNo) (x : GReg) (len : Nat),
      x = c.cpu.g ra.toNat ∧
      len = (c.cpu.g rb.toNat).val.toNat) ∧
    (∃ (n : Fin 64) (s : State),
      s.clocked = true ∧
      (s.lc n.val).item = none ∧
      (s.lc n.val).run ≠ .idle) :=
  ⟨⟨0, 3, tLc, by decide +kernel⟩,
   ⟨0, 2, 255, (tLc.poke (lcW2 0) 2 12).onCpu (.lc 0) fun u => u.setG 2 ⟨9, false⟩, by decide +kernel⟩,
   ⟨0, 0, 2, tLc, .badArgument, by decide +kernel⟩,
   ⟨{}, 1, 2, (({} : LCore).cpu.g (1 : RegNo).toNat), ((({} : LCore).cpu.g (2 : RegNo).toNat).val.toNat), by decide +kernel⟩,
   ⟨3, State.reset.setLc 3 { run := .waiting }, by decide +kernel⟩⟩

/-- The hypotheses of StepTakesTheFront can be met. -/
theorem test_meets_step_takes_the_front :
    (∃ (c : Instr) (cs : List Instr) (s : State),
      s.pending = c :: cs) ∧
    (∃ (s : State),
      s.pending = []) :=
  ⟨⟨.por, [], { State.reset with pending := [.por] }, by decide +kernel⟩,
   ⟨State.reset, by decide +kernel⟩⟩

/-- The hypotheses of EveryCommandGoesOn can be met. -/
theorem test_meets_every_command_goes_on :
    (∃ (c : Instr) (s : State),
      s.clocked = false ∧
      coreDomain c = true) :=
  ⟨.fence 0, { State.reset with pwr := { asleep := true } }, by decide +kernel⟩

/-- The hypotheses of PlanesGuardWrites can be met. -/
theorem test_meets_planes_guard_writes :
    (∃ (k : Fin 4) (csr : Word) (s : State),
      s.clocked = true ∧
      csr.toNat < 2 ^ 24 ∧
      csr.toNat % 4 = 0 ∧
      blockImplemented (csr.toNat / 0x10000) = true ∧
      s.planeDenied k.val csr.toNat = true) ∧
    (∃ (csr : Word) (s : State),
      s.clocked = true ∧
      csr.toNat < 2 ^ 24 ∧
      csr.toNat % 4 = 0 ∧
      blockImplemented (csr.toNat / 0x10000) = true ∧
      s.portMay csr.toNat = false) ∧
    (∃ (csr : Word) (s : State),
      s.clocked = true ∧
      csr.toNat < 2 ^ 24 ∧
      csr.toNat % 4 ≠ 0) ∧
    (∃ (csr : Word) (s : State),
      s.clocked = true ∧
      2 ^ 24 ≤ csr.toNat) ∧
    (∃ (csr : Word) (s : State),
      s.clocked = true ∧
      csr.toNat < 2 ^ 24 ∧
      csr.toNat % 4 = 0 ∧
      blockImplemented (csr.toNat / 0x10000) = false) :=
  ⟨⟨1, BitVec.ofNat 32 (rMPU 0 0), State.reset, by decide +kernel⟩,
   ⟨BitVec.ofNat 32 rLPCTL, State.reset.fset fLCSSTAT_STATE lifeField, by decide +kernel⟩,
   ⟨2, State.reset, by decide +kernel⟩,
   ⟨0x1000000, tCc, by decide +kernel⟩,
   ⟨0xFF0000, tCc, by decide +kernel⟩⟩

/-- The hypotheses of WideRegisters can be met: part 1. -/
theorem test_meets_wide_registers_1 :
    (∃ (a : Agent) (csr _v : Word) (s : State) (r : RegRow) (b : Nat),
      s.clocked = true ∧
      csr.toNat < 2 ^ 24 ∧
      csr.toNat % 4 = 0 ∧
      blockImplemented (csr.toNat / 0x10000) = true ∧
      s.may a csr.toNat = true ∧
      regAt csr.toNat = some (r, b) ∧
      (csr.toNat - b) / 4 + 1 < r.words) ∧
    (∃ (a : Agent) (csr _v : Word) (s : State) (r : RegRow) (b : Nat),
      s.clocked = true ∧
      csr.toNat < 2 ^ 24 ∧
      csr.toNat % 4 = 0 ∧
      blockImplemented (csr.toNat / 0x10000) = true ∧
      s.may a csr.toNat = true ∧
      regAt csr.toNat = some (r, b) ∧
      (csr.toNat - b) / 4 + 1 = r.words) ∧
    (∃ (a : Agent) (csr : Word) (s : State),
      s.clocked = true ∧
      csr.toNat < 2 ^ 24 ∧
      csr.toNat % 4 = 0 ∧
      blockImplemented (csr.toNat / 0x10000) = true ∧
      s.may a csr.toNat = true ∧
      regAt csr.toNat = none) ∧
    (∃ (a : Agent) (csr v : Word) (s : State) (r : RegRow) (b x : Nat),
      s.clocked = true ∧
      csr.toNat < 2 ^ 24 ∧
      csr.toNat % 4 = 0 ∧
      blockImplemented (csr.toNat / 0x10000) = true ∧
      s.may a csr.toNat = true ∧
      regAt csr.toNat = some (r, b) ∧
      (csr.toNat - b) / 4 + 1 = r.words ∧
      x = (setBits (lookupD (s.reg b) b s.csrStage) (32 * ((csr.toNat - b) / 4)) 32 v.toNat) ∧
      (s.dropStage b).regWrite a b x = (s.dropStage b).plainWrite b x ∧
      regRow (regGroup (b / 0x10000)) b = some r) ∧
    (∃ (a : Agent) (v : Word) (s : State) (x : Nat),
      s.writes a rLDGORIGIN = true ∧
      s.flag fLDGCFG_SCHED_EN = false ∧
      x = v.toNat * 2 ^ 32 + bits (lookupD (s.reg rLDGORIGIN) rLDGORIGIN s.csrStage) 0 32 ∧
      x % 1000 = 0) ∧
    (∃ (a : Agent) (csr : Word) (s : State) (r : RegRow) (b : Nat),
      s.clocked = true ∧
      csr.toNat < 2 ^ 24 ∧
      csr.toNat % 4 = 0 ∧
      blockImplemented (csr.toNat / 0x10000) = true ∧
      (a ≠ .port ∨ s.portMay csr.toNat = true) ∧
      (csr.toNat ≠ rKEYRNG ∨ s.key.entropyBad = false) ∧
      regAt csr.toNat = some (r, b) ∧
      (b < rTIMTXTS 0 ∨ rTIMTXTS 20 ≤ b) ∧
      r.roOnly = true ∧
      1 < r.words ∧
      csr.toNat = b) ∧
    (∃ (a : Agent) (csr : Word) (s : State) (r : RegRow) (b : Nat),
      s.clocked = true ∧
      csr.toNat < 2 ^ 24 ∧
      csr.toNat % 4 = 0 ∧
      blockImplemented (csr.toNat / 0x10000) = true ∧
      (a ≠ .port ∨ s.portMay csr.toNat = true) ∧
      (csr.toNat ≠ rKEYRNG ∨ s.key.entropyBad = false) ∧
      regAt csr.toNat = some (r, b) ∧
      (b < rTIMTXTS 0 ∨ rTIMTXTS 20 ≤ b) ∧
      r.roOnly = true ∧
      1 < r.words ∧
      (csr.toNat - b) / 4 ≠ 0) ∧
    (∃ (a : Agent) (csr : Word) (s : State) (r : RegRow) (b : Nat),
      s.clocked = true ∧
      csr.toNat < 2 ^ 24 ∧
      csr.toNat % 4 = 0 ∧
      blockImplemented (csr.toNat / 0x10000) = true ∧
      (a ≠ .port ∨ s.portMay csr.toNat = true) ∧
      (csr.toNat ≠ rKEYRNG ∨ s.key.entropyBad = false) ∧
      regAt csr.toNat = some (r, b) ∧
      (b < rTIMTXTS 0 ∨ rTIMTXTS 20 ≤ b) ∧
      (r.roOnly = false ∨ r.words ≤ 1) ∧
      r.rc = 0) :=
  ⟨⟨.port, 0x80008, 7, State.reset, _, _, by decide +kernel, by decide +kernel, by decide +kernel, by decide +kernel, by decide +kernel, rfl, by decide +kernel⟩,
   ⟨.port, 0x8000C, 7, State.reset, _, _, by decide +kernel, by decide +kernel, by decide +kernel, by decide +kernel, by decide +kernel, rfl, by decide +kernel⟩,
   ⟨.port, 0xFFC, State.reset, by decide +kernel⟩,
   ⟨.port, BitVec.ofNat 32 rWAKETMR, 7, State.reset, _, _, _, by decide +kernel, by decide +kernel, by decide +kernel, by decide +kernel, by decide +kernel, rfl, by decide +kernel, rfl, rfl, by decide +kernel⟩,
   ⟨.port, 0, State.reset.fset fLDGCFG_SCHED_EN 0 |>.say .done |> fun s => { s with csrStage := [(rLDGORIGIN, 5000)] }, ((0 : Word).toNat * 2 ^ 32 + bits (lookupD ((State.reset.fset fLDGCFG_SCHED_EN 0 |>.say .done |> fun s => { s with csrStage := [(rLDGORIGIN, 5000)] } : State).reg rLDGORIGIN) rLDGORIGIN (State.reset.fset fLDGCFG_SCHED_EN 0 |>.say .done |> fun s => { s with csrStage := [(rLDGORIGIN, 5000)] } : State).csrStage) 0 32), by decide +kernel⟩,
   ⟨.port, 0x50040, State.reset, _, _, by decide +kernel, by decide +kernel, by decide +kernel, by decide +kernel, by decide +kernel, by decide +kernel, rfl, by decide +kernel, by decide +kernel, by decide +kernel, by decide +kernel⟩,
   ⟨.port, 0x50044, State.reset, _, _, by decide +kernel, by decide +kernel, by decide +kernel, by decide +kernel, by decide +kernel, by decide +kernel, rfl, by decide +kernel, by decide +kernel, by decide +kernel, by decide +kernel⟩,
   ⟨.port, 0x80008, State.reset, _, _, by decide +kernel, by decide +kernel, by decide +kernel, by decide +kernel, by decide +kernel, by decide +kernel, rfl, by decide +kernel, by decide +kernel, by decide +kernel⟩⟩

/-- The hypotheses of WideRegisters can be met: part 2. -/
theorem test_meets_wide_registers_2 :
    (∃ (a : Agent) (csr : Word) (s : State) (r : RegRow) (b : Nat),
      s.clocked = true ∧
      csr.toNat < 2 ^ 24 ∧
      csr.toNat % 4 = 0 ∧
      blockImplemented (csr.toNat / 0x10000) = true ∧
      (a ≠ .port ∨ s.portMay csr.toNat = true) ∧
      (csr.toNat ≠ rKEYRNG ∨ s.key.entropyBad = false) ∧
      regAt csr.toNat = some (r, b) ∧
      (b < rTIMTXTS 0 ∨ rTIMTXTS 20 ≤ b) ∧
      r.words ≤ 1 ∧
      csr.toNat = b ∧
      r.rc % 2 ^ 32 ≠ 0) ∧
    (∃ (a : Agent) (s : State),
      s.clocked = true ∧
      (a ≠ .port ∨ s.portMay rLCKBRK = true)) ∧
    (∃ (csr : Word) (s : State),
      s.clocked = true ∧
      2 ^ 24 ≤ csr.toNat) ∧
    (∃ (csr : Word) (s : State),
      s.clocked = true ∧
      csr.toNat < 2 ^ 24 ∧
      csr.toNat % 4 ≠ 0 ∧
      regAt csr.toNat = none) ∧
    (∃ (csr : Word) (s : State),
      s.clocked = true ∧
      csr.toNat < 2 ^ 24 ∧
      csr.toNat % 4 = 0 ∧
      blockImplemented (csr.toNat / 0x10000) = false) ∧
    (∃ (a : Agent) (csr : Word) (s : State),
      s.clocked = true ∧
      csr.toNat < 2 ^ 24 ∧
      csr.toNat % 4 = 0 ∧
      blockImplemented (csr.toNat / 0x10000) = true ∧
      regAt csr.toNat = none ∧
      a = .port ∧
      s.portMay csr.toNat = false) ∧
    (∃ (a : Agent) (csr : Word) (s : State),
      s.clocked = true ∧
      csr.toNat < 2 ^ 24 ∧
      csr.toNat % 4 = 0 ∧
      blockImplemented (csr.toNat / 0x10000) = true ∧
      regAt csr.toNat = none ∧
      (a ≠ .port ∨ s.portMay csr.toNat = true)) ∧
    (∃ (a : Agent) (csr : Word) (s : State) (r : RegRow) (b : Nat),
      s.clocked = true ∧
      csr.toNat < 2 ^ 24 ∧
      csr.toNat % 4 = 0 ∧
      blockImplemented (csr.toNat / 0x10000) = true ∧
      regAt csr.toNat = some (r, b) ∧
      a = .port ∧
      s.portMay csr.toNat = false) :=
  ⟨⟨.port, 0x70800, State.reset, _, _, by decide +kernel, by decide +kernel, by decide +kernel, by decide +kernel, by decide +kernel, by decide +kernel, rfl, by decide +kernel, by decide +kernel, by decide +kernel⟩,
   ⟨.port, State.reset, by decide +kernel⟩,
   ⟨0x1000000, tCc, by decide +kernel⟩,
   ⟨0xFF0001, tCc, by decide +kernel⟩,
   ⟨0xFF0000, tCc, by decide +kernel⟩,
   ⟨(.port), 0x1FFFC, (State.reset.fset fLCSSTAT_STATE lifeField), by decide +kernel⟩,
   ⟨.cc 0, 0x1FFFC, tCc, by decide +kernel, by decide +kernel, by decide +kernel, by decide +kernel, by decide +kernel, .inl (by decide +kernel)⟩,
   ⟨.port, 0x70800, State.reset.fset fLCSSTAT_STATE lifeField, _, _, by decide +kernel, by decide +kernel, by decide +kernel, by decide +kernel, rfl, by decide +kernel, by decide +kernel⟩⟩

/-- The hypotheses of WideRegisters can be met: part 3. -/
theorem test_meets_wide_registers_3 :
    (∃ (_a : Agent) (csr : Word) (s : State) (r : RegRow) (b : Nat),
      s.clocked = true ∧
      regAt csr.toNat = some (r, b)) ∧
    (∃ (s : State),
      s.clocked = true) ∧
    (∃ (a : Agent) (q : Fin 20) (i : Nat) (s : State),
      s.clocked = true ∧
      (a ≠ .port ∨ s.portMay (rTIMTXTS q.val) = true) ∧
      (i = 1 ∨ i = 2)) ∧
    (∃ (a : Agent) (s : State),
      s.clocked = true ∧
      (a ≠ .port ∨ s.portMay rKEYRNG = true) ∧
      s.key.entropyBad = true) :=
  ⟨⟨.port, 0x70800, State.reset, _, _, by decide +kernel, rfl⟩,
   ⟨State.reset, by decide +kernel⟩,
   ⟨.cc 0, 3, 1, State.reset, by decide +kernel, .inl (by decide +kernel), .inl rfl⟩,
   ⟨.cc 0, tCc.setKey { tCc.key with entropyBad := true }, by decide +kernel, .inl (by decide +kernel), by decide +kernel⟩⟩

/-- The hypotheses of Fences can be met: part 1. -/
theorem test_meets_fences_1 :
    (∃ (a : Agent) (n : Fin 96) (v : BitVec 96) (s : State),
      s.writes a rFENCE_SET = true ∧
      v.toNat = 2 ^ n.val ∧
      s.fencing n.val = false ∧
      n ≠ 11 ∧
      ((s.keepOne n.val).isEmpty || !((s.keepOne n.val).all fun m => decide (m = n.val) || s.fencing m)) = true) ∧
    (∃ (a : Agent) (n : Fin 96) (v : BitVec 96) (s : State),
      s.writes a rFENCE_SET = true ∧
      v.toNat = 2 ^ n.val ∧
      s.fencing n.val = false ∧
      n ≠ 11 ∧
      (s.keepOne n.val).isEmpty = false ∧
      ((s.keepOne n.val).all fun m => decide (m = n.val) || s.fencing m) = true) ∧
    (∃ (n : Fin 96) (s : State),
      s.clocked = true ∧
      bit s.pwr.fenceReq n.val = true ∧
      s.fencePoint n.val = true ∧
      20 ≤ n.val) ∧
    (∃ (n : Fin 96) (s : State),
      s.clocked = true ∧
      bit s.pwr.fenceReq n.val = true ∧
      n.val < 4) ∧
    (∃ (n : Fin 96) (s : State),
      s.clocked = true ∧
      bit s.pwr.fenceReq n.val = true ∧
      s.fencePoint n.val = true) ∧
    (∃ (n : Fin 96) (s : State),
      s.clocked = true ∧
      (bit s.pwr.fenceReq n.val = false ∨ s.fencePoint n.val = false)) ∧
    (∃ (a : Agent) (v : BitVec 96) (s : State),
      s.writes a rFENCE_SET = true ∧
      v.toNat = 2 ^ 11 ∧
      s.fencing 11 = false ∧
      s.mode = modeBoot ∧
      s.pwr.bootStep < 6) ∧
    (∃ (a : Agent) (v : BitVec 96) (s : State),
      s.writes a rFENCE_SET = true ∧
      v.toNat = 2 ^ 11 ∧
      s.fencing 11 = false ∧
      (s.mode ≠ modeBoot ∨ 6 ≤ s.pwr.bootStep)) :=
  ⟨⟨.port, 3, 8, State.reset, by decide +kernel⟩,
   ⟨.port, 3, 8, State.reset.setPwr { fenceReq := 7 }, by decide +kernel⟩,
   ⟨20, State.reset.setPwr { fenceReq := 2 ^ 20 }, by decide +kernel⟩,
   ⟨2, State.reset.setPwr { fenceReq := 4 }, by decide +kernel⟩,
   ⟨16, State.reset.setPwr { fenceReq := 2 ^ 16 }, by decide +kernel⟩,
   ⟨16, State.reset, by decide +kernel⟩,
   ⟨.port, 0x800, State.reset, by decide +kernel⟩,
   ⟨.port, 0x800, State.reset.setPwr { bootStep := 7 }, by decide +kernel⟩⟩

/-- The hypotheses of Fences can be met: part 2. -/
theorem test_meets_fences_2 :
    (∃ (a : Agent) (n : Fin 96) (v : BitVec 96) (s : State),
      s.writes a rFENCE_SET = true ∧
      v.toNat = 2 ^ n.val ∧
      s.fencing n.val = true) ∧
    (∃ (a : Agent) (n : Fin 96) (u : BitVec 96) (v : BitVec 96) (w : BitVec 96) (s : State),
      s.writes a rFENCE_SET = true ∧
      u.toNat = 2 ^ n.val ∧
      v.toNat < 2 ^ n.val ∧
      w.toNat = v.toNat + 2 ^ n.val) :=
  ⟨⟨.cc 0, 33, 0x200000000, tCc.setPwr { tCc.pwr with fenceReq := 0x200000000 }, by decide +kernel⟩,
   ⟨.cc 0, 33, 0x200000000, 0x100000000, 0x300000000, tCc, by decide +kernel⟩⟩

/-- The hypotheses of ResetsPerform can be met. -/
theorem test_meets_resets_perform :
    (∃ (s : State),
      s.mode ≠ modeBoot) ∧
    (∃ (a : Agent) (s : State),
      s.writes a rSWRESET = true) ∧
    (∃ (a : Agent) (v : Word) (s : State),
      s.writes a rSWRESET = true ∧
      v.toNat / 2 ^ 16 ≠ 0x5352) ∧
    (∃ (a : Agent) (v : Word) (s : State),
      s.writes a rSWRESET = true ∧
      v.toNat % 4 = 3) :=
  ⟨⟨State.reset.fset fMODESTAT_MODE modeService, by decide +kernel⟩,
   ⟨.port, State.reset, by decide +kernel⟩,
   ⟨.port, 0, State.reset, by decide +kernel⟩,
   ⟨.port, 0x53520003, State.reset, by decide +kernel⟩⟩

/-- The hypotheses of MemoryStaysCanonical can be met. -/
theorem test_meets_memory_stays_canonical :
    (∃ (s t : State),
      s.memOk ∧
      step s = .next t) :=
  ⟨State.reset, _, by decide +kernel, rfl⟩

/-- The hypotheses of BootRolesWatchdogs can be met: part 1. -/
theorem test_meets_boot_roles_watchdogs_1 :
    (∃ (f : RomFacts) (s : State),
      s.mode = modeBoot ∧
      s.pwr.bootStep = 1 ∧
      s.pwr.pf = .idle ∧
      s.pwr.asleep = false ∧
      s.flag fTAPSTAT_HOLD = false ∧
      f.pfail = false ∧
      bits f.plls.toNat 0 5 = 31 ∧
      s.life = lifeScrap) ∧
    (∃ (f : RomFacts) (s : State),
      s.mode = modeBoot ∧
      s.pwr.bootStep = 1 ∧
      s.pwr.pf = .idle ∧
      s.pwr.asleep = false ∧
      s.flag fTAPSTAT_HOLD = false ∧
      f.pfail = false ∧
      bits f.plls.toNat 0 5 = 31 ∧
      s.life ≠ lifeScrap ∧
      f.da.trained = false) ∧
    (∃ (f : RomFacts) (s : State),
      s.mode = modeBoot ∧
      s.pwr.bootStep = 1 ∧
      s.pwr.pf = .idle ∧
      s.pwr.asleep = false ∧
      s.flag fTAPSTAT_HOLD = false ∧
      f.pfail = false ∧
      bits f.plls.toNat 0 5 = 31 ∧
      s.life ≠ lifeScrap ∧
      f.da.trained = true ∧
      f.db.trained = true ∧
      f.dbFence = false ∧
      s.fenced 11 = false ∧
      4 ≤ f.da.gib.toNat ∧
      2 ≤ f.db.gib.toNat) ∧
    (∃ (f : RomFacts) (s : State),
      s.mode = modeBoot ∧
      s.pwr.bootStep = 1 ∧
      s.pwr.pf = .idle ∧
      s.pwr.asleep = false ∧
      s.flag fTAPSTAT_HOLD = false ∧
      f.pfail = false ∧
      bits f.plls.toNat 0 5 = 31 ∧
      s.life ≠ lifeScrap ∧
      f.da.trained = true ∧
      f.db.trained = true ∧
      f.dbFence = false ∧
      s.fenced 11 = false ∧
      4 ≤ f.da.gib.toNat ∧
      2 ≤ f.db.gib.toNat ∧
      s.life = lifeField ∧
      s.keysEmpty = true) ∧
    (∃ (f : Settings) (s : State),
      s.mode = modeBoot ∧
      s.pwr.bootStep = 6 ∧
      s.clocked = true ∧
      f.self.val ≤ f.nchips.val) ∧
    (∃ (s : State),
      s.clocked = true ∧
      s.roleReady = true ∧
      s.twinOn = false ∧
      s.flag fTMPSTAT_ERASED = false) ∧
    (∃ (s : State),
      s.clocked = true ∧
      s.roleReady = true ∧
      s.twinOn = true ∧
      s.sideClash = false ∧
      s.flag fTWNSTAT_ACTIN = true) ∧
    (∃ (a : Agent) (v : Word) (s : State),
      s.writes a rMODECTL = true ∧
      (s.mode = modeService ∧ v.toNat % 8 = modeHoldover) ∨ (s.mode = modeHoldover ∧ v.toNat % 8 = modeService)) :=
  ⟨⟨tRom, State.reset.fset fLCSSTAT_STATE lifeScrap, by decide +kernel⟩,
   ⟨tRom, State.reset, by decide +kernel⟩,
   ⟨{ tRom with da := ⟨8, 1, true, 0⟩, db := ⟨4, 1, true, 0⟩ }, State.reset, by decide +kernel⟩,
   ⟨{ tRom with da := ⟨8, 1, true, 0⟩, db := ⟨4, 1, true, 0⟩ }, State.reset.fset fLCSSTAT_STATE lifeField, by decide +kernel⟩,
   ⟨tSet, State.reset.setPwr { bootStep := 6 }, by decide +kernel⟩,
   ⟨(State.reset.setPwr { bootStep := 7 } |>.fset fLCSSTAT_STATE lifeField |>.setFlag fTIMSTAT_VALID true), by decide +kernel⟩,
   ⟨(State.reset.setPwr { bootStep := 7 } |>.fset fLCSSTAT_STATE lifeField |>.setFlag fTIMSTAT_VALID true |>.setFlag fTWNCFG_EN true |>.setFlag fTWNSTAT_ACTIN true), by decide +kernel⟩,
   ⟨.port, BitVec.ofNat 32 modeHoldover, State.reset.fset fMODESTAT_MODE modeService, by decide +kernel⟩⟩

/-- The hypotheses of BootRolesWatchdogs can be met: part 2. -/
theorem test_meets_boot_roles_watchdogs_2 :
    (∃ (a : Agent) (s : State),
      s.writes a rMODECTL = true ∧
      s.mode = modeRecovery) ∧
    (∃ (s : State),
      s.clocked = true ∧
      s.flag fWDTCTL_EN = true ∧
      s.pwr.wdtDue ≤ s.time.raw ∧
      s.pwr.wdtOnce = false) ∧
    (∃ (s : State),
      s.clocked = true ∧
      s.flag fWDTCTL_EN = true ∧
      s.pwr.wdtDue ≤ s.time.raw ∧
      s.pwr.wdtOnce = true) ∧
    (∃ (a : Agent) (v : Word) (s : State),
      s.writes a rWDTKICK = true ∧
      v.toNat % 2 ^ 16 = 0x5AC3 ∧
      s.fget fWDTCTL_WINDOW * msRaw (s.fget fWDTCTL_TIMEOUT) ≤ 100 * (s.time.raw - s.pwr.lastKick)) ∧
    (∃ (a : Agent) (v : Word) (s : State),
      s.writes a rWDTKICK = true ∧
      v.toNat % 2 ^ 16 ≠ 0x5AC3 ∧
      s.pwr.wdtOnce = false) ∧
    (∃ (s : State),
      s.flag fAONWDT_EN = true ∧
      s.pwr.asleep = false ∧
      s.pwr.aonDue ≤ s.time.raw) ∧
    (∃ (s : State),
      s.clocked = true ∧
      s.fget fDSTALL_LIMIT ≠ 0 ∧
      s.ldg.ready ≠ [] ∧
      max s.ldg.readyAt s.pwr.lastGrant + msRaw (s.fget fDSTALL_LIMIT) ≤ s.time.raw) ∧
    (∃ (_f : RomFacts) (s : State),
      (s.mode ≠ modeBoot ∨ s.pwr.bootStep ≠ 1 ∨ s.pwr.pf ≠ .idle ∨ s.pwr.asleep = true ∨ s.flag fTAPSTAT_HOLD = true)) :=
  ⟨⟨.port, State.reset.fset fMODESTAT_MODE modeRecovery, by decide +kernel⟩,
   ⟨(State.reset.setPwr { wdtDue := 0 } |>.setFlag fWDTCTL_EN true), by decide +kernel⟩,
   ⟨(State.reset.setPwr { wdtDue := 0, wdtOnce := true } |>.setFlag fWDTCTL_EN true), by decide +kernel⟩,
   ⟨.port, 0x5AC3, State.reset.fset fWDTCTL_WINDOW 0, by decide +kernel⟩,
   ⟨.port, 0, State.reset, by decide +kernel⟩,
   ⟨State.reset.setPwr { aonDue := 0 } |>.setFlag fAONWDT_EN true, by decide +kernel⟩,
   ⟨{ State.reset.fset fDSTALL_LIMIT 1 with ldg := { State.reset.ldg with ready := [⟨{}, 0, 2, true⟩] }, time := { State.reset.time with raw := 10000000 } }, by decide +kernel⟩,
   ⟨tRom, State.reset.fset fMODESTAT_MODE modeService, .inl (by decide +kernel)⟩⟩

/-- The hypotheses of BootRolesWatchdogs can be met: part 3. -/
theorem test_meets_boot_roles_watchdogs_3 :
    (∃ (f : RomFacts) (s : State),
      s.mode = modeBoot ∧
      s.pwr.bootStep = 1 ∧
      s.pwr.pf = .idle ∧
      s.pwr.asleep = false ∧
      s.flag fTAPSTAT_HOLD = false ∧
      f.pfail = true) ∧
    (∃ (f : RomFacts) (s : State),
      s.mode = modeBoot ∧
      s.pwr.bootStep = 1 ∧
      s.pwr.pf = .idle ∧
      s.pwr.asleep = false ∧
      s.flag fTAPSTAT_HOLD = false ∧
      f.pfail = false ∧
      bits f.plls.toNat 0 5 ≠ 31) ∧
    (∃ (f : RomFacts) (s u : State) (b : Bool),
      s.mode = modeBoot ∧
      s.pwr.bootStep = 1 ∧
      s.pwr.pf = .idle ∧
      s.pwr.asleep = false ∧
      s.flag fTAPSTAT_HOLD = false ∧
      f.pfail = false ∧
      bits f.plls.toNat 0 5 = 31 ∧
      ((s.setFlag fPFSTAT_PFAIL false).recMend.bootClocks f).bootMemory f = (u, b)) ∧
    (∃ (s : State) (u : State),
      (s.life = lifeField → s.flag fAONWDT_EN = true) ∧
      u = s.setMrm { s.mrm with sealed := s.mrm.sealRec.isSome, sealRec := none }) ∧
    (∃ (s : State) (u : State),
      (s.life = lifeField → s.flag fAONWDT_EN = true) ∧
      u = s.setMrm { s.mrm with sealed := s.mrm.sealRec.isSome, sealRec := none } ∧
      u.wantsRecovery = false) ∧
    (∃ (f : Settings) (s : State),
      (s.mode ≠ modeBoot ∨ s.pwr.bootStep ≠ 6 ∨ s.clocked = false ∨ f.nchips.val < f.self.val)) ∧
    (∃ (s : State),
      s.clocked = true ∧
      s.roleReady = false) ∧
    (∃ (s : State),
      s.clocked = true ∧
      s.roleReady = true ∧
      s.sideClash = true) :=
  ⟨⟨{ tRom with pfail := true }, State.reset, by decide +kernel⟩,
   ⟨{ tRom with plls := 0 }, State.reset, by decide +kernel⟩,
   ⟨tRom, State.reset, _, _, by decide +kernel, by decide +kernel, by decide +kernel, by decide +kernel, by decide +kernel, by decide +kernel, by decide +kernel, rfl⟩,
   ⟨State.reset, ((State.reset : State).setMrm { (State.reset : State).mrm with sealed := (State.reset : State).mrm.sealRec.isSome, sealRec := none }), by decide +kernel⟩,
   ⟨State.reset, ((State.reset : State).setMrm { (State.reset : State).mrm with sealed := (State.reset : State).mrm.sealRec.isSome, sealRec := none }), by decide +kernel⟩,
   ⟨tSet, State.reset, .inr (.inl (by decide +kernel))⟩,
   ⟨State.reset, by decide +kernel⟩,
   ⟨(((State.reset.setPwr { bootStep := 7 } |>.fset fLCSSTAT_STATE lifeField |>.setFlag fTIMSTAT_VALID true).setFlag fTWNCFG_EN true).setFlag (fDLSTAT_UP 3) true), by decide +kernel⟩⟩

/-- The hypotheses of BootRolesWatchdogs can be met: part 4. -/
theorem test_meets_boot_roles_watchdogs_4 :
    (∃ (clash : Bool) (s : State),
      s.clocked = true ∧
      s.roleReady = true ∧
      s.twinOn = true ∧
      s.sideClash = false ∧
      s.flag fTWNSTAT_ACTIN = false ∧
      (clash = false ∨ s.flag fTWNCFG_SIDE = false)) ∧
    (∃ (s : State),
      s.clocked = true ∧
      s.roleReady = true ∧
      s.twinOn = true ∧
      s.sideClash = false ∧
      s.flag fTWNSTAT_ACTIN = false ∧
      s.flag fTWNCFG_SIDE = true) ∧
    (∃ (s : State),
      s.clocked = true ∧
      s.roleReady = true ∧
      s.twinOn = false ∧
      s.flag fTMPSTAT_ERASED = true) ∧
    (∃ (a : Agent) (v : Word) (s : State),
      s.writes a rMODECTL = true ∧
      s.mode = modeBoot ∧
      v.toNat % 8 = modeCommission ∧
      7 ≤ s.pwr.bootStep ∧
      (s.life = lifeBlank ∨ s.life = lifeProvisioned ∨ s.life = lifeDepot)) ∧
    (∃ (a : Agent) (v : Word) (s : State),
      s.writes a rMODECTL = true ∧
      s.mode = modeBoot ∧
      v.toNat % 8 = modeCommission ∧
      (s.pwr.bootStep < 7 ∨ s.life = lifeField ∨ s.life = lifeScrap)) ∧
    (∃ (a : Agent) (v : Word) (s : State) (m : Nat),
      s.writes a rMODECTL = true ∧
      s.roleReady = true ∧
      s.sideClash = false ∧
      m = (if s.roleIsStandby false = true then modeStandby else modeService) ∧
      v.toNat % 8 = m) ∧
    (∃ (a : Agent) (v : Word) (s : State),
      s.writes a rMODECTL = true ∧
      s.mode = modeBoot ∧
      v.toNat % 8 ≠ modeCommission ∧
      (s.roleReady = false ∨ s.sideClash = true ∨ v.toNat % 8 ≠ (if s.roleIsStandby false = true then modeStandby else modeService))) ∧
    (∃ (a : Agent) (v : Word) (s : State),
      s.writes a rMODECTL = true ∧
      s.mode ≠ modeBoot ∧
      (s.mode ≠ modeService ∨ v.toNat % 8 ≠ modeHoldover) ∧
      (s.mode ≠ modeHoldover ∨ v.toNat % 8 ≠ modeService)) :=
  ⟨⟨false, ((State.reset.setPwr { bootStep := 7 } |>.fset fLCSSTAT_STATE lifeField |>.setFlag fTIMSTAT_VALID true).setFlag fTWNCFG_EN true), by decide +kernel, by decide +kernel, by decide +kernel, by decide +kernel, by decide +kernel, .inl rfl⟩,
   ⟨((State.reset.setPwr { bootStep := 7 } |>.fset fLCSSTAT_STATE lifeField |>.setFlag fTIMSTAT_VALID true).setFlag fTWNCFG_EN true).setFlag fTWNCFG_SIDE true, by decide +kernel⟩,
   ⟨(State.reset.setPwr { bootStep := 7 } |>.fset fLCSSTAT_STATE lifeField |>.setFlag fTIMSTAT_VALID true).setFlag fTMPSTAT_ERASED true, by decide +kernel⟩,
   ⟨.cc 0, BitVec.ofNat 32 modeCommission, State.reset.setPwr { bootStep := 7 }, by decide +kernel, by decide +kernel, by decide +kernel, by decide +kernel, .inl (by decide +kernel)⟩,
   ⟨.cc 0, BitVec.ofNat 32 modeCommission, State.reset, by decide +kernel, by decide +kernel, by decide +kernel, .inl (by decide +kernel)⟩,
   ⟨.cc 0, BitVec.ofNat 32 modeService, (State.reset.setPwr { bootStep := 7 } |>.fset fLCSSTAT_STATE lifeField |>.setFlag fTIMSTAT_VALID true), ((if ((State.reset.setPwr { bootStep := 7 } |>.fset fLCSSTAT_STATE lifeField |>.setFlag fTIMSTAT_VALID true) : State).roleIsStandby false = true then modeStandby else modeService)), by decide +kernel⟩,
   ⟨.cc 0, 0, State.reset, by decide +kernel, by decide +kernel, by decide +kernel, .inl (by decide +kernel)⟩,
   ⟨.cc 0, BitVec.ofNat 32 modeStandby, State.reset.fset fMODESTAT_MODE modeService, by decide +kernel, by decide +kernel, .inr (by decide +kernel), .inl (by decide +kernel)⟩⟩

/-- The hypotheses of BootRolesWatchdogs can be met: part 5. -/
theorem test_meets_boot_roles_watchdogs_5 :
    (∃ (s : State),
      s.clocked = true ∧
      (s.flag fWDTCTL_EN = false ∨ s.time.raw < s.pwr.wdtDue ∨ s.pwr.wdtOnce = true)) ∧
    (∃ (s : State),
      s.clocked = true ∧
      (s.flag fWDTCTL_EN = false ∨ s.time.raw < s.pwr.wdtDue ∨ s.pwr.wdtOnce = false)) ∧
    (∃ (a : Agent) (v : Word) (s : State),
      s.writes a rWDTKICK = true ∧
      v.toNat % 2 ^ 16 = 0x5AC3 ∧
      100 * (s.time.raw - s.pwr.lastKick) < s.fget fWDTCTL_WINDOW * msRaw (s.fget fWDTCTL_TIMEOUT) ∧
      s.pwr.wdtOnce = false) ∧
    (∃ (a : Agent) (v : Word) (s : State),
      s.writes a rWDTKICK = true ∧
      v.toNat % 2 ^ 16 = 0x5AC3 ∧
      100 * (s.time.raw - s.pwr.lastKick) < s.fget fWDTCTL_WINDOW * msRaw (s.fget fWDTCTL_TIMEOUT) ∧
      s.pwr.wdtOnce = true) ∧
    (∃ (a : Agent) (v : Word) (s : State),
      s.writes a rWDTKICK = true ∧
      v.toNat % 2 ^ 16 ≠ 0x5AC3 ∧
      s.pwr.wdtOnce = true) ∧
    (∃ (s : State),
      (s.flag fAONWDT_EN = false ∨ s.pwr.asleep = true ∨ s.time.raw < s.pwr.aonDue)) ∧
    (∃ (s : State),
      s.clocked = true ∧
      (s.fget fDSTALL_LIMIT = 0 ∨ s.ldg.ready = [] ∨ s.time.raw < max s.ldg.readyAt s.pwr.lastGrant + msRaw (s.fget fDSTALL_LIMIT))) :=
  ⟨⟨State.reset.setFlag fWDTCTL_EN false, by decide +kernel, .inl (by decide +kernel)⟩,
   ⟨State.reset.setFlag fWDTCTL_EN false, by decide +kernel, .inl (by decide +kernel)⟩,
   ⟨.cc 0, 0x5AC3, State.reset.fset fWDTCTL_WINDOW 50, by decide +kernel⟩,
   ⟨.cc 0, 0x5AC3, (State.reset.fset fWDTCTL_WINDOW 50).setPwr { wdtOnce := true }, by decide +kernel⟩,
   ⟨.cc 0, 1, State.reset.setPwr { wdtOnce := true }, by decide +kernel⟩,
   ⟨State.reset, .inl (by decide +kernel)⟩,
   ⟨State.reset, by decide +kernel, .inr (.inl (by decide +kernel))⟩⟩

/-- The hypotheses of PowerAndSleep can be met: part 1. -/
theorem test_meets_power_and_sleep_1 :
    (∃ (s : State),
      s.clocked = true ∧
      s.pwr.pf = .idle) ∧
    (∃ (s : State) (t0 : Nat),
      s.pwr.pf = .closing t0) ∧
    (∃ (s : State),
      (s.pwr.pf = .halted ∨ (s.pwr.pf = .idle ∧ s.clocked = false))) ∧
    (∃ (s : State),
      s.pwr.pf = .halted) ∧
    (∃ (s : State),
      s.pwr.pf ≠ .halted) ∧
    (∃ (a : Agent) (s : State),
      s.writes a rLPCTL = true ∧
      s.pwr.pf = .idle ∧
      (s.mode = modeService ∨ s.mode = modeHoldover ∨ s.mode = modeStandby)) ∧
    (∃ (a : Agent) (s : State),
      s.writes a rLPCTL = true ∧
      s.quiet = true) ∧
    (∃ (a : Agent) (s : State),
      s.writes a rLPCTL = true ∧
      s.fget fSEMCFG_NCHIPS = 1 ∧
      s.twinOn = false ∧
      s.quiet = true ∧
      s.serving = true ∧
      s.pwr.pf = .idle ∧
      s.lpBusy = false ∧
      s.inDa s.saveBase 0x2000000 = true) :=
  ⟨⟨State.reset, by decide +kernel⟩,
   ⟨State.reset.setPwr { pf := .closing 0 }, 0, by decide +kernel⟩,
   ⟨State.reset.setPwr { pf := .halted }, .inl (by decide +kernel)⟩,
   ⟨State.reset.setPwr { pf := .halted }, by decide +kernel⟩,
   ⟨State.reset, by decide +kernel⟩,
   ⟨.port, (State.reset.fset fMODESTAT_MODE modeService), by decide +kernel⟩,
   ⟨.port, (State.reset.fset fMODESTAT_MODE modeService |>.fset fMODESTAT_LPS 1), by decide +kernel⟩,
   ⟨.port, (((List.range 64).foldl (fun (u : State) n => u.setLc n { run := .waiting }) State.reset) |>.fset fMODESTAT_MODE modeService |>.fset fMODESTAT_LPS 1 |>.fset (fDDRSTAT_SIZE 0) 8), by decide +kernel⟩⟩

/-- The hypotheses of PowerAndSleep can be met: part 2. -/
theorem test_meets_power_and_sleep_2 :
    (∃ (s : State),
      s.pwr.asleep = true ∧
      s.flag fTAPSTAT_HOLD = false ∧
      s.flag fLPCTL_WAKE_TMR = true ∧
      s.fget fWAKETMR_TICKS ≠ 0 ∧
      sha3_256 (s.bytes s.saveBase 0x2000000) = s.pwr.saveDigest ∧
      s.imageSound = true ∧
      s.flag fTMPSTAT_PEND = false) ∧
    (∃ (_n : Nat) (s : State),
      s.pwr.asleep = true ∧
      s.flag fTAPSTAT_HOLD = false ∧
      s.flag fPFSTAT_PFAIL = true ∧
      s.flag fLPCTL_WAKE_PF = true ∧
      sha3_256 (s.bytes s.saveBase 0x2000000) = s.pwr.saveDigest ∧
      s.imageSound = true ∧
      s.flag fTMPSTAT_PEND = false) ∧
    (∃ (s : State),
      s.pwr.asleep = true ∧
      s.flag fTAPSTAT_HOLD = false ∧
      s.flag fLPCTL_WAKE_TMR = true ∧
      s.fget fWAKETMR_TICKS ≠ 0 ∧
      (sha3_256 (s.bytes s.saveBase 0x2000000) ≠ s.pwr.saveDigest ∨ s.imageSound = false ∨ s.flag fTMPSTAT_PEND = true)) ∧
    (∃ (_n : Nat) (s : State),
      s.pwr.asleep = true ∧
      s.flag fTAPSTAT_HOLD = false ∧
      s.flag fPFSTAT_PFAIL = true ∧
      s.flag fLPCTL_WAKE_PF = true ∧
      (sha3_256 (s.bytes s.saveBase 0x2000000) ≠ s.pwr.saveDigest ∨ s.imageSound = false ∨ s.flag fTMPSTAT_PEND = true)) ∧
    (∃ (s : State),
      s.pwr.asleep = true ∧
      s.flag fTAPSTAT_HOLD = false ∧
      s.flag fLPCTL_WAKE_TMR = true ∧
      s.fget fWAKETMR_TICKS ≠ 0) ∧
    (∃ (s : State),
      s.pwr.asleep = true ∧
      s.flag fTAPSTAT_HOLD = false ∧
      s.flag fPFSTAT_PFAIL = true ∧
      s.flag fLPCTL_WAKE_PF = true) ∧
    (∃ (a : Agent) (s : State),
      s.writes a rLPCTL = true ∧
      (s.pwr.pf ≠ .idle ∨ (s.mode ≠ modeService ∧ s.mode ≠ modeHoldover ∧ s.mode ≠ modeStandby))) ∧
    (∃ (a : Agent) (s : State),
      s.writes a rLPCTL = true ∧
      s.quiet = false) :=
  ⟨⟨tSleep, by decide +kernel, by decide +kernel, by decide +kernel, by decide +kernel, test_saved tSleep0 _ _ rfl, by decide +kernel, by decide +kernel⟩,
   ⟨0, tSleepP, by decide +kernel, by decide +kernel, by decide +kernel, by decide +kernel, test_saved tSleepP0 _ _ rfl, by decide +kernel, by decide +kernel⟩,
   ⟨({ State.reset with pwr := { asleep := true } } |>.setFlag fLPCTL_WAKE_TMR true |>.fset fWAKETMR_TICKS 5 |>.setFlag fTMPSTAT_PEND true), by decide +kernel, by decide +kernel, by decide +kernel, by decide +kernel, .inr (.inr (by decide +kernel))⟩,
   ⟨0, ({ State.reset with pwr := { asleep := true } } |>.setFlag fLPCTL_WAKE_PF true |>.setFlag fPFSTAT_PFAIL true |>.setFlag fTMPSTAT_PEND true), by decide +kernel, by decide +kernel, by decide +kernel, by decide +kernel, .inr (.inr (by decide +kernel))⟩,
   ⟨({ State.reset with pwr := { asleep := true } } |>.setFlag fLPCTL_WAKE_TMR true |>.fset fWAKETMR_TICKS 5 |>.setFlag fTMPSTAT_PEND true), by decide +kernel⟩,
   ⟨({ State.reset with pwr := { asleep := true } } |>.setFlag fLPCTL_WAKE_PF true |>.setFlag fPFSTAT_PFAIL true |>.setFlag fTMPSTAT_PEND true), by decide +kernel⟩,
   ⟨.port, State.reset, by decide +kernel, .inr (by decide +kernel)⟩,
   ⟨.port, (State.reset.fset fMODESTAT_MODE modeService), by decide +kernel⟩⟩

/-- The hypotheses of PowerAndSleep can be met: part 3. -/
theorem test_meets_power_and_sleep_3 :
    (∃ (a : Agent) (s : State),
      s.writes a rLPCTL = true ∧
      (s.fget fSEMCFG_NCHIPS ≠ 1 ∨ s.twinOn = true ∨ s.quiet = false ∨ s.serving = false ∨ s.pwr.pf ≠ .idle)) ∧
    (∃ (a : Agent) (s : State),
      s.writes a rLPCTL = true ∧
      s.fget fSEMCFG_NCHIPS = 1 ∧
      s.twinOn = false ∧
      s.quiet = true ∧
      s.serving = true ∧
      s.pwr.pf = .idle ∧
      s.lpBusy = true) ∧
    (∃ (a : Agent) (s : State),
      s.writes a rLPCTL = true ∧
      s.fget fSEMCFG_NCHIPS = 1 ∧
      s.twinOn = false ∧
      s.quiet = true ∧
      s.serving = true ∧
      s.pwr.pf = .idle ∧
      s.lpBusy = false ∧
      s.inDa s.saveBase 0x2000000 = false) ∧
    (∃ (_w : Wake) (s : State),
      (s.pwr.asleep = false ∨ s.flag fTAPSTAT_HOLD = true)) ∧
    (∃ (_cut : Bool) (s : State),
      s.pwr.asleep = true ∧
      (s.flag fLPCTL_WAKE_TMR = false ∨ s.fget fWAKETMR_TICKS = 0)) ∧
    (∃ (_n : Nat) (_cut : Bool) (s : State),
      s.pwr.asleep = true ∧
      s.flag fTAPSTAT_HOLD = false ∧
      (s.flag fPFSTAT_PFAIL = false ∨ s.flag fLPCTL_WAKE_PF = false)) :=
  ⟨⟨.port, (State.reset.fset fMODESTAT_MODE modeService), by decide +kernel, .inr (.inr (.inl (by decide +kernel)))⟩,
   ⟨.port, (State.reset.fset fMODESTAT_MODE modeService |>.fset fMODESTAT_LPS 1), by decide +kernel⟩,
   ⟨.port, (((List.range 64).foldl (fun (u : State) n => u.setLc n { run := .waiting }) State.reset) |>.fset fMODESTAT_MODE modeService |>.fset fMODESTAT_LPS 1), by decide +kernel⟩,
   ⟨.timer false, State.reset, .inl (by decide +kernel)⟩,
   ⟨false, State.reset.setPwr { asleep := true }, by decide +kernel, .inr (by decide +kernel)⟩,
   ⟨0, false, State.reset.setPwr { asleep := true }, by decide +kernel, by decide +kernel, .inl (by decide +kernel)⟩⟩

/-- The hypotheses of ChipTimeAndSteps can be met: part 1. -/
theorem test_meets_chip_time_and_steps_1 :
    (∃ (a : Agent) (v : DWord) (s : State),
      s.writes a rTIMINCR = true ∧
      2 ^ 40 - 549755813 ≤ v.toNat ∧
      v.toNat ≤ 2 ^ 40 + 549755813) ∧
    (∃ (a : Agent) (v : DWord) (s : State),
      s.writes a rTIMINCR = true ∧
      (v.toNat < 2 ^ 40 - 549755813 ∨ 2 ^ 40 + 549755813 < v.toNat)) ∧
    (∃ (a : Agent) (s : State),
      s.writes a rTIMSET = true ∧
      s.flag fTIMSTAT_EVER = false) ∧
    (∃ (a : Agent) (v : DWord) (s : State),
      s.writes a rTIMSET = true ∧
      s.flag fTIMSTAT_EVER = true ∧
      ((v.toNat : Int) - s.chip).natAbs ≤ 2000000000 ∧
      ((v.toNat : Int) - s.chip).natAbs ≤ s.budget) ∧
    (∃ (a : Agent) (v : DWord) (s : State),
      s.writes a rTIMSTEP = true ∧
      s.flag fTIMSTAT_EVER = true ∧
      v.toInt.natAbs ≤ 2000000000 ∧
      v.toInt.natAbs ≤ s.budget) ∧
    (∃ (a : Agent) (v : DWord) (s : State),
      s.writes a rTIMSET = true ∧
      s.flag fTIMSTAT_EVER = true ∧
      (2000000000 < ((v.toNat : Int) - s.chip).natAbs ∨ s.budget < ((v.toNat : Int) - s.chip).natAbs)) ∧
    (∃ (a : Agent) (v : DWord) (s : State),
      s.writes a rTIMSTEP = true ∧
      (s.flag fTIMSTAT_EVER = false ∨ 2000000000 < v.toInt.natAbs ∨ s.budget < v.toInt.natAbs)) ∧
    (∃ (a : Agent) (s : State),
      s.writes a rTIMCFG = true) :=
  ⟨⟨.port, 1099511627780, State.reset.setTime { raw := 12345, offset := 5 }, by decide +kernel⟩,
   ⟨.port, 0, State.reset, by decide +kernel⟩,
   ⟨.port, State.reset, by decide +kernel⟩,
   ⟨.port, 3600000500000, State.reset.setTime { raw := 3600000000000 } |>.setFlag fTIMSTAT_EVER true, by decide +kernel⟩,
   ⟨.port, BitVec.ofInt 64 (-400), State.reset.setTime { raw := 3600000000000 } |>.setFlag fTIMSTAT_EVER true, by decide +kernel⟩,
   ⟨.port, 0, State.reset.setTime { raw := 3600000000000 } |>.setFlag fTIMSTAT_EVER true, by decide +kernel⟩,
   ⟨.port, 0, State.reset, by decide +kernel⟩,
   ⟨.port, State.reset.setTime { raw := 3600000000000 } |>.setFlag fTIMSTAT_EVER true, by decide +kernel⟩⟩

/-- The hypotheses of ChipTimeAndSteps can be met: part 2. -/
theorem test_meets_chip_time_and_steps_2 :
    (∃ (a : Agent) (slot : BitVec 12) (s : State) (st : Status),
      s.writes a rTIMSTEPREC = true ∧
      s.inDa (s.fget fTIMSTEPADDR_ADDR) (48 + sigBytes) = true ∧
      s.poisonedIn (s.fget fTIMSTEPADDR_ADDR) (48 + sigBytes) = false ∧
      st = (s.fset fTIMSTEPREC_SLOT slot.toNat).stepCheck (s.bytes (s.fget fTIMSTEPADDR_ADDR) (48 + sigBytes))) ∧
    (∃ (a : Agent) (s : State),
      s.writes a rTIMSTEPREC = true ∧
      s.inDa (s.fget fTIMSTEPADDR_ADDR) (48 + sigBytes) = false) ∧
    (∃ (a : Agent) (s : State),
      s.writes a rTIMSTEPREC = true ∧
      s.inDa (s.fget fTIMSTEPADDR_ADDR) (48 + sigBytes) = true ∧
      s.poisonedIn (s.fget fTIMSTEPADDR_ADDR) (48 + sigBytes) = true) :=
  ⟨⟨.port, 5, State.reset.fset (fDDRSTAT_SIZE 0) 4 |>.fset fTIMSTEPADDR_ADDR daBase, _, by decide +kernel, by decide +kernel, by decide +kernel, rfl⟩,
   ⟨.port, State.reset, by decide +kernel⟩,
   ⟨.cc 0, (tPois tCc).fset fTIMSTEPADDR_ADDR daBase, by decide +kernel⟩⟩

/-- The hypotheses of ReadingTheWorld can be met: part 1. -/
theorem test_meets_reading_the_world_1 :
    (∃ (a : Agent) (q : Fin 20) (s : State) (e : TxStamp) (es : List TxStamp),
      s.clocked = true ∧
      (a ≠ .port ∨ s.portMay (rTIMTXTS q.val) = true) ∧
      (s.time.txq.get txqReset q.val).entries = e :: es ∧
      e.fid < 2 ^ 16) ∧
    (∃ (a : Agent) (q : Fin 20) (s : State),
      s.clocked = true ∧
      (a ≠ .port ∨ s.portMay (rTIMTXTS q.val) = true) ∧
      (s.time.txq.get txqReset q.val).entries = []) ∧
    (∃ (n : Fin 8) (s : State),
      s.clocked = true ∧
      s.flag (fTIMTRIGCTL_EN n.val) = true ∧
      s.flag (fTIMTRIGCTL_MODE n.val) = false ∧
      s.fget (fTIMTRIGSTART_VALUE n.val) ≤ s.time.raw ∧
      s.fget (fTIMTRIGPER_VALUE n.val) = 0) ∧
    (∃ (n : Fin 8) (s : State) (m : Nat),
      s.clocked = true ∧
      s.flag (fTIMTRIGCTL_EN n.val) = true ∧
      s.flag (fTIMTRIGCTL_MODE n.val) = false ∧
      s.fget (fTIMTRIGSTART_VALUE n.val) ≤ s.time.raw ∧
      s.fget (fTIMTRIGPER_VALUE n.val) ≠ 0 ∧
      m = (s.time.raw - s.fget (fTIMTRIGSTART_VALUE n.val)) / s.fget (fTIMTRIGPER_VALUE n.val) ∧
      s.time.raw + s.fget (fTIMTRIGPER_VALUE n.val) < 2 ^ 64) ∧
    (∃ (n : Fin 8) (s : State),
      s.clocked = true ∧
      s.flag (fTIMTRIGCTL_EN n.val) = true ∧
      s.flag (fTIMTRIGCTL_MODE n.val) = true ∧
      s.timeValid = true ∧
      s.fget (fTIMTRIGSTART_VALUE n.val) ≤ s.chip ∧
      s.fget (fTIMTRIGPER_VALUE n.val) = 0) ∧
    (∃ (n : Fin 8) (s : State) (m : Nat),
      s.clocked = true ∧
      s.flag (fTIMTRIGCTL_EN n.val) = true ∧
      s.flag (fTIMTRIGCTL_MODE n.val) = true ∧
      s.timeValid = true ∧
      s.fget (fTIMTRIGSTART_VALUE n.val) ≤ s.chip ∧
      s.fget (fTIMTRIGPER_VALUE n.val) ≠ 0 ∧
      m = (s.chip - s.fget (fTIMTRIGSTART_VALUE n.val)) / s.fget (fTIMTRIGPER_VALUE n.val) ∧
      s.chip + s.fget (fTIMTRIGPER_VALUE n.val) < 2 ^ 64) ∧
    (∃ (n : Fin 8) (s : State),
      s.clocked = true ∧
      (s.flag (fTIMTRIGCTL_EN n.val) = false ∨ (s.flag (fTIMTRIGCTL_MODE n.val) = true ∧ s.timeValid = false))) ∧
    (∃ (s : State),
      s.clocked = true ∧
      s.timeValid = true ∧
      s.flag fTIMPPSO_EN = true ∧
      s.chip % 1000000000 = 0) :=
  ⟨⟨.port, 0, State.reset.setTxq 0 { entries := [⟨5, true, 99⟩] }, ⟨5, true, 99⟩, [], by decide +kernel⟩,
   ⟨.port, 0, State.reset, by decide +kernel⟩,
   ⟨3, (State.reset.setFlag (fTIMTRIGCTL_EN 3) true |>.setFlag fCMTCFG_EN true |>.fset fCMTCFG_SAMP_TRIG 3 |>.setTime { raw := 1000 }), by decide +kernel⟩,
   ⟨3, (State.reset.setFlag (fTIMTRIGCTL_EN 3) true |>.setFlag fCMTCFG_EN true |>.fset fCMTCFG_SAMP_TRIG 3 |>.setTime { raw := 1000 } |>.fset (fTIMTRIGPER_VALUE 3) 300), ((((State.reset.setFlag (fTIMTRIGCTL_EN 3) true |>.setFlag fCMTCFG_EN true |>.fset fCMTCFG_SAMP_TRIG 3 |>.setTime { raw := 1000 } |>.fset (fTIMTRIGPER_VALUE 3) 300) : State).time.raw - ((State.reset.setFlag (fTIMTRIGCTL_EN 3) true |>.setFlag fCMTCFG_EN true |>.fset fCMTCFG_SAMP_TRIG 3 |>.setTime { raw := 1000 } |>.fset (fTIMTRIGPER_VALUE 3) 300) : State).fget (fTIMTRIGSTART_VALUE (3 : Fin 8).val)) / ((State.reset.setFlag (fTIMTRIGCTL_EN 3) true |>.setFlag fCMTCFG_EN true |>.fset fCMTCFG_SAMP_TRIG 3 |>.setTime { raw := 1000 } |>.fset (fTIMTRIGPER_VALUE 3) 300) : State).fget (fTIMTRIGPER_VALUE (3 : Fin 8).val)), by decide +kernel⟩,
   ⟨3, (State.reset.setFlag (fTIMTRIGCTL_EN 3) true |>.setFlag fCMTCFG_EN true |>.fset fCMTCFG_SAMP_TRIG 3 |>.setTime { raw := 1000 } |>.setFlag (fTIMTRIGCTL_MODE 3) true |>.setFlag fTIMSTAT_VALID true), by decide +kernel⟩,
   ⟨3, (State.reset.setFlag (fTIMTRIGCTL_EN 3) true |>.setFlag fCMTCFG_EN true |>.fset fCMTCFG_SAMP_TRIG 3 |>.setTime { raw := 1000 } |>.setFlag (fTIMTRIGCTL_MODE 3) true |>.setFlag fTIMSTAT_VALID true |>.fset (fTIMTRIGPER_VALUE 3) 300), ((((State.reset.setFlag (fTIMTRIGCTL_EN 3) true |>.setFlag fCMTCFG_EN true |>.fset fCMTCFG_SAMP_TRIG 3 |>.setTime { raw := 1000 } |>.setFlag (fTIMTRIGCTL_MODE 3) true |>.setFlag fTIMSTAT_VALID true |>.fset (fTIMTRIGPER_VALUE 3) 300) : State).chip - ((State.reset.setFlag (fTIMTRIGCTL_EN 3) true |>.setFlag fCMTCFG_EN true |>.fset fCMTCFG_SAMP_TRIG 3 |>.setTime { raw := 1000 } |>.setFlag (fTIMTRIGCTL_MODE 3) true |>.setFlag fTIMSTAT_VALID true |>.fset (fTIMTRIGPER_VALUE 3) 300) : State).fget (fTIMTRIGSTART_VALUE (3 : Fin 8).val)) / ((State.reset.setFlag (fTIMTRIGCTL_EN 3) true |>.setFlag fCMTCFG_EN true |>.fset fCMTCFG_SAMP_TRIG 3 |>.setTime { raw := 1000 } |>.setFlag (fTIMTRIGCTL_MODE 3) true |>.setFlag fTIMSTAT_VALID true |>.fset (fTIMTRIGPER_VALUE 3) 300) : State).fget (fTIMTRIGPER_VALUE (3 : Fin 8).val)), by decide +kernel⟩,
   ⟨3, State.reset, by decide +kernel⟩,
   ⟨State.reset.setFlag fTIMSTAT_VALID true |>.setFlag fTIMPPSO_EN true, by decide +kernel⟩⟩

/-- The hypotheses of ReadingTheWorld can be met: part 2. -/
theorem test_meets_reading_the_world_2 :
    (∃ (ns : Nat) (s : State),
      s.clocked = true ∧
      100 ≤ ns) ∧
    (∃ (a : Agent) (s : State),
      s.writes a rCLKCTL = true) ∧
    (∃ (temp : BitVec 12) (s : State),
      s.clocked = true ∧
      880 ≤ temp.toInt) ∧
    (∃ (temp : BitVec 12) (s : State),
      s.clocked = true ∧
      temp.toInt < 880) ∧
    (∃ (n : Fin 8) (s : State),
      s.clocked = true ∧
      (if s.flag (fTIMTRIGCTL_MODE n.val) = true then s.chip else s.time.raw) < s.fget (fTIMTRIGSTART_VALUE n.val)) ∧
    (∃ (s : State),
      s.clocked = true ∧
      (s.timeValid = false ∨ s.flag fTIMPPSO_EN = false ∨ s.chip % 1000000000 ≠ 0)) ∧
    (∃ (ns : Nat) (s : State),
      s.clocked = true ∧
      ns < 100) ∧
    (∃ (q : Fin 20) (s : State),
      s.clocked = true ∧
      s.portMay (rTIMTXTS q.val) = false) :=
  ⟨⟨100, State.reset.setTime { raw := 5, offset := 6, ppsUnread := true }, by decide +kernel⟩,
   ⟨.port, State.reset.setFlag fCLKSTAT_TSRC true, by decide +kernel⟩,
   ⟨880, State.reset, by decide +kernel⟩,
   ⟨0x900, State.reset, by decide +kernel⟩,
   ⟨3, State.reset.fset (fTIMTRIGSTART_VALUE 3) 9, by decide +kernel⟩,
   ⟨State.reset, by decide +kernel, .inl (by decide +kernel)⟩,
   ⟨5, State.reset, by decide +kernel⟩,
   ⟨3, (State.reset.fset fLCSSTAT_STATE lifeField), by decide +kernel⟩⟩

/-- The hypotheses of ReadingTheWorld can be met: part 3. -/
theorem test_meets_reading_the_world_3 :
    (∃ (n : Fin 8) (s : State),
      s.clocked = true ∧
      s.flag (fTIMTRIGCTL_EN n.val) = true ∧
      (s.flag (fTIMTRIGCTL_MODE n.val) = false ∨ s.timeValid = true) ∧
      s.fget (fTIMTRIGSTART_VALUE n.val) ≤ (if s.flag (fTIMTRIGCTL_MODE n.val) = true then s.chip else s.time.raw)) :=
  ⟨3, State.reset.setFlag (fTIMTRIGCTL_EN 3) true, by decide +kernel, by decide +kernel, .inl (by decide +kernel), by decide +kernel⟩

/-- The hypotheses of EventsAreRecorded can be met: part 1. -/
theorem test_meets_events_are_recorded_1 :
    (∃ (s : State),
      s.clocked = true) ∧
    (∃ (es : List Event) (s : State),
      s.clocked = true ∧
      64 < es.length) ∧
    (∃ (e : Event) (s : State) (o : OpenRec),
      s.foldsInto e = some o) ∧
    (∃ (e : Event) (s : State) (k : Nat),
      s.evr.openSet = [] ∧
      (s.setOpen []).takeSlot e.sev = some k ∧
      k < 8192 ∧
      s.fget fEVRRSEQ_RSEQ + 1 < 2 ^ 48) ∧
    (∃ (k : Fin 4) (v : BitVec 128) (s : State),
      s.clocked = true ∧
      s.planeDenied k.val rEVRPOST = false ∧
      0xC00 ≤ fEVRPOST_CODE.of v.toNat) ∧
    (∃ (a : Agent) (v : BitVec 128) (s : State),
      s.writes a rEVRPOST = true ∧
      fEVRPOST_CODE.of v.toNat < 0xC00) ∧
    (∃ (v : BitVec 128) (s : State),
      s.clocked = true ∧
      s.portMay rEVRPOST = true ∧
      0xC00 ≤ fEVRPOST_CODE.of v.toNat) ∧
    (∃ (s : State) (o : OpenRec),
      s.clocked = true ∧
      s.evr.openSet = [o] ∧
      o.dirty = true ∧
      o.written + msRaw (s.fget fEVRCFG_FLUSHMS) ≤ s.time.raw) :=
  ⟨⟨State.reset, by decide +kernel⟩,
   ⟨List.replicate 65 { code := 0x123, sev := 2, src := 7, inst := 3, arg0 := 4, arg1 := 5, value := 9 }, State.reset, by decide +kernel⟩,
   ⟨{ code := 0x123, sev := 2, src := 7, inst := 3, arg0 := 4, arg1 := 5, value := 9 }, (State.reset.event { code := 0x123, sev := 2, src := 7, inst := 3, arg0 := 4, arg1 := 5, value := 9 }), (State.reset.event { code := 0x123, sev := 2, src := 7, inst := 3, arg0 := 4, arg1 := 5, value := 9 }).evr.openSet.headD ⟨0, [], false, 0⟩, by decide +kernel⟩,
   ⟨{ code := 0x123, sev := 2, src := 7, inst := 3, arg0 := 4, arg1 := 5, value := 9 }, State.reset, 0, by decide +kernel⟩,
   ⟨2, 0xC050000000000000000, State.reset, by decide +kernel⟩,
   ⟨.port, 5, State.reset, by decide +kernel⟩,
   ⟨0xC050000000000000000, State.reset, by decide +kernel⟩,
   ⟨({ State.reset with evr := { openSet := [⟨3, [], true, 0⟩] } } : State).setTime { raw := 4000000000000 }, ⟨3, [], true, 0⟩, by decide +kernel⟩⟩

/-- The hypotheses of EventsAreRecorded can be met: part 2. -/
theorem test_meets_events_are_recorded_2 :
    (∃ (a : Agent) (s : State) (k : Nat),
      s.writes a rEVRCTL = true ∧
      k < 8192) ∧
    (∃ (s : State),
      s.clocked = true ∧
      s.flag fTELCFG_EN = true ∧
      s.evr.telLast + secRaw (s.fget fTELCFG_PERIOD) ≤ s.time.raw) ∧
    (∃ (s : State),
      s.evr.optCopyAt + 60000000000 ≤ s.time.raw) ∧
    (∃ (e : Event) (s : State) (u : State),
      s.foldsInto e = none ∧
      u = ((s.evr.openSet.filter (fun o => recKey o.data e) ++ (s.evr.openSet.filter fun o => !recKey o.data e).drop 7).foldl State.flushOpen s).setOpen ((s.evr.openSet.filter fun o => !recKey o.data e).take 7)) ∧
    (∃ (s : State),
      s.clocked = true ∧
      (s.flag fTELCFG_EN = false ∨ s.time.raw < s.evr.telLast + secRaw (s.fget fTELCFG_PERIOD))) ∧
    (∃ (s : State),
      s.time.raw < s.evr.optCopyAt + 60000000000) :=
  ⟨⟨.port, State.reset, 8191, by decide +kernel⟩,
   ⟨State.reset.setFlag fTELCFG_EN true |>.setTime { raw := 5000000000000000 }, by decide +kernel⟩,
   ⟨State.reset.setTime { raw := 60000000000 }, by decide +kernel⟩,
   ⟨{ code := 5, sev := 1, src := 2 }, State.reset, ((((State.reset : State).evr.openSet.filter (fun o => recKey o.data ({ code := 5, sev := 1, src := 2 } : Event)) ++ ((State.reset : State).evr.openSet.filter fun o => !recKey o.data ({ code := 5, sev := 1, src := 2 } : Event)).drop 7).foldl State.flushOpen (State.reset : State)).setOpen (((State.reset : State).evr.openSet.filter fun o => !recKey o.data ({ code := 5, sev := 1, src := 2 } : Event)).take 7)), by decide +kernel⟩,
   ⟨State.reset, by decide +kernel, .inl (by decide +kernel)⟩,
   ⟨State.reset, by decide +kernel⟩⟩

/-- The hypotheses of TestPort can be met: part 1. -/
theorem test_meets_test_port_1 :
    (∃ (s : State),
      s.flag fTAPSTAT_HOLD = false) ∧
    (∃ (s : State),
      s.flag fTAPSTAT_HOLD = true) ∧
    (∃ (addr : BitVec 24) (s : State),
      s.clocked = true ∧
      s.life ≠ lifeScrap ∧
      addr.toNat % 4 = 0 ∧
      addr.toNat < 8192) ∧
    (∃ (addr : BitVec 24) (s : State),
      s.clocked = true ∧
      s.life ≠ lifeScrap ∧
      addr.toNat % 4 = 0 ∧
      addr.toNat < 8192 ∧
      s.poisonedIn (mboxBase + addr.toNat) 4 = false) ∧
    (∃ (addr : BitVec 24) (s : State),
      s.clocked = true ∧
      s.life ≠ lifeScrap ∧
      addr.toNat % 4 = 0 ∧
      8192 ≤ addr.toNat) ∧
    (∃ (addr : BitVec 24) (s : State),
      s.clocked = true ∧
      s.life ≠ lifeScrap ∧
      s.debugOpen = false ∧
      s.portMay addr.toNat = false ∧
      addr.toNat % 4 = 0 ∧
      blockImplemented (addr.toNat / 0x10000) = true) ∧
    (∃ (addr : BitVec 24) (s : State),
      s.clocked = true ∧
      s.life ≠ lifeScrap ∧
      s.portMay addr.toNat = true ∧
      addr.toNat % 4 = 0 ∧
      blockImplemented (addr.toNat / 0x10000) = true) ∧
    (∃ (s : State),
      s.life = lifeScrap) :=
  ⟨⟨State.reset, by decide +kernel⟩,
   ⟨(State.reset.setFlag fTAPSTAT_HOLD true), by decide +kernel⟩,
   ⟨8188, State.reset, by decide +kernel⟩,
   ⟨8188, State.reset.poke (mboxBase + 8188) 4 99, by decide +kernel⟩,
   ⟨8192, State.reset, by decide +kernel⟩,
   ⟨BitVec.ofNat 24 rLPCTL, State.reset.fset fLCSSTAT_STATE lifeField, by decide +kernel⟩,
   ⟨BitVec.ofNat 24 rWAKETMR, State.reset, by decide +kernel⟩,
   ⟨State.reset.fset fLCSSTAT_STATE lifeScrap, by decide +kernel⟩⟩

/-- The hypotheses of TestPort can be met: part 2. -/
theorem test_meets_test_port_2 :
    (∃ (s : State),
      s.life ≠ lifeScrap ∧
      s.pwr.pf = .halted) ∧
    (∃ (s : State),
      s.debugOpen = false) ∧
    (∃ (s : State),
      s.debugOpen = true) ∧
    (∃ (addr : BitVec 24) (s : State),
      s.clocked = true ∧
      s.life ≠ lifeScrap ∧
      addr.toNat % 4 = 0 ∧
      addr.toNat < 8192 ∧
      s.poisonedIn (mboxBase + addr.toNat) 4 = true) ∧
    (∃ (addr : BitVec 24) (s : State),
      s.clocked = true ∧
      s.life ≠ lifeScrap ∧
      addr.toNat % 4 ≠ 0) ∧
    (∃ (s : State),
      s.clocked = false ∧
      s.life ≠ lifeScrap) ∧
    (∃ (s : State),
      (s.life = lifeProvisioned ∨ s.life = lifeField)) :=
  ⟨⟨State.reset.setPwr { pf := .halted }, by decide +kernel⟩,
   ⟨State.reset.fset fLCSSTAT_STATE lifeField, by decide +kernel⟩,
   ⟨State.reset, by decide +kernel⟩,
   ⟨0, { State.reset with poison := [mboxBase / 8] }, by decide +kernel⟩,
   ⟨2, State.reset, by decide +kernel⟩,
   ⟨State.reset.setPwr { pf := .halted }, by decide +kernel⟩,
   ⟨State.reset.fset fLCSSTAT_STATE lifeField, .inr (by decide +kernel)⟩⟩

/-- The hypotheses of MergeAndGrants can be met: part 1. -/
theorem test_meets_merge_and_grants_1 :
    (∃ (s : State) (r : Rec) (l : List Rec),
      s.clocked = true ∧
      s.turn < 7 ∧
      s.planeQ (turnPlane s.turn) = r :: l) ∧
    (∃ (s : State),
      s.clocked = true ∧
      s.turn < 7 ∧
      s.planeQ (turnPlane s.turn) = [] ∧
      (s.dataQ ≠ [] ∨ s.ctlQ ≠ [] ∨ s.mgmtQ ≠ [])) ∧
    (∃ (s : State),
      s.clocked = true ∧
      s.dataQ = [] ∧
      s.ctlQ = [] ∧
      s.mgmtQ = []) ∧
    (∃ (s : State) (n : Nat) (r : RItem) (p : Nat),
      s.memOk ∧
      s.clocked = true ∧
      s.flag fDISCTL_EN = true ∧
      s.fget fMODESTAT_LPS = 0 ∧
      s.waitingCore = some n ∧
      s.pickItem = some r ∧
      s.dropsSeen r = false ∧
      s.progOf r.item.prog = some p ∧
      s.adjustFirst r p = none ∧
      0x800000 ≤ s.tackAddr r.item.epi) ∧
    (∃ (s : State) (n : Nat) (r : RItem) (p q : Nat) (a : Item),
      s.memOk ∧
      s.clocked = true ∧
      s.flag fDISCTL_EN = true ∧
      s.fget fMODESTAT_LPS = 0 ∧
      s.waitingCore = some n ∧
      s.pickItem = some r ∧
      s.dropsSeen r = false ∧
      s.progOf r.item.prog = some p ∧
      s.adjustFirst r p = some a ∧
      s.progOf a.prog = some q ∧
      0x800000 ≤ s.tackAddr a.epi) ∧
    (∃ (s : State) (n : Nat) (r : RItem),
      s.clocked = true ∧
      s.flag fDISCTL_EN = true ∧
      s.fget fMODESTAT_LPS = 0 ∧
      s.waitingCore = some n ∧
      s.pickItem = some r ∧
      s.dropsSeen r = false ∧
      s.progOf r.item.prog = none ∧
      r.item.isPress = false) ∧
    (∃ (s : State) (n : Nat) (r : RItem),
      s.clocked = true ∧
      s.flag fDISCTL_EN = true ∧
      s.fget fMODESTAT_LPS = 0 ∧
      s.waitingCore = some n ∧
      s.pickItem = some r ∧
      s.dropsSeen r = true ∧
      r.item.isPress = false) ∧
    (∃ (s : State) (n : Nat) (r : RItem),
      s.clocked = true ∧
      s.flag fDISCTL_EN = true ∧
      s.fget fMODESTAT_LPS = 0 ∧
      s.waitingCore = some n ∧
      s.pickItem = some r ∧
      (s.dropsSeen r = true ∨ s.progOf r.item.prog = none) ∧
      r.item.isPress = true ∧
      r.rank = 2 ∧
      s.flag fLDGSTAT_ROUND = true ∧
      r.item.w4.toNat = s.ldg.roundK ∧
      2 ≤ s.fget fLDGROUND_LEFT) :=
  ⟨⟨{ State.reset with dataQ := [{ typ := 5 }] }, { typ := 5 }, [], by decide +kernel⟩,
   ⟨{ State.reset with ctlQ := [{ typ := 5 }] }, by decide +kernel⟩,
   ⟨State.reset, by decide +kernel⟩,
   ⟨tGrant, 0, ⟨tItem, 0, 2, true⟩, 0, by decide +kernel⟩,
   ⟨tAdj, 0, _, 0, 1, _, by decide +kernel, by decide +kernel, by decide +kernel, by decide +kernel, by decide +kernel, rfl, by decide +kernel, by decide +kernel, rfl, by decide +kernel, by decide +kernel⟩,
   ⟨tProg.postItem { tItem with w1 := 9 } 2 true, 0, ⟨{ tItem with w1 := 9 }, 0, 2, true⟩, by decide +kernel⟩,
   ⟨(tProg.setFlag fLDGSTAT_REPLAY true |>.write (tProg.pageAddr 5 + 8) [9]).postItem { tItem with w2 := 3 } 2 true, 0, ⟨{ tItem with w2 := 3 }, 0, 2, true⟩, by decide +kernel⟩,
   ⟨(tProg.setFlag fLDGSTAT_ROUND true |>.fset fLDGROUND_LEFT 3).postItem { w0 := 0x80100005, w1 := 9 } 2 false, 0, ⟨{ w0 := 0x80100005, w1 := 9 }, 0, 2, false⟩, by decide +kernel⟩⟩

/-- The hypotheses of MergeAndGrants can be met: part 2. -/
theorem test_meets_merge_and_grants_2 :
    (∃ (s : State),
      s.clocked = true ∧
      (s.flag fDISCTL_EN = false ∨ s.fget fMODESTAT_LPS ≠ 0 ∨ s.waitingCore = none ∨ s.pickItem = none)) ∧
    (∃ (s : State),
      s.clocked = true ∧
      s.storeFull = false ∧
      s.qEn 0 = true ∧
      (s.queue 0).count ≠ 0 ∧
      s.q0Bad (s.front 0) = false ∧
      (itemOf (s.front 0)).isn ≠ 0 ∧
      (s.ldg.rebuild = some (itemOf (s.front 0)).epi ∨ s.epiHeld (itemOf (s.front 0)).epi = true) ∧
      s.mode ≠ modeBoot) ∧
    (∃ (s : State),
      s.clocked = true ∧
      s.storeFull = false ∧
      s.qEn 0 = true ∧
      (s.queue 0).count ≠ 0 ∧
      s.q0Bad (s.front 0) = false ∧
      (itemOf (s.front 0)).isn ≠ 0 ∧
      s.mode = modeBoot ∧
      s.ldg.rebuild ≠ some (itemOf (s.front 0)).epi ∧
      s.epiHeld (itemOf (s.front 0)).epi = false ∧
      (itemOf (s.front 0)).isReading = false) ∧
    (∃ (s : State) (ic : Nat),
      s.clocked = true ∧
      s.storeFull = false ∧
      s.qEn 0 = true ∧
      (s.queue 0).count ≠ 0 ∧
      s.q0Bad (s.front 0) = false ∧
      (itemOf (s.front 0)).isn ≠ 0 ∧
      s.mode = modeBoot ∧
      s.ldg.rebuild ≠ some (itemOf (s.front 0)).epi ∧
      s.epiHeld (itemOf (s.front 0)).epi = false ∧
      (itemOf (s.front 0)).isReading = true ∧
      s.journaledIc (itemOf (s.front 0)).epi (itemOf (s.front 0)).isn = some ic) ∧
    (∃ (s : State),
      s.clocked = true ∧
      s.storeFull = false ∧
      s.qEn 0 = true ∧
      (s.queue 0).count ≠ 0 ∧
      s.q0Bad (s.front 0) = false ∧
      (itemOf (s.front 0)).isn ≠ 0 ∧
      s.mode ≠ modeBoot ∧
      s.ldg.rebuild ≠ some (itemOf (s.front 0)).epi ∧
      s.epiHeld (itemOf (s.front 0)).epi = false) ∧
    (∃ (s : State),
      s.clocked = true ∧
      s.storeFull = false ∧
      s.qEn 0 = true ∧
      (s.queue 0).count ≠ 0 ∧
      s.q0Bad (s.front 0) = true) ∧
    (∃ (s : State),
      s.clocked = true ∧
      (s.storeFull = true ∨ s.qEn 0 = false ∨ (s.queue 0).count = 0 ∨ (s.q0Bad (s.front 0) = false ∧ (itemOf (s.front 0)).isn = 0))) ∧
    (∃ (s : State) (p : Nat) (e : JEnt),
      s.clocked = true ∧
      s.storeFull = false ∧
      s.qEn 0 = true ∧
      (s.queue 0).count ≠ 0 ∧
      s.q0Bad (s.front 0) = false ∧
      (itemOf (s.front 0)).isn = 0 ∧
      (itemOf (s.front 0)).kind ≠ 0 ∧
      s.epiHeld (itemOf (s.front 0)).epi = false ∧
      s.epiCut (itemOf (s.front 0)).epi = false ∧
      s.noCalendar = false ∧
      s.ingestOpen = true ∧
      s.ldg.inq = [] ∧
      (s.epiEntry (itemOf (s.front 0)).epi).bind (fun e => s.eligible e.cls (s.kLast + 1)) = some p ∧
      e = {
            kind := jkCommand, n := 1, epi := (itemOf (s.front 0)).epi
            body := leBytes 2 (itemOf (s.front 0)).kind ++ leBytes 2 (s.fget (fLDGPRG_HANDLE p)) ++ leBytes 4 0 ++
              leBytes 8 ((itemOf (s.front 0)).w4.toNat + 2 ^ 32 * (itemOf (s.front 0)).w5.toNat) ++ leBytes 4 (itemOf (s.front 0)).w6.toNat ++ leBytes 4 (itemOf (s.front 0)).w7.toNat } ∧
      (s.dequeued 0).ringTakes e = true) :=
  ⟨⟨State.reset, by decide +kernel⟩,
   ⟨(((tProg.setReg (rQCFG 0) 0x84000000).enqueue 0 (plainDesc [0x84000005, 7, 1])).setLdg { rebuild := some 5 }).fset fMODESTAT_MODE modeService, by decide +kernel⟩,
   ⟨((tProg.setReg (rQCFG 0) 0x84000000).enqueue 0 (plainDesc [0x80100005, 7, 1])), by decide +kernel⟩,
   ⟨tRepl, 77, by decide +kernel⟩,
   ⟨((tProg.setReg (rQCFG 0) 0x84000000).enqueue 0 (plainDesc [0x84000005, 7, 1])).fset fMODESTAT_MODE modeService, by decide +kernel⟩,
   ⟨((tProg.setReg (rQCFG 0) 0x84000000).enqueue 0 (plainDesc [0x84000005, 8, 1])), by decide +kernel⟩,
   ⟨State.reset, by decide +kernel⟩,
   ⟨tCmd, 0, _, by decide +kernel, by decide +kernel, by decide +kernel, by decide +kernel, by decide +kernel, by decide +kernel, by decide +kernel, by decide +kernel, by decide +kernel, by decide +kernel, by decide +kernel, by decide +kernel, by decide +kernel, rfl, by decide +kernel⟩⟩

/-- The hypotheses of MergeAndGrants can be met: part 3. -/
theorem test_meets_merge_and_grants_3 :
    (∃ (s : State),
      s.clocked = true ∧
      s.storeFull = false ∧
      s.qEn 0 = true ∧
      (s.queue 0).count ≠ 0 ∧
      s.q0Bad (s.front 0) = false ∧
      (itemOf (s.front 0)).isn = 0 ∧
      (itemOf (s.front 0)).kind ≠ 0 ∧
      s.epiHeld (itemOf (s.front 0)).epi = false ∧
      s.epiCut (itemOf (s.front 0)).epi = false ∧
      (s.noCalendar = true ∨ s.ingestOpen = false)) ∧
    (∃ (s : State),
      s.clocked = true ∧
      s.storeFull = false ∧
      s.qEn 0 = true ∧
      (s.queue 0).count ≠ 0 ∧
      s.q0Bad (s.front 0) = false ∧
      (itemOf (s.front 0)).isn = 0 ∧
      (itemOf (s.front 0)).kind ≠ 0 ∧
      s.epiHeld (itemOf (s.front 0)).epi = false ∧
      s.epiCut (itemOf (s.front 0)).epi = false ∧
      s.noCalendar = false ∧
      s.ingestOpen = true ∧
      (s.epiEntry (itemOf (s.front 0)).epi).bind (fun e => s.eligible e.cls (s.kLast + 1)) = none) ∧
    (∃ (s : State),
      s.clocked = true ∧
      s.storeFull = false ∧
      s.qEn 0 = true ∧
      (s.queue 0).count ≠ 0 ∧
      s.q0Bad (s.front 0) = false ∧
      (itemOf (s.front 0)).isn = 0 ∧
      (itemOf (s.front 0)).kind = 0) ∧
    (∃ (s : State),
      s.clocked = true ∧
      (s.storeFull = true ∨ s.qEn 0 = false ∨ (s.queue 0).count = 0 ∨ s.q0Bad (s.front 0) = true ∨ (itemOf (s.front 0)).isn ≠ 0 ∨ ((itemOf (s.front 0)).kind ≠ 0 ∧ (s.epiHeld (itemOf (s.front 0)).epi = true ∨ s.epiCut (itemOf (s.front 0)).epi = true)))) :=
  ⟨⟨tCmd.fset fMODESTAT_MODE modeHoldover |>.setReg rLDGFIRSTK noK, by decide +kernel⟩,
   ⟨tCmd.setReg (rLDGPRG 0) (7 + 5 * 2 ^ 16 + 2 ^ 25), by decide +kernel⟩,
   ⟨((tProg.setReg (rQCFG 0) 0x84000000).enqueue 0 (plainDesc [0x80200005, 7])), by decide +kernel⟩,
   ⟨State.reset, by decide +kernel⟩⟩

/-- The hypotheses of MarkersAndRounds can be met: part 1. -/
theorem test_meets_markers_and_rounds_1 :
    (∃ (s : State) (d : State),
      s.clocked = true ∧
      d = s.inputDrain ∧
      d.markerDue = true) ∧
    (∃ (s : State) (d : State),
      s.clocked = true ∧
      d = s.inputDrain ∧
      d.markerDue = false) ∧
    (∃ (s : State),
      (s.flag fLDGSTAT_ROUND = true ∨ s.ldg.inq = [])) ∧
    (∃ (s : State) (e : List Byte),
      s.flag fLDGSTAT_ROUND = false ∧
      s.ldg.inq = [e]) ∧
    (∃ (s : State),
      s.markerDue = true) ∧
    (∃ (s : State) (k : Nat),
      s.clocked = true ∧
      s.ldg.markerPend = some k ∧
      s.cutDue k = false ∧
      s.ringTakes (markerEntry k) = true) ∧
    (∃ (s u v : State) (k : Nat),
      s.clocked = true ∧
      s.ldg.markerPend = some k ∧
      s.cutDue k = true ∧
      s.journalRaw [markerEntry k, cutEntry s.mov.bucket s.mov.m] (fun _ => .free) = .ok u ∧
      v = (u.setLdg { u.ldg with markerPend := none }).markerApply k s.nextIsn) ∧
    (∃ (s : State) (k : Nat),
      s.clocked = true ∧
      s.ldg.markerPend = some k ∧
      s.cutDue k = false ∧
      s.lastIsn + 1 ≤ 2 ^ 48 - 2 ^ 25 ∧
      s.reserveBars jkMarker (needAll (s.fget fMRMHEAD_OFFSET) [markerEntry k]) = false ∧
      ringSize < s.ringUsed + needAll (s.fget fMRMHEAD_OFFSET) [markerEntry k]) :=
  ⟨⟨tCal, ((tCal : State).inputDrain), by decide +kernel⟩,
   ⟨State.reset, ((State.reset : State).inputDrain), by decide +kernel⟩,
   ⟨State.reset, by decide +kernel⟩,
   ⟨State.reset.setLdg { inq := [List.replicate 16 0] }, List.replicate 16 0, by decide +kernel⟩,
   ⟨tCal, by decide +kernel⟩,
   ⟨{ tCal with ldg := { tCal.ldg with markerPend := some 0 } }, 0, by decide +kernel⟩,
   ⟨tCut, _, _, 0, by decide +kernel, by decide +kernel, by decide +kernel, rfl, rfl⟩,
   ⟨{ tCal with ldg := { tCal.ldg with markerPend := some 0 }, mrm := { tCal.mrm with ring := [⟨0, 4194304, 1⟩] } }, 0, by decide +kernel⟩⟩

/-- The hypotheses of MarkersAndRounds can be met: part 2. -/
theorem test_meets_markers_and_rounds_2 :
    (∃ (s : State),
      s.clocked = true ∧
      s.ldg.markerPend = none) ∧
    (∃ (s : State) (k : Nat) (isn : Nat),
      s.pressItems k isn ≠ [] ∧
      (s.pressItems k isn).length < 2 ^ 19 ∧
      isn < 2 ^ 48 ∧
      k < 2 ^ 32) :=
  ⟨⟨State.reset, by decide +kernel⟩,
   ⟨{ tProg with epiMap := [(5, 1)] }, 0, 1, by decide +kernel⟩⟩

/-- The hypotheses of LedgerCommands can be met: part 1. -/
theorem test_meets_ledger_commands_1 :
    (∃ (n : Fin 16) (s : State),
      s.clocked = true ∧
      s.progState n.val = psPrevious ∧
      (s.fget (fLDGPRG_LASTK n.val) : Int) < s.kLast - 95 ∧
      s.progNamed (s.fget (fLDGPRG_HANDLE n.val)) = false) ∧
    (∃ (n : Fin 16) (s : State),
      s.clocked = true ∧
      (s.progState n.val ≠ psPrevious ∨ s.kLast - 95 ≤ s.fget (fLDGPRG_LASTK n.val) ∨ s.progNamed (s.fget (fLDGPRG_HANDLE n.val)) = true)) ∧
    (∃ (a : Agent) (s : State),
      s.writes a rLDGLDCTL = true) ∧
    (∃ (a : Agent) (s : State),
      s.writes a rLDGREBUILD = true ∧
      s.flag fLDGREBUILD_HOLD = false) ∧
    (∃ (a : Agent) (s : State),
      s.writes a rLDGREBUILD = true ∧
      s.flag fLDGREBUILD_HOLD = true) ∧
    (∃ (a : Agent) (s : State),
      s.writes a rLDGREPLAY = true ∧
      s.bootStep10 = true ∧
      s.ldg.replayed = false) ∧
    (∃ (a : Agent) (k : Word) (s : State),
      s.writes a rLDGREPLAY = true ∧
      s.bootStep10 = true ∧
      s.ldg.replayed = true ∧
      (k.toNat : Int) = s.kLast + 1 ∧
      s.flag fLDGSTAT_ROUND = false) ∧
    (∃ (a : Agent) (s : State),
      s.writes a rLDGREPLAY = true ∧
      s.bootStep10 = false) :=
  ⟨⟨2, (State.reset.setReg (rLDGPRG 2) (7 + 3 * 2 ^ 24)).setReg rLDGLASTK 200, by decide +kernel⟩,
   ⟨2, State.reset, by decide +kernel⟩,
   ⟨.port, State.reset, by decide +kernel⟩,
   ⟨.port, State.reset, by decide +kernel⟩,
   ⟨.port, State.reset.setFlag fLDGREBUILD_HOLD true, by decide +kernel⟩,
   ⟨.cc 0, tBoot10, by decide +kernel⟩,
   ⟨.cc 0, 41, { tBoot10.fset fMRMLASTISN_ISN 9 |>.setReg rLDGLASTK 40 with ldg := { tBoot10.ldg with replayed := true } }, by decide +kernel⟩,
   ⟨.port, State.reset, by decide +kernel⟩⟩

/-- The hypotheses of LedgerCommands can be met: part 2. -/
theorem test_meets_ledger_commands_2 :
    (∃ (a : Agent) (addr : DWord) (s : State) (p n : Nat),
      s.writes a rLDGREPLAYE = true ∧
      s.bootStep10 = true ∧
      p = fLDGREPLAYE_ADDR.of addr.toNat ∧
      n = max 16 (entSize (s.bytes p 16)) ∧
      p % 16 = 0 ∧
      s.inDa p n = true ∧
      s.poisonedIn p n = false ∧
      entOk (s.bytes p n) = true) ∧
    (∃ (a : Agent) (k : Word) (s : State),
      s.writes a rLDGREPLAY = true ∧
      s.bootStep10 = true ∧
      s.ldg.replayed = true ∧
      (k.toNat : Int) ≠ s.kLast + 1) ∧
    (∃ (a : Agent) (k : Word) (s : State),
      s.writes a rLDGREPLAY = true ∧
      s.bootStep10 = true ∧
      s.ldg.replayed = true ∧
      (k.toNat : Int) = s.kLast + 1 ∧
      s.flag fLDGSTAT_ROUND = true) ∧
    (∃ (s : State) (e : List Byte),
      entKind e = jkTopo ∧
      s.ldg.ckptLow < entIsn e) ∧
    (∃ (s : State) (e : List Byte),
      entKind e ≠ jkKeygen ∧
      entIsn e ≤ s.ldg.ckptLow) ∧
    (∃ (a : Agent) (addr : DWord) (s : State) (p n : Nat),
      s.writes a rLDGREPLAYE = true ∧
      s.bootStep10 = true ∧
      p = fLDGREPLAYE_ADDR.of addr.toNat ∧
      n = max 16 (entSize (s.bytes p 16)) ∧
      p % 16 = 0 ∧
      s.inDa p n = true ∧
      s.poisonedIn p n = false ∧
      entOk (s.bytes p n) = false) ∧
    (∃ (a : Agent) (addr : DWord) (s : State) (p n : Nat),
      s.writes a rLDGREPLAYE = true ∧
      s.bootStep10 = true ∧
      p = fLDGREPLAYE_ADDR.of addr.toNat ∧
      n = max 16 (entSize (s.bytes p 16)) ∧
      p % 16 = 0 ∧
      s.inDa p n = true ∧
      s.poisonedIn p n = true) ∧
    (∃ (a : Agent) (addr : DWord) (s : State) (p n : Nat),
      s.writes a rLDGREPLAYE = true ∧
      s.bootStep10 = true ∧
      p = fLDGREPLAYE_ADDR.of addr.toNat ∧
      n = max 16 (entSize (s.bytes p 16)) ∧
      p % 16 = 0 ∧
      (s.inDa p 16 = false ∨ s.inDa p (entSize (s.bytes p 16)) = false)) :=
  ⟨⟨.cc 0, 0x010000000000, tTopo, _, _, by decide +kernel, by decide +kernel, rfl, rfl, by decide +kernel, by decide +kernel, by decide +kernel, by decide +kernel⟩,
   ⟨.cc 0, 43, { tBoot10.fset fMRMLASTISN_ISN 9 |>.setReg rLDGLASTK 40 with ldg := { tBoot10.ldg with replayed := true } }, by decide +kernel⟩,
   ⟨.cc 0, 41, State.setFlag ({ tBoot10.fset fMRMLASTISN_ISN 9 |>.setReg rLDGLASTK 40 with ldg := { tBoot10.ldg with replayed := true } }) fLDGSTAT_ROUND true, by decide +kernel⟩,
   ⟨State.reset, (JEnt.mk jkTopo 1 0 [1]).bytes 3, by decide +kernel⟩,
   ⟨{ State.reset with ldg := { ckptLow := 9 } }, (JEnt.mk jkTopo 1 0 [1]).bytes 3, by decide +kernel⟩,
   ⟨.cc 0, 0x010000000000, tTopo.poke 0x010000000000 1 77, _, _, by decide +kernel, by decide +kernel, rfl, rfl, by decide +kernel, by decide +kernel, by decide +kernel, by decide +kernel⟩,
   ⟨.cc 0, 0x010000000000, { tTopo with poison := [0x010000000000 / 8] }, _, _, by decide +kernel, by decide +kernel, rfl, rfl, by decide +kernel, by decide +kernel, by decide +kernel⟩,
   ⟨.cc 0, 0, tTopo, _, _, by decide +kernel, by decide +kernel, rfl, rfl, by decide +kernel, by decide +kernel⟩⟩

/-- The hypotheses of LedgerCommands can be met: part 3. -/
theorem test_meets_ledger_commands_3 :
    (∃ (a : Agent) (addr : DWord) (s : State),
      s.writes a rLDGREPLAYE = true ∧
      s.bootStep10 = true ∧
      fLDGREPLAYE_ADDR.of addr.toNat % 16 ≠ 0) ∧
    (∃ (a : Agent) (s : State),
      s.writes a rLDGREPLAYE = true ∧
      s.bootStep10 = false) ∧
    (∃ (s : State),
      s.clocked = true ∧
      s.flag fLDGSTAT_DETBRK = true ∧
      s.ldg.detLast + 86400000000000 ≤ s.time.raw ∧
      s.isStandby = false) ∧
    (∃ (s : State),
      s.clocked = true ∧
      s.flag fLDGSTAT_DETBRK = true ∧
      s.ldg.detLast + 86400000000000 ≤ s.time.raw ∧
      s.isStandby = true) ∧
    (∃ (s : State),
      s.clocked = true ∧
      (s.flag fLDGSTAT_DETBRK = false ∨ s.time.raw < s.ldg.detLast + 86400000000000)) ∧
    (∃ (a : Agent) (s : State),
      s.writes a rLDGSTAT = true ∧
      s.flag fNFCSTAT_RO = false ∧
      s.ldg.detClean = true) ∧
    (∃ (a : Agent) (s : State),
      s.writes a rLDGSTAT = true ∧
      (s.flag fNFCSTAT_RO = true ∨ s.ldg.detClean = false)) :=
  ⟨⟨.cc 0, 8, tTopo, by decide +kernel⟩,
   ⟨.port, State.reset, by decide +kernel⟩,
   ⟨State.reset.setFlag fLDGSTAT_DETBRK true |>.setTime { raw := 86400000000000 }, by decide +kernel⟩,
   ⟨State.reset.setFlag fLDGSTAT_DETBRK true |>.setTime { raw := 86400000000000 } |>.fset fMODESTAT_MODE modeStandby, by decide +kernel⟩,
   ⟨State.reset, by decide +kernel⟩,
   ⟨.port, { State.reset with ldg := { detClean := true } }, by decide +kernel⟩,
   ⟨.port, State.reset, by decide +kernel⟩⟩

/-- The hypotheses of Metrology can be met: part 1. -/
theorem test_meets_metrology_1 :
    (∃ (s : State),
      s.clocked = true ∧
      bit s.time.fired 0 = true ∧
      bit s.time.fired 1 = false ∧
      s.time.raw = s.metEdge ∧
      s.cmtOn = true ∧
      s.flag fCMTSTAT_RUN = true ∧
      s.met.curN + 1 ≠ 8000 ∧
      s.met.blkN + 1 ≠ 8000) ∧
    (∃ (s : State),
      s.clocked = true ∧
      bit s.time.fired 0 = true ∧
      bit s.time.fired 1 = false ∧
      s.time.raw = s.metEdge ∧
      s.cmtOn = true ∧
      s.flag fCMTSTAT_RUN = true ∧
      s.met.curN + 1 = 8000) ∧
    (∃ (s : State),
      s.clocked = true ∧
      bit s.time.fired 0 = true ∧
      bit s.time.fired 1 = false ∧
      s.time.raw = s.metEdge ∧
      s.cmtOn = true ∧
      s.flag fCMTSTAT_RUN = false) ∧
    (∃ (s : State),
      s.clocked = true ∧
      (bit s.time.fired 0 = false ∨ bit s.time.fired 1 = true ∨ s.time.raw ≠ s.metEdge)) ∧
    (∃ (n : Fin 8) (s : State),
      s.clocked = true ∧
      s.flag (fTIMTRIGCTL_EN n.val) = true ∧
      s.flag (fTIMTRIGCTL_MODE n.val) = false ∧
      s.fget (fTIMTRIGSTART_VALUE n.val) ≤ s.time.raw ∧
      s.fget fCMTCFG_INT_TRIG = n.val) ∧
    (∃ (s : State),
      s.clocked = true ∧
      bit s.time.fired 1 = true ∧
      s.cmtOn = true ∧
      s.flag fCMTSTAT_RUN = true ∧
      bit s.pwr.fenceReq 30 = false ∧
      s.serving = false) ∧
    (∃ (s : State) (body : List Byte),
      s.clocked = true ∧
      bit s.time.fired 1 = true ∧
      s.cmtOn = true ∧
      s.flag fCMTSTAT_RUN = true ∧
      bit s.pwr.fenceReq 30 = false ∧
      s.serving = true ∧
      s.bal.metroHeld = [] ∧
      s.ingestOpen = true ∧
      s.ldg.inq = [] ∧
      body = s.metroBody s.met.blockEnd (s.metNumber (s.time.fireChip.get natZero (s.fget fCMTCFG_INT_TRIG)) ≠ s.met.k + 1) ∧
      s.ringTakes { kind := jkMetro, n := 1, epi := 0, body := body } = true) ∧
    (∃ (s : State),
      s.clocked = true ∧
      bit s.time.fired 1 = true ∧
      s.cmtOn = true ∧
      s.flag fCMTSTAT_RUN = true ∧
      bit s.pwr.fenceReq 30 = true) :=
  ⟨⟨(State.reset.setFlag fCMTCFG_EN true |>.fset fCMTCFG_CH_EN 3 |>.setFlag fCMTSTAT_RUN true).setTime { fired := 1 }, by decide +kernel⟩,
   ⟨State.setMet ((State.reset.setFlag fCMTCFG_EN true |>.fset fCMTCFG_CH_EN 3 |>.setFlag fCMTSTAT_RUN true).setTime { fired := 1 }) { curN := 7999 }, by decide +kernel⟩,
   ⟨State.setTime ((State.reset.setFlag fCMTCFG_EN true |>.fset fCMTCFG_CH_EN 3 |>.setFlag fCMTSTAT_RUN true).setFlag fCMTSTAT_RUN false) { fired := 1 }, by decide +kernel⟩,
   ⟨State.reset, by decide +kernel⟩,
   ⟨1, State.reset.setFlag (fTIMTRIGCTL_EN 1) true, by decide +kernel⟩,
   ⟨(State.reset.setFlag fCMTCFG_EN true |>.fset fCMTCFG_CH_EN 3 |>.setFlag fCMTSTAT_RUN true).setTime { fired := 2 }, by decide +kernel⟩,
   ⟨tMet, _, by decide +kernel, by decide +kernel, by decide +kernel, by decide +kernel, by decide +kernel, by decide +kernel, by decide +kernel, by decide +kernel, by decide +kernel, rfl, by decide +kernel⟩,
   ⟨State.setPwr ((State.reset.setFlag fCMTCFG_EN true |>.fset fCMTCFG_CH_EN 3 |>.setFlag fCMTSTAT_RUN true).setTime { fired := 2 }) { fenceReq := 2 ^ 30 }, by decide +kernel⟩⟩

/-- The hypotheses of Metrology can be met: part 2. -/
theorem test_meets_metrology_2 :
    (∃ (s : State),
      s.clocked = true ∧
      bit s.time.fired 1 = true ∧
      s.cmtOn = true ∧
      s.flag fCMTSTAT_RUN = false ∧
      s.timeValid = true) ∧
    (∃ (s : State),
      s.clocked = true ∧
      bit s.time.fired 1 = true ∧
      (s.cmtOn = false ∨ (s.flag fCMTSTAT_RUN = false ∧ s.timeValid = false))) ∧
    (∃ (s : State),
      s.clocked = true ∧
      bit s.time.fired 1 = false) ∧
    (∃ (s : State) (n : Nat),
      s.clocked = true ∧
      s.cmtOn = true ∧
      s.met.refAt + 2000000000 ≤ s.time.raw ∧
      s.refNext = some n ∧
      s.flag fCMTCFG_AUTOCAL = false) ∧
    (∃ (s : State) (n : Nat),
      s.clocked = true ∧
      s.cmtOn = true ∧
      s.met.refAt + 2000000000 ≤ s.time.raw ∧
      s.refNext = some n ∧
      s.flag fCMTCFG_AUTOCAL = true) ∧
    (∃ (s : State),
      s.clocked = true ∧
      (s.cmtOn = false ∨ s.time.raw < s.met.refAt + 2000000000 ∨ s.refNext = none)) ∧
    (∃ (a : Agent) (sel : Bool) (s : State),
      s.writes a rLOSTOPOSEL = true ∧
      s.flag fLOSSTAT_TOPO_PEND = false ∧
      s.ingestOpen = true ∧
      s.ldg.inq = [] ∧
      s.ringTakes { kind := jkTopo, n := 1, epi := 0, body := leBytes 1 (b2n sel) } = true) ∧
    (∃ (a : Agent) (s : State),
      s.writes a rLOSTOPOSEL = true ∧
      s.flag fLOSSTAT_TOPO_PEND = true) :=
  ⟨⟨State.reset.setFlag fCMTCFG_EN true |>.setFlag fTIMSTAT_VALID true |>.setTime { fired := 2 }, by decide +kernel⟩,
   ⟨State.reset.setTime { fired := 2 }, by decide +kernel⟩,
   ⟨State.reset, by decide +kernel⟩,
   ⟨(State.reset.setFlag fCMTCFG_EN true |>.fset fCMTCFG_CH_EN 3 |>.setFlag fCMTSTAT_RUN true).setTime { raw := 2000000000 }, 0, by decide +kernel⟩,
   ⟨(State.setTime ((State.reset.setFlag fCMTCFG_EN true |>.fset fCMTCFG_CH_EN 3 |>.setFlag fCMTSTAT_RUN true).setFlag fCMTCFG_AUTOCAL true) { raw := 2000000000 }), 0, by decide +kernel⟩,
   ⟨State.reset, by decide +kernel⟩,
   ⟨.port, true, tCal, by decide +kernel⟩,
   ⟨.port, State.reset.setFlag fLOSSTAT_TOPO_PEND true, by decide +kernel⟩⟩

/-- The hypotheses of Metrology can be met: part 3. -/
theorem test_meets_metrology_3 :
    (∃ (a : Agent) (s : State),
      s.writes a rLOSTOPOSEL = true ∧
      s.flag fLOSSTAT_TOPO_PEND = false ∧
      s.ingestOpen = false ∧
      s.lastIsn + 32 ≤ 2 ^ 48 - 2 ^ 25) ∧
    (∃ (a : Agent) (s : State),
      s.writes a rLOSTOPOSEL = true ∧
      s.flag fLOSSTAT_TOPO_PEND = false ∧
      s.ingestOpen = true ∧
      s.ldg.inq ≠ []) :=
  ⟨⟨.port, State.reset, by decide +kernel⟩,
   ⟨.port, (State.setLdg tCal { inq := [[]] }), by decide +kernel⟩⟩

/-- The hypotheses of PowerlineReception can be met: part 1. -/
theorem test_meets_powerline_reception_1 :
    (∃ (t : Fin 4) (s : State),
      s.clocked = true ∧
      s.time.raw < s.plBusyEnd t.val) ∧
    (∃ (t : Fin 4) (s : State),
      s.clocked = true ∧
      s.plBusyEnd t.val ≤ s.time.raw) ∧
    (∃ (t : Fin 4) (s : State),
      s.clocked = true ∧
      s.plBusyEnd t.val ≤ s.time.raw ∧
      s.plMode t.val ≠ plSpl ∧
      s.plMode t.val ≠ plDual) ∧
    (∃ (t : Fin 4) (parts : List G3Part) (s : State),
      s.clocked = true ∧
      s.plBusyEnd t.val ≤ s.time.raw ∧
      (s.plMode t.val = plSpl ∨ g3Plan (s.plMode t.val) parts = false)) ∧
    (∃ (t : Fin 4) (paths : List PlPathRx) (s : State),
      s.clocked = true ∧
      s.plBusyEnd t.val ≤ s.time.raw ∧
      (s.plMode t.val = plSpl ∨ s.plMode t.val = plDual) ∧
      plBest (s.plListening t.val) (fun i => (plPathOf paths i).peak) = none) ∧
    (∃ (t : Fin 4) (paths : List PlPathRx) (parts : List G3Part) (s : State),
      s.clocked = true ∧
      s.plBusyEnd t.val ≤ s.time.raw ∧
      s.plMode t.val ≠ plSpl ∧
      g3Plan (s.plMode t.val) parts = true ∧
      plBest (s.plListening t.val) (fun i => (plPathOf paths i).peak) = none) ∧
    (∃ (t : Fin 4) (paths : List PlPathRx) (fch : List Byte) (s : State) (best : Nat),
      s.clocked = true ∧
      s.plBusyEnd t.val ≤ s.time.raw ∧
      (s.plMode t.val = plSpl ∨ s.plMode t.val = plDual) ∧
      plBest (s.plListening t.val) (fun i => (plPathOf paths i).peak) = some best ∧
      s.fchOk fch = false) ∧
    (∃ (t : Fin 4) (paths : List PlPathRx) (fch : List Byte) (s : State) (best : Nat),
      s.clocked = true ∧
      s.plBusyEnd t.val ≤ s.time.raw ∧
      (s.plMode t.val = plSpl ∨ s.plMode t.val = plDual) ∧
      plBest (s.plListening t.val) (fun i => (plPathOf paths i).peak) = some best ∧
      s.fchOk fch = true ∧
      be fch 0 1 / 32 ≠ 0) :=
  ⟨⟨0, tPl.setPlTri 0 { rxTo := 200000000 }, by decide +kernel⟩,
   ⟨0, tPl, by decide +kernel⟩,
   ⟨0, tPl.fset fPLSMODE_MODE 1, by decide +kernel⟩,
   ⟨0, [], tPl, by decide +kernel⟩,
   ⟨1, tPaths, tPl, by decide +kernel⟩,
   ⟨1, tPaths, [.cenelecA], tPl.fset fPLSMODE_MODE 4, by decide +kernel⟩,
   ⟨0, tPaths, [1], tPl, 1, by decide +kernel⟩,
   ⟨0, tPaths, mkFch 1 0 0 0 0 0 0 0 5 0 0, tPl, 1, by decide +kernel⟩⟩

/-- The hypotheses of PowerlineReception can be met: part 2. -/
theorem test_meets_powerline_reception_2 :
    (∃ (t : Fin 4) (paths : List PlPathRx) (fch : List Byte) (psdu : List Byte) (ok : Bool) (s : State) (best : Nat) (stop : Nat) (asks : Bool) (m : ToneMap) (d : List Byte),
      s.clocked = true ∧
      s.plBusyEnd t.val ≤ s.time.raw ∧
      (s.plMode t.val = plSpl ∨ s.plMode t.val = plDual) ∧
      plBest (s.plListening t.val) (fun i => (plPathOf paths i).peak) = some best ∧
      s.fchOk fch = true ∧
      be fch 0 1 / 32 = 0 ∧
      stop = s.time.raw + usRaw (s.plAckUs t.val) + usRaw (528 * (be fch 2 2 % 1024)) ∧
      asks = (bit (be fch 0 1) 1 && decide (be fch 8 2 = s.fget fKEYID_EUI % 2 ^ 16)) ∧
      s.plRxMap t.val (be fch 1 1) (be psdu 12 8) = some m ∧
      d = (if ok && plBlocksOk (be fch 2 2 / 1024 % 4) 4 ((List.range (be fch 2 2 % 1024)).map fun j =>
          (s.plLeft (s.plFold t.val best paths) paths j).isEmpty) then psdu
        else Config.plDecode (be fch 2 2 / 1024 % 4) (s.plSoft t.val (s.plFold t.val best paths) paths (be fch 2 2 % 1024))) ∧
      plFcsOk d = true) ∧
    (∃ (t : Fin 4) (paths : List PlPathRx) (fch : List Byte) (psdu : List Byte) (ok : Bool) (s : State) (best : Nat) (stop : Nat) (asks : Bool) (m : ToneMap) (d : List Byte),
      s.clocked = true ∧
      s.plBusyEnd t.val ≤ s.time.raw ∧
      (s.plMode t.val = plSpl ∨ s.plMode t.val = plDual) ∧
      plBest (s.plListening t.val) (fun i => (plPathOf paths i).peak) = some best ∧
      s.fchOk fch = true ∧
      be fch 0 1 / 32 = 0 ∧
      stop = s.time.raw + usRaw (s.plAckUs t.val) + usRaw (528 * (be fch 2 2 % 1024)) ∧
      asks = (bit (be fch 0 1) 1 && decide (be fch 8 2 = s.fget fKEYID_EUI % 2 ^ 16)) ∧
      s.plRxMap t.val (be fch 1 1) (be psdu 12 8) = some m ∧
      d = (if ok && plBlocksOk (be fch 2 2 / 1024 % 4) 4 ((List.range (be fch 2 2 % 1024)).map fun j =>
          (s.plLeft (s.plFold t.val best paths) paths j).isEmpty) then psdu
        else Config.plDecode (be fch 2 2 / 1024 % 4) (s.plSoft t.val (s.plFold t.val best paths) paths (be fch 2 2 % 1024))) ∧
      plFcsOk d = false) ∧
    (∃ (t : Fin 4) (paths : List PlPathRx) (fch : List Byte) (psdu : List Byte) (s : State) (best : Nat) (stop : Nat) (asks : Bool),
      s.clocked = true ∧
      s.plBusyEnd t.val ≤ s.time.raw ∧
      (s.plMode t.val = plSpl ∨ s.plMode t.val = plDual) ∧
      plBest (s.plListening t.val) (fun i => (plPathOf paths i).peak) = some best ∧
      s.fchOk fch = true ∧
      be fch 0 1 / 32 = 0 ∧
      stop = s.time.raw + usRaw (s.plAckUs t.val) + usRaw (528 * (be fch 2 2 % 1024)) ∧
      asks = (bit (be fch 0 1) 1 && decide (be fch 8 2 = s.fget fKEYID_EUI % 2 ^ 16)) ∧
      s.plRxMap t.val (be fch 1 1) (be psdu 12 8) = none) ∧
    (∃ (t : Fin 4) (paths : List PlPathRx) (parts : List G3Part) (kind : G3Kind) (fcs : Bool) (o : List Byte) (s : State) (best : Nat),
      s.clocked = true ∧
      s.plBusyEnd t.val ≤ s.time.raw ∧
      s.plMode t.val ≠ plSpl ∧
      g3Plan (s.plMode t.val) parts = true ∧
      plBest (s.plListening t.val) (fun i => (plPathOf paths i).peak) = some best ∧
      fcs = true ∧
      parts.all G3Part.supported = true ∧
      o.length ≤ 1280 ∧
      (parts.contains .secured && s.aesGone) = false ∧
      (kind = .data ∨ kind = .command)) ∧
    (∃ (t : Fin 4) (paths : List PlPathRx) (parts : List G3Part) (fcs : Bool) (o : List Byte) (s : State) (best : Nat),
      s.clocked = true ∧
      s.plBusyEnd t.val ≤ s.time.raw ∧
      s.plMode t.val ≠ plSpl ∧
      g3Plan (s.plMode t.val) parts = true ∧
      plBest (s.plListening t.val) (fun i => (plPathOf paths i).peak) = some best ∧
      fcs = true ∧
      parts.all G3Part.supported = true ∧
      o.length ≤ 1280 ∧
      (parts.contains .secured && s.aesGone) = false ∧
      ((s.plTri t.val).g3Part ++ o).length ≤ 1280) ∧
    (∃ (t : Fin 4) (paths : List PlPathRx) (parts : List G3Part) (fcs : Bool) (o : List Byte) (s : State) (best : Nat),
      s.clocked = true ∧
      s.plBusyEnd t.val ≤ s.time.raw ∧
      s.plMode t.val ≠ plSpl ∧
      g3Plan (s.plMode t.val) parts = true ∧
      plBest (s.plListening t.val) (fun i => (plPathOf paths i).peak) = some best ∧
      fcs = true ∧
      parts.all G3Part.supported = true ∧
      o.length ≤ 1280 ∧
      (parts.contains .secured && s.aesGone) = false ∧
      1280 < ((s.plTri t.val).g3Part ++ o).length) ∧
    (∃ (t : Fin 4) (paths : List PlPathRx) (parts : List G3Part) (kind : G3Kind) (fcs : Bool) (o : List Byte) (s : State) (best : Nat) (q : Nat) (f : PlFrame) (fs : List PlFrame),
      s.clocked = true ∧
      s.plBusyEnd t.val ≤ s.time.raw ∧
      s.plMode t.val ≠ plSpl ∧
      g3Plan (s.plMode t.val) parts = true ∧
      plBest (s.plListening t.val) (fun i => (plPathOf paths i).peak) = some best ∧
      fcs = true ∧
      parts.all G3Part.supported = true ∧
      o.length ≤ 1280 ∧
      (parts.contains .secured && s.aesGone) = false ∧
      kind = .ack ∧
      s.plG3Waits t.val = some q ∧
      (s.plPort q).queue = f :: fs) ∧
    (∃ (t : Fin 4) (paths : List PlPathRx) (parts : List G3Part) (kind : G3Kind) (fcs : Bool) (o : List Byte) (s : State) (best : Nat) (q : Nat) (f : PlFrame) (fs : List PlFrame),
      s.clocked = true ∧
      s.plBusyEnd t.val ≤ s.time.raw ∧
      s.plMode t.val ≠ plSpl ∧
      g3Plan (s.plMode t.val) parts = true ∧
      plBest (s.plListening t.val) (fun i => (plPathOf paths i).peak) = some best ∧
      fcs = true ∧
      parts.all G3Part.supported = true ∧
      o.length ≤ 1280 ∧
      (parts.contains .secured && s.aesGone) = false ∧
      kind = .nack ∧
      s.plG3Waits t.val = some q ∧
      (s.plPort q).queue = f :: fs ∧
      f.ackReq = true ∧
      f.tries < s.fget (fPLACC_MAXRETRY q)) :=
  ⟨⟨0, tPaths, mkFch 0 1 0 0 0 2 0 0 0 0 0, tPsdu, true, tPl, 1, ((tPl : State).time.raw + usRaw ((tPl : State).plAckUs (0 : Fin 4).val) + usRaw (528 * (be (mkFch 0 1 0 0 0 2 0 0 0 0 0 : List Byte) 2 2 % 1024))), ((bit (be (mkFch 0 1 0 0 0 2 0 0 0 0 0 : List Byte) 0 1) 1 && decide (be (mkFch 0 1 0 0 0 2 0 0 0 0 0 : List Byte) 8 2 = (tPl : State).fget fKEYID_EUI % 2 ^ 16))), robustMap, ((if (true : Bool) && plBlocksOk (be (mkFch 0 1 0 0 0 2 0 0 0 0 0 : List Byte) 2 2 / 1024 % 4) 4 ((List.range (be (mkFch 0 1 0 0 0 2 0 0 0 0 0 : List Byte) 2 2 % 1024)).map fun j =>
          ((tPl : State).plLeft ((tPl : State).plFold (0 : Fin 4).val (1 : Nat) (tPaths : List PlPathRx)) (tPaths : List PlPathRx) j).isEmpty) then (tPsdu : List Byte)
        else Config.plDecode (be (mkFch 0 1 0 0 0 2 0 0 0 0 0 : List Byte) 2 2 / 1024 % 4) ((tPl : State).plSoft (0 : Fin 4).val ((tPl : State).plFold (0 : Fin 4).val (1 : Nat) (tPaths : List PlPathRx)) (tPaths : List PlPathRx) (be (mkFch 0 1 0 0 0 2 0 0 0 0 0 : List Byte) 2 2 % 1024)))), by decide +kernel⟩,
   ⟨0, tPaths, mkFch 0 1 1 0 0 2 0 0 0 0 0, [1], true, tPl, 1, ((tPl : State).time.raw + usRaw ((tPl : State).plAckUs (0 : Fin 4).val) + usRaw (528 * (be (mkFch 0 1 1 0 0 2 0 0 0 0 0 : List Byte) 2 2 % 1024))), ((bit (be (mkFch 0 1 1 0 0 2 0 0 0 0 0 : List Byte) 0 1) 1 && decide (be (mkFch 0 1 1 0 0 2 0 0 0 0 0 : List Byte) 8 2 = (tPl : State).fget fKEYID_EUI % 2 ^ 16))), robustMap, ((if (true : Bool) && plBlocksOk (be (mkFch 0 1 1 0 0 2 0 0 0 0 0 : List Byte) 2 2 / 1024 % 4) 4 ((List.range (be (mkFch 0 1 1 0 0 2 0 0 0 0 0 : List Byte) 2 2 % 1024)).map fun j =>
          ((tPl : State).plLeft ((tPl : State).plFold (0 : Fin 4).val (1 : Nat) (tPaths : List PlPathRx)) (tPaths : List PlPathRx) j).isEmpty) then ([1] : List Byte)
        else Config.plDecode (be (mkFch 0 1 1 0 0 2 0 0 0 0 0 : List Byte) 2 2 / 1024 % 4) ((tPl : State).plSoft (0 : Fin 4).val ((tPl : State).plFold (0 : Fin 4).val (1 : Nat) (tPaths : List PlPathRx)) (tPaths : List PlPathRx) (be (mkFch 0 1 1 0 0 2 0 0 0 0 0 : List Byte) 2 2 % 1024)))), by decide +kernel⟩,
   ⟨0, tPaths, mkFch 0 1 1 0 9 2 0 0 0 0 0, [1], tPl, 1, ((tPl : State).time.raw + usRaw ((tPl : State).plAckUs (0 : Fin 4).val) + usRaw (528 * (be (mkFch 0 1 1 0 9 2 0 0 0 0 0 : List Byte) 2 2 % 1024))), ((bit (be (mkFch 0 1 1 0 9 2 0 0 0 0 0 : List Byte) 0 1) 1 && decide (be (mkFch 0 1 1 0 9 2 0 0 0 0 0 : List Byte) 8 2 = (tPl : State).fget fKEYID_EUI % 2 ^ 16))), by decide +kernel⟩,
   ⟨0, tPaths, [.cenelecA, .robust], .data, (true), [1, 2], tPl.fset fPLSMODE_MODE 1, 1, by decide +kernel⟩,
   ⟨0, tPaths, [.cenelecA, .robust], (true), [1, 2], tPl.fset fPLSMODE_MODE 1, 1, by decide +kernel⟩,
   ⟨0, tPaths, [.cenelecA, .robust], (true), [1, 2], (tPl.fset fPLSMODE_MODE 1).setPlTri 0 { g3Part := List.replicate 1280 0 }, 1, by decide +kernel⟩,
   ⟨0, tPaths, [.cenelecA, .robust], (.ack), (true), [], tPlG3, 1, 1, { tPlF with g3 := true }, [], by decide +kernel⟩,
   ⟨0, tPaths, [.cenelecA, .robust], (.nack), (true), [], tPlG3.fset (fPLACC_MAXRETRY 1) 3, 1, 1, { tPlF with g3 := true }, [], by decide +kernel⟩⟩

/-- The hypotheses of PowerlineReception can be met: part 3. -/
theorem test_meets_powerline_reception_3 :
    (∃ (t : Fin 4) (paths : List PlPathRx) (parts : List G3Part) (fcs : Bool) (o : List Byte) (s : State) (best : Nat),
      s.clocked = true ∧
      s.plBusyEnd t.val ≤ s.time.raw ∧
      s.plMode t.val ≠ plSpl ∧
      g3Plan (s.plMode t.val) parts = true ∧
      plBest (s.plListening t.val) (fun i => (plPathOf paths i).peak) = some best ∧
      (fcs = false ∨ parts.all G3Part.supported = false ∨ 1280 < o.length ∨ (parts.contains .secured && s.aesGone) = true)) ∧
    (∃ (i : Half) (s : State),
      s.clocked = true ∧
      s.nbValid i.toNat = true ∧
      s.nbMedium i.toNat < 4 ∧
      (s.nbMap i.toNat 24).tmid ≠ 0 ∧
      s.pl.mapAt.get (fun _ => 0) i.toNat + secRaw (4 * s.nb i.toNat 48 1) ≤ s.time.raw + 1) ∧
    (∃ (i : Half) (s : State),
      s.clocked = true ∧
      (s.nbValid i.toNat = false ∨ 4 ≤ s.nbMedium i.toNat ∨ (s.nbMap i.toNat 24).tmid = 0 ∨ s.time.raw + 1 < s.pl.mapAt.get (fun _ => 0) i.toNat + secRaw (4 * s.nb i.toNat 48 1))) :=
  ⟨⟨0, tPaths, [.cenelecA, .coherent], true, [1, 2], tPl.fset fPLSMODE_MODE 1, 1, by decide +kernel⟩,
   ⟨3, tNb, by decide +kernel⟩,
   ⟨3, State.reset, by decide +kernel⟩⟩

/-- The hypotheses of PowerlineQueuesAndDrivers can be met: part 1. -/
theorem test_meets_powerline_queues_and_drivers_1 :
    (∃ (p : Fin 12) (dst : DWord) (pri : Fin 5) (mtype : Fin 16) (body : List Byte) (fid : Option Half) (s : State) (f : PlFrame),
      s.clocked = true ∧
      dst.toNat ≠ euiAll ∧
      s.nbFind dst.toNat (p.val / 3) = none ∧
      f = { dst := dst.toNat, pri := pri.val, mtype := mtype.val, body := body, seq := s.pl.seq, ackReq := true, fid := fid.map BitVec.toNat } ∧
      s.plRefuses p.val f = false ∧
      s.plWired p.val = true) ∧
    (∃ (p : Fin 12) (dst : DWord) (pri : Fin 5) (mtype : Fin 16) (body : List Byte) (fid : Option Half) (s : State) (f : PlFrame),
      s.clocked = true ∧
      dst.toNat ≠ euiAll ∧
      s.nbFind dst.toNat (p.val / 3) = none ∧
      f = { dst := dst.toNat, pri := pri.val, mtype := mtype.val, body := body, seq := s.pl.seq, ackReq := true, fid := fid.map BitVec.toNat } ∧
      s.plRefuses p.val f = false ∧
      s.plWired p.val = false) ∧
    (∃ (p : Fin 12) (dst : DWord) (pri : Fin 5) (mtype : Fin 16) (body : List Byte) (fid : Option Half) (s : State) (f : PlFrame),
      s.clocked = true ∧
      dst.toNat ≠ euiAll ∧
      s.nbFind dst.toNat (p.val / 3) = none ∧
      f = { dst := dst.toNat, pri := pri.val, mtype := mtype.val, body := body, seq := s.pl.seq, ackReq := true, fid := fid.map BitVec.toNat } ∧
      s.plRefuses p.val f = true) ∧
    (∃ (f : PlFrame),
      f.g3 = false ∧
      1280 < (if f.via.isSome then 38 else 20) + f.body.length + 4) ∧
    (∃ (p : Fin 12) (dst : DWord) (pri : Fin 5) (mtype : Fin 16) (body : List Byte) (fid : Option Half) (s : State) (i : Nat) (u : State) (c : Option PlCand) (f : PlFrame),
      s.clocked = true ∧
      dst.toNat ≠ euiAll ∧
      s.nbFind dst.toNat (p.val / 3) = some i ∧
      s.plPath i = (u, c) ∧
      f = { dst := dst.toNat, pri := pri.val, mtype := mtype.val, body := body, seq := s.pl.seq, ackReq := true, via := c.map (·.eui), fid := fid.map BitVec.toNat } ∧
      u.plRefuses p.val f = false ∧
      u.plWired p.val = true) ∧
    (∃ (p : Fin 12) (dst : DWord) (pri : Fin 5) (mtype : Fin 16) (body : List Byte) (fid : Option Half) (s : State) (i : Nat) (u : State) (c : Option PlCand) (f : PlFrame),
      s.clocked = true ∧
      dst.toNat ≠ euiAll ∧
      s.nbFind dst.toNat (p.val / 3) = some i ∧
      s.plPath i = (u, c) ∧
      f = { dst := dst.toNat, pri := pri.val, mtype := mtype.val, body := body, seq := s.pl.seq, ackReq := true, via := c.map (·.eui), fid := fid.map BitVec.toNat } ∧
      u.plRefuses p.val f = true) ∧
    (∃ (s u : State) (i : Nat) (c : Option PlCand),
      s.plPath i = (u, c)) ∧
    (∃ (p : Fin 12) (dst : DWord) (pri : Fin 5) (mtype : Fin 16) (body : List Byte) (fid : Option Half) (s : State) (f : PlFrame),
      s.clocked = true ∧
      dst.toNat = euiAll ∧
      f = { dst := dst.toNat, pri := pri.val, mtype := mtype.val, body := body, seq := s.pl.seq, ackReq := false, bid := some s.pl.bid, fid := fid.map BitVec.toNat } ∧
      (List.range 3).all (fun j => !s.flag (fPLCFG_EN (3 * (p.val / 3) + j)) || ! s.plRefuses (3 * (p.val / 3) + j) f) = true) :=
  ⟨⟨1, 77, 2, 0, [1], none, tPl, ({ dst := (77 : DWord).toNat, pri := (2 : Fin 5).val, mtype := (0 : Fin 16).val, body := ([1] : List Byte), seq := (tPl : State).pl.seq, ackReq := true, fid := (none : Option Half).map BitVec.toNat }), by decide +kernel⟩,
   ⟨2, 77, 2, 0, [1], none, tPl.setFlag (fPLCFG_EN 2) true |>.fset (fPLTXLIM_MAXSYM 2) 500, ({ dst := (77 : DWord).toNat, pri := (2 : Fin 5).val, mtype := (0 : Fin 16).val, body := ([1] : List Byte), seq := (tPl.setFlag (fPLCFG_EN 2) true |>.fset (fPLTXLIM_MAXSYM 2) 500 : State).pl.seq, ackReq := true, fid := (none : Option Half).map BitVec.toNat }), by decide +kernel⟩,
   ⟨1, 77, 2, 0, List.replicate 1257 0, none, tPl, ({ dst := (77 : DWord).toNat, pri := (2 : Fin 5).val, mtype := (0 : Fin 16).val, body := (List.replicate 1257 0 : List Byte), seq := (tPl : State).pl.seq, ackReq := true, fid := (none : Option Half).map BitVec.toNat }), by decide +kernel⟩,
   ⟨{ tPlF with body := List.replicate 1257 0 }, by decide +kernel⟩,
   ⟨1, 77, 2, 0, [1], none, tPl77, 308, _, _, _, by decide +kernel, by decide +kernel, by decide +kernel, rfl, rfl, by decide +kernel, by decide +kernel⟩,
   ⟨1, 77, 2, 0, List.replicate 1257 0, none, tPl77, 308, _, _, _, by decide +kernel, by decide +kernel, by decide +kernel, rfl, rfl, by decide +kernel⟩,
   ⟨tPl77, _, 308, _, rfl⟩,
   ⟨1, 0xFFFFFFFFFFFFFFFF, 2, 0, [1], none, tPl, ({ dst := (0xFFFFFFFFFFFFFFFF : DWord).toNat, pri := (2 : Fin 5).val, mtype := (0 : Fin 16).val, body := ([1] : List Byte), seq := (tPl : State).pl.seq, ackReq := false, bid := some (tPl : State).pl.bid, fid := (none : Option Half).map BitVec.toNat }), by decide +kernel⟩⟩

/-- The hypotheses of PowerlineQueuesAndDrivers can be met: part 2. -/
theorem test_meets_powerline_queues_and_drivers_2 :
    (∃ (p : Fin 12) (dst : DWord) (pri : Fin 5) (mtype : Fin 16) (body : List Byte) (fid : Option Half) (s : State) (f : PlFrame) (j : Fin 3),
      s.clocked = true ∧
      dst.toNat = euiAll ∧
      f = { dst := dst.toNat, pri := pri.val, mtype := mtype.val, body := body, seq := s.pl.seq, ackReq := false, bid := some s.pl.bid, fid := fid.map BitVec.toNat } ∧
      s.flag (fPLCFG_EN (3 * (p.val / 3) + j.val)) = true ∧
      s.plRefuses (3 * (p.val / 3) + j.val) f = true) ∧
    (∃ (p : Fin 12) (o : List Byte) (s : State),
      s.clocked = true ∧
      o.length ≤ 1280 ∧
      s.plWired p.val = true) ∧
    (∃ (o : List Byte) (s : State),
      s.clocked = true ∧
      1280 < o.length) ∧
    (∃ (p : Fin 12) (o : List Byte) (s : State),
      s.clocked = true ∧
      o.length ≤ 1280 ∧
      s.plWired p.val = false) ∧
    (∃ (n : Nat) (s : State) (f : PortFrame) (p : Nat),
      s.clocked = true ∧
      s.kep.out[n]? = some f ∧
      s.plPortFor f = some p) ∧
    (∃ (n : Nat) (s : State),
      s.clocked = true ∧
      s.kep.out[n]?.bind s.plPortFor = none) ∧
    (∃ (p : Fin 12) (s : State) (f : PlFrame) (fs : List PlFrame),
      s.clocked = true ∧
      (s.plPort p.val).req = none ∧
      s.plOn p.val = true ∧
      (s.plPort p.val).queue = f :: fs ∧
      s.plInOrder p.val f = true) ∧
    (∃ (p : Fin 12) (s : State) (o : PlOwe),
      s.clocked = true ∧
      (s.plPort p.val).req = none ∧
      s.plOn p.val = true ∧
      (s.plTri (p.val / 3)).owed = some o) :=
  ⟨⟨1, 0xFFFFFFFFFFFFFFFF, 2, 0, List.replicate 1257 0, none, tPl, ({ dst := (0xFFFFFFFFFFFFFFFF : DWord).toNat, pri := (2 : Fin 5).val, mtype := (0 : Fin 16).val, body := (List.replicate 1257 0 : List Byte), seq := (tPl : State).pl.seq, ackReq := false, bid := some (tPl : State).pl.bid, fid := (none : Option Half).map BitVec.toNat }), 1, by decide +kernel⟩,
   ⟨1, [1], tPl, by decide +kernel⟩,
   ⟨List.replicate 1281 0, tPl, by decide +kernel⟩,
   ⟨2, [1], tPl, by decide +kernel⟩,
   ⟨0, tPl.setKep { tPl.kep with out := [{ kind := 0, link := 77, port := 1, group := 0, fid := none, frame := [1, 2] }] }, { kind := 0, link := 77, port := 1, group := 0, fid := none, frame := [1, 2] }, 1, by decide +kernel⟩,
   ⟨0, tPl, by decide +kernel⟩,
   ⟨1, tPl.setPlPort 1 { queue := [tPlF] }, tPlF, [], by decide +kernel⟩,
   ⟨1, tPl.setPlTri 0 { owed := some ⟨[1], 5, 1⟩ }, ⟨[1], 5, 1⟩, by decide +kernel⟩⟩

/-- The hypotheses of PowerlineQueuesAndDrivers can be met: part 3. -/
theorem test_meets_powerline_queues_and_drivers_3 :
    (∃ (p : Fin 12) (s : State),
      s.clocked = true ∧
      (s.plPort p.val).req.isSome = true ∨ s.plOn p.val = false ∨ ((s.plTri (p.val / 3)).owed = none ∧ ((s.plPort p.val).queue = [] ∨ ((s.plPort p.val).queue.map (s.plInOrder p.val)).head? = some false))) ∧
    (∃ (s : State) (k : Nat) (p : Nat) (r : Nat),
      s.clocked = true ∧
      k < 4 ∧
      (List.range k).all (fun j => (s.plDriver j).isSome || (s.plOldest j).isNone) = true ∧
      s.plDriver k = none ∧
      s.plOldest k = some p ∧
      (s.plPort p).req = some r) ∧
    (∃ (s : State),
      s.clocked = true ∧
      (List.range 4).all (fun j => (s.plDriver j).isSome || (s.plOldest j).isNone) = true) ∧
    (∃ (s : State) (k : Nat) (p : Nat),
      s.plOldest k = some p) ∧
    (∃ (p : Fin 12) (s : State) (x : PlTx),
      s.clocked = true ∧
      (s.plPort p.val).tx = some x ∧
      x.isAck = false ∧
      x.ackReq = false ∧
      x.txEnd ≤ s.time.raw) ∧
    (∃ (p : Fin 12) (s : State) (x : PlTx),
      s.clocked = true ∧
      (s.plPort p.val).tx = some x ∧
      x.isAck = false ∧
      x.ackReq = true ∧
      x.ended = true ∧
      x.waitEnd ≤ s.time.raw) ∧
    (∃ (p : Fin 12) (s : State) (x : PlTx),
      s.clocked = true ∧
      (s.plPort p.val).tx = some x ∧
      x.isAck = true ∧
      x.txEnd ≤ s.time.raw) ∧
    (∃ (p : Fin 12) (s : State) (x : PlTx),
      s.clocked = true ∧
      (s.plPort p.val).tx = some x ∧
      (x.isAck = true ∧ s.time.raw < x.txEnd) ∨ (x.isAck = false ∧ x.ackReq = false ∧ s.time.raw < x.txEnd) ∨ (x.isAck = false ∧ x.ackReq = true ∧ (x.ended = false ∨ s.time.raw < x.waitEnd))) :=
  ⟨⟨1, State.reset, by decide +kernel⟩,
   ⟨tPl.setPlPort 1 { queue := [tPlF], req := some 5 }, 0, 1, 5, by decide +kernel⟩,
   ⟨State.reset, by decide +kernel⟩,
   ⟨tPl.setPlPort 1 { queue := [tPlF], req := some 5 }, 0, 1, by decide +kernel⟩,
   ⟨1, tPl.setPlPort 1 { queue := [tPlF], req := some 4, gnt := some (0, 5), tx := some { txEnd := 7, waitEnd := 7, fcs := 0, ackReq := false } }, { txEnd := 7, waitEnd := 7, fcs := 0, ackReq := false }, by decide +kernel⟩,
   ⟨1, tPl.setPlPort 1 { queue := [tPlF], req := some 4, gnt := some (0, 5), tx := some { txEnd := 7, waitEnd := 9, fcs := 0, ackReq := true, ended := true } }, { txEnd := 7, waitEnd := 9, fcs := 0, ackReq := true, ended := true }, by decide +kernel⟩,
   ⟨1, tPl.setPlPort 1 { queue := [tPlF], req := some 4, gnt := some (0, 5), tx := some { txEnd := 7, waitEnd := 7, fcs := 0, ackReq := false, isAck := true } }, { txEnd := 7, waitEnd := 7, fcs := 0, ackReq := false, isAck := true }, by decide +kernel⟩,
   ⟨1, tPl.setPlPort 1 { queue := [tPlF], req := some 4, gnt := some (0, 5), tx := some { txEnd := 700000000, waitEnd := 700000000, fcs := 0, ackReq := false } }, { txEnd := 700000000, waitEnd := 700000000, fcs := 0, ackReq := false }, by decide +kernel⟩⟩

/-- The hypotheses of PowerlineQueuesAndDrivers can be met: part 4. -/
theorem test_meets_powerline_queues_and_drivers_4 :
    (∃ (p : Fin 12) (s : State) (o : PlOwe),
      s.clocked = true ∧
      (s.plPort p.val).tx = none ∧
      (s.plTri (p.val / 3)).owed = some o ∧
      o.due < s.time.raw) ∧
    (∃ (p : Fin 12) (s : State),
      s.clocked = true ∧
      (s.plPort p.val).tx = none ∧
      (s.plTri (p.val / 3)).owed = none ∧
      (s.plPort p.val).req.isSome = true ∧
      (s.plPort p.val).queue = []) ∧
    (∃ (p : Fin 12) (s : State),
      s.clocked = true ∧
      (s.plPort p.val).tx = none ∧
      (s.plTri (p.val / 3)).owed = none ∧ ((s.plPort p.val).req = none ∨ (s.plPort p.val).queue ≠ [])) ∧
    (∃ (p : Fin 12) (s : State) (k : Nat) (g : Nat),
      s.clocked = true ∧
      (s.plPort p.val).gnt = some (k, g) ∧
      (s.plPort p.val).tx = none ∧
      s.fget (fPLACC_MAXDEFER p.val) ≠ 0 ∧
      g + msRaw (s.fget (fPLACC_MAXDEFER p.val)) ≤ s.time.raw) ∧
    (∃ (p : Fin 12) (s : State),
      s.clocked = true ∧
      ((s.plPort p.val).gnt = none ∨ (s.plPort p.val).tx.isSome = true ∨ s.fget (fPLACC_MAXDEFER p.val) = 0)) ∧
    (∃ (p : Fin 12) (s : State) (k : Nat) (g : Nat),
      s.clocked = true ∧
      (s.plPort p.val).gnt = some (k, g) ∧
      s.time.raw < g + msRaw (s.fget (fPLACC_MAXDEFER p.val))) :=
  ⟨⟨1, (tPl.setPlTri 0 { owed := some ⟨[1], 5, 1⟩ }).setPlPort 1 { req := some 5 }, ⟨[1], 5, 1⟩, by decide +kernel⟩,
   ⟨1, tPl.setPlPort 1 { req := some 5 }, by decide +kernel⟩,
   ⟨1, State.reset, by decide +kernel⟩,
   ⟨1, (tPlG tPlF).fset (fPLACC_MAXDEFER 1) 5, 0, 1000, by decide +kernel⟩,
   ⟨1, State.reset, by decide +kernel⟩,
   ⟨1, (tPlG tPlF).fset (fPLACC_MAXDEFER 1) 500, 0, 1000, by decide +kernel⟩⟩

/-- The hypotheses of PowerlineAccess can be met: part 1. -/
theorem test_meets_powerline_access_1 :
    (∃ (p : Fin 12) (s : State) (f : PlFrame) (fs : List PlFrame) (k : Nat) (g : Nat) (j : Nat) (r : Nat),
      s.clocked = true ∧
      (s.plPort p.val).queue = f :: fs ∧
      (s.plPort p.val).gnt = some (k, g) ∧
      (s.plPort p.val).tx = none ∧
      s.txEnabled = true ∧
      s.plOn p.val = true ∧
      s.plOwes (p.val / 3) = false ∧
      s.plBusyEnd (p.val / 3) ≤ s.time.raw ∧
      f.notBefore ≤ s.chip ∧
      (f.tries = 0 → s.time.raw ≤ f.ackBy.getD s.time.raw) ∧
      s.plModeSends (p.val / 3) f = true ∧
      s.plInOrder p.val f = true ∧
      (s.plTri (p.val / 3)).busyTo ≤ s.time.raw ∧
      s.plSeqStart p.val g + usRaw 2112 + usRaw (1056 * j) = s.time.raw ∧
      f.g3 = false ∧
      f.pri < 4 ∧
      f.left = some r ∧
      (s.plPort p.val).counted = s.plSeqStart p.val g + 1 ∧
      j = 2 * f.pri + r) ∧
    (∃ (p : Fin 12) (s : State) (f : PlFrame) (fs : List PlFrame) (k : Nat) (g : Nat) (j : Nat) (r : Nat),
      s.clocked = true ∧
      (s.plPort p.val).queue = f :: fs ∧
      (s.plPort p.val).gnt = some (k, g) ∧
      (s.plPort p.val).tx = none ∧
      s.txEnabled = true ∧
      s.plOn p.val = true ∧
      s.plOwes (p.val / 3) = false ∧
      s.plBusyEnd (p.val / 3) ≤ s.time.raw ∧
      f.notBefore ≤ s.chip ∧
      (f.tries = 0 → s.time.raw ≤ f.ackBy.getD s.time.raw) ∧
      s.plModeSends (p.val / 3) f = true ∧
      s.plInOrder p.val f = true ∧
      (s.plTri (p.val / 3)).busyTo ≤ s.time.raw ∧
      s.plSeqStart p.val g + usRaw 2112 + usRaw (1056 * j) = s.time.raw ∧
      f.g3 = false ∧
      f.pri < 4 ∧
      f.left = some r ∧
      (s.plPort p.val).counted = s.plSeqStart p.val g + 1 ∧
      j ≠ 2 * f.pri + r) ∧
    (∃ (p : Fin 12) (s : State) (f : PlFrame) (fs : List PlFrame) (k : Nat) (g : Nat) (j : Nat),
      s.clocked = true ∧
      (s.plPort p.val).queue = f :: fs ∧
      (s.plPort p.val).gnt = some (k, g) ∧
      (s.plPort p.val).tx = none ∧
      s.txEnabled = true ∧
      s.plOn p.val = true ∧
      s.plOwes (p.val / 3) = false ∧
      s.plBusyEnd (p.val / 3) ≤ s.time.raw ∧
      f.notBefore ≤ s.chip ∧
      (f.tries = 0 → s.time.raw ≤ f.ackBy.getD s.time.raw) ∧
      s.plModeSends (p.val / 3) f = true ∧
      s.plInOrder p.val f = true ∧
      (s.plTri (p.val / 3)).busyTo ≤ s.time.raw ∧
      s.plSeqStart p.val g + usRaw 2112 + usRaw (1056 * j) = s.time.raw ∧
      f.g3 = false ∧
      f.pri < 4 ∧
      (f.left = none ∨ (s.plPort p.val).counted ≠ s.plSeqStart p.val g + 1)) ∧
    (∃ (p : Fin 12) (s : State) (f : PlFrame) (fs : List PlFrame) (k : Nat) (g : Nat) (j : Nat) (b : Nat),
      s.clocked = true ∧
      (s.plPort p.val).queue = f :: fs ∧
      (s.plPort p.val).gnt = some (k, g) ∧
      (s.plPort p.val).tx = none ∧
      s.txEnabled = true ∧
      s.plOn p.val = true ∧
      s.plOwes (p.val / 3) = false ∧
      s.plBusyEnd (p.val / 3) ≤ s.time.raw ∧
      f.notBefore ≤ s.chip ∧
      (f.tries = 0 → s.time.raw ≤ f.ackBy.getD s.time.raw) ∧
      s.plModeSends (p.val / 3) f = true ∧
      s.plInOrder p.val f = true ∧
      (s.plTri (p.val / 3)).busyTo ≤ s.time.raw ∧
      s.plSeqStart p.val g + usRaw 2112 + usRaw (1056 * j) = s.time.raw ∧
      f.g3 = false ∧
      4 ≤ f.pri ∧
      8 ≤ j ∧
      f.left = some b ∧
      b ≤ (s.time.raw - max (max (s.plSeqStart p.val g + usRaw 2112 + usRaw (8 * 1056)) (s.plPort p.val).counted) g) / usRaw 1056) ∧
    (∃ (p : Fin 12) (s : State) (f : PlFrame) (fs : List PlFrame) (k : Nat) (g : Nat) (j : Nat) (b : Nat),
      s.clocked = true ∧
      (s.plPort p.val).queue = f :: fs ∧
      (s.plPort p.val).gnt = some (k, g) ∧
      (s.plPort p.val).tx = none ∧
      s.txEnabled = true ∧
      s.plOn p.val = true ∧
      s.plOwes (p.val / 3) = false ∧
      s.plBusyEnd (p.val / 3) ≤ s.time.raw ∧
      f.notBefore ≤ s.chip ∧
      (f.tries = 0 → s.time.raw ≤ f.ackBy.getD s.time.raw) ∧
      s.plModeSends (p.val / 3) f = true ∧
      s.plInOrder p.val f = true ∧
      (s.plTri (p.val / 3)).busyTo ≤ s.time.raw ∧
      s.plSeqStart p.val g + usRaw 2112 + usRaw (1056 * j) = s.time.raw ∧
      f.g3 = false ∧
      4 ≤ f.pri ∧
      8 ≤ j ∧
      f.left = some b ∧
      (s.time.raw - max (max (s.plSeqStart p.val g + usRaw 2112 + usRaw (8 * 1056)) (s.plPort p.val).counted) g) / usRaw 1056 < b) ∧
    (∃ (p : Fin 12) (s : State) (f : PlFrame) (fs : List PlFrame) (k : Nat) (g : Nat) (j : Nat),
      s.clocked = true ∧
      (s.plPort p.val).queue = f :: fs ∧
      (s.plPort p.val).gnt = some (k, g) ∧
      (s.plPort p.val).tx = none ∧
      s.txEnabled = true ∧
      s.plOn p.val = true ∧
      s.plOwes (p.val / 3) = false ∧
      s.plBusyEnd (p.val / 3) ≤ s.time.raw ∧
      f.notBefore ≤ s.chip ∧
      (f.tries = 0 → s.time.raw ≤ f.ackBy.getD s.time.raw) ∧
      s.plModeSends (p.val / 3) f = true ∧
      s.plInOrder p.val f = true ∧
      (s.plTri (p.val / 3)).busyTo ≤ s.time.raw ∧
      s.plSeqStart p.val g + usRaw 2112 + usRaw (1056 * j) = s.time.raw ∧
      f.g3 = false ∧
      4 ≤ f.pri ∧
      8 ≤ j ∧
      f.left = none) ∧
    (∃ (p : Fin 12) (s : State) (f : PlFrame) (fs : List PlFrame) (k : Nat) (g : Nat),
      s.clocked = true ∧
      (s.plPort p.val).queue = f :: fs ∧
      (s.plPort p.val).gnt = some (k, g) ∧
      (s.plPort p.val).tx = none ∧
      s.txEnabled = true ∧
      s.plOn p.val = true ∧
      s.plOwes (p.val / 3) = false ∧
      s.plBusyEnd (p.val / 3) ≤ s.time.raw ∧
      f.notBefore ≤ s.chip ∧
      (f.tries = 0 → s.time.raw ≤ f.ackBy.getD s.time.raw) ∧
      s.plModeSends (p.val / 3) f = true ∧
      s.plInOrder p.val f = true ∧
      f.g3 = true ∧
      (s.plTri (p.val / 3)).g3To ≤ s.time.raw) ∧
    (∃ (p : Fin 12) (s : State),
      s.clocked = true ∧
      (s.plPort p.val).queue = [] ∨ (s.plPort p.val).gnt = none ∨ (s.plPort p.val).tx.isSome = true ∨ s.txEnabled = false ∨ s.plOn p.val = false ∨ s.plOwes (p.val / 3) = true ∨ s.time.raw < s.plBusyEnd (p.val / 3)) :=
  ⟨⟨1, ((tPlG { tPlF with left := some 1 }).setPlPort 1 { ((tPlG { tPlF with left := some 1 }).plPort 1) with counted := 1 }).setTime { raw := 2112000 + 3 * 1056000, offset := 0 }, { tPlF with left := some 1 }, [], 0, 1000, (2 * ({ tPlF with left := some 1 } : PlFrame).pri + (1 : Nat)), 1, by decide +kernel⟩,
   ⟨1, ((tPlG { tPlF with left := some 1 }).setPlPort 1 { ((tPlG { tPlF with left := some 1 }).plPort 1) with counted := 1 }).setTime { raw := 2112000 + 2 * 1056000, offset := 0 }, { tPlF with left := some 1 }, [], 0, 1000, 2, 1, by decide +kernel⟩,
   ⟨1, ((tPlG tPlF).setPlPort 1 { ((tPlG tPlF).plPort 1) with counted := 0 }).setTime { raw := 2112000 + 2 * 1056000, offset := 0 }, tPlF, [], 0, 1000, 2, by decide +kernel⟩,
   ⟨1, ((tPlG { tPlF with pri := 4, left := some 0 }).setPlPort 1 { ((tPlG { tPlF with pri := 4, left := some 0 }).plPort 1) with counted := 0 }).setTime { raw := 2112000 + 8 * 1056000, offset := 0 }, { tPlF with pri := 4, left := some 0 }, [], 0, 1000, 8, 0, by decide +kernel⟩,
   ⟨1, ((tPlG { tPlF with pri := 4, left := some 5 }).setPlPort 1 { ((tPlG { tPlF with pri := 4, left := some 5 }).plPort 1) with counted := 0 }).setTime { raw := 2112000 + 8 * 1056000, offset := 0 }, { tPlF with pri := 4, left := some 5 }, [], 0, 1000, 8, 5, by decide +kernel⟩,
   ⟨1, ((tPlG { tPlF with pri := 4 }).setPlPort 1 { ((tPlG { tPlF with pri := 4 }).plPort 1) with counted := 0 }).setTime { raw := 2112000 + 8 * 1056000, offset := 0 }, { tPlF with pri := 4 }, [], 0, 1000, 8, by decide +kernel⟩,
   ⟨1, (tPlG { tPlF with g3 := true }).fset fPLSMODE_MODE 1, { tPlF with g3 := true }, [], 0, 1000, by decide +kernel⟩,
   ⟨1, State.reset, by decide +kernel⟩⟩

/-- The hypotheses of PowerlineAccess can be met: part 2. -/
theorem test_meets_powerline_access_2 :
    (∃ (p : Fin 12) (s : State) (f : PlFrame) (fs : List PlFrame) (k : Nat) (g : Nat),
      s.clocked = true ∧
      (s.plPort p.val).queue = f :: fs ∧
      (s.plPort p.val).gnt = some (k, g) ∧
      (s.chip < f.notBefore ∨ s.plModeSends (p.val / 3) f = false ∨ s.plInOrder p.val f = false ∨ (f.g3 = true ∧ s.time.raw < (s.plTri (p.val / 3)).g3To) ∨ (f.g3 = false ∧ (s.time.raw < s.plSeqStart p.val g + usRaw 2112 ∨ s.time.raw < (s.plTri (p.val / 3)).busyTo ∨ (s.time.raw - (s.plSeqStart p.val g + usRaw 2112)) % usRaw 1056 ≠ 0 ∨ (4 ≤ f.pri ∧ (s.time.raw - (s.plSeqStart p.val g + usRaw 2112)) / usRaw 1056 < 8))))) ∧
    (∃ (t : Fin 4) (s : State) (o : PlOwe) (p : Nat),
      s.clocked = true ∧
      (s.plTri t.val).owed = some o ∧
      o.due = s.time.raw ∧
      s.txEnabled = true ∧
      s.plReady t.val = some p) ∧
    (∃ (t : Fin 4) (s : State) (o : PlOwe) (p : Nat),
      s.clocked = true ∧
      (s.plTri t.val).owed = some o ∧
      o.due = s.time.raw ∧
      s.txEnabled = true ∧
      s.plReady t.val = none ∧
      (s.plAckGrant t.val).plReady t.val = some p) ∧
    (∃ (t : Fin 4) (s : State) (o : PlOwe),
      s.clocked = true ∧
      (s.plTri t.val).owed = some o ∧
      o.due < s.time.raw) ∧
    (∃ (t : Fin 4) (s : State) (o : PlOwe),
      s.clocked = true ∧
      (s.plTri t.val).owed = some o ∧
      o.due = s.time.raw ∧
      (s.txEnabled = false ∨ (s.plReady t.val = none ∧ (s.plAckGrant t.val).plReady t.val = none))) ∧
    (∃ (t : Fin 4) (s : State),
      s.clocked = true ∧
      (s.plTri t.val).owed = none) ∧
    (∃ (t : Fin 4) (s : State) (o : PlOwe),
      s.clocked = true ∧
      (s.plTri t.val).owed = some o ∧
      s.time.raw < o.due) ∧
    (∃ (p : Fin 12) (fch : List Byte) (s : State) (f : PlFrame) (fs : List PlFrame) (x : PlTx),
      s.clocked = true ∧
      (s.plPort p.val).queue = f :: fs ∧
      (s.plPort p.val).tx = some x ∧
      x.ackReq = true ∧
      f.g3 = false ∧
      x.ended = false ∧
      x.txEnd ≤ s.time.raw ∧
      s.time.raw < x.waitEnd ∧
      s.fchOk fch = true ∧
      be fch 0 1 / 32 = 1 ∧
      be fch 6 2 = x.fcs) :=
  ⟨⟨1, tPlG { tPlF with g3 := true }, { tPlF with g3 := true }, [], 0, 1000, by decide +kernel⟩,
   ⟨0, (tPl.setPlTri 0 { owed := some ⟨[1], 100000000, 1⟩ }).setPlPort 0 { gnt := some (0, 5) }, ⟨[1], 100000000, 1⟩, 0, by decide +kernel⟩,
   ⟨0, (tPl.setPlTri 0 { owed := some ⟨[1], 100000000, 1⟩ }), ⟨[1], 100000000, 1⟩, 1, by decide +kernel⟩,
   ⟨0, tPl.setPlTri 0 { owed := some ⟨[1], 5, 1⟩ }, ⟨[1], 5, 1⟩, by decide +kernel⟩,
   ⟨1, tPl.setPlTri 1 { owed := some ⟨[1], 100000000, 1⟩ }, ⟨[1], 100000000, 1⟩, by decide +kernel⟩,
   ⟨0, State.reset, by decide +kernel⟩,
   ⟨0, tPl.setPlTri 0 { owed := some ⟨[1], 500000000, 1⟩ }, ⟨[1], 500000000, 1⟩, by decide +kernel⟩,
   ⟨1, mkFch 1 0 0 0 0 0 0 0 5 0 0, tPlW tPlF 200000000, tPlF, [], { txEnd := 99000000, waitEnd := 200000000, fcs := 5, ackReq := true }, by decide +kernel⟩⟩

/-- The hypotheses of PowerlineAccess can be met: part 3. -/
theorem test_meets_powerline_access_3 :
    (∃ (p : Fin 12) (fch : List Byte) (s : State) (f : PlFrame) (fs : List PlFrame) (x : PlTx),
      s.clocked = true ∧
      (s.plPort p.val).queue = f :: fs ∧
      (s.plPort p.val).tx = some x ∧
      x.ackReq = true ∧
      f.g3 = false ∧
      x.ended = false ∧
      x.txEnd ≤ s.time.raw ∧
      s.time.raw < x.waitEnd ∧
      s.fchOk fch = true ∧
      be fch 0 1 / 32 = 2 ∧
      f.ackReq = true ∧
      f.tries < s.fget (fPLACC_MAXRETRY p.val)) ∧
    (∃ (p : Fin 12) (fch : List Byte) (s : State) (f : PlFrame) (fs : List PlFrame) (x : PlTx),
      s.clocked = true ∧
      (s.plPort p.val).queue = f :: fs ∧
      (s.plPort p.val).tx = some x ∧
      x.ackReq = true ∧
      f.g3 = false ∧
      x.ended = false ∧
      x.txEnd ≤ s.time.raw ∧
      s.time.raw < x.waitEnd ∧
      s.fchOk fch = true ∧
      be fch 0 1 / 32 = 2 ∧
      s.fget (fPLACC_MAXRETRY p.val) ≤ f.tries) ∧
    (∃ (p : Fin 12) (fch : List Byte) (s : State) (f : PlFrame) (fs : List PlFrame) (x : PlTx),
      s.clocked = true ∧
      (s.plPort p.val).queue = f :: fs ∧
      (s.plPort p.val).tx = some x ∧
      (x.ackReq = false ∨ f.g3 = true ∨ x.ended = true ∨ s.time.raw < x.txEnd ∨ x.waitEnd ≤ s.time.raw ∨ s.fchOk fch = false ∨ be fch 0 1 / 32 = 0 ∨ (be fch 0 1 / 32 = 1 ∧ be fch 6 2 ≠ x.fcs))) ∧
    (∃ (p : Fin 12) (s : State),
      s.clocked = true ∧
      ((s.plPort p.val).queue = [] ∨ (s.plPort p.val).tx = none)) ∧
    (∃ (p : Fin 12) (s : State) (f : PlFrame) (fs : List PlFrame) (x : PlTx),
      s.clocked = true ∧
      (s.plPort p.val).queue = f :: fs ∧
      (s.plPort p.val).tx = some x ∧
      x.ackReq = true ∧
      x.ended = false ∧
      x.waitEnd ≤ s.time.raw ∧
      s.fget (fPLACC_MAXRETRY p.val) ≤ f.tries) ∧
    (∃ (p : Fin 12) (s : State) (f : PlFrame) (fs : List PlFrame) (x : PlTx),
      s.clocked = true ∧
      (s.plPort p.val).queue = f :: fs ∧
      (s.plPort p.val).tx = some x ∧
      x.ackReq = true ∧
      x.ended = false ∧
      x.waitEnd ≤ s.time.raw ∧
      f.ackReq = true ∧
      f.tries < s.fget (fPLACC_MAXRETRY p.val)) ∧
    (∃ (p : Fin 12) (s : State),
      s.clocked = true ∧
      (s.plPort p.val).tx = none) ∧
    (∃ (p : Fin 12) (s : State) (x : PlTx),
      s.clocked = true ∧
      (s.plPort p.val).tx = some x ∧
      (x.ackReq = false ∨ x.ended = true ∨ s.time.raw < x.waitEnd)) :=
  ⟨⟨1, mkFch 2 0 0 0 0 0 0 0 5 0 2, (tPlW tPlF 200000000).fset (fPLACC_MAXRETRY 1) 3, tPlF, [], { txEnd := 99000000, waitEnd := 200000000, fcs := 5, ackReq := true }, by decide +kernel⟩,
   ⟨1, mkFch 2 0 0 0 0 0 0 0 5 0 1, (tPlW { tPlF with tries := 9 } 200000000).fset (fPLACC_MAXRETRY 1) 3, { tPlF with tries := 9 }, [], { txEnd := 99000000, waitEnd := 200000000, fcs := 5, ackReq := true }, by decide +kernel⟩,
   ⟨1, [1], tPlW tPlF 200000000, tPlF, [], { txEnd := 99000000, waitEnd := 200000000, fcs := 5, ackReq := true }, by decide +kernel⟩,
   ⟨1, State.reset, by decide +kernel⟩,
   ⟨1, (tPlW { tPlF with tries := 9 } 99500000).fset (fPLACC_MAXRETRY 1) 3, { tPlF with tries := 9 }, [], { txEnd := 99000000, waitEnd := 99500000, fcs := 5, ackReq := true }, by decide +kernel⟩,
   ⟨1, (tPlW { tPlF with tries := 1 } 99500000).fset (fPLACC_MAXRETRY 1) 3, { tPlF with tries := 1 }, [], { txEnd := 99000000, waitEnd := 99500000, fcs := 5, ackReq := true }, by decide +kernel⟩,
   ⟨1, State.reset, by decide +kernel⟩,
   ⟨1, tPlW tPlF 200000000, { txEnd := 99000000, waitEnd := 200000000, fcs := 5, ackReq := true }, by decide +kernel⟩⟩

/-- The hypotheses of RadioReception can be met: part 1. -/
theorem test_meets_radio_reception_1 :
    (∃ (s : State) (n : Nat),
      (s.rfPort n).ahead.all (fun x => decide (s.time.raw < x.air.from_)) = true) ∧
    (∃ (s : State) (v : State) (n : Nat) (x : RfSend),
      (s.rfPort n).ahead = [x] ∧
      x.air.from_ ≤ s.time.raw ∧
      v = s.setRfPort n { s.rfPort n with ahead := [] }) ∧
    (∃ (n : Fin 6) (d : RfDet) (s : State) (u : State) (i : Nat),
      s.clocked = true ∧
      u = s.rfSettle n.val ∧
      u.rfOn n.val = true ∧
      bit (u.fget (fRFCFG_RXKINDS n.val)) d.kind.val = true ∧
      u.rfGroupOk n.val d.kind.val d.group.val = true ∧
      u.rfBlind n.val = false ∧
      (u.rfPort n.val).dems.any (fun e => rfOverlap e.kind e.group d.kind.val d.group.val) = false ∧
      freeDemod (u.rfPort n.val).dems = some i) ∧
    (∃ (n : Fin 6) (d : RfDet) (s : State) (u : State),
      s.clocked = true ∧
      u = s.rfSettle n.val ∧
      u.rfOn n.val = true ∧
      bit (u.fget (fRFCFG_RXKINDS n.val)) d.kind.val = true ∧
      u.rfGroupOk n.val d.kind.val d.group.val = true ∧
      u.rfBlind n.val = false ∧
      (u.rfPort n.val).dems.any (fun e => rfOverlap e.kind e.group d.kind.val d.group.val) = false ∧
      freeDemod (u.rfPort n.val).dems = none) ∧
    (∃ (n : Fin 6) (d : RfDet) (s : State) (u : State),
      s.clocked = true ∧
      u = s.rfSettle n.val ∧
      (u.rfOn n.val = false ∨ bit (u.fget (fRFCFG_RXKINDS n.val)) d.kind.val = false ∨ u.rfGroupOk n.val d.kind.val d.group.val = false ∨ u.rfBlind n.val = true ∨ (u.rfPort n.val).dems.any (fun e => rfOverlap e.kind e.group d.kind.val d.group.val) = true)) ∧
    (∃ (n : Fin 6) (d : RfDet) (e : RfDet) (s : State) (u : State) (v : State),
      s.clocked = true ∧
      u = s.rfSettle n.val ∧
      8 * d.group.val + d.kind.val < 8 * e.group.val + e.kind.val ∧
      v = (u.rfDetect n.val d).rfDetect n.val e) ∧
    (∃ (l : List RfDemod) (i : Nat),
      freeDemod l = some i) ∧
    (∃ (n : Fin 6) (idx : Fin 64) (s : State) (u : State),
      s.clocked = true ∧
      u = s.rfSettle n.val ∧
      (u.rfPort n.val).dems.find? (fun d => d.idx = idx.val) = none) :=
  ⟨⟨tRf, 2, by decide +kernel⟩,
   ⟨tRfRun.setRfPort 2 { ahead := [{ air := ⟨17000000, 17500000, false⟩, group := 1, kind := 1, mcs := 0, psdu := List.replicate 22 0 }] }, ((tRfRun.setRfPort 2 { ahead := [{ air := ⟨17000000, 17500000, false⟩, group := 1, kind := 1, mcs := 0, psdu := List.replicate 22 0 }] } : State).setRfPort (2 : Nat) { (tRfRun.setRfPort 2 { ahead := [{ air := ⟨17000000, 17500000, false⟩, group := 1, kind := 1, mcs := 0, psdu := List.replicate 22 0 }] } : State).rfPort (2 : Nat) with ahead := [] }), 2, ({ air := ⟨17000000, 17500000, false⟩, group := 1, kind := 1, mcs := 0, psdu := List.replicate 22 0 } : RfSend), by decide +kernel⟩,
   ⟨2, ⟨5, 1⟩, tRf.fset (fRFCFG_RXKINDS 2) 3, ((tRf.fset (fRFCFG_RXKINDS 2) 3 : State).rfSettle (2 : Fin 6).val), 0, by decide +kernel⟩,
   ⟨2, ⟨5, 1⟩, tDems, ((tDems : State).rfSettle (2 : Fin 6).val), by decide +kernel⟩,
   ⟨0, ⟨5, 1⟩, tRf, ((tRf : State).rfSettle (0 : Fin 6).val), by decide +kernel⟩,
   ⟨2, ⟨5, 1⟩, ⟨6, 1⟩, tRf, ((tRf : State).rfSettle (2 : Fin 6).val), (((((tRf : State).rfSettle (2 : Fin 6).val) : State).rfDetect (2 : Fin 6).val (⟨5, 1⟩ : RfDet)).rfDetect (2 : Fin 6).val (⟨6, 1⟩ : RfDet)), by decide +kernel⟩,
   ⟨[⟨0, 5, 1, 0⟩], 1, by decide +kernel⟩,
   ⟨2, 0, tRf, ((tRf : State).rfSettle (2 : Fin 6).val), by decide +kernel⟩⟩

/-- The hypotheses of RadioReception can be met: part 2. -/
theorem test_meets_radio_reception_2 :
    (∃ (n : Fin 6) (idx : Fin 64) (h : RfHeard) (s : State) (u : State) (D : RfDemod),
      s.clocked = true ∧
      u = s.rfSettle n.val ∧
      (u.rfPort n.val).dems.find? (fun d => d.idx = idx.val) = some D ∧
      (h.phr = false ∨ (h.supported = true ∧ rfMcsOk D.kind h.mcs.val = true ∧ (h.fcs = false ∨ 1280 < h.psdu.length + (if h.fcs2 then 2 else 4) ∨ u.rfHears n.val = false)))) ∧
    (∃ (n : Fin 6) (idx : Fin 64) (h : RfHeard) (s : State) (u : State) (D : RfDemod),
      s.clocked = true ∧
      u = s.rfSettle n.val ∧
      (u.rfPort n.val).dems.find? (fun d => d.idx = idx.val) = some D ∧
      h.phr = true ∧
      (h.supported = false ∨ rfMcsOk D.kind h.mcs.val = false)) ∧
    (∃ (n : Fin 6) (idx : Fin 64) (h : RfHeard) (s : State) (u : State) (D : RfDemod),
      s.clocked = true ∧
      u = s.rfSettle n.val ∧
      (u.rfPort n.val).dems.find? (fun d => d.idx = idx.val) = some D ∧
      h.phr = true ∧
      h.supported = true ∧
      rfMcsOk D.kind h.mcs.val = true ∧
      h.fcs = true ∧
      h.psdu.length + (if h.fcs2 then 2 else 4) ≤ 1280 ∧
      u.rfHears n.val = true ∧
      macOk h.psdu = false) ∧
    (∃ (n : Fin 6) (idx : Fin 64) (h : RfHeard) (s : State) (u : State) (D : RfDemod),
      s.clocked = true ∧
      u = s.rfSettle n.val ∧
      (u.rfPort n.val).dems.find? (fun d => d.idx = idx.val) = some D ∧
      h.phr = true ∧
      h.supported = true ∧
      rfMcsOk D.kind h.mcs.val = true ∧
      h.fcs = true ∧
      h.psdu.length + (if h.fcs2 then 2 else 4) ≤ 1280 ∧
      u.rfHears n.val = true ∧
      macOk h.psdu = true ∧
      macType h.psdu = 0 ∧
      macFlood h.psdu = false ∧
      (macDst h.psdu = u.fget fKEYID_EUI ∨ macDst h.psdu = euiAll) ∧
      (macAckReq h.psdu && decide (macDst h.psdu = u.fget fKEYID_EUI)) = false) ∧
    (∃ (n : Fin 6) (idx : Fin 64) (h : RfHeard) (s : State) (u : State) (D : RfDemod),
      s.clocked = true ∧
      u = s.rfSettle n.val ∧
      (u.rfPort n.val).dems.find? (fun d => d.idx = idx.val) = some D ∧
      h.phr = true ∧
      h.supported = true ∧
      rfMcsOk D.kind h.mcs.val = true ∧
      h.fcs = true ∧
      h.psdu.length + (if h.fcs2 then 2 else 4) ≤ 1280 ∧
      u.rfHears n.val = true ∧
      macOk h.psdu = true ∧
      macType h.psdu = 0 ∧
      macFlood h.psdu = false ∧
      macAckReq h.psdu = true ∧
      macDst h.psdu = u.fget fKEYID_EUI) ∧
    (∃ (n : Fin 6) (idx : Fin 64) (h : RfHeard) (s : State) (u : State) (D : RfDemod),
      s.clocked = true ∧
      u = s.rfSettle n.val ∧
      (u.rfPort n.val).dems.find? (fun d => d.idx = idx.val) = some D ∧
      h.phr = true ∧
      h.supported = true ∧
      rfMcsOk D.kind h.mcs.val = true ∧
      h.fcs = true ∧
      h.psdu.length + (if h.fcs2 then 2 else 4) ≤ 1280 ∧
      u.rfHears n.val = true ∧
      macOk h.psdu = true ∧
      macType h.psdu = 0 ∧
      macFlood h.psdu = false ∧
      macDst h.psdu ≠ u.fget fKEYID_EUI ∧
      macDst h.psdu ≠ euiAll) ∧
    (∃ (n : Fin 6) (idx : Fin 64) (h : RfHeard) (s : State) (u : State) (D : RfDemod) (o : Nat) (q : Nat),
      s.clocked = true ∧
      u = s.rfSettle n.val ∧
      (u.rfPort n.val).dems.find? (fun d => d.idx = idx.val) = some D ∧
      h.phr = true ∧
      h.supported = true ∧
      rfMcsOk D.kind h.mcs.val = true ∧
      h.fcs = true ∧
      h.psdu.length + (if h.fcs2 then 2 else 4) ≤ 1280 ∧
      u.rfHears n.val = true ∧
      macOk h.psdu = true ∧
      macType h.psdu = 0 ∧
      macFlood h.psdu = true ∧
      macAckReq h.psdu = false ∧
      o = be h.psdu (macFloodAt h.psdu) 8 ∧
      q = be h.psdu (macFloodAt h.psdu + 8) 2 ∧
      u.lintHit o q = none ∧
      macDst h.psdu = euiAll ∧
      u.flag fRFFLOOD_RELAY = true ∧
      be h.psdu (macFloodAt h.psdu + 10) 1 / 16 ≠ 0 ∧
      euiAll ≠ u.fget fKEYID_EUI) ∧
    (∃ (n : Fin 6) (idx : Fin 64) (h : RfHeard) (s : State) (u : State) (D : RfDemod) (o : Nat) (q : Nat),
      s.clocked = true ∧
      u = s.rfSettle n.val ∧
      (u.rfPort n.val).dems.find? (fun d => d.idx = idx.val) = some D ∧
      h.phr = true ∧
      h.supported = true ∧
      rfMcsOk D.kind h.mcs.val = true ∧
      h.fcs = true ∧
      h.psdu.length + (if h.fcs2 then 2 else 4) ≤ 1280 ∧
      u.rfHears n.val = true ∧
      macOk h.psdu = true ∧
      macType h.psdu = 0 ∧
      macFlood h.psdu = true ∧
      macAckReq h.psdu = false ∧
      o = be h.psdu (macFloodAt h.psdu) 8 ∧
      q = be h.psdu (macFloodAt h.psdu + 8) 2 ∧
      u.lintHit o q = none ∧
      macDst h.psdu = euiAll ∧
      (u.flag fRFFLOOD_RELAY = false ∨ be h.psdu (macFloodAt h.psdu + 10) 1 / 16 = 0)) :=
  ⟨⟨2, 0, ⟨false, true, true, false, 0, 0, 0, tMac⟩, (tRf.setRfPort 2 { dems := [⟨0, 5, 1, 0⟩] }), (((tRf.setRfPort 2 { dems := [⟨0, 5, 1, 0⟩] }) : State).rfSettle (2 : Fin 6).val), ⟨0, 5, 1, 0⟩, by decide +kernel⟩,
   ⟨2, 0, ⟨true, false, true, false, 0, 0, 0, tMac⟩, (tRf.setRfPort 2 { dems := [⟨0, 5, 1, 0⟩] }), (((tRf.setRfPort 2 { dems := [⟨0, 5, 1, 0⟩] }) : State).rfSettle (2 : Fin 6).val), ⟨0, 5, 1, 0⟩, by decide +kernel⟩,
   ⟨2, 0, ⟨true, true, true, false, 0, 0, 0, [1]⟩, (tRf.setRfPort 2 { dems := [⟨0, 5, 1, 0⟩] }), (((tRf.setRfPort 2 { dems := [⟨0, 5, 1, 0⟩] }) : State).rfSettle (2 : Fin 6).val), ⟨0, 5, 1, 0⟩, by decide +kernel⟩,
   ⟨2, 0, ⟨true, true, true, false, 0, 0, 0, tMac⟩, (tRf.setRfPort 2 { dems := [⟨0, 5, 1, 0⟩] }), (((tRf.setRfPort 2 { dems := [⟨0, 5, 1, 0⟩] }) : State).rfSettle (2 : Fin 6).val), ⟨0, 5, 1, 0⟩, by decide +kernel⟩,
   ⟨2, 0, ⟨true, true, true, false, 0, 0, 0, tMacAck⟩, (tRf.setRfPort 2 { dems := [⟨0, 5, 1, 0⟩] }), (((tRf.setRfPort 2 { dems := [⟨0, 5, 1, 0⟩] }) : State).rfSettle (2 : Fin 6).val), ⟨0, 5, 1, 0⟩, by decide +kernel⟩,
   ⟨2, 0, ⟨true, true, true, false, 0, 0, 0, ([0, 0, 0, 1] ++ beBytes 8 4 ++ beBytes 8 9 ++ [4, 5])⟩, (tRf.setRfPort 2 { dems := [⟨0, 5, 1, 0⟩] }), (((tRf.setRfPort 2 { dems := [⟨0, 5, 1, 0⟩] }) : State).rfSettle (2 : Fin 6).val), ⟨0, 5, 1, 0⟩, by decide +kernel⟩,
   ⟨2, 0, ⟨true, true, true, false, 0, 0, 0, tFlood⟩, (tRf.setRfPort 2 { dems := [⟨0, 5, 1, 0⟩] }).setFlag fRFFLOOD_RELAY true, (((tRf.setRfPort 2 { dems := [⟨0, 5, 1, 0⟩] }).setFlag fRFFLOOD_RELAY true : State).rfSettle (2 : Fin 6).val), ⟨0, 5, 1, 0⟩, (be (⟨true, true, true, false, 0, 0, 0, tFlood⟩ : RfHeard).psdu (macFloodAt (⟨true, true, true, false, 0, 0, 0, tFlood⟩ : RfHeard).psdu) 8), (be (⟨true, true, true, false, 0, 0, 0, tFlood⟩ : RfHeard).psdu (macFloodAt (⟨true, true, true, false, 0, 0, 0, tFlood⟩ : RfHeard).psdu + 8) 2), by decide +kernel⟩,
   ⟨2, 0, ⟨true, true, true, false, 0, 0, 0, tFlood⟩, (tRf.setRfPort 2 { dems := [⟨0, 5, 1, 0⟩] }).setFlag fRFFLOOD_RELAY false, (((tRf.setRfPort 2 { dems := [⟨0, 5, 1, 0⟩] }).setFlag fRFFLOOD_RELAY false : State).rfSettle (2 : Fin 6).val), ⟨0, 5, 1, 0⟩, (be (⟨true, true, true, false, 0, 0, 0, tFlood⟩ : RfHeard).psdu (macFloodAt (⟨true, true, true, false, 0, 0, 0, tFlood⟩ : RfHeard).psdu) 8), (be (⟨true, true, true, false, 0, 0, 0, tFlood⟩ : RfHeard).psdu (macFloodAt (⟨true, true, true, false, 0, 0, 0, tFlood⟩ : RfHeard).psdu + 8) 2), by decide +kernel⟩⟩

/-- The hypotheses of RadioReception can be met: part 3. -/
theorem test_meets_radio_reception_3 :
    (∃ (n : Fin 6) (idx : Fin 64) (h : RfHeard) (s : State) (u : State) (D : RfDemod) (o : Nat) (q : Nat) (i : Nat),
      s.clocked = true ∧
      u = s.rfSettle n.val ∧
      (u.rfPort n.val).dems.find? (fun d => d.idx = idx.val) = some D ∧
      h.phr = true ∧
      h.supported = true ∧
      rfMcsOk D.kind h.mcs.val = true ∧
      h.fcs = true ∧
      h.psdu.length + (if h.fcs2 then 2 else 4) ≤ 1280 ∧
      u.rfHears n.val = true ∧
      macOk h.psdu = true ∧
      macType h.psdu = 0 ∧
      macFlood h.psdu = true ∧
      macAckReq h.psdu = false ∧
      o = be h.psdu (macFloodAt h.psdu) 8 ∧
      q = be h.psdu (macFloodAt h.psdu + 8) 2 ∧
      u.lintHit o q = some i ∧
      (u.rfNoted n.val D h).lintHit o q = some i) ∧
    (∃ (n : Fin 6) (idx : Fin 64) (h : RfHeard) (s : State) (u : State) (D : RfDemod),
      s.clocked = true ∧
      u = s.rfSettle n.val ∧
      (u.rfPort n.val).dems.find? (fun d => d.idx = idx.val) = some D ∧
      h.phr = true ∧
      h.supported = true ∧
      rfMcsOk D.kind h.mcs.val = true ∧
      h.fcs = true ∧
      h.psdu.length + (if h.fcs2 then 2 else 4) ≤ 1280 ∧
      u.rfHears n.val = true ∧
      macOk h.psdu = true ∧
      macType h.psdu ≠ 0) ∧
    (∃ (n : Fin 6) (s : State) (u : State) (a : RfAck) (rest : List RfAck),
      s.clocked = true ∧
      u = s.rfSettle n.val ∧
      (u.rfPort n.val).owed = a :: rest ∧
      u.rfAckAt n.val a (rfAir ⟨a.kind, a.mcs, false, 4, 8⟩ 28) = some u.time.raw ∧
      u.time.raw ≤ a.due + 2000000 ∧
      u.rfBeaconClash n.val u.time.raw (u.time.raw + rfAir ⟨a.kind, a.mcs, false, 4, 8⟩ 28) = false ∧
      u.rfTxOk n.val = true ∧
      u.rfGroupOk n.val a.kind a.group = true) ∧
    (∃ (n : Fin 6) (s : State) (u : State) (a : RfAck) (rest : List RfAck),
      s.clocked = true ∧
      u = s.rfSettle n.val ∧
      (u.rfPort n.val).owed = a :: rest ∧
      a.due + 2000000 < u.time.raw) ∧
    (∃ (n : Fin 6) (s : State) (u : State) (a : RfAck) (rest : List RfAck) (x : Nat),
      s.clocked = true ∧
      u = s.rfSettle n.val ∧
      (u.rfPort n.val).owed = a :: rest ∧
      u.rfAckAt n.val a (rfAir ⟨a.kind, a.mcs, false, 4, 8⟩ 28) = some x ∧
      u.rfBeaconClash n.val x (x + rfAir ⟨a.kind, a.mcs, false, 4, 8⟩ 28) = true) ∧
    (∃ (n : Fin 6) (s : State) (u : State) (a : RfAck) (rest : List RfAck) (x : Nat),
      s.clocked = true ∧
      u = s.rfSettle n.val ∧
      (u.rfPort n.val).owed = a :: rest ∧
      u.rfAckAt n.val a (rfAir ⟨a.kind, a.mcs, false, 4, 8⟩ 28) = some x ∧
      u.time.raw ≤ a.due + 2000000 ∧
      u.rfBeaconClash n.val x (x + rfAir ⟨a.kind, a.mcs, false, 4, 8⟩ 28) = false ∧
      (u.time.raw ≠ x ∨ u.rfTxOk n.val = false ∨ u.rfGroupOk n.val a.kind a.group = false)) ∧
    (∃ (n : Fin 6) (s : State) (u : State) (a : RfAck) (rest : List RfAck),
      s.clocked = true ∧
      u = s.rfSettle n.val ∧
      (u.rfPort n.val).owed = a :: rest ∧
      (u.rfTxs n.val).all (fun t => t.beacon || !t.meets a.due (a.due + rfAir ⟨a.kind, a.mcs, false, 4, 8⟩ 28)) = true) ∧
    (∃ (n : Fin 6) (s : State) (u : State),
      s.clocked = true ∧
      u = s.rfSettle n.val ∧
      (u.rfPort n.val).owed = []) :=
  ⟨⟨2, 0, ⟨true, true, true, false, 0, 0, 0, tFlood⟩, tFlSeen, ((tFlSeen : State).rfSettle (2 : Fin 6).val), ⟨0, 5, 1, 0⟩, (be (⟨true, true, true, false, 0, 0, 0, tFlood⟩ : RfHeard).psdu (macFloodAt (⟨true, true, true, false, 0, 0, 0, tFlood⟩ : RfHeard).psdu) 8), (be (⟨true, true, true, false, 0, 0, 0, tFlood⟩ : RfHeard).psdu (macFloodAt (⟨true, true, true, false, 0, 0, 0, tFlood⟩ : RfHeard).psdu + 8) 2), tFlI, by decide +kernel⟩,
   ⟨2, 0, ⟨true, true, true, false, 0, 0, 0, tBeacon⟩, (tRf.setRfPort 2 { dems := [⟨0, 5, 1, 0⟩] }), (((tRf.setRfPort 2 { dems := [⟨0, 5, 1, 0⟩] }) : State).rfSettle (2 : Fin 6).val), ⟨0, 5, 1, 0⟩, by decide +kernel⟩,
   ⟨2, tRf.setRfPort 2 { owed := [⟨5000000000, 5, 1, 0, 3, 9, 0⟩] }, ((tRf.setRfPort 2 { owed := [⟨5000000000, 5, 1, 0, 3, 9, 0⟩] } : State).rfSettle (2 : Fin 6).val), ⟨5000000000, 5, 1, 0, 3, 9, 0⟩, [], by decide +kernel⟩,
   ⟨2, tRf.setRfPort 2 { owed := [⟨8000000, 5, 1, 0, 3, 9, 0⟩] }, ((tRf.setRfPort 2 { owed := [⟨8000000, 5, 1, 0, 3, 9, 0⟩] } : State).rfSettle (2 : Fin 6).val), ⟨8000000, 5, 1, 0, 3, 9, 0⟩, [], by decide +kernel⟩,
   ⟨2, tRfBcn.setRfPort 2 { owed := [⟨5000000, 5, 1, 0, 3, 9, 0⟩] }, ((tRfBcn.setRfPort 2 { owed := [⟨5000000, 5, 1, 0, 3, 9, 0⟩] } : State).rfSettle (2 : Fin 6).val), ⟨5000000, 5, 1, 0, 3, 9, 0⟩, [], 5000000, by decide +kernel⟩,
   ⟨2, tRf.setRfPort 2 { owed := [⟨6000000000, 5, 1, 0, 3, 9, 0⟩] }, ((tRf.setRfPort 2 { owed := [⟨6000000000, 5, 1, 0, 3, 9, 0⟩] } : State).rfSettle (2 : Fin 6).val), ⟨6000000000, 5, 1, 0, 3, 9, 0⟩, [], 6000000000, by decide +kernel⟩,
   ⟨2, tRf.setRfPort 2 { owed := [⟨5000000000, 5, 1, 0, 3, 9, 0⟩] }, ((tRf.setRfPort 2 { owed := [⟨5000000000, 5, 1, 0, 3, 9, 0⟩] } : State).rfSettle (2 : Fin 6).val), ⟨5000000000, 5, 1, 0, 3, 9, 0⟩, [], by decide +kernel⟩,
   ⟨2, tRf, ((tRf : State).rfSettle (2 : Fin 6).val), by decide +kernel⟩⟩

/-- The hypotheses of RadioReception can be met: part 4. -/
theorem test_meets_radio_reception_4 :
    (∃ (n : Fin 6) (s : State) (u : State),
      s.clocked = true ∧
      u = s.rfSettle n.val) :=
  ⟨2, tRf, ((tRf : State).rfSettle (2 : Fin 6).val), by decide +kernel⟩

/-- The hypotheses of SuperframesAndBeacons can be met: part 1. -/
theorem test_meets_superframes_and_beacons_1 :
    (∃ (s : State) (u : State) (start : Nat),
      s.clocked = true ∧
      s.serving = true ∧
      s.quiet = false ∧
      u = (List.range 6).foldl (fun v k => v.rfSettle k) s ∧
      u.sfFollows = false ∧
      u.timeValid = true ∧
      u.sfNext.getD 0 ≤ u.chip ∧
      start = u.chip - (((u.chip : Int) - (u.fget fRFSFOFF_OFFSET : Int)) % 4096000000).toNat) ∧
    (∃ (s : State) (u : State),
      s.clocked = true ∧
      s.serving = true ∧
      s.quiet = false ∧
      u = (List.range 6).foldl (fun v k => v.rfSettle k) s ∧
      u.sfFollows = false ∧
      (u.timeValid = false ∨ u.chip < u.sfNext.getD 0)) ∧
    (∃ (s : State) (u : State) (start : Nat),
      s.clocked = true ∧
      s.serving = true ∧
      s.quiet = false ∧
      u = (List.range 6).foldl (fun v k => v.rfSettle k) s ∧
      u.sfFollows = true ∧
      u.rf.follow = some start ∧
      start ≤ u.chip ∧
      u.rf.nextSfn < 2 ^ 32 ∧
      (u.sfState ≠ sfHold ∨ u.sfHeld u.rf.nextSfn < 9)) ∧
    (∃ (s : State) (u : State) (start : Nat),
      s.clocked = true ∧
      s.serving = true ∧
      s.quiet = false ∧
      u = (List.range 6).foldl (fun v k => v.rfSettle k) s ∧
      u.sfFollows = true ∧
      u.rf.follow = some start ∧
      start ≤ u.chip ∧
      u.rf.nextSfn < 2 ^ 32 ∧
      u.sfState = sfHold ∧
      9 ≤ u.sfHeld u.rf.nextSfn) ∧
    (∃ (s : State) (u : State),
      s.clocked = true ∧
      s.serving = true ∧
      s.quiet = false ∧
      u = (List.range 6).foldl (fun v k => v.rfSettle k) s ∧
      u.sfFollows = true ∧
      u.rf.follow.getD (u.chip + 1) > u.chip) ∧
    (∃ (s : State),
      s.clocked = true ∧
      (s.serving = false ∨ s.quiet = true)) ∧
    (∃ (s : State) (n : Nat),
      slotUse (s.rfSlot n (s.rfAct n) 0) = useBeacon ∧
      s.rfMayTx n = true) ∧
    (∃ (psdu : List Byte) (ago : Nat) (s : State),
      s.clocked = true ∧
      s.serving = true ∧
      s.quiet = false ∧
      macOk psdu = true ∧
      macType psdu = 1 ∧
      be (macBody psdu) 2 8 = s.fget fRFFOLLOW_EUI ∧
      be (macBody psdu) 0 2 = s.fget fRFCELL_CELL ∧
      be (macBody psdu) 10 1 ≤ 14 ∧
      (s.sfState = sfAcquire ∨ s.sfState = sfHold ∨ (s.sfState = sfTrack ∧ macSrc psdu = s.fget fRFPARENT_EUI ∧ s.rfInWindow (s.chipAt (s.time.raw - ago)) = true))) :=
  ⟨⟨tRf, ((List.range 6).foldl (fun v k => v.rfSettle k) (tRf : State)), ((((List.range 6).foldl (fun v k => v.rfSettle k) (tRf : State)) : State).chip - ((((((List.range 6).foldl (fun v k => v.rfSettle k) (tRf : State)) : State).chip : Int) - ((((List.range 6).foldl (fun v k => v.rfSettle k) (tRf : State)) : State).fget fRFSFOFF_OFFSET : Int)) % 4096000000).toNat), by decide +kernel⟩,
   ⟨tRf.setFlag fTIMSTAT_VALID false, ((List.range 6).foldl (fun v k => v.rfSettle k) (tRf.setFlag fTIMSTAT_VALID false : State)), by decide +kernel⟩,
   ⟨((tRf.fset fRFSFSTAT_STATE sfTrack).setFlag fRFSF_MODE true).setRf { follow := some 4000000000, nextSfn := 9 }, ((List.range 6).foldl (fun v k => v.rfSettle k) (((tRf.fset fRFSFSTAT_STATE sfTrack).setFlag fRFSF_MODE true).setRf { follow := some 4000000000, nextSfn := 9 } : State)), 4000000000, by decide +kernel⟩,
   ⟨((tRf.fset fRFSFSTAT_STATE sfHold).setFlag fRFSF_MODE true).setRf { follow := some 4000000000, nextSfn := 12, holdSfn := 3 }, ((List.range 6).foldl (fun v k => v.rfSettle k) (((tRf.fset fRFSFSTAT_STATE sfHold).setFlag fRFSF_MODE true).setRf { follow := some 4000000000, nextSfn := 12, holdSfn := 3 } : State)), 4000000000, by decide +kernel⟩,
   ⟨tRf.setFlag fRFSF_MODE true, ((List.range 6).foldl (fun v k => v.rfSettle k) (tRf.setFlag fRFSF_MODE true : State)), by decide +kernel⟩,
   ⟨State.reset, by decide +kernel⟩,
   ⟨tRfBcn, 2, by decide +kernel⟩,
   ⟨tBeacon, 5, tRf.fset fRFSFSTAT_STATE sfAcquire, by decide +kernel⟩⟩

/-- The hypotheses of SuperframesAndBeacons can be met: part 2. -/
theorem test_meets_superframes_and_beacons_2 :
    (∃ (psdu : List Byte) (s : State),
      s.clocked = true ∧
      s.serving = true ∧
      s.quiet = false ∧
      macOk psdu = true ∧
      macType psdu = 1 ∧
      be (macBody psdu) 2 8 = s.fget fRFFOLLOW_EUI ∧
      s.sfState = sfFallback) ∧
    (∃ (psdu : List Byte) (ago : Nat) (s : State),
      s.clocked = true ∧
      (s.serving = false ∨ s.quiet = true ∨ macOk psdu = false ∨ macType psdu ≠ 1 ∨ be (macBody psdu) 2 8 ≠ s.fget fRFFOLLOW_EUI ∨
        (s.sfState ≠ sfFallback ∧ (be (macBody psdu) 0 2 ≠ s.fget fRFCELL_CELL ∨ 14 < be (macBody psdu) 10 1 ∨ s.sfState = sfUnsync ∨ s.sfState = sfRoot ∨
          (s.sfState = sfTrack ∧ (macSrc psdu ≠ s.fget fRFPARENT_EUI ∨ s.rfInWindow (s.chipAt (s.time.raw - ago)) = false)))))) ∧
    (∃ (s : State),
      s.clocked = true ∧
      s.serving = true ∧
      s.quiet = false ∧
      s.sfState = sfTrack ∧
      s.rf.win + s.fget fRFSF_BWIN * 100000 ≤ s.chip ∧
      s.fget fRFSFSTAT_MISSED < 2) ∧
    (∃ (s : State),
      s.clocked = true ∧
      s.serving = true ∧
      s.quiet = false ∧
      s.sfState = sfTrack ∧
      s.rf.win + s.fget fRFSF_BWIN * 100000 ≤ s.chip ∧
      s.fget fRFSFSTAT_MISSED = 2) ∧
    (∃ (s : State),
      s.clocked = true ∧
      (s.serving = false ∨ s.quiet = true ∨ s.sfState ≠ sfTrack ∨ s.chip < s.rf.win + s.fget fRFSF_BWIN * 100000)) ∧
    (∃ (a : Agent) (n : Fin 6) (s : State),
      s.writes a (rRFSLOTCTL n.val) = true ∧
      s.flag (fRFSLOTCTL_PEND n.val) = false ∧
      s.rfBankOk n.val (!s.rfAct n.val) (s.rfProf n.val) = true) ∧
    (∃ (a : Agent) (n : Fin 6) (s : State),
      s.writes a (rRFSLOTCTL n.val) = true ∧
      s.flag (fRFSLOTCTL_PEND n.val) = true) ∧
    (∃ (a : Agent) (n : Fin 6) (s : State),
      s.writes a (rRFSLOTCTL n.val) = true ∧
      s.flag (fRFSLOTCTL_PEND n.val) = false ∧
      s.rfBankOk n.val (!s.rfAct n.val) (s.rfProf n.val) = false) :=
  ⟨⟨tBeacon, tRf.fset fRFSFSTAT_STATE sfFallback, by decide +kernel⟩,
   ⟨tBeacon, 5, tRf, by decide +kernel⟩,
   ⟨(tRf.fset fRFSFSTAT_STATE sfTrack), by decide +kernel⟩,
   ⟨(tRf.fset fRFSFSTAT_STATE sfTrack).fset fRFSFSTAT_MISSED 2, by decide +kernel⟩,
   ⟨State.reset, by decide +kernel⟩,
   ⟨.port, 2, tRf, by decide +kernel⟩,
   ⟨.port, 2, tRf.setFlag (fRFSLOTCTL_PEND 2) true, by decide +kernel⟩,
   ⟨.port, 2, tRf.setReg (rRFSLOTB 2 0) 1, by decide +kernel⟩⟩

/-- The hypotheses of RadioTransmission can be met: part 1. -/
theorem test_meets_radio_transmission_1 :
    (∃ (n : Fin 6) (s : State) (u : State) (r : RfRun) (f : RfFrame),
      s.clocked = true ∧
      u = (s.rfSettle n.val).rfPull n.val ∧
      u.rfRunAt n.val u.time.raw = some r ∧
      rfFirst (slotUse r.entry = useTxu) ((u.rfPort n.val).queue.filter (u.rfCanSend n.val r)) = some f ∧
      u.rfMayTx n.val = true) ∧
    (∃ (n : Fin 6) (s : State) (u : State),
      s.clocked = true ∧
      u = (s.rfSettle n.val).rfPull n.val ∧
      (u.rfRunAt n.val u.time.raw = none ∨ u.rfMayTx n.val = false)) ∧
    (∃ (n : Fin 6) (s : State) (u : State) (r : RfRun),
      s.clocked = true ∧
      u = (s.rfSettle n.val).rfPull n.val ∧
      u.rfRunAt n.val u.time.raw = some r ∧
      (u.rfPort n.val).queue.filter (u.rfCanSend n.val r) = []) ∧
    (∃ (txu : Bool) (l : List RfFrame) (f : RfFrame),
      rfFirst txu l = some f) ∧
    (∃ (s : State) (n : Nat) (r : RfRun) (f : RfFrame),
      s.rfCanSend n r f = true) ∧
    (∃ (s : State) (n : Nat),
      s.kep.out.any (s.rfMine n) = false) ∧
    (∃ (s : State) (n : Nat) (f : PortFrame),
      s.kep.out = [f] ∧
      s.rfMine n f = true) ∧
    (∃ (n : Fin 6) (s u : State) (late : RfFrame → Bool),
      s.clocked = true ∧
      u = (s.rfSettle n.val).rfPull n.val ∧
      late = (fun f => decide (f.since + secRaw (u.fget fRFFLOOD_RES) ≤ u.time.raw) || u.rfHopeless n.val f)) :=
  ⟨⟨2, tRfQ, (((tRfQ : State).rfSettle (2 : Fin 6).val).rfPull (2 : Fin 6).val), ⟨18, 16000000, 32000000⟩, { use := .broadcast, dst := euiAll, psdu := List.replicate 22 0, since := 0 }, by decide +kernel⟩,
   ⟨2, tRf, (((tRf : State).rfSettle (2 : Fin 6).val).rfPull (2 : Fin 6).val), by decide +kernel⟩,
   ⟨2, tRfRun, (((tRfRun : State).rfSettle (2 : Fin 6).val).rfPull (2 : Fin 6).val), ⟨18, 16000000, 32000000⟩, by decide +kernel⟩,
   ⟨true, [{ use := .broadcast, dst := euiAll, psdu := List.replicate 22 0, since := 0 }], { use := .broadcast, dst := euiAll, psdu := List.replicate 22 0, since := 0 }, by decide +kernel⟩,
   ⟨tRfQ, 2, ⟨18, 16000000, 32000000⟩, { use := .broadcast, dst := euiAll, psdu := List.replicate 22 0, since := 0 }, by decide +kernel⟩,
   ⟨tRfQ, 2, by decide +kernel⟩,
   ⟨tRfRun.setKep { tRfRun.kep with out := [{ kind := 0, link := 77, port := 18, group := 0, fid := none, frame := [1, 2] }] }, 2, { kind := 0, link := 77, port := 18, group := 0, fid := none, frame := [1, 2] }, by decide +kernel⟩,
   ⟨2, tRf, _, _, by decide +kernel, rfl, rfl⟩⟩

/-- The hypotheses of RadioTransmission can be met: part 2. -/
theorem test_meets_radio_transmission_2 :
    (∃ (n : Fin 6) (k : Nat) (s : State) (f : RfFrame),
      s.clocked = true ∧
      (s.rfPort n.val).queue[k]? = some f ∧
      f.notBefore ≤ s.time.raw) ∧
    (∃ (n : Fin 6) (k : Nat) (s : State),
      s.clocked = true ∧
      ((s.rfPort n.val).queue[k]?.map (fun f => decide (f.notBefore ≤ s.time.raw))).getD false = false) ∧
    (∃ (s : State),
      s.clocked = true ∧
      s.serving = true ∧
      s.quiet = false) ∧
    (∃ (s : State),
      s.clocked = true ∧
      (s.serving = false ∨ s.quiet = true)) ∧
    (∃ (n : Fin 6) (s : State) (u : State) (f : RfFrame) (p : SleepyPlan),
      s.clocked = true ∧
      u = (s.rfSettle n.val).rfPull n.val ∧
      u.rfMayTx n.val = true ∧
      u.sleepyPick n.val (u.rfPort n.val).queue = some (f, p)) ∧
    (∃ (n : Fin 6) (s : State) (u : State),
      s.clocked = true ∧
      u = (s.rfSettle n.val).rfPull n.val ∧
      (u.rfMayTx n.val = false ∨ u.sleepyPick n.val (u.rfPort n.val).queue = none)) ∧
    (∃ (s : State) (n : Nat) (i : Nat) (len : Nat) (raw : Nat) (win : Nat) (p : SleepyPlan),
      s.sleepyAt n i len raw win = some p) ∧
    (∃ (s : State),
      s.clocked = true ∧
      s.rf.sweptAt + 60000000000 ≤ s.time.raw) :=
  ⟨⟨2, 0, tRfQ, { use := .broadcast, dst := euiAll, psdu := List.replicate 22 0, since := 0 }, by decide +kernel⟩,
   ⟨2, 0, State.reset, by decide +kernel⟩,
   ⟨tRf, by decide +kernel⟩,
   ⟨State.reset, by decide +kernel⟩,
   ⟨2, tSleepy, (((tSleepy : State).rfSettle (2 : Fin 6).val).rfPull (2 : Fin 6).val), { use := .unicast, dst := 9, psdu := List.replicate 22 0, since := 0 }, ((((tSleepy.rfSettle 2).rfPull 2).sleepyPick 2 (((tSleepy.rfSettle 2).rfPull 2).rfPort 2).queue).getD ({ use := .unicast, dst := 9, psdu := List.replicate 22 0, since := 0 }, ⟨0, 0, 0, 0, 0⟩)).2, by decide +kernel⟩,
   ⟨2, tRf, (((tRf : State).rfSettle (2 : Fin 6).val).rfPull (2 : Fin 6).val), by decide +kernel⟩,
   ⟨tSleepy, 2, ((tSleepy.nbFind 9 6).getD 0), 22, 17000000, 1000000, ((tSleepy.sleepyAt 2 ((tSleepy.nbFind 9 6).getD 0) 22 17000000 1000000).getD ⟨0, 0, 0, 0, 0⟩), by decide +kernel⟩,
   ⟨State.reset.setTime { raw := 60000000000 }, by decide +kernel⟩⟩

/-- The hypotheses of RadioTransmission can be met: part 3. -/
theorem test_meets_radio_transmission_3 :
    (∃ (s : State),
      s.clocked = true ∧
      s.time.raw < s.rf.sweptAt + 60000000000) :=
  ⟨State.reset, by decide +kernel⟩

/-- The hypotheses of UplinkFramesAndReadings can be met: part 1. -/
theorem test_meets_uplink_frames_and_readings_1 :
    (∃ (frame : List Byte) (s : State),
      s.clocked = true ∧
      (KepFrame.parse frame).shaped = false) ∧
    (∃ (p : RxPath) (frame : List Byte) (s : State),
      s.clocked = true ∧
      (KepFrame.parse frame).shaped = true ∧
      s.lookup (KepFrame.parse frame).id p.chip.isSome = .unknown ∧
      s.unknownPeer = none) ∧
    (∃ (p : RxPath) (frame : List Byte) (s : State) (e : EptEntry),
      s.clocked = true ∧
      (KepFrame.parse frame).shaped = true ∧
      s.lookup (KepFrame.parse frame).id p.chip.isSome = .relay e ∧
      s.flag fSYSSTAT_ROLE_F = false) ∧
    (∃ (p : RxPath) (frame : List Byte) (s : State) (c : Nat) (o : Option EptEntry),
      s.clocked = true ∧
      (KepFrame.parse frame).shaped = true ∧
      s.lookup (KepFrame.parse frame).id p.chip.isSome = .remote c o) ∧
    (∃ (p : RxPath) (frame : List Byte) (s : State) (e : EptEntry) (n : Nat),
      s.clocked = true ∧
      (KepFrame.parse frame).shaped = true ∧
      s.lookup (KepFrame.parse frame).id p.chip.isSome = .relay e ∧
      s.flag fSYSSTAT_ROLE_F = true ∧
      n = e.rpeer ∧
      s.peerOpen n = false) ∧
    (∃ (p : RxPath) (frame : List Byte) (s : State) (e : EptEntry) (n : Nat),
      s.clocked = true ∧
      (KepFrame.parse frame).shaped = true ∧
      s.lookup (KepFrame.parse frame).id p.chip.isSome = .relay e ∧
      s.flag fSYSSTAT_ROLE_F = true ∧
      n = e.rpeer ∧
      s.peerOpen n = true ∧
      s.envelopeReady n = false) ∧
    (∃ (p : RxPath) (frame : List Byte) (s : State) (e : EptEntry) (n : Nat),
      s.clocked = true ∧
      (KepFrame.parse frame).shaped = true ∧
      s.lookup (KepFrame.parse frame).id p.chip.isSome = .relay e ∧
      s.flag fSYSSTAT_ROLE_F = true ∧
      n = e.rpeer ∧
      s.envelopeReady n = true) ∧
    (∃ (p : RxPath) (frame : List Byte) (s : State) (n : Nat),
      s.clocked = true ∧
      (KepFrame.parse frame).shaped = true ∧
      s.lookup (KepFrame.parse frame).id p.chip.isSome = .unknown ∧
      s.unknownPeer = some n) :=
  ⟨⟨[1], tKep, by decide +kernel⟩,
   ⟨{}, tUp.set 11 1, tKep, by decide +kernel⟩,
   ⟨{}, tUp, tEptRelay, (EptEntry.parse (tEptRelay.bytes (eptAddr tSlot) 32)), by decide +kernel⟩,
   ⟨{}, tUp, tEptRemote, 2, some (EptEntry.parse (tEptRemote.bytes (eptAddr tSlot) 32)), by decide +kernel⟩,
   ⟨{}, tUp, tEptField.setFlag fRELCFG_EN false, (EptEntry.parse (tEptField.bytes (eptAddr tSlot) 32)), (((EptEntry.parse (tEptField.bytes (eptAddr tSlot) 32)) : EptEntry).rpeer), by decide +kernel⟩,
   ⟨{}, tUp, tEptField, (EptEntry.parse (tEptField.bytes (eptAddr tSlot) 32)), (((EptEntry.parse (tEptField.bytes (eptAddr tSlot) 32)) : EptEntry).rpeer), by decide +kernel⟩,
   ⟨{}, tUp, tEptField.setSlotCeil 1 4096, (EptEntry.parse (tEptField.bytes (eptAddr tSlot) 32)), (((EptEntry.parse (tEptField.bytes (eptAddr tSlot) 32)) : EptEntry).rpeer), by decide +kernel⟩,
   ⟨{}, tUp.set 11 1, (tEptField.setFlag fRELCFG_FWD_UNKNOWN true).setSlotCeil 1 4096, 0, by decide +kernel⟩⟩

/-- The hypotheses of UplinkFramesAndReadings can be met: part 2. -/
theorem test_meets_uplink_frames_and_readings_2 :
    (∃ (p : RxPath) (frame : List Byte) (s : State) (e : EptEntry),
      s.clocked = true ∧
      (KepFrame.parse frame).shaped = true ∧
      s.lookup (KepFrame.parse frame).id p.chip.isSome = .localTo e ∧
      (¬ ((KepFrame.parse frame).kg = s.kg e.epi ∨ (bit (s.sflags e.epi) sfPending = true ∧ (KepFrame.parse frame).kg = s.pkg e.epi)))) ∧
    (∃ (p : RxPath) (frame : List Byte) (s : State) (e : EptEntry) (wrap : List Byte) (key : List Byte) (eng : Nat) (status : Status) (f : Bool),
      s.clocked = true ∧
      (KepFrame.parse frame).shaped = true ∧
      s.lookup (KepFrame.parse frame).id p.chip.isSome = .localTo e ∧
      ((KepFrame.parse frame).kg = s.kg e.epi ∨ (bit (s.sflags e.epi) sfPending = true ∧ (KepFrame.parse frame).kg = s.pkg e.epi)) ∧
      wrap = (if (KepFrame.parse frame).kg = s.kg e.epi then (s.pocket e.epi).wrap else s.bytes (s.secAddr e.epi + 40) 40) ∧
      s.uplinkKey e.epi wrap = (status, key, eng, f) ∧
      status ≠ .done) ∧
    (∃ (p : RxPath) (frame : List Byte) (s : State) (e : EptEntry) (wrap : List Byte) (key : List Byte) (eng : Nat),
      s.clocked = true ∧
      (KepFrame.parse frame).shaped = true ∧
      s.lookup (KepFrame.parse frame).id p.chip.isSome = .localTo e ∧
      ((KepFrame.parse frame).kg = s.kg e.epi ∨ (bit (s.sflags e.epi) sfPending = true ∧ (KepFrame.parse frame).kg = s.pkg e.epi)) ∧
      wrap = (if (KepFrame.parse frame).kg = s.kg e.epi then (s.pocket e.epi).wrap else s.bytes (s.secAddr e.epi + 40) 40) ∧
      s.uplinkKey e.epi wrap = (.done, key, eng, false) ∧
      ¬ (if (KepFrame.parse frame).mt = mtReadings then s.lastIc e.epi ≤ (KepFrame.parse frame).ic else max (s.lastIc e.epi) (s.volIc e.epi) < (KepFrame.parse frame).ic)) ∧
    (∃ (p : RxPath) (frame : List Byte) (s : State) (e : EptEntry) (wrap : List Byte) (key : List Byte) (eng : Nat),
      s.clocked = true ∧
      (KepFrame.parse frame).shaped = true ∧
      s.lookup (KepFrame.parse frame).id p.chip.isSome = .localTo e ∧
      ((KepFrame.parse frame).kg = s.kg e.epi ∨ (bit (s.sflags e.epi) sfPending = true ∧ (KepFrame.parse frame).kg = s.pkg e.epi)) ∧
      wrap = (if (KepFrame.parse frame).kg = s.kg e.epi then (s.pocket e.epi).wrap else s.bytes (s.secAddr e.epi + 40) 40) ∧
      s.uplinkKey e.epi wrap = (.done, key, eng, false) ∧
      (if (KepFrame.parse frame).mt = mtReadings then s.lastIc e.epi ≤ (KepFrame.parse frame).ic else max (s.lastIc e.epi) (s.volIc e.epi) < (KepFrame.parse frame).ic) ∧
      ofNats (gcmTag (nats key) (nats (kepIv (KepFrame.parse frame).dir (KepFrame.parse frame).kg (KepFrame.parse frame).ic)) (nats ((KepFrame.parse frame).raw.take 24)) (nats (((KepFrame.parse frame).raw.drop 24).take (KepFrame.parse frame).clen))) ≠ (KepFrame.parse frame).raw.drop (24 + (KepFrame.parse frame).clen)) ∧
    (∃ (p : RxPath) (frame : List Byte) (s : State) (e : EptEntry) (key : List Byte) (eng : Nat),
      s.clocked = true ∧
      (KepFrame.parse frame).shaped = true ∧
      s.lookup (KepFrame.parse frame).id p.chip.isSome = .localTo e ∧
      (KepFrame.parse frame).kg = s.kg e.epi ∧
      s.uplinkKey e.epi (s.pocket e.epi).wrap = (.done, key, eng, false) ∧
      (if (KepFrame.parse frame).mt = mtReadings then s.lastIc e.epi ≤ (KepFrame.parse frame).ic else max (s.lastIc e.epi) (s.volIc e.epi) < (KepFrame.parse frame).ic) ∧
      ofNats (gcmTag (nats key) (nats (kepIv (KepFrame.parse frame).dir (KepFrame.parse frame).kg (KepFrame.parse frame).ic)) (nats ((KepFrame.parse frame).raw.take 24)) (nats (((KepFrame.parse frame).raw.drop 24).take (KepFrame.parse frame).clen))) = (KepFrame.parse frame).raw.drop (24 + (KepFrame.parse frame).clen) ∧
      2 ^ 64 - 1 ≤ (KepFrame.parse frame).ic) ∧
    (∃ (p : RxPath) (frame : List Byte) (s : State) (e : EptEntry) (key : List Byte) (eng : Nat),
      s.clocked = true ∧
      (KepFrame.parse frame).shaped = true ∧
      s.lookup (KepFrame.parse frame).id p.chip.isSome = .localTo e ∧
      (KepFrame.parse frame).kg = s.kg e.epi ∧
      s.uplinkKey e.epi (s.pocket e.epi).wrap = (.done, key, eng, false) ∧
      (if (KepFrame.parse frame).mt = mtReadings then s.lastIc e.epi ≤ (KepFrame.parse frame).ic else max (s.lastIc e.epi) (s.volIc e.epi) < (KepFrame.parse frame).ic) ∧
      ofNats (gcmTag (nats key) (nats (kepIv (KepFrame.parse frame).dir (KepFrame.parse frame).kg (KepFrame.parse frame).ic)) (nats ((KepFrame.parse frame).raw.take 24)) (nats (((KepFrame.parse frame).raw.drop 24).take (KepFrame.parse frame).clen))) = (KepFrame.parse frame).raw.drop (24 + (KepFrame.parse frame).clen) ∧
      (KepFrame.parse frame).ic < 2 ^ 64 - 1 ∧
      (KepFrame.parse frame).mt = mtReadings ∧
      (¬ ((KepFrame.parse frame).dir = 0 ∧ (KepFrame.parse frame).kt = 0) ∨ parseReadings (ofNats (gcmCrypt (nats key) (nats (kepIv (KepFrame.parse frame).dir (KepFrame.parse frame).kg (KepFrame.parse frame).ic)) (nats (((KepFrame.parse frame).raw.drop 24).take (KepFrame.parse frame).clen)))) = none)) ∧
    (∃ (p : RxPath) (frame : List Byte) (s : State) (e : EptEntry) (key : List Byte) (eng : Nat),
      s.clocked = true ∧
      (KepFrame.parse frame).shaped = true ∧
      s.lookup (KepFrame.parse frame).id p.chip.isSome = .localTo e ∧
      (KepFrame.parse frame).kg = s.kg e.epi ∧
      s.uplinkKey e.epi (s.pocket e.epi).wrap = (.done, key, eng, false) ∧
      (if (KepFrame.parse frame).mt = mtReadings then s.lastIc e.epi ≤ (KepFrame.parse frame).ic else max (s.lastIc e.epi) (s.volIc e.epi) < (KepFrame.parse frame).ic) ∧
      ofNats (gcmTag (nats key) (nats (kepIv (KepFrame.parse frame).dir (KepFrame.parse frame).kg (KepFrame.parse frame).ic)) (nats ((KepFrame.parse frame).raw.take 24)) (nats (((KepFrame.parse frame).raw.drop 24).take (KepFrame.parse frame).clen))) = (KepFrame.parse frame).raw.drop (24 + (KepFrame.parse frame).clen) ∧
      (KepFrame.parse frame).ic < 2 ^ 64 - 1 ∧
      (KepFrame.parse frame).mt ≠ mtReadings ∧
      (¬ ((KepFrame.parse frame).dir = 0 ∧ (KepFrame.parse frame).kt = 0) ∨ ((KepFrame.parse frame).mt ≠ mtCmdResp ∧ (KepFrame.parse frame).mt ≠ mtFwStatus) ∨ otherBodyOk (KepFrame.parse frame).mt (ofNats (gcmCrypt (nats key) (nats (kepIv (KepFrame.parse frame).dir (KepFrame.parse frame).kg (KepFrame.parse frame).ic)) (nats (((KepFrame.parse frame).raw.drop 24).take (KepFrame.parse frame).clen)))) = false)) ∧
    (∃ (p : RxPath) (frame : List Byte) (s : State) (e : EptEntry) (key : List Byte) (eng : Nat),
      s.clocked = true ∧
      (KepFrame.parse frame).shaped = true ∧
      s.lookup (KepFrame.parse frame).id p.chip.isSome = .localTo e ∧
      (KepFrame.parse frame).kg = s.kg e.epi ∧
      s.uplinkKey e.epi (s.pocket e.epi).wrap = (.done, key, eng, false) ∧
      (if (KepFrame.parse frame).mt = mtReadings then s.lastIc e.epi ≤ (KepFrame.parse frame).ic else max (s.lastIc e.epi) (s.volIc e.epi) < (KepFrame.parse frame).ic) ∧
      ofNats (gcmTag (nats key) (nats (kepIv (KepFrame.parse frame).dir (KepFrame.parse frame).kg (KepFrame.parse frame).ic)) (nats ((KepFrame.parse frame).raw.take 24)) (nats (((KepFrame.parse frame).raw.drop 24).take (KepFrame.parse frame).clen))) = (KepFrame.parse frame).raw.drop (24 + (KepFrame.parse frame).clen) ∧
      (KepFrame.parse frame).ic < 2 ^ 64 - 1 ∧
      ((KepFrame.parse frame).dir = 0 ∧ (KepFrame.parse frame).kt = 0) ∧
      (KepFrame.parse frame).mt = mtCmdResp ∧
      otherBodyOk (KepFrame.parse frame).mt (ofNats (gcmCrypt (nats key) (nats (kepIv (KepFrame.parse frame).dir (KepFrame.parse frame).kg (KepFrame.parse frame).ic)) (nats (((KepFrame.parse frame).raw.drop 24).take (KepFrame.parse frame).clen)))) = true) :=
  ⟨⟨{}, tUp.set 20 7, tKep, ⟨77, 5, 0, 1, 0, 0, 1, 0, List.replicate 8 0⟩, by decide +kernel⟩,
   ⟨{}, tUp, tKep.setSlot 1 {}, ⟨77, 5, 0, 1, 0, 0, 1, 0, List.replicate 8 0⟩, ((if (KepFrame.parse (tUp : List Byte)).kg = (tKep.setSlot 1 {} : State).kg (⟨77, 5, 0, 1, 0, 0, 1, 0, List.replicate 8 0⟩ : EptEntry).epi then ((tKep.setSlot 1 {} : State).pocket (⟨77, 5, 0, 1, 0, 0, 1, 0, List.replicate 8 0⟩ : EptEntry).epi).wrap else (tKep.setSlot 1 {} : State).bytes ((tKep.setSlot 1 {} : State).secAddr (⟨77, 5, 0, 1, 0, 0, 1, 0, List.replicate 8 0⟩ : EptEntry).epi + 40) 40)), [], 0, .keyOrphaned, false, by decide +kernel⟩,
   ⟨{}, tUp, tKep.secPut 5 0 8 10, ⟨77, 5, 0, 1, 0, 0, 1, 0, List.replicate 8 0⟩, ((if (KepFrame.parse (tUp : List Byte)).kg = (tKep.secPut 5 0 8 10 : State).kg (⟨77, 5, 0, 1, 0, 0, 1, 0, List.replicate 8 0⟩ : EptEntry).epi then ((tKep.secPut 5 0 8 10 : State).pocket (⟨77, 5, 0, 1, 0, 0, 1, 0, List.replicate 8 0⟩ : EptEntry).epi).wrap else (tKep.secPut 5 0 8 10 : State).bytes ((tKep.secPut 5 0 8 10 : State).secAddr (⟨77, 5, 0, 1, 0, 0, 1, 0, List.replicate 8 0⟩ : EptEntry).epi + 40) 40)), List.replicate 32 2, 0, by decide +kernel⟩,
   ⟨{}, tUp.set 71 0, tKep, ⟨77, 5, 0, 1, 0, 0, 1, 0, List.replicate 8 0⟩, ((if (KepFrame.parse (tUp.set 71 0 : List Byte)).kg = (tKep : State).kg (⟨77, 5, 0, 1, 0, 0, 1, 0, List.replicate 8 0⟩ : EptEntry).epi then ((tKep : State).pocket (⟨77, 5, 0, 1, 0, 0, 1, 0, List.replicate 8 0⟩ : EptEntry).epi).wrap else (tKep : State).bytes ((tKep : State).secAddr (⟨77, 5, 0, 1, 0, 0, 1, 0, List.replicate 8 0⟩ : EptEntry).epi + 40) 40)), List.replicate 32 2, 0, by decide +kernel⟩,
   ⟨{}, tUpMax, tKep, ⟨77, 5, 0, 1, 0, 0, 1, 0, List.replicate 8 0⟩, List.replicate 32 2, 0, by decide +kernel⟩,
   ⟨{}, tUpBad, tKep, ⟨77, 5, 0, 1, 0, 0, 1, 0, List.replicate 8 0⟩, List.replicate 32 2, 0, by decide +kernel⟩,
   ⟨{}, tUpResp1, tKep, ⟨77, 5, 0, 1, 0, 0, 1, 0, List.replicate 8 0⟩, List.replicate 32 2, 0, by decide +kernel⟩,
   ⟨{}, tUpResp, tKep, ⟨77, 5, 0, 1, 0, 0, 1, 0, List.replicate 8 0⟩, List.replicate 32 2, 0, by decide +kernel⟩⟩

/-- The hypotheses of UplinkFramesAndReadings can be met: part 3. -/
theorem test_meets_uplink_frames_and_readings_3 :
    (∃ (p : RxPath) (frame : List Byte) (s : State) (e : EptEntry) (key : List Byte) (eng : Nat) (body : List Byte),
      s.clocked = true ∧
      (KepFrame.parse frame).shaped = true ∧
      s.lookup (KepFrame.parse frame).id p.chip.isSome = .localTo e ∧
      (KepFrame.parse frame).kg = s.kg e.epi ∧
      s.uplinkKey e.epi (s.pocket e.epi).wrap = (.done, key, eng, false) ∧
      (if (KepFrame.parse frame).mt = mtReadings then s.lastIc e.epi ≤ (KepFrame.parse frame).ic else max (s.lastIc e.epi) (s.volIc e.epi) < (KepFrame.parse frame).ic) ∧
      ofNats (gcmTag (nats key) (nats (kepIv (KepFrame.parse frame).dir (KepFrame.parse frame).kg (KepFrame.parse frame).ic)) (nats ((KepFrame.parse frame).raw.take 24)) (nats (((KepFrame.parse frame).raw.drop 24).take (KepFrame.parse frame).clen))) = (KepFrame.parse frame).raw.drop (24 + (KepFrame.parse frame).clen) ∧
      (KepFrame.parse frame).ic < 2 ^ 64 - 1 ∧
      ((KepFrame.parse frame).dir = 0 ∧ (KepFrame.parse frame).kt = 0) ∧
      (KepFrame.parse frame).mt = mtFwStatus ∧
      otherBodyOk (KepFrame.parse frame).mt (ofNats (gcmCrypt (nats key) (nats (kepIv (KepFrame.parse frame).dir (KepFrame.parse frame).kg (KepFrame.parse frame).ic)) (nats (((KepFrame.parse frame).raw.drop 24).take (KepFrame.parse frame).clen)))) = true ∧
      body = (ofNats (gcmCrypt (nats key) (nats (kepIv (KepFrame.parse frame).dir (KepFrame.parse frame).kg (KepFrame.parse frame).ic)) (nats (((KepFrame.parse frame).raw.drop 24).take (KepFrame.parse frame).clen)))) ∧
      ((List.range 4).find? fun n => s.flag (fFWCAMP_OPEN n) && s.fget (fFWCAMP_CAMPAIGN n) = be body 0 4 && s.fget (fFWCAMP_NBLK n) = be body 4 2) = none) ∧
    (∃ (p : RxPath) (frame : List Byte) (s : State) (e : EptEntry) (key : List Byte) (eng : Nat) (body : List Byte) (n : Nat) (u : State),
      s.clocked = true ∧
      (KepFrame.parse frame).shaped = true ∧
      s.lookup (KepFrame.parse frame).id p.chip.isSome = .localTo e ∧
      (KepFrame.parse frame).kg = s.kg e.epi ∧
      s.uplinkKey e.epi (s.pocket e.epi).wrap = (.done, key, eng, false) ∧
      (if (KepFrame.parse frame).mt = mtReadings then s.lastIc e.epi ≤ (KepFrame.parse frame).ic else max (s.lastIc e.epi) (s.volIc e.epi) < (KepFrame.parse frame).ic) ∧
      ofNats (gcmTag (nats key) (nats (kepIv (KepFrame.parse frame).dir (KepFrame.parse frame).kg (KepFrame.parse frame).ic)) (nats ((KepFrame.parse frame).raw.take 24)) (nats (((KepFrame.parse frame).raw.drop 24).take (KepFrame.parse frame).clen))) = (KepFrame.parse frame).raw.drop (24 + (KepFrame.parse frame).clen) ∧
      (KepFrame.parse frame).ic < 2 ^ 64 - 1 ∧
      ((KepFrame.parse frame).dir = 0 ∧ (KepFrame.parse frame).kt = 0) ∧
      (KepFrame.parse frame).mt = mtFwStatus ∧
      otherBodyOk (KepFrame.parse frame).mt (ofNats (gcmCrypt (nats key) (nats (kepIv (KepFrame.parse frame).dir (KepFrame.parse frame).kg (KepFrame.parse frame).ic)) (nats (((KepFrame.parse frame).raw.drop 24).take (KepFrame.parse frame).clen)))) = true ∧
      body = (ofNats (gcmCrypt (nats key) (nats (kepIv (KepFrame.parse frame).dir (KepFrame.parse frame).kg (KepFrame.parse frame).ic)) (nats (((KepFrame.parse frame).raw.drop 24).take (KepFrame.parse frame).clen)))) ∧
      ((List.range 4).find? fun n => s.flag (fFWCAMP_OPEN n) && s.fget (fFWCAMP_CAMPAIGN n) = be body 0 4 && s.fget (fFWCAMP_NBLK n) = be body 4 2) = some n ∧
      u = ((((s.setKep { s.kep with reports := p :: s.kep.reports }).aeCount eng false).secPut e.epi 8 8 (KepFrame.parse frame).ic).setKep { ((s.setKep { s.kep with reports := p :: s.kep.reports }).aeCount eng false).kep with apdus := (e.epi, body) :: s.kep.apdus })) ∧
    (∃ (p : RxPath) (frame : List Byte) (s : State) (e : EptEntry) (key : List Byte) (eng : Nat) (mseq : Nat) (rs : List Reading),
      s.clocked = true ∧
      (KepFrame.parse frame).shaped = true ∧
      s.lookup (KepFrame.parse frame).id p.chip.isSome = .localTo e ∧
      (KepFrame.parse frame).kg = s.kg e.epi ∧
      s.uplinkKey e.epi (s.pocket e.epi).wrap = (.done, key, eng, false) ∧
      (if (KepFrame.parse frame).mt = mtReadings then s.lastIc e.epi ≤ (KepFrame.parse frame).ic else max (s.lastIc e.epi) (s.volIc e.epi) < (KepFrame.parse frame).ic) ∧
      ofNats (gcmTag (nats key) (nats (kepIv (KepFrame.parse frame).dir (KepFrame.parse frame).kg (KepFrame.parse frame).ic)) (nats ((KepFrame.parse frame).raw.take 24)) (nats (((KepFrame.parse frame).raw.drop 24).take (KepFrame.parse frame).clen))) = (KepFrame.parse frame).raw.drop (24 + (KepFrame.parse frame).clen) ∧
      (KepFrame.parse frame).ic < 2 ^ 64 - 1 ∧
      ((KepFrame.parse frame).dir = 0 ∧ (KepFrame.parse frame).kt = 0) ∧
      (KepFrame.parse frame).mt = mtReadings ∧
      parseReadings (ofNats (gcmCrypt (nats key) (nats (kepIv (KepFrame.parse frame).dir (KepFrame.parse frame).kg (KepFrame.parse frame).ic)) (nats (((KepFrame.parse frame).raw.drop 24).take (KepFrame.parse frame).clen)))) = some (mseq, rs) ∧
      (KepFrame.parse frame).ic = s.lastIc e.epi) ∧
    (∃ (p : RxPath) (frame : List Byte) (s : State) (e : EptEntry) (key : List Byte) (eng : Nat) (mseq : Nat) (rs : List Reading),
      s.clocked = true ∧
      (KepFrame.parse frame).shaped = true ∧
      s.lookup (KepFrame.parse frame).id p.chip.isSome = .localTo e ∧
      (KepFrame.parse frame).kg = s.kg e.epi ∧
      s.uplinkKey e.epi (s.pocket e.epi).wrap = (.done, key, eng, false) ∧
      (if (KepFrame.parse frame).mt = mtReadings then s.lastIc e.epi ≤ (KepFrame.parse frame).ic else max (s.lastIc e.epi) (s.volIc e.epi) < (KepFrame.parse frame).ic) ∧
      ofNats (gcmTag (nats key) (nats (kepIv (KepFrame.parse frame).dir (KepFrame.parse frame).kg (KepFrame.parse frame).ic)) (nats ((KepFrame.parse frame).raw.take 24)) (nats (((KepFrame.parse frame).raw.drop 24).take (KepFrame.parse frame).clen))) = (KepFrame.parse frame).raw.drop (24 + (KepFrame.parse frame).clen) ∧
      (KepFrame.parse frame).ic < 2 ^ 64 - 1 ∧
      ((KepFrame.parse frame).dir = 0 ∧ (KepFrame.parse frame).kt = 0) ∧
      (KepFrame.parse frame).mt = mtReadings ∧
      parseReadings (ofNats (gcmCrypt (nats key) (nats (kepIv (KepFrame.parse frame).dir (KepFrame.parse frame).kg (KepFrame.parse frame).ic)) (nats (((KepFrame.parse frame).raw.drop 24).take (KepFrame.parse frame).clen)))) = some (mseq, rs) ∧
      s.lastIc e.epi < (KepFrame.parse frame).ic ∧
      (s.noCalendar = true ∨ s.ingestOpen = false)) ∧
    (∃ (p : RxPath) (frame : List Byte) (s : State) (e : EptEntry) (key : List Byte) (eng : Nat) (mseq : Nat) (rs : List Reading),
      s.clocked = true ∧
      (KepFrame.parse frame).shaped = true ∧
      s.lookup (KepFrame.parse frame).id p.chip.isSome = .localTo e ∧
      (KepFrame.parse frame).kg = s.kg e.epi ∧
      s.uplinkKey e.epi (s.pocket e.epi).wrap = (.done, key, eng, false) ∧
      (if (KepFrame.parse frame).mt = mtReadings then s.lastIc e.epi ≤ (KepFrame.parse frame).ic else max (s.lastIc e.epi) (s.volIc e.epi) < (KepFrame.parse frame).ic) ∧
      ofNats (gcmTag (nats key) (nats (kepIv (KepFrame.parse frame).dir (KepFrame.parse frame).kg (KepFrame.parse frame).ic)) (nats ((KepFrame.parse frame).raw.take 24)) (nats (((KepFrame.parse frame).raw.drop 24).take (KepFrame.parse frame).clen))) = (KepFrame.parse frame).raw.drop (24 + (KepFrame.parse frame).clen) ∧
      (KepFrame.parse frame).ic < 2 ^ 64 - 1 ∧
      ((KepFrame.parse frame).dir = 0 ∧ (KepFrame.parse frame).kt = 0) ∧
      (KepFrame.parse frame).mt = mtReadings ∧
      parseReadings (ofNats (gcmCrypt (nats key) (nats (kepIv (KepFrame.parse frame).dir (KepFrame.parse frame).kg (KepFrame.parse frame).ic)) (nats (((KepFrame.parse frame).raw.drop 24).take (KepFrame.parse frame).clen)))) = some (mseq, rs) ∧
      s.lastIc e.epi < (KepFrame.parse frame).ic ∧
      s.noCalendar = false ∧
      s.ingestOpen = true ∧
      s.epiCut e.epi = true) ∧
    (∃ (p : RxPath) (frame : List Byte) (s : State) (e : EptEntry) (key : List Byte) (eng : Nat) (mseq : Nat) (rs : List Reading),
      s.clocked = true ∧
      (KepFrame.parse frame).shaped = true ∧
      s.lookup (KepFrame.parse frame).id p.chip.isSome = .localTo e ∧
      (KepFrame.parse frame).kg = s.kg e.epi ∧
      s.uplinkKey e.epi (s.pocket e.epi).wrap = (.done, key, eng, false) ∧
      (if (KepFrame.parse frame).mt = mtReadings then s.lastIc e.epi ≤ (KepFrame.parse frame).ic else max (s.lastIc e.epi) (s.volIc e.epi) < (KepFrame.parse frame).ic) ∧
      ofNats (gcmTag (nats key) (nats (kepIv (KepFrame.parse frame).dir (KepFrame.parse frame).kg (KepFrame.parse frame).ic)) (nats ((KepFrame.parse frame).raw.take 24)) (nats (((KepFrame.parse frame).raw.drop 24).take (KepFrame.parse frame).clen))) = (KepFrame.parse frame).raw.drop (24 + (KepFrame.parse frame).clen) ∧
      (KepFrame.parse frame).ic < 2 ^ 64 - 1 ∧
      ((KepFrame.parse frame).dir = 0 ∧ (KepFrame.parse frame).kt = 0) ∧
      (KepFrame.parse frame).mt = mtReadings ∧
      parseReadings (ofNats (gcmCrypt (nats key) (nats (kepIv (KepFrame.parse frame).dir (KepFrame.parse frame).kg (KepFrame.parse frame).ic)) (nats (((KepFrame.parse frame).raw.drop 24).take (KepFrame.parse frame).clen)))) = some (mseq, rs) ∧
      s.lastIc e.epi < (KepFrame.parse frame).ic ∧
      s.noCalendar = false ∧
      s.ingestOpen = true ∧
      s.epiCut e.epi = false ∧
      s.epiHeld e.epi = true) ∧
    (∃ (p : RxPath) (frame : List Byte) (s : State) (e : EptEntry) (key : List Byte) (eng : Nat) (mseq : Nat) (rs : List Reading) (items : List Reading),
      s.clocked = true ∧
      (KepFrame.parse frame).shaped = true ∧
      s.lookup (KepFrame.parse frame).id p.chip.isSome = .localTo e ∧
      (KepFrame.parse frame).kg = s.kg e.epi ∧
      s.uplinkKey e.epi (s.pocket e.epi).wrap = (.done, key, eng, false) ∧
      (if (KepFrame.parse frame).mt = mtReadings then s.lastIc e.epi ≤ (KepFrame.parse frame).ic else max (s.lastIc e.epi) (s.volIc e.epi) < (KepFrame.parse frame).ic) ∧
      ofNats (gcmTag (nats key) (nats (kepIv (KepFrame.parse frame).dir (KepFrame.parse frame).kg (KepFrame.parse frame).ic)) (nats ((KepFrame.parse frame).raw.take 24)) (nats (((KepFrame.parse frame).raw.drop 24).take (KepFrame.parse frame).clen))) = (KepFrame.parse frame).raw.drop (24 + (KepFrame.parse frame).clen) ∧
      (KepFrame.parse frame).ic < 2 ^ 64 - 1 ∧
      ((KepFrame.parse frame).dir = 0 ∧ (KepFrame.parse frame).kt = 0) ∧
      (KepFrame.parse frame).mt = mtReadings ∧
      parseReadings (ofNats (gcmCrypt (nats key) (nats (kepIv (KepFrame.parse frame).dir (KepFrame.parse frame).kg (KepFrame.parse frame).ic)) (nats (((KepFrame.parse frame).raw.drop 24).take (KepFrame.parse frame).clen)))) = some (mseq, rs) ∧
      s.lastIc e.epi < (KepFrame.parse frame).ic ∧
      s.noCalendar = false ∧
      s.ingestOpen = true ∧
      s.epiCut e.epi = false ∧
      s.epiHeld e.epi = false ∧
      items = (rs.filter fun r => (s.classify r.time).posts) ∧
      (items.filter fun r => (s.readProg e.epi r).isNone) ≠ []) ∧
    (∃ (p : RxPath) (frame : List Byte) (s : State) (e : EptEntry) (key : List Byte) (eng : Nat) (mseq : Nat) (rs : List Reading) (items : List Reading),
      s.clocked = true ∧
      (KepFrame.parse frame).shaped = true ∧
      s.lookup (KepFrame.parse frame).id p.chip.isSome = .localTo e ∧
      (KepFrame.parse frame).kg = s.kg e.epi ∧
      s.uplinkKey e.epi (s.pocket e.epi).wrap = (.done, key, eng, false) ∧
      (if (KepFrame.parse frame).mt = mtReadings then s.lastIc e.epi ≤ (KepFrame.parse frame).ic else max (s.lastIc e.epi) (s.volIc e.epi) < (KepFrame.parse frame).ic) ∧
      ofNats (gcmTag (nats key) (nats (kepIv (KepFrame.parse frame).dir (KepFrame.parse frame).kg (KepFrame.parse frame).ic)) (nats ((KepFrame.parse frame).raw.take 24)) (nats (((KepFrame.parse frame).raw.drop 24).take (KepFrame.parse frame).clen))) = (KepFrame.parse frame).raw.drop (24 + (KepFrame.parse frame).clen) ∧
      (KepFrame.parse frame).ic < 2 ^ 64 - 1 ∧
      ((KepFrame.parse frame).dir = 0 ∧ (KepFrame.parse frame).kt = 0) ∧
      (KepFrame.parse frame).mt = mtReadings ∧
      parseReadings (ofNats (gcmCrypt (nats key) (nats (kepIv (KepFrame.parse frame).dir (KepFrame.parse frame).kg (KepFrame.parse frame).ic)) (nats (((KepFrame.parse frame).raw.drop 24).take (KepFrame.parse frame).clen)))) = some (mseq, rs) ∧
      s.lastIc e.epi < (KepFrame.parse frame).ic ∧
      s.noCalendar = false ∧
      s.ingestOpen = true ∧
      s.epiCut e.epi = false ∧
      s.epiHeld e.epi = false ∧
      items = (rs.filter fun r => (s.classify r.time).posts) ∧
      (items.filter fun r => (s.readProg e.epi r).isNone) = [] ∧
      s.reserveAdmits e.epi (items.length - (rs.filter fun r => s.classify r.time = .late).length) (rs.filter fun r => s.classify r.time = .late).length = false) :=
  ⟨⟨{}, tUpFw, tKep, ⟨77, 5, 0, 1, 0, 0, 1, 0, List.replicate 8 0⟩, List.replicate 32 2, 0, ((ofNats (gcmCrypt (nats (List.replicate 32 2 : List Byte)) (nats (kepIv (KepFrame.parse (tUpFw : List Byte)).dir (KepFrame.parse (tUpFw : List Byte)).kg (KepFrame.parse (tUpFw : List Byte)).ic)) (nats (((KepFrame.parse (tUpFw : List Byte)).raw.drop 24).take (KepFrame.parse (tUpFw : List Byte)).clen))))), by decide +kernel⟩,
   ⟨{}, tUpFw, tCamp, ⟨77, 5, 0, 1, 0, 0, 1, 0, List.replicate 8 0⟩, List.replicate 32 2, 0, ((ofNats (gcmCrypt (nats (List.replicate 32 2 : List Byte)) (nats (kepIv (KepFrame.parse (tUpFw : List Byte)).dir (KepFrame.parse (tUpFw : List Byte)).kg (KepFrame.parse (tUpFw : List Byte)).ic)) (nats (((KepFrame.parse (tUpFw : List Byte)).raw.drop 24).take (KepFrame.parse (tUpFw : List Byte)).clen))))), 0, ((((((tCamp : State).setKep { (tCamp : State).kep with reports := ({} : RxPath) :: (tCamp : State).kep.reports }).aeCount (0 : Nat) false).secPut (⟨77, 5, 0, 1, 0, 0, 1, 0, List.replicate 8 0⟩ : EptEntry).epi 8 8 (KepFrame.parse (tUpFw : List Byte)).ic).setKep { (((tCamp : State).setKep { (tCamp : State).kep with reports := ({} : RxPath) :: (tCamp : State).kep.reports }).aeCount (0 : Nat) false).kep with apdus := ((⟨77, 5, 0, 1, 0, 0, 1, 0, List.replicate 8 0⟩ : EptEntry).epi, (((ofNats (gcmCrypt (nats (List.replicate 32 2 : List Byte)) (nats (kepIv (KepFrame.parse (tUpFw : List Byte)).dir (KepFrame.parse (tUpFw : List Byte)).kg (KepFrame.parse (tUpFw : List Byte)).ic)) (nats (((KepFrame.parse (tUpFw : List Byte)).raw.drop 24).take (KepFrame.parse (tUpFw : List Byte)).clen))))) : List Byte)) :: (tCamp : State).kep.apdus })), by decide +kernel⟩,
   ⟨{}, tUp, tKep.secPut 5 0 8 9, ⟨77, 5, 0, 1, 0, 0, 1, 0, List.replicate 8 0⟩, List.replicate 32 2, 0, 0, [⟨1000, 1, 0, 42, 0⟩], by decide +kernel⟩,
   ⟨{}, tUp, tKep.setReg rLDGFIRSTK noK, ⟨77, 5, 0, 1, 0, 0, 1, 0, List.replicate 8 0⟩, List.replicate 32 2, 0, 0, [⟨1000, 1, 0, 42, 0⟩], by decide +kernel⟩,
   ⟨{}, tUp, tKepCut, ⟨77, 5, 0, 1, 0, 0, 1, 0, List.replicate 8 0⟩, List.replicate 32 2, 0, 0, [⟨1000, 1, 0, 42, 0⟩], by decide +kernel⟩,
   ⟨{}, tUp, tKepHeld, ⟨77, 5, 0, 1, 0, 0, 1, 0, List.replicate 8 0⟩, List.replicate 32 2, 0, 0, [⟨1000, 1, 0, 42, 0⟩], by decide +kernel⟩,
   ⟨{}, tUp, tKep.setReg (rLDGPRG 0) 0, ⟨77, 5, 0, 1, 0, 0, 1, 0, List.replicate 8 0⟩, List.replicate 32 2, 0, 0, [⟨1000, 1, 0, 42, 0⟩], ((([⟨1000, 1, 0, 42, 0⟩] : List Reading).filter fun r => ((tKep.setReg (rLDGPRG 0) 0 : State).classify r.time).posts)), by decide +kernel⟩,
   ⟨{}, tUp, tKepFull, ⟨77, 5, 0, 1, 0, 0, 1, 0, List.replicate 8 0⟩, List.replicate 32 2, 0, 0, [⟨1000, 1, 0, 42, 0⟩], ((([⟨1000, 1, 0, 42, 0⟩] : List Reading).filter fun r => ((tKepFull : State).classify r.time).posts)), by decide +kernel⟩⟩

/-- The hypotheses of UplinkFramesAndReadings can be met: part 4. -/
theorem test_meets_uplink_frames_and_readings_4 :
    (∃ (p : RxPath) (frame : List Byte) (s : State) (e : EptEntry) (key : List Byte) (eng : Nat) (mseq : Nat) (rs : List Reading) (items : List Reading),
      s.clocked = true ∧
      (KepFrame.parse frame).shaped = true ∧
      s.lookup (KepFrame.parse frame).id p.chip.isSome = .localTo e ∧
      (KepFrame.parse frame).kg = s.kg e.epi ∧
      s.uplinkKey e.epi (s.pocket e.epi).wrap = (.done, key, eng, false) ∧
      (if (KepFrame.parse frame).mt = mtReadings then s.lastIc e.epi ≤ (KepFrame.parse frame).ic else max (s.lastIc e.epi) (s.volIc e.epi) < (KepFrame.parse frame).ic) ∧
      ofNats (gcmTag (nats key) (nats (kepIv (KepFrame.parse frame).dir (KepFrame.parse frame).kg (KepFrame.parse frame).ic)) (nats ((KepFrame.parse frame).raw.take 24)) (nats (((KepFrame.parse frame).raw.drop 24).take (KepFrame.parse frame).clen))) = (KepFrame.parse frame).raw.drop (24 + (KepFrame.parse frame).clen) ∧
      (KepFrame.parse frame).ic < 2 ^ 64 - 1 ∧
      ((KepFrame.parse frame).dir = 0 ∧ (KepFrame.parse frame).kt = 0) ∧
      (KepFrame.parse frame).mt = mtReadings ∧
      parseReadings (ofNats (gcmCrypt (nats key) (nats (kepIv (KepFrame.parse frame).dir (KepFrame.parse frame).kg (KepFrame.parse frame).ic)) (nats (((KepFrame.parse frame).raw.drop 24).take (KepFrame.parse frame).clen)))) = some (mseq, rs) ∧
      s.lastIc e.epi < (KepFrame.parse frame).ic ∧
      s.noCalendar = false ∧
      s.ingestOpen = true ∧
      s.epiCut e.epi = false ∧
      s.epiHeld e.epi = false ∧
      items = (rs.filter fun r => (s.classify r.time).posts) ∧
      (items.filter fun r => (s.readProg e.epi r).isNone) = [] ∧
      s.reserveAdmits e.epi (items.length - (rs.filter fun r => s.classify r.time = .late).length) (rs.filter fun r => s.classify r.time = .late).length = true ∧
      s.ldg.inq ≠ []) ∧
    (∃ (p : RxPath) (frame : List Byte) (s : State) (e : EptEntry) (key : List Byte) (eng : Nat) (mseq : Nat) (rs : List Reading) (isn : Nat) (u : State),
      s.clocked = true ∧
      (KepFrame.parse frame).shaped = true ∧
      s.lookup (KepFrame.parse frame).id p.chip.isSome = .localTo e ∧
      (KepFrame.parse frame).kg = s.kg e.epi ∧
      s.uplinkKey e.epi (s.pocket e.epi).wrap = (.done, key, eng, false) ∧
      (if (KepFrame.parse frame).mt = mtReadings then s.lastIc e.epi ≤ (KepFrame.parse frame).ic else max (s.lastIc e.epi) (s.volIc e.epi) < (KepFrame.parse frame).ic) ∧
      ofNats (gcmTag (nats key) (nats (kepIv (KepFrame.parse frame).dir (KepFrame.parse frame).kg (KepFrame.parse frame).ic)) (nats ((KepFrame.parse frame).raw.take 24)) (nats (((KepFrame.parse frame).raw.drop 24).take (KepFrame.parse frame).clen))) = (KepFrame.parse frame).raw.drop (24 + (KepFrame.parse frame).clen) ∧
      (KepFrame.parse frame).ic < 2 ^ 64 - 1 ∧
      ((KepFrame.parse frame).dir = 0 ∧ (KepFrame.parse frame).kt = 0) ∧
      (KepFrame.parse frame).mt = mtReadings ∧
      parseReadings (ofNats (gcmCrypt (nats key) (nats (kepIv (KepFrame.parse frame).dir (KepFrame.parse frame).kg (KepFrame.parse frame).ic)) (nats (((KepFrame.parse frame).raw.drop 24).take (KepFrame.parse frame).clen)))) = some (mseq, rs) ∧
      s.lastIc e.epi < (KepFrame.parse frame).ic ∧
      ((s.setKep { s.kep with reports := p :: s.kep.reports }).aeCount eng false).ingest e.epi (KepFrame.parse frame).ic mseq rs = .ok u isn) ∧
    (∃ (epi : Nat) (aic : Nat) (result : Nat) (retry : Nat) (nacc : Nat) (dup : Bool) (p : RxPath) (isn : Option Nat) (s : State) (t : State),
      t = s.answerAck epi aic result retry nacc dup p isn) ∧
    (∃ (p : RxPath) (frame : List Byte) (s : State) (e : EptEntry) (key : List Byte) (eng : Nat) (g : JEnt) (u : State),
      s.clocked = true ∧
      (KepFrame.parse frame).shaped = true ∧
      s.lookup (KepFrame.parse frame).id p.chip.isSome = .localTo e ∧
      (KepFrame.parse frame).kg ≠ s.kg e.epi ∧
      bit (s.sflags e.epi) sfPending = true ∧
      (KepFrame.parse frame).kg = s.pkg e.epi ∧
      s.uplinkKey e.epi (s.bytes (s.secAddr e.epi + 40) 40) = (.done, key, eng, false) ∧
      (if (KepFrame.parse frame).mt = mtReadings then s.lastIc e.epi ≤ (KepFrame.parse frame).ic else max (s.lastIc e.epi) (s.volIc e.epi) < (KepFrame.parse frame).ic) ∧
      ofNats (gcmTag (nats key) (nats (kepIv (KepFrame.parse frame).dir (KepFrame.parse frame).kg (KepFrame.parse frame).ic)) (nats ((KepFrame.parse frame).raw.take 24)) (nats (((KepFrame.parse frame).raw.drop 24).take (KepFrame.parse frame).clen))) = (KepFrame.parse frame).raw.drop (24 + (KepFrame.parse frame).clen) ∧
      (KepFrame.parse frame).ic < 2 ^ 64 - 1 ∧
      ((KepFrame.parse frame).dir = 0 ∧ (KepFrame.parse frame).kt = 0) ∧
      (KepFrame.parse frame).mt = mtCmdResp ∧
      otherBodyOk (KepFrame.parse frame).mt (ofNats (gcmCrypt (nats key) (nats (kepIv (KepFrame.parse frame).dir (KepFrame.parse frame).kg (KepFrame.parse frame).ic)) (nats (((KepFrame.parse frame).raw.drop 24).take (KepFrame.parse frame).clen)))) = true ∧
      s.ingestOpen = true ∧
      s.ldg.inq = [] ∧
      g = { kind := jkKeygen, n := 1, epi := e.epi, body := keygenBody (s.pkg e.epi) (KepFrame.parse frame).ic (resvEntry 1 (s.pkg e.epi)) (s.bytes (s.secAddr e.epi + 40) 40) } ∧
      ((s.setKep { s.kep with reports := p :: s.kep.reports }).aeCount eng false).ringTakes g = true ∧
      u = ((((s.setKep { s.kep with reports := p :: s.kep.reports }).aeCount eng false).journaled g).keygenApply e.epi g.body true)) ∧
    (∃ (p : RxPath) (frame : List Byte) (s : State) (e : EptEntry) (key : List Byte) (eng : Nat) (mseq : Nat) (rs : List Reading) (g : JEnt) (u : State),
      s.clocked = true ∧
      (KepFrame.parse frame).shaped = true ∧
      s.lookup (KepFrame.parse frame).id p.chip.isSome = .localTo e ∧
      (KepFrame.parse frame).kg ≠ s.kg e.epi ∧
      bit (s.sflags e.epi) sfPending = true ∧
      (KepFrame.parse frame).kg = s.pkg e.epi ∧
      s.uplinkKey e.epi (s.bytes (s.secAddr e.epi + 40) 40) = (.done, key, eng, false) ∧
      (if (KepFrame.parse frame).mt = mtReadings then s.lastIc e.epi ≤ (KepFrame.parse frame).ic else max (s.lastIc e.epi) (s.volIc e.epi) < (KepFrame.parse frame).ic) ∧
      ofNats (gcmTag (nats key) (nats (kepIv (KepFrame.parse frame).dir (KepFrame.parse frame).kg (KepFrame.parse frame).ic)) (nats ((KepFrame.parse frame).raw.take 24)) (nats (((KepFrame.parse frame).raw.drop 24).take (KepFrame.parse frame).clen))) = (KepFrame.parse frame).raw.drop (24 + (KepFrame.parse frame).clen) ∧
      (KepFrame.parse frame).ic < 2 ^ 64 - 1 ∧
      ((KepFrame.parse frame).dir = 0 ∧ (KepFrame.parse frame).kt = 0) ∧
      (KepFrame.parse frame).mt = mtReadings ∧
      parseReadings (ofNats (gcmCrypt (nats key) (nats (kepIv (KepFrame.parse frame).dir (KepFrame.parse frame).kg (KepFrame.parse frame).ic)) (nats (((KepFrame.parse frame).raw.drop 24).take (KepFrame.parse frame).clen)))) = some (mseq, rs) ∧
      s.ingestOpen = true ∧
      s.ldg.inq = [] ∧
      g = { kind := jkKeygen, n := 1, epi := e.epi, body := keygenBody (s.pkg e.epi) (KepFrame.parse frame).ic (resvEntry 1 (s.pkg e.epi)) (s.bytes (s.secAddr e.epi + 40) 40) } ∧
      ((s.setKep { s.kep with reports := p :: s.kep.reports }).aeCount eng false).ringTakes g = true ∧
      u = ((((s.setKep { s.kep with reports := p :: s.kep.reports }).aeCount eng false).journaled g).keygenApply e.epi g.body true)) ∧
    (∃ (p : RxPath) (frame : List Byte) (s : State) (e : EptEntry) (key : List Byte) (eng : Nat),
      s.clocked = true ∧
      (KepFrame.parse frame).shaped = true ∧
      s.lookup (KepFrame.parse frame).id p.chip.isSome = .localTo e ∧
      (KepFrame.parse frame).kg ≠ s.kg e.epi ∧
      bit (s.sflags e.epi) sfPending = true ∧
      (KepFrame.parse frame).kg = s.pkg e.epi ∧
      s.uplinkKey e.epi (s.bytes (s.secAddr e.epi + 40) 40) = (.done, key, eng, false) ∧
      (if (KepFrame.parse frame).mt = mtReadings then s.lastIc e.epi ≤ (KepFrame.parse frame).ic else max (s.lastIc e.epi) (s.volIc e.epi) < (KepFrame.parse frame).ic) ∧
      ofNats (gcmTag (nats key) (nats (kepIv (KepFrame.parse frame).dir (KepFrame.parse frame).kg (KepFrame.parse frame).ic)) (nats ((KepFrame.parse frame).raw.take 24)) (nats (((KepFrame.parse frame).raw.drop 24).take (KepFrame.parse frame).clen))) = (KepFrame.parse frame).raw.drop (24 + (KepFrame.parse frame).clen) ∧
      s.ingestOpen = false) ∧
    (∃ (epi : Nat) (ic : Nat) (nkg : Nat) (ent : Nat) (wrap : List Byte) (s : State) (t : State),
      wrap.length = 40 ∧
      nkg < 256 ∧
      ic < 2 ^ 64 ∧
      ent < 2 ^ 64 ∧
      epi < 2 ^ 18 ∧
      (s.secAddr epi + 128 ≤ s.pktAddr epi ∨ s.pktAddr epi + 64 ≤ s.secAddr epi) ∧
      (resvAddr epi + 8 ≤ s.secAddr epi ∨ s.secAddr epi + 128 ≤ resvAddr epi) ∧
      t = s.keygenApply epi (keygenBody nkg ic ent wrap) true ∧
      (s.pktAddr epi + 64 ≤ resvAddr epi ∨ resvAddr epi + 8 ≤ s.pktAddr epi)) ∧
    (∃ (epi : Nat) (ic : Nat) (mseq : Nat) (pr : Nat) (r : Reading) (s : State) (e : JEnt),
      s.noCalendar = false ∧
      s.ingestOpen = true ∧
      s.ldg.inq = [] ∧
      s.epiCut epi = false ∧
      s.epiHeld epi = false ∧
      s.classify r.time = .inTime ∧
      s.readProg epi r = some pr ∧
      s.reserveAdmits epi 1 0 = true ∧
      e = { kind := jkReadings, n := 1, epi := epi, body := leBytes 8 r.time ++ leBytes 4 mseq ++ leBytes 2 (s.fget (fLDGPRG_HANDLE pr)) ++ leBytes 2 0 ++ leBytes 8 ic ++ leBytes 8 0 ++ (leBytes 2 r.code ++ leBytes 2 r.flags ++ leBytes 4 0 ++ leBytes 8 (cut 64 r.value)) } ∧
      s.ringTakes e = true) :=
  ⟨⟨{}, tUp, tKep.setLdg { tKep.ldg with inq := [[]] }, ⟨77, 5, 0, 1, 0, 0, 1, 0, List.replicate 8 0⟩, List.replicate 32 2, 0, 0, [⟨1000, 1, 0, 42, 0⟩], ((([⟨1000, 1, 0, 42, 0⟩] : List Reading).filter fun r => ((tKep.setLdg { tKep.ldg with inq := [[]] } : State).classify r.time).posts)), by decide +kernel⟩,
   ⟨{}, tUp, tKep, ⟨77, 5, 0, 1, 0, 0, 1, 0, List.replicate 8 0⟩, List.replicate 32 2, 0, 0, [⟨1000, 1, 0, 42, 0⟩], 1, test_ingest_frame.choose, by decide +kernel, by decide +kernel, by decide +kernel, by decide +kernel, by decide +kernel, by decide +kernel, by decide +kernel, by decide +kernel, by decide +kernel, by decide +kernel, by decide +kernel, by decide +kernel, test_ingest_frame.choose_spec⟩,
   ⟨5, 9, 0, 0, 1, false, {}, some 1, tKep, ((tKep : State).answerAck (5 : Nat) (9 : Nat) (0 : Nat) (0 : Nat) (1 : Nat) (false : Bool) ({} : RxPath) (some 1 : Option Nat)), by decide +kernel⟩,
   ⟨{}, tUpPkg, tPkg, ⟨77, 5, 0, 1, 0, 0, 1, 0, List.replicate 8 0⟩, List.replicate 32 2, 0, ({ kind := jkKeygen, n := 1, epi := (⟨77, 5, 0, 1, 0, 0, 1, 0, List.replicate 8 0⟩ : EptEntry).epi, body := keygenBody ((tPkg : State).pkg (⟨77, 5, 0, 1, 0, 0, 1, 0, List.replicate 8 0⟩ : EptEntry).epi) (KepFrame.parse (tUpPkg : List Byte)).ic (resvEntry 1 ((tPkg : State).pkg (⟨77, 5, 0, 1, 0, 0, 1, 0, List.replicate 8 0⟩ : EptEntry).epi)) ((tPkg : State).bytes ((tPkg : State).secAddr (⟨77, 5, 0, 1, 0, 0, 1, 0, List.replicate 8 0⟩ : EptEntry).epi + 40) 40) }), ((((((tPkg : State).setKep { (tPkg : State).kep with reports := ({} : RxPath) :: (tPkg : State).kep.reports }).aeCount (0 : Nat) false).journaled (({ kind := jkKeygen, n := 1, epi := (⟨77, 5, 0, 1, 0, 0, 1, 0, List.replicate 8 0⟩ : EptEntry).epi, body := keygenBody ((tPkg : State).pkg (⟨77, 5, 0, 1, 0, 0, 1, 0, List.replicate 8 0⟩ : EptEntry).epi) (KepFrame.parse (tUpPkg : List Byte)).ic (resvEntry 1 ((tPkg : State).pkg (⟨77, 5, 0, 1, 0, 0, 1, 0, List.replicate 8 0⟩ : EptEntry).epi)) ((tPkg : State).bytes ((tPkg : State).secAddr (⟨77, 5, 0, 1, 0, 0, 1, 0, List.replicate 8 0⟩ : EptEntry).epi + 40) 40) }) : JEnt)).keygenApply (⟨77, 5, 0, 1, 0, 0, 1, 0, List.replicate 8 0⟩ : EptEntry).epi (({ kind := jkKeygen, n := 1, epi := (⟨77, 5, 0, 1, 0, 0, 1, 0, List.replicate 8 0⟩ : EptEntry).epi, body := keygenBody ((tPkg : State).pkg (⟨77, 5, 0, 1, 0, 0, 1, 0, List.replicate 8 0⟩ : EptEntry).epi) (KepFrame.parse (tUpPkg : List Byte)).ic (resvEntry 1 ((tPkg : State).pkg (⟨77, 5, 0, 1, 0, 0, 1, 0, List.replicate 8 0⟩ : EptEntry).epi)) ((tPkg : State).bytes ((tPkg : State).secAddr (⟨77, 5, 0, 1, 0, 0, 1, 0, List.replicate 8 0⟩ : EptEntry).epi + 40) 40) }) : JEnt).body true)), by decide +kernel⟩,
   ⟨{}, tUpPkgRd, tPkg, ⟨77, 5, 0, 1, 0, 0, 1, 0, List.replicate 8 0⟩, List.replicate 32 2, 0, 0, [⟨1000, 1, 0, 42, 0⟩], ({ kind := jkKeygen, n := 1, epi := (⟨77, 5, 0, 1, 0, 0, 1, 0, List.replicate 8 0⟩ : EptEntry).epi, body := keygenBody ((tPkg : State).pkg (⟨77, 5, 0, 1, 0, 0, 1, 0, List.replicate 8 0⟩ : EptEntry).epi) (KepFrame.parse (tUpPkgRd : List Byte)).ic (resvEntry 1 ((tPkg : State).pkg (⟨77, 5, 0, 1, 0, 0, 1, 0, List.replicate 8 0⟩ : EptEntry).epi)) ((tPkg : State).bytes ((tPkg : State).secAddr (⟨77, 5, 0, 1, 0, 0, 1, 0, List.replicate 8 0⟩ : EptEntry).epi + 40) 40) }), ((((((tPkg : State).setKep { (tPkg : State).kep with reports := ({} : RxPath) :: (tPkg : State).kep.reports }).aeCount (0 : Nat) false).journaled (({ kind := jkKeygen, n := 1, epi := (⟨77, 5, 0, 1, 0, 0, 1, 0, List.replicate 8 0⟩ : EptEntry).epi, body := keygenBody ((tPkg : State).pkg (⟨77, 5, 0, 1, 0, 0, 1, 0, List.replicate 8 0⟩ : EptEntry).epi) (KepFrame.parse (tUpPkgRd : List Byte)).ic (resvEntry 1 ((tPkg : State).pkg (⟨77, 5, 0, 1, 0, 0, 1, 0, List.replicate 8 0⟩ : EptEntry).epi)) ((tPkg : State).bytes ((tPkg : State).secAddr (⟨77, 5, 0, 1, 0, 0, 1, 0, List.replicate 8 0⟩ : EptEntry).epi + 40) 40) }) : JEnt)).keygenApply (⟨77, 5, 0, 1, 0, 0, 1, 0, List.replicate 8 0⟩ : EptEntry).epi (({ kind := jkKeygen, n := 1, epi := (⟨77, 5, 0, 1, 0, 0, 1, 0, List.replicate 8 0⟩ : EptEntry).epi, body := keygenBody ((tPkg : State).pkg (⟨77, 5, 0, 1, 0, 0, 1, 0, List.replicate 8 0⟩ : EptEntry).epi) (KepFrame.parse (tUpPkgRd : List Byte)).ic (resvEntry 1 ((tPkg : State).pkg (⟨77, 5, 0, 1, 0, 0, 1, 0, List.replicate 8 0⟩ : EptEntry).epi)) ((tPkg : State).bytes ((tPkg : State).secAddr (⟨77, 5, 0, 1, 0, 0, 1, 0, List.replicate 8 0⟩ : EptEntry).epi + 40) 40) }) : JEnt).body true)), by decide +kernel⟩,
   ⟨{}, tUpPkg, tPkg.setTwn { tPkg.twn with drain := true }, ⟨77, 5, 0, 1, 0, 0, 1, 0, List.replicate 8 0⟩, List.replicate 32 2, 0, by decide +kernel⟩,
   ⟨5, 9, 1, resvEntry 1 1, List.replicate 32 2 ++ List.replicate 8 1, tPkg, ((tPkg : State).keygenApply (5 : Nat) (keygenBody (1 : Nat) (9 : Nat) (resvEntry 1 1 : Nat) (List.replicate 32 2 ++ List.replicate 8 1 : List Byte)) true), by decide +kernel⟩,
   ⟨5, 9, 0, 0, ⟨1000, 1, 0, 42, 0⟩, tKep, ({ kind := jkReadings, n := 1, epi := (5 : Nat), body := leBytes 8 (⟨1000, 1, 0, 42, 0⟩ : Reading).time ++ leBytes 4 (0 : Nat) ++ leBytes 2 ((tKep : State).fget (fLDGPRG_HANDLE (0 : Nat))) ++ leBytes 2 0 ++ leBytes 8 (9 : Nat) ++ leBytes 8 0 ++ (leBytes 2 (⟨1000, 1, 0, 42, 0⟩ : Reading).code ++ leBytes 2 (⟨1000, 1, 0, 42, 0⟩ : Reading).flags ++ leBytes 4 0 ++ leBytes 8 (cut 64 (⟨1000, 1, 0, 42, 0⟩ : Reading).value)) }), by decide +kernel⟩⟩

/-- The hypotheses of UplinkFramesAndReadings can be met: part 5. -/
theorem test_meets_uplink_frames_and_readings_5 :
    (∃ (epi : Nat) (ic : Nat) (mseq : Nat) (prog : Nat) (rs : List Reading) (rc : List (Reading × RdClass)) (items : List Reading) (s : State) (e : JEnt),
      s.noCalendar = false ∧
      s.ingestOpen = true ∧
      s.ldg.inq = [] ∧
      s.epiCut epi = false ∧
      s.epiHeld epi = false ∧
      rs ≠ [] ∧
      items = (rs.filter fun r => (s.classify r.time).posts) ∧
      (items.filter fun r => (s.readProg epi r).isNone) = [] ∧
      s.reserveAdmits epi (items.length - (rs.filter fun r => s.classify r.time = .late).length) (rs.filter fun r => s.classify r.time = .late).length = true ∧
      (rs.all fun r => rs.all fun q => decide (q.time < r.time + 2 ^ 32)) = true ∧
      rc = (rs.map fun r => (r, s.classify r.time)) ∧
      prog = (match items with | [] => 0 | r :: _ => ((s.readProg epi r).map fun n => s.fget (fLDGPRG_HANDLE n)).getD 0) ∧
      e = (readingsEntry epi ic mseq prog rc) ∧
      s.ringTakes e = true) ∧
    (∃ (s : State),
      s.clocked = true ∧
      s.flag fDLMCFG_EN = false) ∧
    (∃ (apdu : List Byte) (s : State),
      s.clocked = true ∧
      s.flag fDLMCFG_EN = true ∧
      (dlmsWrapped apdu).bind dlmsParts = none) ∧
    (∃ (apdu : List Byte) (s : State) (title : List Byte) (ct : List Byte) (tag : List Byte) (sc : Nat) (ic : Nat),
      s.clocked = true ∧
      s.flag fDLMCFG_EN = true ∧
      (dlmsWrapped apdu).bind dlmsParts = some (title, sc, ic, ct, tag) ∧
      sc ≠ 0x30 ∧
      sc ≠ 0x10) ∧
    (∃ (epi : Nat) (apdu : List Byte) (s : State) (title : List Byte) (ct : List Byte) (tag : List Byte) (sc : Nat) (ic : Nat),
      s.clocked = true ∧
      s.flag fDLMCFG_EN = true ∧
      (dlmsWrapped apdu).bind dlmsParts = some (title, sc, ic, ct, tag) ∧
      (sc = 0x30 ∨ sc = 0x10) ∧
      s.epiEntry epi = none) ∧
    (∃ (epi : Nat) (apdu : List Byte) (s : State) (title : List Byte) (ct : List Byte) (tag : List Byte) (sc : Nat) (ic : Nat) (e : EptEntry),
      s.clocked = true ∧
      s.flag fDLMCFG_EN = true ∧
      (dlmsWrapped apdu).bind dlmsParts = some (title, sc, ic, ct, tag) ∧
      (sc = 0x30 ∨ sc = 0x10) ∧
      s.epiEntry epi = some e ∧
      (e.systitle ≠ title ∨ e.proto ≠ 1)) ∧
    (∃ (epi : Nat) (apdu : List Byte) (s : State) (title : List Byte) (ct : List Byte) (tag : List Byte) (key : List Byte) (sc : Nat) (ic : Nat) (eng : Nat) (e : EptEntry) (status : Status) (f : Bool),
      s.clocked = true ∧
      s.flag fDLMCFG_EN = true ∧
      (dlmsWrapped apdu).bind dlmsParts = some (title, sc, ic, ct, tag) ∧
      (sc = 0x30 ∨ sc = 0x10) ∧
      s.epiEntry epi = some e ∧
      e.systitle = title ∧
      e.proto = 1 ∧
      s.uplinkKey epi (s.pocket epi).wrap = (status, key, eng, f) ∧
      status ≠ .done) ∧
    (∃ (epi : Nat) (apdu : List Byte) (caps : List DlmsCapture) (s : State) (title : List Byte) (ct : List Byte) (tag : List Byte) (key : List Byte) (sc : Nat) (ic : Nat) (eng : Nat) (e : EptEntry),
      s.clocked = true ∧
      s.flag fDLMCFG_EN = true ∧
      (dlmsWrapped apdu).bind dlmsParts = some (title, sc, ic, ct, tag) ∧
      (sc = 0x30 ∨ sc = 0x10) ∧
      s.epiEntry epi = some e ∧
      e.systitle = title ∧
      e.proto = 1 ∧
      s.uplinkKey epi (s.pocket epi).wrap = (.done, key, eng, false) ∧
      ¬ (if (caps.any fun c => c.named.isSome) = true then s.lastIc epi % 2 ^ 32 ≤ ic else max (s.lastIc epi % 2 ^ 32) (s.volIc epi % 2 ^ 32) < ic)) :=
  ⟨⟨5, 9, 0, ((match (((([⟨1000, 1, 0, 42, 0⟩, ⟨1007, 2, 0, 43, 0⟩] : List Reading).filter fun r => ((tKep : State).classify r.time).posts)) : List Reading) with | [] => 0 | r :: _ => (((tKep : State).readProg (5 : Nat) r).map fun n => (tKep : State).fget (fLDGPRG_HANDLE n)).getD 0)), [⟨1000, 1, 0, 42, 0⟩, ⟨1007, 2, 0, 43, 0⟩], ((([⟨1000, 1, 0, 42, 0⟩, ⟨1007, 2, 0, 43, 0⟩] : List Reading).map fun r => (r, (tKep : State).classify r.time))), ((([⟨1000, 1, 0, 42, 0⟩, ⟨1007, 2, 0, 43, 0⟩] : List Reading).filter fun r => ((tKep : State).classify r.time).posts)), tKep, ((readingsEntry (5 : Nat) (9 : Nat) (0 : Nat) (((match (((([⟨1000, 1, 0, 42, 0⟩, ⟨1007, 2, 0, 43, 0⟩] : List Reading).filter fun r => ((tKep : State).classify r.time).posts)) : List Reading) with | [] => 0 | r :: _ => (((tKep : State).readProg (5 : Nat) r).map fun n => (tKep : State).fget (fLDGPRG_HANDLE n)).getD 0)) : Nat) (((([⟨1000, 1, 0, 42, 0⟩, ⟨1007, 2, 0, 43, 0⟩] : List Reading).map fun r => (r, (tKep : State).classify r.time))) : List (Reading × RdClass)))), by decide +kernel⟩,
   ⟨State.reset, by decide +kernel⟩,
   ⟨[1], (tKep.setFlag fDLMCFG_EN true), by decide +kernel⟩,
   ⟨(tApdu.set 19 7), (tKep.setFlag fDLMCFG_EN true), List.replicate 8 0, (sub tApdu 24 1), (tApdu.drop 25), 7, 9, by decide +kernel⟩,
   ⟨6, tApdu, (tKep.setFlag fDLMCFG_EN true), List.replicate 8 0, (sub tApdu 24 1), (tApdu.drop 25), 0x30, 9, by decide +kernel⟩,
   ⟨5, (tApdu.set 10 7), (tKep.setFlag fDLMCFG_EN true), [7, 0, 0, 0, 0, 0, 0, 0], (sub tApdu 24 1), (tApdu.drop 25), 0x30, 9, ⟨77, 5, 0, 1, 0, 0, 1, 0, List.replicate 8 0⟩, by decide +kernel⟩,
   ⟨5, tApdu, ((tKep.setFlag fDLMCFG_EN true).setSlot 1 {}), List.replicate 8 0, (sub tApdu 24 1), (tApdu.drop 25), [], 0x30, 9, 0, ⟨77, 5, 0, 1, 0, 0, 1, 0, List.replicate 8 0⟩, .keyOrphaned, false, by decide +kernel⟩,
   ⟨5, tApdu, [⟨some (1, 0), 42, tStamp⟩], ((tKep.setFlag fDLMCFG_EN true).secPut 5 0 8 10), List.replicate 8 0, (sub tApdu 24 1), (tApdu.drop 25), List.replicate 32 2, 0x30, 9, 0, ⟨77, 5, 0, 1, 0, 0, 1, 0, List.replicate 8 0⟩, by decide +kernel⟩⟩

/-- The hypotheses of UplinkFramesAndReadings can be met: part 6. -/
theorem test_meets_uplink_frames_and_readings_6 :
    (∃ (epi : Nat) (apdu : List Byte) (caps : List DlmsCapture) (s : State) (title : List Byte) (ct : List Byte) (tag : List Byte) (key : List Byte) (sc : Nat) (ic : Nat) (eng : Nat) (e : EptEntry),
      s.clocked = true ∧
      s.flag fDLMCFG_EN = true ∧
      (dlmsWrapped apdu).bind dlmsParts = some (title, sc, ic, ct, tag) ∧
      (sc = 0x30 ∨ sc = 0x10) ∧
      s.epiEntry epi = some e ∧
      e.systitle = title ∧
      e.proto = 1 ∧
      s.uplinkKey epi (s.pocket epi).wrap = (.done, key, eng, false) ∧
      (if (caps.any fun c => c.named.isSome) = true then s.lastIc epi % 2 ^ 32 ≤ ic else max (s.lastIc epi % 2 ^ 32) (s.volIc epi % 2 ^ 32) < ic) ∧
      (ofNats (gcmTag (nats (key.take 16)) (nats (title ++ beBytes 4 ic)) (nats ([BitVec.ofNat 8 sc] ++ (key.drop 16).take 16 ++ (if sc = 0x10 then ct else []))) (nats (if sc = 0x30 then ct else [])))).take 12 ≠ tag) ∧
    (∃ (epi : Nat) (apdu : List Byte) (caps : List DlmsCapture) (s : State) (title : List Byte) (ct : List Byte) (tag : List Byte) (key : List Byte) (sc : Nat) (ic : Nat) (eng : Nat) (e : EptEntry),
      s.clocked = true ∧
      s.flag fDLMCFG_EN = true ∧
      (dlmsWrapped apdu).bind dlmsParts = some (title, sc, ic, ct, tag) ∧
      (sc = 0x30 ∨ sc = 0x10) ∧
      s.epiEntry epi = some e ∧
      e.systitle = title ∧
      e.proto = 1 ∧
      s.uplinkKey epi (s.pocket epi).wrap = (.done, key, eng, false) ∧
      (if (caps.any fun c => c.named.isSome) = true then s.lastIc epi % 2 ^ 32 ≤ ic else max (s.lastIc epi % 2 ^ 32) (s.volIc epi % 2 ^ 32) < ic) ∧
      (ofNats (gcmTag (nats (key.take 16)) (nats (title ++ beBytes 4 ic)) (nats ([BitVec.ofNat 8 sc] ++ (key.drop 16).take 16 ++ (if sc = 0x10 then ct else []))) (nats (if sc = 0x30 then ct else [])))).take 12 = tag ∧
      ic = 2 ^ 32 - 1) ∧
    (∃ (epi : Nat) (apdu : List Byte) (caps : List DlmsCapture) (s : State) (title : List Byte) (ct : List Byte) (tag : List Byte) (key : List Byte) (sc : Nat) (ic : Nat) (eng : Nat) (e : EptEntry),
      s.clocked = true ∧
      s.flag fDLMCFG_EN = true ∧
      (dlmsWrapped apdu).bind dlmsParts = some (title, sc, ic, ct, tag) ∧
      (sc = 0x30 ∨ sc = 0x10) ∧
      s.epiEntry epi = some e ∧
      e.systitle = title ∧
      e.proto = 1 ∧
      s.uplinkKey epi (s.pocket epi).wrap = (.done, key, eng, false) ∧
      (if (caps.any fun c => c.named.isSome) = true then s.lastIc epi % 2 ^ 32 ≤ ic else max (s.lastIc epi % 2 ^ 32) (s.volIc epi % 2 ^ 32) < ic) ∧
      (ofNats (gcmTag (nats (key.take 16)) (nats (title ++ beBytes 4 ic)) (nats ([BitVec.ofNat 8 sc] ++ (key.drop 16).take 16 ++ (if sc = 0x10 then ct else []))) (nats (if sc = 0x30 then ct else [])))).take 12 = tag ∧
      ic ≠ 2 ^ 32 - 1 ∧
      dlmsService (if sc = 0x30 then ofNats (gcmCrypt (nats (key.take 16)) (nats (title ++ beBytes 4 ic)) (nats ct)) else ct) = false) ∧
    (∃ (epi : Nat) (apdu : List Byte) (caps : List DlmsCapture) (s : State) (title : List Byte) (ct : List Byte) (tag : List Byte) (key : List Byte) (sc : Nat) (ic : Nat) (eng : Nat) (e : EptEntry),
      s.clocked = true ∧
      s.flag fDLMCFG_EN = true ∧
      (dlmsWrapped apdu).bind dlmsParts = some (title, sc, ic, ct, tag) ∧
      (sc = 0x30 ∨ sc = 0x10) ∧
      s.epiEntry epi = some e ∧
      e.systitle = title ∧
      e.proto = 1 ∧
      s.uplinkKey epi (s.pocket epi).wrap = (.done, key, eng, false) ∧
      (if (caps.any fun c => c.named.isSome) = true then s.lastIc epi % 2 ^ 32 ≤ ic else max (s.lastIc epi % 2 ^ 32) (s.volIc epi % 2 ^ 32) < ic) ∧
      (ofNats (gcmTag (nats (key.take 16)) (nats (title ++ beBytes 4 ic)) (nats ([BitVec.ofNat 8 sc] ++ (key.drop 16).take 16 ++ (if sc = 0x10 then ct else []))) (nats (if sc = 0x30 then ct else [])))).take 12 = tag ∧
      ic ≠ 2 ^ 32 - 1 ∧
      dlmsService (if sc = 0x30 then ofNats (gcmCrypt (nats (key.take 16)) (nats (title ++ beBytes 4 ic)) (nats ct)) else ct) = true ∧
      (caps.any fun c => c.named.isSome) = false) ∧
    (∃ (epi : Nat) (apdu : List Byte) (caps : List DlmsCapture) (s : State) (title : List Byte) (ct : List Byte) (tag : List Byte) (key : List Byte) (sc : Nat) (ic : Nat) (eng : Nat) (e : EptEntry),
      s.clocked = true ∧
      s.flag fDLMCFG_EN = true ∧
      (dlmsWrapped apdu).bind dlmsParts = some (title, sc, ic, ct, tag) ∧
      (sc = 0x30 ∨ sc = 0x10) ∧
      s.epiEntry epi = some e ∧
      e.systitle = title ∧
      e.proto = 1 ∧
      s.uplinkKey epi (s.pocket epi).wrap = (.done, key, eng, false) ∧
      (if (caps.any fun c => c.named.isSome) = true then s.lastIc epi % 2 ^ 32 ≤ ic else max (s.lastIc epi % 2 ^ 32) (s.volIc epi % 2 ^ 32) < ic) ∧
      (ofNats (gcmTag (nats (key.take 16)) (nats (title ++ beBytes 4 ic)) (nats ([BitVec.ofNat 8 sc] ++ (key.drop 16).take 16 ++ (if sc = 0x10 then ct else []))) (nats (if sc = 0x30 then ct else [])))).take 12 = tag ∧
      ic ≠ 2 ^ 32 - 1 ∧
      dlmsService (if sc = 0x30 then ofNats (gcmCrypt (nats (key.take 16)) (nats (title ++ beBytes 4 ic)) (nats ct)) else ct) = true ∧
      (caps.any fun c => c.named.isSome) = true ∧
      ic = s.lastIc epi % 2 ^ 32) ∧
    (∃ (epi : Nat) (apdu : List Byte) (caps : List DlmsCapture) (s : State) (title : List Byte) (ct : List Byte) (tag : List Byte) (key : List Byte) (sc : Nat) (ic : Nat) (eng : Nat) (e : EptEntry) (rs : List Reading) (bad : Nat),
      s.clocked = true ∧
      s.flag fDLMCFG_EN = true ∧
      (dlmsWrapped apdu).bind dlmsParts = some (title, sc, ic, ct, tag) ∧
      (sc = 0x30 ∨ sc = 0x10) ∧
      s.epiEntry epi = some e ∧
      e.systitle = title ∧
      e.proto = 1 ∧
      s.uplinkKey epi (s.pocket epi).wrap = (.done, key, eng, false) ∧
      (if (caps.any fun c => c.named.isSome) = true then s.lastIc epi % 2 ^ 32 ≤ ic else max (s.lastIc epi % 2 ^ 32) (s.volIc epi % 2 ^ 32) < ic) ∧
      (ofNats (gcmTag (nats (key.take 16)) (nats (title ++ beBytes 4 ic)) (nats ([BitVec.ofNat 8 sc] ++ (key.drop 16).take 16 ++ (if sc = 0x10 then ct else []))) (nats (if sc = 0x30 then ct else [])))).take 12 = tag ∧
      ic ≠ 2 ^ 32 - 1 ∧
      dlmsService (if sc = 0x30 then ofNats (gcmCrypt (nats (key.take 16)) (nats (title ++ beBytes 4 ic)) (nats ct)) else ct) = true ∧
      (caps.any fun c => c.named.isSome) = true ∧
      s.lastIc epi % 2 ^ 32 < ic ∧
      ((s.aeCount eng false).setKep { (s.aeCount eng false).kep with apdus := (epi, (if sc = 0x30 then ofNats (gcmCrypt (nats (key.take 16)) (nats (title ++ beBytes 4 ic)) (nats ct)) else ct)) :: s.kep.apdus }).dlmsReadings ic caps = (rs, bad) ∧
      (rs.filter fun r => r.fits) = []) ∧
    (∃ (epi : Nat) (apdu : List Byte) (caps : List DlmsCapture) (s : State) (title : List Byte) (ct : List Byte) (tag : List Byte) (key : List Byte) (sc : Nat) (ic : Nat) (eng : Nat) (e : EptEntry) (rs : List Reading) (bad : Nat) (u : State),
      s.clocked = true ∧
      s.flag fDLMCFG_EN = true ∧
      (dlmsWrapped apdu).bind dlmsParts = some (title, sc, ic, ct, tag) ∧
      (sc = 0x30 ∨ sc = 0x10) ∧
      s.epiEntry epi = some e ∧
      e.systitle = title ∧
      e.proto = 1 ∧
      s.uplinkKey epi (s.pocket epi).wrap = (.done, key, eng, false) ∧
      (if (caps.any fun c => c.named.isSome) = true then s.lastIc epi % 2 ^ 32 ≤ ic else max (s.lastIc epi % 2 ^ 32) (s.volIc epi % 2 ^ 32) < ic) ∧
      (ofNats (gcmTag (nats (key.take 16)) (nats (title ++ beBytes 4 ic)) (nats ([BitVec.ofNat 8 sc] ++ (key.drop 16).take 16 ++ (if sc = 0x10 then ct else []))) (nats (if sc = 0x30 then ct else [])))).take 12 = tag ∧
      ic ≠ 2 ^ 32 - 1 ∧
      dlmsService (if sc = 0x30 then ofNats (gcmCrypt (nats (key.take 16)) (nats (title ++ beBytes 4 ic)) (nats ct)) else ct) = true ∧
      (caps.any fun c => c.named.isSome) = true ∧
      s.lastIc epi % 2 ^ 32 < ic ∧
      ((s.aeCount eng false).setKep { (s.aeCount eng false).kep with apdus := (epi, (if sc = 0x30 then ofNats (gcmCrypt (nats (key.take 16)) (nats (title ++ beBytes 4 ic)) (nats ct)) else ct)) :: s.kep.apdus }).dlmsReadings ic caps = (rs, bad) ∧
      (rs.filter fun r => r.fits) ≠ [] ∧
      (s.noCalendar = true ∨ s.ingestOpen = false) ∧
      u = (((s.aeCount eng false).setKep { (s.aeCount eng false).kep with apdus := (epi, (if sc = 0x30 then ofNats (gcmCrypt (nats (key.take 16)) (nats (title ++ beBytes 4 ic)) (nats ct)) else ct)) :: s.kep.apdus }).bump fDLMBADTIME_COUNT bad)) ∧
    (∃ (epi : Nat) (apdu : List Byte) (caps : List DlmsCapture) (_p : RxPath) (s : State) (title ct tag key : List Byte) (sc ic eng : Nat) (e : EptEntry) (rs : List Reading) (bad : Nat) (u v : State) (isn : Nat),
      s.clocked = true ∧
      s.flag fDLMCFG_EN = true ∧
      (dlmsWrapped apdu).bind dlmsParts = some (title, sc, ic, ct, tag) ∧
      (sc = 0x30 ∨ sc = 0x10) ∧
      s.epiEntry epi = some e ∧
      e.systitle = title ∧
      e.proto = 1 ∧
      s.uplinkKey epi (s.pocket epi).wrap = (.done, key, eng, false) ∧
      (if (caps.any fun c => c.named.isSome) = true then s.lastIc epi % 2 ^ 32 ≤ ic else max (s.lastIc epi % 2 ^ 32) (s.volIc epi % 2 ^ 32) < ic) ∧
      (ofNats (gcmTag (nats (key.take 16)) (nats (title ++ beBytes 4 ic)) (nats ([BitVec.ofNat 8 sc] ++ (key.drop 16).take 16 ++ (if sc = 0x10 then ct else []))) (nats (if sc = 0x30 then ct else [])))).take 12 = tag ∧
      ic ≠ 2 ^ 32 - 1 ∧
      dlmsService (if sc = 0x30 then ofNats (gcmCrypt (nats (key.take 16)) (nats (title ++ beBytes 4 ic)) (nats ct)) else ct) = true ∧
      (caps.any fun c => c.named.isSome) = true ∧
      s.lastIc epi % 2 ^ 32 < ic ∧
      ((s.aeCount eng false).setKep { (s.aeCount eng false).kep with apdus := (epi, (if sc = 0x30 then ofNats (gcmCrypt (nats (key.take 16)) (nats (title ++ beBytes 4 ic)) (nats ct)) else ct)) :: s.kep.apdus }).dlmsReadings ic caps = (rs, bad) ∧
      (rs.filter fun r => r.fits) ≠ [] ∧
      u = (((s.aeCount eng false).setKep { (s.aeCount eng false).kep with apdus := (epi, (if sc = 0x30 then ofNats (gcmCrypt (nats (key.take 16)) (nats (title ++ beBytes 4 ic)) (nats ct)) else ct)) :: s.kep.apdus }).bump fDLMBADTIME_COUNT bad) ∧
      u.ingest epi ic ic (rs.filter fun r => r.fits) = .ok v isn) :=
  ⟨⟨5, (tApdu.set 36 0), [⟨some (1, 0), 42, tStamp⟩], (tKep.setFlag fDLMCFG_EN true), List.replicate 8 0, (sub tApdu 24 1), ((tApdu.set 36 0).drop 25), List.replicate 32 2, 0x30, 9, 0, ⟨77, 5, 0, 1, 0, 0, 1, 0, List.replicate 8 0⟩, by decide +kernel⟩,
   ⟨5, tApduMax, [⟨some (1, 0), 42, tStamp⟩], (tKep.setFlag fDLMCFG_EN true), List.replicate 8 0, (sub tApduMax 24 1), (tApduMax.drop 25), List.replicate 32 2, 0x30, (2 ^ 32 - 1), 0, ⟨77, 5, 0, 1, 0, 0, 1, 0, List.replicate 8 0⟩, by decide +kernel⟩,
   ⟨5, tApduSvc, [⟨some (1, 0), 42, tStamp⟩], (tKep.setFlag fDLMCFG_EN true), List.replicate 8 0, (sub tApduSvc 24 1), (tApduSvc.drop 25), List.replicate 32 2, 0x30, 9, 0, ⟨77, 5, 0, 1, 0, 0, 1, 0, List.replicate 8 0⟩, by decide +kernel⟩,
   ⟨5, tApdu10, [⟨none, 42, tStamp⟩], (tKep.setFlag fDLMCFG_EN true), List.replicate 8 0, (sub tApdu10 24 1), (tApdu10.drop 25), List.replicate 32 2, 0x10, 9, 0, ⟨77, 5, 0, 1, 0, 0, 1, 0, List.replicate 8 0⟩, by decide +kernel⟩,
   ⟨5, tApdu, [⟨some (1, 0), 42, tStamp⟩], ((tKep.setFlag fDLMCFG_EN true).secPut 5 0 8 9), List.replicate 8 0, (sub tApdu 24 1), (tApdu.drop 25), List.replicate 32 2, 0x30, ((((tKep.setFlag fDLMCFG_EN true).secPut 5 0 8 9) : State).lastIc (5 : Nat) % 2 ^ 32), 0, ⟨77, 5, 0, 1, 0, 0, 1, 0, List.replicate 8 0⟩, by decide +kernel⟩,
   ⟨5, tApdu, [⟨some (1, 0), 42, [1]⟩], (tKep.setFlag fDLMCFG_EN true), List.replicate 8 0, (sub tApdu 24 1), (tApdu.drop 25), List.replicate 32 2, 0x30, 9, 0, ⟨77, 5, 0, 1, 0, 0, 1, 0, List.replicate 8 0⟩, [], 1, by decide +kernel⟩,
   ⟨5, tApdu, [⟨some (1, 0), 42, tStamp⟩], ((tKep.setFlag fDLMCFG_EN true).setReg rLDGFIRSTK noK), List.replicate 8 0, (sub tApdu 24 1), (tApdu.drop 25), List.replicate 32 2, 0x30, 9, 0, ⟨77, 5, 0, 1, 0, 0, 1, 0, List.replicate 8 0⟩, [⟨3600000, 1, 0, 42, 9⟩], 0, (((((((tKep.setFlag fDLMCFG_EN true).setReg rLDGFIRSTK noK) : State).aeCount (0 : Nat) false).setKep { ((((tKep.setFlag fDLMCFG_EN true).setReg rLDGFIRSTK noK) : State).aeCount (0 : Nat) false).kep with apdus := ((5 : Nat), (if (0x30 : Nat) = 0x30 then ofNats (gcmCrypt (nats ((List.replicate 32 2 : List Byte).take 16)) (nats ((List.replicate 8 0 : List Byte) ++ beBytes 4 (9 : Nat))) (nats ((sub tApdu 24 1) : List Byte))) else ((sub tApdu 24 1) : List Byte))) :: (((tKep.setFlag fDLMCFG_EN true).setReg rLDGFIRSTK noK) : State).kep.apdus }).bump fDLMBADTIME_COUNT (0 : Nat))), by decide +kernel⟩,
   ⟨5, tApdu, [⟨some (1, 0), 42, tStamp⟩], {}, (tKep.setFlag fDLMCFG_EN true), List.replicate 8 0, (sub tApdu 24 1), (tApdu.drop 25), List.replicate 32 2, 0x30, 9, 0, ⟨77, 5, 0, 1, 0, 0, 1, 0, List.replicate 8 0⟩, [⟨3600000, 1, 0, 42, 9⟩], 0, (((((tKep.setFlag fDLMCFG_EN true) : State).aeCount (0 : Nat) false).setKep { (((tKep.setFlag fDLMCFG_EN true) : State).aeCount (0 : Nat) false).kep with apdus := ((5 : Nat), (if (0x30 : Nat) = 0x30 then ofNats (gcmCrypt (nats ((List.replicate 32 2 : List Byte).take 16)) (nats ((List.replicate 8 0 : List Byte) ++ beBytes 4 (9 : Nat))) (nats ((sub tApdu 24 1) : List Byte))) else ((sub tApdu 24 1) : List Byte))) :: ((tKep.setFlag fDLMCFG_EN true) : State).kep.apdus }).bump fDLMBADTIME_COUNT (0 : Nat)), test_ingest_apdu.choose, 1, by decide +kernel, by decide +kernel, by decide +kernel, by decide +kernel, by decide +kernel, by decide +kernel, by decide +kernel, by decide +kernel, by decide +kernel, by decide +kernel, by decide +kernel, by decide +kernel, by decide +kernel, by decide +kernel, by decide +kernel, by decide +kernel, rfl, test_ingest_apdu.choose_spec⟩⟩

/-- The hypotheses of DownlinkFramesAndKeys can be met: part 1. -/
theorem test_meets_downlink_frames_and_keys_1 :
    (∃ (n : Nat) (s : State),
      s.clocked = true ∧
      s.kep.acks[n]? = none) ∧
    (∃ (n : Nat) (s : State) (j : AckJob),
      s.clocked = true ∧
      s.kep.acks[n]? = some j ∧
      (s.pastAckWin j.since = true ∨ (match j.isn with | some i => s.held (.ack i) | none => false) = true)) ∧
    (∃ (n : Nat) (s : State) (j : AckJob) (key : List Byte) (eng : Nat),
      s.clocked = true ∧
      s.kep.acks[n]? = some j ∧
      s.pastAckWin j.since = false ∧
      (match j.isn with | some i => s.held (.ack i) | none => false) = false ∧
      eng < 4 ∧
      s.txIc j.epi < s.txCeil j.epi ∧
      s.pathReady j.path = true ∧
      s.held (.newGen j.epi) = false ∧
      s.epiCut j.epi = false ∧
      s.pocketKey j.epi (s.pocket j.epi).wrap = (.done, key, eng, false) ∧
      j.path.peer = none ∧
      j.path.chip = none) ∧
    (∃ (n : Nat) (s : State) (j : AckJob) (key : List Byte) (eng : Nat),
      s.clocked = true ∧
      s.kep.acks[n]? = some j ∧
      s.pastAckWin j.since = false ∧
      (match j.isn with | some i => s.held (.ack i) | none => false) = false ∧
      s.txIc j.epi < s.txCeil j.epi ∧
      s.pathReady j.path = true ∧
      s.held (.newGen j.epi) = false ∧
      s.epiCut j.epi = false ∧
      s.pocketKey j.epi (s.pocket j.epi).wrap = (.done, key, eng, false)) ∧
    (∃ (n : Nat) (s : State) (j : AckJob),
      s.clocked = true ∧
      s.kep.acks[n]? = some j ∧
      s.pastAckWin j.since = false ∧
      (match j.isn with | some i => s.held (.ack i) | none => false) = false ∧
      s.txCeil j.epi ≤ s.txIc j.epi ∧
      s.txCeil j.epi + 4096 ≤ s.ceilLimit false j.epi) ∧
    (∃ (n : Nat) (s : State) (j : AckJob),
      s.clocked = true ∧
      s.kep.acks[n]? = some j ∧
      s.pastAckWin j.since = false ∧
      (match j.isn with | some i => s.held (.ack i) | none => false) = false ∧
      s.txCeil j.epi ≤ s.txIc j.epi ∧
      s.ceilLimit false j.epi < s.txCeil j.epi + 4096) ∧
    (∃ (n : Nat) (s : State) (j : AckJob),
      s.clocked = true ∧
      s.kep.acks[n]? = some j ∧
      s.pastAckWin j.since = false ∧
      (match j.isn with | some i => s.held (.ack i) | none => false) = false ∧
      s.txIc j.epi < s.txCeil j.epi ∧
      (s.pathReady j.path = false ∨ s.held (.newGen j.epi) = true ∨ s.epiCut j.epi = true)) ∧
    (∃ (n : Nat) (s : State) (j : AckJob) (key : List Byte) (eng : Nat) (status : Status) (f : Bool),
      s.clocked = true ∧
      s.kep.acks[n]? = some j ∧
      s.pastAckWin j.since = false ∧
      (match j.isn with | some i => s.held (.ack i) | none => false) = false ∧
      s.txIc j.epi < s.txCeil j.epi ∧
      s.pathReady j.path = true ∧
      s.held (.newGen j.epi) = false ∧
      s.epiCut j.epi = false ∧
      s.pocketKey j.epi (s.pocket j.epi).wrap = (status, key, eng, f) ∧
      status ≠ .done ∧
      status ≠ .nonceExhausted) :=
  ⟨⟨0, State.reset, by decide +kernel⟩,
   ⟨0, (tDown.setAcks [{ epi := 5, aic := 9, result := 0, aflags := 0, retry := 0, nacc := 1, path := {}, since := 5, isn := some 1 }]).setTime { raw := 2000000000000 }, { epi := 5, aic := 9, result := 0, aflags := 0, retry := 0, nacc := 1, path := {}, since := 5, isn := some 1 }, by decide +kernel⟩,
   ⟨0, tDown.setAcks [{ epi := 5, aic := 9, result := 0, aflags := 0, retry := 0, nacc := 1, path := {}, since := 5, isn := some 1 }], { epi := 5, aic := 9, result := 0, aflags := 0, retry := 0, nacc := 1, path := {}, since := 5, isn := some 1 }, List.replicate 32 2, 0, by decide +kernel⟩,
   ⟨0, tDown.setAcks [{ epi := 5, aic := 9, result := 0, aflags := 0, retry := 0, nacc := 1, path := {}, since := 5, isn := some 1 }], { epi := 5, aic := 9, result := 0, aflags := 0, retry := 0, nacc := 1, path := {}, since := 5, isn := some 1 }, List.replicate 32 2, 0, by decide +kernel⟩,
   ⟨0, tKep.setAcks [{ epi := 5, aic := 9, result := 0, aflags := 0, retry := 0, nacc := 1, path := {}, since := 5, isn := some 1 }], { epi := 5, aic := 9, result := 0, aflags := 0, retry := 0, nacc := 1, path := {}, since := 5, isn := some 1 }, by decide +kernel⟩,
   ⟨0, (tKepEnd).setAcks [{ epi := 5, aic := 9, result := 0, aflags := 0, retry := 0, nacc := 1, path := {}, since := 5, isn := some 1 }], { epi := 5, aic := 9, result := 0, aflags := 0, retry := 0, nacc := 1, path := {}, since := 5, isn := some 1 }, by decide +kernel⟩,
   ⟨0, (tDown.setFlag fTWNSTAT_GATE false).setAcks [{ epi := 5, aic := 9, result := 0, aflags := 0, retry := 0, nacc := 1, path := {}, since := 5, isn := some 1 }], { epi := 5, aic := 9, result := 0, aflags := 0, retry := 0, nacc := 1, path := {}, since := 5, isn := some 1 }, by decide +kernel⟩,
   ⟨0, (tDown.setSlot 1 {}).setAcks [{ epi := 5, aic := 9, result := 0, aflags := 0, retry := 0, nacc := 1, path := {}, since := 5, isn := some 1 }], { epi := 5, aic := 9, result := 0, aflags := 0, retry := 0, nacc := 1, path := {}, since := 5, isn := some 1 }, [], 0, .keyOrphaned, false, by decide +kernel⟩⟩

/-- The hypotheses of DownlinkFramesAndKeys can be met: part 2. -/
theorem test_meets_downlink_frames_and_keys_2 :
    (∃ (n : Nat) (s : State) (j : AckJob),
      s.clocked = true ∧
      s.kep.acks[n]? = some j) ∧
    (∃ (slot : Bool) (mt : Nat) (body : List Byte) (s : State),
      s.clocked = true ∧
      (downType slot mt = false ∨ downBodyOk mt body = false)) ∧
    (∃ (epi : Nat) (mt : Nat) (id : Nat) (body : List Byte) (p : RxPath) (s : State) (key : List Byte) (eng : Nat) (b : List Byte),
      s.clocked = true ∧
      downType false mt = true ∧
      downBodyOk mt body = true ∧
      (s.kep.down.all fun d => d.slot != false || d.key != epi) = true ∧
      (mt = mtGroupKey → (s.slot id).typ = ktAes256 ∧ bit (s.slot id).mask mExport = true) ∧
      b = (if mt = mtGroupKey then sub body 0 16 ++ (s.slot id).mat else body) ∧
      eng < 4 ∧
      s.txIc epi < s.txCeil epi ∧
      s.pathReady p = true ∧
      s.held (.newGen epi) = false ∧
      s.epiCut epi = false ∧
      s.pocketKey epi (s.pocket epi).wrap = (.done, key, eng, false) ∧
      p.peer = none ∧
      p.chip = none) ∧
    (∃ (epi : Nat) (mt : Nat) (id : Nat) (body : List Byte) (p : RxPath) (s : State) (key : List Byte) (eng : Nat) (b : List Byte),
      s.clocked = true ∧
      downType false mt = true ∧
      downBodyOk mt body = true ∧
      (s.kep.down.all fun d => d.slot != false || d.key != epi) = true ∧
      (mt = mtGroupKey → (s.slot id).typ = ktAes256 ∧ bit (s.slot id).mask mExport = true) ∧
      b = (if mt = mtGroupKey then sub body 0 16 ++ (s.slot id).mat else body) ∧
      s.txIc epi < s.txCeil epi ∧
      s.pathReady p = true ∧
      s.held (.newGen epi) = false ∧
      s.epiCut epi = false ∧
      s.pocketKey epi (s.pocket epi).wrap = (.done, key, eng, false)) ∧
    (∃ (epi : Nat) (mt : Nat) (id : Nat) (body : List Byte) (s : State),
      s.clocked = true ∧
      downType false mt = true ∧
      downBodyOk mt body = true ∧
      (s.kep.down.all fun d => d.slot != false || d.key != epi) = true ∧
      mt = mtGroupKey ∧
      ((s.slot id).typ ≠ ktAes256 ∨ bit (s.slot id).mask mExport = false)) ∧
    (∃ (epi : Nat) (mt : Nat) (id : Nat) (body : List Byte) (s : State),
      s.clocked = true ∧
      downType false mt = true ∧
      downBodyOk mt body = true ∧
      (s.kep.down.all fun d => d.slot != false || d.key != epi) = true ∧
      (mt = mtGroupKey → (s.slot id).typ = ktAes256 ∧ bit (s.slot id).mask mExport = true) ∧
      s.txCeil epi ≤ s.txIc epi ∧
      s.txCeil epi + 4096 ≤ s.ceilLimit false epi) ∧
    (∃ (epi : Nat) (mt : Nat) (id : Nat) (body : List Byte) (s : State),
      s.clocked = true ∧
      downType false mt = true ∧
      downBodyOk mt body = true ∧
      (s.kep.down.all fun d => d.slot != false || d.key != epi) = true ∧
      (mt = mtGroupKey → (s.slot id).typ = ktAes256 ∧ bit (s.slot id).mask mExport = true) ∧
      s.txCeil epi ≤ s.txIc epi ∧
      s.ceilLimit false epi < s.txCeil epi + 4096) ∧
    (∃ (epi : Nat) (mt : Nat) (id : Nat) (body : List Byte) (p : RxPath) (s : State),
      s.clocked = true ∧
      downType false mt = true ∧
      downBodyOk mt body = true ∧
      (s.kep.down.all fun d => d.slot != false || d.key != epi) = true ∧
      (mt = mtGroupKey → (s.slot id).typ = ktAes256 ∧ bit (s.slot id).mask mExport = true) ∧
      s.txIc epi < s.txCeil epi ∧
      (s.pathReady p = false ∨ s.held (.newGen epi) = true ∨ s.epiCut epi = true)) :=
  ⟨⟨0, (tDown.setAcks [{ epi := 5, aic := 9, result := 0, aflags := 0, retry := 0, nacc := 1, path := {}, since := 5, isn := some 1 }]).setTime { raw := 2000000000000 }, { epi := 5, aic := 9, result := 0, aflags := 0, retry := 0, nacc := 1, path := {}, since := 5, isn := some 1 }, by decide +kernel⟩,
   ⟨false, 2, [], State.reset, by decide +kernel⟩,
   ⟨5, mtCommand, 0, [0, 0, 0, 1, 0, 0, 0, 2, 1, 2], {}, tDown, List.replicate 32 2, 0, ((if (mtCommand : Nat) = mtGroupKey then sub ([0, 0, 0, 1, 0, 0, 0, 2, 1, 2] : List Byte) 0 16 ++ ((tDown : State).slot (0 : Nat)).mat else ([0, 0, 0, 1, 0, 0, 0, 2, 1, 2] : List Byte))), by decide +kernel⟩,
   ⟨5, mtCommand, 0, [0, 0, 0, 1, 0, 0, 0, 2, 1, 2], {}, tDown, List.replicate 32 2, 0, ((if (mtCommand : Nat) = mtGroupKey then sub ([0, 0, 0, 1, 0, 0, 0, 2, 1, 2] : List Byte) 0 16 ++ ((tDown : State).slot (0 : Nat)).mat else ([0, 0, 0, 1, 0, 0, 0, 2, 1, 2] : List Byte))), by decide +kernel⟩,
   ⟨5, (mtGroupKey), 3, List.replicate 16 0, tDown, by decide +kernel⟩,
   ⟨5, mtCommand, 0, [0, 0, 0, 1, 0, 0, 0, 2, 1, 2], tKep, by decide +kernel⟩,
   ⟨5, mtCommand, 0, [0, 0, 0, 1, 0, 0, 0, 2, 1, 2], tKepEnd, by decide +kernel⟩,
   ⟨5, mtCommand, 0, [0, 0, 0, 1, 0, 0, 0, 2, 1, 2], {}, tDown.setFlag fTWNSTAT_GATE false, by decide +kernel⟩⟩

/-- The hypotheses of DownlinkFramesAndKeys can be met: part 3. -/
theorem test_meets_downlink_frames_and_keys_3 :
    (∃ (epi : Nat) (mt : Nat) (id : Nat) (body : List Byte) (p : RxPath) (s : State) (key : List Byte) (eng : Nat) (status : Status) (f : Bool),
      s.clocked = true ∧
      downType false mt = true ∧
      downBodyOk mt body = true ∧
      (s.kep.down.all fun d => d.slot != false || d.key != epi) = true ∧
      (mt = mtGroupKey → (s.slot id).typ = ktAes256 ∧ bit (s.slot id).mask mExport = true) ∧
      s.txIc epi < s.txCeil epi ∧
      s.pathReady p = true ∧
      s.held (.newGen epi) = false ∧
      s.epiCut epi = false ∧
      s.pocketKey epi (s.pocket epi).wrap = (status, key, eng, f) ∧
      status ≠ .done ∧
      status ≠ .nonceExhausted) ∧
    (∃ (k : Nat) (mt : Nat) (body : List Byte) (p : RxPath) (s : State) (eng : Nat),
      s.clocked = true ∧
      downType true mt = true ∧
      downBodyOk mt body = true ∧
      (s.kep.down.all fun d => d.slot != true || d.key != k) = true ∧
      s.slotTx k < s.slotCeil k ∧
      s.pathReady p = true ∧
      (s.slot k).typ ≠ 0 ∧
      s.aePick (s.slot k).mask = some eng) ∧
    (∃ (k : Nat) (mt : Nat) (body : List Byte) (p : RxPath) (s : State),
      s.clocked = true ∧
      downType true mt = true ∧
      downBodyOk mt body = true ∧
      (s.kep.down.all fun d => d.slot != true || d.key != k) = true ∧
      s.slotTx k < s.slotCeil k ∧
      s.pathReady p = true ∧
      ((s.slot k).typ = 0 ∨ s.aePick (s.slot k).mask = none)) ∧
    (∃ (k : Nat) (mt : Nat) (body : List Byte) (s : State),
      s.clocked = true ∧
      downType true mt = true ∧
      downBodyOk mt body = true ∧
      (s.kep.down.all fun d => d.slot != true || d.key != k) = true ∧
      s.slotCeil k ≤ s.slotTx k ∧
      s.slotCeil k + 4096 ≤ 2 ^ 64 - 4096) ∧
    (∃ (k : Nat) (mt : Nat) (body : List Byte) (s : State),
      s.clocked = true ∧
      downType true mt = true ∧
      downBodyOk mt body = true ∧
      (s.kep.down.all fun d => d.slot != true || d.key != k) = true ∧
      s.slotCeil k ≤ s.slotTx k ∧
      2 ^ 64 - 4096 < s.slotCeil k + 4096) ∧
    (∃ (k : Nat) (mt : Nat) (body : List Byte) (p : RxPath) (s : State),
      s.clocked = true ∧
      downType true mt = true ∧
      downBodyOk mt body = true ∧
      (s.kep.down.all fun d => d.slot != true || d.key != k) = true ∧
      s.slotTx k < s.slotCeil k ∧
      s.pathReady p = false) ∧
    (∃ (epi : Nat) (s : State),
      s.clocked = true ∧
      bit (s.sflags epi) sfPending = false ∧
      bit (s.pocket epi).mask mExport = false) ∧
    (∃ (epi : Nat) (s : State),
      s.clocked = true ∧
      bit (s.sflags epi) sfPending = false ∧
      bit (s.pocket epi).mask mExport = true ∧
      ((s.pocket epi).v ≠ 1 ∨ (s.slot (s.pocket epi).parent).typ = 0 ∨ bit (s.slot (s.pocket epi).parent).mask mWrap = false ∨ (s.slot (s.pocket epi).parent).kid ≠ (s.pocket epi).pkid)) :=
  ⟨⟨5, mtCommand, 0, [0, 0, 0, 1, 0, 0, 0, 2, 1, 2], {}, tDown.setSlot 1 {}, [], 0, .keyOrphaned, false, by decide +kernel⟩,
   ⟨1, mtFwBlock, [0, 0, 0, 1, 0, 0, 0, 1, 9], {}, tKep.setSlotCeil 1 4096, 0, by decide +kernel⟩,
   ⟨2, mtFwBlock, [0, 0, 0, 1, 0, 0, 0, 1, 9], {}, tKep.setSlotCeil 2 4096, by decide +kernel⟩,
   ⟨1, mtFwBlock, [0, 0, 0, 1, 0, 0, 0, 1, 9], tKep, by decide +kernel⟩,
   ⟨1, mtFwBlock, [0, 0, 0, 1, 0, 0, 0, 1, 9], (tKep.setSlotCeil 1 (2 ^ 64 - 4096)).setSlotTx 1 (2 ^ 64 - 4096), by decide +kernel⟩,
   ⟨1, mtFwBlock, [0, 0, 0, 1, 0, 0, 0, 1, 9], {}, (tKep.setSlotCeil 1 4096).setFlag fTWNSTAT_GATE false, by decide +kernel⟩,
   ⟨5, State.reset, by decide +kernel⟩,
   ⟨5, tKep.setSlot 1 {}, by decide +kernel⟩⟩

/-- The hypotheses of DownlinkFramesAndKeys can be met: part 4. -/
theorem test_meets_downlink_frames_and_keys_4 :
    (∃ (epi : Nat) (_p : RxPath) (s u : State) (w : List Byte),
      s.clocked = true ∧
      bit (s.sflags epi) sfPending = false ∧
      bit (s.pocket epi).mask mExport = true ∧
      s.newWrap epi = some w ∧
      w.length = 40 ∧
      u = (((((s.drawn 1).secPut epi 33 1 ((s.kg epi + 1) % 256)).write (s.secAddr epi + 40) w).setSflag epi sfPending true).pendKey epi)) ∧
    (∃ (epi : Nat) (p : RxPath) (s : State) (key : List Byte) (newKey : List Byte) (eng : Nat) (eng2 : Nat),
      s.clocked = true ∧
      bit (s.sflags epi) sfPending = true ∧
      (s.kep.down.all fun d => d.slot != false || d.key != epi) = true ∧
      s.held (.keyUpdate epi) = false ∧
      s.pocketKey epi (s.bytes (s.secAddr epi + 40) 40) = (.done, newKey, eng2, false) ∧
      bit (s.pocket epi).mask mExport = true ∧
      s.txIc epi < s.txCeil epi ∧
      s.pathReady p = true ∧
      s.held (.newGen epi) = false ∧
      s.epiCut epi = false ∧
      s.pocketKey epi (s.pocket epi).wrap = (.done, key, eng, false)) ∧
    (∃ (epi : Nat) (s : State),
      s.clocked = true ∧
      bit (s.sflags epi) sfPending = true ∧
      (s.kep.down.all fun d => d.slot != false || d.key != epi) = true ∧
      s.held (.keyUpdate epi) = true) ∧
    (∃ (epi : Nat) (s : State) (newKey : List Byte) (eng2 : Nat),
      s.clocked = true ∧
      bit (s.sflags epi) sfPending = true ∧
      (s.kep.down.all fun d => d.slot != false || d.key != epi) = true ∧
      s.held (.keyUpdate epi) = false ∧
      s.pocketKey epi (s.bytes (s.secAddr epi + 40) 40) = (.done, newKey, eng2, false) ∧
      bit (s.pocket epi).mask mExport = true ∧
      s.txCeil epi ≤ s.txIc epi ∧
      s.txCeil epi + 4096 ≤ s.ceilLimit false epi) ∧
    (∃ (epi : Nat) (s : State) (newKey : List Byte) (eng2 : Nat),
      s.clocked = true ∧
      bit (s.sflags epi) sfPending = true ∧
      (s.kep.down.all fun d => d.slot != false || d.key != epi) = true ∧
      s.held (.keyUpdate epi) = false ∧
      s.pocketKey epi (s.bytes (s.secAddr epi + 40) 40) = (.done, newKey, eng2, false) ∧
      bit (s.pocket epi).mask mExport = true ∧
      s.txCeil epi ≤ s.txIc epi ∧
      s.ceilLimit false epi < s.txCeil epi + 4096) ∧
    (∃ (epi : Nat) (s : State),
      s.clocked = true ∧
      bit (s.sflags epi) sfPending = true ∧
      (s.kep.down.all fun d => d.slot != false || d.key != epi) = true ∧
      s.held (.keyUpdate epi) = false ∧
      ((s.pocketKey epi (s.bytes (s.secAddr epi + 40) 40)).1 ≠ .done ∨ bit (s.pocket epi).mask mExport = false) ∧
      (s.pocketKey epi (s.bytes (s.secAddr epi + 40) 40)).1 ≠ .nonceExhausted) ∧
    (∃ (slot : Bool) (key : Nat) (s : State),
      s.clocked = true ∧
      s.raiseDue slot key = false) ∧
    (∃ (slot : Bool) (key : Nat) (s : State),
      s.clocked = true ∧
      s.raiseDue slot key = true ∧
      s.ceilLimit slot key < s.keyCeil slot key + 4096 ∧
      (s.kep.down.all fun d => d.slot != slot || d.key != key) = true ∧
      s.kep.envs = []) :=
  ⟨⟨5, {}, tKep, _, test_new_wrap.choose, by decide +kernel, by decide +kernel, by decide +kernel, test_new_wrap.choose_spec.1, test_new_wrap.choose_spec.2, rfl⟩,
   ⟨5, {}, (tPkg.secPut 5 24 8 4096), List.replicate 32 2, List.replicate 32 2, 0, 0, by decide +kernel⟩,
   ⟨5, tPkgHeld, by decide +kernel⟩,
   ⟨5, tPkg, List.replicate 32 2, 0, by decide +kernel⟩,
   ⟨5, tPkgEnd, List.replicate 32 2, 0, by decide +kernel⟩,
   ⟨5, tPkg.setSlot 1 {}, by decide +kernel⟩,
   ⟨false, 5, tKep.secPut 5 24 8 8192, by decide +kernel⟩,
   ⟨false, 5, tKepEnd, by decide +kernel⟩⟩

/-- The hypotheses of DownlinkFramesAndKeys can be met: part 5. -/
theorem test_meets_downlink_frames_and_keys_5 :
    (∃ (epi : Nat) (s : State),
      s.clocked = true ∧
      s.raiseDue false epi = true ∧
      s.txCeil epi + 4096 ≤ s.ceilLimit false epi ∧
      s.isActive = false ∧
      (s.kep.down.all fun d => d.slot != false || d.key != epi) = true ∧
      epi < 2 ^ 18 ∧
      (s.secAddr epi + 128 ≤ mramBase ∨ csrBase ≤ s.secAddr epi)) ∧
    (∃ (epi : Nat) (s : State) (j : DownJob) (key : List Byte) (eng : Nat),
      s.clocked = true ∧
      s.raiseDue false epi = true ∧
      s.txCeil epi + 4096 ≤ s.ceilLimit false epi ∧
      s.isActive = false ∧
      s.kep.down = [j] ∧
      j.slot = false ∧
      j.key = epi ∧
      j.mt = mtCommand ∧
      s.pathReady j.path = true ∧
      j.path.peer = none ∧
      j.path.chip = none ∧
      s.held (.newGen epi) = false ∧
      s.epiCut epi = false ∧
      s.pocketKey epi (s.pocket epi).wrap = (.done, key, eng, false) ∧
      s.txCeil epi = s.txIc epi ∧
      epi < 2 ^ 18 ∧
      (s.secAddr epi + 128 ≤ mramBase ∨ csrBase ≤ s.secAddr epi) ∧
      (s.pktAddr epi + 64 ≤ s.secAddr epi ∨ s.secAddr epi + 128 ≤ s.pktAddr epi) ∧
      (s.pktAddr epi + 64 ≤ resvAddr epi ∨ resvAddr epi + 8 ≤ s.pktAddr epi) ∧
      (s.epiSlot epi).isSome = true) ∧
    (∃ (epi : Nat) (s : State),
      s.clocked = true ∧
      s.raiseDue false epi = true ∧
      s.txCeil epi + 4096 ≤ s.ceilLimit false epi ∧
      s.isActive = true ∧
      s.alone = false ∧
      s.kep.down = [] ∧
      epi < 2 ^ 18) ∧
    (∃ (k : Nat) (s : State),
      s.clocked = true ∧
      s.raiseDue true k = true ∧
      s.slotCeil k + 4096 ≤ 2 ^ 64 - 4096 ∧
      s.isActive = false ∧
      (s.kep.down.all fun d => d.slot != true || d.key != k) = true ∧
      s.kep.envs = [] ∧
      k < 8192) ∧
    (∃ (k : Nat) (s : State) (e : EnvJob),
      s.clocked = true ∧
      s.raiseDue true k = true ∧
      s.slotCeil k + 4096 ≤ 2 ^ 64 - 4096 ∧
      s.isActive = false ∧
      (s.kep.down.all fun d => d.slot != true || d.key != k) = true ∧
      s.kep.envs = [e] ∧
      s.fget (fRELPEER_SLOT e.peer) = k ∧
      s.peerOpen e.peer = true ∧
      s.slotTx k = s.slotCeil k ∧
      0 < s.slotCeil k ∧
      s.kep.slotIc.get natZero k ≠ 0) ∧
    (∃ (s : State),
      s.clocked = true ∧
      s.flag fRELCFG_EN = false) ∧
    (∃ (b : List Byte) (s : State),
      s.clocked = true ∧
      s.flag fRELCFG_EN = true ∧
      s.peerOf (be b 4 8) = none) ∧
    (∃ (b : List Byte) (s : State) (peer : Nat),
      s.clocked = true ∧
      s.flag fRELCFG_EN = true ∧
      s.peerOf (be b 4 8) = some peer ∧
      (¬ (40 ≤ b.length ∧ b.length ≤ s.fget fRELCFG_MAXLEN ∧ be b 0 2 = 0x4B52 ∧ be b 2 1 = 1 ∧ bits (be b 3 1) 5 2 = 0 ∧ 1 ≤ (bits (be b 3 1) 0 5) ∧ (bits (be b 3 1) 0 5) ≤ 16 ∧ be b 20 4 = 0) ∨ relayRecords peer (bits (be b 3 1) 0 5) ((b.take (b.length - 16)).drop 24) = none)) :=
  ⟨⟨5, tKep, by decide +kernel⟩,
   ⟨5, tKep.setKep { tKep.kep with down := [⟨false, 5, mtCommand, 0, [0, 0, 0, 1, 0, 0, 0, 2, 1, 2], {}, true⟩] }, ⟨false, 5, mtCommand, 0, [0, 0, 0, 1, 0, 0, 0, 2, 1, 2], {}, true⟩, List.replicate 32 2, 0, by decide +kernel⟩,
   ⟨5, (tAct0 tKep), by decide +kernel⟩,
   ⟨1, tKep, by decide +kernel⟩,
   ⟨1, ((tRel.setSlotCeil 1 4096).setSlotTx 1 4096).setKep { ((tRel.setSlotCeil 1 4096).setSlotTx 1 4096).kep with envs := [⟨0, 0, {}, [1]⟩] }, ⟨0, 0, {}, [1]⟩, by decide +kernel⟩,
   ⟨State.reset, by decide +kernel⟩,
   ⟨tEnv, tRel.setFlag (fRELPEER_V 0) false, by decide +kernel⟩,
   ⟨tEnv.set 3 0x80, tRel, 0, by decide +kernel⟩⟩

/-- The hypotheses of DownlinkFramesAndKeys can be met: part 6. -/
theorem test_meets_downlink_frames_and_keys_6 :
    (∃ (b : List Byte) (s : State) (peer : Nat) (rs : List (RxPath × List Byte)),
      s.clocked = true ∧
      s.flag fRELCFG_EN = true ∧
      s.peerOf (be b 4 8) = some peer ∧
      (40 ≤ b.length ∧ b.length ≤ s.fget fRELCFG_MAXLEN ∧ be b 0 2 = 0x4B52 ∧ be b 2 1 = 1 ∧ bits (be b 3 1) 5 2 = 0 ∧ 1 ≤ (bits (be b 3 1) 0 5) ∧ (bits (be b 3 1) 0 5) ≤ 16 ∧ be b 20 4 = 0) ∧
      relayRecords peer (bits (be b 3 1) 0 5) ((b.take (b.length - 16)).drop 24) = some rs ∧
      (s.aePick (s.slot (s.fget (fRELPEER_SLOT peer))).mask = none ∨ (s.slot (s.fget (fRELPEER_SLOT peer))).typ ≠ ktAes256 ∨ ofNats (gcmTag (nats (s.slot (s.fget (fRELPEER_SLOT peer))).mat) (nats ([0x52] ++ beBytes 1 (bits (be b 3 1) 7 1) ++ [0, 0] ++ beBytes 8 (be b 12 8))) (nats (b.take (b.length - 16))) []) ≠ b.drop (b.length - 16))) ∧
    (∃ (b : List Byte) (s : State) (peer : Nat) (rs : List (RxPath × List Byte)) (eng : Nat),
      s.clocked = true ∧
      s.flag fRELCFG_EN = true ∧
      s.peerOf (be b 4 8) = some peer ∧
      (40 ≤ b.length ∧ b.length ≤ s.fget fRELCFG_MAXLEN ∧ be b 0 2 = 0x4B52 ∧ be b 2 1 = 1 ∧ bits (be b 3 1) 5 2 = 0 ∧ 1 ≤ (bits (be b 3 1) 0 5) ∧ (bits (be b 3 1) 0 5) ≤ 16 ∧ be b 20 4 = 0) ∧
      relayRecords peer (bits (be b 3 1) 0 5) ((b.take (b.length - 16)).drop 24) = some rs ∧
      s.aePick (s.slot (s.fget (fRELPEER_SLOT peer))).mask = some eng ∧
      (s.slot (s.fget (fRELPEER_SLOT peer))).typ = ktAes256 ∧
      ofNats (gcmTag (nats (s.slot (s.fget (fRELPEER_SLOT peer))).mat) (nats ([0x52] ++ beBytes 1 (bits (be b 3 1) 7 1) ++ [0, 0] ++ beBytes 8 (be b 12 8))) (nats (b.take (b.length - 16))) []) = b.drop (b.length - 16) ∧
      (s.kep.eicSeen.contains (peer, be b 4 8) = true ∧ be b 12 8 ≤ s.fget (fRELPEER_LASTEIC peer))) ∧
    (∃ (b : List Byte) (s : State) (peer : Nat) (rs : List (RxPath × List Byte)) (eng : Nat) (u : State),
      s.clocked = true ∧
      s.flag fRELCFG_EN = true ∧
      s.peerOf (be b 4 8) = some peer ∧
      (40 ≤ b.length ∧ b.length ≤ s.fget fRELCFG_MAXLEN ∧ be b 0 2 = 0x4B52 ∧ be b 2 1 = 1 ∧ bits (be b 3 1) 5 2 = 0 ∧ 1 ≤ (bits (be b 3 1) 0 5) ∧ (bits (be b 3 1) 0 5) ≤ 16 ∧ be b 20 4 = 0) ∧
      relayRecords peer (bits (be b 3 1) 0 5) ((b.take (b.length - 16)).drop 24) = some rs ∧
      s.aePick (s.slot (s.fget (fRELPEER_SLOT peer))).mask = some eng ∧
      (s.slot (s.fget (fRELPEER_SLOT peer))).typ = ktAes256 ∧
      ofNats (gcmTag (nats (s.slot (s.fget (fRELPEER_SLOT peer))).mat) (nats ([0x52] ++ beBytes 1 (bits (be b 3 1) 7 1) ++ [0, 0] ++ beBytes 8 (be b 12 8))) (nats (b.take (b.length - 16))) []) = b.drop (b.length - 16) ∧
      ¬ (s.kep.eicSeen.contains (peer, be b 4 8) = true ∧ be b 12 8 ≤ s.fget (fRELPEER_LASTEIC peer)) ∧
      bits (be b 3 1) 7 1 = 1 ∧
      u = (((s.aeCount eng false).fset (fRELPEER_LASTEIC peer) (be b 12 8)).setKep { (s.aeCount eng false).kep with eicSeen := (peer, be b 4 8) :: s.kep.eicSeen.filter (·.1 ≠ peer) })) ∧
    (∃ (b : List Byte) (s : State) (peer : Nat) (rs : List (RxPath × List Byte)) (eng : Nat) (u : State),
      s.clocked = true ∧
      s.flag fRELCFG_EN = true ∧
      s.peerOf (be b 4 8) = some peer ∧
      (40 ≤ b.length ∧ b.length ≤ s.fget fRELCFG_MAXLEN ∧ be b 0 2 = 0x4B52 ∧ be b 2 1 = 1 ∧ bits (be b 3 1) 5 2 = 0 ∧ 1 ≤ (bits (be b 3 1) 0 5) ∧ (bits (be b 3 1) 0 5) ≤ 16 ∧ be b 20 4 = 0) ∧
      relayRecords peer (bits (be b 3 1) 0 5) ((b.take (b.length - 16)).drop 24) = some rs ∧
      s.aePick (s.slot (s.fget (fRELPEER_SLOT peer))).mask = some eng ∧
      (s.slot (s.fget (fRELPEER_SLOT peer))).typ = ktAes256 ∧
      ofNats (gcmTag (nats (s.slot (s.fget (fRELPEER_SLOT peer))).mat) (nats ([0x52] ++ beBytes 1 (bits (be b 3 1) 7 1) ++ [0, 0] ++ beBytes 8 (be b 12 8))) (nats (b.take (b.length - 16))) []) = b.drop (b.length - 16) ∧
      ¬ (s.kep.eicSeen.contains (peer, be b 4 8) = true ∧ be b 12 8 ≤ s.fget (fRELPEER_LASTEIC peer)) ∧
      bits (be b 3 1) 7 1 = 0 ∧
      u = (((s.aeCount eng false).fset (fRELPEER_LASTEIC peer) (be b 12 8)).setKep { (s.aeCount eng false).kep with eicSeen := (peer, be b 4 8) :: s.kep.eicSeen.filter (·.1 ≠ peer) })) ∧
    (∃ (b : List Byte) (s : State) (peer : Nat) (p : RxPath) (f : List Byte) (eng : Nat) (u : State),
      s.clocked = true ∧
      s.flag fRELCFG_EN = true ∧
      s.peerOf (be b 4 8) = some peer ∧
      (40 ≤ b.length ∧ b.length ≤ s.fget fRELCFG_MAXLEN ∧ be b 0 2 = 0x4B52 ∧ be b 2 1 = 1 ∧ bits (be b 3 1) 5 2 = 0 ∧ 1 ≤ (bits (be b 3 1) 0 5) ∧ (bits (be b 3 1) 0 5) ≤ 16 ∧ be b 20 4 = 0) ∧
      relayRecords peer (bits (be b 3 1) 0 5) ((b.take (b.length - 16)).drop 24) = some [(p, f)] ∧
      s.aePick (s.slot (s.fget (fRELPEER_SLOT peer))).mask = some eng ∧
      (s.slot (s.fget (fRELPEER_SLOT peer))).typ = ktAes256 ∧
      ofNats (gcmTag (nats (s.slot (s.fget (fRELPEER_SLOT peer))).mat) (nats ([0x52] ++ beBytes 1 (bits (be b 3 1) 7 1) ++ [0, 0] ++ beBytes 8 (be b 12 8))) (nats (b.take (b.length - 16))) []) = b.drop (b.length - 16) ∧
      ¬ (s.kep.eicSeen.contains (peer, be b 4 8) = true ∧ be b 12 8 ≤ s.fget (fRELPEER_LASTEIC peer)) ∧
      bits (be b 3 1) 7 1 = 0 ∧
      (KepFrame.parse f).shaped = true ∧
      u = (((s.aeCount eng false).fset (fRELPEER_LASTEIC peer) (be b 12 8)).setKep { (s.aeCount eng false).kep with eicSeen := (peer, be b 4 8) :: s.kep.eicSeen.filter (·.1 ≠ peer) })) ∧
    (∃ (n : Nat) (s : State),
      s.clocked = true ∧
      s.kep.rel[n]? = none) ∧
    (∃ (n : Nat) (s : State) (j : RelJob),
      s.clocked = true ∧
      s.kep.rel[n]? = some j ∧
      s.pastAckWin j.since = true) ∧
    (∃ (n : Nat) (s : State) (j : RelJob),
      s.clocked = true ∧
      s.kep.rel[n]? = some j ∧
      s.pastAckWin j.since = false ∧
      (s.chip < j.path.ts ∨ s.txEnabled = false)) :=
  ⟨⟨tEnv.set 103 0, tRel, 0, (relayRecords 0 1 ((tEnv.take (tEnv.length - 16)).drop 24)).getD [], by decide +kernel⟩,
   ⟨tEnv, (tRel.setKep { tRel.kep with eicSeen := [(0, 5)] }).fset (fRELPEER_LASTEIC 0) 1, 0, (relayRecords 0 1 ((tEnv.take (tEnv.length - 16)).drop 24)).getD [], 0, by decide +kernel⟩,
   ⟨tEnv, tRel, 0, (relayRecords 0 1 ((tEnv.take (tEnv.length - 16)).drop 24)).getD [], 0, (((((tRel : State).aeCount (0 : Nat) false).fset (fRELPEER_LASTEIC (0 : Nat)) (be (tEnv : List Byte) 12 8)).setKep { ((tRel : State).aeCount (0 : Nat) false).kep with eicSeen := ((0 : Nat), be (tEnv : List Byte) 4 8) :: (tRel : State).kep.eicSeen.filter (·.1 ≠ (0 : Nat)) })), by decide +kernel⟩,
   ⟨tEnvUp, tRel, 0, (relayRecords 0 1 ((tEnvUp.take (tEnvUp.length - 16)).drop 24)).getD [], 0, (((((tRel : State).aeCount (0 : Nat) false).fset (fRELPEER_LASTEIC (0 : Nat)) (be (tEnvUp : List Byte) 12 8)).setKep { ((tRel : State).aeCount (0 : Nat) false).kep with eicSeen := ((0 : Nat), be (tEnvUp : List Byte) 4 8) :: (tRel : State).kep.eicSeen.filter (·.1 ≠ (0 : Nat)) })), by decide +kernel⟩,
   ⟨tEnvUp, tRel, 0, { peer := some 0 }, tUp, 0, (((((tRel : State).aeCount (0 : Nat) false).fset (fRELPEER_LASTEIC (0 : Nat)) (be (tEnvUp : List Byte) 12 8)).setKep { ((tRel : State).aeCount (0 : Nat) false).kep with eicSeen := ((0 : Nat), be (tEnvUp : List Byte) 4 8) :: (tRel : State).kep.eicSeen.filter (·.1 ≠ (0 : Nat)) })), by decide +kernel⟩,
   ⟨0, tDown.setKep { tDown.kep with out := [{ port := 0, link := 0, group := 0, kind := 1, frame := [1], since := 0, ackBy := some 4 }] }, by decide +kernel⟩,
   ⟨0, (tRel.setKep { tRel.kep with rel := [⟨{}, [1], 5⟩] }).setTime { raw := 2000000000000 }, ⟨{}, [1], 5⟩, by decide +kernel⟩,
   ⟨0, (tRel.setKep { tRel.kep with rel := [⟨{}, [1], 5⟩] }).setFlag fTWNSTAT_GATE false, ⟨{}, [1], 5⟩, by decide +kernel⟩⟩

/-- The hypotheses of DownlinkFramesAndKeys can be met: part 7. -/
theorem test_meets_downlink_frames_and_keys_7 :
    (∃ (n : Nat) (s : State) (j : RelJob),
      s.clocked = true ∧
      s.kep.rel[n]? = some j ∧
      s.pastAckWin j.since = false ∧
      j.path.ts ≤ s.chip ∧
      s.txEnabled = true ∧
      j.path.peer = none ∧
      j.path.chip = none) :=
  ⟨0, tRel.setKep { tRel.kep with rel := [⟨{}, [1], 5⟩] }, ⟨{}, [1], 5⟩, by decide +kernel⟩

/-- The hypotheses of AesJobs can be met: part 1. -/
theorem test_meets_aes_jobs_1 :
    (∃ (e : Fin 4) (waits : Bool) (s : State) (d : List GReg) (j : AesJob) (key : List Byte) (f : Bool) (u : State),
      s.clocked = true ∧
      s.flag fAESCFG_EN = true ∧
      s.fenced (4 + e.val) = false ∧
      s.holdsDone (s.fget fAESCFG_DONEQ) e.val = false ∧
      (waits = false ∨ s.swShare e.val = true) ∧
      s.frontJob (s.fget fAESCFG_JOBQ) = some d ∧
      j = AesJob.parse d ∧
      j.mode = 0 ∧
      s.mode ≠ modeBoot ∧
      j.ok = true ∧
      s.engineRange j.src j.srcLen = true ∧
      s.engineRange j.dst (j.msglen + j.taglen) = true ∧
      (s.dequeued (s.fget fAESCFG_JOBQ)).aesKey j e.val = (.done, key, f) ∧
      u = (s.dequeued (s.fget fAESCFG_JOBQ)).touch j.src j.srcLen ∧
      u.poisonedIn j.src j.srcLen = false) ∧
    (∃ (e : Fin 4) (waits : Bool) (s : State) (d : List GReg) (j : AesJob) (key : List Byte) (f : Bool) (u : State),
      s.clocked = true ∧
      s.flag fAESCFG_EN = true ∧
      s.fenced (4 + e.val) = false ∧
      s.holdsDone (s.fget fAESCFG_DONEQ) e.val = false ∧
      (waits = false ∨ s.swShare e.val = true) ∧
      s.frontJob (s.fget fAESCFG_JOBQ) = some d ∧
      j = AesJob.parse d ∧
      j.mode = 1 ∧
      s.mode ≠ modeBoot ∧
      j.ok = true ∧
      s.engineRange j.src j.srcLen = true ∧
      s.engineRange j.dst (j.msglen) = true ∧
      (s.dequeued (s.fget fAESCFG_JOBQ)).aesKey j e.val = (.done, key, f) ∧
      u = (s.dequeued (s.fget fAESCFG_JOBQ)).touch j.src j.srcLen ∧
      u.poisonedIn j.src j.srcLen = false ∧
      (gcmTag (nats key) (nats ((u.bytes j.src j.srcLen).take j.ivlen)) (nats (((u.bytes j.src j.srcLen).drop j.ivlen).take j.aadlen)) (nats (((u.bytes j.src j.srcLen).drop (j.ivlen + j.aadlen)).take j.msglen))).take j.taglen = (nats ((u.bytes j.src j.srcLen).drop (j.ivlen + j.aadlen + j.msglen)))) ∧
    (∃ (e : Fin 4) (waits : Bool) (s : State) (d : List GReg) (j : AesJob) (key : List Byte) (f : Bool) (u : State),
      s.clocked = true ∧
      s.flag fAESCFG_EN = true ∧
      s.fenced (4 + e.val) = false ∧
      s.holdsDone (s.fget fAESCFG_DONEQ) e.val = false ∧
      (waits = false ∨ s.swShare e.val = true) ∧
      s.frontJob (s.fget fAESCFG_JOBQ) = some d ∧
      j = AesJob.parse d ∧
      j.mode = 2 ∧
      s.mode ≠ modeBoot ∧
      j.ok = true ∧
      s.engineRange j.src j.srcLen = true ∧
      s.engineRange j.dst (j.msglen + j.taglen) = true ∧
      (s.dequeued (s.fget fAESCFG_JOBQ)).aesKey j e.val = (.done, key, f) ∧
      u = (s.dequeued (s.fget fAESCFG_JOBQ)).touch j.src j.srcLen ∧
      u.poisonedIn j.src j.srcLen = false) ∧
    (∃ (e : Fin 4) (waits : Bool) (s : State) (d : List GReg) (j : AesJob) (key : List Byte) (f : Bool) (u : State),
      s.clocked = true ∧
      s.flag fAESCFG_EN = true ∧
      s.fenced (4 + e.val) = false ∧
      s.holdsDone (s.fget fAESCFG_DONEQ) e.val = false ∧
      (waits = false ∨ s.swShare e.val = true) ∧
      s.frontJob (s.fget fAESCFG_JOBQ) = some d ∧
      j = AesJob.parse d ∧
      j.mode = 3 ∧
      s.mode ≠ modeBoot ∧
      j.ok = true ∧
      s.engineRange j.src j.srcLen = true ∧
      s.engineRange j.dst (j.msglen) = true ∧
      (s.dequeued (s.fget fAESCFG_JOBQ)).aesKey j e.val = (.done, key, f) ∧
      u = (s.dequeued (s.fget fAESCFG_JOBQ)).touch j.src j.srcLen ∧
      u.poisonedIn j.src j.srcLen = false ∧
      ccmTag (nats key) (nats ((u.bytes j.src j.srcLen).take j.ivlen)) (nats (((u.bytes j.src j.srcLen).drop j.ivlen).take j.aadlen)) (ccmCrypt (nats key) (nats ((u.bytes j.src j.srcLen).take j.ivlen)) (nats (((u.bytes j.src j.srcLen).drop (j.ivlen + j.aadlen)).take j.msglen))) j.taglen = (nats ((u.bytes j.src j.srcLen).drop (j.ivlen + j.aadlen + j.msglen)))) ∧
    (∃ (e : Fin 4) (waits : Bool) (s : State) (d : List GReg) (j : AesJob) (key : List Byte) (f : Bool) (u : State),
      s.clocked = true ∧
      s.flag fAESCFG_EN = true ∧
      s.fenced (4 + e.val) = false ∧
      s.holdsDone (s.fget fAESCFG_DONEQ) e.val = false ∧
      (waits = false ∨ s.swShare e.val = true) ∧
      s.frontJob (s.fget fAESCFG_JOBQ) = some d ∧
      j = AesJob.parse d ∧
      j.mode = 4 ∧
      s.mode ≠ modeBoot ∧
      j.ok = true ∧
      s.engineRange j.src j.srcLen = true ∧
      s.engineRange j.dst (j.msglen) = true ∧
      (s.dequeued (s.fget fAESCFG_JOBQ)).aesKey j e.val = (.done, key, f) ∧
      u = (s.dequeued (s.fget fAESCFG_JOBQ)).touch j.src j.srcLen ∧
      u.poisonedIn j.src j.srcLen = false) ∧
    (∃ (e : Fin 4) (waits : Bool) (s : State) (d : List GReg) (j : AesJob) (key : List Byte) (f : Bool) (u : State),
      s.clocked = true ∧
      s.flag fAESCFG_EN = true ∧
      s.fenced (4 + e.val) = false ∧
      s.holdsDone (s.fget fAESCFG_DONEQ) e.val = false ∧
      (waits = false ∨ s.swShare e.val = true) ∧
      s.frontJob (s.fget fAESCFG_JOBQ) = some d ∧
      j = AesJob.parse d ∧
      j.mode = 5 ∧
      s.mode ≠ modeBoot ∧
      j.ok = true ∧
      s.engineRange j.src j.srcLen = true ∧
      s.engineRange j.dst (j.taglen) = true ∧
      (s.dequeued (s.fget fAESCFG_JOBQ)).aesKey j e.val = (.done, key, f) ∧
      u = (s.dequeued (s.fget fAESCFG_JOBQ)).touch j.src j.srcLen ∧
      u.poisonedIn j.src j.srcLen = false) ∧
    (∃ (e : Fin 4) (waits : Bool) (s : State) (d : List GReg) (j : AesJob) (key : List Byte) (f : Bool) (u : State),
      s.clocked = true ∧
      s.flag fAESCFG_EN = true ∧
      s.fenced (4 + e.val) = false ∧
      s.holdsDone (s.fget fAESCFG_DONEQ) e.val = false ∧
      (waits = false ∨ s.swShare e.val = true) ∧
      s.frontJob (s.fget fAESCFG_JOBQ) = some d ∧
      j = AesJob.parse d ∧
      j.mode = 6 ∧
      s.mode ≠ modeBoot ∧
      j.ok = true ∧
      s.engineRange j.src j.srcLen = true ∧
      s.engineRange j.dst (0) = true ∧
      (s.dequeued (s.fget fAESCFG_JOBQ)).aesKey j e.val = (.done, key, f) ∧
      u = (s.dequeued (s.fget fAESCFG_JOBQ)).touch j.src j.srcLen ∧
      u.poisonedIn j.src j.srcLen = false ∧
      (aesCmac (nats key) (nats (((u.bytes j.src j.srcLen).drop (j.ivlen + j.aadlen)).take j.msglen))).take j.taglen = (nats ((u.bytes j.src j.srcLen).drop (j.ivlen + j.aadlen + j.msglen)))) ∧
    (∃ (e : Fin 4) (waits : Bool) (s : State) (d : List GReg) (j : AesJob) (key : List Byte) (f : Bool) (u : State),
      s.clocked = true ∧
      s.flag fAESCFG_EN = true ∧
      s.fenced (4 + e.val) = false ∧
      s.holdsDone (s.fget fAESCFG_DONEQ) e.val = false ∧
      (waits = false ∨ s.swShare e.val = true) ∧
      s.frontJob (s.fget fAESCFG_JOBQ) = some d ∧
      j = AesJob.parse d ∧
      j.mode = 1 ∧
      s.mode ≠ modeBoot ∧
      j.ok = true ∧
      s.engineRange j.src j.srcLen = true ∧
      s.engineRange j.dst (j.msglen) = true ∧
      (s.dequeued (s.fget fAESCFG_JOBQ)).aesKey j e.val = (.done, key, f) ∧
      u = (s.dequeued (s.fget fAESCFG_JOBQ)).touch j.src j.srcLen ∧
      u.poisonedIn j.src j.srcLen = false ∧
      (gcmTag (nats key) (nats ((u.bytes j.src j.srcLen).take j.ivlen)) (nats (((u.bytes j.src j.srcLen).drop j.ivlen).take j.aadlen)) (nats (((u.bytes j.src j.srcLen).drop (j.ivlen + j.aadlen)).take j.msglen))).take j.taglen ≠ (nats ((u.bytes j.src j.srcLen).drop (j.ivlen + j.aadlen + j.msglen)))) :=
  ⟨⟨0, false, tAes 0 12 12 0 1 ([]), (tAes 0 12 12 0 1 ([])).front 1, _, List.replicate 32 1, false, _, by decide +kernel, by decide +kernel, by decide +kernel, by decide +kernel, by decide +kernel, by decide +kernel, rfl, by decide +kernel, by decide +kernel, by decide +kernel, by decide +kernel, by decide +kernel, by decide +kernel, rfl, by decide +kernel⟩,
   ⟨0, false, tAes 1 12 12 0 1 (tGcm), (tAes 1 12 12 0 1 (tGcm)).front 1, _, List.replicate 32 1, false, _, by decide +kernel, by decide +kernel, by decide +kernel, by decide +kernel, by decide +kernel, by decide +kernel, rfl, by decide +kernel, by decide +kernel, by decide +kernel, by decide +kernel, by decide +kernel, by decide +kernel, rfl, by decide +kernel, by decide +kernel⟩,
   ⟨0, false, tAes 2 13 4 0 1 ([]), (tAes 2 13 4 0 1 ([])).front 1, _, List.replicate 32 1, false, _, by decide +kernel, by decide +kernel, by decide +kernel, by decide +kernel, by decide +kernel, by decide +kernel, rfl, by decide +kernel, by decide +kernel, by decide +kernel, by decide +kernel, by decide +kernel, by decide +kernel, rfl, by decide +kernel⟩,
   ⟨0, false, tAes 3 13 4 0 1 (tCcm), (tAes 3 13 4 0 1 (tCcm)).front 1, _, List.replicate 32 1, false, _, by decide +kernel, by decide +kernel, by decide +kernel, by decide +kernel, by decide +kernel, by decide +kernel, rfl, by decide +kernel, by decide +kernel, by decide +kernel, by decide +kernel, by decide +kernel, by decide +kernel, rfl, by decide +kernel, by decide +kernel⟩,
   ⟨0, false, tAes 4 16 0 0 1 ([]), (tAes 4 16 0 0 1 ([])).front 1, _, List.replicate 32 1, false, _, by decide +kernel, by decide +kernel, by decide +kernel, by decide +kernel, by decide +kernel, by decide +kernel, rfl, by decide +kernel, by decide +kernel, by decide +kernel, by decide +kernel, by decide +kernel, by decide +kernel, rfl, by decide +kernel⟩,
   ⟨0, false, tAes 5 0 8 0 1 ([]), (tAes 5 0 8 0 1 ([])).front 1, _, List.replicate 32 1, false, _, by decide +kernel, by decide +kernel, by decide +kernel, by decide +kernel, by decide +kernel, by decide +kernel, rfl, by decide +kernel, by decide +kernel, by decide +kernel, by decide +kernel, by decide +kernel, by decide +kernel, rfl, by decide +kernel⟩,
   ⟨0, false, tAes 6 0 8 0 1 tCmac, (tAes 6 0 8 0 1 tCmac).front 1, _, List.replicate 32 1, false, _, by decide +kernel, by decide +kernel, by decide +kernel, by decide +kernel, by decide +kernel, by decide +kernel, rfl, by decide +kernel, by decide +kernel, by decide +kernel, by decide +kernel, by decide +kernel, by decide +kernel, rfl, by decide +kernel, by decide +kernel⟩,
   ⟨0, false, tAes 1 12 12 0 1 (tGcm.set 0 9), (tAes 1 12 12 0 1 (tGcm.set 0 9)).front 1, _, List.replicate 32 1, false, _, by decide +kernel, by decide +kernel, by decide +kernel, by decide +kernel, by decide +kernel, by decide +kernel, rfl, by decide +kernel, by decide +kernel, by decide +kernel, by decide +kernel, by decide +kernel, by decide +kernel, rfl, by decide +kernel, by decide +kernel⟩⟩

/-- The hypotheses of AesJobs can be met: part 2. -/
theorem test_meets_aes_jobs_2 :
    (∃ (e : Fin 4) (waits : Bool) (s : State) (d : List GReg) (j : AesJob) (key : List Byte) (f : Bool) (u : State),
      s.clocked = true ∧
      s.flag fAESCFG_EN = true ∧
      s.fenced (4 + e.val) = false ∧
      s.holdsDone (s.fget fAESCFG_DONEQ) e.val = false ∧
      (waits = false ∨ s.swShare e.val = true) ∧
      s.frontJob (s.fget fAESCFG_JOBQ) = some d ∧
      j = AesJob.parse d ∧
      j.mode = 3 ∧
      s.mode ≠ modeBoot ∧
      j.ok = true ∧
      s.engineRange j.src j.srcLen = true ∧
      s.engineRange j.dst (j.msglen) = true ∧
      (s.dequeued (s.fget fAESCFG_JOBQ)).aesKey j e.val = (.done, key, f) ∧
      u = (s.dequeued (s.fget fAESCFG_JOBQ)).touch j.src j.srcLen ∧
      u.poisonedIn j.src j.srcLen = false ∧
      ccmTag (nats key) (nats ((u.bytes j.src j.srcLen).take j.ivlen)) (nats (((u.bytes j.src j.srcLen).drop j.ivlen).take j.aadlen)) (ccmCrypt (nats key) (nats ((u.bytes j.src j.srcLen).take j.ivlen)) (nats (((u.bytes j.src j.srcLen).drop (j.ivlen + j.aadlen)).take j.msglen))) j.taglen ≠ (nats ((u.bytes j.src j.srcLen).drop (j.ivlen + j.aadlen + j.msglen)))) ∧
    (∃ (e : Fin 4) (waits : Bool) (s : State) (d : List GReg) (j : AesJob) (key : List Byte) (f : Bool) (u : State),
      s.clocked = true ∧
      s.flag fAESCFG_EN = true ∧
      s.fenced (4 + e.val) = false ∧
      s.holdsDone (s.fget fAESCFG_DONEQ) e.val = false ∧
      (waits = false ∨ s.swShare e.val = true) ∧
      s.frontJob (s.fget fAESCFG_JOBQ) = some d ∧
      j = AesJob.parse d ∧
      j.mode = 6 ∧
      s.mode ≠ modeBoot ∧
      j.ok = true ∧
      s.engineRange j.src j.srcLen = true ∧
      s.engineRange j.dst (0) = true ∧
      (s.dequeued (s.fget fAESCFG_JOBQ)).aesKey j e.val = (.done, key, f) ∧
      u = (s.dequeued (s.fget fAESCFG_JOBQ)).touch j.src j.srcLen ∧
      u.poisonedIn j.src j.srcLen = false ∧
      (aesCmac (nats key) (nats (((u.bytes j.src j.srcLen).drop (j.ivlen + j.aadlen)).take j.msglen))).take j.taglen ≠ (nats ((u.bytes j.src j.srcLen).drop (j.ivlen + j.aadlen + j.msglen)))) ∧
    (∃ (c : Instr) (m : Fin 7) (e : Fin 4) (waits : Bool) (s : State),
      s.clocked = true ∧
      c = (match m.val with | 0 => Instr.aesGcmEncrypt e waits | 1 => Instr.aesGcmDecrypt e waits | 2 => Instr.aesCcmEncrypt e waits | 3 => Instr.aesCcmDecrypt e waits | 4 => Instr.aesCtr e waits | 5 => Instr.aesCmacGenerate e waits | _ => Instr.aesCmacVerify e waits) ∧
      (s.flag fAESCFG_EN = false ∨ s.fenced (4 + e.val) = true ∨ s.holdsDone (s.fget fAESCFG_DONEQ) e.val = true ∨ (waits = true ∧ s.swShare e.val = false) ∨ (s.frontJob (s.fget fAESCFG_JOBQ)).all (fun d => (AesJob.parse d).mode ≠ m.val && (m.val ≠ 0 || (AesJob.parse d).mode ≤ 6)) = true)) ∧
    (∃ (c : Instr) (m : Fin 7) (e : Fin 4) (waits : Bool) (s : State) (d : List GReg) (j : AesJob),
      s.clocked = true ∧
      c = (match m.val with | 0 => Instr.aesGcmEncrypt e waits | 1 => Instr.aesGcmDecrypt e waits | 2 => Instr.aesCcmEncrypt e waits | 3 => Instr.aesCcmDecrypt e waits | 4 => Instr.aesCtr e waits | 5 => Instr.aesCmacGenerate e waits | _ => Instr.aesCmacVerify e waits) ∧
      s.flag fAESCFG_EN = true ∧
      s.fenced (4 + e.val) = false ∧
      s.holdsDone (s.fget fAESCFG_DONEQ) e.val = false ∧
      (waits = false ∨ s.swShare e.val = true) ∧
      s.frontJob (s.fget fAESCFG_JOBQ) = some d ∧
      j = (AesJob.parse d) ∧
      (j.mode = m.val ∨ (m.val = 0 ∧ 6 < j.mode)) ∧
      s.mode = modeBoot) ∧
    (∃ (c : Instr) (m : Fin 7) (e : Fin 4) (waits : Bool) (s : State) (d : List GReg) (j : AesJob),
      s.clocked = true ∧
      c = (match m.val with | 0 => Instr.aesGcmEncrypt e waits | 1 => Instr.aesGcmDecrypt e waits | 2 => Instr.aesCcmEncrypt e waits | 3 => Instr.aesCcmDecrypt e waits | 4 => Instr.aesCtr e waits | 5 => Instr.aesCmacGenerate e waits | _ => Instr.aesCmacVerify e waits) ∧
      s.flag fAESCFG_EN = true ∧
      s.fenced (4 + e.val) = false ∧
      s.holdsDone (s.fget fAESCFG_DONEQ) e.val = false ∧
      (waits = false ∨ s.swShare e.val = true) ∧
      s.frontJob (s.fget fAESCFG_JOBQ) = some d ∧
      j = (AesJob.parse d) ∧
      (j.mode = m.val ∨ (m.val = 0 ∧ 6 < j.mode)) ∧
      s.mode ≠ modeBoot ∧
      j.ok = false) ∧
    (∃ (c : Instr) (m : Fin 7) (e : Fin 4) (waits : Bool) (s : State) (d : List GReg) (j : AesJob),
      s.clocked = true ∧
      c = (match m.val with | 0 => Instr.aesGcmEncrypt e waits | 1 => Instr.aesGcmDecrypt e waits | 2 => Instr.aesCcmEncrypt e waits | 3 => Instr.aesCcmDecrypt e waits | 4 => Instr.aesCtr e waits | 5 => Instr.aesCmacGenerate e waits | _ => Instr.aesCmacVerify e waits) ∧
      s.flag fAESCFG_EN = true ∧
      s.fenced (4 + e.val) = false ∧
      s.holdsDone (s.fget fAESCFG_DONEQ) e.val = false ∧
      (waits = false ∨ s.swShare e.val = true) ∧
      s.frontJob (s.fget fAESCFG_JOBQ) = some d ∧
      j = (AesJob.parse d) ∧
      (j.mode = m.val ∨ (m.val = 0 ∧ 6 < j.mode)) ∧
      s.mode ≠ modeBoot ∧
      j.ok = true ∧
      (s.engineRange j.src j.srcLen = false ∨ s.engineRange j.dst j.outLen = false)) ∧
    (∃ (c : Instr) (m : Fin 7) (e : Fin 4) (waits : Bool) (s : State) (d : List GReg) (j : AesJob) (key : List Byte) (f : Bool) (status : Status),
      s.clocked = true ∧
      c = (match m.val with | 0 => Instr.aesGcmEncrypt e waits | 1 => Instr.aesGcmDecrypt e waits | 2 => Instr.aesCcmEncrypt e waits | 3 => Instr.aesCcmDecrypt e waits | 4 => Instr.aesCtr e waits | 5 => Instr.aesCmacGenerate e waits | _ => Instr.aesCmacVerify e waits) ∧
      s.flag fAESCFG_EN = true ∧
      s.fenced (4 + e.val) = false ∧
      s.holdsDone (s.fget fAESCFG_DONEQ) e.val = false ∧
      (waits = false ∨ s.swShare e.val = true) ∧
      s.frontJob (s.fget fAESCFG_JOBQ) = some d ∧
      j = (AesJob.parse d) ∧
      (j.mode = m.val ∨ (m.val = 0 ∧ 6 < j.mode)) ∧
      s.mode ≠ modeBoot ∧
      j.ok = true ∧
      s.engineRange j.src j.srcLen = true ∧
      s.engineRange j.dst j.outLen = true ∧
      (s.dequeued (s.fget fAESCFG_JOBQ)).aesKey j e.val = (status, key, f) ∧
      status ≠ .done) ∧
    (∃ (c : Instr) (m : Fin 7) (e : Fin 4) (waits : Bool) (s : State) (d : List GReg) (j : AesJob) (key : List Byte) (f : Bool),
      s.clocked = true ∧
      c = (match m.val with | 0 => Instr.aesGcmEncrypt e waits | 1 => Instr.aesGcmDecrypt e waits | 2 => Instr.aesCcmEncrypt e waits | 3 => Instr.aesCcmDecrypt e waits | 4 => Instr.aesCtr e waits | 5 => Instr.aesCmacGenerate e waits | _ => Instr.aesCmacVerify e waits) ∧
      s.flag fAESCFG_EN = true ∧
      s.fenced (4 + e.val) = false ∧
      s.holdsDone (s.fget fAESCFG_DONEQ) e.val = false ∧
      (waits = false ∨ s.swShare e.val = true) ∧
      s.frontJob (s.fget fAESCFG_JOBQ) = some d ∧
      j = (AesJob.parse d) ∧
      (j.mode = m.val ∨ (m.val = 0 ∧ 6 < j.mode)) ∧
      s.mode ≠ modeBoot ∧
      j.ok = true ∧
      s.engineRange j.src j.srcLen = true ∧
      s.engineRange j.dst j.outLen = true ∧
      (s.dequeued (s.fget fAESCFG_JOBQ)).aesKey j e.val = (.done, key, f) ∧
      ((s.dequeued (s.fget fAESCFG_JOBQ)).touch j.src j.srcLen).poisonedIn j.src j.srcLen = true) :=
  ⟨⟨0, false, tAes 3 13 4 0 1 (tCcm.set 0 9), (tAes 3 13 4 0 1 (tCcm.set 0 9)).front 1, _, List.replicate 32 1, false, _, by decide +kernel, by decide +kernel, by decide +kernel, by decide +kernel, by decide +kernel, by decide +kernel, rfl, by decide +kernel, by decide +kernel, by decide +kernel, by decide +kernel, by decide +kernel, by decide +kernel, rfl, by decide +kernel, by decide +kernel⟩,
   ⟨0, false, tAes 6 0 8 0 1 (tCmac.set 0 9), (tAes 6 0 8 0 1 (tCmac.set 0 9)).front 1, _, List.replicate 32 1, false, _, by decide +kernel, by decide +kernel, by decide +kernel, by decide +kernel, by decide +kernel, by decide +kernel, rfl, by decide +kernel, by decide +kernel, by decide +kernel, by decide +kernel, by decide +kernel, by decide +kernel, rfl, by decide +kernel, by decide +kernel⟩,
   ⟨((match (1 : Fin 7).val with | 0 => Instr.aesGcmEncrypt (0 : Fin 4) (false : Bool) | 1 => Instr.aesGcmDecrypt (0 : Fin 4) (false : Bool) | 2 => Instr.aesCcmEncrypt (0 : Fin 4) (false : Bool) | 3 => Instr.aesCcmDecrypt (0 : Fin 4) (false : Bool) | 4 => Instr.aesCtr (0 : Fin 4) (false : Bool) | 5 => Instr.aesCmacGenerate (0 : Fin 4) (false : Bool) | _ => Instr.aesCmacVerify (0 : Fin 4) (false : Bool))), 1, 0, false, State.reset, by decide +kernel⟩,
   ⟨((match (1 : Fin 7).val with | 0 => Instr.aesGcmEncrypt (0 : Fin 4) (false : Bool) | 1 => Instr.aesGcmDecrypt (0 : Fin 4) (false : Bool) | 2 => Instr.aesCcmEncrypt (0 : Fin 4) (false : Bool) | 3 => Instr.aesCcmDecrypt (0 : Fin 4) (false : Bool) | 4 => Instr.aesCtr (0 : Fin 4) (false : Bool) | 5 => Instr.aesCmacGenerate (0 : Fin 4) (false : Bool) | _ => Instr.aesCmacVerify (0 : Fin 4) (false : Bool))), 1, 0, false, (tAes 1 12 12 0 1 (tGcm)).fset fMODESTAT_MODE modeBoot, (tAes 1 12 12 0 1 (tGcm)).front 1, ((AesJob.parse ((tAes 1 12 12 0 1 (tGcm)).front 1 : List GReg))), by decide +kernel⟩,
   ⟨((match (2 : Fin 7).val with | 0 => Instr.aesGcmEncrypt (0 : Fin 4) (false : Bool) | 1 => Instr.aesGcmDecrypt (0 : Fin 4) (false : Bool) | 2 => Instr.aesCcmEncrypt (0 : Fin 4) (false : Bool) | 3 => Instr.aesCcmDecrypt (0 : Fin 4) (false : Bool) | 4 => Instr.aesCtr (0 : Fin 4) (false : Bool) | 5 => Instr.aesCmacGenerate (0 : Fin 4) (false : Bool) | _ => Instr.aesCmacVerify (0 : Fin 4) (false : Bool))), 2, 0, false, tAes 2 14 4 0 1 ([]), (tAes 2 14 4 0 1 ([])).front 1, ((AesJob.parse ((tAes 2 14 4 0 1 ([])).front 1 : List GReg))), by decide +kernel⟩,
   ⟨((match (4 : Fin 7).val with | 0 => Instr.aesGcmEncrypt (0 : Fin 4) (false : Bool) | 1 => Instr.aesGcmDecrypt (0 : Fin 4) (false : Bool) | 2 => Instr.aesCcmEncrypt (0 : Fin 4) (false : Bool) | 3 => Instr.aesCcmDecrypt (0 : Fin 4) (false : Bool) | 4 => Instr.aesCtr (0 : Fin 4) (false : Bool) | 5 => Instr.aesCmacGenerate (0 : Fin 4) (false : Bool) | _ => Instr.aesCmacVerify (0 : Fin 4) (false : Bool))), 4, 0, false, ((tAes 4 16 0 0 1 ([])).fset (fDDRSTAT_SIZE 0) 0), (tAes 4 16 0 0 1 ([])).front 1, ((AesJob.parse ((tAes 4 16 0 0 1 ([])).front 1 : List GReg))), by decide +kernel⟩,
   ⟨((match (5 : Fin 7).val with | 0 => Instr.aesGcmEncrypt (0 : Fin 4) (false : Bool) | 1 => Instr.aesGcmDecrypt (0 : Fin 4) (false : Bool) | 2 => Instr.aesCcmEncrypt (0 : Fin 4) (false : Bool) | 3 => Instr.aesCcmDecrypt (0 : Fin 4) (false : Bool) | 4 => Instr.aesCtr (0 : Fin 4) (false : Bool) | 5 => Instr.aesCmacGenerate (0 : Fin 4) (false : Bool) | _ => Instr.aesCmacVerify (0 : Fin 4) (false : Bool))), 5, 0, false, (tAes 5 0 8 0 1 ([])).setSlot 1 {}, (tAes 5 0 8 0 1 ([])).front 1, ((AesJob.parse ((tAes 5 0 8 0 1 ([])).front 1 : List GReg))), [], false, .keyEmpty, by decide +kernel⟩,
   ⟨((match (6 : Fin 7).val with | 0 => Instr.aesGcmEncrypt (0 : Fin 4) (false : Bool) | 1 => Instr.aesGcmDecrypt (0 : Fin 4) (false : Bool) | 2 => Instr.aesCcmEncrypt (0 : Fin 4) (false : Bool) | 3 => Instr.aesCcmDecrypt (0 : Fin 4) (false : Bool) | 4 => Instr.aesCtr (0 : Fin 4) (false : Bool) | 5 => Instr.aesCmacGenerate (0 : Fin 4) (false : Bool) | _ => Instr.aesCmacVerify (0 : Fin 4) (false : Bool))), 6, 0, false, tPois (tAes 6 0 8 0 1 (tCmac)), (tAes 6 0 8 0 1 (tCmac)).front 1, ((AesJob.parse ((tAes 6 0 8 0 1 (tCmac)).front 1 : List GReg))), List.replicate 32 1, false, by decide +kernel⟩⟩

/-- The hypotheses of CampaignsAndSetpoints can be met: part 1. -/
theorem test_meets_campaigns_and_setpoints_1 :
    (∃ (a : Agent) (n : Fin 4) (v : BitVec 256) (s : State),
      s.writes a (rFWCAMP n.val) = true ∧
      s.flag (fFWCAMP_OPEN n.val) = false ∧
      1 ≤ (fFWCAMP_NBLK n.val).of v.toNat ∧
      (fFWCAMP_NBLK n.val).of v.toNat ≤ 4096 ∧
      (fFWCAMP_IMAGE n.val).of v.toNat % 1024 = 0 ∧
      (fFWCAMP_BITMAP n.val).of v.toNat % 64 = 0) ∧
    (∃ (a : Agent) (n : Fin 4) (v : BitVec 256) (s : State),
      s.writes a (rFWCAMP n.val) = true ∧
      s.flag (fFWCAMP_OPEN n.val) = false ∧
      ((fFWCAMP_NBLK n.val).of v.toNat = 0 ∨ 4096 < (fFWCAMP_NBLK n.val).of v.toNat)) ∧
    (∃ (a : Agent) (n : Fin 4) (v : BitVec 256) (s : State),
      s.writes a (rFWCAMP n.val) = true ∧
      s.flag (fFWCAMP_OPEN n.val) = false ∧
      1 ≤ (fFWCAMP_NBLK n.val).of v.toNat ∧
      (fFWCAMP_NBLK n.val).of v.toNat ≤ 4096 ∧
      ((fFWCAMP_IMAGE n.val).of v.toNat % 1024 ≠ 0 ∨ (fFWCAMP_BITMAP n.val).of v.toNat % 64 ≠ 0)) ∧
    (∃ (a : Agent) (n : Fin 4) (v : BitVec 256) (s : State),
      s.writes a (rFWCAMP n.val) = true ∧
      s.flag (fFWCAMP_OPEN n.val) = true ∧
      ¬ ((fFWCAMP_CAMPAIGN n.val).of v.toNat = s.fget (fFWCAMP_CAMPAIGN n.val) ∧ (fFWCAMP_NBLK n.val).of v.toNat = s.fget (fFWCAMP_NBLK n.val) ∧ (fFWCAMP_MENDMAX n.val).of v.toNat = s.fget (fFWCAMP_MENDMAX n.val) ∧ (fFWCAMP_GROUP_ID n.val).of v.toNat = s.fget (fFWCAMP_GROUP_ID n.val) ∧ (fFWCAMP_IMAGE n.val).of v.toNat = s.fget (fFWCAMP_IMAGE n.val) ∧ (fFWCAMP_BITMAP n.val).of v.toNat = s.fget (fFWCAMP_BITMAP n.val) ∧ (fFWCAMP_QWAIT n.val).of v.toNat = s.fget (fFWCAMP_QWAIT n.val))) ∧
    (∃ (a : Agent) (n : Fin 4) (v : BitVec 256) (s : State),
      s.writes a (rFWCAMP n.val) = true ∧
      s.flag (fFWCAMP_OPEN n.val) = true ∧
      ((fFWCAMP_CAMPAIGN n.val).of v.toNat = s.fget (fFWCAMP_CAMPAIGN n.val) ∧ (fFWCAMP_NBLK n.val).of v.toNat = s.fget (fFWCAMP_NBLK n.val) ∧ (fFWCAMP_MENDMAX n.val).of v.toNat = s.fget (fFWCAMP_MENDMAX n.val) ∧ (fFWCAMP_GROUP_ID n.val).of v.toNat = s.fget (fFWCAMP_GROUP_ID n.val) ∧ (fFWCAMP_IMAGE n.val).of v.toNat = s.fget (fFWCAMP_IMAGE n.val) ∧ (fFWCAMP_BITMAP n.val).of v.toNat = s.fget (fFWCAMP_BITMAP n.val) ∧ (fFWCAMP_QWAIT n.val).of v.toNat = s.fget (fFWCAMP_QWAIT n.val))) ∧
    (∃ (a : Agent) (k : Fin 4) (slot : Fin 4096) (s : State) (eng : Nat),
      s.writes a (rSPARM k.val) = true ∧
      s.flag (fSPARM_ARMED k.val) = false ∧
      s.slotTx slot.val < s.slotCeil slot.val ∧
      (s.slot slot.val).typ ≠ 0 ∧
      s.aePick (s.slot slot.val).mask = some eng) ∧
    (∃ (a : Agent) (k : Fin 4) (s : State),
      s.writes a (rSPARM k.val) = true ∧
      s.flag (fSPARM_ARMED k.val) = true) ∧
    (∃ (a : Agent) (k : Fin 4) (slot : Fin 4096) (s : State),
      s.writes a (rSPARM k.val) = true ∧
      s.flag (fSPARM_ARMED k.val) = false ∧
      s.slotTx slot.val < s.slotCeil slot.val ∧
      (s.slot slot.val).typ = 0) :=
  ⟨⟨.port, 1, BitVec.ofNat 256 (fFWCAMP_NBLK 1 |>.lo |> (2 ^ ·)), State.reset, by decide +kernel⟩,
   ⟨.port, 1, 0, State.reset, by decide +kernel⟩,
   ⟨.port, 1, BitVec.ofNat 256 (2 ^ 32 + 2 ^ 128), State.reset, by decide +kernel⟩,
   ⟨.port, 1, BitVec.allOnes 256, State.reset.setFlag (fFWCAMP_OPEN 1) true, by decide +kernel⟩,
   ⟨.port, 1, BitVec.ofNat 256 (State.reset.reg (rFWCAMP 1)), State.reset.setFlag (fFWCAMP_OPEN 1) true, by decide +kernel⟩,
   ⟨.port, 1, 1, tSp, 0, by decide +kernel⟩,
   ⟨.port, 1, tSp.setFlag (fSPARM_ARMED 1) true, by decide +kernel⟩,
   ⟨.port, 1, 1, tSp.setSlot 1 {}, by decide +kernel⟩⟩

/-- The hypotheses of CampaignsAndSetpoints can be met: part 2. -/
theorem test_meets_campaigns_and_setpoints_2 :
    (∃ (a : Agent) (k : Fin 4) (slot : Fin 4096) (s : State),
      s.writes a (rSPARM k.val) = true ∧
      s.flag (fSPARM_ARMED k.val) = false ∧
      s.slotTx slot.val < s.slotCeil slot.val ∧
      (s.slot slot.val).typ ≠ 0 ∧
      s.aePick (s.slot slot.val).mask = none) ∧
    (∃ (a : Agent) (k : Fin 4) (slot : Fin 4096) (s : State),
      s.writes a (rSPARM k.val) = true ∧
      s.flag (fSPARM_ARMED k.val) = false ∧
      s.slotCeil slot.val ≤ s.slotTx slot.val ∧
      2 ^ 64 - 4096 < s.slotCeil slot.val + 4096) ∧
    (∃ (a : Agent) (k : Fin 4) (slot : Fin 4096) (s : State),
      s.writes a (rSPARM k.val) = true ∧
      s.flag (fSPARM_ARMED k.val) = false ∧
      s.slotCeil slot.val ≤ s.slotTx slot.val ∧
      s.slotCeil slot.val + 4096 ≤ 2 ^ 64 - 4096) ∧
    (∃ (n : Nat) (k : Fin 4) (g : Nat) (eng : Nat) (s : State),
      s.clocked = true ∧
      s.raiseDue true n = true ∧
      s.slotCeil n + 4096 ≤ 2 ^ 64 - 4096 ∧
      s.isActive = false ∧
      s.kep.down = [] ∧
      s.kep.envs = [] ∧
      n < 4096 ∧
      (s.sp k.val).wait = some (n, g) ∧
      (∀ m : Fin 4, m ≠ k → (s.sp m.val).wait = none) ∧
      s.flag (fSPARM_ARMED k.val) = false ∧
      s.slotTx n = s.slotCeil n ∧
      s.kep.slotIc.get natZero n ≠ 0 ∧
      (s.slot n).typ ≠ 0 ∧
      s.aePick (s.slot n).mask = some eng) ∧
    (∃ (a : Agent) (k : Fin 4) (s : State),
      s.writes a (rSPARM k.val) = true) ∧
    (∃ (k : Fin 4) (s : State),
      s.clocked = true ∧
      bit s.time.fired (4 + k.val) = false) ∧
    (∃ (k : Fin 4) (s : State),
      s.clocked = true ∧
      bit s.time.fired (4 + k.val) = true ∧
      (s.sp k.val).armed = false) ∧
    (∃ (k : Fin 4) (s : State),
      s.clocked = true ∧
      bit s.time.fired (4 + k.val) = true ∧
      (s.sp k.val).armed = true) :=
  ⟨⟨.port, 1, 1, tSp.setSlot 1 { typ := 2, mask := 0xC0 }, by decide +kernel⟩,
   ⟨.port, 1, 1, (tSp.setSlotCeil 1 (2 ^ 64 - 4096)).setSlotTx 1 (2 ^ 64 - 4096), by decide +kernel⟩,
   ⟨.port, 1, 1, tKep, by decide +kernel⟩,
   ⟨1, 1, 9, 0, (tSp.setSlotTx 1 4096).setSp 1 { wait := some (1, 9) }, by decide +kernel⟩,
   ⟨.port, 1, tSp.setFlag (fSPARM_ARMED 1) true, by decide +kernel⟩,
   ⟨1, State.reset, by decide +kernel⟩,
   ⟨1, tSp.setTime { tSp.time with fired := 32 }, by decide +kernel⟩,
   ⟨1, (tSp.setTime { tSp.time with fired := 32 }).setSp 1 { armed := true, frame := [1] }, by decide +kernel⟩⟩

/-- The hypotheses of EthernetAndPrefixes can be met: part 1. -/
theorem test_meets_ethernet_and_prefixes_1 :
    (∃ (k : Fin 2) (s : State),
      s.clocked = true ∧
      s.enUp k.val = false) ∧
    (∃ (k : Fin 2) (f : List Byte) (s : State),
      s.clocked = true ∧
      s.enUp k.val = true ∧
      s.enPayload k.val f = none) ∧
    (∃ (k : Fin 2) (f : List Byte) (s : State) (et : Nat) (p : List Byte),
      s.clocked = true ∧
      s.enUp k.val = true ∧
      s.enPayload k.val f = some (et, p) ∧
      et ≠ 0x86DD ∧
      et ≠ 0x88F7) ∧
    (∃ (k : Fin 2) (f : List Byte) (s : State) (p : List Byte),
      s.clocked = true ∧
      s.enUp k.val = true ∧
      s.enPayload k.val f = some (0x88F7, p)) ∧
    (∃ (k : Fin 2) (f : List Byte) (p : List Byte) (s : State),
      s.clocked = true ∧
      s.enUp k.val = true ∧
      s.enPayload k.val f = some (0x86DD, p) ∧
      (p.length < 40 + be p 4 2 ∨ s.fget (fENCFG_MTU k.val) < 40 + be p 4 2)) ∧
    (∃ (k : Fin 2) (f : List Byte) (p : List Byte) (s : State),
      s.clocked = true ∧
      s.enUp k.val = true ∧
      s.enPayload k.val f = some (0x86DD, p) ∧
      40 + be p 4 2 ≤ p.length ∧
      40 + be p 4 2 ≤ s.fget (fENCFG_MTU k.val) ∧
      be (p.take (40 + be p 4 2)) 6 1 = 17 ∧
      (be (p.take (40 + be p 4 2)) 4 2 < 8 ∨ udpSumOk (p.take (40 + be p 4 2)) = false)) ∧
    (∃ (k : Fin 2) (f : List Byte) (p : List Byte) (s : State),
      s.clocked = true ∧
      s.enUp k.val = true ∧
      s.enPayload k.val f = some (0x86DD, p) ∧
      40 + be p 4 2 ≤ p.length ∧
      40 + be p 4 2 ≤ s.fget (fENCFG_MTU k.val) ∧
      (be (p.take (40 + be p 4 2)) 6 1 ≠ 17 ∨ (8 ≤ be (p.take (40 + be p 4 2)) 4 2 ∧ udpSumOk (p.take (40 + be p 4 2)) = true)) ∧
      s.mode = modeBoot) ∧
    (∃ (k : Fin 2) (f : List Byte) (p : List Byte) (s : State),
      s.clocked = true ∧
      s.enUp k.val = true ∧
      s.enPayload k.val f = some (0x86DD, p) ∧
      40 + be p 4 2 ≤ p.length ∧
      40 + be p 4 2 ≤ s.fget (fENCFG_MTU k.val) ∧
      (be (p.take (40 + be p 4 2)) 6 1 ≠ 17 ∨ (8 ≤ be (p.take (40 + be p 4 2)) 4 2 ∧ udpSumOk (p.take (40 + be p 4 2)) = true)) ∧
      s.mode = modeRecovery) :=
  ⟨⟨0, State.reset, by decide +kernel⟩,
   ⟨0, [], tEn, by decide +kernel⟩,
   ⟨0, List.replicate 12 0 ++ [8, 0, 1], tEn, 0x0800, [1], by decide +kernel⟩,
   ⟨0, List.replicate 12 0 ++ [0x88, 0xF7, 1], tEn, [1], by decide +kernel⟩,
   ⟨0, tEth (List.replicate 10 0), List.replicate 10 0, tEn, by decide +kernel⟩,
   ⟨0, tEth (tIp 0x1234 5), tIp 0x1234 5, tEn, by decide +kernel⟩,
   ⟨0, tEth (tIp 0x1234 tSum), tIp 0x1234 tSum, tEn, by decide +kernel⟩,
   ⟨0, tEth (tIp 0x1234 tSum), tIp 0x1234 tSum, tEn.fset fMODESTAT_MODE modeRecovery, by decide +kernel⟩⟩

/-- The hypotheses of EthernetAndPrefixes can be met: part 2. -/
theorem test_meets_ethernet_and_prefixes_2 :
    (∃ (k : Fin 2) (f : List Byte) (p : List Byte) (joined : Bool) (s : State),
      s.clocked = true ∧
      s.enUp k.val = true ∧
      s.enPayload k.val f = some (0x86DD, p) ∧
      40 + be p 4 2 ≤ p.length ∧
      40 + be p 4 2 ≤ s.fget (fENCFG_MTU k.val) ∧
      (be (p.take (40 + be p 4 2)) 6 1 ≠ 17 ∨ (8 ≤ be (p.take (40 + be p 4 2)) 4 2 ∧ udpSumOk (p.take (40 + be p 4 2)) = true)) ∧
      s.mode ≠ modeBoot ∧
      s.mode ≠ modeRecovery ∧
      s.enMine k.val (be (p.take (40 + be p 4 2)) 24 16) joined = false ∧
      s.flag (fENCFG_FWD k.val) = false) ∧
    (∃ (k : Fin 2) (f : List Byte) (p : List Byte) (joined : Bool) (s : State),
      s.clocked = true ∧
      s.enUp k.val = true ∧
      s.enPayload k.val f = some (0x86DD, p) ∧
      40 + be p 4 2 ≤ p.length ∧
      40 + be p 4 2 ≤ s.fget (fENCFG_MTU k.val) ∧
      (be (p.take (40 + be p 4 2)) 6 1 ≠ 17 ∨ (8 ≤ be (p.take (40 + be p 4 2)) 4 2 ∧ udpSumOk (p.take (40 + be p 4 2)) = true)) ∧
      s.mode ≠ modeBoot ∧
      s.mode ≠ modeRecovery ∧
      s.enMine k.val (be (p.take (40 + be p 4 2)) 24 16) joined = false ∧
      s.flag (fENCFG_FWD k.val) = true ∧
      be (p.take (40 + be p 4 2)) 7 1 ≤ 1) ∧
    (∃ (k : Fin 2) (f : List Byte) (p : List Byte) (joined : Bool) (s : State) (q : List Byte),
      s.clocked = true ∧
      s.enUp k.val = true ∧
      s.enPayload k.val f = some (0x86DD, p) ∧
      40 + be p 4 2 ≤ p.length ∧
      40 + be p 4 2 ≤ s.fget (fENCFG_MTU k.val) ∧
      (be (p.take (40 + be p 4 2)) 6 1 ≠ 17 ∨ (8 ≤ be (p.take (40 + be p 4 2)) 4 2 ∧ udpSumOk (p.take (40 + be p 4 2)) = true)) ∧
      s.mode ≠ modeBoot ∧
      s.mode ≠ modeRecovery ∧
      s.enMine k.val (be (p.take (40 + be p 4 2)) 24 16) joined = false ∧
      s.flag (fENCFG_FWD k.val) = true ∧
      1 < be (p.take (40 + be p 4 2)) 7 1 ∧
      q = (splice (p.take (40 + be p 4 2)) 7 (beBytes 1 (be (p.take (40 + be p 4 2)) 7 1 - 1))) ∧
      s.pfxFind (be q 24 16) = none) ∧
    (∃ (k : Fin 2) (f : List Byte) (p : List Byte) (joined : Bool) (s : State) (q : List Byte) (e : PfxEntry),
      s.clocked = true ∧
      s.enUp k.val = true ∧
      s.enPayload k.val f = some (0x86DD, p) ∧
      40 + be p 4 2 ≤ p.length ∧
      40 + be p 4 2 ≤ s.fget (fENCFG_MTU k.val) ∧
      (be (p.take (40 + be p 4 2)) 6 1 ≠ 17 ∨ (8 ≤ be (p.take (40 + be p 4 2)) 4 2 ∧ udpSumOk (p.take (40 + be p 4 2)) = true)) ∧
      s.mode ≠ modeBoot ∧
      s.mode ≠ modeRecovery ∧
      s.enMine k.val (be (p.take (40 + be p 4 2)) 24 16) joined = false ∧
      s.flag (fENCFG_FWD k.val) = true ∧
      1 < be (p.take (40 + be p 4 2)) 7 1 ∧
      q = (splice (p.take (40 + be p 4 2)) 7 (beBytes 1 (be (p.take (40 + be p 4 2)) 7 1 - 1))) ∧
      s.pfxFind (be q 24 16) = some e ∧
      e.dest = 0 ∧
      s.flag (fPFXNH_V e.nh) = false) ∧
    (∃ (k : Fin 2) (f : List Byte) (p : List Byte) (joined : Bool) (s : State) (q : List Byte) (e : PfxEntry),
      s.clocked = true ∧
      s.enUp k.val = true ∧
      s.enPayload k.val f = some (0x86DD, p) ∧
      40 + be p 4 2 ≤ p.length ∧
      40 + be p 4 2 ≤ s.fget (fENCFG_MTU k.val) ∧
      (be (p.take (40 + be p 4 2)) 6 1 ≠ 17 ∨ (8 ≤ be (p.take (40 + be p 4 2)) 4 2 ∧ udpSumOk (p.take (40 + be p 4 2)) = true)) ∧
      s.mode ≠ modeBoot ∧
      s.mode ≠ modeRecovery ∧
      s.enMine k.val (be (p.take (40 + be p 4 2)) 24 16) joined = false ∧
      s.flag (fENCFG_FWD k.val) = true ∧
      1 < be (p.take (40 + be p 4 2)) 7 1 ∧
      q = (splice (p.take (40 + be p 4 2)) 7 (beBytes 1 (be (p.take (40 + be p 4 2)) 7 1 - 1))) ∧
      s.pfxFind (be q 24 16) = some e ∧
      e.dest = 0 ∧
      s.flag (fPFXNH_V e.nh) = true ∧
      (s.enUp (e.target % 2) = false ∨ s.mayEmit = false)) ∧
    (∃ (k : Fin 2) (f : List Byte) (p : List Byte) (joined : Bool) (s : State) (q : List Byte) (e : PfxEntry),
      s.clocked = true ∧
      s.enUp k.val = true ∧
      s.enPayload k.val f = some (0x86DD, p) ∧
      40 + be p 4 2 ≤ p.length ∧
      40 + be p 4 2 ≤ s.fget (fENCFG_MTU k.val) ∧
      (be (p.take (40 + be p 4 2)) 6 1 ≠ 17 ∨ (8 ≤ be (p.take (40 + be p 4 2)) 4 2 ∧ udpSumOk (p.take (40 + be p 4 2)) = true)) ∧
      s.mode ≠ modeBoot ∧
      s.mode ≠ modeRecovery ∧
      s.enMine k.val (be (p.take (40 + be p 4 2)) 24 16) joined = false ∧
      s.flag (fENCFG_FWD k.val) = true ∧
      1 < be (p.take (40 + be p 4 2)) 7 1 ∧
      q = (splice (p.take (40 + be p 4 2)) 7 (beBytes 1 (be (p.take (40 + be p 4 2)) 7 1 - 1))) ∧
      s.pfxFind (be q 24 16) = some e ∧
      e.dest = 0 ∧
      s.flag (fPFXNH_V e.nh) = true ∧
      s.enUp (e.target % 2) = true ∧
      s.mayEmit = true) ∧
    (∃ (k : Fin 2) (f : List Byte) (p : List Byte) (joined : Bool) (s : State) (q : List Byte) (e : PfxEntry),
      s.clocked = true ∧
      s.enUp k.val = true ∧
      s.enPayload k.val f = some (0x86DD, p) ∧
      40 + be p 4 2 ≤ p.length ∧
      40 + be p 4 2 ≤ s.fget (fENCFG_MTU k.val) ∧
      (be (p.take (40 + be p 4 2)) 6 1 ≠ 17 ∨ (8 ≤ be (p.take (40 + be p 4 2)) 4 2 ∧ udpSumOk (p.take (40 + be p 4 2)) = true)) ∧
      s.mode ≠ modeBoot ∧
      s.mode ≠ modeRecovery ∧
      s.enMine k.val (be (p.take (40 + be p 4 2)) 24 16) joined = false ∧
      s.flag (fENCFG_FWD k.val) = true ∧
      1 < be (p.take (40 + be p 4 2)) 7 1 ∧
      q = (splice (p.take (40 + be p 4 2)) 7 (beBytes 1 (be (p.take (40 + be p 4 2)) 7 1 - 1))) ∧
      s.pfxFind (be q 24 16) = some e ∧
      e.dest = 1) ∧
    (∃ (k : Fin 2) (f : List Byte) (p : List Byte) (joined : Bool) (s : State) (q : List Byte) (e : PfxEntry),
      s.clocked = true ∧
      s.enUp k.val = true ∧
      s.enPayload k.val f = some (0x86DD, p) ∧
      40 + be p 4 2 ≤ p.length ∧
      40 + be p 4 2 ≤ s.fget (fENCFG_MTU k.val) ∧
      (be (p.take (40 + be p 4 2)) 6 1 ≠ 17 ∨ (8 ≤ be (p.take (40 + be p 4 2)) 4 2 ∧ udpSumOk (p.take (40 + be p 4 2)) = true)) ∧
      s.mode ≠ modeBoot ∧
      s.mode ≠ modeRecovery ∧
      s.enMine k.val (be (p.take (40 + be p 4 2)) 24 16) joined = false ∧
      s.flag (fENCFG_FWD k.val) = true ∧
      1 < be (p.take (40 + be p 4 2)) 7 1 ∧
      q = (splice (p.take (40 + be p 4 2)) 7 (beBytes 1 (be (p.take (40 + be p 4 2)) 7 1 - 1))) ∧
      s.pfxFind (be q 24 16) = some e ∧
      e.dest = 2) :=
  ⟨⟨0, tEth (tIp 0x1234 tSum), tIp 0x1234 tSum, false, ((tEn.fset (fENADDR_ADDR 0 0) 3).setFlag (fENCFG_FWD 0) false).fset fMODESTAT_MODE modeService, by decide +kernel⟩,
   ⟨0, tEth ((tIp 0x1234 tSum).set 7 1), (tIp 0x1234 tSum).set 7 1, false, ((tEn.fset (fENADDR_ADDR 0 0) 3)).fset fMODESTAT_MODE modeService, by decide +kernel⟩,
   ⟨0, tEth (tIp 0x1234 tSum), tIp 0x1234 tSum, false, ((tEn.fset (fENADDR_ADDR 0 0) 3)).fset fMODESTAT_MODE modeService, ((splice ((tIp 0x1234 tSum : List Byte).take (40 + be (tIp 0x1234 tSum : List Byte) 4 2)) 7 (beBytes 1 (be ((tIp 0x1234 tSum : List Byte).take (40 + be (tIp 0x1234 tSum : List Byte) 4 2)) 7 1 - 1)))), by decide +kernel⟩,
   ⟨0, tEth (tIp 0x1234 tSum), tIp 0x1234 tSum, false, (((tEn.fset (fENADDR_ADDR 0 0) 3).setPfx [⟨2, 64, 0, 0, 1⟩])).fset fMODESTAT_MODE modeService, ((splice ((tIp 0x1234 tSum : List Byte).take (40 + be (tIp 0x1234 tSum : List Byte) 4 2)) 7 (beBytes 1 (be ((tIp 0x1234 tSum : List Byte).take (40 + be (tIp 0x1234 tSum : List Byte) 4 2)) 7 1 - 1)))), ⟨2, 64, 0, 0, 1⟩, by decide +kernel⟩,
   ⟨0, tEth (tIp 0x1234 tSum), tIp 0x1234 tSum, false, (((((tEn.fset (fENADDR_ADDR 0 0) 3)).setFlag (fPFXNH_V 1) true).setPfx [⟨2, 64, 0, 1, 1⟩]).setFlag (fENSTAT_LINK 1) false).fset fMODESTAT_MODE modeService, ((splice ((tIp 0x1234 tSum : List Byte).take (40 + be (tIp 0x1234 tSum : List Byte) 4 2)) 7 (beBytes 1 (be ((tIp 0x1234 tSum : List Byte).take (40 + be (tIp 0x1234 tSum : List Byte) 4 2)) 7 1 - 1)))), ⟨2, 64, 0, 1, 1⟩, by decide +kernel⟩,
   ⟨0, tEth (tIp 0x1234 tSum), tIp 0x1234 tSum, false, (((((tEn.fset (fENADDR_ADDR 0 0) 3)).setFlag (fPFXNH_V 1) true).setPfx [⟨2, 64, 0, 1, 1⟩])).fset fMODESTAT_MODE modeService, ((splice ((tIp 0x1234 tSum : List Byte).take (40 + be (tIp 0x1234 tSum : List Byte) 4 2)) 7 (beBytes 1 (be ((tIp 0x1234 tSum : List Byte).take (40 + be (tIp 0x1234 tSum : List Byte) 4 2)) 7 1 - 1)))), ⟨2, 64, 0, 1, 1⟩, by decide +kernel⟩,
   ⟨0, tEth (tIp 0x1234 tSum), tIp 0x1234 tSum, false, (((((tEn.fset (fENADDR_ADDR 0 0) 3)).setFlag (fPFXNH_V 1) true).setPfx [⟨2, 64, 1, 1, 1⟩])).fset fMODESTAT_MODE modeService, ((splice ((tIp 0x1234 tSum : List Byte).take (40 + be (tIp 0x1234 tSum : List Byte) 4 2)) 7 (beBytes 1 (be ((tIp 0x1234 tSum : List Byte).take (40 + be (tIp 0x1234 tSum : List Byte) 4 2)) 7 1 - 1)))), ⟨2, 64, 1, 1, 1⟩, by decide +kernel⟩,
   ⟨0, tEth (tIp 0x1234 tSum), tIp 0x1234 tSum, false, (((((tEn.fset (fENADDR_ADDR 0 0) 3)).setFlag (fPFXNH_V 1) true).setPfx [⟨2, 64, 2, 1, 1⟩])).fset fMODESTAT_MODE modeService, ((splice ((tIp 0x1234 tSum : List Byte).take (40 + be (tIp 0x1234 tSum : List Byte) 4 2)) 7 (beBytes 1 (be ((tIp 0x1234 tSum : List Byte).take (40 + be (tIp 0x1234 tSum : List Byte) 4 2)) 7 1 - 1)))), ⟨2, 64, 2, 1, 1⟩, by decide +kernel⟩⟩

/-- The hypotheses of EthernetAndPrefixes can be met: part 3. -/
theorem test_meets_ethernet_and_prefixes_3 :
    (∃ (k : Fin 2) (f : List Byte) (p : List Byte) (joined : Bool) (s : State) (q : List Byte) (e : PfxEntry),
      s.clocked = true ∧
      s.enUp k.val = true ∧
      s.enPayload k.val f = some (0x86DD, p) ∧
      40 + be p 4 2 ≤ p.length ∧
      40 + be p 4 2 ≤ s.fget (fENCFG_MTU k.val) ∧
      (be (p.take (40 + be p 4 2)) 6 1 ≠ 17 ∨ (8 ≤ be (p.take (40 + be p 4 2)) 4 2 ∧ udpSumOk (p.take (40 + be p 4 2)) = true)) ∧
      s.mode ≠ modeBoot ∧
      s.mode ≠ modeRecovery ∧
      s.enMine k.val (be (p.take (40 + be p 4 2)) 24 16) joined = false ∧
      s.flag (fENCFG_FWD k.val) = true ∧
      1 < be (p.take (40 + be p 4 2)) 7 1 ∧
      q = (splice (p.take (40 + be p 4 2)) 7 (beBytes 1 (be (p.take (40 + be p 4 2)) 7 1 - 1))) ∧
      s.pfxFind (be q 24 16) = some e ∧
      e.dest = 3) ∧
    (∃ (s : State) (dst : Nat) (e : PfxEntry),
      s.pfxFind dst = some e) ∧
    (∃ (k : Fin 2) (f : List Byte) (p : List Byte) (joined : Bool) (s : State),
      s.clocked = true ∧
      s.enUp k.val = true ∧
      s.enPayload k.val f = some (0x86DD, p) ∧
      40 + be p 4 2 ≤ p.length ∧
      40 + be p 4 2 ≤ s.fget (fENCFG_MTU k.val) ∧
      (be (p.take (40 + be p 4 2)) 6 1 ≠ 17 ∨ (8 ≤ be (p.take (40 + be p 4 2)) 4 2 ∧ udpSumOk (p.take (40 + be p 4 2)) = true)) ∧
      s.mode ≠ modeBoot ∧
      s.mode ≠ modeRecovery ∧
      s.enMine k.val (be (p.take (40 + be p 4 2)) 24 16) joined = true ∧
      isExtHeader (be (p.take (40 + be p 4 2)) 6 1) = true) ∧
    (∃ (k : Fin 2) (f : List Byte) (p : List Byte) (joined : Bool) (s : State),
      s.clocked = true ∧
      s.enUp k.val = true ∧
      s.enPayload k.val f = some (0x86DD, p) ∧
      40 + be p 4 2 ≤ p.length ∧
      40 + be p 4 2 ≤ s.fget (fENCFG_MTU k.val) ∧
      (be (p.take (40 + be p 4 2)) 6 1 ≠ 17 ∨ (8 ≤ be (p.take (40 + be p 4 2)) 4 2 ∧ udpSumOk (p.take (40 + be p 4 2)) = true)) ∧
      s.mode ≠ modeBoot ∧
      s.mode ≠ modeRecovery ∧
      s.enMine k.val (be (p.take (40 + be p 4 2)) 24 16) joined = true ∧
      isExtHeader (be (p.take (40 + be p 4 2)) 6 1) = false ∧
      be (p.take (40 + be p 4 2)) 6 1 ≠ 17) ∧
    (∃ (k : Fin 2) (f : List Byte) (p : List Byte) (joined : Bool) (s : State) (port : Nat),
      s.clocked = true ∧
      s.enUp k.val = true ∧
      s.enPayload k.val f = some (0x86DD, p) ∧
      40 + be p 4 2 ≤ p.length ∧
      40 + be p 4 2 ≤ s.fget (fENCFG_MTU k.val) ∧
      (be (p.take (40 + be p 4 2)) 6 1 ≠ 17 ∨ (8 ≤ be (p.take (40 + be p 4 2)) 4 2 ∧ udpSumOk (p.take (40 + be p 4 2)) = true)) ∧
      s.mode ≠ modeBoot ∧
      s.mode ≠ modeRecovery ∧
      s.enMine k.val (be (p.take (40 + be p 4 2)) 24 16) joined = true ∧
      be (p.take (40 + be p 4 2)) 6 1 = 17 ∧
      port = (be (p.take (40 + be p 4 2)) 42 2) ∧
      port = s.fget fRELCFG_PORT) ∧
    (∃ (k : Fin 2) (f : List Byte) (p : List Byte) (joined : Bool) (s : State) (port : Nat),
      s.clocked = true ∧
      s.enUp k.val = true ∧
      s.enPayload k.val f = some (0x86DD, p) ∧
      40 + be p 4 2 ≤ p.length ∧
      40 + be p 4 2 ≤ s.fget (fENCFG_MTU k.val) ∧
      (be (p.take (40 + be p 4 2)) 6 1 ≠ 17 ∨ (8 ≤ be (p.take (40 + be p 4 2)) 4 2 ∧ udpSumOk (p.take (40 + be p 4 2)) = true)) ∧
      s.mode ≠ modeBoot ∧
      s.mode ≠ modeRecovery ∧
      s.enMine k.val (be (p.take (40 + be p 4 2)) 24 16) joined = true ∧
      be (p.take (40 + be p 4 2)) 6 1 = 17 ∧
      port = (be (p.take (40 + be p 4 2)) 42 2) ∧
      port ≠ s.fget fRELCFG_PORT ∧
      port = s.fget fDLMCFG_PORT ∧
      s.flag fDLMCFG_EN = true) ∧
    (∃ (k : Fin 2) (f : List Byte) (p : List Byte) (joined : Bool) (s : State) (port : Nat),
      s.clocked = true ∧
      s.enUp k.val = true ∧
      s.enPayload k.val f = some (0x86DD, p) ∧
      40 + be p 4 2 ≤ p.length ∧
      40 + be p 4 2 ≤ s.fget (fENCFG_MTU k.val) ∧
      (be (p.take (40 + be p 4 2)) 6 1 ≠ 17 ∨ (8 ≤ be (p.take (40 + be p 4 2)) 4 2 ∧ udpSumOk (p.take (40 + be p 4 2)) = true)) ∧
      s.mode ≠ modeBoot ∧
      s.mode ≠ modeRecovery ∧
      s.enMine k.val (be (p.take (40 + be p 4 2)) 24 16) joined = true ∧
      be (p.take (40 + be p 4 2)) 6 1 = 17 ∧
      port = (be (p.take (40 + be p 4 2)) 42 2) ∧
      port ≠ s.fget fRELCFG_PORT ∧
      (port ≠ s.fget fDLMCFG_PORT ∨ s.flag fDLMCFG_EN = false) ∧
      port = s.fget fREPCFG_PORT) ∧
    (∃ (k : Fin 2) (f : List Byte) (p : List Byte) (joined : Bool) (s : State) (port : Nat) (c : Nat),
      s.clocked = true ∧
      s.enUp k.val = true ∧
      s.enPayload k.val f = some (0x86DD, p) ∧
      40 + be p 4 2 ≤ p.length ∧
      40 + be p 4 2 ≤ s.fget (fENCFG_MTU k.val) ∧
      (be (p.take (40 + be p 4 2)) 6 1 ≠ 17 ∨ (8 ≤ be (p.take (40 + be p 4 2)) 4 2 ∧ udpSumOk (p.take (40 + be p 4 2)) = true)) ∧
      s.mode ≠ modeBoot ∧
      s.mode ≠ modeRecovery ∧
      s.enMine k.val (be (p.take (40 + be p 4 2)) 24 16) joined = true ∧
      be (p.take (40 + be p 4 2)) 6 1 = 17 ∧
      port = (be (p.take (40 + be p 4 2)) 42 2) ∧
      port ≠ s.fget fRELCFG_PORT ∧
      (port ≠ s.fget fDLMCFG_PORT ∨ s.flag fDLMCFG_EN = false) ∧
      port ≠ s.fget fREPCFG_PORT ∧
      s.batchChip port = some c) :=
  ⟨⟨0, tEth (tIp 0x1234 tSum), tIp 0x1234 tSum, false, (((((tEn.fset (fENADDR_ADDR 0 0) 3)).setFlag (fPFXNH_V 1) true).setPfx [⟨2, 64, 3, 1, 1⟩])).fset fMODESTAT_MODE modeService, ((splice ((tIp 0x1234 tSum : List Byte).take (40 + be (tIp 0x1234 tSum : List Byte) 4 2)) 7 (beBytes 1 (be ((tIp 0x1234 tSum : List Byte).take (40 + be (tIp 0x1234 tSum : List Byte) 4 2)) 7 1 - 1)))), ⟨2, 64, 3, 1, 1⟩, by decide +kernel⟩,
   ⟨(((tEn.fset (fENADDR_ADDR 0 0) 3)).setFlag (fPFXNH_V 1) true).setPfx [⟨9, 128, 0, 0, 0⟩, ⟨2, 64, 0, 0, 1⟩], 2, ⟨2, 64, 0, 0, 1⟩, by decide +kernel⟩,
   ⟨0, tEth ((tIp 0x1234 tSum).set 6 44), (tIp 0x1234 tSum).set 6 44, false, (tEn).fset fMODESTAT_MODE modeService, by decide +kernel⟩,
   ⟨0, tEth ((tIp 0x1234 tSum).set 6 58), (tIp 0x1234 tSum).set 6 58, false, (tEn).fset fMODESTAT_MODE modeService, by decide +kernel⟩,
   ⟨0, tEth (tIp 0x1234 tSum), tIp 0x1234 tSum, false, (tEn).fset fMODESTAT_MODE modeService, ((be ((tIp 0x1234 tSum : List Byte).take (40 + be (tIp 0x1234 tSum : List Byte) 4 2)) 42 2)), by decide +kernel⟩,
   ⟨0, tEth (tIp 0x1234 tSum), tIp 0x1234 tSum, false, ((((tEn.fset fRELCFG_PORT 1).fset fDLMCFG_PORT 0x1234).setFlag fDLMCFG_EN true)).fset fMODESTAT_MODE modeService, ((be ((tIp 0x1234 tSum : List Byte).take (40 + be (tIp 0x1234 tSum : List Byte) 4 2)) 42 2)), by decide +kernel⟩,
   ⟨0, tEth (tIp 0x1234 tSum), tIp 0x1234 tSum, false, (((tEn.fset fRELCFG_PORT 1).fset fREPCFG_PORT 0x1234)).fset fMODESTAT_MODE modeService, ((be ((tIp 0x1234 tSum : List Byte).take (40 + be (tIp 0x1234 tSum : List Byte) 4 2)) 42 2)), by decide +kernel⟩,
   ⟨0, tEth (tIp 0x1234 tSum), tIp 0x1234 tSum, false, ((((tEn.fset fRELCFG_PORT 1).fset fREPCFG_PORT 0x1232).setFlag fSYSSTAT_SEAM true).fset fSEMCFG_NCHIPS 2).fset fMODESTAT_MODE modeService, ((be ((tIp 0x1234 tSum : List Byte).take (40 + be (tIp 0x1234 tSum : List Byte) 4 2)) 42 2)), 1, by decide +kernel⟩⟩

/-- The hypotheses of EthernetAndPrefixes can be met: part 4. -/
theorem test_meets_ethernet_and_prefixes_4 :
    (∃ (k : Fin 2) (f : List Byte) (p : List Byte) (joined : Bool) (s : State) (port : Nat),
      s.clocked = true ∧
      s.enUp k.val = true ∧
      s.enPayload k.val f = some (0x86DD, p) ∧
      40 + be p 4 2 ≤ p.length ∧
      40 + be p 4 2 ≤ s.fget (fENCFG_MTU k.val) ∧
      (be (p.take (40 + be p 4 2)) 6 1 ≠ 17 ∨ (8 ≤ be (p.take (40 + be p 4 2)) 4 2 ∧ udpSumOk (p.take (40 + be p 4 2)) = true)) ∧
      s.mode ≠ modeBoot ∧
      s.mode ≠ modeRecovery ∧
      s.enMine k.val (be (p.take (40 + be p 4 2)) 24 16) joined = true ∧
      be (p.take (40 + be p 4 2)) 6 1 = 17 ∧
      port = (be (p.take (40 + be p 4 2)) 42 2) ∧
      port ≠ s.fget fRELCFG_PORT ∧
      (port ≠ s.fget fDLMCFG_PORT ∨ s.flag fDLMCFG_EN = false) ∧
      port ≠ s.fget fREPCFG_PORT ∧
      s.batchChip port = none) ∧
    (∃ (s : State) (port : Nat) (c : Nat),
      s.batchChip port = some c) ∧
    (∃ (k : Fin 2) (s : State),
      s.clocked = true ∧
      (s.flag (fENCFG_EN k.val) = false ∨ s.fenced (14 + k.val) = true)) ∧
    (∃ (k : Fin 2) (up : Bool) (speed : Fin 4) (s : State) (u : State),
      s.clocked = true ∧
      s.flag (fENCFG_EN k.val) = true ∧
      s.fenced (14 + k.val) = false ∧
      u = ((s.setFlag (fENSTAT_LINK k.val) up).fset (fENSTAT_SPEED k.val) (if up then speed.val else 0))) ∧
    (∃ (a : Agent) (s : State) (l : List PfxEntry),
      s.writes a rPFXCMD = true ∧
      s.pfx.any (fun x => x.key = s.fget fPFXKEY_KEY && x.len = s.fget fPFXDATA_LEN) = false ∧
      s.pfx.length < 4096 ∧
      l = s.pfx.takeWhile (fun x => s.fget fPFXDATA_LEN ≤ x.len) ++
          ⟨s.fget fPFXKEY_KEY, s.fget fPFXDATA_LEN, s.fget fPFXDATA_DEST, s.fget fPFXDATA_TARGET, s.fget fPFXDATA_NH⟩ :: s.pfx.dropWhile (fun x => s.fget fPFXDATA_LEN ≤ x.len)) ∧
    (∃ (a : Agent) (s : State),
      s.writes a rPFXCMD = true ∧
      s.pfx.any (fun x => x.key = s.fget fPFXKEY_KEY && x.len = s.fget fPFXDATA_LEN) = true) ∧
    (∃ (a : Agent) (s : State),
      s.writes a rPFXCMD = true ∧
      s.pfx.any (fun x => x.key = s.fget fPFXKEY_KEY && x.len = s.fget fPFXDATA_LEN) = false ∧
      4096 ≤ s.pfx.length) ∧
    (∃ (a : Agent) (s : State),
      s.writes a rPFXCMD = true ∧
      s.pfx.any (fun x => x.key = s.fget fPFXKEY_KEY && x.len = s.fget fPFXDATA_LEN) = false) :=
  ⟨⟨0, tEth (tIp 0x1234 tSum), tIp 0x1234 tSum, false, ((tEn.fset fRELCFG_PORT 1)).fset fMODESTAT_MODE modeService, ((be ((tIp 0x1234 tSum : List Byte).take (40 + be (tIp 0x1234 tSum : List Byte) 4 2)) 42 2)), by decide +kernel⟩,
   ⟨(((tEn.fset fRELCFG_PORT 1).fset fREPCFG_PORT 0x1232).setFlag fSYSSTAT_SEAM true).fset fSEMCFG_NCHIPS 2, 0x1234, 1, by decide +kernel⟩,
   ⟨0, State.reset, by decide +kernel⟩,
   ⟨0, true, 1, tEn, ((((tEn : State).setFlag (fENSTAT_LINK (0 : Fin 2).val) (true : Bool)).fset (fENSTAT_SPEED (0 : Fin 2).val) (if (true : Bool) then (1 : Fin 4).val else 0))), by decide +kernel⟩,
   ⟨.port, tEn, _, by decide +kernel, by decide +kernel, by decide +kernel, rfl⟩,
   ⟨.port, tEn.setPfx [⟨0, 0, 1, 1, 1⟩], by decide +kernel⟩,
   ⟨.port, tEn.setPfx (List.replicate 4096 ⟨9, 9, 1, 1, 1⟩), by decide +kernel⟩,
   ⟨.port, tEn, by decide +kernel⟩⟩

/-- The hypotheses of EndpointAndNeighbourTables can be met: part 1. -/
theorem test_meets_endpoint_and_neighbour_tables_1 :
    (∃ (a : Agent) (s : State) (b : List Byte),
      s.writes a rEPTCMD = true ∧
      b = leBytes 32 (s.fget fEPTDATA_ENTRY) ∧
      ((EptEntry.parse b).typ = 0 ∨ ((EptEntry.parse b).typ = eptLocal ∧ s.epiTaken (EptEntry.parse b).epi (EptEntry.parse b).eui = true))) ∧
    (∃ (a : Agent) (s : State) (b : List Byte) (i : Nat),
      s.writes a rEPTCMD = true ∧
      b = leBytes 32 (s.fget fEPTDATA_ENTRY) ∧
      (EptEntry.parse b).typ ≠ 0 ∧
      ((EptEntry.parse b).typ ≠ eptLocal ∨ s.epiTaken (EptEntry.parse b).epi (EptEntry.parse b).eui = false) ∧
      s.eptSlotFor (EptEntry.parse b).eui = some i) ∧
    (∃ (a : Agent) (s : State) (b : List Byte),
      s.writes a rEPTCMD = true ∧
      b = leBytes 32 (s.fget fEPTDATA_ENTRY) ∧
      (EptEntry.parse b).typ ≠ 0 ∧
      ((EptEntry.parse b).typ ≠ eptLocal ∨ s.epiTaken (EptEntry.parse b).epi (EptEntry.parse b).eui = false) ∧
      s.eptFind (EptEntry.parse b).eui = none ∧
      (∀ j : Fin 4, (s.eptEntry (4 * eptBucket (EptEntry.parse b).eui + j.val)).typ ≠ 0) ∧
      8192 ≤ s.fget fEPTUSED_OVF) ∧
    (∃ (a : Agent) (s : State) (i : Nat),
      s.writes a rEPTCMD = true ∧
      s.eptFind (EptEntry.parse (leBytes 32 (s.fget fEPTDATA_ENTRY))).eui = some i) ∧
    (∃ (a : Agent) (s : State),
      s.writes a rEPTCMD = true ∧
      s.eptFind (EptEntry.parse (leBytes 32 (s.fget fEPTDATA_ENTRY))).eui = none) ∧
    (∃ (a : Agent) (s : State) (i : Nat),
      s.writes a rEPTCMD = true ∧
      s.eptFind (EptEntry.parse (leBytes 32 (s.fget fEPTDATA_ENTRY))).eui = some i ∧
      ((s.eptEntry i).typ ≠ eptLocal ∨ s.epiActive (s.eptEntry i).epi = false)) ∧
    (∃ (a : Agent) (s : State) (i : Nat),
      s.writes a rEPTCMD = true ∧
      s.eptFind (EptEntry.parse (leBytes 32 (s.fget fEPTDATA_ENTRY))).eui = some i ∧
      (s.eptEntry i).typ = eptLocal ∧
      s.epiActive (s.eptEntry i).epi = true) ∧
    (∃ (a : Agent) (idx : Half) (s : State),
      s.writes a rNBTCMD = true ∧
      s.nbValid idx.toNat = true) :=
  ⟨⟨.port, tKep, _, by decide +kernel, rfl, by decide +kernel⟩,
   ⟨.port, tEpt, _, (tEpt.eptSlotFor 99).getD 0, by decide +kernel, rfl, by decide +kernel, by decide +kernel, by decide +kernel⟩,
   ⟨.port, tEptFull, tEptB, by decide +kernel, by decide +kernel, by decide +kernel, by decide +kernel, test_ept_full, by decide +kernel, by decide +kernel⟩,
   ⟨.port, tEptL, tSlot, by decide +kernel⟩,
   ⟨.port, tEpt, by decide +kernel⟩,
   ⟨.port, tEptL, tSlot, by decide +kernel⟩,
   ⟨.port, tEptL.postItem tItem 2 true, tSlot, by decide +kernel⟩,
   ⟨.port, 3, tNb, by decide +kernel⟩⟩

/-- The hypotheses of EndpointAndNeighbourTables can be met: part 2. -/
theorem test_meets_endpoint_and_neighbour_tables_2 :
    (∃ (a : Agent) (idx : Half) (s : State),
      s.writes a rNBTCMD = true ∧
      s.nbValid idx.toNat = false) ∧
    (∃ (s : State),
      s.clocked = true) :=
  ⟨⟨.port, 3, State.reset, by decide +kernel⟩,
   ⟨tNb, by decide +kernel⟩⟩

/-- The hypotheses of DunebLinks can be met: part 1. -/
theorem test_meets_duneb_links_1 :
    (∃ (k : Fin 4) (s : State),
      s.clocked = true ∧
      s.dlUp k.val = false) ∧
    (∃ (k : Fin 4) (b : List Byte) (s : State),
      s.clocked = true ∧
      s.dlUp k.val = true ∧
      (b.length ≠ 88 ∨ crc32 (b.take 84) ≠ be b 84 4)) ∧
    (∃ (k : Nat) (w : Nat) (s : State) (t : State),
      t = s.dlWord k w ∧
      bit w 7 = false) ∧
    (∃ (w : Nat),
      bit w 7 = true) ∧
    (∃ (k : Fin 4) (b : List Byte) (bad : List (Fin 8)) (s : State) (c : DlCell) (u : State),
      s.clocked = true ∧
      s.dlUp k.val = true ∧
      b.length = 88 ∧
      crc32 (b.take 84) = be b 84 4 ∧
      c = (parseCell b bad) ∧
      u = (s.dlWord k.val (be b 80 4)) ∧
      u.dlUp k.val = false) ∧
    (∃ (k : Fin 4) (b : List Byte) (bad : List (Fin 8)) (s : State) (c : DlCell) (u : State),
      s.clocked = true ∧
      s.dlUp k.val = true ∧
      b.length = 88 ∧
      crc32 (b.take 84) = be b 84 4 ∧
      c = (parseCell b bad) ∧
      u = (s.dlWord k.val (be b 80 4)) ∧
      u.dlUp k.val = true ∧
      (cellOk k.val b c = false ∨ (c.typ ≠ 0 ∧ bits (be b 80 4) 20 12 = ((u.dl k.val).rxSeq + 1) % 4096 ∧ cellFits (u.dl k.val).rx c = false))) ∧
    (∃ (c : DlCell),
      c.payload.length ≤ 64) ∧
    (∃ (k : Fin 4) (b : List Byte) (bad : List (Fin 8)) (s : State) (c : DlCell) (u : State),
      s.clocked = true ∧
      s.dlUp k.val = true ∧
      b.length = 88 ∧
      crc32 (b.take 84) = be b 84 4 ∧
      c = (parseCell b bad) ∧
      u = (s.dlWord k.val (be b 80 4)) ∧
      u.dlUp k.val = true ∧
      cellOk k.val b c = true ∧
      c.typ = 0) :=
  ⟨⟨0, State.reset, by decide +kernel⟩,
   ⟨0, List.replicate 88 1, tDl, by decide +kernel⟩,
   ⟨0, 0x00000012, tDlR, ((tDlR : State).dlWord (0 : Nat) (0x00000012 : Nat)), by decide +kernel⟩,
   ⟨128, by decide +kernel⟩,
   ⟨0, tCellN, [], tDlR.fset (fDLCFG_RETRYMAX 0) 0, ((parseCell (tCellN : List Byte) ([] : List (Fin 8)))), (((tDlR.fset (fDLCFG_RETRYMAX 0) 0 : State).dlWord (0 : Fin 4).val (be (tCellN : List Byte) 80 4))), by decide +kernel⟩,
   ⟨0, tCellB, [], tDl, ((parseCell (tCellB : List Byte) ([] : List (Fin 8)))), (((tDl : State).dlWord (0 : Fin 4).val (be (tCellB : List Byte) 80 4))), by decide +kernel⟩,
   ⟨parseCell tCell [], by decide +kernel⟩,
   ⟨0, tCellI, [], tDl, ((parseCell (tCellI : List Byte) ([] : List (Fin 8)))), (((tDl : State).dlWord (0 : Fin 4).val (be (tCellI : List Byte) 80 4))), by decide +kernel⟩⟩

/-- The hypotheses of DunebLinks can be met: part 2. -/
theorem test_meets_duneb_links_2 :
    (∃ (k : Fin 4) (b : List Byte) (bad : List (Fin 8)) (s : State) (c : DlCell) (u : State),
      s.clocked = true ∧
      s.dlUp k.val = true ∧
      b.length = 88 ∧
      crc32 (b.take 84) = be b 84 4 ∧
      c = (parseCell b bad) ∧
      u = (s.dlWord k.val (be b 80 4)) ∧
      u.dlUp k.val = true ∧
      cellOk k.val b c = true ∧
      c.typ ≠ 0 ∧
      bits (be b 80 4) 20 12 ≠ ((u.dl k.val).rxSeq + 1) % 4096) ∧
    (∃ (k : Fin 4) (b : List Byte) (bad : List (Fin 8)) (s : State) (c : DlCell) (u : State) (parts : List DlCell) (v : State),
      s.clocked = true ∧
      s.dlUp k.val = true ∧
      b.length = 88 ∧
      crc32 (b.take 84) = be b 84 4 ∧
      c = (parseCell b bad) ∧
      u = (s.dlWord k.val (be b 80 4)) ∧
      u.dlUp k.val = true ∧
      cellOk k.val b c = true ∧
      c.typ ≠ 0 ∧
      bits (be b 80 4) 20 12 = ((u.dl k.val).rxSeq + 1) % 4096 ∧
      cellFits (u.dl k.val).rx c = true ∧
      parts = ((match rxFind (u.dl k.val).rx c with | some m => m.parts | none => []) ++ [c]) ∧
      v = ((u.setDl k.val { u.dl k.val with rxSeq := bits (be b 80 4) 20 12, badRun := 0, rx := rxDrop (u.dl k.val).rx c ++ (if c.eop then [] else [⟨parts⟩]), owed := (u.dl k.val).owed.put crZero c.pool ((u.dl k.val).owed.get crZero c.pool + 1) }).count (fDLCELLR_COUNT k.val) 1) ∧
      c.eop = false) ∧
    (∃ (k : Fin 4) (b : List Byte) (bad : List (Fin 8)) (s : State) (c : DlCell) (u : State) (parts : List DlCell) (v : State),
      s.clocked = true ∧
      s.dlUp k.val = true ∧
      b.length = 88 ∧
      crc32 (b.take 84) = be b 84 4 ∧
      c = (parseCell b bad) ∧
      u = (s.dlWord k.val (be b 80 4)) ∧
      u.dlUp k.val = true ∧
      cellOk k.val b c = true ∧
      c.typ ≠ 0 ∧
      bits (be b 80 4) 20 12 = ((u.dl k.val).rxSeq + 1) % 4096 ∧
      cellFits (u.dl k.val).rx c = true ∧
      parts = ((match rxFind (u.dl k.val).rx c with | some m => m.parts | none => []) ++ [c]) ∧
      v = ((u.setDl k.val { u.dl k.val with rxSeq := bits (be b 80 4) 20 12, badRun := 0, rx := rxDrop (u.dl k.val).rx c ++ (if c.eop then [] else [⟨parts⟩]), owed := (u.dl k.val).owed.put crZero c.pool ((u.dl k.val).owed.get crZero c.pool + 1) }).count (fDLCELLR_COUNT k.val) 1) ∧
      c.eop = true ∧
      (v.dlMine k.val c.dst = true ∨ (8 ≤ c.typ ∧ c.typ < 16) ∨ c.typ = 0x7F)) ∧
    (∃ (k : Fin 4) (b : List Byte) (bad : List (Fin 8)) (s : State) (c : DlCell) (u : State) (parts : List DlCell) (v : State),
      s.clocked = true ∧
      s.dlUp k.val = true ∧
      b.length = 88 ∧
      crc32 (b.take 84) = be b 84 4 ∧
      c = (parseCell b bad) ∧
      u = (s.dlWord k.val (be b 80 4)) ∧
      u.dlUp k.val = true ∧
      cellOk k.val b c = true ∧
      c.typ ≠ 0 ∧
      bits (be b 80 4) 20 12 = ((u.dl k.val).rxSeq + 1) % 4096 ∧
      cellFits (u.dl k.val).rx c = true ∧
      parts = ((match rxFind (u.dl k.val).rx c with | some m => m.parts | none => []) ++ [c]) ∧
      v = ((u.setDl k.val { u.dl k.val with rxSeq := bits (be b 80 4) 20 12, badRun := 0, rx := rxDrop (u.dl k.val).rx c ++ (if c.eop then [] else [⟨parts⟩]), owed := (u.dl k.val).owed.put crZero c.pool ((u.dl k.val).owed.get crZero c.pool + 1) }).count (fDLCELLR_COUNT k.val) 1) ∧
      c.eop = true ∧
      (¬ (v.dlMine k.val c.dst = true ∨ (8 ≤ c.typ ∧ c.typ < 16) ∨ c.typ = 0x7F))) ∧
    (∃ (k : Fin 4) (b : List Byte) (bad : List (Fin 8)) (s : State) (c : DlCell) (u : State) (parts : List DlCell) (v : State),
      s.clocked = true ∧
      s.dlUp k.val = true ∧
      b.length = 88 ∧
      crc32 (b.take 84) = be b 84 4 ∧
      c = (parseCell b bad) ∧
      u = (s.dlWord k.val (be b 80 4)) ∧
      u.dlUp k.val = true ∧
      cellOk k.val b c = true ∧
      c.typ ≠ 0 ∧
      bits (be b 80 4) 20 12 = ((u.dl k.val).rxSeq + 1) % 4096 ∧
      cellFits (u.dl k.val).rx c = true ∧
      parts = ((match rxFind (u.dl k.val).rx c with | some m => m.parts | none => []) ++ [c]) ∧
      v = ((u.setDl k.val { u.dl k.val with rxSeq := bits (be b 80 4) 20 12, badRun := 0, rx := rxDrop (u.dl k.val).rx c ++ (if c.eop then [] else [⟨parts⟩]), owed := (u.dl k.val).owed.put crZero c.pool ((u.dl k.val).owed.get crZero c.pool + 1) }).count (fDLCELLR_COUNT k.val) 1) ∧
      c.eop = true ∧
      (v.dlMine k.val c.dst = true ∨ (8 ≤ c.typ ∧ c.typ < 16) ∨ c.typ = 0x7F) ∧
      c.typ = 7 ∧
      bit (be b 80 4) 7 = false) ∧
    (∃ (m : List DlCell) (c : DlCell) (b : List Byte),
      m.head? = some c ∧
      b = (m.flatMap (·.payload)) ∧
      c.typ = 2) ∧
    (∃ (m : List DlCell) (c : DlCell) (b : List Byte) (s : State),
      m.head? = some c ∧
      b = (m.flatMap (·.payload)) ∧
      c.typ = 3 ∧
      s.fget fREPDPORT_UPLINK ≠ s.self ∧
      s.fget fREPDPORT_UPLINK = c.src) ∧
    (∃ (m : List DlCell) (c : DlCell) (b : List Byte) (s : State),
      m.head? = some c ∧
      b = (m.flatMap (·.payload)) ∧
      c.typ = 3 ∧
      (s.fget fREPDPORT_UPLINK = s.self ∨ s.fget fREPDPORT_UPLINK ≠ c.src)) :=
  ⟨⟨0, tCell5, [], tDl, ((parseCell (tCell5 : List Byte) ([] : List (Fin 8)))), (((tDl : State).dlWord (0 : Fin 4).val (be (tCell5 : List Byte) 80 4))), by decide +kernel⟩,
   ⟨0, tCellS, [], tDl, ((parseCell (tCellS : List Byte) ([] : List (Fin 8)))), (((tDl : State).dlWord (0 : Fin 4).val (be (tCellS : List Byte) 80 4))), (((match rxFind (((((tDl : State).dlWord (0 : Fin 4).val (be (tCellS : List Byte) 80 4))) : State).dl (0 : Fin 4).val).rx (((parseCell (tCellS : List Byte) ([] : List (Fin 8)))) : DlCell) with | some m => m.parts | none => []) ++ [(((parseCell (tCellS : List Byte) ([] : List (Fin 8)))) : DlCell)])), (((((((tDl : State).dlWord (0 : Fin 4).val (be (tCellS : List Byte) 80 4))) : State).setDl (0 : Fin 4).val { ((((tDl : State).dlWord (0 : Fin 4).val (be (tCellS : List Byte) 80 4))) : State).dl (0 : Fin 4).val with rxSeq := bits (be (tCellS : List Byte) 80 4) 20 12, badRun := 0, rx := rxDrop (((((tDl : State).dlWord (0 : Fin 4).val (be (tCellS : List Byte) 80 4))) : State).dl (0 : Fin 4).val).rx (((parseCell (tCellS : List Byte) ([] : List (Fin 8)))) : DlCell) ++ (if (((parseCell (tCellS : List Byte) ([] : List (Fin 8)))) : DlCell).eop then [] else [⟨((((match rxFind (((((tDl : State).dlWord (0 : Fin 4).val (be (tCellS : List Byte) 80 4))) : State).dl (0 : Fin 4).val).rx (((parseCell (tCellS : List Byte) ([] : List (Fin 8)))) : DlCell) with | some m => m.parts | none => []) ++ [(((parseCell (tCellS : List Byte) ([] : List (Fin 8)))) : DlCell)])) : List DlCell)⟩]), owed := (((((tDl : State).dlWord (0 : Fin 4).val (be (tCellS : List Byte) 80 4))) : State).dl (0 : Fin 4).val).owed.put crZero (((parseCell (tCellS : List Byte) ([] : List (Fin 8)))) : DlCell).pool ((((((tDl : State).dlWord (0 : Fin 4).val (be (tCellS : List Byte) 80 4))) : State).dl (0 : Fin 4).val).owed.get crZero (((parseCell (tCellS : List Byte) ([] : List (Fin 8)))) : DlCell).pool + 1) }).count (fDLCELLR_COUNT (0 : Fin 4).val) 1)), by decide +kernel⟩,
   ⟨0, tCell, [], tDl, ((parseCell (tCell : List Byte) ([] : List (Fin 8)))), (((tDl : State).dlWord (0 : Fin 4).val (be (tCell : List Byte) 80 4))), (((match rxFind (((((tDl : State).dlWord (0 : Fin 4).val (be (tCell : List Byte) 80 4))) : State).dl (0 : Fin 4).val).rx (((parseCell (tCell : List Byte) ([] : List (Fin 8)))) : DlCell) with | some m => m.parts | none => []) ++ [(((parseCell (tCell : List Byte) ([] : List (Fin 8)))) : DlCell)])), (((((((tDl : State).dlWord (0 : Fin 4).val (be (tCell : List Byte) 80 4))) : State).setDl (0 : Fin 4).val { ((((tDl : State).dlWord (0 : Fin 4).val (be (tCell : List Byte) 80 4))) : State).dl (0 : Fin 4).val with rxSeq := bits (be (tCell : List Byte) 80 4) 20 12, badRun := 0, rx := rxDrop (((((tDl : State).dlWord (0 : Fin 4).val (be (tCell : List Byte) 80 4))) : State).dl (0 : Fin 4).val).rx (((parseCell (tCell : List Byte) ([] : List (Fin 8)))) : DlCell) ++ (if (((parseCell (tCell : List Byte) ([] : List (Fin 8)))) : DlCell).eop then [] else [⟨((((match rxFind (((((tDl : State).dlWord (0 : Fin 4).val (be (tCell : List Byte) 80 4))) : State).dl (0 : Fin 4).val).rx (((parseCell (tCell : List Byte) ([] : List (Fin 8)))) : DlCell) with | some m => m.parts | none => []) ++ [(((parseCell (tCell : List Byte) ([] : List (Fin 8)))) : DlCell)])) : List DlCell)⟩]), owed := (((((tDl : State).dlWord (0 : Fin 4).val (be (tCell : List Byte) 80 4))) : State).dl (0 : Fin 4).val).owed.put crZero (((parseCell (tCell : List Byte) ([] : List (Fin 8)))) : DlCell).pool ((((((tDl : State).dlWord (0 : Fin 4).val (be (tCell : List Byte) 80 4))) : State).dl (0 : Fin 4).val).owed.get crZero (((parseCell (tCell : List Byte) ([] : List (Fin 8)))) : DlCell).pool + 1) }).count (fDLCELLR_COUNT (0 : Fin 4).val) 1)), by decide +kernel⟩,
   ⟨0, tCellF, [], tDl, ((parseCell (tCellF : List Byte) ([] : List (Fin 8)))), (((tDl : State).dlWord (0 : Fin 4).val (be (tCellF : List Byte) 80 4))), (((match rxFind (((((tDl : State).dlWord (0 : Fin 4).val (be (tCellF : List Byte) 80 4))) : State).dl (0 : Fin 4).val).rx (((parseCell (tCellF : List Byte) ([] : List (Fin 8)))) : DlCell) with | some m => m.parts | none => []) ++ [(((parseCell (tCellF : List Byte) ([] : List (Fin 8)))) : DlCell)])), (((((((tDl : State).dlWord (0 : Fin 4).val (be (tCellF : List Byte) 80 4))) : State).setDl (0 : Fin 4).val { ((((tDl : State).dlWord (0 : Fin 4).val (be (tCellF : List Byte) 80 4))) : State).dl (0 : Fin 4).val with rxSeq := bits (be (tCellF : List Byte) 80 4) 20 12, badRun := 0, rx := rxDrop (((((tDl : State).dlWord (0 : Fin 4).val (be (tCellF : List Byte) 80 4))) : State).dl (0 : Fin 4).val).rx (((parseCell (tCellF : List Byte) ([] : List (Fin 8)))) : DlCell) ++ (if (((parseCell (tCellF : List Byte) ([] : List (Fin 8)))) : DlCell).eop then [] else [⟨((((match rxFind (((((tDl : State).dlWord (0 : Fin 4).val (be (tCellF : List Byte) 80 4))) : State).dl (0 : Fin 4).val).rx (((parseCell (tCellF : List Byte) ([] : List (Fin 8)))) : DlCell) with | some m => m.parts | none => []) ++ [(((parseCell (tCellF : List Byte) ([] : List (Fin 8)))) : DlCell)])) : List DlCell)⟩]), owed := (((((tDl : State).dlWord (0 : Fin 4).val (be (tCellF : List Byte) 80 4))) : State).dl (0 : Fin 4).val).owed.put crZero (((parseCell (tCellF : List Byte) ([] : List (Fin 8)))) : DlCell).pool ((((((tDl : State).dlWord (0 : Fin 4).val (be (tCellF : List Byte) 80 4))) : State).dl (0 : Fin 4).val).owed.get crZero (((parseCell (tCellF : List Byte) ([] : List (Fin 8)))) : DlCell).pool + 1) }).count (fDLCELLR_COUNT (0 : Fin 4).val) 1)), by decide +kernel⟩,
   ⟨0, tCell, [], tDl, ((parseCell (tCell : List Byte) ([] : List (Fin 8)))), (((tDl : State).dlWord (0 : Fin 4).val (be (tCell : List Byte) 80 4))), (((match rxFind (((((tDl : State).dlWord (0 : Fin 4).val (be (tCell : List Byte) 80 4))) : State).dl (0 : Fin 4).val).rx (((parseCell (tCell : List Byte) ([] : List (Fin 8)))) : DlCell) with | some m => m.parts | none => []) ++ [(((parseCell (tCell : List Byte) ([] : List (Fin 8)))) : DlCell)])), (((((((tDl : State).dlWord (0 : Fin 4).val (be (tCell : List Byte) 80 4))) : State).setDl (0 : Fin 4).val { ((((tDl : State).dlWord (0 : Fin 4).val (be (tCell : List Byte) 80 4))) : State).dl (0 : Fin 4).val with rxSeq := bits (be (tCell : List Byte) 80 4) 20 12, badRun := 0, rx := rxDrop (((((tDl : State).dlWord (0 : Fin 4).val (be (tCell : List Byte) 80 4))) : State).dl (0 : Fin 4).val).rx (((parseCell (tCell : List Byte) ([] : List (Fin 8)))) : DlCell) ++ (if (((parseCell (tCell : List Byte) ([] : List (Fin 8)))) : DlCell).eop then [] else [⟨((((match rxFind (((((tDl : State).dlWord (0 : Fin 4).val (be (tCell : List Byte) 80 4))) : State).dl (0 : Fin 4).val).rx (((parseCell (tCell : List Byte) ([] : List (Fin 8)))) : DlCell) with | some m => m.parts | none => []) ++ [(((parseCell (tCell : List Byte) ([] : List (Fin 8)))) : DlCell)])) : List DlCell)⟩]), owed := (((((tDl : State).dlWord (0 : Fin 4).val (be (tCell : List Byte) 80 4))) : State).dl (0 : Fin 4).val).owed.put crZero (((parseCell (tCell : List Byte) ([] : List (Fin 8)))) : DlCell).pool ((((((tDl : State).dlWord (0 : Fin 4).val (be (tCell : List Byte) 80 4))) : State).dl (0 : Fin 4).val).owed.get crZero (((parseCell (tCell : List Byte) ([] : List (Fin 8)))) : DlCell).pool + 1) }).count (fDLCELLR_COUNT (0 : Fin 4).val) 1)), by decide +kernel⟩,
   ⟨[{ cls := 3, det := false, sop := true, eop := true, dst := 0, src := 1, typ := 2, msgid := 0, payload := [5, 6] }], { cls := 3, det := false, sop := true, eop := true, dst := 0, src := 1, typ := 2, msgid := 0, payload := [5, 6] }, ((([{ cls := 3, det := false, sop := true, eop := true, dst := 0, src := 1, typ := 2, msgid := 0, payload := [5, 6] }] : List DlCell).flatMap (·.payload))), by decide +kernel⟩,
   ⟨[{ cls := 3, det := false, sop := true, eop := true, dst := 0, src := 1, typ := 3, msgid := 0, payload := [5, 6] }], { cls := 3, det := false, sop := true, eop := true, dst := 0, src := 1, typ := 3, msgid := 0, payload := [5, 6] }, ((([{ cls := 3, det := false, sop := true, eop := true, dst := 0, src := 1, typ := 3, msgid := 0, payload := [5, 6] }] : List DlCell).flatMap (·.payload))), tDl.fset fREPDPORT_UPLINK 1, by decide +kernel⟩,
   ⟨[{ cls := 3, det := false, sop := true, eop := true, dst := 0, src := 1, typ := 3, msgid := 0, payload := [5, 6] }], { cls := 3, det := false, sop := true, eop := true, dst := 0, src := 1, typ := 3, msgid := 0, payload := [5, 6] }, ((([{ cls := 3, det := false, sop := true, eop := true, dst := 0, src := 1, typ := 3, msgid := 0, payload := [5, 6] }] : List DlCell).flatMap (·.payload))), tDl, by decide +kernel⟩⟩

/-- The hypotheses of DunebLinks can be met: part 3. -/
theorem test_meets_duneb_links_3 :
    (∃ (m : List DlCell) (c : DlCell) (b : List Byte),
      m.head? = some c ∧
      b = (m.flatMap (·.payload)) ∧
      c.typ = 4 ∧
      b = [0x01]) ∧
    (∃ (m : List DlCell) (c : DlCell) (b : List Byte),
      m.head? = some c ∧
      b = (m.flatMap (·.payload)) ∧
      c.typ = 6 ∧
      bits (be b 0 1) 4 4 = 6 ∧
      40 ≤ b.length) ∧
    (∃ (m : List DlCell) (c : DlCell) (b : List Byte),
      m.head? = some c ∧
      b = (m.flatMap (·.payload)) ∧
      c.typ = 6 ∧
      (bits (be b 0 1) 4 4 ≠ 6 ∨ b.length < 40)) ∧
    (∃ (m : List DlCell) (c : DlCell) (b : List Byte),
      m.head? = some c ∧
      b = (m.flatMap (·.payload)) ∧
      c.typ = 7) ∧
    (∃ (m : List DlCell) (c : DlCell) (b : List Byte),
      m.head? = some c ∧
      b = (m.flatMap (·.payload)) ∧
      c.typ = 0x7F) ∧
    (∃ (m : List DlCell) (c : DlCell) (b : List Byte),
      m.head? = some c ∧
      b = (m.flatMap (·.payload)) ∧
      c.typ ≠ 2 ∧
      c.typ ≠ 3 ∧
      (c.typ ≠ 4 ∨ b ≠ [0x01]) ∧
      c.typ ≠ 6 ∧
      c.typ ≠ 7 ∧
      c.typ ≠ 0x7F) ∧
    (∃ (k : Nat) (m : List DlCell) (c : DlCell) (route : Option (Nat × Bool)) (s : State),
      m.head? = some c ∧
      route = (if c.dst = s.self then some (3, true) else s.dlRoute c.dst (c.det || k = 3)) ∧
      (route.all fun r => !s.dlUp r.1) = true) ∧
    (∃ (k : Nat) (m : List DlCell) (c : DlCell) (route : Option (Nat × Bool)) (s : State) (j : Nat) (det : Bool),
      m.head? = some c ∧
      route = (if c.dst = s.self then some (3, true) else s.dlRoute c.dst (c.det || k = 3)) ∧
      route = some (j, det) ∧
      s.dlUp j = true) :=
  ⟨⟨[{ cls := 3, det := false, sop := true, eop := true, dst := 0, src := 1, typ := 4, msgid := 0, payload := [1] }], { cls := 3, det := false, sop := true, eop := true, dst := 0, src := 1, typ := 4, msgid := 0, payload := [1] }, ((([{ cls := 3, det := false, sop := true, eop := true, dst := 0, src := 1, typ := 4, msgid := 0, payload := [1] }] : List DlCell).flatMap (·.payload))), by decide +kernel⟩,
   ⟨[{ cls := 3, det := false, sop := true, eop := true, dst := 0, src := 1, typ := 6, msgid := 0, payload := (0x60 :: List.replicate 39 0) }], { cls := 3, det := false, sop := true, eop := true, dst := 0, src := 1, typ := 6, msgid := 0, payload := (0x60 :: List.replicate 39 0) }, ((([{ cls := 3, det := false, sop := true, eop := true, dst := 0, src := 1, typ := 6, msgid := 0, payload := (0x60 :: List.replicate 39 0) }] : List DlCell).flatMap (·.payload))), by decide +kernel⟩,
   ⟨[{ cls := 3, det := false, sop := true, eop := true, dst := 0, src := 1, typ := 6, msgid := 0, payload := [5, 6] }], { cls := 3, det := false, sop := true, eop := true, dst := 0, src := 1, typ := 6, msgid := 0, payload := [5, 6] }, ((([{ cls := 3, det := false, sop := true, eop := true, dst := 0, src := 1, typ := 6, msgid := 0, payload := [5, 6] }] : List DlCell).flatMap (·.payload))), by decide +kernel⟩,
   ⟨[{ cls := 3, det := false, sop := true, eop := true, dst := 0, src := 1, typ := 7, msgid := 0, payload := [5, 6] }], { cls := 3, det := false, sop := true, eop := true, dst := 0, src := 1, typ := 7, msgid := 0, payload := [5, 6] }, ((([{ cls := 3, det := false, sop := true, eop := true, dst := 0, src := 1, typ := 7, msgid := 0, payload := [5, 6] }] : List DlCell).flatMap (·.payload))), by decide +kernel⟩,
   ⟨[{ cls := 3, det := false, sop := true, eop := true, dst := 0, src := 1, typ := 0x7F, msgid := 0, payload := tHello }], { cls := 3, det := false, sop := true, eop := true, dst := 0, src := 1, typ := 0x7F, msgid := 0, payload := tHello }, ((([{ cls := 3, det := false, sop := true, eop := true, dst := 0, src := 1, typ := 0x7F, msgid := 0, payload := tHello }] : List DlCell).flatMap (·.payload))), by decide +kernel⟩,
   ⟨[{ cls := 3, det := false, sop := true, eop := true, dst := 0, src := 1, typ := 1, msgid := 0, payload := [5, 6] }], { cls := 3, det := false, sop := true, eop := true, dst := 0, src := 1, typ := 1, msgid := 0, payload := [5, 6] }, ((([{ cls := 3, det := false, sop := true, eop := true, dst := 0, src := 1, typ := 1, msgid := 0, payload := [5, 6] }] : List DlCell).flatMap (·.payload))), by decide +kernel⟩,
   ⟨0, [{ cls := 3, det := false, sop := true, eop := true, dst := 1, src := 1, typ := 7, msgid := 0, payload := [5] }], { cls := 3, det := false, sop := true, eop := true, dst := 1, src := 1, typ := 7, msgid := 0, payload := [5] }, ((if ({ cls := 3, det := false, sop := true, eop := true, dst := 1, src := 1, typ := 7, msgid := 0, payload := [5] } : DlCell).dst = (State.reset : State).self then some (3, true) else (State.reset : State).dlRoute ({ cls := 3, det := false, sop := true, eop := true, dst := 1, src := 1, typ := 7, msgid := 0, payload := [5] } : DlCell).dst (({ cls := 3, det := false, sop := true, eop := true, dst := 1, src := 1, typ := 7, msgid := 0, payload := [5] } : DlCell).det || (0 : Nat) = 3))), State.reset, by decide +kernel⟩,
   ⟨1, [{ cls := 3, det := false, sop := true, eop := true, dst := 1, src := 1, typ := 7, msgid := 0, payload := [5] }], { cls := 3, det := false, sop := true, eop := true, dst := 1, src := 1, typ := 7, msgid := 0, payload := [5] }, ((if ({ cls := 3, det := false, sop := true, eop := true, dst := 1, src := 1, typ := 7, msgid := 0, payload := [5] } : DlCell).dst = (tDl : State).self then some (3, true) else (tDl : State).dlRoute ({ cls := 3, det := false, sop := true, eop := true, dst := 1, src := 1, typ := 7, msgid := 0, payload := [5] } : DlCell).dst (({ cls := 3, det := false, sop := true, eop := true, dst := 1, src := 1, typ := 7, msgid := 0, payload := [5] } : DlCell).det || (1 : Nat) = 3))), tDl, 0, false, by decide +kernel⟩⟩

/-- The hypotheses of DunebLinks can be met: part 4. -/
theorem test_meets_duneb_links_4 :
    (∃ (k : Fin 4) (s : State),
      s.clocked = true ∧
      (s.dlUp k.val = false ∨ s.time.raw < (s.dl k.val).progAt + s.fget (fDLCFG_RTO k.val) ∨ (s.dl k.val).retry = [])) ∧
    (∃ (k : Fin 4) (s : State),
      s.clocked = true ∧
      s.dlUp k.val = true ∧
      (s.dl k.val).progAt + s.fget (fDLCFG_RTO k.val) ≤ s.time.raw ∧
      (s.dl k.val).retry ≠ [] ∧
      (s.dl k.val).resends < s.fget (fDLCFG_RETRYMAX k.val) ∧
      ((s.dl k.val).retry.all fun e => decide (e.1 < 4096 ∧ e.2.payload.length ≤ 64 ∧ e.2.cls < 4 ∧ e.2.dst < 8 ∧ e.2.src < 8 ∧ e.2.typ < 256)) = true) ∧
    (∃ (k : Fin 4) (s : State),
      s.clocked = true ∧
      s.dlUp k.val = true ∧
      (s.dl k.val).progAt + s.fget (fDLCFG_RTO k.val) ≤ s.time.raw ∧
      (s.dl k.val).retry ≠ [] ∧
      s.fget (fDLCFG_RETRYMAX k.val) ≤ (s.dl k.val).resends) ∧
    (∃ (k : Fin 4) (s : State),
      s.clocked = true ∧
      s.dlUp k.val = true) ∧
    (∃ (k : Fin 4) (b : List Byte) (s : State),
      s.clocked = true ∧
      (s.flag (fDLCFG_EN k.val) = false ∨ s.fenced (16 + k.val) = true ∨ b.length ≠ 24)) ∧
    (∃ (k : Fin 4) (b : List Byte) (s : State) (u : State),
      s.clocked = true ∧
      s.flag (fDLCFG_EN k.val) = true ∧
      s.fenced (16 + k.val) = false ∧
      b.length = 24 ∧
      (be b 1 1 = s.fget fSEMCFG_NCHIPS ∧ if k = 3 then be b 0 1 = s.self else be b 0 1 = s.self ^^^ 2 ^ k.val ∧ be b 0 1 < s.fget fSEMCFG_NCHIPS) ∧
      u = (((((s.setDl k.val { (if s.dlUp k.val then s.dl k.val else {}) with farEpoch := be b 4 4, farDig := be b 16 8, farSide := bits (be b 2 1) 1 1 }).setFlag (fDLSTAT_UP k.val) true).setFlag (fDLSTAT_LOCK k.val) true).setFlag (fDLSTAT_MISWIRE k.val) false).fset (fDLSTAT_FAR k.val) (be b 0 1)).setFlag (fDLSTAT_FARSTBY k.val) (bit (be b 2 1) 0)) ∧
    (∃ (k : Fin 4) (b : List Byte) (s : State),
      s.clocked = true ∧
      s.flag (fDLCFG_EN k.val) = true ∧
      s.fenced (16 + k.val) = false ∧
      b.length = 24 ∧
      ¬(be b 1 1 = s.fget fSEMCFG_NCHIPS ∧ if k = 3 then be b 0 1 = s.self else be b 0 1 = s.self ^^^ 2 ^ k.val ∧ be b 0 1 < s.fget fSEMCFG_NCHIPS)) :=
  ⟨⟨0, State.reset, by decide +kernel⟩,
   ⟨0, tDlR, by decide +kernel⟩,
   ⟨0, tDlR.fset (fDLCFG_RETRYMAX 0) 0, by decide +kernel⟩,
   ⟨0, tDlR, by decide +kernel⟩,
   ⟨0, tHello, State.reset, by decide +kernel⟩,
   ⟨0, tHello, tDl, (((((((tDl : State).setDl (0 : Fin 4).val { (if (tDl : State).dlUp (0 : Fin 4).val then (tDl : State).dl (0 : Fin 4).val else {}) with farEpoch := be (tHello : List Byte) 4 4, farDig := be (tHello : List Byte) 16 8, farSide := bits (be (tHello : List Byte) 2 1) 1 1 }).setFlag (fDLSTAT_UP (0 : Fin 4).val) true).setFlag (fDLSTAT_LOCK (0 : Fin 4).val) true).setFlag (fDLSTAT_MISWIRE (0 : Fin 4).val) false).fset (fDLSTAT_FAR (0 : Fin 4).val) (be (tHello : List Byte) 0 1)).setFlag (fDLSTAT_FARSTBY (0 : Fin 4).val) (bit (be (tHello : List Byte) 2 1) 0)), by decide +kernel⟩,
   ⟨0, tHello.set 0 3, tDl, by decide +kernel⟩⟩

/-- The hypotheses of SeamMapAndMoves can be met: part 1. -/
theorem test_meets_seam_map_and_moves_1 :
    (∃ (m : List Byte) (s : State),
      s.clocked = true ∧
      m.length ≠ 16384) ∧
    (∃ (m : List Byte) (s : State),
      s.clocked = true ∧
      m.length = 16384 ∧
      s.mov.pending = false) ∧
    (∃ (m : List Byte) (s : State),
      s.clocked = true ∧
      m.length = 16384 ∧
      s.mov.pending = true) ∧
    (∃ (a : Agent) (b : BitVec 12) (h : BitVec 3) (s : State) (u : State),
      s.writes a rSEMWRITE = true ∧
      s.mov.pending = false ∧
      h.toNat < s.fget fSEMCFG_NCHIPS ∧
      u = ((s.fset fSEMWRITE_BUCKET b.toNat).fset fSEMWRITE_HOME h.toNat)) ∧
    (∃ (a : Agent) (h : BitVec 3) (s : State),
      s.writes a rSEMWRITE = true ∧
      s.mov.pending = false ∧
      s.fget fSEMCFG_NCHIPS ≤ h.toNat) ∧
    (∃ (a : Agent) (s : State),
      s.writes a rSEMWRITE = true ∧
      s.mov.pending = true) ∧
    (∃ (a : Agent) (v : DWord) (otherK : Int) (noProg : Bool) (s : State),
      s.writes a rSEMMOVE = true ∧
      s.mov.pending = false ∧
      fSEMMOVE_NEW.of v.toNat < s.fget fSEMCFG_NCHIPS ∧
      s.kLast + 2 ≤ fSEMMOVE_M.of v.toNat ∧
      otherK + 2 ≤ fSEMMOVE_M.of v.toNat ∧
      noProg = false) ∧
    (∃ (a : Agent) (s : State),
      s.writes a rSEMMOVE = true ∧
      s.mov.pending = true) :=
  ⟨⟨[1], tDl, by decide +kernel⟩,
   ⟨List.replicate 16384 1, tDl, by decide +kernel⟩,
   ⟨List.replicate 16384 1, tOld, by decide +kernel⟩,
   ⟨.port, 3, 1, tDl, ((((tDl : State).fset fSEMWRITE_BUCKET (3 : BitVec 12).toNat).fset fSEMWRITE_HOME (1 : BitVec 3).toNat)), by decide +kernel⟩,
   ⟨.port, 2, tDl, by decide +kernel⟩,
   ⟨.port, tOld, by decide +kernel⟩,
   ⟨.port, BitVec.ofNat 64 (2 ^ 12 + 9 * 2 ^ 32), -1, (false), tSeam, by decide +kernel⟩,
   ⟨.port, tOld, by decide +kernel⟩⟩

/-- The hypotheses of SeamMapAndMoves can be met: part 2. -/
theorem test_meets_seam_map_and_moves_2 :
    (∃ (a : Agent) (v : DWord) (otherK : Int) (noProg : Bool) (s : State),
      s.writes a rSEMMOVE = true ∧
      s.mov.pending = false ∧
      (s.fget fSEMCFG_NCHIPS ≤ fSEMMOVE_NEW.of v.toNat ∨ fSEMMOVE_M.of v.toNat < s.kLast + 2 ∨ fSEMMOVE_M.of v.toNat < otherK + 2 ∨ noProg = true)) ∧
    (∃ (b : List Byte) (s : State),
      s.clocked = true ∧
      (s.moveIsB = false ∨ s.mov.committed = true ∨ (b ≠ [] ∧ (b.length ≠ 5352 ∨ (EptEntry.parse (sub b 5320 32)).seamb ≠ s.mov.bucket)))) ∧
    (∃ (b : List Byte) (poison : List Nat) (_last : Bool) (s : State) (u : State),
      s.clocked = true ∧
      s.moveIsB = true ∧
      s.mov.committed = false ∧
      b.length = 5352 ∧
      (EptEntry.parse (sub b 5320 32)).seamb = s.mov.bucket ∧
      s.endpointWrite b poison = (.done, u)) ∧
    (∃ (b : List Byte) (poison : List Nat) (_last : Bool) (s : State) (status : Status) (u : State),
      s.clocked = true ∧
      s.moveIsB = true ∧
      s.mov.committed = false ∧
      b.length = 5352 ∧
      (EptEntry.parse (sub b 5320 32)).seamb = s.mov.bucket ∧
      s.endpointWrite b poison = (status, u) ∧
      status ≠ .done) ∧
    (∃ (b : List Byte) (_poison : List Nat) (s v : State) (status : Status) (epi : Nat),
      epi = (EptEntry.parse (sub b 5320 32)).epi ∧
      s.eptWrite (entryWithType (sub b 5320 32) eptLocal) = (status, v)) ∧
    (∃ (s : State),
      s.clocked = true ∧
      s.moveIsB = true ∧
      s.mov.committed = false ∧
      (¬ (s.mov.expected.isSome = true ∧ s.mov.ckptWait = false ∧ s.held (.moveIn s.mov.bucket) = false) ∨ s.ingestOpen = false ∨ s.ldg.inq ≠ [])) ∧
    (∃ (s : State) (u : State) (v : State),
      s.clocked = true ∧
      s.moveIsB = true ∧
      s.mov.committed = false ∧
      (s.mov.expected.isSome = true ∧ s.mov.ckptWait = false ∧ s.held (.moveIn s.mov.bucket) = false) ∧
      s.ingestOpen = true ∧
      s.ldg.inq = [] ∧
      s.ringTakes ⟨jkMoveIn, 1, 0, moveBody s.mov.bucket s.mov.m⟩ = true ∧
      u = (s.journaled ⟨jkMoveIn, 1, 0, moveBody s.mov.bucket s.mov.m⟩) ∧
      v = (((((s.mov.received.foldl (fun t e => t.poke (t.pageAddr e + 8) 8 u.lastIsn) u).setMov { s.mov with committed := true }).fset fSEMSTAT_MOVE semCommitted)).seamChange s.mov.bucket s.self)) ∧
    (∃ (b : BitVec 12) (s : State),
      s.clocked = true ∧
      s.moveIsB = true ∧
      s.mov.bucket = b.toNat) :=
  ⟨⟨.port, BitVec.ofNat 64 (2 ^ 12 + 9 * 2 ^ 32), -1, true, tSeam, by decide +kernel⟩,
   ⟨tMove, State.reset, by decide +kernel⟩,
   ⟨tMove, [], true, tNew, (tNew.endpointWrite tMove []).2, by decide +kernel, by decide +kernel, by decide +kernel, by decide +kernel, by decide +kernel, test_snd (by decide +kernel)⟩,
   ⟨tMove5, [], true, tNew, .badArgument, (tNew.endpointWrite tMove5 []).2, by decide +kernel, by decide +kernel, by decide +kernel, by decide +kernel, by decide +kernel, test_snd (by decide +kernel), by decide⟩,
   ⟨tMove, [], tNew, (tNew.eptWrite (entryWithType (sub tMove 5320 32) eptLocal)).2, .done, 6, by decide +kernel, test_snd (by decide +kernel)⟩,
   ⟨tNew, by decide +kernel⟩,
   ⟨tNewIn, (((tNewIn : State).journaled ⟨jkMoveIn, 1, 0, moveBody (tNewIn : State).mov.bucket (tNewIn : State).mov.m⟩)), (((((((tNewIn : State).mov.received.foldl (fun t e => t.poke (t.pageAddr e + 8) 8 ((((tNewIn : State).journaled ⟨jkMoveIn, 1, 0, moveBody (tNewIn : State).mov.bucket (tNewIn : State).mov.m⟩)) : State).lastIsn) ((((tNewIn : State).journaled ⟨jkMoveIn, 1, 0, moveBody (tNewIn : State).mov.bucket (tNewIn : State).mov.m⟩)) : State)).setMov { (tNewIn : State).mov with committed := true }).fset fSEMSTAT_MOVE semCommitted)).seamChange (tNewIn : State).mov.bucket (tNewIn : State).self)), by decide +kernel⟩,
   ⟨0, tNew, by decide +kernel⟩⟩

/-- The hypotheses of SeamMapAndMoves can be met: part 3. -/
theorem test_meets_seam_map_and_moves_3 :
    (∃ (b : BitVec 12) (s : State) (u : State),
      s.clocked = true ∧
      s.moveIsA = true ∧
      s.mov.bucket = b.toNat ∧
      s.mov.cutAt.isSome = true ∧
      s.ringTakes ⟨jkMoveOut, 1, 0, moveBody b.toNat s.mov.m⟩ = true ∧
      u = (s.journaled ⟨jkMoveOut, 1, 0, moveBody b.toNat s.mov.m⟩)) ∧
    (∃ (b : BitVec 12) (s : State),
      s.clocked = true ∧
      s.moveIsA = true ∧
      s.mov.bucket = b.toNat ∧
      s.mov.cutAt.isSome = true ∧
      s.isActive = false ∧
      (2 ^ 48 - 2 ^ 25 < s.lastIsn + 1 ∨ s.reserveBars jkMoveOut (needAll (s.fget fMRMHEAD_OFFSET) [⟨jkMoveOut, 1, 0, moveBody b.toNat s.mov.m⟩]) = true ∨ ringSize < s.ringUsed + needAll (s.fget fMRMHEAD_OFFSET) [⟨jkMoveOut, 1, 0, moveBody b.toNat s.mov.m⟩])) ∧
    (∃ (b : BitVec 12) (s : State),
      s.clocked = true ∧
      (s.moveIsB = false ∨ s.mov.bucket ≠ b.toNat) ∧
      (s.moveIsA = false ∨ s.mov.bucket ≠ b.toNat ∨ s.mov.cutAt = none)) ∧
    (∃ (b : BitVec 12) (home : BitVec 3) (s : State),
      s.clocked = true ∧
      s.mov.pending = false ∧
      ¬(s.seamHome b.toNat = home.toNat ∧ s.seamMoving b.toNat = false)) ∧
    (∃ (s : State) (c : Nat),
      s.clocked = true ∧
      s.mov.cutAt = some c ∧
      s.moveIsA = true ∧
      s.mov.asked = false ∧
      c + secRaw (s.fget fSEMCFG_MOVETMO) ≤ s.time.raw) ∧
    (∃ (s : State),
      s.clocked = true ∧
      (s.mov.cutAt.all fun c => !s.moveIsA || s.mov.asked || decide (s.time.raw < c + secRaw (s.fget fSEMCFG_MOVETMO))) = true) ∧
    (∃ (a : Agent) (v : DWord) (s : State) (u : State),
      s.writes a rSEMMOVE = true ∧
      u = ((((s.dropStage rSEMMOVE).fset fSEMMOVE_BUCKET (fSEMMOVE_BUCKET.of v.toNat)).fset fSEMMOVE_NEW (fSEMMOVE_NEW.of v.toNat)).fset fSEMMOVE_M (fSEMMOVE_M.of v.toNat)) ∧
      s.mov.pending = false) ∧
    (∃ (a : Agent) (v : DWord) (s : State) (u : State),
      s.writes a rSEMMOVE = true ∧
      u = ((((s.dropStage rSEMMOVE).fset fSEMMOVE_BUCKET (fSEMMOVE_BUCKET.of v.toNat)).fset fSEMMOVE_NEW (fSEMMOVE_NEW.of v.toNat)).fset fSEMMOVE_M (fSEMMOVE_M.of v.toNat)) ∧
      s.moveIsB = true) :=
  ⟨⟨0, tOld, (((tOld : State).journaled ⟨jkMoveOut, 1, 0, moveBody (0 : BitVec 12).toNat (tOld : State).mov.m⟩)), by decide +kernel⟩,
   ⟨0, tOld.fset fMRMLASTISN_ISN (2 ^ 48 - 2 ^ 25), by decide +kernel⟩,
   ⟨3, tDl, by decide +kernel⟩,
   ⟨3, 1, tDl, by decide +kernel⟩,
   ⟨tOld, 0, by decide +kernel⟩,
   ⟨tNew, by decide +kernel⟩,
   ⟨.port, 0, tSeam, ((((((tSeam : State).dropStage rSEMMOVE).fset fSEMMOVE_BUCKET (fSEMMOVE_BUCKET.of (0 : DWord).toNat)).fset fSEMMOVE_NEW (fSEMMOVE_NEW.of (0 : DWord).toNat)).fset fSEMMOVE_M (fSEMMOVE_M.of (0 : DWord).toNat))), by decide +kernel⟩,
   ⟨.port, 0, tNew, ((((((tNew : State).dropStage rSEMMOVE).fset fSEMMOVE_BUCKET (fSEMMOVE_BUCKET.of (0 : DWord).toNat)).fset fSEMMOVE_NEW (fSEMMOVE_NEW.of (0 : DWord).toNat)).fset fSEMMOVE_M (fSEMMOVE_M.of (0 : DWord).toNat))), by decide +kernel⟩⟩

/-- The hypotheses of SeamMapAndMoves can be met: part 4. -/
theorem test_meets_seam_map_and_moves_4 :
    (∃ (a : Agent) (v : DWord) (s : State) (u : State),
      s.writes a rSEMMOVE = true ∧
      u = ((((s.dropStage rSEMMOVE).fset fSEMMOVE_BUCKET (fSEMMOVE_BUCKET.of v.toNat)).fset fSEMMOVE_NEW (fSEMMOVE_NEW.of v.toNat)).fset fSEMMOVE_M (fSEMMOVE_M.of v.toNat)) ∧
      s.moveIsA = true) ∧
    (∃ (a : Agent) (v : DWord) (s : State) (u : State),
      s.writes a rSEMMOVE = true ∧
      u = ((((s.dropStage rSEMMOVE).fset fSEMMOVE_BUCKET (fSEMMOVE_BUCKET.of v.toNat)).fset fSEMMOVE_NEW (fSEMMOVE_NEW.of v.toNat)).fset fSEMMOVE_M (fSEMMOVE_M.of v.toNat)) ∧
      s.mov.pending = true ∧
      s.moveIsA = false ∧
      s.moveIsB = false) ∧
    (∃ (s : State),
      s.clocked = true ∧
      s.moveIsB = true ∧
      s.mov.committed = false) ∧
    (∃ (s : State),
      s.clocked = true ∧
      s.mov.pending = true ∧
      s.mov.committed = true) ∧
    (∃ (s : State),
      s.clocked = true ∧
      (s.mov.pending = false ∨ (s.moveIsB = false ∧ s.mov.committed = false))) ∧
    (∃ (s : State),
      s.clocked = true ∧
      s.moveIsA = true) ∧
    (∃ (s : State),
      s.clocked = true ∧
      s.moveIsA = false) :=
  ⟨⟨.port, 0, tOld, ((((((tOld : State).dropStage rSEMMOVE).fset fSEMMOVE_BUCKET (fSEMMOVE_BUCKET.of (0 : DWord).toNat)).fset fSEMMOVE_NEW (fSEMMOVE_NEW.of (0 : DWord).toNat)).fset fSEMMOVE_M (fSEMMOVE_M.of (0 : DWord).toNat))), by decide +kernel⟩,
   ⟨.port, 0, tOld.seamPut 0 1 0 false, ((((((tOld.seamPut 0 1 0 false : State).dropStage rSEMMOVE).fset fSEMMOVE_BUCKET (fSEMMOVE_BUCKET.of (0 : DWord).toNat)).fset fSEMMOVE_NEW (fSEMMOVE_NEW.of (0 : DWord).toNat)).fset fSEMMOVE_M (fSEMMOVE_M.of (0 : DWord).toNat))), by decide +kernel⟩,
   ⟨tNew, by decide +kernel⟩,
   ⟨tNew.setMov { tNew.mov with committed := true }, by decide +kernel⟩,
   ⟨tOld, by decide +kernel⟩,
   ⟨tOld, by decide +kernel⟩,
   ⟨tNew, by decide +kernel⟩⟩

/-- The hypotheses of ReportSessions can be met: part 1. -/
theorem test_meets_report_sessions_1 :
    (∃ (s : State),
      (s.fenced 8 = true ∨ s.fenced 9 = true ∨ s.fenced 10 = true ∨ s.aesGone = true)) ∧
    (∃ (s : State) (x : Status × KeySlot),
      x = s.deliver (s.fget fREPKEYS_CKEY) mKem ∧
      (x.1 ≠ .done ∨ (x.2.typ ≠ ktKemPub ∧ x.2.typ ≠ ktKemPriv))) ∧
    (∃ (s : State) (k : KeySlot),
      s.fenced 8 = false ∧
      s.fenced 9 = false ∧
      s.fenced 10 = false ∧
      s.aesGone = false ∧
      s.deliver (s.fget fREPKEYS_CKEY) mKem = (.done, k) ∧
      (k.typ = ktKemPub ∨ k.typ = ktKemPriv) ∧
      ((s.deliver 0 mDsa).1 ≠ .done ∨ (s.deliver 0 mDsa).2.typ ≠ ktDsaPriv ∨ s.key.entropyBad = true)) ∧
    (∃ (s : State) (k k0 : KeySlot),
      s.fenced 8 = false ∧
      s.fenced 9 = false ∧
      s.fenced 10 = false ∧
      s.aesGone = false ∧
      s.deliver (s.fget fREPKEYS_CKEY) mKem = (.done, k) ∧
      (k.typ = ktKemPub ∨ k.typ = ktKemPriv) ∧
      s.deliver 0 mDsa = (.done, k0) ∧
      k0.typ = ktDsaPriv ∧
      s.key.entropyBad = false) ∧
    (∃ (s : State) (d : List Byte) (u : State),
      u = s.sesSend d) ∧
    (∃ (s : State),
      s.clocked = true ∧
      s.serving = true ∧
      s.flag fREPCFG_EN = true ∧
      s.ses.cur = none) ∧
    (∃ (s : State),
      s.clocked = true ∧
      (s.serving = false ∨ s.flag fREPCFG_EN = false ∨ s.ses.cur.isSome = true)) ∧
    (∃ (s : State) (c : Sess),
      s.clocked = true ∧
      s.ses.cur = some c ∧
      c.ack = false ∧
      c.initAt + msRaw (s.fget fREPTMR_RTO) ≤ s.time.raw) :=
  ⟨⟨tOpen.setReg rFENCE_STAT (2 ^ 9), by decide +kernel⟩,
   ⟨tSes none, ((tSes none : State).deliver ((tSes none : State).fget fREPKEYS_CKEY) mKem), by decide +kernel⟩,
   ⟨tOpen.setKey { tOpen.key with entropyBad := true }, tOpen.slot 2, by decide +kernel, by decide +kernel, by decide +kernel, by decide +kernel, by decide +kernel, by decide +kernel, by decide +kernel⟩,
   ⟨tOpen, tOpen.slot 2, tOpen.slot 0, by decide +kernel, by decide +kernel, by decide +kernel, by decide +kernel, by decide +kernel, by decide +kernel, by decide +kernel, by decide +kernel, by decide +kernel⟩,
   ⟨tSes none, tBack, ((tSes none : State).sesSend (tBack : List Byte)), by decide +kernel⟩,
   ⟨tOpen, by decide +kernel⟩,
   ⟨tSes (some tSess), by decide +kernel⟩,
   ⟨tOpen.setCur (some { tSess with ack := false }), { tSess with ack := false }, by decide +kernel⟩⟩

/-- The hypotheses of ReportSessions can be met: part 2. -/
theorem test_meets_report_sessions_2 :
    (∃ (s : State),
      s.clocked = true ∧
      (s.ses.cur.all fun c => c.ack || decide (s.time.raw < c.initAt + msRaw (s.fget fREPTMR_RTO))) = true) ∧
    (∃ (d : List Byte) (s : State) (c : Sess),
      s.clocked = true ∧
      s.aesGone = false ∧
      s.ses.cur = some c ∧
      dgramOk d 0x02 72 = true ∧
      be d 8 8 = c.sid ∧
      c.ack = false ∧
      be d 49 7 = 0 ∧
      sesTag ((shake256 (c.secret ++ beBytes 8 c.sid ++ c.nonceD ++ sub d 16 32) 64).drop 32) 1 0 (d.take 56) = d.drop 56) ∧
    (∃ (d : List Byte) (s : State) (c : Sess),
      s.clocked = true ∧
      s.aesGone = false ∧
      s.ses.cur = some c ∧
      dgramOk d 0x02 72 = true ∧
      be d 8 8 = c.sid ∧
      c.ack = false ∧
      be d 49 7 = 0 ∧
      sesTag ((shake256 (c.secret ++ beBytes 8 c.sid ++ c.nonceD ++ sub d 16 32) 64).drop 32) 1 0 (d.take 56) ≠ d.drop 56) ∧
    (∃ (d : List Byte) (s : State) (c : Sess),
      s.clocked = true ∧
      s.aesGone = false ∧
      s.ses.cur = some c ∧
      (dgramOk d 0x02 72 = false ∨ be d 8 8 ≠ c.sid ∨ c.ack = true ∨ be d 49 7 ≠ 0)) ∧
    (∃ (s : State),
      s.clocked = true ∧
      s.aesGone = false ∧
      s.ses.cur = none) ∧
    (∃ (s : State),
      s.clocked = true ∧
      s.aesGone = true) ∧
    (∃ (s : State) (fit : List (Nat × Rec)),
      s.clocked = true ∧
      s.serving = true ∧
      s.flag fREPCFG_EN = true ∧
      s.closing = some fit ∧
      s.mode = modeHoldover) ∧
    (∃ (s : State) (fit : List (Nat × Rec)) (u : State),
      s.clocked = true ∧
      s.serving = true ∧
      s.flag fREPCFG_EN = true ∧
      s.closing = some fit ∧
      s.mode = modeService ∧
      u = { s with merged := s.merged.drop fit.length, ses := { s.ses with ready := s.ses.ready ++ [fit.map (·.2)] } }) :=
  ⟨⟨tSes none, by decide +kernel⟩,
   ⟨tAccept, tSes (some { tSess with ack := false }), { tSess with ack := false }, by decide +kernel⟩,
   ⟨tAccept.set 40 1, tSes (some { tSess with ack := false }), { tSess with ack := false }, by decide +kernel⟩,
   ⟨tAccept, tSes (some tSess), tSess, by decide +kernel⟩,
   ⟨tSes none, by decide +kernel⟩,
   ⟨(tSes none).setReg rFENCE_STAT 0xF0, by decide +kernel⟩,
   ⟨{ (tSes none).fset fMODESTAT_MODE modeHoldover with merged := [(0, { typ := 5 })] }, [(0, { typ := 5 })], by decide +kernel, by decide +kernel, by decide +kernel, by decide +kernel, by decide +kernel⟩,
   ⟨{ (tSes none).fset fREPBUF_SIZE 1 with merged := [(0, { typ := 5 })] }, [(0, { typ := 5 })], ({ ({ (tSes none).fset fREPBUF_SIZE 1 with merged := [(0, { typ := 5 })] } : State) with merged := ({ (tSes none).fset fREPBUF_SIZE 1 with merged := [(0, { typ := 5 })] } : State).merged.drop ([(0, { typ := 5 })] : List (Nat × Rec)).length, ses := { ({ (tSes none).fset fREPBUF_SIZE 1 with merged := [(0, { typ := 5 })] } : State).ses with ready := ({ (tSes none).fset fREPBUF_SIZE 1 with merged := [(0, { typ := 5 })] } : State).ses.ready ++ [([(0, { typ := 5 })] : List (Nat × Rec)).map (·.2)] } }), by decide +kernel⟩⟩

/-- The hypotheses of ReportSessions can be met: part 3. -/
theorem test_meets_report_sessions_3 :
    (∃ (s : State),
      s.clocked = true ∧
      s.serving = true ∧
      s.flag fREPCFG_EN = true ∧
      s.closing = none) ∧
    (∃ (s : State),
      s.clocked = true ∧
      (s.serving = false ∨ s.flag fREPCFG_EN = false)) ∧
    (∃ (s : State) (r : Nat × Rec) (l : List (Nat × Rec)) (fit : List (Nat × Rec)),
      s.merged = r :: l ∧
      fit = r :: fitRecs (s.fget fREPCFG_MTU - 96 - r.2.bytes.length) l) ∧
    (∃ (s : State) (c : Sess),
      s.ses.cur = some c ∧
      (s.mode ≠ modeService ∨ s.aesGone = true ∨ c.ack = false ∨ c.closed = true ∨ s.fget fREPCFG_WIN ≤ c.flight.length ∨ 2 ^ 32 ≤ c.bseq ∨ s.nextBatch = none)) ∧
    (∃ (s : State),
      s.ses.cur = none) ∧
    (∃ (s : State) (c : Sess) (recs : List Rec) (stored : Bool),
      s.ses.cur = some c ∧
      s.mode = modeService ∧
      s.aesGone = false ∧
      c.ack = true ∧
      c.closed = false ∧
      c.flight.length < s.fget fREPCFG_WIN ∧
      c.bseq < 2 ^ 32 ∧
      s.nextBatch = some (recs, stored) ∧
      c.sign = false ∧
      s.flag fREPCFG_SIGN = false) ∧
    (∃ (s : State) (c : Sess) (recs : List Rec) (stored : Bool),
      s.ses.cur = some c ∧
      s.mode = modeService ∧
      s.aesGone = false ∧
      c.ack = true ∧
      c.closed = false ∧
      c.flight.length < s.fget fREPCFG_WIN ∧
      c.bseq < 2 ^ 32 ∧
      s.nextBatch = some (recs, stored) ∧
      (c.sign = true ∨ s.flag fREPCFG_SIGN = true)) ∧
    (∃ (d : List Byte) (s : State) (c : Sess),
      s.clocked = true ∧
      s.aesGone = false ∧
      dgramOk d 0x04 48 = true ∧
      s.ses.cur = some c ∧
      c.ack = true ∧
      c.sid = be d 8 8 ∧
      sesTag c.kDown 1 (be d 16 8) (d.take 32) = d.drop 32 ∧
      c.ackSeq < be d 16 8) :=
  ⟨⟨tSes (some tSess), by decide +kernel⟩,
   ⟨tSes none |>.setFlag fREPCFG_EN false, by decide +kernel⟩,
   ⟨{ (tSes none).fset fREPBUF_SIZE 1 with merged := [(0, { typ := 5 })] }, (0, { typ := 5 }), [], (((0, { typ := 5 }) : Nat × Rec) :: fitRecs (({ (tSes none).fset fREPBUF_SIZE 1 with merged := [(0, { typ := 5 })] } : State).fget fREPCFG_MTU - 96 - ((0, { typ := 5 }) : Nat × Rec).2.bytes.length) ([] : List (Nat × Rec))), by decide +kernel⟩,
   ⟨tSes (some tSess), tSess, by decide +kernel⟩,
   ⟨tSes none, by decide +kernel⟩,
   ⟨(tSes none).setSes { cur := some tSess, ready := [[{ typ := 6 }]] }, tSess, [{ typ := 6 }], false, by decide +kernel⟩,
   ⟨((tSes none).setSes { cur := some { tSess with sign := true }, ready := [[{ typ := 6 }]] }).setSlot 0 { typ := 4, mask := 0x10, mat := List.replicate 32 1 }, { tSess with sign := true }, [{ typ := 6 }], false, by decide +kernel⟩,
   ⟨tBack, tSes (some tSess), tSess, by decide +kernel⟩⟩

/-- The hypotheses of ReportSessions can be met: part 4. -/
theorem test_meets_report_sessions_4 :
    (∃ (d : List Byte) (s : State) (c : Sess),
      s.clocked = true ∧
      s.aesGone = false ∧
      dgramOk d 0x04 48 = true ∧
      s.ses.cur = some c ∧
      c.ack = true ∧
      c.sid = be d 8 8 ∧
      sesTag c.kDown 1 (be d 16 8) (d.take 32) ≠ d.drop 32) ∧
    (∃ (d : List Byte) (s : State) (c : Sess),
      s.clocked = true ∧
      s.aesGone = false ∧
      dgramOk d 0x04 48 = true ∧
      s.ses.cur = some c ∧
      c.ack = true ∧
      c.sid = be d 8 8 ∧
      sesTag c.kDown 1 (be d 16 8) (d.take 32) = d.drop 32 ∧
      be d 16 8 ≤ c.ackSeq) ∧
    (∃ (d : List Byte) (s : State) (c : Sess) (at_ : Nat),
      s.clocked = true ∧
      s.aesGone = false ∧
      dgramOk d 0x04 48 = true ∧
      (s.ses.cur.all fun x => !x.ack || decide (x.sid ≠ be d 8 8)) = true ∧
      s.ses.old = some (c, at_) ∧
      c.sid = be d 8 8 ∧
      sesTag c.kDown 1 (be d 16 8) (d.take 32) = d.drop 32 ∧
      c.ackSeq < be d 16 8) ∧
    (∃ (d : List Byte) (s : State) (c : Sess) (at_ : Nat),
      s.clocked = true ∧
      s.aesGone = false ∧
      dgramOk d 0x04 48 = true ∧
      (s.ses.cur.all fun x => !x.ack || decide (x.sid ≠ be d 8 8)) = true ∧
      s.ses.old = some (c, at_) ∧
      c.sid = be d 8 8 ∧
      sesTag c.kDown 1 (be d 16 8) (d.take 32) ≠ d.drop 32) ∧
    (∃ (d : List Byte) (s : State) (c : Sess) (at_ : Nat),
      s.clocked = true ∧
      s.aesGone = false ∧
      dgramOk d 0x04 48 = true ∧
      (s.ses.cur.all fun x => !x.ack || decide (x.sid ≠ be d 8 8)) = true ∧
      s.ses.old = some (c, at_) ∧
      c.sid = be d 8 8 ∧
      sesTag c.kDown 1 (be d 16 8) (d.take 32) = d.drop 32 ∧
      be d 16 8 ≤ c.ackSeq) ∧
    (∃ (d : List Byte) (s : State),
      s.clocked = true ∧
      s.aesGone = false ∧
      (dgramOk d 0x04 48 = false ∨ ((s.ses.cur.all fun x => !x.ack || decide (x.sid ≠ be d 8 8)) = true ∧ (s.ses.old.all fun x => decide (x.1.sid ≠ be d 8 8)) = true))) ∧
    (∃ (s : State) (r : Rec) (k : Nat) (x : List Byte),
      r.typ = 0xF6 ∧
      s.evrRec (recRseq r.body) = some (k, x)) ∧
    (∃ (s : State) (c : Sess),
      s.clocked = true ∧
      s.ses.cur = some c ∧
      s.mode = modeService ∧
      s.aesGone = false) :=
  ⟨⟨tBack.set 31 4, tSes (some tSess), tSess, by decide +kernel⟩,
   ⟨tBack, tSes (some { tSess with ackSeq := 5 }), { tSess with ackSeq := 5 }, by decide +kernel⟩,
   ⟨tBack, (tSes none).setSes { old := some (tSess, 0) }, tSess, 0, by decide +kernel⟩,
   ⟨tBack.set 31 4, (tSes none).setSes { old := some (tSess, 0) }, tSess, 0, by decide +kernel⟩,
   ⟨tBack, (tSes none).setSes { old := some ({ tSess with ackSeq := 5 }, 0) }, { tSess with ackSeq := 5 }, 0, by decide +kernel⟩,
   ⟨tBack, tSes none, by decide +kernel⟩,
   ⟨State.reset.setEvr { State.reset.evr with openSet := [⟨3, tEvRec, true, 0⟩] }, { typ := 0xF6, body := tEvRec }, 3, tEvRec, by decide +kernel⟩,
   ⟨tSes (some tSess), tSess, by decide +kernel⟩⟩

/-- The hypotheses of ReportSessions can be met: part 5. -/
theorem test_meets_report_sessions_5 :
    (∃ (s : State),
      s.clocked = true ∧
      (s.ses.cur = none ∨ s.mode ≠ modeService ∨ s.aesGone = true)) ∧
    (∃ (s : State) (c : Sess),
      s.clocked = true ∧
      s.ses.cur = some c ∧
      c.ack = true ∧
      (c.openAt + secRaw (3600 * s.fget fREPTMR_REKEYH) ≤ s.time.raw ∨ 2 ^ 32 ≤ c.bseq) ∧
      s.fenced 8 = false ∧
      s.fenced 9 = false ∧
      s.fenced 10 = false ∧
      s.aesGone = false ∧
      s.serving = true) ∧
    (∃ (s : State) (c : Sess),
      s.clocked = true ∧
      s.ses.cur = some c ∧
      (c.ack = false ∨ ¬ (c.openAt + secRaw (3600 * s.fget fREPTMR_REKEYH) ≤ s.time.raw ∨ 2 ^ 32 ≤ c.bseq) ∨ s.fenced 8 = true ∨ s.fenced 9 = true ∨ s.fenced 10 = true ∨ s.aesGone = true ∨ s.serving = false)) ∧
    (∃ (s : State),
      s.clocked = true ∧
      s.ses.cur = none) ∧
    (∃ (s : State) (c : Sess) (at_ : Nat),
      s.ses.old = some (c, at_)) ∧
    (∃ (s : State),
      s.ses.old = none) ∧
    (∃ (s : State) (c : Sess) (at_ : Nat),
      s.clocked = true ∧
      s.ses.old = some (c, at_) ∧
      at_ + secRaw 60 ≤ s.time.raw) ∧
    (∃ (s : State),
      s.clocked = true ∧
      (s.ses.old.all fun x => decide (s.time.raw < x.2 + secRaw 60)) = true) :=
  ⟨⟨tSes none, by decide +kernel⟩,
   ⟨tSes (some tSess), tSess, by decide +kernel⟩,
   ⟨tSes (some { tSess with ack := false }), { tSess with ack := false }, by decide +kernel⟩,
   ⟨tSes none, by decide +kernel⟩,
   ⟨(tSes none).setSes { old := some (tSess, 0) }, tSess, 0, by decide +kernel⟩,
   ⟨tSes none, by decide +kernel⟩,
   ⟨(tSes none).setSes { old := some (tSess, 0) }, tSess, 0, by decide +kernel⟩,
   ⟨tSes none, by decide +kernel⟩⟩

/-- The hypotheses of ReportSessions can be met: part 6. -/
theorem test_meets_report_sessions_6 :
    (∃ (d : List Byte) (s : State) (c : Sess),
      s.clocked = true ∧
      s.aesGone = false ∧
      dgramOk d 0x06 48 = true ∧
      s.ses.cur = some c ∧
      c.ack = true ∧
      c.sid = be d 8 8 ∧
      sesTag c.kDown 2 (be d 24 8) (d.take 32) = d.drop 32) ∧
    (∃ (d : List Byte) (s : State) (c : Sess),
      s.clocked = true ∧
      s.aesGone = false ∧
      dgramOk d 0x06 48 = true ∧
      s.ses.cur = some c ∧
      c.ack = true ∧
      c.sid = be d 8 8 ∧
      sesTag c.kDown 2 (be d 24 8) (d.take 32) ≠ d.drop 32) ∧
    (∃ (d : List Byte) (s : State) (c : Sess) (at_ : Nat),
      s.clocked = true ∧
      s.aesGone = false ∧
      dgramOk d 0x06 48 = true ∧
      (s.ses.cur.all fun x => !x.ack || decide (x.sid ≠ be d 8 8)) = true ∧
      s.ses.old = some (c, at_) ∧
      c.sid = be d 8 8 ∧
      sesTag c.kDown 2 (be d 24 8) (d.take 32) = d.drop 32) ∧
    (∃ (d : List Byte) (s : State) (c : Sess) (at_ : Nat),
      s.clocked = true ∧
      s.aesGone = false ∧
      dgramOk d 0x06 48 = true ∧
      (s.ses.cur.all fun x => !x.ack || decide (x.sid ≠ be d 8 8)) = true ∧
      s.ses.old = some (c, at_) ∧
      c.sid = be d 8 8 ∧
      sesTag c.kDown 2 (be d 24 8) (d.take 32) ≠ d.drop 32) ∧
    (∃ (d : List Byte) (s : State),
      s.clocked = true ∧
      s.aesGone = false ∧
      d ≠ [] ∧
      (dgramOk d 0x06 48 = false ∨ ((s.ses.cur.all fun x => !x.ack || decide (x.sid ≠ be d 8 8)) = true ∧ (s.ses.old.all fun x => decide (x.1.sid ≠ be d 8 8)) = true))) ∧
    (∃ (s : State) (c : Sess) (u : State),
      s.clocked = true ∧
      s.aesGone = false ∧
      s.ses.cur = some c ∧
      c.ack = true ∧
      u = s.sesSend ((s.sesHeader 0x06 0 1 c.sid ++ beBytes 1 0 ++ List.replicate 7 0 ++ beBytes 8 c.bseq) ++ sesTag c.kUp 2 c.bseq (s.sesHeader 0x06 0 1 c.sid ++ beBytes 1 0 ++ List.replicate 7 0 ++ beBytes 8 c.bseq))) ∧
    (∃ (s : State) (c : Sess),
      s.clocked = true ∧
      s.aesGone = false ∧
      s.ses.cur = some c ∧
      c.ack = false) :=
  ⟨⟨tClose, tSes (some tSess), tSess, by decide +kernel⟩,
   ⟨tClose.set 31 4, tSes (some tSess), tSess, by decide +kernel⟩,
   ⟨tClose, (tSes none).setSes { old := some (tSess, 0) }, tSess, 0, by decide +kernel⟩,
   ⟨tClose.set 31 4, (tSes none).setSes { old := some (tSess, 0) }, tSess, 0, by decide +kernel⟩,
   ⟨tClose, tSes none, by decide +kernel⟩,
   ⟨tSes (some tSess), tSess, ((tSes (some tSess) : State).sesSend (((tSes (some tSess) : State).sesHeader 0x06 0 1 (tSess : Sess).sid ++ beBytes 1 0 ++ List.replicate 7 0 ++ beBytes 8 (tSess : Sess).bseq) ++ sesTag (tSess : Sess).kUp 2 (tSess : Sess).bseq ((tSes (some tSess) : State).sesHeader 0x06 0 1 (tSess : Sess).sid ++ beBytes 1 0 ++ List.replicate 7 0 ++ beBytes 8 (tSess : Sess).bseq))), by decide +kernel⟩,
   ⟨tSes (some { tSess with ack := false }), { tSess with ack := false }, by decide +kernel⟩⟩

/-- The hypotheses of TwinStream can be met: part 1. -/
theorem test_meets_twin_stream_1 :
    (∃ (b : Bool) (s : State) (u : State),
      u = (s.setFlag fTWNSTAT_ACTIN b).gateFollow) ∧
    (∃ (p : List Byte) (s : State),
      s.clocked = true ∧
      (s.twinOn = false ∨ p.length < 8 ∨ (s.isStandby = false ∧ s.isActive = false))) ∧
    (∃ (p : List Byte) (s : State),
      s.clocked = true ∧
      s.twinOn = true ∧
      8 ≤ p.length ∧
      s.isStandby = true ∧
      s.sync = syncOut) ∧
    (∃ (p : List Byte) (s : State),
      s.clocked = true ∧
      s.twinOn = true ∧
      8 ≤ p.length ∧
      s.isStandby = true ∧
      s.sync ≠ syncOut ∧
      s.twn.adopt = false ∧
      be p 0 8 ≠ s.twn.expect) ∧
    (∃ (typ : BitVec 4) (p : List Byte) (poison : List Nat) (s : State) (u : State),
      s.clocked = true ∧
      s.twinOn = true ∧
      8 ≤ p.length ∧
      s.isStandby = true ∧
      s.sync ≠ syncOut ∧
      (s.twn.adopt = true ∨ be p 0 8 = s.twn.expect) ∧
      u = ((((s.setTwn { s.twn with adopt := false, expect := be p 0 8 + 1 }).fset fTWNSSEQ_SSEQ (be p 0 8)).inputDrain).shadowApply typ.toNat (p.drop 8) poison)) ∧
    (∃ (p : List Byte) (s : State),
      s.clocked = true ∧
      s.twinOn = true ∧
      8 ≤ p.length ∧
      s.isStandby = false ∧
      s.isActive = true) ∧
    (∃ (b : List Byte) (a : Nat),
      a = (if bit (be b 0 4) 0 then slotResvAddr (be b 4 4) else resvAddr (be b 4 4))) ∧
    (∃ (s : State) (u : State) (e : List Byte) (j : JEnt),
      j = ⟨entKind e, entN e, entEpi e, e.drop 16⟩ ∧
      u = ((s.ringPut j (entIsn e)).fset fMRMLASTISN_ISN (max s.lastIsn (entIsn e + entN e - 1))).setTwn { s.twn with isnSeen := max s.twn.isnSeen (entIsn e + entN e - 1) }) :=
  ⟨⟨true, tStby, (((tStby : State).setFlag fTWNSTAT_ACTIN (true : Bool)).gateFollow), by decide +kernel⟩,
   ⟨[], tStby, by decide +kernel⟩,
   ⟨List.replicate 48 1, tStby.fset fTWNSTAT_SYNC syncOut, by decide +kernel⟩,
   ⟨List.replicate 16 1, tStby, by decide +kernel⟩,
   ⟨9, beBytes 8 4 ++ beBytes 4 0 ++ beBytes 4 5 ++ leBytes 8 77, [], tStby, ((((((tStby : State).setTwn { (tStby : State).twn with adopt := false, expect := be (beBytes 8 4 ++ beBytes 4 0 ++ beBytes 4 5 ++ leBytes 8 77 : List Byte) 0 8 + 1 }).fset fTWNSSEQ_SSEQ (be (beBytes 8 4 ++ beBytes 4 0 ++ beBytes 4 5 ++ leBytes 8 77 : List Byte) 0 8)).inputDrain).shadowApply (9 : BitVec 4).toNat ((beBytes 8 4 ++ beBytes 4 0 ++ beBytes 4 5 ++ leBytes 8 77 : List Byte).drop 8) ([] : List Nat))), by decide +kernel⟩,
   ⟨List.replicate 48 1, tAct, by decide +kernel⟩,
   ⟨beBytes 4 0 ++ beBytes 4 5 ++ leBytes 8 77, ((if bit (be (beBytes 4 0 ++ beBytes 4 5 ++ leBytes 8 77 : List Byte) 0 4) 0 then slotResvAddr (be (beBytes 4 0 ++ beBytes 4 5 ++ leBytes 8 77 : List Byte) 4 4) else resvAddr (be (beBytes 4 0 ++ beBytes 4 5 ++ leBytes 8 77 : List Byte) 4 4))), by decide +kernel⟩,
   ⟨tStby, ((((tStby : State).ringPut ((⟨entKind (tCmdEnt : List Byte), entN (tCmdEnt : List Byte), entEpi (tCmdEnt : List Byte), (tCmdEnt : List Byte).drop 16⟩) : JEnt) (entIsn (tCmdEnt : List Byte))).fset fMRMLASTISN_ISN (max (tStby : State).lastIsn (entIsn (tCmdEnt : List Byte) + entN (tCmdEnt : List Byte) - 1))).setTwn { (tStby : State).twn with isnSeen := max (tStby : State).twn.isnSeen (entIsn (tCmdEnt : List Byte) + entN (tCmdEnt : List Byte) - 1) }), tCmdEnt, (⟨entKind (tCmdEnt : List Byte), entN (tCmdEnt : List Byte), entEpi (tCmdEnt : List Byte), (tCmdEnt : List Byte).drop 16⟩), by decide +kernel⟩⟩

/-- The hypotheses of TwinStream can be met: part 2. -/
theorem test_meets_twin_stream_2 :
    (∃ (e : List Byte) (d : List Byte),
      d = e.drop 16) ∧
    (∃ (s : State) (u : State) (k : Nat) (d : Nat) (l : List (Nat × Nat)),
      l = (s.twn.digests.filter fun e => e.1 ≠ k) ++ [(k, d)] ∧
      u = s.setTwn { s.twn with digests := l.drop (l.length - 4) }) ∧
    (∃ (s : State) (u : State) (b : List Byte),
      u = (s.setTwn { s.twn with
          beatIn := s.time.raw, isnSeen := max s.twn.isnSeen (be b 8 8 - 1), peerHold := be b 0 1 = modeHoldover, peerTko := be b 32 8 }).setFlag fTWNSTAT_PEERSILENT false) ∧
    (∃ (s : State) (u : State) (tko : Nat),
      u = (s.journalEntries.filter fun e => decide (tko < entIsn e) && (entKind e = jkReadings || entKind e = jkCommand)).foldl (fun (t : State) e => t.standbySend 0x0F (ctrlBody ctRescue e)) s) ∧
    (∃ (s : State) (u : State) (b : List Byte),
      u = ((s.setTwn { s.twn with beatIn := s.time.raw }).fset fTWNSTAT_SYNC (be b 1 1 % 4)).setFlag fTWNSTAT_PEERSILENT false) ∧
    (∃ (s : State) (u : State) (h : Held),
      u = (s.setTwn { s.twn with nextSeq := s.twn.nextSeq + 1, unconf := if s.alone then s.twn.unconf else s.twn.unconf ++ [(s.twn.nextSeq, h)] }).fset fTWNSSEQ_SSEQ s.twn.nextSeq) ∧
    (∃ (cseq : DWord) (isn : DWord) (s : State) (u : State),
      s.clocked = true ∧
      s.isActive = true ∧
      isn.toNat ≤ s.lastIsn ∧
      u = ((s.setTwn { s.twn with unconf := s.twn.unconf.filter fun e => decide (cseq.toNat < e.1) }).fset fTWNCONF_SSEQ (max (s.fget fTWNCONF_SSEQ) cseq.toNat))) ∧
    (∃ (isn : DWord) (s : State),
      s.clocked = true ∧
      (s.isActive = false ∨ s.lastIsn < isn.toNat)) :=
  ⟨⟨tCmdEnt, ((tCmdEnt : List Byte).drop 16), by decide +kernel⟩,
   ⟨tStby, ((tStby : State).setTwn { (tStby : State).twn with digests := ((((tStby : State).twn.digests.filter fun e => e.1 ≠ (3 : Nat)) ++ [((3 : Nat), (5 : Nat))]) : List (Nat × Nat)).drop (((((tStby : State).twn.digests.filter fun e => e.1 ≠ (3 : Nat)) ++ [((3 : Nat), (5 : Nat))]) : List (Nat × Nat)).length - 4) }), 3, 5, (((tStby : State).twn.digests.filter fun e => e.1 ≠ (3 : Nat)) ++ [((3 : Nat), (5 : Nat))]), by decide +kernel⟩,
   ⟨tStby.fset fTWNSTAT_SYNC syncCatchup, (((tStby.fset fTWNSTAT_SYNC syncCatchup : State).setTwn { (tStby.fset fTWNSTAT_SYNC syncCatchup : State).twn with
          beatIn := (tStby.fset fTWNSTAT_SYNC syncCatchup : State).time.raw, isnSeen := max (tStby.fset fTWNSTAT_SYNC syncCatchup : State).twn.isnSeen (be (List.replicate 1 4 ++ [1] ++ List.replicate 38 0 : List Byte) 8 8 - 1), peerHold := be (List.replicate 1 4 ++ [1] ++ List.replicate 38 0 : List Byte) 0 1 = modeHoldover, peerTko := be (List.replicate 1 4 ++ [1] ++ List.replicate 38 0 : List Byte) 32 8 }).setFlag fTWNSTAT_PEERSILENT false), List.replicate 1 4 ++ [1] ++ List.replicate 38 0, by decide +kernel⟩,
   ⟨tStby, (((tStby : State).journalEntries.filter fun e => decide ((0 : Nat) < entIsn e) && (entKind e = jkReadings || entKind e = jkCommand)).foldl (fun (t : State) e => t.standbySend 0x0F (ctrlBody ctRescue e)) (tStby : State)), 0, by decide +kernel⟩,
   ⟨tAct, ((((tAct : State).setTwn { (tAct : State).twn with beatIn := (tAct : State).time.raw }).fset fTWNSTAT_SYNC (be ([1, 2, 3] : List Byte) 1 1 % 4)).setFlag fTWNSTAT_PEERSILENT false), [1, 2, 3], by decide +kernel⟩,
   ⟨tAct, (((tAct : State).setTwn { (tAct : State).twn with nextSeq := (tAct : State).twn.nextSeq + 1, unconf := if (tAct : State).alone then (tAct : State).twn.unconf else (tAct : State).twn.unconf ++ [((tAct : State).twn.nextSeq, (.free : Held))] }).fset fTWNSSEQ_SSEQ (tAct : State).twn.nextSeq), .free, by decide +kernel⟩,
   ⟨5, 0, tAct, ((((tAct : State).setTwn { (tAct : State).twn with unconf := (tAct : State).twn.unconf.filter fun e => decide ((5 : DWord).toNat < e.1) }).fset fTWNCONF_SSEQ (max ((tAct : State).fget fTWNCONF_SSEQ) (5 : DWord).toNat))), by decide +kernel⟩,
   ⟨9, tAct, by decide +kernel⟩⟩

/-- The hypotheses of TwinStream can be met: part 3. -/
theorem test_meets_twin_stream_3 :
    (∃ (s u : State) (b : List Byte),
      s.clocked = true ∧
      s.twinOn = true ∧
      s.fget fTWNSTAT_ROLE ≠ 0 ∧
      s.twn.beatOut + msRaw (s.fget fTWNTMR_BEAT) ≤ s.time.raw ∧
      u = { s with freeCtr := s.freeCtr + 1, twn := { s.twn with beatOut := s.time.raw } } ∧
      b = beBytes 1 s.mode ++ beBytes 1 s.sync ++ beBytes 2 (s.draw % 2 ^ 16) ++ beBytes 4 0 ++ beBytes 8 s.nextIsn ++ beBytes 4 (cut 32 s.kLast) ++ beBytes 4 0 ++ beBytes 8 s.chip ++ beBytes 8 (s.fget fTWNTKOISN_ISN)) ∧
    (∃ (s : State),
      s.clocked = true ∧
      (s.twinOn = false ∨ s.fget fTWNSTAT_ROLE = 0 ∨ s.time.raw < s.twn.beatOut + msRaw (s.fget fTWNTMR_BEAT))) ∧
    (∃ (s : State),
      s.clocked = true ∧
      s.isStandby = true ∧
      s.twn.beatIn + msRaw (s.fget fTWNTMR_SILENT) ≤ s.time.raw) ∧
    (∃ (s : State),
      s.clocked = true ∧
      (s.isStandby = false ∨ ¬ s.twn.beatIn + msRaw (s.fget fTWNTMR_SILENT) ≤ s.time.raw)) ∧
    (∃ (s : State),
      s.clocked = true ∧
      (s.isStandby = true ∧ s.flag fTWNSTAT_ACTIN = true ∧ 2 ≤ s.sync ∧ s.twn.downAt.any (fun d => decide (d + msRaw (5 * s.fget fTWNCFG_GRACE) ≤ s.time.raw)) = true)) ∧
    (∃ (s : State),
      s.clocked = true ∧
      ¬ (s.isStandby = true ∧ s.flag fTWNSTAT_ACTIN = true ∧ 2 ≤ s.sync ∧ s.twn.downAt.any (fun d => decide (d + msRaw (5 * s.fget fTWNCFG_GRACE) ≤ s.time.raw)) = true)) ∧
    (∃ (s : State),
      s.clocked = true ∧
      (s.isActive = true ∧ s.alone = false ∧ s.twn.downAt.any (fun d => decide (d + msRaw (10 * s.fget fTWNCFG_GRACE) ≤ s.time.raw)) = true)) ∧
    (∃ (s : State),
      s.clocked = true ∧
      ¬ (s.isActive = true ∧ s.alone = false ∧ s.twn.downAt.any (fun d => decide (d + msRaw (10 * s.fget fTWNCFG_GRACE) ≤ s.time.raw)) = true)) :=
  ⟨⟨tLater tAct, { (tLater tAct) with freeCtr := (tLater tAct).freeCtr + 1, twn := { (tLater tAct).twn with beatOut := (tLater tAct).time.raw } }, _, by decide +kernel, by decide +kernel, by decide +kernel, by decide +kernel, rfl, rfl⟩,
   ⟨tKep, by decide +kernel⟩,
   ⟨tLater tStby, by decide +kernel⟩,
   ⟨tAct, by decide +kernel⟩,
   ⟨tLater tStby, by decide +kernel⟩,
   ⟨tAct, by decide +kernel⟩,
   ⟨((tLater tAct).setFlag fTWNSTAT_ALONE false).setTwn { downAt := some 0 }, by decide +kernel⟩,
   ⟨tStby, by decide +kernel⟩⟩

/-- The hypotheses of TwinStream can be met: part 4. -/
theorem test_meets_twin_stream_4 :
    (∃ (s : State),
      s.clocked = true ∧
      s.isActive = true ∧
      s.alone = false) ∧
    (∃ (s : State),
      s.clocked = true ∧
      (s.isActive = false ∨ s.alone = true)) ∧
    (∃ (s : State),
      s.clocked = true ∧
      s.isStandby = true ∧
      s.twn.peerHold = false) ∧
    (∃ (s : State),
      s.clocked = true ∧
      s.isStandby = true ∧
      s.twn.peerHold = true) ∧
    (∃ (s : State),
      s.clocked = true ∧
      s.isStandby = false) :=
  ⟨⟨((tLater tAct).setFlag fTWNSTAT_ALONE false), by decide +kernel⟩,
   ⟨tStby, by decide +kernel⟩,
   ⟨tStby, by decide +kernel⟩,
   ⟨tStby.setTwn { tStby.twn with peerHold := true, kept := [(0, { typ := 5 })] }, by decide +kernel⟩,
   ⟨tAct, by decide +kernel⟩⟩

/-- The hypotheses of TakeoverAndRejoin can be met: part 1. -/
theorem test_meets_takeover_and_rejoin_1 :
    (∃ (a : Agent) (key : Half) (s : State),
      s.writes a rTWNCTL = true ∧
      key ≠ 0x5457) ∧
    (∃ (a : Agent) (s : State),
      s.writes a rTWNCTL = true) ∧
    (∃ (s : State),
      s.isActive = true ∧
      s.ingestOpen = true ∧
      s.twn.unconf = []) ∧
    (∃ (a : Agent) (s : State),
      s.writes a rTWNCTL = true ∧
      s.isStandby = true) ∧
    (∃ (a : Agent) (s : State),
      s.writes a rTWNCTL = true ∧
      s.isStandby = false) ∧
    (∃ (s : State),
      s.clocked = true ∧
      (s.isStandby = true ∧ s.flag fTWNCFG_AUTOTKO = true ∧ (s.sync = syncSynced ∨ (s.sync = syncSuspect ∧ s.flag fTWNCFG_TKOSUSP = true)) ∧ s.flag fTWNSTAT_ACTIN = false ∧ s.twn.inactSince.any (fun d => decide (d + msRaw (s.fget fTWNCFG_HOLDOFF) ≤ s.time.raw)) = true)) ∧
    (∃ (s : State),
      s.clocked = true ∧
      (¬ (s.isStandby = true ∧ s.flag fTWNCFG_AUTOTKO = true ∧ (s.sync = syncSynced ∨ (s.sync = syncSuspect ∧ s.flag fTWNCFG_TKOSUSP = true)) ∧ s.flag fTWNSTAT_ACTIN = false ∧ s.twn.inactSince.any (fun d => decide (d + msRaw (s.fget fTWNCFG_HOLDOFF) ≤ s.time.raw)) = true))) ∧
    (∃ (s : State),
      s.flag fTMPSTAT_ERASED = false) :=
  ⟨⟨.port, 0, tAct, by decide +kernel⟩,
   ⟨.port, tAct, by decide +kernel⟩,
   ⟨tAct, by decide +kernel⟩,
   ⟨.port, tStby, by decide +kernel⟩,
   ⟨.port, tAct, by decide +kernel⟩,
   ⟨((tLater tStby).setFlag fTWNCFG_AUTOTKO true).setFlag fTWNSTAT_ACTIN false, by decide +kernel⟩,
   ⟨tAct, by decide +kernel⟩,
   ⟨tStby, by decide +kernel⟩⟩

/-- The hypotheses of TakeoverAndRejoin can be met: part 2. -/
theorem test_meets_takeover_and_rejoin_2 :
    (∃ (isn : DWord) (s : State),
      s.clocked = true ∧
      s.isActive = true ∧
      isn.toNat ≤ s.lastIsn ∧
      s.journalReaches isn.toNat = true) ∧
    (∃ (isn : DWord) (s : State) (c : Ckpt) (l : List Ckpt),
      s.clocked = true ∧
      s.isActive = true ∧
      (s.lastIsn < isn.toNat ∨ s.journalReaches isn.toNat = false) ∧
      s.mrm.ckpts = c :: l) ∧
    (∃ (isn : DWord) (s : State),
      s.clocked = true ∧
      s.isActive = true ∧
      (s.lastIsn < isn.toNat ∨ s.journalReaches isn.toNat = false) ∧
      s.mrm.ckpts = []) ∧
    (∃ (s : State),
      s.clocked = true ∧
      s.isActive = false) ∧
    (∃ (e : List Byte) (s u : State) (n : Nat),
      s.clocked = true ∧
      s.isActive = true ∧
      entKind e = jkReadings ∧
      s.ingest (entEpi e) (max (s.lastIc (entEpi e)) (le (e.drop 16) 16 8)) (le (e.drop 16) 8 4) ((entryReadings (entN e) (e.drop 16)).map (·.1)) = .ok u n) ∧
    (∃ (e : List Byte) (s : State),
      s.clocked = true ∧
      s.isActive = true ∧
      entKind e = jkReadings) ∧
    (∃ (e : List Byte) (s u : State) (p : Nat),
      s.clocked = true ∧
      s.isActive = true ∧
      entKind e = jkCommand ∧
      s.noCalendar = false ∧
      ((s.epiEntry (entEpi e)).bind fun x => s.eligible x.cls (s.kLast + 1)) = some p ∧
      s.journal [⟨jkCommand, 1, entEpi e, splice (e.drop 16) 2 (leBytes 2 (s.fget (fLDGPRG_HANDLE p)))⟩] (fun _ => .free) = .ok u) ∧
    (∃ (e : List Byte) (s : State) (p : Nat),
      s.clocked = true ∧
      s.isActive = true ∧
      entKind e = jkCommand ∧
      s.noCalendar = false ∧
      ((s.epiEntry (entEpi e)).bind fun x => s.eligible x.cls (s.kLast + 1)) = some p) :=
  ⟨⟨0, tAct, by decide +kernel⟩,
   ⟨9, tCkd, tCkd1, [], by decide +kernel⟩,
   ⟨9, tAct, by decide +kernel⟩,
   ⟨tStby, by decide +kernel⟩,
   ⟨tReadEnt, tAct, test_rescue.choose, 1, by decide +kernel, by decide +kernel, by decide +kernel, test_rescue.choose_spec⟩,
   ⟨tReadEnt, tAct, by decide +kernel⟩,
   ⟨tCmdEnt, tAct, test_rescue_cmd.choose, 0, by decide +kernel, by decide +kernel, by decide +kernel, by decide +kernel, by decide +kernel, test_rescue_cmd.choose_spec⟩,
   ⟨tCmdEnt, tAct, 0, by decide +kernel⟩⟩

/-- The hypotheses of TakeoverAndRejoin can be met: part 3. -/
theorem test_meets_takeover_and_rejoin_3 :
    (∃ (e : List Byte) (s : State),
      s.clocked = true ∧
      s.isActive = true ∧
      entKind e = jkCommand ∧
      s.noCalendar = false ∧
      ((s.epiEntry (entEpi e)).bind fun x => s.eligible x.cls (s.kLast + 1)) = none) ∧
    (∃ (e : List Byte) (s : State),
      s.clocked = true ∧
      (s.isActive = false ∨ (entKind e = jkCommand ∧ s.noCalendar = true) ∨ (entKind e ≠ jkReadings ∧ entKind e ≠ jkCommand))) :=
  ⟨⟨tCmdEnt, { tAct with epiMap := [] }, by decide +kernel⟩,
   ⟨tCmdEnt, tStby, by decide +kernel⟩⟩

/-- The hypotheses of KeyCommands can be met: part 1. -/
theorem test_meets_key_commands_1 :
    (∃ (a : Agent) (s : State),
      s.writes a rKEYCMD = true) ∧
    (∃ (a : Agent) (s : State) (g : KeyArg),
      s.writes a rKEYCMD = true ∧
      s.keyReady opGen = true ∧
      g = s.keyArg ∧
      s.slotValid g.slot = false ∧
      secretType g.typ = true ∧
      maskOk g.typ g.mask = true ∧
      s.key.entropyBad = false) ∧
    (∃ (a : Agent) (s : State) (g : KeyArg),
      s.writes a rKEYCMD = true ∧
      s.keyReady opInvalidate = true ∧
      g = s.keyArg ∧
      s.slotValid g.slot = true) ∧
    (∃ (a : Agent) (s : State) (g : KeyArg) (b : List Byte) (c : Nat),
      s.writes a rKEYCMD = true ∧
      s.keyReady opSetpub = true ∧
      g = s.keyArg ∧
      s.slotValid g.slot = false ∧
      publicType g.typ = true ∧
      maskOk g.typ g.mask = true ∧
      s.srcOk g.addr (matBytes g.typ) = none ∧
      b = s.bytes g.addr (matBytes g.typ) ∧
      s.argOk opSetpub g.slot b = true ∧
      s.freeCell = some c) ∧
    (∃ (a : Agent) (s : State) (g : KeyArg),
      s.writes a rKEYCMD = true ∧
      s.keyReady opPubout = true ∧
      g = s.keyArg ∧
      ((s.slot g.slot).typ = ktDsaPriv ∨ (s.slot g.slot).typ = ktKemPriv) ∧
      s.engineRange g.addr (if (s.slot g.slot).typ = ktDsaPriv then 2592 else 1568) = true) ∧
    (∃ (a : Agent) (s : State) (g : KeyArg) (kek mat : List Byte),
      s.writes a rKEYCMD = true ∧
      s.keyReady opImport = true ∧
      g = s.keyArg ∧
      s.slotValid g.slot = false ∧
      s.srcOk g.addr 8 = none ∧
      secretType (s.peek g.addr 1) = true ∧
      maskOk (s.peek g.addr 1) (s.peek (g.addr + 1) 1) = true ∧
      s.srcOk g.addr (8 + (matBytes (s.peek g.addr 1) + 8)) = none ∧
      s.argOk opImport g.slot (s.bytes g.addr (8 + (matBytes (s.peek g.addr 1) + 8))) = true ∧
      s.wrapKey g.pslot = (.done, kek) ∧
      s.blobOpen g.addr kek = some mat) ∧
    (∃ (a : Agent) (s : State) (g : KeyArg) (k : KeySlot) (kek : List Byte),
      s.writes a rKEYCMD = true ∧
      s.keyReady opExport = true ∧
      g = s.keyArg ∧
      s.deliver g.slot mExport = (.done, k) ∧
      s.wrapKey g.pslot = (.done, kek) ∧
      s.engineRange g.addr (16 + 8 * (k.mat.length / 8)) = true) ∧
    (∃ (a : Agent) (s : State) (g : KeyArg),
      s.writes a rKEYCMD = true ∧
      s.keyReady opGenpkt = true ∧
      g = s.keyArg ∧
      (g.typ = 1 ∨ g.typ = 2) ∧
      childMaskOk g.mask = true ∧
      (s.wrapKey g.pslot).1 = .done ∧
      s.key.entropyBad = false ∧
      s.inDa (s.pktAddr g.epi) 64 = true) :=
  ⟨⟨.port, State.reset, by decide +kernel⟩,
   ⟨.port, tKey 20 1 2 0x8F 0 tKep, _, by decide +kernel, by decide +kernel, rfl, by decide +kernel, by decide +kernel, by decide +kernel, by decide +kernel⟩,
   ⟨.port, tKey 20 1 2 0x8F 0 tKem, _, by decide +kernel, by decide +kernel, rfl, by decide +kernel⟩,
   ⟨.port, tKey 22 1 7 0x20 0 tKem, _, _, 1, by decide +kernel, by decide +kernel, rfl, by decide +kernel, by decide +kernel, by decide +kernel, by decide +kernel, rfl, by decide +kernel, by decide +kernel⟩,
   ⟨.port, tKey 21 1 7 0x20 0 tKem, _, by decide +kernel, by decide +kernel, rfl, by decide +kernel, by decide +kernel⟩,
   ⟨.port, (tKey 20 1 0 0 0 tKep).write 0x010000000000 tBlob, _, List.replicate 32 1, List.replicate 32 2, by decide +kernel, by decide +kernel, rfl, by decide +kernel, by decide +kernel, by decide +kernel, by decide +kernel, by decide +kernel, by decide +kernel, by decide +kernel, by decide +kernel⟩,
   ⟨.port, tKey 21 1 0 0 0 tKem, _, tKem.slot 21, List.replicate 32 1, by decide +kernel, by decide +kernel, rfl, by decide +kernel, by decide +kernel, by decide +kernel⟩,
   ⟨.port, tKey 0 1 2 0x8F 6 tKep, _, by decide +kernel, by decide +kernel, rfl, by decide +kernel, by decide +kernel, by decide +kernel, by decide +kernel, by decide +kernel⟩⟩

/-- The hypotheses of KeyCommands can be met: part 2. -/
theorem test_meets_key_commands_2 :
    (∃ (a : Agent) (s : State) (g : KeyArg) (kek : List Byte) (mat : List Nat),
      s.writes a rKEYCMD = true ∧
      s.keyReady opImportpkt = true ∧
      g = s.keyArg ∧
      s.srcOk g.addr 48 = none ∧
      (s.peek g.addr 1 = 1 ∨ s.peek g.addr 1 = 2) ∧
      childMaskOk (s.peek (g.addr + 1) 1) = true ∧
      s.wrapKey g.slot = (.done, kek) ∧
      (s.wrapKey g.pslot).1 = .done ∧
      s.inDa (s.pktAddr g.epi) 64 = true ∧
      kwUnwrap (nats kek) (blobIv (s.peek g.addr 1) (s.peek (g.addr + 1) 1) (be (s.bytes g.addr 8) 4 4)) (nats (s.bytes (g.addr + 8) 40)) = some mat) ∧
    (∃ (a : Agent) (s : State) (g : KeyArg) (m : List Byte) (f : Bool),
      s.writes a rKEYCMD = true ∧
      s.keyReady opRewrap = true ∧
      g = s.keyArg ∧
      s.inDa (s.pktAddr g.epi) 64 = true ∧
      bit (s.sflags g.epi) sfPending = false ∧
      s.unwrapAs (s.pocket g.epi) (s.pocket g.epi).wrap = (.done, m, f) ∧
      (s.wrapKey g.pslot).1 = .done) ∧
    (∃ (a : Agent) (s : State) (g : KeyArg) (k : KeySlot),
      s.writes a rKEYCMD = true ∧
      s.keyReady opAttest = true ∧
      g = s.keyArg ∧
      s.engineRange g.addr 4883 = true ∧
      s.fenced 8 = false ∧
      s.fenced 9 = false ∧
      s.deliver 0 mDsa = (.done, k) ∧
      k.typ = ktDsaPriv ∧
      s.key.entropyBad = false) ∧
    (∃ (a : Agent) (s : State) (g : KeyArg) (b : List Byte) (k : KeySlot),
      s.writes a rKEYCMD = true ∧
      s.keyReady opAuth = true ∧
      g = s.keyArg ∧
      s.srcOk g.addr 4691 = none ∧
      b = s.bytes g.addr 4691 ∧
      authShape b = true ∧
      s.fenced 8 = false ∧
      s.fenced 9 = false ∧
      s.deliver 4 mDsa = (.done, k) ∧
      (k.typ = ktDsaPriv ∨ k.typ = ktDsaPub) ∧
      le b 8 8 = s.eui ∧
      s.fget fKEYAUTHSEQ_SEQ < le b 16 8) ∧
    (∃ (a : Agent) (s : State),
      s.writes a rKEYCMD = true ∧
      s.mode = modeBoot ∧
      s.key.armed = none) ∧
    (∃ (a : Agent) (s : State),
      s.writes a rKEYCMD = true ∧
      s.mode = modeService ∧
      s.key.armed = none ∧
      (s.life = lifeProvisioned ∨ s.life = lifeField) ∧
      reservedSlot s.keyArg.slot = false ∧
      s.keyArg.slot < 16) :=
  ⟨⟨.port, (tKey 1 1 0 0 6 tKep).write 0x010000000000 tBlob, _, List.replicate 32 1, List.replicate 32 2, by decide +kernel, by decide +kernel, rfl, by decide +kernel, by decide +kernel, by decide +kernel, by decide +kernel, by decide +kernel, by decide +kernel, by decide +kernel⟩,
   ⟨.port, tKey 0 1 0 0 5 tKep, _, List.replicate 32 2, false, by decide +kernel, by decide +kernel, rfl, by decide +kernel, by decide +kernel, by decide +kernel, by decide +kernel⟩,
   ⟨.port, tKey 0 1 0 0 5 tIds, _, tIds.slot 0, by decide +kernel, by decide +kernel, rfl, by decide +kernel, by decide +kernel, by decide +kernel, by decide +kernel, by decide +kernel, by decide +kernel⟩,
   ⟨.port, (tKey 0 1 0 0 5 tIds).write 0x010000000000 tAuth, _, _, tIds.slot 4, by decide +kernel, by decide +kernel, rfl, by decide +kernel, rfl, by decide +kernel, by decide +kernel, by decide +kernel, by decide +kernel, by decide +kernel, by decide +kernel, by decide +kernel⟩,
   ⟨.port, State.reset, by decide +kernel⟩,
   ⟨.cc 1, (tKey 3 1 0 0 5 tKep).fset fLCSSTAT_STATE lifeField, by decide +kernel⟩⟩

/-- The hypotheses of HashAndSignatureJobs can be met: part 1. -/
theorem test_meets_hash_and_signature_jobs_1 :
    (∃ (s : State),
      s.clocked = true ∧
      (s.flag fSHACFG_EN = false ∨ s.fenced 8 = true ∨ s.holdsDone (s.fget fSHACFG_DONEQ) 0 = true ∨ s.frontJob (s.fget fSHACFG_JOBQ) = none)) ∧
    (∃ (s u : State) (d : List GReg) (j : EngJob) (r : JobEnd),
      s.clocked = true ∧
      s.flag fSHACFG_EN = true ∧
      s.fenced 8 = false ∧
      s.holdsDone (s.fget fSHACFG_DONEQ) 0 = false ∧
      s.frontJob (s.fget fSHACFG_JOBQ) = some d ∧
      j = EngJob.parse d ∧
      u = s.dequeued (s.fget fSHACFG_JOBQ) ∧
      r = (if s.mode = modeBoot then (.modeDenied, u, 0) else if j.endBit ≠ 1 then (.badArgument, u, 0) else u.shaJob j)) ∧
    (∃ (s : State),
      s.clocked = true ∧
      (s.flag fDSACFG_EN = false ∨ s.fenced 9 = true ∨ s.holdsDone (s.fget fDSACFG_DONEQ) 0 = true ∨ s.frontJob (s.fget fDSACFG_JOBQ) = none)) ∧
    (∃ (s u : State) (d : List GReg) (j : EngJob) (r : JobEnd),
      s.clocked = true ∧
      s.flag fDSACFG_EN = true ∧
      s.fenced 9 = false ∧
      s.holdsDone (s.fget fDSACFG_DONEQ) 0 = false ∧
      s.frontJob (s.fget fDSACFG_JOBQ) = some d ∧
      j = EngJob.parse d ∧
      u = s.dequeued (s.fget fDSACFG_JOBQ) ∧
      r = (if s.mode = modeBoot then (.modeDenied, u, 0) else if j.endBit ≠ 1 then (.badArgument, u, 0) else u.dsaJob j)) ∧
    (∃ (s : State),
      s.clocked = true ∧
      (s.flag fKEMCFG_EN = false ∨ s.fenced 10 = true ∨ s.holdsDone (s.fget fKEMCFG_DONEQ) 0 = true ∨ s.frontJob (s.fget fKEMCFG_JOBQ) = none)) ∧
    (∃ (s u : State) (d : List GReg) (j : EngJob) (r : JobEnd),
      s.clocked = true ∧
      s.flag fKEMCFG_EN = true ∧
      s.fenced 10 = false ∧
      s.holdsDone (s.fget fKEMCFG_DONEQ) 0 = false ∧
      s.frontJob (s.fget fKEMCFG_JOBQ) = some d ∧
      j = EngJob.parse d ∧
      u = s.dequeued (s.fget fKEMCFG_JOBQ) ∧
      r = (if s.mode = modeBoot then (.modeDenied, u, 0) else if j.endBit ≠ 1 then (.badArgument, u, 0) else u.kemJob j)) ∧
    (∃ (s : State) (n : Nat) (k : KeySlot),
      k = (s.deliver n mDsa).2) ∧
    (∃ (s : State) (d : List GReg) (j : EngJob) (u : State),
      s.clocked = true ∧
      s.flag fSHACFG_EN = true ∧
      s.fenced 8 = false ∧
      s.holdsDone (s.fget fSHACFG_DONEQ) 0 = false ∧
      s.frontJob (s.fget fSHACFG_JOBQ) = some d ∧
      j = EngJob.parse d ∧
      j.op = 0 ∧
      j.endBit = 1 ∧
      s.mode ≠ modeBoot ∧
      s.engineRange j.src (j.len) = true ∧
      u = (s.dequeued (s.fget fSHACFG_JOBQ)).touch j.src (j.len) ∧
      u.poisonedIn j.src (j.len) = false ∧
      u.engineRange j.dst (sha3_256 (u.bytes j.src j.len)).length = true) :=
  ⟨⟨tSha, by decide +kernel⟩,
   ⟨tJob 0 0 0 0 0 1 tSha, (tJob 0 0 0 0 0 1 tSha).dequeued 1, (tJob 0 0 0 0 0 1 tSha).front 1, EngJob.parse ((tJob 0 0 0 0 0 1 tSha).front 1), ((tJob 0 0 0 0 0 1 tSha).dequeued 1).shaJob (EngJob.parse ((tJob 0 0 0 0 0 1 tSha).front 1)), by decide +kernel, by decide +kernel, by decide +kernel, by decide +kernel, by decide +kernel, rfl, rfl, rfl⟩,
   ⟨tDsa, by decide +kernel⟩,
   ⟨tJob 1 4 0 0 0 1 tDsa, (tJob 1 4 0 0 0 1 tDsa).dequeued 1, (tJob 1 4 0 0 0 1 tDsa).front 1, EngJob.parse ((tJob 1 4 0 0 0 1 tDsa).front 1), ((tJob 1 4 0 0 0 1 tDsa).dequeued 1).dsaJob (EngJob.parse ((tJob 1 4 0 0 0 1 tDsa).front 1)), by decide +kernel, by decide +kernel, by decide +kernel, by decide +kernel, by decide +kernel, rfl, rfl, rfl⟩,
   ⟨tKem, by decide +kernel⟩,
   ⟨tJob 1 21 30 0 0x8F 0 tKem, (tJob 1 21 30 0 0x8F 0 tKem).dequeued 1, (tJob 1 21 30 0 0x8F 0 tKem).front 1, EngJob.parse ((tJob 1 21 30 0 0x8F 0 tKem).front 1), ((tJob 1 21 30 0 0x8F 0 tKem).dequeued 1).kemJob (EngJob.parse ((tJob 1 21 30 0 0x8F 0 tKem).front 1)), by decide +kernel, by decide +kernel, by decide +kernel, by decide +kernel, by decide +kernel, rfl, rfl, rfl⟩,
   ⟨tDsa, 0, (((tDsa : State).deliver (0 : Nat) mDsa).2), by decide +kernel⟩,
   ⟨tJob 0 0 0 0 0 1 tSha, (tJob 0 0 0 0 0 1 tSha).front 1, _, _, by decide +kernel, by decide +kernel, by decide +kernel, by decide +kernel, by decide +kernel, rfl, by decide +kernel, by decide +kernel, by decide +kernel, by decide +kernel, rfl, by decide +kernel, by decide +kernel⟩⟩

/-- The hypotheses of HashAndSignatureJobs can be met: part 2. -/
theorem test_meets_hash_and_signature_jobs_2 :
    (∃ (s : State) (d : List GReg) (j : EngJob) (u : State),
      s.clocked = true ∧
      s.flag fSHACFG_EN = true ∧
      s.fenced 8 = false ∧
      s.holdsDone (s.fget fSHACFG_DONEQ) 0 = false ∧
      s.frontJob (s.fget fSHACFG_JOBQ) = some d ∧
      j = EngJob.parse d ∧
      j.op = 1 ∧
      j.endBit = 1 ∧
      s.mode ≠ modeBoot ∧
      s.engineRange j.src (j.len) = true ∧
      u = (s.dequeued (s.fget fSHACFG_JOBQ)).touch j.src (j.len) ∧
      u.poisonedIn j.src (j.len) = false ∧
      u.engineRange j.dst (sha3_512 (u.bytes j.src j.len)).length = true) ∧
    (∃ (s : State) (d : List GReg) (j : EngJob) (u : State),
      s.clocked = true ∧
      s.flag fSHACFG_EN = true ∧
      s.fenced 8 = false ∧
      s.holdsDone (s.fget fSHACFG_DONEQ) 0 = false ∧
      s.frontJob (s.fget fSHACFG_JOBQ) = some d ∧
      j = EngJob.parse d ∧
      j.op = 2 ∧
      j.endBit = 1 ∧
      s.mode ≠ modeBoot ∧
      s.engineRange j.src (j.len) = true ∧
      u = (s.dequeued (s.fget fSHACFG_JOBQ)).touch j.src (j.len) ∧
      u.poisonedIn j.src (j.len) = false ∧
      j.outlen ≠ 0 ∧
      u.engineRange j.dst (shake128 (u.bytes j.src j.len) j.outlen).length = true) ∧
    (∃ (s : State) (d : List GReg) (j : EngJob) (u : State),
      s.clocked = true ∧
      s.flag fSHACFG_EN = true ∧
      s.fenced 8 = false ∧
      s.holdsDone (s.fget fSHACFG_DONEQ) 0 = false ∧
      s.frontJob (s.fget fSHACFG_JOBQ) = some d ∧
      j = EngJob.parse d ∧
      j.op = 3 ∧
      j.endBit = 1 ∧
      s.mode ≠ modeBoot ∧
      s.engineRange j.src (j.len) = true ∧
      u = (s.dequeued (s.fget fSHACFG_JOBQ)).touch j.src (j.len) ∧
      u.poisonedIn j.src (j.len) = false ∧
      j.outlen ≠ 0 ∧
      u.engineRange j.dst (shake256 (u.bytes j.src j.len) j.outlen).length = true) ∧
    (∃ (s : State) (d : List GReg) (j : EngJob) (u : State) (k : KeySlot),
      s.clocked = true ∧
      s.flag fDSACFG_EN = true ∧
      s.fenced 9 = false ∧
      s.holdsDone (s.fget fDSACFG_DONEQ) 0 = false ∧
      s.frontJob (s.fget fDSACFG_JOBQ) = some d ∧
      j = EngJob.parse d ∧
      j.op = 0 ∧
      j.endBit = 1 ∧
      s.mode ≠ modeBoot ∧
      s.engineRange j.src (j.len) = true ∧
      u = (s.dequeued (s.fget fDSACFG_JOBQ)).touch j.src (j.len) ∧
      u.poisonedIn j.src (j.len) = false ∧
      u.engineRange j.dst sigBytes = true ∧
      u.deliver j.slot mDsa = (.done, k) ∧
      k.typ = ktDsaPriv ∧
      s.key.entropyBad = false) ∧
    (∃ (s : State) (d : List GReg) (j : EngJob) (u : State) (k : KeySlot),
      s.clocked = true ∧
      s.flag fDSACFG_EN = true ∧
      s.fenced 9 = false ∧
      s.holdsDone (s.fget fDSACFG_DONEQ) 0 = false ∧
      s.frontJob (s.fget fDSACFG_JOBQ) = some d ∧
      j = EngJob.parse d ∧
      j.op = 1 ∧
      j.endBit = 1 ∧
      s.mode ≠ modeBoot ∧
      s.engineRange j.src (j.len + sigBytes) = true ∧
      u = (s.dequeued (s.fget fDSACFG_JOBQ)).touch j.src (j.len + sigBytes) ∧
      u.poisonedIn j.src (j.len + sigBytes) = false ∧
      u.deliver j.slot mDsa = (.done, k) ∧
      (k.typ = ktDsaPriv ∨ k.typ = ktDsaPub)) ∧
    (∃ (s : State) (d : List GReg) (j : EngJob) (u : State) (k : KeySlot),
      s.clocked = true ∧
      s.flag fKEMCFG_EN = true ∧
      s.fenced 10 = false ∧
      s.holdsDone (s.fget fKEMCFG_DONEQ) 0 = false ∧
      s.frontJob (s.fget fKEMCFG_JOBQ) = some d ∧
      j = EngJob.parse d ∧
      j.op = 0 ∧
      j.endBit = 1 ∧
      s.mode ≠ modeBoot ∧
      u = s.dequeued (s.fget fKEMCFG_JOBQ) ∧
      u.dslotBad j = false ∧
      u.deliver j.slot mKem = (.done, k) ∧
      k.typ = ktKemPub ∧
      u.engineRange j.dst 1568 = true) ∧
    (∃ (s : State) (d : List GReg) (j : EngJob) (u : State) (k : KeySlot),
      s.clocked = true ∧
      s.flag fKEMCFG_EN = true ∧
      s.fenced 10 = false ∧
      s.holdsDone (s.fget fKEMCFG_DONEQ) 0 = false ∧
      s.frontJob (s.fget fKEMCFG_JOBQ) = some d ∧
      j = EngJob.parse d ∧
      j.op = 1 ∧
      j.endBit = 1 ∧
      s.mode ≠ modeBoot ∧
      s.engineRange j.src (1568) = true ∧
      u = (s.dequeued (s.fget fKEMCFG_JOBQ)).touch j.src (1568) ∧
      u.poisonedIn j.src (1568) = false ∧
      u.dslotBad j = false ∧
      u.deliver j.slot mKem = (.done, k) ∧
      k.typ = ktKemPriv) :=
  ⟨⟨tJob 1 0 0 0 0 1 tSha, (tJob 1 0 0 0 0 1 tSha).front 1, _, _, by decide +kernel, by decide +kernel, by decide +kernel, by decide +kernel, by decide +kernel, rfl, by decide +kernel, by decide +kernel, by decide +kernel, by decide +kernel, rfl, by decide +kernel, by decide +kernel⟩,
   ⟨tJob 2 0 0 9 0 1 tSha, (tJob 2 0 0 9 0 1 tSha).front 1, _, _, by decide +kernel, by decide +kernel, by decide +kernel, by decide +kernel, by decide +kernel, rfl, by decide +kernel, by decide +kernel, by decide +kernel, by decide +kernel, rfl, by decide +kernel, by decide +kernel, by decide +kernel⟩,
   ⟨tJob 3 0 0 9 0 1 tSha, (tJob 3 0 0 9 0 1 tSha).front 1, _, _, by decide +kernel, by decide +kernel, by decide +kernel, by decide +kernel, by decide +kernel, rfl, by decide +kernel, by decide +kernel, by decide +kernel, by decide +kernel, rfl, by decide +kernel, by decide +kernel, by decide +kernel⟩,
   ⟨tJob 0 0 0 0 0 1 tDsa, (tJob 0 0 0 0 0 1 tDsa).front 1, _, _, tIds.slot 0, by decide +kernel, by decide +kernel, by decide +kernel, by decide +kernel, by decide +kernel, rfl, by decide +kernel, by decide +kernel, by decide +kernel, by decide +kernel, rfl, by decide +kernel, by decide +kernel, by decide +kernel, by decide +kernel, by decide +kernel⟩,
   ⟨tJob 1 4 0 0 0 1 tDsa, (tJob 1 4 0 0 0 1 tDsa).front 1, _, _, tIds.slot 4, by decide +kernel, by decide +kernel, by decide +kernel, by decide +kernel, by decide +kernel, rfl, by decide +kernel, by decide +kernel, by decide +kernel, by decide +kernel, rfl, by decide +kernel, by decide +kernel, by decide +kernel⟩,
   ⟨tJob 0 20 30 0 0x8F 0 tKem, (tJob 0 20 30 0 0x8F 0 tKem).front 1, _, _, tKem.slot 20, by decide +kernel, by decide +kernel, by decide +kernel, by decide +kernel, by decide +kernel, rfl, by decide +kernel, by decide +kernel, by decide +kernel, rfl, by decide +kernel, by decide +kernel, by decide +kernel, by decide +kernel⟩,
   ⟨tJob 1 21 30 0 0x8F 0 tKem, (tJob 1 21 30 0 0x8F 0 tKem).front 1, _, _, tKem.slot 21, by decide +kernel, by decide +kernel, by decide +kernel, by decide +kernel, by decide +kernel, rfl, by decide +kernel, by decide +kernel, by decide +kernel, by decide +kernel, rfl, by decide +kernel, by decide +kernel, by decide +kernel, by decide +kernel⟩⟩

/-- The hypotheses of TamperAndLifeCycle can be met: part 1. -/
theorem test_meets_tamper_and_life_cycle_1 :
    (∃ (now : BitVec 10) (s : State),
      maskOff (now.toNat &&& s.tmpActive) s.pwr.tmpSeen = 0) ∧
    (∃ (now : BitVec 10) (s : State) (fr : Nat) (u : State),
      fr = maskOff (now.toNat &&& s.tmpActive) s.pwr.tmpSeen ∧
      fr ≠ 0 ∧
      fr &&& s.tmpErases = 0 ∧
      u = (((s.fset fTMPSENSE_NOW now.toNat).setPwr { s.pwr with tmpSeen := now.toNat &&& s.tmpActive }).setReg rTMPSTAT (s.reg rTMPSTAT ||| fr))) ∧
    (∃ (now : BitVec 10) (busy : List EngBusy) (cut : AlarmCut) (s : State) (fr : Nat) (u : State),
      fr = maskOff (now.toNat &&& s.tmpActive) s.pwr.tmpSeen ∧
      fr &&& s.tmpErases ≠ 0 ∧
      (cut ≠ .noBackup ∨ s.pwr.asleep = false) ∧
      u = (((((((s.fset fTMPSENSE_NOW now.toNat).setPwr { s.pwr with tmpSeen := now.toNat &&& s.tmpActive }).setReg rTMPSTAT (s.reg rTMPSTAT ||| fr)).alarmEnds cut).engAborts busy).eraseKeys.setFlag fTMPSTAT_PEND true).setFlag fRSTCAUSE_TAMPER_ERASE true)) ∧
    (∃ (now : BitVec 10) (cut : AlarmCut) (s : State) (fr : Nat) (u : State),
      fr = maskOff (now.toNat &&& s.tmpActive) s.pwr.tmpSeen ∧
      fr &&& s.tmpErases ≠ 0 ∧
      cut = .noBackup ∧
      s.pwr.asleep = true ∧
      u = (((s.fset fTMPSENSE_NOW now.toNat).setPwr { s.pwr with tmpSeen := now.toNat &&& s.tmpActive }).setReg rTMPSTAT (s.reg rTMPSTAT ||| fr)).setFlag fTMPSTAT_PEND true) ∧
    (∃ (now : BitVec 10) (s : State),
      maskOff (now.toNat &&& s.tmpActive) s.pwr.tmpSeen ≠ 0 ∧
      maskOff (now.toNat &&& s.tmpActive) s.pwr.tmpSeen &&& s.tmpErases = 0) ∧
    (∃ (now : BitVec 10) (cut : AlarmCut) (s : State),
      maskOff (now.toNat &&& s.tmpActive) s.pwr.tmpSeen &&& s.tmpErases ≠ 0 ∧
      (cut ≠ .noBackup ∨ s.pwr.asleep = false)) ∧
    (∃ (s : State) (x : EngBusy),
      ((s.engSeat x.unit.val).en = false ∨ s.fenced (s.engSeat x.unit.val).fence = true ∨ s.holdsDone (s.engSeat x.unit.val).dq (s.engSeat x.unit.val).num = true ∨ s.frontJob (s.engSeat x.unit.val).jq = none)) ∧
    (∃ (s u v : State) (x : EngBusy) (e : EngSeat) (d : List GReg) (n : Nat),
      e = s.engSeat x.unit.val ∧
      e.en = true ∧
      s.fenced e.fence = false ∧
      s.holdsDone e.dq e.num = false ∧
      s.frontJob e.jq = some d ∧
      n = min x.wrote (engOutLen x.unit.val d) ∧
      u = (if (s.dequeued e.jq).engineRange (EngJob.parse d).dst n then (s.dequeued e.jq).write (EngJob.parse d).dst (List.replicate n 0) else s.dequeued e.jq) ∧
      v = (if x.unit.val < 4 then (u.bump fAESALARM_COUNT 1).aeCount e.num true else u)) :=
  ⟨⟨1, State.reset, by decide +kernel⟩,
   ⟨1, tTmp0, (maskOff ((1 : BitVec 10).toNat &&& (tTmp0 : State).tmpActive) (tTmp0 : State).pwr.tmpSeen), (((((tTmp0 : State).fset fTMPSENSE_NOW (1 : BitVec 10).toNat).setPwr { (tTmp0 : State).pwr with tmpSeen := (1 : BitVec 10).toNat &&& (tTmp0 : State).tmpActive }).setReg rTMPSTAT ((tTmp0 : State).reg rTMPSTAT ||| ((maskOff ((1 : BitVec 10).toNat &&& (tTmp0 : State).tmpActive) (tTmp0 : State).pwr.tmpSeen) : Nat)))), by decide +kernel⟩,
   ⟨1, [], .none, tTmp, (maskOff ((1 : BitVec 10).toNat &&& (tTmp : State).tmpActive) (tTmp : State).pwr.tmpSeen), (((((((((tTmp : State).fset fTMPSENSE_NOW (1 : BitVec 10).toNat).setPwr { (tTmp : State).pwr with tmpSeen := (1 : BitVec 10).toNat &&& (tTmp : State).tmpActive }).setReg rTMPSTAT ((tTmp : State).reg rTMPSTAT ||| ((maskOff ((1 : BitVec 10).toNat &&& (tTmp : State).tmpActive) (tTmp : State).pwr.tmpSeen) : Nat))).alarmEnds (.none : AlarmCut)).engAborts ([] : List EngBusy)).eraseKeys.setFlag fTMPSTAT_PEND true).setFlag fRSTCAUSE_TAMPER_ERASE true)), by decide +kernel⟩,
   ⟨1, (.noBackup), tTmp.setPwr { tTmp.pwr with asleep := true }, (maskOff ((1 : BitVec 10).toNat &&& (tTmp.setPwr { tTmp.pwr with asleep := true } : State).tmpActive) (tTmp.setPwr { tTmp.pwr with asleep := true } : State).pwr.tmpSeen), (((((tTmp.setPwr { tTmp.pwr with asleep := true } : State).fset fTMPSENSE_NOW (1 : BitVec 10).toNat).setPwr { (tTmp.setPwr { tTmp.pwr with asleep := true } : State).pwr with tmpSeen := (1 : BitVec 10).toNat &&& (tTmp.setPwr { tTmp.pwr with asleep := true } : State).tmpActive }).setReg rTMPSTAT ((tTmp.setPwr { tTmp.pwr with asleep := true } : State).reg rTMPSTAT ||| ((maskOff ((1 : BitVec 10).toNat &&& (tTmp.setPwr { tTmp.pwr with asleep := true } : State).tmpActive) (tTmp.setPwr { tTmp.pwr with asleep := true } : State).pwr.tmpSeen) : Nat))).setFlag fTMPSTAT_PEND true), by decide +kernel⟩,
   ⟨1, tTmp0, by decide +kernel⟩,
   ⟨1, .none, tTmp, by decide +kernel⟩,
   ⟨tSha, ⟨0, 0⟩, by decide +kernel⟩,
   ⟨tJob 0 0 0 0 0 1 tSha, (tJob 0 0 0 0 0 1 tSha).dequeued 1, (tJob 0 0 0 0 0 1 tSha).dequeued 1, ⟨4, 0⟩, (tJob 0 0 0 0 0 1 tSha).engSeat 4, (tJob 0 0 0 0 0 1 tSha).front 1, 0, rfl, by decide +kernel, by decide +kernel, by decide +kernel, by decide +kernel, by decide +kernel, by decide +kernel, by decide +kernel⟩⟩

/-- The hypotheses of TamperAndLifeCycle can be met: part 2. -/
theorem test_meets_tamper_and_life_cycle_2 :
    (∃ (a : Agent) (s : State),
      s.writes a rTMPSTAT = true ∧
      s.fget fTMPSENSE_NOW &&& s.tmpActive = 0) ∧
    (∃ (a : Agent) (s : State),
      s.writes a rTMPSTAT = true ∧
      s.fget fTMPSENSE_NOW &&& s.tmpActive ≠ 0) ∧
    (∃ (a : Agent) (s : State),
      s.writes a rLCSCTL = true ∧
      (¬(s.key.armed = none) ∨ ¬((s.life = lifeBlank ∨ s.life = lifeDepot) ∧ s.mode = modeCommission ∧ s.provisioned = true))) ∧
    (∃ (a : Agent) (s : State),
      s.writes a rLCSCTL = true ∧
      s.key.armed = none ∧
      ((s.life = lifeBlank ∨ s.life = lifeDepot) ∧ s.mode = modeCommission ∧ s.provisioned = true) ∧
      64 ≤ s.fget fLCSSTAT_STEPS) ∧
    (∃ (a : Agent) (s : State),
      s.writes a rLCSCTL = true ∧
      s.key.armed = none ∧
      ((s.life = lifeBlank ∨ s.life = lifeDepot) ∧ s.mode = modeCommission ∧ s.provisioned = true) ∧
      s.fget fLCSSTAT_STEPS < 64 ∧
      s.flag fPFSTAT_PFAIL = true) ∧
    (∃ (a : Agent) (s : State),
      s.writes a rLCSCTL = true ∧
      s.key.armed = none ∧
      ((s.life = lifeBlank ∨ s.life = lifeDepot) ∧ s.mode = modeCommission ∧ s.provisioned = true) ∧
      s.fget fLCSSTAT_STEPS < 64 ∧
      s.flag fPFSTAT_PFAIL = false) ∧
    (∃ (a : Agent) (s : State),
      s.writes a rLCSCTL = true ∧
      (¬(s.key.armed = none) ∨ ¬(s.life = lifeProvisioned ∧ s.mode = modeCommission ∧ s.provisioned = true))) ∧
    (∃ (a : Agent) (s : State),
      s.writes a rLCSCTL = true ∧
      s.key.armed = none ∧
      (s.life = lifeProvisioned ∧ s.mode = modeCommission ∧ s.provisioned = true) ∧
      64 ≤ s.fget fLCSSTAT_STEPS) :=
  ⟨⟨.port, tTmp, by decide +kernel⟩,
   ⟨.port, tTmp.fset fTMPSENSE_NOW 1, by decide +kernel⟩,
   ⟨.port, tProv 1 1, by decide +kernel⟩,
   ⟨.port, tProv 0 64, by decide +kernel⟩,
   ⟨.port, (tProv 0 0).setFlag fPFSTAT_PFAIL true, by decide +kernel⟩,
   ⟨.port, tProv 0 0, by decide +kernel⟩,
   ⟨.port, tProv 0 0, by decide +kernel⟩,
   ⟨.port, tProv 1 64, by decide +kernel⟩⟩

/-- The hypotheses of TamperAndLifeCycle can be met: part 3. -/
theorem test_meets_tamper_and_life_cycle_3 :
    (∃ (a : Agent) (s : State),
      s.writes a rLCSCTL = true ∧
      s.key.armed = none ∧
      (s.life = lifeProvisioned ∧ s.mode = modeCommission ∧ s.provisioned = true) ∧
      s.fget fLCSSTAT_STEPS < 64 ∧
      s.flag fPFSTAT_PFAIL = true) ∧
    (∃ (a : Agent) (s : State),
      s.writes a rLCSCTL = true ∧
      s.key.armed = none ∧
      (s.life = lifeProvisioned ∧ s.mode = modeCommission ∧ s.provisioned = true) ∧
      s.fget fLCSSTAT_STEPS < 64 ∧
      s.flag fPFSTAT_PFAIL = false) ∧
    (∃ (a : Agent) (s : State),
      s.writes a rLCSCTL = true ∧
      (¬(s.key.armed = none ∨ s.armedFor 0x80 0 = true) ∨ ¬(s.life = lifeField ∧ s.armedFor 0x80 0 = true))) ∧
    (∃ (a : Agent) (s : State),
      s.writes a rLCSCTL = true ∧
      (s.key.armed = none ∨ s.armedFor 0x80 0 = true) ∧
      (s.life = lifeField ∧ s.armedFor 0x80 0 = true) ∧
      64 ≤ s.fget fLCSSTAT_STEPS) ∧
    (∃ (a : Agent) (s : State),
      s.writes a rLCSCTL = true ∧
      (s.key.armed = none ∨ s.armedFor 0x80 0 = true) ∧
      (s.life = lifeField ∧ s.armedFor 0x80 0 = true) ∧
      s.fget fLCSSTAT_STEPS < 64 ∧
      s.flag fPFSTAT_PFAIL = true) ∧
    (∃ (a : Agent) (s : State),
      s.writes a rLCSCTL = true ∧
      (s.key.armed = none ∨ s.armedFor 0x80 0 = true) ∧
      (s.life = lifeField ∧ s.armedFor 0x80 0 = true) ∧
      s.fget fLCSSTAT_STEPS < 64 ∧
      s.flag fPFSTAT_PFAIL = false) ∧
    (∃ (a : Agent) (s : State),
      s.writes a rLCSCTL = true ∧
      (¬(s.key.armed = none ∨ s.armedFor 0x81 0 = true) ∨ ¬(s.life = lifeBlank ∨ s.life = lifeDepot ∨ ((s.life = lifeProvisioned ∨ s.life = lifeField) ∧ s.armedFor 0x81 0 = true)))) ∧
    (∃ (a : Agent) (s : State),
      s.writes a rLCSCTL = true ∧
      (s.key.armed = none ∨ s.armedFor 0x81 0 = true) ∧
      (s.life = lifeBlank ∨ s.life = lifeDepot ∨ ((s.life = lifeProvisioned ∨ s.life = lifeField) ∧ s.armedFor 0x81 0 = true)) ∧
      s.flag fPFSTAT_PFAIL = true) :=
  ⟨⟨.port, (tProv 1 1).setFlag fPFSTAT_PFAIL true, by decide +kernel⟩,
   ⟨.port, tProv 1 1, by decide +kernel⟩,
   ⟨.port, tProv 0 0, by decide +kernel⟩,
   ⟨.port, (tArmed 0x80).fset fLCSSTAT_STEPS 64, by decide +kernel⟩,
   ⟨.port, (tArmed 0x80).setFlag fPFSTAT_PFAIL true, by decide +kernel⟩,
   ⟨.port, tArmed 0x80, by decide +kernel⟩,
   ⟨.port, tProv 1 1, by decide +kernel⟩,
   ⟨.port, (tProv 0 0).setFlag fPFSTAT_PFAIL true, by decide +kernel⟩⟩

/-- The hypotheses of TamperAndLifeCycle can be met: part 4. -/
theorem test_meets_tamper_and_life_cycle_4 :
    (∃ (a : Agent) (s : State),
      s.writes a rLCSCTL = true ∧
      (s.key.armed = none ∨ s.armedFor 0x81 0 = true) ∧
      (s.life = lifeBlank ∨ s.life = lifeDepot ∨ ((s.life = lifeProvisioned ∨ s.life = lifeField) ∧ s.armedFor 0x81 0 = true)) ∧
      s.flag fPFSTAT_PFAIL = false) :=
  ⟨.port, tProv 0 0, by decide +kernel⟩

/-- The hypotheses of FirmwareUpdate can be met: part 1. -/
theorem test_meets_firmware_update_1 :
    (∃ (a : Agent) (s : State),
      s.writes a rUPDCTL = true ∧
      s.flag fUPDRES_BUSY = true) ∧
    (∃ (a : Agent) (s : State),
      s.writes a rUPDCTL = true ∧
      s.flag fUPDRES_BUSY = false ∧
      s.fget fUPDADDR_ADDR % 64 = 0 ∧
      (s.inDa (s.fget fUPDADDR_ADDR) hdrBytes = true ∨ s.inDb (s.fget fUPDADDR_ADDR) hdrBytes = true) ∧
      s.poisonedIn (s.fget fUPDADDR_ADDR) hdrBytes = false) ∧
    (∃ (a : Agent) (s : State),
      s.writes a rUPDCTL = true ∧
      s.flag fUPDRES_BUSY = false ∧
      s.fget fUPDADDR_ADDR % 64 ≠ 0) ∧
    (∃ (a : Agent) (s : State),
      s.writes a rUPDCTL = true ∧
      s.flag fUPDRES_BUSY = false ∧
      s.fget fUPDADDR_ADDR % 64 = 0 ∧
      s.inDa (s.fget fUPDADDR_ADDR) hdrBytes = false ∧
      s.inDb (s.fget fUPDADDR_ADDR) hdrBytes = false) ∧
    (∃ (a : Agent) (s : State),
      s.writes a rUPDCTL = true ∧
      s.flag fUPDRES_BUSY = false ∧
      s.fget fUPDADDR_ADDR % 64 = 0 ∧
      (s.inDa (s.fget fUPDADDR_ADDR) hdrBytes = true ∨ s.inDb (s.fget fUPDADDR_ADDR) hdrBytes = true) ∧
      s.poisonedIn (s.fget fUPDADDR_ADDR) hdrBytes = true) ∧
    (∃ (s : State) (h : List Byte),
      (hEpoch h < s.fget fUPDFUSE_EPOCH ∨ hVersion h < s.fget fUPDCVER_VERSION)) ∧
    (∃ (a : Agent) (s : State),
      s.writes a rUPDCTL = true ∧
      s.flag fUPDRES_BUSY = false ∧
      (s.flag fUPDRES_CHECKED = false ∨ s.slotState (1 - s.runSlot) = usCommitted)) ∧
    (∃ (a : Agent) (s : State),
      s.writes a rUPDCTL = true ∧
      s.flag fUPDRES_BUSY = false ∧
      s.flag fUPDRES_CHECKED = true ∧
      s.slotState (1 - s.runSlot) ≠ usCommitted ∧
      s.inDa (s.fget fUPDADDR_ADDR + hdrBytes) (hSize s.upd.kept) = false ∧
      s.inDb (s.fget fUPDADDR_ADDR + hdrBytes) (hSize s.upd.kept) = false) :=
  ⟨⟨.port, tUpd.setFlag fUPDRES_BUSY true, by decide +kernel⟩,
   ⟨.port, tUpd, by decide +kernel⟩,
   ⟨.port, tUpd.fset fUPDADDR_ADDR 1, by decide +kernel⟩,
   ⟨.port, tUpd.fset fUPDADDR_ADDR 64, by decide +kernel⟩,
   ⟨.port, tUpd.writeP 0x010000000000 [0] true, by decide +kernel⟩,
   ⟨tUpd.fset fUPDFUSE_EPOCH 3, tHdr, by decide +kernel⟩,
   ⟨.port, tUpd, by decide +kernel⟩,
   ⟨.port, tChk.fset fUPDADDR_ADDR 0, by decide +kernel⟩⟩

/-- The hypotheses of FirmwareUpdate can be met: part 2. -/
theorem test_meets_firmware_update_2 :
    (∃ (a : Agent) (s : State),
      s.writes a rUPDCTL = true ∧
      s.flag fUPDRES_BUSY = false ∧
      s.flag fUPDRES_CHECKED = true ∧
      s.slotState (1 - s.runSlot) ≠ usCommitted ∧
      (s.inDa (s.fget fUPDADDR_ADDR + hdrBytes) (hSize s.upd.kept) = true ∨ s.inDb (s.fget fUPDADDR_ADDR + hdrBytes) (hSize s.upd.kept) = true)) ∧
    (∃ (s : State),
      s.clocked = true ∧
      s.flag fUPDRES_BUSY = true ∧
      s.upd.op = 2) ∧
    (∃ (a : Agent) (s : State),
      s.writes a rUPDCTL = true ∧
      s.flag fUPDRES_BUSY = false ∧
      s.upd.cleaned = false) ∧
    (∃ (a : Agent) (s : State),
      s.writes a rUPDCTL = true ∧
      s.flag fUPDRES_BUSY = false ∧
      s.upd.cleaned = true) ∧
    (∃ (a : Agent) (s : State),
      s.writes a rUPDCTL = true ∧
      s.flag fUPDRES_BUSY = false) ∧
    (∃ (a : Agent) (s : State),
      s.writes a rUPDCTL = true ∧
      s.flag fUPDRES_BUSY = false ∧
      (s.onTrial = false ∨ s.fget (fUPDSLOT_CLEANCNT s.runSlot) < 3 ∨ s.flag fUPDSTAT_STPASS = false)) ∧
    (∃ (a : Agent) (s : State),
      s.writes a rUPDCTL = true ∧
      s.flag fUPDRES_BUSY = false ∧
      s.onTrial = true ∧
      3 ≤ s.fget (fUPDSLOT_CLEANCNT s.runSlot) ∧
      s.flag fUPDSTAT_STPASS = true) ∧
    (∃ (s : State) (n : Nat) (v : Nat) (ep : Nat) (dig : List Byte),
      s.clocked = true ∧
      s.flag fUPDRES_BUSY = true ∧
      s.upd.op = 5 ∧
      s.upd.intent = some (n, v, ep, dig) ∧
      s.fget fUPDFUSE_EPOCH < ep) :=
  ⟨⟨.port, tChk, by decide +kernel⟩,
   ⟨tChk.updBusy 2, by decide +kernel⟩,
   ⟨.port, tTrial, by decide +kernel⟩,
   ⟨.port, tTrial.setUpd { tTrial.upd with cleaned := true }, by decide +kernel⟩,
   ⟨.port, tTrial, by decide +kernel⟩,
   ⟨.port, tUpd, by decide +kernel⟩,
   ⟨.port, tTrial, by decide +kernel⟩,
   ⟨((tTrial.updBusy 5).setUpd { (tTrial.updBusy 5).upd with intent := some (0, 1, 5, []) }), 0, 1, 5, [], by decide +kernel⟩⟩

/-- The hypotheses of FirmwareUpdate can be met: part 3. -/
theorem test_meets_firmware_update_3 :
    (∃ (s : State) (n : Nat) (v : Nat) (ep : Nat) (dig : List Byte),
      s.clocked = true ∧
      s.flag fUPDRES_BUSY = true ∧
      s.upd.op = 5 ∧
      s.upd.intent = some (n, v, ep, dig) ∧
      ep ≤ s.fget fUPDFUSE_EPOCH ∧
      n < 2) ∧
    (∃ (s : State),
      s.clocked = true) ∧
    (∃ (a : Agent) (s : State),
      s.writes a rUPDCTL = true ∧
      s.flag fUPDRES_BUSY = false ∧
      s.onTrial = true) ∧
    (∃ (a : Agent) (s : State),
      s.writes a rUPDCTL = true ∧
      s.flag fUPDRES_BUSY = false ∧
      s.onTrial = false) :=
  ⟨⟨((tTrial.updBusy 5).setUpd { (tTrial.updBusy 5).upd with intent := some (0, 1, 0, []) }), 0, 1, 0, [], by decide +kernel⟩,
   ⟨tTrial, by decide +kernel⟩,
   ⟨.port, tTrial, by decide +kernel⟩,
   ⟨.port, tUpd, by decide +kernel⟩⟩

/-- The hypotheses of DrainsCheckpointsRinse can be met: part 1. -/
theorem test_meets_drains_checkpoints_rinse_1 :
    (∃ (s : State),
      s.clocked = true ∧
      (s.mrm.batch = 0 ∧ s.nandOn = true ∧ s.flag fNFCSTAT_RO = false ∧ s.drainDue = true)) ∧
    (∃ (s : State),
      s.clocked = true ∧
      ¬ (s.mrm.batch = 0 ∧ s.nandOn = true ∧ s.flag fNFCSTAT_RO = false ∧ s.drainDue = true)) ∧
    (∃ (fails : Nat) (s u : State),
      s.clocked = true ∧
      s.nandOn = true ∧
      s.mrm.batch ≠ 0 ∧
      s.putOwn (((s.mrm.ring.take s.mrm.batch).map fun e => e.len).sum) fails = .ok u) ∧
    (∃ (fails : Nat) (s : State),
      s.clocked = true ∧
      s.nandOn = true ∧
      s.mrm.batch ≠ 0 ∧
      s.putOwn (((s.mrm.ring.take s.mrm.batch).map fun e => e.len).sum) fails = .full) ∧
    (∃ (s : State),
      s.clocked = true ∧
      (s.mrm.batch = 0 ∨ s.nandOn = false)) ∧
    (∃ (s : State),
      s.clocked = true ∧
      s.nandOn = true ∧
      s.mrm.batch ≠ 0) ∧
    (∃ (a : Agent) (int : Half) (s : State),
      s.writes a rMRMCKPT = true ∧
      int ≠ 0 ∧
      s.flag fMRMCKPT_BUSY = false ∧
      (s.mode = modeService ∨ s.mode = modeHoldover ∨ s.mode = modeStandby)) ∧
    (∃ (a : Agent) (int : Half) (s : State),
      s.writes a rMRMCKPT = true ∧
      int = 0) :=
  ⟨⟨tRing, by decide +kernel⟩,
   ⟨tNd, by decide +kernel⟩,
   ⟨0, tBatched, (test_nand_ok (by decide +kernel : tNOk (tBatched.putOwn 32 0) = true)).choose, by decide +kernel, by decide +kernel, by decide +kernel, (test_nand_ok (by decide +kernel : tNOk (tBatched.putOwn 32 0) = true)).choose_spec⟩,
   ⟨0, tBatched.setReg rFENCE_STAT 0x3000, by decide +kernel, by decide +kernel, by decide +kernel, by decide +kernel⟩,
   ⟨tNd, by decide +kernel⟩,
   ⟨tBatched, by decide +kernel⟩,
   ⟨.port, 15, tNd, by decide +kernel⟩,
   ⟨.port, (0), tNd, by decide +kernel⟩⟩

/-- The hypotheses of DrainsCheckpointsRinse can be met: part 2. -/
theorem test_meets_drains_checkpoints_rinse_2 :
    (∃ (a : Agent) (int : Half) (s : State),
      s.writes a rMRMCKPT = true ∧
      int ≠ 0 ∧
      s.flag fMRMCKPT_BUSY = true) ∧
    (∃ (a : Agent) (int : Half) (s : State),
      s.writes a rMRMCKPT = true ∧
      int ≠ 0 ∧
      s.flag fMRMCKPT_BUSY = false ∧
      (¬(s.mode = modeService ∨ s.mode = modeHoldover ∨ s.mode = modeStandby))) ∧
    (∃ (s : State),
      s.clocked = true ∧
      (s.ckptMode = true ∧ s.flag fMRMCKPT_BUSY = false ∧ s.mrm.ckptAt + secRaw (60 * s.fget fMRMCKPT_INT) ≤ s.time.raw)) ∧
    (∃ (s : State),
      s.clocked = true ∧
      ¬ (s.ckptMode = true ∧ s.flag fMRMCKPT_BUSY = false ∧ s.mrm.ckptAt + secRaw (60 * s.fget fMRMCKPT_INT) ≤ s.time.raw)) ∧
    (∃ (fails : Nat) (s : State) (d : Nat) (u v : State),
      s.clocked = true ∧
      s.mrm.ckptFrom = some d ∧
      (s.nandOn = true ∧ s.flag fNFCSTAT_RO = false ∧ s.switchPending = false ∧ s.holdTakes s.uncovered = true) ∧
      s.putOwn (5344 * s.epis.length) fails = .ok u ∧
      v = u.ckptCommit (s.epis.map fun e => ({ epi := e, data := s.endpointState e, poison := s.endpointPoison e } : CkptRec)) (s.ownUnits (5344 * s.epis.length))) ∧
    (∃ (s : State) (d : Nat),
      s.clocked = true ∧
      s.mrm.ckptFrom = some d ∧
      (s.nandOn = true ∧ s.flag fNFCSTAT_RO = false ∧ s.switchPending = false ∧ s.holdTakes s.uncovered = true)) ∧
    (∃ (s : State),
      s.clocked = true ∧
      (s.mrm.ckptFrom = none ∨ ¬(s.nandOn = true ∧ s.flag fNFCSTAT_RO = false ∧ s.switchPending = false ∧ s.holdTakes s.uncovered = true))) ∧
    (∃ (m : Fin 4) (s : State) (u : State) (v : State),
      s.clocked = true ∧
      s.flag (fRINCFG_EN m.val) = true ∧
      (m.val = 1 → s.fenced 11 = false) ∧
      u = (((s.correct (s.rinseRange m.val).1 (s.rinseRange m.val).2).bump (fRINCORR_COUNT m.val) (s.soft.filter (touches (s.rinseRange m.val).1 (s.rinseRange m.val).2)).length).bump (fRINPOIS_COUNT m.val) (s.poison.filter (touches (s.rinseRange m.val).1 (s.rinseRange m.val).2)).length) ∧
      v = (match (s.poison.filter (touches (s.rinseRange m.val).1 (s.rinseRange m.val).2)) with | [] => u | g :: _ => u.poisonEvent 0x44 m.val (s.poison.filter (touches (s.rinseRange m.val).1 (s.rinseRange m.val).2)).length .poisoned (8 * g))) :=
  ⟨⟨.port, 15, tCk, by decide +kernel⟩,
   ⟨.port, 15, State.reset, by decide +kernel⟩,
   ⟨tLater tNd, by decide +kernel⟩,
   ⟨tCk, by decide +kernel⟩,
   ⟨0, tCk, 0, (test_nand_ok (by decide +kernel : tNOk (tCk.putOwn (5344 * tCk.epis.length) 0) = true)).choose, _, by decide +kernel, by decide +kernel, by decide +kernel, (test_nand_ok (by decide +kernel : tNOk (tCk.putOwn (5344 * tCk.epis.length) 0) = true)).choose_spec, rfl⟩,
   ⟨tCk, 0, by decide +kernel⟩,
   ⟨tNd, by decide +kernel⟩,
   ⟨0, { tNd with soft := [5] }, ((((({ tNd with soft := [5] } : State).correct (({ tNd with soft := [5] } : State).rinseRange (0 : Fin 4).val).1 (({ tNd with soft := [5] } : State).rinseRange (0 : Fin 4).val).2).bump (fRINCORR_COUNT (0 : Fin 4).val) (({ tNd with soft := [5] } : State).soft.filter (touches (({ tNd with soft := [5] } : State).rinseRange (0 : Fin 4).val).1 (({ tNd with soft := [5] } : State).rinseRange (0 : Fin 4).val).2)).length).bump (fRINPOIS_COUNT (0 : Fin 4).val) (({ tNd with soft := [5] } : State).poison.filter (touches (({ tNd with soft := [5] } : State).rinseRange (0 : Fin 4).val).1 (({ tNd with soft := [5] } : State).rinseRange (0 : Fin 4).val).2)).length)), ((match (({ tNd with soft := [5] } : State).poison.filter (touches (({ tNd with soft := [5] } : State).rinseRange (0 : Fin 4).val).1 (({ tNd with soft := [5] } : State).rinseRange (0 : Fin 4).val).2)) with | [] => (((((({ tNd with soft := [5] } : State).correct (({ tNd with soft := [5] } : State).rinseRange (0 : Fin 4).val).1 (({ tNd with soft := [5] } : State).rinseRange (0 : Fin 4).val).2).bump (fRINCORR_COUNT (0 : Fin 4).val) (({ tNd with soft := [5] } : State).soft.filter (touches (({ tNd with soft := [5] } : State).rinseRange (0 : Fin 4).val).1 (({ tNd with soft := [5] } : State).rinseRange (0 : Fin 4).val).2)).length).bump (fRINPOIS_COUNT (0 : Fin 4).val) (({ tNd with soft := [5] } : State).poison.filter (touches (({ tNd with soft := [5] } : State).rinseRange (0 : Fin 4).val).1 (({ tNd with soft := [5] } : State).rinseRange (0 : Fin 4).val).2)).length)) : State) | g :: _ => (((((({ tNd with soft := [5] } : State).correct (({ tNd with soft := [5] } : State).rinseRange (0 : Fin 4).val).1 (({ tNd with soft := [5] } : State).rinseRange (0 : Fin 4).val).2).bump (fRINCORR_COUNT (0 : Fin 4).val) (({ tNd with soft := [5] } : State).soft.filter (touches (({ tNd with soft := [5] } : State).rinseRange (0 : Fin 4).val).1 (({ tNd with soft := [5] } : State).rinseRange (0 : Fin 4).val).2)).length).bump (fRINPOIS_COUNT (0 : Fin 4).val) (({ tNd with soft := [5] } : State).poison.filter (touches (({ tNd with soft := [5] } : State).rinseRange (0 : Fin 4).val).1 (({ tNd with soft := [5] } : State).rinseRange (0 : Fin 4).val).2)).length)) : State).poisonEvent 0x44 (0 : Fin 4).val (({ tNd with soft := [5] } : State).poison.filter (touches (({ tNd with soft := [5] } : State).rinseRange (0 : Fin 4).val).1 (({ tNd with soft := [5] } : State).rinseRange (0 : Fin 4).val).2)).length .poisoned (8 * g))), by decide +kernel⟩⟩

/-- The hypotheses of DrainsCheckpointsRinse can be met: part 3. -/
theorem test_meets_drains_checkpoints_rinse_3 :
    (∃ (m : Fin 4) (s : State),
      s.clocked = true ∧
      s.flag (fRINCFG_EN m.val) = true ∧
      (m.val = 1 → s.fenced 11 = false)) ∧
    (∃ (m : Fin 4) (s : State),
      s.clocked = true ∧
      (s.flag (fRINCFG_EN m.val) = false ∨ (m.val = 1 ∧ s.fenced 11 = true))) :=
  ⟨⟨0, { tNd with soft := [5] }, by decide +kernel⟩,
   ⟨0, tNd.setFlag (fRINCFG_EN 0) false, by decide +kernel⟩⟩

/-- The hypotheses of FlashTranslation can be met: part 1. -/
theorem test_meets_flash_translation_1 :
    (∃ (s : State),
      s.clocked = true ∧
      (s.flag fNFCCFG_EN = false ∨ s.nandOn = false ∨ s.holdsDone (s.fget fNFCCFG_DONEQ) 0 = true ∨ s.frontJob (s.fget fNFCCFG_JOBQ) = none)) ∧
    (∃ (_corr _fails : Nat) (_uncor : List Nat) (s u : State) (d : List GReg) (j : NandJob),
      s.clocked = true ∧
      s.flag fNFCCFG_EN = true ∧
      s.nandOn = true ∧
      s.holdsDone (s.fget fNFCCFG_DONEQ) 0 = false ∧
      s.frontJob (s.fget fNFCCFG_JOBQ) = some d ∧
      j = NandJob.parse d ∧
      u = s.dequeued (s.fget fNFCCFG_JOBQ)) ∧
    (∃ (cls fails : Nat) (us : List Nat) (data : Nat → List Byte) (s t : State),
      s.writeUnits cls fails us data = .ok t) ∧
    (∃ (ch : Fin 2) (s : State) (b : Nat),
      s.clocked = true ∧
      s.nandOn = true ∧
      100 * s.freeBlks ch.val < s.fget fNFCGC_IDLE_LO * s.blkCount ch.val ∧
      s.victim ch.val = some b) ∧
    (∃ (ch : Fin 2) (s : State),
      s.clocked = true ∧
      (s.nandOn = false ∨ s.fget fNFCGC_IDLE_LO * s.blkCount ch.val ≤ 100 * s.freeBlks ch.val ∨ s.victim ch.val = none)) ∧
    (∃ (ch : Fin 2) (fails : Nat) (eraseFails : Bool) (s : State) (u : State),
      s.clocked = true ∧
      s.nandOn = true ∧
      (s.flag (fFggc ch.val) = true ∨ 100 * s.freeBlks ch.val < s.fget fNFCGC_FG_LO * s.blkCount ch.val) ∧
      u = ((((s.setFlag (fFggc ch.val) true).victim ch.val).map fun b => (s.setFlag (fFggc ch.val) true).vacate b fails eraseFails).getD (s.setFlag (fFggc ch.val) true))) ∧
    (∃ (ch : Fin 2) (s : State),
      s.clocked = true ∧
      (s.nandOn = false ∨ ¬(s.flag (fFggc ch.val) = true ∨ 100 * s.freeBlks ch.val < s.fget fNFCGC_FG_LO * s.blkCount ch.val))) ∧
    (∃ (ch : Nat) (b : Nat) (s : State),
      s.victim ch = some b ∧
      Store.wf blkReset s.nfc.blocks = true) :=
  ⟨⟨tNd, by decide +kernel⟩,
   ⟨0, 0, [], tNj 1 0 5 2 0, (tNj 1 0 5 2 0).dequeued 1, (tNj 1 0 5 2 0).front 1, _, by decide +kernel, by decide +kernel, by decide +kernel, by decide +kernel, by decide +kernel, rfl, by decide +kernel⟩,
   ⟨0, 0, [5, 6], fun _ => [], tNd, (test_nand_ok (by decide +kernel : tNOk (tNd.writeUnits 0 0 [5, 6] fun _ => []) = true)).choose, (test_nand_ok (by decide +kernel : tNOk (tNd.writeUnits 0 0 [5, 6] fun _ => []) = true)).choose_spec⟩,
   ⟨0, tGc.fset fNFCGC_IDLE_LO 60, 0, by decide +kernel⟩,
   ⟨0, tNd, by decide +kernel⟩,
   ⟨0, 0, false, tGc.fset fNFCGC_FG_LO 60, _, by decide +kernel, by decide +kernel, by decide +kernel, rfl⟩,
   ⟨0, tNd.fset fNFCGC_FG_LO 0, by decide +kernel⟩,
   ⟨0, 0, tGc, by decide +kernel⟩⟩

/-- The hypotheses of FlashTranslation can be met: part 2. -/
theorem test_meets_flash_translation_2 :
    (∃ (s : State) (b : Nat) (d : Nat),
      s.clocked = true ∧
      s.nandOn = true ∧
      s.eraseMin + s.fget fNFCWL_SPREAD < s.eraseMax ∧
      s.leastErased = some b ∧
      s.mostErasedFree (b / 2 ^ 24) = some d) ∧
    (∃ (_fails : Nat) (_eraseFails : Bool) (s : State),
      s.clocked = true ∧
      s.nandOn = true ∧
      s.eraseMin + s.fget fNFCWL_SPREAD < s.eraseMax ∧
      (s.leastErased = none ∨ ∀ b, s.leastErased = some b → s.mostErasedFree (b / 2 ^ 24) = none)) ∧
    (∃ (s : State),
      s.clocked = true ∧
      s.nandOn = true ∧
      s.eraseMin + s.fget fNFCWL_SPREAD < s.eraseMax) ∧
    (∃ (s : State),
      s.clocked = true ∧
      (s.nandOn = false ∨ s.eraseMax ≤ s.eraseMin + s.fget fNFCWL_SPREAD)) ∧
    (∃ (ch : Nat) (s : State),
      Store.wf blkReset s.nfc.blocks = true ∧
      s.blkCount ch ≤ 2 ^ 24) ∧
    (∃ (s : State) (b : Nat) (bs : List Nat),
      s.clocked = true ∧
      s.nandOn = true ∧
      s.nfc.rewrite = b :: bs) ∧
    (∃ (s : State),
      s.clocked = true ∧
      s.nandOn = true ∧
      s.nfc.rewrite ≠ []) ∧
    (∃ (s : State),
      s.clocked = true ∧
      (s.nandOn = false ∨ s.nfc.rewrite = [])) :=
  ⟨⟨(tGc.setNfc { tGc.nfc with nblk := 2, perBlk := 4 }).fset fNFCWL_SPREAD 2, 1, 2, by decide +kernel⟩,
   ⟨0, false, (tGc.setNfc { tGc.nfc with nblk := 2, perBlk := 4, blocks := tGc.nfc.blocks.filter fun e => decide (e.2.st = .free) }).fset fNFCWL_SPREAD 0, by decide +kernel, by decide +kernel, by decide +kernel, .inl (by decide +kernel)⟩,
   ⟨(tGc.setNfc { tGc.nfc with nblk := 2, perBlk := 4 }).fset fNFCWL_SPREAD 2, by decide +kernel⟩,
   ⟨tNd, by decide +kernel⟩,
   ⟨0, tGc, by decide +kernel⟩,
   ⟨tGc, 0, [], by decide +kernel⟩,
   ⟨tGc, by decide +kernel⟩,
   ⟨tNd, by decide +kernel⟩⟩

end Sys2Proof.Tests
end

section
/-!
PROOFS. What every operation and every command leaves of the queue of waiting commands. One lemma for each operation of the machine, in
the order of its definitions, says that the operation keeps `pending`; a command's meaning is then a composition of kept steps.
-/

namespace Sys2Proof.Machine

/-! ## Shapes that the operations are built from -/

@[simp] theorem pending_ite (c : Prop) [Decidable c] (a b : State) :
    (if c then a else b).pending = if c then a.pending else b.pending := apply_ite ..

theorem ite_pending {c : Prop} [Decidable c] {a b s : State} (ha : a.pending = s.pending) (hb : b.pending = s.pending) :
    (if c then a else b).pending = s.pending := by
  split <;> assumption

@[simp] theorem foldl_pending {α : Type} (f : State → α → State) (hf : ∀ s a, (f s a).pending = s.pending) (l : List α) (s : State) :
    (l.foldl f s).pending = s.pending := by
  induction l generalizing s with
  | nil => rfl
  | cons a l ih => rw [List.foldl_cons, ih, hf]

@[simp] theorem foldl_fst_pending {α β : Type} (f : State × β → α → State × β) (hf : ∀ p a, (f p a).1.pending = p.1.pending)
    (l : List α) (p : State × β) : (l.foldl f p).1.pending = p.1.pending := by
  induction l generalizing p with
  | nil => rfl
  | cons a l ih => rw [List.foldl_cons, ih, hf]

/-- An outcome is a next state with the waiting commands of `s`. -/
def KeepsPending (s : State) (o : Out) : Prop := ∃ t, o = .next t ∧ t.pending = s.pending

@[simp] theorem keeps_next (s t : State) : KeepsPending s (.next t) ↔ t.pending = s.pending := by
  simp [KeepsPending]

@[simp] theorem keeps_ite (s : State) (c : Prop) [Decidable c] (a b : Out) :
    KeepsPending s (if c then a else b) ↔ if c then KeepsPending s a else KeepsPending s b := by
  split <;> rfl

theorem keeps_of_ite {s : State} {c : Prop} [Decidable c] {a b : Out} (ha : KeepsPending s a) (hb : KeepsPending s b) :
    KeepsPending s (if c then a else b) := by
  split <;> assumption

@[simp] theorem keeps_live (s : State) (o : Out) : KeepsPending s (s.live o) ↔ (s.clocked = true → KeepsPending s o) := by
  unfold State.live
  split <;> simp [*]

theorem keeps_of_live {s : State} {o : Out} (h : KeepsPending s o) : KeepsPending s (s.live o) := (keeps_live s o).2 fun _ => h

/-! ## The operations and the meanings of the commands -/

/-! ### Ops -/

@[simp] theorem sayVal_pending (s : State) (v : Nat) : (s.sayVal v).pending = s.pending := rfl

@[simp] theorem planeRefuse_pending (s : State) : (s.planeRefuse).pending = s.pending := rfl

/-- The hypothesis names the value of `f`, so that the kernel never projects a function applied to a state. -/
@[simp] theorem asAgent_pending (s : State) (a : Agent) (csr : Nat) (f : State → State)
    (hf : ∀ t u, f t = u → u.pending = t.pending) : (s.asAgent a csr f).pending = s.pending := by
  have hf' : ∀ t, (f t).pending = t.pending := fun t => hf t _ rfl
  cases a <;> simp [State.asAgent, hf']

@[simp] theorem dropStage_pending (s : State) (b : Nat) : (s.dropStage b).pending = s.pending := rfl

@[simp] theorem asWhole_pending (s : State) (a : Agent) (b : Nat) (f : State → State)
    (hf : ∀ t u, f t = u → u.pending = t.pending) : (s.asWhole a b f).pending = s.pending :=
  asAgent_pending s a b _ fun t u h => by rw [hf _ u h, dropStage_pending]

@[simp] theorem write_pending (s : State) (a : Nat) (bs : List Byte) : (s.write a bs).pending = s.pending := rfl

@[simp] theorem writeP_pending (s : State) (a : Nat) (bs : List Byte) (bad : Bool) :
    (s.writeP a bs bad).pending = s.pending := by simp [State.writeP]

@[simp] theorem poke_pending (s : State) (a n v : Nat) : (s.poke a n v).pending = s.pending := rfl

@[simp] theorem copyMem_pending (s : State) (src dst n : Nat) : (s.copyMem src dst n).pending = s.pending := rfl

@[simp] theorem clearMem_pending (s : State) (a n : Nat) : (s.clearMem a n).pending = s.pending := rfl

@[simp] theorem correct_pending (s : State) (a n : Nat) : (s.correct a n).pending = s.pending := by simp [State.correct]

@[simp] theorem countPoison_pending (s : State) (a n : Nat) :
    (s.countPoison a n).pending = s.pending := by simp [State.countPoison]

@[simp] theorem touch_pending (s : State) (a n : Nat) : (s.touch a n).pending = s.pending := by simp [State.touch]

@[simp] theorem setCpu_pending (s : State) (c : CoreId) (u : Cpu) : (s.setCpu c u).pending = s.pending := by
  unfold State.setCpu
  split <;> simp

@[simp] theorem drawn_pending (s : State) (n : Nat) : (s.drawn n).pending = s.pending := rfl

/-! ### Queues -/

@[simp] theorem enqueue_pending (s : State) (q : Nat) (d : List GReg) :
    (s.enqueue q d).pending = s.pending := by simp [State.enqueue]

@[simp] theorem refill_pending (s : State) (q : Nat) : (s.refill q).pending = s.pending :=
  foldl_pending _ (fun t _ => by split <;> simp) _ s

@[simp] theorem dequeued_pending (s : State) (q : Nat) : (s.dequeued q).pending = s.pending := by simp [State.dequeued]

@[simp] theorem serveOne_pending (s : State) (q : Nat) : (s.serveOne q).pending = s.pending := by
  unfold State.serveOne
  dsimp only
  (repeat' split) <;> simp

@[simp] theorem serve_pending (s : State) (q : Nat) : (s.serve q).pending = s.pending := by simp [State.serve]

@[simp] theorem hwEnqueue_pending (s : State) (q : Nat) (d : List GReg) :
    (s.hwEnqueue q d).pending = s.pending := by simp [State.hwEnqueue]

@[simp] theorem flush_pending (s : State) (q : Nat) : (s.flush q).pending = s.pending := by simp [State.flush]

@[simp] theorem refuseStalled_pending (s : State) (k : Nat) (st : Status) : (s.refuseStalled k st).pending = s.pending := rfl

@[simp] theorem qDisable_pending (s : State) (q : Nat) : (s.qDisable q).pending = s.pending := by
  rw [State.qDisable, foldl_pending _ (fun t k => by simp), setQueue_pending]

@[simp] theorem qcfgWrite_pending (s : State) (q v : Nat) : (s.qcfgWrite q v).pending = s.pending := by
  unfold State.qcfgWrite
  dsimp only
  refine ite_pending (by simp) (ite_pending (by simp) (ite_pending (ite_pending (by simp) (ite_pending (by simp) (by simp))) ?_))
  refine ite_pending (ite_pending (by simp) (ite_pending (by simp) ?_)) (by simp)
  rw [say_pending, foldl_pending _ (fun t d => by simp), setQueue_pending, setReg_pending]

@[simp] theorem lockGrant_pending (s : State) (n : Nat) : (s.lockGrant n).pending = s.pending := by
  unfold State.lockGrant
  dsimp only
  (repeat' split) <;> simp

@[simp] theorem breakCell_pending (s : State) (k n : Nat) : (s.breakCell k n).pending = s.pending := by simp [State.breakCell]

@[simp] theorem breakLocks_pending (s : State) (k : Nat) : (s.breakLocks k).pending = s.pending := by simp [State.breakLocks]

@[simp] theorem leaveLines_pending (s : State) (k : Nat) : (s.leaveLines k).pending = s.pending := by
  unfold State.leaveLines
  split <;> simp

/-! ### TimeBase -/

@[simp] theorem setTxq_pending (s : State) (q : Nat) (Q : TxQueue) : (s.setTxq q Q).pending = s.pending := rfl

@[simp] theorem putTx_pending (s : State) (q fid chip : Nat) : (s.putTx q fid chip).pending = s.pending := by simp [State.putTx]

/-! ### Evr -/

@[simp] theorem putRec_pending (s : State) (slot : Nat) (d : List Byte) : (s.putRec slot d).pending = s.pending := rfl

@[simp] theorem flushOpen_pending (s : State) (o : OpenRec) : (s.flushOpen o).pending = s.pending := by simp [State.flushOpen]

@[simp] theorem setOpen_pending (s : State) (os : List OpenRec) : (s.setOpen os).pending = s.pending := rfl

@[simp] theorem event_pending (s : State) (e : Event) : (s.event e).pending = s.pending := by
  unfold State.event
  dsimp only
  (repeat' split) <;> simp

@[simp] theorem refused5_pending (s : State) (st : Status) (src inst len port eui : Nat) :
    (s.refused5 st src inst len port eui).pending = s.pending := by simp [State.refused5]

@[simp] theorem poisonEvent_pending (s : State) (src inst granules : Nat) (st : Status) (addr : Nat) :
    (s.poisonEvent src inst granules st addr).pending = s.pending := by simp [State.poisonEvent]

/-! ### DunebTx -/

@[simp] theorem send_pending (s : State) (port : Nat) (bs : List Byte) : (s.send port bs).pending = s.pending := rfl

@[simp] theorem setDl_pending (s : State) (k : Nat) (d : DlSt) : (s.setDl k d).pending = s.pending := rfl

@[simp] theorem dlCell_pending (s : State) (k tseq : Nat) (c : DlCell) :
    (s.dlCell k tseq c).pending = s.pending := by simp [State.dlCell]

@[simp] theorem dlPump1_pending (s : State) (k : Nat) : (s.dlPump1 k).pending = s.pending := by
  unfold State.dlPump1
  dsimp only
  (repeat' split) <;> simp

@[simp] theorem dlPump_pending (s : State) (k : Nat) : (s.dlPump k).pending = s.pending := by simp [State.dlPump]

@[simp] theorem dlIdle_pending (s : State) (k : Nat) : (s.dlIdle k).pending = s.pending := by simp [State.dlIdle]

@[simp] theorem dlAnswer_pending (s : State) (k : Nat) : (s.dlAnswer k).pending = s.pending := by simp [State.dlAnswer]

@[simp] theorem dlMsg_pending (s : State) (k cls : Nat) (det : Bool) (dst typ : Nat) (payload : List Byte) (poison : List Nat) :
    (s.dlMsg k cls det dst typ payload poison).pending = s.pending := by simp [State.dlMsg]

@[simp] theorem chipSend_pending (s : State) (dst cls typ : Nat) (payload : List Byte) (poison : List Nat) :
    (s.chipSend dst cls typ payload poison).pending = s.pending := by
  unfold State.chipSend
  split <;> simp

/-! ### EnOps -/

@[simp] theorem deliverTo_pending (s : State) (d : Deliv) : (s.deliverTo d).pending = s.pending := by simp [State.deliverTo]

@[simp] theorem enSend_pending (s : State) (k mac : Nat) (pkt : List Byte) :
    (s.enSend k mac pkt).pending = s.pending := by simp [State.enSend]

@[simp] theorem pfxForward_pending (s : State) (k : Nat) (via : Option Nat) (pkt : List Byte) :
    (s.pfxForward k via pkt).pending = s.pending := by
  unfold State.pfxForward
  split <;> simp

@[simp] theorem udpOut_pending (s : State) (via : Option Nat) (dst sport dport : Nat) (d : List Byte) :
    (s.udpOut via dst sport dport d).pending = s.pending := by simp [State.udpOut]

/-! ### Journal -/

@[simp] theorem shadowP_pending (s : State) (typ : Nat) (body : List Byte) (poison : List Nat) (h : Held) :
    (s.shadowP typ body poison h).pending = s.pending := by simp [State.shadowP]

@[simp] theorem shadow_pending (s : State) (typ : Nat) (body : List Byte) (h : Held) :
    (s.shadow typ body h).pending = s.pending := by simp [State.shadow]

@[simp] theorem pushData_pending (s : State) (r : Rec) : (s.pushData r).pending = s.pending := by simp [State.pushData]

@[simp] theorem pushMgmt_pending (s : State) (r : Rec) : (s.pushMgmt r).pending = s.pending := by simp [State.pushMgmt]

@[simp] theorem ringPut_pending (s : State) (e : JEnt) (isn : Nat) :
    (s.ringPut e isn).pending = s.pending := by simp [State.ringPut]

@[simp] theorem ringPuts_pending (s : State) (es : List JEnt) : (s.ringPuts es).pending = s.pending := by
  induction es generalizing s with
  | nil => rfl
  | cons e es ih => simp [State.ringPuts, ih]

@[simp] theorem detBreak_pending (s : State) : (s.detBreak).pending = s.pending := by simp [State.detBreak]

theorem journalRaw_pending {s t : State} {es : List JEnt} {hold : Nat → Held} (h : s.journalRaw es hold = .ok t) :
    t.pending = s.pending := by
  unfold State.journalRaw at h
  extract_lets +onlyGivenNames n need isn s1 at h
  split_ifs at h
  injection h with h
  rw [← h, foldl_fst_pending _ (fun p e => by simp), ringPuts_pending]

@[simp] theorem journalRefused_pending (s : State) (st : Status) :
    (s.journalRefused st).pending = s.pending := by simp [State.journalRefused]

theorem journal_pending {s t : State} {es : List JEnt} {hold : Nat → Held} (h : s.journal es hold = .ok t) :
    t.pending = s.pending := by
  unfold State.journal at h
  split_ifs at h
  exact journalRaw_pending h

/-! ### Calendar -/

@[simp] theorem setProg_pending (s : State) (i : Nat) (p : Prog) : (s.setProg i p).pending = s.pending := rfl

/-! ### Balance -/

@[simp] theorem correlate_pending (s : State) (epi k : Nat) (rd : List (Nat × Int)) (r : Option RingSlot) :
    (s.correlate epi k rd r).pending = s.pending := by simp [State.correlate]

@[simp] theorem tamperEvidence_pending (s : State) (epi k : Nat) (rd : List (Nat × Int)) (r : Option RingSlot) :
    (s.tamperEvidence epi k rd r).pending = s.pending := by simp [State.tamperEvidence]

@[simp] theorem balanceRead_pending (s : State) (epi k : Nat) (recs : List Rec) (ok : Bool) :
    (s.balanceRead epi k recs ok).pending = s.pending := by simp [State.balanceRead]

@[simp] theorem scoreCell_pending (s : State) (k c : Nat) (u : Int) : (s.scoreCell k c u).pending = s.pending := rfl

@[simp] theorem suspect_pending (s : State) (k c : Nat) (fin : Bool) (u : Int) :
    (s.suspect k c fin u).pending = s.pending := by simp [State.suspect]

@[simp] theorem balanceCell_pending (s : State) (k c : Nat) (x : FpSum) (fin : Bool) :
    (s.balanceCell k c x fin).pending = s.pending := by simp [State.balanceCell]

@[simp] theorem balanceAll_pending (s : State) (k : Nat) (l : Store FpSum) (fin : Bool) :
    (s.balanceAll k l fin).pending = s.pending := by simp [State.balanceAll]

@[simp] theorem balanceWaiting_pending (s : State) : (s.balanceWaiting).pending = s.pending := by
  unfold State.balanceWaiting
  split <;> simp

@[simp] theorem balanceRound_pending (s : State) (k : Nat) :
    (s.balanceRound k).pending = s.pending := by simp [State.balanceRound]

@[simp] theorem metroApply_pending (s : State) (body : List Byte) (isn : Nat) : (s.metroApply body isn).pending = s.pending := by
  unfold State.metroApply
  extract_lets +onlyGivenNames k s1
  have h1 : s1.pending = s.pending := foldl_pending _ (fun t f => by split <;> simp) _ s
  clear_value s1
  dsimp only
  split
  · exact h1
  · split
    · split <;> simp [h1]
    · simp [h1]

@[simp] theorem lossAtMarker_pending (s : State) : (s.lossAtMarker).pending = s.pending := by
  unfold State.lossAtMarker
  split <;> simp

@[simp] theorem topoPend_pending (s : State) (sel : Nat) : (s.topoPend sel).pending = s.pending := rfl

/-! ### Seam -/

@[simp] theorem eptCount_pending (s : State) (i : Nat) (up : Bool) : (s.eptCount i up).pending = s.pending := rfl

@[simp] theorem epiSet_pending (s : State) (epi : Nat) (slot : Option Nat) : (s.epiSet epi slot).pending = s.pending := rfl

@[simp] theorem eptWrite_pending (s : State) (b : List Byte) : (s.eptWrite b).2.pending = s.pending := by
  unfold State.eptWrite
  dsimp only
  (repeat' split) <;> simp

@[simp] theorem eptClear_pending (s : State) (i : Nat) : (s.eptClear i).pending = s.pending := by simp [State.eptClear]

@[simp] theorem helloAll_pending (s : State) : (s.helloAll).pending = s.pending := by simp [State.helloAll]

@[simp] theorem seamPut_pending (s : State) (b home new : Nat) (moving : Bool) :
    (s.seamPut b home new moving).pending = s.pending := rfl

@[simp] theorem seamChange_pending (s : State) (b home : Nat) :
    (s.seamChange b home).pending = s.pending := by simp [State.seamChange]

@[simp] theorem cutApply_pending (s : State) (b m : Nat) : (s.cutApply b m).pending = s.pending := rfl

@[simp] theorem moveAfterRound_pending (s : State) (k : Nat) :
    (s.moveAfterRound k).pending = s.pending := by simp [State.moveAfterRound]

/-! ### Dispatcher -/

@[simp] theorem postItem_pending (s : State) (i : Item) (rank : Nat) (slot : Bool) :
    (s.postItem i rank slot).pending = s.pending := rfl

@[simp] theorem unready_pending (s : State) (r : RItem) : (s.unready r).pending = s.pending := by simp [State.unready]

@[simp] theorem postAdjust_pending (s : State) (epi : Nat) : (s.postAdjust epi).pending = s.pending := by
  unfold State.postAdjust
  split <;> simp

@[simp] theorem postSwitch_pending (s : State) (epi k : Nat) : (s.postSwitch epi k).pending = s.pending := by
  unfold State.postSwitch
  split <;> simp

@[simp] theorem switchProgs_pending (s : State) (k : Nat) : (s.switchProgs k).pending = s.pending := by simp [State.switchProgs]

@[simp] theorem digestMismatch_pending (s : State) (k : Nat) :
    (s.digestMismatch k).pending = s.pending := by simp [State.digestMismatch]

@[simp] theorem digestCompare_pending (s : State) (k : Nat) : (s.digestCompare k).pending = s.pending := by
  unfold State.digestCompare
  split <;> simp

@[simp] theorem roundDone_pending (s : State) (k : Nat) : (s.roundDone k).pending = s.pending := by simp [State.roundDone]

@[simp] theorem pressEnded_pending (s : State) (it : Item) (rank : Nat) :
    (s.pressEnded it rank).pending = s.pending := by simp [State.pressEnded]

@[simp] theorem pressRun_pending (s : State) (it : Item) (rank : Nat) :
    (s.pressRun it rank).pending = s.pending := by simp [State.pressRun]

@[simp] theorem markerApply_pending (s : State) (k isn : Nat) : (s.markerApply k isn).pending = s.pending := by
  unfold State.markerApply
  dsimp only
  refine ite_pending ?_ ?_
  · rw [roundDone_pending, foldl_pending _ (fun t i => by simp)]
    simp
  · rw [foldl_pending _ (fun t i => by simp)]
    simp

@[simp] theorem lcFree_pending (s : State) (n : Nat) : (s.lcFree n).pending = s.pending := by simp [State.lcFree]

@[simp] theorem rebuildEnd_pending (s : State) (epi : Nat) : (s.rebuildEnd epi).pending = s.pending := by simp [State.rebuildEnd]

@[simp] theorem writeBack_pending (s : State) (n : Nat) (it : Item) :
    (s.writeBack n it).pending = s.pending := by simp [State.writeBack]

@[simp] theorem itemDone_pending (s : State) (n : Nat) (it : Item) :
    (s.itemDone n it).pending = s.pending := by simp [State.itemDone]

@[simp] theorem itemFail_pending (s : State) (n : Nat) (it : Item) (st : Status) (count : Nat) :
    (s.itemFail n it st count).pending = s.pending := by simp [State.itemFail]

@[simp] theorem dropItem_pending (s : State) (r : RItem) (seen : Bool) :
    (s.dropItem r seen).pending = s.pending := by simp [State.dropItem]

@[simp] theorem grantTo_pending (s : State) (n : Nat) (r : RItem) (p : Nat) :
    (s.grantTo n r p).pending = s.pending := by simp [State.grantTo]

@[simp] theorem grantItem_pending (s : State) (n : Nat) (r : RItem) : (s.grantItem n r).pending = s.pending := by
  unfold State.grantItem
  (repeat' split) <;> simp

@[simp] theorem dispatchGrant_pending (s : State) : (s.dispatchGrant).pending = s.pending := by
  unfold State.dispatchGrant
  (repeat' split) <;> simp

@[simp] theorem postReading_pending (s : State) (epi isn : Nat) (r : Reading) (c : RdClass) :
    (s.postReading epi isn r c).pending = s.pending := by
  unfold State.postReading
  (repeat' split) <;> simp

/-! ### Keys -/

@[simp] theorem setSlot_pending (s : State) (n : Nat) (k : KeySlot) : (s.setSlot n k).pending = s.pending := rfl

@[simp] theorem setCell_pending (s : State) (n : Nat) (b : List Byte) : (s.setCell n b).pending = s.pending := rfl

@[simp] theorem unwrapFail_pending (s : State) (f : Bool) : (s.unwrapFail f).pending = s.pending := by simp [State.unwrapFail]

@[simp] theorem countVerify_pending (s : State) (st : Status) :
    (s.countVerify st).pending = s.pending := by simp [State.countVerify]

/-! ### Kep -/

@[simp] theorem secPut_pending (s : State) (epi o n v : Nat) : (s.secPut epi o n v).pending = s.pending := rfl

@[simp] theorem setSflag_pending (s : State) (epi i : Nat) (b : Bool) : (s.setSflag epi i b).pending = s.pending := rfl

@[simp] theorem setSlotTx_pending (s : State) (n v : Nat) : (s.setSlotTx n v).pending = s.pending := rfl

@[simp] theorem setSlotCeil_pending (s : State) (n v : Nat) : (s.setSlotCeil n v).pending = s.pending := rfl

@[simp] theorem setKeyTx_pending (s : State) (slot : Bool) (n v : Nat) :
    (s.setKeyTx slot n v).pending = s.pending := by simp [State.setKeyTx]

@[simp] theorem setKeyCeil_pending (s : State) (slot : Bool) (n v : Nat) :
    (s.setKeyCeil slot n v).pending = s.pending := by simp [State.setKeyCeil]

@[simp] theorem txFollow_pending (s : State) (epi : Nat) : (s.txFollow epi).pending = s.pending := by simp [State.txFollow]

@[simp] theorem raiseDone_pending (s : State) (slot : Bool) (n ceil : Nat) :
    (s.raiseDone slot n ceil).pending = s.pending := by simp [State.raiseDone]

@[simp] theorem raise_pending (s : State) (slot : Bool) (n : Nat) : (s.raise slot n).pending = s.pending := by simp [State.raise]

@[simp] theorem envelopeOut_pending (s : State) (peer dir : Nat) (p : RxPath) (frame : List Byte) :
    (s.envelopeOut peer dir p frame).pending = s.pending := by simp [State.envelopeOut]

@[simp] theorem envelopePut_pending (s : State) (peer dir : Nat) (p : RxPath) (frame : List Byte) :
    (s.envelopePut peer dir p frame).pending = s.pending := by simp [State.envelopePut]

@[simp] theorem envPump_pending (s : State) (slot : Nat) : (s.envPump slot).pending = s.pending := by simp [State.envPump]

@[simp] theorem egress_pending (s : State) (p : RxPath) (frame : List Byte) (kind : Nat) (ackBy : Option Nat) :
    (s.egress p frame kind ackBy).pending = s.pending := by
  unfold State.egress
  split <;> simp

@[simp] theorem aeCount_pending (s : State) (e : Nat) (soft : Bool) : (s.aeCount e soft).pending = s.pending := rfl

theorem downSend_pending {s t : State} {slot : Bool} {n mt id : Nat} {body : List Byte} {p : RxPath} {kind : Nat} {ackBy : Option Nat}
    (h : s.downSend slot n mt id body p kind ackBy = .sent t) : t.pending = s.pending := by
  simp only [State.downSend] at h
  split at h
  · split at h <;> cases h
  split at h
  · cases h
  split at h
  · split at h
    · cases h
    · split at h
      · cases h
      · injection h with h
        rw [← h, egress_pending, aeCount_pending, setKeyTx_pending]
  · split at h
    · cases h
    · split at h
      · injection h with h
        rw [← h, egress_pending, aeCount_pending, setKeyTx_pending]
      · cases h

@[simp] theorem downRefused_pending (s : State) (slot : Bool) (n : Nat) (st : Status) :
    (s.downRefused slot n st).pending = s.pending := by simp [State.downRefused]

@[simp] theorem answerAck_pending (s : State) (epi aic result retry nacc : Nat) (dup : Bool) (p : RxPath) (isn : Option Nat) :
    (s.answerAck epi aic result retry nacc dup p isn).pending = s.pending := by simp [State.answerAck]

@[simp] theorem postReadings_pending (s : State) (epi isn : Nat) (rs : List (Reading × RdClass)) :
    (s.postReadings epi isn rs).pending = s.pending :=
  foldl_fst_pending _ (fun p r => by simp) _ _

@[simp] theorem icAdvance_pending (s : State) (epi ic : Nat) :
    (s.icAdvance epi ic).pending = s.pending := by simp [State.icAdvance]

@[simp] theorem keygenApply_pending (s : State) (epi : Nat) (body : List Byte) (writeResv : Bool) :
    (s.keygenApply epi body writeResv).pending = s.pending := by simp [State.keygenApply]

/-! ### Ingest -/

@[simp] theorem kepCount_pending (s : State) (st : Status) : (s.kepCount st).pending = s.pending := by
  unfold State.kepCount
  split <;> simp

@[simp] theorem kepFail_pending (s : State) (st : Status) (len : Nat) (p : RxPath) (eui : Nat) :
    (s.kepFail st len p eui).pending = s.pending := by simp [State.kepFail]

/-- What ingest leaves, where it does not wait, has the commands waiting that `s` has. -/
def Ing.KeepsPending (s : State) : Ing → Prop
  | .ok t _ => t.pending = s.pending
  | .mode t => t.pending = s.pending
  | .noprog t => t.pending = s.pending
  | .busy t _ => t.pending = s.pending
  | .wait => True

theorem ingest_keeps (s : State) (epi ic mseq : Nat) (rs : List Reading) : (s.ingest epi ic mseq rs).KeepsPending s := by
  unfold State.ingest
  split
  · rfl
  split
  · rfl
  split
  · rfl
  dsimp only
  split
  · exact bump_pending ..
  split
  · exact bump_pending ..
  split
  next h => simp [Ing.KeepsPending, journal_pending h]
  · exact journalRefused_pending ..
  · trivial

@[simp] theorem fwStatus_pending (s : State) (epi : Nat) (b : List Byte) : (s.fwStatus epi b).pending = s.pending := by
  unfold State.fwStatus
  split <;> simp

@[simp] theorem kepFrom7_pending (s : State) (epi : Nat) (h : KepFrame) (body : List Byte) (p : RxPath) :
    (s.kepFrom7 epi h body p).pending = s.pending := by
  unfold State.kepFrom7
  dsimp only
  refine ite_pending (by simp) (ite_pending (ite_pending (by simp) (by simp)) ?_)
  split
  · exact ite_pending (by simp) (by simp)
  next mseq rs _ =>
  refine ite_pending (by simp) ?_
  have hi := ingest_keeps s epi h.ic mseq rs
  split
  case h_5 => rfl
  all_goals
    next hk =>
    rw [hk] at hi
    rw [answerAck_pending]
    exact hi

theorem keygenCommit_pending {s t : State} {epi : Nat} {h : KepFrame} (hs : s.keygenCommit epi h = .ok t) :
    t.pending = s.pending := by
  simp only [State.keygenCommit] at hs
  split at hs
  next h =>
    injection hs with hs
    rw [← hs, keygenApply_pending, journal_pending h]
  next hr => exact absurd hs (hr t)

@[simp] theorem kepLocal_pending (s : State) (epi : Nat) (h : KepFrame) (p : RxPath) :
    (s.kepLocal epi h p).pending = s.pending := by
  unfold State.kepLocal
  dsimp only
  refine ite_pending (by simp) ?_
  split
  · refine ite_pending (by simp) (ite_pending (by simp) (ite_pending (by simp) ?_))
    split
    next hk => simp [keygenCommit_pending hk]
    · exact ite_pending (by simp) (by simp)
    · rfl
  · rw [kepFail_pending]
    exact ite_pending (by simp) (by simp)

@[simp] theorem kepRelay_pending (s : State) (peer : Nat) (frame : List Byte) (p : RxPath) :
    (s.kepRelay peer frame p).pending = s.pending := by simp [State.kepRelay]

@[simp] theorem kepFrom2_pending (s : State) (h : KepFrame) (p : RxPath) : (s.kepFrom2 h p).pending = s.pending := by
  unfold State.kepFrom2
  dsimp only
  (repeat' split) <;> simp

@[simp] theorem setAcks_pending (s : State) (l : List AckJob) : (s.setAcks l).pending = s.pending := by simp [State.setAcks]

@[simp] theorem execKepAckSend_keeps (n : Nat) (s : State) : KeepsPending s (execKepAckSend n s) := by
  rw [execKepAckSend]
  refine keeps_of_live ?_
  split
  · simp
  refine keeps_of_ite (by simp) (keeps_of_ite (by simp) ?_)
  split
  next h => simp [downSend_pending h]
  · rw [keeps_next]
    exact ite_pending (by simp) rfl
  · simp

@[simp] theorem downTry_pending (s : State) (j : DownJob) : (s.downTry j).1.pending = s.pending := by
  unfold State.downTry
  split
  · rfl
  split
  · split
    next h => exact downSend_pending h
    · simp
    · dsimp only
      split <;> simp
  · simp

@[simp] theorem downRun_pending (slot : Bool) (key : Nat) (js : List DownJob) (s : State) (stuck : Bool) (kept : List DownJob) :
    (State.downRun slot key js s stuck kept).1.pending = s.pending := by
  induction js generalizing s stuck kept with
  | nil => rfl
  | cons j js ih =>
    rw [State.downRun]
    split
    · exact ih ..
    · have ht := downTry_pending s j
      split
      all_goals
        next he =>
        rw [he] at ht
        exact (ih ..).trans ht

@[simp] theorem downPump_pending (s : State) (slot : Bool) (key : Nat) :
    (s.downPump slot key).pending = s.pending := by simp [State.downPump]

@[simp] theorem pendKey_pending (s : State) (epi : Nat) : (s.pendKey epi).pending = s.pending := by simp [State.pendKey]

@[simp] theorem execKeyUpdateSend_keeps (epi : Nat) (p : RxPath) (s : State) : KeepsPending s (execKeyUpdateSend epi p s) := by
  unfold execKeyUpdateSend
  (repeat' split) <;> simp

theorem dlmsFrom7_pending {s t : State} {epi ic len : Nat} {b : List Byte} {caps : List DlmsCapture} {p : RxPath}
    (h : s.dlmsFrom7 epi ic len b caps p = some t) : t.pending = s.pending := by
  unfold State.dlmsFrom7 at h
  dsimp only at h
  split at h
  · injection h with h
    simp [← h]
  split at h
  · injection h with h
    simp [← h]
  split at h
  · injection h with h
    simp [← h]
  split at h
  · injection h with h
    simp [← h]
  split at h
  · injection h with h
    simp [← h]
  generalize hs2 : State.bump _ fDLMBADTIME_COUNT _ = s2 at h
  have h2 : s2.pending = s.pending := by rw [← hs2, bump_pending, setKep_pending]
  split at h
  case h_5 => cases h
  all_goals
    next hk =>
    have hi := hk ▸ ingest_keeps s2 epi ic ic _
    injection h with h
    rw [← h, hi, h2]

@[simp] theorem execDlmsApdu_keeps (epi : Nat) (apdu : List Byte) (caps : List DlmsCapture) (p : RxPath) (s : State) :
    KeepsPending s (execDlmsApdu epi apdu caps p s) := by
  rw [execDlmsApdu]
  refine keeps_of_live (keeps_of_ite (by simp) ?_)
  dsimp only
  split
  · simp
  refine keeps_of_ite (by simp) ?_
  split
  · simp
  refine keeps_of_ite (by simp) ?_
  split
  · refine keeps_of_ite (by simp) (keeps_of_ite (by simp) ?_)
    rw [keeps_next]
    cases hd : State.dlmsFrom7 _ epi _ _ _ caps p with
    | none => rfl
    | some t => simpa using dlmsFrom7_pending hd
  · rw [keeps_next, kepFail_pending]
    exact ite_pending (by simp) (by simp)

@[simp] theorem execRelayEnvelopeReceive_keeps (b : List Byte) (s : State) : KeepsPending s (execRelayEnvelopeReceive b s) := by
  rw [execRelayEnvelopeReceive]
  refine keeps_of_live (keeps_of_ite (by simp) ?_)
  extract_lets +onlyGivenNames eui bad n dir
  have hbad : ∀ st, KeepsPending s (bad st) := fun st => (keeps_next ..).2 (ite_pending (refused5_pending ..) rfl)
  clear_value bad
  split
  · exact hbad _
  refine keeps_of_ite (hbad _) ?_
  split
  · exact hbad _
  extract_lets +onlyGivenNames k eic
  split
  · exact hbad _
  extract_lets +onlyGivenNames iv tag s1 kep s2
  have h2 : s2.pending = s.pending := by rw [setKep_pending, fset_pending, aeCount_pending]
  clear_value s2
  refine keeps_of_ite (hbad _) (keeps_of_ite (hbad _) (keeps_of_ite ?_ ?_))
  · rw [keeps_next, foldl_pending _ (fun t r => by simp), h2]
  · rw [keeps_next, setKep_pending, h2]

/-! ### AesJobs -/

@[simp] theorem aesJob_pending (s : State) (j : AesJob) (e : Nat) : (s.aesJob j e).2.1.pending = s.pending := by
  unfold State.aesJob
  dsimp only
  (repeat' split) <;> simp

@[simp] theorem aesRow_pending (s : State) (rowMode : Nat → Bool) (e : Nat) (waits : Bool) :
    (s.aesRow rowMode e waits).pending = s.pending := by
  unfold State.aesRow
  split <;> simp

@[simp] theorem fwcampWrite_pending (s : State) (n v : Nat) :
    (s.fwcampWrite n v).pending = s.pending := by simp [State.fwcampWrite]

@[simp] theorem setSp_pending (s : State) (k : Nat) (x : SpSlot) : (s.setSp k x).pending = s.pending := rfl

@[simp] theorem spArm_pending (s : State) (k n group : Nat) : (s.spArm k n group).pending = s.pending := by
  unfold State.spArm
  dsimp only
  (repeat' split) <;> simp

@[simp] theorem spCancel_pending (s : State) (k : Nat) : (s.spCancel k).pending = s.pending := rfl

@[simp] theorem sparmWrite_pending (s : State) (k v : Nat) : (s.sparmWrite k v).pending = s.pending := by simp [State.sparmWrite]

@[simp] theorem spResume_pending (s : State) (key k : Nat) : (s.spResume key k).pending = s.pending := by
  unfold State.spResume
  split <;> simp

@[simp] theorem keyPump_pending (s : State) (slot : Bool) (key : Nat) :
    (s.keyPump slot key).pending = s.pending := by simp [State.keyPump]

/-! ### Eth -/

@[simp] theorem pfxEnd_pending (s : State) (st : Status) : (s.pfxEnd st).pending = s.pending := rfl

@[simp] theorem pfxCmd_pending (s : State) (op : Nat) : (s.pfxCmd op).pending = s.pending := by simp [State.pfxCmd]

@[simp] theorem eptEnd_pending (s : State) (st : Status) : (s.eptEnd st).pending = s.pending := rfl

@[simp] theorem eptCmd_pending (s : State) (op : Nat) : (s.eptCmd op).pending = s.pending := by
  unfold State.eptCmd
  dsimp only
  (repeat' split) <;> simp

@[simp] theorem enForward_pending (s : State) (k : Nat) (pkt : List Byte) :
    (s.enForward k pkt).pending = s.pending := by simp [State.enForward]

@[simp] theorem enHand_pending (s : State) (k : Nat) (pkt : List Byte) (joined : Bool) :
    (s.enHand k pkt joined).pending = s.pending := by
  unfold State.enHand
  dsimp only
  refine ite_pending (by simp) (ite_pending (by simp) (ite_pending ?_ (by simp)))
  refine ite_pending (by simp) (ite_pending (by simp) (ite_pending (by simp) ?_))
  split <;> simp

@[simp] theorem enDeliver_pending (s : State) (k : Nat) (pkt : List Byte) (joined : Bool) :
    (s.enDeliver k pkt joined).pending = s.pending := by simp [State.enDeliver]

@[simp] theorem execEthFrameReceive_keeps (k : Fin 2) (f : List Byte) (joined : Bool) (s : State) :
    KeepsPending s (execEthFrameReceive k f joined s) := by
  unfold execEthFrameReceive
  (repeat' split) <;> simp

@[simp] theorem sesMove_pending (s : State) : (s.sesMove).pending = s.pending := by simp [State.sesMove]

/-! ### Nbt -/

@[simp] theorem nbPut_pending (s : State) (i o n v : Nat) : (s.nbPut i o n v).pending = s.pending := rfl

@[simp] theorem nbFree_pending (s : State) (i : Nat) : (s.nbFree i).pending = s.pending := by simp [State.nbFree]

@[simp] theorem nbSeen_pending (s : State) (eui medium : Nat) (indirect : Bool) :
    (s.nbSeen eui medium indirect).pending = s.pending := by
  unfold State.nbSeen
  split
  · split <;> simp
  · split
    · simp
    · simp -implicitDefEqProofs

@[simp] theorem nbtEnd_pending (s : State) (st : Status) : (s.nbtEnd st).pending = s.pending := rfl

@[simp] theorem nbtCmd_pending (s : State) (v : Nat) : (s.nbtCmd v).pending = s.pending := by simp [State.nbtCmd]

@[simp] theorem execNeighbourAgeSweep_keeps (s : State) : KeepsPending s (execNeighbourAgeSweep s) := by
  rw [execNeighbourAgeSweep]
  refine keeps_of_live ?_
  rw [keeps_next]
  apply foldl_pending
  intro t i
  split
  · rw [bump_pending, nbFree_pending]
  · rfl

/-! ### PlOps -/

@[simp] theorem setPlPort_pending (s : State) (p : Nat) (v : PlPort) : (s.setPlPort p v).pending = s.pending := rfl

@[simp] theorem setPlTri_pending (s : State) (t : Nat) (v : PlTriple) : (s.setPlTri t v).pending = s.pending := rfl

@[simp] theorem plModeWritten_pending (s : State) (old : Nat → Nat) :
    (s.plModeWritten old).pending = s.pending := by simp [State.plModeWritten]

@[simp] theorem lmUpdate_pending (s : State) (i : Nat) : (s.lmUpdate i).pending = s.pending := rfl

@[simp] theorem nbAttempt_pending (s : State) (i : Option Nat) (ok : Bool) : (s.nbAttempt i ok).pending = s.pending := by
  unfold State.nbAttempt
  split <;> simp

@[simp] theorem dropTxMap_pending (s : State) (i : Nat) : (s.dropTxMap i).pending = s.pending := by simp [State.dropTxMap]

@[simp] theorem plPath_pending (s : State) (i : Nat) : (s.plPath i).1.pending = s.pending := by
  unfold State.plPath
  dsimp only
  (repeat' split) <;> simp

@[simp] theorem plLearn_pending (s : State) (i rep pcost : Nat) : (s.plLearn i rep pcost).pending = s.pending := by
  unfold State.plLearn
  dsimp only
  (repeat' split) <;> simp

@[simp] theorem plDropUnwired_pending (s : State) : (s.plDropUnwired).pending = s.pending := by simp [State.plDropUnwired]

@[simp] theorem plPut_pending (s : State) (p : Nat) (f : PlFrame) : (s.plPut p f).pending = s.pending := by simp [State.plPut]

@[simp] theorem plEnqueue_pending (s : State) (p : Nat) (f : PlFrame) :
    (s.plEnqueue p f).pending = s.pending := by simp [State.plEnqueue]

@[simp] theorem plSend_pending (s : State) (p dst pri mtype : Nat) (body : List Byte) (notBefore : Nat) (fid : Option Nat)
    (ack : Bool) (ackBy : Option Nat) :
    (s.plSend p dst pri mtype body notBefore fid ack ackBy).pending = s.pending := by
  unfold State.plSend
  dsimp only
  (repeat' split) <;> simp

@[simp] theorem plRelease_pending (s : State) (p : Nat) : (s.plRelease p).pending = s.pending := rfl

@[simp] theorem plSetHead_pending (s : State) (p : Nat) (f : PlFrame) : (s.plSetHead p f).pending = s.pending := rfl

@[simp] theorem plPop_pending (s : State) (p : Nat) : (s.plPop p).pending = s.pending := rfl

@[simp] theorem plSetE_pending (s : State) (p e : Nat) : (s.plSetE p e).pending = s.pending := rfl

@[simp] theorem plFail_pending (s : State) (p : Nat) : (s.plFail p).pending = s.pending := by
  unfold State.plFail
  split <;> simp

@[simp] theorem plSucceed_pending (s : State) (p : Nat) : (s.plSucceed p).pending = s.pending := by
  unfold State.plSucceed
  split <;> simp

@[simp] theorem plGrantEnd_pending (s : State) (p : Nat) : (s.plGrantEnd p).pending = s.pending := by simp [State.plGrantEnd]

@[simp] theorem plCut_pending (s : State) (p : Nat) : (s.plCut p).pending = s.pending := by
  unfold State.plCut
  split <;> simp

@[simp] theorem plCutAll_pending (s : State) : (s.plCutAll).pending = s.pending := by simp [State.plCutAll]

@[simp] theorem plYield_pending (s : State) (t : Nat) : (s.plYield t).pending = s.pending := by
  rw [State.plYield, plDropUnwired_pending, foldl_pending _ (fun u p => by simp)]

@[simp] theorem plOweEnd_pending (s : State) (t : Nat) : (s.plOweEnd t).pending = s.pending := by
  rw [State.plOweEnd, foldl_pending _ (fun u p => by simp), setPlTri_pending]

@[simp] theorem plAckLost_pending (s : State) (t : Nat) (o : PlOwe) :
    (s.plAckLost t o).pending = s.pending := by simp [State.plAckLost]

/-! ### Powerline -/

@[simp] theorem marginByte_pending (s : State) (m : Option Int) : (s.marginByte m).1.pending = s.pending := by
  unfold State.marginByte
  split <;> simp

@[simp] theorem plTmresp_pending (s : State) (t i src : Nat) (snr : Nat → Int) :
    (s.plTmresp t i src snr).pending = s.pending := by simp [State.plTmresp]

@[simp] theorem plTakeMap_pending (s : State) (i : Nat) (b : List Byte) :
    (s.plTakeMap i b).pending = s.pending := by simp [State.plTakeMap]

@[simp] theorem plAccept_pending (s : State) (t best : Nat) (d : List Byte) (tmReq : Bool) (m : ToneMap) (snr : Nat → Int)
    (phase fold mean : Nat) : (s.plAccept t best d tmReq m snr phase fold mean).pending = s.pending := by
  unfold State.plAccept
  extract_lets +onlyGivenNames self mesh mtype dst src orig forUs body s1 s2 asked s3
  have h2 : s2.pending = s.pending := by
    unfold s2 s1
    split <;> simp
  have h3 : s3.pending = s2.pending := by
    unfold s3
    split
    · rfl
    next i _ =>
      extract_lets +onlyGivenNames u u2 low n u3 u4
      have hu : u.pending = s2.pending := by simp [u]
      have hu2 : u2.pending = u.pending := by
        unfold u2
        split
        · split <;> simp
        · rfl
      have hu4 : u4.pending = u2.pending := by
        unfold u4 u3
        split <;> simp
      split
      · rw [plTakeMap_pending, hu4, hu2, hu]
      · rw [hu4, hu2, hu]
  clear_value s3
  split
  · rw [h3, h2]
  · rw [deliverTo_pending, h3, h2]

@[simp] theorem plOwe_pending (s : State) (t : Nat) (o : PlOwe) : (s.plOwe t o).pending = s.pending := by
  unfold State.plOwe
  split <;> simp

@[simp] theorem plPayload_pending (s : State) (t best : Nat) (paths : List PlPathRx) (fch psdu : List Byte) (snrOk : Bool)
    (stop : Nat) :
    
    (s.plPayload t best paths fch psdu snrOk stop).pending = s.pending := by
  unfold State.plPayload
  extract_lets +onlyGivenNames nsym rate owes f s2 owe
  have h2 : s2.pending = s.pending := by
    rw [drawn_pending, foldl_pending _ (fun u i => by simp)]
  have howe : ∀ u typ fcs mb reason, (owe u typ fcs mb reason).pending = u.pending := by
    intro u typ fcs mb reason
    unfold owe
    split <;> simp
  clear_value s2 owe
  split
  · simp [howe, h2]
  · dsimp only
    refine ite_pending ?_ (ite_pending ?_ ?_) <;> simp [howe, h2]

@[simp] theorem plHeld_pending (s : State) (t busy rx : Nat) : (s.plHeld t busy rx).pending = s.pending := by simp [State.plHeld]

@[simp] theorem plHearSpl_pending (s : State) (t : Nat) (paths : List PlPathRx) (fch psdu : List Byte) (snrOk : Bool)
    (energyTo : Nat) :
    
    (s.plHearSpl t paths fch psdu snrOk energyTo).pending = s.pending := by
  unfold State.plHearSpl
  split
  · rfl
  · dsimp only
    split_ifs <;> simp

@[simp] theorem plG3Ack_pending (s : State) (t : Nat) (ok : Bool) : (s.plG3Ack t ok).pending = s.pending := by
  unfold State.plG3Ack
  split <;> simp

@[simp] theorem plG3Give_pending (s : State) (t best : Nat) (f : PlFold) (octets : List Byte) :
    (s.plG3Give t best f octets).pending = s.pending := by simp [State.plG3Give]

@[simp] theorem plG3Segment_pending (s : State) (t best : Nat) (f : PlFold) (last : Bool) (octets : List Byte) :
    (s.plG3Segment t best f last octets).pending = s.pending := by simp [State.plG3Segment]

@[simp] theorem plHearG3_pending (s : State) (t : Nat) (paths : List PlPathRx) (parts : List G3Part) (kind : G3Kind) (fcs : Bool)
    (octets : List Byte) (stop : Nat) : (s.plHearG3 t paths parts kind fcs octets stop).pending = s.pending := by
  unfold State.plHearG3
  split
  · rfl
  · dsimp only
    split
    · simp
    · cases kind <;> simp

@[simp] theorem plEnergy_pending (s : State) (t energyTo : Nat) :
    (s.plEnergy t energyTo).pending = s.pending := by simp [State.plEnergy]

@[simp] theorem execPlFrameReceive_keeps (t : Fin 4) (h : PlHeard) (s : State) : KeepsPending s (execPlFrameReceive t h s) := by
  unfold execPlFrameReceive
  (repeat' split) <;> simp

@[simp] theorem execPlTxQueue_keeps (src : PlSource) (s : State) : KeepsPending s (execPlTxQueue src s) := by
  unfold execPlTxQueue
  (repeat' split) <;> simp

@[simp] theorem plGrant_pending (s : State) (n k : Nat) : (s.plGrant n k).pending = s.pending := by
  induction n generalizing k with
  | zero => rfl
  | succ n ih =>
    rw [State.plGrant]
    split
    · simp
    · exact ih _

@[simp] theorem execDriverRelease_keeps (p : Fin 12) (s : State) : KeepsPending s (execDriverRelease p s) := by
  unfold execDriverRelease
  dsimp only
  (repeat' split) <;> simp

@[simp] theorem execDriverMaxdeferExpiry_keeps (p : Fin 12) (s : State) : KeepsPending s (execDriverMaxdeferExpiry p s) := by
  unfold execDriverMaxdeferExpiry
  dsimp only
  (repeat' split) <;> simp

@[simp] theorem plStart_pending (s : State) (p : Nat) (f : PlFrame) : (s.plStart p f).pending = s.pending := by
  unfold State.plStart
  extract_lets +onlyGivenNames t i m psdu nsym raw fchEnd txEnd durUs due fcs fch P s1 T s2 pl s3 s4
  have h2 : s2.pending = s.pending := by
    unfold s2 s1
    rw [setPlTri_pending, setPlPort_pending, drawn_pending]
  clear_value due i
  have h3 : s3.pending = s2.pending := by
    unfold s3
    split
    · split <;> simp
    · rfl
  have h4 : s4.pending = s3.pending := by
    unfold s4
    split <;> simp
  clear_value s4
  split <;> simp [h4, h3, h2]

@[simp] theorem plPriSlot_pending (s : State) (p : Nat) (f : PlFrame) (t0 j : Nat) :
    (s.plPriSlot p f t0 j).pending = s.pending := by simp [State.plPriSlot]

@[simp] theorem plBackSlot_pending (s : State) (p : Nat) (f : PlFrame) (cw granted : Nat) :
    (s.plBackSlot p f cw granted).pending = s.pending := by
  simp only [State.plBackSlot]
  split <;> simp

@[simp] theorem execPlAccessSlot_keeps (p : Fin 12) (s : State) : KeepsPending s (execPlAccessSlot p s) := by
  refine keeps_of_live ?_
  rw [keeps_next]
  dsimp only
  split
  · split_ifs <;> simp
  · rfl

@[simp] theorem plAckGrant_pending (s : State) (t : Nat) : (s.plAckGrant t).pending = s.pending := by simp [State.plAckGrant]

@[simp] theorem plAckStart_pending (s : State) (t p : Nat) (o : PlOwe) :
    (s.plAckStart t p o).pending = s.pending := by simp [State.plAckStart]

@[simp] theorem execPlAckSend_keeps (t : Fin 4) (s : State) : KeepsPending s (execPlAckSend t s) := by
  unfold execPlAckSend
  dsimp only
  (repeat' split) <;> simp

@[simp] theorem execPlAckReceive_keeps (p : Fin 12) (fch : List Byte) (s : State) :
    KeepsPending s (execPlAckReceive p fch s) := by
  refine keeps_of_live ?_
  rw [keeps_next]
  dsimp only
  split
  · split
    · rfl
    · split
      · split
        · rfl
        · rw [setPlPort_pending, plSucceed_pending]
          split <;> simp
      · rw [setPlPort_pending, plFail_pending]
        split
        · split <;> simp
        · rfl
  · rfl

@[simp] theorem execPlAckTimeout_keeps (p : Fin 12) (s : State) : KeepsPending s (execPlAckTimeout p s) := by
  unfold execPlAckTimeout
  split <;> simp

@[simp] theorem plsmodeWrite_pending (s : State) (v : Nat) :
    (s.plsmodeWrite v).pending = s.pending := by simp [State.plsmodeWrite]

@[simp] theorem plstmaskWrite_pending (s : State) (v : Nat) :
    (s.plstmaskWrite v).pending = s.pending := by simp [State.plstmaskWrite]

@[simp] theorem plsldmapWrite_pending (s : State) (k v : Nat) :
    (s.plsldmapWrite k v).pending = s.pending := by simp [State.plsldmapWrite]

/-! ### RfOps -/

@[simp] theorem setRfPort_pending (s : State) (n : Nat) (v : RfPort) : (s.setRfPort n v).pending = s.pending := rfl

@[simp] theorem rfAbort_pending (s : State) (n : Nat) : (s.rfAbort n).pending = s.pending := rfl

@[simp] theorem rfEmit_pending (s : State) (n : Nat) (air : RfTx) (group kind mcs : Nat) (psdu : List Byte) (fid : Option Nat) :
    (s.rfEmit n air group kind mcs psdu fid).pending = s.pending := by
  unfold State.rfEmit
  split <;> simp

@[simp] theorem rfSeqNext_pending (s : State) (n : Nat) : (s.rfSeqNext n).pending = s.pending := rfl

@[simp] theorem rfGiveBack_pending (s : State) (n : Nat) (x : RfSend) : (s.rfGiveBack n x).pending = s.pending := by
  unfold State.rfGiveBack
  split <;> simp

@[simp] theorem rfBegins_pending (s : State) (n : Nat) (x : RfSend) :
    (s.rfBegins n x).pending = s.pending := by simp [State.rfBegins]

@[simp] theorem rfSettle_pending (s : State) (n : Nat) : (s.rfSettle n).pending = s.pending := by simp [State.rfSettle]

@[simp] theorem rfRecall_pending (s : State) (n : Nat) : (s.rfRecall n).pending = s.pending := by simp [State.rfRecall]

@[simp] theorem rfCutAll_pending (s : State) : (s.rfCutAll).pending = s.pending := by simp [State.rfCutAll]

@[simp] theorem lintPut_pending (s : State) (orig fseq : Nat) : (s.lintPut orig fseq).pending = s.pending := by
  unfold State.lintPut
  dsimp only
  (repeat' split) <;> simp

@[simp] theorem rfslotWrite_pending (s : State) (n : Nat) (b : Bool) (i v : Nat) :
    (s.rfslotWrite n b i v).pending = s.pending := by simp [State.rfslotWrite]

@[simp] theorem rfslotctlWrite_pending (s : State) (n v : Nat) :
    (s.rfslotctlWrite n v).pending = s.pending := by simp [State.rfslotctlWrite]

@[simp] theorem rfprofWrite_pending (s : State) (n k v : Nat) : (s.rfprofWrite n k v).pending = s.pending := by
  unfold State.rfprofWrite
  split <;> simp

@[simp] theorem rfchmaskWrite_pending (s : State) (n v : Nat) :
    (s.rfchmaskWrite n v).pending = s.pending := by simp [State.rfchmaskWrite]

@[simp] theorem rfShift_pending (s : State) (S : Int) : (s.rfShift S).pending = s.pending := rfl

@[simp] theorem rfAcquire_pending (s : State) : (s.rfAcquire).pending = s.pending := rfl

@[simp] theorem rfRealign_pending (s : State) : (s.rfRealign).pending = s.pending := rfl

@[simp] theorem rfRestart_pending (s : State) : (s.rfRestart).pending = s.pending := by simp [State.rfRestart]

@[simp] theorem rfQuiet_pending (s : State) : (s.rfQuiet).pending = s.pending := by simp [State.rfQuiet]

@[simp] theorem rfsfWrite_pending (s : State) (v : Nat) : (s.rfsfWrite v).pending = s.pending := by simp [State.rfsfWrite]

/-! ### Radio -/

@[simp] theorem rfDetect_pending (s : State) (n : Nat) (d : RfDet) : (s.rfDetect n d).pending = s.pending := by
  unfold State.rfDetect
  dsimp only
  (repeat' split) <;> simp

@[simp] theorem rfNoted_pending (s : State) (n : Nat) (D : RfDemod) (h : RfHeard) : (s.rfNoted n D h).pending = s.pending := by
  unfold State.rfNoted
  dsimp only
  (repeat' split) <;> simp

@[simp] theorem rfSpread_pending (s : State) (f : State → Nat → RfFrame) (draws : Nat) :
    (s.rfSpread f draws).pending = s.pending := by simp [State.rfSpread]

@[simp] theorem rfRelay_pending (s : State) (b : List Byte) : (s.rfRelay b).pending = s.pending := by simp [State.rfRelay]

@[simp] theorem rfHand_pending (s : State) (n : Nat) (D : RfDemod) (h : RfHeard) (seen : Bool) :
    (s.rfHand n D h seen).pending = s.pending := by simp [State.rfHand]

@[simp] theorem rfData_pending (s : State) (n : Nat) (D : RfDemod) (h : RfHeard) : (s.rfData n D h).pending = s.pending := by
  simp only [State.rfData]
  split
  · rfl
  generalize hs1 : (ite (macAckReq h.psdu = true ∧ macDst h.psdu = s.fget fKEYID_EUI) (cut 8 (Config.freeInt s.freeCtr), s.drawn 1) (0, s)) = r
  have h1 : r.2.pending = s.pending := by
    rw [← hs1]
    split <;> simp
  obtain ⟨margin, s1⟩ := r
  dsimp only at h1 ⊢
  generalize hs2 : (ite (macAckReq h.psdu = true ∧ macDst h.psdu = s.fget fKEYID_EUI) _ s1) = s2
  have h2 : s2.pending = s.pending := by
    rw [← hs2, ← h1]
    split <;> simp
  clear hs1 hs2
  split
  · simp [h2]
  · split
    · rw [rfRelay_pending]
      split <;> simp [h2]
    · split
      · simp [h2]
      · split <;> simp [h2]

@[simp] theorem execRfFrameDeliver_keeps (n : Fin 6) (idx : Fin 64) (h : RfHeard) (s : State) :
    KeepsPending s (execRfFrameDeliver n idx h s) := by
  refine keeps_of_live ?_
  rw [keeps_next]
  dsimp only
  split
  · simp
  · split_ifs <;> simp

@[simp] theorem execRfAckSend_keeps (n : Fin 6) (s : State) : KeepsPending s (execRfAckSend n s) := by
  unfold execRfAckSend
  dsimp only
  (repeat' split) <;> simp

@[simp] theorem rfBeacon_pending (s : State) (n start : Nat) :
    (s.rfBeacon n start).pending = s.pending := by simp [State.rfBeacon]

@[simp] theorem rfBegin_pending (s : State) (start len sfn : Nat) :
    (s.rfBegin start len sfn).pending = s.pending := by simp [State.rfBegin]

@[simp] theorem rfFallback_pending (s : State) : s.rfFallback.pending = s.pending := by
  rw [State.rfFallback, foldl_pending _ (fun u n => by simp), fset_pending, fset_pending]

@[simp] theorem rfRootStart_pending (s : State) : (s.rfRootStart).pending = s.pending := by simp [State.rfRootStart]

@[simp] theorem rfFollowStart_pending (s : State) (start : Nat) :
    (s.rfFollowStart start).pending = s.pending := by simp [State.rfFollowStart]

@[simp] theorem execSuperframeStart_keeps (s : State) : KeepsPending s (execSuperframeStart s) := by
  unfold execSuperframeStart
  dsimp only
  (repeat' split) <;> simp

@[simp] theorem rfFlood_pending (s : State) (dst : Nat) (payload : List Byte) :
    (s.rfFlood dst payload).1.pending = s.pending := by simp [State.rfFlood]

@[simp] theorem rfTake_pending (s : State) (n : Nat) (f : PortFrame) : (s.rfTake n f).pending = s.pending := by
  simp only [State.rfTake]
  rw [setRfPort_pending]
  split <;> simp

@[simp] theorem rfPull_pending (s : State) (n : Nat) : (s.rfPull n).pending = s.pending := by simp [State.rfPull]

@[simp] theorem execRfRunTransmit_keeps (n : Fin 6) (s : State) : KeepsPending s (execRfRunTransmit n s) := by
  unfold execRfRunTransmit
  dsimp only
  (repeat' split) <;> simp

@[simp] theorem execSleepySend_keeps (n : Fin 6) (s : State) : KeepsPending s (execSleepySend n s) := by
  unfold execSleepySend
  dsimp only
  (repeat' split) <;> simp

@[simp] theorem execFloodRelayEligible_keeps (n : Fin 6) (k : Nat) (s : State) :
    KeepsPending s (execFloodRelayEligible n k s) := by
  unfold execFloodRelayEligible
  dsimp only
  (repeat' split) <;> simp

/-! ### Handed -/

@[simp] theorem rfLate_pending (ack : Bool) (s : State) (n : Nat) :
    (State.rfLate ack s n).1.pending = s.pending := by simp [State.rfLate]

@[simp] theorem plLate_pending (ack : Bool) (s : State) (p : Nat) :
    (State.plLate ack s p).1.pending = s.pending := by simp [State.plLate]

@[simp] theorem outLate_pending (ack : Bool) (s : State) : (State.outLate ack s).1.pending = s.pending := by simp [State.outLate]

@[simp] theorem handedLate_pending (s : State) (ack : Bool) : (s.handedLate ack).1.pending = s.pending := by
  simp only [State.handedLate]
  rw [foldl_fst_pending _ (fun r p => by simp), foldl_fst_pending _ (fun r n => by simp), outLate_pending]

@[simp] theorem execKepAckDrop_keeps (n : Nat) (s : State) : KeepsPending s (execKepAckDrop n s) := by
  unfold execKepAckDrop
  split <;> simp

@[simp] theorem execRelayDownlinkTransmit_keeps (n : Nat) (s : State) : KeepsPending s (execRelayDownlinkTransmit n s) := by
  unfold execRelayDownlinkTransmit
  split <;> simp

/-! ### KeyCmd -/

@[simp] theorem needStoreKey_pending (s : State) : (s.needStoreKey).pending = s.pending := by simp [State.needStoreKey]

@[simp] theorem fillSlot_pending (s : State) (n : Nat) (k : KeySlot) :
    (s.fillSlot n k).pending = s.pending := by simp [State.fillSlot]

@[simp] theorem slotResvClear_pending (s : State) (n : Nat) :
    (s.slotResvClear n).pending = s.pending := by simp [State.slotResvClear]

@[simp] theorem dropSlot_pending (s : State) (n : Nat) : (s.dropSlot n).pending = s.pending := by simp [State.dropSlot]

@[simp] theorem pocketPut_pending (s : State) (epi parent ptype mask : Nat) (mat : List Byte) :
    (s.pocketPut epi parent ptype mask mat).pending = s.pending := by simp [State.pocketPut]

@[simp] theorem keyGen_pending (s : State) (g : KeyArg) : (s.keyGen g).2.pending = s.pending := by
  unfold State.keyGen
  (repeat' split) <;> simp

@[simp] theorem keyInvalidate_pending (s : State) (g : KeyArg) : (s.keyInvalidate g).2.pending = s.pending := by
  unfold State.keyInvalidate
  split <;> simp

@[simp] theorem keySetpub_pending (s : State) (g : KeyArg) : (s.keySetpub g).2.pending = s.pending := by
  unfold State.keySetpub
  dsimp only
  (repeat' split) <;> simp

@[simp] theorem keyPubout_pending (s : State) (g : KeyArg) : (s.keyPubout g).2.pending = s.pending := by
  simp only [State.keyPubout, apply_ite Prod.snd, apply_ite State.pending, write_pending, ite_self]

@[simp] theorem keyImport_pending (s : State) (g : KeyArg) : (s.keyImport g).2.pending = s.pending := by
  unfold State.keyImport
  (repeat' split) <;> simp

@[simp] theorem keyExport_pending (s : State) (g : KeyArg) : (s.keyExport g).2.pending = s.pending := by
  unfold State.keyExport
  dsimp only
  (repeat' split) <;> simp

@[simp] theorem keyGenpkt_pending (s : State) (g : KeyArg) : (s.keyGenpkt g).2.pending = s.pending := by
  unfold State.keyGenpkt
  (repeat' split) <;> simp

@[simp] theorem keyImportpkt_pending (s : State) (g : KeyArg) : (s.keyImportpkt g).2.pending = s.pending := by
  unfold State.keyImportpkt
  dsimp only
  (repeat' split) <;> simp

@[simp] theorem keyRewrap_pending (s : State) (g : KeyArg) : (s.keyRewrap g).2.pending = s.pending := by
  unfold State.keyRewrap
  dsimp only
  (repeat' split) <;> simp

@[simp] theorem keyAttest_pending (s : State) (g : KeyArg) : (s.keyAttest g).2.pending = s.pending := by
  unfold State.keyAttest
  (repeat' split) <;> simp

@[simp] theorem keyAuth_pending (s : State) (g : KeyArg) : (s.keyAuth g).2.pending = s.pending := by
  unfold State.keyAuth
  split
  · rfl
  · simp only [apply_ite Prod.snd, apply_ite State.pending, setFlag_pending, setKey_pending, fset_pending, countVerify_pending, ite_self]

@[simp] theorem disarm_pending (s : State) : (s.disarm).pending = s.pending := rfl

@[simp] theorem keyRun_pending (s : State) (op : Nat) (g : KeyArg) : (s.keyRun op g).2.pending = s.pending := by
  simp only [State.keyRun, apply_ite Prod.snd, apply_ite State.pending, keyGen_pending, keyInvalidate_pending, keySetpub_pending,
    keyPubout_pending, keyImport_pending, keyExport_pending, keyGenpkt_pending, keyImportpkt_pending, keyRewrap_pending,
    keyAttest_pending, keyAuth_pending, ite_self]

@[simp] theorem keyWork_pending (s : State) (op : Nat) (g : KeyArg) :
    (s.keyWork op g).2.pending = s.pending := by simp [State.keyWork]

@[simp] theorem keyCheck_pending (s : State) (op : Nat) : (s.keyCheck op).2.pending = s.pending := by
  simp only [State.keyCheck, apply_ite Prod.snd, apply_ite State.pending, keyWork_pending, ite_self]

@[simp] theorem keyCmd_pending (s : State) (op : Nat) : (s.keyCmd op).pending = s.pending := by
  unfold State.keyCmd
  extract_lets +onlyGivenNames was
  have h := keyCheck_pending s op
  split
  next st t he =>
    rw [he] at h
    split <;> simpa using h

/-! ### Engines -/

@[simp] theorem jobSrc_pending (s : State) (a n : Nat) : (s.jobSrc a n).2.1.pending = s.pending := by
  unfold State.jobSrc
  dsimp only
  (repeat' split) <;> simp

@[simp] theorem jobOut_pending (s : State) (a : Nat) (out : List Byte) : (s.jobOut a out).2.1.pending = s.pending := by
  unfold State.jobOut
  split <;> simp

@[simp] theorem shaJob_pending (s : State) (j : EngJob) : (s.shaJob j).2.1.pending = s.pending := by
  unfold State.shaJob
  split
  · rfl
  have h := jobSrc_pending s j.src j.len
  split
  all_goals
    next he =>
    rw [he] at h
    simpa using h

@[simp] theorem dsaJob_pending (s : State) (j : EngJob) : (s.dsaJob j).2.1.pending = s.pending := by
  unfold State.dsaJob
  split
  · have h := jobSrc_pending s j.src j.len
    split
    next t m he =>
      rw [he] at h
      split
      · exact h
      · split <;> simpa using h
    next he =>
      rw [he] at h
      exact h
  · split
    · have h := jobSrc_pending s j.src (j.len + sigBytes)
      split
      all_goals
        next he =>
        rw [he] at h
        simpa using h
    · rfl

@[simp] theorem kemSecret_pending (s : State) (j : EngJob) (secret : List Byte) :
    (s.kemSecret j secret).pending = s.pending := by simp [State.kemSecret]

@[simp] theorem kemJob_pending (s : State) (j : EngJob) : (s.kemJob j).2.1.pending = s.pending := by
  unfold State.kemJob
  split
  · rfl
  split
  · split
    · split
      · rfl
      · split <;> simp
    · split
      · rfl
      · have h := jobSrc_pending s j.src 1568
        split
        all_goals
          next he =>
          rw [he] at h
          simpa using h
  · rfl

@[simp] theorem engRow_pending (s : State) (rowOp : Nat → Bool) (unit jq dq : Nat) (en : Bool) (run : State → EngJob → JobEnd)
    (hrun : ∀ t j, (run t j).2.1.pending = t.pending) : (s.engRow rowOp unit jq dq en run).pending = s.pending := by
  unfold State.engRow
  refine ite_pending rfl ?_
  split
  · rfl
  next d _ =>
  extract_lets +onlyGivenNames j s1
  refine ite_pending rfl ?_
  have h1 : s1.pending = s.pending := dequeued_pending ..
  generalize hr : (ite ((!s.engineMode) = true) _ _ : Status × State × Nat) = r
  have h2 : r.2.1.pending = s1.pending := by
    rw [← hr]
    split
    · rfl
    · split
      · rfl
      · exact hrun ..
  rw [hwEnqueue_pending, h2, h1]

@[simp] theorem shaRow_pending (s : State) (rowOp : Nat → Bool) : (s.shaRow rowOp).pending = s.pending := by simp [State.shaRow]

@[simp] theorem dsaRow_pending (s : State) (rowOp : Nat → Bool) : (s.dsaRow rowOp).pending = s.pending := by simp [State.dsaRow]

@[simp] theorem kemRow_pending (s : State) (rowOp : Nat → Bool) : (s.kemRow rowOp).pending = s.pending := by simp [State.kemRow]

@[simp] theorem engAbort_pending (s : State) (x : EngBusy) : (s.engAbort x).pending = s.pending := by
  unfold State.engAbort
  dsimp only
  (repeat' split) <;> simp

@[simp] theorem engAborts_pending (s : State) (busy : List EngBusy) : (s.engAborts busy).pending = s.pending :=
  foldl_pending _ (fun t u => by split <;> simp) _ s

/-! ### Duneb -/

@[simp] theorem sesDgram_pending (s : State) (chip : Option Nat) (d : List Byte) :
    (s.sesDgram chip d).pending = s.pending := by simp [State.sesDgram]

@[simp] theorem dlDown_pending (s : State) (k : Nat) : (s.dlDown k).pending = s.pending := by simp [State.dlDown]

@[simp] theorem dlResend_pending (s : State) (k : Nat) : (s.dlResend k).pending = s.pending := by simp [State.dlResend]

@[simp] theorem helloApply_pending (s : State) (k : Nat) (b : List Byte) : (s.helloApply k b).pending = s.pending := by
  unfold State.helloApply
  (repeat' split) <;> simp [*]

@[simp] theorem dlTrain_pending (s : State) (k : Nat) (was : Bool) :
    (s.dlTrain k was).pending = s.pending := by simp [State.dlTrain]

@[simp] theorem dlDeliver_pending (s : State) (k : Nat) (m : List DlCell) : (s.dlDeliver k m).pending = s.pending := by
  unfold State.dlDeliver
  split <;> simp

@[simp] theorem dlForward_pending (s : State) (k : Nat) (m : List DlCell) : (s.dlForward k m).pending = s.pending := by
  unfold State.dlForward
  dsimp only
  (repeat' split) <;> simp

@[simp] theorem dlWord_pending (s : State) (k w : Nat) : (s.dlWord k w).pending = s.pending := by
  unfold State.dlWord
  dsimp only
  (repeat' split) <;> simp

@[simp] theorem dlNak_pending (s : State) (k : Nat) : (s.dlNak k).pending = s.pending := by simp [State.dlNak]

@[simp] theorem dlBad_pending (s : State) (k eui : Nat) : (s.dlBad k eui).pending = s.pending := by simp [State.dlBad]

@[simp] theorem dlAccept_pending (s : State) (k tseq : Nat) (c : DlCell) :
    (s.dlAccept k tseq c).pending = s.pending := by simp [State.dlAccept]

@[simp] theorem mapAdopt_pending (s : State) (epoch : Nat) (m : List Byte) :
    (s.mapAdopt epoch m).pending = s.pending := by simp [State.mapAdopt]

@[simp] theorem moveEnd_pending (s : State) (st : Nat) : (s.moveEnd st).pending = s.pending := by
  unfold State.moveEnd
  dsimp only
  (repeat' split) <;> simp

@[simp] theorem semWrite_pending (s : State) (v : Nat) : (s.semWrite v).pending = s.pending := by simp [State.semWrite]

@[simp] theorem seamMsg_pending (s : State) (chip op b : Nat) :
    (s.seamMsg chip op b).pending = s.pending := by simp [State.seamMsg]

@[simp] theorem semMoveStore_pending (s : State) (b h m : Nat) : (s.semMoveStore b h m).pending = s.pending := rfl

@[simp] theorem moveArm_pending (s : State) (b h m : Nat) : (s.moveArm b h m).pending = s.pending := by simp [State.moveArm]

@[simp] theorem moveDiscard_pending (s : State) : s.moveDiscard.pending = s.pending :=
  foldl_pending _ (fun t e => by split <;> simp) _ s

@[simp] theorem moveAbandon_pending (s : State) : (s.moveAbandon).pending = s.pending := by simp [State.moveAbandon]

@[simp] theorem moveResume_pending (s : State) : (s.moveResume).pending = s.pending := by simp [State.moveResume]

@[simp] theorem moveAbortWrite_pending (s : State) : (s.moveAbortWrite).pending = s.pending := by simp [State.moveAbortWrite]

@[simp] theorem semMoveWrite_pending (s : State) (v : Nat) :
    (s.semMoveWrite v).pending = s.pending := by simp [State.semMoveWrite]

@[simp] theorem endpointWrite_pending (s : State) (b : List Byte) (poison : List Nat) :
    (s.endpointWrite b poison).2.pending = s.pending := by
  unfold State.endpointWrite
  dsimp only
  (repeat' split) <;> simp

@[simp] theorem moveIn_pending (s : State) : s.moveIn.pending = s.pending := by
  unfold State.moveIn
  dsimp only
  refine ite_pending rfl ?_
  split
  next h =>
    rw [foldl_pending _ (fun t c => ite_pending rfl (by simp)), seamChange_pending, fset_pending, setMov_pending,
      foldl_pending _ (fun t e => by simp), journal_pending h]
  · rfl

@[simp] theorem execMoved_keeps (b : BitVec 12) (home : BitVec 3) (s : State) : KeepsPending s (execMoved b home s) := by
  rw [execMoved]
  dsimp only
  refine keeps_of_live (keeps_of_ite ?_ (keeps_of_ite ?_ ?_))
  · exact (keeps_next ..).2 (ite_pending (by simp) rfl)
  · split
    next h =>
      rw [keeps_next, seamMsg_pending, moveEnd_pending, seamChange_pending, foldl_pending _ (fun t e => by split <;> simp),
        journalRaw_pending h]
    · simp
  · simp

@[simp] theorem execMoveTimeout_keeps (s : State) : KeepsPending s (execMoveTimeout s) := by
  unfold execMoveTimeout
  split <;> simp

@[simp] theorem execMoveAbort_keeps (a : Agent) (st : AbortStep) (s : State) : KeepsPending s (execMoveAbort a st s) := by
  cases st <;> simp [execMoveAbort]

/-! ### Sessions -/

@[simp] theorem setPlaneQ_pending (s : State) (p : Nat) (l : List Rec) :
    (s.setPlaneQ p l).pending = s.pending := by simp [State.setPlaneQ]

@[simp] theorem execReportMergeTurn_keeps (s : State) : KeepsPending s (execReportMergeTurn s) := by
  unfold execReportMergeTurn
  split <;> simp

@[simp] theorem setCur_pending (s : State) (c : Option Sess) : (s.setCur c).pending = s.pending := by simp [State.setCur]

@[simp] theorem sesRegs_pending (s : State) : (s.sesRegs).pending = s.pending := by
  unfold State.sesRegs
  split <;> simp

@[simp] theorem holdDrop_pending (s : State) (n : Nat) : (s.holdDrop n).pending = s.pending := by simp [State.holdDrop]

@[simp] theorem holdPut_pending (s : State) (l : List Rec) : (s.holdPut l).pending = s.pending := by simp [State.holdPut]

@[simp] theorem holdEase_pending (s : State) : (s.holdEase).pending = s.pending := by simp [State.holdEase]

@[simp] theorem sesSend_pending (s : State) (d : List Byte) : (s.sesSend d).pending = s.pending := by simp [State.sesSend]

@[simp] theorem sendBatch_pending (s : State) : (s.sendBatch).pending = s.pending := by
  unfold State.sendBatch
  (repeat' split) <;> simp

@[simp] theorem sendBatches_pending (s : State) : (s.sendBatches).pending = s.pending := by simp [State.sendBatches]

@[simp] theorem spillOne_pending (s : State) : (s.spillOne).pending = s.pending := by
  unfold State.spillOne
  split <;> simp

@[simp] theorem spill_pending (s : State) : (s.spill).pending = s.pending := by simp [State.spill]

@[simp] theorem execBatchClose_keeps (s : State) : KeepsPending s (execBatchClose s) := by
  unfold execBatchClose
  (repeat' split) <;> simp

@[simp] theorem sesOpen_pending (s : State) : (s.sesOpen).pending = s.pending := by
  unfold State.sesOpen
  dsimp only
  (repeat' split) <;> simp

@[simp] theorem unsent_pending (s : State) (c : Sess) : (s.unsent c).pending = s.pending := by simp [State.unsent]

@[simp] theorem execInitTimeout_keeps (s : State) : KeepsPending s (execInitTimeout s) := by
  unfold execInitTimeout
  split <;> simp

@[simp] theorem badDgram_pending (s : State) (d : List Byte) (st : Status) :
    (s.badDgram d st).pending = s.pending := by simp [State.badDgram]

@[simp] theorem execAccept_keeps (d : List Byte) (s : State) : KeepsPending s (execAccept d s) := by
  unfold execAccept
  (repeat' split) <;> simp

@[simp] theorem setExported_pending (s : State) (rseq rep : Nat) : (s.setExported rseq rep).pending = s.pending := by
  unfold State.setExported
  split <;> simp

@[simp] theorem coverRec_pending (s : State) (r : Rec) : (s.coverRec r).pending = s.pending := by simp [State.coverRec]

@[simp] theorem covered_pending (s : State) (gone : List Batch) : (s.covered gone).pending = s.pending := by simp [State.covered]

@[simp] theorem execBack_keeps (d : List Byte) (s : State) : KeepsPending s (execBack d s) := by
  -- the check of the datagram's tag is held opaque, so that the kernel does not evaluate it
  obtain ⟨back, hback⟩ : ∃ back, back = Sess.backOk := ⟨_, rfl⟩
  rw [execBack, ← hback]
  clear hback
  refine keeps_of_live (keeps_of_ite (by simp) (keeps_of_ite (by simp) ?_))
  extract_lets +onlyGivenNames sid seq cum inCur inOld
  refine keeps_of_ite ?_ (keeps_of_ite ?_ (by simp))
  · split
    · simp
    · split <;> simp
  · split
    · simp
    · split <;> simp

@[simp] theorem execBatchResend_keeps (s : State) : KeepsPending s (execBatchResend s) := by
  unfold execBatchResend
  split <;> simp

@[simp] theorem oldEnd_pending (s : State) : (s.oldEnd).pending = s.pending := by
  unfold State.oldEnd
  split <;> simp

@[simp] theorem execSessionRekey_keeps (s : State) : KeepsPending s (execSessionRekey s) := by
  unfold execSessionRekey
  split <;> simp

@[simp] theorem execOldSessionExpiry_keeps (s : State) : KeepsPending s (execOldSessionExpiry s) := by
  unfold execOldSessionExpiry
  split <;> simp

@[simp] theorem sesClose_pending (s : State) (c : Sess) (reason : Nat) :
    (s.sesClose c reason).pending = s.pending := by simp [State.sesClose]

@[simp] theorem execClose_keeps (d : List Byte) (s : State) : KeepsPending s (execClose d s) := by
  rw [execClose]
  dsimp only
  refine keeps_of_live (keeps_of_ite (by simp) (keeps_of_ite ?_ (keeps_of_ite (by simp) ?_)))
  · split
    · exact (keeps_next ..).2 (ite_pending (by simp) (by simp))
    · simp
  · split
    · refine keeps_of_ite ((keeps_next ..).2 (ite_pending (by simp) (by simp))) ?_
      split
      · exact keeps_of_ite ((keeps_next ..).2 (ite_pending (by simp) (by simp))) (by simp)
      · simp
    · exact keeps_of_ite ((keeps_next ..).2 (ite_pending (by simp) (by simp))) (by simp)
    · simp

/-! ### Reset -/

@[simp] theorem cutTransmit_pending (s : State) : (s.cutTransmit).pending = s.pending := by simp [State.cutTransmit]

@[simp] theorem gateFollow_pending (s : State) : (s.gateFollow).pending = s.pending := by simp [State.gateFollow]

@[simp] theorem setActOut_pending (s : State) (b : Bool) : (s.setActOut b).pending = s.pending := by simp [State.setActOut]

@[simp] theorem actRelease_pending (s : State) : (s.actRelease).pending = s.pending := by simp [State.actRelease]

@[simp] theorem eraseKeys_pending (s : State) : (s.eraseKeys).pending = s.pending := by simp [State.eraseKeys]

@[simp] theorem resetCsrs_pending (s : State) (kind : Nat) : (s.resetCsrs kind).pending = s.pending := rfl

@[simp] theorem keep_pending (s : State) (kind : Nat) : (s.keep kind).pending = s.pending := rfl

@[simp] theorem resetEvents_pending (s : State) (causes step : Nat) :
    (s.resetEvents causes step).pending = s.pending := by simp [State.resetEvents]

@[simp] theorem doReset_pending (s : State) (cause extra : Nat) : (s.doReset cause extra).pending = s.pending := by
  simp [State.doReset]

@[simp] theorem swresetWrite_pending (s : State) (v : Nat) :
    (s.swresetWrite v).pending = s.pending := by simp [State.swresetWrite]

@[simp] theorem swr_pending (s : State) (req : Nat) : (s.swr req).pending = s.pending := by simp [State.swr]

/-! ### Tamper -/

@[simp] theorem alarmEnds_pending (s : State) (cut : AlarmCut) : (s.alarmEnds cut).pending = s.pending := by
  unfold State.alarmEnds
  split <;> simp

@[simp] theorem tmpstatWrite_pending (s : State) (v : Nat) : (s.tmpstatWrite v).pending = s.pending := rfl

@[simp] theorem fuseStep_pending (s : State) : (s.fuseStep).pending = s.pending := rfl

@[simp] theorem lcsEnd_pending (s : State) (st : Status) : (s.lcsEnd st).pending = s.pending := rfl

@[simp] theorem debugOpens_pending (s : State) : (s.debugOpens).pending = s.pending := by simp [State.debugOpens]

@[simp] theorem scraps_pending (s : State) : (s.scraps).pending = s.pending := by simp [State.scraps]

@[simp] theorem lcsWrite_pending (s : State) (v : Nat) : (s.lcsWrite v).pending = s.pending := by simp [State.lcsWrite]

/-! ### Update -/

@[simp] theorem slotRecord_pending (s : State) (n st : Nat) (h : List Byte) :
    (s.slotRecord n st h).pending = s.pending := by simp [State.slotRecord]

@[simp] theorem slotBad_pending (s : State) (n cause : Nat) : (s.slotBad n cause).pending = s.pending := rfl

@[simp] theorem updEnd_pending (s : State) (st : Status) : (s.updEnd st).pending = s.pending := rfl

@[simp] theorem updCheck_pending (s : State) : (s.updCheck).pending = s.pending := by simp [State.updCheck]

@[simp] theorem updBusy_pending (s : State) (op : Nat) : (s.updBusy op).pending = s.pending := rfl

@[simp] theorem updIdle_pending (s : State) : (s.updIdle).pending = s.pending := by simp [State.updIdle]

@[simp] theorem updInstall_pending (s : State) : (s.updInstall).pending = s.pending := by simp [State.updInstall]

@[simp] theorem installStep_pending (s : State) : s.installStep.pending = s.pending := by
  rw [State.installStep, updEnd_pending, updIdle_pending, slotRecord_pending, setUpd_pending, touch_pending]

@[simp] theorem updClean_pending (s : State) : (s.updClean).pending = s.pending := by simp [State.updClean]

@[simp] theorem updSelftest_pending (s : State) : (s.updSelftest).pending = s.pending := rfl

@[simp] theorem commitFinish_pending (s : State) : (s.commitFinish).pending = s.pending := by
  unfold State.commitFinish
  split <;> simp

@[simp] theorem updCommit_pending (s : State) : (s.updCommit).pending = s.pending := by simp [State.updCommit]

@[simp] theorem commitStep_pending (s : State) : s.commitStep.pending = s.pending := by
  unfold State.commitStep
  split
  · rfl
  · refine ite_pending (ite_pending rfl (fset_pending ..)) ?_
    rw [updEnd_pending, updIdle_pending, setFlag_pending, commitFinish_pending]

@[simp] theorem updAbandon_pending (s : State) : (s.updAbandon).pending = s.pending := by simp [State.updAbandon]

@[simp] theorem updctlWrite_pending (s : State) (v : Nat) : (s.updctlWrite v).pending = s.pending := by simp [State.updctlWrite]

@[simp] theorem updaddrWrite_pending (s : State) (v : Nat) : (s.updaddrWrite v).pending = s.pending := rfl

@[simp] theorem execInstall_keeps (u : UpdAct) (s : State) : KeepsPending s (execInstall u s) := by
  unfold execInstall
  split <;> simp

@[simp] theorem execCommit_keeps (u : UpdAct) (s : State) : KeepsPending s (execCommit u s) := by
  unfold execCommit
  split <;> simp

@[simp] theorem trialWdg_pending (s : State) (n : Nat) : (s.trialWdg n).pending = s.pending := by simp [State.trialWdg]

theorem pickSlot_cons (s : State) (n : Nat) (ns : List Nat) :
    s.pickSlot (n :: ns) = match s.slotPasses n with
      | none => (s, some n)
      | some c => (s.slotBad n c).pickSlot ns := by rfl

@[simp] theorem pickSlot_pending (s : State) (ns : List Nat) : (s.pickSlot ns).1.pending = s.pending := by
  induction ns generalizing s with
  | nil => rfl
  | cons n ns ih =>
    rw [pickSlot_cons]
    split
    · rfl
    · rw [ih, slotBad_pending]

@[simp] theorem imageSelect_pending (s : State) : s.imageSelect.1.pending = s.pending := by
  simp only [State.imageSelect]
  generalize hs : State.trialWdg _ 1 = s3
  have h3 : s3.pending = s.pending := by
    rw [← hs, trialWdg_pending, trialWdg_pending, foldl_pending _ (fun t n => by split <;> simp), commitFinish_pending]
  have hp := (pickSlot_pending s3 s3.trySlots).trans h3
  split
  next t h => rwa [h] at hp
  next t n h =>
    rw [h] at hp
    split
    · rwa [setFlag_pending, fset_pending, setFlag_pending, fset_pending]
    · rwa [setFlag_pending, fset_pending]

/-! ### LedgerCmd -/

@[simp] theorem disRej_pending (s : State) : (s.disRej).pending = s.pending := by simp [State.disRej]

@[simp] theorem replayNote_pending (s : State) (i : Item) : (s.replayNote i).pending = s.pending := by
  unfold State.replayNote
  (repeat' split) <;> simp

@[simp] theorem execDispatcherQ0Take_keeps (s : State) : KeepsPending s (execDispatcherQ0Take s) := by
  unfold execDispatcherQ0Take
  (repeat' split) <;> simp

@[simp] theorem execIngestCommand_keeps (s : State) : KeepsPending s (execIngestCommand s) := by
  rw [execIngestCommand]
  refine keeps_of_live ?_
  split
  · simp
  · split
    · simp
    · dsimp only
      split_ifs
      · simp
      · simp
      · simp
      · simp
      · split
        · simp
        · split
          next h => simpa using journal_pending h
          all_goals simp

@[simp] theorem shadowMove_pending (s : State) (kind b m : Nat) : (s.shadowMove kind b m).pending = s.pending := by
  simp only [State.shadowMove]
  generalize hs : List.foldl _ s (s.bucketEpis b) = s1
  have h1 : s1.pending = s.pending := by rw [← hs, foldl_pending _ (fun t e => by split <;> simp)]
  split_ifs <;> simp [h1]

@[simp] theorem inputPost_pending (s : State) (e : List Byte) : (s.inputPost e).pending = s.pending := by
  simp only [State.inputPost, apply_ite State.pending, postReadings_pending, icAdvance_pending, postItem_pending, markerApply_pending,
    metroApply_pending, topoPend_pending, keygenApply_pending, shadowMove_pending, ite_self]

@[simp] theorem inputRun_pending (es : List (List Byte)) (s : State) : (State.inputRun es s).pending = s.pending := by
  induction es generalizing s with
  | nil => rfl
  | cons e es ih =>
    unfold State.inputRun
    split
    · rfl
    · rw [ih, inputPost_pending]

@[simp] theorem inputDrain_pending (s : State) : (s.inputDrain).pending = s.pending := by simp [State.inputDrain]

@[simp] theorem inputTake_pending (s : State) (e : List Byte) : (s.inputTake e).pending = s.pending := by simp [State.inputTake]

@[simp] theorem markerDone_pending (s : State) (k isn : Nat) (cut : Bool) : (s.markerDone k isn cut).pending = s.pending := by
  simp only [State.markerDone, apply_ite State.pending, cutApply_pending, markerApply_pending, setLdg_pending, ite_self]

@[simp] theorem execMarkerJournaled_keeps (s : State) : KeepsPending s (execMarkerJournaled s) := by
  rw [execMarkerJournaled]
  refine keeps_of_live ?_
  split
  · simp
  · dsimp only
    split
    next h => simp [journalRaw_pending h]
    · simp
    · split
      next h =>
        split at h
        · simp [journalRaw_pending h]
        · contradiction
      all_goals simp

@[simp] theorem copyProgram_pending (s : State) (b : List Byte) :
    (s.copyProgram b).pending = s.pending := by simp [State.copyProgram]

@[simp] theorem loadCheck_pending (s : State) (a : Nat) : (s.loadCheck a).2.2.pending = s.pending := by
  unfold State.loadCheck
  extract_lets +onlyGivenNames size h st s1 b cls ver
  have h1 : s1.pending = s.pending := countVerify_pending s st
  simp only [apply_ite Prod.snd, apply_ite State.pending, h1, ite_self]

@[simp] theorem enterProgram_pending (s : State) (h b : List Byte) : (s.enterProgram h b).pending = s.pending := by
  unfold State.enterProgram
  split <;> simp

@[simp] theorem progLoad_pending (s : State) : (s.progLoad).pending = s.pending := by simp [State.progLoad]

@[simp] theorem rebuildWrite_pending (s : State) (v : Nat) :
    (s.rebuildWrite v).pending = s.pending := by simp [State.rebuildWrite]

@[simp] theorem replayWrite_pending (s : State) (k : Nat) : (s.replayWrite k).pending = s.pending := by
  unfold State.replayWrite
  refine ite_pending (by simp) (ite_pending (by simp) (ite_pending (by simp) (ite_pending (by simp) ?_)))
  rw [say_pending, markerApply_pending, setLdg_pending, drawn_pending]

@[simp] theorem moveRestore_pending (s : State) (kind b m : Nat) :
    (s.moveRestore kind b m).pending = s.pending := by simp [State.moveRestore]

@[simp] theorem entryApply_pending (s0 : State) (e : List Byte) :
    (s0.entryApply e).pending = s0.pending := by simp [State.entryApply]

@[simp] theorem jpoison_pending (s : State) (e : List Byte) (readable : Bool) :
    (s.jpoison e readable).pending = s.pending := by simp [State.jpoison]

@[simp] theorem replayeWrite_pending (s : State) (v : Nat) :
    (s.replayeWrite v).pending = s.pending := by simp [State.replayeWrite]

@[simp] theorem ldgstatWrite_pending (s : State) (v : Nat) :
    (s.ldgstatWrite v).pending = s.pending := by simp [State.ldgstatWrite]

/-! ### Metrology -/

@[simp] theorem metSample_pending (s : State) (code : Nat → Nat) :
    (s.metSample code).pending = s.pending := by simp [State.metSample]

@[simp] theorem calNote_pending (s : State) : (s.calNote).pending = s.pending := by simp [State.calNote]

@[simp] theorem metroInput_pending (s : State) (body : List Byte) : (s.metroInput body).pending = s.pending := by
  unfold State.metroInput
  split
  next h => simp [journal_pending h]
  all_goals simp

@[simp] theorem metroRetry_pending (s : State) : (s.metroRetry).pending = s.pending := by simp [State.metroRetry]

@[simp] theorem topoInput_pending (s : State) (sel : Nat) : (s.topoInput sel).pending = s.pending := by
  unfold State.topoInput
  split
  next h => simp [journal_pending h]
  all_goals simp

@[simp] theorem ringRetry_pending (s : State) : (s.ringRetry).pending = s.pending := by
  unfold State.ringRetry
  dsimp only
  (repeat' split) <;> simp

@[simp] theorem metClose_pending (s : State) (step : Bool) : (s.metClose step).pending = s.pending := by simp [State.metClose]

@[simp] theorem metOpen_pending (s : State) (k : Int) : (s.metOpen k).pending = s.pending := by simp [State.metOpen]

@[simp] theorem metCapture_pending (s : State) : (s.metCapture).pending = s.pending := by simp [State.metCapture]

@[simp] theorem execMetrologyIntervalClose_keeps (s : State) : KeepsPending s (execMetrologyIntervalClose s) := by
  rw [execMetrologyIntervalClose]
  refine keeps_of_live ?_
  dsimp only
  split_ifs <;> simp

@[simp] theorem execReferenceCheck_keeps (ppm : BitVec 24) (s : State) : KeepsPending s (execReferenceCheck ppm s) := by
  unfold execReferenceCheck
  (repeat' split) <;> simp

@[simp] theorem topoSelect_pending (s : State) (sel : Nat) : (s.topoSelect sel).pending = s.pending := by simp [State.topoSelect]

/-! ### TimeCmd -/

@[simp] theorem timeRebase_pending (s : State) : (s.timeRebase).pending = s.pending := rfl

@[simp] theorem timincrWrite_pending (s : State) (v : Nat) :
    (s.timincrWrite v).pending = s.pending := by simp [State.timincrWrite]

@[simp] theorem spend_pending (s : State) (n : Nat) : (s.spend n).pending = s.pending := rfl

@[simp] theorem timeStep_pending (s : State) (S : Int) (signed : Bool) :
    (s.timeStep S signed).pending = s.pending := by simp [State.timeStep]

@[simp] theorem unsignedStep_pending (s : State) (S : Int) :
    (s.unsignedStep S).pending = s.pending := by simp [State.unsignedStep]

@[simp] theorem timsetWrite_pending (s : State) (v : Nat) : (s.timsetWrite v).pending = s.pending := by simp [State.timsetWrite]

@[simp] theorem timstepWrite_pending (s : State) (v : Nat) :
    (s.timstepWrite v).pending = s.pending := by simp [State.timstepWrite]

@[simp] theorem stepGo_pending (s : State) : (s.stepGo).pending = s.pending := by simp [State.stepGo]

@[simp] theorem timsteprecWrite_pending (s : State) (v : Nat) :
    (s.timsteprecWrite v).pending = s.pending := by simp [State.timsteprecWrite]

@[simp] theorem timcfgWrite_pending (s : State) (v : Nat) : (s.timcfgWrite v).pending = s.pending := by simp [State.timcfgWrite]

@[simp] theorem txtsPop_pending (s : State) (q : Nat) : (s.txtsPop q).1.pending = s.pending := rfl

@[simp] theorem execTxtsPop_keeps (a : Agent) (q : Fin 20) (s : State) : KeepsPending s (execTxtsPop a q s) := by
  unfold execTxtsPop
  split <;> simp

@[simp] theorem timtrigctlWrite_pending (s : State) (n v : Nat) :
    (s.timtrigctlWrite n v).pending = s.pending := by simp [State.timtrigctlWrite]

@[simp] theorem timtrigWrite_pending (s : State) (n : Nat) (f : Fld) (v : Nat) :
    (s.timtrigWrite n f v).pending = s.pending := by simp [State.timtrigWrite]

@[simp] theorem execPpsOutPulse_keeps (s : State) : KeepsPending s (execPpsOutPulse s) :=
  keeps_of_live ((keeps_next ..).2 (ite_pending (setTime_pending ..) rfl))

/-! ### Twin -/

@[simp] theorem ccWindows_pending (s : State) (k : Nat) : (s.ccWindows k).pending = s.pending := by
  unfold State.ccWindows
  extract_lets +onlyGivenNames w s1
  calc _ = s1.pending := foldl_pending _ (fun t j => by simp) _ s1
    _ = s.pending := foldl_pending _ (fun t j => by simp) _ s

@[simp] theorem ccStart_pending (s : State) (k off : Nat) : (s.ccStart k off).pending = s.pending := by
  unfold State.ccStart
  split
  · rfl
  · rw [setCc_pending, ccWindows_pending]

@[simp] theorem ccStartAll_pending (s : State) (off : Nat) : (s.ccStartAll off).pending = s.pending := by simp [State.ccStartAll]

/-- What a takeover reset clears outside the register file holds no command. -/
theorem takeoverCleared_pending (s : State) :
    ({ s with ccs := [], dcache := [], pl := {}, rf := {}, dun := {} } : State).pending = s.pending := rfl

@[simp] theorem doTko_pending (s : State) : s.doTko.pending = s.pending := by
  rw [State.doTko, ccStartAll_pending, fset_pending, resetEvents_pending, setFlag_pending, setTwn_pending, setTime_pending,
    resetCsrs_pending, takeoverCleared_pending, foldl_pending _ (fun t k => by simp)]

@[simp] theorem standbySend_pending (s : State) (typ : Nat) (body : List Byte) :
    (s.standbySend typ body).pending = s.pending := by simp [State.standbySend]

@[simp] theorem confirmSend_pending (s : State) : (s.confirmSend).pending = s.pending := by simp [State.confirmSend]

@[simp] theorem catchupAsk_pending (s : State) (full : Bool) :
    (s.catchupAsk full).pending = s.pending := by simp [State.catchupAsk]

@[simp] theorem ctrlSend_pending (s : State) (op : Nat) (operand : List Byte) :
    (s.ctrlSend op operand).pending = s.pending := by simp [State.ctrlSend]

@[simp] theorem release_pending (s : State) (h : Held) : (s.release h).pending = s.pending := by
  unfold State.release
  split <;> simp

@[simp] theorem cover_pending (s : State) (cseq : Nat) : (s.cover cseq).pending = s.pending := by simp [State.cover]

@[simp] theorem setAlone_pending (s : State) : (s.setAlone).pending = s.pending := by simp [State.setAlone]

@[simp] theorem drainCheck_pending (s : State) : (s.drainCheck).pending = s.pending := by simp [State.drainCheck]

@[simp] theorem beatFromStandby_pending (s : State) (b : List Byte) :
    (s.beatFromStandby b).pending = s.pending := by simp [State.beatFromStandby]

@[simp] theorem goOut_pending (s : State) : (s.goOut).pending = s.pending := rfl

@[simp] theorem seqGap_pending (s : State) (len : Nat) : (s.seqGap len).pending = s.pending := by simp [State.seqGap]

@[simp] theorem inputApply_pending (s : State) (e : List Byte) :
    (s.inputApply e).pending = s.pending := by simp [State.inputApply]

@[simp] theorem digestTake_pending (s : State) (k d : Nat) : (s.digestTake k d).pending = s.pending := by simp [State.digestTake]

@[simp] theorem ceilTake_pending (s : State) (b : List Byte) : (s.ceilTake b).pending = s.pending := by simp [State.ceilTake]

@[simp] theorem rescueAll_pending (s : State) (tko : Nat) : (s.rescueAll tko).pending = s.pending := by simp [State.rescueAll]

@[simp] theorem beatFromActive_pending (s : State) (b : List Byte) :
    (s.beatFromActive b).pending = s.pending := by simp [State.beatFromActive]

@[simp] theorem shadowApply_pending (s : State) (typ : Nat) (b : List Byte) (poison : List Nat) :
    (s.shadowApply typ b poison).pending = s.pending := by simp [State.shadowApply]

@[simp] theorem execStandbyGraceExpiry_keeps (s : State) : KeepsPending s (execStandbyGraceExpiry s) := by
  unfold execStandbyGraceExpiry
  split <;> simp

@[simp] theorem execActiveGraceExpiry_keeps (s : State) : KeepsPending s (execActiveGraceExpiry s) := by
  unfold execActiveGraceExpiry
  split <;> simp

@[simp] theorem tkoFirmware_pending (s : State) : s.tkoFirmware.pending = s.pending := by
  simp only [State.tkoFirmware, sesRegs_pending, setSes_pending, setTwn_pending, setKep_pending]
  rw [foldl_pending _ (fun t e => by simp), setFlag_pending, fset_pending]

@[simp] theorem takeover_pending (s : State) (clash : Bool) : (s.takeover clash).pending = s.pending := by
  simp only [State.takeover]
  split_ifs
  · rfl
  · rw [setFlag_pending]
  · rw [setTwn_pending, fset_pending, fset_pending, tkoFirmware_pending, doTko_pending, event_pending, bump_pending, fset_pending,
      setActOut_pending, setTwn_pending]

@[simp] theorem execTakeover_keeps (clash : Bool) (s : State) : KeepsPending s (execTakeover clash s) := by
  unfold execTakeover
  split <;> simp

@[simp] theorem execActInChange_keeps (b : Bool) (s : State) : KeepsPending s (execActInChange b s) := by
  unfold execActInChange
  (repeat' split) <;> simp

@[simp] theorem twnctlWrite_pending (s : State) (v : Nat) (clash : Bool) :
    (s.twnctlWrite v clash).pending = s.pending := by simp [State.twnctlWrite]

@[simp] theorem twnstatWrite_pending (s : State) (v : Nat) :
    (s.twnstatWrite v).pending = s.pending := by simp [State.twnstatWrite]

@[simp] theorem inputsAbove_pending (s : State) (isn : Nat) :
    (s.inputsAbove isn).pending = s.pending := by simp [State.inputsAbove]

@[simp] theorem execCatchup_keeps (isn : DWord) (s : State) : KeepsPending s (execCatchup isn s) := by
  unfold execCatchup
  (repeat' split) <;> simp

@[simp] theorem execRescue_keeps (e : List Byte) (s : State) : KeepsPending s (execRescue e s) := by
  rw [execRescue]
  dsimp only
  refine keeps_of_live (keeps_of_ite (by simp) (keeps_of_ite ?_ (keeps_of_ite (keeps_of_ite (by simp) ?_) (by simp))))
  · split
    case h_5 => simp
    all_goals
      next hk =>
      have hi := hk ▸ ingest_keeps s (entEpi e) _ _ _
      rw [keeps_next]
      simpa [Ing.KeepsPending] using hi
  · split
    · simp
    · split
      next h => simp [journal_pending h]
      all_goals simp

/-! ### Nand -/

@[simp] theorem setBlk_pending (s : State) (b : Nat) (v : NBlk) : (s.setBlk b v).pending = s.pending := rfl

@[simp] theorem nfcRegs_pending (s : State) : (s.nfcRegs).pending = s.pending := rfl

@[simp] theorem mapPoke_pending (s : State) (i v : Nat) : (s.mapPoke i v).pending = s.pending := by simp [State.mapPoke]

@[simp] theorem mapLoad_pending (s : State) : (s.mapLoad).pending = s.pending := by simp [State.mapLoad]

@[simp] theorem mapNote_pending (s : State) (u : Nat) : (s.mapNote u).pending = s.pending := by simp [State.mapNote]

@[simp] theorem unmap_pending (s : State) (u : Nat) : (s.unmap u).pending = s.pending := rfl

@[simp] theorem retire_pending (s : State) (b : Nat) : (s.retire b).pending = s.pending := by simp [State.retire]

@[simp] theorem erase_pending (s : State) (b : Nat) (fails : Bool) :
    (s.erase b fails).pending = s.pending := by simp [State.erase]

theorem openBlk_pending {s t : State} {ch w : Nat} (h : s.openBlk ch w = some t) : t.pending = s.pending := by
  unfold State.openBlk at h
  split at h
  · contradiction
  · injection h with h
    rw [← h]
    dsimp only
    split <;> simp

theorem roomFor_pending {s t : State} {ch w : Nat} (h : s.roomFor ch w = .ok t) : t.pending = s.pending := by
  have opened : (match s.openBlk ch w with | some u => NRes.ok u | none => .full) = .ok t → t.pending = s.pending := by
    split
    next u hu =>
      intro hut
      injection hut with hut
      rw [← hut, openBlk_pending hu]
    · nofun
  simp only [State.roomFor] at h
  split_ifs at h
  · injection h with h
    rw [h]
  all_goals exact opened h

@[simp] theorem program_pending (s : State) (ch w u : Nat) : (s.program ch w u).pending = s.pending := by simp [State.program]

@[simp] theorem programFail_pending (s : State) (ch w : Nat) : (s.programFail ch w).pending = s.pending := by
  unfold State.programFail
  dsimp only
  split
  · simp
  next t h => simp [openBlk_pending h]

theorem putUnit_pending {s t : State} {w u fails : Nat} (h : s.putUnit w u fails = .ok t) : t.pending = s.pending := by
  simp only [State.putUnit] at h
  split_ifs at h
  split at h
  next v hv =>
    injection h with h
    rw [← h, program_pending, foldl_pending _ (fun x _ => by simp), roomFor_pending hv]
  next hr => exact absurd h (hr t)

theorem putUnits_pending {s t : State} {w fails : Nat} {us : List Nat} (h : s.putUnits w fails us = .ok t) :
    t.pending = s.pending := by
  induction us generalizing s fails with
  | nil =>
    injection h with h
    rw [h]
  | cons u us ih =>
    unfold State.putUnits at h
    split at h
    next v hv => rw [ih h, putUnit_pending hv]
    next hr => exact absurd h (hr t)

theorem putOwn_pending {s t : State} {bytes fails : Nat} (h : s.putOwn bytes fails = .ok t) : t.pending = s.pending := by
  simpa using putUnits_pending h

@[simp] theorem eraseEmpty_pending (s : State) : (s.eraseEmpty).pending = s.pending := by simp [State.eraseEmpty]

@[simp] theorem mediaFull_pending (s : State) : (s.mediaFull).pending = s.pending := by simp [State.mediaFull]

@[simp] theorem roCheck_pending (s : State) : (s.roCheck).pending = s.pending := by simp [State.roCheck]

@[simp] theorem freeUnits_pending (s : State) (us : List Nat) : (s.freeUnits us).pending = s.pending := by simp [State.freeUnits]

@[simp] theorem nfcEnd_pending (s : State) : s.nfcEnd.pending = s.pending := by
  unfold State.nfcEnd
  split
  · simp
  · dsimp only
    split
    next h => simpa using putOwn_pending h
    · simp

@[simp] theorem tornBlock_pending (s : State) (b : Nat) : (s.tornBlock b).pending = s.pending := by
  unfold State.tornBlock
  split
  · rfl
  · dsimp only
    split
    next h => simpa using putUnits_pending h
    · simp

@[simp] theorem mount_pending (s : State) (torn : List Nat) : (s.mount torn).pending = s.pending := by simp [State.mount]

theorem writeUnits_pending {s t : State} {cls fails : Nat} {us : List Nat} {data : Nat → List Byte}
    (h : s.writeUnits cls fails us data = .ok t) : t.pending = s.pending := by
  unfold State.writeUnits at h
  split at h
  next hp =>
    injection h with h
    rw [← h, setNfc_pending, putUnits_pending hp]
  next hr => exact absurd h (hr t)

@[simp] theorem queueRewrite_pending (s : State) (us : List Nat) :
    (s.queueRewrite us).pending = s.pending := by simp [State.queueRewrite]

theorem nandRead_pending {s : State} {j : NandJob} {corr : Nat} {uncor : List Nat} {r : Status × State × Nat}
    (h : s.nandRead j corr uncor = some r) : r.2.1.pending = s.pending := by
  unfold State.nandRead at h
  split at h
  · injection h with h
    rw [← h]
  extract_lets +onlyGivenNames us s1 s2 bad at h
  split at h
  · injection h with h
    rw [← h]
  · have h1 : s1.pending = s.pending := ite_pending (by simp) rfl
    have h2 : s2.pending = s1.pending := foldl_pending _ (fun t i => by simp) _ s1
    injection h with h
    rw [← h]
    split
    · rw [bump_pending, h2, h1]
    · rw [h2, h1]

theorem nandPut_pending {s : State} {cls lba len fails : Nat} {data : Nat → List Byte} {r : Status × State × Nat}
    (h : s.nandPut cls lba len fails data = some r) : r.2.1.pending = s.pending := by
  simp only [State.nandPut] at h
  split at h
  · injection h with h
    rw [← h]
  split at h
  · injection h with h
    rw [← h]
  split at h
  next hw =>
    injection h with h
    rw [← h]
    simp [writeUnits_pending hw]
  · injection h with h
    simp [← h]
  · cases h

theorem nandWrite_pending {s : State} {j : NandJob} {fails : Nat} {r : Status × State × Nat}
    (h : s.nandWrite j fails = some r) : r.2.1.pending = s.pending := by
  simp only [State.nandWrite] at h
  split at h
  · injection h with h
    rw [← h]
  split at h
  · injection h with h
    simp [← h]
  · simpa using nandPut_pending h

theorem nandMigrate_pending {s : State} {j : NandJob} {fails : Nat} {r : Status × State × Nat}
    (h : s.nandMigrate j fails = some r) : r.2.1.pending = s.pending := by
  simp only [State.nandMigrate] at h
  split at h
  · injection h with h
    rw [← h]
  split at h
  · injection h with h
    rw [← h]
  split at h
  · injection h with h
    rw [← h]
  · exact nandPut_pending h

theorem nandTrim_pending {s : State} {j : NandJob} {r : Status × State × Nat} (h : s.nandTrim j = some r) :
    r.2.1.pending = s.pending := by
  simp only [State.nandTrim] at h
  split at h
  all_goals
    injection h with h
    simp [← h]

@[simp] theorem nandRow_pending (s : State) (rowOp : Nat → Bool) (run : State → NandJob → NandEnd)
    (hrun : ∀ t j r, run t j = some r → r.2.1.pending = t.pending) : (s.nandRow rowOp run).pending = s.pending := by
  unfold State.nandRow
  dsimp only
  refine ite_pending rfl ?_
  split
  · rfl
  refine ite_pending rfl (ite_pending (by simp) ?_)
  split
  next h =>
    rw [hwEnqueue_pending]
    exact (hrun _ _ _ h).trans (dequeued_pending ..)
  · rfl

@[simp] theorem execNandRead_keeps (corr : Nat) (uncor : List Nat) (s : State) : KeepsPending s (execNandRead corr uncor s) :=
  keeps_of_live ((keeps_next ..).2 (nandRow_pending _ _ _ fun _ _ _ h => nandRead_pending h))

@[simp] theorem execNandWrite_keeps (fails : Nat) (s : State) : KeepsPending s (execNandWrite fails s) :=
  keeps_of_live ((keeps_next ..).2 (nandRow_pending _ _ _ fun _ _ _ h => nandWrite_pending h))

@[simp] theorem execNandTrim_keeps (s : State) : KeepsPending s (execNandTrim s) :=
  keeps_of_live ((keeps_next ..).2 (nandRow_pending _ _ _ fun _ _ _ h => nandTrim_pending h))

@[simp] theorem execNandMigrate_keeps (fails : Nat) (s : State) : KeepsPending s (execNandMigrate fails s) :=
  keeps_of_live ((keeps_next ..).2 (nandRow_pending _ _ _ fun _ _ _ h => nandMigrate_pending h))

@[simp] theorem vacate_pending (s : State) (b fails : Nat) (eraseFails : Bool) :
    (s.vacate b fails eraseFails).pending = s.pending := by
  unfold State.vacate
  split
  next h => simp [putUnits_pending h]
  · rfl

@[simp] theorem execIdleGc_keeps (ch : Fin 2) (fails : Nat) (eraseFails : Bool) (s : State) :
    KeepsPending s (execIdleGc ch fails eraseFails s) := by
  unfold execIdleGc
  (repeat' split) <;> simp

@[simp] theorem execForegroundGc_keeps (ch : Fin 2) (fails : Nat) (eraseFails : Bool) (s : State) :
    KeepsPending s (execForegroundGc ch fails eraseFails s) := by
  unfold execForegroundGc
  dsimp only
  (repeat' split) <;> simp

@[simp] theorem closeBlk_pending (s : State) (b : Nat) : (s.closeBlk b).pending = s.pending := by simp [State.closeBlk]

@[simp] theorem execWearLevelMove_keeps (fails : Nat) (eraseFails : Bool) (s : State) :
    KeepsPending s (execWearLevelMove fails eraseFails s) := by
  rw [execWearLevelMove]
  refine keeps_of_live (keeps_of_ite (by simp) ?_)
  split
  · simp
  split
  · simp
  dsimp only
  refine keeps_of_ite (by simp) ?_
  rw [keeps_next, nfcEnd_pending, erase_pending, foldl_pending _ (fun t u => by simp), setBlk_pending,
    foldl_pending _ (fun t u => by simp)]

@[simp] theorem execBlockRewrite_keeps (fails : Nat) (eraseFails : Bool) (s : State) :
    KeepsPending s (execBlockRewrite fails eraseFails s) := by
  unfold execBlockRewrite
  (repeat' split) <;> simp

/-! ### Storage -/

@[simp] theorem tailPast_pending (s : State) (e : RingEnt) : (s.tailPast e).pending = s.pending := by simp [State.tailPast]

@[simp] theorem execDrainBatchComplete_keeps (fails : Nat) (s : State) : KeepsPending s (execDrainBatchComplete fails s) := by
  rw [execDrainBatchComplete]
  dsimp only
  refine keeps_of_live (keeps_of_ite (by simp) ?_)
  split
  · simp
  · simp
  next h =>
    rw [keeps_next, ringRetry_pending, nfcEnd_pending, foldl_pending _ (fun t e => by simp), setMrm_pending, putOwn_pending h]

@[simp] theorem ckptStart_pending (s : State) : (s.ckptStart).pending = s.pending := rfl

@[simp] theorem mrmckptWrite_pending (s : State) (v : Nat) :
    (s.mrmckptWrite v).pending = s.pending := by simp [State.mrmckptWrite]

@[simp] theorem ckptHold_pending (s : State) : (s.ckptHold).pending = s.pending := by simp [State.ckptHold]

@[simp] theorem ckptCommit_pending (t : State) (recs : List CkptRec) (us : List Nat) :
    (t.ckptCommit recs us).pending = t.pending := by simp [State.ckptCommit]

@[simp] theorem execCheckpointComplete_keeps (fails : Nat) (s : State) : KeepsPending s (execCheckpointComplete fails s) := by
  rw [execCheckpointComplete]
  refine keeps_of_live ?_
  split
  · simp
  dsimp only
  refine keeps_of_ite (by simp) ?_
  split
  · simp
  · simp
  next h => simp [putOwn_pending h]

@[simp] theorem execRinsePass_keeps (m : Fin 4) (s : State) : KeepsPending s (execRinsePass m s) := by
  unfold execRinsePass
  dsimp only
  (repeat' split) <;> simp

/-! ### Recorder -/

@[simp] theorem evrpostWrite_pending (s : State) (a : Agent) (v : Nat) : (s.evrpostWrite a v).pending = s.pending := by
  unfold State.evrpostWrite
  dsimp only
  (repeat' split) <;> simp

@[simp] theorem clearSlot_pending (s : State) (sev k : Nat) : (s.clearSlot sev k).pending = s.pending := by simp [State.clearSlot]

@[simp] theorem evrctlWrite_pending (s : State) (v : Nat) : (s.evrctlWrite v).pending = s.pending := by simp [State.evrctlWrite]

@[simp] theorem optSave_pending (s : State) : (s.optSave).pending = s.pending := rfl

/-! ### Clocks -/

@[simp] theorem setLockBit_pending (s : State) (n : Nat) (b : Bool) : (s.setLockBit n b).pending = s.pending := rfl

@[simp] theorem execRefclkLoss_keeps (s : State) : KeepsPending s (execRefclkLoss s) := by
  simp only [execRefclkLoss, keeps_next]
  rw [setClk_pending]
  refine ite_pending ?_ ?_
  · rw [setLockBit_pending, foldl_pending _ (fun t n => by simp)]
  · rw [foldl_pending _ (fun t n => by simp)]

@[simp] theorem enDown_pending (s : State) (k : Nat) : (s.enDown k).pending = s.pending := by simp [State.enDown]

@[simp] theorem clkctlWrite_pending (s : State) (v : Nat) : (s.clkctlWrite v).pending = s.pending := by simp [State.clkctlWrite]

/-! ### Fence -/

@[simp] theorem fenceEvent_pending (s : State) (n : Nat) : (s.fenceEvent n).pending = s.pending := by simp [State.fenceEvent]

@[simp] theorem fenceBit_pending (s : State) (n : Nat) : (s.fenceBit n).pending = s.pending := by simp [State.fenceBit]

@[simp] theorem fenceSet_pending (s : State) (v : Nat) : (s.fenceSet v).pending = s.pending := by simp [State.fenceSet]

@[simp] theorem fenceNow_pending (s : State) (n : Nat) : (s.fenceNow n).pending = s.pending := by simp [State.fenceNow]

/-! ### Power -/

@[simp] theorem bootStopAt_pending (s : State) (step cause : Nat) : (s.bootStopAt step cause).pending = s.pending := rfl

@[simp] theorem bootEnd_pending (s : State) (m : Nat) : (s.bootEnd m).pending = s.pending := rfl

@[simp] theorem bootClocks_pending (s : State) (f : RomFacts) : (s.bootClocks f).pending = s.pending := by
  unfold State.bootClocks
  (repeat' split) <;> simp

@[simp] theorem ddrPut_pending (s : State) (i : Nat) (d : DdrFound) : (s.ddrPut i d).pending = s.pending := rfl

@[simp] theorem bootMemory_pending (s : State) (f : RomFacts) : (s.bootMemory f).1.pending = s.pending := by
  unfold State.bootMemory
  dsimp only
  (repeat' split) <;> simp

@[simp] theorem aonReload_pending (s : State) : s.aonReload.pending = s.pending := setPwr_pending ..

@[simp] theorem bootImage_pending (s : State) : s.bootImage.pending = s.pending := by
  simp only [State.bootImage]
  generalize hs : (ite (s.life = lifeField ∧ (!s.flag fAONWDT_EN) = true) _ _) = s2
  have h2 : s2.pending = s.pending := by
    rw [← hs]
    split
    · rw [aonReload_pending, setFlag_pending, setMrm_pending]
    · rw [setMrm_pending]
  have hp := (imageSelect_pending s2).trans h2
  split
  · rw [bootEnd_pending, h2]
  · split
    next t h =>
      rw [h] at hp
      rwa [bootEnd_pending]
    next t n h =>
      rw [h] at hp
      simpa using hp

@[simp] theorem recMend_pending (s : State) : s.recMend.pending = s.pending :=
  foldl_pending _ (fun t e => by simp) _ s

@[simp] theorem bootRom_pending (s : State) (f : RomFacts) : (s.bootRom f).pending = s.pending := by
  rw [State.bootRom]
  have hm := bootMemory_pending ((s.setFlag fPFSTAT_PFAIL false).recMend.bootClocks f) f
  rw [bootClocks_pending, recMend_pending, setFlag_pending] at hm
  split
  · rfl
  · split
    · rw [fset_pending, setFlag_pending]
    · split
      · rw [setFlag_pending]
      · split
        next t h => rwa [h] at hm
        next t h =>
          rw [h] at hm
          rw [bootImage_pending]
          exact hm

@[simp] theorem bootSettings_pending (s : State) (f : Settings) :
    (s.bootSettings f).pending = s.pending := by simp [State.bootSettings]

@[simp] theorem execBootStart_keeps (op : BootOp) (s : State) : KeepsPending s (execBootStart op s) := by
  unfold execBootStart
  split <;> simp

@[simp] theorem dl3From_pending (s : State) : (s.dl3From).pending = s.pending := by simp [State.dl3From]

@[simp] theorem enterStandby_pending (s : State) : (s.enterStandby).pending = s.pending := by simp [State.enterStandby]

@[simp] theorem enterService_pending (s : State) : (s.enterService).pending = s.pending := by simp [State.enterService]

@[simp] theorem roleDecide_pending (s : State) (clash : Bool) :
    (s.roleDecide clash).pending = s.pending := by simp [State.roleDecide]

@[simp] theorem modectlWrite_pending (s : State) (v : Nat) :
    (s.modectlWrite v).pending = s.pending := by simp [State.modectlWrite]

@[simp] theorem pfailClose_pending (s : State) : (s.pfailClose).pending = s.pending := by simp [State.pfailClose]

@[simp] theorem pfailRun_pending (s : State) : (s.pfailRun).pending = s.pending := by simp [State.pfailRun]

@[simp] theorem pfailPart_pending (s : State) : (s.pfailPart).pending = s.pending := by
  unfold State.pfailPart
  split <;> simp

@[simp] theorem quietEnter_pending (s : State) : (s.quietEnter).pending = s.pending := by simp [State.quietEnter]

@[simp] theorem runEnter_pending (s : State) : (s.runEnter).pending = s.pending := by simp [State.runEnter]

@[simp] theorem sleepEnter_pending (s : State) : (s.sleepEnter).pending = s.pending := by simp [State.sleepEnter]

@[simp] theorem lpctlWrite_pending (s : State) (v : Nat) : (s.lpctlWrite v).pending = s.pending := by
  unfold State.lpctlWrite
  split <;> simp

@[simp] theorem woken_pending (s : State) : s.woken.pending = s.pending := by
  simp only [State.woken]
  generalize hs : List.foldl _ _ wakeKept = s2
  have h2 : s2.pending = s.pending := by
    rw [← hs, foldl_pending _ (fun t r => by simp), keep_pending, resetCsrs_pending]
  rw [setReg_pending, setPwr_pending, copyMem_pending, setMrm_pending, setTwn_pending, setLdg_pending, setSes_pending, h2]

@[simp] theorem wakeUp_pending (s : State) (ticks : Nat) : (s.wakeUp ticks).pending = s.pending := by
  simp only [State.wakeUp]
  split
  · rw [doReset_pending, setFlag_pending, setTime_pending]
  · rw [setPwr_pending, ccStartAll_pending, setFlag_pending, fset_pending, woken_pending, setFlag_pending, setTime_pending]

@[simp] theorem wakeCut_pending (s : State) (ticks : Nat) : (s.wakeCut ticks).pending = s.pending := by
  rw [State.wakeCut, pfailRun_pending, setFlag_pending, setPwr_pending, setFlag_pending, setTime_pending]

@[simp] theorem wakePath_pending (s : State) (ticks : Nat) (cut : Bool) :
    (s.wakePath ticks cut).pending = s.pending := by simp [State.wakePath]

@[simp] theorem execSleepWake_keeps (w : Wake) (s : State) : KeepsPending s (execSleepWake w s) := by
  unfold execSleepWake
  (repeat' split) <;> simp

@[simp] theorem wdtReload_pending (s : State) : s.wdtReload.pending = s.pending := setPwr_pending ..

@[simp] theorem wdtWarn_pending (s : State) : (s.wdtWarn).pending = s.pending := rfl

@[simp] theorem wdtExpire_pending (s : State) : (s.wdtExpire).pending = s.pending := by simp [State.wdtExpire]

@[simp] theorem wdtkickWrite_pending (s : State) (v : Nat) : (s.wdtkickWrite v).pending = s.pending := by
  unfold State.wdtkickWrite
  split_ifs
  · simp
  · simp
  · rw [say_pending, setPwr_pending, aonReload_pending, wdtReload_pending]

@[simp] theorem wdtctlWrite_pending (s : State) (v : Nat) : (s.wdtctlWrite v).pending = s.pending := by simp [State.wdtctlWrite]

@[simp] theorem dstallWrite_pending (s : State) (v : Nat) : (s.dstallWrite v).pending = s.pending := by simp [State.dstallWrite]

@[simp] theorem aonwdtWrite_pending (s : State) (v : Nat) : (s.aonwdtWrite v).pending = s.pending := by simp [State.aonwdtWrite]

/-! ### CsrWrite -/

@[simp] theorem plainWrite_pending (s : State) (b v : Nat) : (s.plainWrite b v).pending = s.pending := by
  unfold State.plainWrite
  split <;> simp

@[simp] theorem guarded_pending (s : State) (b v : Nat) (checks : List (Bool × Status)) :
    (s.guarded b v checks).pending = s.pending := by
  unfold State.guarded
  split <;> simp

@[simp] theorem wrSystem_pending (s : State) (b v : Nat) : (s.wrSystem b v).pending = s.pending := by simp [State.wrSystem]

@[simp] theorem winWrite_pending (s : State) (a : Agent) (b v : Nat) :
    (s.winWrite a b v).pending = s.pending := by simp [State.winWrite]

@[simp] theorem wrCcx_pending (s : State) (a : Agent) (b v : Nat) : (s.wrCcx a b v).pending = s.pending := by simp [State.wrCcx]

@[simp] theorem wrQueue_pending (s : State) (b v : Nat) : (s.wrQueue b v).pending = s.pending := by simp [State.wrQueue]

@[simp] theorem ldgcfgWrite_pending (s : State) (v : Nat) : (s.ldgcfgWrite v).pending = s.pending := by simp [State.ldgcfgWrite]

@[simp] theorem wrLedger_pending (s : State) (b v : Nat) : (s.wrLedger b v).pending = s.pending := by simp [State.wrLedger]

@[simp] theorem cmtcfgWrite_pending (s : State) (v : Nat) : (s.cmtcfgWrite v).pending = s.pending := by simp [State.cmtcfgWrite]

@[simp] theorem wrMetrology_pending (s : State) (b v : Nat) :
    (s.wrMetrology b v).pending = s.pending := by simp [State.wrMetrology]

@[simp] theorem wrPlPort_pending (s : State) (b v : Nat) : (s.wrPlPort b v).pending = s.pending := by simp [State.wrPlPort]

@[simp] theorem wrPls_pending (s : State) (b v : Nat) : (s.wrPls b v).pending = s.pending := by simp [State.wrPls]

@[simp] theorem wrRadio_pending (s : State) (b v : Nat) : (s.wrRadio b v).pending = s.pending := by simp [State.wrRadio]

@[simp] theorem tmpcfgWrite_pending (s : State) (v : Nat) : (s.tmpcfgWrite v).pending = s.pending := by simp [State.tmpcfgWrite]

@[simp] theorem wrCrypto_pending (s : State) (b v : Nat) : (s.wrCrypto b v).pending = s.pending := by simp [State.wrCrypto]

@[simp] theorem semcfgWrite_pending (s : State) (v : Nat) : (s.semcfgWrite v).pending = s.pending := by simp [State.semcfgWrite]

@[simp] theorem wrPorts_pending (s : State) (b v : Nat) : (s.wrPorts b v).pending = s.pending := by simp [State.wrPorts]

@[simp] theorem wrRep_pending (s : State) (b v : Nat) : (s.wrRep b v).pending = s.pending := by simp [State.wrRep]

@[simp] theorem wrTime_pending (s : State) (b v : Nat) : (s.wrTime b v).pending = s.pending := by simp [State.wrTime]

@[simp] theorem wrTwin_pending (s : State) (b v : Nat) : (s.wrTwin b v).pending = s.pending := by simp [State.wrTwin]

@[simp] theorem wrStorage_pending (s : State) (a : Agent) (b v : Nat) :
    (s.wrStorage a b v).pending = s.pending := by simp [State.wrStorage]

@[simp] theorem regWrite_pending (s : State) (a : Agent) (b v : Nat) :
    (s.regWrite a b v).pending = s.pending := by simp [State.regWrite]

@[simp] theorem wordWrite_pending (s : State) (a : Agent) (csr w : Nat) : (s.wordWrite a csr w).pending = s.pending := by
  unfold State.wordWrite
  split <;> simp

@[simp] theorem csrWord_pending (s : State) (a : Agent) (csr : Nat) (w : Word) :
    (s.csrWord a csr w).pending = s.pending := by simp [State.csrWord]

/-! ### CsrRead -/

@[simp] theorem readEffect_pending (s : State) (r : RegRow) (b i : Nat) :
    (s.readEffect r b i).pending = s.pending := by simp [State.readEffect]

@[simp] theorem wordRead_pending (s : State) (a : Option Agent) (csr : Nat) : (s.wordRead a csr).1.pending = s.pending := by
  unfold State.wordRead
  dsimp only
  (repeat' split) <;> simp

@[simp] theorem csrRead_pending (s : State) (a : Agent) (csr : Nat) :
    (s.csrRead a csr).pending = s.pending := by simp [State.csrRead]

@[simp] theorem csrReadIf_pending (s : State) (a : Agent) (csr : Nat) (kind : RegRow → Nat → Bool) :
    (s.csrReadIf a csr kind).pending = s.pending := by
  unfold State.csrReadIf
  split <;> simp

@[simp] theorem telRead_pending (s : State) (csr : Nat) : (s.telRead csr).1.pending = s.pending := by
  unfold State.telRead
  dsimp only
  (repeat' split) <;> simp

@[simp] theorem telEntries_pending (s : State) (cs : List Nat) : (s.telEntries cs).1.pending = s.pending := by
  induction cs generalizing s with
  | nil => rfl
  | cons c cs ih =>
    rw [State.telEntries]
    exact (ih _).trans (telRead_pending ..)

@[simp] theorem counters_pending (s : State) (cs : List Nat) : (s.counters cs).pending = s.pending := by simp [State.counters]

@[simp] theorem exportRec_pending (s : State) (k : Nat) : (s.exportRec k).pending = s.pending := by simp [State.exportRec]

@[simp] theorem execTelemetryPass_keeps (s : State) : KeepsPending s (execTelemetryPass s) := by
  rw [execTelemetryPass]
  dsimp only
  refine keeps_of_live (keeps_of_ite (by simp) ?_)
  rw [keeps_next, bump_pending, setEvr_pending, foldl_pending _ (fun t k => by simp), foldl_pending _ (fun t cs => by simp)]

/-! ### Tap -/

@[simp] theorem sampled_pending (s : State) : (s.sampled).pending = s.pending := by simp [State.sampled]

@[simp] theorem irFree_pending (s : State) (code : Nat) : (s.irFree code).pending = s.pending := by simp [State.irFree]

@[simp] theorem irHold_pending (s : State) (code : Nat) : (s.irHold code).pending = s.pending := by simp [State.irHold]

@[simp] theorem execExtest_keeps (scan : Option (BitVec 601)) (s : State) : KeepsPending s (execExtest scan s) := by
  unfold execExtest
  split <;> simp

@[simp] theorem mailbox_pending (s : State) (addr : Nat) (write : Bool) (data : Nat) :
    (s.mailbox addr write data).pending = s.pending := by simp [State.mailbox]

@[simp] theorem mboxAccess_pending (s : State) (data addr : Nat) (mailbox write : Bool) :
    (s.mboxAccess data addr mailbox write).pending = s.pending := by simp [State.mboxAccess]

/-! ### Cervik -/

@[simp] theorem onCpu_pending (s : State) (c : CoreId) (f : Cpu → Cpu) :
    (s.onCpu c f).pending = s.pending := by simp [State.onCpu]

@[simp] theorem violation_pending (s : State) (st : Status) : (s.violation st).pending = s.pending := by simp [State.violation]

@[simp] theorem fault_pending (s : State) (k cause : Nat) (st : Status) (eaddr : Word) :
    (s.fault k cause st eaddr).pending = s.pending := by simp [State.fault]

@[simp] theorem interrupt_pending (s : State) (k l : Nat) : (s.interrupt k l).pending = s.pending := by simp [State.interrupt]

@[simp] theorem execInterruptTake_keeps (k : Fin 4) (s : State) : KeepsPending s (execInterruptTake k s) := by
  unfold execInterruptTake
  split <;> simp

@[simp] theorem fetchRead_pending (s : State) (k : Nat) (p : Place) :
    (s.fetchRead k p).pending = s.pending := by simp [State.fetchRead]

@[simp] theorem fetched_pending (s : State) (k : Nat) (f : State → State) (hf : ∀ t, (f t).pending = t.pending) :
    (s.fetched k f).pending = s.pending := by
  unfold State.fetched
  dsimp only
  split
  · simp
  · split
    · simp
    · split <;> simp [hf]

@[simp] theorem charge_pending (s : State) (n : Nat) (it : Item) (w : Nat) (f : State → State)
    (hf : ∀ t, (f t).pending = t.pending) : (s.charge n it w f).pending = s.pending := by
  unfold State.charge
  dsimp only
  split <;> simp [hf]

@[simp] theorem lcIllegal_pending (s : State) (n : Nat) (it : Item) :
    (s.lcIllegal n it).pending = s.pending := by simp [State.lcIllegal]

@[simp] theorem onLc_pending (s : State) (n w : Nat) (f : Item → State → State) (hf : ∀ it t, (f it t).pending = t.pending) :
    (s.onLc n w f).pending = s.pending := by
  unfold State.onLc
  split
  · split <;> simp [hf]
  · rfl

@[simp] theorem onCc_pending (s : State) (k : Nat) (f : State → State) (hf : ∀ t, (f t).pending = t.pending) :
    (s.onCc k f).pending = s.pending := by
  simp [State.onCc, hf]

@[simp] theorem issue_keeps (s : State) (c : CoreId) (f : State → State) (hf : ∀ t, (f t).pending = t.pending) :
    KeepsPending s (s.issue c f) := by
  apply keeps_of_live
  cases c <;> simp [hf]

@[simp] theorem issueC_keeps (s : State) (k : Fin 4) (f : State → State) (hf : ∀ t, (f t).pending = t.pending) :
    KeepsPending s (s.issueC k f) := by
  simp [State.issueC, hf]

@[simp] theorem issueL_keeps (s : State) (n : Fin 64) (w : Nat) (f : Item → State → State)
    (hf : ∀ it t, (f it t).pending = t.pending) : KeepsPending s (s.issueL n w f) := by
  simp [State.issueL, hf]

@[simp] theorem ccIllegal_pending (s : State) (k : Nat) : (s.ccIllegal k).pending = s.pending := by simp [State.ccIllegal]

@[simp] theorem execIllegalOpcode_keeps (c : CoreId) (w : Word) (s : State) : KeepsPending s (execIllegalOpcode c w s) := by
  unfold execIllegalOpcode
  split <;> simp

/-! ### CervikMem -/

@[simp] theorem dropLine_pending (s : State) (l : Nat) : (s.dropLine l).pending = s.pending := by simp [State.dropLine]

@[simp] theorem cleanLine_pending (s : State) (l : Nat) : (s.cleanLine l).pending = s.pending := by
  unfold State.cleanLine
  split <;> simp

@[simp] theorem fillLine_pending (s : State) (k l : Nat) : (s.fillLine k l).pending = s.pending := by
  unfold State.fillLine
  split <;> simp

@[simp] theorem giveUp_pending (s : State) (k l : Nat) : (s.giveUp k l).pending = s.pending := by
  unfold State.giveUp
  split <;> simp

@[simp] theorem cleanOwn_pending (s : State) (k l : Nat) : (s.cleanOwn k l).pending = s.pending := by
  unfold State.cleanOwn
  split <;> simp

@[simp] theorem cleanAll_pending (s : State) (k : Nat) : (s.cleanAll k).pending = s.pending := by simp [State.cleanAll]

@[simp] theorem correctEdges_pending (s : State) (a n : Nat) :
    (s.correctEdges a n).pending = s.pending := by simp [State.correctEdges]

@[simp] theorem loadAt_pending (s : State) (k : Nat) (p : Place) (n : Nat) : (s.loadAt k p n).1.pending = s.pending := by
  unfold State.loadAt
  split <;> simp

@[simp] theorem storeAt_pending (s : State) (k : Nat) (p : Place) (bs : List Byte) (bad : Bool) :
    (s.storeAt k p bs bad).pending = s.pending := by
  unfold State.storeAt
  dsimp only
  (repeat' split) <;> simp

@[simp] theorem ccDo_pending (s : State) (k : Nat) (f : Cpu → Cpu) : (s.ccDo k f).pending = s.pending := by simp [State.ccDo]

@[simp] theorem ccAfter_pending (s : State) (k : Nat) (old : CCore) (f : Cpu → Cpu) :
    (s.ccAfter k old f).pending = s.pending := by simp [State.ccAfter]

@[simp] theorem ccRefuse_pending (s : State) (k : Nat) (st : Status) :
    (s.ccRefuse k st).pending = s.pending := by simp [State.ccRefuse]

@[simp] theorem ccCsrLoad_pending (s : State) (k csr : Nat) (f : Nat → Cpu → Cpu) :
    (s.ccCsrLoad k csr f).pending = s.pending := by simp [State.ccCsrLoad]

@[simp] theorem ccCsrStore_pending (s : State) (k csr : Nat) (v : GReg) :
    (s.ccCsrStore k csr v).pending = s.pending := by simp [State.ccCsrStore]

@[simp] theorem ccLoad_pending (s : State) (k : Nat) (w : Width) (rd a : RegNo) (i : BitVec 12) :
    (s.ccLoad k w rd a i).pending = s.pending := by
  unfold State.ccLoad
  dsimp only
  (repeat' split) <;> simp

@[simp] theorem ccStore_pending (s : State) (k : Nat) (w : Width) (rd a : RegNo) (i : BitVec 12) :
    (s.ccStore k w rd a i).pending = s.pending := by
  unfold State.ccStore
  dsimp only
  (repeat' split) <;> simp

@[simp] theorem lcDo_pending (s : State) (n : Nat) (f : Cpu → Cpu) : (s.lcDo n f).pending = s.pending := by simp [State.lcDo]

@[simp] theorem lcRefuse_pending (s : State) (n : Nat) (st : Status) :
    (s.lcRefuse n st).pending = s.pending := by simp [State.lcRefuse]

@[simp] theorem lcAccess_pending (s : State) (n : Nat) (it : Item) (w : Width) (store : Bool) (win : BitVec 3) (rd a : RegNo)
    (i : BitVec 12) (f : Nat → State) (hf : ∀ x, (f x).pending = s.pending) :
    (s.lcAccess n it w store win rd a i f).pending = s.pending := by
  simp only [State.lcAccess]
  split_ifs
  · simp
  · simp
  · simp
  · split
    · simp
    · exact hf _

@[simp] theorem lcLoad_pending (s : State) (n : Nat) (it : Item) (w : Width) (win : BitVec 3) (rd a : RegNo) (i : BitVec 12) :
    (s.lcLoad n it w win rd a i).pending = s.pending := by simp [State.lcLoad]

@[simp] theorem lcStore_pending (s : State) (n : Nat) (it : Item) (w : Width) (win : BitVec 3) (rd a : RegNo) (i : BitVec 12) :
    (s.lcStore n it w win rd a i).pending = s.pending := by simp [State.lcStore]

/-! ### CervikSys -/

@[simp] theorem lineOp_pending (s : State) (k : Nat) (right : Acc) (a : RegNo) (f : Nat → State)
    (hf : ∀ x, (f x).pending = s.pending) : (s.lineOp k right a f).pending = s.pending := by
  simp only [State.lineOp]
  split
  · simp
  · split <;> simp [hf]

@[simp] theorem execIinv_keeps (k : Fin 4) (a : RegNo) (s : State) : KeepsPending s (execIinv k a s) := by
  refine issueC_keeps _ _ _ fun t => lineOp_pending _ _ _ _ _ fun x => ?_
  simp

@[simp] theorem execIinva_keeps (k : Fin 4) (s : State) : KeepsPending s (execIinva k s) := by
  exact issueC_keeps _ _ _ fun t => setCc_pending ..

@[simp] theorem execWfi_keeps (k : Fin 4) (s : State) : KeepsPending s (execWfi k s) := by
  exact issueC_keeps _ _ _ fun t => setCc_pending ..

@[simp] theorem execWfiWake_keeps (k : Fin 4) (s : State) : KeepsPending s (execWfiWake k s) := by
  unfold execWfiWake
  split <;> simp

@[simp] theorem execMfsr_keeps (k : Fin 4) (rd : RegNo) (n : BitVec 5) (s : State) : KeepsPending s (execMfsr k rd n s) := by
  refine issueC_keeps _ _ _ fun t => ?_
  split
  · simp
  · simp

@[simp] theorem ring_pending (s : State) (k v : Nat) : (s.ring k v).pending = s.pending := by simp [State.ring]

theorem setSpecial_pending {s t : State} {k n : Nat} {v : Word} (h : s.setSpecial k n v = some t) : t.pending = s.pending := by
  unfold State.setSpecial at h
  split at h
  case h_7 => contradiction
  all_goals
    injection h with h
    rw [← h]
    simp

@[simp] theorem execMtsr_keeps (k : Fin 4) (rs1 : RegNo) (n : BitVec 5) (s : State) : KeepsPending s (execMtsr k rs1 n s) := by
  refine issueC_keeps s k _ fun t => ?_
  dsimp only
  split
  next h => simp [setSpecial_pending h]
  · simp

@[simp] theorem execEnq_keeps (k : Fin 4) (ra : RegNo) (q : BitVec 8) (s : State) : KeepsPending s (execEnq k ra q s) := by
  refine issueC_keeps _ _ _ fun t => ?_
  dsimp only
  split
  · simp
  · split <;> simp

@[simp] theorem deqTake_pending (s : State) (k : Nat) (ra : RegNo) (q : Nat) :
    (s.deqTake k ra q).pending = s.pending := by simp [State.deqTake]

@[simp] theorem execDeq_keeps (k : Fin 4) (ra : RegNo) (q : BitVec 8) (s : State) : KeepsPending s (execDeq k ra q s) := by
  refine issueC_keeps _ _ _ fun t => ?_
  dsimp only
  split
  · simp
  · split <;> simp

@[simp] theorem execDeqt_keeps (k : Fin 4) (ra : RegNo) (q : BitVec 8) (s : State) : KeepsPending s (execDeqt k ra q s) := by
  refine issueC_keeps _ _ _ fun t => ?_
  split
  · simp
  · exact ite_pending (by simp) (by simp)

@[simp] theorem lockTaken_pending (s : State) (k : Nat) (ra : RegNo) (n : Nat) :
    (s.lockTaken k ra n).pending = s.pending := by simp [State.lockTaken]

@[simp] theorem lockOp_pending (s : State) (k : Nat) (ra : RegNo) (n : Nat) (stall : Bool) :
    (s.lockOp k ra n stall).pending = s.pending := by simp [State.lockOp]

/-! ### CervikLedger -/

@[simp] theorem poisonIf_pending (s : State) (a n : Nat) (bad : Bool) :
    (s.poisonIf a n bad).pending = s.pending := by simp [State.poisonIf]

@[simp] theorem tackMerge_pending (s : State) (e : Nat) (t : Tack) (bad : Bool) :
    (s.tackMerge e t bad).pending = s.pending := by simp [State.tackMerge]

@[simp] theorem tackConflict_pending (s : State) (a : Nat) (hits : List Nat) : (s.tackConflict a hits).pending = s.pending :=
  foldl_pending _ (fun u i => by simp) _ s

@[simp] theorem tackInsert_pending (s : State) (a cnt pos : Nat) (t : Tack) (bad : Bool) :
    (s.tackInsert a cnt pos t bad).pending = s.pending := by simp [State.tackInsert]

@[simp] theorem tackOp_pending (s : State) (n : Nat) (t : Tack) (bad : Bool) : (s.tackOp n t bad).pending = s.pending := by
  unfold State.tackOp
  dsimp only
  (repeat' split) <;> simp

@[simp] theorem pressMove_pending (s : State) (a dst m : Nat) :
    (s.pressMove a dst m).pending = s.pending := by simp [State.pressMove]

@[simp] theorem execMaxd_keeps (n : Fin 64) (ra rb : RegNo) (s : State) : KeepsPending s (execMaxd n ra rb s) := by
  refine issueL_keeps _ _ _ _ fun _ t => ?_
  dsimp only
  split
  · simp
  · simp

@[simp] theorem execSatadd_keeps (n : Fin 64) (ra rb : RegNo) (s : State) : KeepsPending s (execSatadd n ra rb s) := by
  refine issueL_keeps _ _ _ _ fun _ t => ?_
  dsimp only
  split
  · simp
  · simp

@[simp] theorem execEmit_keeps (n : Fin 64) (ra rb : RegNo) (typ : BitVec 8) (s : State) :
    KeepsPending s (execEmit n ra rb typ s) := by
  refine issueL_keeps _ _ _ _ fun _ t => ?_
  dsimp only
  split <;> simp

@[simp] theorem lcWait_pending (s : State) (n : Nat) : (s.lcWait n).pending = s.pending := by simp [State.lcWait]

/-! ## Every command -/

/-- Every command goes on, and leaves the queue of commands as it was. -/
theorem exec_keeps (c : Instr) (s : State) : KeepsPending s (exec c s) := by
  cases c with
  | kepUplinkFrame | kepAckSend | downlinkFrameSend | keyUpdateSend | dlmsApdu | relayEnvelopeReceive =>
    simp [exec, execKepUplinkFrame, execDownlinkFrameSend]
  | ceilingRaise | aesGcmEncrypt | aesGcmDecrypt | aesCcmEncrypt | aesCcmDecrypt | aesCtr | aesCmacGenerate | aesCmacVerify |
      fwCampaignOpen | setpointArm | setpointCancel | setpointFire =>
    simp [exec, execCeilingRaise, execAesGcmEncrypt, execAesGcmDecrypt, execAesCcmEncrypt, execAesCcmDecrypt, execAesCtr,
      execAesCmacGenerate, execAesCmacVerify, execFwCampaignOpen, execSetpointArm, execSetpointCancel, execSetpointFire]
  | ethFrameReceive | pfxInsert | pfxDelete | eptWrite | eptDelete | eptRead | ethernetLinkChange =>
    simp [exec, execPfxInsert, execPfxDelete, execEptWrite, execEptDelete, execEptRead, execEthernetLinkChange]
  | neighbourAgeSweep | nbtPin | nbtUnpin | nbtDelete =>
    simp [exec, execNbtPin, execNbtUnpin, execNbtDelete]
  | plFrameReceive | plTxQueue | driverRequest | driverGrant | driverRelease | driverMaxdeferExpiry | plAccessSlot |
      plAckSend | plAckReceive | plAckTimeout | toneMapExpiry =>
    simp [exec, execDriverRequest, execDriverGrant, execToneMapExpiry]
  | rfDetection | rfFrameDeliver | rfAckSend | superframeStart | rfRunTransmit | rfTxTimeout | slotSwapRequest |
      beaconReceive | beaconWindowClose | floodRelayEligible | floodOriginate | lintTrapSweep | sleepySend | rfRealign =>
    simp [exec, execRfDetection, execRfTxTimeout, execSlotSwapRequest, execBeaconReceive, execBeaconWindowClose,
      execFloodOriginate, execLintTrapSweep, execRfRealign]
  | kepAckDrop | relayDownlinkTransmit =>
    simp [exec]
  | gen | invalidate | setpub | pubout | keyImport | keyExport | genpkt | importpkt | rewrap | attest | auth =>
    simp [exec, execGen, execInvalidate, execSetpub, execPubout, execImport, execExport, execGenpkt, execImportpkt, execRewrap,
      execAttest, execAuth]
  | sha3x256 | sha3x512 | shake128 | shake256 | sign | verify | encaps | decaps =>
    simp [exec, execSha3x256, execSha3x512, execShake128, execShake256, execSign, execVerify, execEncaps, execDecaps]
  | dunebCellReceive | dunebRetryTimeout | dunebLinkDown | hello | seamMapAdopt | seamWrite | moveArm | moveReceive | moved |
      moveTimeout | moveAbort =>
    simp [exec, execDunebCellReceive, execDunebRetryTimeout, execDunebLinkDown, execHello, execSeamMapAdopt, execSeamWrite,
      execMoveArm, execMoveReceive]
  | reportMergeTurn | init | accept | initTimeout | batchClose | back | batchResend | sessionRekey | close | oldSessionExpiry =>
    simp [exec, execInit]
  | tamperAlarm | pendClear | provision | field | debugOpen | scrap =>
    simp [exec, execTamperAlarm, execPendClear, execProvision, execField, execDebugOpen, execScrap]
  | check | install | clean | selftestPass | commit | abandon =>
    simp [exec, execCheck, execClean, execSelftestPass, execAbandon]
  | dispatchGrant | dispatcherQ0Take | hwEnqueue | qcfgWrite | queueFlush | pressTick | markerJournaled | programRetire |
      programLoad | rebuildGo | rebuildRelease | ldgreplayWrite | replayEntryApply | detbrkDaily | detbrkClear | ingestCommand =>
    simp [exec, execDispatchGrant, execHwEnqueue, execQcfgWrite, execQueueFlush, execPressTick, execProgramRetire,
      execProgramLoad, execRebuildGo, execRebuildRelease, execLdgreplayWrite, execReplayEntryApply, execDetbrkDaily,
      execDetbrkClear]
  | sampleLatch | metrologyIntervalClose | referenceCheck | topoSelect =>
    simp [exec, execSampleLatch, execTopoSelect]
  | timincrWrite | timsetWrite | timstepWrite | signedStep | timeInvalidate | txtsPop | triggerFire | ppsOutPulse | ppsInCapture =>
    simp [exec, execTimincrWrite, execTimsetWrite, execTimstepWrite, execSignedStep, execTimeInvalidate, execTriggerFire,
      execPpsInCapture]
  | actInChange | shadowMessageApply | confirm | beat | peerSilent | standbyGraceExpiry | activeGraceExpiry | detach |
      detached | drain | resync | force | takeover | catchup | rescue | recordKeepExpiry =>
    simp [exec, execShadowMessageApply, execConfirm, execBeat, execPeerSilent, execDetach, execDetached, execDrain, execResync,
      execForce, execRecordKeepExpiry]
  | nandRead | nandWrite | nandTrim | nandMigrate | nandSync | wearLevelMove | idleGc | foregroundGc | blockRewrite =>
    simp [exec, execNandSync]
  | drainBatch | drainBatchComplete | checkpointDue | checkpointGo | checkpointComplete | rinsePass =>
    simp [exec, execDrainBatch, execCheckpointDue, execCheckpointGo]
  | eventPost | evrpostWrite | foldFlush | eventClear | operatingTimeSave =>
    simp [exec, execEventPost, execEvrpostWrite, execFoldFlush, execEventClear, execOperatingTimeSave]
  | refclkLoss | timeclkLoss | srefclkLoss | xtalLoss | treturn | tempHot =>
    simp [exec, execTimeclkLoss, execSrefclkLoss, execXtalLoss, execTreturn, execTempHot]
  | fenceRequest | fenceTakeEffect =>
    simp [exec, execFenceRequest, execFenceTakeEffect]
  | por | bor | extReset | swresetNormal | swresetRecovery | swresetStandby | bootStart | roleDecision | modeRequest |
      pfailSequence | pfailRecoveryBor | lpctlQuiet | lpctlRun | lpctlSleep | sleepWake | coreWdgFirstExpiry |
      coreWdgSecondExpiry | wdtKick | aonWdgExpiry | dispatchStall =>
    simp [exec, execPor, execBor, execExtReset, execSwresetNormal, execSwresetRecovery, execSwresetStandby, execRoleDecision,
      execModeRequest, execPfailSequence, execPfailRecoveryBor, execLpctlQuiet, execLpctlRun, execLpctlSleep,
      execCoreWdgFirstExpiry, execCoreWdgSecondExpiry, execWdtKick, execAonWdgExpiry, execDispatchStall]
  | csrWrite =>
    simp [exec, execCsrWrite]
  | csrSnapshotRead | rcRead | telemetryPass =>
    simp [exec, execCsrSnapshotRead, execRcRead]
  | tapReset | extest | idcode | samplePreload | clamp | highz | mbox | debug | bypass =>
    simp [exec, execTapReset, execIdcode, execSamplePreload, execClamp, execHighz, execMbox, execDebug, execBypass]
  | illegalOpcode | interruptTake =>
    simp [exec]
  | add | sub | andR | orR | xorR | sll | srl | sra | slt | sltu | mul | mulhu | mulhs | divu | divs | remu | rems | min |
      max | minu | maxu | getfl | setfl | adds | adc | subs | sbc | cmp | addi | andi | ori | xori | slti | sltiu | slli |
      srli | srai | cmpi | movh | pcadr | beq | bne | blt | bge | bltu | bgeu | bfs | bfc | bws | bcs | bcc | bzs | bvs | bps |
      jmp | call | jr | callr =>
    simp [exec, execAdd, execSub, execAndR, execOrR, execXorR, execSll, execSrl, execSra, execSlt, execSltu, execMul,
      execMulhu, execMulhs, execDivu, execDivs, execRemu, execRems, execMin, execMax, execMinu, execMaxu, execGetfl, execSetfl,
      execAdds, execAdc, execSubs, execSbc, execCmp, execAddi, execAndi, execOri, execXori, execSlti, execSltiu, execSlli,
      execSrli, execSrai, execCmpi, execMovh, execPcadr, execBeq, execBne, execBlt, execBge, execBltu, execBgeu, execBfs,
      execBfc, execBws, execBcs, execBcc, execBzs, execBvs, execBps, execJmp, execCall, execJr, execCallr]
  | ldb | ldbu | ldh | ldhu | ldw | ldd | stb | sth | stw | std | lxb | lxbu | lxh | lxhu | lxw | lxd | sxb | sxh | sxw | sxd =>
    simp [exec, execLdb, execLdbu, execLdh, execLdhu, execLdw, execLdd, execStb, execSth, execStw, execStd, execLxb, execLxbu,
      execLxh, execLxhu, execLxw, execLxd, execSxb, execSxh, execSxw, execSxd]
  | csrr | csrw | fence | cinv | cclean | cflush | iinv | cflusha | iinva | wfi | wfiWake | eret | mfsr | mtsr | enq | deq |
      deqStallResume | deqt | lock | lockGrant | lockt | unlock =>
    simp [exec, execCsrr, execCsrw, execFence, execCinv, execCclean, execCflush, execCflusha, execEret, execDeqStallResume,
      execLock, execLockGrant, execLockt, execUnlock]
  | tack | press | maxd | satadd | emit | waitw | done =>
    simp [exec, execTack, execPress, execWaitw, execDone]

/-- A command of the core domain acts only while the core clocks run (R71, R81, R658, R676). -/
theorem exec_live_of_coreDomain (c : Instr) (s : State) (h : coreDomain c = true) : ∃ o, exec c s = s.live o := by
  cases c
  case por | bor | extReset | bootStart | pfailSequence | pfailRecoveryBor | sleepWake | aonWdgExpiry | actInChange | tamperAlarm
      | operatingTimeSave | refclkLoss | timeclkLoss | srefclkLoss | xtalLoss | tapReset | extest | idcode | samplePreload | clamp
      | highz | mbox | debug | bypass => cases h
  all_goals exact ⟨_, rfl⟩

theorem live_of_stopped {s : State} (o : Out) (h : s.clocked = false) : s.live o = .next s := by
  simp [State.live, h]

/-- Settles O20: every operation a meaning is composed of keeps the queue of commands. -/
theorem commandsLeaveTheQueue : Obligations.CommandsLeaveTheQueue :=
  exec_keeps

/-- Settles O21: the first part is that of O20; with the clocks stopped, the guard that each command of the core domain begins with
answers the state as it is. -/
theorem everyCommandGoesOn : Obligations.EveryCommandGoesOn := by
  refine ⟨fun c s => ?_, fun c s hstop hcore => ?_⟩
  · obtain ⟨t, ht, _⟩ := exec_keeps c s
    exact ⟨t, ht⟩
  · obtain ⟨o, ho⟩ := exec_live_of_coreDomain c s hcore
    rw [ho, live_of_stopped o hstop]

end Sys2Proof.Machine
end

section

/-!
A LEDGER ORIGIN WIDER THAN ITS REGISTER. A write of the highest word of LDGORIGIN replaces bits 32 to 63 of the staged value, and the whole
value must be a number of whole seconds. The statement's own value keeps the lowest 64 bits only, and nothing in it says that the value in
force fits them.
-/

namespace Sys2Proof.Machine

/-- The reset state, but with bit 64 of LDGORIGIN set: the register has 64 bits, its cell in the state has no width. -/
def overwideOrigin : State := { State.reset with csr := [(rLDGORIGIN, 2 ^ 64)] }

theorem overwideOrigin_reg : overwideOrigin.reg rLDGORIGIN = 2 ^ 64 := by decide +kernel

theorem overwideOrigin_clocked : overwideOrigin.clocked = true := by decide +kernel

theorem overwideOrigin_writes : overwideOrigin.writes .port rLDGORIGIN = true := by decide +kernel

theorem overwideOrigin_sched_disabled : overwideOrigin.flag fLDGCFG_SCHED_EN = false := by decide +kernel

/-- Bit 64 stays in the value that is written, 2^64 ms, which is no whole number of seconds. -/
theorem overwideOrigin_csrWord_refused : (overwideOrigin.csrWord .port 0x8000C 0).answer.status = .badArgument := by decide +kernel

/-- Where the core clocks run, CSR_WRITE is the write of its word. -/
theorem exec_csrWrite_of_clocked (a : Agent) (csr v : Word) {s : State} (h : s.clocked = true) :
    exec (.csrWrite a csr v) s = .next (s.csrWord a csr.toNat v) := by
  simp only [exec, execCsrWrite, State.live, h, if_true]

/-- Refutes O23: the clause on LDGORIGIN has no premise that the value in force fits the register's 64 bits. In `overwideOrigin` the test
port writes 0 to the highest word; the lowest 64 bits are then 0, a whole number of seconds, but the staged value is 2^64, and the write is
refused with BAD_ARGUMENT. -/
theorem not_wideRegisters : ¬ Obligations.WideRegisters := by
  unfold Obligations.WideRegisters
  rintro ⟨_, _, _, _, hOrigin, _⟩
  have hlow : 0 = (0 : Word).toNat * 2 ^ 32 +
      bits (lookupD (overwideOrigin.reg rLDGORIGIN) rLDGORIGIN overwideOrigin.csrStage) 0 32 := by
    rw [overwideOrigin_reg]
    decide +kernel
  obtain ⟨t, hexec, _, hdone, _⟩ :=
    hOrigin .port 0 overwideOrigin 0 overwideOrigin_writes overwideOrigin_sched_disabled hlow rfl
  rw [exec_csrWrite_of_clocked _ _ _ overwideOrigin_clocked] at hexec
  injection hexec with ht
  subst ht
  exact absurd (overwideOrigin_csrWord_refused.symm.trans hdone) (by decide)

end Sys2Proof.Machine
end

section
/-!
PROOFS. Memory stays in its canonical form. One lemma for each operation of the machine, in the order of its definitions, says that the
operation keeps the form; a command's meaning is then a composition of such operations.
-/

namespace Sys2Proof.Machine

/-! ## What it means to keep the form -/

/-- Memory is in its canonical form in `t` and was not in `s`. -/
def Mends (s t : State) : Prop := ¬ s.memOk ∧ t.memOk

/-- `t`, that an operation makes of `s`, has memory in its canonical form if `s` has. It is said as an equivalence, so that `simp` can carry
the form through a composition of any length as a rewrite that has no side condition; `Mends` only names the rest. -/
abbrev MemKept (s t : State) : Prop := Memory.wf t.mem = true ↔ Memory.wf s.mem = true ∨ Mends s t

theorem memKept_of {s t : State} (h : Memory.wf s.mem = true → Memory.wf t.mem = true) : MemKept s t :=
  ⟨fun ht => (em s.memOk).imp id fun hs => ⟨hs, ht⟩, fun hs => hs.elim h And.right⟩

theorem memKept_of_mem {s t : State} (h : t.mem = s.mem) : MemKept s t := memKept_of fun hs => by rwa [h]

theorem MemKept.keeps {s t : State} (h : MemKept s t) : Memory.wf s.mem = true → Memory.wf t.mem = true :=
  fun hs => h.2 (.inl hs)

theorem MemKept.trans {s t u : State} (h : MemKept s t) (k : MemKept t u) : MemKept s u := memKept_of fun hs => k.keeps (h.keeps hs)

theorem MemKept.refl (s : State) : MemKept s s := memKept_of id

/-- `simp` leaves the states that `Mends` speaks of as they are. -/
@[congr] theorem mends_congr (s t : State) : Mends s t = Mends s t := rfl

@[simp] theorem memOk_or_assoc (m : Store Byte) (p q : Prop) :
    ((Memory.wf m = true ∨ p) ∨ q) ↔ (Memory.wf m = true ∨ (p ∨ q)) := or_assoc

@[simp] theorem memOk_imp_or (s : State) (q : Prop) :
    (Memory.wf s.mem = true → Memory.wf s.mem = true ∨ q) ↔ True := by simp +contextual

@[simp] theorem memOk_imp_ite (s : State) (c p q : Prop) [Decidable c] :
    (Memory.wf s.mem = true → if c then p else q) ↔ if c then Memory.wf s.mem = true → p else Memory.wf s.mem = true → q := by
  split <;> rfl

/-! ## Shapes that the operations are built from -/

@[simp] theorem mem_ite (c : Prop) [Decidable c] (a b : State) : (if c then a else b).mem = if c then a.mem else b.mem := apply_ite ..

@[simp] theorem wf_ite (c : Prop) [Decidable c] (m n : Store Byte) :
    Memory.wf (if c then m else n) = if c then Memory.wf m else Memory.wf n := apply_ite ..

theorem ite_memOk {c : Prop} [Decidable c] {a b : State} (ha : Memory.wf a.mem = true) (hb : Memory.wf b.mem = true) :
    Memory.wf (if c then a else b).mem = true := by
  split <;> assumption

theorem foldl_memOk {α : Type} {f : State → α → State} (hf : ∀ s a, Memory.wf s.mem = true → Memory.wf (f s a).mem = true)
    (l : List α) {s : State} (h : Memory.wf s.mem = true) : Memory.wf (l.foldl f s).mem = true := by
  induction l generalizing s with
  | nil => exact h
  | cons a l ih => exact ih (hf s a h)

@[simp] theorem foldl_memKept {α : Type} (f : State → α → State)
    (hf : ∀ s a, Memory.wf s.mem = true → Memory.wf (f s a).mem = true) (l : List α) (s : State) : MemKept s (l.foldl f s) :=
  memKept_of (foldl_memOk hf l)

@[simp] theorem foldl_fst_memKept {α β : Type} (f : State × β → α → State × β)
    (hf : ∀ p a, Memory.wf p.1.mem = true → Memory.wf (f p a).1.mem = true) (l : List α) (p : State × β) :
    MemKept p.1 (l.foldl f p).1 := by
  refine memKept_of fun h => ?_
  induction l generalizing p with
  | nil => exact h
  | cons a l ih => exact ih (f p a) (hf p a h)

/-- An outcome that is a next state has memory in its canonical form. -/
def OutOk (o : Out) : Prop := ∀ t, o = .next t → t.memOk

@[simp] theorem outOk_next (t : State) : OutOk (.next t) ↔ Memory.wf t.mem = true := by simp [OutOk]

@[simp] theorem outOk_ite (c : Prop) [Decidable c] (a b : Out) : OutOk (if c then a else b) ↔ if c then OutOk a else OutOk b := by
  split <;> rfl

theorem ite_outOk {c : Prop} [Decidable c] {a b : Out} (ha : OutOk a) (hb : OutOk b) : OutOk (if c then a else b) := by
  split <;> assumption

@[simp] theorem outOk_live (s : State) (o : Out) : OutOk (s.live o) ↔ if s.clocked then OutOk o else Memory.wf s.mem = true := by
  rw [State.live, outOk_ite, outOk_next]

theorem live_outOk {s : State} {o : Out} (h : Memory.wf s.mem = true) (ho : OutOk o) : OutOk (s.live o) := ite_outOk ho ((outOk_next s).2 h)

/-! ## The operations and the meanings of the commands -/

/-! ### Ops -/

@[simp] theorem sayVal_memKept (s : State) (v : Nat) : MemKept s (s.sayVal v) := memKept_of_mem rfl

@[simp] theorem planeRefuse_memKept (s : State) : MemKept s s.planeRefuse := memKept_of_mem rfl

/-- The hypothesis names the value of `f`, so that the kernel never projects a function applied to a state. -/
@[simp] theorem asAgent_memKept (s : State) (a : Agent) (csr : Nat) (f : State → State)
    (hf : ∀ t u, f t = u → Memory.wf t.mem = true → Memory.wf u.mem = true) : MemKept s (s.asAgent a csr f) := by
  refine memKept_of fun hw => ?_
  have hf' : Memory.wf (f s).mem = true := hf s _ rfl hw
  cases a <;> simp [State.asAgent, hf', hw]

@[simp] theorem dropStage_memKept (s : State) (b : Nat) : MemKept s (s.dropStage b) := memKept_of_mem rfl

@[simp] theorem asWhole_memKept (s : State) (a : Agent) (b : Nat) (f : State → State)
    (hf : ∀ t u, f t = u → Memory.wf t.mem = true → Memory.wf u.mem = true) : MemKept s (s.asWhole a b f) :=
  asAgent_memKept s a b _ fun t u h hw => hf _ u h ((dropStage_memKept t b).keeps hw)

@[simp] theorem write_memKept (s : State) (a : Nat) (bs : List Byte) : MemKept s (s.write a bs) := memKept_of (write_wf s a bs)

@[simp] theorem writeP_memKept (s : State) (a : Nat) (bs : List Byte) (bad : Bool) : MemKept s (s.writeP a bs bad) :=
  memKept_of (writeP_wf s a bs bad)

@[simp] theorem poke_memKept (s : State) (a n v : Nat) : MemKept s (s.poke a n v) := memKept_of (poke_wf s a n v)

@[simp] theorem copyMem_memKept (s : State) (src dst n : Nat) : MemKept s (s.copyMem src dst n) := memKept_of (copyMem_wf s src dst n)

@[simp] theorem clearMem_memKept (s : State) (a n : Nat) : MemKept s (s.clearMem a n) := memKept_of (clearMem_wf s a n)

@[simp] theorem correct_memKept (s : State) (a n : Nat) : MemKept s (s.correct a n) := memKept_of fun hw => by simp [State.correct, hw]

@[simp] theorem countPoison_memKept (s : State) (a n : Nat) : MemKept s (s.countPoison a n) :=
  memKept_of fun hw => by simp [State.countPoison, hw]

@[simp] theorem touch_memKept (s : State) (a n : Nat) : MemKept s (s.touch a n) := memKept_of fun hw => by simp [State.touch, hw]

@[simp] theorem setCpu_memKept (s : State) (c : CoreId) (u : Cpu) : MemKept s (s.setCpu c u) := by
  refine memKept_of fun hw => ?_
  unfold State.setCpu
  split <;> simp [hw]

@[simp] theorem drawn_memKept (s : State) (n : Nat) : MemKept s (s.drawn n) := memKept_of_mem rfl

/-! ### Queues -/

@[simp] theorem enqueue_memKept (s : State) (q : Nat) (d : List GReg) : MemKept s (s.enqueue q d) :=
  memKept_of fun hw => by simp [State.enqueue, hw]

@[simp] theorem refill_memKept (s : State) (q : Nat) : MemKept s (s.refill q) := foldl_memKept _ (fun t _ => by split <;> simp) _ s

@[simp] theorem dequeued_memKept (s : State) (q : Nat) : MemKept s (s.dequeued q) := memKept_of fun hw => by simp [State.dequeued, hw]

@[simp] theorem serveOne_memKept (s : State) (q : Nat) : MemKept s (s.serveOne q) := by
  refine memKept_of fun hw => ?_
  unfold State.serveOne
  dsimp only
  (repeat' split) <;> simp [hw]

@[simp] theorem serve_memKept (s : State) (q : Nat) : MemKept s (s.serve q) := memKept_of fun hw => by simp [State.serve, hw]

@[simp] theorem hwEnqueue_memKept (s : State) (q : Nat) (d : List GReg) : MemKept s (s.hwEnqueue q d) :=
  memKept_of fun hw => by simp [State.hwEnqueue, hw]

@[simp] theorem flush_memKept (s : State) (q : Nat) : MemKept s (s.flush q) := memKept_of fun hw => by simp [State.flush, hw]

@[simp] theorem refuseStalled_memKept (s : State) (k : Nat) (st : Status) : MemKept s (s.refuseStalled k st) := memKept_of_mem rfl

@[simp] theorem qDisable_memKept (s : State) (q : Nat) : MemKept s (s.qDisable q) := memKept_of fun hw => by simp [State.qDisable, hw]

@[simp] theorem qcfgWrite_memKept (s : State) (q v : Nat) : MemKept s (s.qcfgWrite q v) :=
  memKept_of fun hw => by simp [State.qcfgWrite, hw]

@[simp] theorem lockGrant_memKept (s : State) (n : Nat) : MemKept s (s.lockGrant n) := by
  refine memKept_of fun hw => ?_
  unfold State.lockGrant
  dsimp only
  (repeat' split) <;> simp [hw]

@[simp] theorem breakCell_memKept (s : State) (k n : Nat) : MemKept s (s.breakCell k n) :=
  memKept_of fun hw => by simp [State.breakCell, hw]

@[simp] theorem breakLocks_memKept (s : State) (k : Nat) : MemKept s (s.breakLocks k) :=
  memKept_of fun hw => by simp [State.breakLocks, hw]

@[simp] theorem leaveLines_memKept (s : State) (k : Nat) : MemKept s (s.leaveLines k) := by
  refine memKept_of fun hw => ?_
  unfold State.leaveLines
  split <;> simp [hw]

/-! ### TimeBase -/

@[simp] theorem setTxq_memKept (s : State) (q : Nat) (Q : TxQueue) : MemKept s (s.setTxq q Q) := memKept_of_mem rfl

@[simp] theorem putTx_memKept (s : State) (q fid chip : Nat) : MemKept s (s.putTx q fid chip) :=
  memKept_of fun hw => by simp [State.putTx, hw]

/-! ### Evr -/

@[simp] theorem putRec_memKept (s : State) (slot : Nat) (d : List Byte) : MemKept s (s.putRec slot d) := write_memKept ..

@[simp] theorem flushOpen_memKept (s : State) (o : OpenRec) : MemKept s (s.flushOpen o) :=
  memKept_of fun hw => by simp [State.flushOpen, hw]

@[simp] theorem setOpen_memKept (s : State) (os : List OpenRec) : MemKept s (s.setOpen os) := memKept_of_mem rfl

@[simp] theorem event_memKept (s : State) (e : Event) : MemKept s (s.event e) := memKept_of (evrOnly_event s e).2.2.2

@[simp] theorem refused5_memKept (s : State) (st : Status) (src inst len port eui : Nat) :
    MemKept s (s.refused5 st src inst len port eui) :=
  memKept_of fun hw => by simp [State.refused5, hw]

@[simp] theorem poisonEvent_memKept (s : State) (src inst granules : Nat) (st : Status) (addr : Nat) :
    MemKept s (s.poisonEvent src inst granules st addr) :=
  memKept_of fun hw => by simp [State.poisonEvent, hw]

/-! ### DunebTx -/

@[simp] theorem send_memKept (s : State) (port : Nat) (bs : List Byte) : MemKept s (s.send port bs) := memKept_of_mem rfl

@[simp] theorem setDl_memKept (s : State) (k : Nat) (d : DlSt) : MemKept s (s.setDl k d) := memKept_of_mem rfl

@[simp] theorem dlCell_memKept (s : State) (k tseq : Nat) (c : DlCell) : MemKept s (s.dlCell k tseq c) :=
  memKept_of fun hw => by simp [State.dlCell, hw]

@[simp] theorem dlPump1_memKept (s : State) (k : Nat) : MemKept s (s.dlPump1 k) := by
  refine memKept_of fun hw => ?_
  unfold State.dlPump1
  dsimp only
  (repeat' split) <;> simp [hw]

@[simp] theorem dlPump_memKept (s : State) (k : Nat) : MemKept s (s.dlPump k) := memKept_of fun hw => by simp [State.dlPump, hw]

@[simp] theorem dlIdle_memKept (s : State) (k : Nat) : MemKept s (s.dlIdle k) := memKept_of fun hw => by simp [State.dlIdle, hw]

@[simp] theorem dlAnswer_memKept (s : State) (k : Nat) : MemKept s (s.dlAnswer k) := memKept_of fun hw => by simp [State.dlAnswer, hw]

@[simp] theorem dlMsg_memKept (s : State) (k cls : Nat) (det : Bool) (dst typ : Nat) (payload : List Byte) (poison : List Nat) :
    MemKept s (s.dlMsg k cls det dst typ payload poison) :=
  memKept_of fun hw => by simp [State.dlMsg, hw]

@[simp] theorem chipSend_memKept (s : State) (dst cls typ : Nat) (payload : List Byte) (poison : List Nat) :
    MemKept s (s.chipSend dst cls typ payload poison) := by
  refine memKept_of fun hw => ?_
  unfold State.chipSend
  split <;> simp [hw]

/-! ### EnOps -/

@[simp] theorem deliverTo_memKept (s : State) (d : Deliv) : MemKept s (s.deliverTo d) :=
  memKept_of fun hw => by simp [State.deliverTo, hw]

@[simp] theorem enSend_memKept (s : State) (k mac : Nat) (pkt : List Byte) : MemKept s (s.enSend k mac pkt) :=
  memKept_of fun hw => by simp [State.enSend, hw]

@[simp] theorem pfxForward_memKept (s : State) (k : Nat) (via : Option Nat) (pkt : List Byte) : MemKept s (s.pfxForward k via pkt) := by
  refine memKept_of fun hw => ?_
  unfold State.pfxForward
  split <;> simp [hw]

@[simp] theorem udpOut_memKept (s : State) (via : Option Nat) (dst sport dport : Nat) (d : List Byte) :
    MemKept s (s.udpOut via dst sport dport d) :=
  memKept_of fun hw => by simp [State.udpOut, hw]

/-! ### Journal -/

@[simp] theorem shadowP_memKept (s : State) (typ : Nat) (body : List Byte) (poison : List Nat) (h : Held) :
    MemKept s (s.shadowP typ body poison h) :=
  memKept_of fun hw => by simp [State.shadowP, hw]

@[simp] theorem shadow_memKept (s : State) (typ : Nat) (body : List Byte) (h : Held) : MemKept s (s.shadow typ body h) :=
  memKept_of fun hw => by simp [State.shadow, hw]

@[simp] theorem pushData_memKept (s : State) (r : Rec) : MemKept s (s.pushData r) := memKept_of fun hw => by simp [State.pushData, hw]

@[simp] theorem pushMgmt_memKept (s : State) (r : Rec) : MemKept s (s.pushMgmt r) := memKept_of fun hw => by simp [State.pushMgmt, hw]

@[simp] theorem ringPut_memKept (s : State) (e : JEnt) (isn : Nat) : MemKept s (s.ringPut e isn) :=
  memKept_of fun hw => by simp [State.ringPut, hw]

@[simp] theorem ringPuts_memKept (s : State) (es : List JEnt) : MemKept s (s.ringPuts es) := by
  refine memKept_of fun hw => ?_
  induction es generalizing s with
  | nil => exact hw
  | cons e es ih => exact ih _ (by simp [hw])

@[simp] theorem detBreak_memKept (s : State) : MemKept s s.detBreak := memKept_of fun hw => by simp [State.detBreak, hw]

theorem journalRaw_memKept {s t : State} {es : List JEnt} {hold : Nat → Held} (h : s.journalRaw es hold = .ok t) : MemKept s t := by
  refine memKept_of fun hw => ?_
  unfold State.journalRaw at h
  extract_lets +onlyGivenNames n need isn s1 at h
  split_ifs at h
  injection h with h
  rw [← h]
  exact (foldl_fst_memKept _ (fun p e hp => by simp [hp]) es (s1, isn)).keeps ((ringPuts_memKept s es).keeps hw)

@[simp] theorem journalRefused_memKept (s : State) (st : Status) : MemKept s (s.journalRefused st) :=
  memKept_of fun hw => by simp [State.journalRefused, hw]

theorem journal_memKept {s t : State} {es : List JEnt} {hold : Nat → Held} (h : s.journal es hold = .ok t) : MemKept s t := by
  unfold State.journal at h
  split_ifs at h
  exact journalRaw_memKept h

/-! ### Calendar -/

@[simp] theorem setProg_memKept (s : State) (i : Nat) (p : Prog) : MemKept s (s.setProg i p) := memKept_of_mem rfl

/-! ### Balance -/

@[simp] theorem correlate_memKept (s : State) (epi k : Nat) (rd : List (Nat × Int)) (r : Option RingSlot) :
    MemKept s (s.correlate epi k rd r) :=
  memKept_of fun hw => by simp [State.correlate, hw]

@[simp] theorem tamperEvidence_memKept (s : State) (epi k : Nat) (rd : List (Nat × Int)) (r : Option RingSlot) :
    MemKept s (s.tamperEvidence epi k rd r) :=
  memKept_of fun hw => by simp [State.tamperEvidence, hw]

@[simp] theorem balanceRead_memKept (s : State) (epi k : Nat) (recs : List Rec) (ok : Bool) : MemKept s (s.balanceRead epi k recs ok) :=
  memKept_of fun hw => by simp [State.balanceRead, hw]

@[simp] theorem scoreCell_memKept (s : State) (k c : Nat) (u : Int) : MemKept s (s.scoreCell k c u) := memKept_of_mem rfl

@[simp] theorem suspect_memKept (s : State) (k c : Nat) (fin : Bool) (u : Int) : MemKept s (s.suspect k c fin u) :=
  memKept_of fun hw => by simp [State.suspect, hw]

@[simp] theorem balanceCell_memKept (s : State) (k c : Nat) (x : FpSum) (fin : Bool) : MemKept s (s.balanceCell k c x fin) :=
  memKept_of fun hw => by simp [State.balanceCell, hw]

@[simp] theorem balanceAll_memKept (s : State) (k : Nat) (l : Store FpSum) (fin : Bool) : MemKept s (s.balanceAll k l fin) :=
  memKept_of fun hw => by simp [State.balanceAll, hw]

@[simp] theorem balanceWaiting_memKept (s : State) : MemKept s s.balanceWaiting := by
  refine memKept_of fun hw => ?_
  unfold State.balanceWaiting
  split <;> simp [hw]

@[simp] theorem balanceRound_memKept (s : State) (k : Nat) : MemKept s (s.balanceRound k) :=
  memKept_of fun hw => by simp [State.balanceRound, hw]

@[simp] theorem metroApply_memKept (s : State) (body : List Byte) (isn : Nat) : MemKept s (s.metroApply body isn) := by
  refine memKept_of fun hw => ?_
  unfold State.metroApply
  extract_lets +onlyGivenNames k s1
  have h1 : Memory.wf s1.mem = true := foldl_memOk (fun t f ht => by split <;> simp [ht]) _ hw
  clear_value s1
  dsimp only
  split
  · exact h1
  · split
    · split <;> simp [h1]
    · simp [h1]

@[simp] theorem lossAtMarker_memKept (s : State) : MemKept s s.lossAtMarker := by
  refine memKept_of fun hw => ?_
  unfold State.lossAtMarker
  split <;> simp [hw]

@[simp] theorem topoPend_memKept (s : State) (sel : Nat) : MemKept s (s.topoPend sel) := memKept_of_mem rfl

/-! ### Seam -/

@[simp] theorem eptCount_memKept (s : State) (i : Nat) (up : Bool) : MemKept s (s.eptCount i up) := memKept_of_mem rfl

@[simp] theorem epiSet_memKept (s : State) (epi : Nat) (slot : Option Nat) : MemKept s (s.epiSet epi slot) := memKept_of_mem rfl

@[simp] theorem eptWrite_memKept (s : State) (b : List Byte) : MemKept s (s.eptWrite b).2 := by
  refine memKept_of fun hw => ?_
  unfold State.eptWrite
  dsimp only
  (repeat' split) <;> simp [hw]

@[simp] theorem eptClear_memKept (s : State) (i : Nat) : MemKept s (s.eptClear i) := memKept_of fun hw => by simp [State.eptClear, hw]

@[simp] theorem helloAll_memKept (s : State) : MemKept s s.helloAll := memKept_of fun hw => by simp [State.helloAll, hw]

@[simp] theorem seamPut_memKept (s : State) (b home new : Nat) (moving : Bool) : MemKept s (s.seamPut b home new moving) :=
  poke_memKept ..

@[simp] theorem seamChange_memKept (s : State) (b home : Nat) : MemKept s (s.seamChange b home) :=
  memKept_of fun hw => by simp [State.seamChange, hw]

@[simp] theorem cutApply_memKept (s : State) (b m : Nat) : MemKept s (s.cutApply b m) := memKept_of fun hw => by simp [State.cutApply, hw]

@[simp] theorem moveAfterRound_memKept (s : State) (k : Nat) : MemKept s (s.moveAfterRound k) :=
  memKept_of fun hw => by simp [State.moveAfterRound, hw]

/-! ### Dispatcher -/

@[simp] theorem postItem_memKept (s : State) (i : Item) (rank : Nat) (slot : Bool) : MemKept s (s.postItem i rank slot) :=
  memKept_of_mem rfl

@[simp] theorem unready_memKept (s : State) (r : RItem) : MemKept s (s.unready r) := memKept_of fun hw => by simp [State.unready, hw]

@[simp] theorem postAdjust_memKept (s : State) (epi : Nat) : MemKept s (s.postAdjust epi) := by
  refine memKept_of fun hw => ?_
  unfold State.postAdjust
  split <;> simp [hw]

@[simp] theorem postSwitch_memKept (s : State) (epi k : Nat) : MemKept s (s.postSwitch epi k) := by
  refine memKept_of fun hw => ?_
  unfold State.postSwitch
  split <;> simp [hw]

@[simp] theorem switchProgs_memKept (s : State) (k : Nat) : MemKept s (s.switchProgs k) :=
  memKept_of fun hw => by simp [State.switchProgs, hw]

@[simp] theorem digestMismatch_memKept (s : State) (k : Nat) : MemKept s (s.digestMismatch k) :=
  memKept_of fun hw => by simp [State.digestMismatch, hw]

@[simp] theorem digestCompare_memKept (s : State) (k : Nat) : MemKept s (s.digestCompare k) := by
  refine memKept_of fun hw => ?_
  unfold State.digestCompare
  split <;> simp [hw]

@[simp] theorem roundDone_memKept (s : State) (k : Nat) : MemKept s (s.roundDone k) := memKept_of fun hw => by simp [State.roundDone, hw]

@[simp] theorem pressEnded_memKept (s : State) (it : Item) (rank : Nat) : MemKept s (s.pressEnded it rank) :=
  memKept_of fun hw => by simp [State.pressEnded, hw]

@[simp] theorem pressRun_memKept (s : State) (it : Item) (rank : Nat) : MemKept s (s.pressRun it rank) :=
  memKept_of fun hw => by simp [State.pressRun, hw]

@[simp] theorem markerApply_memKept (s : State) (k isn : Nat) : MemKept s (s.markerApply k isn) :=
  memKept_of fun hw => by simp [State.markerApply, hw]

@[simp] theorem lcFree_memKept (s : State) (n : Nat) : MemKept s (s.lcFree n) := memKept_of fun hw => by simp [State.lcFree, hw]

@[simp] theorem rebuildEnd_memKept (s : State) (epi : Nat) : MemKept s (s.rebuildEnd epi) :=
  memKept_of fun hw => by simp [State.rebuildEnd, hw]

@[simp] theorem writeBack_memKept (s : State) (n : Nat) (it : Item) : MemKept s (s.writeBack n it) :=
  memKept_of fun hw => by simp [State.writeBack, hw]

@[simp] theorem itemDone_memKept (s : State) (n : Nat) (it : Item) : MemKept s (s.itemDone n it) :=
  memKept_of fun hw => by simp [State.itemDone, hw]

@[simp] theorem itemFail_memKept (s : State) (n : Nat) (it : Item) (st : Status) (count : Nat) : MemKept s (s.itemFail n it st count) :=
  memKept_of fun hw => by simp [State.itemFail, hw]

@[simp] theorem dropItem_memKept (s : State) (r : RItem) (seen : Bool) : MemKept s (s.dropItem r seen) :=
  memKept_of fun hw => by simp [State.dropItem, hw]

@[simp] theorem grantTo_memKept (s : State) (n : Nat) (r : RItem) (p : Nat) : MemKept s (s.grantTo n r p) :=
  memKept_of fun hw => by simp [State.grantTo, hw]

@[simp] theorem grantItem_memKept (s : State) (n : Nat) (r : RItem) : MemKept s (s.grantItem n r) := by
  refine memKept_of fun hw => ?_
  unfold State.grantItem
  (repeat' split) <;> simp [hw]

@[simp] theorem dispatchGrant_memKept (s : State) : MemKept s s.dispatchGrant := by
  refine memKept_of fun hw => ?_
  unfold State.dispatchGrant
  (repeat' split) <;> simp [hw]

@[simp] theorem postReading_memKept (s : State) (epi isn : Nat) (r : Reading) (c : RdClass) : MemKept s (s.postReading epi isn r c) := by
  refine memKept_of fun hw => ?_
  unfold State.postReading
  (repeat' split) <;> simp [hw]

/-! ### Keys -/

@[simp] theorem setSlot_memKept (s : State) (n : Nat) (k : KeySlot) : MemKept s (s.setSlot n k) := memKept_of_mem rfl

@[simp] theorem setCell_memKept (s : State) (n : Nat) (b : List Byte) : MemKept s (s.setCell n b) := memKept_of_mem rfl

@[simp] theorem unwrapFail_memKept (s : State) (f : Bool) : MemKept s (s.unwrapFail f) :=
  memKept_of fun hw => by simp [State.unwrapFail, hw]

@[simp] theorem countVerify_memKept (s : State) (st : Status) : MemKept s (s.countVerify st) :=
  memKept_of fun hw => by simp [State.countVerify, hw]

/-! ### Kep -/

@[simp] theorem secPut_memKept (s : State) (epi o n v : Nat) : MemKept s (s.secPut epi o n v) := poke_memKept ..

@[simp] theorem setSflag_memKept (s : State) (epi i : Nat) (b : Bool) : MemKept s (s.setSflag epi i b) := secPut_memKept ..

@[simp] theorem setSlotTx_memKept (s : State) (n v : Nat) : MemKept s (s.setSlotTx n v) := memKept_of_mem rfl

@[simp] theorem setSlotCeil_memKept (s : State) (n v : Nat) : MemKept s (s.setSlotCeil n v) := memKept_of_mem rfl

@[simp] theorem setKeyTx_memKept (s : State) (slot : Bool) (n v : Nat) : MemKept s (s.setKeyTx slot n v) :=
  memKept_of fun hw => by simp [State.setKeyTx, hw]

@[simp] theorem setKeyCeil_memKept (s : State) (slot : Bool) (n v : Nat) : MemKept s (s.setKeyCeil slot n v) :=
  memKept_of fun hw => by simp [State.setKeyCeil, hw]

@[simp] theorem txFollow_memKept (s : State) (epi : Nat) : MemKept s (s.txFollow epi) := memKept_of fun hw => by simp [State.txFollow, hw]

@[simp] theorem raiseDone_memKept (s : State) (slot : Bool) (n ceil : Nat) : MemKept s (s.raiseDone slot n ceil) :=
  memKept_of fun hw => by simp [State.raiseDone, hw]

@[simp] theorem raise_memKept (s : State) (slot : Bool) (n : Nat) : MemKept s (s.raise slot n) :=
  memKept_of fun hw => by simp [State.raise, hw]

@[simp] theorem envelopeOut_memKept (s : State) (peer dir : Nat) (p : RxPath) (frame : List Byte) :
    MemKept s (s.envelopeOut peer dir p frame) :=
  memKept_of fun hw => by simp [State.envelopeOut, hw]

@[simp] theorem envelopePut_memKept (s : State) (peer dir : Nat) (p : RxPath) (frame : List Byte) :
    MemKept s (s.envelopePut peer dir p frame) :=
  memKept_of fun hw => by simp [State.envelopePut, hw]

@[simp] theorem envPump_memKept (s : State) (slot : Nat) : MemKept s (s.envPump slot) := memKept_of fun hw => by simp [State.envPump, hw]

@[simp] theorem egress_memKept (s : State) (p : RxPath) (frame : List Byte) (kind : Nat) (ackBy : Option Nat) :
    MemKept s (s.egress p frame kind ackBy) := by
  refine memKept_of fun hw => ?_
  unfold State.egress
  split <;> simp [hw]

@[simp] theorem aeCount_memKept (s : State) (e : Nat) (soft : Bool) : MemKept s (s.aeCount e soft) := memKept_of_mem rfl

theorem downSend_memKept {s t : State} {slot : Bool} {n mt id : Nat} {body : List Byte} {p : RxPath} {kind : Nat} {ackBy : Option Nat}
    (h : s.downSend slot n mt id body p kind ackBy = .sent t) : MemKept s t := by
  refine memKept_of fun hw => ?_
  simp only [State.downSend] at h
  split at h
  · split at h <;> cases h
  split at h
  · cases h
  split at h
  · split at h
    · cases h
    · split at h
      · cases h
      · injection h with h
        simp [← h, hw]
  · split at h
    · cases h
    · split at h
      · injection h with h
        simp [← h, hw]
      · cases h

@[simp] theorem downRefused_memKept (s : State) (slot : Bool) (n : Nat) (st : Status) : MemKept s (s.downRefused slot n st) :=
  memKept_of fun hw => by simp [State.downRefused, hw]

@[simp] theorem answerAck_memKept (s : State) (epi aic result retry nacc : Nat) (dup : Bool) (p : RxPath) (isn : Option Nat) :
    MemKept s (s.answerAck epi aic result retry nacc dup p isn) :=
  memKept_of fun hw => by simp [State.answerAck, hw]

@[simp] theorem postReadings_memKept (s : State) (epi isn : Nat) (rs : List (Reading × RdClass)) : MemKept s (s.postReadings epi isn rs) :=
  foldl_fst_memKept _ (fun p r => by simp) _ _

@[simp] theorem icAdvance_memKept (s : State) (epi ic : Nat) : MemKept s (s.icAdvance epi ic) :=
  memKept_of fun hw => by simp [State.icAdvance, hw]

@[simp] theorem keygenApply_memKept (s : State) (epi : Nat) (body : List Byte) (writeResv : Bool) :
    MemKept s (s.keygenApply epi body writeResv) :=
  memKept_of fun hw => by simp [State.keygenApply, hw]

/-! ### Ingest -/

@[simp] theorem kepCount_memKept (s : State) (st : Status) : MemKept s (s.kepCount st) := by
  refine memKept_of fun hw => ?_
  unfold State.kepCount
  split <;> simp [hw]

@[simp] theorem kepFail_memKept (s : State) (st : Status) (len : Nat) (p : RxPath) (eui : Nat) : MemKept s (s.kepFail st len p eui) :=
  memKept_of fun hw => by simp [State.kepFail, hw]

/-- What ingest leaves, where it does not wait, has memory in its canonical form. -/
def Ing.MemOk : Ing → Prop
  | .ok t _ => Memory.wf t.mem = true
  | .mode t => Memory.wf t.mem = true
  | .noprog t => Memory.wf t.mem = true
  | .busy t _ => Memory.wf t.mem = true
  | .wait => True

theorem ingest_memOk (s : State) (epi ic mseq : Nat) (rs : List Reading) (hw : Memory.wf s.mem = true) :
    (s.ingest epi ic mseq rs).MemOk := by
  unfold State.ingest
  split
  · exact hw
  split
  · exact hw
  split
  · exact hw
  dsimp only
  split
  · exact hw
  split
  · exact hw
  split
  next h => simp [Ing.MemOk, (journal_memKept h).keeps hw]
  · exact (journalRefused_memKept ..).keeps hw
  · trivial

@[simp] theorem fwStatus_memKept (s : State) (epi : Nat) (b : List Byte) : MemKept s (s.fwStatus epi b) := by
  refine memKept_of fun hw => ?_
  unfold State.fwStatus
  split <;> simp [hw]

@[simp] theorem kepFrom7_memKept (s : State) (epi : Nat) (h : KepFrame) (body : List Byte) (p : RxPath) :
    MemKept s (s.kepFrom7 epi h body p) := by
  refine memKept_of fun hw => ?_
  unfold State.kepFrom7
  dsimp only
  refine ite_memOk (by simp [hw]) (ite_memOk (ite_memOk (by simp [hw]) (by simp [hw])) ?_)
  split
  · exact ite_memOk (by simp [hw]) (by simp [hw])
  next mseq rs _ =>
  refine ite_memOk (by simp [hw]) ?_
  have hi := ingest_memOk s epi h.ic mseq rs hw
  split
  case h_5 => exact hw
  all_goals
    next hk =>
    rw [hk] at hi
    exact (answerAck_memKept ..).keeps hi

theorem keygenCommit_memKept {s t : State} {epi : Nat} {h : KepFrame} (hs : s.keygenCommit epi h = .ok t) : MemKept s t := by
  refine memKept_of fun hw => ?_
  simp only [State.keygenCommit] at hs
  split at hs
  next h =>
    injection hs with hs
    simp [← hs, (journal_memKept h).keeps hw]
  next hr => exact absurd hs (hr t)

@[simp] theorem kepLocal_memKept (s : State) (epi : Nat) (h : KepFrame) (p : RxPath) : MemKept s (s.kepLocal epi h p) := by
  refine memKept_of fun hw => ?_
  unfold State.kepLocal
  dsimp only
  refine ite_memOk (by simp [hw]) ?_
  split
  · refine ite_memOk (by simp [hw]) (ite_memOk (by simp [hw]) (ite_memOk (by simp [hw]) ?_))
    split
    next hk => simp [(keygenCommit_memKept hk).keeps hw]
    · exact ite_memOk (by simp [hw]) (by simp [hw])
    · exact hw
  · simp [hw]

@[simp] theorem kepRelay_memKept (s : State) (peer : Nat) (frame : List Byte) (p : RxPath) : MemKept s (s.kepRelay peer frame p) :=
  memKept_of fun hw => by simp [State.kepRelay, hw]

@[simp] theorem kepFrom2_memKept (s : State) (h : KepFrame) (p : RxPath) : MemKept s (s.kepFrom2 h p) := by
  refine memKept_of fun hw => ?_
  unfold State.kepFrom2
  dsimp only
  (repeat' split) <;> simp [hw]

@[simp] theorem setAcks_memKept (s : State) (l : List AckJob) : MemKept s (s.setAcks l) :=
  memKept_of fun hw => by simp [State.setAcks, hw]

@[simp] theorem execKepAckSend_outOk (n : Nat) (s : State) (hw : Memory.wf s.mem = true) : OutOk (execKepAckSend n s) := by
  rw [execKepAckSend]
  refine live_outOk hw ?_
  split
  · simp [hw]
  refine ite_outOk (by simp [hw]) (ite_outOk (by simp [hw]) ?_)
  split
  next h => simp [(downSend_memKept h).keeps hw]
  · simp [hw]
  · simp [hw]

@[simp] theorem downTry_memKept (s : State) (j : DownJob) : MemKept s (s.downTry j).1 := by
  refine memKept_of fun hw => ?_
  unfold State.downTry
  split
  · exact hw
  split
  · split
    next h => exact (downSend_memKept h).keeps hw
    · simp [hw]
    · dsimp only
      split <;> simp [hw]
  · simp [hw]

@[simp] theorem downRun_memKept (slot : Bool) (key : Nat) (js : List DownJob) (s : State) (stuck : Bool) (kept : List DownJob) :
    MemKept s (State.downRun slot key js s stuck kept).1 := by
  induction js generalizing s stuck kept with
  | nil => exact .refl s
  | cons j js ih =>
    rw [State.downRun]
    split
    · exact ih ..
    · have ht := downTry_memKept s j
      split
      all_goals
        next he =>
        rw [he] at ht
        exact ht.trans (ih ..)

@[simp] theorem downPump_memKept (s : State) (slot : Bool) (key : Nat) : MemKept s (s.downPump slot key) :=
  memKept_of fun hw => by simp [State.downPump, hw]

@[simp] theorem pendKey_memKept (s : State) (epi : Nat) : MemKept s (s.pendKey epi) := memKept_of fun hw => by simp [State.pendKey, hw]

@[simp] theorem execKeyUpdateSend_outOk (epi : Nat) (p : RxPath) (s : State) (hw : Memory.wf s.mem = true) :
    OutOk (execKeyUpdateSend epi p s) := by
  unfold execKeyUpdateSend
  (repeat' split) <;> simp [hw]

theorem dlmsFrom7_memKept {s t : State} {epi ic len : Nat} {b : List Byte} {caps : List DlmsCapture} {p : RxPath}
    (h : s.dlmsFrom7 epi ic len b caps p = some t) : MemKept s t := by
  refine memKept_of fun hw => ?_
  unfold State.dlmsFrom7 at h
  dsimp only at h
  split at h
  · injection h with h
    simp [← h, hw]
  split at h
  · injection h with h
    simp [← h, hw]
  split at h
  · injection h with h
    simp [← h, hw]
  split at h
  · injection h with h
    simp [← h, hw]
  split at h
  · injection h with h
    simp [← h, hw]
  generalize hs2 : State.bump _ fDLMBADTIME_COUNT _ = s2 at h
  have h2 : Memory.wf s2.mem = true := by simp [← hs2, hw]
  split at h
  case h_5 => cases h
  all_goals
    next hk =>
    have hi := hk ▸ ingest_memOk s2 epi ic ic _ h2
    injection h with h
    rwa [← h]

@[simp] theorem execDlmsApdu_outOk (epi : Nat) (apdu : List Byte) (caps : List DlmsCapture) (p : RxPath) (s : State)
    (hw : Memory.wf s.mem = true) : OutOk (execDlmsApdu epi apdu caps p s) := by
  rw [execDlmsApdu]
  refine live_outOk hw (ite_outOk (by simp [hw]) ?_)
  dsimp only
  split
  · simp [hw]
  refine ite_outOk (by simp [hw]) ?_
  split
  · simp [hw]
  refine ite_outOk (by simp [hw]) ?_
  split
  · refine ite_outOk (by simp [hw]) (ite_outOk (by simp [hw]) ?_)
    rw [outOk_next]
    cases hd : State.dlmsFrom7 _ epi _ _ _ caps p with
    | none => exact hw
    | some t => exact (dlmsFrom7_memKept hd).keeps (by simp [hw])
  · simp [hw]

@[simp] theorem execRelayEnvelopeReceive_outOk (b : List Byte) (s : State) (hw : Memory.wf s.mem = true) :
    OutOk (execRelayEnvelopeReceive b s) := by
  rw [execRelayEnvelopeReceive]
  refine live_outOk hw (ite_outOk (by simp [hw]) ?_)
  extract_lets +onlyGivenNames eui bad n dir
  have hbad : ∀ st, OutOk (bad st) := fun st => (outOk_next _).2 (ite_memOk ((refused5_memKept ..).keeps hw) hw)
  clear_value bad
  split
  · exact hbad _
  refine ite_outOk (hbad _) ?_
  split
  · exact hbad _
  extract_lets +onlyGivenNames k eic
  split
  · exact hbad _
  extract_lets +onlyGivenNames iv tag s1 kep s2
  have h2 : Memory.wf s2.mem = true := by
    rw [setKep_mem, fset_mem]
    exact (aeCount_memKept ..).keeps hw
  clear_value s2
  refine ite_outOk (hbad _) (ite_outOk (hbad _) (ite_outOk ?_ ?_))
  · exact (outOk_next _).2 (foldl_memOk (fun t r ht => by simp [ht]) _ h2)
  · rwa [outOk_next, setKep_mem]

/-! ### AesJobs -/

@[simp] theorem aesJob_memKept (s : State) (j : AesJob) (e : Nat) : MemKept s (s.aesJob j e).2.1 := by
  refine memKept_of fun hw => ?_
  unfold State.aesJob
  dsimp only
  (repeat' split) <;> simp [hw]

@[simp] theorem aesRow_memKept (s : State) (rowMode : Nat → Bool) (e : Nat) (waits : Bool) : MemKept s (s.aesRow rowMode e waits) := by
  refine memKept_of fun hw => ?_
  unfold State.aesRow
  split <;> simp [hw]

@[simp] theorem fwcampWrite_memKept (s : State) (n v : Nat) : MemKept s (s.fwcampWrite n v) :=
  memKept_of fun hw => by simp [State.fwcampWrite, hw]

@[simp] theorem setSp_memKept (s : State) (k : Nat) (x : SpSlot) : MemKept s (s.setSp k x) := memKept_of_mem rfl

@[simp] theorem spArm_memKept (s : State) (k n group : Nat) : MemKept s (s.spArm k n group) := by
  refine memKept_of fun hw => ?_
  unfold State.spArm
  dsimp only
  (repeat' split) <;> simp [hw]

@[simp] theorem spCancel_memKept (s : State) (k : Nat) : MemKept s (s.spCancel k) := memKept_of_mem rfl

@[simp] theorem sparmWrite_memKept (s : State) (k v : Nat) : MemKept s (s.sparmWrite k v) :=
  memKept_of fun hw => by simp [State.sparmWrite, hw]

@[simp] theorem spResume_memKept (s : State) (key k : Nat) : MemKept s (s.spResume key k) := by
  refine memKept_of fun hw => ?_
  unfold State.spResume
  split <;> simp [hw]

@[simp] theorem keyPump_memKept (s : State) (slot : Bool) (key : Nat) : MemKept s (s.keyPump slot key) :=
  memKept_of fun hw => by simp [State.keyPump, hw]

/-! ### Eth -/

@[simp] theorem pfxEnd_memKept (s : State) (st : Status) : MemKept s (s.pfxEnd st) := memKept_of_mem rfl

@[simp] theorem pfxCmd_memKept (s : State) (op : Nat) : MemKept s (s.pfxCmd op) := memKept_of fun hw => by simp [State.pfxCmd, hw]

@[simp] theorem eptEnd_memKept (s : State) (st : Status) : MemKept s (s.eptEnd st) := memKept_of_mem rfl

@[simp] theorem eptCmd_memKept (s : State) (op : Nat) : MemKept s (s.eptCmd op) := by
  refine memKept_of fun hw => ?_
  unfold State.eptCmd
  dsimp only
  (repeat' split) <;> simp [hw]

@[simp] theorem enForward_memKept (s : State) (k : Nat) (pkt : List Byte) : MemKept s (s.enForward k pkt) :=
  memKept_of fun hw => by simp [State.enForward, hw]

@[simp] theorem enHand_memKept (s : State) (k : Nat) (pkt : List Byte) (joined : Bool) : MemKept s (s.enHand k pkt joined) := by
  refine memKept_of fun hw => ?_
  unfold State.enHand
  dsimp only
  refine ite_memOk (by simp [hw]) (ite_memOk (by simp [hw]) (ite_memOk ?_ (by simp [hw])))
  refine ite_memOk (by simp [hw]) (ite_memOk (by simp [hw]) (ite_memOk (by simp [hw]) ?_))
  split <;> simp [hw]

@[simp] theorem enDeliver_memKept (s : State) (k : Nat) (pkt : List Byte) (joined : Bool) : MemKept s (s.enDeliver k pkt joined) :=
  memKept_of fun hw => by simp [State.enDeliver, hw]

@[simp] theorem execEthFrameReceive_outOk (k : Fin 2) (f : List Byte) (joined : Bool) (s : State) (hw : Memory.wf s.mem = true) :
    OutOk (execEthFrameReceive k f joined s) := by
  unfold execEthFrameReceive
  (repeat' split) <;> simp [hw]

@[simp] theorem sesMove_memKept (s : State) : MemKept s s.sesMove := memKept_of fun hw => by simp [State.sesMove, hw]

/-! ### Nbt -/

@[simp] theorem nbPut_memKept (s : State) (i o n v : Nat) : MemKept s (s.nbPut i o n v) := poke_memKept ..

@[simp] theorem nbFree_memKept (s : State) (i : Nat) : MemKept s (s.nbFree i) := memKept_of fun hw => by simp [State.nbFree, hw]

@[simp] theorem nbSeen_memKept (s : State) (eui medium : Nat) (indirect : Bool) : MemKept s (s.nbSeen eui medium indirect) := by
  refine memKept_of fun hw => ?_
  unfold State.nbSeen
  split
  · split <;> simp [hw]
  · split
    · simp [hw]
    · simp -implicitDefEqProofs [hw]

@[simp] theorem nbtEnd_memKept (s : State) (st : Status) : MemKept s (s.nbtEnd st) := memKept_of_mem rfl

@[simp] theorem nbtCmd_memKept (s : State) (v : Nat) : MemKept s (s.nbtCmd v) := memKept_of fun hw => by simp [State.nbtCmd, hw]

@[simp] theorem execNeighbourAgeSweep_outOk (s : State) (hw : Memory.wf s.mem = true) : OutOk (execNeighbourAgeSweep s) := by
  rw [execNeighbourAgeSweep]
  refine live_outOk hw ?_
  rw [outOk_next]
  refine foldl_memOk (fun t i ht => ?_) _ hw
  split
  · rw [bump_mem]
    exact (nbFree_memKept t i).keeps ht
  · exact ht

/-! ### PlOps -/

@[simp] theorem setPlPort_memKept (s : State) (p : Nat) (v : PlPort) : MemKept s (s.setPlPort p v) := memKept_of_mem rfl

@[simp] theorem setPlTri_memKept (s : State) (t : Nat) (v : PlTriple) : MemKept s (s.setPlTri t v) := memKept_of_mem rfl

@[simp] theorem plModeWritten_memKept (s : State) (old : Nat → Nat) : MemKept s (s.plModeWritten old) :=
  memKept_of fun hw => by simp [State.plModeWritten, hw]

@[simp] theorem lmUpdate_memKept (s : State) (i : Nat) : MemKept s (s.lmUpdate i) := memKept_of fun hw => by simp [State.lmUpdate, hw]

@[simp] theorem nbAttempt_memKept (s : State) (i : Option Nat) (ok : Bool) : MemKept s (s.nbAttempt i ok) := by
  refine memKept_of fun hw => ?_
  unfold State.nbAttempt
  split <;> simp [hw]

@[simp] theorem dropTxMap_memKept (s : State) (i : Nat) : MemKept s (s.dropTxMap i) := memKept_of fun hw => by simp [State.dropTxMap, hw]

@[simp] theorem plPath_memKept (s : State) (i : Nat) : MemKept s (s.plPath i).1 := by
  refine memKept_of fun hw => ?_
  unfold State.plPath
  dsimp only
  (repeat' split) <;> simp [hw]

@[simp] theorem plLearn_memKept (s : State) (i rep pcost : Nat) : MemKept s (s.plLearn i rep pcost) := by
  refine memKept_of fun hw => ?_
  unfold State.plLearn
  dsimp only
  (repeat' split) <;> simp [hw]

@[simp] theorem plDropUnwired_memKept (s : State) : MemKept s s.plDropUnwired := memKept_of fun hw => by simp [State.plDropUnwired, hw]

@[simp] theorem plPut_memKept (s : State) (p : Nat) (f : PlFrame) : MemKept s (s.plPut p f) :=
  memKept_of fun hw => by simp [State.plPut, hw]

@[simp] theorem plEnqueue_memKept (s : State) (p : Nat) (f : PlFrame) : MemKept s (s.plEnqueue p f) :=
  memKept_of fun hw => by simp [State.plEnqueue, hw]

@[simp] theorem plSend_memKept (s : State) (p dst pri mtype : Nat) (body : List Byte) (notBefore : Nat) (fid : Option Nat)
    (ack : Bool) (ackBy : Option Nat) : MemKept s (s.plSend p dst pri mtype body notBefore fid ack ackBy) := by
  refine memKept_of fun hw => ?_
  unfold State.plSend
  dsimp only
  (repeat' split) <;> simp [hw]

@[simp] theorem plRelease_memKept (s : State) (p : Nat) : MemKept s (s.plRelease p) := memKept_of_mem rfl

@[simp] theorem plSetHead_memKept (s : State) (p : Nat) (f : PlFrame) : MemKept s (s.plSetHead p f) := memKept_of_mem rfl

@[simp] theorem plPop_memKept (s : State) (p : Nat) : MemKept s (s.plPop p) := memKept_of_mem rfl

@[simp] theorem plSetE_memKept (s : State) (p e : Nat) : MemKept s (s.plSetE p e) := memKept_of_mem rfl

@[simp] theorem plFail_memKept (s : State) (p : Nat) : MemKept s (s.plFail p) := by
  refine memKept_of fun hw => ?_
  unfold State.plFail
  split <;> simp [hw]

@[simp] theorem plSucceed_memKept (s : State) (p : Nat) : MemKept s (s.plSucceed p) := by
  refine memKept_of fun hw => ?_
  unfold State.plSucceed
  split <;> simp [hw]

@[simp] theorem plGrantEnd_memKept (s : State) (p : Nat) : MemKept s (s.plGrantEnd p) :=
  memKept_of fun hw => by simp [State.plGrantEnd, hw]

@[simp] theorem plCut_memKept (s : State) (p : Nat) : MemKept s (s.plCut p) := by
  refine memKept_of fun hw => ?_
  unfold State.plCut
  split <;> simp [hw]

@[simp] theorem plCutAll_memKept (s : State) : MemKept s s.plCutAll := memKept_of fun hw => by simp [State.plCutAll, hw]

@[simp] theorem plYield_memKept (s : State) (t : Nat) : MemKept s (s.plYield t) := memKept_of fun hw => by simp [State.plYield, hw]

@[simp] theorem plOweEnd_memKept (s : State) (t : Nat) : MemKept s (s.plOweEnd t) := memKept_of fun hw => by simp [State.plOweEnd, hw]

@[simp] theorem plAckLost_memKept (s : State) (t : Nat) (o : PlOwe) : MemKept s (s.plAckLost t o) :=
  memKept_of fun hw => by simp [State.plAckLost, hw]

/-! ### Powerline -/

@[simp] theorem marginByte_memKept (s : State) (m : Option Int) : MemKept s (s.marginByte m).1 := by
  refine memKept_of fun hw => ?_
  unfold State.marginByte
  split <;> simp [hw]

@[simp] theorem plTmresp_memKept (s : State) (t i src : Nat) (snr : Nat → Int) : MemKept s (s.plTmresp t i src snr) :=
  memKept_of fun hw => by simp [State.plTmresp, hw]

@[simp] theorem plTakeMap_memKept (s : State) (i : Nat) (b : List Byte) : MemKept s (s.plTakeMap i b) :=
  memKept_of fun hw => by simp [State.plTakeMap, hw]

@[simp] theorem plAccept_memKept (s : State) (t best : Nat) (d : List Byte) (tmReq : Bool) (m : ToneMap) (snr : Nat → Int)
    (phase fold mean : Nat) : MemKept s (s.plAccept t best d tmReq m snr phase fold mean) := by
  refine memKept_of fun hw => ?_
  unfold State.plAccept
  extract_lets +onlyGivenNames self mesh mtype dst src orig forUs body s1 s2 asked s3
  have h2 : Memory.wf s2.mem = true := by
    unfold s2 s1
    split <;> simp [hw]
  have h3 : Memory.wf s3.mem = true := by
    unfold s3
    split
    · exact h2
    next i _ =>
      extract_lets +onlyGivenNames u u2 low n u3 u4
      have hu : Memory.wf u.mem = true := by simp [u, h2]
      have hu2 : Memory.wf u2.mem = true := by
        unfold u2
        split
        · split <;> simp [hu]
        · exact hu
      have hu4 : Memory.wf u4.mem = true := by
        unfold u4 u3
        split <;> simp [hu2]
      split
      · exact (plTakeMap_memKept ..).keeps hu4
      · exact hu4
  clear_value s3
  split
  · exact h3
  · exact (deliverTo_memKept ..).keeps h3

@[simp] theorem plOwe_memKept (s : State) (t : Nat) (o : PlOwe) : MemKept s (s.plOwe t o) := by
  refine memKept_of fun hw => ?_
  unfold State.plOwe
  split <;> simp [hw]

@[simp] theorem plPayload_memKept (s : State) (t best : Nat) (paths : List PlPathRx) (fch psdu : List Byte) (snrOk : Bool)
    (stop : Nat) : MemKept s (s.plPayload t best paths fch psdu snrOk stop) := by
  refine memKept_of fun hw => ?_
  unfold State.plPayload
  extract_lets +onlyGivenNames nsym rate owes f s2 owe
  have h2 : Memory.wf s2.mem = true := (drawn_memKept ..).keeps (foldl_memOk (fun u i hu => by simp [hu]) _ hw)
  have howe : ∀ u typ fcs mb reason, MemKept u (owe u typ fcs mb reason) := by
    intro u typ fcs mb reason
    unfold owe
    exact memKept_of fun hu => by split <;> simp [hu]
  clear_value s2 owe
  split
  · simp [howe, h2]
  · dsimp only
    refine ite_memOk ?_ (ite_memOk ?_ ?_) <;> simp [howe, h2]

@[simp] theorem plHeld_memKept (s : State) (t busy rx : Nat) : MemKept s (s.plHeld t busy rx) :=
  memKept_of fun hw => by simp [State.plHeld, hw]

@[simp] theorem plHearSpl_memKept (s : State) (t : Nat) (paths : List PlPathRx) (fch psdu : List Byte) (snrOk : Bool)
    (energyTo : Nat) : MemKept s (s.plHearSpl t paths fch psdu snrOk energyTo) := by
  refine memKept_of fun hw => ?_
  unfold State.plHearSpl
  split
  · exact hw
  · dsimp only
    split_ifs <;> simp [hw]

@[simp] theorem plG3Ack_memKept (s : State) (t : Nat) (ok : Bool) : MemKept s (s.plG3Ack t ok) := by
  refine memKept_of fun hw => ?_
  unfold State.plG3Ack
  split <;> simp [hw]

@[simp] theorem plG3Give_memKept (s : State) (t best : Nat) (f : PlFold) (octets : List Byte) : MemKept s (s.plG3Give t best f octets) :=
  memKept_of fun hw => by simp [State.plG3Give, hw]

@[simp] theorem plG3Segment_memKept (s : State) (t best : Nat) (f : PlFold) (last : Bool) (octets : List Byte) :
    MemKept s (s.plG3Segment t best f last octets) :=
  memKept_of fun hw => by simp [State.plG3Segment, hw]

@[simp] theorem plHearG3_memKept (s : State) (t : Nat) (paths : List PlPathRx) (parts : List G3Part) (kind : G3Kind) (fcs : Bool)
    (octets : List Byte) (stop : Nat) : MemKept s (s.plHearG3 t paths parts kind fcs octets stop) := by
  refine memKept_of fun hw => ?_
  unfold State.plHearG3
  split
  · exact hw
  · dsimp only
    split
    · simp [hw]
    · cases kind <;> simp [hw]

@[simp] theorem plEnergy_memKept (s : State) (t energyTo : Nat) : MemKept s (s.plEnergy t energyTo) :=
  memKept_of fun hw => by simp [State.plEnergy, hw]

@[simp] theorem execPlFrameReceive_outOk (t : Fin 4) (h : PlHeard) (s : State) (hw : Memory.wf s.mem = true) :
    OutOk (execPlFrameReceive t h s) := by
  unfold execPlFrameReceive
  (repeat' split) <;> simp [hw]

@[simp] theorem execPlTxQueue_outOk (src : PlSource) (s : State) (hw : Memory.wf s.mem = true) : OutOk (execPlTxQueue src s) := by
  unfold execPlTxQueue
  (repeat' split) <;> simp [hw]

@[simp] theorem plGrant_memKept (s : State) (n k : Nat) : MemKept s (s.plGrant n k) := by
  refine memKept_of fun hw => ?_
  induction n generalizing k with
  | zero => exact hw
  | succ n ih =>
    rw [State.plGrant]
    split
    · simp [hw]
    · exact ih _

@[simp] theorem execDriverRelease_outOk (p : Fin 12) (s : State) (hw : Memory.wf s.mem = true) : OutOk (execDriverRelease p s) := by
  unfold execDriverRelease
  dsimp only
  (repeat' split) <;> simp [hw]

@[simp] theorem execDriverMaxdeferExpiry_outOk (p : Fin 12) (s : State) (hw : Memory.wf s.mem = true) :
    OutOk (execDriverMaxdeferExpiry p s) := by
  unfold execDriverMaxdeferExpiry
  dsimp only
  (repeat' split) <;> simp [hw]

@[simp] theorem plStart_memKept (s : State) (p : Nat) (f : PlFrame) : MemKept s (s.plStart p f) := by
  refine memKept_of fun hw => ?_
  unfold State.plStart
  extract_lets +onlyGivenNames t i m psdu nsym raw fchEnd txEnd durUs due fcs fch P s1 T s2 pl s3 s4
  have h2 : Memory.wf s2.mem = true := by simp [s2, s1, hw]
  clear_value due i
  have h3 : Memory.wf s3.mem = true := by
    unfold s3
    split
    · split <;> simp [h2]
    · exact h2
  have h4 : Memory.wf s4.mem = true := by
    unfold s4
    split <;> simp [h3]
  clear_value s4
  split <;> simp [h4]

@[simp] theorem plPriSlot_memKept (s : State) (p : Nat) (f : PlFrame) (t0 j : Nat) : MemKept s (s.plPriSlot p f t0 j) :=
  memKept_of fun hw => by simp [State.plPriSlot, hw]

@[simp] theorem plBackSlot_memKept (s : State) (p : Nat) (f : PlFrame) (cw granted : Nat) : MemKept s (s.plBackSlot p f cw granted) := by
  refine memKept_of fun hw => ?_
  simp only [State.plBackSlot]
  split <;> simp [hw]

@[simp] theorem execPlAccessSlot_outOk (p : Fin 12) (s : State) (hw : Memory.wf s.mem = true) : OutOk (execPlAccessSlot p s) := by
  refine live_outOk hw ?_
  rw [outOk_next]
  dsimp only
  split
  · split_ifs <;> simp [hw]
  · exact hw

@[simp] theorem plAckGrant_memKept (s : State) (t : Nat) : MemKept s (s.plAckGrant t) :=
  memKept_of fun hw => by simp [State.plAckGrant, hw]

@[simp] theorem plAckStart_memKept (s : State) (t p : Nat) (o : PlOwe) : MemKept s (s.plAckStart t p o) :=
  memKept_of fun hw => by simp [State.plAckStart, hw]

@[simp] theorem execPlAckSend_outOk (t : Fin 4) (s : State) (hw : Memory.wf s.mem = true) : OutOk (execPlAckSend t s) := by
  unfold execPlAckSend
  dsimp only
  (repeat' split) <;> simp [hw]

@[simp] theorem execPlAckReceive_outOk (p : Fin 12) (fch : List Byte) (s : State) (hw : Memory.wf s.mem = true) :
    OutOk (execPlAckReceive p fch s) := by
  refine live_outOk hw ?_
  rw [outOk_next]
  dsimp only
  split
  · split
    · exact hw
    · split
      · split
        · exact hw
        · refine (setPlPort_memKept ..).keeps ((plSucceed_memKept ..).keeps ?_)
          split <;> simp [hw]
      · refine (setPlPort_memKept ..).keeps ((plFail_memKept ..).keeps ?_)
        split
        · split <;> simp [hw]
        · exact hw
  · exact hw

@[simp] theorem execPlAckTimeout_outOk (p : Fin 12) (s : State) (hw : Memory.wf s.mem = true) : OutOk (execPlAckTimeout p s) := by
  unfold execPlAckTimeout
  split <;> simp [hw]

@[simp] theorem plsmodeWrite_memKept (s : State) (v : Nat) : MemKept s (s.plsmodeWrite v) :=
  memKept_of fun hw => by simp [State.plsmodeWrite, hw]

@[simp] theorem plstmaskWrite_memKept (s : State) (v : Nat) : MemKept s (s.plstmaskWrite v) :=
  memKept_of fun hw => by simp [State.plstmaskWrite, hw]

@[simp] theorem plsldmapWrite_memKept (s : State) (k v : Nat) : MemKept s (s.plsldmapWrite k v) :=
  memKept_of fun hw => by simp [State.plsldmapWrite, hw]

/-! ### RfOps -/

@[simp] theorem setRfPort_memKept (s : State) (n : Nat) (v : RfPort) : MemKept s (s.setRfPort n v) := memKept_of_mem rfl

@[simp] theorem rfAbort_memKept (s : State) (n : Nat) : MemKept s (s.rfAbort n) := memKept_of_mem rfl

@[simp] theorem rfEmit_memKept (s : State) (n : Nat) (air : RfTx) (group kind mcs : Nat) (psdu : List Byte) (fid : Option Nat) :
    MemKept s (s.rfEmit n air group kind mcs psdu fid) := by
  refine memKept_of fun hw => ?_
  unfold State.rfEmit
  split <;> simp -implicitDefEqProofs [hw]

@[simp] theorem rfSeqNext_memKept (s : State) (n : Nat) : MemKept s (s.rfSeqNext n) := memKept_of_mem rfl

@[simp] theorem rfGiveBack_memKept (s : State) (n : Nat) (x : RfSend) : MemKept s (s.rfGiveBack n x) := by
  refine memKept_of fun hw => ?_
  unfold State.rfGiveBack
  split <;> simp [hw]

@[simp] theorem rfBegins_memKept (s : State) (n : Nat) (x : RfSend) : MemKept s (s.rfBegins n x) :=
  memKept_of fun hw => by simp [State.rfBegins, hw]

@[simp] theorem rfSettle_memKept (s : State) (n : Nat) : MemKept s (s.rfSettle n) := memKept_of fun hw => by simp [State.rfSettle, hw]

@[simp] theorem rfRecall_memKept (s : State) (n : Nat) : MemKept s (s.rfRecall n) := memKept_of fun hw => by simp [State.rfRecall, hw]

@[simp] theorem rfCutAll_memKept (s : State) : MemKept s s.rfCutAll := memKept_of fun hw => by simp [State.rfCutAll, hw]

@[simp] theorem lintPut_memKept (s : State) (orig fseq : Nat) : MemKept s (s.lintPut orig fseq) := by
  refine memKept_of fun hw => ?_
  unfold State.lintPut
  dsimp only
  (repeat' split) <;> simp [hw]

@[simp] theorem rfslotWrite_memKept (s : State) (n : Nat) (b : Bool) (i v : Nat) : MemKept s (s.rfslotWrite n b i v) :=
  memKept_of fun hw => by simp [State.rfslotWrite, hw]

@[simp] theorem rfslotctlWrite_memKept (s : State) (n v : Nat) : MemKept s (s.rfslotctlWrite n v) :=
  memKept_of fun hw => by simp [State.rfslotctlWrite, hw]

@[simp] theorem rfprofWrite_memKept (s : State) (n k v : Nat) : MemKept s (s.rfprofWrite n k v) := by
  refine memKept_of fun hw => ?_
  unfold State.rfprofWrite
  split <;> simp [hw]

@[simp] theorem rfchmaskWrite_memKept (s : State) (n v : Nat) : MemKept s (s.rfchmaskWrite n v) :=
  memKept_of fun hw => by simp [State.rfchmaskWrite, hw]

@[simp] theorem rfShift_memKept (s : State) (S : Int) : MemKept s (s.rfShift S) := memKept_of_mem rfl

@[simp] theorem rfAcquire_memKept (s : State) : MemKept s s.rfAcquire := memKept_of_mem rfl

@[simp] theorem rfRealign_memKept (s : State) : MemKept s s.rfRealign := memKept_of_mem rfl

@[simp] theorem rfRestart_memKept (s : State) : MemKept s s.rfRestart := memKept_of fun hw => by simp [State.rfRestart, hw]

@[simp] theorem rfQuiet_memKept (s : State) : MemKept s s.rfQuiet := memKept_of fun hw => by simp [State.rfQuiet, hw]

@[simp] theorem rfsfWrite_memKept (s : State) (v : Nat) : MemKept s (s.rfsfWrite v) :=
  memKept_of fun hw => by simp -implicitDefEqProofs [State.rfsfWrite, hw]

/-! ### Radio -/

@[simp] theorem rfDetect_memKept (s : State) (n : Nat) (d : RfDet) : MemKept s (s.rfDetect n d) := by
  refine memKept_of fun hw => ?_
  unfold State.rfDetect
  dsimp only
  (repeat' split) <;> simp [hw]

@[simp] theorem rfNoted_memKept (s : State) (n : Nat) (D : RfDemod) (h : RfHeard) : MemKept s (s.rfNoted n D h) := by
  refine memKept_of fun hw => ?_
  unfold State.rfNoted
  dsimp only
  (repeat' split) <;> simp [hw]

@[simp] theorem rfSpread_memKept (s : State) (f : State → Nat → RfFrame) (draws : Nat) : MemKept s (s.rfSpread f draws) :=
  memKept_of fun hw => by simp [State.rfSpread, hw]

@[simp] theorem rfRelay_memKept (s : State) (b : List Byte) : MemKept s (s.rfRelay b) := memKept_of fun hw => by simp [State.rfRelay, hw]

@[simp] theorem rfHand_memKept (s : State) (n : Nat) (D : RfDemod) (h : RfHeard) (seen : Bool) : MemKept s (s.rfHand n D h seen) :=
  memKept_of fun hw => by simp [State.rfHand, hw]

@[simp] theorem rfData_memKept (s : State) (n : Nat) (D : RfDemod) (h : RfHeard) : MemKept s (s.rfData n D h) := by
  refine memKept_of fun hw => ?_
  simp only [State.rfData]
  split
  · exact hw
  generalize hs1 : (ite (macAckReq h.psdu = true ∧ macDst h.psdu = s.fget fKEYID_EUI)
    (cut 8 (Config.freeInt s.freeCtr), s.drawn 1) (0, s)) = r
  have h1 : Memory.wf r.2.mem = true := by
    rw [← hs1]
    split <;> simp [hw]
  obtain ⟨margin, s1⟩ := r
  dsimp only at h1 ⊢
  generalize hs2 : (ite (macAckReq h.psdu = true ∧ macDst h.psdu = s.fget fKEYID_EUI) _ s1) = s2
  have h2 : Memory.wf s2.mem = true := by
    rw [← hs2]
    split <;> simp [h1]
  clear hs1 hs2
  split
  · simp [h2]
  · split
    · refine (rfRelay_memKept ..).keeps ?_
      split <;> simp [h2]
    · split
      · simp [h2]
      · split <;> simp [h2]

@[simp] theorem execRfFrameDeliver_outOk (n : Fin 6) (idx : Fin 64) (h : RfHeard) (s : State) (hw : Memory.wf s.mem = true) :
    OutOk (execRfFrameDeliver n idx h s) := by
  refine live_outOk hw ?_
  rw [outOk_next]
  dsimp only
  split
  · simp [hw]
  · split_ifs <;> simp [hw]

@[simp] theorem execRfAckSend_outOk (n : Fin 6) (s : State) (hw : Memory.wf s.mem = true) : OutOk (execRfAckSend n s) := by
  unfold execRfAckSend
  dsimp only
  (repeat' split) <;> simp [hw]

@[simp] theorem rfBeacon_memKept (s : State) (n start : Nat) : MemKept s (s.rfBeacon n start) :=
  memKept_of fun hw => by simp [State.rfBeacon, hw]

@[simp] theorem rfBegin_memKept (s : State) (start len sfn : Nat) : MemKept s (s.rfBegin start len sfn) :=
  memKept_of fun hw => by simp [State.rfBegin, hw]

@[simp] theorem rfFallback_memKept (s : State) : MemKept s s.rfFallback := memKept_of fun hw => by simp [State.rfFallback, hw]

@[simp] theorem rfRootStart_memKept (s : State) : MemKept s s.rfRootStart := memKept_of fun hw => by simp [State.rfRootStart, hw]

@[simp] theorem rfFollowStart_memKept (s : State) (start : Nat) : MemKept s (s.rfFollowStart start) :=
  memKept_of fun hw => by simp [State.rfFollowStart, hw]

@[simp] theorem execSuperframeStart_outOk (s : State) (hw : Memory.wf s.mem = true) : OutOk (execSuperframeStart s) := by
  unfold execSuperframeStart
  dsimp only
  (repeat' split) <;> simp [hw]

@[simp] theorem rfFlood_memKept (s : State) (dst : Nat) (payload : List Byte) : MemKept s (s.rfFlood dst payload).1 :=
  memKept_of fun hw => by simp [State.rfFlood, hw]

@[simp] theorem rfTake_memKept (s : State) (n : Nat) (f : PortFrame) : MemKept s (s.rfTake n f) :=
  memKept_of fun hw => by simp [State.rfTake, apply_ite Prod.fst, hw]

@[simp] theorem rfPull_memKept (s : State) (n : Nat) : MemKept s (s.rfPull n) := memKept_of fun hw => by simp [State.rfPull, hw]

@[simp] theorem execRfRunTransmit_outOk (n : Fin 6) (s : State) (hw : Memory.wf s.mem = true) : OutOk (execRfRunTransmit n s) := by
  unfold execRfRunTransmit
  dsimp only
  (repeat' split) <;> simp [hw]

@[simp] theorem execSleepySend_outOk (n : Fin 6) (s : State) (hw : Memory.wf s.mem = true) : OutOk (execSleepySend n s) := by
  unfold execSleepySend
  dsimp only
  (repeat' split) <;> simp [hw]

@[simp] theorem execFloodRelayEligible_outOk (n : Fin 6) (k : Nat) (s : State) (hw : Memory.wf s.mem = true) :
    OutOk (execFloodRelayEligible n k s) := by
  unfold execFloodRelayEligible
  dsimp only
  (repeat' split) <;> simp [hw]

/-! ### Handed -/

@[simp] theorem rfLate_memKept (ack : Bool) (s : State) (n : Nat) : MemKept s (State.rfLate ack s n).1 :=
  memKept_of fun hw => by simp [State.rfLate, hw]

@[simp] theorem plLate_memKept (ack : Bool) (s : State) (p : Nat) : MemKept s (State.plLate ack s p).1 :=
  memKept_of fun hw => by simp [State.plLate, hw]

@[simp] theorem outLate_memKept (ack : Bool) (s : State) : MemKept s (State.outLate ack s).1 :=
  memKept_of fun hw => by simp [State.outLate, hw]

@[simp] theorem handedLate_memKept (s : State) (ack : Bool) : MemKept s (s.handedLate ack).1 := by
  refine memKept_of fun hw => ?_
  simp only [State.handedLate]
  refine (foldl_fst_memKept _ (fun r p hr => by simp [hr]) _ _).keeps ?_
  exact (foldl_fst_memKept _ (fun r n hr => by simp [hr]) _ _).keeps ((outLate_memKept ack s).keeps hw)

@[simp] theorem execKepAckDrop_outOk (n : Nat) (s : State) (hw : Memory.wf s.mem = true) : OutOk (execKepAckDrop n s) := by
  unfold execKepAckDrop
  split <;> simp [hw]

@[simp] theorem execRelayDownlinkTransmit_outOk (n : Nat) (s : State) (hw : Memory.wf s.mem = true) :
    OutOk (execRelayDownlinkTransmit n s) := by
  unfold execRelayDownlinkTransmit
  split <;> simp [hw]

/-! ### KeyCmd -/

@[simp] theorem needStoreKey_memKept (s : State) : MemKept s s.needStoreKey := memKept_of fun hw => by simp [State.needStoreKey, hw]

@[simp] theorem fillSlot_memKept (s : State) (n : Nat) (k : KeySlot) : MemKept s (s.fillSlot n k) :=
  memKept_of fun hw => by simp [State.fillSlot, hw]

@[simp] theorem slotResvClear_memKept (s : State) (n : Nat) : MemKept s (s.slotResvClear n) :=
  memKept_of fun hw => by simp [State.slotResvClear, hw]

@[simp] theorem dropSlot_memKept (s : State) (n : Nat) : MemKept s (s.dropSlot n) := memKept_of fun hw => by simp [State.dropSlot, hw]

@[simp] theorem pocketPut_memKept (s : State) (epi parent ptype mask : Nat) (mat : List Byte) :
    MemKept s (s.pocketPut epi parent ptype mask mat) :=
  memKept_of fun hw => by simp [State.pocketPut, hw]

@[simp] theorem keyGen_memKept (s : State) (g : KeyArg) : MemKept s (s.keyGen g).2 := by
  refine memKept_of fun hw => ?_
  unfold State.keyGen
  (repeat' split) <;> simp [hw]

@[simp] theorem keyInvalidate_memKept (s : State) (g : KeyArg) : MemKept s (s.keyInvalidate g).2 := by
  refine memKept_of fun hw => ?_
  unfold State.keyInvalidate
  split <;> simp [hw]

@[simp] theorem keySetpub_memKept (s : State) (g : KeyArg) : MemKept s (s.keySetpub g).2 := by
  refine memKept_of fun hw => ?_
  unfold State.keySetpub
  dsimp only
  (repeat' split) <;> simp [hw]

@[simp] theorem keyPubout_memKept (s : State) (g : KeyArg) : MemKept s (s.keyPubout g).2 :=
  memKept_of fun hw => by simp [State.keyPubout, apply_ite Prod.snd, hw]

@[simp] theorem keyImport_memKept (s : State) (g : KeyArg) : MemKept s (s.keyImport g).2 := by
  refine memKept_of fun hw => ?_
  unfold State.keyImport
  (repeat' split) <;> simp [hw]

@[simp] theorem keyExport_memKept (s : State) (g : KeyArg) : MemKept s (s.keyExport g).2 := by
  refine memKept_of fun hw => ?_
  unfold State.keyExport
  dsimp only
  (repeat' split) <;> simp [hw]

@[simp] theorem keyGenpkt_memKept (s : State) (g : KeyArg) : MemKept s (s.keyGenpkt g).2 := by
  refine memKept_of fun hw => ?_
  unfold State.keyGenpkt
  (repeat' split) <;> simp [hw]

@[simp] theorem keyImportpkt_memKept (s : State) (g : KeyArg) : MemKept s (s.keyImportpkt g).2 := by
  refine memKept_of fun hw => ?_
  unfold State.keyImportpkt
  dsimp only
  (repeat' split) <;> simp [hw]

@[simp] theorem keyRewrap_memKept (s : State) (g : KeyArg) : MemKept s (s.keyRewrap g).2 := by
  refine memKept_of fun hw => ?_
  unfold State.keyRewrap
  dsimp only
  (repeat' split) <;> simp [hw]

@[simp] theorem keyAttest_memKept (s : State) (g : KeyArg) : MemKept s (s.keyAttest g).2 := by
  refine memKept_of fun hw => ?_
  unfold State.keyAttest
  (repeat' split) <;> simp [hw]

@[simp] theorem keyAuth_memKept (s : State) (g : KeyArg) : MemKept s (s.keyAuth g).2 := by
  refine memKept_of fun hw => ?_
  unfold State.keyAuth
  split
  · exact hw
  · simp [apply_ite Prod.snd, hw]

@[simp] theorem disarm_memKept (s : State) : MemKept s s.disarm := memKept_of_mem rfl

@[simp] theorem keyRun_memKept (s : State) (op : Nat) (g : KeyArg) : MemKept s (s.keyRun op g).2 :=
  memKept_of fun hw => by simp [State.keyRun, apply_ite Prod.snd, hw]

@[simp] theorem keyWork_memKept (s : State) (op : Nat) (g : KeyArg) : MemKept s (s.keyWork op g).2 :=
  memKept_of fun hw => by simp [State.keyWork, hw]

@[simp] theorem keyCheck_memKept (s : State) (op : Nat) : MemKept s (s.keyCheck op).2 :=
  memKept_of fun hw => by simp [State.keyCheck, apply_ite Prod.snd, hw]

@[simp] theorem keyCmd_memKept (s : State) (op : Nat) : MemKept s (s.keyCmd op) := by
  refine memKept_of fun hw => ?_
  unfold State.keyCmd
  extract_lets +onlyGivenNames was
  have h := (keyCheck_memKept s op).keeps hw
  split
  next st t he =>
    rw [he] at h
    split <;> simp [h]

/-! ### Engines -/

@[simp] theorem jobSrc_memKept (s : State) (a n : Nat) : MemKept s (s.jobSrc a n).2.1 := by
  refine memKept_of fun hw => ?_
  unfold State.jobSrc
  dsimp only
  (repeat' split) <;> simp [hw]

@[simp] theorem jobOut_memKept (s : State) (a : Nat) (out : List Byte) : MemKept s (s.jobOut a out).2.1 := by
  refine memKept_of fun hw => ?_
  unfold State.jobOut
  split <;> simp [hw]

@[simp] theorem shaJob_memKept (s : State) (j : EngJob) : MemKept s (s.shaJob j).2.1 := by
  refine memKept_of fun hw => ?_
  unfold State.shaJob
  split
  · exact hw
  have h := (jobSrc_memKept s j.src j.len).keeps hw
  split
  all_goals
    next he =>
    rw [he] at h
    simp [h]

@[simp] theorem dsaJob_memKept (s : State) (j : EngJob) : MemKept s (s.dsaJob j).2.1 := by
  refine memKept_of fun hw => ?_
  unfold State.dsaJob
  split
  · have h := (jobSrc_memKept s j.src j.len).keeps hw
    split
    next t m he =>
      rw [he] at h
      split
      · exact h
      · split <;> simp [h]
    next he =>
      rw [he] at h
      exact h
  · split
    · have h := (jobSrc_memKept s j.src (j.len + sigBytes)).keeps hw
      split
      all_goals
        next he =>
        rw [he] at h
        simp [h]
    · exact hw

@[simp] theorem kemSecret_memKept (s : State) (j : EngJob) (secret : List Byte) : MemKept s (s.kemSecret j secret) :=
  memKept_of fun hw => by simp [State.kemSecret, hw]

@[simp] theorem kemJob_memKept (s : State) (j : EngJob) : MemKept s (s.kemJob j).2.1 := by
  refine memKept_of fun hw => ?_
  unfold State.kemJob
  split
  · exact hw
  split
  · split
    · split
      · exact hw
      · split <;> simp [hw]
    · split
      · exact hw
      · have h := (jobSrc_memKept s j.src 1568).keeps hw
        split
        all_goals
          next he =>
          rw [he] at h
          simp [h]
  · exact hw

@[simp] theorem engRow_memKept (s : State) (rowOp : Nat → Bool) (unit jq dq : Nat) (en : Bool) (run : State → EngJob → JobEnd)
    (hrun : ∀ t j, Memory.wf t.mem = true → Memory.wf (run t j).2.1.mem = true) : MemKept s (s.engRow rowOp unit jq dq en run) := by
  refine memKept_of fun hw => ?_
  unfold State.engRow
  refine ite_memOk hw ?_
  split
  · exact hw
  next d _ =>
  extract_lets +onlyGivenNames j s1
  refine ite_memOk hw ?_
  have h1 : Memory.wf s1.mem = true := (dequeued_memKept ..).keeps hw
  generalize hr : (ite ((!s.engineMode) = true) _ _ : Status × State × Nat) = r
  have h2 : Memory.wf r.2.1.mem = true := by
    rw [← hr]
    split
    · exact h1
    · split
      · exact h1
      · exact hrun _ _ h1
  exact (hwEnqueue_memKept ..).keeps h2

@[simp] theorem shaRow_memKept (s : State) (rowOp : Nat → Bool) : MemKept s (s.shaRow rowOp) :=
  memKept_of fun hw => by simp [State.shaRow, hw]

@[simp] theorem dsaRow_memKept (s : State) (rowOp : Nat → Bool) : MemKept s (s.dsaRow rowOp) :=
  memKept_of fun hw => by simp [State.dsaRow, hw]

@[simp] theorem kemRow_memKept (s : State) (rowOp : Nat → Bool) : MemKept s (s.kemRow rowOp) :=
  memKept_of fun hw => by simp [State.kemRow, hw]

@[simp] theorem engAbort_memKept (s : State) (x : EngBusy) : MemKept s (s.engAbort x) := by
  refine memKept_of fun hw => ?_
  unfold State.engAbort
  dsimp only
  (repeat' split) <;> simp [hw]

@[simp] theorem engAborts_memKept (s : State) (busy : List EngBusy) : MemKept s (s.engAborts busy) :=
  foldl_memKept _ (fun t u => by split <;> simp) _ s

/-! ### Duneb -/

@[simp] theorem sesDgram_memKept (s : State) (chip : Option Nat) (d : List Byte) : MemKept s (s.sesDgram chip d) :=
  memKept_of fun hw => by simp [State.sesDgram, hw]

@[simp] theorem dlDown_memKept (s : State) (k : Nat) : MemKept s (s.dlDown k) := memKept_of fun hw => by simp [State.dlDown, hw]

@[simp] theorem dlResend_memKept (s : State) (k : Nat) : MemKept s (s.dlResend k) := memKept_of fun hw => by simp [State.dlResend, hw]

@[simp] theorem helloApply_memKept (s : State) (k : Nat) (b : List Byte) : MemKept s (s.helloApply k b) := by
  refine memKept_of fun hw => ?_
  unfold State.helloApply
  (repeat' split) <;> simp [*]

@[simp] theorem dlTrain_memKept (s : State) (k : Nat) (was : Bool) : MemKept s (s.dlTrain k was) :=
  memKept_of fun hw => by simp [State.dlTrain, hw]

@[simp] theorem dlDeliver_memKept (s : State) (k : Nat) (m : List DlCell) : MemKept s (s.dlDeliver k m) := by
  refine memKept_of fun hw => ?_
  unfold State.dlDeliver
  split <;> simp [hw]

@[simp] theorem dlForward_memKept (s : State) (k : Nat) (m : List DlCell) : MemKept s (s.dlForward k m) := by
  refine memKept_of fun hw => ?_
  unfold State.dlForward
  dsimp only
  (repeat' split) <;> simp [hw]

@[simp] theorem dlWord_memKept (s : State) (k w : Nat) : MemKept s (s.dlWord k w) := by
  refine memKept_of fun hw => ?_
  unfold State.dlWord
  dsimp only
  (repeat' split) <;> simp [hw]

@[simp] theorem dlNak_memKept (s : State) (k : Nat) : MemKept s (s.dlNak k) := memKept_of fun hw => by simp [State.dlNak, hw]

@[simp] theorem dlBad_memKept (s : State) (k eui : Nat) : MemKept s (s.dlBad k eui) := memKept_of fun hw => by simp [State.dlBad, hw]

@[simp] theorem dlAccept_memKept (s : State) (k tseq : Nat) (c : DlCell) : MemKept s (s.dlAccept k tseq c) :=
  memKept_of fun hw => by simp [State.dlAccept, hw]

@[simp] theorem mapAdopt_memKept (s : State) (epoch : Nat) (m : List Byte) : MemKept s (s.mapAdopt epoch m) :=
  memKept_of fun hw => by simp [State.mapAdopt, hw]

@[simp] theorem moveEnd_memKept (s : State) (st : Nat) : MemKept s (s.moveEnd st) := by
  refine memKept_of fun hw => ?_
  unfold State.moveEnd
  dsimp only
  (repeat' split) <;> simp [hw]

@[simp] theorem semWrite_memKept (s : State) (v : Nat) : MemKept s (s.semWrite v) := memKept_of fun hw => by simp [State.semWrite, hw]

@[simp] theorem seamMsg_memKept (s : State) (chip op b : Nat) : MemKept s (s.seamMsg chip op b) :=
  memKept_of fun hw => by simp [State.seamMsg, hw]

@[simp] theorem semMoveStore_memKept (s : State) (b h m : Nat) : MemKept s (s.semMoveStore b h m) := memKept_of_mem rfl

@[simp] theorem moveArm_memKept (s : State) (b h m : Nat) : MemKept s (s.moveArm b h m) :=
  memKept_of fun hw => by simp [State.moveArm, hw]

@[simp] theorem moveDiscard_memKept (s : State) : MemKept s s.moveDiscard := foldl_memKept _ (fun t e => by split <;> simp) _ s

@[simp] theorem moveAbandon_memKept (s : State) : MemKept s s.moveAbandon := memKept_of fun hw => by simp [State.moveAbandon, hw]

@[simp] theorem moveResume_memKept (s : State) : MemKept s s.moveResume := memKept_of fun hw => by simp [State.moveResume, hw]

@[simp] theorem moveAbortWrite_memKept (s : State) : MemKept s s.moveAbortWrite := memKept_of fun hw => by simp [State.moveAbortWrite, hw]

@[simp] theorem semMoveWrite_memKept (s : State) (v : Nat) : MemKept s (s.semMoveWrite v) :=
  memKept_of fun hw => by simp -implicitDefEqProofs [State.semMoveWrite, hw]

@[simp] theorem endpointWrite_memKept (s : State) (b : List Byte) (poison : List Nat) : MemKept s (s.endpointWrite b poison).2 := by
  refine memKept_of fun hw => ?_
  unfold State.endpointWrite
  dsimp only
  (repeat' split) <;> simp [hw]

@[simp] theorem moveIn_memKept (s : State) : MemKept s s.moveIn := by
  refine memKept_of fun hw => ?_
  unfold State.moveIn
  dsimp only
  refine ite_memOk hw ?_
  split
  next h =>
    refine foldl_memOk (fun t c ht => ite_memOk ht (by simp [ht])) _ ((seamChange_memKept ..).keeps ?_)
    rw [fset_mem, setMov_mem]
    exact foldl_memOk (fun t e ht => by simp [ht]) _ ((journal_memKept h).keeps hw)
  · exact hw

@[simp] theorem execMoved_outOk (b : BitVec 12) (home : BitVec 3) (s : State) (hw : Memory.wf s.mem = true) :
    OutOk (execMoved b home s) := by
  rw [execMoved]
  dsimp only
  refine live_outOk hw (ite_outOk ?_ (ite_outOk ?_ ?_))
  · exact (outOk_next ..).2 (ite_memOk (by simp [hw]) hw)
  · split
    next h =>
      rw [outOk_next]
      refine (seamMsg_memKept ..).keeps ((moveEnd_memKept ..).keeps ((seamChange_memKept ..).keeps ?_))
      exact foldl_memOk (fun t e ht => by split <;> simp [ht]) _ ((journalRaw_memKept h).keeps hw)
    · simp [hw]
  · simp [hw]

@[simp] theorem execMoveTimeout_outOk (s : State) (hw : Memory.wf s.mem = true) : OutOk (execMoveTimeout s) := by
  unfold execMoveTimeout
  split <;> simp [hw]

@[simp] theorem execMoveAbort_outOk (a : Agent) (st : AbortStep) (s : State) (hw : Memory.wf s.mem = true) :
    OutOk (execMoveAbort a st s) := by
  cases st <;> simp [execMoveAbort, hw]

/-! ### Sessions -/

@[simp] theorem setPlaneQ_memKept (s : State) (p : Nat) (l : List Rec) : MemKept s (s.setPlaneQ p l) :=
  memKept_of fun hw => by simp [State.setPlaneQ, hw]

@[simp] theorem execReportMergeTurn_outOk (s : State) (hw : Memory.wf s.mem = true) : OutOk (execReportMergeTurn s) := by
  unfold execReportMergeTurn
  split <;> simp [hw]

@[simp] theorem setCur_memKept (s : State) (c : Option Sess) : MemKept s (s.setCur c) := memKept_of fun hw => by simp [State.setCur, hw]

@[simp] theorem sesRegs_memKept (s : State) : MemKept s s.sesRegs := by
  refine memKept_of fun hw => ?_
  unfold State.sesRegs
  split <;> simp [hw]

@[simp] theorem holdDrop_memKept (s : State) (n : Nat) : MemKept s (s.holdDrop n) := memKept_of fun hw => by simp [State.holdDrop, hw]

@[simp] theorem holdPut_memKept (s : State) (l : List Rec) : MemKept s (s.holdPut l) := memKept_of fun hw => by simp [State.holdPut, hw]

@[simp] theorem holdEase_memKept (s : State) : MemKept s s.holdEase := memKept_of fun hw => by simp [State.holdEase, hw]

@[simp] theorem sesSend_memKept (s : State) (d : List Byte) : MemKept s (s.sesSend d) := memKept_of fun hw => by simp [State.sesSend, hw]

@[simp] theorem sendBatch_memKept (s : State) : MemKept s s.sendBatch := by
  refine memKept_of fun hw => ?_
  unfold State.sendBatch
  (repeat' split) <;> simp [hw]

@[simp] theorem sendBatches_memKept (s : State) : MemKept s s.sendBatches := memKept_of fun hw => by simp [State.sendBatches, hw]

@[simp] theorem spillOne_memKept (s : State) : MemKept s s.spillOne := by
  refine memKept_of fun hw => ?_
  unfold State.spillOne
  split <;> simp [hw]

@[simp] theorem spill_memKept (s : State) : MemKept s s.spill := memKept_of fun hw => by simp [State.spill, hw]

@[simp] theorem execBatchClose_outOk (s : State) (hw : Memory.wf s.mem = true) : OutOk (execBatchClose s) := by
  unfold execBatchClose
  (repeat' split) <;> simp [hw]

@[simp] theorem sesOpen_memKept (s : State) : MemKept s s.sesOpen := by
  refine memKept_of fun hw => ?_
  unfold State.sesOpen
  dsimp only
  (repeat' split) <;> simp [hw]

@[simp] theorem unsent_memKept (s : State) (c : Sess) : MemKept s (s.unsent c) := memKept_of fun hw => by simp [State.unsent, hw]

@[simp] theorem execInitTimeout_outOk (s : State) (hw : Memory.wf s.mem = true) : OutOk (execInitTimeout s) := by
  unfold execInitTimeout
  split <;> simp [hw]

@[simp] theorem badDgram_memKept (s : State) (d : List Byte) (st : Status) : MemKept s (s.badDgram d st) :=
  memKept_of fun hw => by simp [State.badDgram, hw]

@[simp] theorem execAccept_outOk (d : List Byte) (s : State) (hw : Memory.wf s.mem = true) : OutOk (execAccept d s) := by
  unfold execAccept
  (repeat' split) <;> simp [hw]

@[simp] theorem setExported_memKept (s : State) (rseq rep : Nat) : MemKept s (s.setExported rseq rep) := by
  refine memKept_of fun hw => ?_
  unfold State.setExported
  split <;> simp [hw]

@[simp] theorem coverRec_memKept (s : State) (r : Rec) : MemKept s (s.coverRec r) := memKept_of fun hw => by simp [State.coverRec, hw]

@[simp] theorem covered_memKept (s : State) (gone : List Batch) : MemKept s (s.covered gone) :=
  memKept_of fun hw => by simp [State.covered, hw]

@[simp] theorem execBack_outOk (d : List Byte) (s : State) (hw : Memory.wf s.mem = true) : OutOk (execBack d s) := by
  -- the check of the datagram's tag is held opaque, so that the kernel does not evaluate it
  obtain ⟨back, hback⟩ : ∃ back, back = Sess.backOk := ⟨_, rfl⟩
  rw [execBack, ← hback]
  clear hback
  refine live_outOk hw (ite_outOk (by simp [hw]) (ite_outOk (by simp [hw]) ?_))
  extract_lets +onlyGivenNames sid seq cum inCur inOld
  refine ite_outOk ?_ (ite_outOk ?_ (by simp [hw]))
  · split
    · simp [hw]
    · split <;> simp [hw]
  · split
    · simp [hw]
    · split <;> simp [hw]

@[simp] theorem execBatchResend_outOk (s : State) (hw : Memory.wf s.mem = true) : OutOk (execBatchResend s) := by
  unfold execBatchResend
  split <;> simp [hw]

@[simp] theorem oldEnd_memKept (s : State) : MemKept s s.oldEnd := by
  refine memKept_of fun hw => ?_
  unfold State.oldEnd
  split <;> simp [hw]

@[simp] theorem execSessionRekey_outOk (s : State) (hw : Memory.wf s.mem = true) : OutOk (execSessionRekey s) := by
  unfold execSessionRekey
  split <;> simp [hw]

@[simp] theorem execOldSessionExpiry_outOk (s : State) (hw : Memory.wf s.mem = true) : OutOk (execOldSessionExpiry s) := by
  unfold execOldSessionExpiry
  split <;> simp [hw]

@[simp] theorem sesClose_memKept (s : State) (c : Sess) (reason : Nat) : MemKept s (s.sesClose c reason) :=
  memKept_of fun hw => by simp [State.sesClose, hw]

@[simp] theorem execClose_outOk (d : List Byte) (s : State) (hw : Memory.wf s.mem = true) : OutOk (execClose d s) := by
  rw [execClose]
  dsimp only
  refine live_outOk hw (ite_outOk (by simp [hw]) (ite_outOk ?_ (ite_outOk (by simp [hw]) ?_)))
  · split
    · exact (outOk_next ..).2 (ite_memOk (by simp [hw]) (by simp [hw]))
    · simp [hw]
  · split
    · refine ite_outOk ((outOk_next ..).2 (ite_memOk (by simp [hw]) (by simp [hw]))) ?_
      split
      · exact ite_outOk ((outOk_next ..).2 (ite_memOk (by simp [hw]) (by simp [hw]))) (by simp [hw])
      · simp [hw]
    · exact ite_outOk ((outOk_next ..).2 (ite_memOk (by simp [hw]) (by simp [hw]))) (by simp [hw])
    · simp [hw]

/-! ### Reset -/

@[simp] theorem cutTransmit_memKept (s : State) : MemKept s s.cutTransmit := memKept_of fun hw => by simp [State.cutTransmit, hw]

@[simp] theorem gateFollow_memKept (s : State) : MemKept s s.gateFollow := memKept_of fun hw => by simp [State.gateFollow, hw]

@[simp] theorem setActOut_memKept (s : State) (b : Bool) : MemKept s (s.setActOut b) := memKept_of fun hw => by simp [State.setActOut, hw]

@[simp] theorem actRelease_memKept (s : State) : MemKept s s.actRelease := memKept_of fun hw => by simp [State.actRelease, hw]

@[simp] theorem eraseKeys_memKept (s : State) : MemKept s s.eraseKeys := memKept_of fun hw => by simp [State.eraseKeys, hw]

@[simp] theorem resetCsrs_memKept (s : State) (kind : Nat) : MemKept s (s.resetCsrs kind) := memKept_of_mem rfl

@[simp] theorem keep_memKept (s : State) (kind : Nat) : MemKept s (s.keep kind) := memKept_of (Store.wf_filter _)

@[simp] theorem resetEvents_memKept (s : State) (causes step : Nat) : MemKept s (s.resetEvents causes step) :=
  memKept_of fun hw => by simp [State.resetEvents, hw]

@[simp] theorem doReset_memKept (s : State) (cause extra : Nat) : MemKept s (s.doReset cause extra) := by
  refine memKept_of fun hw => ?_
  simp [State.doReset, hw]

@[simp] theorem swresetWrite_memKept (s : State) (v : Nat) : MemKept s (s.swresetWrite v) :=
  memKept_of fun hw => by simp [State.swresetWrite, hw]

@[simp] theorem swr_memKept (s : State) (req : Nat) : MemKept s (s.swr req) := memKept_of fun hw => by simp [State.swr, hw]

/-! ### Tamper -/

@[simp] theorem alarmEnds_memKept (s : State) (cut : AlarmCut) : MemKept s (s.alarmEnds cut) := by
  refine memKept_of fun hw => ?_
  unfold State.alarmEnds
  split <;> simp [hw]

@[simp] theorem tmpstatWrite_memKept (s : State) (v : Nat) : MemKept s (s.tmpstatWrite v) := memKept_of_mem rfl

@[simp] theorem fuseStep_memKept (s : State) : MemKept s s.fuseStep := memKept_of_mem rfl

@[simp] theorem lcsEnd_memKept (s : State) (st : Status) : MemKept s (s.lcsEnd st) := memKept_of_mem rfl

@[simp] theorem debugOpens_memKept (s : State) : MemKept s s.debugOpens := memKept_of fun hw => by simp [State.debugOpens, hw]

@[simp] theorem scraps_memKept (s : State) : MemKept s s.scraps := memKept_of fun hw => by simp [State.scraps, hw]

@[simp] theorem lcsWrite_memKept (s : State) (v : Nat) : MemKept s (s.lcsWrite v) := memKept_of fun hw => by simp [State.lcsWrite, hw]

/-! ### Update -/

@[simp] theorem slotRecord_memKept (s : State) (n st : Nat) (h : List Byte) : MemKept s (s.slotRecord n st h) :=
  memKept_of fun hw => by simp [State.slotRecord, hw]

@[simp] theorem slotBad_memKept (s : State) (n cause : Nat) : MemKept s (s.slotBad n cause) := memKept_of_mem rfl

@[simp] theorem updEnd_memKept (s : State) (st : Status) : MemKept s (s.updEnd st) := memKept_of_mem rfl

@[simp] theorem updCheck_memKept (s : State) : MemKept s s.updCheck := memKept_of fun hw => by simp [State.updCheck, hw]

@[simp] theorem updBusy_memKept (s : State) (op : Nat) : MemKept s (s.updBusy op) := memKept_of_mem rfl

@[simp] theorem updIdle_memKept (s : State) : MemKept s s.updIdle := memKept_of fun hw => by simp [State.updIdle, hw]

@[simp] theorem updInstall_memKept (s : State) : MemKept s s.updInstall := memKept_of fun hw => by simp [State.updInstall, hw]

@[simp] theorem installStep_memKept (s : State) : MemKept s s.installStep := memKept_of fun hw => by simp [State.installStep, hw]

@[simp] theorem updClean_memKept (s : State) : MemKept s s.updClean := memKept_of fun hw => by simp [State.updClean, hw]

@[simp] theorem updSelftest_memKept (s : State) : MemKept s s.updSelftest := memKept_of_mem rfl

@[simp] theorem commitFinish_memKept (s : State) : MemKept s s.commitFinish := by
  refine memKept_of fun hw => ?_
  unfold State.commitFinish
  split <;> simp [hw]

@[simp] theorem updCommit_memKept (s : State) : MemKept s s.updCommit := memKept_of fun hw => by simp [State.updCommit, hw]

@[simp] theorem commitStep_memKept (s : State) : MemKept s s.commitStep := by
  refine memKept_of fun hw => ?_
  unfold State.commitStep
  split
  · exact hw
  · simp [hw]

@[simp] theorem updAbandon_memKept (s : State) : MemKept s s.updAbandon := memKept_of fun hw => by simp [State.updAbandon, hw]

@[simp] theorem updctlWrite_memKept (s : State) (v : Nat) : MemKept s (s.updctlWrite v) :=
  memKept_of fun hw => by simp [State.updctlWrite, hw]

@[simp] theorem updaddrWrite_memKept (s : State) (v : Nat) : MemKept s (s.updaddrWrite v) := memKept_of_mem rfl

@[simp] theorem execInstall_outOk (u : UpdAct) (s : State) (hw : Memory.wf s.mem = true) : OutOk (execInstall u s) := by
  unfold execInstall
  split <;> simp [hw]

@[simp] theorem execCommit_outOk (u : UpdAct) (s : State) (hw : Memory.wf s.mem = true) : OutOk (execCommit u s) := by
  unfold execCommit
  split <;> simp [hw]

@[simp] theorem trialWdg_memKept (s : State) (n : Nat) : MemKept s (s.trialWdg n) := memKept_of fun hw => by simp [State.trialWdg, hw]

@[simp] theorem pickSlot_memKept (s : State) (ns : List Nat) : MemKept s (s.pickSlot ns).1 := by
  induction ns generalizing s with
  | nil => exact .refl s
  | cons n ns ih =>
    rw [pickSlot_cons]
    split
    · exact .refl s
    · exact (slotBad_memKept ..).trans (ih _)

@[simp] theorem imageSelect_memKept (s : State) : MemKept s s.imageSelect.1 := by
  refine memKept_of fun hw => ?_
  simp only [State.imageSelect]
  generalize hs : State.trialWdg _ 1 = s3
  have h3 : Memory.wf s3.mem = true := by
    rw [← hs]
    refine (trialWdg_memKept ..).keeps ((trialWdg_memKept ..).keeps ?_)
    exact foldl_memOk (fun t n ht => by split <;> simp [ht]) _ ((commitFinish_memKept s).keeps hw)
  have hp := (pickSlot_memKept s3 s3.trySlots).keeps h3
  split
  next t h => rwa [h] at hp
  next t n h =>
    rw [h] at hp
    split
    · rwa [setFlag_mem, fset_mem, setFlag_mem, fset_mem]
    · rwa [setFlag_mem, fset_mem]

/-! ### LedgerCmd -/

@[simp] theorem disRej_memKept (s : State) : MemKept s s.disRej := memKept_of fun hw => by simp [State.disRej, hw]

@[simp] theorem replayNote_memKept (s : State) (i : Item) : MemKept s (s.replayNote i) := by
  refine memKept_of fun hw => ?_
  unfold State.replayNote
  (repeat' split) <;> simp [hw]

@[simp] theorem execDispatcherQ0Take_outOk (s : State) (hw : Memory.wf s.mem = true) : OutOk (execDispatcherQ0Take s) := by
  unfold execDispatcherQ0Take
  (repeat' split) <;> simp [hw]

@[simp] theorem execIngestCommand_outOk (s : State) (hw : Memory.wf s.mem = true) : OutOk (execIngestCommand s) := by
  rw [execIngestCommand]
  refine live_outOk hw ?_
  split
  · simp [hw]
  · split
    · simp [hw]
    · dsimp only
      split_ifs
      · simp [hw]
      · simp [hw]
      · simp [hw]
      · simp [hw]
      · split
        · simp [hw]
        · split
          next h => simp [(journal_memKept h).keeps ((dequeued_memKept ..).keeps hw)]
          all_goals simp [hw]

@[simp] theorem shadowMove_memKept (s : State) (kind b m : Nat) : MemKept s (s.shadowMove kind b m) := by
  refine memKept_of fun hw => ?_
  simp only [State.shadowMove]
  generalize hs : List.foldl _ s (s.bucketEpis b) = s1
  have h1 : Memory.wf s1.mem = true := hs ▸ foldl_memOk (fun t e ht => by split <;> simp [ht]) _ hw
  split_ifs <;> simp [h1, hw]

@[simp] theorem inputPost_memKept (s : State) (e : List Byte) : MemKept s (s.inputPost e) :=
  memKept_of fun hw => by simp [State.inputPost, hw]

@[simp] theorem inputRun_memKept (es : List (List Byte)) (s : State) : MemKept s (State.inputRun es s) := by
  induction es generalizing s with
  | nil => exact .refl s
  | cons e es ih =>
    unfold State.inputRun
    split
    · exact .refl s
    · exact (inputPost_memKept ..).trans (ih _)

@[simp] theorem inputDrain_memKept (s : State) : MemKept s s.inputDrain := memKept_of fun hw => by simp [State.inputDrain, hw]

@[simp] theorem inputTake_memKept (s : State) (e : List Byte) : MemKept s (s.inputTake e) :=
  memKept_of fun hw => by simp [State.inputTake, hw]

@[simp] theorem markerDone_memKept (s : State) (k isn : Nat) (cut : Bool) : MemKept s (s.markerDone k isn cut) :=
  memKept_of fun hw => by simp [State.markerDone, hw]

@[simp] theorem execMarkerJournaled_outOk (s : State) (hw : Memory.wf s.mem = true) : OutOk (execMarkerJournaled s) := by
  rw [execMarkerJournaled]
  refine live_outOk hw ?_
  split
  · simp [hw]
  · dsimp only
    split
    next h => simp [journalRaw_memKept h, hw]
    · simp [hw]
    · split
      next h =>
        split at h
        · simp [journalRaw_memKept h, hw]
        · contradiction
      all_goals simp [hw]

@[simp] theorem copyProgram_memKept (s : State) (b : List Byte) : MemKept s (s.copyProgram b) :=
  memKept_of fun hw => by simp [State.copyProgram, hw]

@[simp] theorem loadCheck_memKept (s : State) (a : Nat) : MemKept s (s.loadCheck a).2.2 := by
  refine memKept_of fun hw => ?_
  unfold State.loadCheck
  extract_lets +onlyGivenNames size h st s1 b cls ver
  have h1 : Memory.wf s1.mem = true := (countVerify_memKept s st).keeps hw
  clear_value s1
  simp [apply_ite Prod.snd, hw, h1]

@[simp] theorem enterProgram_memKept (s : State) (h b : List Byte) : MemKept s (s.enterProgram h b) := by
  refine memKept_of fun hw => ?_
  unfold State.enterProgram
  split <;> simp [hw]

@[simp] theorem progLoad_memKept (s : State) : MemKept s s.progLoad := memKept_of fun hw => by simp [State.progLoad, hw]

@[simp] theorem rebuildWrite_memKept (s : State) (v : Nat) : MemKept s (s.rebuildWrite v) :=
  memKept_of fun hw => by simp [State.rebuildWrite, hw]

@[simp] theorem replayWrite_memKept (s : State) (k : Nat) : MemKept s (s.replayWrite k) :=
  memKept_of fun hw => by simp -implicitDefEqProofs [State.replayWrite, hw]

@[simp] theorem moveRestore_memKept (s : State) (kind b m : Nat) : MemKept s (s.moveRestore kind b m) :=
  memKept_of fun hw => by simp [State.moveRestore, hw]

@[simp] theorem entryApply_memKept (s0 : State) (e : List Byte) : MemKept s0 (s0.entryApply e) :=
  memKept_of fun hw => by simp [State.entryApply, hw]

@[simp] theorem jpoison_memKept (s : State) (e : List Byte) (readable : Bool) : MemKept s (s.jpoison e readable) :=
  memKept_of fun hw => by simp [State.jpoison, hw]

@[simp] theorem replayeWrite_memKept (s : State) (v : Nat) : MemKept s (s.replayeWrite v) :=
  memKept_of fun hw => by simp [State.replayeWrite, hw]

@[simp] theorem ldgstatWrite_memKept (s : State) (v : Nat) : MemKept s (s.ldgstatWrite v) :=
  memKept_of fun hw => by simp [State.ldgstatWrite, hw]

/-! ### Metrology -/

@[simp] theorem metSample_memKept (s : State) (code : Nat → Nat) : MemKept s (s.metSample code) :=
  memKept_of fun hw => by simp [State.metSample, hw]

@[simp] theorem calNote_memKept (s : State) : MemKept s s.calNote := memKept_of fun hw => by simp [State.calNote, hw]

@[simp] theorem metroInput_memKept (s : State) (body : List Byte) : MemKept s (s.metroInput body) := by
  refine memKept_of fun hw => ?_
  unfold State.metroInput
  split
  next h => simp [journal_memKept h, hw]
  all_goals simp [hw]

@[simp] theorem metroRetry_memKept (s : State) : MemKept s s.metroRetry := memKept_of fun hw => by simp [State.metroRetry, hw]

@[simp] theorem topoInput_memKept (s : State) (sel : Nat) : MemKept s (s.topoInput sel) := by
  refine memKept_of fun hw => ?_
  unfold State.topoInput
  split
  next h => simp [journal_memKept h, hw]
  all_goals simp [hw]

@[simp] theorem ringRetry_memKept (s : State) : MemKept s s.ringRetry := by
  refine memKept_of fun hw => ?_
  unfold State.ringRetry
  dsimp only
  (repeat' split) <;> simp [hw]

@[simp] theorem metClose_memKept (s : State) (step : Bool) : MemKept s (s.metClose step) :=
  memKept_of fun hw => by simp [State.metClose, hw]

@[simp] theorem metOpen_memKept (s : State) (k : Int) : MemKept s (s.metOpen k) := memKept_of fun hw => by simp [State.metOpen, hw]

@[simp] theorem metCapture_memKept (s : State) : MemKept s s.metCapture := memKept_of fun hw => by simp [State.metCapture, hw]

@[simp] theorem execMetrologyIntervalClose_outOk (s : State) (hw : Memory.wf s.mem = true) : OutOk (execMetrologyIntervalClose s) := by
  rw [execMetrologyIntervalClose]
  refine live_outOk hw ?_
  dsimp only
  split_ifs <;> simp [hw]

@[simp] theorem execReferenceCheck_outOk (ppm : BitVec 24) (s : State) (hw : Memory.wf s.mem = true) :
    OutOk (execReferenceCheck ppm s) := by
  unfold execReferenceCheck
  (repeat' split) <;> simp -implicitDefEqProofs [hw]

@[simp] theorem topoSelect_memKept (s : State) (sel : Nat) : MemKept s (s.topoSelect sel) :=
  memKept_of fun hw => by simp [State.topoSelect, hw]

/-! ### TimeCmd -/

@[simp] theorem timeRebase_memKept (s : State) : MemKept s s.timeRebase := memKept_of_mem rfl

@[simp] theorem timincrWrite_memKept (s : State) (v : Nat) : MemKept s (s.timincrWrite v) :=
  memKept_of fun hw => by simp [State.timincrWrite, hw]

@[simp] theorem spend_memKept (s : State) (n : Nat) : MemKept s (s.spend n) := memKept_of_mem rfl

@[simp] theorem timeStep_memKept (s : State) (S : Int) (signed : Bool) : MemKept s (s.timeStep S signed) :=
  memKept_of fun hw => by simp [State.timeStep, hw]

@[simp] theorem unsignedStep_memKept (s : State) (S : Int) : MemKept s (s.unsignedStep S) :=
  memKept_of fun hw => by simp [State.unsignedStep, hw]

@[simp] theorem timsetWrite_memKept (s : State) (v : Nat) : MemKept s (s.timsetWrite v) :=
  memKept_of fun hw => by simp [State.timsetWrite, hw]

@[simp] theorem timstepWrite_memKept (s : State) (v : Nat) : MemKept s (s.timstepWrite v) :=
  memKept_of fun hw => by simp [State.timstepWrite, hw]

@[simp] theorem stepGo_memKept (s : State) : MemKept s s.stepGo := memKept_of fun hw => by simp [State.stepGo, hw]

@[simp] theorem timsteprecWrite_memKept (s : State) (v : Nat) : MemKept s (s.timsteprecWrite v) :=
  memKept_of fun hw => by simp [State.timsteprecWrite, hw]

@[simp] theorem timcfgWrite_memKept (s : State) (v : Nat) : MemKept s (s.timcfgWrite v) :=
  memKept_of fun hw => by simp [State.timcfgWrite, hw]

@[simp] theorem txtsPop_memKept (s : State) (q : Nat) : MemKept s (s.txtsPop q).1 := memKept_of_mem rfl

@[simp] theorem execTxtsPop_outOk (a : Agent) (q : Fin 20) (s : State) (hw : Memory.wf s.mem = true) : OutOk (execTxtsPop a q s) := by
  unfold execTxtsPop
  split <;> simp [hw]

@[simp] theorem timtrigctlWrite_memKept (s : State) (n v : Nat) : MemKept s (s.timtrigctlWrite n v) :=
  memKept_of fun hw => by simp [State.timtrigctlWrite, hw]

@[simp] theorem timtrigWrite_memKept (s : State) (n : Nat) (f : Fld) (v : Nat) : MemKept s (s.timtrigWrite n f v) :=
  memKept_of fun hw => by simp [State.timtrigWrite, hw]

@[simp] theorem execPpsOutPulse_outOk (s : State) (hw : Memory.wf s.mem = true) : OutOk (execPpsOutPulse s) :=
  live_outOk hw ((outOk_next ..).2 (ite_memOk (by rwa [setTime_mem]) hw))

/-! ### Twin -/

@[simp] theorem ccWindows_memKept (s : State) (k : Nat) : MemKept s (s.ccWindows k) := by
  refine memKept_of fun hw => ?_
  unfold State.ccWindows
  exact foldl_memOk (fun t j ht => by simp [ht]) _ (foldl_memOk (fun t j ht => by simp [ht]) _ hw)

@[simp] theorem ccStart_memKept (s : State) (k off : Nat) : MemKept s (s.ccStart k off) := by
  refine memKept_of fun hw => ?_
  unfold State.ccStart
  split
  · exact hw
  · rw [setCc_mem]
    exact (ccWindows_memKept s k).keeps hw

@[simp] theorem ccStartAll_memKept (s : State) (off : Nat) : MemKept s (s.ccStartAll off) :=
  memKept_of fun hw => by simp [State.ccStartAll, hw]

/-- What a takeover reset clears outside the register file is no memory. -/
theorem takeoverCleared_memKept (s : State) :
    MemKept s ({ s with ccs := [], dcache := [], pl := {}, rf := {}, dun := {} } : State) := memKept_of_mem rfl

@[simp] theorem doTko_memKept (s : State) : MemKept s s.doTko := by
  refine memKept_of fun hw => ?_
  rw [State.doTko]
  refine (ccStartAll_memKept ..).keeps ?_
  rw [fset_mem]
  refine (resetEvents_memKept ..).keeps ?_
  rw [setFlag_mem, setTwn_mem, setTime_mem]
  refine (resetCsrs_memKept ..).keeps ((takeoverCleared_memKept _).keeps ?_)
  exact foldl_memOk (fun t k ht => by simp [ht]) _ hw

@[simp] theorem standbySend_memKept (s : State) (typ : Nat) (body : List Byte) : MemKept s (s.standbySend typ body) :=
  memKept_of fun hw => by simp [State.standbySend, hw]

@[simp] theorem confirmSend_memKept (s : State) : MemKept s s.confirmSend := memKept_of fun hw => by simp [State.confirmSend, hw]

@[simp] theorem catchupAsk_memKept (s : State) (full : Bool) : MemKept s (s.catchupAsk full) :=
  memKept_of fun hw => by simp [State.catchupAsk, hw]

@[simp] theorem ctrlSend_memKept (s : State) (op : Nat) (operand : List Byte) : MemKept s (s.ctrlSend op operand) :=
  memKept_of fun hw => by simp [State.ctrlSend, hw]

@[simp] theorem release_memKept (s : State) (h : Held) : MemKept s (s.release h) := by
  refine memKept_of fun hw => ?_
  unfold State.release
  split <;> simp [hw]

@[simp] theorem cover_memKept (s : State) (cseq : Nat) : MemKept s (s.cover cseq) := memKept_of fun hw => by simp [State.cover, hw]

@[simp] theorem setAlone_memKept (s : State) : MemKept s s.setAlone := memKept_of fun hw => by simp [State.setAlone, hw]

@[simp] theorem drainCheck_memKept (s : State) : MemKept s s.drainCheck := memKept_of fun hw => by simp [State.drainCheck, hw]

@[simp] theorem beatFromStandby_memKept (s : State) (b : List Byte) : MemKept s (s.beatFromStandby b) :=
  memKept_of fun hw => by simp [State.beatFromStandby, hw]

@[simp] theorem goOut_memKept (s : State) : MemKept s s.goOut := memKept_of_mem rfl

@[simp] theorem seqGap_memKept (s : State) (len : Nat) : MemKept s (s.seqGap len) :=
  memKept_of fun hw => by simp -implicitDefEqProofs [State.seqGap, hw]

@[simp] theorem inputApply_memKept (s : State) (e : List Byte) : MemKept s (s.inputApply e) :=
  memKept_of fun hw => by simp [State.inputApply, hw]

@[simp] theorem digestTake_memKept (s : State) (k d : Nat) : MemKept s (s.digestTake k d) :=
  memKept_of fun hw => by simp [State.digestTake, hw]

@[simp] theorem ceilTake_memKept (s : State) (b : List Byte) : MemKept s (s.ceilTake b) :=
  memKept_of fun hw => by simp [State.ceilTake, hw]

@[simp] theorem rescueAll_memKept (s : State) (tko : Nat) : MemKept s (s.rescueAll tko) :=
  memKept_of fun hw => by simp [State.rescueAll, hw]

@[simp] theorem beatFromActive_memKept (s : State) (b : List Byte) : MemKept s (s.beatFromActive b) :=
  memKept_of fun hw => by simp [State.beatFromActive, hw]

@[simp] theorem shadowApply_memKept (s : State) (typ : Nat) (b : List Byte) (poison : List Nat) : MemKept s (s.shadowApply typ b poison) :=
  memKept_of fun hw => by simp [State.shadowApply, hw]

@[simp] theorem execStandbyGraceExpiry_outOk (s : State) (hw : Memory.wf s.mem = true) : OutOk (execStandbyGraceExpiry s) := by
  unfold execStandbyGraceExpiry
  split <;> simp [hw]

@[simp] theorem execActiveGraceExpiry_outOk (s : State) (hw : Memory.wf s.mem = true) : OutOk (execActiveGraceExpiry s) := by
  unfold execActiveGraceExpiry
  split <;> simp [hw]

@[simp] theorem tkoFirmware_memKept (s : State) : MemKept s s.tkoFirmware := by
  refine memKept_of fun hw => ?_
  simp only [State.tkoFirmware]
  refine (sesRegs_memKept _).keeps ?_
  rw [setSes_mem, setTwn_mem, setKep_mem]
  exact foldl_memOk (fun t e ht => by simp [ht]) _ hw

@[simp] theorem takeover_memKept (s : State) (clash : Bool) : MemKept s (s.takeover clash) := by
  refine memKept_of fun hw => ?_
  simp only [State.takeover]
  split_ifs
  · exact hw
  · exact hw
  · rw [setTwn_mem, fset_mem, fset_mem]
    refine (tkoFirmware_memKept _).keeps ((doTko_memKept _).keeps ((event_memKept ..).keeps ?_))
    rw [bump_mem, fset_mem]
    exact (setActOut_memKept ..).keeps hw

@[simp] theorem execTakeover_outOk (clash : Bool) (s : State) (hw : Memory.wf s.mem = true) : OutOk (execTakeover clash s) := by
  unfold execTakeover
  split <;> simp [hw]

@[simp] theorem execActInChange_outOk (b : Bool) (s : State) (hw : Memory.wf s.mem = true) : OutOk (execActInChange b s) := by
  unfold execActInChange
  (repeat' split) <;> simp [hw]

@[simp] theorem twnctlWrite_memKept (s : State) (v : Nat) (clash : Bool) : MemKept s (s.twnctlWrite v clash) :=
  memKept_of fun hw => by simp [State.twnctlWrite, hw]

@[simp] theorem twnstatWrite_memKept (s : State) (v : Nat) : MemKept s (s.twnstatWrite v) :=
  memKept_of fun hw => by simp [State.twnstatWrite, hw]

@[simp] theorem inputsAbove_memKept (s : State) (isn : Nat) : MemKept s (s.inputsAbove isn) :=
  memKept_of fun hw => by simp [State.inputsAbove, hw]

@[simp] theorem execCatchup_outOk (isn : DWord) (s : State) (hw : Memory.wf s.mem = true) : OutOk (execCatchup isn s) := by
  unfold execCatchup
  (repeat' split) <;> simp [hw]

@[simp] theorem execRescue_outOk (e : List Byte) (s : State) (hw : Memory.wf s.mem = true) : OutOk (execRescue e s) := by
  rw [execRescue]
  dsimp only
  refine live_outOk hw (ite_outOk (by simp [hw]) (ite_outOk ?_ (ite_outOk (ite_outOk (by simp [hw]) ?_) (by simp [hw]))))
  · split
    case h_5 => simp [hw]
    all_goals
      next hk =>
      have hi := hk ▸ ingest_memOk s (entEpi e) _ _ _ hw
      exact (outOk_next _).2 hi
  · split
    · simp [hw]
    · split
      next h => simp [(journal_memKept h).keeps hw]
      all_goals simp [hw]

/-! ### Nand -/

@[simp] theorem setBlk_memKept (s : State) (b : Nat) (v : NBlk) : MemKept s (s.setBlk b v) := memKept_of_mem rfl

@[simp] theorem nfcRegs_memKept (s : State) : MemKept s s.nfcRegs := memKept_of_mem rfl

@[simp] theorem mapPoke_memKept (s : State) (i v : Nat) : MemKept s (s.mapPoke i v) := memKept_of fun hw => by simp [State.mapPoke, hw]

@[simp] theorem mapLoad_memKept (s : State) : MemKept s s.mapLoad := memKept_of fun hw => by simp [State.mapLoad, hw]

@[simp] theorem mapNote_memKept (s : State) (u : Nat) : MemKept s (s.mapNote u) := memKept_of fun hw => by simp [State.mapNote, hw]

@[simp] theorem unmap_memKept (s : State) (u : Nat) : MemKept s (s.unmap u) := memKept_of_mem rfl

@[simp] theorem retire_memKept (s : State) (b : Nat) : MemKept s (s.retire b) := memKept_of fun hw => by simp [State.retire, hw]

@[simp] theorem erase_memKept (s : State) (b : Nat) (fails : Bool) : MemKept s (s.erase b fails) :=
  memKept_of fun hw => by simp [State.erase, hw]

theorem openBlk_memKept {s t : State} {ch w : Nat} (h : s.openBlk ch w = some t) : MemKept s t := by
  refine memKept_of fun hw => ?_
  unfold State.openBlk at h
  split at h
  · contradiction
  · injection h with h
    rw [← h]
    dsimp only
    split <;> simp [hw]

theorem roomFor_memKept {s t : State} {ch w : Nat} (h : s.roomFor ch w = .ok t) : MemKept s t := by
  have opened : (match s.openBlk ch w with | some u => NRes.ok u | none => .full) = .ok t → MemKept s t := by
    split
    next u hu =>
      intro hut
      injection hut with hut
      rw [← hut]
      exact openBlk_memKept hu
    · nofun
  simp only [State.roomFor] at h
  split_ifs at h
  · injection h with h
    rw [h]
    exact .refl t
  all_goals exact opened h

@[simp] theorem program_memKept (s : State) (ch w u : Nat) : MemKept s (s.program ch w u) :=
  memKept_of fun hw => by simp [State.program, hw]

@[simp] theorem programFail_memKept (s : State) (ch w : Nat) : MemKept s (s.programFail ch w) := by
  refine memKept_of fun hw => ?_
  unfold State.programFail
  dsimp only
  split
  · simp [hw]
  next t h => simp [openBlk_memKept h, hw]

theorem putUnit_memKept {s t : State} {w u fails : Nat} (h : s.putUnit w u fails = .ok t) : MemKept s t := by
  refine memKept_of fun hw => ?_
  simp only [State.putUnit] at h
  split_ifs at h
  split at h
  next v hv =>
    injection h with h
    rw [← h]
    refine (program_memKept ..).keeps ?_
    exact foldl_memOk (fun x _ hx => by simp [hx]) _ ((roomFor_memKept hv).keeps hw)
  next hr => exact absurd h (hr t)

theorem putUnits_memKept {s t : State} {w fails : Nat} {us : List Nat} (h : s.putUnits w fails us = .ok t) : MemKept s t := by
  induction us generalizing s fails with
  | nil =>
    injection h with h
    rw [h]
    exact .refl t
  | cons u us ih =>
    unfold State.putUnits at h
    split at h
    next v hv => exact (putUnit_memKept hv).trans (ih h)
    next hr => exact absurd h (hr t)

theorem putOwn_memKept {s t : State} {bytes fails : Nat} (h : s.putOwn bytes fails = .ok t) : MemKept s t :=
  memKept_of fun hw => (putUnits_memKept h).keeps hw

@[simp] theorem eraseEmpty_memKept (s : State) : MemKept s s.eraseEmpty := memKept_of fun hw => by simp [State.eraseEmpty, hw]

@[simp] theorem mediaFull_memKept (s : State) : MemKept s s.mediaFull := memKept_of fun hw => by simp [State.mediaFull, hw]

@[simp] theorem roCheck_memKept (s : State) : MemKept s s.roCheck := memKept_of fun hw => by simp [State.roCheck, hw]

@[simp] theorem freeUnits_memKept (s : State) (us : List Nat) : MemKept s (s.freeUnits us) :=
  memKept_of fun hw => by simp [State.freeUnits, hw]

@[simp] theorem nfcEnd_memKept (s : State) : MemKept s s.nfcEnd := by
  refine memKept_of fun hw => ?_
  unfold State.nfcEnd
  split
  · simp [hw]
  · dsimp only
    split
    next h => simp [(putOwn_memKept h).keeps hw]
    · simp [hw]

@[simp] theorem tornBlock_memKept (s : State) (b : Nat) : MemKept s (s.tornBlock b) := by
  refine memKept_of fun hw => ?_
  unfold State.tornBlock
  split
  · exact hw
  · dsimp only
    split
    next h => exact (putUnits_memKept h).keeps (by simp [hw])
    · simp [hw]

@[simp] theorem mount_memKept (s : State) (torn : List Nat) : MemKept s (s.mount torn) := memKept_of fun hw => by simp [State.mount, hw]

theorem writeUnits_memKept {s t : State} {cls fails : Nat} {us : List Nat} {data : Nat → List Byte}
    (h : s.writeUnits cls fails us data = .ok t) : MemKept s t := by
  unfold State.writeUnits at h
  split at h
  next hp =>
    injection h with h
    rw [← h]
    exact (putUnits_memKept hp).trans (memKept_of_mem (setNfc_mem ..))
  next hr => exact absurd h (hr t)

@[simp] theorem queueRewrite_memKept (s : State) (us : List Nat) : MemKept s (s.queueRewrite us) :=
  memKept_of fun hw => by simp [State.queueRewrite, hw]

theorem nandRead_memKept {s : State} {j : NandJob} {corr : Nat} {uncor : List Nat} {r : Status × State × Nat}
    (h : s.nandRead j corr uncor = some r) : MemKept s r.2.1 := by
  refine memKept_of fun hw => ?_
  unfold State.nandRead at h
  split at h
  · injection h with h
    rwa [← h]
  extract_lets +onlyGivenNames us s1 s2 bad at h
  split at h
  · injection h with h
    rwa [← h]
  · have h1 : Memory.wf s1.mem = true := ite_memOk ((queueRewrite_memKept ..).keeps hw) hw
    have h2 : Memory.wf s2.mem = true := foldl_memOk (fun t i ht => by simp [ht]) _ h1
    injection h with h
    rw [← h]
    split
    · rwa [bump_mem]
    · exact h2

theorem nandPut_memKept {s : State} {cls lba len fails : Nat} {data : Nat → List Byte} {r : Status × State × Nat}
    (h : s.nandPut cls lba len fails data = some r) : MemKept s r.2.1 := by
  refine memKept_of fun hw => ?_
  simp only [State.nandPut] at h
  split at h
  · injection h with h
    rwa [← h]
  split at h
  · injection h with h
    rwa [← h]
  split at h
  next hu =>
    injection h with h
    rw [← h]
    exact (nfcEnd_memKept _).keeps ((writeUnits_memKept hu).keeps hw)
  · injection h with h
    simp [← h, hw]
  · cases h

theorem nandWrite_memKept {s : State} {j : NandJob} {fails : Nat} {r : Status × State × Nat} (h : s.nandWrite j fails = some r) :
    MemKept s r.2.1 := by
  refine memKept_of fun hw => ?_
  simp only [State.nandWrite] at h
  split at h
  · injection h with h
    rwa [← h]
  split at h
  · injection h with h
    simp [← h, hw]
  · exact (nandPut_memKept h).keeps ((touch_memKept ..).keeps hw)

theorem nandMigrate_memKept {s : State} {j : NandJob} {fails : Nat} {r : Status × State × Nat} (h : s.nandMigrate j fails = some r) :
    MemKept s r.2.1 := by
  refine memKept_of fun hw => ?_
  simp only [State.nandMigrate] at h
  split at h
  · injection h with h
    rwa [← h]
  split at h
  · injection h with h
    rwa [← h]
  split at h
  · injection h with h
    rwa [← h]
  · exact (nandPut_memKept h).keeps hw

theorem nandTrim_memKept {s : State} {j : NandJob} {r : Status × State × Nat} (h : s.nandTrim j = some r) : MemKept s r.2.1 := by
  refine memKept_of fun hw => ?_
  simp only [State.nandTrim] at h
  split at h
  all_goals
    injection h with h
    simp [← h, hw]

@[simp] theorem nandRow_memKept (s : State) (rowOp : Nat → Bool) (run : State → NandJob → NandEnd)
    (hrun : ∀ t j r, run t j = some r → Memory.wf t.mem = true → Memory.wf r.2.1.mem = true) : MemKept s (s.nandRow rowOp run) := by
  refine memKept_of fun hw => ?_
  unfold State.nandRow
  dsimp only
  refine ite_memOk hw ?_
  split
  · exact hw
  refine ite_memOk hw (ite_memOk (by simp [hw]) ?_)
  split
  next h => exact (hwEnqueue_memKept ..).keeps (hrun _ _ _ h ((dequeued_memKept ..).keeps hw))
  · exact hw

@[simp] theorem execNandRead_outOk (corr : Nat) (uncor : List Nat) (s : State) (hw : Memory.wf s.mem = true) :
    OutOk (execNandRead corr uncor s) :=
  live_outOk hw ((outOk_next ..).2 ((nandRow_memKept _ _ _ fun _ _ _ h => (nandRead_memKept h).keeps).keeps hw))

@[simp] theorem execNandWrite_outOk (fails : Nat) (s : State) (hw : Memory.wf s.mem = true) : OutOk (execNandWrite fails s) :=
  live_outOk hw ((outOk_next ..).2 ((nandRow_memKept _ _ _ fun _ _ _ h => (nandWrite_memKept h).keeps).keeps hw))

@[simp] theorem execNandTrim_outOk (s : State) (hw : Memory.wf s.mem = true) : OutOk (execNandTrim s) :=
  live_outOk hw ((outOk_next ..).2 ((nandRow_memKept _ _ _ fun _ _ _ h => (nandTrim_memKept h).keeps).keeps hw))

@[simp] theorem execNandMigrate_outOk (fails : Nat) (s : State) (hw : Memory.wf s.mem = true) : OutOk (execNandMigrate fails s) :=
  live_outOk hw ((outOk_next ..).2 ((nandRow_memKept _ _ _ fun _ _ _ h => (nandMigrate_memKept h).keeps).keeps hw))

@[simp] theorem vacate_memKept (s : State) (b fails : Nat) (eraseFails : Bool) : MemKept s (s.vacate b fails eraseFails) := by
  refine memKept_of fun hw => ?_
  unfold State.vacate
  split
  next h => simp [putUnits_memKept h, hw]
  · exact hw

@[simp] theorem execIdleGc_outOk (ch : Fin 2) (fails : Nat) (eraseFails : Bool) (s : State) (hw : Memory.wf s.mem = true) :
    OutOk (execIdleGc ch fails eraseFails s) := by
  unfold execIdleGc
  (repeat' split) <;> simp [hw]

@[simp] theorem execForegroundGc_outOk (ch : Fin 2) (fails : Nat) (eraseFails : Bool) (s : State) (hw : Memory.wf s.mem = true) :
    OutOk (execForegroundGc ch fails eraseFails s) := by
  unfold execForegroundGc
  dsimp only
  (repeat' split) <;> simp [hw]

@[simp] theorem closeBlk_memKept (s : State) (b : Nat) : MemKept s (s.closeBlk b) := memKept_of fun hw => by simp [State.closeBlk, hw]

@[simp] theorem execWearLevelMove_outOk (fails : Nat) (eraseFails : Bool) (s : State) (hw : Memory.wf s.mem = true) :
    OutOk (execWearLevelMove fails eraseFails s) := by
  rw [execWearLevelMove]
  refine live_outOk hw (ite_outOk (by simp [hw]) ?_)
  split
  · simp [hw]
  split
  · simp [hw]
  dsimp only
  refine ite_outOk (by simp [hw]) ?_
  rw [outOk_next]
  refine (nfcEnd_memKept _).keeps ((erase_memKept ..).keeps (foldl_memOk (fun t u ht => by simp [ht]) _ ?_))
  exact (setBlk_memKept ..).keeps (foldl_memOk (fun t u ht => by simp [ht]) _ hw)

@[simp] theorem execBlockRewrite_outOk (fails : Nat) (eraseFails : Bool) (s : State) (hw : Memory.wf s.mem = true) :
    OutOk (execBlockRewrite fails eraseFails s) := by
  unfold execBlockRewrite
  (repeat' split) <;> simp [hw]

/-! ### Storage -/

@[simp] theorem tailPast_memKept (s : State) (e : RingEnt) : MemKept s (s.tailPast e) := memKept_of fun hw => by simp [State.tailPast, hw]

@[simp] theorem execDrainBatchComplete_outOk (fails : Nat) (s : State) (hw : Memory.wf s.mem = true) :
    OutOk (execDrainBatchComplete fails s) := by
  rw [execDrainBatchComplete]
  dsimp only
  refine live_outOk hw (ite_outOk (by simp [hw]) ?_)
  split
  · simp [hw]
  · simp [hw]
  next h =>
    rw [outOk_next]
    refine (ringRetry_memKept _).keeps ((nfcEnd_memKept _).keeps (foldl_memOk (fun t e ht => by simp [ht]) _ ?_))
    rw [setMrm_mem]
    exact (putOwn_memKept h).keeps hw

@[simp] theorem ckptStart_memKept (s : State) : MemKept s s.ckptStart := memKept_of_mem rfl

@[simp] theorem mrmckptWrite_memKept (s : State) (v : Nat) : MemKept s (s.mrmckptWrite v) :=
  memKept_of fun hw => by simp [State.mrmckptWrite, hw]

@[simp] theorem ckptHold_memKept (s : State) : MemKept s s.ckptHold := memKept_of fun hw => by simp [State.ckptHold, hw]

@[simp] theorem ckptCommit_memKept (t : State) (recs : List CkptRec) (us : List Nat) : MemKept t (t.ckptCommit recs us) :=
  memKept_of fun hw => by simp [State.ckptCommit, hw]

@[simp] theorem execCheckpointComplete_outOk (fails : Nat) (s : State) (hw : Memory.wf s.mem = true) :
    OutOk (execCheckpointComplete fails s) := by
  rw [execCheckpointComplete]
  refine live_outOk hw ?_
  split
  · simp [hw]
  dsimp only
  refine ite_outOk (by simp [hw]) ?_
  split
  · simp [hw]
  · simp [hw]
  next h => simp [putOwn_memKept h, hw]

@[simp] theorem execRinsePass_outOk (m : Fin 4) (s : State) (hw : Memory.wf s.mem = true) : OutOk (execRinsePass m s) := by
  unfold execRinsePass
  dsimp only
  (repeat' split) <;> simp [hw]

/-! ### Recorder -/

@[simp] theorem evrpostWrite_memKept (s : State) (a : Agent) (v : Nat) : MemKept s (s.evrpostWrite a v) := by
  refine memKept_of fun hw => ?_
  unfold State.evrpostWrite
  dsimp only
  (repeat' split) <;> simp [hw]

@[simp] theorem clearSlot_memKept (s : State) (sev k : Nat) : MemKept s (s.clearSlot sev k) :=
  memKept_of fun hw => by simp -implicitDefEqProofs [State.clearSlot, hw]

@[simp] theorem evrctlWrite_memKept (s : State) (v : Nat) : MemKept s (s.evrctlWrite v) :=
  memKept_of fun hw => by simp [State.evrctlWrite, hw]

@[simp] theorem optSave_memKept (s : State) : MemKept s s.optSave := memKept_of_mem rfl

/-! ### Clocks -/

@[simp] theorem setLockBit_memKept (s : State) (n : Nat) (b : Bool) : MemKept s (s.setLockBit n b) := memKept_of_mem rfl

@[simp] theorem execRefclkLoss_outOk (s : State) (hw : Memory.wf s.mem = true) : OutOk (execRefclkLoss s) := by
  simp only [execRefclkLoss, outOk_next]
  rw [setClk_mem]
  have h := foldl_memOk (f := fun (t : State) n => t.setLockBit n false) (fun t n ht => by simp [ht]) (List.range 5) hw
  exact ite_memOk ((setLockBit_memKept ..).keeps h) h

@[simp] theorem enDown_memKept (s : State) (k : Nat) : MemKept s (s.enDown k) := memKept_of fun hw => by simp [State.enDown, hw]

@[simp] theorem clkctlWrite_memKept (s : State) (v : Nat) : MemKept s (s.clkctlWrite v) :=
  memKept_of fun hw => by simp [State.clkctlWrite, hw]

/-! ### Fence -/

@[simp] theorem fenceEvent_memKept (s : State) (n : Nat) : MemKept s (s.fenceEvent n) :=
  memKept_of fun hw => by simp [State.fenceEvent, hw]

@[simp] theorem fenceBit_memKept (s : State) (n : Nat) : MemKept s (s.fenceBit n) := memKept_of fun hw => by simp [State.fenceBit, hw]

@[simp] theorem fenceSet_memKept (s : State) (v : Nat) : MemKept s (s.fenceSet v) := memKept_of fun hw => by simp [State.fenceSet, hw]

@[simp] theorem fenceNow_memKept (s : State) (n : Nat) : MemKept s (s.fenceNow n) := memKept_of fun hw => by simp [State.fenceNow, hw]

/-! ### Power -/

@[simp] theorem bootStopAt_memKept (s : State) (step cause : Nat) : MemKept s (s.bootStopAt step cause) := memKept_of_mem rfl

@[simp] theorem bootEnd_memKept (s : State) (m : Nat) : MemKept s (s.bootEnd m) := memKept_of_mem rfl

@[simp] theorem bootClocks_memKept (s : State) (f : RomFacts) : MemKept s (s.bootClocks f) := by
  refine memKept_of fun hw => ?_
  unfold State.bootClocks
  (repeat' split) <;> simp [hw]

@[simp] theorem ddrPut_memKept (s : State) (i : Nat) (d : DdrFound) : MemKept s (s.ddrPut i d) := memKept_of_mem rfl

@[simp] theorem bootMemory_memKept (s : State) (f : RomFacts) : MemKept s (s.bootMemory f).1 := by
  refine memKept_of fun hw => ?_
  unfold State.bootMemory
  dsimp only
  (repeat' split) <;> simp [hw]

@[simp] theorem aonReload_memKept (s : State) : MemKept s s.aonReload := memKept_of_mem (setPwr_mem ..)

@[simp] theorem bootImage_memKept (s : State) : MemKept s s.bootImage := by
  refine memKept_of fun hw => ?_
  simp only [State.bootImage]
  generalize hs : (ite (s.life = lifeField ∧ (!s.flag fAONWDT_EN) = true) _ _) = s2
  have h2 : Memory.wf s2.mem = true := by
    rw [← hs]
    split
    · exact (aonReload_memKept _).keeps (by rwa [setFlag_mem, setMrm_mem])
    · rwa [setMrm_mem]
  have hp := (imageSelect_memKept s2).keeps h2
  split
  · exact (bootEnd_memKept ..).keeps h2
  · split
    next t h =>
      rw [h] at hp
      exact (bootEnd_memKept ..).keeps hp
    next t n h =>
      rw [h] at hp
      dsimp only at hp
      simp [hp]

@[simp] theorem recMend_memKept (s : State) : MemKept s s.recMend := foldl_memKept _ (fun t e => by simp) _ s

@[simp] theorem bootRom_memKept (s : State) (f : RomFacts) : MemKept s (s.bootRom f) := by
  refine memKept_of fun hw => ?_
  rw [State.bootRom]
  have hm : Memory.wf (((s.setFlag fPFSTAT_PFAIL false).recMend.bootClocks f).bootMemory f).1.mem = true := by simp [hw]
  split
  · exact hw
  · split
    · rwa [fset_mem, setFlag_mem]
    · split
      · rwa [setFlag_mem]
      · split
        next t h => rwa [h] at hm
        next t h =>
          rw [h] at hm
          exact (bootImage_memKept t).keeps hm

@[simp] theorem bootSettings_memKept (s : State) (f : Settings) : MemKept s (s.bootSettings f) :=
  memKept_of fun hw => by simp [State.bootSettings, hw]

@[simp] theorem execBootStart_outOk (op : BootOp) (s : State) (hw : Memory.wf s.mem = true) : OutOk (execBootStart op s) := by
  unfold execBootStart
  split <;> simp [hw]

@[simp] theorem dl3From_memKept (s : State) : MemKept s s.dl3From := memKept_of fun hw => by simp [State.dl3From, hw]

@[simp] theorem enterStandby_memKept (s : State) : MemKept s s.enterStandby := memKept_of fun hw => by simp [State.enterStandby, hw]

@[simp] theorem enterService_memKept (s : State) : MemKept s s.enterService := memKept_of fun hw => by simp [State.enterService, hw]

@[simp] theorem roleDecide_memKept (s : State) (clash : Bool) : MemKept s (s.roleDecide clash) :=
  memKept_of fun hw => by simp [State.roleDecide, hw]

@[simp] theorem modectlWrite_memKept (s : State) (v : Nat) : MemKept s (s.modectlWrite v) :=
  memKept_of fun hw => by simp [State.modectlWrite, hw]

@[simp] theorem pfailClose_memKept (s : State) : MemKept s s.pfailClose := memKept_of fun hw => by simp [State.pfailClose, hw]

@[simp] theorem pfailRun_memKept (s : State) : MemKept s s.pfailRun := memKept_of fun hw => by simp [State.pfailRun, hw]

@[simp] theorem pfailPart_memKept (s : State) : MemKept s s.pfailPart := by
  refine memKept_of fun hw => ?_
  unfold State.pfailPart
  split <;> simp [hw]

@[simp] theorem quietEnter_memKept (s : State) : MemKept s s.quietEnter := memKept_of fun hw => by simp [State.quietEnter, hw]

@[simp] theorem runEnter_memKept (s : State) : MemKept s s.runEnter := memKept_of fun hw => by simp [State.runEnter, hw]

@[simp] theorem sleepEnter_memKept (s : State) : MemKept s s.sleepEnter := memKept_of fun hw => by simp [State.sleepEnter, hw]

@[simp] theorem lpctlWrite_memKept (s : State) (v : Nat) : MemKept s (s.lpctlWrite v) := by
  refine memKept_of fun hw => ?_
  unfold State.lpctlWrite
  split <;> simp [hw]

@[simp] theorem woken_memKept (s : State) : MemKept s s.woken := by
  refine memKept_of fun hw => ?_
  simp only [State.woken]
  generalize hs : List.foldl _ _ wakeKept = s2
  rw [setReg_mem, setPwr_mem]
  refine (copyMem_memKept ..).keeps ?_
  rw [setMrm_mem, setTwn_mem, setLdg_mem, setSes_mem]
  exact Store.wf_filter _ hw

@[simp] theorem wakeUp_memKept (s : State) (ticks : Nat) : MemKept s (s.wakeUp ticks) := by
  refine memKept_of fun hw => ?_
  simp only [State.wakeUp]
  split
  · exact (doReset_memKept ..).keeps (by rwa [setFlag_mem, setTime_mem])
  · rw [setPwr_mem]
    refine (ccStartAll_memKept ..).keeps ?_
    rw [setFlag_mem, fset_mem]
    exact (woken_memKept _).keeps (by rwa [setFlag_mem, setTime_mem])

@[simp] theorem wakeCut_memKept (s : State) (ticks : Nat) : MemKept s (s.wakeCut ticks) := by
  refine memKept_of fun hw => ?_
  rw [State.wakeCut]
  exact (pfailRun_memKept _).keeps (by rwa [setFlag_mem, setPwr_mem, setFlag_mem, setTime_mem])

@[simp] theorem wakePath_memKept (s : State) (ticks : Nat) (cut : Bool) : MemKept s (s.wakePath ticks cut) :=
  memKept_of fun hw => by simp [State.wakePath, hw]

@[simp] theorem execSleepWake_outOk (w : Wake) (s : State) (hw : Memory.wf s.mem = true) : OutOk (execSleepWake w s) := by
  unfold execSleepWake
  (repeat' split) <;> simp [hw]

@[simp] theorem wdtReload_memKept (s : State) : MemKept s s.wdtReload := memKept_of_mem (setPwr_mem ..)

@[simp] theorem wdtWarn_memKept (s : State) : MemKept s s.wdtWarn := memKept_of_mem rfl

@[simp] theorem wdtExpire_memKept (s : State) : MemKept s s.wdtExpire := memKept_of fun hw => by simp [State.wdtExpire, hw]

@[simp] theorem wdtkickWrite_memKept (s : State) (v : Nat) : MemKept s (s.wdtkickWrite v) := by
  refine memKept_of fun hw => ?_
  unfold State.wdtkickWrite
  split_ifs
  · simp [hw]
  · simp [hw]
  · rw [say_mem, setPwr_mem]
    exact (aonReload_memKept _).keeps ((wdtReload_memKept s).keeps hw)

@[simp] theorem wdtctlWrite_memKept (s : State) (v : Nat) : MemKept s (s.wdtctlWrite v) :=
  memKept_of fun hw => by simp [State.wdtctlWrite, hw]

@[simp] theorem dstallWrite_memKept (s : State) (v : Nat) : MemKept s (s.dstallWrite v) :=
  memKept_of fun hw => by simp [State.dstallWrite, hw]

@[simp] theorem aonwdtWrite_memKept (s : State) (v : Nat) : MemKept s (s.aonwdtWrite v) :=
  memKept_of fun hw => by simp [State.aonwdtWrite, hw]

/-! ### CsrWrite -/

@[simp] theorem plainWrite_memKept (s : State) (b v : Nat) : MemKept s (s.plainWrite b v) := by
  refine memKept_of fun hw => ?_
  unfold State.plainWrite
  split <;> simp [hw]

@[simp] theorem guarded_memKept (s : State) (b v : Nat) (checks : List (Bool × Status)) : MemKept s (s.guarded b v checks) := by
  refine memKept_of fun hw => ?_
  unfold State.guarded
  split <;> simp [hw]

@[simp] theorem wrSystem_memKept (s : State) (b v : Nat) : MemKept s (s.wrSystem b v) := memKept_of fun hw => by simp [State.wrSystem, hw]

@[simp] theorem winWrite_memKept (s : State) (a : Agent) (b v : Nat) : MemKept s (s.winWrite a b v) :=
  memKept_of fun hw => by simp [State.winWrite, hw]

@[simp] theorem wrCcx_memKept (s : State) (a : Agent) (b v : Nat) : MemKept s (s.wrCcx a b v) :=
  memKept_of fun hw => by simp [State.wrCcx, hw]

@[simp] theorem wrQueue_memKept (s : State) (b v : Nat) : MemKept s (s.wrQueue b v) := memKept_of fun hw => by simp [State.wrQueue, hw]

@[simp] theorem ldgcfgWrite_memKept (s : State) (v : Nat) : MemKept s (s.ldgcfgWrite v) :=
  memKept_of fun hw => by simp [State.ldgcfgWrite, hw]

@[simp] theorem wrLedger_memKept (s : State) (b v : Nat) : MemKept s (s.wrLedger b v) := memKept_of fun hw => by simp [State.wrLedger, hw]

@[simp] theorem cmtcfgWrite_memKept (s : State) (v : Nat) : MemKept s (s.cmtcfgWrite v) :=
  memKept_of fun hw => by simp [State.cmtcfgWrite, hw]

@[simp] theorem wrMetrology_memKept (s : State) (b v : Nat) : MemKept s (s.wrMetrology b v) :=
  memKept_of fun hw => by simp [State.wrMetrology, hw]

@[simp] theorem wrPlPort_memKept (s : State) (b v : Nat) : MemKept s (s.wrPlPort b v) := memKept_of fun hw => by simp [State.wrPlPort, hw]

@[simp] theorem wrPls_memKept (s : State) (b v : Nat) : MemKept s (s.wrPls b v) := memKept_of fun hw => by simp [State.wrPls, hw]

@[simp] theorem wrRadio_memKept (s : State) (b v : Nat) : MemKept s (s.wrRadio b v) := memKept_of fun hw => by simp [State.wrRadio, hw]

@[simp] theorem tmpcfgWrite_memKept (s : State) (v : Nat) : MemKept s (s.tmpcfgWrite v) :=
  memKept_of fun hw => by simp [State.tmpcfgWrite, hw]

@[simp] theorem wrCrypto_memKept (s : State) (b v : Nat) : MemKept s (s.wrCrypto b v) := memKept_of fun hw => by simp [State.wrCrypto, hw]

@[simp] theorem semcfgWrite_memKept (s : State) (v : Nat) : MemKept s (s.semcfgWrite v) :=
  memKept_of fun hw => by simp [State.semcfgWrite, hw]

@[simp] theorem wrPorts_memKept (s : State) (b v : Nat) : MemKept s (s.wrPorts b v) := memKept_of fun hw => by simp [State.wrPorts, hw]

@[simp] theorem wrRep_memKept (s : State) (b v : Nat) : MemKept s (s.wrRep b v) := memKept_of fun hw => by simp [State.wrRep, hw]

@[simp] theorem wrTime_memKept (s : State) (b v : Nat) : MemKept s (s.wrTime b v) := memKept_of fun hw => by simp [State.wrTime, hw]

@[simp] theorem wrTwin_memKept (s : State) (b v : Nat) : MemKept s (s.wrTwin b v) := memKept_of fun hw => by simp [State.wrTwin, hw]

@[simp] theorem wrStorage_memKept (s : State) (a : Agent) (b v : Nat) : MemKept s (s.wrStorage a b v) :=
  memKept_of fun hw => by simp [State.wrStorage, hw]

@[simp] theorem regWrite_memKept (s : State) (a : Agent) (b v : Nat) : MemKept s (s.regWrite a b v) :=
  memKept_of fun hw => by simp [State.regWrite, hw]

@[simp] theorem wordWrite_memKept (s : State) (a : Agent) (csr w : Nat) : MemKept s (s.wordWrite a csr w) := by
  refine memKept_of fun hw => ?_
  unfold State.wordWrite
  split <;> simp [hw]

@[simp] theorem csrWord_memKept (s : State) (a : Agent) (csr : Nat) (w : Word) : MemKept s (s.csrWord a csr w) :=
  memKept_of fun hw => by simp [State.csrWord, hw]

/-! ### CsrRead -/

@[simp] theorem readEffect_memKept (s : State) (r : RegRow) (b i : Nat) : MemKept s (s.readEffect r b i) :=
  memKept_of fun hw => by simp [State.readEffect, hw]

@[simp] theorem wordRead_memKept (s : State) (a : Option Agent) (csr : Nat) : MemKept s (s.wordRead a csr).1 := by
  refine memKept_of fun hw => ?_
  unfold State.wordRead
  dsimp only
  (repeat' split) <;> simp [hw]

@[simp] theorem csrRead_memKept (s : State) (a : Agent) (csr : Nat) : MemKept s (s.csrRead a csr) :=
  memKept_of fun hw => by simp [State.csrRead, hw]

@[simp] theorem csrReadIf_memKept (s : State) (a : Agent) (csr : Nat) (kind : RegRow → Nat → Bool) :
    MemKept s (s.csrReadIf a csr kind) := by
  refine memKept_of fun hw => ?_
  unfold State.csrReadIf
  split <;> simp [hw]

@[simp] theorem telRead_memKept (s : State) (csr : Nat) : MemKept s (s.telRead csr).1 := by
  refine memKept_of fun hw => ?_
  unfold State.telRead
  dsimp only
  (repeat' split) <;> simp [hw]

@[simp] theorem telEntries_memKept (s : State) (cs : List Nat) : MemKept s (s.telEntries cs).1 := by
  induction cs generalizing s with
  | nil => exact .refl s
  | cons c cs ih =>
    rw [State.telEntries]
    exact (telRead_memKept ..).trans (ih _)

@[simp] theorem counters_memKept (s : State) (cs : List Nat) : MemKept s (s.counters cs) :=
  memKept_of fun hw => by simp [State.counters, hw]

@[simp] theorem exportRec_memKept (s : State) (k : Nat) : MemKept s (s.exportRec k) := memKept_of fun hw => by simp [State.exportRec, hw]

@[simp] theorem execTelemetryPass_outOk (s : State) (hw : Memory.wf s.mem = true) : OutOk (execTelemetryPass s) := by
  rw [execTelemetryPass]
  dsimp only
  refine live_outOk hw (ite_outOk (by simp [hw]) ?_)
  rw [outOk_next, bump_mem, setEvr_mem]
  exact foldl_memOk (fun t k ht => by simp [ht]) _ (foldl_memOk (fun t cs ht => by simp [ht]) _ hw)

/-! ### Tap -/

@[simp] theorem sampled_memKept (s : State) : MemKept s s.sampled := memKept_of fun hw => by simp [State.sampled, hw]

@[simp] theorem irFree_memKept (s : State) (code : Nat) : MemKept s (s.irFree code) := memKept_of fun hw => by simp [State.irFree, hw]

@[simp] theorem irHold_memKept (s : State) (code : Nat) : MemKept s (s.irHold code) := memKept_of fun hw => by simp [State.irHold, hw]

@[simp] theorem execExtest_outOk (scan : Option (BitVec 601)) (s : State) (hw : Memory.wf s.mem = true) : OutOk (execExtest scan s) := by
  unfold execExtest
  split <;> simp [hw]

@[simp] theorem mailbox_memKept (s : State) (addr : Nat) (write : Bool) (data : Nat) : MemKept s (s.mailbox addr write data) :=
  memKept_of fun hw => by simp [State.mailbox, hw]

@[simp] theorem mboxAccess_memKept (s : State) (data addr : Nat) (mailbox write : Bool) :
    MemKept s (s.mboxAccess data addr mailbox write) :=
  memKept_of fun hw => by simp [State.mboxAccess, hw]

/-! ### Cervik -/

@[simp] theorem onCpu_memKept (s : State) (c : CoreId) (f : Cpu → Cpu) : MemKept s (s.onCpu c f) :=
  memKept_of fun hw => by simp [State.onCpu, hw]

@[simp] theorem violation_memKept (s : State) (st : Status) : MemKept s (s.violation st) :=
  memKept_of fun hw => by simp [State.violation, hw]

@[simp] theorem fault_memKept (s : State) (k cause : Nat) (st : Status) (eaddr : Word) : MemKept s (s.fault k cause st eaddr) :=
  memKept_of fun hw => by simp [State.fault, hw]

@[simp] theorem interrupt_memKept (s : State) (k l : Nat) : MemKept s (s.interrupt k l) :=
  memKept_of fun hw => by simp [State.interrupt, hw]

@[simp] theorem execInterruptTake_outOk (k : Fin 4) (s : State) (hw : Memory.wf s.mem = true) : OutOk (execInterruptTake k s) := by
  unfold execInterruptTake
  split <;> simp [hw]

@[simp] theorem fetchRead_memKept (s : State) (k : Nat) (p : Place) : MemKept s (s.fetchRead k p) :=
  memKept_of fun hw => by simp [State.fetchRead, hw]

@[simp] theorem fetched_memKept (s : State) (k : Nat) (f : State → State)
    (hf : ∀ t, Memory.wf t.mem = true → Memory.wf (f t).mem = true) : MemKept s (s.fetched k f) := by
  refine memKept_of fun hw => ?_
  unfold State.fetched
  dsimp only
  split
  · simp [hw]
  · split
    · simp [hw]
    · split
      · simp [hw]
      · exact hf _ (by simp [hw])

@[simp] theorem charge_memKept (s : State) (n : Nat) (it : Item) (w : Nat) (f : State → State)
    (hf : ∀ t, Memory.wf t.mem = true → Memory.wf (f t).mem = true) : MemKept s (s.charge n it w f) := by
  refine memKept_of fun hw => ?_
  unfold State.charge
  dsimp only
  split
  · simp [hw]
  · exact hf _ (by simp [hw])

@[simp] theorem lcIllegal_memKept (s : State) (n : Nat) (it : Item) : MemKept s (s.lcIllegal n it) :=
  memKept_of fun hw => by simp [State.lcIllegal, hw]

@[simp] theorem onLc_memKept (s : State) (n w : Nat) (f : Item → State → State)
    (hf : ∀ it t, Memory.wf t.mem = true → Memory.wf (f it t).mem = true) : MemKept s (s.onLc n w f) := by
  refine memKept_of fun hw => ?_
  unfold State.onLc
  split
  · split
    · exact (charge_memKept _ _ _ _ _ (hf _)).keeps hw
    · simp [hw]
  · exact hw

@[simp] theorem onCc_memKept (s : State) (k : Nat) (f : State → State)
    (hf : ∀ t, Memory.wf t.mem = true → Memory.wf (f t).mem = true) : MemKept s (s.onCc k f) :=
  memKept_of fun hw => ite_memOk ((fetched_memKept s k f hf).keeps hw) hw

@[simp] theorem issue_outOk (s : State) (c : CoreId) (f : State → State)
    (hf : ∀ t, Memory.wf t.mem = true → Memory.wf (f t).mem = true) (hw : Memory.wf s.mem = true) : OutOk (s.issue c f) := by
  refine live_outOk hw ((outOk_next _).2 ?_)
  cases c with
  | cc k => exact (onCc_memKept s _ f hf).keeps hw
  | lc n => exact (onLc_memKept s _ _ _ fun _ => hf).keeps hw

@[simp] theorem issueC_outOk (s : State) (k : Fin 4) (f : State → State)
    (hf : ∀ t, Memory.wf t.mem = true → Memory.wf (f t).mem = true) (hw : Memory.wf s.mem = true) : OutOk (s.issueC k f) :=
  live_outOk hw ((outOk_next _).2 ((onCc_memKept s _ f hf).keeps hw))

@[simp] theorem issueL_outOk (s : State) (n : Fin 64) (w : Nat) (f : Item → State → State)
    (hf : ∀ it t, Memory.wf t.mem = true → Memory.wf (f it t).mem = true) (hw : Memory.wf s.mem = true) : OutOk (s.issueL n w f) :=
  live_outOk hw ((outOk_next _).2 ((onLc_memKept s _ w f hf).keeps hw))

@[simp] theorem ccIllegal_memKept (s : State) (k : Nat) : MemKept s (s.ccIllegal k) := memKept_of fun hw => by simp [State.ccIllegal, hw]

@[simp] theorem execIllegalOpcode_outOk (c : CoreId) (w : Word) (s : State) (hw : Memory.wf s.mem = true) :
    OutOk (execIllegalOpcode c w s) := by
  unfold execIllegalOpcode
  split <;> simp [hw]

/-! ### CervikMem -/

@[simp] theorem dropLine_memKept (s : State) (l : Nat) : MemKept s (s.dropLine l) := memKept_of fun hw => by simp [State.dropLine, hw]

@[simp] theorem cleanLine_memKept (s : State) (l : Nat) : MemKept s (s.cleanLine l) := by
  refine memKept_of fun hw => ?_
  unfold State.cleanLine
  split <;> simp [hw]

@[simp] theorem fillLine_memKept (s : State) (k l : Nat) : MemKept s (s.fillLine k l) := by
  refine memKept_of fun hw => ?_
  unfold State.fillLine
  split <;> simp [hw]

@[simp] theorem giveUp_memKept (s : State) (k l : Nat) : MemKept s (s.giveUp k l) := by
  refine memKept_of fun hw => ?_
  unfold State.giveUp
  split <;> simp [hw]

@[simp] theorem cleanOwn_memKept (s : State) (k l : Nat) : MemKept s (s.cleanOwn k l) := by
  refine memKept_of fun hw => ?_
  unfold State.cleanOwn
  split <;> simp [hw]

@[simp] theorem cleanAll_memKept (s : State) (k : Nat) : MemKept s (s.cleanAll k) := memKept_of fun hw => by simp [State.cleanAll, hw]

@[simp] theorem correctEdges_memKept (s : State) (a n : Nat) : MemKept s (s.correctEdges a n) :=
  memKept_of fun hw => by simp [State.correctEdges, hw]

@[simp] theorem loadAt_memKept (s : State) (k : Nat) (p : Place) (n : Nat) : MemKept s (s.loadAt k p n).1 := by
  refine memKept_of fun hw => ?_
  unfold State.loadAt
  split <;> simp [hw]

@[simp] theorem storeAt_memKept (s : State) (k : Nat) (p : Place) (bs : List Byte) (bad : Bool) : MemKept s (s.storeAt k p bs bad) := by
  refine memKept_of fun hw => ?_
  unfold State.storeAt
  dsimp only
  (repeat' split) <;> simp [hw]

@[simp] theorem ccDo_memKept (s : State) (k : Nat) (f : Cpu → Cpu) : MemKept s (s.ccDo k f) :=
  memKept_of fun hw => by simp [State.ccDo, hw]

@[simp] theorem ccAfter_memKept (s : State) (k : Nat) (old : CCore) (f : Cpu → Cpu) : MemKept s (s.ccAfter k old f) :=
  memKept_of fun hw => by simp [State.ccAfter, hw]

@[simp] theorem ccRefuse_memKept (s : State) (k : Nat) (st : Status) : MemKept s (s.ccRefuse k st) :=
  memKept_of fun hw => by simp [State.ccRefuse, hw]

@[simp] theorem ccCsrLoad_memKept (s : State) (k csr : Nat) (f : Nat → Cpu → Cpu) : MemKept s (s.ccCsrLoad k csr f) :=
  memKept_of fun hw => by simp [State.ccCsrLoad, hw]

@[simp] theorem ccCsrStore_memKept (s : State) (k csr : Nat) (v : GReg) : MemKept s (s.ccCsrStore k csr v) :=
  memKept_of fun hw => by simp [State.ccCsrStore, hw]

@[simp] theorem ccLoad_memKept (s : State) (k : Nat) (w : Width) (rd a : RegNo) (i : BitVec 12) : MemKept s (s.ccLoad k w rd a i) := by
  refine memKept_of fun hw => ?_
  unfold State.ccLoad
  dsimp only
  (repeat' split) <;> simp [hw]

@[simp] theorem ccStore_memKept (s : State) (k : Nat) (w : Width) (rd a : RegNo) (i : BitVec 12) : MemKept s (s.ccStore k w rd a i) := by
  refine memKept_of fun hw => ?_
  unfold State.ccStore
  dsimp only
  (repeat' split) <;> simp [hw]

@[simp] theorem lcDo_memKept (s : State) (n : Nat) (f : Cpu → Cpu) : MemKept s (s.lcDo n f) :=
  memKept_of fun hw => by simp [State.lcDo, hw]

@[simp] theorem lcRefuse_memKept (s : State) (n : Nat) (st : Status) : MemKept s (s.lcRefuse n st) :=
  memKept_of fun hw => by simp [State.lcRefuse, hw]

@[simp] theorem lcAccess_memKept (s : State) (n : Nat) (it : Item) (w : Width) (store : Bool) (win : BitVec 3) (rd a : RegNo)
    (i : BitVec 12) (f : Nat → State) (hf : ∀ x, Memory.wf s.mem = true → Memory.wf (f x).mem = true) :
    MemKept s (s.lcAccess n it w store win rd a i f) := by
  refine memKept_of fun hw => ?_
  simp only [State.lcAccess]
  split_ifs
  · simp [hw]
  · simp [hw]
  · simp [hw]
  · split
    · simp [hw]
    · exact hf _ hw

@[simp] theorem lcLoad_memKept (s : State) (n : Nat) (it : Item) (w : Width) (win : BitVec 3) (rd a : RegNo) (i : BitVec 12) :
    MemKept s (s.lcLoad n it w win rd a i) :=
  memKept_of fun hw => by simp [State.lcLoad, hw]

@[simp] theorem lcStore_memKept (s : State) (n : Nat) (it : Item) (w : Width) (win : BitVec 3) (rd a : RegNo) (i : BitVec 12) :
    MemKept s (s.lcStore n it w win rd a i) :=
  memKept_of fun hw => by simp [State.lcStore, hw]

/-! ### CervikSys -/

@[simp] theorem lineOp_memKept (s : State) (k : Nat) (right : Acc) (a : RegNo) (f : Nat → State)
    (hf : ∀ x, Memory.wf s.mem = true → Memory.wf (f x).mem = true) : MemKept s (s.lineOp k right a f) := by
  refine memKept_of fun hw => ?_
  have hf' := fun x => hf x hw
  simp only [State.lineOp]
  split
  · simp [hw]
  · split <;> simp [hf', hw]

@[simp] theorem execIinv_outOk (k : Fin 4) (a : RegNo) (s : State) (hw : Memory.wf s.mem = true) : OutOk (execIinv k a s) :=
  issueC_outOk _ _ _ (fun t => (lineOp_memKept _ _ _ _ _ fun x ht => by simp [ht]).keeps) hw

@[simp] theorem execIinva_outOk (k : Fin 4) (s : State) (hw : Memory.wf s.mem = true) : OutOk (execIinva k s) :=
  issueC_outOk _ _ _ (fun t ht => by rwa [setCc_mem]) hw

@[simp] theorem execWfi_outOk (k : Fin 4) (s : State) (hw : Memory.wf s.mem = true) : OutOk (execWfi k s) :=
  issueC_outOk _ _ _ (fun t ht => by rwa [setCc_mem]) hw

@[simp] theorem execWfiWake_outOk (k : Fin 4) (s : State) (hw : Memory.wf s.mem = true) : OutOk (execWfiWake k s) := by
  unfold execWfiWake
  split <;> simp [hw]

@[simp] theorem execMfsr_outOk (k : Fin 4) (rd : RegNo) (n : BitVec 5) (s : State) (hw : Memory.wf s.mem = true) :
    OutOk (execMfsr k rd n s) := by
  refine issueC_outOk _ _ _ (fun t ht => ?_) hw
  split
  · simp [ht]
  · simp [ht]

@[simp] theorem ring_memKept (s : State) (k v : Nat) : MemKept s (s.ring k v) := memKept_of fun hw => by simp [State.ring, hw]

theorem setSpecial_memKept {s t : State} {k n : Nat} {v : Word} (h : s.setSpecial k n v = some t) : MemKept s t := by
  refine memKept_of fun hw => ?_
  unfold State.setSpecial at h
  split at h
  case h_7 => contradiction
  all_goals
    injection h with h
    rw [← h]
    simp [hw]

@[simp] theorem execMtsr_outOk (k : Fin 4) (rs1 : RegNo) (n : BitVec 5) (s : State) (hw : Memory.wf s.mem = true) :
    OutOk (execMtsr k rs1 n s) := by
  refine issueC_outOk s k _ (fun t ht => ?_) hw
  dsimp only
  split
  next h => simp [(setSpecial_memKept h).keeps ht]
  · simp [ht]

@[simp] theorem execEnq_outOk (k : Fin 4) (ra : RegNo) (q : BitVec 8) (s : State) (hw : Memory.wf s.mem = true) :
    OutOk (execEnq k ra q s) := by
  refine issueC_outOk _ _ _ (fun t ht => ?_) hw
  dsimp only
  split
  · simp [ht]
  · split <;> simp [ht]

@[simp] theorem deqTake_memKept (s : State) (k : Nat) (ra : RegNo) (q : Nat) : MemKept s (s.deqTake k ra q) :=
  memKept_of fun hw => by simp [State.deqTake, hw]

@[simp] theorem execDeq_outOk (k : Fin 4) (ra : RegNo) (q : BitVec 8) (s : State) (hw : Memory.wf s.mem = true) :
    OutOk (execDeq k ra q s) := by
  refine issueC_outOk _ _ _ (fun t ht => ?_) hw
  dsimp only
  split
  · simp [ht]
  · split <;> simp [ht]

@[simp] theorem execDeqt_outOk (k : Fin 4) (ra : RegNo) (q : BitVec 8) (s : State) (hw : Memory.wf s.mem = true) :
    OutOk (execDeqt k ra q s) := by
  refine issueC_outOk _ _ _ (fun t ht => ?_) hw
  split
  · simp [ht]
  · exact ite_memOk (by simp [ht]) (by simp [ht])

@[simp] theorem lockTaken_memKept (s : State) (k : Nat) (ra : RegNo) (n : Nat) : MemKept s (s.lockTaken k ra n) :=
  memKept_of fun hw => by simp [State.lockTaken, hw]

@[simp] theorem lockOp_memKept (s : State) (k : Nat) (ra : RegNo) (n : Nat) (stall : Bool) : MemKept s (s.lockOp k ra n stall) :=
  memKept_of fun hw => by simp [State.lockOp, hw]

/-! ### CervikLedger -/

@[simp] theorem poisonIf_memKept (s : State) (a n : Nat) (bad : Bool) : MemKept s (s.poisonIf a n bad) :=
  memKept_of fun hw => by simp [State.poisonIf, hw]

@[simp] theorem tackMerge_memKept (s : State) (e : Nat) (t : Tack) (bad : Bool) : MemKept s (s.tackMerge e t bad) :=
  memKept_of fun hw => by simp [State.tackMerge, hw]

@[simp] theorem tackConflict_memKept (s : State) (a : Nat) (hits : List Nat) : MemKept s (s.tackConflict a hits) :=
  foldl_memKept _ (fun u i => by simp) _ s

@[simp] theorem tackInsert_memKept (s : State) (a cnt pos : Nat) (t : Tack) (bad : Bool) : MemKept s (s.tackInsert a cnt pos t bad) :=
  memKept_of fun hw => by simp [State.tackInsert, hw]

@[simp] theorem tackOp_memKept (s : State) (n : Nat) (t : Tack) (bad : Bool) : MemKept s (s.tackOp n t bad) := by
  refine memKept_of fun hw => ?_
  unfold State.tackOp
  dsimp only
  (repeat' split) <;> simp [hw]

@[simp] theorem pressMove_memKept (s : State) (a dst m : Nat) : MemKept s (s.pressMove a dst m) :=
  memKept_of fun hw => by simp [State.pressMove, hw]

@[simp] theorem execMaxd_outOk (n : Fin 64) (ra rb : RegNo) (s : State) (hw : Memory.wf s.mem = true) : OutOk (execMaxd n ra rb s) := by
  refine issueL_outOk _ _ _ _ (fun _ t ht => ?_) hw
  dsimp only
  split
  · simp [ht]
  · simp [ht]

@[simp] theorem execSatadd_outOk (n : Fin 64) (ra rb : RegNo) (s : State) (hw : Memory.wf s.mem = true) :
    OutOk (execSatadd n ra rb s) := by
  refine issueL_outOk _ _ _ _ (fun _ t ht => ?_) hw
  dsimp only
  split
  · simp [ht]
  · simp [ht]

@[simp] theorem execEmit_outOk (n : Fin 64) (ra rb : RegNo) (typ : BitVec 8) (s : State) (hw : Memory.wf s.mem = true) :
    OutOk (execEmit n ra rb typ s) := by
  refine issueL_outOk _ _ _ _ (fun _ t ht => ?_) hw
  dsimp only
  split <;> simp [ht]

@[simp] theorem lcWait_memKept (s : State) (n : Nat) : MemKept s (s.lcWait n) := memKept_of fun hw => by simp [State.lcWait, hw]

/-! ## Every command -/

/-- What a command leaves has memory in its canonical form, if it was so before. -/
theorem exec_outOk (c : Instr) (s : State) (hw : Memory.wf s.mem = true) : OutOk (exec c s) := by
  cases c with
  | kepUplinkFrame | kepAckSend | downlinkFrameSend | keyUpdateSend | dlmsApdu | relayEnvelopeReceive =>
    simp [exec, execKepUplinkFrame, execDownlinkFrameSend, hw]
  | ceilingRaise | aesGcmEncrypt | aesGcmDecrypt | aesCcmEncrypt | aesCcmDecrypt | aesCtr | aesCmacGenerate | aesCmacVerify |
      fwCampaignOpen | setpointArm | setpointCancel | setpointFire =>
    simp [exec, execCeilingRaise, execAesGcmEncrypt, execAesGcmDecrypt, execAesCcmEncrypt, execAesCcmDecrypt, execAesCtr,
      execAesCmacGenerate, execAesCmacVerify, execFwCampaignOpen, execSetpointArm, execSetpointCancel, execSetpointFire, hw]
  | ethFrameReceive | pfxInsert | pfxDelete | eptWrite | eptDelete | eptRead | ethernetLinkChange =>
    simp [exec, execPfxInsert, execPfxDelete, execEptWrite, execEptDelete, execEptRead, execEthernetLinkChange, hw]
  | neighbourAgeSweep | nbtPin | nbtUnpin | nbtDelete =>
    simp [exec, execNbtPin, execNbtUnpin, execNbtDelete, hw]
  | plFrameReceive | plTxQueue | driverRequest | driverGrant | driverRelease | driverMaxdeferExpiry | plAccessSlot |
      plAckSend | plAckReceive | plAckTimeout | toneMapExpiry =>
    simp [exec, execDriverRequest, execDriverGrant, execToneMapExpiry, hw]
  | rfDetection | rfFrameDeliver | rfAckSend | superframeStart | rfRunTransmit | rfTxTimeout | slotSwapRequest |
      beaconReceive | beaconWindowClose | floodRelayEligible | floodOriginate | lintTrapSweep | sleepySend | rfRealign =>
    simp [exec, execRfDetection, execRfTxTimeout, execSlotSwapRequest, execBeaconReceive, execBeaconWindowClose,
      execFloodOriginate, execLintTrapSweep, execRfRealign, hw]
  | kepAckDrop | relayDownlinkTransmit =>
    simp [exec, hw]
  | gen | invalidate | setpub | pubout | keyImport | keyExport | genpkt | importpkt | rewrap | attest | auth =>
    simp [exec, execGen, execInvalidate, execSetpub, execPubout, execImport, execExport, execGenpkt, execImportpkt, execRewrap,
      execAttest, execAuth, hw]
  | sha3x256 | sha3x512 | shake128 | shake256 | sign | verify | encaps | decaps =>
    simp [exec, execSha3x256, execSha3x512, execShake128, execShake256, execSign, execVerify, execEncaps, execDecaps, hw]
  | dunebCellReceive | dunebRetryTimeout | dunebLinkDown | hello | seamMapAdopt | seamWrite | moveArm | moveReceive | moved |
      moveTimeout | moveAbort =>
    simp [exec, execDunebCellReceive, execDunebRetryTimeout, execDunebLinkDown, execHello, execSeamMapAdopt, execSeamWrite,
      execMoveArm, execMoveReceive, hw]
  | reportMergeTurn | init | accept | initTimeout | batchClose | back | batchResend | sessionRekey | close | oldSessionExpiry =>
    simp [exec, execInit, hw]
  | tamperAlarm | pendClear | provision | field | debugOpen | scrap =>
    simp [exec, execTamperAlarm, execPendClear, execProvision, execField, execDebugOpen, execScrap, hw]
  | check | install | clean | selftestPass | commit | abandon =>
    simp [exec, execCheck, execClean, execSelftestPass, execAbandon, hw]
  | dispatchGrant | dispatcherQ0Take | hwEnqueue | qcfgWrite | queueFlush | pressTick | markerJournaled | programRetire |
      programLoad | rebuildGo | rebuildRelease | ldgreplayWrite | replayEntryApply | detbrkDaily | detbrkClear | ingestCommand =>
    simp [exec, execDispatchGrant, execHwEnqueue, execQcfgWrite, execQueueFlush, execPressTick, execProgramRetire,
      execProgramLoad, execRebuildGo, execRebuildRelease, execLdgreplayWrite, execReplayEntryApply, execDetbrkDaily,
      execDetbrkClear, hw]
  | sampleLatch | metrologyIntervalClose | referenceCheck | topoSelect =>
    simp [exec, execSampleLatch, execTopoSelect, hw]
  | timincrWrite | timsetWrite | timstepWrite | signedStep | timeInvalidate | txtsPop | triggerFire | ppsOutPulse | ppsInCapture =>
    simp [exec, execTimincrWrite, execTimsetWrite, execTimstepWrite, execSignedStep, execTimeInvalidate, execTriggerFire,
      execPpsInCapture, hw]
  | actInChange | shadowMessageApply | confirm | beat | peerSilent | standbyGraceExpiry | activeGraceExpiry | detach |
      detached | drain | resync | force | takeover | catchup | rescue | recordKeepExpiry =>
    simp [exec, execShadowMessageApply, execConfirm, execBeat, execPeerSilent, execDetach, execDetached, execDrain, execResync,
      execForce, execRecordKeepExpiry, hw]
  | nandRead | nandWrite | nandTrim | nandMigrate | nandSync | wearLevelMove | idleGc | foregroundGc | blockRewrite =>
    simp [exec, execNandSync, hw]
  | drainBatch | drainBatchComplete | checkpointDue | checkpointGo | checkpointComplete | rinsePass =>
    simp [exec, execDrainBatch, execCheckpointDue, execCheckpointGo, hw]
  | eventPost | evrpostWrite | foldFlush | eventClear | operatingTimeSave =>
    simp [exec, execEventPost, execEvrpostWrite, execFoldFlush, execEventClear, execOperatingTimeSave, hw]
  | refclkLoss | timeclkLoss | srefclkLoss | xtalLoss | treturn | tempHot =>
    simp [exec, execTimeclkLoss, execSrefclkLoss, execXtalLoss, execTreturn, execTempHot, hw]
  | fenceRequest | fenceTakeEffect =>
    simp [exec, execFenceRequest, execFenceTakeEffect, hw]
  | por | bor | extReset | swresetNormal | swresetRecovery | swresetStandby | bootStart | roleDecision | modeRequest |
      pfailSequence | pfailRecoveryBor | lpctlQuiet | lpctlRun | lpctlSleep | sleepWake | coreWdgFirstExpiry |
      coreWdgSecondExpiry | wdtKick | aonWdgExpiry | dispatchStall =>
    simp [exec, execPor, execBor, execExtReset, execSwresetNormal, execSwresetRecovery, execSwresetStandby, execRoleDecision,
      execModeRequest, execPfailSequence, execPfailRecoveryBor, execLpctlQuiet, execLpctlRun, execLpctlSleep,
      execCoreWdgFirstExpiry, execCoreWdgSecondExpiry, execWdtKick, execAonWdgExpiry, execDispatchStall, hw]
  | csrWrite =>
    simp [exec, execCsrWrite, hw]
  | csrSnapshotRead | rcRead | telemetryPass =>
    simp [exec, execCsrSnapshotRead, execRcRead, hw]
  | tapReset | extest | idcode | samplePreload | clamp | highz | mbox | debug | bypass =>
    simp [exec, execTapReset, execIdcode, execSamplePreload, execClamp, execHighz, execMbox, execDebug, execBypass, hw]
  | illegalOpcode | interruptTake =>
    simp [exec, hw]
  | add | sub | andR | orR | xorR | sll | srl | sra | slt | sltu | mul | mulhu | mulhs | divu | divs | remu | rems | min |
      max | minu | maxu | getfl | setfl | adds | adc | subs | sbc | cmp | addi | andi | ori | xori | slti | sltiu | slli |
      srli | srai | cmpi | movh | pcadr | beq | bne | blt | bge | bltu | bgeu | bfs | bfc | bws | bcs | bcc | bzs | bvs | bps |
      jmp | call | jr | callr =>
    simp [exec, execAdd, execSub, execAndR, execOrR, execXorR, execSll, execSrl, execSra, execSlt, execSltu, execMul,
      execMulhu, execMulhs, execDivu, execDivs, execRemu, execRems, execMin, execMax, execMinu, execMaxu, execGetfl, execSetfl,
      execAdds, execAdc, execSubs, execSbc, execCmp, execAddi, execAndi, execOri, execXori, execSlti, execSltiu, execSlli,
      execSrli, execSrai, execCmpi, execMovh, execPcadr, execBeq, execBne, execBlt, execBge, execBltu, execBgeu, execBfs,
      execBfc, execBws, execBcs, execBcc, execBzs, execBvs, execBps, execJmp, execCall, execJr, execCallr, hw]
  | ldb | ldbu | ldh | ldhu | ldw | ldd | stb | sth | stw | std | lxb | lxbu | lxh | lxhu | lxw | lxd | sxb | sxh | sxw | sxd =>
    simp [exec, execLdb, execLdbu, execLdh, execLdhu, execLdw, execLdd, execStb, execSth, execStw, execStd, execLxb, execLxbu,
      execLxh, execLxhu, execLxw, execLxd, execSxb, execSxh, execSxw, execSxd, hw]
  | csrr | csrw | fence | cinv | cclean | cflush | iinv | cflusha | iinva | wfi | wfiWake | eret | mfsr | mtsr | enq | deq |
      deqStallResume | deqt | lock | lockGrant | lockt | unlock =>
    simp [exec, execCsrr, execCsrw, execFence, execCinv, execCclean, execCflush, execCflusha, execEret, execDeqStallResume,
      execLock, execLockGrant, execLockt, execUnlock, hw]
  | tack | press | maxd | satadd | emit | waitw | done =>
    simp [exec, execTack, execPress, execWaitw, execDone, hw]
theorem tick_memKept (s : State) : MemKept s s.tick := memKept_of fun hw => by simp [State.tick, hw]

/-- A step keeps memory in its canonical form. -/
theorem step_outOk (s : State) (hw : Memory.wf s.mem = true) : OutOk (step s) := by
  unfold step
  split
  · exact (outOk_next _).2 ((tick_memKept s).keeps hw)
  · exact exec_outOk _ _ hw

/-- Settles O27: every operation that a meaning is composed of keeps memory in its canonical form, so every command does, and so does a
step. -/
theorem memoryStaysCanonical : Obligations.MemoryStaysCanonical := fun s t hs ht => step_outOk s hs t ht

end Sys2Proof.Machine
end

section
/-! PROOFS. A CSR write that is refused: the answers of `csrWord` in the order of its checks, and the plane and the port's rights
(R31, R145, R146, R570). -/

namespace Sys2Proof.Machine

variable {s : State} {a : Agent} {csr : Nat} {w : Word}

/-- What has passed the checks of `csrWord` on the CSR number itself. -/
structure NumberPasses (csr : Nat) : Prop where
  below : csr < 2 ^ 24
  aligned : csr % 4 = 0
  implemented : blockImplemented (csr / 0x10000) = true

theorem csrWord_tooHigh (h : 2 ^ 24 ≤ csr) : s.csrWord a csr w = s.say .badArgument := if_pos h

theorem csrWord_misaligned (hb : csr < 2 ^ 24) (h : csr % 4 ≠ 0) : s.csrWord a csr w = s.say .badAlign := by
  rw [State.csrWord, if_neg (Nat.not_le.mpr hb), if_pos h]

theorem csrWord_noBlock (hb : csr < 2 ^ 24) (ha : csr % 4 = 0) (h : blockImplemented (csr / 0x10000) = false) :
    s.csrWord a csr w = s.say .badAddress := by
  rw [State.csrWord, if_neg (Nat.not_le.mpr hb), if_neg (not_not.mpr ha), h]
  rfl

theorem csrWord_passes (h : NumberPasses csr) : s.csrWord a csr w = s.asAgent a csr fun t => t.wordWrite a csr w.toNat := by
  rw [State.csrWord, if_neg (Nat.not_le.mpr h.below), if_neg (not_not.mpr h.aligned), h.implemented]
  rfl

theorem asAgent_planeDenied {k : Fin 4} (h : s.planeDenied k.val csr = true) (f : State → State) :
    s.asAgent (.cc k) csr f = s.planeRefuse := by
  simp only [State.asAgent, h, if_true]

theorem asAgent_portLocked (h : s.portMay csr = false) (f : State → State) : s.asAgent .port csr f = s.say .debugLocked := by
  simp only [State.asAgent, h, Bool.false_eq_true, if_false]

/-- Settles O22: each refusal is the branch of `csrWord`, or of `asAgent` below it, that the hypotheses select. -/
theorem planesGuardWrites : Obligations.PlanesGuardWrites := by
  refine ⟨fun k csr v s hc hb ha hi hd => ?plane, fun csr v s hc hb ha hi hp => ?port, fun a csr v s hc hb ha => ?align,
    fun a csr v s hc hb => ?argument, fun a csr v s hc hb ha hi => ?address⟩
  all_goals rw [exec_csrWrite_of_clocked _ _ _ hc]
  case plane => rw [csrWord_passes ⟨hb, ha, hi⟩, asAgent_planeDenied hd]; rfl
  case port => rw [csrWord_passes ⟨hb, ha, hi⟩, asAgent_portLocked hp]
  case align => rw [csrWord_misaligned hb ha]
  case argument => rw [csrWord_tooHigh hb]
  case address => rw [csrWord_noBlock hb ha hi]

end Sys2Proof.Machine
end

section
/-! PROOFS. Fences: what a request notes or refuses, what a fence in effect leaves, and how a request for several units is made of
requests for one (R50 to R53, R138). -/

namespace Sys2Proof.Machine

variable {s t u : State}

/-! ### The recorder and the answer -/

theorem flushOpen_say (s : State) (st : Status) (o : OpenRec) : (s.say st).flushOpen o = (s.flushOpen o).say st := by
  cases h : o.dirty <;> simp only [State.flushOpen, h] <;> rfl

theorem findRec_say (s : State) (st : Status) (p : Nat → List Byte → Bool) (n k : Nat) :
    (s.say st).findRec p n k = s.findRec p n k := by
  induction n generalizing k with
  | zero => rfl
  | succ n ih => simp only [State.findRec, ih]; rfl

theorem lowestRec_say (s : State) (st : Status) (p : Nat → List Byte → Bool) (n k : Nat) (b : Option (Nat × Nat)) :
    (s.say st).lowestRec p n k b = s.lowestRec p n k b := by
  induction n generalizing k b with
  | zero => rfl
  | succ n ih => simp only [State.lowestRec, ih]; rfl

theorem takeSlot_say (s : State) (st : Status) (sev : Nat) : (s.say st).takeSlot sev = s.takeSlot sev := by
  simp only [State.takeSlot, say_evr, findRec_say, lowestRec_say]

theorem putRec_say (s : State) (st : Status) (k : Nat) (d : List Byte) : (s.say st).putRec k d = (s.putRec k d).say st := rfl
theorem fset_say (s : State) (st : Status) (f : Fld) (v : Nat) : (s.say st).fset f v = (s.fset f v).say st := rfl
theorem setFlag_say (s : State) (st : Status) (f : Fld) (b : Bool) : (s.say st).setFlag f b = (s.setFlag f b).say st := rfl
theorem setEvr_say (s : State) (st : Status) (e : EvrSt) : (s.say st).setEvr e = (s.setEvr e).say st := rfl
theorem setOpen_say (s : State) (st : Status) (os : List OpenRec) : (s.say st).setOpen os = (s.setOpen os).say st := rfl
theorem fget_say (s : State) (st : Status) (f : Fld) : (s.say st).fget f = s.fget f := rfl
theorem bump_say (s : State) (st : Status) (f : Fld) (n : Nat) : (s.say st).bump f n = (s.bump f n).say st := rfl
theorem bytes_say (s : State) (st : Status) (a n : Nat) : (s.say st).bytes a n = s.bytes a n := rfl
theorem newRec_say (s : State) (st : Status) (e : Event) (n : Nat) : (s.say st).newRec e n = s.newRec e n := rfl
theorem foldRec_say (s : State) (st : Status) (d : List Byte) (v : Nat) : (s.say st).foldRec d v = s.foldRec d v := rfl
theorem foldsInto_say (s : State) (st : Status) (e : Event) : (s.say st).foldsInto e = s.foldsInto e := rfl

theorem foldl_flushOpen_say (s : State) (st : Status) (l : List OpenRec) :
    l.foldl State.flushOpen (s.say st) = (l.foldl State.flushOpen s).say st :=
  List.foldl_hom (State.say · st) fun t o => flushOpen_say t st o

/-- The recorder neither reads nor writes the answer. -/
theorem event_say (s : State) (st : Status) (e : Event) : (s.say st).event e = (s.event e).say st := by
  unfold State.event
  rw [foldsInto_say]
  cases s.foldsInto e with
  | some o => simp only [foldRec_say, say_evr, setOpen_say]
  | none =>
    simp only [foldl_flushOpen_say, setOpen_say, say_evr, takeSlot_say]
    generalize State.setOpen _ _ = t
    cases t.takeSlot e.sev with
    | none => simp only [bump_say]
    | some k =>
      simp -implicitDefEqProofs only [putRec_say, fset_say, setFlag_say, setEvr_say, setOpen_say, fget_say, bytes_say, newRec_say,
        say_evr, say_time]

/-! ### Bits of a number -/

theorem bit_eq_testBit (v i : Nat) : bit v i = v.testBit i := by
  rw [bit, bits, Nat.testBit_eq_decide_div_mod_eq, pow_one]
  rfl

theorem bit_setBits_same (v i x : Nat) : bit (setBits v i 1 x) i = (x % 2 == 1) := by rw [bit, bits_setBits_same]; rfl

theorem bit_setBits_ne (v x : Nat) {i j : Nat} (h : j ≠ i) : bit (setBits v i 1 x) j = bit v j := by
  rcases Nat.lt_or_gt_of_ne h with h | h
  · rw [bit, bits_setBits_below _ _ _ _ _ _ h, ← bit]
  · rw [bit, bits_setBits_above _ _ _ _ _ _ h, ← bit]

/-- A bit above all those of a number, added to it, is the last one found. -/
theorem filter_bit_add_two_pow {v n N : Nat} (hv : v < 2 ^ n) (hn : n < N) :
    (List.range N).filter (bit (v + 2 ^ n)) = (List.range N).filter (bit v) ++ [n] := by
  obtain ⟨m, rfl⟩ := Nat.exists_eq_add_of_lt hn
  have hat : bit (v + 2 ^ n) n = true := by
    rw [bit_eq_testBit, Nat.add_comm, Nat.testBit_two_pow_add_eq, Nat.testBit_lt_two_pow hv, Bool.not_false]
  have hbelow : (List.range n).filter (bit (v + 2 ^ n)) = (List.range n).filter (bit v) := List.filter_congr fun i hi => by
    rw [bit_eq_testBit, bit_eq_testBit, Nat.add_comm, Nat.testBit_two_pow_add_gt (List.mem_range.mp hi)]
  have habove : ∀ x, x < 2 ^ (n + 1) → ((List.range m).map (n + 1 + ·)).filter (bit x) = [] := fun x hx =>
    List.filter_eq_nil_iff.mpr fun i hi => by
      obtain ⟨j, -, rfl⟩ := List.mem_map.mp hi
      rw [bit_eq_testBit, Nat.testBit_lt_two_pow (Nat.lt_of_lt_of_le hx (Nat.pow_le_pow_right Nat.two_pos (Nat.le_add_right ..)))]
      decide
  have hpow : 2 ^ (n + 1) = 2 ^ n + 2 ^ n := by rw [Nat.pow_succ]; omega
  have hvn : bit v n = false := by rw [bit_eq_testBit, Nat.testBit_lt_two_pow hv]
  rw [show n + m + 1 = (n + 1) + m by omega, List.range_add, List.filter_append, List.filter_append, List.range_succ,
    List.filter_append, List.filter_append, habove _ (by omega), habove _ (by omega), hbelow, List.filter_singleton, List.filter_singleton,
    hat, hvn]
  simp

theorem filter_bit_two_pow {n N : Nat} (hn : n < N) : (List.range N).filter (bit (2 ^ n)) = [n] := by
  have h := filter_bit_add_two_pow (Nat.two_pow_pos n) hn
  have hz : (List.range N).filter (bit 0) = [] := List.filter_eq_nil_iff.mpr fun i _ => by simp [bit_eq_testBit]
  rwa [Nat.zero_add, hz, List.nil_append] at h

/-! ### A request -/

theorem exec_fenceRequest {a : Agent} (h : s.writes a rFENCE_SET = true) (v : BitVec 96) :
    exec (.fenceRequest a v) s = .next ((s.dropStage rFENCE_SET).fenceSet v.toNat) := by
  obtain ⟨hc, hm⟩ := writes_split h
  simp only [exec, execFenceRequest, live_of_clocked hc, State.asWhole, asAgent_may hm]

theorem fenceSet_one {v : Nat} (n : Fin 96) (hv : v = 2 ^ n.val) : s.fenceSet v = (s.fenceBit n.val).say .done := by
  rw [State.fenceSet, hv, filter_bit_two_pow n.isLt]
  rfl

theorem exec_fenceRequest_one {a : Agent} {v : BitVec 96} {n : Fin 96} (h : s.writes a rFENCE_SET = true) (hv : v.toNat = 2 ^ n.val) :
    exec (.fenceRequest a v) s = .next (((s.dropStage rFENCE_SET).fenceBit n.val).say .done) := by
  rw [exec_fenceRequest h, fenceSet_one n hv]

theorem fenceBit_fencing {n : Nat} (h : s.fencing n = true) : s.fenceBit n = s := by rw [State.fenceBit, if_pos h]

theorem fenceBit_dbBoot (h : s.fencing 11 = false) (hm : s.mode = modeBoot) (hb : s.pwr.bootStep < 6) :
    s.fenceBit 11 = s.setReg rFENCE_STAT (setBits (s.reg rFENCE_STAT) 11 1 1) := by
  rw [State.fenceBit, if_neg (by simp [h]), if_pos rfl, if_pos ⟨hm, hb⟩]

theorem fenceBit_dbLate (h : s.fencing 11 = false) (hm : ¬ (s.mode = modeBoot ∧ s.pwr.bootStep < 6)) :
    s.fenceBit 11 = (s.setFlag fSYSSTAT_FENCE_LATE true).fenceEvent 11 := by
  rw [State.fenceBit, if_neg (by simp [h]), if_pos rfl, if_neg hm]

/-- Unit `n` is the last of the units of which the minimum service set keeps one (R52). -/
def State.lastKept (s : State) (n : Nat) : Prop :=
  (s.keepOne n).isEmpty = false ∧ ((s.keepOne n).all fun m => decide (m = n) || s.fencing m) = true

theorem fenceBit_last {n : Nat} (h : s.fencing n = false) (hn : n ≠ 11) (hl : s.lastKept n) :
    s.fenceBit n = (s.setFlag fSYSSTAT_FENCE_REFUSED true).fenceEvent n := by
  rw [State.fenceBit, if_neg (by simp [h]), if_neg hn]
  exact if_pos ⟨by simp [hl.1], hl.2⟩

theorem fenceBit_noted {n : Nat} (h : s.fencing n = false) (hn : n ≠ 11) (hl : ¬ s.lastKept n) :
    s.fenceBit n = s.setPwr { s.pwr with fenceReq := setBits s.pwr.fenceReq n 1 1 } := by
  rw [State.fenceBit, if_neg (by simp [h]), if_neg hn]
  exact if_neg fun hk => hl ⟨by simpa using hk.1, hk.2⟩

theorem reg_fenceEvent (n : Nat) {b : Nat} (hb : b / 0x10000 ≠ 0x45) : (s.fenceEvent n).reg b = s.reg b :=
  (evrOnly_event s _).2.1 b hb

theorem pwr_fenceEvent (n : Nat) : (s.fenceEvent n).pwr = s.pwr := by
  rw [State.fenceEvent, (evrOnly_event s _).1]

/-! ### Requests one after another -/

/-- What a CSR write meets before its register is as in `s`: the core domain's clocks, every agent's rights, the staging copies. -/
structure KeepsRights (s t : State) : Prop where
  clocked : t.clocked = s.clocked
  may : ∀ a csr, t.may a csr = s.may a csr
  stage : t.csrStage = s.csrStage

theorem KeepsRights.refl (s : State) : KeepsRights s s := ⟨rfl, fun _ _ => rfl, rfl⟩

theorem KeepsRights.trans (h : KeepsRights s t) (k : KeepsRights t u) : KeepsRights s u :=
  ⟨k.clocked.trans h.clocked, fun a csr => (k.may a csr).trans (h.may a csr), k.stage.trans h.stage⟩

/-- What the clocks and the rights are read from: power, time, REFCLK, and the registers, of which SYSSTAT counts for SEAM alone and
FENCE_STAT for the control cores. -/
theorem keepsRights_of (hpf : t.pwr.pf = s.pwr.pf) (hsleep : t.pwr.asleep = s.pwr.asleep) (htime : t.time = s.time) (hclk : t.clk = s.clk)
    (hreg : ∀ b, b / 0x10000 ≠ 0x45 → b ≠ rSYSSTAT → b ≠ rFENCE_STAT → t.reg b = s.reg b)
    (hseam : t.flag fSYSSTAT_SEAM = s.flag fSYSSTAT_SEAM) (hcc : ∀ n, n < 4 → t.fenced n = s.fenced n)
    (hstage : t.csrStage = s.csrStage) : KeepsRights s t := by
  have hhold : t.flag fTAPSTAT_HOLD = s.flag fTAPSTAT_HOLD := by
    simp only [State.flag, State.fget, hreg fTAPSTAT_HOLD.reg (by decide) (by decide) (by decide)]
  have hlife : t.life = s.life := by
    simp only [State.life, State.fget, hreg fLCSSTAT_STATE.reg (by decide) (by decide) (by decide)]
  have hlow : t.lowestCc = s.lowestCc := by
    simp only [State.lowestCc, hcc 0 (by decide), hcc 1 (by decide), hcc 2 (by decide)]
  have howns : ∀ k p, t.owns k p = s.owns k p := fun k p => by
    cases p <;> simp only [State.owns, hlow, hcc 2 (by decide), hcc 3 (by decide)]
  refine ⟨by simp only [State.clocked, State.pfStopped, hpf, hsleep, htime, hclk, hhold], fun a csr => ?_, hstage⟩
  cases a with
  | cc k => simp only [State.may, State.planeDenied, hseam, howns]
  | port => simp only [State.may, State.portMay, State.debugOpen, hlife]

/-- A flag of SYSSTAT other than SEAM set, and the event of a fence. -/
theorem keepsRights_flagEvent (n : Nat) {f : Fld} (hr : f.reg = rSYSSTAT) (hlo : 1 ≤ f.lo) :
    KeepsRights s ((s.setFlag f true).fenceEvent n) := by
  have hother : ∀ b, b / 0x10000 ≠ 0x45 → b ≠ rSYSSTAT → ((s.setFlag f true).fenceEvent n).reg b = s.reg b := fun b hb hs =>
    (reg_fenceEvent n hb).trans (reg_setReg_ne _ (hr ▸ hs))
  refine keepsRights_of (by rw [pwr_fenceEvent]; rfl) (by rw [pwr_fenceEvent]; rfl) ?_ ?_ (fun b hb hs _ => hother b hb hs) ?_
    (fun m _ => ?_) ?_
  · rw [State.fenceEvent, (evrOnly_event _ _).1]; rfl
  · rw [State.fenceEvent, (evrOnly_event _ _).1]; rfl
  · rw [State.flag, State.fget, reg_fenceEvent n (by decide)]
    exact flag_setFlag_apart true hr.symm (.inl hlo)
  · rw [State.fenced, hother _ (by decide) (by decide), ← State.fenced]
  · rw [State.fenceEvent, (evrOnly_event _ _).1]; rfl

theorem keepsRights_fenceBit (s : State) (n : Nat) : KeepsRights s (s.fenceBit n) := by
  by_cases hf : s.fencing n = true
  · rw [fenceBit_fencing hf]; exact .refl s
  rw [Bool.not_eq_true] at hf
  by_cases hn : n = 11
  · subst hn
    by_cases hm : s.mode = modeBoot ∧ s.pwr.bootStep < 6
    · rw [fenceBit_dbBoot hf hm.1 hm.2]
      refine keepsRights_of rfl rfl rfl rfl (fun b _ _ hb => reg_setReg_ne _ hb) ?_ (fun m hm4 => ?_) rfl
      · rw [State.flag, State.fget, reg_setReg_ne _ (by decide)]; rfl
      · rw [State.fenced, reg_setReg_same, bit_setBits_ne _ _ (by omega), ← State.fenced]
    · rw [fenceBit_dbLate hf hm]; exact keepsRights_flagEvent _ rfl (by decide)
  · by_cases hl : s.lastKept n
    · rw [fenceBit_last hf hn hl]; exact keepsRights_flagEvent _ rfl (by decide)
    · rw [fenceBit_noted hf hn hl]; exact ⟨rfl, fun a _ => by cases a <;> rfl, rfl⟩

/-- A request neither reads nor writes the answer. -/
theorem fenceBit_say (s : State) (st : Status) (n : Nat) : (s.say st).fenceBit n = (s.fenceBit n).say st := by
  by_cases hf : s.fencing n = true
  · rw [fenceBit_fencing hf, fenceBit_fencing (s := s.say st) hf]
  rw [Bool.not_eq_true] at hf
  by_cases hn : n = 11
  · subst hn
    by_cases hm : s.mode = modeBoot ∧ s.pwr.bootStep < 6
    · rw [fenceBit_dbBoot hf hm.1 hm.2, fenceBit_dbBoot (s := s.say st) hf hm.1 hm.2]; rfl
    · rw [fenceBit_dbLate hf hm, fenceBit_dbLate (s := s.say st) hf hm, setFlag_say, State.fenceEvent, event_say, State.fenceEvent]
  · by_cases hl : s.lastKept n
    · rw [fenceBit_last hf hn hl, fenceBit_last (s := s.say st) hf hn hl, setFlag_say, State.fenceEvent, event_say, State.fenceEvent]
    · rw [fenceBit_noted hf hn hl, fenceBit_noted (s := s.say st) hf hn hl]; rfl

theorem foldl_fenceBit_keeps (l : List Nat) (s : State) : KeepsRights s (l.foldl State.fenceBit s) := by
  induction l generalizing s with
  | nil => exact .refl s
  | cons n l ih => exact (keepsRights_fenceBit s n).trans (ih _)

/-- A staging copy is forgotten once. -/
theorem dropStage_again {b : Nat} (h : t.csrStage = (s.dropStage b).csrStage) : t.dropStage b = t := by
  have hf : t.csrStage.filter (fun e => decide (e.1 ≠ b)) = t.csrStage := by rw [h, State.dropStage, List.filter_filter]; simp
  rw [State.dropStage, hf]

/-- A request for several units is one for all but the highest, and then one for the highest. -/
theorem exec_fenceRequest_append {a : Agent} (n : Fin 96) {u v w : BitVec 96} (h : s.writes a rFENCE_SET = true)
    (hu : u.toNat = 2 ^ n.val) (hv : v.toNat < 2 ^ n.val) (hw : w.toNat = v.toNat + 2 ^ n.val) :
    ∃ t, exec (.fenceRequest a v) s = .next t ∧ exec (.fenceRequest a w) s = exec (.fenceRequest a u) t := by
  refine ⟨_, exec_fenceRequest h v, ?_⟩
  have hr := foldl_fenceBit_keeps ((List.range 96).filter (bit v.toNat)) (s.dropStage rFENCE_SET)
  generalize ht : ((List.range 96).filter (bit v.toNat)).foldl State.fenceBit (s.dropStage rFENCE_SET) = t at hr
  have hwrites : (t.say .done).writes a rFENCE_SET = true := by
    have hsame : (t.say .done).writes a rFENCE_SET = t.writes a rFENCE_SET := by cases a <;> rfl
    have hdrop : (s.dropStage rFENCE_SET).writes a rFENCE_SET = s.writes a rFENCE_SET := by cases a <;> rfl
    rw [hsame, State.writes, hr.clocked, hr.may, ← State.writes, hdrop, h]
  have hdrop : (t.say .done).dropStage rFENCE_SET = t.say .done := dropStage_again hr.stage
  rw [exec_fenceRequest h, State.fenceSet, hw, filter_bit_add_two_pow hv n.isLt, List.foldl_append, ht, State.fenceSet, ht,
    exec_fenceRequest_one hwrites hu, hdrop, fenceBit_say]
  rfl

/-! ### A fence in effect -/

theorem exec_fenceTakeEffect (h : s.clocked = true) (n : Fin 96) :
    exec (.fenceTakeEffect n) s = .next (if bit s.pwr.fenceReq n.val ∧ s.fencePoint n.val then s.fenceNow n.val else s) := by
  simp only [exec, execFenceTakeEffect, live_of_clocked h]

/-- The bit of FENCE_STAT set and the request withdrawn, before the unit loses anything (R53). -/
def State.fenceMarked (s : State) (n : Nat) : State :=
  (s.setReg rFENCE_STAT (setBits (s.reg rFENCE_STAT) n 1 1)).setPwr { s.pwr with fenceReq := setBits s.pwr.fenceReq n 1 0 }

@[simp] theorem fenceMarked_stat (n : Nat) : (s.fenceMarked n).reg rFENCE_STAT = setBits (s.reg rFENCE_STAT) n 1 1 := reg_setReg_same ..
@[simp] theorem fenceMarked_pwr (n : Nat) : (s.fenceMarked n).pwr = { s.pwr with fenceReq := setBits s.pwr.fenceReq n 1 0 } := rfl
@[simp] theorem fenceMarked_mem (n : Nat) : (s.fenceMarked n).mem = s.mem := rfl
@[simp] theorem fenceMarked_lcs (n : Nat) : (s.fenceMarked n).lcs = s.lcs := rfl
@[simp] theorem fenceMarked_lock (n m : Nat) : (s.fenceMarked n).lock m = s.lock m := rfl

theorem fenceNow_cc {n : Nat} (h : n < 4) : s.fenceNow n =
    (((s.fenceMarked n).leaveLines n).breakLocks n).setCc n
      { (((s.fenceMarked n).leaveLines n).breakLocks n).cc n with run := .held } := by
  rw [State.fenceNow, if_pos h]
  rfl

theorem fenceNow_eth {n : Nat} (h : n = 14 ∨ n = 15) : s.fenceNow n = (s.fenceMarked n).enDown (n - 14) := by
  rw [State.fenceNow, if_neg (by omega), if_pos h]
  rfl

theorem fenceNow_duneb {n : Nat} (h : 16 ≤ n ∧ n < 20) : s.fenceNow n = (s.fenceMarked n).dlDown (n - 16) := by
  rw [State.fenceNow, if_neg (by omega), if_neg (by omega), if_pos h]
  rfl

theorem fenceNow_other {n : Nat} (h : 4 ≤ n) (he : ¬ (14 ≤ n ∧ n < 20)) : s.fenceNow n = s.fenceMarked n := by
  rw [State.fenceNow, if_neg (by omega), if_neg (by omega), if_neg (by omega)]
  rfl

theorem fencePoint_cc {n : Nat} (h : n < 4) : s.fencePoint n = true := by
  rw [State.fencePoint, if_neg (by omega), if_neg (by omega), if_neg (by omega), if_neg (by omega)]

/-! ### What the loss of a unit leaves -/

/-- The fences and their requests, memory and the ledger cores are as in `s`. -/
structure KeepsFences (s t : State) : Prop where
  stat : t.reg rFENCE_STAT = s.reg rFENCE_STAT
  pwr : t.pwr = s.pwr
  mem : t.mem = s.mem
  lcs : t.lcs = s.lcs

theorem KeepsFences.refl (s : State) : KeepsFences s s := ⟨rfl, rfl, rfl, rfl⟩

theorem KeepsFences.trans (h : KeepsFences s t) (k : KeepsFences t u) : KeepsFences s u :=
  ⟨k.stat.trans h.stat, k.pwr.trans h.pwr, k.mem.trans h.mem, k.lcs.trans h.lcs⟩

theorem keepsFences_fset {f : Fld} (v : Nat) (h : f.reg ≠ rFENCE_STAT) : KeepsFences s (s.fset f v) :=
  ⟨reg_setReg_ne _ h.symm, rfl, rfl, rfl⟩

theorem keepsFences_setFlag {f : Fld} (b : Bool) (h : f.reg ≠ rFENCE_STAT) : KeepsFences s (s.setFlag f b) := keepsFences_fset _ h

theorem keepsFences_bump {f : Fld} (n : Nat) (h : f.reg ≠ rFENCE_STAT) : KeepsFences s (s.bump f n) := keepsFences_fset _ h

theorem keepsFences_setLock (n : Nat) (v : LockCell) : KeepsFences s (s.setLock n v) := ⟨rfl, rfl, rfl, rfl⟩

theorem keepsFences_setCc (k : Nat) (c : CCore) : KeepsFences s (s.setCc k c) := ⟨rfl, rfl, rfl, rfl⟩

theorem keepsFences_setDun (d : DunSt) : KeepsFences s (s.setDun d) := ⟨rfl, rfl, rfl, rfl⟩

theorem keepsFences_setTwn (w : TwnSt) : KeepsFences s (s.setTwn w) := ⟨rfl, rfl, rfl, rfl⟩

theorem keepsFences_leaveLines (k : Nat) : KeepsFences s (s.leaveLines k) := by
  unfold State.leaveLines
  split <;> exact ⟨rfl, rfl, rfl, rfl⟩

theorem keepsFences_lockGrant (n : Nat) : KeepsFences s (s.lockGrant n) := by
  unfold State.lockGrant
  dsimp only
  split
  · exact .refl s
  · exact .refl s
  · split <;> exact ⟨rfl, rfl, rfl, rfl⟩

theorem keepsFences_breakCell (k n : Nat) : KeepsFences s (s.breakCell k n) := by
  unfold State.breakCell
  dsimp only
  split
  · exact ((keepsFences_setLock ..).trans (keepsFences_bump 1 (by decide))).trans (keepsFences_lockGrant n)
  · exact .refl s

theorem keepsFences_breakLocks (k : Nat) : KeepsFences s (s.breakLocks k) := by
  unfold State.breakLocks
  generalize List.range 256 = l
  induction l generalizing s with
  | nil => exact .refl s
  | cons n l ih => exact (keepsFences_breakCell k n).trans ih

theorem keepsFences_sesMove : KeepsFences s s.sesMove := by
  unfold State.sesMove
  dsimp only
  split
  · exact ⟨rfl, rfl, rfl, rfl⟩
  · exact .refl s

theorem keepsFences_enDown (k : Nat) : KeepsFences s (s.enDown k) := by
  have hr : rENSTAT k ≠ rFENCE_STAT := by unfold rENSTAT rFENCE_STAT; omega
  exact ((keepsFences_fset _ hr).trans (keepsFences_fset _ hr)).trans keepsFences_sesMove

/-- A link that is not up is left as it is. -/
theorem dlDown_of_down {k : Nat} (h : ¬ s.dlUp k = true) : s.dlDown k = s := by rw [State.dlDown, if_pos (by simpa using h)]

theorem setDun_setDl (k : Nat) (x : DlSt) (d : DunSt) : (s.setDl k x).setDun d = s.setDun d := rfl

theorem setTwn_twn_self (s : State) : s.setTwn s.twn = s := rfl

/-- A link that goes down: what the links hold, UP and LOCK, the count of DLDOWN, and the twin's note of it. -/
theorem dlDown_of_up {k : Nat} (h : s.dlUp k = true) : ∃ d w, s.dlDown k =
    ((((s.setDun d).setFlag (fDLSTAT_UP k) false).setFlag (fDLSTAT_LOCK k) false).bump (fDLDOWN_COUNT k) 1).setTwn w := by
  rw [State.dlDown, if_neg (by simp [h])]
  dsimp only
  generalize hx : State.setDun _ _ = x
  rw [setDun_setDl] at hx
  subst hx
  split
  · exact ⟨_, _, rfl⟩
  · exact ⟨_, _, (setTwn_twn_self _).symm⟩

theorem keepsFences_dlDown (k : Nat) : KeepsFences s (s.dlDown k) := by
  have hs : rDLSTAT k ≠ rFENCE_STAT := by unfold rDLSTAT rFENCE_STAT; omega
  have hd : rDLDOWN k ≠ rFENCE_STAT := by unfold rDLDOWN rFENCE_STAT; omega
  by_cases hup : s.dlUp k = true
  · obtain ⟨d, w, he⟩ := dlDown_of_up hup
    have hflags := ((keepsFences_setDun (s := s) d).trans (keepsFences_setFlag (f := fDLSTAT_UP k) false hs)).trans
      (keepsFences_setFlag (f := fDLSTAT_LOCK k) false hs)
    rw [he]
    exact (hflags.trans (keepsFences_bump (f := fDLDOWN_COUNT k) 1 hd)).trans (keepsFences_setTwn w)
  · rw [dlDown_of_down hup]; exact .refl s

theorem keepsFences_fenceNow (n : Nat) : KeepsFences (s.fenceMarked n) (s.fenceNow n) := by
  by_cases hcc : n < 4
  · rw [fenceNow_cc hcc]
    exact ((keepsFences_leaveLines n).trans (keepsFences_breakLocks n)).trans (keepsFences_setCc ..)
  by_cases heth : n = 14 ∨ n = 15
  · rw [fenceNow_eth heth]; exact keepsFences_enDown _
  by_cases hdl : 16 ≤ n ∧ n < 20
  · rw [fenceNow_duneb hdl]; exact keepsFences_dlDown _
  · rw [fenceNow_other (by omega) (by omega)]; exact .refl _

/-! ### A port, a link or the locks of a core lost -/

theorem link_enDown (k : Nat) : (s.enDown k).flag (fENSTAT_LINK k) = false := by
  have hses : ∀ t : State, t.sesMove.flag (fENSTAT_LINK k) = t.flag (fENSTAT_LINK k) := fun t => by
    unfold State.sesMove
    dsimp only
    split <;> rfl
  rw [State.enDown, hses, State.flag, fget_fset_apart (f := fENSTAT_SPEED k) (g := fENSTAT_LINK k) _ rfl (.inl (Nat.le_refl 1)),
    ← State.flag, flag_setFlag_same _ rfl]

theorem dlUp_dlDown (k : Nat) : (s.dlDown k).dlUp k = false := by
  have hd : rDLSTAT k ≠ rDLDOWN k := by unfold rDLSTAT rDLDOWN; omega
  by_cases hup : s.dlUp k = true
  · obtain ⟨d, w, he⟩ := dlDown_of_up hup
    rw [he, State.dlUp, setTwn_flag, bump_eq, State.flag, fget_fset_reg _ hd, ← State.flag,
      flag_setFlag_apart (f := fDLSTAT_LOCK k) (g := fDLSTAT_UP k) _ rfl (.inr (Nat.le_refl 1)), flag_setFlag_same _ rfl]
  · rw [dlDown_of_down hup]
    simpa using hup

theorem lock_setCc (k n : Nat) (c : CCore) : (s.setCc k c).lock n = s.lock n := rfl

theorem lock_lockGrant_ne {n m : Nat} (h : m ≠ n) : (s.lockGrant n).lock m = s.lock m := by
  unfold State.lockGrant
  dsimp only
  split
  · rfl
  · rfl
  · split
    · rw [lock_setCc, lock_setLock_ne _ h]
    · exact lock_setLock_ne _ h

theorem lock_breakCell_ne (k : Nat) {n m : Nat} (h : m ≠ n) : (s.breakCell k n).lock m = s.lock m := by
  unfold State.breakCell
  dsimp only
  split
  · rw [lock_lockGrant_ne h]
    exact lock_setLock_ne _ h
  · rfl

/-- A cell that core CCk holds and nobody waits for. -/
structure HeldAlone (s : State) (k m : Nat) : Prop where
  held : (s.lock m).st = .held
  owner : (s.lock m).owner = k
  waiters : (s.lock m).waiters = []

theorem lock_breakCell_broken {k m : Nat} (h : HeldAlone s k m) : ((s.breakCell k m).lock m).st = .broken := by
  rw [State.breakCell, if_pos ⟨h.held, h.owner⟩]
  have hl : ∀ t : State, (t.lock m).st = .broken → (t.lock m).waiters = [] → t.lockGrant m = t := fun t hst hw => by
    unfold State.lockGrant
    dsimp only
    rw [hst, hw]
  have hb : ((s.setLock m { s.lock m with st := .broken }).bump fLCKBRK_BRK 1).lock m = { s.lock m with st := .broken } :=
    lock_setLock_same ..
  rw [hl _ (by rw [hb]) (by rw [hb]; exact h.waiters), hb]

theorem lock_foldl_breakCell (k : Nat) {m : Nat} {l : List Nat} (h : m ∉ l) :
    (l.foldl (fun t n => t.breakCell k n) s).lock m = s.lock m := by
  induction l generalizing s with
  | nil => rfl
  | cons n l ih =>
    obtain ⟨hn, hl⟩ := not_or.mp (mt List.mem_cons.mpr h)
    exact (ih hl).trans (lock_breakCell_ne k hn)

theorem lock_breakLocks_broken {k m : Nat} (hm : m < 256) (h : HeldAlone s k m) : ((s.breakLocks k).lock m).st = .broken := by
  obtain ⟨d, hd⟩ := Nat.exists_eq_add_of_lt hm
  have hbefore : m ∉ List.range m := fun hi => Nat.lt_irrefl m (List.mem_range.mp hi)
  have hafter : m ∉ (List.range d).map (m + 1 + ·) := fun hi => by
    obtain ⟨i, -, hi⟩ := List.mem_map.mp hi
    omega
  have hsame := lock_foldl_breakCell (s := s) k hbefore
  rw [State.breakLocks, show 256 = m + 1 + d by omega, List.range_add, List.range_succ, List.foldl_append, List.foldl_append,
    lock_foldl_breakCell k hafter]
  exact lock_breakCell_broken ⟨hsame ▸ h.held, hsame ▸ h.owner, hsame ▸ h.waiters⟩

theorem heldAlone_leaveLines {k m : Nat} (j : Nat) (h : HeldAlone s k m) : HeldAlone (s.leaveLines j) k m := by
  unfold State.leaveLines
  split
  · exact ⟨h.held, h.owner, h.waiters⟩
  · next n _ _ =>
    by_cases hn : m = n
    · subst hn
      constructor <;> rw [lock_setLock_same]
      · exact h.held
      · exact h.owner
      · simp only [h.waiters, List.filter_nil]
    · constructor <;> rw [lock_setLock_ne _ hn]
      · exact h.held
      · exact h.owner
      · exact h.waiters
  · exact h

/-! ### The statement -/

theorem exec_fenceTakeEffect_now {n : Fin 96} (h : s.clocked = true) (hr : bit s.pwr.fenceReq n.val = true)
    (hp : s.fencePoint n.val = true) : exec (.fenceTakeEffect n) s = .next (s.fenceNow n.val) := by
  rw [exec_fenceTakeEffect h, if_pos ⟨hr, hp⟩]

theorem exec_fenceTakeEffect_idle {n : Fin 96} (h : s.clocked = true)
    (hi : bit s.pwr.fenceReq n.val = false ∨ s.fencePoint n.val = false) :
    exec (.fenceTakeEffect n) s = .next s := by
  rw [exec_fenceTakeEffect h, if_neg]
  rintro ⟨hr, hp⟩
  rcases hi with hi | hi
  · exact absurd (hr.symm.trans hi) (by decide)
  · exact absurd (hp.symm.trans hi) (by decide)

theorem not_lastKept {n : Nat} (h : ((s.keepOne n).isEmpty || !((s.keepOne n).all fun m => decide (m = n) || s.fencing m)) = true) :
    ¬ s.lastKept n := fun hl => by
  rw [hl.1, hl.2] at h
  exact absurd h (by decide)

/-- What a fence with its mark leaves of FENCE_STAT, the power state, memory and the ledger cores (R53). -/
theorem fenceNow_kept (n : Nat) : (s.fenceNow n).reg rFENCE_STAT = setBits (s.reg rFENCE_STAT) n 1 1 ∧
    (s.fenceNow n).pwr = { s.pwr with fenceReq := setBits s.pwr.fenceReq n 1 0 } ∧ (s.fenceNow n).mem = s.mem ∧
    (s.fenceNow n).lcs = s.lcs := by
  obtain ⟨hstat, hpwr, hmem, hlcs⟩ := keepsFences_fenceNow (s := s) n
  exact ⟨by rw [hstat, fenceMarked_stat], by rw [hpwr, fenceMarked_pwr], by rw [hmem, fenceMarked_mem], by rw [hlcs, fenceMarked_lcs]⟩

/-- A fenced control core is held, and the locks that it held become broken (R53, R138). -/
theorem fenceNow_core {n : Nat} (h : n < 4) : ((s.fenceNow n).cc n).run = .held ∧
    ∀ m, m < 256 → HeldAlone s n m → ((s.fenceNow n).lock m).st = .broken := by
  rw [fenceNow_cc h]
  refine ⟨by rw [cc_setCc_same], fun m hm hl => ?_⟩
  have hmarked : HeldAlone (s.fenceMarked n) n m := ⟨fenceMarked_lock n m ▸ hl.held, fenceMarked_lock n m ▸ hl.owner,
    fenceMarked_lock n m ▸ hl.waiters⟩
  rw [lock_setCc]
  exact lock_breakLocks_broken hm (heldAlone_leaveLines n hmarked)

/-- A request that only sets a flag of SYSSTAT and posts its event leaves the requests and FENCE_STAT. -/
theorem fenceFlag_leaves {f : Fld} (n : Nat) (hr : f.reg = rSYSSTAT) (hw : f.w = 1) :
    (((s.setFlag f true).fenceEvent n).say .done).flag f = true ∧ (((s.setFlag f true).fenceEvent n).say .done).pwr = s.pwr ∧
      (((s.setFlag f true).fenceEvent n).say .done).reg rFENCE_STAT = s.reg rFENCE_STAT := by
  refine ⟨?_, ?_, ?_⟩
  · rw [State.flag, fget_say, State.fget, reg_fenceEvent _ (hr ▸ by decide)]
    exact flag_setFlag_same true hw
  · rw [say_pwr, pwr_fenceEvent, setFlag_pwr]
  · exact (reg_fenceEvent _ (by decide)).trans (reg_setReg_ne _ (hr ▸ by decide))

/-- Settles O24: a request is a fold of `fenceBit` over the units asked for, and a fence in effect is `fenceMarked` followed by what the
unit loses, which touches neither the fences nor the power state. -/
theorem fences : Obligations.Fences := by
  refine ⟨fun a n v s h hv hf hn hk => ?noted, fun a n v s h hv hf hn he hl => ?last, fun n s hc hr hp hn => ?unit,
    fun n s hc hr hn => ?core, fun n s hc hr hp => ?effect, fun n s hc hi => exec_fenceTakeEffect_idle hc hi,
    fun a v s h hv hf hm hb => ?dbBoot, fun a v s h hv hf hm => ?dbLate, fun a n v s h hv hf => ?again,
    fun a n u v w s h hu hv hw => exec_fenceRequest_append n h hu hv hw⟩
  case noted =>
    have hn' : n.val ≠ 11 := fun he => hn (Fin.ext he)
    rw [exec_fenceRequest_one h hv, fenceBit_noted (s := s.dropStage rFENCE_SET) hf hn' (not_lastKept (s := s.dropStage rFENCE_SET) hk)]
    rfl
  case last =>
    have hn' : n.val ≠ 11 := fun hx => hn (Fin.ext hx)
    refine ⟨_, exec_fenceRequest_one h hv, ?_⟩
    rw [fenceBit_last (s := s.dropStage rFENCE_SET) hf hn' ⟨he, hl⟩]
    obtain ⟨hflag, hpwr, hstat⟩ := fenceFlag_leaves (s := s.dropStage rFENCE_SET) (f := fSYSSTAT_FENCE_REFUSED) n.val rfl rfl
    exact ⟨hflag, congrArg PwrSt.fenceReq hpwr, hstat⟩
  case unit => rw [exec_fenceTakeEffect_now hc hr hp, fenceNow_other (by omega) (by omega)]; rfl
  case core =>
    obtain ⟨hstat, hpwr, -, -⟩ := fenceNow_kept (s := s) n.val
    obtain ⟨hheld, hlocks⟩ := fenceNow_core (s := s) hn
    refine ⟨_, exec_fenceTakeEffect_now hc hr (fencePoint_cc hn), ?_, ?_, hheld, fun m hm hs ho hw => hlocks m hm ⟨hs, ho, hw⟩⟩
    · rw [State.fenced, hstat, bit_setBits_same]; rfl
    · rw [hpwr, bit_setBits_same]; rfl
  case effect =>
    obtain ⟨hstat, hpwr, hmem, hlcs⟩ := fenceNow_kept (s := s) n.val
    refine ⟨_, exec_fenceTakeEffect_now hc hr hp, hstat, hpwr, hmem, hlcs, ?_, ?_, fun hlo hhi => ?_⟩
    · rintro rfl
      exact (fenceNow_eth (s := s) (.inl rfl) : s.fenceNow 14 = _) ▸ link_enDown 0
    · rintro rfl
      exact (fenceNow_eth (s := s) (.inr rfl) : s.fenceNow 15 = _) ▸ link_enDown 1
    · rw [fenceNow_duneb ⟨hlo, hhi⟩]
      exact dlUp_dlDown _
  case dbBoot =>
    rw [exec_fenceRequest_one (n := 11) h hv]
    exact congrArg (fun t => Host.Outcome.next (State.say t .done)) (fenceBit_dbBoot (s := s.dropStage rFENCE_SET) hf hm hb)
  case dbLate =>
    have hlate : ¬ ((s.dropStage rFENCE_SET).mode = modeBoot ∧ (s.dropStage rFENCE_SET).pwr.bootStep < 6) := fun hb =>
      hm.elim (fun hx => hx hb.1) (fun hx => Nat.not_lt.mpr hx hb.2)
    refine ⟨_, exec_fenceRequest_one (n := 11) h hv, ?_⟩
    rw [show ((11 : Fin 96) : Nat) = 11 from rfl, fenceBit_dbLate (s := s.dropStage rFENCE_SET) hf hlate]
    exact fenceFlag_leaves (s := s.dropStage rFENCE_SET) 11 rfl rfl
  case again => rw [exec_fenceRequest_one h hv, fenceBit_fencing (s := s.dropStage rFENCE_SET) hf]

end Sys2Proof.Machine
end

section
/-! PROOFS. Stores of the control cores: the branches of `ccStore`, what the fetch and a store at a place leave of memory and of the
cores, and from these what a store of each width leaves (R49, R97, R98, R100, R112, R150, R161). -/

namespace Sys2Proof.Machine

variable {s b t : State} {k : Fin 4} {w : Width} {rd a : RegNo} {i : BitVec 12} {p : Place}

/-! ### The branches of a store -/

theorem exec_stb (h : s.goes (.cc k) 1 = true) : exec (.stb k rd a i) s = .next ((s.begun (.cc k) 1).ccStore k.val .byteS rd a i) :=
  issueC_goes h _

theorem exec_sth (h : s.goes (.cc k) 1 = true) : exec (.sth k rd a i) s = .next ((s.begun (.cc k) 1).ccStore k.val .halfS rd a i) :=
  issueC_goes h _

theorem exec_stw (h : s.goes (.cc k) 1 = true) : exec (.stw k rd a i) s = .next ((s.begun (.cc k) 1).ccStore k.val .word rd a i) :=
  issueC_goes h _

theorem exec_std (h : s.goes (.cc k) 1 = true) : exec (.std k rd a i) s = .next ((s.begun (.cc k) 1).ccStore k.val .dword rd a i) :=
  issueC_goes h _

/-- What of a store has passed before its address is checked: the pair rule and the base register (R150, R156). -/
structure BaseReady (b : State) (k : Fin 4) (w : Width) (rd a : RegNo) : Prop where
  pair : w.regOk rd = true
  base : b.gp (.cc k) a = false

theorem ccStore_badPair (h : w.regOk rd = false) : b.ccStore k.val w rd a i = b.ccRefuse k.val .badRegister := by
  rw [State.ccStore, if_pos (by simp [h])]

theorem ccStore_poisonedBase (hr : w.regOk rd = true) (h : b.gp (.cc k) a = true) :
    b.ccStore k.val w rd a i = b.ccRefuse k.val .poisoned := by
  rw [State.ccStore, if_neg (by simp [hr])]
  exact if_pos h

theorem ccStore_ready (h : BaseReady b k w rd a) : b.ccStore k.val w rd a i =
    match b.access k.val .store (effAddr (b.gv (.cc k) a) i) w.bytes with
    | .error st => b.ccRefuse k.val st
    | .ok p =>
      if b.region p.pa w.bytes = some .csr then b.ccCsrStore k.val (p.pa - csrBase) ((b.cpu (.cc k)).g rd.toNat)
      else (b.storeAt k.val p ((b.cpu (.cc k)).stored w rd).1 ((b.cpu (.cc k)).stored w rd).2).ccDo k.val fun u =>
        u.storeEnd ((b.cpu (.cc k)).stored w rd).2 := by
  have hb : ¬ ((b.cc k.val).cpu.g a.toNat).poison = true := by rw [Bool.not_eq_true]; exact h.base
  rw [State.ccStore, if_neg (by simp [h.pair])]
  exact if_neg hb

theorem ccStore_denied (h : BaseReady b k w rd a) {x : Status}
    (ha : b.access k.val .store (effAddr (b.gv (.cc k) a) i) w.bytes = .error x) : b.ccStore k.val w rd a i = b.ccRefuse k.val x := by
  rw [ccStore_ready h, ha]

theorem ccStore_csr (h : BaseReady b k w rd a) (ha : b.access k.val .store (effAddr (b.gv (.cc k) a) i) w.bytes = .ok p)
    (hc : b.region p.pa w.bytes = some .csr) :
    b.ccStore k.val w rd a i = b.ccCsrStore k.val (p.pa - csrBase) ((b.cpu (.cc k)).g rd.toNat) := by
  rw [ccStore_ready h, ha]
  exact if_pos hc

theorem ccStore_memory (h : BaseReady b k w rd a) (ha : b.access k.val .store (effAddr (b.gv (.cc k) a) i) w.bytes = .ok p)
    (hc : b.region p.pa w.bytes ≠ some .csr) : b.ccStore k.val w rd a i =
      (b.storeAt k.val p ((b.cpu (.cc k)).stored w rd).1 ((b.cpu (.cc k)).stored w rd).2).onCpu (.cc k) fun u =>
        u.storeEnd ((b.cpu (.cc k)).stored w rd).2 := by
  rw [ccStore_ready h, ha]
  exact if_neg hc

/-! ### What the fetch leaves -/

theorem gp_begun (c : CoreId) (r : RegNo) : (s.begun c 1).gp c r = s.gp c r := by rw [State.gp, cpu_begun, ← State.gp]
theorem gv_begun (c : CoreId) (r : RegNo) : (s.begun c 1).gv c r = s.gv c r := by rw [State.gv, cpu_begun, ← State.gv]

theorem poison_correct (x n : Nat) : (s.correct x n).poison = s.poison := by
  unfold State.correct
  dsimp only
  split <;> rfl

theorem poison_touch (x n : Nat) : (s.touch x n).poison = s.poison := by
  have hc : ∀ t : State, (t.countPoison x n).poison = t.poison := fun t => by
    unfold State.countPoison
    split
    · split
      · rfl
      · split <;> rfl
    · rfl
  rw [State.touch, hc, poison_correct]

/-- A fetch changes no byte of memory and no poison mark. -/
theorem fetchRead_memory (n : Nat) (p : Place) : (s.fetchRead n p).mem = s.mem ∧ (s.fetchRead n p).poison = s.poison := by
  unfold State.fetchRead
  dsimp only
  by_cases h1 : p.cache = 0
  · rw [if_pos h1]; exact ⟨touch_mem .., poison_touch ..⟩
  by_cases h2 : (s.cc n).icache.contains (p.pa / 64) = true
  · rw [if_neg h1, if_pos h2]; exact ⟨rfl, rfl⟩
  by_cases h3 : s.poisonedIn (lineBase p.pa) 64 = true
  · rw [if_neg h1, if_neg h2, if_pos h3]; exact ⟨touch_mem .., poison_touch ..⟩
  · rw [if_neg h1, if_neg h2, if_neg h3]; exact ⟨touch_mem .., poison_touch ..⟩

theorem begun_memory (k : Fin 4) : (s.begun (.cc k) 1).mem = s.mem ∧ (s.begun (.cc k) 1).poison = s.poison := by
  rw [begun_cc]
  cases s.fetchPlace k.val with
  | none => exact ⟨rfl, rfl⟩
  | some p => exact fetchRead_memory ..

/-! ### What a store at a place leaves -/

theorem ccs_cleanLine (l : Nat) : (s.cleanLine l).ccs = s.ccs := by
  unfold State.cleanLine
  split
  · rfl
  · split <;> rfl

theorem ccs_fillLine (n l : Nat) : (s.fillLine n l).ccs = s.ccs := by
  unfold State.fillLine
  split
  · exact touch_ccs ..
  · split
    · rfl
    · exact ccs_cleanLine l

/-- The correction of the granules written in part changes no core, no byte and no poison mark. -/
theorem correctEdges_frame (x n : Nat) :
    (s.correctEdges x n).ccs = s.ccs ∧ (s.correctEdges x n).mem = s.mem ∧ (s.correctEdges x n).poison = s.poison := by
  unfold State.correctEdges
  generalize s.soft.filter (fun g => touches x n g && !covers x n g) = l
  induction l generalizing s with
  | nil => exact ⟨rfl, rfl, rfl⟩
  | cons g l ih =>
    obtain ⟨hcc, hmem, hp⟩ := ih (s := s.correct (8 * g) 8)
    obtain ⟨gcc, -, gmem⟩ := correct_frame (s := s) (8 * g) 8
    exact ⟨hcc.trans gcc, hmem.trans gmem, hp.trans (poison_correct _ _)⟩

theorem ccs_writeP (x : Nat) (bs : List Byte) (bad : Bool) : (s.writeP x bs bad).ccs = s.ccs := rfl
theorem ccs_setLine (l : Nat) (c : CLine) : (s.setLine l c).ccs = s.ccs := rfl
theorem ccs_dropLine (l : Nat) : (s.dropLine l).ccs = s.ccs := rfl

/-- A store leaves the control cores. -/
theorem ccs_storeAt (n : Nat) (p : Place) (bs : List Byte) (bad : Bool) : (s.storeAt n p bs bad).ccs = s.ccs := by
  have hw : ∀ t : State, ((t.correctEdges p.pa bs.length).writeP p.pa bs bad).ccs = t.ccs := fun t => by
    rw [ccs_writeP, (correctEdges_frame ..).1]
  unfold State.storeAt
  dsimp only
  by_cases h0 : p.cache = 0
  · rw [if_pos h0, hw]
  by_cases h1 : p.cache = 1
  · rw [if_neg h0, if_pos h1]
    split
    · split
      · rw [ccs_setLine, hw, ccs_cleanLine]
      · rw [ccs_dropLine, hw, ccs_cleanLine]
    · rw [hw, ccs_cleanLine]
  · rw [if_neg h0, if_neg h1, ccs_setLine, ccs_fillLine]

theorem cpu_storeAt (n : Nat) (p : Place) (bs : List Byte) (bad : Bool) (k : Fin 4) :
    (s.storeAt n p bs bad).cpu (.cc k) = s.cpu (.cc k) := by
  rw [State.cpu, State.cc, ccs_storeAt]
  rfl

/-! ### Bytes and poison marks after a write -/

theorem length_leBytes (n v : Nat) : (leBytes n v).length = n := by
  induction n generalizing v with
  | zero => rfl
  | succ n ih => rw [leBytes, List.length_cons, ih]

theorem getBytes_putBytes (m : Store Byte) (x : Nat) (bs : List Byte) : getBytes (putBytes m x bs) x bs.length = bs := by
  induction bs generalizing m x with
  | nil => rfl
  | cons c bs ih =>
    have hx : (putBytes (m.put memDefault x c) (x + 1) bs).get memDefault x = c := by
      rw [get_putBytes, if_neg (by omega), Store.get_put_same]
    rw [putBytes, List.length_cons, getBytes, ih, hx]

theorem mem_setIns (g n : Nat) (l : List Nat) : g ∈ setIns n l ↔ g = n ∨ g ∈ l := by
  induction l with
  | nil => simp [setIns]
  | cons j l ih =>
    unfold setIns
    split
    · simp
    · split
      · next hj => subst hj; simp
      · simp only [List.mem_cons, ih]
        exact or_left_comm

theorem mem_foldl_setIns (g : Nat) (l q : List Nat) : g ∈ q.foldl (fun l g => setIns g l) l ↔ g ∈ q ∨ g ∈ l := by
  induction q generalizing l with
  | nil => simp
  | cons n q ih =>
    rw [List.foldl_cons, ih, mem_setIns, List.mem_cons, or_assoc]
    exact or_left_comm

theorem touches_of_mem_granules {x n g : Nat} (h : g ∈ granules x n) : touches x n g = true := by
  obtain ⟨j, hj, rfl⟩ := List.mem_map.mp h
  rw [List.mem_range] at hj
  simp only [touches, Bool.and_eq_true, decide_eq_true_eq]
  omega

theorem touches_of_covers {x n g : Nat} (h : covers x n g = true) : touches x n g = true := by
  simp only [covers, touches, Bool.and_eq_true, decide_eq_true_eq] at h ⊢
  omega

/-- A write leaves the mark of a granule that it does not touch. -/
theorem mem_poisonAfter {x n g : Nat} (q : List Nat) (bad : Bool) (h : touches x n g = false) :
    g ∈ poisonAfter q x n bad ↔ g ∈ q := by
  have hc : covers x n g = false := Bool.eq_false_iff.mpr fun hc => by simp [touches_of_covers hc] at h
  have hg : g ∉ granules x n := fun hg => by simp [touches_of_mem_granules hg] at h
  have hkept : g ∈ q.filter (fun g => !covers x n g) ↔ g ∈ q := by simp [hc]
  cases bad with
  | false => exact hkept
  | true =>
    refine (mem_foldl_setIns ..).trans ?_
    rw [hkept]
    exact or_iff_right hg

/-- `t` is `s` but for bytes written at `x`: they are there, the others are as in `s`, and so are the marks of the granules not touched. -/
structure WroteAt (s t : State) (x : Nat) (bs : List Byte) : Prop where
  bytes : t.bytes x bs.length = bs
  others : ∀ y, y < x ∨ x + bs.length ≤ y → t.byte y = s.byte y
  marks : ∀ g, touches x bs.length g = false → (g ∈ t.poison ↔ g ∈ s.poison)

/-- An uncached store writes its bytes to memory (R49, R112). -/
theorem wroteAt_storeAt (h : p.cache = 0) (n : Nat) (bs : List Byte) (bad : Bool) : WroteAt b (b.storeAt n p bs bad) p.pa bs := by
  obtain ⟨-, hmem, hpoison⟩ := correctEdges_frame (s := b) p.pa bs.length
  have he : b.storeAt n p bs bad = (b.correctEdges p.pa bs.length).writeP p.pa bs bad := if_pos h
  have hm : (b.storeAt n p bs bad).mem = putBytes b.mem p.pa bs := by rw [he, State.writeP, hmem]
  have hp : (b.storeAt n p bs bad).poison = poisonAfter b.poison p.pa bs.length bad := by rw [he, State.writeP, hpoison]
  refine ⟨?_, fun y hy => ?_, fun g hg => ?_⟩
  · rw [State.bytes, hm, getBytes_putBytes]
  · rw [State.byte, hm, get_putBytes, if_neg (by omega), State.byte]
  · rw [hp, mem_poisonAfter _ _ hg]

theorem WroteAt.of_memory {x : Nat} {bs : List Byte} {s' t' : State} (h : WroteAt s t x bs) (hs : s'.mem = s.mem ∧ s'.poison = s.poison)
    (ht : t'.mem = t.mem ∧ t'.poison = t.poison) : WroteAt s' t' x bs := by
  obtain ⟨hb, ho, hm⟩ := h
  refine ⟨?_, fun y hy => ?_, fun g hg => ?_⟩
  · rw [State.bytes, ht.1, ← State.bytes, hb]
  · rw [State.byte, ht.1, ← State.byte, ho y hy, State.byte, State.byte, hs.1]
  · rw [ht.2, hm g hg, hs.2]

/-! ### What a store of a control core leaves -/

theorem onCpu_cc_memory (k : Fin 4) (f : Cpu → Cpu) : (s.onCpu (.cc k) f).mem = s.mem ∧ (s.onCpu (.cc k) f).poison = s.poison :=
  ⟨rfl, rfl⟩

/-- A refusable instruction that is refused, from a state that has its other effects. -/
theorem refusedFrom_of {c : CoreId} {st : Status} {bad : Bool} {f : Cpu → Cpu} (hb : b.cpu c = s.cpu c)
    (hf : f (s.cpu c) = ((s.cpu c).ps bad).finish (.refuse st)) : s.refusedFrom b c st bad (b.onCpu c f) := by
  have hc : (b.onCpu c f).cpu c = f (s.cpu c) := by rw [setCpu_cpu_onCpu, hb]
  refine ⟨onCpu_eq .., fun r => ?_, ?_, ?_⟩
  · rw [hc, hf, finish_g, ps_g]
  · rw [hc, hf, finish_pc, ps_pc]
  · rw [hc, hf, finish_fl, ended_fl_refuse, ps_fl]

theorem cpu_violation (st : Status) (c : CoreId) : (s.violation st).cpu c = s.cpu c := by
  unfold State.violation
  split
  · cases c <;> rfl
  · rfl

theorem refusedFrom_ccRefuse (x : Status) : s.refusedFrom ((s.begun (.cc k) 1).violation x) (.cc k) x (decide (x = .poisoned))
    ((s.begun (.cc k) 1).ccRefuse k.val x) := by
  rw [State.ccRefuse, ccDo_eq]
  exact refusedFrom_of (by rw [cpu_violation, cpu_begun]) rfl

theorem refusedWith_ccRefuse {x : Status} (h : x ≠ .planeDenied) : s.refusedWith (.cc k) 1 x ((s.begun (.cc k) 1).ccRefuse k.val x) := by
  have hv : (s.begun (.cc k) 1).violation x = s.begun (.cc k) 1 := if_neg h
  rw [State.ccRefuse, hv]
  exact refusedWith_of ..

theorem baseReady_begun (hr : w.regOk rd = true) (hp : s.gp (.cc k) a = false) : BaseReady (s.begun (.cc k) 1) k w rd a :=
  ⟨hr, by rw [gp_begun, hp]⟩

/-- A store whose address passes the checks and that goes to memory. -/
structure StoreGoes (s : State) (k : Fin 4) (w : Width) (rd a : RegNo) (i : BitVec 12) (p : Place) : Prop where
  pair : w.regOk rd = true
  base : s.gp (.cc k) a = false
  place : (s.begun (.cc k) 1).access k.val .store (effAddr (s.gv (.cc k) a) i) w.bytes = .ok p
  memory : (s.begun (.cc k) 1).region p.pa w.bytes ≠ some .csr

theorem ccStore_goes (h : StoreGoes s k w rd a i p) : (s.begun (.cc k) 1).ccStore k.val w rd a i =
    ((s.begun (.cc k) 1).storeAt k.val p ((s.cpu (.cc k)).stored w rd).1 ((s.cpu (.cc k)).stored w rd).2).onCpu (.cc k) fun u =>
      u.storeEnd ((s.cpu (.cc k)).stored w rd).2 := by
  rw [ccStore_memory (baseReady_begun h.pair h.base) (by rw [gv_begun]; exact h.place) h.memory, cpu_begun]

theorem storedFrom_ccStore (h : StoreGoes s k w rd a i p) :
    s.storedFrom ((s.begun (.cc k) 1).storeAt k.val p ((s.cpu (.cc k)).stored w rd).1 ((s.cpu (.cc k)).stored w rd).2) (.cc k)
      ((s.cpu (.cc k)).stored w rd).2 ((s.begun (.cc k) 1).ccStore k.val w rd a i) := by
  rw [ccStore_goes h]
  exact storedFrom_of (by rw [cpu_storeAt, cpu_begun]) rfl

theorem wroteAt_ccStore (h : StoreGoes s k w rd a i p) (hp : p.cache = 0) :
    WroteAt s ((s.begun (.cc k) 1).ccStore k.val w rd a i) p.pa ((s.cpu (.cc k)).stored w rd).1 := by
  rw [ccStore_goes h]
  obtain ⟨hm, hpo⟩ := begun_memory (s := s) k
  exact (wroteAt_storeAt hp ..).of_memory ⟨hm.symm, hpo.symm⟩ (onCpu_cc_memory ..)

theorem refused_ccStore_pair (h : w.regOk rd = false) :
    s.refusedWith (.cc k) 1 .badRegister ((s.begun (.cc k) 1).ccStore k.val w rd a i) := by
  rw [ccStore_badPair h]
  exact refusedWith_ccRefuse (by decide)

theorem refused_ccStore_base (hr : w.regOk rd = true) (h : s.gp (.cc k) a = true) :
    s.refusedWith (.cc k) 1 .poisoned ((s.begun (.cc k) 1).ccStore k.val w rd a i) := by
  rw [ccStore_poisonedBase hr (by rw [gp_begun, h])]
  exact refusedWith_ccRefuse (by decide)

theorem refused_ccStore_access {x : Status} (hr : w.regOk rd = true) (hb : s.gp (.cc k) a = false)
    (h : (s.begun (.cc k) 1).access k.val .store (effAddr (s.gv (.cc k) a) i) w.bytes = .error x) :
    s.refusedFrom ((s.begun (.cc k) 1).violation x) (.cc k) x (decide (x = .poisoned)) ((s.begun (.cc k) 1).ccStore k.val w rd a i) := by
  rw [ccStore_denied (baseReady_begun hr hb) (by rw [gv_begun]; exact h)]
  exact refusedFrom_ccRefuse x

/-! ### A store through a window onto CSR space -/

/-- A word store whose address passes the checks and lies in CSR space. -/
structure StoreCsr (s : State) (k : Fin 4) (a : RegNo) (i : BitVec 12) (p : Place) : Prop where
  base : s.gp (.cc k) a = false
  place : (s.begun (.cc k) 1).access k.val .store (effAddr (s.gv (.cc k) a) i) 4 = .ok p
  csr : (s.begun (.cc k) 1).region p.pa 4 = some .csr

theorem ccCsrStore_eq (csr : Nat) (v : GReg) : b.ccCsrStore k.val csr v =
    (b.csrWord (.cc k) csr v.val).ccAfter k.val (b.cc k.val) fun u =>
      if (b.csrWord (.cc k) csr v.val).answer.status = .done then u.storeEnd v.poison
      else u.answered (b.csrWord (.cc k) csr v.val).answer.status := by
  have hk : Fin.ofNat 4 k.val = k := Fin.ext (Nat.mod_eq_of_lt k.isLt)
  rw [State.ccCsrStore, hk]

theorem ccStore_word_csr (h : StoreCsr s k a i p) (rd : RegNo) : (s.begun (.cc k) 1).ccStore k.val .word rd a i =
    ((s.begun (.cc k) 1).csrWord (.cc k) (p.pa - csrBase) (s.gv (.cc k) rd)).ccAfter k.val ((s.begun (.cc k) 1).cc k.val) fun u =>
      if ((s.begun (.cc k) 1).csrWord (.cc k) (p.pa - csrBase) (s.gv (.cc k) rd)).answer.status = .done then u.storeEnd (s.gp (.cc k) rd)
      else u.answered ((s.begun (.cc k) 1).csrWord (.cc k) (p.pa - csrBase) (s.gv (.cc k) rd)).answer.status := by
  rw [ccStore_csr (w := .word) (baseReady_begun rfl h.base) (by rw [gv_begun]; exact h.place) h.csr, ccCsrStore_eq, cpu_begun,
    ← State.gv, ← State.gp]

theorem ccAfter_kept {old : CCore} {f : Cpu → Cpu} (h : t.cc k.val = old) : t.ccAfter k.val old f = t.onCpu (.cc k) f := if_pos h

theorem ccAfter_reset {n : Nat} {old : CCore} {f : Cpu → Cpu} (h : t.cc n ≠ old) : t.ccAfter n old f = t := if_neg h

theorem cpu_of_cc (h : t.cc k.val = (s.begun (.cc k) 1).cc k.val) : t.cpu (.cc k) = s.cpu (.cc k) :=
  (congrArg CCore.cpu h).trans (cpu_begun (.cc k) (.cc k) 1)

/-- The register's word is written and the core keeps what it was: the instruction ends with DONE. -/
theorem storedFrom_ccStore_csr (h : StoreCsr s k a i p) (ht : (s.begun (.cc k) 1).csrWord (.cc k) (p.pa - csrBase) (s.gv (.cc k) rd) = t)
    (hcc : t.cc k.val = (s.begun (.cc k) 1).cc k.val) (hd : t.answer.status = .done) :
    s.storedFrom t (.cc k) (s.gp (.cc k) rd) ((s.begun (.cc k) 1).ccStore k.val .word rd a i) := by
  rw [ccStore_word_csr h, ht, ccAfter_kept hcc]
  exact storedFrom_of (cpu_of_cc hcc) (if_pos hd)

/-- The write answers another status: the instruction is refused with it. -/
theorem refusedFrom_ccStore_csr {x : Status} (h : StoreCsr s k a i p)
    (ht : (s.begun (.cc k) 1).csrWord (.cc k) (p.pa - csrBase) (s.gv (.cc k) rd) = t)
    (hcc : t.cc k.val = (s.begun (.cc k) 1).cc k.val) (hx : x = t.answer.status) (hd : x ≠ .done) :
    s.refusedFrom t (.cc k) x false ((s.begun (.cc k) 1).ccStore k.val .word rd a i) := by
  subst hx
  rw [ccStore_word_csr h, ht, ccAfter_kept hcc]
  exact refusedFrom_of (cpu_of_cc hcc) (if_neg hd)

/-- The write resets the core: nothing of the instruction is left. -/
theorem ccStore_csr_reset (h : StoreCsr s k a i p) (ht : (s.begun (.cc k) 1).csrWord (.cc k) (p.pa - csrBase) (s.gv (.cc k) rd) = t)
    (hcc : t.cc k.val ≠ (s.begun (.cc k) 1).cc k.val) : (s.begun (.cc k) 1).ccStore k.val .word rd a i = t := by
  rw [ccStore_word_csr h, ht, ccAfter_reset hcc]

theorem bytes_of_wroteAt {n v : Nat} (h : WroteAt s t p.pa (leBytes n v)) :
    t.bytes p.pa n = leBytes n v ∧ (∀ x, x < p.pa ∨ p.pa + n ≤ x → t.byte x = s.byte x) ∧
      ∀ g, touches p.pa n g = false → (g ∈ t.poison ↔ g ∈ s.poison) := by
  obtain ⟨hb, ho, hm⟩ := h
  rw [length_leBytes] at hb ho hm
  exact ⟨hb, ho, hm⟩

/-- Settles O7: one lemma for each branch of `ccStore`, of any width, is read at each of the four widths. -/
theorem controlStores : Obligations.ControlStores := by
  refine ⟨?stb, ?sth, ?stw, ?std, ?stbBytes, ?sthBytes, ?stwBytes, ?stdBytes, ?stdPair, ?stbBase, ?stbAccess, ?sthBase, ?sthAccess,
    ?stwBase, ?stwAccess, ?stdBase, ?stdAccess, ?csrDone, ?csrRefused, ?csrReset⟩
  case stb => exact fun k rd a i s p hg hb ha hc => ⟨_, exec_stb hg, storedFrom_ccStore (w := .byteS) ⟨rfl, hb, ha, hc⟩⟩
  case sth => exact fun k rd a i s p hg hb ha hc => ⟨_, exec_sth hg, storedFrom_ccStore (w := .halfS) ⟨rfl, hb, ha, hc⟩⟩
  case stw => exact fun k rd a i s p hg hb ha hc => ⟨_, exec_stw hg, storedFrom_ccStore (w := .word) ⟨rfl, hb, ha, hc⟩⟩
  case std => exact fun k rd a i s p hg hb hr ha hc => ⟨_, exec_std hg, storedFrom_ccStore (w := .dword) ⟨hr, hb, ha, hc⟩⟩
  case stbBytes =>
    exact fun k rd a i s p hg hb ha hp hc => ⟨_, exec_stb hg, bytes_of_wroteAt (wroteAt_ccStore (w := .byteS) ⟨rfl, hb, ha, hc⟩ hp)⟩
  case sthBytes =>
    exact fun k rd a i s p hg hb ha hp hc => ⟨_, exec_sth hg, bytes_of_wroteAt (wroteAt_ccStore (w := .halfS) ⟨rfl, hb, ha, hc⟩ hp)⟩
  case stwBytes =>
    exact fun k rd a i s p hg hb ha hp hc => ⟨_, exec_stw hg, bytes_of_wroteAt (wroteAt_ccStore (w := .word) ⟨rfl, hb, ha, hc⟩ hp)⟩
  case stdBytes =>
    exact fun k rd a i s p hg hb hr ha hp hc => ⟨_, exec_std hg, bytes_of_wroteAt (wroteAt_ccStore (w := .dword) ⟨hr, hb, ha, hc⟩ hp)⟩
  case stdPair => exact fun k rd a i s hg hr => ⟨_, exec_std hg, refused_ccStore_pair (w := .dword) hr⟩
  case stbBase => exact fun k rd a i s hg hb => ⟨_, exec_stb hg, refused_ccStore_base rfl hb⟩
  case stbAccess => exact fun k rd a i s x hg hb ha => ⟨_, exec_stb hg, refused_ccStore_access (w := .byteS) rfl hb ha⟩
  case sthBase => exact fun k rd a i s hg hb => ⟨_, exec_sth hg, refused_ccStore_base rfl hb⟩
  case sthAccess => exact fun k rd a i s x hg hb ha => ⟨_, exec_sth hg, refused_ccStore_access (w := .halfS) rfl hb ha⟩
  case stwBase => exact fun k rd a i s hg hb => ⟨_, exec_stw hg, refused_ccStore_base rfl hb⟩
  case stwAccess => exact fun k rd a i s x hg hb ha => ⟨_, exec_stw hg, refused_ccStore_access (w := .word) rfl hb ha⟩
  case stdBase => exact fun k rd a i s hg hr hb => ⟨_, exec_std hg, refused_ccStore_base (w := .dword) hr hb⟩
  case stdAccess => exact fun k rd a i s x hg hb hr ha => ⟨_, exec_std hg, refused_ccStore_access (w := .dword) hr hb ha⟩
  case csrDone => exact fun k rd a i s p hg hb ha hc hcc hd => ⟨_, exec_stw hg, storedFrom_ccStore_csr ⟨hb, ha, hc⟩ rfl hcc hd⟩
  case csrRefused =>
    exact fun k rd a i s p x hg hb ha hc hcc hx hd => ⟨_, exec_stw hg, refusedFrom_ccStore_csr ⟨hb, ha, hc⟩ rfl hcc hx hd⟩
  case csrReset =>
    exact fun k rd a i s p hg hb ha hc hcc => (exec_stw hg).trans (congrArg Host.Outcome.next (ccStore_csr_reset ⟨hb, ha, hc⟩ rfl hcc))

end Sys2Proof.Machine
end

section
/-! PROOFS. Right after reset: the tables of State.reset list nothing, so every read is the value that an unlisted key has. -/

namespace Sys2Proof.Machine

theorem regReset_qcfg (q : Fin 128) : regReset (fQCFG_EN q.val).reg = 0x4000000 := by revert q; decide +kernel

theorem qEn_reset (q : Fin 128) : State.reset.qEn q.val = false := by
  have hr : State.reset.reg (fQCFG_EN q.val).reg = 0x4000000 := regReset_qcfg q
  have hf : State.reset.flag (fQCFG_EN q.val) = false := by
    rw [State.flag, State.fget, hr]
    exact (by decide : (bits 0x4000000 31 1 == 1) = false)
  rw [State.qEn, hf, Bool.and_false]

/-- Settles O26: what State.reset does not list reads as its kind's reset value; ENABLE of a queue is bit 31 of QCFG's. -/
theorem resetState : Obligations.ResetState := fun q n k =>
  ⟨by decide, rfl, by decide, rfl, rfl, qEn_reset q, rfl, rfl, rfl, rfl, rfl, rfl⟩

end Sys2Proof.Machine
end

section
/-! PROOFS. Resets and boot: a memory out of its canonical form on which the statement on resets fails (R56, R57, R60), and the boot of a
SCRAP chip, which mends the recorder at step 1 before it stops at step 2 (R67, R638). The states are for the kernel alone: not compiled. -/

namespace Sys2Proof.Machine

variable {s t : State}

/-- The reset state, but memory lists a byte of the CSR region before a byte of MRAM: while the first stands, the second is not found. -/
noncomputable def unsortedMem : State := { State.reset with mem := [(csrBase, 1), (mramBase, 1)] }

/-- A POR clears the byte of the CSR region, and the one of MRAM comes to light. -/
theorem byte_por_unsortedMem : unsortedMem.byte mramBase = 0 ∧ (unsortedMem.doReset kPor 0).byte mramBase = 1 := by decide +kernel

/-- What `cameUp` says of MRAM outside the recorder. -/
theorem State.cameUp.mram {kind causes : Nat} (h : s.cameUp t kind causes) :
    ∀ x, mramBase ≤ x → x < csrBase → (x < evrAddr 0 ∨ evrAddr 8192 ≤ x) → t.byte x = s.byte x := h.2.2.2.2.2.2.2.2.2.2.2

theorem exec_por : exec .por s = .next (s.doReset kPor 0) := rfl

/-- Refutes O25: no clause has the premise that memory is in its canonical form, which `cameUp` needs. A POR of `unsortedMem` changes what
the first byte of MRAM reads as. -/
theorem not_resetsPerform : ¬ Obligations.ResetsPerform := by
  intro h
  obtain ⟨t, ht, hup, -⟩ := h.1 unsortedMem
  have hkept := hup.mram mramBase (by decide) (by decide) (by decide)
  rw [← Host.Outcome.next.inj (exec_por.symm.trans ht), byte_por_unsortedMem.1, byte_por_unsortedMem.2] at hkept
  exact absurd hkept (by decide)

/-- A chip in SCRAP at boot step 1, whose first recorder record has an odd GEN. -/
noncomputable def scrapOddRecord : State := { State.reset with csr := [(rLCSSTAT, lifeScrap)], mem := [(evrAddr 0, 1)] }

/-- What its ROM finds: every PLL locked, PFAIL_N deasserted. -/
noncomputable def scrapFacts : RomFacts := {
  pfail := false, plls := 31, timeclk := some false,
  da := { trained := true, ranks := 1, gib := 4, laneFail := 0 }, db := { trained := true, ranks := 1, gib := 2, laneFail := 0 },
  dbFence := false, torn := [] }

theorem scrapOddRecord_memOk : scrapOddRecord.memOk := by decide +kernel

/-- The record's GEN gets the next even value. -/
theorem byte_bootRom_scrapOddRecord : scrapOddRecord.byte (evrAddr 0) = 1 ∧ (scrapOddRecord.bootRom scrapFacts).byte (evrAddr 0) = 2 := by
  decide +kernel

theorem exec_bootStart_rom (f : RomFacts) : exec (.bootStart (.rom f)) s = .next (s.bootRom f) := rfl

theorem byte_of_mem_eq (h : t.mem = s.mem) (x : Nat) : t.byte x = s.byte x := by rw [State.byte, h, State.byte]

/-- Refutes O28: the clause on SCRAP says that the boot leaves memory as it was, but a recorder record with an odd GEN is mended (R638)
before the boot stops. (The clauses on watchdog resets also miss the premise of O25.) -/
theorem not_bootRolesWatchdogs : ¬ Obligations.BootRolesWatchdogs := by
  intro h
  obtain ⟨t, ht, -, -, -, -, hmem⟩ := h.1 scrapFacts scrapOddRecord (by decide +kernel) rfl rfl rfl (by decide +kernel) rfl
    (by decide +kernel) (by decide +kernel)
  have hkept := byte_of_mem_eq hmem (evrAddr 0)
  rw [← Host.Outcome.next.inj ((exec_bootStart_rom _).symm.trans ht), byte_bootRom_scrapOddRecord.1,
    byte_bootRom_scrapOddRecord.2] at hkept
  exact absurd hkept (by decide)

end Sys2Proof.Machine
end

section
/-! PROOFS. A wake from Sleep whose BOR is performed as a POR (R57, R82, R83). -/

namespace Sys2Proof.Machine

variable {s : State}

/-- A chip asleep with its wake timer at one tick and a tamper alarm pending, in BOOT as a POR leaves it: no rule leads there, but no
premise of the statement says so. -/
noncomputable def asleepInBoot : State :=
  { State.reset with csr := [(rWAKETMR, 1), (fTMPSTAT_PEND.reg, 2 ^ 16)], pwr := { asleep := true } }

theorem asleepInBoot_memOk : asleepInBoot.memOk := rfl

/-- The wake path's start: the raw count runs on by the ticks slept. -/
noncomputable def State.wakeBegun (s : State) (ticks : Nat) : State :=
  (s.setTime { s.time with raw := s.time.sleepRaw + tickRaw ticks }).setFlag fTIMSTAT_COARSE true

/-- With an alarm pending the wake path ends in a BOR, whatever the digests say. -/
theorem wakeUp_alarm {ticks : Nat} (h : (s.wakeBegun ticks).flag fTMPSTAT_PEND = true) :
    s.wakeUp ticks = (s.wakeBegun ticks).doReset kBor 0 :=
  if_pos (by rw [← State.wakeBegun, h, Bool.not_true, Bool.and_false]; rfl)

theorem wakePath_uncut (n : Nat) : s.wakePath n false = s.wakeUp n := if_neg Bool.false_ne_true

/-- A wake by the timer (R82). -/
theorem exec_wake_timer (ha : s.pwr.asleep = true) (hh : s.flag fTAPSTAT_HOLD = false) (hw : s.flag fLPCTL_WAKE_TMR = true)
    (hn : s.fget fWAKETMR_TICKS ≠ 0) : exec (.sleepWake (.timer false)) s = .next (s.wakeUp (s.fget fWAKETMR_TICKS)) := by
  have hgo : ¬ ((!s.pwr.asleep) = true ∨ s.flag fTAPSTAT_HOLD = true) := by rw [ha, hh]; decide
  have hdo : (if s.flag fLPCTL_WAKE_TMR ∧ s.fget fWAKETMR_TICKS ≠ 0 then s.wakePath (s.fget fWAKETMR_TICKS) false else s) =
      s.wakeUp (s.fget fWAKETMR_TICKS) := by rw [if_pos ⟨hw, hn⟩, wakePath_uncut]
  rw [← hdo]
  exact if_neg hgo

/-- In `asleepInBoot` the BOR that ends the wake path is performed as a POR, which clears the raw count. -/
theorem raw_bor_asleepInBoot :
    ((asleepInBoot.wakeBegun 1).doReset kBor 0).time.raw = 0 ∧ asleepInBoot.time.sleepRaw + tickRaw 1 ≠ 0 := by
  decide +kernel

/-- Refutes O29: no clause on a wake has the premise that the chip has left BOOT, and in BOOT the BOR that ends a wake path is performed as
the widest of it and the boot's own kind. In `asleepInBoot` that is a POR, which clears the raw count; it is not the raw count at the entry
and one tick of 32.768 kHz. (Like O25's, the clauses on resets and on the save of the SRAM also miss the premise that memory is in its
canonical form.) -/
theorem not_powerAndSleep : ¬ Obligations.PowerAndSleep := by
  unfold Obligations.PowerAndSleep
  rintro ⟨_, _, _, _, _, _, _, _, _, _, hWakeBor, _⟩
  have hhold : asleepInBoot.flag fTAPSTAT_HOLD = false := by decide +kernel
  have htimer : asleepInBoot.flag fLPCTL_WAKE_TMR = true := by decide +kernel
  have hticks : asleepInBoot.fget fWAKETMR_TICKS = 1 := by decide +kernel
  have halarm : (asleepInBoot.wakeBegun 1).flag fTMPSTAT_PEND = true := by decide +kernel
  have hn : asleepInBoot.fget fWAKETMR_TICKS ≠ 0 := by rw [hticks]; decide
  obtain ⟨t, ht, -, hraw⟩ := hWakeBor asleepInBoot rfl hhold htimer hn (.inr (.inr (by decide +kernel)))
  rw [← Host.Outcome.next.inj ((exec_wake_timer rfl hhold htimer hn).symm.trans ht), hticks, wakeUp_alarm halarm,
    raw_bor_asleepInBoot.1] at hraw
  exact raw_bor_asleepInBoot.2 hraw.symm

end Sys2Proof.Machine
end

section
/-! PROOFS. Ethernet: what a port does with a frame, row by row of the tables of R430, R431 and R433, and the commands of the PFX
table (R430 to R436, R495). The definitions name parts of the model's functions, for these proofs alone: not compiled. -/

namespace Sys2Proof.Machine

variable {s u : State} {f p pkt q : List Byte} {k : Fin 2} {joined : Bool} {et : Nat} {e : PfxEntry}

/-! ### The payload of a frame (R430) -/

theorem enPayload_short {k : Nat} (h : f.length < 14) : s.enPayload k f = none := if_pos h

theorem enPayload_untagged {k : Nat} (h : 14 ≤ f.length) (hv : s.fget (fENCFG_VID k) = 0) :
    s.enPayload k f = some (be f 12 2, f.drop 14) := (if_neg (Nat.not_lt.mpr h)).trans (if_pos hv)

theorem enPayload_tagged {k : Nat} (h : 18 ≤ f.length) (hv : s.fget (fENCFG_VID k) ≠ 0) (ht : be f 12 2 = 0x8100)
    (hi : be f 14 2 % 4096 = s.fget (fENCFG_VID k)) : s.enPayload k f = some (be f 16 2, f.drop 18) :=
  (if_neg (Nat.not_lt.mpr (Nat.le_trans (by decide) h))).trans ((if_neg hv).trans (if_pos ⟨ht, hi, h⟩))

theorem enPayload_wrongTag {k : Nat} (hv : s.fget (fENCFG_VID k) ≠ 0)
    (ht : be f 12 2 ≠ 0x8100 ∨ be f 14 2 % 4096 ≠ s.fget (fENCFG_VID k)) : s.enPayload k f = none := by
  have hn : ¬ (be f 12 2 = 0x8100 ∧ be f 14 2 % 4096 = s.fget (fENCFG_VID k) ∧ 18 ≤ f.length) := fun h =>
    ht.elim (· h.1) (· h.2.1)
  unfold State.enPayload
  dsimp only
  rw [if_neg hv, if_neg hn, ite_self]

/-! ### Arrival (R430) -/

/-- The firmware that port `k`'s packets go to, as the statement writes it. -/
noncomputable def State.enFirmware (s : State) (k : Nat) : Dest := if k = 1 ∧ s.flag fSYSSTAT_SEAM = true then .mgmtFw else .controlFw

theorem enFw_eq (k : Nat) : s.enFw k = s.enFirmware k := by
  simp only [State.enFw, State.enFirmware, Bool.and_eq_true, decide_eq_true_eq]

/-- What a port does with a payload of an Ethertype. -/
noncomputable def State.enTake (s : State) (k : Fin 2) (f : List Byte) (joined : Bool) (et : Nat) (p : List Byte) : Out :=
  if et = 0x88F7 then
    .next ((s.count (fENRXOK_COUNT k.val) 1).deliverTo
      { dest := s.enFw k.val, src := 0x30 + k.val, stamp := s.enStamp k.val, bytes := f })
  else if et ≠ 0x86DD ∨ p.length < 40 + be p 4 2 ∨ s.fget (fENCFG_MTU k.val) < 40 + be p 4 2 then
    .next (s.bump (fENDROP_COUNT k.val) 1)
  else if be (p.take (40 + be p 4 2)) 6 1 = 17 ∧ (be (p.take (40 + be p 4 2)) 4 2 < 8 ∨ !udpSumOk (p.take (40 + be p 4 2))) then
    .next (s.bump (fENCSUM_COUNT k.val) 1)
  else .next ((s.count (fENRXOK_COUNT k.val) 1).enDeliver k.val (p.take (40 + be p 4 2)) joined)

theorem exec_eth_portDown (hc : s.clocked = true) (hu : s.enUp k.val = false) : exec (.ethFrameReceive k f joined) s = .next s :=
  (live_of_clocked hc _).trans (if_pos (by rw [hu]; rfl))

theorem exec_eth_noPayload (hc : s.clocked = true) (hu : s.enUp k.val = true) (hp : s.enPayload k.val f = none) :
    exec (.ethFrameReceive k f joined) s = .next (s.bump (fENDROP_COUNT k.val) 1) := by
  refine (live_of_clocked hc _).trans ((if_neg (by rw [hu]; decide)).trans ?_)
  rw [hp]

theorem exec_eth (hc : s.clocked = true) (hu : s.enUp k.val = true) (hp : s.enPayload k.val f = some (et, p)) :
    exec (.ethFrameReceive k f joined) s = s.enTake k f joined et p := by
  refine (live_of_clocked hc _).trans ((if_neg (by rw [hu]; decide)).trans ?_)
  rw [hp]
  rfl

theorem enTake_dropped (ht : et ≠ 0x88F7)
    (hd : et ≠ 0x86DD ∨ p.length < 40 + be p 4 2 ∨ s.fget (fENCFG_MTU k.val) < 40 + be p 4 2) :
    s.enTake k f joined et p = .next (s.bump (fENDROP_COUNT k.val) 1) := (if_neg ht).trans (if_pos hd)

theorem enTake_time : s.enTake k f joined 0x88F7 p = .next { s.count (fENRXOK_COUNT k.val) 1 with
    delivered := { dest := s.enFirmware k.val, src := 0x30 + k.val, stamp := s.enStamp k.val, bytes := f } :: s.delivered } := by
  rw [← enFw_eq]
  exact if_pos rfl

theorem enTake_ip (hl : 40 + be p 4 2 ≤ p.length) (hm : 40 + be p 4 2 ≤ s.fget (fENCFG_MTU k.val)) :
    s.enTake k f joined 0x86DD p = if be (p.take (40 + be p 4 2)) 6 1 = 17 ∧
        (be (p.take (40 + be p 4 2)) 4 2 < 8 ∨ !udpSumOk (p.take (40 + be p 4 2))) then .next (s.bump (fENCSUM_COUNT k.val) 1)
      else .next ((s.count (fENRXOK_COUNT k.val) 1).enDeliver k.val (p.take (40 + be p 4 2)) joined) :=
  (if_neg (by decide)).trans (if_neg fun h => h.elim (absurd rfl) fun h => h.elim (Nat.not_lt.mpr hl) (Nat.not_lt.mpr hm))

theorem not_udpBad (h : be pkt 6 1 ≠ 17 ∨ (8 ≤ be pkt 4 2 ∧ udpSumOk pkt = true)) :
    ¬ (be pkt 6 1 = 17 ∧ (be pkt 4 2 < 8 ∨ (!udpSumOk pkt) = true)) := fun hbad =>
  h.elim (absurd hbad.1) fun hgood => hbad.2.elim (Nat.not_lt.mpr hgood.1) (by rw [hgood.2]; exact Bool.false_ne_true)

/-! ### A packet counted in ENRXOK is read as before -/

theorem reg_rxok {b : Nat} (h : ∀ k : Fin 2, b ≠ rENRXOK k.val) : (s.count (fENRXOK_COUNT k.val) 1).reg b = s.reg b :=
  reg_setReg_ne _ (h k)

theorem fget_rxok {g : Fld} (h : ∀ k : Fin 2, g.reg ≠ rENRXOK k.val) : (s.count (fENRXOK_COUNT k.val) 1).fget g = s.fget g :=
  fget_fset_reg _ (h k)

theorem flag_rxok {g : Fld} (h : ∀ k : Fin 2, g.reg ≠ rENRXOK k.val) : (s.count (fENRXOK_COUNT k.val) 1).flag g = s.flag g :=
  congrArg (· == 1) (fget_rxok h)

theorem rENCFG_ne : ∀ j k : Fin 2, rENCFG j.val ≠ rENRXOK k.val := by decide

theorem rENSTAT_ne : ∀ j k : Fin 2, rENSTAT j.val ≠ rENRXOK k.val := by decide

theorem rENMAC_ne : ∀ j k : Fin 2, rENMAC j.val ≠ rENRXOK k.val := by decide

theorem rENADDR_ne : ∀ (i : Fin 2) (j : Fin 4) (k : Fin 2), rENADDR i.val j.val ≠ rENRXOK k.val := by decide

/-- A register past the Ethernet ports'. -/
theorem far_ne {base n : Nat} (h : 0x320000 ≤ base) (k : Fin 2) : base + n ≠ rENRXOK k.val :=
  Nat.ne_of_gt (Nat.lt_of_lt_of_le ((by decide : ∀ k : Fin 2, rENRXOK k.val < 0x320000) k) (Nat.le_trans h (Nat.le_add_right ..)))

theorem mode_rxok : (s.count (fENRXOK_COUNT k.val) 1).mode = s.mode := fget_rxok (by decide)

theorem fenced_rxok (n : Nat) : (s.count (fENRXOK_COUNT k.val) 1).fenced n = s.fenced n := congrArg (bit · n) (reg_rxok (by decide))

theorem romPort_rxok : (s.count (fENRXOK_COUNT k.val) 1).romPort = s.romPort :=
  congrArg (fun b => if b = true then 0 else 1) (fenced_rxok 15)

theorem enUp_rxok (j : Fin 2) : (s.count (fENRXOK_COUNT k.val) 1).enUp j.val = s.enUp j.val := by
  rw [State.enUp, flag_rxok (rENCFG_ne j), flag_rxok (rENSTAT_ne j), fenced_rxok, State.enUp]

theorem enRxCorr_rxok (j : Fin 2) : (s.count (fENRXOK_COUNT k.val) 1).enRxCorr j.val = s.enRxCorr j.val := by
  rw [State.enRxCorr, fget_rxok (rENCFG_ne j), fget_rxok (rENSTAT_ne j), State.enRxCorr]

theorem chipAt_rxok (raw : Nat) : (s.count (fENRXOK_COUNT k.val) 1).chipAt raw = s.chipAt raw := by
  rw [State.chipAt, reg_rxok (by decide), count_time, State.chipAt]

theorem stampCorr_rxok (j : Nat) (c : Int) : (s.count (fENRXOK_COUNT k.val) 1).stampCorr j c false = s.stampCorr j c false :=
  congrArg (c + sx · 32) (fget_rxok (g := fTIMCORR_RX j) (far_ne (by decide)))

theorem enStamp_rxok (j : Fin 2) : (s.count (fENRXOK_COUNT k.val) 1).enStamp j.val = s.enStamp j.val := by
  rw [State.enStamp, State.stamp, enRxCorr_rxok, stampCorr_rxok, count_time, chipAt_rxok, State.enStamp, State.stamp]

theorem enFw_rxok (j : Nat) : (s.count (fENRXOK_COUNT k.val) 1).enFw j = s.enFirmware j := by
  rw [← enFw_eq, State.enFw, flag_rxok (by decide), State.enFw]

theorem enMine_iff {k : Nat} {dst : Nat} : s.enMine k dst joined = true ↔
    (dst ≠ 0 ∧ ∃ j : Fin 4, s.fget (fENADDR_ADDR k j.val) = dst) ∨ (bits dst 120 8 = 0xFF ∧ joined = true) := by
  have ha : (List.range 4).any (fun j => decide (s.fget (fENADDR_ADDR k j) = dst)) = true ↔
      ∃ j : Fin 4, s.fget (fENADDR_ADDR k j.val) = dst := by
    rw [List.any_eq_true, Fin.exists_iff]
    simp only [List.mem_range, decide_eq_true_eq, exists_prop]
  exact Bool.or_eq_true_iff.trans (or_congr (Bool.and_eq_true_iff.trans (and_congr decide_eq_true_iff ha))
    (Bool.and_eq_true_iff.trans (and_congr decide_eq_true_iff Iff.rfl)))

theorem enMine_rxok (i : Fin 2) (dst : Nat) (joined : Bool) :
    (s.count (fENRXOK_COUNT k.val) 1).enMine i.val dst joined = s.enMine i.val dst joined := by
  have ha (j : Fin 4) : (s.count (fENRXOK_COUNT k.val) 1).fget (fENADDR_ADDR i.val j.val) = s.fget (fENADDR_ADDR i.val j.val) :=
    fget_rxok (rENADDR_ne i j)
  rw [Bool.eq_iff_iff, enMine_iff, enMine_iff]
  simp only [ha]

theorem batchChip_rxok (port : Nat) : (s.count (fENRXOK_COUNT k.val) 1).batchChip port = s.batchChip port := by
  rw [State.batchChip, State.self, flag_rxok (g := fSYSSTAT_SEAM) (by decide), fget_rxok (g := fSEMCFG_SELF) (by decide),
    fget_rxok (g := fSEMCFG_NCHIPS) (by decide), fget_rxok (g := fREPCFG_PORT) (by decide)]
  rfl

/-! ### Rows of the tables (R63, R431, R433, R435) -/

/-- Something handed on with the receive timestamp of its port. -/
noncomputable def State.enGive (u : State) (k : Nat) (d : Dest) (b : List Byte) : State :=
  u.deliverTo { dest := d, src := 0x30 + k, stamp := u.enStamp k, bytes := b }

/-- A packet counted in ENRXOK and handed on with its receive timestamp. -/
noncomputable def State.enHanded (s : State) (k : Fin 2) (d : Dest) (b : List Byte) : State :=
  { s.count (fENRXOK_COUNT k.val) 1 with
    delivered := { dest := d, src := 0x30 + k.val, stamp := s.enStamp k.val, bytes := b } :: s.delivered }

theorem enGive_rxok (d : Dest) (b : List Byte) : (s.count (fENRXOK_COUNT k.val) 1).enGive k.val d b = s.enHanded k d b := by
  rw [State.enGive, enStamp_rxok]
  rfl

theorem enGive_rxok_firmware (b : List Byte) :
    (s.count (fENRXOK_COUNT k.val) 1).enGive k.val ((s.count (fENRXOK_COUNT k.val) 1).enFw k.val) b =
      s.enHanded k (s.enFirmware k.val) b := by rw [enGive_rxok, enFw_rxok]

theorem enDeliver_recovery {k : Nat} (h : u.mode = modeRecovery) : u.enDeliver k pkt joined =
    if k = u.romPort ∧ u.enMine k (be pkt 24 16) joined = true then u.enGive k .rom pkt else u :=
  (if_neg (by rw [h]; decide)).trans (if_pos h)

/-- What a UDP packet carries. -/
noncomputable def udpLoad (pkt : List Byte) : List Byte := (pkt.drop 48).take (be pkt 4 2 - 8)

/-- The rows of R431 for a UDP packet that goes neither to the relay nor to the DLMS path. -/
noncomputable def State.enSession (u : State) (k : Nat) (pkt : List Byte) (port : Nat) : State :=
  if port = u.fget fREPCFG_PORT then u.enGive k .session (udpLoad pkt)
  else match u.batchChip port with
    | some c => u.chipSend c 1 0x03 (udpLoad pkt) []
    | none => u.enGive k (u.enFw k) pkt

/-- The rows of R431 for a UDP packet, by its destination port. -/
noncomputable def State.enUdp (u : State) (k : Nat) (pkt : List Byte) (port : Nat) : State :=
  if port = u.fget fRELCFG_PORT then u.enGive k .relay (udpLoad pkt)
  else if port = u.fget fDLMCFG_PORT && u.flag fDLMCFG_EN then u.enGive k .dlms (udpLoad pkt)
  else u.enSession k pkt port

/-- The rows of R431 for a packet that is for this chip. -/
noncomputable def State.enOwn (u : State) (k : Nat) (pkt : List Byte) : State :=
  if isExtHeader (be pkt 6 1) then u.enGive k (u.enFw k) pkt
  else if be pkt 6 1 = 17 then u.enUdp k pkt (be pkt 42 2)
  else u.enGive k (u.enFw k) pkt

theorem enHand_own {k : Nat} (h : u.enMine k (be pkt 24 16) joined = true) : u.enHand k pkt joined = u.enOwn k pkt :=
  if_neg (by rw [h]; decide)

theorem enHand_other {k : Nat} (h : u.enMine k (be pkt 24 16) joined = false) : u.enHand k pkt joined = u.enForward k pkt :=
  if_pos (by rw [h]; rfl)

theorem enOwn_udp {k port : Nat} (h : be pkt 6 1 = 17) (hp : port = be pkt 42 2) : u.enOwn k pkt = u.enUdp k pkt port := by
  rw [hp]
  exact (if_neg (by rw [h]; decide)).trans (if_pos h)

theorem enOwn_notUdp {k : Nat} (hx : isExtHeader (be pkt 6 1) = false) (hn : be pkt 6 1 ≠ 17) :
    u.enOwn k pkt = u.enGive k (u.enFw k) pkt := (if_neg (by rw [hx]; decide)).trans (if_neg hn)

section
variable {port : Nat}

theorem enUdp_relay (h : port = s.fget fRELCFG_PORT) :
    (s.count (fENRXOK_COUNT k.val) 1).enUdp k.val pkt port = s.enHanded k .relay (udpLoad pkt) :=
  (if_pos (h.trans (fget_rxok (by decide)).symm)).trans (enGive_rxok ..)

theorem ne_relay_rxok (h : port ≠ s.fget fRELCFG_PORT) : port ≠ (s.count (fENRXOK_COUNT k.val) 1).fget fRELCFG_PORT := by
  rwa [fget_rxok (by decide)]

theorem enUdp_dlms (hr : port ≠ s.fget fRELCFG_PORT) (h : port = s.fget fDLMCFG_PORT) (he : s.flag fDLMCFG_EN = true) :
    (s.count (fENRXOK_COUNT k.val) 1).enUdp k.val pkt port = s.enHanded k .dlms (udpLoad pkt) :=
  (if_neg (ne_relay_rxok hr)).trans ((if_pos (by
    rw [fget_rxok (by decide), flag_rxok (by decide), he, decide_eq_true h]; rfl)).trans (enGive_rxok ..))

theorem enUdp_session (hr : port ≠ s.fget fRELCFG_PORT) (hd : port ≠ s.fget fDLMCFG_PORT ∨ s.flag fDLMCFG_EN = false) :
    (s.count (fENRXOK_COUNT k.val) 1).enUdp k.val pkt port = (s.count (fENRXOK_COUNT k.val) 1).enSession k.val pkt port :=
  (if_neg (ne_relay_rxok hr)).trans (if_neg fun h => by
    rw [fget_rxok (by decide), flag_rxok (by decide), Bool.and_eq_true, decide_eq_true_eq] at h
    exact hd.elim (absurd h.1) fun he => Bool.false_ne_true (he.symm.trans h.2))

theorem enSession_session (h : port = s.fget fREPCFG_PORT) :
    (s.count (fENRXOK_COUNT k.val) 1).enSession k.val pkt port = s.enHanded k .session (udpLoad pkt) :=
  (if_pos (h.trans (fget_rxok (by decide)).symm)).trans (enGive_rxok ..)

theorem ne_session_rxok (h : port ≠ s.fget fREPCFG_PORT) : port ≠ (s.count (fENRXOK_COUNT k.val) 1).fget fREPCFG_PORT := by
  rwa [fget_rxok (by decide)]

theorem enSession_batch {c : Nat} (h : port ≠ s.fget fREPCFG_PORT) (hb : s.batchChip port = some c) :
    (s.count (fENRXOK_COUNT k.val) 1).enSession k.val pkt port = (s.count (fENRXOK_COUNT k.val) 1).chipSend c 1 0x03 (udpLoad pkt) [] := by
  refine (if_neg (ne_session_rxok h)).trans ?_
  rw [batchChip_rxok, hb]

theorem enSession_other (h : port ≠ s.fget fREPCFG_PORT) (hb : s.batchChip port = none) :
    (s.count (fENRXOK_COUNT k.val) 1).enSession k.val pkt port = s.enHanded k (s.enFirmware k.val) pkt := by
  refine (if_neg (ne_session_rxok h)).trans ?_
  rw [batchChip_rxok, hb]
  exact enGive_rxok_firmware _

end

theorem enForward_off {k : Nat} (h : u.flag (fENCFG_FWD k) = false) : u.enForward k pkt = u.bump (fENFWDDROP_COUNT k) 1 :=
  if_pos (by rw [h]; rfl)

theorem enForward_lastHop {k : Nat} (h : u.flag (fENCFG_FWD k) = true) (hh : be pkt 7 1 ≤ 1) :
    u.enForward k pkt = u.enGive k (u.enFw k) pkt := (if_neg (by rw [h]; decide)).trans (if_pos hh)

/-- A packet with its hop limit one lower. -/
noncomputable def hopped (pkt : List Byte) : List Byte := splice pkt 7 (beBytes 1 (be pkt 7 1 - 1))

theorem enForward_on {k : Nat} (h : u.flag (fENCFG_FWD k) = true) (hh : 1 < be pkt 7 1) :
    u.enForward k pkt = u.pfxForward k none (hopped pkt) := (if_neg (by rw [h]; decide)).trans (if_neg (Nat.not_le.mpr hh))

/-- Where an entry of the PFX table sends a packet, by its DEST (R435). -/
noncomputable def State.enOnward (u : State) (k : Nat) (q : List Byte) (e : PfxEntry) : State :=
  if e.dest = 0 then
    if !u.flag (fPFXNH_V e.nh) then u.bump (fENFWDDROP_COUNT k) 1 else u.enSend (e.target % 2) (u.fget (fPFXNH_MAC e.nh)) q
  else if e.dest = 1 then u.chipSend e.target 2 0x06 q []
  else if e.dest = 2 then u.deliverTo { dest := u.enFw k, src := 0x30 + k, bytes := q }
  else u

theorem pfxForward_miss {k : Nat} (h : u.pfxFind (be q 24 16) = none) : u.pfxForward k none q = u.bump fPFXMISS_COUNT 1 := by
  rw [State.pfxForward, h]

theorem pfxForward_found {k : Nat} (h : u.pfxFind (be q 24 16) = some e) : u.pfxForward k none q = u.enOnward k q e := by
  rw [State.pfxForward, h]
  rfl

theorem enOnward_noHop {k : Nat} (hd : e.dest = 0) (hv : u.flag (fPFXNH_V e.nh) = false) :
    u.enOnward k q e = u.bump (fENFWDDROP_COUNT k) 1 := (if_pos hd).trans (if_pos (by rw [hv]; rfl))

theorem enOnward_port {k : Nat} (hd : e.dest = 0) (hv : u.flag (fPFXNH_V e.nh) = true) :
    u.enOnward k q e = u.enSend (e.target % 2) (u.fget (fPFXNH_MAC e.nh)) q := (if_pos hd).trans (if_neg (by rw [hv]; decide))

theorem enOnward_chip {k : Nat} (hd : e.dest = 1) : u.enOnward k q e = u.chipSend e.target 2 0x06 q [] := by
  rw [State.enOnward, hd]
  rfl

theorem enOnward_firmware {k : Nat} (hd : e.dest = 2) :
    u.enOnward k q e = u.deliverTo { dest := u.enFw k, src := 0x30 + k, bytes := q } := by
  rw [State.enOnward, hd]
  rfl

theorem enOnward_nowhere {k : Nat} (hd : e.dest = 3) : u.enOnward k q e = u := by
  rw [State.enOnward, hd]
  rfl

theorem enSend_stopped {k mac : Nat} (h : u.enUp k = false ∨ u.mayEmit = false) : u.enSend k mac q = u :=
  if_neg fun hgo => h.elim (fun h => Bool.false_ne_true (h.symm.trans hgo.1)) fun h => Bool.false_ne_true (h.symm.trans hgo.2)

/-- A frame with a packet that leaves a port. -/
noncomputable def State.enFrame (s : State) (j mac : Nat) (q : List Byte) : List Byte :=
  beBytes 6 mac ++ beBytes 6 (s.fget (fENMAC_MAC j)) ++
    (if s.fget (fENCFG_VID j) = 0 then [] else beBytes 2 0x8100 ++ beBytes 2 (s.fget (fENCFG_VID j))) ++ beBytes 2 0x86DD ++ q

theorem enSend_goes {k mac : Nat} (hu : u.enUp k = true) (hm : u.mayEmit = true) :
    u.enSend k mac q = (u.send (0x30 + k) (u.enFrame k mac q)).count (fENTXOK_COUNT k) 1 := if_pos ⟨hu, hm⟩

theorem enFrame_rxok (j : Fin 2) (mac : Nat) : (s.count (fENRXOK_COUNT k.val) 1).enFrame j.val mac q = s.enFrame j.val mac q := by
  rw [State.enFrame, fget_rxok (rENMAC_ne j), fget_rxok (rENCFG_ne j), State.enFrame]

/-! ### A packet that R430 accepts -/

section
variable (hc : s.clocked = true) (hu : s.enUp k.val = true) (hp : s.enPayload k.val f = some (0x86DD, p))
  (hl : 40 + be p 4 2 ≤ p.length) (hm : 40 + be p 4 2 ≤ s.fget (fENCFG_MTU k.val))
include hc hu hp hl hm

theorem exec_eth_udpBad (h17 : be (p.take (40 + be p 4 2)) 6 1 = 17)
    (hb : be (p.take (40 + be p 4 2)) 4 2 < 8 ∨ udpSumOk (p.take (40 + be p 4 2)) = false) :
    exec (.ethFrameReceive k f joined) s = .next (s.bump (fENCSUM_COUNT k.val) 1) :=
  (exec_eth hc hu hp).trans ((enTake_ip hl hm).trans (if_pos ⟨h17, hb.imp_right fun h => by rw [h]; rfl⟩))

variable (hs : be (p.take (40 + be p 4 2)) 6 1 ≠ 17 ∨
    (8 ≤ be (p.take (40 + be p 4 2)) 4 2 ∧ udpSumOk (p.take (40 + be p 4 2)) = true))
include hs

theorem exec_eth_accepted : exec (.ethFrameReceive k f joined) s =
    .next ((s.count (fENRXOK_COUNT k.val) 1).enDeliver k.val (p.take (40 + be p 4 2)) joined) :=
  (exec_eth hc hu hp).trans ((enTake_ip hl hm).trans (if_neg (not_udpBad hs)))

theorem exec_eth_boot (hb : s.mode = modeBoot) : exec (.ethFrameReceive k f joined) s = .next (s.count (fENRXOK_COUNT k.val) 1) :=
  (exec_eth_accepted hc hu hp hl hm hs).trans (congrArg Host.Outcome.next (if_pos (mode_rxok.trans hb)))

theorem exec_eth_recovery (hr : s.mode = modeRecovery) : exec (.ethFrameReceive k f joined) s = .next
    (if k.val = s.romPort ∧ s.enMine k.val (be (p.take (40 + be p 4 2)) 24 16) joined = true then
      s.enHanded k .rom (p.take (40 + be p 4 2))
    else s.count (fENRXOK_COUNT k.val) 1) :=
  (exec_eth_accepted hc hu hp hl hm hs).trans (congrArg Host.Outcome.next ((enDeliver_recovery (mode_rxok.trans hr)).trans
    (if_congr (by rw [romPort_rxok, enMine_rxok]) (enGive_rxok ..) rfl)))

variable (hb : s.mode ≠ modeBoot) (hr : s.mode ≠ modeRecovery)
include hb hr

theorem exec_eth_handed : exec (.ethFrameReceive k f joined) s =
    .next ((s.count (fENRXOK_COUNT k.val) 1).enHand k.val (p.take (40 + be p 4 2)) joined) :=
  (exec_eth_accepted hc hu hp hl hm hs).trans (congrArg Host.Outcome.next
    ((if_neg fun h => hb (mode_rxok.symm.trans h)).trans (if_neg fun h => hr (mode_rxok.symm.trans h))))

theorem exec_eth_own (ho : s.enMine k.val (be (p.take (40 + be p 4 2)) 24 16) joined = true) :
    exec (.ethFrameReceive k f joined) s = .next ((s.count (fENRXOK_COUNT k.val) 1).enOwn k.val (p.take (40 + be p 4 2))) :=
  (exec_eth_handed hc hu hp hl hm hs hb hr).trans (congrArg Host.Outcome.next (enHand_own ((enMine_rxok ..).trans ho)))

theorem exec_eth_udp {port : Nat} (ho : s.enMine k.val (be (p.take (40 + be p 4 2)) 24 16) joined = true)
    (h17 : be (p.take (40 + be p 4 2)) 6 1 = 17) (hq : port = be (p.take (40 + be p 4 2)) 42 2) :
    exec (.ethFrameReceive k f joined) s = .next ((s.count (fENRXOK_COUNT k.val) 1).enUdp k.val (p.take (40 + be p 4 2)) port) :=
  (exec_eth_own hc hu hp hl hm hs hb hr ho).trans (congrArg Host.Outcome.next (enOwn_udp h17 hq))

theorem exec_eth_session {port : Nat} (ho : s.enMine k.val (be (p.take (40 + be p 4 2)) 24 16) joined = true)
    (h17 : be (p.take (40 + be p 4 2)) 6 1 = 17) (hq : port = be (p.take (40 + be p 4 2)) 42 2) (hrel : port ≠ s.fget fRELCFG_PORT)
    (hdlm : port ≠ s.fget fDLMCFG_PORT ∨ s.flag fDLMCFG_EN = false) : exec (.ethFrameReceive k f joined) s =
      .next ((s.count (fENRXOK_COUNT k.val) 1).enSession k.val (p.take (40 + be p 4 2)) port) :=
  (exec_eth_udp hc hu hp hl hm hs hb hr ho h17 hq).trans (congrArg Host.Outcome.next (enUdp_session hrel hdlm))

theorem exec_eth_other (ho : s.enMine k.val (be (p.take (40 + be p 4 2)) 24 16) joined = false) :
    exec (.ethFrameReceive k f joined) s = .next ((s.count (fENRXOK_COUNT k.val) 1).enForward k.val (p.take (40 + be p 4 2))) :=
  (exec_eth_handed hc hu hp hl hm hs hb hr).trans (congrArg Host.Outcome.next (enHand_other ((enMine_rxok ..).trans ho)))

theorem exec_eth_hopped (ho : s.enMine k.val (be (p.take (40 + be p 4 2)) 24 16) joined = false)
    (hf : s.flag (fENCFG_FWD k.val) = true) (hh : 1 < be (p.take (40 + be p 4 2)) 7 1) (hq : q = hopped (p.take (40 + be p 4 2))) :
    exec (.ethFrameReceive k f joined) s = .next ((s.count (fENRXOK_COUNT k.val) 1).pfxForward k.val none q) := by
  rw [exec_eth_other hc hu hp hl hm hs hb hr ho, hq, enForward_on ((flag_rxok (rENCFG_ne k)).trans hf) hh]

theorem exec_eth_found (ho : s.enMine k.val (be (p.take (40 + be p 4 2)) 24 16) joined = false)
    (hf : s.flag (fENCFG_FWD k.val) = true) (hh : 1 < be (p.take (40 + be p 4 2)) 7 1) (hq : q = hopped (p.take (40 + be p 4 2)))
    (he : s.pfxFind (be q 24 16) = some e) :
    exec (.ethFrameReceive k f joined) s = .next ((s.count (fENRXOK_COUNT k.val) 1).enOnward k.val q e) :=
  (exec_eth_hopped hc hu hp hl hm hs hb hr ho hf hh hq).trans (congrArg Host.Outcome.next (pfxForward_found he))

end

theorem flag_hop_rxok (n : Nat) : (s.count (fENRXOK_COUNT k.val) 1).flag (fPFXNH_V n) = s.flag (fPFXNH_V n) :=
  flag_rxok (far_ne (by decide))

/-- A packet that an entry sends to a port, with the next hop's MAC. -/
theorem enOnward_rxok_port (hd : e.dest = 0) (hv : s.flag (fPFXNH_V e.nh) = true) :
    (s.count (fENRXOK_COUNT k.val) 1).enOnward k.val q e =
      (s.count (fENRXOK_COUNT k.val) 1).enSend (e.target % 2) (s.fget (fPFXNH_MAC e.nh)) q := by
  rw [enOnward_port hd ((flag_hop_rxok _).trans hv), fget_rxok (far_ne (by decide))]

theorem enOnward_rxok_firmware (hd : e.dest = 2) : (s.count (fENRXOK_COUNT k.val) 1).enOnward k.val q e =
    { s.count (fENRXOK_COUNT k.val) 1 with
      delivered := { dest := s.enFirmware k.val, src := 0x30 + k.val, bytes := q } :: s.delivered } := by
  rw [enOnward_firmware hd, enFw_rxok]
  rfl

theorem enSend_rxok_stopped {mac : Nat} (j : Fin 2) (h : s.enUp j.val = false ∨ s.mayEmit = false) :
    (s.count (fENRXOK_COUNT k.val) 1).enSend j.val mac q = s.count (fENRXOK_COUNT k.val) 1 :=
  enSend_stopped (h.imp_left (enUp_rxok j).trans)

theorem enSend_rxok_goes {mac : Nat} (j : Fin 2) (hu : s.enUp j.val = true) (hm : s.mayEmit = true) :
    (s.count (fENRXOK_COUNT k.val) 1).enSend j.val mac q =
      ((s.count (fENRXOK_COUNT k.val) 1).send (0x30 + j.val) (s.enFrame j.val mac q)).count (fENTXOK_COUNT j.val) 1 := by
  rw [enSend_goes ((enUp_rxok j).trans hu) hm, enFrame_rxok]

/-! ### What a lookup finds -/

/-- The last of a chain of tests, beside what already stands right of it. -/
theorem or_decide_or {x : Bool} {b r : Prop} [Decidable b] : ((x || decide b) = true ∨ r) ↔ (x = true ∨ b ∨ r) := by
  rw [Bool.or_eq_true, decide_eq_true_eq, or_assoc]

theorem isExtHeader_iff {n : Nat} : isExtHeader n = true ↔
    n = 0 ∨ n = 43 ∨ n = 44 ∨ n = 50 ∨ n = 51 ∨ n = 60 ∨ n = 135 ∨ n = 139 ∨ n = 140 := by
  rw [isExtHeader, Bool.or_eq_true, decide_eq_true_eq, or_decide_or, or_decide_or, or_decide_or, or_decide_or, or_decide_or, or_decide_or,
    or_decide_or, decide_eq_true_eq]

/-- Nothing before the first place of `a` satisfies a test that `a` satisfies and nothing of `before` does. -/
theorem not_of_mem_takeWhile_ne {α : Type} [DecidableEq α] {t : α → Bool} {before after : List α} {a : α} (ha : t a = true)
    (hf : ∀ x ∈ before, t x = false) : ∀ x ∈ (before ++ a :: after).takeWhile (fun x => x ≠ a), t x = false := by
  have hne : ∀ x ∈ before, decide (x ≠ a) = true := fun x hx => decide_eq_true fun hxa =>
    Bool.false_ne_true ((hf x hx).symm.trans (hxa ▸ ha))
  have hna : ¬ decide (a ≠ a) = true := fun hn => of_decide_eq_true hn rfl
  rwa [List.takeWhile_append_of_pos hne, List.takeWhile_cons_of_neg (p := fun x => x ≠ a) hna, List.append_nil]

/-- Nothing before the first place of what `find?` answers satisfies the test. -/
theorem find?_some_first {α : Type} [DecidableEq α] {t : α → Bool} {l : List α} {a : α} (h : l.find? t = some a) :
    ∀ x ∈ l.takeWhile (fun x => x ≠ a), t x = false := by
  obtain ⟨ht, before, after, hl, hf⟩ := List.find?_eq_some_iff_append.mp h
  exact hl ▸ not_of_mem_takeWhile_ne ht fun x hx => (Bool.not_eq_true' _).mp (hf x hx)

theorem pfxFind_some {dst : Nat} (h : s.pfxFind dst = some e) :
    e ∈ s.pfx ∧ e.key / 2 ^ (128 - e.len) = dst / 2 ^ (128 - e.len) ∧
      ∀ x ∈ s.pfx.takeWhile (fun x => x ≠ e), x.key / 2 ^ (128 - x.len) ≠ dst / 2 ^ (128 - x.len) := by
  have ht := List.find?_some h
  exact ⟨List.mem_of_find?_eq_some h, of_decide_eq_true ht, fun x hx => of_decide_eq_false (find?_some_first h x hx)⟩

theorem batchChip_some {port c : Nat} (h : s.batchChip port = some c) : s.flag fSYSSTAT_SEAM = true ∧ c ≠ s.self ∧
    c < s.fget fSEMCFG_NCHIPS ∧ (s.fget fREPCFG_PORT + 1 + c) % 65536 = port := by
  have ht := List.find?_some h
  obtain ⟨hscn, hp⟩ := Bool.and_eq_true_iff.mp ht
  obtain ⟨hsc, hn⟩ := Bool.and_eq_true_iff.mp hscn
  obtain ⟨hs, hc⟩ := Bool.and_eq_true_iff.mp hsc
  exact ⟨hs, of_decide_eq_true hc, of_decide_eq_true hn, of_decide_eq_true hp⟩

theorem enRxCorr_eq (k : Nat) : s.enRxCorr k = if s.fget (fENCFG_MODE k) = 0 then -58
    else if s.fget (fENSTAT_SPEED k) = 2 then -872 else if s.fget (fENSTAT_SPEED k) = 3 then -8072 else -152 := by
  unfold State.enRxCorr
  split
  · rfl
  · generalize s.fget (fENSTAT_SPEED k) = n
    match n with
    | 0 | 1 | 2 | 3 => rfl
    | n + 4 => rfl

/-! ### A change of a link (R433) -/

/-- The port's link and speed as a link change shows them. -/
noncomputable def State.linkSet (s : State) (k : Fin 2) (up : Bool) (speed : Fin 4) : State :=
  (s.setFlag (fENSTAT_LINK k.val) up).fset (fENSTAT_SPEED k.val) (if up then speed.val else 0)

section
variable {up : Bool} {speed : Fin 4}

theorem exec_linkChange_idle (hc : s.clocked = true) (h : s.flag (fENCFG_EN k.val) = false ∨ s.fenced (14 + k.val) = true) :
    exec (.ethernetLinkChange k up speed) s = .next s :=
  (live_of_clocked hc _).trans (if_pos (h.imp_left fun h => by rw [h]; rfl))

theorem exec_linkChange (hc : s.clocked = true) (he : s.flag (fENCFG_EN k.val) = true) (hf : s.fenced (14 + k.val) = false) :
    exec (.ethernetLinkChange k up speed) s = .next (s.linkSet k up speed).sesMove :=
  (live_of_clocked hc _).trans (if_neg (by rw [he, hf]; decide))

theorem flag_linkSet : (s.linkSet k up speed).flag (fENSTAT_LINK k.val) = up := by
  rw [State.linkSet, State.flag, fget_fset_apart (f := fENSTAT_SPEED k.val) (g := fENSTAT_LINK k.val) _ rfl (.inl (Nat.le_refl 1)),
    ← State.flag]
  exact flag_setFlag_same up rfl

theorem fget_linkSet : (s.linkSet k up speed).fget (fENSTAT_SPEED k.val) = if up then speed.val else 0 := by
  rw [State.linkSet, fget_fset_same]
  refine Nat.mod_eq_of_lt (show _ < 4 from ?_)
  split
  · exact speed.isLt
  · decide

theorem rREPDPORT_ne (k : Fin 2) : rREPDPORT ≠ rENSTAT k.val := by revert k; decide

theorem altPort_linkSet : (s.linkSet k up speed).flag fREPDPORT_ALTPORT = s.flag fREPDPORT_ALTPORT :=
  congrArg (· == 1) ((fget_fset_reg _ (rREPDPORT_ne k)).trans (fget_fset_reg _ (rREPDPORT_ne k)))

end

/-- Moving the sessions changes the port that they use and nothing else. -/
theorem sesMove_eq (u : State) : u.sesMove = u.setSes { u.ses with port := (if u.flag fREPDPORT_ALTPORT = true ∧
    u.enUp u.ses.port = false ∧ u.enUp (1 - u.ses.port) = true then 1 - u.ses.port else u.ses.port) } := by
  unfold State.sesMove
  simp only [Bool.not_eq_true']
  split <;> rfl

theorem sesMove_linkSet {up : Bool} {speed : Fin 4} : (s.linkSet k up speed).sesMove = (s.linkSet k up speed).setSes { s.ses with
    port := if s.flag fREPDPORT_ALTPORT = true ∧ (s.linkSet k up speed).enUp s.ses.port = false ∧
      (s.linkSet k up speed).enUp (1 - s.ses.port) = true then 1 - s.ses.port else s.ses.port } := by
  rw [sesMove_eq, altPort_linkSet]
  rfl

/-! ### The commands of the PFX table (R434, R436) -/

theorem pfxInsert_eq (e : PfxEntry) (l : List PfxEntry) :
    pfxInsert e l = l.takeWhile (fun x => e.len ≤ x.len) ++ e :: l.dropWhile (fun x => e.len ≤ x.len) := by
  induction l with
  | nil => rfl
  | cons x l ih =>
    by_cases h : e.len ≤ x.len
    · rw [List.takeWhile_cons_of_pos (p := fun x : PfxEntry => e.len ≤ x.len) (decide_eq_true h),
        List.dropWhile_cons_of_pos (p := fun x : PfxEntry => e.len ≤ x.len) (decide_eq_true h)]
      exact (if_pos h).trans (congrArg (x :: ·) ih)
    · rw [List.takeWhile_cons_of_neg (p := fun x : PfxEntry => e.len ≤ x.len) fun hd => h (of_decide_eq_true hd),
        List.dropWhile_cons_of_neg (p := fun x : PfxEntry => e.len ≤ x.len) fun hd => h (of_decide_eq_true hd)]
      exact if_neg h

/-- The entry that PFXKEY and PFXDATA hold. -/
noncomputable def State.pfxNew (s : State) : PfxEntry :=
  ⟨s.fget fPFXKEY_KEY, s.fget fPFXDATA_LEN, s.fget fPFXDATA_DEST, s.fget fPFXDATA_TARGET, s.fget fPFXDATA_NH⟩

/-- An entry has the key and the length that PFXKEY and PFXDATA hold. -/
noncomputable def State.pfxSame (s : State) (x : PfxEntry) : Bool := x.key = s.fget fPFXKEY_KEY && x.len = s.fget fPFXDATA_LEN

theorem pfxEnd_setPfx_map {g : PfxEntry → PfxEntry} {st : Status} : (s.setPfx (s.pfx.map g)).pfxEnd st =
    (((s.setPfx (s.pfx.map g)).fset fPFXSTAT_STATUS st.code).fset fPFXCOUNT_COUNT s.pfx.length).say .done :=
  congrArg (fun n => (((s.setPfx (s.pfx.map g)).fset fPFXSTAT_STATUS st.code).fset fPFXCOUNT_COUNT n).say .done) (List.length_map g)

section
variable {a : Agent} (h : s.writes a rPFXCMD = true)
include h

theorem exec_pfxInsert : exec (.pfxInsert a) s = .next
    (if s.pfx.any s.pfxSame then (s.setPfx (s.pfx.map fun x => if s.pfxSame x then s.pfxNew else x)).pfxEnd .done
    else if 4096 ≤ s.pfx.length then s.pfxEnd .tableFull
    else (s.setPfx (pfxInsert s.pfxNew s.pfx)).pfxEnd .done) :=
  (live_of_clocked (writes_split h).1 _).trans (congrArg Host.Outcome.next (asAgent_may (writes_split h).2 _))

theorem exec_pfxDelete : exec (.pfxDelete a) s = .next
    (if s.pfx.any s.pfxSame then (s.setPfx (s.pfx.filter fun x => !s.pfxSame x)).pfxEnd .done else s.pfxEnd .badArgument) :=
  (live_of_clocked (writes_split h).1 _).trans (congrArg Host.Outcome.next (asAgent_may (writes_split h).2 _))

theorem exec_pfxInsert_replaces (hs : s.pfx.any s.pfxSame = true) :
    exec (.pfxInsert a) s = .next ((s.setPfx (s.pfx.map fun x => if s.pfxSame x then s.pfxNew else x)).pfxEnd .done) :=
  (exec_pfxInsert h).trans (congrArg Host.Outcome.next (if_pos hs))

/-- A write of PFXCMD with a new key and length. -/
theorem exec_pfxInsert_new (hs : s.pfx.any s.pfxSame = false) : exec (.pfxInsert a) s = .next
    (if 4096 ≤ s.pfx.length then s.pfxEnd .tableFull else (s.setPfx (pfxInsert s.pfxNew s.pfx)).pfxEnd .done) :=
  (exec_pfxInsert h).trans (congrArg Host.Outcome.next (if_neg (by rw [hs]; decide)))

theorem exec_pfxDelete_found (hs : s.pfx.any s.pfxSame = true) :
    exec (.pfxDelete a) s = .next ((s.setPfx (s.pfx.filter fun x => !s.pfxSame x)).pfxEnd .done) :=
  (exec_pfxDelete h).trans (congrArg Host.Outcome.next (if_pos hs))

theorem exec_pfxDelete_missing (hs : s.pfx.any s.pfxSame = false) : exec (.pfxDelete a) s = .next (s.pfxEnd .badArgument) :=
  (exec_pfxDelete h).trans (congrArg Host.Outcome.next (if_neg (by rw [hs]; decide)))

end

/-! ### The statement -/

/-- Settles O48: a frame is followed from its arrival (`exec_eth_…`) to the row that takes it (`enOwn_…`, `enUdp_…`, `enForward_…`,
`enOnward_…`); what the count in ENRXOK leaves alone is what those rows read (`…_rxok`). -/
theorem ethernetAndPrefixes : Obligations.EthernetAndPrefixes := by
  refine ⟨?portDown, ?noPayload, ?otherType, ?payload, ?time, ?unfit, ?udpBad, ?boot, ?recovery, ?mine, ?fwdOff, ?lastHop, ?miss, ?noHop,
    ?stopped, ?sends, ?chip, ?firmware, ?nowhere, ?find, ?extHeader, ?extHeaders, ?notUdp, ?relay, ?dlms, ?session, ?batch, ?otherUdp,
    ?batchChip, ?stamp, ?linkIdle, ?link, ?insert, ?replace, ?full, ?delete, ?missing⟩
  case portDown => exact fun k f joined s hc hu => exec_eth_portDown hc hu
  case noPayload => exact fun k f joined s hc hu hp => exec_eth_noPayload hc hu hp
  case otherType =>
    exact fun k f joined s et p hc hu hp hip ht => (exec_eth hc hu hp).trans (enTake_dropped ht (.inl hip))
  case payload => exact fun k f s => ⟨enPayload_short, enPayload_untagged, enPayload_tagged, enPayload_wrongTag⟩
  case time => exact fun k f joined s p hc hu hp => (exec_eth hc hu hp).trans enTake_time
  case unfit =>
    exact fun k f p joined s hc hu hp hn => (exec_eth hc hu hp).trans (enTake_dropped (by decide) (.inr hn))
  case udpBad => exact fun k f p joined s hc hu hp hl hm h17 hb => exec_eth_udpBad hc hu hp hl hm h17 hb
  case boot => exact fun k f p joined s hc hu hp hl hm hs hb => exec_eth_boot hc hu hp hl hm hs hb
  case recovery => exact fun k f p joined s hc hu hp hl hm hs hr => exec_eth_recovery hc hu hp hl hm hs hr
  case mine => exact fun k dst joined s => enMine_iff
  case fwdOff =>
    exact fun k f p joined s hc hu hp hl hm hs hb hr ho hf => (exec_eth_other hc hu hp hl hm hs hb hr ho).trans
      (congrArg Host.Outcome.next (enForward_off ((flag_rxok (rENCFG_ne k)).trans hf)))
  case lastHop =>
    exact fun k f p joined s hc hu hp hl hm hs hb hr ho hf hh => (exec_eth_other hc hu hp hl hm hs hb hr ho).trans
      (congrArg Host.Outcome.next ((enForward_lastHop ((flag_rxok (rENCFG_ne k)).trans hf) hh).trans (enGive_rxok_firmware _)))
  case miss =>
    exact fun k f p joined s q hc hu hp hl hm hs hb hr ho hf hh hq he => (exec_eth_hopped hc hu hp hl hm hs hb hr ho hf hh hq).trans
      (congrArg Host.Outcome.next (pfxForward_miss he))
  case noHop =>
    exact fun k f p joined s q e hc hu hp hl hm hs hb hr ho hf hh hq he hd hv =>
      (exec_eth_found hc hu hp hl hm hs hb hr ho hf hh hq he).trans
        (congrArg Host.Outcome.next (enOnward_noHop hd ((flag_hop_rxok _).trans hv)))
  case stopped =>
    exact fun k f p joined s q e hc hu hp hl hm hs hb hr ho hf hh hq he hd hv hn =>
      (exec_eth_found hc hu hp hl hm hs hb hr ho hf hh hq he).trans (congrArg Host.Outcome.next
        ((enOnward_rxok_port hd hv).trans (enSend_rxok_stopped ⟨e.target % 2, Nat.mod_lt _ (by decide)⟩ hn)))
  case sends =>
    exact fun k f p joined s q e hc hu hp hl hm hs hb hr ho hf hh hq he hd hv hup hem =>
      (exec_eth_found hc hu hp hl hm hs hb hr ho hf hh hq he).trans (congrArg Host.Outcome.next
        ((enOnward_rxok_port hd hv).trans (enSend_rxok_goes ⟨e.target % 2, Nat.mod_lt _ (by decide)⟩ hup hem)))
  case chip =>
    exact fun k f p joined s q e hc hu hp hl hm hs hb hr ho hf hh hq he hd =>
      (exec_eth_found hc hu hp hl hm hs hb hr ho hf hh hq he).trans (congrArg Host.Outcome.next (enOnward_chip hd))
  case firmware =>
    exact fun k f p joined s q e hc hu hp hl hm hs hb hr ho hf hh hq he hd =>
      (exec_eth_found hc hu hp hl hm hs hb hr ho hf hh hq he).trans (congrArg Host.Outcome.next (enOnward_rxok_firmware hd))
  case nowhere =>
    exact fun k f p joined s q e hc hu hp hl hm hs hb hr ho hf hh hq he hd =>
      (exec_eth_found hc hu hp hl hm hs hb hr ho hf hh hq he).trans (congrArg Host.Outcome.next (enOnward_nowhere hd))
  case find => exact fun s dst e h => pfxFind_some h
  case extHeader =>
    exact fun k f p joined s hc hu hp hl hm hs hb hr ho hx => (exec_eth_own hc hu hp hl hm hs hb hr ho).trans
      (congrArg Host.Outcome.next ((if_pos hx).trans (enGive_rxok_firmware _)))
  case extHeaders => exact fun n => isExtHeader_iff
  case notUdp =>
    exact fun k f p joined s hc hu hp hl hm hs hb hr ho hx hn => (exec_eth_own hc hu hp hl hm hs hb hr ho).trans
      (congrArg Host.Outcome.next ((enOwn_notUdp hx hn).trans (enGive_rxok_firmware _)))
  case relay =>
    exact fun k f p joined s port hc hu hp hl hm hs hb hr ho h17 hq hrel => (exec_eth_udp hc hu hp hl hm hs hb hr ho h17 hq).trans
      (congrArg Host.Outcome.next (enUdp_relay hrel))
  case dlms =>
    exact fun k f p joined s port hc hu hp hl hm hs hb hr ho h17 hq hrel hdlm hen =>
      (exec_eth_udp hc hu hp hl hm hs hb hr ho h17 hq).trans (congrArg Host.Outcome.next (enUdp_dlms hrel hdlm hen))
  case session =>
    exact fun k f p joined s port hc hu hp hl hm hs hb hr ho h17 hq hrel hdlm hrep =>
      (exec_eth_session hc hu hp hl hm hs hb hr ho h17 hq hrel hdlm).trans (congrArg Host.Outcome.next (enSession_session hrep))
  case batch =>
    exact fun k f p joined s port c hc hu hp hl hm hs hb hr ho h17 hq hrel hdlm hrep hbat =>
      (exec_eth_session hc hu hp hl hm hs hb hr ho h17 hq hrel hdlm).trans (congrArg Host.Outcome.next (enSession_batch hrep hbat))
  case otherUdp =>
    exact fun k f p joined s port hc hu hp hl hm hs hb hr ho h17 hq hrel hdlm hrep hbat =>
      (exec_eth_session hc hu hp hl hm hs hb hr ho h17 hq hrel hdlm).trans (congrArg Host.Outcome.next (enSession_other hrep hbat))
  case batchChip => exact fun s port c h => batchChip_some h
  case stamp => exact fun k s => congrArg (s.stamp k.val s.time.raw · false) (enRxCorr_eq k.val)
  case linkIdle => exact fun k up speed s hc h => exec_linkChange_idle hc h
  case link =>
    exact fun k up speed s u hc he hf hu => ⟨_, (exec_linkChange hc he hf).trans (congrArg Host.Outcome.next sesMove_linkSet),
      flag_linkSet, fget_linkSet, hu ▸ rfl⟩
  case insert =>
    exact fun a s l h hs hl hq => (exec_pfxInsert_new h hs).trans (congrArg Host.Outcome.next ((if_neg (Nat.not_le.mpr hl)).trans
      (congrArg (fun l => (s.setPfx l).pfxEnd .done) ((pfxInsert_eq _ _).trans hq.symm))))
  case replace => exact fun a s h hs => (exec_pfxInsert_replaces h hs).trans (congrArg Host.Outcome.next pfxEnd_setPfx_map)
  case full => exact fun a s h hs hl => (exec_pfxInsert_new h hs).trans (congrArg Host.Outcome.next (if_pos hl))
  case delete => exact fun a s h hs => exec_pfxDelete_found h hs
  case missing => exact fun a s h hs => exec_pfxDelete_missing h hs

end Sys2Proof.Machine
end

section
/-! PROOFS. The rows of the opcode tables that end in one register or at an address (R94, R98, R110, R111, R151). -/

namespace Sys2Proof.Machine

variable {s : State} {c : CoreId} {f : Cpu → Cpu} {pc : Word} {bad : Bool}

/-- Where the core executes, its instruction completes and leaves `P`. -/
noncomputable def State.ends (s : State) (c : CoreId) (f : State → State) (P : State → Prop) : Prop :=
  s.goes c 1 = true → ∃ t, s.issue c f = .next t ∧ P t

theorem ends_of {P : State → Prop} {f : State → State} (hP : P (f (s.begun c 1))) : s.ends c f P :=
  fun h => ⟨_, issue_goes h f, hP⟩

/-- Settles O1: a row is `alu`, `imm` or `wrote_value` at the function of its table. -/
theorem registerArithmetic : Obligations.RegisterArithmetic := by
  have alu (f : Word → Word → Word) (c : CoreId) (rd a b : RegNo) (s : State) :
      s.ends c (fun t => t.onCpu c fun u => u.alu rd a b f)
        (s.wrote c rd ⟨f (s.gv c a) (s.gv c b), s.gp c a || s.gp c b⟩ (s.gp c a || s.gp c b)) :=
    ends_of (wrote_alu c rd a b f)
  have imm {α : Type} (f : α → Word → Word) (c : CoreId) (rd a : RegNo) (i : α) (s : State) :
      s.ends c (fun t => t.onCpu c fun u => u.aluImm rd a (f i)) (s.wrote c rd ⟨f i (s.gv c a), s.gp c a⟩ (s.gp c a)) :=
    ends_of (wrote_aluImm c rd a (f i))
  refine ⟨?add, ?sub, ?and, ?or, ?xor, ?sll, ?srl, ?sra, ?slt, ?sltu, ?mul, ?mulhu, ?mulhs, ?min, ?max, ?minu, ?maxu, ?addi, ?andi, ?ori,
    ?xori, ?slti, ?sltiu, ?slli, ?srli, ?srai, ?movh, ?pcadr, ?getfl⟩
  case add => exact alu fun a b => a + b
  case sub => exact alu fun a b => a - b
  case and => exact alu fun a b => a &&& b
  case or => exact alu fun a b => a ||| b
  case xor => exact alu fun a b => a ^^^ b
  case sll => exact alu fun a b => a <<< shamt b
  case srl => exact alu fun a b => a >>> shamt b
  case sra => exact alu fun a b => a.sshiftRight (shamt b)
  case slt => exact alu slt
  case sltu => exact alu sltu
  case mul => exact alu fun a b => a * b
  case mulhu => exact alu mulhu
  case mulhs => exact alu mulhs
  case min => exact alu minS
  case max => exact alu maxS
  case minu => exact alu minU
  case maxu => exact alu maxU
  case addi => exact imm fun (i : BitVec 12) x => x + i.signExtend 32
  case andi => exact imm fun (i : BitVec 12) x => x &&& i.zeroExtend 32
  case ori => exact imm fun (i : BitVec 12) x => x ||| i.zeroExtend 32
  case xori => exact imm fun (i : BitVec 12) x => x ^^^ i.zeroExtend 32
  case slti => exact imm fun (i : BitVec 12) x => slt x (i.signExtend 32)
  case sltiu => exact imm fun (i : BitVec 12) x => sltu x (i.zeroExtend 32)
  case slli => exact imm fun (i : BitVec 5) x => x <<< i.toNat
  case srli => exact imm fun (i : BitVec 5) x => x >>> i.toNat
  case srai => exact imm fun (i : BitVec 5) x => x.sshiftRight i.toNat
  case movh => exact fun c rd i s => ends_of (wrote_value c rd (Function.const _ ⟨BitVec.ofNat 32 (i.toNat * 2 ^ 12), false⟩))
  case pcadr => exact fun c rd i s => ends_of (wrote_value c rd fun u => ⟨u.rel i.toInt, false⟩)
  case getfl => exact fun c rd s => ends_of (wrote_value c rd fun u => ⟨u.fl, false⟩)

theorem ends_onCpu {P : Cpu → Prop} (hP : P (f (s.cpu c))) :
    s.ends c (fun t => t.onCpu c f) fun t => s.coreOnly c 1 t ∧ P (t.cpu c) :=
  ends_of ⟨coreOnly_onCpu c 1 f, (onCpu_cpu c 1 f).symm.subst hP⟩

theorem ends_jumped (hg : ∀ r, (f (s.cpu c)).g r = (s.cpu c).g r) (hpc : (f (s.cpu c)).pc = pc)
    (hfl : (f (s.cpu c)).fl = (s.cpu c).psAfter bad) : s.ends c (fun t => t.onCpu c f) (s.jumped c pc bad) :=
  ends_onCpu (P := fun u => (∀ r, u.g r = (s.cpu c).g r) ∧ u.pc = pc ∧ u.fl = (s.cpu c).psAfter bad) ⟨hg, hpc, hfl⟩

/-- Settles O3: a branch is `cmp` or `flag` at the condition of its table. -/
theorem branchesFollow : Obligations.BranchesFollow := by
  have cmp (R : Word → Word → Prop) [d : DecidableRel R] (c : CoreId) (a b : RegNo) (off : BitVec 12) (s : State) :
      s.ends c (fun t => t.onCpu c fun u => u.branch2 a b off fun x y => decide (R x y))
        (s.jumped c (if R (s.gv c a) (s.gv c b) then (s.cpu c).rel off.toInt else (s.cpu c).pc + 4) (s.gp c a || s.gp c b)) :=
    ends_jumped (ps_g (s.gp c a || s.gp c b)) (if_congr (x := (s.cpu c).rel off.toInt) (y := (s.cpu c).pc + 4)
      (decide_eq_true_iff (p := R (s.gv c a) (s.gv c b))) rfl rfl :) (ps_fl (s.gp c a || s.gp c b))
  have flag {f : Bool → Bool} {b : Bool} (hb : ∀ x, f x = true ↔ x = b) (i : Nat) (c : CoreId) (off : BitVec 12) (s : State) :
      s.ends c (fun t => t.onCpu c fun u => u.branch (f (u.flag i)) false off)
        (s.jumped c (if (s.cpu c).flag i = b then (s.cpu c).rel off.toInt else (s.cpu c).pc + 4) false) :=
    ends_jumped (ps_g (u := s.cpu c) false) (if_congr (hb ((s.cpu c).flag i)) rfl rfl) (ps_fl (u := s.cpu c) false)
  refine ⟨?beq, ?bne, ?blt, ?bge, ?bltu, ?bgeu, ?bfs, ?bfc, ?bws, ?bcs, ?bcc, ?bzs, ?bvs, ?bps, ?jmp, ?call⟩
  case beq => exact cmp fun x y => x = y
  case bne => exact cmp fun x y => x ≠ y
  case blt => exact cmp fun x y => x.toInt < y.toInt
  case bge => exact cmp fun x y => y.toInt ≤ x.toInt
  case bltu => exact cmp fun x y => x.toNat < y.toNat
  case bgeu => exact cmp fun x y => y.toNat ≤ x.toNat
  case bfs => exact flag (f := fun x => x) (fun x => Iff.rfl) flF
  case bfc => exact flag (f := Bool.not) (fun x => iff_of_eq (Bool.not_eq_true' x)) flF
  case bws => exact flag (f := fun x => x) (fun x => Iff.rfl) flW
  case bcs => exact flag (f := fun x => x) (fun x => Iff.rfl) flC
  case bcc => exact flag (f := Bool.not) (fun x => iff_of_eq (Bool.not_eq_true' x)) flC
  case bzs => exact flag (f := fun x => x) (fun x => Iff.rfl) flZ
  case bvs => exact flag (f := fun x => x) (fun x => Iff.rfl) flV
  case bps => exact flag (f := fun x => x) (fun x => Iff.rfl) flPS
  case jmp => exact fun c i s => ends_jumped (fun r => Eq.refl ((s.cpu c).g r)) (Eq.refl ((s.cpu c).rel i.toInt)) (Eq.refl (s.cpu c).fl)
  case call =>
    exact fun c i s => ends_onCpu (P := fun u => u.g 31 = ⟨(s.cpu c).pc + 4, false⟩ ∧ (s.cpu c).others u 31 ∧
      u.pc = (s.cpu c).rel i.toInt ∧ u.fl = (s.cpu c).fl)
        ⟨Cpu.g_setG_same _ _ (Nat.succ_ne_zero 30), fun r => Cpu.g_setG_ne _ _, rfl, setG_fl ..⟩

end Sys2Proof.Machine
end
